-- ==== Sys2Proof/Word.lean ====
section
/-!
DEFINITION. The words of the parameter map (R20), bytes, and the plainest arithmetic on them.
-/

namespace Sys2Proof

/-- A parameter word: 32 bits (R20). -/
abbrev Word := BitVec 32

/-- A byte of a payload or of a memory. -/
abbrev Byte := BitVec 8

end Sys2Proof
end

