-- ==== Sys2Proof/Syntax.lean ====
section
/-!
DEFINITION. The commands and events of the block: the names of its units and one constructor of `Instr` for each row of
spec/opcode_table.json. The table gives no operands; the operands here are what the step takes from outside: the instance it
acts on, the fields of a request or frame, and the measured quantities or observations that the environment supplies
(log entry 7).
-/

namespace Sys2Proof

/-- The seven power stages in the order of Table 1-2. -/
inductive Stage where
  | T1 | T2 | L | P | D | X1 | X2
  deriving DecidableEq, Repr

/-- Who sends a request (R684): a fabric node address, a source MAC address where SRC is 0x3FE, a CAN channel with the key of
the request frame, or J1. -/
inductive Requester where
  | fab (src : Nat)
  | mac (addr : Nat)
  | can (ch : Nat) (key : Nat)
  | j1
  deriving DecidableEq, Repr

/-- What the rebuild finds of a copy of the log's management area (R582): whether its CRC-32 is correct, and whether it holds what a clear that
a loss of power interrupted was writing (R584 step 3, R585). -/
structure MgmtCopy where
  good    : Bool
  cleared : Bool := false
  deriving DecidableEq, Repr

/-- The authority block of R696. -/
structure AuthBlock where
  challenge : BitVec 128
  signature : List Byte
  deriving DecidableEq, Repr

/-- The envelope of a request of the service layer (Table 18-7): requester, TRANS_ID, authority block, and for a CAN request whether
its frame had BRS (R700). -/
structure Req where
  who   : Requester
  trans : Nat
  auth  : Option AuthBlock
  brs   : Bool := false
  deriving DecidableEq, Repr

/-- One entry of a WRITE (Table 20-3). -/
structure WEntry where
  index : Nat
  sub   : Nat
  value : Word
  deriving DecidableEq, Repr

/-- One raw result of a slice of a fast converter core, in result steps, before the correction chain of R137. -/
structure Conv where
  core : Fin 4
  raw  : Int
  deriving DecidableEq, Repr

/-- One read of a board sensor over the two-wire bus (Table 5-1): no answer, an answer with a CRC error, or its value in 1/16 degC. -/
inductive BoardRead where
  | silent | crcError
  | value (x : Int)
  deriving DecidableEq, Repr

/-- A change of the levels that the two wires of a pair (0 A, 1 B, 2 Z, 3 CK) of a feedback channel show, above (true) or below the
receiver's mid-point, at an instant (R201, R202). -/
structure PinChange where
  pair : Fin 4
  pos  : Bool
  neg  : Bool
  t    : Nat
  deriving DecidableEq, Repr

/-- The source of a leg trip (R322): a detector turn-off of a channel, the leg comparator, the stage regulator. -/
inductive TripSrc where
  | desat | cmp | reg
  deriving DecidableEq, Repr

/-- What a status frame of a channel holds (R364): the gate state, the rail flags (below the UVLO threshold), the detector states (its desaturation
or V_DS detector, its hard-short detector has turned it off), the positive rail (gate or pump rail) and the negative rail in 10 mV, for the
high side of a leg its temperature in 0.1 degC, and whether the driver has a valid command path (R365). -/
structure ChFrame where
  gate    : Bool
  uvloPos : Bool := false
  uvloNeg : Bool := false
  desat   : Bool := false
  short   : Bool := false
  vpos    : Nat
  vneg    : Int
  temp    : Option Int := none
  cmdOk   : Bool
  deriving DecidableEq, Repr

/-- What the module sees where a status frame of a channel is due (R366): none, one that fails its CRC-8, or its content. -/
inductive FrameSeen where
  | missing | badCrc
  | good (f : ChFrame)
  deriving DecidableEq, Repr

/-- The gate state that a channel reports (R362), and with off the gate voltage above VNEG in mV (R367). -/
inductive GateSeen where
  | on
  | off (mv : Nat)
  deriving DecidableEq, Repr

/-- The loss of a channel's command path (R365), and the instant from which the path is valid again, none while that is not known. -/
structure PathLost where
  ch   : Fin 64
  back : Option Nat
  deriving DecidableEq, Repr

/-- What the start finds of a channel (R359): whether its rails stood above their release thresholds within 16 ms, whether its link answered,
and after how many PULSE cycles the read-back followed the on edge and the off edge of the test pulse (none: not within it). -/
structure ChTest where
  ch    : Fin 64
  rails : Bool
  link  : Bool
  on    : Option Nat
  off   : Option Nat
  deriving DecidableEq, Repr

/-- What a read of SRAM finds in a word at an address (R131, R132). -/
inductive Ecc where
  | ok
  | single (addr : Nat)
  | double (addr : Nat)
  deriving DecidableEq, Repr

/-- A transaction that waits at the head of a requester's queue (R123 to R127): class of its source, requester number within the
class, its beats less one, whether it writes and whether it goes to MRAM, the CORE cycles it has waited, and what a read of SRAM
finds. -/
structure BusReq where
  cls   : Fin 7
  who   : Nat
  more  : Fin 8 := 0
  write : Bool
  mram  : Bool
  waited : Nat
  ecc   : Ecc
  deriving DecidableEq, Repr

/-- What the block of the SRAM scrubber meets that falls due (R130): what its read finds, and the transactions that wait at the heads of the
other requesters' queues. -/
structure ScrubBlock where
  ecc     : Ecc
  waiting : List BusReq := []
  deriving DecidableEq, Repr

/-- A burst of a fast core that has been written: the core, its raw results since its last event, and the instant at which the burst was
requested (R166, R169). -/
structure DmaBurst where
  core : Fin 4
  conv : List Int := []
  t    : Nat := 0
  deriving DecidableEq, Repr

/-- The switch of a released brake that a check opens (R507): none is open when only the current is observed. -/
inductive BrakeSwitch where
  | none | high | low
  deriving DecidableEq, Repr

/-- What pair S observes at a released brake (R507, R508): the switch it has opened, the node behind it and VAUX in mV, the coil current in
mA, and whether the current limiter acts. -/
structure BrakeObs where
  switch   : BrakeSwitch
  node     : Nat
  vaux     : Nat
  current  : Nat
  limiting : Bool
  deriving DecidableEq, Repr

/-- What pair S observes at an applied brake (R507): how far, in mV, each node lies from the level that it takes with both switches open. -/
structure BrakeRest where
  high : Nat
  low  : Nat
  deriving DecidableEq, Repr

/-- What the comparator of a pair captures at a mismatch (R543 step 2, Table 15-4): the signatures of the main core and of the
checker, the window number, the lanes that differ, and the program counter of the main core. -/
structure Mismatch where
  main    : Nat
  checker : Nat
  window  : Nat
  lanes   : Nat
  pc      : Nat
  deriving DecidableEq, Repr

/-- The commands of Table 20-6 with their TARGET and ARGS. The stages that an ARM, RUN or STOP finds taken by a higher-ranked event of
the same LOOP cycle (R50) stand beside its mask. -/
inductive Cmd where
  | summary
  | arm (mask : Nat) (higher : List Stage)
  | run (mask : Nat) (higher : List Stage)
  | stop (mask : Nat) (higher : List Stage)
  | openLoop (slot : Nat)
  | closeLoop (slot : Nat)
  | switchBack
  | logRead (start count : Nat)
  | clearLog
  | busRecover (channel : Nat)
  | chargeStart
  | chargeStop
  | thermalRelease
  | brakeTest (brake : Nat)
  | splitV
  | joinV
  | restart
  | serviceEnter (debug : Bool)
  | serviceExit
  | keyWrite (generation crc : Nat)
  deriving DecidableEq, Repr

/-- One request of the service layer (Table 20-1). A WRITE names beside its entries the stages that leave STOPPED and the slots that
change to AUTO in the LOOP cycle in which it is applied (R24). `malformed` is a payload that Tables 20-2 to 20-6 do not allow and
`unknown` a SERVICE code outside Table 20-1. -/
inductive Svc where
  | read (entries : List (Nat × Nat))
  | write (entries : List WEntry) (leaving : List Stage) (closing : List Nat)
  | command (c : Cmd)
  | challenge
  | malformed (service : Nat)
  | unknown (service : Nat)
  deriving DecidableEq, Repr

/-- A fabric frame as a port receives it (R591, R592): what stands in the place of the EtherType (of a tagged frame, the tag's), bits 39:0
of its source MAC address, the header fields of Table 17-1, whether its zero fields are zero, whether HCRC and FCS pass, and its body. -/
structure Frame where
  ether   : Nat
  mac     : Nat
  version : Nat
  kind    : Nat
  flags   : Nat
  dst     : Nat
  src     : Nat
  length  : Nat
  seq     : Nat
  hops    : Nat
  zeros   : Bool
  hcrc    : Bool
  fcs     : Bool
  body    : List Byte
  deriving DecidableEq, Repr

/-- A CAN frame: its key (R657), DLC code, BRS, ESI and data bytes. -/
structure CanFrame where
  key  : Nat
  dlc  : Nat
  brs  : Bool
  esi  : Bool
  data : List Byte
  deriving DecidableEq, Repr

/-- What the read of the configuration key finds (R60 to R64): JEDEC ID, SFDP signature, capacity in Mbit, whether the SFDP table lists
1-1-4 and 1-1-2 fast read, the key's quad-enable bit (none: the table states that no such bit exists), whether block protection is
set, and, for a key that has been fitted or reprogrammed since the last read, the bytes it holds from each given address on (all
others 0xFF). -/
structure KeyObs where
  jedec    : Nat
  sfdp     : Nat
  capacity : Nat
  fast114  : Bool
  fast112  : Bool
  quad     : Option Bool
  blocked  : Bool
  contents : Option (List (Nat × List Byte))
  deriving DecidableEq, Repr

/-- Which activities of start step 8 whose end the module's other commands do not show have ended (R82): the ADC slice rotation, the
delay-line calibration and the feedback wire checks. -/
structure StepEight where
  rotation   : Bool
  delayLines : Bool
  wireChecks : Bool
  deriving DecidableEq, Repr

/-- A debug action that changes core state (R559), on the main core of pair S, of pair V or V0, or of V1. -/
inductive DebugKind where
  | halt | resume | step | regWrite
  deriving DecidableEq, Repr

/-- The time-stamps of a fabric frame in sub-steps of local time (R635): its arrival, and its departure on each of the four ports
it leaves on. -/
structure Stamps where
  arrive : Nat
  leave  : List Nat
  deriving DecidableEq, Repr

/-- One constructor for each row of spec/opcode_table.json, in the table's order. -/
inductive Instr where
  /-- VAUX_VALID (R79): VAUX has stayed at or above 15.5 V for 2 ms, and the module leaves OFF for STARTING at step 1 of the start timeline -/
  | vauxValid (t : Nat)
  /-- VAUX_INVALID (R572): VAUX has stayed below 14.5 V for 100 µs; pair V stops serving, queues VAUX_LOST and drains the report queue on hold-up power -/
  | vauxInvalid (t : Nat)
  /-- HOLDUP_END (R731): The hold-up sequence ends 2.9–5.0 ms after VAUX became invalid, and the module enters OFF -/
  | holdupEnd (t : Nat)
  /-- WAKE (R93): WAKE has stayed high for 1 ms after a rising edge, and the module leaves SHIP or SLEEP for STARTING -/
  | wake (t : Nat)
  /-- CAN_WAKE_PATTERN (R94): The ISO 11898-2 wake-up pattern on an enabled CAN channel wakes the module from SLEEP -/
  | canWakePattern (channel : Fin 4) (t : Nat)
  /-- FABRIC_WAKE_SIGNAL (R94): A differential signal above 100 mV for 1 ms on an enabled fabric port wakes the module from SLEEP -/
  | fabricWakeSignal (port : Fin 4) (t : Nat)
  /-- SHIP_REQUEST (R716): A write of SHIP in STATE.REQUEST is decided by pair S and, when accepted, starts the ship entry sequence -/
  | shipRequest (r : Req) (wake : Bool) (t : Nat)
  /-- SLEEP_REQUEST (R716): A write of SLEEP in STATE.REQUEST is decided by pair S and, when accepted, starts the sleep entry sequence -/
  | sleepRequest (r : Req) (t : Nat)
  /-- SLEEP_IDLE_EXPIRED (R96): The sleep idle window expires in READY with all stages STOPPED, and the module starts the sleep entry sequence -/
  | sleepIdleExpired
  /-- SLEEP_ENTERED (R91): The sleep entry sequence completes, and the module is in SLEEP or passes straight to STARTING when a wake was latched -/
  | sleepEntered (t : Nat)
  /-- SHIP_ENTERED (R91): The ship entry sequence completes, and the module is in SHIP or passes straight to STARTING when a wake was latched -/
  | shipEntered (t : Nat)
  /-- INJECTION_TEST_DONE (R539): The comparator injection test of both pairs, or of pair S alone in a warm restart, completes with a pass or a failure -/
  | injectionTestDone (pass : Bool) (t : Nat)
  /-- MEMORY_TEST_DONE (R77): The SRAM march test and the MRAM management-area check complete; a failure sets cause 0x9 -/
  | memoryTestDone (pass : Bool) (t : Nat)
  /-- LOG_REBUILD (R570): The event recorder rebuilds BASE and NEXT from MRAM after the memory test -/
  | logRebuild (damage : List (Nat × List Byte)) (copyA copyB : MgmtCopy) (t : Nat)
  /-- KEY_READ_DONE (R77): Reading the key ID, the SFDP table, both headers and EARLY_CAN completes, and the key findings are shown in START.KEY_STATUS -/
  | keyReadDone (key : KeyObs) (t : Nat)
  /-- IMAGE_VERIFIED (R78): The image read and checks of steps 3–7 of Table 2-5 complete on the SRAM copy -/
  | imageVerified (bad1 bad2 : List Nat) (t : Nat)
  /-- IMAGE_APPLIED (R80): Step 7 applies the parameters, tables, full CAN filter set and frame map of the image -/
  | imageApplied (t : Nat)
  /-- GATE_SUPPLY_GROUP (R82): A group of gate supplies starts 16 ms after the one before, and its rails and channel self-tests are checked -/
  | gateSupplyGroup (tests : List ChTest)
  /-- READY_REACHED (R80): Start step 8 ends and the module enters READY; queued CAN frames are classified and address claims begin -/
  | readyReached (others : StepEight) (t : Nat)
  /-- KEY_CHECK_PERIOD (R97): A key-check period ends, and the key ID and running header are compared with the copies taken at start -/
  | keyCheckPeriod (found : Option (Nat × List Byte))
  /-- KEY_WRITE (R99): The KEY_WRITE command checks the staged image and starts writing it to the slot not holding the running image -/
  | keyWrite (r : Req) (generation crc t : Nat)
  /-- KEY_WRITE_STEP_END (R101): One erase, program or read-back step of KEY_WRITE completes, and the next step starts or the write ends -/
  | keyWriteStepEnd (outcome : Fin 3) (t : Nat)
  /-- RESTART (R695): The RESTART command is decided and answered before the module restarts -/
  | restart (r : Req) (t : Nat)
  /-- RESTART_BEGIN (R695): The restart begins once the reply has left, or 10 ms after the decision, and the module enters STARTING -/
  | restartBegin (t : Nat)
  /-- SERVICE_ENTER (R44): The authorised SERVICE_ENTER command takes the module from READY to SERVICE and may grant debug access -/
  | serviceEnter (r : Req) (debug : Bool) (t : Nat)
  /-- SERVICE_EXIT (R558): The SERVICE_EXIT command returns the module from SERVICE to READY -/
  | serviceExit (r : Req) (t : Nat)
  /-- DEBUG_ACTION (R559): A debug action on J1 is applied to the main core and replayed to the checker 2 CORE cycles later -/
  | debugAction (core : Fin 3) (kind : DebugKind)
  /-- MISSING_CYCLE (R112): No cycle frame from the master arrives in its expected window, and the cycle counts as missing -/
  | missingCycle
  /-- HOLDOVER_EXPIRED (R113): HOLDOVER_LIMIT expires, and the discipline returns to FREE -/
  | holdoverExpired
  /-- XTAL_FAIL (R117): The clock monitor finds the crystal stopped or off frequency and removes every gate enable -/
  | xtalFail
  /-- PLL_UNLOCK (R117): The PLL lock detector reports a phase error above 1 ns for 2 µs, and every gate enable is removed -/
  | pllUnlock
  /-- CLOCK_COUNT (R116): A 10 µs count window ends with a derived clock outside its expected count, and every gate enable is removed -/
  | clockCount (clock : Fin 7) (count : Nat)
  /-- PLL_BACKUP_LOCK (R120): After XTAL_FAIL the PLL relocks to the backup oscillator, and the module enters its backup restrictions -/
  | pllBackupLock (t : Nat)
  /-- CORRECTION_LIMIT (R113): The discipline correction has stayed at ±100 ppm for 1 s -/
  | correctionLimit
  /-- INTERCONNECT_GRANT (R124): The interconnect grants a waiting transaction to the highest class with a request and quota -/
  | interconnectGrant (waiting : List BusReq) (drained : Nat) (t : Nat)
  /-- SCRUB_BLOCK (R130): The SRAM scrubber reads and rewrites its next 128-byte block -/
  | scrubBlock (b : ScrubBlock)
  /-- SLICE_SWAP (R141): At each 2 ms SLOW edge the calibrated slice takes the interleave position of the slice next due to leave -/
  | sliceSwap (core : Fin 4)
  /-- SLICE_CAL_DONE (R143): A 2 ms slice calibration ends with a pass or a failure -/
  | sliceCalDone (core : Fin 4) (offset gain skew : Int)
  /-- CAL_STALE (R146): The rotation of a core has been suspended for STALE_LIMIT, and STALE_REACTION is carried out -/
  | calStale (core : Fin 4)
  /-- CARRIER_START (R295): After ARM the stage carrier starts with a PERIOD_START at the first SLOW edge or aligned instant at least 2 µs later -/
  | carrierStart (stage : Stage)
  /-- PERIOD_START (R294): A stage carrier reaches PERIOD_START, and the event is delivered to the cores, feedback unit, slots, accumulators and SYNC_OUT -/
  | periodStart (stage : Stage) (conv : List Conv)
  /-- PERIOD_MIDDLE (R294): A stage carrier reaches PERIOD_MIDDLE, and the event is delivered like PERIOD_START -/
  | periodMiddle (stage : Stage) (conv : List Conv)
  /-- SUBSTITUTE_EVENT (R156): While a carrier is not running, a substitute event is produced after IDLE_PERIOD -/
  | substituteEvent (core : Fin 4) (stage : Stage) (middle : Bool) (conv : List Conv)
  /-- INPUT_OVERRANGE (R176): OVR_FILTER consecutive overrange results of one input carry out OVR_REACTION -/
  | inputOverrange (input : Fin 80)
  /-- DMA_BURST_WRITTEN (R169): A granted DMA burst has been written to SRAM, and WRPTR advances -/
  | dmaBurstWritten (b : DmaBurst)
  /-- DMA_OVERFLOW (R168): A result arrives at a full staging FIFO and is dropped and counted -/
  | dmaOverflow (core : Fin 4) (conv : List Int) (t : Nat)
  /-- BUFFER_FREEZE_WRITE (R170): A write of FREEZE in SMP.BUFkk.CONTROL freezes the buffer, or resumes it and rearms the trigger -/
  | bufferFreezeWrite (r : Req) (buffer : Fin 64) (value : Word) (t : Nat)
  /-- BUFFER_FROZEN (R170): POST entries have been written after a fault report of the core's stage, and the buffer freezes -/
  | bufferFrozen (buffer : Fin 64)
  /-- HK_ROUND (R171): The housekeeping converter starts a round at a period boundary and evaluates its limits -/
  | hkRound (codes : List Int)
  /-- THERMAL_ROUND (R181): A slow thermal round runs the neighbour checks and thresholds and updates the stage limits -/
  | thermalRound (board : List BoardRead)
  /-- THERMAL_RELEASE (R191): The THERMAL_RELEASE command clears the latch of every source below RELEASE -/
  | thermalRelease (r : Req) (t : Nat)
  /-- ENCODER_EDGE (R205): An accepted edge of A or B changes POS, DIR and EXT -/
  | encoderEdge (channel : Fin 8) (pins : List PinChange) (t : Nat)
  /-- INDEX_QUALIFIED (R209): An index is qualified when Z is accepted high while A and B match Z_GATE -/
  | indexQualified (channel : Fin 8) (pins : List PinChange) (t : Nat)
  /-- HALL_SECTOR_CHANGE (R214): A change of hall sector changes POS by the shortest sector distance -/
  | hallSectorChange (channel : Fin 8) (pins : List PinChange) (t : Nat)
  /-- HALL_INVALID (R213): The hall code has been 0 or 7 for WIRE_FILTER -/
  | hallInvalid (channel : Fin 8) (pins : List PinChange)
  /-- WIRE_FAULT (R202): A differential pair has disagreed for WIRE_FILTER -/
  | wireFault (channel : Fin 8) (pair : Fin 4) (pins : List PinChange)
  /-- WIRE_FAULT_CLEARED (R202): A pair has agreed for WIRE_FILTER, and its wire fault cause clears -/
  | wireFaultCleared (channel : Fin 8) (pair : Fin 4) (pins : List PinChange)
  /-- SUPPLY_FAULT (R197): The sensor supply current has exceeded 300 mA for 1 ms, and SUP is turned off -/
  | supplyFault (channel : Fin 8)
  /-- SUPPLY_RETRY (R197): One second after a supply fault, the sensor supply is retried -/
  | supplyRetry (channel : Fin 8)
  /-- RES_WINDOW_END (R217): A resolver demodulation window ends and updates S, C and the tracking observer -/
  | resWindowEnd (channel : Fin 2) (conv : List Int)
  /-- EXC_PERIOD (R221): The excitation unit measures its output amplitude for one period -/
  | excPeriod (channel : Fin 2) (amp : Nat) (limit : Bool)
  /-- SSI_WINDOW (R222): The SSI window of a channel with no stage ends, and a frame is started -/
  | ssiWindow (channel : Fin 8)
  /-- SSI_FRAME_DONE (R223): An SSI frame completes and is checked and decoded -/
  | ssiFrameDone (channel : Fin 8) (pins : List PinChange)
  /-- SPEED_WINDOW_END (R228): A count-method window ends, forms its speed and may change METHOD -/
  | speedWindowEnd (channel : Fin 8)
  /-- SPEED_ZERO_TIME (R227): ZERO_TIME passes without an edge that moves EXT, and the period method reports 0 -/
  | speedZeroTime (channel : Fin 8)
  /-- SLOT_TRIGGER (R241): A carrier, slot or timer trigger makes a slot pending -/
  | slotTrigger (slot : Fin 48)
  /-- SLOT_RUN_START (R244): A free lane starts its lowest-numbered pending slot, which reads its inputs -/
  | slotRunStart (lane : Fin 4) (t : Nat)
  /-- SLOT_RUN_END (R246): A slot run ends, its outputs become visible, and its commit and mirror record are issued -/
  | slotRunEnd (lane : Fin 4)
  /-- FOLLOWING_ERROR (R273): The following-error condition has held for FE_TIME, and FE_REACTION is carried out -/
  | followingError (slot : Fin 48)
  /-- SP_LOST (R271): A setpoint-loss cause arises, and SP_LOSS_REACTION is carried out -/
  | spLost (slot : Fin 48)
  /-- SETPOINT_WRITE (R271): A write of SLOTnn.SETPOINT is applied, restarting the setpoint timeout -/
  | setpointWrite (r : Req) (slot : Fin 48) (sub : Fin 2) (value : Word) (t : Nat)
  /-- OPEN_LOOP (R264): The OPEN_LOOP command puts a slot into MANUAL, copying its last outputs into MAN_OUT -/
  | openLoop (r : Req) (slot t : Nat)
  /-- CLOSE_LOOP (R265): The CLOSE_LOOP command puts a slot into AUTO with preset integrators -/
  | closeLoop (r : Req) (slot t : Nat)
  /-- COMMIT_COMPLETE (R303): A commit completes, and the leg's shadow set is copied into its pending set -/
  | commitComplete (leg : Fin 32)
  /-- HOST_COMMIT (R303): A host write of COMMIT in LEGnn.CTRL commits the shadow set of a host-owned leg -/
  | hostCommit (r : Req) (leg : Fin 32) (value : Word) (t : Nat)
  /-- LEG_RELOAD (R303): At a leg reload the pending set becomes active, the carry applies and short pulses are evaluated -/
  | legReload (leg : Fin 32)
  /-- PERIOD_WRITE (R293): A host write of PULSE.stage.PERIOD is rechecked against every derived budget and accepted or refused -/
  | periodWrite (r : Req) (stage : Stage) (value : Word) (t : Nat)
  /-- DLL_UNLOCK (R290): The DLL span has deviated by more than 2 taps for 10 µs, and edge placement falls back to whole cycles -/
  | dllUnlock (span : Nat)
  /-- DLL_RELOCKED (R290): The DLL span has stayed within 1 tap for 1 ms -/
  | dllRelocked (span : Nat)
  /-- SYNC_IN_EDGE (R316): A rising SYNC_IN edge is time-stamped and evaluated for lock -/
  | syncInEdge (stamp : Nat)
  /-- SYNC_IN_TIMEOUT (R319): No SYNC_IN edge arrives within 1.25 × the locked period -/
  | syncInTimeout (stage : Stage)
  /-- CBC_TRIP (R322): A leg registers a trip from DESAT, CMP or REG, and its commands follow ACTION until the next reload -/
  | cbcTrip (leg : Fin 32) (src : TripSrc) (conv : List Int) (t : Nat)
  /-- TRIP_WINDOW_END (R324): A trip-count window of a leg expires -/
  | tripWindowEnd (leg : Fin 32)
  /-- SELF_CHECK_FAIL (R331): An engine's record checker finds a CRC mismatch, and the comparator decides under Table 9-1 -/
  | selfCheckFail (engine : Fin 2) (t : Nat)
  /-- WORD_MISMATCH (R333): The owner and standby words for a cycle differ, opening or joining a decision -/
  | wordMismatch (channels carriers : Nat) (agree : Bool) (t : Nat)
  /-- READBACK_CONTRADICTION (R335): A channel's read-back has contradicted the owner in RB_FILTER evaluable cycles -/
  | readbackContradiction (channel : Fin 64) (t : Nat)
  /-- DECISION_TIMEOUT (R337): A pending decision reaches RB_WAIT and is resolved as UNEVAL -/
  | decisionTimeout
  /-- HANDOVER_GAP_END (R343): The 4-cycle hand-over gap ends, and the new owner's words are accepted -/
  | handoverGapEnd
  /-- INTERLOCK_FAULT (R342): The OWN_SEL read-back differs from the recorded owner -/
  | interlockFault
  /-- SELF_TEST_DONE (R348): An engine's 20 ms self-test completes -/
  | selfTestDone (engine : Fin 2) (pass : Bool)
  /-- SWITCH_BACK (R349): The SWITCH_BACK command starts copying the owner's records into the tested engine -/
  | switchBack (r : Req) (t : Nat)
  /-- SYNC_COPY_DONE (R350): All owner records are copied, and qualification begins -/
  | syncCopyDone
  /-- QUALIFY_END (R350): The QUALIFY window ends cleanly, and the engine enters SPARE -/
  | qualifyEnd
  /-- SWITCH_BACK_HANDOVER (R350): Ownership passes to the returning engine at an edge-free span or at 10 ms -/
  | switchBackHandover (t : Nat)
  /-- DESAT_TRIP (R373): A desaturation or V_DS detector trips, and the channel turns off -/
  | desatTrip (channel : Fin 64) (t : Nat)
  /-- SHORT_TRIP (R372): The hard-short integral reaches LIMIT, and the channel turns off; the operands give the Kelvin-to-power-source
  voltage in mV in each 5 ns evaluation cycle since the gate edge or the last such command -/
  | shortTrip (channel : Fin 64) (t : Nat) (vks : List Int)
  /-- GATE_UVLO (R375): A rail falls below UVLO for its filter time, and the channel turns off -/
  | gateUvlo (channel : Fin 64) (negative : Bool)
  /-- UVLO_RELEASE (R375): The rail has stood above its release threshold for 100 µs -/
  | uvloRelease (channel : Fin 64) (negative : Bool)
  /-- STATUS_FRAME (R364): A status frame of a channel arrives over its isolation link -/
  | statusFrame (channel : Fin 64) (frame : FrameSeen) (t : Nat)
  /-- LINK_FAULT (R366): Four consecutive status frames are missing or failed, and LINK_REACTION is carried out -/
  | linkFault (channel : Fin 64)
  /-- COMMAND_PATH_LOST (R365): A driver receives no valid command signal for 400 ns and soft-turns its channel off -/
  | commandPathLost (path : PathLost)
  /-- SKEW_MEASURE (R361): The millisecond timing probe of a channel adjusts its trim by at most one tap -/
  | skewMeasure (channel : Fin 64) (ps : Nat)
  /-- THERMISTOR_MEASURE (R380): The millisecond thermistor measurement of a leg converts the resistance and sets the open and short flags -/
  | thermistorMeasure (leg : Fin 26) (ohms : Nat)
  /-- ENABLE_REMOVED (R369): The gate-enable line of a stage group is removed, and every on channel turns off unstaggered -/
  | enableRemoved (group : Fin 4)
  /-- STAGGER_SLOT (R370): STAGGER elapses, and the next leg with a channel on turns off in a SAFE_OFF -/
  | staggerSlot (stage : Stage)
  /-- REGULATOR_UPDATE (R389): The link regulator runs one update after its carrier event and commits the legs of L -/
  | regulatorUpdate
  /-- SOFT_START_WINDOW_END (R408): The soft-start window ends and is judged against 10 % of the setpoint -/
  | softStartWindowEnd
  /-- HICCUP_WAIT_END (R409): HICCUP_WAIT elapses, and a new soft start begins -/
  | hiccupWaitEnd
  /-- SHED_TIMER (R399): A shed, light or burst condition has held for SHED_TIME -/
  | shedTimer (cond : Fin 3)
  /-- SHED_BLOCK_END (R402): The SHED_BLOCK window closes -/
  | shedBlockEnd
  /-- LINK_UV (R415): u_link has stayed below setpoint − UV_BAND for UV_TIME -/
  | linkUv
  /-- PHASE_IMBALANCE (R415): A leg current has deviated from the mean by more than IMB_LIMIT for IMB_TIME -/
  | phaseImbalance (phase : Fin 6)
  /-- SYNC_FREE (R413): After SYNC_FREE without lock, the period of L has moved back to PULSE.L.PERIOD -/
  | syncFree (t : Nat)
  /-- POWER_PATH_EVAL (R431): The power path monitor reads its inputs every 100 µs and evaluates the power path transitions -/
  | powerPathEval
  /-- HALF_CYCLE_END (R424): A zero crossing ends a source half-cycle, which is judged and updates P_vreg -/
  | halfCycleEnd (input : Fin 3)
  /-- NO_ZERO_CROSSING (R425): A used input has had no zero crossing for 12 ms -/
  | noZeroCrossing (input : Fin 3)
  /-- SOURCE_QUALIFIED (R426): The qualification window completes, and the power path enters AVAILABLE -/
  | sourceQualified
  /-- HANDBACK_DONE (R431): i_ref of L has stayed at or below HB_I for HB_TIME, and the link passes to P -/
  | handbackDone
  /-- STOP_TAKEOVER_TIMEOUT (R452): P's stop sequence has waited 10 ms for TAKEOVER and continues -/
  | stopTakeoverTimeout
  /-- CHARGE_EVAL (R447): The charge supervisor evaluates the charge transitions and the safety timer each millisecond -/
  | chargeEval
  /-- CHARGE_START (R448): The CHARGE_START command starts a charge in CC -/
  | chargeStart (r : Req) (t : Nat)
  /-- CHARGE_STOP (R451): The CHARGE_STOP command ends a running charge -/
  | chargeStop (r : Req) (t : Nat)
  /-- BATT_OC (R458): i_batt has exceeded 1.1 × I_CC + 1 A for 1 ms -/
  | battOc
  /-- ARRIVED (R472): The actuator has stayed within ARRIVE_WIN for ARRIVE_TIME and enters HOLDING -/
  | arrived (actuator : Fin 2)
  /-- ACT_TIMEOUT (R476): MOVE_TIME expires, and TIMEOUT_REACTION is carried out -/
  | actTimeout (actuator : Fin 2)
  /-- ACT_BLOCKED (R475): The actuator has been pushed at I_lim without moving for BLOCK_TIME -/
  | actBlocked (actuator : Fin 2)
  /-- HOLD_OVERCURRENT (R474): The FULL hold has exceeded I_HOLD for 10 ms, and the hold changes to SERVO -/
  | holdOvercurrent (actuator : Fin 2)
  /-- COMPARE_WRITE (R480): A write of a compare VALUE arms the compare and tests whether it lies behind -/
  | compareWrite (r : Req) (actuator : Fin 2) (compare : Fin 4) (value : Word) (t : Nat)
  /-- COMPARE_CFG_WRITE (R480): A write of a compare CFG disarms the compare -/
  | compareCfgWrite (r : Req) (actuator : Fin 2) (compare : Fin 4) (value : Word) (t : Nat)
  /-- STO_HW_REQUEST (R489): An STO pair has shown a request for 1.0 µs, and the hard-wired path removes EN_HW -/
  | stoHwRequest (group : Fin 4) (cycles : Nat) (t : Nat)
  /-- STO_HW_RELEASE (R489): An STO pair has been released for 1.0 µs, and EN_HW is restored -/
  | stoHwRelease (group : Fin 4) (t : Nat)
  /-- SBC_HW_OPEN (R504): The hard-wired path opens the brake low-side switches on an SBC or coupled STO request -/
  | sbcHwOpen (sbc : Bool) (group : Fin 4) (t : Nat)
  /-- SAFETY_SAMPLE (R490): Pair S samples every request pair and path enable every 100 µs and acts on agreed changes -/
  | safetySample (levels : BitVec 10) (hw sw drv : BitVec 4)
  /-- STO_DISCREPANCY (R494): Both inputs of an STO or SBC pair have been equal for DISC_TIME, and a discrepancy latches -/
  | stoDiscrepancy (pair : Fin 5)
  /-- DISCREPANCY_CLEARED (R495): The pair has shown A low and B high for DISC_CLEAR, and the latch clears -/
  | discrepancyCleared (pair : Fin 5)
  /-- PATH_DISAGREE (R497): The STO paths have disagreed for 5 ms, and PATH_REACTION is carried out -/
  | pathDisagree (group : Fin 4)
  /-- STO_AUTO_TEST (R500): An idle group or an ARM starts the internal STO test of a group -/
  | stoAutoTest (group : Fin 4) (t : Nat)
  /-- STO_GROUP_TEST_END (R499): The internal STO test of a group completes with a pass or a failure -/
  | stoGroupTestEnd (group : Fin 4) (drv : BitVec 3) (t : Nat)
  /-- STO_TEST_DUE (R502): A group has gone 24 h without a passed test or request -/
  | stoTestDue (group : Fin 4)
  /-- BRAKE_COMMAND_WRITE (R505): A write of SAFE.BRK_CMD releases or applies brakes under their conditions -/
  | brakeCommandWrite (r : Req) (value : Word) (t : Nat)
  /-- BRAKE_SWITCH_CHECK (R507): Pair S opens one switch of a released brake for 200 µs and checks its node -/
  | brakeSwitchCheck (brake : Fin 2) (obs : BrakeObs) (t : Nat)
  /-- BRAKE_APPLIED_CHECK (R507): Pair S checks the nodes of an applied brake every 10 ms -/
  | brakeAppliedCheck (brake : Fin 2) (obs : BrakeRest) (t : Nat)
  /-- BRAKE_TEST (R509): The BRAKE_TEST command starts a torque test against an applied brake -/
  | brakeTest (r : Req) (brake t : Nat)
  /-- BRAKE_TEST_PHASE_END (R510): A ramp or hold phase of the brake test ends, and the next phase begins -/
  | brakeTestPhaseEnd (brake : Fin 2)
  /-- BRAKE_TEST_DUE (R513): HOURS reaches INTERVAL, and DUE_REACTION is carried out -/
  | brakeTestDue (brake : Fin 2)
  /-- CONTACTOR_COMMAND_WRITE (R517): A write of SAFE.CDR_CMD switches the drivers and may start a precharge -/
  | contactorCommandWrite (r : Req) (value : Word) (t : Nat)
  /-- CONTACTOR_CHECK (R515): Pair S evaluates every monitored contactor feedback each millisecond -/
  | contactorCheck (levels : BitVec 8)
  /-- PRECHARGE_WELD_CHECK (R517): WELD_TIME after the precharge starts, the main contactor is checked for a weld -/
  | prechargeWeldCheck
  /-- PRECHARGE_TIMEOUT (R517): PRE_TIME expires without PRE_OK -/
  | prechargeTimeout
  /-- CONTACTOR_OPEN_DELAY (R516): OPEN_DELAY after a contactor fault reaction, every driver is switched off -/
  | contactorOpenDelay
  /-- S_MISMATCH (R536): The pair-S signatures differ, and a warm restart begins with running stages in HOLD -/
  | sMismatch (m : Mismatch) (t : Nat)
  /-- S_WATCHDOG (R541): Pair S misses or misvalues its watchdog write, which starts a warm restart -/
  | sWatchdog (m : Mismatch) (t : Nat)
  /-- REPEAT_WINDOW_END (R547): The 1 s repeat window of a warm restart closes -/
  | repeatWindowEnd
  /-- WARM_RESTART_DONE (R543): The warm restart completes, reconciles state, ends HOLD and delivers held commands -/
  | warmRestartDone (lost : Bool) (levels : BitVec 10) (t : Nat)
  /-- HOLD_EXPIRED (R542): A stage's hold window expires, and the watchdog carries out HOLD_EXPIRY -/
  | holdExpired (stage : Stage)
  /-- V_MISMATCH (R550): The pair-V signatures differ, and pair V restarts -/
  | vMismatch (m : Mismatch) (t : Nat)
  /-- V_WATCHDOG (R550): A V watchdog window expires, and the core restarts -/
  | vWatchdog (core : Fin 2) (t : Nat)
  /-- V_RESTART_DONE (R550): Pair V or a V core completes its restart and drains queued reports -/
  | vRestartDone (core : Fin 2) (t : Nat)
  /-- SPLIT_V (R553): The SPLIT_V command starts splitting pair V into V0 and V1 -/
  | splitV (r : Req) (t : Nat)
  /-- SPLIT_V_DONE (R555): The split completes, and V1 serves its services -/
  | splitVDone (completed : Bool) (t : Nat)
  /-- JOIN_V (R553): The JOIN_V command starts rejoining V0 and V1 into lock-step -/
  | joinV (r : Req) (t : Nat)
  /-- JOIN_V_DONE (R556): The join ends in lock-step, or in SPLIT on a failed test -/
  | joinVDone (completed pass : Bool) (t : Nat)
  /-- RECORD_WRITE (R568): A queued report is written to MRAM and becomes part of the log when its mark completes -/
  | recordWrite
  /-- TOKEN_REFILL (R573): A refill window of a code's bucket ends, and one token is added -/
  | tokenRefill (code : Nat)
  /-- LOG_READ (R579): The LOG_READ command returns up to COUNT records from FROM -/
  | logRead (r : Req) (start count t : Nat)
  /-- CLEAR_LOG (R583): The authorised CLEAR_LOG command starts a clear of the log -/
  | clearLog (r : Req) (t : Nat)
  /-- CLEAR_DONE (R584): The clear completes with the new BASE and LOG_CLEARED in slot 0 -/
  | clearDone
  /-- CURSOR_WRITE (R581): A write of LOG.CURSOR sets the window offset -/
  | cursorWrite (r : Req) (value : Word) (t : Nat)
  /-- WINDOW_READ (R581): A read of LOG.WINDOW.07 advances the cursor offset by one -/
  | windowRead (r : Req) (t : Nat)
  /-- PHY_LINK_UP (R596): A port's PHY reports link, and the port enters UP -/
  | phyLinkUp (port : Fin 4) (master : Bool) (t : Nat)
  /-- PHY_LINK_LOSS (R598): The PHY reports loss of link, and the port goes DOWN -/
  | phyLinkLoss (port : Fin 4) (t : Nat)
  /-- LINK_CHECK_SEND (R596): Every 1 ms a port in UP or VERIFIED sends a LINK_CHECK -/
  | linkCheckSend (port : Fin 4)
  /-- LINK_CHECK (R596): A received LINK_CHECK is counted towards verification and updates the neighbour's state -/
  | linkCheck (port : Fin 4) (frame : Frame) (t : Nat)
  /-- LINK_TIMEOUT (R598): No valid frame has arrived for LINK_TIMEOUT, and the port goes DOWN -/
  | linkTimeout (port : Fin 4)
  /-- ERROR_WINDOW_END (R598): A 100 ms error window ends with ERR_LIMIT or more dropped frames, and the port goes DOWN -/
  | errorWindowEnd (port : Fin 4)
  /-- HOLD_OFF_END (R600): HOLD_OFF ends, and a blocked port returns to TRAINING -/
  | holdOffEnd (port : Fin 4)
  /-- FRAME_RECEIVED (R593): A fabric frame is received whole, checked, dropped, forwarded or delivered -/
  | frameReceived (port : Fin 4) (frame : Frame) (stamps : Stamps) (t : Nat)
  /-- TOPOLOGY (R602): A port change sends a TOPOLOGY frame, and its receipt at the root may start a round -/
  | topology (port : Fin 4) (frame : Frame) (t : Nat)
  /-- WAGGLE_PERIOD_END (R604): The root starts a new waggle round -/
  | wagglePeriodEnd
  /-- WAGGLE (R605): A received WAGGLE is accepted or dropped, and the best copy is forwarded -/
  | waggle (copies : List (Fin 4 × Frame)) (t : Nat)
  /-- WAGGLE_SETTLE (R607): The settle window of a round ends, and the node derives its address and replies -/
  | waggleSettle
  /-- WAGGLE_REPLY (R608): The root receives a WAGGLE_REPLY and keeps the node's latest reply -/
  | waggleReply (port : Fin 4) (frame : Frame) (t : Nat)
  /-- REPLY_WINDOW_END (R608): The reply window ends, and the root tallies NODES, MAX_DEPTH and the address claims -/
  | replyWindowEnd
  /-- ADDRESS_REFUSED (R615): A received ADDRESS_REFUSED frame sets the named node's address to 0x3FE -/
  | addressRefused (port : Fin 4) (frame : Frame) (t : Nat)
  /-- ROOT_LOST (R610): No WAGGLE has arrived for 3 × WAGGLE_PERIOD, and the node may become root -/
  | rootLost
  /-- SYNC_RECEIVED (R637): A SYNC cycle frame is received, forwarded with correction and fed to the discipline loop -/
  | syncReceived (port : Fin 4) (frame : Frame) (stamps : Stamps) (t : Nat)
  /-- PDELAY_SEND (R636): Every 100 ms a PDELAY_REQ is sent on each VERIFIED port -/
  | pdelaySend (leave : List Nat)
  /-- PDELAY_REQ (R636): A received PDELAY_REQ is answered within 2 µs -/
  | pdelayReq (port : Fin 4) (frame : Frame) (stamps : Stamps) (t : Nat)
  /-- PDELAY_RESP (R636): A received PDELAY_RESP updates the port's link delay -/
  | pdelayResp (port : Fin 4) (frame : Frame) (stamps : Stamps) (t : Nat)
  /-- MASTER_ASSUMED (R639): No SYNC from a better master has arrived for 8 cycles, and the module becomes master -/
  | masterAssumed
  /-- CYCLE_START (R643): A local cycle starts and applies waiting signals, publish offsets, alignment and ring checks -/
  | cycleStart (leave : List Nat)
  /-- PUBLISH (R627): At cycle start + OFFSET an enabled publish frame is formed and sent -/
  | publish (frame : Fin 4)
  /-- SIGNAL (R629): A received SIGNAL frame is forwarded and its local signals are written -/
  | signal (port : Fin 4) (frame : Frame) (t : Nat)
  /-- DUPLICATE_STATE_EXPIRY (R624): 1 s after a SRC's last frame, its duplicate state and learned port are discarded -/
  | duplicateStateExpiry (src : Nat)
  /-- SERVICE_REQ (R646): A received service request is forwarded or dispatched to the service layer -/
  | serviceReq (port : Fin 4) (frame : Frame) (t : Nat)
  /-- CAN_FRAME_RECEIVED (R657): A valid CAN frame is received, filtered and queued or dropped -/
  | canFrameReceived (channel : Fin 4) (frame : CanFrame) (t : Nat)
  /-- CAN_QUEUE_TAKE (R725): A READ of the CAN queue window takes the oldest HOST entry into the requester's ownership -/
  | canQueueTake (r : Req) (words : Fin 20) (t : Nat)
  /-- CAN_ACK (R661): A write of a HANDLE to CAN.CHn.ACK frees an owned queue entry -/
  | canAck (r : Req) (channel : Fin 4) (value : Word) (t : Nat)
  /-- ACK_LAPSED (R662): Ownership of a queue entry lapses after ACK_TIMEOUT -/
  | ackLapsed (channel : Fin 4) (queue : Fin 2) (slot : Fin 64)
  /-- MAP_ENTRY (R667): The map service takes a MAP queue entry and writes its parameters or serves it as a SERVICE frame -/
  | mapEntry (t : Nat)
  /-- TX_PERIOD (R671): A transmit entry's period starts, and its frame is formed -/
  | txPeriod (entry : Fin 64)
  /-- TX_CHANGE_CHECK (R671): Each millisecond an on-change transmit entry forms a frame when a field has changed -/
  | txChangeCheck (entry : Fin 64)
  /-- CAN_FRAME_SENT (R669): The head frame of the FIFO is transmitted, and a held frame may enter the FIFO -/
  | canFrameSent (channel : Fin 4) (t : Nat)
  /-- CAN_ERROR (R675): A CAN protocol error updates the error counters and may change the error state -/
  | canError (channel : Fin 4) (kind : Fin 3) (t : Nat)
  /-- BUS_RECOVER (R677): The BUS_RECOVER command starts the bus-off recovery sequence -/
  | busRecover (r : Req) (channel t : Nat)
  /-- BUS_RECOVERED (R677): The recovery sequence completes, and the FIFO resumes -/
  | busRecovered (channel : Fin 4) (t : Nat)
  /-- CLAIM_RECEIVED (R680): An address claim or PGN request is received and contested or answered -/
  | claimReceived (channel : Fin 4) (frame : CanFrame) (t : Nat)
  /-- ADDRESS_CLAIMED (R681): No contest arrives within 250 ms, and the address counts as claimed -/
  | addressClaimed (channel : Fin 4)
  /-- READ (R689): A READ request returns up to 27 values captured in one LOOP cycle -/
  | read (r : Req) (entries : List (Nat × Nat)) (t : Nat)
  /-- WRITE (R690): A WRITE request applies its entries in one LOOP cycle to registers without a row of their own -/
  | write (r : Req) (entries : List WEntry) (leaving : List Stage) (closing : List Nat) (t : Nat)
  /-- CHALLENGE (R697): The CHALLENGE service issues a fresh challenge to the requester -/
  | challenge (r : Req) (t : Nat)
  /-- CHALLENGE_EXPIRY (R697): An open challenge expires 10 s after issue -/
  | challengeExpiry (who : Requester)
  /-- LOCKOUT_END (R698): The 60 s authority lockout ends -/
  | lockoutEnd
  /-- SUMMARY (R703): The SUMMARY command returns a 1,024-byte capture taken in one LOOP cycle -/
  | summary (r : Req) (t : Nat)
  /-- ARM (R757): The ARM command arms each named stage whose conditions hold -/
  | arm (r : Req) (mask : Nat) (higher : List Stage) (t : Nat)
  /-- RUN (R46): The RUN command takes each named ARMED stage to RUNNING -/
  | run (r : Req) (mask : Nat) (higher : List Stage) (t : Nat)
  /-- STOP (R47): The STOP command starts a stop sequence, stores it in HOLD or acknowledges SAFE -/
  | stop (r : Req) (mask : Nat) (higher : List Stage) (t : Nat)
  /-- WINDOW_CONTROL_WRITE (R722): A write of a table window's CONTROL selects a table and offset for the requester -/
  | windowControlWrite (r : Req) (window : Fin 5) (value : Word) (t : Nat)
  /-- STAGING_WRITE (R726): A write of the key staging window stores data in the shared staging area -/
  | stagingWrite (r : Req) (word : Fin 64) (value : Word) (t : Nat)
  /-- ATTN_RELEASE (R719): The MIN_ASSERT window ends with no ATTN condition left, and ATTN releases -/
  | attnRelease
  /-- COMMAND_EDGE (R310): A channel's scheduled command edge reaches its command instant at the output stage; dead time, minimum pulse and the guard act on it, and at the driver it resets the hard-short integral, starts blanking and clears TRIPPED -/
  | commandEdge (channel : Fin 64)
  /-- GATE_READBACK (R362): A channel's gate crosses the mid-point, and its read-back gate state changes; this releases the dead-time guard of R363 and lets a SAFE_ASC low side turn on under R371 -/
  | gateReadback (channel : Fin 64) (gate : GateSeen) (t : Nat)
  /-- SOFT_TURN_OFF_DONE (R368): A soft turn-off completes: the gate reaches CLAMP_V above VNEG, the clamp engages, SOFT_OFF clears and turn-on edges are no longer ignored -/
  | softTurnOffDone (channel : Fin 64)
  /-- TERMINATE_CONDITION (R301): In CONST_ON or CONST_OFF the leg comparator or the stage regulator registers the terminate condition, and the variable part of the leg's period ends -/
  | terminateCondition (leg : Fin 32) (conv : List Int) (t : Nat)
  /-- EXCITATION_PEAK (R216): The resolver excitation reaches its positive or negative peak, which is the PERIOD_START or PERIOD_MIDDLE of WAIT_SRC 7 for sequence waits and accumulator latches -/
  | excitationPeak (resolver : Fin 2) (conv : List Conv)
  /-- HOLD_RESTORATION (R49): The SLOW cycle in which a fault without a lasting cause, such as SLOT_OVERRUN, was raised ends; its cause and STATE.FAULT bit clear, and a stage held only by it returns from HOLD to RUNNING -/
  | holdRestoration
  /-- SUPPLY_HELD (R234): The sensor supply has held for 100 ms after a retry, and the SUPPLY_FAULT cause clears so the channel can become VALID again -/
  | supplyHeld (channel : Fin 8)
  /-- HALL_CODE_VALID (R213): The hall code has been valid for WIRE_FILTER, and the HALL_INVALID cause clears -/
  | hallCodeValid (channel : Fin 8) (pins : List PinChange)
  /-- FLAP_WINDOW_END (R600): A port's flap window of FLAP_WINDOW expires, and its DOWN count (FLAPS) returns to zero -/
  | flapWindowEnd (port : Fin 4)
  /-- AUTH_FAIL_WINDOW_END (R698): The 60 s window of failed authority verifications expires, and SVC.STATUS.FAILS returns to zero -/
  | authFailWindowEnd
  /-- CAUSE_ABSENT_1MS (R458): The condition of PFC_OV, BATT_OV, BATT_OC, VACT_LOW or VACT_HIGH (R458, R483) has been absent for 1 ms in SLOW cycles, and its cause clears -/
  | causeAbsent1ms (cond : Fin 7)
  deriving DecidableEq, Repr

end Sys2Proof
end

