-- ==== Sys2Proof/Decode.lean ====
section
/-!
DEFINITION. What a word spells by the table's bits. The block has no instruction words: no row of spec/opcode_table.json gives
fields or bits, so no word spells a command (log entry 11).
-/

namespace Sys2Proof

/-- The command that a word of `nbits` bits spells: none, since no row of the table gives bits. -/
def decodeTableWord (_nbits _w : Nat) : Option Instr := none

end Sys2Proof
end

