-- ==== Sys2Proof/Config.lean ====
section
/-!
DEFINITION. What one module or one implementation fixes and the spec does not give: constants with no body (no proof can
see a value of them) and free values. A statement that mentions one holds whatever it is (log entries 2 to 6).
-/

namespace Sys2Proof

/-- Whether an unstated rounding of a quotient that is not exact takes the upper neighbour: a free choice for each pair of
dividend and divisor (log entry 4). -/
opaque Config.roundsUp : Int → Int → Bool

/-- The quotient of a number by 0, where a rule forms a quotient and its divisor is 0: the spec states no result (log entry 4). -/
opaque Config.quotientByZero : Int → Int

/-- The 64-bit unique ID as manufactured (R710). -/
opaque Config.uidRaw : Nat

/-- The hardware revision, ROM version and date word (R710). -/
opaque Config.hwRev : Nat
opaque Config.romVersion : Nat
opaque Config.mfgDate : Nat

/-- The owner public key that the fuses hold since manufacture, 32 bytes as one number (R72). -/
opaque Config.ownerKey : Nat

/-- Whether a signature is verified by the group equation without the cofactor, which RFC 8032 allows beside the one with it. -/
opaque Config.cofactorless : Bool

/-- The n-th output of the on-die random generator: one challenge of 16 bytes (R697). -/
opaque Config.random : Nat → BitVec 128

/-- A free value: the n-th value that the spec leaves open and nothing constrains. -/
opaque Config.freeValue : Nat → Int

/-- The raw result of a conversion, of a fast core's channel (or of converter H, core 4, at a position) in a SAMPLE cycle, that the command
which brings the results does not give. -/
opaque Config.analogue : Nat → Nat → Nat → Int

/-- The fractional-delay filter of a slice with a skew in fs, on the result before and the present one (R137 names no coefficient). -/
opaque Config.skewFilter : Int → Int → Int → Int

/-- The level of WAKE at an instant in VCO cycles, for a ship request whose command does not give it (R92). -/
opaque Config.wakeLevel : Nat → Bool

/-- The limits that the comb image sets for service on a stage: in 2^-30 per unit 0 current or power, 1 voltage, 2 speed, and for the
regulator of L 3 the total current in 2^-16 A, 4 the link voltage in 2^-16 V. R44 names them and no table gives them a word. -/
opaque Config.serviceLimit : Nat → Nat → Int

/-- The delay of a channel from command instant to read-back in PULSE cycles, which start step 8 measures (R334). -/
opaque Config.readbackDelay : Nat → Nat

/-- How the stored CRC-16 of an engine's record differs from that of its content when the checker finds a mismatch at an instant (R331). -/
opaque Config.crcUpset : Nat → Nat

/-- Sine and cosine of an angle of 2^-16 of a turn, in 2^-30: the values that the engine's tables hold (unstated). -/
opaque Config.sine : Nat → Int
opaque Config.cosine : Nat → Int

/-- The angle, in 2^-16 of a turn, of the point (cosine, sine): the resolver's demodulated angle (unstated rounding). -/
opaque Config.arctan : Int → Int → Nat

/-- The angle offset of a feedback channel in 2^-16 of a revolution: R208, R213 and R219 use it and no table gives it a word. -/
opaque Config.angleOffset : Nat → Nat

/-- The natural frequency of a resolver observer times the length of a demodulation window, in 2^-32, for a bandwidth in 10 Hz and an
excitation code (R219 sets it from RES_BW and names no relation). -/
opaque Config.observerRate : Nat → Nat → Nat

/-- The link voltage above which a traction stage may be armed, in 2^-16 V: Table 1-7 names a minimum and no parameter gives it. -/
opaque Config.linkMinimum : Nat → Int

/-- The square root of a quantity that is not a square: the nearest value below or above (unstated rounding). -/
opaque Config.sqrtUp : Nat → Bool

/-- Natural logarithm in 2^-30 of a positive ratio numerator / denominator (R380; the spec states no rounding). -/
opaque Config.logRatio : Nat → Nat → Int

end Sys2Proof
end

