-- ==== Sys2Proof/Machine/Operands.lean ====
section
/-!
DEFINITION. The forms of values: bit fields (R7), two's complement and the fixed-point formats (R12, R13), saturation (R15), and
the roundings the rules name or leave open.
-/

namespace Sys2Proof.Machine

/-- Two's complement of a w-bit value. -/
def toSigned (w v : Nat) : Int := if v < 2 ^ (w - 1) then (v : Int) else (v : Int) - 2 ^ w

/-- An integer taken modulo 2^w. -/
def wrap (w : Nat) (v : Int) : Nat := (v % (2 ^ w : Nat)).toNat

/-- Bits hi:lo of a number. -/
def bits (v hi lo : Nat) : Nat := v / 2 ^ lo % 2 ^ (hi - lo + 1)

/-- A number with its bits hi:lo replaced. -/
def putBits (v hi lo x : Nat) : Nat :=
  v - bits v hi lo * 2 ^ lo + x % 2 ^ (hi - lo + 1) * 2 ^ lo

/-! ### Numbers -/

/-- A quotient whose rounding the spec does not state: exact when it is exact, otherwise a free choice between its two
neighbours; a quotient by 0 is a free value (log entry 4). -/
def divOpen (a b : Int) : Int :=
  if b = 0 then Config.quotientByZero a else if a % b = 0 then a / b else if Config.roundsUp a b then Int.fdiv a b + 1 else Int.fdiv a b

/-- A quotient rounded to the nearest integer, halves up (R287). -/
def divRound (a b : Int) : Int := if b = 0 then Config.quotientByZero a else Int.fdiv (2 * a + b) (2 * b)

/-- A quotient rounded up. -/
def divUp (a b : Nat) : Nat := if b = 0 then 0 else (a + b - 1) / b

/-- Saturation at the nearer limit (R15). -/
def clampI (lo hi x : Int) : Int := if x < lo then lo else if hi < x then hi else x

/-- Saturation to Q1.15, Q2.30 and 32-bit integers. -/
def satQ15 (x : Int) : Int := clampI (-32768) 32767 x
def satQ30 (x : Int) : Int := clampI (-2147483648) 2147483647 x

end Sys2Proof.Machine
end

