-- ==== Sys2Proof/Machine/Events.lean ====
section
/-!
DEFINITION. The event codes of the event tables of the chapters (R21, R52), and the codes that a chapter defines (R712).
-/

namespace Sys2Proof


/-! ### 02_start_and_comb_image.md -/

def Ev.READY_REACHED : Nat := 0x0101
def Ev.KEY_ABSENT : Nat := 0x0102
def Ev.KEY_UNSUPPORTED : Nat := 0x0103
def Ev.HEADER_INVALID : Nat := 0x0104
def Ev.IMAGE_INCOMPATIBLE : Nat := 0x0105
def Ev.SECTION_CRC : Nat := 0x0106
def Ev.SIGNATURE_INVALID : Nat := 0x0107
def Ev.CONTENT_INVALID : Nat := 0x0108
def Ev.MEMORY_TEST : Nat := 0x0109
def Ev.SECTION_REREAD : Nat := 0x010A
def Ev.EARLY_CAN_INVALID : Nat := 0x010B
def Ev.STARTUP_DROPS : Nat := 0x010C
def Ev.KEY_CHANGED : Nat := 0x010F
def Ev.KEY_WRITE_DONE : Nat := 0x0110
def Ev.KEY_WRITE_FAILED : Nat := 0x0111
def Ev.WAKE : Nat := 0x0112
def Ev.SLEEP_ENTERED : Nat := 0x0113
def Ev.SHIP_ENTERED : Nat := 0x0114

/-! ### 03_clocks_and_arbitration.md -/

def Ev.XTAL_FAIL : Nat := 0x0201
def Ev.PLL_UNLOCK : Nat := 0x0202
def Ev.CLOCK_COUNT : Nat := 0x0203
def Ev.DISCIPLINE_LOCKED : Nat := 0x0204
def Ev.LOCK_LOST : Nat := 0x0205
def Ev.HOLDOVER_ENTERED : Nat := 0x0206
def Ev.HOLDOVER_EXPIRED : Nat := 0x0207
def Ev.CORRECTION_LIMIT : Nat := 0x0208
def Ev.ECC_CORRECTED : Nat := 0x0210
def Ev.ECC_UNCORRECTABLE : Nat := 0x0211

/-! ### 04_sampling.md -/

def Ev.SLICE_CAL_FAIL : Nat := 0x0401
def Ev.SLICE_RESTORED : Nat := 0x0402
def Ev.CAL_STALE : Nat := 0x0403
def Ev.SEQ_OVERRUN : Nat := 0x0404
def Ev.ACC_EMPTY : Nat := 0x0405
def Ev.INPUT_OVERRANGE : Nat := 0x0406
def Ev.DMA_OVERFLOW : Nat := 0x0407
def Ev.REF_FAULT : Nat := 0x0408
def Ev.RAIL_FAULT : Nat := 0x0409
def Ev.VAUX_RANGE : Nat := 0x040A
def Ev.HK_LIMIT : Nat := 0x040B
def Ev.BUFFER_FROZEN : Nat := 0x040C

/-! ### 06_position_feedback.md -/

def Ev.WIRE_FAULT : Nat := 0x0801
def Ev.SUPPLY_FAULT : Nat := 0x0802
def Ev.COUNT_ERROR : Nat := 0x0803
def Ev.HALL_INVALID : Nat := 0x0804
def Ev.HALL_SEQUENCE : Nat := 0x0805
def Ev.INDEX_UNEXPECTED : Nat := 0x0806
def Ev.INDEX_MISSING : Nat := 0x0807
def Ev.REF_ESTABLISHED : Nat := 0x0808
def Ev.RES_AMPLITUDE : Nat := 0x0809
def Ev.RES_TRACKING : Nat := 0x080A
def Ev.EXC_FAULT : Nat := 0x080B
def Ev.SSI_FRAME : Nat := 0x080C
def Ev.SSI_JUMP : Nat := 0x080D

/-! ### 07_control_engine.md -/

def Ev.SLOT_OVERRUN : Nat := 0x0901
def Ev.FOLLOWING_ERROR : Nat := 0x0902
def Ev.SP_LOST : Nat := 0x0903
def Ev.SP_RESTORED : Nat := 0x0904
def Ev.REF_LOST : Nat := 0x0905
def Ev.VOLTAGE_SATURATED : Nat := 0x0906
def Ev.CO_STALE : Nat := 0x0907
def Ev.MODE_CHANGED : Nat := 0x0908

/-! ### 08_pulse_generation.md -/

def Ev.LATE_COMMIT : Nat := 0x0C01
def Ev.CBC_TRIP : Nat := 0x0C02
def Ev.TRIP_LATCH : Nat := 0x0C03
def Ev.SYNC_LOCKED : Nat := 0x0C04
def Ev.SYNC_LOST : Nat := 0x0C05
def Ev.DLL_UNLOCK : Nat := 0x0C06
def Ev.DLL_RELOCKED : Nat := 0x0C07
def Ev.GUARD_CORRECTION : Nat := 0x0C08
def Ev.CARRIER_MODE_CHANGED : Nat := 0x0C09

/-! ### 09_pulse_engine_failover.md -/

def Ev.HANDOVER : Nat := 0x1001
def Ev.STANDBY_CONDEMNED : Nat := 0x1002
def Ev.UNDECIDED_MISMATCH : Nat := 0x1003
def Ev.PATH_MISMATCH : Nat := 0x1004
def Ev.ENGINES_EXHAUSTED : Nat := 0x1005
def Ev.INTERLOCK_FAULT : Nat := 0x1006
def Ev.SELF_TEST_PASSED : Nat := 0x1007
def Ev.SELF_TEST_FAILED : Nat := 0x1008
def Ev.SWITCH_BACK_DONE : Nat := 0x1009
def Ev.SYNC_FAILED : Nat := 0x100A
def Ev.START_SINGLE : Nat := 0x100B

/-! ### 10_gate_drive.md -/

def Ev.DESAT_TRIP : Nat := 0x1101
def Ev.SHORT_TRIP : Nat := 0x1102
def Ev.MULTI_LEG_TRIP : Nat := 0x1103
def Ev.GATE_UVLO : Nat := 0x1104
def Ev.LINK_FAULT : Nat := 0x1105
def Ev.START_FAIL : Nat := 0x1106
def Ev.SKEW_LIMIT : Nat := 0x1107

/-! ### 11_link_converter.md -/

def Ev.SOFT_START_DONE : Nat := 0x1501
def Ev.SOFT_START_INCOMPLETE : Nat := 0x1502
def Ev.SOFT_START_FAIL : Nat := 0x1503
def Ev.HICCUP : Nat := 0x1504
def Ev.PHASES_CHANGED : Nat := 0x1505
def Ev.SHED_ABORT : Nat := 0x1506
def Ev.MODE_ENTERED : Nat := 0x1507
def Ev.TAKEOVER : Nat := 0x1508
def Ev.HANDBACK : Nat := 0x1509
def Ev.LINK_OV : Nat := 0x150A
def Ev.LINK_UV : Nat := 0x150B
def Ev.PHASE_IMBALANCE : Nat := 0x150C
def Ev.SYNC_FREE : Nat := 0x150D

/-! ### 12_charger.md -/

def Ev.SOURCE_QUALIFIED : Nat := 0x1601
def Ev.SOURCE_LOST : Nat := 0x1602
def Ev.TAKEOVER_SAG : Nat := 0x1603
def Ev.HANDBACK_DONE : Nat := 0x1604
def Ev.SAG_UNSUPPORTED : Nat := 0x1605
def Ev.VIN_REGULATING : Nat := 0x1606
def Ev.PRECHARGE_LOW : Nat := 0x1607
def Ev.CHARGE_STARTED : Nat := 0x1608
def Ev.CHARGE_PAUSED : Nat := 0x1609
def Ev.CHARGE_ENDED : Nat := 0x160A
def Ev.SAFETY_TIMER : Nat := 0x160B
def Ev.BMS_LOST : Nat := 0x160C
def Ev.PFC_OV : Nat := 0x160D
def Ev.BATT_OV : Nat := 0x160E
def Ev.BATT_OC : Nat := 0x160F
def Ev.DAB_FLUX : Nat := 0x1610

/-! ### 13_gearbox_actuators.md -/

def Ev.ARRIVED : Nat := 0x1701
def Ev.ACT_TIMEOUT : Nat := 0x1702
def Ev.ACT_BLOCKED : Nat := 0x1703
def Ev.ACT_DRIFT : Nat := 0x1704
def Ev.HOLD_OVERCURRENT : Nat := 0x1705
def Ev.PARK_REFUSED : Nat := 0x1706
def Ev.COMPARE_FIRED : Nat := 0x1707
def Ev.COMPARE_BEHIND : Nat := 0x1708
def Ev.VACT_LOW : Nat := 0x1709
def Ev.VACT_HIGH : Nat := 0x170A

/-! ### 14_safety_functions.md -/

def Ev.STO_REQUEST : Nat := 0x1801
def Ev.STO_RELEASED : Nat := 0x1802
def Ev.STO_DISCREPANCY : Nat := 0x1803
def Ev.PATH_DISAGREE : Nat := 0x1804
def Ev.STO_TEST_FAIL : Nat := 0x1805
def Ev.STO_TEST_DUE : Nat := 0x1806
def Ev.SBC_REQUEST : Nat := 0x1807
def Ev.SBC_RELEASED : Nat := 0x1808
def Ev.SBC_DISCREPANCY : Nat := 0x1809
def Ev.BRAKE_OUTPUT_FAULT : Nat := 0x180A
def Ev.BRAKE_TEST_PASSED : Nat := 0x180B
def Ev.BRAKE_TEST_FAILED : Nat := 0x180C
def Ev.BRAKE_TEST_ABORTED : Nat := 0x180D
def Ev.BRAKE_TEST_DUE : Nat := 0x180E
def Ev.CONTACTOR_MISMATCH : Nat := 0x180F
def Ev.CONTACTOR_WELDED : Nat := 0x1810
def Ev.PRECHARGE_TIMEOUT : Nat := 0x1811
def Ev.PRECHARGE_INCONCLUSIVE : Nat := 0x1812
def Ev.CLOSE_REFUSED : Nat := 0x1813

/-! ### 15_supervisor_cores.md -/

def Ev.INJECTION_TEST_FAIL : Nat := 0x1901
def Ev.S_MISMATCH : Nat := 0x1902
def Ev.S_WATCHDOG : Nat := 0x1903
def Ev.WARM_RESTART_DONE : Nat := 0x1904
def Ev.HOLD_EXPIRED : Nat := 0x1905
def Ev.S_REPEAT_MISMATCH : Nat := 0x1906
def Ev.STATE_LOST : Nat := 0x1907
def Ev.V_MISMATCH : Nat := 0x1908
def Ev.V_WATCHDOG : Nat := 0x1909
def Ev.V_RESTART_DONE : Nat := 0x190A
def Ev.V_SPLIT : Nat := 0x190B
def Ev.V_JOINED : Nat := 0x190C
def Ev.JOIN_FAILED : Nat := 0x190D
def Ev.REPORTS_LOST : Nat := 0x190E
def Ev.DEBUG_ATTACHED : Nat := 0x190F

/-! ### 05_thermal.md -/

def Ev.TH_WARN : Nat := 0x1A01
def Ev.TH_DERATE : Nat := 0x1A02
def Ev.TH_SHUTDOWN : Nat := 0x1A03
def Ev.TH_RELEASED : Nat := 0x1A04
def Ev.TH_COLD_DRIVE : Nat := 0x1A05
def Ev.TH_COLD_CHARGE : Nat := 0x1A06
def Ev.SENSOR_BROKEN : Nat := 0x1A07
def Ev.SENSOR_RESTORED : Nat := 0x1A08
def Ev.NO_ESTIMATE : Nat := 0x1A09

/-! ### 16_event_recorder.md -/

def Ev.LOG_CLEARED : Nat := 0x1B01
def Ev.LOG_FILL_WARN : Nat := 0x1B02
def Ev.LOG_FULL : Nat := 0x1B03
def Ev.CORRUPT_RECORD : Nat := 0x1B04
def Ev.VAUX_LOST : Nat := 0x1B05
def Ev.MGMT_REPAIRED : Nat := 0x1B06

/-! ### 17_fabric_links_and_discovery.md -/

def Ev.LINK_UP : Nat := 0x1C01
def Ev.LINK_DOWN : Nat := 0x1C02
def Ev.PORT_BLOCKED : Nat := 0x1C03
def Ev.LOOPBACK : Nat := 0x1C04
def Ev.ROOT_CHANGED : Nat := 0x1C05
def Ev.ROOT_LOST : Nat := 0x1C06
def Ev.ADDRESS_ASSIGNED : Nat := 0x1C07
def Ev.ADDRESS_REFUSED : Nat := 0x1C08
def Ev.NODE_JOINED : Nat := 0x1C09
def Ev.NODE_LEFT : Nat := 0x1C0A
def Ev.COLONY_OVERSIZE : Nat := 0x1C0B

/-! ### 18_fabric_routing_and_cycle.md -/

def Ev.MASTER_ASSUMED : Nat := 0x1C0C
def Ev.MASTER_CHANGED : Nat := 0x1C0D
def Ev.CYCLE_STEPPED : Nat := 0x1C0E
def Ev.RING_BROKEN : Nat := 0x1C0F
def Ev.RING_RESTORED : Nat := 0x1C10
def Ev.LATENCY_UNMET : Nat := 0x1C11
def Ev.LATENCY_MET : Nat := 0x1C12
def Ev.SIGNAL_REFUSED : Nat := 0x1C13

/-! ### 19_can_channels.md -/

def Ev.ERROR_PASSIVE : Nat := 0x1E01
def Ev.BUS_OFF : Nat := 0x1E02
def Ev.BUS_RECOVERED : Nat := 0x1E03
def Ev.AUTO_SUSPENDED : Nat := 0x1E04
def Ev.RX_OVERFLOW : Nat := 0x1E05
def Ev.TX_FULL : Nat := 0x1E06
def Ev.ACK_LAPSED : Nat := 0x1E07
def Ev.MAP_REFUSED : Nat := 0x1E08
def Ev.ADDRESS_CLAIMED : Nat := 0x1E09
def Ev.ADDRESS_LOST : Nat := 0x1E0A
def Ev.CANNOT_CLAIM : Nat := 0x1E0B

/-! ### 20_host_services.md -/

def Ev.AUTH_FAILED : Nat := 0x1F01
def Ev.AUTH_LOCKOUT : Nat := 0x1F02
def Ev.AUTH_ACCEPTED : Nat := 0x1F03

/-- The event high bytes in ascending order (R712); the position is the sub-index w. -/
def Ev.highs : List Nat :=
  [0x01, 0x02, 0x04, 0x08, 0x09, 0x0C, 0x10, 0x11, 0x15, 0x16, 0x17, 0x18, 0x19, 0x1A, 0x1B, 0x1C, 0x1E, 0x1F]

/-- The low bytes of the codes that the chapter of high byte hi defines. -/
def Ev.lows (hi : Nat) : List Nat :=
  if hi = 0x01 then List.range' 1 12 ++ List.range' 15 6
  else if hi = 0x02 then List.range' 1 8 ++ List.range' 16 2
  else if hi = 0x04 then List.range' 1 12
  else if hi = 0x08 then List.range' 1 13
  else if hi = 0x09 then List.range' 1 8
  else if hi = 0x0C then List.range' 1 9
  else if hi = 0x10 then List.range' 1 11
  else if hi = 0x11 then List.range' 1 7
  else if hi = 0x15 then List.range' 1 13
  else if hi = 0x16 then List.range' 1 16
  else if hi = 0x17 then List.range' 1 10
  else if hi = 0x18 then List.range' 1 19
  else if hi = 0x19 then List.range' 1 15
  else if hi = 0x1A then List.range' 1 9
  else if hi = 0x1B then List.range' 1 6
  else if hi = 0x1C then List.range' 1 19
  else if hi = 0x1E then List.range' 1 11
  else if hi = 0x1F then List.range' 1 3
  else []

/-- A code that some chapter defines. -/
def Ev.isDefined (code : Nat) : Bool := (Ev.lows (code / 256)).contains (code % 256)

/-- The sub-index w of a code's high byte in STATE.FAULT, STATE.SEEN and ATTN.MASK (R712). -/
def Ev.w (code : Nat) : Nat := Ev.highs.idxOf (code / 256)

/-- The bit b of a code in its word: the bit of low byte b + 1 (Table 21-9). -/
def Ev.b (code : Nat) : Nat := code % 256 - 1

/-- The code that bit b of word w stands for. -/
def Ev.code (w b : Nat) : Nat := Ev.highs.getD w 0 * 256 + b + 1

end Sys2Proof
end

