-- ==== Sys2Proof/Machine/Ed25519.lean ====
section
/-!
DEFINITION. PureEdDSA Ed25519 of RFC 8032, which R72 and R696 name: SHA-512, the field of 2^255 - 19, the group of the curve, and the
verification of a signature against the owner public key of the fuses.
-/

namespace Sys2Proof.Machine

/-! ### SHA-512 -/

/-- The largest x of at most `fuel` bits with x^k ≤ n. -/
def rootBelow (k n : Nat) : Nat → Nat → Nat
  | 0, x => x
  | fuel + 1, x => rootBelow k n fuel (if (x + 2 ^ fuel) ^ k ≤ n then x + 2 ^ fuel else x)

/-- The first 80 primes. -/
def shaPrimes : List Nat := (List.range 410).filter fun p => 2 ≤ p && (List.range' 2 19).all fun d => p ≤ d || p % d != 0

/-- The first 64 bits of the fractional part of the k-th root of a number. -/
def rootFrac (k p : Nat) : BitVec 64 := BitVec.ofNat 64 (rootBelow k (p * 2 ^ (64 * k)) 70 0)

/-- The constants of the 80 rounds and the initial hash value. -/
def shaK : List (BitVec 64) := shaPrimes.map (rootFrac 3)
def shaInit : List (BitVec 64) := (shaPrimes.take 8).map (rootFrac 2)

/-- A number from big-endian bytes, and its bytes. -/
def bigEndian (l : List Byte) : Nat := l.foldl (fun a b => a * 256 + b.toNat) 0
def beBytes (n v : Nat) : List Byte := (List.range n).map fun i => BitVec.ofNat 8 (v / 256 ^ (n - 1 - i))

/-- The message schedule, newest word first. -/
def shaSchedule : Nat → List (BitVec 64) → List (BitVec 64)
  | 0, w => w
  | n + 1, w =>
    let a := w.getD 14 0
    let b := w.getD 1 0
    let s0 := a.rotateRight 1 ^^^ a.rotateRight 8 ^^^ a >>> 7
    let s1 := b.rotateRight 19 ^^^ b.rotateRight 61 ^^^ b >>> 6
    shaSchedule n ((s1 + w.getD 6 0 + s0 + w.getD 15 0) :: w)

/-- One round on the eight working variables, with a constant and a schedule word. -/
def shaRound (v : List (BitVec 64)) (x : BitVec 64 × BitVec 64) : List (BitVec 64) := match v with
  | [a, b, c, d, e, f, g, h] =>
    let t1 := h + (e.rotateRight 14 ^^^ e.rotateRight 18 ^^^ e.rotateRight 41) + ((e &&& f) ^^^ (~~~e &&& g)) + x.1 + x.2
    let t2 := (a.rotateRight 28 ^^^ a.rotateRight 34 ^^^ a.rotateRight 39) + ((a &&& b) ^^^ (a &&& c) ^^^ (b &&& c))
    [t1 + t2, a, b, c, d + t1, e, f, g]
  | v => v

/-- One block of 128 bytes. -/
def shaBlock (h : List (BitVec 64)) (block : List Byte) : List (BitVec 64) :=
  let w := (List.range 16).map fun i => BitVec.ofNat 64 (bigEndian ((block.drop (8 * i)).take 8))
  let v := (shaK.zip (shaSchedule 64 w.reverse).reverse).foldl shaRound h
  (h.zip v).map fun x => x.1 + x.2

/-- SHA-512 (FIPS 180-4). -/
def sha512 (m : List Byte) : List Byte :=
  let zeros := List.replicate ((239 - m.length % 128) % 128) (0 : Byte)
  let p := m ++ [0x80] ++ zeros ++ beBytes 16 (8 * m.length)
  let h := (List.range (p.length / 128)).foldl (fun h i => shaBlock h ((p.drop (128 * i)).take 128)) shaInit
  h.flatMap fun x => beBytes 8 x.toNat

/-! ### The curve (RFC 8032, 5.1) -/

/-- The prime of the field and the order of the base point. -/
def edP : Nat := 2 ^ 255 - 19
def edL : Nat := 2 ^ 252 + 27742317777372353535851937790883648493

/-- A power modulo the prime, for an exponent of at most `fuel` bits. -/
def edPow : Nat → Nat → Nat → Nat
  | 0, _, _ => 1
  | fuel + 1, b, e =>
    let r := edPow fuel (b * b % edP) (e / 2)
    if e % 2 = 1 then r * b % edP else r

def edInv (x : Nat) : Nat := edPow 256 x (edP - 2)
def edSub (a b : Nat) : Nat := (a + edP - b % edP) % edP

/-- d = -121665 / 121666. -/
def edD : Nat := edSub 0 (121665 * edInv 121666)

/-- A point in extended homogeneous coordinates. -/
structure EdPoint where
  x : Nat
  y : Nat
  z : Nat
  t : Nat

/-- The neutral element. -/
def edZero : EdPoint := { x := 0, y := 1, z := 1, t := 0 }

/-- The complete addition of RFC 8032, 5.1.4. -/
def edAdd (p q : EdPoint) : EdPoint :=
  let a := edSub p.y p.x * edSub q.y q.x % edP
  let b := (p.y + p.x) * (q.y + q.x) % edP
  let c := p.t * 2 * edD % edP * q.t % edP
  let d := p.z * 2 * q.z % edP
  let e := edSub b a
  let f := edSub d c
  let g := (d + c) % edP
  let h := (b + a) % edP
  { x := e * f % edP, y := g * h % edP, z := f * g % edP, t := e * h % edP }

/-- A multiple of a point, for a number of at most `fuel` bits. -/
def edMul : Nat → Nat → EdPoint → EdPoint
  | 0, _, _ => edZero
  | fuel + 1, n, p =>
    let r := edMul fuel (n / 2) (edAdd p p)
    if n % 2 = 1 then edAdd r p else r

/-- Two points are equal. -/
def edEq (p q : EdPoint) : Bool := p.x * q.z % edP == q.x * p.z % edP && p.y * q.z % edP == q.y * p.z % edP

/-- The point of a y coordinate and the sign of x (RFC 8032, 5.1.3). -/
def edPointOf (y sign : Nat) : Option EdPoint :=
  if edP ≤ y then none
  else
    let u := edSub (y * y) 1
    let v := (edD * (y * y % edP) + 1) % edP
    let w := u * edPow 3 v 3 % edP
    let x := w * edPow 256 (w * edPow 3 v 4) ((edP - 5) / 8) % edP
    let root := if v * (x * x % edP) % edP = u then some x
      else if v * (x * x % edP) % edP = edSub 0 u then some (x * edPow 256 2 ((edP - 1) / 4) % edP) else none
    match root with
    | none => none
    | some x =>
      if x = 0 ∧ sign = 1 then none
      else
        let x := if x % 2 = sign then x else edSub 0 x
        some { x := x, y := y, z := 1, t := x * y % edP }

/-- The base point: y = 4/5, x even. -/
def edBase : EdPoint := (edPointOf (4 * edInv 5 % edP) 0).getD edZero

/-- A number from little-endian bytes. -/
def littleEndian (l : List Byte) : Nat := bigEndian l.reverse

/-- The point that 32 bytes encode. -/
def edDecode (l : List Byte) : Option EdPoint :=
  let n := littleEndian l
  edPointOf (n % 2 ^ 255) (n / 2 ^ 255)

/-- The verification of RFC 8032, 5.1.7. Its last step allows the group equation with or without the cofactor 8 (log entry 6). -/
def edVerify (key message sig : List Byte) : Bool :=
  let s := littleEndian (sig.drop 32)
  match edDecode key, edDecode (sig.take 32) with
  | some a, some r =>
    if sig.length != 64 || edL ≤ s then false
    else
      let k := littleEndian (sha512 (sig.take 32 ++ key ++ message)) % edL
      let l := edMul 256 s edBase
      let rhs := edAdd r (edMul 256 k a)
      if Config.cofactorless then edEq l rhs else edEq (edMul 4 8 l) (edMul 4 8 rhs)
  | _, _ => false

/-! ### The owner public key -/

/-- The owner public key in the fuses (R72). -/
def ownerKey : List Byte := (beBytes 32 (Config.ownerKey % 2 ^ 256))

/-- Whether a signature verifies against the owner public key (R72, R696). -/
def ownerSigned (message sig : List Byte) : Bool := edVerify ownerKey message sig

/-- The first 8 bytes of the SHA-512 hash of the owner public key, as two little-endian words (Table 2-2, R710). -/
def ownerFp (i : Nat) : Nat := littleEndian (((sha512 ownerKey).drop (4 * i)).take 4)

end Sys2Proof.Machine
end

