-- ==== Sys2Proof/Machine/Map.lean ====
section
/-!
DEFINITION. The parameter map: every parameter word of R706 (Table 21-1) with its fields, their access class
(R22), default or reset value (R30, R76) and admitted values, taken from the parameter and field tables of the
chapters. A field's name is the spec's: `Reg.SLOT_TYPE_LANE` is field LANE of SLOTnn.TYPE. The key of a word
is 256 x index + sub-index (R20).
-/

namespace Sys2Proof

/-- The access classes of Table 0-2 (R22); AUTH is carried by no field of the map. -/
inductive Access where
  | ro | rw | rwo | cfg | w1c
  deriving DecidableEq, Repr

/-- The values a field admits: any value of its width; a range; a list; a range or one further value; a Q1.15 word (R14)
within a range; the SOURCE codes of Table 7-11. -/
inductive Rng where
  | any
  | nat (lo hi : Nat)
  | oneOf (l : List Nat)
  | natOr (lo hi x : Nat)
  | q15 (lo hi : Int)
  | source
  deriving DecidableEq, Repr

/-- One field: the key of its word for instance 0, the key step per instance and per further sub-index, its bits hi:lo,
its class, its default or reset value and what it admits. -/
structure Fld where
  base : Nat
  kn   : Nat
  kj   : Nat
  hi   : Nat
  lo   : Nat
  cls  : Access
  dflt : Nat
  rng  : Rng
  deriving DecidableEq, Repr

/-- The key of the field's word for instance n and further sub-index j. -/
def Fld.key (f : Fld) (n : Nat) (j : Nat := 0) : Nat := f.base + f.kn * n + f.kj * j

/-- The width of the field in bits. -/
def Fld.width (f : Fld) : Nat := f.hi - f.lo + 1

/-- A family of words with the same fields: n instances, each of j sub-indices. -/
structure WordDef where
  base : Nat
  kn   : Nat
  n    : Nat
  kj   : Nat
  j    : Nat
  cls  : Access
  flds : List Fld
  deriving DecidableEq, Repr


/-! ### Fields of 02_start_and_comb_image.md -/

def Reg.START_KEY_STATUS_SLOT : Fld := ⟨0x010000, 0x0, 0x1, 1, 0, .ro, 0, .any⟩
def Reg.START_KEY_STATUS_READ_MODE : Fld := ⟨0x010000, 0x0, 0x1, 3, 2, .ro, 0, .any⟩
def Reg.START_KEY_STATUS_CAUSE : Fld := ⟨0x010000, 0x0, 0x1, 7, 4, .ro, 0, .any⟩
def Reg.START_KEY_STATUS_SLOT_A_HDR : Fld := ⟨0x010000, 0x0, 0x1, 8, 8, .ro, 0, .any⟩
def Reg.START_KEY_STATUS_SLOT_B_HDR : Fld := ⟨0x010000, 0x0, 0x1, 9, 9, .ro, 0, .any⟩
def Reg.START_KEY_STATUS_REREAD : Fld := ⟨0x010000, 0x0, 0x1, 10, 10, .ro, 0, .any⟩
def Reg.START_KEY_STATUS_EARLY_CAN : Fld := ⟨0x010000, 0x0, 0x1, 11, 11, .ro, 0, .any⟩
def Reg.START_KEY_STATUS_KEY_CHANGED : Fld := ⟨0x010000, 0x0, 0x1, 12, 12, .ro, 0, .any⟩
def Reg.START_KEY_STATUS_PROTECTED : Fld := ⟨0x010000, 0x0, 0x1, 13, 13, .ro, 0, .any⟩
def Reg.START_KEY_STATUS_CAPACITY : Fld := ⟨0x010000, 0x0, 0x1, 23, 16, .ro, 0, .any⟩
def Reg.START_IMAGE_GEN : Fld := ⟨0x010100, 0x0, 0x1, 31, 0, .ro, 0, .any⟩
def Reg.START_IMAGE_ID : Fld := ⟨0x010200, 0x0, 0x1, 31, 0, .ro, 0, .any⟩
def Reg.START_IMAGE_CRC : Fld := ⟨0x010300, 0x0, 0x1, 31, 0, .ro, 0, .any⟩
def Reg.START_MACHINE_TYPE : Fld := ⟨0x010400, 0x0, 0x1, 31, 0, .ro, 0, .any⟩
def Reg.START_TIMES_VERIFIED_AT : Fld := ⟨0x010500, 0x0, 0x1, 15, 0, .ro, 0, .any⟩
def Reg.START_TIMES_READY_AT : Fld := ⟨0x010500, 0x0, 0x1, 31, 16, .ro, 0, .any⟩
def Reg.START_CAN_DROPPED : Fld := ⟨0x010600, 0x1, 0x0, 31, 0, .ro, 0, .any⟩
def Reg.START_CAN_OVERFLOW : Fld := ⟨0x010700, 0x1, 0x0, 31, 0, .ro, 0, .any⟩
def Reg.START_CAN_STALE : Fld := ⟨0x010800, 0x1, 0x0, 31, 0, .ro, 0, .any⟩
def Reg.START_NOT_READY_DROPPED : Fld := ⟨0x010900, 0x0, 0x1, 31, 0, .ro, 0, .any⟩
def Reg.START_SLEEP_IDLE : Fld := ⟨0x011000, 0x0, 0x1, 31, 0, .cfg, 0, .nat 0 86400⟩
def Reg.START_WAKE_SOURCES_CAN_WAKE : Fld := ⟨0x011100, 0x0, 0x1, 3, 0, .cfg, 0xF, .any⟩
def Reg.START_WAKE_SOURCES_FABRIC_WAKE : Fld := ⟨0x011100, 0x0, 0x1, 7, 4, .cfg, 0xF, .any⟩
def Reg.START_WAKE_SOURCES_WAKE_PIN : Fld := ⟨0x011100, 0x0, 0x1, 8, 8, .ro, 1, .any⟩
def Reg.START_KEY_CHECK_PERIOD : Fld := ⟨0x011200, 0x0, 0x1, 7, 0, .cfg, 1, .nat 0 60⟩
def Reg.START_KEY_CHECK_REACTION : Fld := ⟨0x011200, 0x0, 0x1, 11, 8, .cfg, 0, .oneOf [0, 3, 7]⟩
def Reg.START_PENDING_GEN : Fld := ⟨0x011300, 0x0, 0x1, 31, 0, .ro, 0, .any⟩
def Reg.START_KEY_WRITE_STATUS_STATE : Fld := ⟨0x011400, 0x0, 0x1, 3, 0, .ro, 0, .any⟩
def Reg.START_KEY_WRITE_STATUS_FAIL : Fld := ⟨0x011400, 0x0, 0x1, 7, 4, .ro, 0, .any⟩
def Reg.START_KEY_WRITE_STATUS_PROGRESS : Fld := ⟨0x011400, 0x0, 0x1, 15, 8, .ro, 0, .any⟩
def Reg.START_KEY_WRITE_STATUS_TARGET : Fld := ⟨0x011400, 0x0, 0x1, 16, 16, .ro, 0, .any⟩
def Reg.START_WAKE_CAUSE_SOURCE : Fld := ⟨0x011500, 0x0, 0x1, 3, 0, .ro, 0, .any⟩
def Reg.START_WAKE_CAUSE_UNIT : Fld := ⟨0x011500, 0x0, 0x1, 7, 4, .ro, 0, .any⟩

/-! ### Fields of 03_clocks_and_arbitration.md -/

def Reg.CLK_STATUS_STATE : Fld := ⟨0x020000, 0x0, 0x1, 1, 0, .ro, 0, .any⟩
def Reg.CLK_STATUS_PLL_LOCK : Fld := ⟨0x020000, 0x0, 0x1, 2, 2, .ro, 0, .any⟩
def Reg.CLK_STATUS_ON_BACKUP : Fld := ⟨0x020000, 0x0, 0x1, 3, 3, .ro, 0, .any⟩
def Reg.CLK_STATUS_XTAL_FAIL : Fld := ⟨0x020000, 0x0, 0x1, 4, 4, .ro, 0, .any⟩
def Reg.CLK_STATUS_PLL_FAIL : Fld := ⟨0x020000, 0x0, 0x1, 5, 5, .ro, 0, .any⟩
def Reg.CLK_STATUS_COUNT_FAIL : Fld := ⟨0x020000, 0x0, 0x1, 6, 6, .ro, 0, .any⟩
def Reg.CLK_STATUS_CORR_LIMIT : Fld := ⟨0x020000, 0x0, 0x1, 7, 7, .ro, 0, .any⟩
def Reg.CLK_STATUS_FAILED_CLOCK : Fld := ⟨0x020000, 0x0, 0x1, 10, 8, .ro, 7, .any⟩
def Reg.CLK_STATUS_HOLDOVER_S : Fld := ⟨0x020000, 0x0, 0x1, 31, 16, .ro, 0, .any⟩
def Reg.CLK_DISCIPLINE_ENABLE : Fld := ⟨0x020100, 0x0, 0x1, 0, 0, .cfg, 1, .any⟩
def Reg.CLK_DISCIPLINE_BW : Fld := ⟨0x020100, 0x0, 0x1, 2, 1, .cfg, 1, .nat 0 2⟩
def Reg.CLK_DISCIPLINE_HOLDOVER_LIMIT : Fld := ⟨0x020100, 0x0, 0x1, 15, 8, .cfg, 0x3C, .nat 1 255⟩
def Reg.CLK_DISCIPLINE_LOSS_REACTION : Fld := ⟨0x020100, 0x0, 0x1, 19, 16, .cfg, 0, .oneOf [0, 1, 3]⟩
def Reg.CLK_DISCIPLINE_LOSS_STAGES : Fld := ⟨0x020100, 0x0, 0x1, 26, 20, .cfg, 0x7F, .any⟩
def Reg.CLK_FAULT_CLOCK_REACTION : Fld := ⟨0x020200, 0x0, 0x1, 3, 0, .cfg, 7, .oneOf [4, 7]⟩
def Reg.CLK_FAULT_ECC_REACTION : Fld := ⟨0x020200, 0x0, 0x1, 7, 4, .cfg, 7, .oneOf [3, 4, 7]⟩
def Reg.CLK_CORRECTION : Fld := ⟨0x020300, 0x0, 0x1, 31, 0, .ro, 0, .any⟩
def Reg.CLK_PHASE_ERROR : Fld := ⟨0x020400, 0x0, 0x1, 31, 0, .ro, 0, .any⟩
def Reg.CLK_LOCK_LOSSES : Fld := ⟨0x020500, 0x0, 0x1, 31, 0, .ro, 0, .any⟩
def Reg.ARB_MAX_WAIT : Fld := ⟨0x021000, 0x1, 0x0, 31, 0, .ro, 0, .any⟩
def Reg.ARB_SHAPED : Fld := ⟨0x021100, 0x1, 0x0, 31, 0, .ro, 0, .any⟩
def Reg.ARB_ECC_CORRECTED : Fld := ⟨0x021200, 0x0, 0x1, 31, 0, .ro, 0, .any⟩
def Reg.ARB_ECC_UNCORRECTABLE : Fld := ⟨0x021300, 0x0, 0x1, 31, 0, .ro, 0, .any⟩
def Reg.ARB_DEMAND : Fld := ⟨0x021400, 0x1, 0x0, 31, 0, .ro, 0, .any⟩

/-! ### Fields of 04_sampling.md -/

def Reg.SMP_CORE_STATUS_CAL_SLICE : Fld := ⟨0x040000, 0x1, 0x0, 3, 0, .ro, 0, .any⟩
def Reg.SMP_CORE_STATUS_FAILED : Fld := ⟨0x040000, 0x1, 0x0, 12, 4, .ro, 0, .any⟩
def Reg.SMP_CORE_STATUS_DEGRADED : Fld := ⟨0x040000, 0x1, 0x0, 13, 13, .ro, 0, .any⟩
def Reg.SMP_CORE_STATUS_STALE : Fld := ⟨0x040000, 0x1, 0x0, 14, 14, .ro, 0, .any⟩
def Reg.SMP_CORE_STATUS_SUBST : Fld := ⟨0x040000, 0x1, 0x0, 15, 15, .ro, 0, .any⟩
def Reg.SMP_CORE_STATUS_ENTRY : Fld := ⟨0x040000, 0x1, 0x0, 23, 16, .ro, 0, .any⟩
def Reg.SMP_CORE_STATUS_REF_FAULT : Fld := ⟨0x040000, 0x1, 0x0, 24, 24, .ro, 0, .any⟩
def Reg.SMP_CORE_CFG_TABLE_LEN : Fld := ⟨0x040100, 0x1, 0x0, 8, 0, .cfg, 0, .nat 0 256⟩
def Reg.SMP_CORE_CFG_IDLE_PERIOD : Fld := ⟨0x040100, 0x1, 0x0, 21, 12, .cfg, 0x32, .nat 10 1000⟩
def Reg.SMP_FAULT_OVERRUN_REACTION : Fld := ⟨0x040200, 0x1, 0x0, 3, 0, .cfg, 0, .oneOf [0, 1, 3, 4, 6, 7]⟩
def Reg.SMP_FAULT_STALE_REACTION : Fld := ⟨0x040200, 0x1, 0x0, 7, 4, .cfg, 0, .oneOf [0, 1, 3, 4, 6, 7]⟩
def Reg.SMP_FAULT_REF_REACTION : Fld := ⟨0x040200, 0x1, 0x0, 11, 8, .cfg, 4, .oneOf [0, 1, 3, 4, 6, 7]⟩
def Reg.SMP_FAULT_STALE_LIMIT : Fld := ⟨0x040200, 0x1, 0x0, 25, 16, .cfg, 0x3C, .nat 1 600⟩
def Reg.SMP_OVERRUNS : Fld := ⟨0x040300, 0x1, 0x0, 31, 0, .ro, 0, .any⟩
def Reg.SMP_DMA_LOST : Fld := ⟨0x040400, 0x1, 0x0, 31, 0, .ro, 0, .any⟩
def Reg.SMP_CAL_FAILS : Fld := ⟨0x040500, 0x1, 0x0, 31, 0, .ro, 0, .any⟩
def Reg.SMP_AI_OVR : Fld := ⟨0x040600, 0x1, 0x0, 31, 0, .w1c, 0, .any⟩
def Reg.SMP_AI_OVR_HI : Fld := ⟨0x040602, 0x0, 0x1, 15, 0, .w1c, 0, .any⟩
def Reg.SMP_AI_CFG_OVR_FILTER : Fld := ⟨0x050000, 0x100, 0x1, 7, 0, .cfg, 8, .nat 1 255⟩
def Reg.SMP_AI_CFG_OVR_REACTION : Fld := ⟨0x050000, 0x100, 0x1, 11, 8, .cfg, 0, .oneOf [0, 1, 3, 4, 6, 7]⟩
def Reg.SMP_ACC_CFG_LATCH_SRC : Fld := ⟨0x060000, 0x100, 0x1, 2, 0, .cfg, 0, .any⟩
def Reg.SMP_ACC_CFG_LATCH_EVT : Fld := ⟨0x060000, 0x100, 0x1, 4, 3, .cfg, 0, .any⟩
def Reg.SMP_ACC_CFG_OWNER : Fld := ⟨0x060000, 0x100, 0x1, 7, 5, .cfg, 7, .any⟩
def Reg.SMP_ACC_CFG_EMPTY_REACTION : Fld := ⟨0x060000, 0x100, 0x1, 11, 8, .cfg, 0, .nat 0 7⟩
def Reg.SMP_ACC_CFG_MIN_COUNT : Fld := ⟨0x060000, 0x100, 0x1, 31, 12, .cfg, 1, .nat 1 1048575⟩
def Reg.SMP_ACC_AVG : Fld := ⟨0x060001, 0x100, 0x1, 31, 0, .ro, 0, .any⟩
def Reg.SMP_ACC_STATUS_COUNT : Fld := ⟨0x060002, 0x100, 0x1, 19, 0, .ro, 0, .any⟩
def Reg.SMP_ACC_STATUS_STALE : Fld := ⟨0x060002, 0x100, 0x1, 20, 20, .ro, 0, .any⟩
def Reg.SMP_ACC_STATUS_FULL : Fld := ⟨0x060002, 0x100, 0x1, 21, 21, .ro, 0, .any⟩
def Reg.SMP_ACC_SUM_LO : Fld := ⟨0x060003, 0x100, 0x1, 31, 0, .ro, 0, .any⟩
def Reg.SMP_ACC_SUM_HI : Fld := ⟨0x060004, 0x100, 0x1, 31, 0, .ro, 0, .any⟩
def Reg.SMP_ACC_LATCH_NO : Fld := ⟨0x060005, 0x100, 0x1, 31, 0, .ro, 0, .any⟩
def Reg.SMP_BUF_CFG_BASE : Fld := ⟨0x070000, 0x100, 0x1, 12, 0, .cfg, 0, .any⟩
def Reg.SMP_BUF_CFG_SIZE_LOG2 : Fld := ⟨0x070000, 0x100, 0x1, 19, 16, .cfg, 0, .natOr 6 16 0⟩
def Reg.SMP_BUF_CFG_TRIG_EN : Fld := ⟨0x070000, 0x100, 0x1, 20, 20, .cfg, 0, .any⟩
def Reg.SMP_BUF_WRPTR_INDEX : Fld := ⟨0x070001, 0x100, 0x1, 15, 0, .ro, 0, .any⟩
def Reg.SMP_BUF_WRPTR_WRAPS : Fld := ⟨0x070001, 0x100, 0x1, 31, 16, .ro, 0, .any⟩
def Reg.SMP_BUF_CONTROL_FREEZE : Fld := ⟨0x070002, 0x100, 0x1, 0, 0, .rw, 0, .any⟩
def Reg.SMP_BUF_CONTROL_FROZEN : Fld := ⟨0x070002, 0x100, 0x1, 1, 1, .ro, 0, .any⟩
def Reg.SMP_BUF_CONTROL_POST : Fld := ⟨0x070002, 0x100, 0x1, 31, 16, .rw, 0x400, .any⟩
def Reg.HK_CFG_PERIOD : Fld := ⟨0x078000, 0x0, 0x1, 6, 0, .cfg, 0xA, .nat 5 100⟩
def Reg.HK_CFG_RAIL_REACTION : Fld := ⟨0x078000, 0x0, 0x1, 11, 8, .cfg, 7, .oneOf [3, 4, 7]⟩
def Reg.HK_MASK : Fld := ⟨0x078100, 0x0, 0x1, 31, 0, .cfg, 0, .any⟩
def Reg.HK_MASK_HI : Fld := ⟨0x078101, 0x0, 0x1, 15, 0, .cfg, 0, .any⟩
def Reg.HK_MASK_FIXED : Fld := ⟨0x078101, 0x0, 0x1, 31, 16, .ro, 0xFFFF, .any⟩
def Reg.HK_ROUNDS : Fld := ⟨0x078200, 0x0, 0x1, 31, 0, .ro, 0, .any⟩
def Reg.HK_P_RESULT_CODE : Fld := ⟨0x07C000, 0x100, 0x1, 11, 0, .ro, 0, .any⟩
def Reg.HK_P_RESULT_VALID : Fld := ⟨0x07C000, 0x100, 0x1, 12, 12, .ro, 0, .any⟩
def Reg.HK_P_RESULT_OUT : Fld := ⟨0x07C000, 0x100, 0x1, 13, 13, .ro, 0, .any⟩
def Reg.HK_P_RESULT_CAUSE : Fld := ⟨0x07C000, 0x100, 0x1, 14, 14, .ro, 0, .any⟩
def Reg.HK_P_RESULT_ROUND : Fld := ⟨0x07C000, 0x100, 0x1, 31, 16, .ro, 0, .any⟩
def Reg.HK_P_LIMITS_LOW : Fld := ⟨0x07C001, 0x100, 0x1, 11, 0, .cfg, 0, .any⟩
def Reg.HK_P_LIMITS_FILTER : Fld := ⟨0x07C001, 0x100, 0x1, 15, 12, .cfg, 3, .nat 1 15⟩
def Reg.HK_P_LIMITS_HIGH : Fld := ⟨0x07C001, 0x100, 0x1, 27, 16, .cfg, 0xFFF, .any⟩
def Reg.HK_P_LIMITS_REACTION : Fld := ⟨0x07C001, 0x100, 0x1, 31, 28, .cfg, 0, .oneOf [0, 3, 7]⟩

/-! ### Fields of 05_thermal.md -/

def Reg.TH_CFG_FLOOR : Fld := ⟨0x1A0000, 0x0, 0x1, 9, 0, .cfg, 0xC8, .nat 0 1000⟩
def Reg.TH_CFG_COLD_LIMIT : Fld := ⟨0x1A0000, 0x0, 0x1, 19, 10, .cfg, 0x1F4, .nat 0 1000⟩
def Reg.TH_CFG_NOEST_REACTION : Fld := ⟨0x1A0000, 0x0, 0x1, 23, 20, .cfg, 3, .oneOf [0, 1, 3, 4, 6, 7]⟩
def Reg.TH_CFG_RESTORE : Fld := ⟨0x1A0000, 0x0, 0x1, 31, 24, .cfg, 0x64, .nat 1 255⟩
def Reg.TH_ROUNDS : Fld := ⟨0x1A0100, 0x0, 0x1, 31, 0, .ro, 0, .any⟩
def Reg.TH_STAGE_LIMIT : Fld := ⟨0x1A0200, 0x1, 0x0, 31, 0, .ro, 0x3E8, .any⟩
def Reg.TH_SHUT_COUNT : Fld := ⟨0x1A0300, 0x1, 0x0, 31, 0, .ro, 0, .any⟩
def Reg.TH_EXT_CFG_HK_POS : Fld := ⟨0x1A1000, 0x100, 0x1, 5, 0, .cfg, 0x3F, .natOr 0 47 63⟩
def Reg.TH_EXT_CFG_OFFSET : Fld := ⟨0x1A1000, 0x100, 0x1, 31, 16, .cfg, 0, .any⟩
def Reg.TH_EXT_GAIN : Fld := ⟨0x1A1001, 0x100, 0x1, 31, 0, .cfg, 0, .any⟩
def Reg.TH_S_CFG_ENABLE : Fld := ⟨0x1A4000, 0x100, 0x1, 0, 0, .cfg, 1, .any⟩
def Reg.TH_S_CFG_STAGES : Fld := ⟨0x1A4000, 0x100, 0x1, 7, 1, .cfg, 0, .any⟩
def Reg.TH_S_CFG_FILTER : Fld := ⟨0x1A4000, 0x100, 0x1, 11, 8, .cfg, 2, .nat 1 15⟩
def Reg.TH_S_CFG_HYST : Fld := ⟨0x1A4000, 0x100, 0x1, 19, 12, .cfg, 0x1E, .nat 1 255⟩
def Reg.TH_S_CFG_SHUT_REACTION : Fld := ⟨0x1A4000, 0x100, 0x1, 23, 20, .cfg, 4, .oneOf [4, 5, 6, 7]⟩
def Reg.TH_S_VALUE_EFF : Fld := ⟨0x1A4001, 0x100, 0x1, 15, 0, .ro, 0, .any⟩
def Reg.TH_S_VALUE_RAW : Fld := ⟨0x1A4001, 0x100, 0x1, 31, 16, .ro, 0, .any⟩
def Reg.TH_S_STATUS_WARN : Fld := ⟨0x1A4002, 0x100, 0x1, 0, 0, .ro, 0, .any⟩
def Reg.TH_S_STATUS_DERATE : Fld := ⟨0x1A4002, 0x100, 0x1, 1, 1, .ro, 0, .any⟩
def Reg.TH_S_STATUS_SHUT : Fld := ⟨0x1A4002, 0x100, 0x1, 2, 2, .ro, 0, .any⟩
def Reg.TH_S_STATUS_COLD_DRIVE : Fld := ⟨0x1A4002, 0x100, 0x1, 3, 3, .ro, 0, .any⟩
def Reg.TH_S_STATUS_COLD_CHARGE : Fld := ⟨0x1A4002, 0x100, 0x1, 4, 4, .ro, 0, .any⟩
def Reg.TH_S_STATUS_ELEC : Fld := ⟨0x1A4002, 0x100, 0x1, 5, 5, .ro, 0, .any⟩
def Reg.TH_S_STATUS_BROKEN : Fld := ⟨0x1A4002, 0x100, 0x1, 6, 6, .ro, 0, .any⟩
def Reg.TH_S_STATUS_NO_EST : Fld := ⟨0x1A4002, 0x100, 0x1, 7, 7, .ro, 0, .any⟩
def Reg.TH_S_UPPER_WARN : Fld := ⟨0x1A4003, 0x100, 0x1, 15, 0, .cfg, 0x3E8, .any⟩
def Reg.TH_S_UPPER_DERATE : Fld := ⟨0x1A4003, 0x100, 0x1, 31, 16, .cfg, 0x44C, .any⟩
def Reg.TH_S_SHUT_SHUT : Fld := ⟨0x1A4004, 0x100, 0x1, 15, 0, .cfg, 0x4E2, .any⟩
def Reg.TH_S_SHUT_RELEASE : Fld := ⟨0x1A4004, 0x100, 0x1, 31, 16, .cfg, 0x3E8, .any⟩
def Reg.TH_S_COLD_DRIVE : Fld := ⟨0x1A4005, 0x100, 0x1, 15, 0, .cfg, 0xFED4, .any⟩
def Reg.TH_S_COLD_CHARGE : Fld := ⟨0x1A4005, 0x100, 0x1, 31, 16, .cfg, 0xFF38, .any⟩

/-! ### Fields of 06_position_feedback.md -/

def Reg.FB_MODE_MODE : Fld := ⟨0x080000, 0x1000, 0x1, 2, 0, .cfg, 0, .nat 0 4⟩
def Reg.FB_MODE_STAGE : Fld := ⟨0x080000, 0x1000, 0x1, 5, 3, .cfg, 7, .any⟩
def Reg.FB_MODE_LATCH_EVT : Fld := ⟨0x080000, 0x1000, 0x1, 7, 6, .cfg, 3, .any⟩
def Reg.FB_MODE_SUPPLY : Fld := ⟨0x080000, 0x1000, 0x1, 9, 8, .cfg, 0, .nat 0 2⟩
def Reg.FB_SCALE_CPR : Fld := ⟨0x080100, 0x1000, 0x1, 17, 0, .cfg, 0, .any⟩
def Reg.FB_SCALE_POLE_PAIRS : Fld := ⟨0x080100, 0x1000, 0x1, 23, 18, .cfg, 1, .nat 1 63⟩
def Reg.FB_INPUT_GLITCH : Fld := ⟨0x080200, 0x1000, 0x1, 4, 0, .cfg, 3, .nat 1 31⟩
def Reg.FB_INPUT_WIRE_FILTER : Fld := ⟨0x080200, 0x1000, 0x1, 12, 5, .cfg, 0xA, .nat 1 255⟩
def Reg.FB_INPUT_TERM : Fld := ⟨0x080200, 0x1000, 0x1, 13, 13, .cfg, 1, .any⟩
def Reg.FB_INPUT_HALL_DIFF : Fld := ⟨0x080200, 0x1000, 0x1, 14, 14, .cfg, 0, .any⟩
def Reg.FB_INPUT_INV_DIR : Fld := ⟨0x080200, 0x1000, 0x1, 15, 15, .cfg, 0, .any⟩
def Reg.FB_INPUT_Z_GATE : Fld := ⟨0x080200, 0x1000, 0x1, 17, 16, .cfg, 0, .nat 0 2⟩
def Reg.FB_SPEED_CFG_WINDOW : Fld := ⟨0x080300, 0x1000, 0x1, 7, 0, .cfg, 0xA, .nat 1 200⟩
def Reg.FB_SPEED_CFG_PERIOD_COUNTS : Fld := ⟨0x080300, 0x1000, 0x1, 11, 8, .cfg, 4, .nat 1 15⟩
def Reg.FB_SPEED_CFG_HYST : Fld := ⟨0x080300, 0x1000, 0x1, 17, 12, .cfg, 0xA, .nat 1 50⟩
def Reg.FB_SPEED_CFG_ZERO_TIME : Fld := ⟨0x080300, 0x1000, 0x1, 27, 18, .cfg, 0x64, .nat 1 1000⟩
def Reg.FB_CROSS : Fld := ⟨0x080400, 0x1000, 0x1, 31, 0, .cfg, 0x140000, .nat 1 2147483647⟩
def Reg.FB_INDEX_INDEX_MODE : Fld := ⟨0x080500, 0x1000, 0x1, 1, 0, .cfg, 0, .nat 0 2⟩
def Reg.FB_INDEX_REF_MODE : Fld := ⟨0x080500, 0x1000, 0x1, 2, 2, .cfg, 0, .any⟩
def Reg.FB_INDEX_INDEX_POS : Fld := ⟨0x080500, 0x1000, 0x1, 20, 3, .cfg, 0, .any⟩
def Reg.FB_INDEX_INDEX_TOL : Fld := ⟨0x080500, 0x1000, 0x1, 28, 21, .cfg, 0, .any⟩
def Reg.FB_FAULT_SIGNAL_REACTION : Fld := ⟨0x080600, 0x1000, 0x1, 3, 0, .cfg, 0, .nat 0 7⟩
def Reg.FB_FAULT_POS_REACTION : Fld := ⟨0x080600, 0x1000, 0x1, 7, 4, .cfg, 0, .nat 0 7⟩
def Reg.FB_FAULT_INDEX_REACTION : Fld := ⟨0x080600, 0x1000, 0x1, 11, 8, .cfg, 0, .nat 0 7⟩
def Reg.FB_HALL_MAP_SECTOR : Fld := ⟨0x080700, 0x1000, 0x1, 23, 0, .cfg, 0xEEC287, .any⟩
def Reg.FB_SSI_FRAME_ST_BITS : Fld := ⟨0x080800, 0x1000, 0x1, 4, 0, .cfg, 0xD, .nat 8 25⟩
def Reg.FB_SSI_FRAME_MT_BITS : Fld := ⟨0x080800, 0x1000, 0x1, 9, 5, .cfg, 0, .nat 0 16⟩
def Reg.FB_SSI_FRAME_ERR_BITS : Fld := ⟨0x080800, 0x1000, 0x1, 11, 10, .cfg, 0, .nat 0 2⟩
def Reg.FB_SSI_FRAME_ERR_POL : Fld := ⟨0x080800, 0x1000, 0x1, 12, 12, .cfg, 1, .any⟩
def Reg.FB_SSI_FRAME_PARITY : Fld := ⟨0x080800, 0x1000, 0x1, 13, 13, .cfg, 0, .any⟩
def Reg.FB_SSI_FRAME_GRAY : Fld := ⟨0x080800, 0x1000, 0x1, 14, 14, .cfg, 1, .any⟩
def Reg.FB_SSI_TIMING_CLK : Fld := ⟨0x080900, 0x1000, 0x1, 5, 0, .cfg, 0xA, .nat 1 40⟩
def Reg.FB_SSI_TIMING_MONO : Fld := ⟨0x080900, 0x1000, 0x1, 13, 6, .cfg, 0x14, .nat 1 255⟩
def Reg.FB_SSI_TIMING_MAX_STEP : Fld := ⟨0x080900, 0x1000, 0x1, 29, 14, .cfg, 0x400, .nat 1 65535⟩
def Reg.FB_RES_EXC_FREQ : Fld := ⟨0x080A00, 0x1000, 0x1, 1, 0, .cfg, 1, .nat 0 2⟩
def Reg.FB_RES_EXC_AMP : Fld := ⟨0x080A00, 0x1000, 0x1, 9, 2, .cfg, 0x46, .nat 20 140⟩
def Reg.FB_RES_RES_PHASE : Fld := ⟨0x080A00, 0x1000, 0x1, 17, 10, .cfg, 0, .any⟩
def Reg.FB_RES_RES_POLES : Fld := ⟨0x080A00, 0x1000, 0x1, 21, 18, .cfg, 1, .nat 1 8⟩
def Reg.FB_RES_RES_BW : Fld := ⟨0x080A00, 0x1000, 0x1, 29, 22, .cfg, 0x32, .nat 10 200⟩
def Reg.FB_RES_LIMITS_AMP_LOW : Fld := ⟨0x080B00, 0x1000, 0x1, 13, 0, .cfg, 0x3E8, .nat 0 10240⟩
def Reg.FB_RES_LIMITS_AMP_HIGH : Fld := ⟨0x080B00, 0x1000, 0x1, 27, 14, .cfg, 0x2328, .nat 0 10240⟩
def Reg.FB_RES_LIMITS_TRACK_LIMIT : Fld := ⟨0x080B00, 0x1000, 0x1, 31, 28, .cfg, 4, .nat 1 15⟩
def Reg.FB_STATUS_VALID : Fld := ⟨0x080C00, 0x1000, 0x1, 0, 0, .ro, 0, .any⟩
def Reg.FB_STATUS_REF_OK : Fld := ⟨0x080C00, 0x1000, 0x1, 1, 1, .ro, 0, .any⟩
def Reg.FB_STATUS_DIR : Fld := ⟨0x080C00, 0x1000, 0x1, 2, 2, .ro, 0, .any⟩
def Reg.FB_STATUS_METHOD : Fld := ⟨0x080C00, 0x1000, 0x1, 3, 3, .ro, 0, .any⟩
def Reg.FB_STATUS_WIRE_A : Fld := ⟨0x080C00, 0x1000, 0x1, 4, 4, .ro, 0, .any⟩
def Reg.FB_STATUS_WIRE_B : Fld := ⟨0x080C00, 0x1000, 0x1, 5, 5, .ro, 0, .any⟩
def Reg.FB_STATUS_WIRE_Z : Fld := ⟨0x080C00, 0x1000, 0x1, 6, 6, .ro, 0, .any⟩
def Reg.FB_STATUS_WIRE_CK : Fld := ⟨0x080C00, 0x1000, 0x1, 7, 7, .ro, 0, .any⟩
def Reg.FB_STATUS_SUPPLY : Fld := ⟨0x080C00, 0x1000, 0x1, 8, 8, .ro, 0, .any⟩
def Reg.FB_STATUS_RES_AMP : Fld := ⟨0x080C00, 0x1000, 0x1, 9, 9, .ro, 0, .any⟩
def Reg.FB_STATUS_RES_TRACK : Fld := ⟨0x080C00, 0x1000, 0x1, 10, 10, .ro, 0, .any⟩
def Reg.FB_STATUS_EXC : Fld := ⟨0x080C00, 0x1000, 0x1, 11, 11, .ro, 0, .any⟩
def Reg.FB_STATUS_SSI_ERR : Fld := ⟨0x080C00, 0x1000, 0x1, 12, 12, .ro, 0, .any⟩
def Reg.FB_STATUS_SUBST : Fld := ⟨0x080C00, 0x1000, 0x1, 13, 13, .ro, 0, .any⟩
def Reg.FB_STATUS_HALL_CODE : Fld := ⟨0x080C00, 0x1000, 0x1, 16, 14, .ro, 0, .any⟩
def Reg.FB_STATUS_SECTOR : Fld := ⟨0x080C00, 0x1000, 0x1, 19, 17, .ro, 0, .any⟩
def Reg.FB_POS : Fld := ⟨0x080D00, 0x1000, 0x1, 31, 0, .ro, 0, .any⟩
def Reg.FB_POS_MECH : Fld := ⟨0x080D01, 0x1000, 0x1, 15, 0, .ro, 0, .any⟩
def Reg.FB_POS_ANGLE_E : Fld := ⟨0x080D01, 0x1000, 0x1, 31, 16, .ro, 0, .any⟩
def Reg.FB_SPEED : Fld := ⟨0x080E00, 0x1000, 0x1, 31, 0, .ro, 0, .any⟩
def Reg.FB_SPEED_AGE : Fld := ⟨0x080E01, 0x1000, 0x1, 15, 0, .ro, 0, .any⟩
def Reg.FB_SPEED_SNAPS : Fld := ⟨0x080E01, 0x1000, 0x1, 31, 16, .ro, 0, .any⟩
def Reg.FB_COUNTERS : Fld := ⟨0x080F00, 0x1000, 0x1, 31, 0, .ro, 0, .any⟩

/-! ### Fields of 07_control_engine.md -/

def Reg.SLOT_TYPE_TYPE : Fld := ⟨0x090000, 0x1000, 0x1, 3, 0, .cfg, 0, .any⟩
def Reg.SLOT_TYPE_LANE : Fld := ⟨0x090000, 0x1000, 0x1, 5, 4, .cfg, 0, .any⟩
def Reg.SLOT_TYPE_STAGE : Fld := ⟨0x090000, 0x1000, 0x1, 8, 6, .cfg, 7, .any⟩
def Reg.SLOT_TYPE_HALF : Fld := ⟨0x090000, 0x1000, 0x1, 9, 9, .cfg, 0, .any⟩
def Reg.SLOT_TYPE_TABLE : Fld := ⟨0x090000, 0x1000, 0x1, 11, 10, .cfg, 0, .any⟩
def Reg.SLOT_TRIGGER_SRC : Fld := ⟨0x090100, 0x1000, 0x1, 1, 0, .cfg, 0, .any⟩
def Reg.SLOT_TRIGGER_EVT : Fld := ⟨0x090100, 0x1000, 0x1, 3, 2, .cfg, 3, .any⟩
def Reg.SLOT_TRIGGER_REF : Fld := ⟨0x090100, 0x1000, 0x1, 9, 4, .cfg, 0, .any⟩
def Reg.SLOT_TRIGGER_DIV : Fld := ⟨0x090100, 0x1000, 0x1, 17, 10, .cfg, 1, .any⟩
def Reg.SLOT_TRIGGER_PHASE : Fld := ⟨0x090100, 0x1000, 0x1, 25, 18, .cfg, 0, .any⟩
def Reg.SLOT_TRIGGER_TIMER : Fld := ⟨0x090101, 0x1000, 0x1, 31, 0, .cfg, 0x2710, .nat 1000 10000000⟩
def Reg.SLOT_INPUTS_SOURCE : Fld := ⟨0x090200, 0x1000, 0x1, 7, 0, .cfg, 0xFF, .source⟩
def Reg.SLOT_INPUTS_OUTPUT : Fld := ⟨0x090200, 0x1000, 0x1, 10, 8, .cfg, 0, .nat 0 4⟩
def Reg.SLOT_SCALE_K : Fld := ⟨0x090300, 0x1000, 0x1, 31, 0, .cfg, 0x10000, .any⟩
def Reg.SLOT_SCALE_U_BASE : Fld := ⟨0x090304, 0x1000, 0x1, 31, 0, .cfg, 0x3E8, .nat 1 2000⟩
def Reg.SLOT_SCALE_OFFSET : Fld := ⟨0x090308, 0x1000, 0x1, 31, 0, .cfg, 0, .q15 (-32768) 32767⟩
def Reg.SLOT_SETPOINT : Fld := ⟨0x090400, 0x1000, 0x1, 31, 0, .rw, 0, .any⟩
def Reg.SLOT_SP_CFG_SP_SRC : Fld := ⟨0x090500, 0x1000, 0x1, 1, 0, .cfg, 0, .nat 0 2⟩
def Reg.SLOT_SP_CFG_SP_SLOT : Fld := ⟨0x090500, 0x1000, 0x1, 7, 2, .cfg, 0, .any⟩
def Reg.SLOT_SP_CFG_SP_OUT : Fld := ⟨0x090500, 0x1000, 0x1, 10, 8, .cfg, 0, .any⟩
def Reg.SLOT_SP_CFG_SP_TIMEOUT : Fld := ⟨0x090500, 0x1000, 0x1, 20, 11, .cfg, 0, .nat 0 1000⟩
def Reg.SLOT_SP_CFG_SP_LOSS_REACTION : Fld := ⟨0x090500, 0x1000, 0x1, 24, 21, .cfg, 2, .nat 0 7⟩
def Reg.SLOT_KP : Fld := ⟨0x090600, 0x1000, 0x1, 31, 0, .rwo, 0, .any⟩
def Reg.SLOT_KI : Fld := ⟨0x090700, 0x1000, 0x1, 31, 0, .rwo, 0, .any⟩
def Reg.SLOT_LIMITS_OUT_MIN : Fld := ⟨0x090800, 0x1000, 0x1, 31, 0, .rwo, 0xC0000000, .any⟩
def Reg.SLOT_LIMITS_OUT_MAX : Fld := ⟨0x090801, 0x1000, 0x1, 31, 0, .rwo, 0x40000000, .any⟩
def Reg.SLOT_LIMITS_NOMINAL : Fld := ⟨0x090802, 0x1000, 0x1, 31, 0, .rwo, 0x40000000, .any⟩
def Reg.SLOT_LIMITS_RAMP : Fld := ⟨0x090803, 0x1000, 0x1, 31, 0, .rwo, 0, .any⟩
def Reg.SLOT_LIMITS_DERATE_VALUE : Fld := ⟨0x090804, 0x1000, 0x1, 31, 0, .rwo, 0x1F4, .nat 0 1000⟩
def Reg.SLOT_LIMITS_M_MAX : Fld := ⟨0x090805, 0x1000, 0x1, 31, 0, .rwo, 0x799A, .q15 16384 32440⟩
def Reg.SLOT_FF : Fld := ⟨0x090900, 0x1000, 0x1, 31, 0, .rwo, 0, .any⟩
def Reg.SLOT_FE_FE_LIMIT : Fld := ⟨0x090A00, 0x1000, 0x1, 15, 0, .rwo, 0, .nat 0 32767⟩
def Reg.SLOT_FE_FE_REACTION : Fld := ⟨0x090A00, 0x1000, 0x1, 19, 16, .rwo, 3, .nat 0 7⟩
def Reg.SLOT_FE_FE_TIME : Fld := ⟨0x090A01, 0x1000, 0x1, 31, 0, .rwo, 0x1388, .nat 1 1000000⟩
def Reg.SLOT_MODE_MODE : Fld := ⟨0x090B00, 0x1000, 0x1, 0, 0, .ro, 0, .any⟩
def Reg.SLOT_MODE_INIT_MODE : Fld := ⟨0x090B00, 0x1000, 0x1, 1, 1, .cfg, 0, .any⟩
def Reg.SLOT_MODE_OVR_REACTION : Fld := ⟨0x090B00, 0x1000, 0x1, 5, 2, .cfg, 0, .nat 0 7⟩
def Reg.SLOT_MODE_REF_REACTION : Fld := ⟨0x090B00, 0x1000, 0x1, 9, 6, .cfg, 4, .nat 0 7⟩
def Reg.SLOT_MODE_MAN_OUT : Fld := ⟨0x090B01, 0x1000, 0x1, 31, 0, .rw, 0, .any⟩
def Reg.SLOT_STATUS_ACTIVE : Fld := ⟨0x090C00, 0x1000, 0x1, 0, 0, .ro, 0, .any⟩
def Reg.SLOT_STATUS_AUTO : Fld := ⟨0x090C00, 0x1000, 0x1, 1, 1, .ro, 0, .any⟩
def Reg.SLOT_STATUS_VSAT : Fld := ⟨0x090C00, 0x1000, 0x1, 2, 2, .ro, 0, .any⟩
def Reg.SLOT_STATUS_OUT_SAT : Fld := ⟨0x090C00, 0x1000, 0x1, 3, 3, .ro, 0, .any⟩
def Reg.SLOT_STATUS_INT_HELD : Fld := ⟨0x090C00, 0x1000, 0x1, 4, 4, .ro, 0, .any⟩
def Reg.SLOT_STATUS_FE : Fld := ⟨0x090C00, 0x1000, 0x1, 5, 5, .ro, 0, .any⟩
def Reg.SLOT_STATUS_SP_LOST : Fld := ⟨0x090C00, 0x1000, 0x1, 6, 6, .ro, 0, .any⟩
def Reg.SLOT_STATUS_RAMPING : Fld := ⟨0x090C00, 0x1000, 0x1, 7, 7, .ro, 0, .any⟩
def Reg.SLOT_STATUS_DERATED : Fld := ⟨0x090C00, 0x1000, 0x1, 8, 8, .ro, 0, .any⟩
def Reg.SLOT_STATUS_STALE_IN : Fld := ⟨0x090C00, 0x1000, 0x1, 9, 9, .ro, 0, .any⟩
def Reg.SLOT_STATUS_REF_WAIT : Fld := ⟨0x090C00, 0x1000, 0x1, 10, 10, .ro, 0, .any⟩
def Reg.SLOT_OUT : Fld := ⟨0x090D00, 0x1000, 0x1, 31, 0, .ro, 0, .any⟩
def Reg.SLOT_OUT_T_U : Fld := ⟨0x090D05, 0x1000, 0x1, 31, 0, .ro, 0, .any⟩
def Reg.SLOT_STATE_INTEGRATOR : Fld := ⟨0x090E00, 0x1000, 0x1, 31, 0, .ro, 0, .any⟩
def Reg.SLOT_STATE_ERROR : Fld := ⟨0x090E04, 0x1000, 0x1, 31, 0, .ro, 0, .any⟩
def Reg.SLOT_COUNTERS : Fld := ⟨0x090F00, 0x1000, 0x1, 31, 0, .ro, 0, .any⟩

/-! ### Fields of 08_pulse_generation.md -/

def Reg.PULSE_CARRIER_MODE : Fld := ⟨0x0C0000, 0x1000, 0x1, 1, 0, .cfg, 0, .any⟩
def Reg.PULSE_CARRIER_UPDATE : Fld := ⟨0x0C0000, 0x1000, 0x1, 2, 2, .cfg, 1, .any⟩
def Reg.PULSE_CARRIER_REF_LEG : Fld := ⟨0x0C0000, 0x1000, 0x1, 5, 3, .cfg, 0, .nat 0 5⟩
def Reg.PULSE_PERIOD : Fld := ⟨0x0C0100, 0x1000, 0x1, 23, 0, .rwo, 0x3A98, .any⟩
def Reg.PULSE_SYNC_SRC : Fld := ⟨0x0C0200, 0x1000, 0x1, 1, 0, .cfg, 0, .nat 0 2⟩
def Reg.PULSE_SYNC_RATIO : Fld := ⟨0x0C0200, 0x1000, 0x1, 3, 2, .cfg, 0, .any⟩
def Reg.PULSE_SYNC_OFFSET : Fld := ⟨0x0C0200, 0x1000, 0x1, 13, 4, .cfg, 0, .any⟩
def Reg.PULSE_SYNC_SYNC_REACTION : Fld := ⟨0x0C0200, 0x1000, 0x1, 17, 14, .cfg, 0, .nat 0 7⟩
def Reg.PULSE_STATUS_RUN : Fld := ⟨0x0C0300, 0x1000, 0x1, 0, 0, .ro, 0, .any⟩
def Reg.PULSE_STATUS_MODE : Fld := ⟨0x0C0300, 0x1000, 0x1, 2, 1, .ro, 0, .any⟩
def Reg.PULSE_STATUS_LOCKED : Fld := ⟨0x0C0300, 0x1000, 0x1, 3, 3, .ro, 0, .any⟩
def Reg.PULSE_STATUS_SYNC_LOST : Fld := ⟨0x0C0300, 0x1000, 0x1, 4, 4, .ro, 0, .any⟩
def Reg.PULSE_STATUS_CYCLE_MISMATCH : Fld := ⟨0x0C0300, 0x1000, 0x1, 5, 5, .ro, 0, .any⟩
def Reg.PULSE_STATUS_MODE_PENDING : Fld := ⟨0x0C0300, 0x1000, 0x1, 6, 6, .ro, 0, .any⟩
def Reg.PULSE_PERIOD_NOW : Fld := ⟨0x0C0301, 0x1000, 0x1, 31, 0, .ro, 0, .any⟩
def Reg.PULSE_COUNT : Fld := ⟨0x0C0302, 0x1000, 0x1, 31, 0, .ro, 0, .any⟩
def Reg.PULSE_COUNTERS : Fld := ⟨0x0C0400, 0x1000, 0x1, 31, 0, .ro, 0, .any⟩
def Reg.PULSE_SYNC_OUT_SRC : Fld := ⟨0x0C8000, 0x0, 0x1, 2, 0, .cfg, 7, .any⟩
def Reg.PULSE_SYNC_IN_COMP : Fld := ⟨0x0C8100, 0x0, 0x1, 15, 0, .cfg, 0, .any⟩
def Reg.PULSE_DLL_LOCKED : Fld := ⟨0x0C8200, 0x0, 0x1, 0, 0, .ro, 0, .any⟩
def Reg.PULSE_DLL_FALLBACK : Fld := ⟨0x0C8200, 0x0, 0x1, 1, 1, .ro, 0, .any⟩
def Reg.PULSE_DLL_SPAN : Fld := ⟨0x0C8200, 0x0, 0x1, 31, 16, .ro, 0, .any⟩
def Reg.PULSE_FAULT_DLL_REACTION : Fld := ⟨0x0C8300, 0x0, 0x1, 3, 0, .cfg, 0, .oneOf [0, 1, 3, 4, 7]⟩
def Reg.PULSE_SYNC_IN_PERIOD : Fld := ⟨0x0C8400, 0x0, 0x1, 31, 0, .ro, 0, .any⟩
def Reg.LEG_CFG_ENABLE : Fld := ⟨0x0D0000, 0x1000, 0x1, 0, 0, .cfg, 1, .any⟩
def Reg.LEG_CFG_SHORT_MODE : Fld := ⟨0x0D0000, 0x1000, 0x1, 2, 1, .cfg, 0, .nat 0 2⟩
def Reg.LEG_CFG_TERM_SRC : Fld := ⟨0x0D0000, 0x1000, 0x1, 4, 3, .cfg, 0, .nat 0 2⟩
def Reg.LEG_DEAD_DT_HIGH : Fld := ⟨0x0D0100, 0x1000, 0x1, 15, 0, .rwo, 0x4B00, .nat 960 65535⟩
def Reg.LEG_DEAD_DT_LOW : Fld := ⟨0x0D0100, 0x1000, 0x1, 31, 16, .rwo, 0x4B00, .nat 960 65535⟩
def Reg.LEG_MIN_MIN_PULSE : Fld := ⟨0x0D0200, 0x1000, 0x1, 15, 0, .rwo, 0x96, .nat 15 65535⟩
def Reg.LEG_TRIP_SRC : Fld := ⟨0x0D0300, 0x1000, 0x1, 2, 0, .cfg, 1, .any⟩
def Reg.LEG_TRIP_ACTION : Fld := ⟨0x0D0300, 0x1000, 0x1, 3, 3, .cfg, 0, .any⟩
def Reg.LEG_TRIP_LIMIT : Fld := ⟨0x0D0300, 0x1000, 0x1, 11, 4, .cfg, 0xA, .any⟩
def Reg.LEG_TRIP_LATCH_REACTION : Fld := ⟨0x0D0300, 0x1000, 0x1, 15, 12, .cfg, 4, .nat 0 7⟩
def Reg.LEG_TRIP_WINDOW : Fld := ⟨0x0D0300, 0x1000, 0x1, 31, 16, .cfg, 0x64, .nat 1 65535⟩
def Reg.LEG_CMP_CHANNEL : Fld := ⟨0x0D0400, 0x1000, 0x1, 7, 0, .cfg, 0xFF, .any⟩
def Reg.LEG_CMP_ABS : Fld := ⟨0x0D0400, 0x1000, 0x1, 8, 8, .cfg, 1, .any⟩
def Reg.LEG_CMP_LIMIT : Fld := ⟨0x0D0400, 0x1000, 0x1, 31, 16, .cfg, 0x7FFF, .any⟩
def Reg.LEG_DUTY_A : Fld := ⟨0x0D0500, 0x1000, 0x1, 15, 0, .rw, 0, .nat 0 32767⟩
def Reg.LEG_DUTY_B : Fld := ⟨0x0D0600, 0x1000, 0x1, 15, 0, .rw, 0, .nat 0 32767⟩
def Reg.LEG_PHASE : Fld := ⟨0x0D0700, 0x1000, 0x1, 15, 0, .rw, 0, .any⟩
def Reg.LEG_TIME_A : Fld := ⟨0x0D0800, 0x1000, 0x1, 29, 0, .rw, 0, .any⟩
def Reg.LEG_TIME_B : Fld := ⟨0x0D0900, 0x1000, 0x1, 29, 0, .rw, 0, .any⟩
def Reg.LEG_CTRL_FORCE : Fld := ⟨0x0D0A00, 0x1000, 0x1, 1, 0, .rw, 3, .any⟩
def Reg.LEG_CTRL_COMMIT : Fld := ⟨0x0D0A00, 0x1000, 0x1, 2, 2, .rw, 0, .any⟩
def Reg.LEG_ACTIVE : Fld := ⟨0x0D0B00, 0x1000, 0x1, 31, 0, .ro, 0, .any⟩
def Reg.LEG_STATUS_OWNER : Fld := ⟨0x0D0C00, 0x1000, 0x1, 1, 0, .ro, 0, .any⟩
def Reg.LEG_STATUS_HIGH_ON : Fld := ⟨0x0D0C00, 0x1000, 0x1, 2, 2, .ro, 0, .any⟩
def Reg.LEG_STATUS_LOW_ON : Fld := ⟨0x0D0C00, 0x1000, 0x1, 3, 3, .ro, 0, .any⟩
def Reg.LEG_STATUS_TRIPPED : Fld := ⟨0x0D0C00, 0x1000, 0x1, 4, 4, .ro, 0, .any⟩
def Reg.LEG_STATUS_LATCHED : Fld := ⟨0x0D0C00, 0x1000, 0x1, 5, 5, .ro, 0, .any⟩
def Reg.LEG_STATUS_CMP : Fld := ⟨0x0D0C00, 0x1000, 0x1, 6, 6, .ro, 0, .any⟩
def Reg.LEG_STATUS_WIN_COUNT : Fld := ⟨0x0D0C00, 0x1000, 0x1, 14, 7, .ro, 0, .any⟩
def Reg.LEG_COUNTERS : Fld := ⟨0x0D0D00, 0x1000, 0x1, 31, 0, .ro, 0, .any⟩
def Reg.LEG_CARRY : Fld := ⟨0x0D0E00, 0x1000, 0x1, 31, 0, .ro, 0, .any⟩

/-! ### Fields of 09_pulse_engine_failover.md -/

def Reg.FO_STATUS_OWNER : Fld := ⟨0x100000, 0x0, 0x1, 0, 0, .ro, 0, .any⟩
def Reg.FO_STATUS_STATE_A : Fld := ⟨0x100000, 0x0, 0x1, 3, 1, .ro, 0, .any⟩
def Reg.FO_STATUS_STATE_B : Fld := ⟨0x100000, 0x0, 0x1, 6, 4, .ro, 0, .any⟩
def Reg.FO_STATUS_DEGRADED : Fld := ⟨0x100000, 0x0, 0x1, 7, 7, .ro, 0, .any⟩
def Reg.FO_STATUS_PENDING : Fld := ⟨0x100000, 0x0, 0x1, 8, 8, .ro, 0, .any⟩
def Reg.FO_STATUS_PATH : Fld := ⟨0x100000, 0x0, 0x1, 9, 9, .ro, 0, .any⟩
def Reg.FO_STATUS_INTERLOCK : Fld := ⟨0x100000, 0x0, 0x1, 10, 10, .ro, 0, .any⟩
def Reg.FO_STATUS_SWITCHING : Fld := ⟨0x100000, 0x0, 0x1, 11, 11, .ro, 0, .any⟩
def Reg.FO_STATUS_CONDEMN_A : Fld := ⟨0x100000, 0x0, 0x1, 15, 12, .ro, 0, .any⟩
def Reg.FO_STATUS_CONDEMN_B : Fld := ⟨0x100000, 0x0, 0x1, 19, 16, .ro, 0, .any⟩
def Reg.FO_CFG_PREFERRED : Fld := ⟨0x100100, 0x0, 0x1, 0, 0, .cfg, 0, .any⟩
def Reg.FO_CFG_RB_FILTER : Fld := ⟨0x100100, 0x0, 0x1, 3, 1, .cfg, 3, .nat 1 7⟩
def Reg.FO_CFG_RB_TOL : Fld := ⟨0x100100, 0x0, 0x1, 8, 4, .cfg, 6, .nat 2 31⟩
def Reg.FO_CFG_RB_WAIT : Fld := ⟨0x100100, 0x0, 0x1, 15, 9, .cfg, 0x40, .nat 8 127⟩
def Reg.FO_CFG_CONDEMN_LIMIT : Fld := ⟨0x100100, 0x0, 0x1, 19, 16, .cfg, 3, .nat 1 15⟩
def Reg.FO_CFG_QUALIFY : Fld := ⟨0x100100, 0x0, 0x1, 31, 20, .cfg, 0x64, .nat 1 4095⟩
def Reg.FO_REACTION_UNDECIDED_REACTION : Fld := ⟨0x100200, 0x0, 0x1, 3, 0, .cfg, 4, .oneOf [0, 3, 4, 6, 7]⟩
def Reg.FO_REACTION_PATH_REACTION : Fld := ⟨0x100200, 0x0, 0x1, 7, 4, .cfg, 4, .oneOf [0, 3, 4, 6, 7]⟩
def Reg.FO_REACTION_EXHAUSTED_REACTION : Fld := ⟨0x100200, 0x0, 0x1, 11, 8, .cfg, 7, .oneOf [4, 7]⟩
def Reg.FO_REACTION_INTERLOCK_REACTION : Fld := ⟨0x100200, 0x0, 0x1, 15, 12, .cfg, 7, .oneOf [4, 7]⟩
def Reg.FO_REACTION_HANDOVER_REACTION : Fld := ⟨0x100200, 0x0, 0x1, 19, 16, .cfg, 0, .oneOf [0, 1, 3]⟩
def Reg.FO_REACTION_SPARE_REACTION : Fld := ⟨0x100200, 0x0, 0x1, 23, 20, .cfg, 0, .oneOf [0, 1, 3]⟩
def Reg.FO_COUNTERS : Fld := ⟨0x100300, 0x1, 0x0, 31, 0, .ro, 0, .any⟩
def Reg.FO_LAST_ROW : Fld := ⟨0x100400, 0x0, 0x1, 3, 0, .ro, 0, .any⟩
def Reg.FO_LAST_CONDEMNED : Fld := ⟨0x100400, 0x0, 0x1, 4, 4, .ro, 0, .any⟩
def Reg.FO_LAST_CHANNELS : Fld := ⟨0x100400, 0x0, 0x1, 11, 5, .ro, 0, .any⟩
def Reg.FO_LAST_CYCLE : Fld := ⟨0x100401, 0x0, 0x1, 31, 0, .ro, 0, .any⟩
def Reg.FO_RB_DELAY : Fld := ⟨0x101000, 0x1, 0x0, 31, 0, .ro, 0, .any⟩

/-! ### Fields of 10_gate_drive.md -/

def Reg.CH_SUPPLY_VPOS : Fld := ⟨0x110000, 0x1000, 0x1, 3, 0, .cfg, 0, .nat 0 10⟩
def Reg.CH_SUPPLY_VNEG : Fld := ⟨0x110000, 0x1000, 0x1, 7, 4, .cfg, 0, .nat 0 8⟩
def Reg.CH_SUPPLY_GATE_Q : Fld := ⟨0x110000, 0x1000, 0x1, 15, 8, .cfg, 0, .nat 1 255⟩
def Reg.CH_DRIVE_I_ON : Fld := ⟨0x110100, 0x1000, 0x1, 3, 0, .cfg, 0, .any⟩
def Reg.CH_DRIVE_I_OFF : Fld := ⟨0x110100, 0x1000, 0x1, 8, 4, .cfg, 0, .any⟩
def Reg.CH_DRIVE_CLAMP_EN : Fld := ⟨0x110100, 0x1000, 0x1, 9, 9, .cfg, 1, .any⟩
def Reg.CH_DRIVE_CLAMP_V : Fld := ⟨0x110100, 0x1000, 0x1, 12, 10, .cfg, 2, .nat 0 6⟩
def Reg.CH_DESAT_ENABLE : Fld := ⟨0x110200, 0x1000, 0x1, 0, 0, .cfg, 1, .any⟩
def Reg.CH_DESAT_THRESH : Fld := ⟨0x110200, 0x1000, 0x1, 4, 1, .cfg, 8, .any⟩
def Reg.CH_DESAT_BLANK : Fld := ⟨0x110200, 0x1000, 0x1, 10, 5, .cfg, 0x26, .nat 0 62⟩
def Reg.CH_SHORT_ENABLE : Fld := ⟨0x110300, 0x1000, 0x1, 0, 0, .cfg, 0, .any⟩
def Reg.CH_SHORT_LIMIT : Fld := ⟨0x110300, 0x1000, 0x1, 8, 1, .cfg, 0, .any⟩
def Reg.CH_FAULT_DESAT_REACTION : Fld := ⟨0x110400, 0x1000, 0x1, 3, 0, .cfg, 0, .nat 0 7⟩
def Reg.CH_FAULT_SHORT_REACTION : Fld := ⟨0x110400, 0x1000, 0x1, 7, 4, .cfg, 4, .nat 0 7⟩
def Reg.CH_FAULT_UVLO_REACTION : Fld := ⟨0x110400, 0x1000, 0x1, 11, 8, .cfg, 4, .nat 0 7⟩
def Reg.CH_FAULT_LINK_REACTION : Fld := ⟨0x110400, 0x1000, 0x1, 15, 12, .cfg, 4, .nat 0 7⟩
def Reg.CH_THERM_R25 : Fld := ⟨0x110500, 0x1000, 0x1, 15, 0, .cfg, 0x1F4, .nat 100 65535⟩
def Reg.CH_THERM_B : Fld := ⟨0x110500, 0x1000, 0x1, 31, 16, .cfg, 0xD2F, .nat 2000 6000⟩
def Reg.CH_STATUS_GATE : Fld := ⟨0x110600, 0x1000, 0x1, 0, 0, .ro, 0, .any⟩
def Reg.CH_STATUS_TRIPPED : Fld := ⟨0x110600, 0x1000, 0x1, 1, 1, .ro, 0, .any⟩
def Reg.CH_STATUS_SOFT_OFF : Fld := ⟨0x110600, 0x1000, 0x1, 2, 2, .ro, 0, .any⟩
def Reg.CH_STATUS_DESAT : Fld := ⟨0x110600, 0x1000, 0x1, 3, 3, .ro, 0, .any⟩
def Reg.CH_STATUS_SHORT : Fld := ⟨0x110600, 0x1000, 0x1, 4, 4, .ro, 0, .any⟩
def Reg.CH_STATUS_UVLO_POS : Fld := ⟨0x110600, 0x1000, 0x1, 5, 5, .ro, 0, .any⟩
def Reg.CH_STATUS_UVLO_NEG : Fld := ⟨0x110600, 0x1000, 0x1, 6, 6, .ro, 0, .any⟩
def Reg.CH_STATUS_ENABLE : Fld := ⟨0x110600, 0x1000, 0x1, 7, 7, .ro, 0, .any⟩
def Reg.CH_STATUS_LINK_OK : Fld := ⟨0x110600, 0x1000, 0x1, 8, 8, .ro, 0, .any⟩
def Reg.CH_STATUS_SUPPLY_ON : Fld := ⟨0x110600, 0x1000, 0x1, 9, 9, .ro, 0, .any⟩
def Reg.CH_STATUS_START_FAIL : Fld := ⟨0x110600, 0x1000, 0x1, 10, 10, .ro, 0, .any⟩
def Reg.CH_STATUS_THERM_OPEN : Fld := ⟨0x110600, 0x1000, 0x1, 11, 11, .ro, 0, .any⟩
def Reg.CH_STATUS_THERM_SHORT : Fld := ⟨0x110600, 0x1000, 0x1, 12, 12, .ro, 0, .any⟩
def Reg.CH_STATUS_TRIM_LIMIT : Fld := ⟨0x110600, 0x1000, 0x1, 13, 13, .ro, 0, .any⟩
def Reg.CH_STATUS_CLAMP : Fld := ⟨0x110600, 0x1000, 0x1, 14, 14, .ro, 0, .any⟩
def Reg.CH_RAILS_VPOS : Fld := ⟨0x110700, 0x1000, 0x1, 15, 0, .ro, 0, .any⟩
def Reg.CH_RAILS_VNEG : Fld := ⟨0x110700, 0x1000, 0x1, 31, 16, .ro, 0, .any⟩
def Reg.CH_TIMING_TRIM : Fld := ⟨0x110800, 0x1000, 0x1, 6, 0, .ro, 0, .any⟩
def Reg.CH_TIMING_DELAY : Fld := ⟨0x110800, 0x1000, 0x1, 31, 8, .ro, 0, .any⟩
def Reg.CH_TEMP_T : Fld := ⟨0x110900, 0x1000, 0x1, 15, 0, .ro, 0, .any⟩
def Reg.CH_TEMP_R : Fld := ⟨0x110900, 0x1000, 0x1, 31, 16, .ro, 0, .any⟩
def Reg.CH_COUNTERS : Fld := ⟨0x110A00, 0x1000, 0x1, 31, 0, .ro, 0, .any⟩
def Reg.GD_STAGE_CFG_MULTI_REACTION : Fld := ⟨0x110C00, 0x1, 0x0, 3, 0, .cfg, 4, .oneOf [4, 5, 6, 7]⟩
def Reg.GD_STAGE_CFG_STAGGER : Fld := ⟨0x110C00, 0x1, 0x0, 8, 4, .cfg, 5, .any⟩
def Reg.GD_STATUS_ENABLE_SG : Fld := ⟨0x110D00, 0x0, 0x1, 3, 0, .ro, 0, .any⟩
def Reg.GD_STATUS_LV_RAIL_OK : Fld := ⟨0x110D00, 0x0, 0x1, 4, 4, .ro, 0, .any⟩
def Reg.GD_STATUS_STARTED : Fld := ⟨0x110D00, 0x0, 0x1, 5, 5, .ro, 0, .any⟩
def Reg.GD_STATUS_START_FAIL : Fld := ⟨0x110D00, 0x0, 0x1, 12, 6, .ro, 0, .any⟩
def Reg.GD_LV_RAIL : Fld := ⟨0x110D01, 0x0, 0x1, 31, 0, .ro, 0, .any⟩
def Reg.GD_STAGE_STATUS_NOW : Fld := ⟨0x110E00, 0x1, 0x0, 5, 0, .ro, 0, .any⟩
def Reg.GD_STAGE_STATUS_PREV : Fld := ⟨0x110E00, 0x1, 0x0, 11, 6, .ro, 0, .any⟩
def Reg.GD_STAGE_STATUS_CAUSE : Fld := ⟨0x110E00, 0x1, 0x0, 12, 12, .ro, 0, .any⟩
def Reg.GD_STAGE_COUNTERS : Fld := ⟨0x110F00, 0x1, 0x0, 31, 0, .ro, 0, .any⟩

/-! ### Fields of 11_link_converter.md -/

def Reg.LINK_CFG_N_MAX : Fld := ⟨0x150000, 0x0, 0x1, 2, 0, .cfg, 6, .nat 1 6⟩
def Reg.LINK_CFG_SHED_EN : Fld := ⟨0x150000, 0x0, 0x1, 3, 3, .cfg, 1, .any⟩
def Reg.LINK_CFG_LIGHT_EN : Fld := ⟨0x150000, 0x0, 0x1, 4, 4, .cfg, 1, .any⟩
def Reg.LINK_CFG_BURST_EN : Fld := ⟨0x150000, 0x0, 0x1, 5, 5, .cfg, 1, .any⟩
def Reg.LINK_CFG_BIDIR : Fld := ⟨0x150000, 0x0, 0x1, 6, 6, .cfg, 1, .any⟩
def Reg.LINK_CFG_TRIG : Fld := ⟨0x150000, 0x0, 0x1, 8, 7, .cfg, 1, .oneOf [1, 3]⟩
def Reg.LINK_CFG_HICCUP_MAX : Fld := ⟨0x150000, 0x0, 0x1, 11, 9, .cfg, 0, .any⟩
def Reg.LINK_CFG_HICCUP_WAIT : Fld := ⟨0x150000, 0x0, 0x1, 19, 12, .cfg, 0x32, .nat 1 255⟩
def Reg.LINK_CFG_SYNC_FREE : Fld := ⟨0x150000, 0x0, 0x1, 27, 20, .cfg, 0xA, .nat 1 255⟩
def Reg.LINK_INPUTS : Fld := ⟨0x150100, 0x1, 0x0, 4, 0, .cfg, 0, .any⟩
def Reg.LINK_SCALE_I_FS : Fld := ⟨0x150200, 0x0, 0x1, 31, 0, .cfg, 0x7D0, .nat 1 65535⟩
def Reg.LINK_SCALE_L_PH : Fld := ⟨0x150201, 0x0, 0x1, 31, 0, .cfg, 0x3E8, .nat 10 65535⟩
def Reg.LINK_SCALE_I_PH : Fld := ⟨0x150202, 0x0, 0x1, 31, 0, .cfg, 0x258, .any⟩
def Reg.LINK_SCALE_ILIM_PH : Fld := ⟨0x150203, 0x0, 0x1, 31, 0, .cfg, 0x384, .any⟩
def Reg.LINK_SCALE_I_MAX : Fld := ⟨0x150204, 0x0, 0x1, 31, 0, .cfg, 0xE10, .any⟩
def Reg.LINK_SCALE_P_BASE : Fld := ⟨0x150205, 0x0, 0x1, 31, 0, .cfg, 0x2710, .any⟩
def Reg.LINK_SCALE_STOP_RAMP : Fld := ⟨0x150206, 0x0, 0x1, 31, 0, .cfg, 0x14, .nat 1 1000⟩
def Reg.LINK_COMP_B : Fld := ⟨0x150300, 0x1, 0x0, 31, 0, .rwo, 0, .any⟩
def Reg.LINK_COMP_A : Fld := ⟨0x150304, 0x1, 0x0, 31, 0, .rwo, 0, .any⟩
def Reg.LINK_CURRENT_KP_I : Fld := ⟨0x150400, 0x0, 0x1, 31, 0, .rwo, 0x83, .any⟩
def Reg.LINK_CURRENT_KI_I : Fld := ⟨0x150401, 0x0, 0x1, 31, 0, .rwo, 0x280000, .any⟩
def Reg.LINK_CURRENT_DUTY_MIN : Fld := ⟨0x150402, 0x0, 0x1, 31, 0, .rwo, 0x666, .q15 (-32768) 32767⟩
def Reg.LINK_CURRENT_DUTY_MAX : Fld := ⟨0x150403, 0x0, 0x1, 31, 0, .rwo, 0x799A, .q15 (-32768) 32767⟩
def Reg.LINK_CURRENT_FF_GAIN : Fld := ⟨0x150404, 0x0, 0x1, 31, 0, .rwo, 0x10000, .any⟩
def Reg.LINK_SHED_SHED_PCT : Fld := ⟨0x150500, 0x0, 0x1, 6, 0, .cfg, 0x3C, .nat 10 100⟩
def Reg.LINK_SHED_ADD_PCT : Fld := ⟨0x150500, 0x0, 0x1, 13, 7, .cfg, 0x50, .nat 20 110⟩
def Reg.LINK_SHED_SHED_TIME : Fld := ⟨0x150500, 0x0, 0x1, 23, 14, .cfg, 0x14, .nat 1 1000⟩
def Reg.LINK_SHED_SHED_BLOCK : Fld := ⟨0x150500, 0x0, 0x1, 31, 24, .cfg, 0x64, .nat 1 255⟩
def Reg.LINK_STEP_STEP_V : Fld := ⟨0x150600, 0x0, 0x1, 9, 0, .cfg, 0x12C, .nat 1 1023⟩
def Reg.LINK_STEP_STEP_I : Fld := ⟨0x150600, 0x0, 0x1, 19, 10, .cfg, 0x96, .nat 1 1023⟩
def Reg.LINK_LIGHT_LIGHT_ENTER : Fld := ⟨0x150700, 0x0, 0x1, 6, 0, .cfg, 0xF, .nat 1 100⟩
def Reg.LINK_LIGHT_LIGHT_EXIT : Fld := ⟨0x150700, 0x0, 0x1, 13, 7, .cfg, 0x1E, .nat 11 110⟩
def Reg.LINK_LIGHT_WAKE_V : Fld := ⟨0x150700, 0x0, 0x1, 21, 14, .cfg, 0x64, .nat 1 255⟩
def Reg.LINK_LIGHT_BURST_HYST : Fld := ⟨0x150700, 0x0, 0x1, 29, 22, .cfg, 0x32, .nat 1 255⟩
def Reg.LINK_SOFT_SS_RAMP : Fld := ⟨0x150800, 0x0, 0x1, 9, 0, .cfg, 0xC8, .nat 1 1023⟩
def Reg.LINK_SOFT_SS_TIME : Fld := ⟨0x150800, 0x0, 0x1, 19, 10, .cfg, 0x32, .nat 1 1000⟩
def Reg.LINK_SOFT_SS_ILIM : Fld := ⟨0x150800, 0x0, 0x1, 25, 20, .cfg, 0xA, .nat 1 40⟩
def Reg.LINK_SOFT_SS_REACTION : Fld := ⟨0x150800, 0x0, 0x1, 29, 26, .cfg, 3, .oneOf [3, 4, 6, 7]⟩
def Reg.LINK_LIMITS_OV_LIMIT : Fld := ⟨0x150900, 0x0, 0x1, 6, 0, .cfg, 0x64, .nat 0 110⟩
def Reg.LINK_LIMITS_UV_BAND : Fld := ⟨0x150900, 0x0, 0x1, 14, 7, .cfg, 0x32, .nat 1 255⟩
def Reg.LINK_LIMITS_UV_TIME : Fld := ⟨0x150900, 0x0, 0x1, 20, 15, .cfg, 5, .nat 1 63⟩
def Reg.LINK_LIMITS_OV_REACTION : Fld := ⟨0x150900, 0x0, 0x1, 24, 21, .cfg, 4, .oneOf [0, 1, 2, 3, 4, 6, 7]⟩
def Reg.LINK_LIMITS_UV_REACTION : Fld := ⟨0x150900, 0x0, 0x1, 28, 25, .cfg, 3, .oneOf [0, 1, 2, 3, 4, 6, 7]⟩
def Reg.LINK_IMBALANCE_IMB_LIMIT : Fld := ⟨0x150A00, 0x0, 0x1, 7, 0, .cfg, 0x19, .nat 1 100⟩
def Reg.LINK_IMBALANCE_IMB_TIME : Fld := ⟨0x150A00, 0x0, 0x1, 15, 8, .cfg, 0xA, .nat 1 255⟩
def Reg.LINK_IMBALANCE_IMB_REACTION : Fld := ⟨0x150A00, 0x0, 0x1, 19, 16, .cfg, 1, .oneOf [0, 1, 2, 3, 4, 6, 7]⟩
def Reg.LINK_STATUS_STATE : Fld := ⟨0x151000, 0x0, 0x1, 2, 0, .ro, 0, .any⟩
def Reg.LINK_STATUS_PHASES : Fld := ⟨0x151000, 0x0, 0x1, 5, 3, .ro, 0, .any⟩
def Reg.LINK_STATUS_LEGS : Fld := ⟨0x151000, 0x0, 0x1, 11, 6, .ro, 0, .any⟩
def Reg.LINK_STATUS_BUCK : Fld := ⟨0x151000, 0x0, 0x1, 12, 12, .ro, 0, .any⟩
def Reg.LINK_STATUS_LOCKED : Fld := ⟨0x151000, 0x0, 0x1, 13, 13, .ro, 0, .any⟩
def Reg.LINK_STATUS_FREE : Fld := ⟨0x151000, 0x0, 0x1, 14, 14, .ro, 0, .any⟩
def Reg.LINK_STATUS_CLIM : Fld := ⟨0x151000, 0x0, 0x1, 15, 15, .ro, 0, .any⟩
def Reg.LINK_STATUS_BLOCK : Fld := ⟨0x151000, 0x0, 0x1, 16, 16, .ro, 0, .any⟩
def Reg.LINK_STATUS_CO : Fld := ⟨0x151000, 0x0, 0x1, 17, 17, .ro, 0, .any⟩
def Reg.LINK_STATUS_SS_WINDOW : Fld := ⟨0x151000, 0x0, 0x1, 18, 18, .ro, 0, .any⟩
def Reg.LINK_STATUS_HICCUPS : Fld := ⟨0x151000, 0x0, 0x1, 21, 19, .ro, 0, .any⟩
def Reg.LINK_STATUS_OV : Fld := ⟨0x151000, 0x0, 0x1, 22, 22, .ro, 0, .any⟩
def Reg.LINK_STATUS_UV : Fld := ⟨0x151000, 0x0, 0x1, 23, 23, .ro, 0, .any⟩
def Reg.LINK_STATUS_IMB : Fld := ⟨0x151000, 0x0, 0x1, 24, 24, .ro, 0, .any⟩
def Reg.LINK_MEAS : Fld := ⟨0x151100, 0x1, 0x0, 31, 0, .ro, 0, .any⟩
def Reg.LINK_COUNTERS : Fld := ⟨0x151200, 0x1, 0x0, 31, 0, .ro, 0, .any⟩
def Reg.LINK_VSET : Fld := ⟨0x151400, 0x0, 0x1, 10, 0, .rw, 0x28A, .nat 650 1150⟩
def Reg.LINK_SNAP : Fld := ⟨0x152000, 0x100, 0x1, 31, 0, .ro, 0, .any⟩
def Reg.LINK_SNAP_VALID : Fld := ⟨0x152600, 0x0, 0x1, 5, 0, .ro, 0, .any⟩

/-! ### Fields of 12_charger.md -/

def Reg.CHG_CFG_INPUT : Fld := ⟨0x160000, 0x0, 0x1, 1, 0, .cfg, 1, .nat 0 2⟩
def Reg.CHG_CFG_RESUME : Fld := ⟨0x160000, 0x0, 0x1, 2, 2, .cfg, 1, .any⟩
def Reg.CHG_CFG_LOSS_REACTION : Fld := ⟨0x160000, 0x0, 0x1, 6, 3, .cfg, 0, .oneOf [0, 1, 3, 4, 6, 7]⟩
def Reg.CHG_CFG_LOSS_STAGES : Fld := ⟨0x160000, 0x0, 0x1, 13, 7, .cfg, 3, .any⟩
def Reg.CHG_QUAL_VIN_MIN : Fld := ⟨0x160100, 0x0, 0x1, 6, 0, .cfg, 0x55, .nat 50 100⟩
def Reg.CHG_QUAL_VIN_MAX : Fld := ⟨0x160100, 0x0, 0x1, 13, 7, .cfg, 0x73, .nat 100 125⟩
def Reg.CHG_QUAL_VIN_LOSS : Fld := ⟨0x160100, 0x0, 0x1, 20, 14, .cfg, 0x3C, .nat 30 95⟩
def Reg.CHG_QUAL_QUAL_TIME : Fld := ⟨0x160100, 0x0, 0x1, 30, 21, .cfg, 2, .nat 2 600⟩
def Reg.CHG_VREG_VIN_REG : Fld := ⟨0x160200, 0x0, 0x1, 6, 0, .cfg, 0x5A, .nat 0 100⟩
def Reg.CHG_VREG_VREG_HYST : Fld := ⟨0x160200, 0x0, 0x1, 10, 7, .cfg, 2, .nat 1 15⟩
def Reg.CHG_VREG_VREG_DOWN : Fld := ⟨0x160200, 0x0, 0x1, 18, 11, .cfg, 0x14, .nat 1 255⟩
def Reg.CHG_VREG_VREG_UP : Fld := ⟨0x160200, 0x0, 0x1, 26, 19, .cfg, 5, .nat 1 255⟩
def Reg.CHG_SOURCE_P_SRC_MAX : Fld := ⟨0x160300, 0x0, 0x1, 9, 0, .cfg, 0x1B4, .nat 1 1000⟩
def Reg.CHG_SOURCE_IIN_MAX : Fld := ⟨0x160300, 0x0, 0x1, 15, 10, .cfg, 0x3F, .nat 1 63⟩
def Reg.CHG_SOURCE_PFC_MARGIN : Fld := ⟨0x160300, 0x0, 0x1, 20, 16, .cfg, 5, .any⟩
def Reg.CHG_PATH_TRANSFER_V : Fld := ⟨0x160400, 0x0, 0x1, 7, 0, .cfg, 0xA, .nat 1 255⟩
def Reg.CHG_PATH_SAG_V : Fld := ⟨0x160400, 0x0, 0x1, 15, 8, .cfg, 0x14, .nat 2 255⟩
def Reg.CHG_PATH_HB_I : Fld := ⟨0x160400, 0x0, 0x1, 23, 16, .cfg, 2, .any⟩
def Reg.CHG_PATH_HB_TIME : Fld := ⟨0x160400, 0x0, 0x1, 31, 24, .cfg, 0xA, .nat 1 255⟩
def Reg.CHG_RAMP_PWR_RAMP : Fld := ⟨0x160500, 0x0, 0x1, 15, 0, .cfg, 0xC8, .nat 1 65535⟩
def Reg.CHG_RAMP_PAUSE_LIMIT : Fld := ⟨0x160500, 0x0, 0x1, 31, 16, .cfg, 0x258, .nat 1 65535⟩
def Reg.CHG_V_SET : Fld := ⟨0x160600, 0x0, 0x1, 13, 0, .rw, 0, .nat 0 11500⟩
def Reg.CHG_I_SET : Fld := ⟨0x160700, 0x0, 0x1, 13, 0, .rw, 0, .any⟩
def Reg.CHG_END_I_TAPER : Fld := ⟨0x160800, 0x0, 0x1, 11, 0, .cfg, 0x32, .nat 1 4095⟩
def Reg.CHG_END_TAPER_TIME : Fld := ⟨0x160800, 0x0, 0x1, 23, 12, .cfg, 0x3C, .nat 1 3600⟩
def Reg.CHG_SAFETY_SAFETY_TIME : Fld := ⟨0x160801, 0x0, 0x1, 16, 0, .cfg, 0x7080, .nat 1800 86400⟩
def Reg.CHG_BMS_REQUEST : Fld := ⟨0x160900, 0x0, 0x1, 0, 0, .rw, 0, .any⟩
def Reg.CHG_BMS_STOP : Fld := ⟨0x160900, 0x0, 0x1, 1, 1, .rw, 0, .any⟩
def Reg.CHG_BMS_LIMITS_V_MAX : Fld := ⟨0x160901, 0x0, 0x1, 13, 0, .rw, 0, .any⟩
def Reg.CHG_BMS_LIMITS_I_MAX : Fld := ⟨0x160901, 0x0, 0x1, 29, 14, .rw, 0, .any⟩
def Reg.CHG_BMS_TIMEOUT : Fld := ⟨0x160A00, 0x0, 0x1, 13, 0, .cfg, 0x1F4, .nat 1 10000⟩
def Reg.CHG_INPUTS : Fld := ⟨0x160B00, 0x1, 0x0, 4, 0, .cfg, 0, .any⟩
def Reg.CHG_VIN_SCALE : Fld := ⟨0x160C00, 0x0, 0x1, 15, 0, .cfg, 0x1770, .nat 1 65535⟩
def Reg.CHG_FAULT_PFC_OV_REACTION : Fld := ⟨0x160D00, 0x0, 0x1, 3, 0, .cfg, 4, .oneOf [0, 1, 2, 3, 4, 6, 7]⟩
def Reg.CHG_FAULT_BATT_OV_REACTION : Fld := ⟨0x160D00, 0x0, 0x1, 7, 4, .cfg, 4, .oneOf [0, 1, 2, 3, 4, 6, 7]⟩
def Reg.CHG_FAULT_BATT_OC_REACTION : Fld := ⟨0x160D00, 0x0, 0x1, 11, 8, .cfg, 3, .oneOf [0, 1, 2, 3, 4, 6, 7]⟩
def Reg.CHG_FAULT_FLUX_REACTION : Fld := ⟨0x160D00, 0x0, 0x1, 15, 12, .cfg, 3, .oneOf [0, 1, 2, 3, 4, 6, 7]⟩
def Reg.CHG_FAULT_BATT_OV_PCT : Fld := ⟨0x160D00, 0x0, 0x1, 19, 16, .cfg, 2, .nat 1 10⟩
def Reg.CHG_FAULT_FLUX_LIMIT : Fld := ⟨0x160D00, 0x0, 0x1, 27, 20, .cfg, 0x14, .nat 1 255⟩
def Reg.CHG_STATUS_PP_STATE : Fld := ⟨0x161000, 0x0, 0x1, 2, 0, .ro, 0, .any⟩
def Reg.CHG_STATUS_CHG_STATE : Fld := ⟨0x161000, 0x0, 0x1, 4, 3, .ro, 0, .any⟩
def Reg.CHG_STATUS_LAST_END : Fld := ⟨0x161000, 0x0, 0x1, 8, 5, .ro, 0, .any⟩
def Reg.CHG_STATUS_QUALIFIED : Fld := ⟨0x161000, 0x0, 0x1, 9, 9, .ro, 0, .any⟩
def Reg.CHG_STATUS_VREG : Fld := ⟨0x161000, 0x0, 0x1, 10, 10, .ro, 0, .any⟩
def Reg.CHG_STATUS_THERMAL : Fld := ⟨0x161000, 0x0, 0x1, 11, 11, .ro, 0, .any⟩
def Reg.CHG_STATUS_HALF : Fld := ⟨0x161000, 0x0, 0x1, 12, 12, .ro, 0, .any⟩
def Reg.CHG_STATUS_BACKOFF : Fld := ⟨0x161000, 0x0, 0x1, 13, 13, .ro, 0, .any⟩
def Reg.CHG_STATUS_FEEDING : Fld := ⟨0x161000, 0x0, 0x1, 14, 14, .ro, 0, .any⟩
def Reg.CHG_STATUS_BMS_FRESH : Fld := ⟨0x161000, 0x0, 0x1, 15, 15, .ro, 0, .any⟩
def Reg.CHG_STATUS_COLD : Fld := ⟨0x161000, 0x0, 0x1, 16, 16, .ro, 0, .any⟩
def Reg.CHG_STATUS_FAULT_LATCH : Fld := ⟨0x161000, 0x0, 0x1, 17, 17, .ro, 0, .any⟩
def Reg.CHG_STATUS_ATTN : Fld := ⟨0x161000, 0x0, 0x1, 18, 18, .ro, 0, .any⟩
def Reg.CHG_MEAS : Fld := ⟨0x161100, 0x1, 0x0, 31, 0, .ro, 0, .any⟩
def Reg.CHG_TIMER : Fld := ⟨0x161200, 0x1, 0x0, 31, 0, .ro, 0, .any⟩
def Reg.CHG_COUNTERS : Fld := ⟨0x161300, 0x1, 0x0, 31, 0, .ro, 0, .any⟩
def Reg.CHG_ATTN_MASK : Fld := ⟨0x161400, 0x0, 0x1, 7, 0, .cfg, 0x66, .any⟩
def Reg.CHG_SNAP : Fld := ⟨0x162000, 0x100, 0x1, 31, 0, .ro, 0, .any⟩
def Reg.CHG_SNAP_VALID : Fld := ⟨0x162300, 0x0, 0x1, 2, 0, .ro, 0, .any⟩

/-! ### Fields of 13_gearbox_actuators.md -/

def Reg.ACT_CFG_SLOT : Fld := ⟨0x170000, 0x2000, 0x1, 5, 0, .cfg, 0x3F, .natOr 0 47 63⟩
def Reg.ACT_CFG_ROLE : Fld := ⟨0x170000, 0x2000, 0x1, 6, 6, .cfg, 0, .any⟩
def Reg.ACT_CFG_ENGAGE_DIR : Fld := ⟨0x170000, 0x2000, 0x1, 7, 7, .cfg, 0, .any⟩
def Reg.ACT_CFG_PARK_FB : Fld := ⟨0x170000, 0x2000, 0x1, 15, 8, .cfg, 0, .any⟩
def Reg.ACT_CFG_HOLD_MODE : Fld := ⟨0x170000, 0x2000, 0x1, 17, 16, .cfg, 0, .any⟩
def Reg.ACT_CFG_DRIFT_ACTION : Fld := ⟨0x170000, 0x2000, 0x1, 18, 18, .cfg, 1, .any⟩
def Reg.ACT_CFG_PARK_SPEED : Fld := ⟨0x170000, 0x2000, 0x1, 26, 19, .cfg, 5, .any⟩
def Reg.ACT_MOVE_ARRIVE_WIN : Fld := ⟨0x170100, 0x2000, 0x1, 11, 0, .cfg, 8, .any⟩
def Reg.ACT_MOVE_ARRIVE_TIME : Fld := ⟨0x170100, 0x2000, 0x1, 19, 12, .cfg, 5, .nat 1 255⟩
def Reg.ACT_MOVE_MOVE_TIME : Fld := ⟨0x170100, 0x2000, 0x1, 31, 20, .cfg, 0x1F4, .nat 1 4095⟩
def Reg.ACT_HOLD_I_HOLD : Fld := ⟨0x170200, 0x2000, 0x1, 11, 0, .cfg, 0x1F4, .any⟩
def Reg.ACT_HOLD_DRIFT_WIN : Fld := ⟨0x170200, 0x2000, 0x1, 19, 12, .cfg, 0x20, .nat 1 255⟩
def Reg.ACT_HOLD_BLOCK_TIME : Fld := ⟨0x170200, 0x2000, 0x1, 27, 20, .cfg, 0x14, .nat 1 255⟩
def Reg.ACT_LIMITS_VACT_MIN : Fld := ⟨0x170300, 0x2000, 0x1, 7, 0, .cfg, 0x44, .nat 60 120⟩
def Reg.ACT_LIMITS_VACT_MAX : Fld := ⟨0x170300, 0x2000, 0x1, 15, 8, .cfg, 0x7C, .nat 60 130⟩
def Reg.ACT_LIMITS_I_TRIP : Fld := ⟨0x170300, 0x2000, 0x1, 27, 16, .cfg, 0xFA0, .nat 1 4095⟩
def Reg.ACT_FAULT_TIMEOUT_REACTION : Fld := ⟨0x170400, 0x2000, 0x1, 3, 0, .cfg, 3, .oneOf [0, 1, 2, 3, 4, 6, 7]⟩
def Reg.ACT_FAULT_VACT_LOW_REACTION : Fld := ⟨0x170400, 0x2000, 0x1, 7, 4, .cfg, 3, .oneOf [0, 1, 2, 3, 4, 6, 7]⟩
def Reg.ACT_FAULT_VACT_HIGH_REACTION : Fld := ⟨0x170400, 0x2000, 0x1, 11, 8, .cfg, 4, .oneOf [0, 1, 2, 3, 4, 6, 7]⟩
def Reg.ACT_FAULT_STOP_RAMP : Fld := ⟨0x170400, 0x2000, 0x1, 23, 12, .cfg, 0x32, .nat 1 4095⟩
def Reg.ACT_STATUS_STATE : Fld := ⟨0x170500, 0x2000, 0x1, 1, 0, .ro, 0, .any⟩
def Reg.ACT_STATUS_FULL : Fld := ⟨0x170500, 0x2000, 0x1, 2, 2, .ro, 0, .any⟩
def Reg.ACT_STATUS_BLOCKED : Fld := ⟨0x170500, 0x2000, 0x1, 3, 3, .ro, 0, .any⟩
def Reg.ACT_STATUS_VACT_LOW : Fld := ⟨0x170500, 0x2000, 0x1, 4, 4, .ro, 0, .any⟩
def Reg.ACT_STATUS_VACT_HIGH : Fld := ⟨0x170500, 0x2000, 0x1, 5, 5, .ro, 0, .any⟩
def Reg.ACT_STATUS_TIMED_OUT : Fld := ⟨0x170500, 0x2000, 0x1, 6, 6, .ro, 0, .any⟩
def Reg.ACT_STATUS_HOLD : Fld := ⟨0x170500, 0x2000, 0x1, 8, 7, .ro, 0, .any⟩
def Reg.ACT_MEAS : Fld := ⟨0x170600, 0x2000, 0x1, 31, 0, .ro, 0, .any⟩
def Reg.ACT_COUNTERS : Fld := ⟨0x170700, 0x2000, 0x1, 31, 0, .ro, 0, .any⟩
def Reg.ACT_CMP_VALUE : Fld := ⟨0x171000, 0x2000, 0x100, 31, 0, .rw, 0, .any⟩
def Reg.ACT_CMP_MODE : Fld := ⟨0x171001, 0x2000, 0x100, 1, 0, .rw, 0, .any⟩
def Reg.ACT_CMP_FIRE_IF_PASSED : Fld := ⟨0x171001, 0x2000, 0x100, 2, 2, .rw, 0, .any⟩
def Reg.ACT_CMP_LOG : Fld := ⟨0x171001, 0x2000, 0x100, 3, 3, .rw, 0, .any⟩
def Reg.ACT_CMP_LIMIT : Fld := ⟨0x171001, 0x2000, 0x100, 15, 4, .rw, 0, .any⟩
def Reg.ACT_CMP_ARMED : Fld := ⟨0x171002, 0x2000, 0x100, 0, 0, .ro, 0, .any⟩
def Reg.ACT_CMP_FIRED : Fld := ⟨0x171002, 0x2000, 0x100, 1, 1, .w1c, 0, .any⟩
def Reg.ACT_CMP_BEHIND : Fld := ⟨0x171002, 0x2000, 0x100, 2, 2, .w1c, 0, .any⟩
def Reg.ACT_CMP_EITHER : Fld := ⟨0x171002, 0x2000, 0x100, 3, 3, .ro, 0, .any⟩
def Reg.ACT_CMP_FIRE_POS : Fld := ⟨0x171003, 0x2000, 0x100, 31, 0, .ro, 0, .any⟩
def Reg.ACT_CMP_FIRE_CYCLE : Fld := ⟨0x171004, 0x2000, 0x100, 31, 0, .ro, 0, .any⟩

/-! ### Fields of 14_safety_functions.md -/

def Reg.SAFE_STATUS_STO_REQ : Fld := ⟨0x180000, 0x0, 0x1, 3, 0, .ro, 0, .any⟩
def Reg.SAFE_STATUS_DISC : Fld := ⟨0x180000, 0x0, 0x1, 7, 4, .ro, 0, .any⟩
def Reg.SAFE_STATUS_EN_HW : Fld := ⟨0x180000, 0x0, 0x1, 11, 8, .ro, 0, .any⟩
def Reg.SAFE_STATUS_EN_SW : Fld := ⟨0x180000, 0x0, 0x1, 15, 12, .ro, 0, .any⟩
def Reg.SAFE_STATUS_TEST_FAIL : Fld := ⟨0x180000, 0x0, 0x1, 19, 16, .ro, 0, .any⟩
def Reg.SAFE_STATUS_TEST_DUE : Fld := ⟨0x180000, 0x0, 0x1, 23, 20, .ro, 0, .any⟩
def Reg.SAFE_STATUS_SBC_REQ : Fld := ⟨0x180000, 0x0, 0x1, 24, 24, .ro, 0, .any⟩
def Reg.SAFE_STATUS_SBC_DISC : Fld := ⟨0x180000, 0x0, 0x1, 25, 25, .ro, 0, .any⟩
def Reg.SAFE_STATUS_APPLIED : Fld := ⟨0x180000, 0x0, 0x1, 27, 26, .ro, 3, .any⟩
def Reg.SAFE_STATUS_PATH_FAULT : Fld := ⟨0x180000, 0x0, 0x1, 28, 28, .ro, 0, .any⟩
def Reg.SAFE_STATUS_BT_RUN : Fld := ⟨0x180000, 0x0, 0x1, 29, 29, .ro, 0, .any⟩
def Reg.SAFE_STO_CFG_DISC_TIME : Fld := ⟨0x180100, 0x0, 0x1, 7, 0, .cfg, 0x14, .nat 1 255⟩
def Reg.SAFE_STO_CFG_DISC_CLEAR : Fld := ⟨0x180100, 0x0, 0x1, 15, 8, .cfg, 0xA, .nat 1 255⟩
def Reg.SAFE_STO_CFG_PATH_REACTION : Fld := ⟨0x180100, 0x0, 0x1, 19, 16, .cfg, 6, .oneOf [6, 7]⟩
def Reg.SAFE_STO_CFG_TEST_REACTION : Fld := ⟨0x180100, 0x0, 0x1, 23, 20, .cfg, 6, .oneOf [6, 7]⟩
def Reg.SAFE_STO_CFG_AUTO_TEST : Fld := ⟨0x180100, 0x0, 0x1, 31, 24, .cfg, 6, .nat 1 144⟩
def Reg.SAFE_INPUTS_STO : Fld := ⟨0x180200, 0x0, 0x1, 7, 0, .ro, 0, .any⟩
def Reg.SAFE_INPUTS_SBC : Fld := ⟨0x180200, 0x0, 0x1, 9, 8, .ro, 0, .any⟩
def Reg.SAFE_BRK_CFG_STAGE : Fld := ⟨0x180300, 0x1, 0x0, 2, 0, .cfg, 7, .oneOf [0, 1, 7]⟩
def Reg.SAFE_BRK_CFG_FB : Fld := ⟨0x180300, 0x1, 0x0, 5, 3, .cfg, 0, .any⟩
def Reg.SAFE_BRK_CFG_COUPLE_STO : Fld := ⟨0x180300, 0x1, 0x0, 6, 6, .cfg, 1, .any⟩
def Reg.SAFE_BRK_CFG_BLOCK_RELEASE : Fld := ⟨0x180300, 0x1, 0x0, 7, 7, .cfg, 1, .any⟩
def Reg.SAFE_BRK_CFG_FAULT_REACTION : Fld := ⟨0x180300, 0x1, 0x0, 11, 8, .cfg, 3, .nat 0 7⟩
def Reg.SAFE_BRK_CFG_FAULT_APPLY : Fld := ⟨0x180300, 0x1, 0x0, 12, 12, .cfg, 1, .any⟩
def Reg.SAFE_BRK_CFG_APPLY_TIME : Fld := ⟨0x180300, 0x1, 0x0, 19, 13, .cfg, 0xA, .nat 1 127⟩
def Reg.SAFE_BRK_CFG_BT_SLOT : Fld := ⟨0x180300, 0x1, 0x0, 25, 20, .cfg, 0, .any⟩
def Reg.SAFE_BRK_TEST_TORQUE : Fld := ⟨0x180400, 0x1, 0x0, 7, 0, .cfg, 0x64, .nat 50 150⟩
def Reg.SAFE_BRK_TEST_TIME : Fld := ⟨0x180400, 0x1, 0x0, 10, 8, .cfg, 2, .nat 1 5⟩
def Reg.SAFE_BRK_TEST_DIR : Fld := ⟨0x180400, 0x1, 0x0, 12, 11, .cfg, 2, .nat 0 2⟩
def Reg.SAFE_BRK_TEST_COUNT_LIMIT : Fld := ⟨0x180400, 0x1, 0x0, 24, 13, .cfg, 0x10, .nat 1 4095⟩
def Reg.SAFE_BRK_TEST_FAIL_REACTION : Fld := ⟨0x180400, 0x1, 0x0, 28, 25, .cfg, 3, .nat 0 7⟩
def Reg.SAFE_BRK_INTERVAL_INTERVAL : Fld := ⟨0x180500, 0x1, 0x0, 10, 0, .cfg, 0x690, .nat 1 1680⟩
def Reg.SAFE_BRK_INTERVAL_DUE_REACTION : Fld := ⟨0x180500, 0x1, 0x0, 14, 11, .cfg, 0, .nat 0 7⟩
def Reg.SAFE_BRK_CMD : Fld := ⟨0x180600, 0x0, 0x1, 1, 0, .rw, 0, .any⟩
def Reg.SAFE_BRK_STATUS_TEST : Fld := ⟨0x180700, 0x1, 0x0, 2, 0, .ro, 0, .any⟩
def Reg.SAFE_BRK_STATUS_FAILED : Fld := ⟨0x180700, 0x1, 0x0, 3, 3, .ro, 0, .any⟩
def Reg.SAFE_BRK_STATUS_DUE : Fld := ⟨0x180700, 0x1, 0x0, 4, 4, .ro, 0, .any⟩
def Reg.SAFE_BRK_STATUS_RELEASED : Fld := ⟨0x180700, 0x1, 0x0, 5, 5, .ro, 0, .any⟩
def Reg.SAFE_BRK_STATUS_OUT_FAULT : Fld := ⟨0x180700, 0x1, 0x0, 6, 6, .ro, 0, .any⟩
def Reg.SAFE_BRK_STATUS_HOURS : Fld := ⟨0x180700, 0x1, 0x0, 31, 16, .ro, 0, .any⟩
def Reg.SAFE_BRK_RESULT : Fld := ⟨0x180800, 0x1, 0x0, 15, 0, .ro, 0, .any⟩
def Reg.SAFE_CDR_CMD : Fld := ⟨0x181000, 0x0, 0x1, 5, 0, .rw, 0, .any⟩
def Reg.SAFE_CFB_CFG_CDR : Fld := ⟨0x181100, 0x1, 0x0, 2, 0, .cfg, 7, .oneOf [0, 1, 2, 3, 4, 5, 7]⟩
def Reg.SAFE_CFB_CFG_POLARITY : Fld := ⟨0x181100, 0x1, 0x0, 3, 3, .cfg, 0, .any⟩
def Reg.SAFE_CFB_CFG_FILTER : Fld := ⟨0x181100, 0x1, 0x0, 11, 4, .cfg, 0xA, .nat 1 255⟩
def Reg.SAFE_CONTACTOR_CFB_TIME : Fld := ⟨0x181200, 0x0, 0x1, 7, 0, .cfg, 0xA, .nat 1 255⟩
def Reg.SAFE_CONTACTOR_MISMATCH_REACTION : Fld := ⟨0x181200, 0x0, 0x1, 11, 8, .cfg, 3, .oneOf [0, 1, 3, 4, 6, 7]⟩
def Reg.SAFE_CONTACTOR_WELD_REACTION : Fld := ⟨0x181200, 0x0, 0x1, 15, 12, .cfg, 7, .oneOf [0, 1, 3, 4, 6, 7]⟩
def Reg.SAFE_CONTACTOR_OPEN_ON_FAULT : Fld := ⟨0x181200, 0x0, 0x1, 16, 16, .cfg, 1, .any⟩
def Reg.SAFE_CONTACTOR_OPEN_DELAY : Fld := ⟨0x181200, 0x0, 0x1, 23, 17, .cfg, 0x14, .any⟩
def Reg.SAFE_CONTACTOR_STAGES : Fld := ⟨0x181200, 0x0, 0x1, 30, 24, .cfg, 0x7F, .any⟩
def Reg.SAFE_PRECHARGE_PRE_CDR : Fld := ⟨0x181300, 0x0, 0x1, 2, 0, .cfg, 7, .oneOf [0, 1, 2, 3, 4, 5, 7]⟩
def Reg.SAFE_PRECHARGE_MAIN_CDR : Fld := ⟨0x181300, 0x0, 0x1, 5, 3, .cfg, 7, .oneOf [0, 1, 2, 3, 4, 5, 7]⟩
def Reg.SAFE_PRECHARGE_WELD_TIME : Fld := ⟨0x181300, 0x0, 0x1, 13, 6, .cfg, 0x14, .nat 1 255⟩
def Reg.SAFE_PRECHARGE_WELD_FRAC : Fld := ⟨0x181300, 0x0, 0x1, 20, 14, .cfg, 0x3C, .nat 10 95⟩
def Reg.SAFE_PRECHARGE_PRE_DONE : Fld := ⟨0x181300, 0x0, 0x1, 27, 21, .cfg, 0x5F, .nat 50 100⟩
def Reg.SAFE_PRE_TIME_PRE_TIME : Fld := ⟨0x181301, 0x0, 0x1, 15, 0, .cfg, 0xC8, .nat 1 65535⟩
def Reg.SAFE_PRE_TIME_PRE_ENFORCE : Fld := ⟨0x181301, 0x0, 0x1, 16, 16, .cfg, 1, .any⟩
def Reg.SAFE_CON_STATUS_ON : Fld := ⟨0x181400, 0x0, 0x1, 5, 0, .ro, 0, .any⟩
def Reg.SAFE_CON_STATUS_CFB : Fld := ⟨0x181400, 0x0, 0x1, 13, 6, .ro, 0, .any⟩
def Reg.SAFE_CON_STATUS_UNEXPECTED : Fld := ⟨0x181400, 0x0, 0x1, 21, 14, .ro, 0, .any⟩
def Reg.SAFE_CON_STATUS_WELDED : Fld := ⟨0x181400, 0x0, 0x1, 27, 22, .ro, 0, .any⟩
def Reg.SAFE_CON_STATUS_PRE_OK : Fld := ⟨0x181400, 0x0, 0x1, 28, 28, .ro, 0, .any⟩
def Reg.SAFE_CON_STATUS_PRE_RUN : Fld := ⟨0x181400, 0x0, 0x1, 29, 29, .ro, 0, .any⟩
def Reg.SAFE_COUNTERS : Fld := ⟨0x181500, 0x1, 0x0, 31, 0, .ro, 0, .any⟩

/-! ### Fields of 15_supervisor_cores.md -/

def Reg.CORE_STATUS_S_STATE : Fld := ⟨0x190000, 0x0, 0x1, 1, 0, .ro, 0, .any⟩
def Reg.CORE_STATUS_V_MODE : Fld := ⟨0x190000, 0x0, 0x1, 3, 2, .ro, 0, .any⟩
def Reg.CORE_STATUS_V0_STATE : Fld := ⟨0x190000, 0x0, 0x1, 5, 4, .ro, 0, .any⟩
def Reg.CORE_STATUS_V1_STATE : Fld := ⟨0x190000, 0x0, 0x1, 7, 6, .ro, 0, .any⟩
def Reg.CORE_STATUS_REPEAT_WINDOW : Fld := ⟨0x190000, 0x0, 0x1, 8, 8, .ro, 0, .any⟩
def Reg.CORE_STATUS_RESTART_HOLD : Fld := ⟨0x190000, 0x0, 0x1, 9, 9, .ro, 0, .any⟩
def Reg.CORE_STATUS_INJECT_OK : Fld := ⟨0x190000, 0x0, 0x1, 10, 10, .ro, 0, .any⟩
def Reg.CORE_STATUS_DEBUG : Fld := ⟨0x190000, 0x0, 0x1, 11, 11, .ro, 0, .any⟩
def Reg.CORE_STATUS_BUF_MAX : Fld := ⟨0x190000, 0x0, 0x1, 17, 12, .ro, 0, .any⟩
def Reg.CORE_CFG_HOLD_LIMIT : Fld := ⟨0x190100, 0x0, 0x1, 5, 0, .cfg, 5, .nat 1 50⟩
def Reg.CORE_CFG_V_REACTION : Fld := ⟨0x190100, 0x0, 0x1, 9, 6, .cfg, 0, .oneOf [0, 3, 7]⟩
def Reg.CORE_HOLD_EXPIRY_T1 : Fld := ⟨0x190101, 0x0, 0x1, 3, 0, .cfg, 4, .oneOf [4, 5]⟩
def Reg.CORE_HOLD_EXPIRY_T2 : Fld := ⟨0x190101, 0x0, 0x1, 7, 4, .cfg, 4, .oneOf [4, 5]⟩
def Reg.CORE_HOLD_EXPIRY_L : Fld := ⟨0x190101, 0x0, 0x1, 11, 8, .cfg, 4, .oneOf [4]⟩
def Reg.CORE_HOLD_EXPIRY_P : Fld := ⟨0x190101, 0x0, 0x1, 15, 12, .cfg, 4, .oneOf [4]⟩
def Reg.CORE_HOLD_EXPIRY_D : Fld := ⟨0x190101, 0x0, 0x1, 19, 16, .cfg, 4, .oneOf [4]⟩
def Reg.CORE_HOLD_EXPIRY_X1 : Fld := ⟨0x190101, 0x0, 0x1, 23, 20, .cfg, 4, .oneOf [4]⟩
def Reg.CORE_HOLD_EXPIRY_X2 : Fld := ⟨0x190101, 0x0, 0x1, 27, 24, .cfg, 4, .oneOf [4]⟩
def Reg.CORE_COUNTERS : Fld := ⟨0x190200, 0x1, 0x0, 31, 0, .ro, 0, .any⟩
def Reg.CORE_LAST_S : Fld := ⟨0x190300, 0x1, 0x0, 31, 0, .ro, 0, .any⟩
def Reg.CORE_LAST_S_LANES : Fld := ⟨0x190303, 0x0, 0x1, 7, 0, .ro, 0, .any⟩
def Reg.CORE_LAST_S_B : Fld := ⟨0x190304, 0x1, 0x0, 31, 0, .ro, 0, .any⟩
def Reg.CORE_LAST_V : Fld := ⟨0x190400, 0x1, 0x0, 31, 0, .ro, 0, .any⟩
def Reg.CORE_LAST_V_LANES : Fld := ⟨0x190403, 0x0, 0x1, 7, 0, .ro, 0, .any⟩
def Reg.CORE_DEBUG_S_HALT : Fld := ⟨0x190500, 0x0, 0x1, 0, 0, .ro, 0, .any⟩
def Reg.CORE_DEBUG_V_HALT : Fld := ⟨0x190500, 0x0, 0x1, 1, 1, .ro, 0, .any⟩
def Reg.CORE_DEBUG_V1_HALT : Fld := ⟨0x190500, 0x0, 0x1, 2, 2, .ro, 0, .any⟩
def Reg.CORE_DEBUG_REPLAY : Fld := ⟨0x190500, 0x0, 0x1, 7, 3, .ro, 0, .any⟩
def Reg.CORE_DEBUG_ACTIONS : Fld := ⟨0x190500, 0x0, 0x1, 31, 16, .ro, 0, .any⟩

/-! ### Fields of 16_event_recorder.md -/

def Reg.LOG_STATUS_COUNT : Fld := ⟨0x1B0000, 0x0, 0x1, 13, 0, .ro, 0, .any⟩
def Reg.LOG_STATUS_FILL_WARN : Fld := ⟨0x1B0000, 0x0, 0x1, 14, 14, .ro, 0, .any⟩
def Reg.LOG_STATUS_FULL : Fld := ⟨0x1B0000, 0x0, 0x1, 15, 15, .ro, 0, .any⟩
def Reg.LOG_STATUS_CLEARING : Fld := ⟨0x1B0000, 0x0, 0x1, 16, 16, .ro, 0, .any⟩
def Reg.LOG_STATUS_CORRUPT : Fld := ⟨0x1B0000, 0x0, 0x1, 17, 17, .ro, 0, .any⟩
def Reg.LOG_STATUS_QUEUE : Fld := ⟨0x1B0000, 0x0, 0x1, 31, 24, .ro, 0, .any⟩
def Reg.LOG_HEAD : Fld := ⟨0x1B0100, 0x1, 0x0, 31, 0, .ro, 0, .any⟩
def Reg.LOG_NEXT : Fld := ⟨0x1B0200, 0x1, 0x0, 31, 0, .ro, 0, .any⟩
def Reg.LOG_CFG_BURST : Fld := ⟨0x1B0300, 0x0, 0x1, 7, 0, .cfg, 8, .nat 1 255⟩
def Reg.LOG_CFG_INTERVAL : Fld := ⟨0x1B0300, 0x0, 0x1, 15, 8, .cfg, 0xA, .nat 1 255⟩
def Reg.LOG_CFG_FILL_WARN : Fld := ⟨0x1B0300, 0x0, 0x1, 28, 16, .cfg, 0x1C00, .nat 1024 8190⟩
def Reg.LOG_CFG_ATTN_MASK : Fld := ⟨0x1B0300, 0x0, 0x1, 30, 29, .cfg, 3, .any⟩
def Reg.LOG_COUNTERS : Fld := ⟨0x1B0400, 0x1, 0x0, 31, 0, .ro, 0, .any⟩
def Reg.LOG_CURSOR_OFFSET : Fld := ⟨0x1B0800, 0x0, 0x1, 13, 0, .rw, 0, .nat 0 8192⟩
def Reg.LOG_CURSOR_END : Fld := ⟨0x1B0800, 0x0, 0x1, 14, 14, .ro, 1, .any⟩
def Reg.LOG_CURSOR_CORRUPT : Fld := ⟨0x1B0800, 0x0, 0x1, 15, 15, .ro, 0, .any⟩
def Reg.LOG_WINDOW : Fld := ⟨0x1B0900, 0x1, 0x0, 31, 0, .ro, 0, .any⟩
def Reg.LOG_RATE_CODE : Fld := ⟨0x1B4000, 0x100, 0x1, 15, 0, .cfg, 0, .any⟩
def Reg.LOG_RATE_BURST : Fld := ⟨0x1B4000, 0x100, 0x1, 23, 16, .cfg, 8, .any⟩
def Reg.LOG_RATE_INTERVAL : Fld := ⟨0x1B4000, 0x100, 0x1, 31, 24, .cfg, 0xA, .any⟩

/-! ### Fields of 17_fabric_links_and_discovery.md -/

def Reg.FAB_STATUS_ADDRESS : Fld := ⟨0x1C0000, 0x0, 0x1, 9, 0, .ro, 0x3FE, .any⟩
def Reg.FAB_STATUS_ADDR_SRC : Fld := ⟨0x1C0000, 0x0, 0x1, 11, 10, .ro, 0, .any⟩
def Reg.FAB_STATUS_ROOT : Fld := ⟨0x1C0000, 0x0, 0x1, 12, 12, .ro, 0, .any⟩
def Reg.FAB_STATUS_ROOT_LOST : Fld := ⟨0x1C0000, 0x0, 0x1, 13, 13, .ro, 0, .any⟩
def Reg.FAB_STATUS_UPSTREAM : Fld := ⟨0x1C0000, 0x0, 0x1, 15, 14, .ro, 0, .any⟩
def Reg.FAB_STATUS_VERIFIED : Fld := ⟨0x1C0000, 0x0, 0x1, 19, 16, .ro, 0, .any⟩
def Reg.FAB_STATUS_BLOCKED : Fld := ⟨0x1C0000, 0x0, 0x1, 23, 20, .ro, 0, .any⟩
def Reg.FAB_STATUS_TRANSIT : Fld := ⟨0x1C0000, 0x0, 0x1, 24, 24, .ro, 0, .any⟩
def Reg.FAB_STATUS_REFUSED : Fld := ⟨0x1C0000, 0x0, 0x1, 25, 25, .ro, 0, .any⟩
def Reg.FAB_CFG_ETHERTYPE : Fld := ⟨0x1C0100, 0x0, 0x1, 15, 0, .cfg, 0x88B5, .nat 1536 65535⟩
def Reg.FAB_CFG_ROOT_PRIO : Fld := ⟨0x1C0100, 0x0, 0x1, 23, 16, .cfg, 0x80, .any⟩
def Reg.FAB_DISCOVERY_WAGGLE_PERIOD : Fld := ⟨0x1C0200, 0x0, 0x1, 9, 0, .cfg, 0x64, .nat 10 1000⟩
def Reg.FAB_DISCOVERY_REPLY_WINDOW : Fld := ⟨0x1C0200, 0x0, 0x1, 17, 10, .cfg, 0x14, .nat 10 255⟩
def Reg.FAB_DISCOVERY_LEAVE_ROUNDS : Fld := ⟨0x1C0200, 0x0, 0x1, 21, 18, .cfg, 3, .nat 1 15⟩
def Reg.FAB_LINK_LINK_TIMEOUT : Fld := ⟨0x1C0300, 0x0, 0x1, 3, 0, .cfg, 3, .nat 2 15⟩
def Reg.FAB_LINK_FLAP_LIMIT : Fld := ⟨0x1C0300, 0x0, 0x1, 7, 4, .cfg, 5, .nat 1 15⟩
def Reg.FAB_LINK_FLAP_WINDOW : Fld := ⟨0x1C0300, 0x0, 0x1, 15, 8, .cfg, 0xA, .nat 1 255⟩
def Reg.FAB_LINK_HOLD_OFF : Fld := ⟨0x1C0300, 0x0, 0x1, 23, 16, .cfg, 0xA, .nat 1 255⟩
def Reg.FAB_LINK_ERR_LIMIT : Fld := ⟨0x1C0300, 0x0, 0x1, 31, 24, .cfg, 0x14, .nat 1 255⟩
def Reg.FAB_FAULT_LINK_REACTION : Fld := ⟨0x1C0400, 0x0, 0x1, 3, 0, .cfg, 0, .oneOf [0, 1, 3, 4, 6, 7]⟩
def Reg.FAB_FAULT_PARTITION_REACTION : Fld := ⟨0x1C0400, 0x0, 0x1, 7, 4, .cfg, 0, .oneOf [0, 1, 3, 4, 6, 7]⟩
def Reg.FAB_FAULT_STAGES : Fld := ⟨0x1C0400, 0x0, 0x1, 14, 8, .cfg, 0x7F, .any⟩
def Reg.FAB_ROOT : Fld := ⟨0x1C0500, 0x1, 0x0, 31, 0, .ro, 0, .any⟩
def Reg.FAB_ROUND_ROUND : Fld := ⟨0x1C0600, 0x0, 0x1, 15, 0, .ro, 0, .any⟩
def Reg.FAB_ROUND_NODES : Fld := ⟨0x1C0600, 0x0, 0x1, 25, 16, .ro, 0, .any⟩
def Reg.FAB_MAX_DEPTH : Fld := ⟨0x1C0601, 0x0, 0x1, 15, 0, .ro, 0, .any⟩
def Reg.FAB_PATH_DEPTH : Fld := ⟨0x1C0700, 0x0, 0x1, 15, 0, .ro, 0, .any⟩
def Reg.FAB_PATH_BITS : Fld := ⟨0x1C0701, 0x1, 0x0, 31, 0, .ro, 0, .any⟩
def Reg.FAB_COUNTERS : Fld := ⟨0x1C0800, 0x1, 0x0, 31, 0, .ro, 0, .any⟩
def Reg.FAB_PORT_CFG_ENABLE : Fld := ⟨0x1C1000, 0x100, 0x1, 0, 0, .cfg, 1, .any⟩
def Reg.FAB_PORT_CFG_ROLE : Fld := ⟨0x1C1000, 0x100, 0x1, 2, 1, .cfg, 0, .nat 0 2⟩
def Reg.FAB_PORT_STATUS_STATE : Fld := ⟨0x1C1001, 0x100, 0x1, 2, 0, .ro, 0, .any⟩
def Reg.FAB_PORT_STATUS_PHY_LINK : Fld := ⟨0x1C1001, 0x100, 0x1, 3, 3, .ro, 0, .any⟩
def Reg.FAB_PORT_STATUS_MASTER : Fld := ⟨0x1C1001, 0x100, 0x1, 4, 4, .ro, 0, .any⟩
def Reg.FAB_PORT_STATUS_UPSTREAM : Fld := ⟨0x1C1001, 0x100, 0x1, 5, 5, .ro, 0, .any⟩
def Reg.FAB_PORT_STATUS_DOWNSTREAM : Fld := ⟨0x1C1001, 0x100, 0x1, 6, 6, .ro, 0, .any⟩
def Reg.FAB_PORT_STATUS_LOOPBACK : Fld := ⟨0x1C1001, 0x100, 0x1, 7, 7, .ro, 0, .any⟩
def Reg.FAB_PORT_STATUS_FLAPS : Fld := ⟨0x1C1001, 0x100, 0x1, 11, 8, .ro, 0, .any⟩
def Reg.FAB_PORT_PEER : Fld := ⟨0x1C1002, 0x100, 0x1, 31, 0, .ro, 0, .any⟩
def Reg.FAB_PORT_COUNTERS : Fld := ⟨0x1C1004, 0x100, 0x1, 31, 0, .ro, 0, .any⟩

/-! ### Fields of 18_fabric_routing_and_cycle.md -/

def Reg.FAB_CYCLE_CFG_CYCLE_LEN : Fld := ⟨0x1C4000, 0x0, 0x1, 12, 0, .cfg, 0x7D0, .nat 125 8000⟩
def Reg.FAB_CYCLE_CFG_MASTER_PRIO : Fld := ⟨0x1C4000, 0x0, 0x1, 20, 13, .cfg, 0xFF, .any⟩
def Reg.FAB_CYCLE_CFG_LAT_REACTION : Fld := ⟨0x1C4000, 0x0, 0x1, 24, 21, .cfg, 0, .oneOf [0, 1, 3, 4, 6, 7]⟩
def Reg.FAB_CYCLE_STATUS_ROLE : Fld := ⟨0x1C4100, 0x0, 0x1, 1, 0, .ro, 0, .any⟩
def Reg.FAB_CYCLE_STATUS_LAT_OK : Fld := ⟨0x1C4100, 0x0, 0x1, 2, 2, .ro, 0, .any⟩
def Reg.FAB_CYCLE_STATUS_RING_BROKEN : Fld := ⟨0x1C4100, 0x0, 0x1, 3, 3, .ro, 0, .any⟩
def Reg.FAB_CYCLE_STATUS_MISSING : Fld := ⟨0x1C4100, 0x0, 0x1, 7, 4, .ro, 0, .any⟩
def Reg.FAB_CYCLE_STATUS_RING_MISSED : Fld := ⟨0x1C4100, 0x0, 0x1, 11, 8, .ro, 0, .any⟩
def Reg.FAB_MASTER : Fld := ⟨0x1C4200, 0x1, 0x0, 31, 0, .ro, 0, .any⟩
def Reg.FAB_CYCLE_NO : Fld := ⟨0x1C4300, 0x0, 0x1, 31, 0, .ro, 0, .any⟩
def Reg.FAB_CYCLE_LEN_NOW : Fld := ⟨0x1C4301, 0x0, 0x1, 31, 0, .ro, 0, .any⟩
def Reg.FAB_RING_RING_PORTS : Fld := ⟨0x1C4400, 0x0, 0x1, 3, 0, .cfg, 0, .any⟩
def Reg.FAB_RING_RING_MISS : Fld := ⟨0x1C4400, 0x0, 0x1, 7, 4, .cfg, 3, .nat 1 15⟩
def Reg.FAB_RING_RING_REACTION : Fld := ⟨0x1C4400, 0x0, 0x1, 11, 8, .cfg, 0, .oneOf [0, 1, 3, 4, 6, 7]⟩
def Reg.FAB_PUB_OFFSET : Fld := ⟨0x1C4500, 0x1, 0x0, 12, 0, .cfg, 0, .nat 0 7999⟩
def Reg.FAB_PUB_ENABLE : Fld := ⟨0x1C4500, 0x1, 0x0, 13, 13, .cfg, 0, .any⟩
def Reg.FAB_PUB_COUNT : Fld := ⟨0x1C4500, 0x1, 0x0, 18, 14, .ro, 0, .any⟩
def Reg.FAB_LATENCY : Fld := ⟨0x1C4600, 0x1, 0x0, 31, 0, .ro, 0, .any⟩
def Reg.FAB_SIG_COUNTERS : Fld := ⟨0x1C4700, 0x1, 0x0, 31, 0, .ro, 0, .any⟩
def Reg.FAB_CYCLE_COUNTERS : Fld := ⟨0x1C4706, 0x1, 0x0, 31, 0, .ro, 0, .any⟩
def Reg.FAB_PORT_DELAY_DELAY : Fld := ⟨0x1C5000, 0x100, 0x1, 19, 0, .ro, 0, .any⟩
def Reg.FAB_PORT_DELAY_MEASURED : Fld := ⟨0x1C5000, 0x100, 0x1, 20, 20, .ro, 0, .any⟩
def Reg.FAB_PORT_DELAY_CFG_DEFAULT : Fld := ⟨0x1C5001, 0x100, 0x1, 9, 0, .cfg, 0x3C, .nat 0 1000⟩

/-! ### Fields of 19_can_channels.md -/

def Reg.CAN_CFG_ENABLE : Fld := ⟨0x1E0000, 0x1000, 0x1, 0, 0, .cfg, 0, .any⟩
def Reg.CAN_CFG_FD : Fld := ⟨0x1E0000, 0x1000, 0x1, 1, 1, .cfg, 0, .any⟩
def Reg.CAN_CFG_RESTRICTED : Fld := ⟨0x1E0000, 0x1000, 0x1, 2, 2, .cfg, 0, .any⟩
def Reg.CAN_CFG_AUTO_RECOVER : Fld := ⟨0x1E0000, 0x1000, 0x1, 3, 3, .cfg, 0, .any⟩
def Reg.CAN_CFG_AUTO_MAX : Fld := ⟨0x1E0000, 0x1000, 0x1, 7, 4, .cfg, 3, .nat 1 15⟩
def Reg.CAN_CFG_CLAIM_EN : Fld := ⟨0x1E0000, 0x1000, 0x1, 8, 8, .cfg, 0, .any⟩
def Reg.CAN_NOMINAL_BRP : Fld := ⟨0x1E0100, 0x1000, 0x1, 5, 0, .cfg, 0, .any⟩
def Reg.CAN_NOMINAL_TSEG1 : Fld := ⟨0x1E0100, 0x1000, 0x1, 13, 6, .cfg, 0, .any⟩
def Reg.CAN_NOMINAL_TSEG2 : Fld := ⟨0x1E0100, 0x1000, 0x1, 20, 14, .cfg, 0, .any⟩
def Reg.CAN_NOMINAL_SJW : Fld := ⟨0x1E0100, 0x1000, 0x1, 27, 21, .cfg, 0, .any⟩
def Reg.CAN_NOMINAL_TDC : Fld := ⟨0x1E0100, 0x1000, 0x1, 28, 28, .cfg, 0, .any⟩
def Reg.CAN_DATA_BRP : Fld := ⟨0x1E0200, 0x1000, 0x1, 5, 0, .cfg, 0, .any⟩
def Reg.CAN_DATA_TSEG1 : Fld := ⟨0x1E0200, 0x1000, 0x1, 13, 6, .cfg, 0, .any⟩
def Reg.CAN_DATA_TSEG2 : Fld := ⟨0x1E0200, 0x1000, 0x1, 20, 14, .cfg, 0, .any⟩
def Reg.CAN_DATA_SJW : Fld := ⟨0x1E0200, 0x1000, 0x1, 27, 21, .cfg, 0, .any⟩
def Reg.CAN_DATA_TDC : Fld := ⟨0x1E0200, 0x1000, 0x1, 28, 28, .cfg, 0, .any⟩
def Reg.CAN_QUEUE_CFG_ACK_TIMEOUT : Fld := ⟨0x1E0300, 0x1000, 0x1, 9, 0, .cfg, 0x64, .nat 1 1000⟩
def Reg.CAN_QUEUE_CFG_OWN_MAX : Fld := ⟨0x1E0300, 0x1000, 0x1, 13, 10, .cfg, 4, .nat 1 8⟩
def Reg.CAN_TX_CFG_NORMAL_LIMIT : Fld := ⟨0x1E0400, 0x1000, 0x1, 5, 0, .cfg, 0x20, .nat 1 32⟩
def Reg.CAN_CLAIM_NAME : Fld := ⟨0x1E0500, 0x1000, 0x1, 31, 0, .cfg, 0, .any⟩
def Reg.CAN_CLAIM_PREFERRED : Fld := ⟨0x1E0502, 0x1000, 0x1, 7, 0, .cfg, 0, .nat 0 253⟩
def Reg.CAN_CLAIM_RANGE_LOW : Fld := ⟨0x1E0502, 0x1000, 0x1, 15, 8, .cfg, 0, .nat 0 253⟩
def Reg.CAN_CLAIM_RANGE_HIGH : Fld := ⟨0x1E0502, 0x1000, 0x1, 23, 16, .cfg, 0, .nat 0 253⟩
def Reg.CAN_FAULT_BUS_OFF_REACTION : Fld := ⟨0x1E0600, 0x1000, 0x1, 3, 0, .cfg, 0, .oneOf [0, 1, 3, 4, 6, 7]⟩
def Reg.CAN_FAULT_CLAIM_REACTION : Fld := ⟨0x1E0600, 0x1000, 0x1, 7, 4, .cfg, 0, .oneOf [0, 1, 3, 4, 6, 7]⟩
def Reg.CAN_FAULT_STAGES : Fld := ⟨0x1E0600, 0x1000, 0x1, 14, 8, .cfg, 0x7F, .any⟩
def Reg.CAN_STATUS_STATE : Fld := ⟨0x1E0700, 0x1000, 0x1, 2, 0, .ro, 0, .any⟩
def Reg.CAN_STATUS_WARNING : Fld := ⟨0x1E0700, 0x1000, 0x1, 3, 3, .ro, 0, .any⟩
def Reg.CAN_STATUS_Q0_FILL : Fld := ⟨0x1E0700, 0x1000, 0x1, 10, 4, .ro, 0, .any⟩
def Reg.CAN_STATUS_Q1_FILL : Fld := ⟨0x1E0700, 0x1000, 0x1, 17, 11, .ro, 0, .any⟩
def Reg.CAN_STATUS_TX_FILL : Fld := ⟨0x1E0700, 0x1000, 0x1, 23, 18, .ro, 0, .any⟩
def Reg.CAN_STATUS_AUTO_SUSPENDED : Fld := ⟨0x1E0700, 0x1000, 0x1, 24, 24, .ro, 0, .any⟩
def Reg.CAN_STATUS_CLAIMED : Fld := ⟨0x1E0700, 0x1000, 0x1, 25, 25, .ro, 0, .any⟩
def Reg.CAN_STATUS_CANNOT_CLAIM : Fld := ⟨0x1E0700, 0x1000, 0x1, 26, 26, .ro, 0, .any⟩
def Reg.CAN_ERRORS_TX : Fld := ⟨0x1E0800, 0x1000, 0x1, 8, 0, .ro, 0, .any⟩
def Reg.CAN_ERRORS_RX : Fld := ⟨0x1E0800, 0x1000, 0x1, 23, 16, .ro, 0, .any⟩
def Reg.CAN_TX_BOUND : Fld := ⟨0x1E0900, 0x1000, 0x1, 31, 0, .ro, 0, .any⟩
def Reg.CAN_COUNTERS : Fld := ⟨0x1E0A00, 0x1000, 0x1, 31, 0, .ro, 0, .any⟩
def Reg.CAN_ADDRESS : Fld := ⟨0x1E0B00, 0x1000, 0x1, 7, 0, .ro, 0xFE, .any⟩
def Reg.CAN_ACK : Fld := ⟨0x1E0C00, 0x1000, 0x1, 15, 0, .rw, 0, .any⟩

/-! ### Fields of 20_host_services.md -/

def Reg.SVC_STATUS_OPEN : Fld := ⟨0x1F0000, 0x0, 0x1, 3, 0, .ro, 0, .any⟩
def Reg.SVC_STATUS_LOCKOUT : Fld := ⟨0x1F0000, 0x0, 0x1, 4, 4, .ro, 0, .any⟩
def Reg.SVC_STATUS_FAILS : Fld := ⟨0x1F0000, 0x0, 0x1, 7, 5, .ro, 0, .any⟩
def Reg.SVC_STATUS_HELD : Fld := ⟨0x1F0000, 0x0, 0x1, 13, 8, .ro, 0, .any⟩
def Reg.SVC_CFG_AUTH_MASK : Fld := ⟨0x1F0100, 0x0, 0x1, 19, 0, .cfg, 0, .any⟩
def Reg.SVC_CAN_REPLY : Fld := ⟨0x1F0200, 0x1, 0x0, 31, 0, .cfg, 0, .any⟩
def Reg.SVC_COUNTERS : Fld := ⟨0x1F0300, 0x1, 0x0, 31, 0, .ro, 0, .any⟩

/-! ### Fields of 21_parameter_map.md -/

def Reg.ID_UID : Fld := ⟨0x000000, 0x1, 0x0, 31, 0, .ro, 0, .any⟩
def Reg.ID_PRODUCT : Fld := ⟨0x000100, 0x0, 0x1, 31, 0, .ro, 0x6400, .any⟩
def Reg.ID_HW_REV : Fld := ⟨0x000200, 0x0, 0x1, 15, 0, .ro, 0, .any⟩
def Reg.ID_ROM : Fld := ⟨0x000300, 0x0, 0x1, 15, 0, .ro, 0, .any⟩
def Reg.ID_STARTS : Fld := ⟨0x000400, 0x0, 0x1, 31, 0, .ro, 0, .any⟩
def Reg.ID_OWNER_FP : Fld := ⟨0x000500, 0x1, 0x0, 31, 0, .ro, 0, .any⟩
def Reg.ID_POWERED : Fld := ⟨0x000600, 0x0, 0x1, 31, 0, .ro, 0, .any⟩
def Reg.ID_UPTIME : Fld := ⟨0x000700, 0x0, 0x1, 31, 0, .ro, 0, .any⟩
def Reg.ID_MFG_WEEK : Fld := ⟨0x000800, 0x0, 0x1, 7, 0, .ro, 0, .any⟩
def Reg.ID_MFG_YEAR : Fld := ⟨0x000800, 0x0, 0x1, 15, 8, .ro, 0, .any⟩
def Reg.STATE_MODULE_STATE : Fld := ⟨0x001000, 0x0, 0x1, 3, 0, .ro, 0, .any⟩
def Reg.STATE_MODULE_STEP : Fld := ⟨0x001000, 0x0, 0x1, 7, 4, .ro, 0, .any⟩
def Reg.STATE_MODULE_ATTN : Fld := ⟨0x001000, 0x0, 0x1, 8, 8, .ro, 0, .any⟩
def Reg.STATE_MODULE_DEGRADED : Fld := ⟨0x001000, 0x0, 0x1, 9, 9, .ro, 0, .any⟩
def Reg.STATE_MODULE_LAST_EVENT : Fld := ⟨0x001000, 0x0, 0x1, 31, 16, .ro, 0, .any⟩
def Reg.STATE_REQUEST_SHIP : Fld := ⟨0x001100, 0x0, 0x1, 0, 0, .rw, 0, .any⟩
def Reg.STATE_REQUEST_SLEEP : Fld := ⟨0x001100, 0x0, 0x1, 1, 1, .rw, 0, .any⟩
def Reg.STATE_STAGE_LAST_EVENT : Fld := ⟨0x001200, 0x1, 0x0, 15, 0, .ro, 0, .any⟩
def Reg.STATE_STAGE_REACTION : Fld := ⟨0x001200, 0x1, 0x0, 19, 16, .ro, 0, .any⟩
def Reg.STATE_STAGE_LATCHED : Fld := ⟨0x001200, 0x1, 0x0, 20, 20, .ro, 0, .any⟩
def Reg.STATE_STAGE_STO : Fld := ⟨0x001200, 0x1, 0x0, 21, 21, .ro, 0, .any⟩
def Reg.STATE_STAGE_STATE : Fld := ⟨0x001200, 0x1, 0x0, 24, 22, .ro, 0, .any⟩
def Reg.STATE_DEGRADED_CORES : Fld := ⟨0x001300, 0x0, 0x1, 3, 0, .ro, 0, .any⟩
def Reg.STATE_DEGRADED_ENGINES : Fld := ⟨0x001300, 0x0, 0x1, 4, 4, .ro, 0, .any⟩
def Reg.STATE_DEGRADED_RING : Fld := ⟨0x001300, 0x0, 0x1, 5, 5, .ro, 0, .any⟩
def Reg.STATE_DEGRADED_RESTART : Fld := ⟨0x001300, 0x0, 0x1, 6, 6, .ro, 0, .any⟩
def Reg.STATE_FAULT_EVENTS : Fld := ⟨0x001400, 0x1, 0x0, 31, 0, .ro, 0, .any⟩
def Reg.STATE_SEEN_EVENTS : Fld := ⟨0x001500, 0x1, 0x0, 31, 0, .w1c, 0, .any⟩
def Reg.ATTN_STATUS_SUBSYS : Fld := ⟨0x002000, 0x0, 0x1, 17, 0, .ro, 0, .any⟩
def Reg.ATTN_STATUS_START : Fld := ⟨0x002000, 0x0, 0x1, 18, 18, .ro, 0, .any⟩
def Reg.ATTN_STATUS_SAFE : Fld := ⟨0x002000, 0x0, 0x1, 19, 19, .ro, 0, .any⟩
def Reg.ATTN_STATUS_DEGRADED : Fld := ⟨0x002000, 0x0, 0x1, 20, 20, .ro, 0, .any⟩
def Reg.ATTN_STATUS_HELD : Fld := ⟨0x002000, 0x0, 0x1, 21, 21, .ro, 0, .any⟩
def Reg.ATTN_STATUS_ATTN : Fld := ⟨0x002000, 0x0, 0x1, 31, 31, .ro, 0, .any⟩
def Reg.ATTN_CFG_USE_SEEN : Fld := ⟨0x002100, 0x0, 0x1, 0, 0, .cfg, 0, .any⟩
def Reg.ATTN_CFG_SAFE_ATTN : Fld := ⟨0x002100, 0x0, 0x1, 1, 1, .cfg, 1, .any⟩
def Reg.ATTN_CFG_DEGRADED_ATTN : Fld := ⟨0x002100, 0x0, 0x1, 2, 2, .cfg, 0, .any⟩
def Reg.ATTN_CFG_MIN_ASSERT : Fld := ⟨0x002100, 0x0, 0x1, 10, 3, .cfg, 0xA, .any⟩
def Reg.ATTN_MASK_MASK : Fld := ⟨0x002200, 0x1, 0x0, 31, 0, .cfg, 0, .any⟩

/-! ### Fields of 07_control_engine.md -/

def Reg.ENG_LANE_LOAD_UTIL : Fld := ⟨0x090010, 0x1, 0x0, 15, 0, .ro, 0, .any⟩
def Reg.ENG_LANE_LOAD_LARGEST : Fld := ⟨0x090010, 0x1, 0x0, 31, 16, .ro, 0, .any⟩
def Reg.ENG_STOP_STOP_TIME : Fld := ⟨0x090014, 0x1, 0x0, 15, 0, .cfg, 0x64, .nat 1 50000⟩

/-- The words of 02_start_and_comb_image.md. -/
def Map.startWords : List WordDef :=
  [⟨0x010000, 0x0, 1, 0x1, 1, .ro, [Reg.START_KEY_STATUS_SLOT, Reg.START_KEY_STATUS_READ_MODE, Reg.START_KEY_STATUS_CAUSE, Reg.START_KEY_STATUS_SLOT_A_HDR, Reg.START_KEY_STATUS_SLOT_B_HDR, Reg.START_KEY_STATUS_REREAD, Reg.START_KEY_STATUS_EARLY_CAN, Reg.START_KEY_STATUS_KEY_CHANGED, Reg.START_KEY_STATUS_PROTECTED, Reg.START_KEY_STATUS_CAPACITY]⟩,
   ⟨0x010100, 0x0, 1, 0x1, 1, .ro, [Reg.START_IMAGE_GEN]⟩,
   ⟨0x010200, 0x0, 1, 0x1, 1, .ro, [Reg.START_IMAGE_ID]⟩,
   ⟨0x010300, 0x0, 1, 0x1, 1, .ro, [Reg.START_IMAGE_CRC]⟩,
   ⟨0x010400, 0x0, 1, 0x1, 1, .ro, [Reg.START_MACHINE_TYPE]⟩,
   ⟨0x010500, 0x0, 1, 0x1, 1, .ro, [Reg.START_TIMES_VERIFIED_AT, Reg.START_TIMES_READY_AT]⟩,
   ⟨0x010600, 0x1, 4, 0x0, 1, .ro, [Reg.START_CAN_DROPPED]⟩,
   ⟨0x010700, 0x1, 4, 0x0, 1, .ro, [Reg.START_CAN_OVERFLOW]⟩,
   ⟨0x010800, 0x1, 4, 0x0, 1, .ro, [Reg.START_CAN_STALE]⟩,
   ⟨0x010900, 0x0, 1, 0x1, 1, .ro, [Reg.START_NOT_READY_DROPPED]⟩,
   ⟨0x011000, 0x0, 1, 0x1, 1, .cfg, [Reg.START_SLEEP_IDLE]⟩,
   ⟨0x011100, 0x0, 1, 0x1, 1, .cfg, [Reg.START_WAKE_SOURCES_CAN_WAKE, Reg.START_WAKE_SOURCES_FABRIC_WAKE, Reg.START_WAKE_SOURCES_WAKE_PIN]⟩,
   ⟨0x011200, 0x0, 1, 0x1, 1, .cfg, [Reg.START_KEY_CHECK_PERIOD, Reg.START_KEY_CHECK_REACTION]⟩,
   ⟨0x011300, 0x0, 1, 0x1, 1, .ro, [Reg.START_PENDING_GEN]⟩,
   ⟨0x011400, 0x0, 1, 0x1, 1, .ro, [Reg.START_KEY_WRITE_STATUS_STATE, Reg.START_KEY_WRITE_STATUS_FAIL, Reg.START_KEY_WRITE_STATUS_PROGRESS, Reg.START_KEY_WRITE_STATUS_TARGET]⟩,
   ⟨0x011500, 0x0, 1, 0x1, 1, .ro, [Reg.START_WAKE_CAUSE_SOURCE, Reg.START_WAKE_CAUSE_UNIT]⟩]

/-- The words of 03_clocks_and_arbitration.md. -/
def Map.clkWords : List WordDef :=
  [⟨0x020000, 0x0, 1, 0x1, 1, .ro, [Reg.CLK_STATUS_STATE, Reg.CLK_STATUS_PLL_LOCK, Reg.CLK_STATUS_ON_BACKUP, Reg.CLK_STATUS_XTAL_FAIL, Reg.CLK_STATUS_PLL_FAIL, Reg.CLK_STATUS_COUNT_FAIL, Reg.CLK_STATUS_CORR_LIMIT, Reg.CLK_STATUS_FAILED_CLOCK, Reg.CLK_STATUS_HOLDOVER_S]⟩,
   ⟨0x020100, 0x0, 1, 0x1, 1, .cfg, [Reg.CLK_DISCIPLINE_ENABLE, Reg.CLK_DISCIPLINE_BW, Reg.CLK_DISCIPLINE_HOLDOVER_LIMIT, Reg.CLK_DISCIPLINE_LOSS_REACTION, Reg.CLK_DISCIPLINE_LOSS_STAGES]⟩,
   ⟨0x020200, 0x0, 1, 0x1, 1, .cfg, [Reg.CLK_FAULT_CLOCK_REACTION, Reg.CLK_FAULT_ECC_REACTION]⟩,
   ⟨0x020300, 0x0, 1, 0x1, 1, .ro, [Reg.CLK_CORRECTION]⟩,
   ⟨0x020400, 0x0, 1, 0x1, 1, .ro, [Reg.CLK_PHASE_ERROR]⟩,
   ⟨0x020500, 0x0, 1, 0x1, 1, .ro, [Reg.CLK_LOCK_LOSSES]⟩,
   ⟨0x021000, 0x1, 7, 0x0, 1, .ro, [Reg.ARB_MAX_WAIT]⟩,
   ⟨0x021100, 0x1, 7, 0x0, 1, .ro, [Reg.ARB_SHAPED]⟩,
   ⟨0x021200, 0x0, 1, 0x1, 1, .ro, [Reg.ARB_ECC_CORRECTED]⟩,
   ⟨0x021300, 0x0, 1, 0x1, 1, .ro, [Reg.ARB_ECC_UNCORRECTABLE]⟩,
   ⟨0x021400, 0x1, 2, 0x0, 1, .ro, [Reg.ARB_DEMAND]⟩]

/-- The words of 04_sampling.md. -/
def Map.smpWords : List WordDef :=
  [⟨0x040000, 0x1, 4, 0x0, 1, .ro, [Reg.SMP_CORE_STATUS_CAL_SLICE, Reg.SMP_CORE_STATUS_FAILED, Reg.SMP_CORE_STATUS_DEGRADED, Reg.SMP_CORE_STATUS_STALE, Reg.SMP_CORE_STATUS_SUBST, Reg.SMP_CORE_STATUS_ENTRY, Reg.SMP_CORE_STATUS_REF_FAULT]⟩,
   ⟨0x040100, 0x1, 4, 0x0, 1, .cfg, [Reg.SMP_CORE_CFG_TABLE_LEN, Reg.SMP_CORE_CFG_IDLE_PERIOD]⟩,
   ⟨0x040200, 0x1, 4, 0x0, 1, .cfg, [Reg.SMP_FAULT_OVERRUN_REACTION, Reg.SMP_FAULT_STALE_REACTION, Reg.SMP_FAULT_REF_REACTION, Reg.SMP_FAULT_STALE_LIMIT]⟩,
   ⟨0x040300, 0x1, 4, 0x0, 1, .ro, [Reg.SMP_OVERRUNS]⟩,
   ⟨0x040400, 0x1, 4, 0x0, 1, .ro, [Reg.SMP_DMA_LOST]⟩,
   ⟨0x040500, 0x1, 4, 0x0, 1, .ro, [Reg.SMP_CAL_FAILS]⟩,
   ⟨0x040600, 0x1, 2, 0x0, 1, .w1c, [Reg.SMP_AI_OVR]⟩,
   ⟨0x040602, 0x0, 1, 0x1, 1, .w1c, [Reg.SMP_AI_OVR_HI]⟩,
   ⟨0x050000, 0x100, 80, 0x1, 1, .cfg, [Reg.SMP_AI_CFG_OVR_FILTER, Reg.SMP_AI_CFG_OVR_REACTION]⟩,
   ⟨0x060000, 0x100, 128, 0x1, 1, .cfg, [Reg.SMP_ACC_CFG_LATCH_SRC, Reg.SMP_ACC_CFG_LATCH_EVT, Reg.SMP_ACC_CFG_OWNER, Reg.SMP_ACC_CFG_EMPTY_REACTION, Reg.SMP_ACC_CFG_MIN_COUNT]⟩,
   ⟨0x060001, 0x100, 128, 0x1, 1, .ro, [Reg.SMP_ACC_AVG]⟩,
   ⟨0x060002, 0x100, 128, 0x1, 1, .ro, [Reg.SMP_ACC_STATUS_COUNT, Reg.SMP_ACC_STATUS_STALE, Reg.SMP_ACC_STATUS_FULL]⟩,
   ⟨0x060003, 0x100, 128, 0x1, 1, .ro, [Reg.SMP_ACC_SUM_LO]⟩,
   ⟨0x060004, 0x100, 128, 0x1, 1, .ro, [Reg.SMP_ACC_SUM_HI]⟩,
   ⟨0x060005, 0x100, 128, 0x1, 1, .ro, [Reg.SMP_ACC_LATCH_NO]⟩,
   ⟨0x070000, 0x100, 64, 0x1, 1, .cfg, [Reg.SMP_BUF_CFG_BASE, Reg.SMP_BUF_CFG_SIZE_LOG2, Reg.SMP_BUF_CFG_TRIG_EN]⟩,
   ⟨0x070001, 0x100, 64, 0x1, 1, .ro, [Reg.SMP_BUF_WRPTR_INDEX, Reg.SMP_BUF_WRPTR_WRAPS]⟩,
   ⟨0x070002, 0x100, 64, 0x1, 1, .rw, [Reg.SMP_BUF_CONTROL_FREEZE, Reg.SMP_BUF_CONTROL_FROZEN, Reg.SMP_BUF_CONTROL_POST]⟩,
   ⟨0x078000, 0x0, 1, 0x1, 1, .cfg, [Reg.HK_CFG_PERIOD, Reg.HK_CFG_RAIL_REACTION]⟩,
   ⟨0x078100, 0x0, 1, 0x1, 1, .cfg, [Reg.HK_MASK]⟩,
   ⟨0x078101, 0x0, 1, 0x1, 1, .cfg, [Reg.HK_MASK_HI, Reg.HK_MASK_FIXED]⟩,
   ⟨0x078200, 0x0, 1, 0x1, 1, .ro, [Reg.HK_ROUNDS]⟩,
   ⟨0x07C000, 0x100, 64, 0x1, 1, .ro, [Reg.HK_P_RESULT_CODE, Reg.HK_P_RESULT_VALID, Reg.HK_P_RESULT_OUT, Reg.HK_P_RESULT_CAUSE, Reg.HK_P_RESULT_ROUND]⟩,
   ⟨0x07C001, 0x100, 48, 0x1, 1, .cfg, [Reg.HK_P_LIMITS_LOW, Reg.HK_P_LIMITS_FILTER, Reg.HK_P_LIMITS_HIGH, Reg.HK_P_LIMITS_REACTION]⟩,
   ⟨0x07F001, 0x100, 16, 0x1, 1, .ro, []⟩]

/-- The words of 05_thermal.md. -/
def Map.thWords : List WordDef :=
  [⟨0x1A0000, 0x0, 1, 0x1, 1, .cfg, [Reg.TH_CFG_FLOOR, Reg.TH_CFG_COLD_LIMIT, Reg.TH_CFG_NOEST_REACTION, Reg.TH_CFG_RESTORE]⟩,
   ⟨0x1A0100, 0x0, 1, 0x1, 1, .ro, [Reg.TH_ROUNDS]⟩,
   ⟨0x1A0200, 0x1, 7, 0x0, 1, .ro, [Reg.TH_STAGE_LIMIT]⟩,
   ⟨0x1A0300, 0x1, 52, 0x0, 1, .ro, [Reg.TH_SHUT_COUNT]⟩,
   ⟨0x1A1000, 0x100, 8, 0x1, 1, .cfg, [Reg.TH_EXT_CFG_HK_POS, Reg.TH_EXT_CFG_OFFSET]⟩,
   ⟨0x1A1001, 0x100, 8, 0x1, 1, .cfg, [Reg.TH_EXT_GAIN]⟩,
   ⟨0x1A4000, 0x100, 52, 0x1, 1, .cfg, [Reg.TH_S_CFG_ENABLE, Reg.TH_S_CFG_STAGES, Reg.TH_S_CFG_FILTER, Reg.TH_S_CFG_HYST, Reg.TH_S_CFG_SHUT_REACTION]⟩,
   ⟨0x1A4001, 0x100, 52, 0x1, 1, .ro, [Reg.TH_S_VALUE_EFF, Reg.TH_S_VALUE_RAW]⟩,
   ⟨0x1A4002, 0x100, 52, 0x1, 1, .ro, [Reg.TH_S_STATUS_WARN, Reg.TH_S_STATUS_DERATE, Reg.TH_S_STATUS_SHUT, Reg.TH_S_STATUS_COLD_DRIVE, Reg.TH_S_STATUS_COLD_CHARGE, Reg.TH_S_STATUS_ELEC, Reg.TH_S_STATUS_BROKEN, Reg.TH_S_STATUS_NO_EST]⟩,
   ⟨0x1A4003, 0x100, 52, 0x1, 1, .cfg, [Reg.TH_S_UPPER_WARN, Reg.TH_S_UPPER_DERATE]⟩,
   ⟨0x1A4004, 0x100, 52, 0x1, 1, .cfg, [Reg.TH_S_SHUT_SHUT, Reg.TH_S_SHUT_RELEASE]⟩,
   ⟨0x1A4005, 0x100, 52, 0x1, 1, .cfg, [Reg.TH_S_COLD_DRIVE, Reg.TH_S_COLD_CHARGE]⟩]

/-- The words of 06_position_feedback.md. -/
def Map.fbWords : List WordDef :=
  [⟨0x080000, 0x1000, 8, 0x1, 1, .cfg, [Reg.FB_MODE_MODE, Reg.FB_MODE_STAGE, Reg.FB_MODE_LATCH_EVT, Reg.FB_MODE_SUPPLY]⟩,
   ⟨0x080100, 0x1000, 8, 0x1, 1, .cfg, [Reg.FB_SCALE_CPR, Reg.FB_SCALE_POLE_PAIRS]⟩,
   ⟨0x080200, 0x1000, 8, 0x1, 1, .cfg, [Reg.FB_INPUT_GLITCH, Reg.FB_INPUT_WIRE_FILTER, Reg.FB_INPUT_TERM, Reg.FB_INPUT_HALL_DIFF, Reg.FB_INPUT_INV_DIR, Reg.FB_INPUT_Z_GATE]⟩,
   ⟨0x080300, 0x1000, 8, 0x1, 1, .cfg, [Reg.FB_SPEED_CFG_WINDOW, Reg.FB_SPEED_CFG_PERIOD_COUNTS, Reg.FB_SPEED_CFG_HYST, Reg.FB_SPEED_CFG_ZERO_TIME]⟩,
   ⟨0x080400, 0x1000, 8, 0x1, 1, .cfg, [Reg.FB_CROSS]⟩,
   ⟨0x080500, 0x1000, 8, 0x1, 1, .cfg, [Reg.FB_INDEX_INDEX_MODE, Reg.FB_INDEX_REF_MODE, Reg.FB_INDEX_INDEX_POS, Reg.FB_INDEX_INDEX_TOL]⟩,
   ⟨0x080600, 0x1000, 8, 0x1, 1, .cfg, [Reg.FB_FAULT_SIGNAL_REACTION, Reg.FB_FAULT_POS_REACTION, Reg.FB_FAULT_INDEX_REACTION]⟩,
   ⟨0x080700, 0x1000, 8, 0x1, 1, .cfg, [Reg.FB_HALL_MAP_SECTOR]⟩,
   ⟨0x080800, 0x1000, 8, 0x1, 1, .cfg, [Reg.FB_SSI_FRAME_ST_BITS, Reg.FB_SSI_FRAME_MT_BITS, Reg.FB_SSI_FRAME_ERR_BITS, Reg.FB_SSI_FRAME_ERR_POL, Reg.FB_SSI_FRAME_PARITY, Reg.FB_SSI_FRAME_GRAY]⟩,
   ⟨0x080900, 0x1000, 8, 0x1, 1, .cfg, [Reg.FB_SSI_TIMING_CLK, Reg.FB_SSI_TIMING_MONO, Reg.FB_SSI_TIMING_MAX_STEP]⟩,
   ⟨0x080A00, 0x1000, 2, 0x1, 1, .cfg, [Reg.FB_RES_EXC_FREQ, Reg.FB_RES_EXC_AMP, Reg.FB_RES_RES_PHASE, Reg.FB_RES_RES_POLES, Reg.FB_RES_RES_BW]⟩,
   ⟨0x080B00, 0x1000, 2, 0x1, 1, .cfg, [Reg.FB_RES_LIMITS_AMP_LOW, Reg.FB_RES_LIMITS_AMP_HIGH, Reg.FB_RES_LIMITS_TRACK_LIMIT]⟩,
   ⟨0x082A00, 0x1000, 6, 0x1, 1, .ro, []⟩,
   ⟨0x082B00, 0x1000, 6, 0x1, 1, .ro, []⟩,
   ⟨0x080C00, 0x1000, 8, 0x1, 1, .ro, [Reg.FB_STATUS_VALID, Reg.FB_STATUS_REF_OK, Reg.FB_STATUS_DIR, Reg.FB_STATUS_METHOD, Reg.FB_STATUS_WIRE_A, Reg.FB_STATUS_WIRE_B, Reg.FB_STATUS_WIRE_Z, Reg.FB_STATUS_WIRE_CK, Reg.FB_STATUS_SUPPLY, Reg.FB_STATUS_RES_AMP, Reg.FB_STATUS_RES_TRACK, Reg.FB_STATUS_EXC, Reg.FB_STATUS_SSI_ERR, Reg.FB_STATUS_SUBST, Reg.FB_STATUS_HALL_CODE, Reg.FB_STATUS_SECTOR]⟩,
   ⟨0x080D00, 0x1000, 8, 0x1, 1, .ro, [Reg.FB_POS]⟩,
   ⟨0x080D01, 0x1000, 8, 0x1, 1, .ro, [Reg.FB_POS_MECH, Reg.FB_POS_ANGLE_E]⟩,
   ⟨0x080E00, 0x1000, 8, 0x1, 1, .ro, [Reg.FB_SPEED]⟩,
   ⟨0x080E01, 0x1000, 8, 0x1, 1, .ro, [Reg.FB_SPEED_AGE, Reg.FB_SPEED_SNAPS]⟩,
   ⟨0x080F00, 0x1000, 8, 0x1, 7, .ro, [Reg.FB_COUNTERS]⟩]

/-- The words of 07_control_engine.md. -/
def Map.engWords : List WordDef :=
  [⟨0x090000, 0x1000, 48, 0x1, 1, .cfg, [Reg.SLOT_TYPE_TYPE, Reg.SLOT_TYPE_LANE, Reg.SLOT_TYPE_STAGE, Reg.SLOT_TYPE_HALF, Reg.SLOT_TYPE_TABLE]⟩,
   ⟨0x090100, 0x1000, 48, 0x1, 1, .cfg, [Reg.SLOT_TRIGGER_SRC, Reg.SLOT_TRIGGER_EVT, Reg.SLOT_TRIGGER_REF, Reg.SLOT_TRIGGER_DIV, Reg.SLOT_TRIGGER_PHASE]⟩,
   ⟨0x090101, 0x1000, 48, 0x1, 1, .cfg, [Reg.SLOT_TRIGGER_TIMER]⟩,
   ⟨0x090200, 0x1000, 48, 0x1, 8, .cfg, [Reg.SLOT_INPUTS_SOURCE, Reg.SLOT_INPUTS_OUTPUT]⟩,
   ⟨0x090300, 0x1000, 48, 0x1, 4, .cfg, [Reg.SLOT_SCALE_K]⟩,
   ⟨0x090304, 0x1000, 48, 0x1, 1, .cfg, [Reg.SLOT_SCALE_U_BASE]⟩,
   ⟨0x090308, 0x1000, 48, 0x1, 6, .cfg, [Reg.SLOT_SCALE_OFFSET]⟩,
   ⟨0x090400, 0x1000, 48, 0x1, 2, .rw, [Reg.SLOT_SETPOINT]⟩,
   ⟨0x090500, 0x1000, 48, 0x1, 1, .cfg, [Reg.SLOT_SP_CFG_SP_SRC, Reg.SLOT_SP_CFG_SP_SLOT, Reg.SLOT_SP_CFG_SP_OUT, Reg.SLOT_SP_CFG_SP_TIMEOUT, Reg.SLOT_SP_CFG_SP_LOSS_REACTION]⟩,
   ⟨0x090600, 0x1000, 48, 0x1, 4, .rwo, [Reg.SLOT_KP]⟩,
   ⟨0x090700, 0x1000, 48, 0x1, 4, .rwo, [Reg.SLOT_KI]⟩,
   ⟨0x090800, 0x1000, 48, 0x1, 1, .rwo, [Reg.SLOT_LIMITS_OUT_MIN]⟩,
   ⟨0x090801, 0x1000, 48, 0x1, 1, .rwo, [Reg.SLOT_LIMITS_OUT_MAX]⟩,
   ⟨0x090802, 0x1000, 48, 0x1, 1, .rwo, [Reg.SLOT_LIMITS_NOMINAL]⟩,
   ⟨0x090803, 0x1000, 48, 0x1, 1, .rwo, [Reg.SLOT_LIMITS_RAMP]⟩,
   ⟨0x090804, 0x1000, 48, 0x1, 1, .rwo, [Reg.SLOT_LIMITS_DERATE_VALUE]⟩,
   ⟨0x090805, 0x1000, 48, 0x1, 1, .rwo, [Reg.SLOT_LIMITS_M_MAX]⟩,
   ⟨0x090900, 0x1000, 48, 0x1, 10, .rwo, [Reg.SLOT_FF]⟩,
   ⟨0x090A00, 0x1000, 48, 0x1, 1, .rwo, [Reg.SLOT_FE_FE_LIMIT, Reg.SLOT_FE_FE_REACTION]⟩,
   ⟨0x090A01, 0x1000, 48, 0x1, 1, .rwo, [Reg.SLOT_FE_FE_TIME]⟩,
   ⟨0x090B00, 0x1000, 48, 0x1, 1, .cfg, [Reg.SLOT_MODE_MODE, Reg.SLOT_MODE_INIT_MODE, Reg.SLOT_MODE_OVR_REACTION, Reg.SLOT_MODE_REF_REACTION]⟩,
   ⟨0x090B01, 0x1000, 48, 0x1, 4, .rw, [Reg.SLOT_MODE_MAN_OUT]⟩,
   ⟨0x090C00, 0x1000, 48, 0x1, 1, .ro, [Reg.SLOT_STATUS_ACTIVE, Reg.SLOT_STATUS_AUTO, Reg.SLOT_STATUS_VSAT, Reg.SLOT_STATUS_OUT_SAT, Reg.SLOT_STATUS_INT_HELD, Reg.SLOT_STATUS_FE, Reg.SLOT_STATUS_SP_LOST, Reg.SLOT_STATUS_RAMPING, Reg.SLOT_STATUS_DERATED, Reg.SLOT_STATUS_STALE_IN, Reg.SLOT_STATUS_REF_WAIT]⟩,
   ⟨0x090D00, 0x1000, 48, 0x1, 5, .ro, [Reg.SLOT_OUT]⟩,
   ⟨0x090D05, 0x1000, 48, 0x1, 1, .ro, [Reg.SLOT_OUT_T_U]⟩,
   ⟨0x090E00, 0x1000, 48, 0x1, 4, .ro, [Reg.SLOT_STATE_INTEGRATOR]⟩,
   ⟨0x090E04, 0x1000, 48, 0x1, 1, .ro, [Reg.SLOT_STATE_ERROR]⟩,
   ⟨0x090F00, 0x1000, 48, 0x1, 5, .ro, [Reg.SLOT_COUNTERS]⟩,
   ⟨0x090010, 0x1, 4, 0x0, 1, .ro, [Reg.ENG_LANE_LOAD_UTIL, Reg.ENG_LANE_LOAD_LARGEST]⟩,
   ⟨0x090014, 0x1, 2, 0x0, 1, .cfg, [Reg.ENG_STOP_STOP_TIME]⟩]

/-- The words of 08_pulse_generation.md. -/
def Map.pulseWords : List WordDef :=
  [⟨0x0C0000, 0x1000, 7, 0x1, 1, .cfg, [Reg.PULSE_CARRIER_MODE, Reg.PULSE_CARRIER_UPDATE, Reg.PULSE_CARRIER_REF_LEG]⟩,
   ⟨0x0C0100, 0x1000, 7, 0x1, 1, .rwo, [Reg.PULSE_PERIOD]⟩,
   ⟨0x0C0200, 0x1000, 7, 0x1, 1, .cfg, [Reg.PULSE_SYNC_SRC, Reg.PULSE_SYNC_RATIO, Reg.PULSE_SYNC_OFFSET, Reg.PULSE_SYNC_SYNC_REACTION]⟩,
   ⟨0x0C0300, 0x1000, 7, 0x1, 1, .ro, [Reg.PULSE_STATUS_RUN, Reg.PULSE_STATUS_MODE, Reg.PULSE_STATUS_LOCKED, Reg.PULSE_STATUS_SYNC_LOST, Reg.PULSE_STATUS_CYCLE_MISMATCH, Reg.PULSE_STATUS_MODE_PENDING]⟩,
   ⟨0x0C0301, 0x1000, 7, 0x1, 1, .ro, [Reg.PULSE_PERIOD_NOW]⟩,
   ⟨0x0C0302, 0x1000, 7, 0x1, 1, .ro, [Reg.PULSE_COUNT]⟩,
   ⟨0x0C0400, 0x1000, 7, 0x1, 3, .ro, [Reg.PULSE_COUNTERS]⟩,
   ⟨0x0C8000, 0x0, 1, 0x1, 1, .cfg, [Reg.PULSE_SYNC_OUT_SRC]⟩,
   ⟨0x0C8100, 0x0, 1, 0x1, 1, .cfg, [Reg.PULSE_SYNC_IN_COMP]⟩,
   ⟨0x0C8200, 0x0, 1, 0x1, 1, .ro, [Reg.PULSE_DLL_LOCKED, Reg.PULSE_DLL_FALLBACK, Reg.PULSE_DLL_SPAN]⟩,
   ⟨0x0C8300, 0x0, 1, 0x1, 1, .cfg, [Reg.PULSE_FAULT_DLL_REACTION]⟩,
   ⟨0x0C8400, 0x0, 1, 0x1, 1, .ro, [Reg.PULSE_SYNC_IN_PERIOD]⟩,
   ⟨0x0D0000, 0x1000, 32, 0x1, 1, .cfg, [Reg.LEG_CFG_ENABLE, Reg.LEG_CFG_SHORT_MODE, Reg.LEG_CFG_TERM_SRC]⟩,
   ⟨0x0D0100, 0x1000, 32, 0x1, 1, .rwo, [Reg.LEG_DEAD_DT_HIGH, Reg.LEG_DEAD_DT_LOW]⟩,
   ⟨0x0D0200, 0x1000, 32, 0x1, 1, .rwo, [Reg.LEG_MIN_MIN_PULSE]⟩,
   ⟨0x0D0300, 0x1000, 32, 0x1, 1, .cfg, [Reg.LEG_TRIP_SRC, Reg.LEG_TRIP_ACTION, Reg.LEG_TRIP_LIMIT, Reg.LEG_TRIP_LATCH_REACTION, Reg.LEG_TRIP_WINDOW]⟩,
   ⟨0x0D0400, 0x1000, 32, 0x1, 1, .cfg, [Reg.LEG_CMP_CHANNEL, Reg.LEG_CMP_ABS, Reg.LEG_CMP_LIMIT]⟩,
   ⟨0x0D0500, 0x1000, 32, 0x1, 1, .rw, [Reg.LEG_DUTY_A]⟩,
   ⟨0x0D0600, 0x1000, 32, 0x1, 1, .rw, [Reg.LEG_DUTY_B]⟩,
   ⟨0x0D0700, 0x1000, 32, 0x1, 1, .rw, [Reg.LEG_PHASE]⟩,
   ⟨0x0D0800, 0x1000, 32, 0x1, 1, .rw, [Reg.LEG_TIME_A]⟩,
   ⟨0x0D0900, 0x1000, 32, 0x1, 1, .rw, [Reg.LEG_TIME_B]⟩,
   ⟨0x0D0A00, 0x1000, 32, 0x1, 1, .rw, [Reg.LEG_CTRL_FORCE, Reg.LEG_CTRL_COMMIT]⟩,
   ⟨0x0D0B00, 0x1000, 32, 0x1, 6, .ro, [Reg.LEG_ACTIVE]⟩,
   ⟨0x0D0C00, 0x1000, 32, 0x1, 1, .ro, [Reg.LEG_STATUS_OWNER, Reg.LEG_STATUS_HIGH_ON, Reg.LEG_STATUS_LOW_ON, Reg.LEG_STATUS_TRIPPED, Reg.LEG_STATUS_LATCHED, Reg.LEG_STATUS_CMP, Reg.LEG_STATUS_WIN_COUNT]⟩,
   ⟨0x0D0D00, 0x1000, 32, 0x1, 9, .ro, [Reg.LEG_COUNTERS]⟩,
   ⟨0x0D0E00, 0x1000, 32, 0x1, 1, .ro, [Reg.LEG_CARRY]⟩]

/-- The words of 09_pulse_engine_failover.md. -/
def Map.foWords : List WordDef :=
  [⟨0x100000, 0x0, 1, 0x1, 1, .ro, [Reg.FO_STATUS_OWNER, Reg.FO_STATUS_STATE_A, Reg.FO_STATUS_STATE_B, Reg.FO_STATUS_DEGRADED, Reg.FO_STATUS_PENDING, Reg.FO_STATUS_PATH, Reg.FO_STATUS_INTERLOCK, Reg.FO_STATUS_SWITCHING, Reg.FO_STATUS_CONDEMN_A, Reg.FO_STATUS_CONDEMN_B]⟩,
   ⟨0x100100, 0x0, 1, 0x1, 1, .cfg, [Reg.FO_CFG_PREFERRED, Reg.FO_CFG_RB_FILTER, Reg.FO_CFG_RB_TOL, Reg.FO_CFG_RB_WAIT, Reg.FO_CFG_CONDEMN_LIMIT, Reg.FO_CFG_QUALIFY]⟩,
   ⟨0x100200, 0x0, 1, 0x1, 1, .cfg, [Reg.FO_REACTION_UNDECIDED_REACTION, Reg.FO_REACTION_PATH_REACTION, Reg.FO_REACTION_EXHAUSTED_REACTION, Reg.FO_REACTION_INTERLOCK_REACTION, Reg.FO_REACTION_HANDOVER_REACTION, Reg.FO_REACTION_SPARE_REACTION]⟩,
   ⟨0x100300, 0x1, 9, 0x0, 1, .ro, [Reg.FO_COUNTERS]⟩,
   ⟨0x100400, 0x0, 1, 0x1, 1, .ro, [Reg.FO_LAST_ROW, Reg.FO_LAST_CONDEMNED, Reg.FO_LAST_CHANNELS]⟩,
   ⟨0x100401, 0x0, 1, 0x1, 1, .ro, [Reg.FO_LAST_CYCLE]⟩,
   ⟨0x101000, 0x1, 64, 0x0, 1, .ro, [Reg.FO_RB_DELAY]⟩]

/-- The words of 10_gate_drive.md. -/
def Map.gdWords : List WordDef :=
  [⟨0x110000, 0x1000, 64, 0x1, 1, .cfg, [Reg.CH_SUPPLY_VPOS, Reg.CH_SUPPLY_VNEG, Reg.CH_SUPPLY_GATE_Q]⟩,
   ⟨0x110100, 0x1000, 64, 0x1, 1, .cfg, [Reg.CH_DRIVE_I_ON, Reg.CH_DRIVE_I_OFF, Reg.CH_DRIVE_CLAMP_EN, Reg.CH_DRIVE_CLAMP_V]⟩,
   ⟨0x110200, 0x1000, 64, 0x1, 1, .cfg, [Reg.CH_DESAT_ENABLE, Reg.CH_DESAT_THRESH, Reg.CH_DESAT_BLANK]⟩,
   ⟨0x110300, 0x1000, 64, 0x1, 1, .cfg, [Reg.CH_SHORT_ENABLE, Reg.CH_SHORT_LIMIT]⟩,
   ⟨0x110400, 0x1000, 64, 0x1, 1, .cfg, [Reg.CH_FAULT_DESAT_REACTION, Reg.CH_FAULT_SHORT_REACTION, Reg.CH_FAULT_UVLO_REACTION, Reg.CH_FAULT_LINK_REACTION]⟩,
   ⟨0x110500, 0x1000, 64, 0x1, 1, .cfg, [Reg.CH_THERM_R25, Reg.CH_THERM_B]⟩,
   ⟨0x110600, 0x1000, 64, 0x1, 1, .ro, [Reg.CH_STATUS_GATE, Reg.CH_STATUS_TRIPPED, Reg.CH_STATUS_SOFT_OFF, Reg.CH_STATUS_DESAT, Reg.CH_STATUS_SHORT, Reg.CH_STATUS_UVLO_POS, Reg.CH_STATUS_UVLO_NEG, Reg.CH_STATUS_ENABLE, Reg.CH_STATUS_LINK_OK, Reg.CH_STATUS_SUPPLY_ON, Reg.CH_STATUS_START_FAIL, Reg.CH_STATUS_THERM_OPEN, Reg.CH_STATUS_THERM_SHORT, Reg.CH_STATUS_TRIM_LIMIT, Reg.CH_STATUS_CLAMP]⟩,
   ⟨0x110700, 0x1000, 64, 0x1, 1, .ro, [Reg.CH_RAILS_VPOS, Reg.CH_RAILS_VNEG]⟩,
   ⟨0x110800, 0x1000, 64, 0x1, 1, .ro, [Reg.CH_TIMING_TRIM, Reg.CH_TIMING_DELAY]⟩,
   ⟨0x110900, 0x1000, 64, 0x1, 1, .ro, [Reg.CH_TEMP_T, Reg.CH_TEMP_R]⟩,
   ⟨0x110A00, 0x1000, 64, 0x1, 7, .ro, [Reg.CH_COUNTERS]⟩,
   ⟨0x110C00, 0x1, 7, 0x0, 1, .cfg, [Reg.GD_STAGE_CFG_MULTI_REACTION, Reg.GD_STAGE_CFG_STAGGER]⟩,
   ⟨0x110D00, 0x0, 1, 0x1, 1, .ro, [Reg.GD_STATUS_ENABLE_SG, Reg.GD_STATUS_LV_RAIL_OK, Reg.GD_STATUS_STARTED, Reg.GD_STATUS_START_FAIL]⟩,
   ⟨0x110D01, 0x0, 1, 0x1, 1, .ro, [Reg.GD_LV_RAIL]⟩,
   ⟨0x110E00, 0x1, 7, 0x0, 1, .ro, [Reg.GD_STAGE_STATUS_NOW, Reg.GD_STAGE_STATUS_PREV, Reg.GD_STAGE_STATUS_CAUSE]⟩,
   ⟨0x110F00, 0x1, 7, 0x0, 1, .ro, [Reg.GD_STAGE_COUNTERS]⟩]

/-- The words of 11_link_converter.md. -/
def Map.linkWords : List WordDef :=
  [⟨0x150000, 0x0, 1, 0x1, 1, .cfg, [Reg.LINK_CFG_N_MAX, Reg.LINK_CFG_SHED_EN, Reg.LINK_CFG_LIGHT_EN, Reg.LINK_CFG_BURST_EN, Reg.LINK_CFG_BIDIR, Reg.LINK_CFG_TRIG, Reg.LINK_CFG_HICCUP_MAX, Reg.LINK_CFG_HICCUP_WAIT, Reg.LINK_CFG_SYNC_FREE]⟩,
   ⟨0x150100, 0x1, 8, 0x0, 1, .cfg, [Reg.LINK_INPUTS]⟩,
   ⟨0x150200, 0x0, 1, 0x1, 1, .cfg, [Reg.LINK_SCALE_I_FS]⟩,
   ⟨0x150201, 0x0, 1, 0x1, 1, .cfg, [Reg.LINK_SCALE_L_PH]⟩,
   ⟨0x150202, 0x0, 1, 0x1, 1, .cfg, [Reg.LINK_SCALE_I_PH]⟩,
   ⟨0x150203, 0x0, 1, 0x1, 1, .cfg, [Reg.LINK_SCALE_ILIM_PH]⟩,
   ⟨0x150204, 0x0, 1, 0x1, 1, .cfg, [Reg.LINK_SCALE_I_MAX]⟩,
   ⟨0x150205, 0x0, 1, 0x1, 1, .cfg, [Reg.LINK_SCALE_P_BASE]⟩,
   ⟨0x150206, 0x0, 1, 0x1, 1, .cfg, [Reg.LINK_SCALE_STOP_RAMP]⟩,
   ⟨0x150300, 0x1, 4, 0x0, 1, .rwo, [Reg.LINK_COMP_B]⟩,
   ⟨0x150304, 0x1, 3, 0x0, 1, .rwo, [Reg.LINK_COMP_A]⟩,
   ⟨0x150400, 0x0, 1, 0x1, 1, .rwo, [Reg.LINK_CURRENT_KP_I]⟩,
   ⟨0x150401, 0x0, 1, 0x1, 1, .rwo, [Reg.LINK_CURRENT_KI_I]⟩,
   ⟨0x150402, 0x0, 1, 0x1, 1, .rwo, [Reg.LINK_CURRENT_DUTY_MIN]⟩,
   ⟨0x150403, 0x0, 1, 0x1, 1, .rwo, [Reg.LINK_CURRENT_DUTY_MAX]⟩,
   ⟨0x150404, 0x0, 1, 0x1, 1, .rwo, [Reg.LINK_CURRENT_FF_GAIN]⟩,
   ⟨0x150500, 0x0, 1, 0x1, 1, .cfg, [Reg.LINK_SHED_SHED_PCT, Reg.LINK_SHED_ADD_PCT, Reg.LINK_SHED_SHED_TIME, Reg.LINK_SHED_SHED_BLOCK]⟩,
   ⟨0x150600, 0x0, 1, 0x1, 1, .cfg, [Reg.LINK_STEP_STEP_V, Reg.LINK_STEP_STEP_I]⟩,
   ⟨0x150700, 0x0, 1, 0x1, 1, .cfg, [Reg.LINK_LIGHT_LIGHT_ENTER, Reg.LINK_LIGHT_LIGHT_EXIT, Reg.LINK_LIGHT_WAKE_V, Reg.LINK_LIGHT_BURST_HYST]⟩,
   ⟨0x150800, 0x0, 1, 0x1, 1, .cfg, [Reg.LINK_SOFT_SS_RAMP, Reg.LINK_SOFT_SS_TIME, Reg.LINK_SOFT_SS_ILIM, Reg.LINK_SOFT_SS_REACTION]⟩,
   ⟨0x150900, 0x0, 1, 0x1, 1, .cfg, [Reg.LINK_LIMITS_OV_LIMIT, Reg.LINK_LIMITS_UV_BAND, Reg.LINK_LIMITS_UV_TIME, Reg.LINK_LIMITS_OV_REACTION, Reg.LINK_LIMITS_UV_REACTION]⟩,
   ⟨0x150A00, 0x0, 1, 0x1, 1, .cfg, [Reg.LINK_IMBALANCE_IMB_LIMIT, Reg.LINK_IMBALANCE_IMB_TIME, Reg.LINK_IMBALANCE_IMB_REACTION]⟩,
   ⟨0x151000, 0x0, 1, 0x1, 1, .ro, [Reg.LINK_STATUS_STATE, Reg.LINK_STATUS_PHASES, Reg.LINK_STATUS_LEGS, Reg.LINK_STATUS_BUCK, Reg.LINK_STATUS_LOCKED, Reg.LINK_STATUS_FREE, Reg.LINK_STATUS_CLIM, Reg.LINK_STATUS_BLOCK, Reg.LINK_STATUS_CO, Reg.LINK_STATUS_SS_WINDOW, Reg.LINK_STATUS_HICCUPS, Reg.LINK_STATUS_OV, Reg.LINK_STATUS_UV, Reg.LINK_STATUS_IMB]⟩,
   ⟨0x151100, 0x1, 5, 0x0, 1, .ro, [Reg.LINK_MEAS]⟩,
   ⟨0x151200, 0x1, 9, 0x0, 1, .ro, [Reg.LINK_COUNTERS]⟩,
   ⟨0x151400, 0x0, 1, 0x1, 1, .rw, [Reg.LINK_VSET]⟩,
   ⟨0x152000, 0x100, 6, 0x1, 16, .ro, [Reg.LINK_SNAP]⟩,
   ⟨0x152600, 0x0, 1, 0x1, 1, .ro, [Reg.LINK_SNAP_VALID]⟩]

/-- The words of 12_charger.md. -/
def Map.chgWords : List WordDef :=
  [⟨0x160000, 0x0, 1, 0x1, 1, .cfg, [Reg.CHG_CFG_INPUT, Reg.CHG_CFG_RESUME, Reg.CHG_CFG_LOSS_REACTION, Reg.CHG_CFG_LOSS_STAGES]⟩,
   ⟨0x160100, 0x0, 1, 0x1, 1, .cfg, [Reg.CHG_QUAL_VIN_MIN, Reg.CHG_QUAL_VIN_MAX, Reg.CHG_QUAL_VIN_LOSS, Reg.CHG_QUAL_QUAL_TIME]⟩,
   ⟨0x160200, 0x0, 1, 0x1, 1, .cfg, [Reg.CHG_VREG_VIN_REG, Reg.CHG_VREG_VREG_HYST, Reg.CHG_VREG_VREG_DOWN, Reg.CHG_VREG_VREG_UP]⟩,
   ⟨0x160300, 0x0, 1, 0x1, 1, .cfg, [Reg.CHG_SOURCE_P_SRC_MAX, Reg.CHG_SOURCE_IIN_MAX, Reg.CHG_SOURCE_PFC_MARGIN]⟩,
   ⟨0x160400, 0x0, 1, 0x1, 1, .cfg, [Reg.CHG_PATH_TRANSFER_V, Reg.CHG_PATH_SAG_V, Reg.CHG_PATH_HB_I, Reg.CHG_PATH_HB_TIME]⟩,
   ⟨0x160500, 0x0, 1, 0x1, 1, .cfg, [Reg.CHG_RAMP_PWR_RAMP, Reg.CHG_RAMP_PAUSE_LIMIT]⟩,
   ⟨0x160600, 0x0, 1, 0x1, 1, .rw, [Reg.CHG_V_SET]⟩,
   ⟨0x160700, 0x0, 1, 0x1, 1, .rw, [Reg.CHG_I_SET]⟩,
   ⟨0x160800, 0x0, 1, 0x1, 1, .cfg, [Reg.CHG_END_I_TAPER, Reg.CHG_END_TAPER_TIME]⟩,
   ⟨0x160801, 0x0, 1, 0x1, 1, .cfg, [Reg.CHG_SAFETY_SAFETY_TIME]⟩,
   ⟨0x160900, 0x0, 1, 0x1, 1, .rw, [Reg.CHG_BMS_REQUEST, Reg.CHG_BMS_STOP]⟩,
   ⟨0x160901, 0x0, 1, 0x1, 1, .rw, [Reg.CHG_BMS_LIMITS_V_MAX, Reg.CHG_BMS_LIMITS_I_MAX]⟩,
   ⟨0x160A00, 0x0, 1, 0x1, 1, .cfg, [Reg.CHG_BMS_TIMEOUT]⟩,
   ⟨0x160B00, 0x1, 3, 0x0, 1, .cfg, [Reg.CHG_INPUTS]⟩,
   ⟨0x160C00, 0x0, 1, 0x1, 1, .cfg, [Reg.CHG_VIN_SCALE]⟩,
   ⟨0x160D00, 0x0, 1, 0x1, 1, .cfg, [Reg.CHG_FAULT_PFC_OV_REACTION, Reg.CHG_FAULT_BATT_OV_REACTION, Reg.CHG_FAULT_BATT_OC_REACTION, Reg.CHG_FAULT_FLUX_REACTION, Reg.CHG_FAULT_BATT_OV_PCT, Reg.CHG_FAULT_FLUX_LIMIT]⟩,
   ⟨0x161000, 0x0, 1, 0x1, 1, .ro, [Reg.CHG_STATUS_PP_STATE, Reg.CHG_STATUS_CHG_STATE, Reg.CHG_STATUS_LAST_END, Reg.CHG_STATUS_QUALIFIED, Reg.CHG_STATUS_VREG, Reg.CHG_STATUS_THERMAL, Reg.CHG_STATUS_HALF, Reg.CHG_STATUS_BACKOFF, Reg.CHG_STATUS_FEEDING, Reg.CHG_STATUS_BMS_FRESH, Reg.CHG_STATUS_COLD, Reg.CHG_STATUS_FAULT_LATCH, Reg.CHG_STATUS_ATTN]⟩,
   ⟨0x161100, 0x1, 8, 0x0, 1, .ro, [Reg.CHG_MEAS]⟩,
   ⟨0x161200, 0x1, 2, 0x0, 1, .ro, [Reg.CHG_TIMER]⟩,
   ⟨0x161300, 0x1, 8, 0x0, 1, .ro, [Reg.CHG_COUNTERS]⟩,
   ⟨0x161400, 0x0, 1, 0x1, 1, .cfg, [Reg.CHG_ATTN_MASK]⟩,
   ⟨0x162000, 0x100, 3, 0x1, 16, .ro, [Reg.CHG_SNAP]⟩,
   ⟨0x162300, 0x0, 1, 0x1, 1, .ro, [Reg.CHG_SNAP_VALID]⟩]

/-- The words of 13_gearbox_actuators.md. -/
def Map.actWords : List WordDef :=
  [⟨0x170000, 0x2000, 2, 0x1, 1, .cfg, [Reg.ACT_CFG_SLOT, Reg.ACT_CFG_ROLE, Reg.ACT_CFG_ENGAGE_DIR, Reg.ACT_CFG_PARK_FB, Reg.ACT_CFG_HOLD_MODE, Reg.ACT_CFG_DRIFT_ACTION, Reg.ACT_CFG_PARK_SPEED]⟩,
   ⟨0x170100, 0x2000, 2, 0x1, 1, .cfg, [Reg.ACT_MOVE_ARRIVE_WIN, Reg.ACT_MOVE_ARRIVE_TIME, Reg.ACT_MOVE_MOVE_TIME]⟩,
   ⟨0x170200, 0x2000, 2, 0x1, 1, .cfg, [Reg.ACT_HOLD_I_HOLD, Reg.ACT_HOLD_DRIFT_WIN, Reg.ACT_HOLD_BLOCK_TIME]⟩,
   ⟨0x170300, 0x2000, 2, 0x1, 1, .cfg, [Reg.ACT_LIMITS_VACT_MIN, Reg.ACT_LIMITS_VACT_MAX, Reg.ACT_LIMITS_I_TRIP]⟩,
   ⟨0x170400, 0x2000, 2, 0x1, 1, .cfg, [Reg.ACT_FAULT_TIMEOUT_REACTION, Reg.ACT_FAULT_VACT_LOW_REACTION, Reg.ACT_FAULT_VACT_HIGH_REACTION, Reg.ACT_FAULT_STOP_RAMP]⟩,
   ⟨0x170500, 0x2000, 2, 0x1, 1, .ro, [Reg.ACT_STATUS_STATE, Reg.ACT_STATUS_FULL, Reg.ACT_STATUS_BLOCKED, Reg.ACT_STATUS_VACT_LOW, Reg.ACT_STATUS_VACT_HIGH, Reg.ACT_STATUS_TIMED_OUT, Reg.ACT_STATUS_HOLD]⟩,
   ⟨0x170600, 0x2000, 2, 0x1, 4, .ro, [Reg.ACT_MEAS]⟩,
   ⟨0x170700, 0x2000, 2, 0x1, 8, .ro, [Reg.ACT_COUNTERS]⟩,
   ⟨0x171000, 0x2000, 2, 0x100, 4, .rw, [Reg.ACT_CMP_VALUE]⟩,
   ⟨0x171001, 0x2000, 2, 0x100, 4, .rw, [Reg.ACT_CMP_MODE, Reg.ACT_CMP_FIRE_IF_PASSED, Reg.ACT_CMP_LOG, Reg.ACT_CMP_LIMIT]⟩,
   ⟨0x171002, 0x2000, 2, 0x100, 4, .w1c, [Reg.ACT_CMP_ARMED, Reg.ACT_CMP_FIRED, Reg.ACT_CMP_BEHIND, Reg.ACT_CMP_EITHER]⟩,
   ⟨0x171003, 0x2000, 2, 0x100, 4, .ro, [Reg.ACT_CMP_FIRE_POS]⟩,
   ⟨0x171004, 0x2000, 2, 0x100, 4, .ro, [Reg.ACT_CMP_FIRE_CYCLE]⟩]

/-- The words of 14_safety_functions.md. -/
def Map.safeWords : List WordDef :=
  [⟨0x180000, 0x0, 1, 0x1, 1, .ro, [Reg.SAFE_STATUS_STO_REQ, Reg.SAFE_STATUS_DISC, Reg.SAFE_STATUS_EN_HW, Reg.SAFE_STATUS_EN_SW, Reg.SAFE_STATUS_TEST_FAIL, Reg.SAFE_STATUS_TEST_DUE, Reg.SAFE_STATUS_SBC_REQ, Reg.SAFE_STATUS_SBC_DISC, Reg.SAFE_STATUS_APPLIED, Reg.SAFE_STATUS_PATH_FAULT, Reg.SAFE_STATUS_BT_RUN]⟩,
   ⟨0x180100, 0x0, 1, 0x1, 1, .cfg, [Reg.SAFE_STO_CFG_DISC_TIME, Reg.SAFE_STO_CFG_DISC_CLEAR, Reg.SAFE_STO_CFG_PATH_REACTION, Reg.SAFE_STO_CFG_TEST_REACTION, Reg.SAFE_STO_CFG_AUTO_TEST]⟩,
   ⟨0x180200, 0x0, 1, 0x1, 1, .ro, [Reg.SAFE_INPUTS_STO, Reg.SAFE_INPUTS_SBC]⟩,
   ⟨0x180300, 0x1, 2, 0x0, 1, .cfg, [Reg.SAFE_BRK_CFG_STAGE, Reg.SAFE_BRK_CFG_FB, Reg.SAFE_BRK_CFG_COUPLE_STO, Reg.SAFE_BRK_CFG_BLOCK_RELEASE, Reg.SAFE_BRK_CFG_FAULT_REACTION, Reg.SAFE_BRK_CFG_FAULT_APPLY, Reg.SAFE_BRK_CFG_APPLY_TIME, Reg.SAFE_BRK_CFG_BT_SLOT]⟩,
   ⟨0x180400, 0x1, 2, 0x0, 1, .cfg, [Reg.SAFE_BRK_TEST_TORQUE, Reg.SAFE_BRK_TEST_TIME, Reg.SAFE_BRK_TEST_DIR, Reg.SAFE_BRK_TEST_COUNT_LIMIT, Reg.SAFE_BRK_TEST_FAIL_REACTION]⟩,
   ⟨0x180500, 0x1, 2, 0x0, 1, .cfg, [Reg.SAFE_BRK_INTERVAL_INTERVAL, Reg.SAFE_BRK_INTERVAL_DUE_REACTION]⟩,
   ⟨0x180600, 0x0, 1, 0x1, 1, .rw, [Reg.SAFE_BRK_CMD]⟩,
   ⟨0x180700, 0x1, 2, 0x0, 1, .ro, [Reg.SAFE_BRK_STATUS_TEST, Reg.SAFE_BRK_STATUS_FAILED, Reg.SAFE_BRK_STATUS_DUE, Reg.SAFE_BRK_STATUS_RELEASED, Reg.SAFE_BRK_STATUS_OUT_FAULT, Reg.SAFE_BRK_STATUS_HOURS]⟩,
   ⟨0x180800, 0x1, 2, 0x0, 1, .ro, [Reg.SAFE_BRK_RESULT]⟩,
   ⟨0x181000, 0x0, 1, 0x1, 1, .rw, [Reg.SAFE_CDR_CMD]⟩,
   ⟨0x181100, 0x1, 8, 0x0, 1, .cfg, [Reg.SAFE_CFB_CFG_CDR, Reg.SAFE_CFB_CFG_POLARITY, Reg.SAFE_CFB_CFG_FILTER]⟩,
   ⟨0x181200, 0x0, 1, 0x1, 1, .cfg, [Reg.SAFE_CONTACTOR_CFB_TIME, Reg.SAFE_CONTACTOR_MISMATCH_REACTION, Reg.SAFE_CONTACTOR_WELD_REACTION, Reg.SAFE_CONTACTOR_OPEN_ON_FAULT, Reg.SAFE_CONTACTOR_OPEN_DELAY, Reg.SAFE_CONTACTOR_STAGES]⟩,
   ⟨0x181300, 0x0, 1, 0x1, 1, .cfg, [Reg.SAFE_PRECHARGE_PRE_CDR, Reg.SAFE_PRECHARGE_MAIN_CDR, Reg.SAFE_PRECHARGE_WELD_TIME, Reg.SAFE_PRECHARGE_WELD_FRAC, Reg.SAFE_PRECHARGE_PRE_DONE]⟩,
   ⟨0x181301, 0x0, 1, 0x1, 1, .cfg, [Reg.SAFE_PRE_TIME_PRE_TIME, Reg.SAFE_PRE_TIME_PRE_ENFORCE]⟩,
   ⟨0x181400, 0x0, 1, 0x1, 1, .ro, [Reg.SAFE_CON_STATUS_ON, Reg.SAFE_CON_STATUS_CFB, Reg.SAFE_CON_STATUS_UNEXPECTED, Reg.SAFE_CON_STATUS_WELDED, Reg.SAFE_CON_STATUS_PRE_OK, Reg.SAFE_CON_STATUS_PRE_RUN]⟩,
   ⟨0x181500, 0x1, 8, 0x0, 1, .ro, [Reg.SAFE_COUNTERS]⟩]

/-- The words of 15_supervisor_cores.md. -/
def Map.coreWords : List WordDef :=
  [⟨0x190000, 0x0, 1, 0x1, 1, .ro, [Reg.CORE_STATUS_S_STATE, Reg.CORE_STATUS_V_MODE, Reg.CORE_STATUS_V0_STATE, Reg.CORE_STATUS_V1_STATE, Reg.CORE_STATUS_REPEAT_WINDOW, Reg.CORE_STATUS_RESTART_HOLD, Reg.CORE_STATUS_INJECT_OK, Reg.CORE_STATUS_DEBUG, Reg.CORE_STATUS_BUF_MAX]⟩,
   ⟨0x190100, 0x0, 1, 0x1, 1, .cfg, [Reg.CORE_CFG_HOLD_LIMIT, Reg.CORE_CFG_V_REACTION]⟩,
   ⟨0x190101, 0x0, 1, 0x1, 1, .cfg, [Reg.CORE_HOLD_EXPIRY_T1, Reg.CORE_HOLD_EXPIRY_T2, Reg.CORE_HOLD_EXPIRY_L, Reg.CORE_HOLD_EXPIRY_P, Reg.CORE_HOLD_EXPIRY_D, Reg.CORE_HOLD_EXPIRY_X1, Reg.CORE_HOLD_EXPIRY_X2]⟩,
   ⟨0x190200, 0x1, 9, 0x0, 1, .ro, [Reg.CORE_COUNTERS]⟩,
   ⟨0x190300, 0x1, 3, 0x0, 1, .ro, [Reg.CORE_LAST_S]⟩,
   ⟨0x190303, 0x0, 1, 0x1, 1, .ro, [Reg.CORE_LAST_S_LANES]⟩,
   ⟨0x190304, 0x1, 2, 0x0, 1, .ro, [Reg.CORE_LAST_S_B]⟩,
   ⟨0x190400, 0x1, 3, 0x0, 1, .ro, [Reg.CORE_LAST_V]⟩,
   ⟨0x190403, 0x0, 1, 0x1, 1, .ro, [Reg.CORE_LAST_V_LANES]⟩,
   ⟨0x190500, 0x0, 1, 0x1, 1, .ro, [Reg.CORE_DEBUG_S_HALT, Reg.CORE_DEBUG_V_HALT, Reg.CORE_DEBUG_V1_HALT, Reg.CORE_DEBUG_REPLAY, Reg.CORE_DEBUG_ACTIONS]⟩]

/-- The words of 16_event_recorder.md. -/
def Map.logWords : List WordDef :=
  [⟨0x1B0000, 0x0, 1, 0x1, 1, .ro, [Reg.LOG_STATUS_COUNT, Reg.LOG_STATUS_FILL_WARN, Reg.LOG_STATUS_FULL, Reg.LOG_STATUS_CLEARING, Reg.LOG_STATUS_CORRUPT, Reg.LOG_STATUS_QUEUE]⟩,
   ⟨0x1B0100, 0x1, 2, 0x0, 1, .ro, [Reg.LOG_HEAD]⟩,
   ⟨0x1B0200, 0x1, 2, 0x0, 1, .ro, [Reg.LOG_NEXT]⟩,
   ⟨0x1B0300, 0x0, 1, 0x1, 1, .cfg, [Reg.LOG_CFG_BURST, Reg.LOG_CFG_INTERVAL, Reg.LOG_CFG_FILL_WARN, Reg.LOG_CFG_ATTN_MASK]⟩,
   ⟨0x1B0400, 0x1, 6, 0x0, 1, .ro, [Reg.LOG_COUNTERS]⟩,
   ⟨0x1B0800, 0x0, 1, 0x1, 1, .rw, [Reg.LOG_CURSOR_OFFSET, Reg.LOG_CURSOR_END, Reg.LOG_CURSOR_CORRUPT]⟩,
   ⟨0x1B0900, 0x1, 8, 0x0, 1, .ro, [Reg.LOG_WINDOW]⟩,
   ⟨0x1B4000, 0x100, 64, 0x1, 1, .cfg, [Reg.LOG_RATE_CODE, Reg.LOG_RATE_BURST, Reg.LOG_RATE_INTERVAL]⟩]

/-- The words of 17_fabric_links_and_discovery.md. -/
def Map.fabWords : List WordDef :=
  [⟨0x1C0000, 0x0, 1, 0x1, 1, .ro, [Reg.FAB_STATUS_ADDRESS, Reg.FAB_STATUS_ADDR_SRC, Reg.FAB_STATUS_ROOT, Reg.FAB_STATUS_ROOT_LOST, Reg.FAB_STATUS_UPSTREAM, Reg.FAB_STATUS_VERIFIED, Reg.FAB_STATUS_BLOCKED, Reg.FAB_STATUS_TRANSIT, Reg.FAB_STATUS_REFUSED]⟩,
   ⟨0x1C0100, 0x0, 1, 0x1, 1, .cfg, [Reg.FAB_CFG_ETHERTYPE, Reg.FAB_CFG_ROOT_PRIO]⟩,
   ⟨0x1C0200, 0x0, 1, 0x1, 1, .cfg, [Reg.FAB_DISCOVERY_WAGGLE_PERIOD, Reg.FAB_DISCOVERY_REPLY_WINDOW, Reg.FAB_DISCOVERY_LEAVE_ROUNDS]⟩,
   ⟨0x1C0300, 0x0, 1, 0x1, 1, .cfg, [Reg.FAB_LINK_LINK_TIMEOUT, Reg.FAB_LINK_FLAP_LIMIT, Reg.FAB_LINK_FLAP_WINDOW, Reg.FAB_LINK_HOLD_OFF, Reg.FAB_LINK_ERR_LIMIT]⟩,
   ⟨0x1C0400, 0x0, 1, 0x1, 1, .cfg, [Reg.FAB_FAULT_LINK_REACTION, Reg.FAB_FAULT_PARTITION_REACTION, Reg.FAB_FAULT_STAGES]⟩,
   ⟨0x1C0500, 0x1, 2, 0x0, 1, .ro, [Reg.FAB_ROOT]⟩,
   ⟨0x1C0600, 0x0, 1, 0x1, 1, .ro, [Reg.FAB_ROUND_ROUND, Reg.FAB_ROUND_NODES]⟩,
   ⟨0x1C0601, 0x0, 1, 0x1, 1, .ro, [Reg.FAB_MAX_DEPTH]⟩,
   ⟨0x1C0700, 0x0, 1, 0x1, 1, .ro, [Reg.FAB_PATH_DEPTH]⟩,
   ⟨0x1C0701, 0x1, 2, 0x0, 1, .ro, [Reg.FAB_PATH_BITS]⟩,
   ⟨0x1C0800, 0x1, 7, 0x0, 1, .ro, [Reg.FAB_COUNTERS]⟩,
   ⟨0x1C1000, 0x100, 4, 0x1, 1, .cfg, [Reg.FAB_PORT_CFG_ENABLE, Reg.FAB_PORT_CFG_ROLE]⟩,
   ⟨0x1C1001, 0x100, 4, 0x1, 1, .ro, [Reg.FAB_PORT_STATUS_STATE, Reg.FAB_PORT_STATUS_PHY_LINK, Reg.FAB_PORT_STATUS_MASTER, Reg.FAB_PORT_STATUS_UPSTREAM, Reg.FAB_PORT_STATUS_DOWNSTREAM, Reg.FAB_PORT_STATUS_LOOPBACK, Reg.FAB_PORT_STATUS_FLAPS]⟩,
   ⟨0x1C1002, 0x100, 4, 0x1, 2, .ro, [Reg.FAB_PORT_PEER]⟩,
   ⟨0x1C1004, 0x100, 4, 0x1, 8, .ro, [Reg.FAB_PORT_COUNTERS]⟩]

/-- The words of 18_fabric_routing_and_cycle.md. -/
def Map.cycWords : List WordDef :=
  [⟨0x1C4000, 0x0, 1, 0x1, 1, .cfg, [Reg.FAB_CYCLE_CFG_CYCLE_LEN, Reg.FAB_CYCLE_CFG_MASTER_PRIO, Reg.FAB_CYCLE_CFG_LAT_REACTION]⟩,
   ⟨0x1C4100, 0x0, 1, 0x1, 1, .ro, [Reg.FAB_CYCLE_STATUS_ROLE, Reg.FAB_CYCLE_STATUS_LAT_OK, Reg.FAB_CYCLE_STATUS_RING_BROKEN, Reg.FAB_CYCLE_STATUS_MISSING, Reg.FAB_CYCLE_STATUS_RING_MISSED]⟩,
   ⟨0x1C4200, 0x1, 2, 0x0, 1, .ro, [Reg.FAB_MASTER]⟩,
   ⟨0x1C4300, 0x0, 1, 0x1, 1, .ro, [Reg.FAB_CYCLE_NO]⟩,
   ⟨0x1C4301, 0x0, 1, 0x1, 1, .ro, [Reg.FAB_CYCLE_LEN_NOW]⟩,
   ⟨0x1C4400, 0x0, 1, 0x1, 1, .cfg, [Reg.FAB_RING_RING_PORTS, Reg.FAB_RING_RING_MISS, Reg.FAB_RING_RING_REACTION]⟩,
   ⟨0x1C4500, 0x1, 4, 0x0, 1, .cfg, [Reg.FAB_PUB_OFFSET, Reg.FAB_PUB_ENABLE, Reg.FAB_PUB_COUNT]⟩,
   ⟨0x1C4600, 0x1, 3, 0x0, 1, .ro, [Reg.FAB_LATENCY]⟩,
   ⟨0x1C4700, 0x1, 6, 0x0, 1, .ro, [Reg.FAB_SIG_COUNTERS]⟩,
   ⟨0x1C4706, 0x1, 4, 0x0, 1, .ro, [Reg.FAB_CYCLE_COUNTERS]⟩,
   ⟨0x1C5000, 0x100, 4, 0x1, 1, .ro, [Reg.FAB_PORT_DELAY_DELAY, Reg.FAB_PORT_DELAY_MEASURED]⟩,
   ⟨0x1C5001, 0x100, 4, 0x1, 1, .cfg, [Reg.FAB_PORT_DELAY_CFG_DEFAULT]⟩]

/-- The words of 19_can_channels.md. -/
def Map.canWords : List WordDef :=
  [⟨0x1E0000, 0x1000, 4, 0x1, 1, .cfg, [Reg.CAN_CFG_ENABLE, Reg.CAN_CFG_FD, Reg.CAN_CFG_RESTRICTED, Reg.CAN_CFG_AUTO_RECOVER, Reg.CAN_CFG_AUTO_MAX, Reg.CAN_CFG_CLAIM_EN]⟩,
   ⟨0x1E0100, 0x1000, 4, 0x1, 1, .cfg, [Reg.CAN_NOMINAL_BRP, Reg.CAN_NOMINAL_TSEG1, Reg.CAN_NOMINAL_TSEG2, Reg.CAN_NOMINAL_SJW, Reg.CAN_NOMINAL_TDC]⟩,
   ⟨0x1E0200, 0x1000, 4, 0x1, 1, .cfg, [Reg.CAN_DATA_BRP, Reg.CAN_DATA_TSEG1, Reg.CAN_DATA_TSEG2, Reg.CAN_DATA_SJW, Reg.CAN_DATA_TDC]⟩,
   ⟨0x1E0300, 0x1000, 4, 0x1, 1, .cfg, [Reg.CAN_QUEUE_CFG_ACK_TIMEOUT, Reg.CAN_QUEUE_CFG_OWN_MAX]⟩,
   ⟨0x1E0400, 0x1000, 4, 0x1, 1, .cfg, [Reg.CAN_TX_CFG_NORMAL_LIMIT]⟩,
   ⟨0x1E0500, 0x1000, 4, 0x1, 2, .cfg, [Reg.CAN_CLAIM_NAME]⟩,
   ⟨0x1E0502, 0x1000, 4, 0x1, 1, .cfg, [Reg.CAN_CLAIM_PREFERRED, Reg.CAN_CLAIM_RANGE_LOW, Reg.CAN_CLAIM_RANGE_HIGH]⟩,
   ⟨0x1E0600, 0x1000, 4, 0x1, 1, .cfg, [Reg.CAN_FAULT_BUS_OFF_REACTION, Reg.CAN_FAULT_CLAIM_REACTION, Reg.CAN_FAULT_STAGES]⟩,
   ⟨0x1E0700, 0x1000, 4, 0x1, 1, .ro, [Reg.CAN_STATUS_STATE, Reg.CAN_STATUS_WARNING, Reg.CAN_STATUS_Q0_FILL, Reg.CAN_STATUS_Q1_FILL, Reg.CAN_STATUS_TX_FILL, Reg.CAN_STATUS_AUTO_SUSPENDED, Reg.CAN_STATUS_CLAIMED, Reg.CAN_STATUS_CANNOT_CLAIM]⟩,
   ⟨0x1E0800, 0x1000, 4, 0x1, 1, .ro, [Reg.CAN_ERRORS_TX, Reg.CAN_ERRORS_RX]⟩,
   ⟨0x1E0900, 0x1000, 4, 0x1, 3, .ro, [Reg.CAN_TX_BOUND]⟩,
   ⟨0x1E0A00, 0x1000, 4, 0x1, 11, .ro, [Reg.CAN_COUNTERS]⟩,
   ⟨0x1E0B00, 0x1000, 4, 0x1, 1, .ro, [Reg.CAN_ADDRESS]⟩,
   ⟨0x1E0C00, 0x1000, 4, 0x1, 1, .rw, [Reg.CAN_ACK]⟩]

/-- The words of 20_host_services.md. -/
def Map.svcWords : List WordDef :=
  [⟨0x1F0000, 0x0, 1, 0x1, 1, .ro, [Reg.SVC_STATUS_OPEN, Reg.SVC_STATUS_LOCKOUT, Reg.SVC_STATUS_FAILS, Reg.SVC_STATUS_HELD]⟩,
   ⟨0x1F0100, 0x0, 1, 0x1, 1, .cfg, [Reg.SVC_CFG_AUTH_MASK]⟩,
   ⟨0x1F0200, 0x1, 4, 0x0, 1, .cfg, [Reg.SVC_CAN_REPLY]⟩,
   ⟨0x1F0300, 0x1, 13, 0x0, 1, .ro, [Reg.SVC_COUNTERS]⟩]

/-- The words of 21_parameter_map.md. -/
def Map.idWords : List WordDef :=
  [⟨0x000000, 0x1, 2, 0x0, 1, .ro, [Reg.ID_UID]⟩,
   ⟨0x000100, 0x0, 1, 0x1, 1, .ro, [Reg.ID_PRODUCT]⟩,
   ⟨0x000200, 0x0, 1, 0x1, 1, .ro, [Reg.ID_HW_REV]⟩,
   ⟨0x000300, 0x0, 1, 0x1, 1, .ro, [Reg.ID_ROM]⟩,
   ⟨0x000400, 0x0, 1, 0x1, 1, .ro, [Reg.ID_STARTS]⟩,
   ⟨0x000500, 0x1, 2, 0x0, 1, .ro, [Reg.ID_OWNER_FP]⟩,
   ⟨0x000600, 0x0, 1, 0x1, 1, .ro, [Reg.ID_POWERED]⟩,
   ⟨0x000700, 0x0, 1, 0x1, 1, .ro, [Reg.ID_UPTIME]⟩,
   ⟨0x000800, 0x0, 1, 0x1, 1, .ro, [Reg.ID_MFG_WEEK, Reg.ID_MFG_YEAR]⟩,
   ⟨0x001000, 0x0, 1, 0x1, 1, .ro, [Reg.STATE_MODULE_STATE, Reg.STATE_MODULE_STEP, Reg.STATE_MODULE_ATTN, Reg.STATE_MODULE_DEGRADED, Reg.STATE_MODULE_LAST_EVENT]⟩,
   ⟨0x001100, 0x0, 1, 0x1, 1, .rw, [Reg.STATE_REQUEST_SHIP, Reg.STATE_REQUEST_SLEEP]⟩,
   ⟨0x001200, 0x1, 7, 0x0, 1, .ro, [Reg.STATE_STAGE_LAST_EVENT, Reg.STATE_STAGE_REACTION, Reg.STATE_STAGE_LATCHED, Reg.STATE_STAGE_STO, Reg.STATE_STAGE_STATE]⟩,
   ⟨0x001300, 0x0, 1, 0x1, 1, .ro, [Reg.STATE_DEGRADED_CORES, Reg.STATE_DEGRADED_ENGINES, Reg.STATE_DEGRADED_RING, Reg.STATE_DEGRADED_RESTART]⟩,
   ⟨0x001400, 0x1, 18, 0x0, 1, .ro, [Reg.STATE_FAULT_EVENTS]⟩,
   ⟨0x001500, 0x1, 18, 0x0, 1, .w1c, [Reg.STATE_SEEN_EVENTS]⟩,
   ⟨0x002000, 0x0, 1, 0x1, 1, .ro, [Reg.ATTN_STATUS_SUBSYS, Reg.ATTN_STATUS_START, Reg.ATTN_STATUS_SAFE, Reg.ATTN_STATUS_DEGRADED, Reg.ATTN_STATUS_HELD, Reg.ATTN_STATUS_ATTN]⟩,
   ⟨0x002100, 0x0, 1, 0x1, 1, .cfg, [Reg.ATTN_CFG_USE_SEEN, Reg.ATTN_CFG_SAFE_ATTN, Reg.ATTN_CFG_DEGRADED_ATTN, Reg.ATTN_CFG_MIN_ASSERT]⟩,
   ⟨0x002200, 0x1, 18, 0x0, 1, .cfg, [Reg.ATTN_MASK_MASK]⟩]

/-- The words of the block that holds an index, chosen by the index's high byte (Table 21-1). -/
def Map.block (hi : Nat) : List WordDef :=
  if hi = 0x00 then Map.idWords
  else if hi = 0x01 then Map.startWords
  else if hi = 0x02 then Map.clkWords
  else if hi < 0x04 then []
  else if hi < 0x08 then Map.smpWords
  else if hi = 0x08 then Map.fbWords
  else if hi < 0x0C then Map.engWords
  else if hi < 0x10 then Map.pulseWords
  else if hi = 0x10 then Map.foWords
  else if hi < 0x15 then Map.gdWords
  else if hi = 0x15 then Map.linkWords
  else if hi = 0x16 then Map.chgWords
  else if hi = 0x17 then Map.actWords
  else if hi = 0x18 then Map.safeWords
  else if hi = 0x19 then Map.coreWords
  else if hi = 0x1A then Map.thWords
  else if hi = 0x1B then Map.logWords
  else if hi < 0x1E then Map.fabWords ++ Map.cycWords
  else if hi = 0x1E then Map.canWords
  else if hi = 0x1F then Map.svcWords
  else []

/-- The instance of a step: the number of whole steps of size k in d, when it is below n (a step of 0 has one instance). -/
def Map.inst (k n d : Nat) : Option (Nat × Nat) :=
  if k = 0 then some (0, d) else if d / k < n then some (d / k, d % k) else none

/-- The instance n and sub-index j of a word family that a key names, if it names one. -/
def WordDef.find (w : WordDef) (key : Nat) : Option (Nat × Nat) :=
  if key < w.base then none
  else match Map.inst w.kn w.n (key - w.base) with
    | none => none
    | some (i, r) => match Map.inst w.kj w.j r with
      | some (k, 0) => some (i, k)
      | _ => none

/-- The word family that a key names (R707: none when no map lists it). -/
def Map.word (key : Nat) : Option WordDef :=
  (Map.block (key / 65536)).find? fun w => (w.find key).isSome

/-- The number of words of a list of word families (Table 21-1). -/
def Map.count (l : List WordDef) : Nat := (l.map fun w => w.n * w.j).sum

/-- A word made of its fields' defaults. -/
def Map.compose (l : List Fld) : Nat := (l.map fun f => f.dflt * 2 ^ f.lo).sum

/-- The defaults of Table 10-5 that differ between isolated and low-voltage channels, by channel n and k. -/
def Map.chDefault (n k : Nat) : Option Nat :=
  if k = 0x0 then some (if n < 52 then 6 + 4 * 2 ^ 4 + 150 * 2 ^ 8 else 5 * 2 ^ 8)
  else if k = 0x1 then some (if n < 52 then 15 + 20 * 2 ^ 4 + 2 ^ 9 + 2 * 2 ^ 10 else 2 + 3 * 2 ^ 4 + 2 ^ 9 + 2 * 2 ^ 10)
  else if k = 0x3 then some (if n < 52 then 1 + 150 * 2 else 0)
  else if k = 0x5 then some (if n % 2 = 0 ∧ n ≤ 50 then 500 + 3375 * 2 ^ 16 else 0)
  else none

/-- The fixed limits of positions 48 to 56, in codes (Table 4-7). -/
def Map.hkFixed : List (Nat × Nat) :=
  [(2376, 2424), (3261, 3292), (3261, 3292), (1600, 3200), (1520, 1680), (2280, 2520), (3420, 3780), (2508, 2772), (3800, 4200)]

/-- HK.Ppp.LIMITS of the internal positions shows their fixed limits with FILTER 3 (R174). The spec does not say what it shows where
Table 4-7 gives none, at 57 to 62: 0 and 0xFFF; position 63 shows -8 and 8 in 12 bits; REACTION reads 0 (DESIGN CHOICE, log entry 178). -/
def Map.hkLimits (p : Nat) : Nat :=
  let (low, high) := if p = 63 then (0xFF8, 8) else Map.hkFixed.getD (p - 48) (0, 0xFFF)
  low + 3 * 2 ^ 12 + high * 2 ^ 16

/-- The words fixed at manufacture (R710). -/
def Map.idDefault (key : Nat) : Option Nat :=
  let uid := Config.uidRaw % (2 ^ 64 - 1) + 1
  if key = 0x000000 then some (uid % 2 ^ 32)
  else if key = 0x000001 then some (uid / 2 ^ 32)
  else if key = 0x000200 then some (Config.hwRev % 2 ^ 16)
  else if key = 0x000300 then some (Config.romVersion % 2 ^ 16)
  else if key = 0x000500 ∨ key = 0x000501 then some (Machine.ownerFp (key % 256))
  else if key = 0x000800 then some (Config.mfgDate % 2 ^ 16)
  else none

/-- The words whose default depends on their instance, or that are fixed at manufacture. -/
def Map.special (key : Nat) : Option Nat :=
  if key < 0x000900 then Map.idDefault key
  else if key < 0x07F000 then none
  else if key < 0x080000 then (if key % 256 = 1 then some (Map.hkLimits (key / 256 - 0x7C0)) else none)
  else if key < 0x0C0000 then none
  else if key < 0x0C7000 then
    (if key % 4096 = 0 then some (if key / 4096 % 16 = 2 ∨ key / 4096 % 16 = 4 then 1 else 4) else none)
  else if key < 0x110000 then none
  else if key < 0x150000 then
    (if key % 256 = 0 then Map.chDefault ((key - 0x110000) / 4096) (key / 256 % 16) else none)
  else if 0x1A5200 ≤ key ∧ key < 0x1A7400 ∧ key % 256 = 0 then
    some (Map.compose [Reg.TH_S_CFG_FILTER, Reg.TH_S_CFG_HYST, Reg.TH_S_CFG_SHUT_REACTION])
  else none

/-- What a parameter word holds before anything has written it: the values of R30 and R76 (log entry 1 for those the spec does
not give). -/
def Map.reset (key : Nat) : Word :=
  BitVec.ofNat 32 (match Map.special key with
    | some v => v
    | none => match Map.word key with
      | some w => Map.compose w.flds
      | none => 0)

end Sys2Proof
end

