-- ==== Sys2Proof/Machine/Store.lean ====
section
/-!
DEFINITION. Sparse plain data: a list of (key, value) pairs in one canonical form, keys strictly rising and no entry equal to
what an unlisted key reads as. What an unlisted key reads as is the argument `d`.
-/

namespace Sys2Proof

/-- Remove every entry of a key. -/
def Store.erase {α : Type} (l : List (Nat × α)) (k : Nat) : List (Nat × α) := l.filter fun e => e.1 != k

/-- Put an entry before the first entry of a greater key. -/
def Store.insert {α : Type} : List (Nat × α) → Nat → α → List (Nat × α)
  | [], k, v => [(k, v)]
  | e :: l, k, v => if k < e.1 then (k, v) :: e :: l else e :: Store.insert l k v

/-- The value at a key. -/
def Store.get {α : Type} (d : Nat → α) : List (Nat × α) → Nat → α
  | [], k => d k
  | e :: l, k => if e.1 = k then e.2 else Store.get d l k

/-- Write a value at a key: writing what an unlisted key reads as removes the entry. -/
def Store.set {α : Type} [DecidableEq α] (d : Nat → α) (l : List (Nat × α)) (k : Nat) (v : α) : List (Nat × α) :=
  if v = d k then Store.erase l k else Store.insert (Store.erase l k) k v

/-- The canonical form. -/
def Store.wf {α : Type} [DecidableEq α] (d : Nat → α) (l : List (Nat × α)) : Bool :=
  decide ((l.map Prod.fst).Pairwise (· < ·)) && l.all fun e => decide (e.2 ≠ d e.1)

end Sys2Proof
end

