-- ==== Sys2Proof/Machine/Vars.lean ====
section
/-!
DEFINITION. The names of the state that the spec gives the machine beside its parameter words: counters, latches, levels and
sums inside its units (`Var`, each an integer per instance, 0 unless said), and the open time windows (`Timer`, each an end
instant per instance). A comment before each group names its chapter; the comment of each name says what it holds and what
the instance number stands for.
-/

namespace Sys2Proof.Machine

/-- Internal quantities, by name. -/
inductive Var where
  -- 01 module architecture
  | startStep -- start step 1-9, 0 once READY or UNCONFIGURED is reached (Table 21-5)
  | moduleEvent -- code of the event that last changed the module state
  | rankAt -- number of the LOOP cycle in which a stage last acted on an event of R50; index stage
  | rankOf -- rank of the highest event on which the stage acted in that cycle (R50)
  | rankTop -- highest reaction code carried out on the stage in that cycle (R58)
  | w1cAt -- number of the LOOP cycle in which hardware last set bits of a W1C word (R25); index key modulo 65536
  | w1cBits -- the bits it set in that cycle
  -- 16 event recorder
  | tokensUsed -- tokens missing from the bucket of a code (R573); index code
  | suppressed -- reports of a code suppressed since its last record (R573); index code
  | reportsLost -- reports lost to a full queue and not yet reported (R551)
  | dying -- VAUX_LOST has been queued, later reports are discarded (R572)
  | dyingAt -- instant at which VAUX became invalid (R572, R731)
  | fillWarn -- LOG.STATUS.FILL_WARN (R576)
  | logFull -- LOG.STATUS.FULL (R577)
  | clearing -- a clear runs (R583)
  | groupTag -- the counter of group tags (R567)
  -- 21 ATTN
  | attn -- the open-drain output of ATTN conducts (R719)
  -- 08, 10 pulse generation and gate drive
  | legPend -- pending set of a leg: DUTY_A, DUTY_B, PHASE, TIME_A, TIME_B, FORCE; index leg * 8 + field (R303)
  | legPending -- the leg has a pending set that no reload has taken (R303)
  | legCommitAt -- PULSE cycle in which the pending commit completed (R304)
  | legLate -- the pending commit has missed the first reload at or after its completion (R305)
  | legTripCounted -- a trip was counted in the present reload interval (R324)
  | chDrive -- the driver drives the channel on (R367); index channel
  | chCmd -- the channel's command after the output stage is on; index channel
  | chOnAt -- sub-step of the channel's last turn-on at the output stage (R315)
  | chOffAt -- sub-step of the channel's last turn-off at the output stage or read-back off (R315, R371)
  | chPathLost -- the command path of the channel is lost (R365)
  | chUvlo -- rails of the channel below UVLO: bit 0 VPOS or gate rail, bit 1 VNEG (R375)
  | chBadFrames -- consecutive missing or failed status frames (R366)
  | staggerLeg -- the leg waits for its stagger slot (R370); index leg
  | ascWait -- the low side of the leg waits to turn on under R371; index leg
  | ascOut -- the stage's safe output is SAFE_ASC (R371); index stage
  | multiTag -- group tag of the present carrier period of a stage (R378), 0 none
  -- 01 stages
  | slotInt -- integrator k of a slot in 2^-30; index slot * 8 + k (R261, R262)
  | hardClock -- a hard clock fault is latched (R118, R121)
  | stopCode -- event code of the stop sequence that runs (R47); index stage
  | stopReaction -- reaction of the stop sequence that runs; index stage
  | stopForceAt -- VCO cycle at which the stop sequence committed FORCE OFF to every leg of the stage, 0 none (R47); index stage
  | pStop -- step of P's stop sequence (R452): 0 none, 1 waits for D, 2 waits for TAKEOVER, 3 ramps
  | takeoverReq -- a take-over request to L waits for its update (R410)
  | regStopFrom -- regulator state from which STOPPING began (R396)
  | snapDue -- a snapshot of the kind is due at the end of the regulator's update: its detail + 1 (R389); index kind
  | snapSeq -- sequence number of the record that this snapshot belongs to (R418); index kind
  | snapOld -- the older copy of a snapshot (R418, R457); index 16 * kind + word, the charger's kinds from 8 on
  | lastRes -- last corrected result of a channel of a fast core (R326, R387, R468); index 256 * core + channel
  | actIref -- |i*| of the last run of an actuator's slot in its law (R468); index actuator
  -- 08 pulse generation
  | perStart -- sub-step instant of the last PERIOD_START of a stage (R286); index stage
  | perNext -- sub-step instant of the next PERIOD_START of a running carrier; index stage
  | perLater -- the PERIOD_START after that one, while the reload of the reference leg has come first (Table 8-2); index stage
  | modeNext -- carrier mode of L that awaits PERIOD_START (R296)
  | legStart -- sub-step instant of the last reload of a leg
  | legNext -- sub-step instant of the next reload of a leg
  | legLevel -- command level of a leg at the end of its last interval: 0 none, 1 high, 2 low
  | legEndMin -- sub-step instant to which a stretched command pulse of the leg runs (Table 8-3)
  | stopLate -- the stop sequence's FORCE OFF missed the leg's first reload (R305); index leg
  | legMode -- carrier mode of the present period of a leg (R296); index leg
  | legTermed -- the variable part of the present period of a leg has been terminated (R300); index leg
  | legHighEnd -- sub-step instant of the high-side turn-off command in the present interval of a leg, 0 none (Table 8-2)
  | legWhole -- the leg places its edges on whole PULSE cycles (R290); index leg
  | gapOn -- the last turn-on of the channel was delayed by a hand-over gap (R315, R344); index channel
  | gapOff -- the last turn-off of the channel was delayed by a hand-over gap
  | legLive -- the leg has issued its first edges since ARM (R46)
  | legDiscard -- carry discarded since start, in sub-steps (R311); index leg
  | legTripAt -- VCO cycle of the trip in force of a leg (R323)
  | chWait -- the channel's turn-on waits for its partner's read-back (R363); index channel
  | multiMax -- highest reaction code of the detector trips of the present carrier period (R378); index stage
  | tripPer -- the trip record of the stage has moved on to the period of its next PERIOD_START already (R377); index stage
  | phi -- integral of the Kelvin-to-power-source voltage since the gate edge, in mV ns (R372); index channel
  | syncFall -- VCO cycle of the falling edge of the last SYNC_OUT pulse at its command instant (R321)
  | syncEdge -- corrected time-stamp of the last SYNC_IN edge in sub-steps (R316)
  | syncPrev -- last SYNC_IN period in sub-steps
  | syncRun -- consecutive consistent SYNC_IN periods, up to 4 (R317)
  | lockedPer -- last locked SYNC_IN period of a stage in sub-steps (R319); index stage
  | syncWas -- the stage has been locked since its carrier started; index stage
  -- 09 failover
  | gapFrom -- VCO cycle of cycle d of the last hand-over gap (R343)
  | gapEnd -- VCO cycle of cycle d + 4 of the last hand-over gap (R343)
  | enginesDead -- no engine drives the outputs (R341, R342)
  -- 10 gate, further
  | chDriven -- the channel has been driven on since the start; index channel
  | chOffSpecial -- the channel's last turn-off was a soft, detector, trip or enable turn-off (R315); index channel
  | chOffShown -- the read-back has shown off since the channel's last turn-off; index channel
  | chPathBack -- VCO cycle from which the command path of the channel is valid again, plus 1, as its loss reported it; index channel
  | tripTag -- group tag of the last detector trip of a leg, and its reaction code: 16 tag + code; index leg
  | syncFreeing -- SYNC_FREE has passed without lock and L moves back to PERIOD (R413)
  -- 18 cycle
  | cycleStartAt -- VCO cycle of the last local cycle start (R643), 0 none yet
  -- 09 failover, further
  | selfFail -- the self-check of an engine reads FAIL (R331); index engine (0 PE-A, 1 PE-B)
  | crcOff -- difference between the stored CRC-16 of a record of an engine and that of its content, 0 none (R331); index 64 * engine + record
  | condemned -- condemnations of an engine since the start (R348); index engine
  | decideAt -- PULSE cycle of the last decision, plus 1 (R336)
  | ownSel -- level of the interlock line OWN_SEL: 0 selects PE-A, 1 PE-B (R342)
  | switchAt -- VCO cycle from which the hand-over of a SWITCH_BACK looks for its span (R350)
  | diffChans -- channels that differ in the pending decision, bit c for CHc (R337)
  | diffStages -- stages whose carrier events differ in the pending decision (R337)
  | testRes -- result of an engine's self-test of start step 8: 0 none yet, 1 passed, 2 failed (R352); index engine
  | exhaustAtGap -- the new owner failed inside the hand-over gap (R346)
  | startAt -- VCO cycle at which this start began
  -- 03 clocks and arbitration
  | missing -- consecutive missing cycles (R112, R113)
  | discRun -- consecutive cycles within +-20 ns in ACQUIRE, or beyond +-100 ns in LOCKED (R113)
  | corrHist -- the last 64 corrections, index update number modulo 64 (R113)
  | corrCount -- loop updates held in corrHist, and the place of the next one
  | corrPlace -- place of the next entry of corrHist
  | holdoverAt -- VCO cycle of the last entry to HOLDOVER
  | grantAt -- CORE cycles of the last grants of a class, 0 none; index class * 16 + k (R127)
  | grantPlace -- place of the next entry of grantAt; index class
  | rrLast -- last requester served of a class (R124); index class
  | busFree -- CORE cycle from which the next grant may come (R123)
  | shapedNow -- the request at the head of a requester's queue has been delayed by its quota (R127); index class * 16 + requester
  | posted -- transactions in the posted write buffer of MRAM (R126)
  | poisoned -- the last word a requester has read is marked as poisoned (R132); index class * 16 + requester
  | scrubAddr -- address of the next block of the SRAM scrubber (R130)
  | scrubWait -- transactions of the scrubber that wait for a grant, two per block: its read and its write (R130)
  | scrubHead -- CORE cycle in which the first of them came to the head of the scrubber's queue
  | scrubFound -- what the read of a waiting block finds: 0 nothing, 2 a + 1 a single, 2 a + 2 a double error at address a; index block
  -- 04 sampling
  | seqTab -- word of a sequence table (R148); index core * 512 + entry * 2 + word
  | seqEntry -- entry of a core's sequence table that executes; index core
  | seqDone -- conversions done in the present entry; index core
  | seqLoops -- runs done of the group that a LOOP entry ends; index core * 256 + entry
  | seqWait -- the sequencer waits at a WAIT entry; index core
  | seqMark -- a wait has been satisfied and no result has been sent to a buffer since; index core
  | seqAt -- SAMPLE cycle of a sequencer's next conversion, of the start of its next entry where the present one converts nothing, or, while it waits, of the start of its entry (R149); index core
  | sampleBase -- SAMPLE cycle of the first common SLOW edge after PLL lock (R136)
  | sampleWas -- that cycle of the lock before, from which samples before sampleBase count
  | slicePos -- slice that holds an interleave position (R135); index core * 8 + position
  | swapAt -- VCO cycle of the last swap of a core (R142), plus 1; index core
  | swapIn -- slice that entered service in it; index core
  | swapOut -- slice that left service in it; index core
  | sliceOffset -- offset coefficient of a slice in uV (R137, R143); index core * 9 + slice
  | sliceGain -- gain coefficient of a slice in ppm
  | sliceSkew -- skew coefficient of a slice in fs
  | coreLast -- last result of a core before the skew filter; index core
  | accOld -- word j of the read set of an accumulator before its last latch (R159); index accumulator * 8 + j
  | accAt -- SAMPLE cycle of the last latch of an accumulator
  | accOlder -- word j of the read set before that one; index accumulator * 8 + j
  | accAtOld -- SAMPLE cycle of the latch before the last one of an accumulator
  | evLast -- SAMPLE cycle v of the last event of a source at a core: 2 v + 2, plus 1 for a substitute; index core * 8 + source
  | accSum -- running sum of an accumulator; index accumulator
  | accCount -- running count of an accumulator; index accumulator
  | accFull -- a result was not added in the present window (R162); index accumulator
  | ovrRun -- consecutive overrange results of an input AInn; index input
  | bufTrig -- a fault report has triggered a buffer (R170); index buffer
  | bufPost -- entries a triggered buffer still takes; index buffer
  | substBase -- VCO cycle from which substitute events of a stage count in a core; index core * 8 + stage
  | calSlice -- slice in calibration; index core
  | nextLeave -- slice next due to leave; index core
  | calPass -- the slice in calibration has passed; index core
  | hkBad -- consecutive rounds outside limits of a housekeeping position; index position
  | hkGood -- consecutive rounds within limits; index position
  | hkSigned -- result of position 63 in the last round, signed
  | excAt -- VCO cycle at which the excitation of a resolver started, plus 1; 0 while it is off (R216); index channel
  | excNeg -- the next peak of the excitation is the negative one; index channel
  | resFrom -- VCO cycle at which the present demodulation window began (R217); index channel
  | resSin -- sum of the resolver sine results of the present demodulation window; index core; index core + 2: of the next one
  | resCos -- sum of the resolver cosine results, in the same places
  | resPol -- sign of the reference in the present demodulation window: 1 or -1 (R217); index channel
  -- 05 thermal
  | thNb -- byte b of a source's THERMAL_NEIGHBOURS entry (R184); index source * 8 + b
  | thDepart -- consecutive rounds in which a source departs (R185); index source
  | thNear -- consecutive rounds in which a BROKEN source stays near its estimate (R186); index source
  | thCnt -- consecutive rounds of the condition that would change WARN, DERATE, SHUT, COLD_DRIVE, COLD_CHARGE; index source * 8 + k
  | thLatch -- SHUT latch of a source in MRAM (R190); index source
  | thLatchAt -- effective value written with the latch of a source (R190); index source
  | thCrc -- consecutive reads of a board sensor with a CRC error (Table 5-1); index source
  -- 06 position feedback
  | pinRaw -- levels that the wires of a pair show: bit 0 the positive, bit 1 the negative wire (R202); index channel * 4 + pair
  | pinAt -- first SAMPLE edge at the present level of a pair (R201); index channel * 4 + pair
  | fbLevels -- accepted levels of A, B and Z (bits 0 to 2) of a feedback channel (R201); index channel
  | fbEdgeAt -- SAMPLE cycle of the last accepted count edge; index channel
  | zArmed -- Z is sampled: it has been accepted low since the last qualified index (R209); index channel
  | fbHall -- last valid hall sector plus 1, 0 none (R214); index channel
  | fbExt -- EXT, the furthest POS in the present direction (R207)
  | fbHistLen -- edges held in fbHist since DIR last changed
  | fbHist -- SAMPLE cycle of the last edges that moved EXT, newest first; index channel * 16 + k (R226)
  | fbWinPos -- POS at the start of the present count window (R228)
  | fbWinFrom -- SAMPLE cycle with which the first count window begins (R228)
  | fbWinCorr -- corrections under R211 in the present count window (R212)
  | fbCount -- count-method speed of the last window, Q16.16 rev/s
  | fbIdxPos -- P, POS at the last qualified index or check (R212)
  | fbSup -- sensor supply of a channel is on
  | fbRetries -- retries of the sensor supply (R197)
  | fbHallUp -- the sector boundary last crossed is the upper one of the sector (R215)
  | fbRes -- resolver angle of the observer in 2^-48 of a revolution (R219)
  | fbOmega -- resolver speed of the observer in 2^-48 of a revolution per SAMPLE cycle
  | fbObsAt -- SAMPLE cycle to which the observer has advanced
  | resSinN -- RES_SIN results in the present demodulation window; index core; index core + 2: in the next one
  | resCosN -- RES_COS results, in the same places
  | resBad -- consecutive windows outside AMP_LOW to AMP_HIGH; index channel
  | resStale -- consecutive stale windows
  | resGood -- consecutive windows that are not stale and within the limits
  | resFar -- consecutive windows with an error beyond TRACK_LIMIT
  | resNear -- consecutive windows with an error within TRACK_LIMIT / 2
  | excBad -- consecutive excitation periods more than 20 % off
  | excGood -- consecutive excitation periods within 10 %
  | ssiAt -- VCO cycle of the first falling clock edge of the present frame
  | ssiEnd -- VCO cycle of the last clock edge of the last frame started
  | ssiBad -- consecutive bad frames
  | ssiBads -- bad frames since the start (R223)
  | ssiDisc -- consecutive discarded frames
  | ssiTake -- the next good frame is accepted as the new position (R224)
  | ssiLastAt -- VCO cycle of the first falling clock edge of the last good frame
  | ssiHave -- a good frame has been accepted since the start
  | snAt -- SAMPLE cycle v of the last snapshot, which can be read from v + 2 on (R231); index channel
  | snPos -- POS of the last snapshot (R231); index channel; index channel + 8: of the one before
  | snMech -- MECH of the last snapshot
  | snAngle -- ANGLE_E of the last snapshot
  | snSpeed -- SPEED of the last snapshot
  | snAge -- AGE of the last snapshot
  | snFlags -- DIR, VALID and REF_OK of the last snapshot, bits 0 to 2
  -- 07 control engine
  | slotEvents -- selected carrier events of a slot since its stage entered ARMED (R243); index slot
  | slotPend -- the slot is pending (R241)
  | slotRun -- the slot is running (R238)
  | slotTrigAt -- VCO cycle of the last trigger that made the slot pending
  | slotTrigPrev -- VCO cycle of the trigger before it (R250)
  | slotRunAt -- VCO cycle of the start of the last run (R280)
  | slotSp -- effective setpoint component k in use, Q2.30; index slot * 8 + k
  | slotRaw -- output component k of the last run, Q2.30; index slot * 8 + k
  | slotWord -- output word k of the last run (Table 7-1); index slot * 8 + k
  | slotSat -- saturation of loop k in the last run: 1 at OUT_MAX, -1 at OUT_MIN; index slot * 8 + k
  | slotPreset -- CLOSE_LOOP waits for its first AUTO run (R265)
  | slotLim -- magnitude limit in use in the last run outside a stop sequence, Q2.30 (R272)
  | slotVsat -- consecutive runs with VSAT, up to 100
  | mirrorIn -- input j in the last mirror record of a slot (R254); index slot * 8 + j
  | mirror -- transactions waiting in a lane's mirror buffer (R254); index lane
  | motorTab -- a MOTOR_TABLES set: 0 T_MAX, 1 PSI_MAX, 2 + 2e id and 3 + 2e iq of entry e; index set * 4096 + i
  | motorHas -- the set is present in MOTOR_TABLES; index set
  | linkMap -- a LINK_MAP map: 0 SPEED_MAX, 1 TORQUE_MAX, 2 + e entry e in V; index map * 512 + i
  | linkMapHas -- LINK_MAP is present
  | btPhase -- phase of a brake test: 1 ramp, 2 hold, 3 ramp to zero, 0 none; index brake
  | btAt -- VCO cycle at which the phase began
  | btNeg -- the torque of the phase is negative
  -- 11 link converter
  | regIref -- i_ref of the last update in 2^-16 A (R391)
  | regC -- compensator history c1 to c3 in 2^-16 A; index 1 to 3
  | regE -- compensator history e1 to e3 in 2^-16 V; index 1 to 3
  | regX -- integrator x_j of a phase in 2^-30; index phase
  | regSat -- clamp of a phase's duty in the last update: 1 at DUTY_MAX, -1 at DUTY_MIN; index phase
  | regDuty -- duty of a phase in 2^-15; index phase
  | regRef -- ramped soft-start reference in 2^-16 V (R408)
  | regAt -- VCO cycle of the regulator's last trigger, 0 none
  | regSoft -- consecutive updates within 2 % of the setpoint (Table 11-3)
  | regOv -- consecutive updates with u_link at or above OV_LIMIT
  | regLink -- u_link of the last update in 2^-16 V
  | regBatt -- u_batt of the last update in 2^-16 V
  | regSet -- setpoint of the last update in 2^-16 V
  | regBurst -- a burst runs (R406)
  | regBurstAt -- VCO cycle at which the last burst ended
  | regClim -- a REG trip of L since the last update
  | regUpd -- updates since the regulator entered its state
  | handbackReq -- a hand-back request to L waits (R411)
  | chgEnded -- a charge has ended since the last CHARGE_START (Table 12-7)
  | chgPlim -- P_lim of the last PFC_CURRENT run, in 2^-16 W (R428)
  | regIpk -- peak current of LIGHT in 2^-16 A (R403)
  | regPrev -- VCO cycle of the trigger before it, 0 none (R392)
  | regIn -- an update of the regulator is in progress
  | regClimWas -- a REG trip of L between the last two updates
  | ssJudged -- the soft-start window has ended: 1 with u_link at or above 10 % of the setpoint, 2 below it (R408)
  | hiccupOver -- HICCUP_WAIT has elapsed (Table 11-3)
  | shedMet -- the shed (0), light (1) or burst (2) condition has held for SHED_TIME; index condition
  | freeRun -- L came back to PHASE without lock and runs at PULSE.L.PERIOD (R414)
  | snapBefore -- state and switching legs before the last transition: state + 16 x legs
  | snapUpd -- updates since entry to that state (Table 11-7)
  -- 12 charger
  | chgSign -- sign of a source input: 1 or -1, 0 not yet known (R424); index input
  | chgSum -- sum of squares of the half-cycle in progress; index input
  | chgNum -- samples of the half-cycle in progress
  | chgFrom -- VCO cycle of the last zero crossing of an input, 0 none
  | chgHalf -- a completed half-cycle waits to be judged
  | chgHalfSum -- its sum of squares
  | chgHalfNum -- its samples
  | chgHalfLen -- its length in us
  | chgRms -- RMS of the last completed half-cycle in 2^-16 V; index input
  | chgLen -- length of the last completed half-cycle in us; index input
  | chgOdd -- consecutive half-cycles of a length outside limits; index input
  | chgGood -- a half-cycle within limits has completed since t_q was last moved (R426); index input
  | chgRestart -- the qualification window opens at the next half-cycle start of input .00
  | chgPvreg -- P_vreg in 2^-16 W (R427)
  | chgFeedAt -- VCO cycle of the last start of feeding
  | chgDead -- an input has had no zero crossing for 12 ms (R425); index input
  | chgFed -- the first entry to AVAILABLE after P has entered RUNNING has been used or left (R432)
  | chgSag -- consecutive PFC runs with a sag (R437)
  | chgExtraAt -- VCO cycle from which TRANSFER_V falls at 1 V per ms (R435), 0 none
  | chgLost -- SOURCE_LOST since the last entry to SHARED or SOURCE (Table 12-7)
  | chgLink -- u_link of the last PFC run in 2^-16 V
  | chgTarget -- target of the last PFC run in 2^-16 V
  | chgPin -- input power of the last PFC run in 2^-16 W
  | chgStopP -- input power at step 3 of P's stop sequence in 2^-16 W (R452)
  | chgStopAt -- VCO cycle of step 3 of P's stop sequence
  | chgVa -- sign of v_a that the last PFC run used (R441)
  | chgOv -- consecutive PFC runs with u_link at or above OV_LIMIT
  | batOv -- consecutive DAB runs above the CV margin
  | batFlux -- consecutive DAB runs beyond FLUX_LIMIT
  | batCv -- consecutive DAB runs in which the CV loop supplied r, negative: did not
  | batU -- u_batt of the last DAB run in 2^-16 V
  | batI -- i_batt of the last DAB run in 2^-16 A
  | batIcc -- I_CC of the last DAB run in 2^-16 A
  | batVcv -- V_CV of the last DAB run in 2^-16 V
  | batShift -- shift d of the last DAB run in 2^-30
  | bmsAt -- VCO cycle of the last write to CHG.BMS, 0 none
  | chgEnding -- the end of a charge is in progress (R451)
  | chgEndAt -- VCO cycle of the end of the charge
  | chgCount -- safety timer in 0.5 ms (R453)
  -- 13 actuators
  | actLimit -- compare limit in force of an actuator in 0.01 A, 0 none (R481); index actuator
  | actNew -- a setpoint has been applied to the actuator's slot since its last evaluation (R470)
  | actLo -- lowest POS of the present blocked span (R475)
  | actHi -- highest POS of the present blocked span
  | actSector -- commutation sector at arrival (R473)
  | actNeg -- the last i* was negative
  | actLow -- consecutive runs with VACT below VACT_MIN, up to 2
  | actHigh -- consecutive runs with VACT at or above VACT_MAX, up to 2
  | legFull -- force of R467 of a leg: 0 PWM, 1 HIGH, 2 LOW; index leg
  -- 14 safety functions
  | stgSince -- VCO cycle from which a stage has been STOPPED or SAFE, or has not been (R500); index stage
  | btAbort -- SAMPLE cycle of the last abort of a brake test, plus 1 (R512); index brake
  | btStep -- step of the brake test at that abort, and 256 in the negative direction; index brake
  | hwReq -- the hard-wired path sees a request of a group (R489); index group
  | stoLate -- late flag of the timing monitor of a group (R498)
  | stoSample -- request shown by the last sample of a pair, 1 yes; index 0-3 STO, 4 SBC
  | stoState -- accepted state of a pair, 1 request (R490); index 0-3 STO, 4 SBC
  | stoFirst -- VCO cycle of the first sample that showed the present request of a group; index group
  | stoCheck -- the EN_SW check of R498 is due for a group
  | stoAfter -- the next sample is the first after a warm restart of pair S (R493)
  | stoLast -- VCO cycle of the last passed test or request of a group (R500)
  | stoTest -- the internal test of a group runs (R499)
  | armWait -- a stage enters ARMED when its group's test has passed (R500); index stage
  | pathFault -- path fault latched (R497); index group
  | brkReq -- the command bit of a brake has been written 1 since its last application (R505); index brake
  | brkAt -- VCO cycle of the last application of a brake
  | brkSince -- VCO cycle at which HOURS of a brake was 0, shifted by unpowered time (R513)
  | btPos0 -- POS0 of a brake test; index brake
  | preAt -- VCO cycle at which the precharge started (R517)
  | cfbAt -- VCO cycle since which a contactor feedback is unexpected outside its window, 0 not; index input
  | cfbOk -- VCO cycle since which a contactor feedback is expected
  -- 07 control engine, further
  | slotEvAt -- VCO cycle of the carrier event that the slot's open trigger follows (R242); index slot
  | slotPendAt -- VCO cycle of the trigger that made the slot pending; index slot
  -- 04 sampling, further
  | substMid -- the substitute PERIOD_MIDDLE of the present substitute period has passed; index core * 8 + stage
  -- 15 supervisor cores
  | portEnd -- VCO cycle at which the frame in progress on a fabric port and the gap after it end, by port (R621)
  | sigAt -- 1 + LOOP cycle of the last signal write of a parameter, by key (R630)
  | sigVal -- value of that signal write
  | lapsedUid -- unique ID of the master last followed (R638, R641)
  | replayAt -- VCO cycle at which the last debug action entered the replay buffer (R559)
  | sRestartAt -- VCO cycle at which the present warm restart of pair S began (R543)
  | clearCut -- a loss of power has interrupted a clear of the log (R585)
  | refillTaken -- end of the refill window whose token a report has found before TOKEN_REFILL came (R573); index code
  | sToSafe -- code of the event for which the present warm restart completes in module state SAFE, 0 none (R547, R548)
  | vRestartAt -- VCO cycle of the start of the last restart of pair V or V0 (index 0) and of V1 (index 1), plus 1; 0 none (R552)
  | joinBarred -- JOIN_V is refused until the next start (R556)
  -- 16 event recorder, further
  -- 20 services
  | challengeNo -- challenges drawn from the random generator (R697)
  -- 02 start
  | wakeLatched -- wake source latched during an entry sequence plus 1, and 16 times its unit (R95)
  | entering -- entry sequence under way: 1 SLEEP, 2 SHIP (R91)
  | wakeHigh -- WAKE was high when a command last gave its level (R92)
  | wakeAt -- VCO cycle of that command, plus 1
  | supplyGroup -- index of the next gate-supply group of step 8 (R82)
  | supplyDone -- the supply part of step 8 has ended
  | memoryOk -- memory test of this start: 0 not ended, 1 passed, 2 failed
  | injectOk -- injection test of this start: 0 not ended, 1 passed, 2 failed
  | keyFound -- key findings of this start: 0 none yet, 1 usable, 2 + n failed with cause n (R77)
  | onKeyStage -- step of KEY_WRITE: 0 none, 1 erase, 2 program body, 3 verify body, 4 program header, 5 verify header
  | poweredBase -- powered time before this start in VCO cycles (R710)
  | restarting -- a RESTART has been decided and not begun (R695)
  -- 17 fabric links
  | fabSeq -- last SEQ sent of a KIND (R592); index KIND
  | imageApplied -- the image of this start has been applied (step 7)
  -- 02 start, further
  | logBuilt -- the recorder has rebuilt its state in this start
  | offAt -- VCO cycle at which the unpowered time began, plus 1 (R513, R710); 0 while powered
  -- 19 CAN
  | canGen -- fills of a queue entry modulo 256 (Table 19-3); index channel * 128 + queue * 64 + slot
  | canAddr -- address that a channel claims plus 1, 0 none (R680); index channel
  | busOffs -- bus-offs entered in the present window (R678); index channel
  -- 17 fabric links, further
  | lcRun -- LINK_CHECK frames in a row that name the module (R596); index port
  | lcAt -- VCO cycle of the last LINK_CHECK received on a port; index port
  | errDrops -- frames dropped for HCRC or FCS in the present error window (R598); index port
  | bestDepth -- DEPTH of the best copy of the present round (R606)
  | bestPath -- PATH of the best copy
  | settled -- the settle window of the present round has ended (R607)
  | rootPrio -- ROOT_PRIO of the root followed (R603)
  | earlyRound -- a round starts at the end of the open reply window (R604)
  | nextNodes -- NODES that the root's next WAGGLE carries (R608)
  | nextDepth -- MAX_DEPTH that the root's next WAGGLE carries
  | rootKeeps -- the root's own address was claimed in an earlier round (R615)
  -- 18 colony cycle
  | pdReq -- REQ_ID of the last PDELAY_REQ sent on a port (R636); index port
  | pdSentAt -- departure stamp of that frame in sub-steps; index port
  | pdOpen -- that request has no response yet; index port
  | pdResult -- the last 8 link delays of a port in half sub-steps; index port * 8 + k
  | pdCount -- results of a port, up to 8; index port
  | pdPlace -- place of the next result; index port
  | masterPrio -- MASTER_PRIO of the master followed (R638)
  | masterLen -- cycle length of the master followed in PULSE cycles
  | masterAt -- VCO cycle of its last SYNC
  | masterSeen -- a SYNC of a master has been followed since the start (R639)
  | cycleZero -- the next local cycle start takes number 0 (R639)
  | syncEarly -- the SYNC of the next local cycle start has arrived (R112)
  | ringGot -- the cycle number + 1 of the SYNC whose copy last arrived on a port (R632); index port
  | ringBefore -- the same of the SYNC before it (R632); index port
  | ringMissRun -- cycles missed in a row by a ring port (R633); index port
  | ringGoodRun -- cycles received in a row by a ring port that is broken; index port
  | ringBad -- a ring port is broken (R633); index port
  | pubDone -- cycle number of the last publication of a frame plus 1 (R641); index frame
  deriving DecidableEq, Repr

/-- Open windows, by name. -/
inductive Timer where
  -- 01 module architecture
  | hold -- hold window of a stage (R48, R542); index stage
  | stopSeq -- stop sequence of a stage (R47); index stage
  -- 21 ATTN
  | attnHold -- MIN_ASSERT window of ATTN (R719)
  -- 01 stages
  | carrierStart -- start of a carrier after ARM (R295); index stage
  | brakeTest -- phase of a brake test (R510); index brake
  | stopTakeover -- wait of P's stop sequence for TAKEOVER (R452)
  -- 08 pulse generation
  | legReload -- next reload of a leg; index leg
  | periodStart -- next PERIOD_START of a stage; index stage
  | periodMiddle -- next PERIOD_MIDDLE of a stage; index stage
  | tripWindow -- trip-count window of a leg (R324); index leg
  | syncTimeout -- 1.25 x the locked SYNC_IN period after the last edge (R319); index stage
  | commit -- completion of a commit of a leg (R303); index leg
  | syncFree -- SYNC_FREE window of L (R413)
  -- 18 cycle
  | stagger -- STAGGER slot of a stage in SAFE_OFF (R370); index stage
  | linkValid -- 10 us of valid status frames of a channel (R366); index channel
  | cmdValid -- 10 us of a valid command path of a channel (R365); index channel
  | brkLow -- 100 ms of a current below 100 mA in a released brake (R508); index brake
  | brkLimit -- 10 ms of the current limiter of a brake (R508); index brake
  -- 09 failover, further
  | decision -- RB_WAIT of a pending decision (R337)
  | gap -- hand-over gap (R343)
  | selfTest -- self-test of an engine (R348); index engine
  | syncCopy -- copy of the owner's records (R350)
  | qualify -- QUALIFY window (R350)
  | switchHandover -- at most 10 ms from step 3 of R350 to the hand-over
  -- 03 clocks and arbitration
  | holdover -- HOLDOVER_LIMIT (R113)
  | scrub -- next block of the SRAM scrubber (R130)
  | corrLimit -- 1 s of correction at +-100 ppm
  -- 04 sampling
  | rotate -- next 2 ms SLOW edge of a core's slice rotation (R141); index core
  | calEnd -- end of the calibration of a core's slice (R143); index core
  | calStale -- STALE_LIMIT of a suspended rotation (R146); index core
  | hkRound -- next round of the housekeeping converter
  -- 06 position feedback
  | fbWindow -- end of the count window of a feedback channel (R228); index channel
  | fbZero -- ZERO_TIME after the last edge that moved EXT (R227); index channel
  | supRetry -- retry of a sensor supply (R197)
  | supHeld -- 100 ms after a retry (R234)
  | ssiWindow -- next frame of an SSI channel with no stage (R222)
  | ssiFrame -- last clock edge of the frame under way (R222); index channel
  | wire -- WIRE_FILTER of a pair that disagrees (R202); index channel * 4 + pair
  | wireOk -- WIRE_FILTER of a pair that agrees again; index channel * 4 + pair
  | hallBad -- WIRE_FILTER of a hall code 0 or 7 (R213); index channel
  | hallGood -- WIRE_FILTER of a valid hall code after HALL_INVALID
  | excPeak -- next peak of the excitation (R216); index channel
  | resWin -- end of the demodulation window (R217); index channel
  -- 07 control engine
  | slotTrig -- instant at which a slot's trigger takes effect (R241, R242); index slot
  | slotTimer -- next trigger of a slot's timer (R241); index slot
  | laneEnd -- end of the run of a lane (R246); index lane
  | slotFe -- FE_TIME of a slot's following-error condition (R273); index slot
  | slotSpTimer -- SP_TIMEOUT of a slot (R271); index slot
  -- 11 link converter
  | regTrig -- instant at which an update of the regulator starts (R388)
  | ssWindow -- soft-start window (R408)
  | hiccup -- HICCUP_WAIT (R409)
  | shed -- SHED_TIME of the shed, light and burst conditions; index 0 to 2
  | shedBlock -- SHED_BLOCK (R402)
  | uvTime -- UV_TIME (R415)
  | imbTime -- IMB_TIME of a phase (R415); index phase
  | snapWin -- 1 ms window of a snapshot kind (R418); index kind of L, 8 + kind of the charger
  -- 12 charger
  | ppEval -- next evaluation of the power path monitor (R423)
  | noCross -- 12 ms without a zero crossing; index input
  | qual -- QUAL_TIME window (R426)
  | hbTime -- HB_TIME of the hand-back condition
  | chgEval -- next millisecond of the charge supervisor (R447)
  | chgPause -- PAUSE_LIMIT
  | taper -- TAPER_TIME
  | battOc -- 1 ms of BATT_OC
  | absent -- 1 ms of absence of PFC_OV, BATT_OV, BATT_OC (index 0 to 2), VACT_LOW of X1, X2 (3, 4), VACT_HIGH of X1, X2 (5, 6)
  -- 13 actuators
  | arrive -- ARRIVE_TIME of an actuator (R472); index actuator
  | moveTime -- MOVE_TIME of an actuator
  | block -- BLOCK_TIME of an actuator (R475)
  | holdOc -- 10 ms above I_HOLD in FULL (R474)
  -- 14 safety functions
  | stoDue -- 24 h without a passed test or request (R502); index group
  | safety -- next sample of pair S (R490)
  | disc -- DISC_TIME of a pair (R494); index 0-3 STO, 4 SBC
  | discClear -- DISC_CLEAR of a pair (R495)
  | path -- 5 ms of path disagreement of a group (R497)
  | brkClear -- 100 ms without an output fault condition (R508); index brake
  | btDue -- HOURS reaches INTERVAL (R513); index brake
  | cfb -- CFB_TIME of a contactor feedback (R515); index input
  | cfbCheck -- next evaluation of the contactor feedbacks
  | weld -- WELD_TIME of the precharge (R517)
  | pre -- PRE_TIME of the precharge
  | cdrOpen -- OPEN_DELAY (R516)
  -- 15 supervisor cores
  | repeatS -- repeat window of pair S (R547)
  -- 16 event recorder, further
  | refill -- refill window of the bucket of a code (R573); index code
  -- 20 services
  | lockout -- 60 s lockout (R698)
  | authFail -- 60 s failure window (R698)
  -- 02 start
  | keyCheck -- period of the run-time key check (R97)
  | sleepIdle -- sleep idle window (R96)
  | supplyStep -- next gate-supply group of step 8 (R82)
  | restartBy -- at most 10 ms from the decision of RESTART to its begin (R695)
  -- 19 CAN
  | txPeriod -- end of the present period of a transmit entry (R671); index entry
  | txCheck -- next check of an on-change transmit entry (R671); index entry
  | claim -- 250 ms after the module's claim frame (R681); index channel
  | canAuto -- 10 s window of bus-offs (R678); index channel
  -- 17 fabric links, further
  | linkCheck -- next LINK_CHECK of a port (R596); index port
  | linkTimeout -- LINK_TIMEOUT of a port (R598); index port
  | errWindow -- error window of 100 ms of a port (R598); index port
  | holdOff -- HOLD_OFF of a blocked port (R600); index port
  | flapWindow -- flap window of a port (R600); index port
  | waggle -- next periodic round of the root (R604)
  | replyWindow -- reply window of the root's present round (R608)
  | settle -- settle window of the present round (R607)
  | rootLost -- 3 x WAGGLE_PERIOD after the last WAGGLE of the root followed (R610)
  -- 18 colony cycle
  | pdelay -- next PDELAY_REQ on every port (R636)
  | master -- 8 x CYCLE_LEN without a SYNC of a better master (R639)
  | cycle -- next local cycle start (R643)
  | missing -- end of the window in which a cycle frame is expected (R112)
  | publish -- publish instant of a frame in the present cycle (R627); index frame
  deriving DecidableEq, Repr

/-- The key of instance i of an internal quantity. -/
def Var.key (x : Var) (i : Nat) : Nat := x.ctorIdx * 65536 + i

/-- The key of instance i of a window. -/
def Timer.key (x : Timer) (i : Nat) : Nat := x.ctorIdx * 65536 + i

end Sys2Proof.Machine
end

