-- ==== Sys2Proof/Machine/State.lean ====
section
/-!
DEFINITION. The state of the block as plain data: every parameter word, the module and stage states, the faults and their
latches, the event recorder, the units' internal quantities and windows, the memories, the queues of the services, the
fabric and CAN, what has been sent to the outside, and the queue of waiting commands.
-/

namespace Sys2Proof.Machine

/-- Module states (Table 1-4). -/
inductive ModState where
  | off | ship | sleep | starting | unconfigured | ready | run | service | safe
  deriving DecidableEq, Repr

/-- Stage states (Table 1-6). -/
inductive StageState where
  | stopped | armed | running | hold | safe
  deriving DecidableEq, Repr

/-- A cause that holds a stage in HOLD (R49). -/
inductive HoldCause where
  | restart                        -- a warm restart of pair S
  | fault (code inst : Nat)        -- a fault whose reaction HOLD the stage has carried out, a setpoint loss (R271) among them
  deriving DecidableEq, Repr

/-- A DERATE reaction on a stage (R758): the code of its fault, whether the fault's detection leaves no lasting cause, and the number of
the LOOP cycle in which it was carried out (R58). -/
structure Derate where
  code      : Nat
  momentary : Bool
  since     : Nat
  deriving DecidableEq, Repr

/-- What the state machine keeps of a stage: its state, whether its stop sequence runs (R47), whether a STOP is stored in HOLD
(R48), the causes that hold it (R49), the DERATE reactions (R758), and the event and reaction of its last change (Table 21-7). -/
structure StageCtl where
  state      : StageState
  stopping   : Bool
  storedStop : Bool
  holds      : List HoldCause
  derates    : List Derate
  lastEvent  : Nat
  reaction   : Nat
  deriving DecidableEq, Repr

/-- A fault whose STATE.FAULT bit is set (R713): its event code and instance, whether its cause is present, whether the cause
lasts only for the SLOW cycle in which it was raised (R49), the stages whose entry to STOPPED ends its latch, and whether it
is latched until the next start. -/
structure Cause where
  code      : Nat
  inst      : Nat
  present   : Bool
  transient : Bool
  stages    : List Stage
  nextStart : Bool
  deriving DecidableEq, Repr

/-- A fault as a unit raises it: code and instance, the stage its record names (7: the module), DETAIL words, reaction code,
the stages the reaction acts on, whether a cause stays present or is present only in this SLOW cycle, whether it is latched
until the stages enter STOPPED or until the next start, whether hardware carries the reaction out without pair S (R545), and
a group tag given by the unit (R378). -/
structure FaultEvt where
  code      : Nat
  inst      : Nat := 0
  src       : Nat := 7
  d0        : Nat := 0
  d1        : Nat := 0
  d2        : Nat := 0
  reaction  : Nat := 0
  stages    : List Stage := []
  lasting   : Bool := false
  transient : Bool := false
  latched   : Bool := false
  nextStart : Bool := false
  hardware  : Bool := false
  tag       : Nat := 0
  deriving DecidableEq, Repr

/-- A fault raised in the present LOOP cycle (R58): the number of the cycle, code, record stage and first DETAIL words of its report, the
stages its reaction acts on, its reaction and the group tag of its record. -/
structure CycleFault where
  loop     : Nat
  code     : Nat
  src      : Nat
  d0       : Nat
  d1       : Nat
  acts     : List Stage
  reaction : Nat
  tag      : Nat
  deriving DecidableEq, Repr

/-- One record of the event recorder (Table 16-1) without its CRC and MARK; whether its slot is CORRUPT (R570), and the 32 bytes its
slot holds where a rebuild has found other bytes there. -/
structure Rec where
  seq        : Nat
  code       : Nat
  stage      : Nat
  exempt     : Bool
  reaction   : Nat
  modState   : Nat
  stgState   : Nat
  degraded   : Bool
  group      : Nat
  startNo    : Nat
  suppressed : Nat
  d0         : Nat
  d1         : Nat
  d2         : Nat
  corrupt    : Bool
  raw        : List Byte := []
  deriving DecidableEq, Repr

/-- The log in MRAM: BASE, the records of slots 0, 1, ... in order, and the management area's LOST_FULL, WARNED, clear count
and staged DETAIL words (R566, R582). -/
structure Log where
  base     : Nat
  recs     : List Rec
  lostFull : Nat
  warned   : Bool
  clears   : Nat
  staged   : Option (Nat × Nat × Nat)
  deriving DecidableEq, Repr

/-- One reply of the service layer: SERVICE code, envelope STATUS and payload (Tables 18-7, 20-1). -/
structure Reply where
  service : Nat
  status  : Nat
  payload : List Byte
  deriving DecidableEq, Repr

/-- The last reply of a requester, kept for a repeat, and when its request was taken (R648). -/
structure Kept where
  who   : Requester
  trans : Nat
  time  : Nat
  reply : Reply
  deriving DecidableEq, Repr

/-- An open challenge of a requester (R697) and the instant its window ends. -/
structure Challenge where
  who   : Requester
  value : BitVec 128
  ends  : Nat
  deriving DecidableEq, Repr

/-- The CONTROL word of a window as one requester set it (R722). -/
structure WinCtl where
  who     : Requester
  window  : Nat
  control : Word
  deriving DecidableEq, Repr

/-- A scheduled command edge of a channel: its command instant in sub-steps of 1/64 PULSE cycle since manufacture, whether
it ends a pulse that began before the last reload (R314), and whether a hand-over gap delays it (R344). -/
structure Edge where
  ch    : Nat
  on    : Bool
  t     : Nat
  moved : Bool
  gap   : Bool := false
  deriving DecidableEq, Repr

/-- One entry of a core's staging FIFO (R166): core, local buffer, the 4-byte entry of Table 4-5, the SAMPLE cycle in which it arrives,
whether it has arrived, and whether it is the last result sampled before a satisfied wait. -/
structure DmaEntry where
  core  : Nat
  buf   : Nat
  entry : Word
  due   : Nat
  here  : Bool
  last  : Bool
  deriving DecidableEq, Repr

/-- A corrected result on its way from the core (R137): core, SAMPLE cycle of its sample, channel, the accumulator that takes it plus 1 (0 when
it goes to none or has reached it), and its value. -/
structure Sample where
  core : Nat
  n    : Nat
  ch   : Nat
  acc  : Nat
  x    : Int
  deriving DecidableEq, Repr

/-- A level of a pair of a feedback channel that is accepted in SAMPLE cycle `due` (R201). -/
structure Accept where
  ch    : Nat
  pair  : Nat
  level : Bool
  due   : Nat
  deriving DecidableEq, Repr

/-- A protected output of pair S (R537): EN_SW of a stage group, the switches of a brake, the contactor drivers, the commands to a stage,
and the protected state area of SRAM. -/
inductive ProtOut where
  | enSw (group : Nat)
  | brake (k : Nat)
  | drivers
  | stage (t : Stage)
  | area
  deriving DecidableEq, Repr

/-- A write of pair S in the release buffer (R537): the instant at which its window has compared, the output, and what the output was
before the write. -/
structure Protected where
  due : Nat
  out : ProtOut
  old : Nat
  deriving DecidableEq, Repr

/-- What one run of a slot writes to the shadow set of a leg (R308), with TIME_A and TIME_B where the slot writes them (R468). -/
structure LegSet where
  leg   : Nat
  dutyA : Nat
  dutyB : Nat
  phase : Nat
  force : Nat
  times : Option (Nat × Nat) := none
  deriving DecidableEq, Repr

/-- A run in a lane (R245, R246): the slot, T_u in PULSE cycles, whether its loops ran in AUTO, whether it waited for REF_OK, and
what it will make visible at its end: output components and words, integrators, saturations, setpoint, largest error, flags,
leg sets, measured quantities that its type evaluates at the end, and the inputs for the mirror record. -/
structure Run where
  lane    : Nat
  slot    : Nat
  tu      : Nat
  auto    : Bool := false
  refWait : Bool := false
  outs    : List Int := []
  words   : List Int := []
  ints    : List Int := []
  sats    : List Int := []
  sp      : List Int := []
  err     : Int := 0
  vsat    : Bool := false
  outSat  : Bool := false
  held    : Bool := false
  ramping : Bool := false
  derated : Bool := false
  stale   : Bool := false
  preset  : Bool := false
  lim     : Int := 0
  legs    : List LegSet := []
  meas    : List Int := []
  ins     : List Int := []
  deriving DecidableEq, Repr

/-- A window of 10 ms that a NOT_READY or NOT_CONFIGURED reply (or, with `summary`, a SUMMARY reply in STARTING) to a requester
opened (R88). -/
structure Denial where
  who     : Requester
  summary : Bool
  ends    : Nat
  deriving DecidableEq, Repr

/-- Who owns a queue entry (R660). -/
inductive CanOwner where
  | free
  | map
  | host (who : Requester)
  deriving DecidableEq, Repr

/-- A FILLED or OWNED entry of a receive queue (R658, Table 19-2): channel, queue, slot 0-63, GEN, the frame, its filter pair and
target, the PULSE count at its arrival, its owner, the end of the owner's ACK_TIMEOUT, and whether the owner's
window shows it (R725). -/
structure CanEntry where
  ch    : Nat
  queue : Nat
  slot  : Nat
  gen   : Nat
  frame : CanFrame
  pair  : Nat
  host  : Bool
  stamp : Nat
  owner : CanOwner
  ends  : Nat
  shown : Bool
  deriving DecidableEq, Repr

/-- A frame in a transmit FIFO or a holding slot (R669 to R672): channel, frame, whether it is an FD frame, the transmit entry that
formed it, and whether its key carries the claimed address. -/
structure TxFrame where
  ch    : Nat
  frame : CanFrame
  fd    : Bool
  entry : Option Nat
  sa    : Bool
  deriving DecidableEq, Repr

/-- An address claim heard on a CAN channel (R680). -/
structure Claim where
  ch   : Nat
  addr : Nat
  name : Nat
  deriving DecidableEq, Repr

/-- One node of the colony table (R610) or one reply of the present round: the last WAGGLE_REPLY body, its fields, the rounds missed,
whether its claim is refused, and whether it has kept its address in an earlier round. -/
structure Node where
  uid     : Nat
  body    : List Byte
  addr    : Nat
  depth   : Nat
  missed  : Nat
  refused : Bool
  keeps   : Bool
  deriving DecidableEq, Repr

/-- The duplicate state of one KIND of a SRC (R624): H, the accepted values below H (bit i stands for H - 1 - i), and for the
sequence numbers accepted the ports on which the frame has been sent (R623). -/
structure Dup where
  kind : Nat
  high : Nat
  mask : Nat
  sent : List (Nat × Nat)
  deriving DecidableEq, Repr

/-- What is kept of a SRC (R624, R649): its learned port, the duplicate state of its kinds, and when it expires. -/
structure Peer where
  src  : Nat
  port : Nat
  ends : Nat
  dups : List Dup
  deriving DecidableEq, Repr

/-- A signal that waits for the next cycle start, and the LOOP cycle in which its delivery completed (R629). -/
structure Waiting where
  signal : Nat
  index  : Nat
  sub    : Nat
  value  : Word
  loop   : Nat
  deriving DecidableEq, Repr

/-- A frame that waits at an egress port for the frames before it (R621): port, class, the frame, and whether it will end with the inverted
FCS (R594). -/
structure Egress where
  port  : Nat
  cls   : Nat
  frame : Frame
  bad   : Bool
  deriving DecidableEq, Repr

/-- What the block gives to the outside. -/
inductive Out where
  | reply (dest : Requester) (trans : Nat) (r : Reply)
  /-- a SYNC_OUT pulse: the VCO cycles at which its rising and its falling edge leave (R288, R321) -/
  | syncOut (rise fall : Nat)
  /-- a fabric frame that leaves on a port; with `bad` it ends with the inverted FCS (R594, R599) -/
  | fabric (port : Nat) (frame : Frame) (bad : Bool)
  /-- a frame sent on a CAN channel -/
  | can (t : TxFrame)
  deriving DecidableEq, Repr

/-- No command of this block ends in a fault: every row of the table has an effect in every state (log entry 8). The one name
exists because a step's type has this outcome; nothing raises it. Safe. -/
inductive Fault where
  | none
  deriving DecidableEq, Repr

/-- Why a step refuses. `notModelled` names a row with no meaning yet; exec's arms alone raise it. Safe: nothing is claimed. -/
inductive Refusal where
  | notModelled (mnemonic : String)
  deriving DecidableEq, Repr

/-- The whole state. -/
structure State where
  /-- time in VCO cycles of 1/3 ns since manufacture (R107) -/
  now     : Nat
  /-- every parameter word by key, unlisted words at their reset value -/
  regs    : List (Nat × Word)
  /-- internal quantities, unlisted ones 0 -/
  vars    : List (Nat × Int)
  /-- end instants of open windows, unlisted windows closed -/
  timers  : List (Nat × Option Nat)
  module  : ModState
  stages  : Vector StageCtl 7
  causes  : List Cause
  /-- the faults raised in the present LOOP cycle (R58) -/
  cycleFaults : List CycleFault
  /-- faults whose reaction waits for the end of a warm restart (R545) -/
  deferred : List FaultEvt
  /-- the release buffer of pair S, oldest first (R537) -/
  release : List Protected
  /-- reports not yet written (R571) -/
  queue   : List Rec
  log     : Log
  kept    : List Kept
  challenges : List Challenge
  windows : List WinCtl
  /-- scheduled command edges, in the order of scheduling -/
  edges : List Edge
  /-- staging FIFOs of the four cores, oldest first -/
  dmaFifo : List DmaEntry
  /-- results of the cores that the comparators have not seen yet (R137, R326), oldest first -/
  pipe : List Sample
  /-- levels of the feedback inputs on their way to acceptance, in the order in which they appeared (R201) -/
  accepts : List Accept
  /-- bytes of the SRAM's sampling region by offset, unlisted bytes 0 -/
  sram : List Host.Cell
  /-- the runs of the four lanes, at most one per lane (R238) -/
  runs : List Run
  /-- reply windows of R88 and R90 -/
  denials : List Denial
  /-- commands held while pair S restarts (R544) -/
  held : List (Req × Svc)
  /-- the hand-over queue (R554) and the SPLIT_V or JOIN_V whose hand-over runs -/
  handQueue : List (Req × Svc)
  handCmd : Option (Req × Svc)
  /-- bytes of the key staging area, unlisted bytes 0 (R726) -/
  staging : List Host.Cell
  /-- bytes of the configuration key, unlisted bytes 0xFF -/
  keyMem : List Host.Cell
  /-- what the key answered at the start, the header of the selected slot, and the EARLY_CAN section read with it -/
  keyObs : KeyObs
  header : List Byte
  early : List Byte
  /-- the sections of the running image by TYPE, as SRAM holds them (R78) -/
  image : List (Nat × List Byte)
  /-- receive queue entries of all CAN channels in order of arrival; transmit FIFOs in order of entry; holding slots; the field
  values of the last frame of each on-change transmit entry; claims heard -/
  canRx : List CanEntry
  canTx : List TxFrame
  canHold : List TxFrame
  canLast : List (Nat × List Nat)
  canClaims : List Claim
  /-- duplicate state and learned ports; signals that wait for a cycle start; colony table and replies of the present round -/
  peers : List Peer
  waiting : List Waiting
  colony : List Node
  replies : List Node
  /-- frames queued at the fabric ports, in order of arrival (R621) -/
  egress : List Egress
  /-- what has been sent to the outside, in order -/
  out     : List Out
  /-- how many free values have been taken -/
  free    : Nat
  /-- the waiting commands, first in, first out -/
  pending : List Instr
  deriving DecidableEq, Repr

/-- What an unlisted internal quantity reads as. -/
def State.varReset (_ : Nat) : Int := 0

/-- What an unlisted byte of a RAM reads as (log entry 10). -/
def State.ramReset (_ : Nat) : Byte := 0

/-- An unlisted window is closed. -/
def State.timerReset (_ : Nat) : Option Nat := none

/-- What an unlisted byte of the configuration key reads as: erased flash (log entry 10). -/
def State.keyReset (_ : Nat) : Byte := 0xFF

/-- A key that answers nothing. -/
def noKey : KeyObs := { jedec := 0, sfdp := 0, capacity := 0, fast114 := false, fast112 := false, quad := none, blocked := false, contents := none }

/-- A stage after reset. -/
def StageCtl.reset : StageCtl :=
  { state := .stopped, stopping := false, storedStop := false, holds := [], derates := [], lastEvent := 0, reaction := 0 }

/-- The log of a module whose log has never held a record. -/
def Log.reset : Log :=
  { base := 0, recs := [], lostFull := 0, warned := false, clears := 0, staged := none }

/-- The machine as manufactured and unpowered: state OFF, every parameter word at its reset value, nothing open, queued or
stored (log entry 1 names the values the spec does not give). -/
def State.reset : State :=
  { now := 0, regs := [], vars := [], timers := [], module := .off, stages := Vector.replicate 7 StageCtl.reset,
    causes := [], cycleFaults := [], deferred := [], release := [], queue := [], log := Log.reset, kept := [], challenges := [],
    windows := [], edges := [], dmaFifo := [], pipe := [], accepts := [], sram := [], runs := [], denials := [], held := [], handQueue := [],
    handCmd := none, staging := [], keyMem := [], keyObs := noKey, header := [], early := [], image := [], canRx := [],
    canTx := [], canHold := [], canLast := [], canClaims := [], peers := [], waiting := [], colony := [], replies := [], egress := [],
    out := [], free := 0, pending := [] }

end Sys2Proof.Machine
end

