-- ==== Sys2Proof/Machine/Ops.lean ====
section
/-!
DEFINITION. The named operations every command is written with: reading and writing parameter fields, internal quantities and
windows; time; stages and their legs, channels, groups and cores (Table 1-2).
-/

namespace Sys2Proof

/-! ### Stages (Tables 1-2, 1-6) -/

/-- The position of a stage in the order T1, T2, L, P, D, X1, X2. -/
def Stage.idx : Stage → Nat
  | .T1 => 0 | .T2 => 1 | .L => 2 | .P => 3 | .D => 4 | .X1 => 5 | .X2 => 6

/-- The seven stages in order. -/
def Stage.all : List Stage := [.T1, .T2, .L, .P, .D, .X1, .X2]

/-- The stage of a field code 0-6. -/
def Stage.ofNat? (n : Nat) : Option Stage := Stage.all[n]?

/-- The first leg of a stage and how many legs it has. -/
def Stage.legBase : Stage → Nat
  | .T1 => 0 | .T2 => 6 | .L => 12 | .P => 18 | .D => 22 | .X1 => 26 | .X2 => 29
def Stage.legCount : Stage → Nat
  | .T1 => 6 | .T2 => 6 | .L => 6 | .P => 4 | .D => 4 | .X1 => 3 | .X2 => 3

/-- The legs of a stage in ascending number (R36). -/
def Stage.legs (t : Stage) : List Nat := List.range' t.legBase t.legCount

/-- The channels of a stage in ascending number (R35). -/
def Stage.chans (t : Stage) : List Nat := List.range' (2 * t.legBase) (2 * t.legCount)

/-- The stage of a leg. -/
def Stage.ofLeg (n : Nat) : Stage :=
  if n < 6 then .T1 else if n < 12 then .T2 else if n < 18 then .L else if n < 22 then .P
  else if n < 26 then .D else if n < 29 then .X1 else .X2

/-- The stage group 0-3 (SG1-SG4) of a stage. -/
def Stage.group : Stage → Nat
  | .T1 => 0 | .T2 => 1 | .L => 2 | .P => 2 | .D => 2 | .X1 => 3 | .X2 => 3

/-- The stages of a group. -/
def Stage.ofGroup (g : Nat) : List Stage := Stage.all.filter fun t => t.group == g

/-- The fast core of a stage (Table 1-2). -/
def Stage.core : Stage → Nat
  | .T1 => 0 | .T2 => 1 | .L => 2 | .P => 2 | .D => 3 | .X1 => 3 | .X2 => 3

/-- The stages of a fast core. -/
def Stage.ofCore (c : Nat) : List Stage := Stage.all.filter fun t => t.core == c

/-- A traction stage. -/
def Stage.isT : Stage → Bool
  | .T1 | .T2 => true
  | _ => false

/-- The stages that the bits of a mask name, bit 0 for T1. -/
def Stage.ofMask (m : Nat) : List Stage := Stage.all.filter fun t => m.testBit t.idx

end Sys2Proof

namespace Sys2Proof.Machine

/-- The code of a module state (Table 1-4). -/
def ModState.code : ModState → Nat
  | .off => 0 | .ship => 1 | .sleep => 2 | .starting => 3 | .unconfigured => 4 | .ready => 5 | .run => 6 | .service => 7
  | .safe => 8

/-- The code of a stage state (Table 1-6). -/
def StageState.code : StageState → Nat
  | .stopped => 0 | .armed => 1 | .running => 2 | .hold => 3 | .safe => 4

/-- ARMED, RUNNING or HOLD: the stage is in use. -/
def StageState.isActive : StageState → Bool
  | .armed | .running | .hold => true
  | _ => false

/-- RUNNING or HOLD: edges are issued. -/
def StageState.isRunning : StageState → Bool
  | .running | .hold => true
  | _ => false

/-! ### Words and fields -/

/-- The word at a key. -/
def State.word (s : State) (key : Nat) : Word := Store.get Map.reset s.regs key

/-- Write the word at a key. -/
def State.setWord (s : State) (key : Nat) (w : Word) : State := { s with regs := Store.set Map.reset s.regs key w }

/-- A field's value, unsigned. -/
def State.f (s : State) (f : Fld) (n : Nat := 0) (j : Nat := 0) : Nat := bits (s.word (f.key n j)).toNat f.hi f.lo

/-- A field's value, signed. -/
def State.fi (s : State) (f : Fld) (n : Nat := 0) (j : Nat := 0) : Int := toSigned f.width (s.f f n j)

/-- A one-bit field that is set. -/
def State.fb (s : State) (f : Fld) (n : Nat := 0) (j : Nat := 0) : Bool := s.f f n j != 0

/-- Write a field, modulo its width. -/
def State.setF (s : State) (f : Fld) (n : Nat) (v : Int) (j : Nat := 0) : State :=
  s.setWord (f.key n j) (BitVec.ofNat 32 (putBits (s.word (f.key n j)).toNat f.hi f.lo (wrap f.width v)))

/-- Write a one-bit field. -/
def State.setFb (s : State) (f : Fld) (n : Nat) (b : Bool) (j : Nat := 0) : State := s.setF f n (if b then 1 else 0) j

/-- Count up in a field that saturates at its largest value. -/
def State.addF (s : State) (f : Fld) (n : Nat) (d : Nat := 1) (j : Nat := 0) : State :=
  s.setF f n (min (s.f f n j + d) (2 ^ f.width - 1) : Nat) j

/-- Count up in a field that wraps. -/
def State.wrapF (s : State) (f : Fld) (n : Nat) (d : Nat := 1) (j : Nat := 0) : State := s.setF f n (s.f f n j + d : Nat) j

/-! ### Internal quantities and windows -/

/-- An internal quantity. -/
def State.v (s : State) (x : Var) (i : Nat := 0) : Int := Store.get State.varReset s.vars (x.key i)

/-- An internal quantity that is never negative. -/
def State.vn (s : State) (x : Var) (i : Nat := 0) : Nat := (s.v x i).toNat

/-- A latch that is set. -/
def State.on (s : State) (x : Var) (i : Nat := 0) : Bool := s.v x i != 0

/-- Write an internal quantity. -/
def State.setV (s : State) (x : Var) (i : Nat) (v : Int) : State :=
  { s with vars := Store.set State.varReset s.vars (x.key i) v }

/-- Write a latch. -/
def State.setOn (s : State) (x : Var) (i : Nat) (b : Bool) : State := s.setV x i (if b then 1 else 0)

/-- Add to an internal quantity. -/
def State.addV (s : State) (x : Var) (i : Nat) (d : Int) : State := s.setV x i (s.v x i + d)

/-- Count up in an internal 32-bit counter that saturates. -/
def State.countV (s : State) (x : Var) (i : Nat) : State := s.setV x i (min (s.vn x i + 1) 0xFFFFFFFF : Nat)

/-- The end instant of an open window. -/
def State.due (s : State) (t : Timer) (i : Nat := 0) : Option Nat := Store.get State.timerReset s.timers (t.key i)

/-- The window is open. -/
def State.isOpen (s : State) (t : Timer) (i : Nat := 0) : Bool := (s.due t i).isSome

/-- Open a window that ends at an instant, or close it. -/
def State.setDue (s : State) (t : Timer) (i : Nat) (e : Option Nat) : State :=
  { s with timers := Store.set State.timerReset s.timers (t.key i) e }

/-- Close a window. -/
def State.close (s : State) (t : Timer) (i : Nat := 0) : State := s.setDue t i none

/-! ### Time (R107): one instant counts VCO cycles of 1/3 ns -/

def Clk.core : Nat := 5
def Clk.pulse : Nat := 10
def Clk.loop : Nat := 15
def Clk.sample : Nat := 20
def Clk.link : Nat := 24
def Clk.bus : Nat := 75
def Clk.slow : Nat := 3000

/-- The SAMPLE cycle of an instant. -/
def sampleCycle (t : Nat) : Nat := t / Clk.sample

/-- The SAMPLE cycle in which a carrier event becomes visible: two after the first SAMPLE edge at or after it (R153). -/
def visibleAt (t : Nat) : Nat := divUp t Clk.sample + 2

/-- Lengths of time in VCO cycles. -/
def us (n : Nat) : Nat := 3000 * n
def ms (n : Nat) : Nat := 3000000 * n
def sec (n : Nat) : Nat := 3000000000 * n

/-- Open a window of a length, measured by a clock: it starts at the edge that opens the cycle of the event (R32). -/
def State.openBy (s : State) (clk : Nat) (t : Timer) (i : Nat) (len : Nat) : State :=
  s.setDue t i (some (s.now / clk * clk + len))

/-- A window of SLOW cycles. -/
def State.openSlow (s : State) (t : Timer) (i : Nat) (len : Nat) : State := s.openBy Clk.slow t i len

/-- A window of LOOP cycles. -/
def State.openLoop (s : State) (t : Timer) (i : Nat) (len : Nat) : State := s.openBy Clk.loop t i len

/-- The condition of a window clears at an instant: the window closes, unless its end instant lies in that cycle of its clock or before it,
which is too late (R33). -/
def State.lapseAt (s : State) (clk at' : Nat) (t : Timer) (i : Nat := 0) : State :=
  match s.due t i with
  | some e => if e / clk ≤ at' / clk then s else s.close t i
  | none => s

/-- The condition of a window clears now. -/
def State.lapse (s : State) (clk : Nat) (t : Timer) (i : Nat := 0) : State := s.lapseAt clk s.now t i

/-- The end instant of a window lies in the present cycle of its clock or before it: its reaction takes place (R33). -/
def State.ended (s : State) (clk : Nat) (t : Timer) (i : Nat := 0) : Bool :=
  match s.due t i with
  | some e => Decidable.decide (e / clk ≤ s.now / clk)
  | none => false

/-- The expiry of a window: time advances to its end instant, the window closes, and its effect follows. Nothing happens when
the window is not open (log entry 9). -/
def State.expire (s : State) (t : Timer) (i : Nat) (k : State → State) : State :=
  match s.due t i with
  | none => s
  | some e => k { (s.close t i) with now := max s.now e }

/-- Apply an operation once for each element of a list, in order. -/
def State.each {α : Type} (s : State) (l : List α) (k : State → α → State) : State := l.foldl k s

/-- Apply an operation when a condition holds. -/
def State.when (s : State) (b : Bool) (k : State → State) : State := if b then k s else s

/-- Take the next free value (log entry 3). -/
def State.takeFree (s : State) : Int × State := (Config.freeValue s.free, { s with free := s.free + 1 })

/-- Give something to the outside. -/
def State.emit (s : State) (o : Out) : State := { s with out := s.out ++ [o] }

/-! ### What shares a LOOP cycle (R25, R50, R58) -/

/-- The number of the LOOP cycle of the present instant, from 1. -/
def State.loopNo (s : State) : Nat := s.now / Clk.loop + 1

/-- The rank under R50 of the highest event on which a stage has acted in the present LOOP cycle, 8 where there is none: 1 a SAFE cause,
2 the hold limit, 3 a fault with reaction STOP, 4 a STOP command, 5 entry to HOLD, 6 RUN, 7 ARM. -/
def State.rankNow (s : State) (t : Stage) : Nat := if s.vn .rankAt t.idx = s.loopNo then s.vn .rankOf t.idx else 8

/-- The highest reaction code carried out on a stage in the present LOOP cycle (R58). -/
def State.topNow (s : State) (t : Stage) : Nat := if s.vn .rankAt t.idx = s.loopNo then s.vn .rankTop t.idx else 0

/-- A stage acts on an event of a rank, with a reaction code where it is a fault's. -/
def State.setRank (s : State) (t : Stage) (rank : Nat) (reaction : Nat := 0) : State :=
  let r := min rank (s.rankNow t)
  let k := max reaction (s.topNow t)
  ((s.setV .rankAt t.idx s.loopNo).setV .rankOf t.idx r).setV .rankTop t.idx k

/-- Hardware sets bits of a W1C word; the cycle is kept, since a host's 1 of the same cycle does not clear them (R25). -/
def State.setW1c (s : State) (f : Fld) (n : Nat) (v : Nat) (j : Nat := 0) : State :=
  let i := f.key n j % 65536
  let new := v * 2 ^ f.lo
  let old := if s.vn .w1cAt i = s.loopNo then s.vn .w1cBits i else 0
  let s := s.setF f n (s.f f n j ||| v : Nat) j
  (s.setV .w1cAt i s.loopNo).setV .w1cBits i (old ||| new : Nat)

/-- The bits of a W1C word that hardware has set in the present cycle. -/
def State.w1cHeld (s : State) (key : Nat) : Nat :=
  if s.vn .w1cAt (key % 65536) = s.loopNo then s.vn .w1cBits (key % 65536) else 0

/-! ### The read sets of the accumulators (R159, R163) -/

/-- Word j (1 AVG, 2 STATUS, 3 SUM_LO, 4 SUM_HI, 5 LATCH_NO) of the read set of an accumulator that shows in SAMPLE cycle n, where a set shows
d cycles after its latch. -/
def State.accSet (s : State) (a j n d : Nat) : Word :=
  if s.vn .accAt a + d ≤ n then s.word (Reg.SMP_ACC_AVG.key a (j - 1))
  else if s.vn .accAtOld a + d ≤ n then BitVec.ofNat 32 (s.vn .accOld (a * 8 + j))
  else BitVec.ofNat 32 (s.vn .accOlder (a * 8 + j))

/-- A word of an accumulator as a read of it alone shows it: 40 cycles after the latch, AVG 44 cycles after it (R159). -/
def State.accWord (s : State) (a j n : Nat) : Word := s.accSet a j n (if j = 1 then 44 else 40)

/-- AVG of an accumulator as the engine reads it now; with it the engine reads the read set that AVG belongs to (R163). -/
def State.accAvg (s : State) (a : Nat) : Int := (s.accSet a 1 (sampleCycle s.now) 44).toInt

/-- That read set is STALE. -/
def State.accStale (s : State) (a : Nat) : Bool := (s.accSet a 2 (sampleCycle s.now) 44).toNat.testBit 20

/-! ### Stage records -/

/-- What is kept of a stage. -/
def State.stg (s : State) (t : Stage) : StageCtl := s.stages.toList.getD t.idx StageCtl.reset

/-- Replace what is kept of a stage. -/
def State.setStg (s : State) (t : Stage) (c : StageCtl) : State := { s with stages := s.stages.setIfInBounds t.idx c }

/-- A stage's state. -/
def State.st (s : State) (t : Stage) : StageState := (s.stg t).state

/-- Some stage is ARMED, RUNNING or HOLD. -/
def State.anyActive (s : State) : Bool := Stage.all.any fun t => (s.st t).isActive

/-- Every stage is STOPPED. -/
def State.allStopped (s : State) : Bool := Stage.all.all fun t => s.st t == .stopped

/-- Every stage is STOPPED or SAFE. -/
def State.allIdle (s : State) : Bool := Stage.all.all fun t => s.st t == .stopped || s.st t == .safe

/-- The module is powered and past OFF, SHIP and SLEEP. -/
def State.powered (s : State) : Bool := 3 ≤ s.module.code

/-- Pair S is restarting or stopped: its own reactions wait (R545, R549). -/
def State.sBusy (s : State) : Bool := s.f Reg.CORE_STATUS_S_STATE == 1 || s.f Reg.CORE_STATUS_S_STATE == 3

end Sys2Proof.Machine
end

