-- ==== Sys2Proof/Machine/Flags.lean ====
section
/-!
DEFINITION. The flags: the four parts of a report (R53) with the record queue and the rate limits (R571 to R577), causes and
latches behind STATE.FAULT (R713), and ATTN (R718, R719).
-/

namespace Sys2Proof.Machine

/-! ### Reports (R53, R563, R571, R573, R574, R577, R714) -/

/-- The degraded flags of R59 as one word (Table 21-8). Pair S runs without its masking from a mismatch until a warm restart completes,
the one that has failed under R549 included. -/
def State.degradedWord (s : State) : Nat :=
  (if s.fb Reg.SMP_CORE_STATUS_DEGRADED 0 then 1 else 0) + (if s.fb Reg.SMP_CORE_STATUS_DEGRADED 1 then 2 else 0)
  + (if s.fb Reg.SMP_CORE_STATUS_DEGRADED 2 then 4 else 0) + (if s.fb Reg.SMP_CORE_STATUS_DEGRADED 3 then 8 else 0)
  + (if s.fb Reg.FO_STATUS_DEGRADED then 16 else 0) + (if s.fb Reg.FAB_CYCLE_STATUS_RING_BROKEN then 32 else 0)
  + (if s.f Reg.CORE_STATUS_S_STATE == 1 || s.f Reg.CORE_STATUS_S_STATE == 3 then 64 else 0)

/-- The LOG.RATE entry that names a code (R573). -/
def State.rateEntry (s : State) (code : Nat) : Option Nat :=
  (List.range 64).find? fun e => code != 0 && s.f Reg.LOG_RATE_CODE e == code

/-- The capacity of a code's bucket (R573). -/
def State.burst (s : State) (code : Nat) : Nat :=
  match s.rateEntry code with
  | some e => s.f Reg.LOG_RATE_BURST e
  | none => s.f Reg.LOG_CFG_BURST

/-- Codes whose records are always exempt (R574). -/
def Ev.alwaysExempt (code : Nat) : Bool :=
  code == Ev.LOG_CLEARED || code == Ev.LOG_FILL_WARN || code == Ev.LOG_FULL || code == Ev.VAUX_LOST

/-- What a report names: its code, stage (7: the module), reaction code, group tag, whether a record of its group is exempt, and
its DETAIL words. -/
structure RepArg where
  code     : Nat
  src      : Nat := 7
  reaction : Nat := 0
  group    : Nat := 0
  exempt   : Bool := false
  d0       : Nat := 0
  d1       : Nat := 0
  d2       : Nat := 0

/-- A report is exempt under R574. -/
def RepArg.isExempt (a : RepArg) : Bool := (2 ≤ a.reaction && a.reaction ≤ 7) || a.exempt || Ev.alwaysExempt a.code

/-- The record of a report (Table 16-1); its sequence number is given when it is written. -/
def State.mkRec (s : State) (a : RepArg) : Rec :=
  { seq := 0, code := a.code, stage := a.src, exempt := a.isExempt, reaction := a.reaction, modState := s.module.code,
    stgState := (match Stage.ofNat? a.src with
      | some t => (s.st t).code
      | none => 7),
    degraded := s.degradedWord != 0, group := a.group, startNo := s.f Reg.ID_STARTS % 65536,
    suppressed := min (s.vn .suppressed a.code) 65535,
    d0 := a.d0 % 2 ^ 32, d1 := a.d1 % 2 ^ 32, d2 := a.d2 % 2 ^ 32, corrupt := false }

/-- The STATE.SEEN bit of a code is set at every report of it (R714). -/
def State.markSeen (s : State) (code : Nat) : State :=
  s.setW1c Reg.STATE_SEEN_EVENTS (Ev.w code) (2 ^ Ev.b code)

/-- A report at the end instant of a refill window finds the token of that instant, whether or not TOKEN_REFILL has come before it (R573). -/
def State.refilled (s : State) (code : Nat) : State := match s.due .refill code with
  | some e =>
    if e ≤ s.now && s.vn .refillTaken code != e then
      (s.setV .tokensUsed code (max 0 (s.v .tokensUsed code - 1))).setV .refillTaken code (e : Nat)
    else s
  | none => s

/-- A record of a report takes a token and enters the queue, or is suppressed (R573), or is lost to a full queue (R551). -/
def State.admitRec (s : State) (a : RepArg) (r : Rec) : State :=
  if !a.isExempt && s.burst a.code ≤ s.vn .tokensUsed a.code then
    (s.addV .suppressed a.code 1).addF Reg.LOG_COUNTERS 1
  else if 256 ≤ s.queue.length then (s.addV .reportsLost 0 1).addF Reg.CORE_COUNTERS 8
  else
    let s := { s with queue := s.queue ++ [r] }
    let s := s.setV .suppressed a.code 0
    let s := s.when (!a.isExempt) fun s => s.addV .tokensUsed a.code 1
    s.setF Reg.LOG_COUNTERS 4 (max (s.f Reg.LOG_COUNTERS 4) s.queue.length : Nat)

/-- The record of a report enters the queue (R571), is suppressed (R573), is counted as lost to a full log (R577) or to a full
queue (R551), or is discarded after VAUX_LOST (R572); a module without power reports nothing. -/
def State.enqueue (s : State) (a : RepArg) : State :=
  if s.on .dying || !s.powered then s
  else if s.on .logFull && !s.on .clearing then { s with log := { s.log with lostFull := s.log.lostFull + 1 } }
  else (if a.isExempt then s else s.refilled a.code).admitRec a (s.mkRec a)

/-- A report: its STATE.SEEN bit and its record (R53). ATTN and the SUMMARY fault field follow from the state. -/
def State.report (s : State) (a : RepArg) : State := (s.markSeen a.code).enqueue a

/-- A report with reaction 0x0 of the module. -/
def State.note (s : State) (code : Nat) (d0 : Nat := 0) (d1 : Nat := 0) (d2 : Nat := 0) : State :=
  s.report { code := code, d0 := d0, d1 := d1, d2 := d2 }

/-- A report with reaction 0x0 that names a stage. -/
def State.noteAt (s : State) (code : Nat) (t : Stage) (d0 : Nat := 0) (d1 : Nat := 0) (d2 : Nat := 0) : State :=
  s.report { code := code, src := t.idx, d0 := d0, d1 := d1, d2 := d2 }

/-- The next group tag: never 0, after 0xFFFF comes 0x0001 (R567). -/
def State.nextTag (s : State) : Nat × State :=
  let t := if 65535 ≤ s.vn .groupTag then 1 else s.vn .groupTag + 1
  (t, s.setV .groupTag 0 t)

/-! ### The release buffer (R536, R537) -/

/-- The instant at which the signature window of a write of pair S is compared: windows of 64 CORE cycles count from the first common SLOW
edge after PLL lock, and the comparator reports four cycles after the end of one (R536). -/
def State.comparedAt (s : State) (t : Nat) : Nat :=
  let base := s.vn .sampleBase * Clk.sample
  base + ((t - base) / (64 * Clk.core) + 1) * (64 * Clk.core) + 4 * Clk.core

/-- A write of pair S to a protected output passes through the release buffer: it waits there for the comparison of its window, and the
main core stalls while 32 entries wait (R537). The effect on the output is shown at once (log entry 191). -/
def State.protect (s : State) (out : ProtOut) (old : Nat) : State :=
  if s.f Reg.CORE_STATUS_S_STATE != 0 || !s.powered then s
  else
    let wait := s.release.filter fun p => s.now < p.due
    let (t, wait) := if wait.length < 32 then (s.now, wait) else match wait with
      | [] => (s.now, [])
      | p :: _ => (p.due, wait.filter fun q => p.due < q.due)
    let s : State := { s with release := wait ++ [{ due := s.comparedAt t, out := out, old := old }] }
    s.setF Reg.CORE_STATUS_BUF_MAX 0 (max (s.f Reg.CORE_STATUS_BUF_MAX) s.release.length : Nat)

/-- A state of a stage as an entry of the release buffer keeps it: its code, and 8 more within its stop sequence. -/
def StageCtl.mark (c : StageCtl) : Nat := c.state.code + (if c.stopping then 8 else 0)

/-- A command of pair S to a stage. -/
def State.protectStage (s : State) (t : Stage) : State := s.protect (.stage t) (s.stg t).mark

/-! ### Causes and latches (R713) -/

/-- A cause whose STATE.FAULT bit is still set. -/
def Cause.alive (c : Cause) : Bool := c.present || !c.stages.isEmpty || c.nextStart

/-- The cause of a code and instance is present. -/
def State.present (s : State) (code : Nat) (inst : Nat := 0) : Bool :=
  s.causes.any fun c => c.code == code && c.inst == inst && c.present

/-- The causes that the recorder shows by itself: the log at FILL_WARN, the full log, a corrupt record in the log (R570, R576, R577). -/
def State.logCause (s : State) (code : Nat) : Bool :=
  if code == Ev.LOG_FILL_WARN then s.on .fillWarn
  else if code == Ev.LOG_FULL then s.on .logFull
  else if code == Ev.CORRUPT_RECORD then s.log.recs.any Rec.corrupt
  else false

/-- The STATE.FAULT bit of a code (R713). -/
def State.faultBit (s : State) (code : Nat) : Bool :=
  s.logCause code || s.causes.any fun c => c.code == code && c.alive

/-- The STATE.FAULT bit of a code for one instance. -/
def State.faultAt (s : State) (code inst : Nat) : Bool :=
  s.causes.any fun c => c.code == code && c.inst == inst && c.alive

/-- Change the entry of a code and instance, which is created when it is absent, and drop it when nothing is left of it. -/
def State.updCause (s : State) (code inst : Nat) (k : Cause → Cause) : State :=
  let old := (s.causes.find? fun c => c.code == code && c.inst == inst).getD
    { code := code, inst := inst, present := false, transient := false, stages := [], nextStart := false }
  let rest := s.causes.filter fun c => !(c.code == code && c.inst == inst)
  let new := k old
  { s with causes := if new.alive then rest ++ [new] else rest }

/-- Stages whose entry to STOPPED the latch of a fault waits for. -/
def State.latchStages (s : State) (code inst : Nat) (l : List Stage) : State :=
  s.updCause code inst fun c => { c with stages := (c.stages ++ l).dedup }

/-- The fault's cause is present; it may end with this SLOW cycle. -/
def State.setCause (s : State) (code inst : Nat) (transient : Bool) : State :=
  s.updCause code inst fun c => { c with present := true, transient := transient }

/-- A report with reaction 0x0 of the module, or of a stage, whose cause lasts until the way back of its event table (R713). -/
def State.noteLasting (s : State) (code inst : Nat) (d0 : Nat := 0) (d1 : Nat := 0) (d2 : Nat := 0) : State :=
  (s.note code d0 d1 d2).setCause code inst false
def State.noteLastingAt (s : State) (code : Nat) (t : Stage) : State := (s.noteAt code t).setCause code 0 false

/-- The cause of such a report ends; it has no reaction to restore. -/
def State.noteEnds (s : State) (code : Nat) (inst : Nat := 0) : State :=
  s.updCause code inst fun c => { c with present := false, transient := false }

/-- A report with reaction 0x0 whose way back is the next start (R713). -/
def State.noteUntilStart (s : State) (code inst : Nat) (d0 : Nat := 0) (d1 : Nat := 0) (d2 : Nat := 0) : State :=
  (s.note code d0 d1 d2).updCause code inst fun c => { c with nextStart := true }

/-- A stage entered STOPPED: the latches that waited for it lose it (R713). -/
def State.releaseLatches (s : State) (t : Stage) : State :=
  { s with causes := (s.causes.map fun c => { c with stages := c.stages.filter (· != t) }).filter Cause.alive }

/-! ### ATTN (R718 to R720) -/

/-- Bit w of SUBSYS: a masked STATE.FAULT bit, or with USE_SEEN a masked STATE.SEEN bit, of word w, the charger for w = 9, the log
for w = 14 (R718 items 2 to 4). -/
def State.attnSubsys (s : State) (w : Nat) : Bool :=
  let mask := s.f Reg.ATTN_MASK_MASK w
  s.causes.any (fun c => c.alive && Ev.w c.code == w && mask.testBit (Ev.b c.code))
  || [Ev.LOG_FILL_WARN, Ev.LOG_FULL, Ev.CORRUPT_RECORD].any (fun e => s.logCause e && Ev.w e == w && mask.testBit (Ev.b e))
  || (s.fb Reg.ATTN_CFG_USE_SEEN && (mask &&& s.f Reg.STATE_SEEN_EVENTS w) != 0)
  || (w == 9 && s.fb Reg.CHG_STATUS_ATTN)
  || (w == 14 && ((s.on .fillWarn && (s.f Reg.LOG_CFG_ATTN_MASK).testBit 0)
      || (s.on .logFull && (s.f Reg.LOG_CFG_ATTN_MASK).testBit 1)))

/-- A condition of R718 holds; none does while the output is unpowered (R720). -/
def State.attnCond (s : State) : Bool :=
  s.powered &&
  (s.module == .starting || s.module == .unconfigured
   || (List.range 18).any s.attnSubsys
   || (s.fb Reg.ATTN_CFG_SAFE_ATTN && s.module == .safe)
   || (s.fb Reg.ATTN_CFG_DEGRADED_ATTN && s.degradedWord != 0))

/-- ATTN follows its conditions (R719): it is asserted when one holds, with a window of MIN_ASSERT, and releases when none holds
and the window is over; it does not conduct in OFF, SHIP and SLEEP (R720). -/
def State.attnSync (s : State) : State :=
  if !s.powered then (s.setOn .attn 0 false).close .attnHold
  else if s.attnCond then
    if s.on .attn then s
    else
      let s := s.setOn .attn 0 true
      if s.f Reg.ATTN_CFG_MIN_ASSERT == 0 then s else s.openSlow .attnHold 0 (ms (s.f Reg.ATTN_CFG_MIN_ASSERT))
  else match s.due .attnHold with
    | some e => if s.now < e then s else (s.setOn .attn 0 false).close .attnHold
    | none => s.setOn .attn 0 false

/-! ### The sleep idle window (R96) -/

/-- The sleep idle window runs only in READY with every stage STOPPED, and not while KEY_WRITE runs or an entry sequence is under way. -/
def State.idleSync (s : State) : State :=
  let writing := 1 ≤ s.f Reg.START_KEY_WRITE_STATUS_STATE && s.f Reg.START_KEY_WRITE_STATUS_STATE ≤ 5
  if s.f Reg.START_SLEEP_IDLE == 0 then s
  else if s.module == .ready && s.allStopped && !writing && !s.on .entering then
    (if s.isOpen .sleepIdle then s else s.openSlow .sleepIdle 0 (sec (s.f Reg.START_SLEEP_IDLE)))
  else s.close .sleepIdle

/-- The end of every command: the next state, with the sleep idle window and ATTN following their conditions. -/
def done (s : State) : Host.Outcome State Fault Refusal := .next s.idleSync.attnSync

end Sys2Proof.Machine
end

