-- ==== Sys2Proof/Machine/Snapshot.lean ====
section
/-!
DEFINITION. Byte order, the CRC-16 of R564, and the snapshots of stage L and of the charger (Tables 11-7, 12-8; R417, R418, R457).
-/

namespace Sys2Proof.Machine

/-- The low k bytes of a number, the least significant first (R8, R68). -/
def le (k : Nat) (x : Int) : List Byte := (List.range k).map fun i => BitVec.ofNat 8 (wrap (8 * k) x / 2 ^ (8 * i))

/-- The number that bytes spell, the least significant first. -/
def ofLe (l : List Byte) : Nat := l.foldr (fun b a => b.toNat + 256 * a) 0

/-- The 32-bit words that bytes spell, four bytes each, the last one padded with zero. -/
def wordsLe : List Byte → List Nat
  | a :: b :: c :: d :: l => ofLe [a, b, c, d] :: wordsLe l
  | [] => []
  | l => [ofLe l]

/-- One bit of a CRC-16 with polynomial 0x1021. -/
def crc16Bit (c : Nat) : Nat := if c / 32768 % 2 = 1 then (c * 2 % 65536) ^^^ 0x1021 else c * 2 % 65536

/-- One byte. -/
def crc16Byte (c : Nat) (b : Byte) : Nat := (List.range 8).foldl (fun c _ => crc16Bit c) (c ^^^ b.toNat * 256)

/-- CRC-16: polynomial 0x1021, initial value 0xFFFF, no reflection, no final XOR (R564). -/
def crc16 (l : List Byte) : Nat := l.foldl crc16Byte 0xFFFF

/-- Tenths and thousandths of a quantity in 2^-16 units. -/
def tenths (x : Int) : Int := divOpen (x * 10) 65536
def thousandths (x : Int) : Int := divOpen (x * 1000) 65536

/-- The sequence number of the last queued report. -/
def State.lastSeq (s : State) : Nat := s.log.base + s.log.recs.length + s.queue.length - 1

/-- PULSE cycles since the start. -/
def State.pulseCount (s : State) : Nat := (s.now - s.vn .startAt) / Clk.pulse

/-- A capture of a kind may be taken: none in the last 1 ms (R418). -/
def State.snapFree (s : State) (k : Nat) : Bool := match s.due .snapWin k with
  | some e => e ≤ s.now
  | none => true

/-- Write a snapshot of 62 bytes and its CRC into 16 words over the older copy of its kind, which `i` numbers: what was the newer one becomes
the older (R418). -/
def State.snapWrite (s : State) (f : Fld) (k i : Nat) (l : List Byte) : State :=
  let s := s.each (List.range 16) fun s j => s.setV .snapOld (16 * i + j) (s.f f k j : Nat)
  s.each (wordsLe (l ++ le 2 (crc16 l))).zipIdx fun s x => s.setF f k x.1 x.2

/-- PULSE.SYNC_IN_PERIOD: the last SYNC_IN period in sub-steps, 0 when no edge has come for 50 us (Table 8-7). -/
def State.syncInPeriod (s : State) : Nat :=
  if s.now * 32 / 5 < s.vn .syncEdge + s.f Reg.PULSE_SYNC_IN_COMP + 960000 then s.f Reg.PULSE_SYNC_IN_PERIOD else 0

/-- Capture a snapshot of stage L for the record with a sequence number (Table 11-7). -/
def State.linkSnapOf (s : State) (k detail seq : Nat) : State :=
  if s.snapFree k then
    let before := s.vn .snapBefore
    let head := le 6 seq ++ le 1 k ++ le 1 (before % 16 + 16 * s.f Reg.LINK_STATUS_STATE)
      ++ le 1 (before / 16 + 16 * s.f Reg.LINK_STATUS_PHASES)
      ++ le 1 (s.f Reg.PULSE_STATUS_MODE 2 + 4 * s.f Reg.LINK_STATUS_BUCK + 8 * s.f Reg.LINK_STATUS_LOCKED
        + 16 * s.f Reg.LINK_STATUS_CLIM)
      ++ le 2 (s.f Reg.LINK_STATUS_HICCUPS) ++ le 4 s.pulseCount
    let meas := le 2 (tenths (s.v .regLink)) ++ le 2 (tenths (s.v .regBatt)) ++ le 2 (tenths (s.v .regSet)) ++ le 2 0
      ++ le 4 (thousandths (s.v .regIref))
      ++ (List.range 6).flatMap (fun j => le 2 (s.accAvg (64 + s.f Reg.LINK_INPUTS j)))
    let tail := le 2 (tenths (s.v .regE 1)) ++ le 2 (tenths (s.v .regE 2)) ++ le 4 (thousandths (s.v .regC 1))
      ++ le 4 (s.f Reg.PULSE_PERIOD_NOW 2) ++ le 4 s.syncInPeriod ++ le 2 detail
      ++ le 2 (min 65535 (s.vn .snapUpd)) ++ le 2 0
    let s := s.snapWrite Reg.LINK_SNAP k k (head ++ meas ++ tail)
    (s.setF Reg.LINK_SNAP_VALID 0 (s.f Reg.LINK_SNAP_VALID ||| 2 ^ k : Nat)).openSlow .snapWin k (ms 1)
  else s.addF Reg.LINK_COUNTERS 8

/-- What a snapshot calls the state before: the present state, its switching legs and its updates (Table 11-7). -/
def State.snapFrom (s : State) : State :=
  (s.setV .snapBefore 0 (s.f Reg.LINK_STATUS_STATE + 16 * s.f Reg.LINK_STATUS_PHASES : Nat)).setV .snapUpd 0 (s.v .regUpd)

/-- Capture a snapshot of stage L for the last record: at the end of an update that is in progress, otherwise at once (R389, R418). -/
def State.linkSnap (s : State) (k detail : Nat) : State :=
  if s.on .regIn then (s.setV .snapDue k (detail + 1 : Nat)).setV .snapSeq k (s.lastSeq : Nat) else s.linkSnapOf k detail s.lastSeq

/-- Step 8 of an update: the snapshots due are captured, with the values of this update (R389, R418). -/
def State.snapsDue (s : State) : State :=
  s.each (List.range 6) fun s k =>
    if s.on .snapDue k then (s.linkSnapOf k (s.vn .snapDue k - 1) (s.vn .snapSeq k)).setV .snapDue k 0 else s

/-- Capture a snapshot of the charger (Table 12-8); `before` is the power path state before. -/
def State.chgSnap (s : State) (k before detail : Nat) : State :=
  if s.snapFree (8 + k) then
    let head := le 6 s.lastSeq ++ le 1 k ++ le 1 (before + 8 * s.f Reg.CHG_STATUS_PP_STATE)
      ++ le 1 (s.f Reg.CHG_STATUS_CHG_STATE + 4 * s.f Reg.CHG_STATUS_LAST_END)
      ++ le 1 (s.f Reg.CHG_STATUS_QUALIFIED + 2 * s.f Reg.CHG_STATUS_VREG + 4 * s.f Reg.CHG_STATUS_THERMAL
        + 8 * s.f Reg.CHG_STATUS_HALF + 16 * s.f Reg.CHG_STATUS_BACKOFF)
      ++ le 2 detail ++ le 4 s.pulseCount
    let meas := (List.range 3).flatMap (fun j => le 2 (s.f Reg.CHG_MEAS j)) ++ le 2 (s.vn .chgLen)
      ++ le 2 (tenths (s.v .chgLink)) ++ le 2 (tenths (s.v .chgTarget)) ++ le 2 (tenths (s.v .batU)) ++ le 2 (tenths (s.v .batI))
      ++ le 4 (divOpen (s.v .chgPlim) 65536) ++ le 4 (divOpen (s.v .chgPvreg) 65536) ++ le 4 (divOpen (s.v .chgPin) 65536)
    let age := if s.on .bmsAt then min 65535 ((s.now - s.vn .bmsAt) / ms 1) else 65535
    let tail := le 4 (thousandths (s.v .regIref)) ++ le 4 (s.vn .chgCount) ++ le 2 (divOpen (s.v .batShift) 32768)
      ++ le 2 (tenths (s.v .batIcc)) ++ le 2 (tenths (s.v .batVcv)) ++ le 2 age ++ le 2 0
    let s := s.snapWrite Reg.CHG_SNAP k (8 + k) (head ++ meas ++ tail)
    (s.setF Reg.CHG_SNAP_VALID 0 (s.f Reg.CHG_SNAP_VALID ||| 2 ^ k : Nat)).openSlow .snapWin (8 + k) (ms 1)
  else s.addF Reg.CHG_COUNTERS 7

end Sys2Proof.Machine
end

