-- ==== Sys2Proof/Machine/Stages.lean ====
section
/-!
DEFINITION. The state machines of the module and of its stages (Tables 1-5, 1-7), the safe outputs (R370, R371), HOLD and its
causes (R48 to R50), and carrying out the reactions of Table 1-8 for one fault or for several of one cycle (R54 to R58, R545,
R713, R758).
-/

namespace Sys2Proof.Machine

/-- The sub-step at which a VCO cycle begins: a PULSE cycle has 10 VCO cycles and 64 sub-steps. -/
def subOf (v : Nat) : Nat := v * 32 / 5

/-! ### Outputs of a stage -/

/-- A record of an engine's state is written (R331): during the copy of a SWITCH_BACK or of the start it is copied again, which takes one
PULSE cycle more (R350). -/
def State.recordTouched (s : State) : State := match s.due .syncCopy with
  | some e => s.setDue .syncCopy 0 (some (e + Clk.pulse))
  | none => s

/-- A length rounded up to whole PULSE cycles while the leg of a channel places its edges on whole cycles (R290). -/
def State.wholeUp (s : State) (c t : Nat) : Nat := if s.on .legWhole (c / 2) then (t + 63) / 64 * 64 else t

/-- The dead time of a channel: DT_HIGH before a high side turns on, DT_LOW before a low side turns on (R310). -/
def State.deadTime (s : State) (c : Nat) : Nat :=
  s.wholeUp c (if c % 2 = 0 then s.f Reg.LEG_DEAD_DT_HIGH (c / 2) else s.f Reg.LEG_DEAD_DT_LOW (c / 2))

/-- Schedule a turn-on. -/
def State.addOn (s : State) (c t : Nat) : State :=
  { s with edges := s.edges ++ [{ ch := c, on := true, t := t, moved := false }] }

/-- The channel is an isolated one (R38). -/
def isolated (c : Nat) : Bool := c < 52

/-- The channel counts as on: its driver drives it, or its read-back has not yet shown off (R363). -/
def State.chOn (s : State) (c : Nat) : Bool := s.on .chDrive c || s.fb Reg.CH_STATUS_GATE c

/-- Begin turning a channel off: soft for an isolated one, counted, at I_OFF for a low-voltage one (R368, R373). -/
def State.turnOff (s : State) (c : Nat) : State :=
  if s.on .chDrive c then
    let s := (((s.setOn .chDrive c false).setOn .chOffSpecial c true).setV .chOffAt c (subOf s.now : Nat)).setV .phi c 0 |>.setOn .chOffShown c false
    if isolated c then (s.setFb Reg.CH_STATUS_SOFT_OFF c true).addF Reg.CH_COUNTERS c 1 5 else s
  else s

/-- End both turn-on commands of a leg. -/
def State.endCommands (s : State) (n : Nat) : State :=
  let s := (s.setFb Reg.LEG_STATUS_HIGH_ON n false).setFb Reg.LEG_STATUS_LOW_ON n false
  let s := ((s.setOn .chCmd (2 * n) false).setOn .chCmd (2 * n + 1) false).setOn .ascWait n false
  let s := ((s.setOn .chWait (2 * n) false).setOn .chWait (2 * n + 1) false).setV .legLevel n 0
  { s with edges := s.edges.filter fun e => e.ch / 2 != n }

/-- Turn off both channels of a leg. -/
def State.legOff (s : State) (n : Nat) : State := ((s.setOn .staggerLeg n false).turnOff (2 * n)).turnOff (2 * n + 1)

/-- The legs of a stage with a channel on. -/
def State.legsOn (s : State) (t : Stage) : List Nat := t.legs.filter fun n => s.chOn (2 * n) || s.chOn (2 * n + 1)

/-- The safe output of SAFE_OFF (R370): every turn-on command ends; the first leg with a channel on turns off, the next ones
wait for their stagger slots, or all turn off at once when STAGGER is 0. -/
def State.outputOff (s : State) (t : Stage) : State :=
  let s := (s.each t.legs State.endCommands).setOn .ascOut t.idx false
  let on := s.legsOn t
  if s.f Reg.GD_STAGE_CFG_STAGGER t.idx == 0 then s.each on State.legOff
  else
    let s := s.each on fun s n => s.setOn .staggerLeg n true
    match on with
    | [] => s.close .stagger t.idx
    | n :: more =>
      let s := s.legOff n
      if more.isEmpty then s.close .stagger t.idx
      else s.openBy Clk.pulse .stagger t.idx (300 * s.f Reg.GD_STAGE_CFG_STAGGER t.idx)

/-- Every channel of a stage turns off at once, without stagger (R369, R452). -/
def State.outputAllOff (s : State) (t : Stage) : State :=
  (s.each t.legs State.endCommands).each t.legs State.legOff |>.setOn .ascOut t.idx false

/-- A low side may turn on under R371: it is not off through its own detector, a UVLO or a link fault. -/
def State.lowMayTurnOn (s : State) (c : Nat) : Bool :=
  !s.fb Reg.CH_STATUS_TRIPPED c && !s.on .chUvlo c && !s.on .chPathLost c && !s.fb Reg.CH_STATUS_UVLO_POS c
  && !s.fb Reg.CH_STATUS_UVLO_NEG c

/-- Drive a low side on for the active short circuit. -/
def State.driveLow (s : State) (n : Nat) : State :=
  let c := 2 * n + 1
  ((((s.setOn .chCmd c true).setOn .chDrive c true).setOn .chDriven c true).setV .chOnAt c (subOf s.now : Nat)).setFb Reg.CH_STATUS_CLAMP c false |>.setV .phi c 0

/-- The low side of a leg turns on for the active short circuit DT_LOW after its partner was off, at once when that has passed (R371). Its
turn-on is the output stage's own and follows no engine's word. While its partner counts as on, or a soft turn-off of its own runs, it waits. -/
def State.ascTurnOn (s : State) (n : Nat) : State :=
  let c := 2 * n + 1
  let due := s.wholeUp c (s.vn .chOffAt (2 * n) + s.deadTime c)
  if !s.lowMayTurnOn c || !(s.f Reg.GD_STATUS_ENABLE_SG).testBit (Stage.ofLeg n).group then s.setOn .ascWait n false
  else if s.chOn (2 * n) || s.fb Reg.CH_STATUS_SOFT_OFF c then s.setOn .ascWait n true
  else if due ≤ subOf s.now || !s.on .chDriven (2 * n) then (s.setOn .ascWait n false).driveLow n
  else (s.setOn .ascWait n false).addOn c due

/-- The safe output of SAFE_ASC (R371): every on high side begins its turn-off; a low side turns on DT_LOW after its partner's read-back shows
off, or at once when its partner has been off for that long. A disabled leg stays OFF (Table 8-12). -/
def State.outputAsc (s : State) (t : Stage) : State :=
  (s.each t.legs fun s n =>
    let wasOn := s.on .chDrive (2 * n)
    let lowCmd := s.on .chCmd (2 * n + 1)
    let s := (s.endCommands n).setOn .chCmd (2 * n + 1) lowCmd
    let s := (s.setOn .staggerLeg n false).turnOff (2 * n)
    if s.on .chDrive (2 * n + 1) then s.setFb Reg.LEG_STATUS_LOW_ON n true
    else if !s.lowMayTurnOn (2 * n + 1) || !s.fb Reg.LEG_CFG_ENABLE n then s
    else
      let s := s.setFb Reg.LEG_STATUS_LOW_ON n true
      if wasOn then s.setOn .ascWait n true else s.ascTurnOn n).setOn .ascOut t.idx true

/-- The slots of a stage: those whose TYPE is not NONE and that name it. -/
def State.slotsOf (s : State) (t : Stage) : List Nat :=
  (List.range 48).filter fun n => s.f Reg.SLOT_TYPE_TYPE n != 0 && s.f Reg.SLOT_TYPE_STAGE n == t.idx

/-- A slot's mode and its copy in STATUS. -/
def State.setAuto (s : State) (n : Nat) (b : Bool) : State :=
  (s.setFb Reg.SLOT_MODE_MODE n b).setFb Reg.SLOT_STATUS_AUTO n b

/-- On entry to SAFE every slot of the stage goes to MANUAL with MAN_OUT and every integrator zero, and a slot whose mode changes
is reported (R268). -/
def State.slotsManual (s : State) (t : Stage) : State :=
  s.each (s.slotsOf t) fun s n =>
    let was := s.fb Reg.SLOT_MODE_MODE n
    let s := s.setAuto n false
    let s := s.each (List.range 4) fun s k =>
      (s.setF Reg.SLOT_MODE_MAN_OUT n 0 k).setV .slotInt (n * 8 + k) 0
    s.when was fun s => s.noteAt Ev.MODE_CHANGED t n

/-- The carrier stops and substitute events take over (R295); no edge of the stage stays scheduled. -/
def State.carrierStop (s : State) (t : Stage) : State :=
  let s := s.recordTouched
  let s := ((s.setFb Reg.PULSE_STATUS_RUN t.idx false).setFb Reg.PULSE_STATUS_MODE_PENDING t.idx false).close .carrierStart t.idx
  let s := ((s.close .periodStart t.idx).close .periodMiddle t.idx).setOn .tripPer t.idx false
  let s := s.each t.legs fun s n => (((s.close .legReload n).setV .legLevel n 0).setOn .legLive n false).setOn .stopLate n false
  { s with edges := s.edges.filter fun e => !(t.legs.contains (e.ch / 2)) }

/-! ### Entering a stage state (Table 1-7, Table 21-7) -/

/-- The module follows its stages between READY and RUN (Table 1-5). -/
def State.syncModule (s : State) (code : Nat) : State :=
  if s.module == .ready && s.anyActive then { s.setV .moduleEvent 0 code with module := .run }
  else if s.module == .run && !s.anyActive then { s.setV .moduleEvent 0 code with module := .ready }
  else s

/-- The setpoint of a brake test's slot goes to zero without a ramp, and the test's override ends (R511). -/
def State.brakeZero (s : State) (k : Nat) : State :=
  let n := s.f Reg.SAFE_BRK_CFG_BT_SLOT k
  let s := (s.setV .btPhase k 0).setF Reg.SLOT_SETPOINT n 0
  (s.setV .slotSp (n * 8) 0).setV .slotSp (n * 8 + 1) 0

/-- The running test of a brake aborts; its torque is zero from the slot's next run (R512). -/
def State.abortTest (s : State) (k : Nat) : State :=
  if s.f Reg.SAFE_BRK_STATUS_TEST k == 1 then
    let s := ((s.setF Reg.SAFE_BRK_STATUS_TEST k 4).setFb Reg.SAFE_STATUS_BT_RUN 0 false).close .brakeTest k
    let s := (s.setV .btAbort k (sampleCycle s.now + 1 : Nat)).setV .btStep k (s.vn .btPhase k + if s.on .btNeg k then 256 else 0 : Nat)
    let s := s.brakeZero k
    (s.addF Reg.SAFE_COUNTERS 5).report { code := Ev.BRAKE_TEST_ABORTED, src := s.f Reg.SAFE_BRK_CFG_STAGE k, d0 := k }
  else s

/-- A brake test on a stage aborts (R512). -/
def State.abortBrakeTest (s : State) (t : Stage) : State :=
  s.each [0, 1] fun s k => if s.f Reg.SAFE_BRK_CFG_STAGE k == t.idx then s.abortTest k else s

/-- I_min (R403), with the period in force in PULSE cycles. -/
def State.iMin (s : State) (u ub : Int) : Int :=
  let per : Int := s.f Reg.PULSE_PERIOD_NOW 2 / 64
  divOpen (per * ub * (u - ub)) (60 * s.f Reg.LINK_SCALE_L_PH * u)

/-- The compensator's history is set to zero, with c1 to c3 at a value. -/
def State.regHistory (s : State) (c : Int) : State :=
  s.each [1, 2, 3] fun s k => (s.setV .regC k c).setV .regE k 0

/-- On leaving BURST the history is set so that c0 = I_min (R406). -/
def State.burstLeft (s : State) : State :=
  s.when (s.f Reg.LINK_STATUS_STATE == 4) fun s => s.regHistory (s.iMin (s.v .regLink) (s.v .regBatt))

/-- The snapshots that the end of a soft start or of BURST captures when a STOP or SAFE ends it (R407, R417); `st` is the state left. -/
def State.regLeft (s : State) (st code : Nat) : State :=
  if st == 1 then s.linkSnap 0 code else if st == 4 then s.linkSnap 2 code else s

/-- The regulator leaves for OFF because its stage enters STOPPED or SAFE: the FAULT snapshot, which an event of Table 11-5 has captured
itself, and the snapshot of what ends with it (R395, R407, R417). -/
def State.regLeaves (s : State) (code : Nat) : State :=
  let st := s.f Reg.LINK_STATUS_STATE
  let s := (s.snapFrom.burstLeft.setF Reg.LINK_STATUS_STATE 0 0).setF Reg.LINK_STATUS_PHASES 0 0
  (s.when (code / 256 != 0x15) fun s => s.linkSnap 5 code).regLeft st code

/-- A stage's record changes state with the event and reaction of the change; what belongs to HOLD and to the stop sequence ends
with it, a DERATE ends at STOPPED and SAFE, and that of a fault whose bit is still set comes back with the next ARM (R758), and what takes L there captures its FAULT snapshot
(R417). -/
def State.enter (s : State) (t : Stage) (st : StageState) (code reaction : Nat) : State :=
  let c := s.stg t
  let idle := st == .stopped || st == .safe
  let c' : StageCtl := { c with
    state := st, lastEvent := code, reaction := reaction,
    stopping := if idle || st == .armed then false else c.stopping,
    storedStop := if st == .hold then c.storedStop else false,
    holds := if idle then [] else c.holds,
    derates := if idle then c.derates.filter fun d => !d.momentary && s.faultBit d.code else c.derates }
  let was := c.state == .stopped || c.state == .safe
  let s := (s.protect .area 0).when (idle != was) fun s => s.setV .stgSince t.idx (s.now : Nat)
  let s := ((s.setStg t c').close .hold t.idx).syncModule code
  if idle && t == .L && c.state.isActive then s.regLeaves code else s

/-- IDLE: every window and cause of an actuator ends (Table 13-4). -/
def State.actStop (s : State) (a : Nat) : State :=
  let s := ((s.setF Reg.ACT_STATUS_STATE a 0).setF Reg.ACT_STATUS_HOLD a 0).setFb Reg.ACT_STATUS_BLOCKED a false
  let s := ((((s.close .arrive a).close .moveTime a).close .block a).close .holdOc a).setV .actLimit a 0
  let s := s.setFb Reg.ACT_STATUS_FULL a false
  { s with causes := (s.causes.map fun (c : Cause) =>
      if c.inst == a && (c.code == Ev.ACT_BLOCKED || c.code == Ev.ACT_DRIFT || c.code == Ev.HOLD_OVERCURRENT) then
        { c with present := false }
      else c).filter Cause.alive }

/-- The link regulator is OFF outside RUNNING and HOLD (R395); P's stop sequence ends with the stage. -/
def State.stageIdle (s : State) (t : Stage) : State :=
  let s := s.setV .stopForceAt t.idx 0
  match t with
  | .L =>
    let s := ((s.setF Reg.LINK_STATUS_STATE 0 0).setF Reg.LINK_STATUS_PHASES 0 0).setF Reg.LINK_STATUS_LEGS 0 0
    let s := ((s.setFb Reg.LINK_STATUS_OV 0 false).setFb Reg.LINK_STATUS_UV 0 false).setFb Reg.LINK_STATUS_IMB 0 false
    let s := ((s.setFb Reg.LINK_STATUS_SS_WINDOW 0 false).setFb Reg.LINK_STATUS_BLOCK 0 false).setFb Reg.LINK_STATUS_CLIM 0 false
    let s := ((s.setOn .takeoverReq 0 false).setOn .handbackReq 0 false).close .regTrig
    let s := (((s.setV .regAt 0 0).setV .regPrev 0 0).setV .ssJudged 0 0).setOn .hiccupOver 0 false
    ((((s.close .ssWindow).close .hiccup).close .shedBlock).close .uvTime).each (List.range 6) fun s j =>
      ((s.close .imbTime j).close .shed j).setOn .shedMet j false
  | .P => ((s.setV .pStop 0 0).setOn .chgFed 0 false).close .stopTakeover
  | .X1 => s.actStop 0
  | .X2 => s.actStop 1
  | _ => s

/-- Faults whose STATE.FAULT bit has cleared derate no stage, but for the DERATE of a fault without a lasting cause (R758). -/
def State.dropDerates (s : State) : State :=
  s.each Stage.all fun s t =>
    s.setStg t { (s.stg t) with derates := (s.stg t).derates.filter fun d => d.momentary || s.faultBit d.code }

/-- The slots of a stage no longer run: no trigger or condition of theirs is left, a run under way will show nothing, and a setpoint
loss clears without a report (R249, R271). -/
def State.slotsIdle (s : State) (t : Stage) : State :=
  let s := s.each (s.slotsOf t) fun s n =>
    let s := ((s.setOn .slotPend n false).setOn .slotRun n false).close .slotTrig n
    let s := ((s.close .slotFe n).close .slotSpTimer n).setFb Reg.SLOT_STATUS_ACTIVE n false
    ((s.setFb Reg.SLOT_STATUS_FE n false).setFb Reg.SLOT_STATUS_SP_LOST n false).setFb Reg.SLOT_STATUS_DERATED n false
  let s := { s with causes := (s.causes.map fun (c : Cause) =>
      if (c.code == Ev.SP_LOST || c.code == Ev.FOLLOWING_ERROR) && (s.slotsOf t).contains c.inst then { c with present := false }
      else c).filter Cause.alive }
  s.dropDerates

/-- The first condition of R505 that does not hold for brake k, in its order; none when the brake may be released. -/
def State.brakeBar (s : State) (k : Nat) : Option Nat :=
  let st := s.f Reg.SAFE_BRK_CFG_STAGE k
  if s.on .stoState 4 || s.fb Reg.SAFE_STATUS_SBC_DISC then some 1
  else if !s.on .brkReq k then some 2
  else if !(st == 7 || (match Stage.ofNat? st with
      | some t => (s.st t).isRunning
      | none => false)) then some 3
  else if s.f Reg.SAFE_BRK_STATUS_TEST k == 1 then some 4
  else if s.fb Reg.SAFE_BRK_STATUS_FAILED k && s.fb Reg.SAFE_BRK_CFG_BLOCK_RELEASE k then some 5
  else if s.fb Reg.SAFE_BRK_STATUS_OUT_FAULT k && s.fb Reg.SAFE_BRK_CFG_FAULT_APPLY k then some 6
  else none

/-- Brake k is applied: its switches open, and its command bit must be written 1 again (R506). -/
def State.brakeApply (s : State) (k : Nat) : State :=
  if s.fb Reg.SAFE_BRK_STATUS_RELEASED k then
    let s := ((s.protect (.brake k) 1).setFb Reg.SAFE_BRK_STATUS_RELEASED k false).setF Reg.SAFE_STATUS_APPLIED 0 (s.f Reg.SAFE_STATUS_APPLIED ||| 2 ^ k : Nat)
    ((((s.setOn .brkReq k false).setV .brkAt k (s.now : Nat)).close .brkClear k).close .brkLow k).close .brkLimit k
  else s

/-- The brakes follow their conditions (R505, R506). -/
def State.brakeSync (s : State) : State :=
  s.each [0, 1] fun s k => match s.brakeBar k with
    | some _ => s.brakeApply k
    | none =>
      if s.fb Reg.SAFE_BRK_STATUS_RELEASED k then s
      else ((s.protect (.brake k) 0).setFb Reg.SAFE_BRK_STATUS_RELEASED k true).setF Reg.SAFE_STATUS_APPLIED 0 (s.f Reg.SAFE_STATUS_APPLIED &&& (3 - 2 ^ k) : Nat)

/-- What ends with a stage's last activity whatever it enters: its carrier, its slots' runs, its stop sequence, a brake test on it. -/
def State.stageEnds (s : State) (t : Stage) : State :=
  let s := (((s.carrierStop t).close .stopSeq t.idx).abortBrakeTest t).slotsIdle t
  (s.stageIdle t).brakeSync

/-- The trip latches of a stage's legs clear when it enters STOPPED (R325). -/
def State.unlatchLegs (s : State) (t : Stage) : State := s.each t.legs fun s n => s.setFb Reg.LEG_STATUS_LATCHED n false

/-- Stage P left the states in which D may run: D stops at once, every channel off, without a stop sequence (Table 1-7). -/
def State.dropD (s : State) : State :=
  if (s.st .D).isActive then
    (((s.outputAllOff .D).unlatchLegs .D).enter .D .stopped 0 0 |>.releaseLatches .D).stageEnds .D
  else s

/-- What ends with a stage's last activity, and D with P. -/
def State.leaveActive (s : State) (t : Stage) : State := if t == .P then (s.stageEnds t).dropD else s.stageEnds t

/-- Step 3 of P's stop sequence: P_lim ramps down from the input power of this moment (R452). -/
def State.pRamp (s : State) : State :=
  ((s.setV .pStop 0 3).setV .chgStopP 0 (s.v .chgPin)).setV .chgStopAt 0 (s.now : Nat)

/-- P's stop sequence continues (R452): D is stopped; with the power path in SOURCE and L in STANDBY it asks L to take the link
over and waits at most 10 ms, and otherwise it ramps. -/
def State.pStopNext (s : State) : State :=
  if s.vn .pStop == 1 && !(s.st .D).isRunning then
    if s.f Reg.CHG_STATUS_PP_STATE == 4 && s.f Reg.LINK_STATUS_STATE == 5 then
      ((((s.setV .pStop 0 2).setOn .takeoverReq 0 true).addF Reg.CHG_COUNTERS 2).openSlow .stopTakeover 0 (ms 10)).chgSnap 0 4
        (s.vn .stopCode 3)
    else s.pRamp
  else s

/-- Enter STOPPED: every channel is off, trip latches of the stage and the latches that waited for it clear (R325, R713). -/
def State.toStopped (s : State) (t : Stage) (code reaction : Nat) : State :=
  let s := (s.each t.legs State.endCommands).unlatchLegs t
  let s := s.each t.chans fun s c => (s.setOn .chDrive c false)
  let s := ((s.setOn .ascOut t.idx false).enter t .stopped code reaction).releaseLatches t
  let s := s.leaveActive t
  if t == .D then s.pStopNext else s

/-- The slots of a stage of a TYPE. -/
def State.hasSlot (s : State) (t : Stage) (ty : Nat) : Bool :=
  (List.range 48).any fun n => s.f Reg.SLOT_TYPE_TYPE n == ty && s.f Reg.SLOT_TYPE_STAGE n == t.idx

/-- A ramp to FORCE OFF of a given length opens: the FORCE OFF commits complete at its end (R47, R478). -/
def State.rampThenOff (s : State) (t : Stage) (len : Nat) : State :=
  (s.openLoop .stopSeq t.idx len).setV .stopForceAt t.idx (s.now / Clk.loop * Clk.loop + len : Nat)

/-- A gate enable is withheld from a stage's group: by an STO request that pair S or the hard-wired path sees, by a hard clock fault, or
because its line is removed, or SAFE_ASC is unavailable under a path fault. Its channels stay off (R55, R118, R369, R497). -/
def State.mustBeOff (s : State) (t : Stage) : Bool :=
  (s.f Reg.SAFE_STATUS_STO_REQ).testBit t.group || s.on .hwReq t.group || s.on .hardClock
  || s.on .pathFault t.group || !(s.f Reg.GD_STATUS_ENABLE_SG).testBit t.group

/-- Enter SAFE with the safe output of the cause, off or active short circuit (T stages only): slots to MANUAL (R268). A stage
that is already in SAFE takes the safe output of the newer cause; when that is the output it has, nothing changes. -/
def State.toSafe (s : State) (t : Stage) (asc : Bool) (code reaction : Nat) : State :=
  let s := s.setRank t (if code == Ev.HOLD_EXPIRED && s.st t == .hold then 2 else 1)
  let asc := asc && t.isT && !s.mustBeOff t
  let s := if s.st t == .safe && s.on .ascOut t.idx == asc then s
    else if asc then s.outputAsc t else s.outputOff t
  if s.st t == .safe then s
  else ((s.enter t .safe code reaction).slotsManual t).leaveActive t

/-- The hold window of a stage: HOLD_LIMIT in SLOW cycles from its entry (R51, R542). -/
def State.openHold (s : State) (t : Stage) : State := s.openSlow .hold t.idx (ms (s.f Reg.CORE_CFG_HOLD_LIMIT))

/-- A cause of HOLD reaches a stage (R49): a RUNNING stage that is not in its stop sequence enters HOLD with a new window, and its slots'
following-error timers stop (R273); a stage
in HOLD and an ARMED stage record it; every other stage, and one that a higher-ranked event of the LOOP cycle has taken (R50), is left
alone. -/
def State.holdBy (s : State) (t : Stage) (h : HoldCause) (code : Nat) : State :=
  let c := s.stg t
  let rec' := { c with holds := if c.holds.contains h then c.holds else c.holds ++ [h] }
  match c.state with
  | .running =>
    if c.stopping || s.rankNow t < 5 then s
    else
      let s := ((((s.setRank t 5).setStg t rec').abortBrakeTest t).enter t .hold code 2).openHold t
      s.each (s.slotsOf t) fun s n => s.close .slotFe n
  | .hold => s.setStg t rec'
  | .armed => s.setStg t rec'
  | _ => s

/-- What the stop sequence of a stage begins with: the ramp of T (R47), X1 and X2 (R478), the regulator's STOPPING or, with every
leg already OFF, the end of the sequence for L (R396), the wait for the DAB slot of D and for D of P (R452). A stage whose
slot the sequence needs and the image does not hold has nothing to ramp: FORCE OFF is committed at once. -/
def State.stopStart (s : State) (t : Stage) : State :=
  match t with
  | .T1 | .T2 => s.rampThenOff t (us (100 * s.f Reg.ENG_STOP_STOP_TIME t.idx))
  | .L =>
    let st := s.f Reg.LINK_STATUS_STATE
    if st == 0 || st == 5 || st == 6 then s.toStopped t (s.vn .stopCode t.idx) (s.vn .stopReaction t.idx)
    else
      let s := (s.snapFrom.burstLeft.setF Reg.LINK_STATUS_STATE 0 7).setV .regUpd 0 0
      let s := (s.openLoop .stopSeq t.idx (us (100 * s.f Reg.LINK_SCALE_STOP_RAMP))).setV .regStopFrom 0 st
      s.regLeft st (s.vn .stopCode t.idx)
  | .P => s.setV .pStop 0 1
  | .D =>
    let s := s.openLoop .stopSeq t.idx (ms 10)
    if s.hasSlot t 8 then s else s.setV .stopForceAt t.idx s.now
  | .X1 => s.rampThenOff t (us (100 * s.f Reg.ACT_FAULT_STOP_RAMP 0))
  | .X2 => s.rampThenOff t (us (100 * s.f Reg.ACT_FAULT_STOP_RAMP 1))

/-- Start the stop sequence of a stage (R47): an ARMED stage enters STOPPED at once; a running one begins its sequence, whose end
enters STOPPED with this event and reaction. A stop during the sequence has no further effect. -/
def State.beginStop1 (s : State) (t : Stage) (code reaction : Nat) : State :=
  let c := s.stg t
  match c.state with
  | .armed => (s.protectStage t).toStopped t code reaction
  | .running | .hold =>
    if c.stopping then s
    else
      let s := (s.protectStage t).setStg t { c with stopping := true }
      let s := ((s.setV .stopCode t.idx code).setV .stopReaction t.idx reaction).abortBrakeTest t
      s.stopStart t
  | _ => s

/-- As `beginStop1`; the stop sequence of P first runs that of D (R452). -/
def State.beginStop (s : State) (t : Stage) (code reaction : Nat) : State :=
  let s := s.beginStop1 t code reaction
  if t == .P && s.vn .pStop == 1 then
    let s := if (s.st .D).isRunning then s.beginStop1 .D 0 0 else s
    let s := s.pStopNext
    if s.vn .pStop == 3 && !s.hasSlot .P 7 then s.setV .stopForceAt 3 s.now else s
  else s

/-- The source of a slot's setpoint is back: its loss clears with SP_RESTORED (R271). -/
def State.spBack (s : State) (n : Nat) : State :=
  if s.present Ev.SP_LOST n then
    let s := (s.setFb Reg.SLOT_STATUS_SP_LOST n false).noteAt Ev.SP_RESTORED
      ((Stage.ofNat? (s.f Reg.SLOT_TYPE_STAGE n)).getD .T1) n
    s.updCause Ev.SP_LOST n fun c => { c with present := false, transient := false }
  else s

/-- A stage has come to RUNNING: slots that take their setpoint from its slots have it again (R271). -/
def State.spSourceBack (s : State) (t : Stage) : State :=
  s.each (List.range 48) fun s n =>
    if s.f Reg.SLOT_SP_CFG_SP_SRC n == 1 && s.f Reg.SLOT_TYPE_STAGE (s.f Reg.SLOT_SP_CFG_SP_SLOT n) == t.idx then s.spBack n
    else s

/-- HOLD ends by restoration when no recorded cause is left and the hold window has not ended (R33, R49): the stage returns to
RUNNING, slots that follow its slots have their setpoint again (R271), and a stored STOP is carried out (R48). -/
def State.tryRestore (s : State) (t : Stage) : State :=
  let c := s.stg t
  let late := match s.due .hold t.idx with
    | some e => e ≤ s.now
    | none => false
  if c.state == .hold && c.holds.isEmpty && !late then
    let stored := c.storedStop
    let s := (s.enter t .running 0 0).spSourceBack t
    if stored then s.beginStop t 0 0 else s
  else s

/-- A cause of HOLD is still present: a warm restart until it ends, the setpoint loss of a slot until that slot has its setpoint again,
any other fault while its STATE.FAULT bit is set (R49). -/
def State.holdStands (s : State) : HoldCause → Bool
  | .restart => true
  | .fault code inst => if code == Ev.SP_LOST then s.faultAt code inst else s.faultBit code

/-- Faults whose STATE.FAULT bit has cleared hold no stage and derate none, but for the DERATE of a fault without a lasting cause, which
lasts until the stage enters STOPPED or SAFE (R49, R758). -/
def State.settle1 (s : State) : State :=
  (s.each Stage.all fun s t =>
    let c := s.stg t
    let holds := c.holds.filter s.holdStands
    if holds.length < c.holds.length then (s.setStg t { c with holds := holds }).tryRestore t else s).dropDerates

/-- As `settle1`, for as long as a restoration clears the cause that holds another stage; each stage is restored at most once. -/
def State.settleN : Nat → State → State
  | 0, s => s
  | k + 1, s =>
    let s' := s.settle1
    if s'.causes == s.causes then s' else settleN k s'

/-- What the STATE.FAULT bits kept ends with them (R49, R758). -/
def State.settle (s : State) : State := s.settleN 7

/-- The end of the stop sequence: STOPPED with the event that started it. -/
def State.finishStop (s : State) (t : Stage) : State :=
  if (s.stg t).stopping then (s.toStopped t (s.vn .stopCode t.idx) (s.vn .stopReaction t.idx)).settle else s

/-- A cause of HOLD has cleared for every stage that records it. -/
def State.releaseHold (s : State) (h : HoldCause) : State :=
  (s.each Stage.all fun s t =>
    let c := s.stg t
    if c.holds.contains h then (s.setStg t { c with holds := c.holds.filter (· != h) }).tryRestore t else s).settle

/-- The cause of a fault clears: its entry keeps only its latches, and what its STATE.FAULT bit kept ends with it (R49, R713, R758). -/
def State.clearCause (s : State) (code : Nat) (inst : Nat := 0) : State :=
  if s.present code inst then
    (s.updCause code inst fun c => { c with present := false, transient := false }).settle
  else s

/-- A DERATE reaction is in force on a stage (R758). -/
def State.derated (s : State) (t : Stage) : Bool := (s.st t).isActive && !(s.stg t).derates.isEmpty

/-! ### Reactions (Table 1-8) -/

/-- A T stage is configured for SAFE_ASC (R57). -/
def State.ascConfigured (s : State) (t : Stage) : Bool :=
  (t == .T1 && s.f Reg.CORE_HOLD_EXPIRY_T1 == 5) || (t == .T2 && s.f Reg.CORE_HOLD_EXPIRY_T2 == 5)

/-- The module enters SAFE (Table 1-5): from READY, RUN and SERVICE only. It leaves SAFE only through RESTART or loss of VAUX (R43), so an
entry to SLEEP or SHIP that is under way ends with it, and a wake latched for its end (log entry 195). -/
def State.moduleToSafe (s : State) (code : Nat) : State :=
  match s.module with
  | .ready | .run | .service =>
    let s := (s.setV .entering 0 0).setV .wakeLatched 0 0
    { (s.protect .area 0).setV .moduleEvent 0 code with module := .safe }
  | _ => s

/-- MODULE_SAFE: the module to SAFE, every stage to SAFE_OFF or, for a T stage configured so, SAFE_ASC (R57). -/
def State.moduleSafe (s : State) (code : Nat) (reaction : Nat := 7) : State :=
  let s := s.moduleToSafe code
  if s.module == .safe then
    s.each Stage.all fun s t => s.toSafe t (s.ascConfigured t) code reaction
  else s

/-- The stages a reaction takes to SAFE when it acts on a stage. -/
def safeTargets (reaction : Nat) (t : Stage) : List Stage :=
  if reaction == 4 || reaction == 5 then [t]
  else if reaction == 6 then Stage.ofGroup t.group
  else if reaction == 7 then Stage.all
  else []

/-- The rank under R50 of a fault with a reaction code: a SAFE cause, STOP, entry to HOLD, or none. -/
def reactionRank (reaction : Nat) : Nat := if 4 ≤ reaction then 1 else if reaction = 3 then 3 else if reaction = 2 then 5 else 8

/-- A stage discards a reaction: an event of a higher rank, or a fault with a higher reaction code, has fallen in the same LOOP cycle (R50,
R58). -/
def State.discards (s : State) (t : Stage) (reaction : Nat) : Bool :=
  reaction < s.topNow t || (1 < reaction && s.rankNow t < reactionRank reaction)

/-- DERATE on a stage (R758), with whether the fault's detection leaves no lasting cause: such a fault derates only a stage that is in
use, and one whose STATE.FAULT bit has cleared before its reaction is carried out (R545) derates none. -/
def State.derate (s : State) (t : Stage) (code : Nat) (momentary : Bool) : State :=
  let c := s.stg t
  let has := c.derates.any fun d => d.code == code && d.momentary == momentary
  if has || (if momentary then !c.state.isActive else !s.faultBit code) then s
  else s.setStg t { c with derates := c.derates ++ [{ code := code, momentary := momentary, since := s.loopNo }] }

/-- Carry out a reaction code on one stage for the fault of a code and instance, with whether it leaves no lasting cause (Table 1-8). -/
def State.react (s : State) (t : Stage) (reaction code inst : Nat) (momentary : Bool) : State :=
  if reaction == 1 then
    (s.derate t code momentary).each [0, 1] fun s k =>
      if s.f Reg.SAFE_BRK_CFG_STAGE k == t.idx && s.f Reg.SLOT_LIMITS_DERATE_VALUE (s.f Reg.SAFE_BRK_CFG_BT_SLOT k) < 1000 then
        s.abortTest k
      else s
  else if reaction == 2 then s.holdBy t (.fault code inst) code
  else if reaction == 3 then s.beginStop t code 3
  else if reaction == 4 then (s.toSafe t false code 4).latchStages code inst [t]
  else if reaction == 5 then (s.toSafe t true code 5).latchStages code inst [t]
  else if reaction == 6 then
    (s.each (Stage.ofGroup t.group) fun s u => s.toSafe u false code 6).latchStages code inst (Stage.ofGroup t.group)
  else if reaction == 7 then
    let s := s.moduleSafe code
    if s.module == .safe then s.latchStages code inst Stage.all else s
  else s

/-- What a lower-ranked event of the LOOP cycle has begun on a stage ends when one of a higher rank follows (R50, R58): a DERATE carried out
in the cycle, and a HOLD entered in it, so that the stage acts from RUNNING. Where the stage is STOPPED, stopping or in SAFE by the
lower-ranked event, the higher one is the event of its last change. -/
def State.overtake (s : State) (t : Stage) (rank code reaction : Nat) : State :=
  let c := s.stg t
  let was := s.rankNow t
  let s := s.when (1 < reaction) fun s =>
    s.setStg t { c with derates := c.derates.filter fun d => d.since != s.loopNo }
  if rank < 5 && was == 5 && c.state == .hold then (s.setStg t { (s.stg t) with holds := [] }).enter t .running 0 0
  else if (rank == 3 && was == 4 && c.state == .stopped) || (rank == 1 && was == 2 && c.state == .safe) then
    s.setStg t { (s.stg t) with lastEvent := code, reaction := reaction }
  else if rank == 3 && was == 4 && c.stopping then (s.setV .stopCode t.idx code).setV .stopReaction t.idx reaction
  else s

/-- Carry out a reaction unless the stage discards it (R50, R58). The expiry of the hold limit has a rank of its own and is no reaction that
R58 compares. -/
def State.carryOut (s : State) (t : Stage) (reaction code inst : Nat) (momentary : Bool := true) : State :=
  if reaction == 0 || s.discards t reaction then s
  else
    let expiry := code == Ev.HOLD_EXPIRED
    let rank := if expiry then 2 else reactionRank reaction
    ((s.overtake t rank code reaction).setRank t rank (if expiry then 0 else reaction)).react t reaction code inst momentary

/-- The highest reaction code that the faults of one cycle carry for a stage, with its fault (R58). -/
def topFault (fs : List FaultEvt) (t : Stage) : Option FaultEvt :=
  (fs.filter fun f => f.stages.contains t && f.reaction != 0).foldl (fun a f => match a with
    | none => some f
    | some g => if g.reaction < f.reaction then some f else some g) none

/-- Carry out on each stage the highest reaction of the faults of one cycle (R58); a MODULE_SAFE without a stage acts on the
module. -/
def State.carryAll (s : State) (fs : List FaultEvt) : State :=
  let s := s.each Stage.all fun s t => match topFault fs t with
    | some f => s.carryOut t f.reaction f.code f.inst (!f.lasting)
    | none => s
  (s.each (fs.filter fun f => f.reaction == 7 && f.stages.isEmpty) fun s f => s.carryOut .T1 7 f.code f.inst).settle

/-- A fault report of a stage triggers the armed DMA buffers of the stage's core (R170). -/
def State.trigBuffers (s : State) (t : Stage) : State :=
  s.each (List.range' (16 * t.core) 16) fun s k =>
    if s.fb Reg.SMP_BUF_CFG_TRIG_EN k && s.f Reg.SMP_BUF_CFG_SIZE_LOG2 k != 0 && !s.on .bufTrig k
        && !s.fb Reg.SMP_BUF_CONTROL_FROZEN k then
      (s.setOn .bufTrig k true).setV .bufPost k (s.f Reg.SMP_BUF_CONTROL_POST k : Nat)
    else s

/-- The stages that a fault concerns: those its reaction acts on, and the one its record names. -/
def FaultEvt.concerns (f : FaultEvt) : List Stage :=
  (match Stage.ofNat? f.src with
    | some t => [t]
    | none => []) ++ (if f.reaction = 7 then Stage.all else if f.reaction = 6 then f.stages.flatMap fun t => Stage.ofGroup t.group else f.stages)

/-- A hard clock fault (Table 3-3). -/
def isHardClock (code : Nat) : Bool := code == Ev.XTAL_FAIL || code == Ev.PLL_UNLOCK || code == Ev.CLOCK_COUNT

/-- Faults raised earlier in the present LOOP cycle that share a group with these: those that concern a stage which one of these concerns
(R58), and all of a cycle with a hard clock fault (R122). -/
def State.cycleMates (s : State) (fs : List FaultEvt) : List CycleFault :=
  let l := s.cycleFaults.filter fun m => m.loop == s.loopNo
  if (l.any fun m => isHardClock m.code) || fs.any fun f => isHardClock f.code then l
  else l.filter fun m => fs.any fun f => f.concerns.any m.acts.contains

/-- The records of earlier faults of the cycle that wait in the queue take the group's tag, and are exempt with it; where they had tags of
their own, every record of those groups joins the one group, and so do the detector trips still to come of a period that had one (R58,
R122, R378, R574). -/
def State.retag (s : State) (l : List CycleFault) (tag : Nat) (ex : Bool) : State :=
  let old := (l.map CycleFault.tag).filter (· != 0)
  let s : State := { s with
    queue := s.queue.map fun r =>
      if old.contains r.group
          || l.any (fun m => m.code == r.code && m.src == r.stage && m.d0 % 2 ^ 32 == r.d0 && m.d1 % 2 ^ 32 == r.d1 && m.tag == r.group) then
        { r with group := tag, exempt := r.exempt || ex }
      else r,
    cycleFaults := s.cycleFaults.map fun m => if l.contains m || old.contains m.tag then { m with tag := tag } else m }
  s.each Stage.all fun s t => if old.contains (s.vn .multiTag t.idx) then s.setV .multiTag t.idx tag else s

/-- The faults join those of the present LOOP cycle; those of an earlier cycle are dropped. -/
def State.keepFaults (s : State) (fs : List FaultEvt) (tag : Nat) : State :=
  let new : List CycleFault := fs.map fun f =>
    { loop := s.loopNo, code := f.code, src := f.src, d0 := f.d0, d1 := f.d1, acts := f.concerns, reaction := f.reaction, tag := tag }
  { s with cycleFaults := (s.cycleFaults.filter fun m => m.loop == s.loopNo) ++ new }

/-- The reports of the faults of one LOOP cycle: several faults of a stage share one group tag, whichever commands raise them (R58), and
so does one whose unit has given it a tag (R378); with a record whose reaction is 0x2 to 0x7 every record of the group is exempt (R574). -/
def State.reportAll (s : State) (fs : List FaultEvt) : State :=
  let mates := s.cycleMates fs
  let given := (fs.map FaultEvt.tag ++ mates.map CycleFault.tag).find? (· != 0)
  let (tag, s) := match given with
    | some k => (k, s)
    | none => if 2 ≤ fs.length || !mates.isEmpty then s.nextTag else (0, s)
  let ex := (fs.any fun f => 2 ≤ f.reaction && f.reaction ≤ 7) || mates.any fun m => 2 ≤ m.reaction && m.reaction ≤ 7
  let s := s.retag mates tag ex
  (s.keepFaults fs tag).each fs fun s f =>
    s.report { code := f.code, src := f.src, reaction := f.reaction, group := tag,
               exempt := ex, d0 := f.d0, d1 := f.d1, d2 := f.d2 }

/-- Raise the faults of one cycle: each is reported, its cause and latches are recorded (R713; a fault with reaction HOLD and no lasting
cause is present in this SLOW cycle, R49), and the reactions are carried out; those that pair S carries out wait while it restarts
(R545). -/
def State.raiseAll (s : State) (fs : List FaultEvt) : State :=
  let s := s.reportAll fs
  let s := s.each fs fun s _ => s.protect .area 0
  let s := s.each fs fun s f => s.each (match Stage.ofNat? f.src with
    | some t => [t]
    | none => f.stages) State.trigBuffers
  let s := s.each fs fun s f =>
    let s := s.when (f.lasting || f.transient || f.reaction == 2) fun s => s.setCause f.code f.inst (!f.lasting)
    let s := s.when f.latched fun s => s.latchStages f.code f.inst f.stages
    s.when f.nextStart fun s => s.updCause f.code f.inst fun c => { c with nextStart := true }
  if s.sBusy then
    let s := { s with deferred := s.deferred ++ fs.filter fun (f : FaultEvt) => !f.hardware && f.reaction != 0 }
    s.carryAll (fs.filter fun (f : FaultEvt) => f.hardware)
  else s.carryAll fs

/-- Raise one fault. -/
def State.raise (s : State) (f : FaultEvt) : State := s.raiseAll [f]

end Sys2Proof.Machine
end

