-- ==== Sys2Proof/Machine/Pulse.lean ====
section
/-!
DEFINITION. Pulse generation (chapter 8): carriers and their reload instants, leg timers with shadow, pending and active
sets, short pulses and the carry, the output stage's guard, synchronisation, delay-line fallback and cycle-by-cycle trips.
Instants and lengths of edges count sub-steps of 1/64 PULSE cycle since manufacture (R286).
-/

namespace Sys2Proof.Machine

/-! ### Sub-steps -/

/-- The VCO cycle of the PULSE edge that opens the PULSE cycle of a sub-step. -/
def vcoOf (t : Nat) : Nat := t / 64 * Clk.pulse

/-- A Q1.15 fraction of an interval, in sub-steps, halves up (R287). -/
def fracSub (f len : Nat) : Nat := (2 * f * len + 32768) / 65536

/-- A PHASE value of an interval, in sub-steps, halves up (R287). -/
def phaseSub (ph len : Nat) : Nat := (2 * ph * len + 65536) / 131072

/-- The placement of an edge of a channel: taps 32 to 63 fall to the next whole cycle in fallback (R290). -/
def State.place (s : State) (c t : Nat) : Nat := if s.on .legWhole (c / 2) then (t + 32) / 64 * 64 else t

/-- MIN_PULSE of a channel's leg, in sub-steps. -/
def State.minPulse (s : State) (c : Nat) : Nat := s.wholeUp c (s.f Reg.LEG_MIN_MIN_PULSE (c / 2) * 64)

/-- The other channel of a leg. -/
def partner (c : Nat) : Nat := if c % 2 = 0 then c + 1 else c - 1

/-! ### Active, pending and shadow sets (R303 to R307) -/

/-- The fields of a set in the order of LEGnn.ACTIVE. -/
def shadowFields : List Fld :=
  [Reg.LEG_DUTY_A, Reg.LEG_DUTY_B, Reg.LEG_PHASE, Reg.LEG_TIME_A, Reg.LEG_TIME_B, Reg.LEG_CTRL_FORCE]

/-- Field k of a leg's active set. -/
def State.act (s : State) (n k : Nat) : Nat := s.f Reg.LEG_ACTIVE n k

/-- A commit completes: the whole shadow set becomes the pending set in this PULSE cycle (R303); a pending set that no reload
has taken is replaced whole and counted (R306). It is late already when the leg's reload of this very cycle has come before it (R305). -/
def State.commitLeg (s : State) (n : Nat) : State :=
  let s := s.recordTouched
  let s := s.when (s.on .legPending n) fun s => s.addF Reg.LEG_COUNTERS n 1 2
  let s := s.each (List.range 6) fun s k => match shadowFields[k]? with
    | some f => s.setV .legPend (n * 8 + k) (s.f f n)
    | none => s
  ((s.setOn .legPending n true).setV .legCommitAt n (s.now / Clk.pulse * Clk.pulse : Nat)).setOn .legLate n
      (s.fb Reg.PULSE_STATUS_RUN (Stage.ofLeg n).idx && s.vn .legStart n / 64 == s.now / Clk.pulse)
    |>.setFb Reg.LEG_CTRL_COMMIT n true

/-- On entry to ARMED every leg of the stage has pending and active sets of FORCE OFF with zero fields, no carry and an empty
trip window (R307). -/
def State.legArm (s : State) (n : Nat) : State :=
  let s := s.recordTouched
  let s := s.each (List.range 6) fun s k =>
    (s.setV .legPend (n * 8 + k) (if k = 5 then 3 else 0)).setF Reg.LEG_ACTIVE n (if k = 5 then 3 else 0) k
  let s := ((s.setOn .legPending n false).setFb Reg.LEG_CTRL_COMMIT n false).setF Reg.LEG_CARRY n 0
  let s := (((s.setV .legLevel n 0).setOn .legLive n false).setV .legEndMin n 0).setOn .stopLate n false
  let s := ((s.close .tripWindow n).setF Reg.LEG_STATUS_WIN_COUNT n 0).close .legReload n
  { s with edges := s.edges.filter fun e => e.ch / 2 != n }

/-! ### Short pulses and the carry (R298 to R302, R310 to R314) -/

/-- A part of an interval in which the leg's command is high (true) or low. -/
structure Seg where
  hi  : Bool
  len : Nat
  /-- the command is kept, but its channel issues no pulse (STRETCH, case 4) -/
  mute : Bool := false

/-- Neighbouring parts with one level count as one; empty parts vanish. -/
def mergeSegs : List Seg → List Seg
  | [] => []
  | a :: rest =>
    if a.len = 0 then mergeSegs rest
    else match mergeSegs rest with
      | b :: more => if a.hi == b.hi && !a.mute && !b.mute then { a with len := a.len + b.len } :: more else a :: b :: more
      | [] => [a]

/-- How long the command stays at a level at the start of the following interval, by the same set. -/
def leadLen (next : List Seg) (hi : Bool) : Nat :=
  match mergeSegs next with
  | a :: _ => if a.hi == hi then a.len else 0
  | [] => 0

/-- The outcome of the evaluation of one interval: its parts, the carry gained, the pulses removed, and by how much the last
command is to be held beyond the interval (a stretched pulse). -/
structure PlanOut where
  segs    : List Seg
  carry   : Int
  removed : Nat
  beyond  : Nat

/-- Shorten the parts that follow a stretched command. -/
def takeAway : List Seg → Nat → List Seg × Nat
  | [], x => ([], x)
  | a :: rest, x => if x < a.len then ({ a with len := a.len - x } :: rest, 0) else takeAway rest (x - a.len)

/-- Table 8-3 over the parts of one interval: `prev` is the command level just before it (none: both off), `dtH`, `dtL`,
`minP` the dead times and the minimum pulse, `mode` SHORT_MODE, `next` the provisional next interval. -/
def evalSegs (dtH dtL minP mode : Nat) (next : List Seg) : Nat → Option Bool → List Seg → PlanOut
  | 0, _, segs => { segs := segs, carry := 0, removed := 0, beyond := 0 }
  | _ + 1, _, [] => { segs := [], carry := 0, removed := 0, beyond := 0 }
  | fuel + 1, prev, a :: rest =>
    let keep (a : Seg) (rest : List Seg) :=
      let o := evalSegs dtH dtL minP mode next fuel (some a.hi) rest
      { o with segs := a :: o.segs }
    if prev == some a.hi || a.len = 0 then keep a rest
    else
      let t := a.len + (if rest.isEmpty then leadLen next a.hi else 0)
      let p : Int := (t : Int) - (if a.hi then dtH else dtL : Nat)
      if (minP : Int) ≤ p then keep a rest
      else if mode = 1 then
        if p ≤ 0 then keep { a with mute := true } rest
        else
          let x := ((minP : Int) - p).toNat
          if rest.isEmpty then { segs := [a], carry := 0, removed := 0, beyond := leadLen next a.hi + x }
          else
            let (rest', left) := takeAway rest x
            let o := evalSegs dtH dtL minP mode next fuel (some a.hi) rest'
            { o with segs := { a with len := a.len + (x - left) } :: o.segs, beyond := if rest'.isEmpty then left else o.beyond }
      else
        let b : Seg := { a with hi := !a.hi }
        let o := evalSegs dtH dtL minP mode next fuel (some b.hi) rest
        { o with segs := b :: o.segs, removed := o.removed + 1,
                 carry := o.carry + (if mode = 0 then (if a.hi then (a.len : Int) else -(a.len : Int)) else 0) }

/-! ### Scheduling edges -/

/-- The command instant at which a channel turns on for a command that begins at e: its dead time after its partner's last
turn-off, which is at e when the command passes from the partner (R310). -/
def State.onInstant (s : State) (c e : Nat) (fromPartner : Bool) : Nat :=
  if fromPartner then s.place c e + s.deadTime c
  else max (s.place c e) (s.wholeUp c (s.vn .chOffAt (partner c) + s.deadTime c))

/-- Schedule a turn-off. A turn-on of the channel that has not come yet is cancelled instead (R314). -/
def State.addOff (s : State) (c e : Nat) (moved : Bool) : State :=
  let t := s.place c e
  if s.edges.any fun x => x.ch == c && x.on && t ≤ x.t then
    { s with edges := s.edges.filter fun x => !(x.ch == c && x.on && t ≤ x.t) }
  else { s with edges := s.edges ++ [{ ch := c, on := false, t := t, moved := moved }] }

/-- Change a leg's command level at an instant: 0 none, 1 high, 2 low. -/
def State.levelChange (s : State) (n fromLv toLv e : Nat) (moved mute : Bool) : State :=
  if fromLv == toLv then s
  else
    let s := if fromLv == 1 then s.addOff (2 * n) e moved else if fromLv == 2 then s.addOff (2 * n + 1) e moved else s
    if toLv == 0 || mute then s
    else
      let c := if toLv == 1 then 2 * n else 2 * n + 1
      s.addOn c (s.onInstant c e (fromLv != 0))

/-- The level of a part. -/
def Seg.lv (a : Seg) : Nat := if a.hi then 1 else 2

/-- Schedule the edges of the parts of an interval that begins at an instant. -/
def State.scheduleSegs (s : State) (n : Nat) : Bool → Nat → Nat → List Seg → State
  | _, _, lv, [] => s.setV .legLevel n lv
  | first, e, lv, a :: rest => (s.levelChange n lv a.lv e first a.mute).scheduleSegs n (first && lv == a.lv) (e + a.len) a.lv rest

/-- Hold a level over the first x sub-steps of an interval. -/
def holdSegs (hi : Bool) (x : Nat) (segs : List Seg) : List Seg :=
  if x = 0 then segs else { hi := hi, len := x } :: (takeAway segs x).1

/-! ### One interval (R298 to R302, R311) -/

/-- The carrier mode in force (Table 8-10). -/
def State.carrierMode (s : State) (t : Stage) : Nat := s.f Reg.PULSE_STATUS_MODE t.idx

/-- The reload lies at PERIOD_MIDDLE of a CENTRE carrier. -/
def State.atMiddle (s : State) (t : Stage) (r : Nat) : Bool := s.carrierMode t == 0 && s.vn .perStart t.idx != r

/-- The half-periods of a CENTRE carrier in sub-steps: rising and falling. -/
def State.halves (s : State) (t : Stage) : Nat × Nat :=
  let p := s.f Reg.PULSE_PERIOD_NOW t.idx
  (p / 2, p - p / 2)

/-- The variable part of a period in CONST_ON or CONST_OFF when the terminate condition is met x sub-steps after its start, and
the whole period (R300). -/
def constParts (mode timeA timeB per : Nat) (term : Option Nat) : Nat × Nat :=
  let var := match term with
    | some x => min timeB x
    | none => timeB
  if mode = 2 then
    let var := min var (per - timeA)
    (timeA, max per (timeA + var))
  else (var, max per (var + timeA))

/-- The change of a leg's phase by a new PHASE of its active set, within half a period (R299). -/
def State.phaseDelta (s : State) (t : Stage) (n oldPhase : Nat) : Int :=
  let per := s.f Reg.PULSE_PERIOD_NOW t.idx
  let d : Int := (phaseSub (s.act n 2) per : Int) - phaseSub oldPhase per
  if (per : Int) ≤ 2 * d then d - per else if 2 * d < -(per : Int) then d + per else d

/-- The parts of a leg's interval from reload r with carry c and, in PHASE, a change of phase d, its length, and the part of the carry
that a clamp loses (R298 to R300, R311). -/
def State.interval (s : State) (t : Stage) (n r : Nat) (c d : Int) : List Seg × Nat × Int :=
  let mode := s.carrierMode t
  let per := s.f Reg.PULSE_PERIOD_NOW t.idx
  let clampTo (x : Int) (hi : Nat) : Nat × Int :=
    let y := clampI 0 hi x
    (y.toNat, x - y)
  if mode = 0 then
    let (h1, h2) := s.halves t
    let a : Int := fracSub (s.act n 0) h1
    let b : Int := fracSub (s.act n 1) h2
    if s.fb Reg.PULSE_CARRIER_UPDATE t.idx then
      if s.atMiddle t r then
        let (b, lost) := clampTo (b + c) h2
        ([{ hi := true, len := b }, { hi := false, len := h2 - b }], h2, lost)
      else
        let (a, lost) := clampTo (a + c) h1
        ([{ hi := false, len := h1 - a }, { hi := true, len := a }], h1, lost)
    else
      let c1 := Int.tdiv c 2
      let (a, l1) := clampTo (a + c1) h1
      let (b, l2) := clampTo (b + (c - c1)) h2
      ([{ hi := false, len := h1 - a }, { hi := true, len := a + b }, { hi := false, len := h2 - b }], h1 + h2, l1 + l2)
  else if mode = 1 then
    let len := ((per : Int) + d).toNat
    let (a, lost) := clampTo ((fracSub (s.act n 0) per : Nat) + c) len
    ([{ hi := true, len := a }, { hi := false, len := len - a }], len, lost)
  else
    let (on, len) := constParts mode (s.act n 3) (s.act n 4) per none
    let (a, lost) := clampTo ((on : Int) + c) len
    ([{ hi := true, len := a }, { hi := false, len := len - a }], len, lost)

/-- The provisional next interval by the same set, without a carry (R312). -/
def State.nextSegs (s : State) (t : Stage) (n r : Nat) : List Seg :=
  if s.carrierMode t = 0 && s.fb Reg.PULSE_CARRIER_UPDATE t.idx then
    let (h1, h2) := s.halves t
    let a := fracSub (s.act n 0) h1
    let b := fracSub (s.act n 1) h2
    if s.atMiddle t r then [{ hi := false, len := h1 - a }, { hi := true, len := a }]
    else [{ hi := true, len := b }, { hi := false, len := h2 - b }]
  else (s.interval t n r 0 0).1

/-- Discard part of a carry and count it in PULSE cycles (R311). -/
def State.discardCarry (s : State) (n : Nat) (x : Int) : State :=
  if x = 0 then s
  else
    let d := s.vn .legDiscard n + x.natAbs
    (s.setV .legDiscard n d).setF Reg.LEG_COUNTERS n (min (d / 64) (2 ^ 32 - 1) : Nat) 6

/-- The first instant at which the command leaves the high level in the parts of an interval that begins at e, 0 none; `hi`: it is high just
before e. -/
def turnOffAt : Bool → Nat → List Seg → Nat
  | _, _, [] => 0
  | hi, e, a :: rest => if hi && !a.hi && a.len != 0 then e else turnOffAt (if a.len = 0 then hi else a.hi) (e + a.len) rest

/-! ### Leg reload -/

/-- The stage's legs whose active set is FORCE OFF (a disabled leg stays OFF). -/
def State.allForcedOff (s : State) (t : Stage) : Bool :=
  t.legs.all fun n => s.act n 5 == 3 || !s.fb Reg.LEG_CFG_ENABLE n

/-- FORCE OFF committed by the stop sequence reaches a reload at r under R304. -/
def State.stopMeets (s : State) (t : Stage) (r : Nat) : Bool :=
  (s.stg t).stopping && s.vn .stopForceAt t.idx != 0 && s.vn .stopForceAt t.idx / Clk.pulse + 2 ≤ r / 64

/-- The FORCE OFF commit of the stop sequence has completed by a reload at r that it does not meet (R304, R305). -/
def State.stopMisses (s : State) (t : Stage) (r : Nat) : Bool :=
  (s.stg t).stopping && s.vn .stopForceAt t.idx != 0 && s.vn .stopForceAt t.idx / Clk.pulse ≤ r / 64
  && r / 64 < s.vn .stopForceAt t.idx / Clk.pulse + 2

/-- The pending set that a reload at r meets becomes the active set; whether one did (R303 to R305). The stop sequence's FORCE OFF replaces
a set that is still pending (R47, R306). -/
def State.takePending (s : State) (t : Stage) (n r : Nat) : State × Bool :=
  if s.stopMeets t r then
    let took := s.act n 5 != 3
    let s := s.when (s.on .legPending n) fun s => s.addF Reg.LEG_COUNTERS n 1 2
    let s := s.when (took && s.on .stopLate n) fun s => (s.addF Reg.LEG_COUNTERS n 1 1).noteAt Ev.LATE_COMMIT t n
    let s := (s.setOn .stopLate n false).when took fun s => s.addF Reg.LEG_COUNTERS n 1 0
    ((((s.setF Reg.LEG_ACTIVE n 3 5).setOn .legPending n false).setFb Reg.LEG_CTRL_COMMIT n false), took)
  else
  let s := s.when (s.stopMisses t r && s.act n 5 != 3) fun s => s.setOn .stopLate n true
  if s.on .legPending n && s.vn .legCommitAt n / Clk.pulse + 2 ≤ r / 64 then
    let s := s.each (List.range 6) fun s k => s.setF Reg.LEG_ACTIVE n (s.v .legPend (n * 8 + k)) k
    let s := s.when (2 ≤ s.carrierMode t && s.act n 3 < s.f Reg.LEG_MIN_MIN_PULSE n * 64) fun s =>
      s.setF Reg.LEG_ACTIVE n (s.f Reg.LEG_MIN_MIN_PULSE n * 64 : Nat) 3
    let s := (((s.setOn .legPending n false).setFb Reg.LEG_CTRL_COMMIT n false).addF Reg.LEG_COUNTERS n 1 0)
    let s := s.when (s.on .legLate n) fun s => (s.addF Reg.LEG_COUNTERS n 1 1).noteAt Ev.LATE_COMMIT t n
    (s.setOn .legLate n false, true)
  else
    (s.when (s.on .legPending n) fun s => s.setOn .legLate n true, false)

/-- Why a leg issues no high or low command of its own at a reload: disabled, latched, not yet live, or both commands off. -/
def State.legDark (s : State) (t : Stage) (n : Nat) : Bool :=
  !s.fb Reg.LEG_CFG_ENABLE n || s.fb Reg.LEG_STATUS_LATCHED n || !(s.st t).isRunning || !s.on .legLive n || s.act n 5 == 3

/-- The commands of a leg during the interval that begins at a reload, and the carry (R298 to R302, R311 to R314, R323); d is the change of
phase that the reload brings. -/
def State.runInterval (s : State) (t : Stage) (n r : Nat) (d : Int) : State :=
  let lv := s.vn .legLevel n
  let s := s.setV .legHighEnd n (if lv == 1 then r else 0 : Nat)
  let c := s.fi Reg.LEG_CARRY n
  if s.legDark t n then
    let s := s.when (s.act n 5 == 3 && s.on .legLive n) fun s => (s.discardCarry n c).setF Reg.LEG_CARRY n 0
    (s.levelChange n lv 0 r true false).setV .legLevel n 0
  else if s.fb Reg.LEG_STATUS_TRIPPED n then
    let lv' := if s.fb Reg.LEG_TRIP_ACTION n then 2 else 0
    (s.levelChange n lv lv' r true false).setV .legLevel n lv'
  else if s.act n 5 == 1 || s.act n 5 == 2 then
    let s := (s.discardCarry n c).setF Reg.LEG_CARRY n 0
    let s := if s.act n 5 == 1 then s.setV .legHighEnd n 0 else s
    (s.levelChange n lv (s.act n 5) r true false).setV .legLevel n (s.act n 5)
  else
    let (segs, _, lost) := s.interval t n r c d
    let s := s.discardCarry n lost
    let endMin := s.vn .legEndMin n
    let segs := if lv != 0 && r < endMin then holdSegs (lv == 1) (endMin - r) segs else segs
    let prev := if lv == 0 then none else some (lv == 1)
    let o := evalSegs (s.deadTime (2 * n)) (s.deadTime (2 * n + 1)) (s.minPulse (2 * n)) (s.f Reg.LEG_CFG_SHORT_MODE n)
      (s.nextSegs t n r) 8 prev (mergeSegs segs)
    let len := o.segs.foldl (fun x a => x + a.len) 0
    let s := (s.setF Reg.LEG_CARRY n o.carry).addF Reg.LEG_COUNTERS n o.removed 5
    let s := s.setV .legEndMin n (if o.beyond = 0 then 0 else r + len + o.beyond : Nat)
    let s := s.setV .legHighEnd n (turnOffAt (lv == 1) r (mergeSegs o.segs) : Nat)
    s.scheduleSegs n true r lv (mergeSegs o.segs)

/-- The leg is the reference leg of its stage (Table 8-8). -/
def State.isRef (s : State) (t : Stage) (n : Nat) : Bool := n == t.legBase + s.f Reg.PULSE_CARRIER_REF_LEG t.idx

/-- The first of the instants a, a + p, … and a - p, a - 2p, … that is not before x. -/
def firstFrom (a p x : Nat) : Nat := ((x : Int) + ((a : Int) - x) % (p : Int)).toNat

/-- The PERIOD_MIDDLE that the reference leg of a variable mode gives: its high-side turn-off command, if the interval has one
(Table 8-2). -/
def State.middleOf (s : State) (t : Stage) (n : Nat) : State :=
  s.setDue .periodMiddle t.idx (if s.on .legHighEnd n then some (vcoOf (s.vn .legHighEnd n)) else none)

/-- The next PERIOD_START of a variable mode: the reference leg's next reload. While the PERIOD_START of its present reload has still to
come, it waits for that one. -/
def State.startOf (s : State) (t : Stage) (nx : Nat) : State :=
  if s.isOpen .periodStart t.idx && s.vn .perNext t.idx < nx && s.vn .perNext t.idx ≤ s.vn .legStart (t.legBase + s.f Reg.PULSE_CARRIER_REF_LEG t.idx)
  then s.setV .perLater t.idx nx
  else (s.setV .perNext t.idx nx).setDue .periodStart t.idx (some (vcoOf nx))

/-- The next reload of a leg outside CENTRE, whose carrier events set it (R299, R300), and in a variable mode the carrier events
that the reference leg gives (Table 8-2). -/
def State.nextReload (s : State) (t : Stage) (n r : Nat) (d : Int) : State :=
  let per := s.f Reg.PULSE_PERIOD_NOW t.idx
  match s.carrierMode t with
  | 0 => s
  | 1 =>
    let nx := ((r : Int) + per + d).toNat
    (s.setV .legNext n nx).setDue .legReload n (some (vcoOf nx))
  | m =>
    let nx := r + max (constParts m (s.act n 3) (s.act n 4) per none).2 1
    let s := (s.setV .legNext n nx).setDue .legReload n (some (vcoOf nx))
    if s.isRef t n then (s.startOf t nx).middleOf t n else s

/-- A leg reload (R303): a trip of an earlier cycle clears, with its CBC_TRIP (R323), the pending set may become active, the leg's commands of the
new interval are scheduled, and the stage enters STOPPED when FORCE OFF is active on its last leg (R47). -/
def State.legReload (s : State) (n : Nat) : State :=
  s.expire .legReload n fun s =>
    let t := Stage.ofLeg n
    let r := s.vn .legNext n
    let s := ((s.recordTouched.setV .legStart n r).setV .legMode n (s.carrierMode t : Nat)).setOn .legTermed n false |>.when (!s.fb Reg.PULSE_DLL_FALLBACK) fun s => s.setOn .legWhole n false
    let fresh := s.fb Reg.LEG_STATUS_TRIPPED n && r / 64 * Clk.pulse ≤ s.vn .legTripAt n
    let s := (s.setFb Reg.LEG_STATUS_TRIPPED n fresh).setOn .legTripCounted n fresh
    let s := if fresh then s else s.noteEnds Ev.CBC_TRIP n
    let oldPhase := s.act n 2
    let (s, took) := s.takePending t n r
    let s := s.when (took && (s.st t).isRunning && s.act n 5 != 3) fun s => s.setOn .legLive n true
    let d := s.phaseDelta t n oldPhase
    let s := s.runInterval t n r d
    let s := s.nextReload t n r d
    if s.stopMeets t r && s.allForcedOff t then s.finishStop t else s

/-! ### Command edges at the output stage (R310, R314, R315, R344) -/

/-- The first scheduled edge of a channel: the earliest, and of equal instants the one scheduled first. -/
def State.firstEdge (s : State) (c : Nat) : Option Edge :=
  (s.edges.filter fun e => e.ch == c).foldl (fun a e => match a with
    | none => some e
    | some x => if e.t < x.t then some e else some x) none

/-- Move a scheduled edge to another instant; whether a hand-over gap is the reason. -/
def State.moveEdge (s : State) (e : Edge) (t : Nat) (gap : Bool := false) : State :=
  { s with edges := (s.edges.filter (· != e)) ++ [{ e with t := t, gap := e.gap || gap }] }

/-- A delay by the guard outside its expected cases (R315). -/
def State.guardCorrection (s : State) (c limit : Nat) : State :=
  (s.addF Reg.LEG_COUNTERS (c / 2) 1 8).noteAt Ev.GUARD_CORRECTION (Stage.ofLeg (c / 2)) c limit

/-- The command flag of a channel in its leg's status. -/
def State.setCommand (s : State) (c : Nat) (b : Bool) : State :=
  (s.setOn .chCmd c b).setFb (if c % 2 = 0 then Reg.LEG_STATUS_HIGH_ON else Reg.LEG_STATUS_LOW_ON) (c / 2) b

/-- The gate enable of a channel's stage group is present (R369). -/
def State.enabled (s : State) (c : Nat) : Bool :=
  (s.f Reg.GD_STATUS_ENABLE_SG).testBit (Stage.ofLeg (c / 2)).group

/-- The driver has lost its command path and has not yet had it valid again for 10 us (R365). -/
def State.pathLost (s : State) (c : Nat) : Bool := s.on .chPathLost c && !s.ended 1 .cmdValid c
  && !(s.on .chPathBack c && s.vn .chPathBack c - 1 + us 10 ≤ s.now)

/-- The driver turns its channel on at a sub-step: the integral of the hard-short detector is zero and blanking starts (R367, R372). -/
def State.driveOn (s : State) (c t : Nat) : State :=
  let tripped := s.fb Reg.CH_STATUS_TRIPPED c
  let s := ((s.setOn .chDrive c true).setV .chOnAt c (t : Nat)).setFb Reg.CH_STATUS_CLAMP c false
  let s := (((s.setV .phi c 0).setOn .chPathLost c false).setOn .chOffShown c false).close .cmdValid c
  if tripped then
    ((s.setFb Reg.CH_STATUS_TRIPPED c false).clearCause Ev.DESAT_TRIP c).clearCause Ev.SHORT_TRIP c
  else s

/-- The partner counts as on under R363: a soft, detector, trip or enable turn-off whose read-back has not shown off. -/
def State.partnerHolds (s : State) (c : Nat) : Bool :=
  let p := partner c
  s.on .chOffSpecial p && s.fb Reg.CH_STATUS_GATE p

/-- A turn-on edge at the output stage; a delay that a hand-over gap of its partner's turn-off causes, or a turn-off of R363 whose read-back
began the dead time, is expected (R315). An edge during a soft turn-off is ignored and counted (R368). -/
def State.onEdge (s : State) (e : Edge) : State :=
  let c := e.ch
  let p := partner c
  let drop (s : State) : State := { s with edges := s.edges.filter (· != e) }
  let earliest := s.wholeUp c (s.vn .chOffAt p + s.deadTime c)
  if s.fb Reg.CH_STATUS_SOFT_OFF c then ((drop s).setCommand c true).addF Reg.CH_COUNTERS c 1 6
  else if !s.enabled c || s.on .chUvlo c || s.pathLost c then (drop s).setCommand c true
  else if s.partnerHolds c then ((drop s).setCommand c true).setOn .chWait c true
  else if s.on .chDrive p then
    (s.moveEdge e (e.t + s.deadTime c)).guardCorrection c 0
  else if s.on .chDriven p && e.t < earliest then
    if e.gap || s.on .gapOff p then s.moveEdge e earliest true
    else if s.on .chOffSpecial p then s.moveEdge e earliest
    else (s.moveEdge e earliest).guardCorrection c 0
  else ((((drop s).setCommand c true).setOn .chDriven c true).setOn .gapOn c e.gap).driveOn c e.t

/-- A turn-off edge at the output stage: held until MIN_PULSE after the channel's turn-on, which is expected where a hand-over gap delayed
that turn-on (R315). -/
def State.offEdge (s : State) (e : Edge) : State :=
  let c := e.ch
  let earliest := s.wholeUp c (s.vn .chOnAt c + s.minPulse c)
  let drop (s : State) : State := { s with edges := s.edges.filter (· != e) }
  if s.on .chDrive c && e.t < earliest then
    let gap := e.gap || s.on .gapOn c
    let s := s.moveEdge e earliest gap
    let later := earliest + s.deadTime (partner c)
    let s := { s with edges := s.edges.map fun (x : Edge) =>
      if x.ch == partner c && x.on && e.t ≤ x.t && x.t < later then { x with t := later } else x }
    if e.moved then s.addF Reg.LEG_COUNTERS (c / 2) 1 7 else if gap then s else s.guardCorrection c 1
  else
    let s := (((drop s).setCommand c false).setOn .chWait c false).setOn .gapOff c e.gap
    if s.on .chDrive c then
      ((((s.setOn .chDrive c false).setV .chOffAt c (e.t : Nat)).setOn .chOffSpecial c false).setV .phi c 0).setOn .chOffShown c false
    else s

/-- A turn-on that the output stage issues of its own for an active short circuit (R341, R371). -/
def State.ownEdge (s : State) (e : Edge) : Bool := e.on && e.ch % 2 == 1 && s.on .ascOut (Stage.ofLeg (e.ch / 2)).idx

/-- A scheduled command edge of a channel reaches the output stage. No engine's words are accepted after R341 and R342; in a
hand-over gap the edge waits for tap 0 of cycle d + 4 (R344). -/
def State.commandEdge (s : State) (c : Nat) : State :=
  match s.firstEdge c with
  | none => s
  | some e =>
    let s := { s with now := max s.now (vcoOf e.t) }
    if s.ownEdge e then s.onEdge e
    else if s.on .enginesDead then { s with edges := s.edges.filter (· != e) }
    else if s.vn .gapFrom ≤ vcoOf e.t && vcoOf e.t < s.vn .gapEnd then s.moveEdge e (subOf (s.vn .gapEnd)) true
    else if e.on then s.onEdge e else s.offEdge e

/-- A scheduled command edge of a channel (R310). -/
def execCommandEdge (channel : Fin 64) (s : State) : Host.Outcome State Fault Refusal := done (s.commandEdge channel.val)

/-- A leg reload (R303). -/
def execLegReload (leg : Fin 32) (s : State) : Host.Outcome State Fault Refusal := done (s.legReload leg.val)

/-- A commit completes: the leg's shadow set is copied into its pending set (R303). -/
def execCommitComplete (leg : Fin 32) (s : State) : Host.Outcome State Fault Refusal :=
  done (s.expire .commit leg.val fun s => s.commitLeg leg.val)

/-- The leg's commands follow its PWM schedule: not dark, not tripped, not forced (R302, R323). -/
def State.legPwm (s : State) (t : Stage) (n : Nat) : Bool :=
  !s.legDark t n && !s.fb Reg.LEG_STATUS_TRIPPED n && s.act n 5 == 0

/-- The edges of a leg whose variable part ends: in CONST_OFF its high side turns off `on` sub-steps after its reload r; where the carrier has
changed its mode, both channels are off from the end e of the leg's last period in the old one until its reload nx (R296, R300). -/
def State.terminateEdges (s : State) (n m r on e nx : Nat) : State :=
  let now := subOf s.now
  let rest := if e < nx then 0 else 2
  if m = 3 then
    let s := { s with edges := s.edges.filter fun x => !(x.ch / 2 == n && now ≤ x.t && x.t != r && !(x.ch == 2 * n && x.on)) }
    let s := s.when (s.vn .legHighEnd n != r) fun s => s.setV .legHighEnd n (r + on : Nat)
    ((s.levelChange n 1 2 (r + on) true false).levelChange n 2 rest e true false).setV .legLevel n rest
  else if s.vn .legLevel n == 0 then
    let s := { s with edges := s.edges.filter fun x => !(x.ch == 2 * n + 1 && !x.on && now ≤ x.t) }
    (s.levelChange n 2 rest e true false).setV .legLevel n rest
  else s

/-- The variable part of a leg's period ends at tap 0 of the first PULSE cycle at least 2 cycles after the condition is
registered (R301); a condition after that one has no effect on the period (R300). The period is that of the mode in which it began, whatever
mode the carrier has taken since (R296). -/
def State.terminate (s : State) (n : Nat) : State :=
  let t := Stage.ofLeg n
  let m := s.vn .legMode n
  if !s.isOpen .legReload n || m < 2 || s.f Reg.LEG_CFG_TERM_SRC n == 0 || s.on .legTermed n then s
  else
    let r := s.vn .legStart n
    let cut := subOf ((s.now + Clk.pulse - 1) / Clk.pulse * Clk.pulse) + 128
    let per := s.f Reg.PULSE_PERIOD t.idx * 64
    let timeA := s.act n 3
    let x := if m = 2 then cut - (r + timeA) else cut - r
    let (on, len) := constParts m timeA (s.act n 4) per (some x)
    let (on0, len0) := constParts m timeA (s.act n 4) per none
    if on0 ≤ on && len0 ≤ len then s
    else
      let e := r + max len 1
      let mode := s.carrierMode t
      let nx := if mode == 1 then firstFrom (s.vn .legNext n) (max (s.f Reg.PULSE_PERIOD_NOW t.idx) 1) e else e
      let s := ((s.setV .legNext n nx).setDue .legReload n (some (vcoOf nx))).setOn .legTermed n true
      let ref := s.isRef t n
      let s := (s.setV .legEndMin n 0).when (ref && mode != 1) fun s =>
        if mode == m then s.startOf t nx else (s.setV .perNext t.idx nx).setDue .periodStart t.idx (some (vcoOf nx))
      if s.legPwm t n then (s.terminateEdges n m r on e nx).when (ref && s.isOpen .periodMiddle t.idx) fun s => s.middleOf t n
      else s

/-! ### Carriers (R291 to R297, R318, R320) -/

/-- The instant and spacing a synchronised and locked carrier of a period aligns to: SYNC_IN time-stamps or colony cycle starts, with
OFFSET (R318, R320). -/
def State.alignTo (s : State) (t : Stage) (per : Nat) : Option (Nat × Nat) :=
  let off := s.f Reg.PULSE_SYNC_OFFSET t.idx * per / 1024
  if s.carrierMode t ≥ 2 then none
  else if s.f Reg.PULSE_SYNC_SRC t.idx == 1 && s.fb Reg.PULSE_STATUS_LOCKED t.idx then
    some (s.vn .syncEdge + off, s.vn .lockedPer t.idx)
  else if s.f Reg.PULSE_SYNC_SRC t.idx == 2 && s.fb Reg.PULSE_STATUS_LOCKED t.idx && s.vn .cycleStartAt != 0 then
    some (subOf (s.vn .cycleStartAt) + off, per)
  else none

/-- On entry to ARMED: the legs' sets, the mode in force, and the carrier's start at the first SLOW edge, or for a locked stage the
first aligned instant, at least 2 us after the entry (R295, R307). -/
def State.carrierArm (s : State) (t : Stage) : State :=
  let s := s.each t.legs State.legArm
  let s := s.setF Reg.PULSE_STATUS_MODE t.idx (s.f Reg.PULSE_CARRIER_MODE t.idx)
  let s := s.setF Reg.PULSE_PERIOD_NOW t.idx (s.f Reg.PULSE_PERIOD t.idx * 64 : Nat)
  let e := s.now + us 2
  let own := s.f Reg.PULSE_PERIOD t.idx * 64
  let per := if s.f Reg.PULSE_SYNC_SRC t.idx == 1 then s.vn .lockedPer t.idx * 2 ^ s.f Reg.PULSE_SYNC_RATIO t.idx else own
  let start : Nat := match s.alignTo t per with
    | some (a, p) => if p = 0 then subOf (divUp e Clk.slow * Clk.slow) else firstFrom a p (divUp (e * 32) 5)
    | none => subOf (divUp e Clk.slow * Clk.slow)
  (s.setV .perNext t.idx start).setDue .carrierStart t.idx (some (max (vcoOf start) s.now))

/-- The carrier starts: it runs, and its PERIOD_START is due in this cycle, at the tap of an aligned instant. -/
def State.carrierBegin (s : State) (t : Stage) : State :=
  s.expire .carrierStart t.idx fun s =>
    let x := s.vn .perNext t.idx
    let s := s.setFb Reg.PULSE_STATUS_RUN t.idx true
    let s := (s.setV .perStart t.idx x).setV .perLater t.idx 0
    (s.setDue .periodStart t.idx (some (vcoOf x))).setOn .syncWas t.idx (s.fb Reg.PULSE_STATUS_LOCKED t.idx)

/-- After ARM the stage's carrier starts (R295). -/
def execCarrierStart (t : Stage) (s : State) : Host.Outcome State Fault Refusal := done (s.carrierBegin t)

/-- The period a carrier takes before alignment: the locked one, the last locked one after a loss, or PERIOD; L moves back to
PERIOD once SYNC_FREE has passed without lock, and runs at PERIOD when it comes back to PHASE without lock (R318 to R320, R413, R414). -/
def State.basePeriod (s : State) (t : Stage) : Nat :=
  let own := s.f Reg.PULSE_PERIOD t.idx * 64
  if s.f Reg.PULSE_SYNC_SRC t.idx == 1 && s.vn .lockedPer t.idx != 0
      && (s.fb Reg.PULSE_STATUS_LOCKED t.idx || s.fb Reg.PULSE_STATUS_SYNC_LOST t.idx) && s.carrierMode t < 2
      && !(t == .L && s.on .freeRun && !s.fb Reg.PULSE_STATUS_LOCKED t.idx) then
    if t == .L && s.on .syncFreeing && !s.fb Reg.PULSE_STATUS_LOCKED t.idx then
      let cur := s.f Reg.PULSE_PERIOD_NOW t.idx
      if cur ≤ own then min own (cur + own / 64) else max own (cur - own / 64)
    else s.vn .lockedPer t.idx * 2 ^ s.f Reg.PULSE_SYNC_RATIO t.idx
  else own

/-- The correction of the next period that brings the PERIOD_START after it to the nearest aligned instant, at most PERIOD / 64, and
whether it was clamped (R318). -/
def alignBy (target base spacing limit : Nat) : Int × Bool :=
  if spacing = 0 then (0, false)
  else
    let d := ((target : Int) - base) % spacing
    let d := if (spacing : Int) < 2 * d then d - spacing else d
    (clampI (-(limit : Int)) limit d, d < -(limit : Int) || (limit : Int) < d)

/-- R296 at PERIOD_START: the carrier takes its new mode. -/
def State.changeMode (s : State) (t : Stage) : State :=
  if !s.fb Reg.PULSE_STATUS_MODE_PENDING t.idx then s
  else
    let m := s.vn .modeNext t.idx
    let s := s.when (t == .L && 2 ≤ s.carrierMode t && m < 2 && !s.fb Reg.PULSE_STATUS_LOCKED t.idx) fun s => s.setOn .freeRun 0 true
    let s := (s.setF Reg.PULSE_STATUS_MODE t.idx m).setFb Reg.PULSE_STATUS_MODE_PENDING t.idx false
    s.noteAt Ev.CARRIER_MODE_CHANGED t m

/-- R296 for the legs of a stage whose mode changes at the PERIOD_START of instant x: each completes its present period, then holds both
channels off until its first reload in the new mode, which in PHASE is the first instant of its phase and otherwise the end of that
period; the reference leg's is a PERIOD_START (Table 8-2). -/
def State.changeLegs (s : State) (t : Stage) (x per : Nat) : State :=
  s.each t.legs fun s n =>
    let old := match s.due .legReload n with
      | some _ => max (s.vn .legNext n) x
      | none => x
    let first := if s.carrierMode t == 1 then firstFrom (x + phaseSub (s.act n 2) per) (max per 1) old else old
    let s := if old < first then ((s.levelChange n (s.vn .legLevel n) 0 old true false).setV .legLevel n 0).setV .legEndMin n 0 else s
    let s := (s.setV .legNext n first).setDue .legReload n (some (vcoOf first))
    if s.carrierMode t != 1 && x < first && s.isRef t n then
      (s.setV .perNext t.idx first).setDue .periodStart t.idx (some (vcoOf first))
    else s

/-- The SYNC_FREE window of L has passed without lock: its period moves back to PERIOD (R413). -/
def State.syncFreed (s : State) : State := match s.due .syncFree with
  | some e => if e ≤ s.now && !s.fb Reg.PULSE_STATUS_LOCKED 2 then (s.setOn .syncFreeing 0 true).close .syncFree else s
  | none => s

/-- The trip record of a stage moves on to a new carrier period (R377). -/
def State.newTripPeriod (s : State) (t : Stage) : State :=
  let s := (s.setV .multiTag t.idx 0).setV .multiMax t.idx 0
  ((s.setF Reg.GD_STAGE_STATUS_PREV t.idx (s.f Reg.GD_STAGE_STATUS_NOW t.idx)).setF Reg.GD_STAGE_STATUS_NOW t.idx
    0).setFb Reg.GD_STAGE_STATUS_CAUSE t.idx false

/-- A trip registered in the PULSE cycle of a PERIOD_START belongs to the period that begins there, whichever of the two commands comes
first (R377). -/
def State.tripPeriod (s : State) (t : Stage) : State := match s.due .periodStart t.idx with
  | some e => if e ≤ s.now && !s.on .tripPer t.idx then (s.newTripPeriod t).setOn .tripPer t.idx true else s
  | none => s

/-- An instant of an edge of an engine's words that falls into the hand-over gap is tap 0 of the cycle after it (R344). -/
def State.afterGap (s : State) (v : Nat) : Nat := if s.vn .gapFrom ≤ v && v < s.vn .gapEnd then s.vn .gapEnd else v

/-- The period that opens at x has another length than the one before: a leg whose next period start is still to come starts at its phase of
the new period after its PERIOD_START (R299). -/
def State.rephase (s : State) (n x perOld per : Nat) : State :=
  let nx := s.vn .legNext n
  if perOld = 0 || perOld = per || nx < x then s
  else
    let nx := x + (nx - x) / perOld * per + phaseSub (s.act n 2) per
    (s.setV .legNext n nx).setDue .legReload n (some (vcoOf nx))

/-- The carrier's part of a PERIOD_START: the period is counted, the next one is formed, the legs' reloads are set, and the trip
record of the stage's carrier period moves on (R294, R318, R321, R377); a hand-over gap delays the SYNC_OUT pulse (R344). Nothing happens while the carrier does not run. -/
def State.carrierPeriod (s : State) (t : Stage) : State :=
  s.expire .periodStart t.idx fun s =>
    let x := s.vn .perNext t.idx
    let s := (if t == .L then s.syncFreed else s).recordTouched
    let s := (s.setV .perStart t.idx x).addF Reg.PULSE_COUNTERS t.idx 1 0
    let s := (if s.on .tripPer t.idx then s else s.newTripPeriod t).setOn .tripPer t.idx false
    let change := s.fb Reg.PULSE_STATUS_MODE_PENDING t.idx
    let s := s.changeMode t
    let base := s.basePeriod t
    let (d, clamped) := match s.alignTo t base with
      | some (a, sp) => alignBy a (x + base) sp (base / 64)
      | none => (0, false)
    let per := ((base : Int) + d).toNat
    let perOld := s.f Reg.PULSE_PERIOD_NOW t.idx
    let s := s.when clamped fun s => s.addF Reg.PULSE_COUNTERS t.idx 1 2
    let s := s.setF Reg.PULSE_PERIOD_NOW t.idx per
    let s := s.when change fun s => s.changeLegs t x per
    let s := s.when (s.f Reg.PULSE_SYNC_OUT_SRC == t.idx) fun s =>
      let fall := s.afterGap (vcoOf x + 30 * Clk.pulse)
      (s.setV .syncFall 0 fall).emit (.syncOut (s.afterGap (vcoOf x) + 12 * Clk.pulse) (fall + 12 * Clk.pulse))
    match s.carrierMode t with
    | 0 =>
      let s := s.each t.legs fun s n => (s.setV .legNext n x).setDue .legReload n (some (vcoOf x))
      ((s.setV .perNext t.idx (x + per : Nat)).setDue .periodStart t.idx (some (vcoOf (x + per)))).setDue .periodMiddle t.idx
        (some (vcoOf (x + per / 2)))
    | 1 =>
      let s := s.each t.legs fun s n =>
        if s.isOpen .legReload n then if change then s else s.rephase n x perOld per
        else (s.setV .legNext n (x + phaseSub (s.act n 2) per : Nat)).setDue .legReload n
          (some (vcoOf (x + phaseSub (s.act n 2) per)))
      ((s.setV .perNext t.idx (x + per : Nat)).setDue .periodStart t.idx (some (vcoOf (x + per)))).setDue .periodMiddle t.idx
        (some (vcoOf (x + per / 128 * 64)))
    | _ =>
      let s := if x < s.vn .perLater t.idx then
          (s.setV .perNext t.idx (s.vn .perLater t.idx)).setDue .periodStart t.idx (some (vcoOf (s.vn .perLater t.idx)))
        else s
      (s.setV .perLater t.idx 0).each t.legs fun s n =>
        if s.isOpen .legReload n then s
        else (s.setV .legNext n x).setDue .legReload n (some (vcoOf x))

/-- The carrier's part of a PERIOD_MIDDLE: with UPDATE DOUBLE in CENTRE it is a reload of every leg. -/
def State.carrierMiddle (s : State) (t : Stage) : State :=
  s.expire .periodMiddle t.idx fun s =>
    if s.carrierMode t == 0 && s.fb Reg.PULSE_CARRIER_UPDATE t.idx then
      let x := s.vn .perStart t.idx + s.f Reg.PULSE_PERIOD_NOW t.idx / 2
      s.each t.legs fun s n => (s.setV .legNext n x).setDue .legReload n (some (vcoOf x))
    else s

/-! ### Delay lines (R290) -/

/-- Every leg places its edges on whole PULSE cycles from now on, those that are scheduled too: a turn-on keeps its dead time, in whole
cycles, after its partner's turn-off (R290). -/
def State.wholeCycles (s : State) : State :=
  let s := s.each (List.range 32) fun s n => s.setOn .legWhole n true
  let off (e : Edge) : Nat := ((s.edges.filter fun x => x.ch == partner e.ch && !x.on && x.t ≤ e.t).map fun x => s.place x.ch x.t + s.deadTime e.ch).foldl max
    (if s.on .chDriven (partner e.ch) then s.vn .chOffAt (partner e.ch) + s.deadTime e.ch else 0)
  { s with edges := s.edges.map fun e => { e with t := if e.on then max (s.place e.ch e.t) (s.place e.ch (off e)) else s.place e.ch e.t } }

/-- The span of the taps has deviated by more than 2 taps for 10 us: whole-cycle placement and DLL_REACTION on every stage. -/
def execDllUnlock (span : Nat) (s : State) : Host.Outcome State Fault Refusal :=
  let s := s.wholeCycles.recordTouched
  let s := ((s.setFb Reg.PULSE_DLL_LOCKED 0 false).setFb Reg.PULSE_DLL_FALLBACK 0 true).setF Reg.PULSE_DLL_SPAN 0 span
  done (s.raise { code := Ev.DLL_UNLOCK, reaction := s.f Reg.PULSE_FAULT_DLL_REACTION, stages := Stage.all, lasting := true,
                  d0 := span })

/-- The span has stayed within 1 tap for 1 ms: each leg resumes tap placement at its next reload. -/
def execDllRelocked (span : Nat) (s : State) : Host.Outcome State Fault Refusal :=
  let s := s.recordTouched
  let s := ((s.setFb Reg.PULSE_DLL_LOCKED 0 true).setFb Reg.PULSE_DLL_FALLBACK 0 false).setF Reg.PULSE_DLL_SPAN 0 span
  done ((s.clearCause Ev.DLL_UNLOCK).note Ev.DLL_RELOCKED span)

/-! ### Trips (R322 to R326) -/

/-- The source of a trip: a detector turn-off of a channel of the leg, the leg comparator, the stage regulator. -/
def tripBit (src : TripSrc) : Nat := match src with
  | .desat => 0
  | .cmp => 1
  | .reg => 2

/-- A trip of the reference leg of a variable mode whose high-side command is on ends that command: PERIOD_MIDDLE comes at it (Table 8-2). -/
def State.tripMiddle (s : State) (n at' : Nat) : State :=
  let t := Stage.ofLeg n
  let hi := s.vn .legHighEnd n
  if s.isRef t n && s.isOpen .legReload n && 2 ≤ s.vn .legMode n && (at' < hi || (hi == 0 && s.vn .legLevel n == 1)) then
    (s.setV .legHighEnd n at').middleOf t n
  else s

/-- The leg's commands follow ACTION from the trip until the next reload (R323). -/
def State.tripOutput (s : State) (n : Nat) : State :=
  let at' := s.now / Clk.pulse * 64
  let s := s.tripMiddle n at'
  let lv := s.vn .legLevel n
  let s := (s.setOn .chWait (2 * n) false).setOn .chWait (2 * n + 1) false
  let s := { s with edges := s.edges.filter fun e => e.ch / 2 != n }
  let off (s : State) (c : Nat) : State :=
    let s := s.setCommand c false
    if s.on .chDrive c then
      ((((s.setOn .chDrive c false).setV .chOffAt c (at' : Nat)).setOn .chOffSpecial c true).setV .phi c 0).setOn .chOffShown c false
    else s
  let s := off s (2 * n)
  if s.fb Reg.LEG_TRIP_ACTION n && lv != 0 then
    let s := if s.on .chDrive (2 * n + 1) then s
      else s.addOn (2 * n + 1) (s.onInstant (2 * n + 1) at' (lv == 1))
    s.setV .legLevel n 2
  else (off s (2 * n + 1)).setV .legLevel n 0

/-- A trip counts at most once per reload interval in the window of the leg (R324); the LIMIT-th latches the leg with both channels
off and carries out LATCH_REACTION (R325). `counted`: the interval to which the trip belongs has its trip already. -/
def State.countTrip (s : State) (n : Nat) (soft counted : Bool) : State :=
  if counted then s
  else if soft then ((s.setOn .legTripCounted n true).addF Reg.LEG_COUNTERS n 1 3).addF Reg.LINK_COUNTERS 7
  else
    let t := Stage.ofLeg n
    let s := (s.setOn .legTripCounted n true).addF Reg.LEG_COUNTERS n 1 3
    let stale : Bool := match s.due .tripWindow n with
      | some e => e ≤ s.now
      | none => true
    let s := if stale then
        (s.setF Reg.LEG_STATUS_WIN_COUNT n 1).openSlow .tripWindow n (us (10 * s.f Reg.LEG_TRIP_WINDOW n))
      else s.addF Reg.LEG_STATUS_WIN_COUNT n
    let limit := s.f Reg.LEG_TRIP_LIMIT n
    if limit != 0 && s.f Reg.LEG_STATUS_WIN_COUNT n == limit && !s.fb Reg.LEG_STATUS_LATCHED n then
      let s := (s.setFb Reg.LEG_STATUS_LATCHED n true).addF Reg.LEG_COUNTERS n 1 4
      let s := (s.endCommands n).legOff n
      let s := { s with edges := s.edges.filter fun e => e.ch / 2 != n }
      let f : FaultEvt :=
        { code := Ev.TRIP_LATCH, inst := n, src := t.idx, d0 := n, reaction := s.f Reg.LEG_TRIP_LATCH_REACTION n,
          stages := [t], latched := true }
      (s.setV .legLevel n 0).raise f
    else s

/-- The VCO cycle of a reload of a leg that is due in this PULSE cycle and has still to be carried out: its own, or the carrier event of a
CENTRE carrier that brings it (Table 8-2). -/
def State.reloadNow (s : State) (n : Nat) : Option Nat :=
  let t := Stage.ofLeg n
  let dues := s.due .legReload n :: if s.carrierMode t == 0 then
      s.due .periodStart t.idx :: (if s.fb Reg.PULSE_CARRIER_UPDATE t.idx then [s.due .periodMiddle t.idx] else [])
    else []
  (dues.filterMap id).find? fun e => e ≤ s.now

/-- The interval of a trip registered now has a trip already: the one that begins in this cycle, where a reload of it has still to be carried
out (R31, R323), else the present one (R324). -/
def State.tripAgain (s : State) (n : Nat) : Bool := match s.reloadNow n with
  | some e => s.fb Reg.LEG_STATUS_TRIPPED n && e ≤ s.vn .legTripAt n
  | none => s.on .legTripCounted n

/-- A leg registers a trip from an enabled source (R322): the commands follow ACTION, the trip is reported and counted, and CBC_TRIP stands
until the leg's next reload. -/
def State.cbcTrip (s : State) (n : Nat) (src : TripSrc) : State :=
  if (s.f Reg.LEG_TRIP_SRC n).testBit (tripBit src) then
    let counted := s.tripAgain n
    let s := (s.setFb Reg.LEG_STATUS_TRIPPED n true).setV .legTripAt n (s.now / Clk.pulse * Clk.pulse : Nat)
    let s := s.recordTouched
    let s := s.tripOutput n
    let s := (s.noteAt Ev.CBC_TRIP (Stage.ofLeg n) n (tripBit src)).setCause Ev.CBC_TRIP n false
    let soft := src == .reg && Stage.ofLeg n == .L && s.f Reg.LINK_STATUS_STATE == 1
    let s := if src == .reg && Stage.ofLeg n == .L then s.setOn .regClim 0 true else s
    s.countTrip n soft counted
  else s

/-- A trip-count window of a leg ends. -/
def execTripWindowEnd (leg : Fin 32) (s : State) : Host.Outcome State Fault Refusal :=
  done (s.expire .tripWindow leg.val fun s => s.setF Reg.LEG_STATUS_WIN_COUNT leg.val 0)

end Sys2Proof.Machine
end

