-- ==== Sys2Proof/Machine/Gate.lean ====
section
/-!
DEFINITION. Gate drive and switch protection (chapter 10): detectors, soft turn-off, read-back, isolation links, the timing
trim, leg temperatures, gate enables, staggered turn-off and multi-leg trips.
-/

namespace Sys2Proof.Machine

/-! ### Detectors (R372 to R378) -/

/-- The group tag of the detector trips of a stage's present carrier period; its first trip takes a new one (R378). -/
def State.periodTag (s : State) (t : Stage) : Nat × State :=
  if s.vn .multiTag t.idx != 0 then (s.vn .multiTag t.idx, s)
  else
    let (tag, s) := s.nextTag
    (tag, s.setV .multiTag t.idx tag)

/-- The instant of a channel's gate edge: 100 ns after its command instant (R360). -/
def State.gateEdge (s : State) (c : Nat) : Nat := s.vn .chOnAt c * 5 / 32 + 300

/-- BLANK in VCO cycles: 100 ns + 50 ns x code. -/
def State.blank (s : State) (c : Nat) : Nat := 300 + 150 * s.f Reg.CH_DESAT_BLANK c

/-- The 5 ns detector cycle of an instant. -/
def detCycle (t : Nat) : Nat := t / 15

/-- A command turn-off edge of the channel has come in this detector cycle: a trip of the cycle still takes place (R373). -/
def State.justOff (s : State) (c : Nat) : Bool :=
  !s.on .chDrive c && s.on .chDriven c && !s.on .chOffSpecial c && detCycle (s.vn .chOffAt c * 5 / 32) == detCycle s.now

/-- A detector turns its channel off, also when a command turn-off edge has come in the same detector cycle (R373). -/
def State.detectorOff (s : State) (c : Nat) : State := (if s.justOff c then s.setOn .chDrive c true else s).turnOff c

/-- A detector turns its own channel off (R373, R374) and its reaction is carried out under the period's tag (R376, R378), but after a
multi-leg trip of the period only a higher code than those already carried out (R378). -/
def State.detectorTrip (s : State) (c : Nat) (short : Bool) : State :=
  let t := Stage.ofLeg (c / 2)
  let s := (s.detectorOff c).tripPeriod t
  let s := ((s.setFb Reg.CH_STATUS_TRIPPED c true).setFb Reg.CH_STATUS_DESAT c (!short)).setFb Reg.CH_STATUS_SHORT c short
  let s := s.addF Reg.CH_COUNTERS c 1 (if short then 1 else 0)
  let (tag, s) := s.periodTag t
  let r := if short then s.f Reg.CH_FAULT_SHORT_REACTION c else s.f Reg.CH_FAULT_DESAT_REACTION c
  let done := s.fb Reg.GD_STAGE_STATUS_CAUSE t.idx && r ≤ s.vn .multiMax t.idx
  let s := (s.setV .multiMax t.idx (max (s.vn .multiMax t.idx) r : Nat)).setV .tripTag (c / 2) (16 * tag + r : Nat)
  let f : FaultEvt :=
    { code := if short then Ev.SHORT_TRIP else Ev.DESAT_TRIP, inst := c, src := t.idx, d0 := c, reaction := r,
      stages := if done then [] else [t], lasting := true, tag := tag }
  s.raise f


/-- One 5 ns evaluation of the hard-short integral with its leak time constant of 2.0 us: the integral decays by exp(-1/400), and the
voltage of the cycle adds 2,000 ns x (1 - exp(-1/400)), both to 12 digits (R372; assumption entry 189). -/
def fluxStep (phi v : Int) : Int := divOpen (phi * 997503122397 + v * 4993755205080) 1000000000000

/-- The integral after the evaluations of a list of voltages. -/
def fluxOf (phi : Int) (vks : List Int) : Int := vks.foldl fluxStep phi

/-- The integral reaches a limit in one of the evaluations of a list of voltages. -/
def fluxReaches (limit : Nat) : Int → List Int → Bool
  | _, [] => false
  | phi, v :: rest => limit ≤ (fluxStep phi v).natAbs || fluxReaches limit (fluxStep phi v) rest

/-- The driver drives the channel on, or its command turn-off edge falls into this detector cycle (R373), at least len after the gate edge. -/
def State.detects (s : State) (c len : Nat) : Bool := (s.on .chDrive c || s.justOff c) && s.gateEdge c + len ≤ s.now

/-- The hard-short detector of a channel trips with these voltages: from the gate edge, never blanked, when one evaluation of the integral
reaches LIMIT in 50 V ns steps; the low-voltage channels have no such detector (R372). -/
def State.shortTrips (s : State) (c : Nat) (vks : List Int) : Bool :=
  isolated c && s.detects c 0 && s.fb Reg.CH_SHORT_ENABLE c && fluxReaches (50000 * s.f Reg.CH_SHORT_LIMIT c) (s.v .phi c) vks

/-- A waiting command brings a hard-short trip of the channel in this same detector cycle: the module registers the one trip of kind SHORT
(R373). -/
def State.shortToo (s : State) (c : Nat) : Bool := s.pending.any fun i => match i with
  | .shortTrip ch t vks => ch.val == c && detCycle (max s.now t) == detCycle s.now && s.shortTrips c vks
  | _ => false

/-- A desaturation or V_DS trip acts only while the driver drives the channel on, after the gate edge and BLANK. -/
def execDesatTrip (channel : Fin 64) (t : Nat) (s : State) : Host.Outcome State Fault Refusal :=
  let s := { s with now := max s.now t }
  let c := channel.val
  done (if s.fb Reg.CH_DESAT_ENABLE c && s.detects c (s.blank c) && !s.shortToo c then s.detectorTrip c false else s)

/-- A hard-short trip (R372). -/
def execShortTrip (channel : Fin 64) (t : Nat) (vks : List Int) (s : State) : Host.Outcome State Fault Refusal :=
  let s := { s with now := max s.now t }
  let c := channel.val
  done (if s.shortTrips c vks then s.detectorTrip c true
    else if isolated c && s.detects c 0 && s.on .chDrive c then s.setV .phi c (fluxOf (s.v .phi c) vks)
    else s)

/-- A detector trip of a leg takes the group tag of the carrier period in which it is registered, and its reaction counts there, although it
was detected in the period before (R377, R378). -/
def State.registerTrip (s : State) (n : Nat) : State :=
  let t := Stage.ofLeg n
  let s := s.tripPeriod t
  let old := s.vn .tripTag n / 16
  if old = 0 || old = s.vn .multiTag t.idx then s
  else
    let r := s.vn .tripTag n % 16
    let (tag, s) := s.periodTag t
    let s := (s.setV .multiMax t.idx (max (s.vn .multiMax t.idx) r : Nat)).setV .tripTag n (16 * tag + r : Nat)
    let mine (code d0 : Nat) : Bool := (code == Ev.DESAT_TRIP || code == Ev.SHORT_TRIP) && d0 / 2 == n
    { s with
      queue := s.queue.map fun (x : Rec) => if x.group == old && mine x.code x.d0 then { x with group := tag } else x,
      cycleFaults := s.cycleFaults.map fun (m : CycleFault) => if m.tag == old && mine m.code m.d0 then { m with tag := tag } else m }

/-- A detector trip of a leg is registered: with a second leg of the stage in the same carrier period it is a multi-leg trip, whose
reaction the pulse unit starts without pair S; the highest code among MULTI_REACTION and the reactions of the trips of the period, of which
pair S may not have carried out those it holds back while it restarts, is carried out (R377, R378, R545). -/
def State.multiLeg (s : State) (n : Nat) : State :=
  let t := Stage.ofLeg n
  let s := s.registerTrip n
  let old := s.f Reg.GD_STAGE_STATUS_NOW t.idx
  let new := old ||| 2 ^ (n - t.legBase)
  let s := s.setF Reg.GD_STAGE_STATUS_NOW t.idx new
  if old != 0 && new != old && !s.fb Reg.GD_STAGE_STATUS_CAUSE t.idx then
    let s := (s.setFb Reg.GD_STAGE_STATUS_CAUSE t.idx true).addF Reg.GD_STAGE_COUNTERS t.idx
    let (tag, s) := s.periodTag t
    let r := s.f Reg.GD_STAGE_CFG_MULTI_REACTION t.idx
    let f : FaultEvt :=
      { code := Ev.MULTI_LEG_TRIP, inst := t.idx, src := t.idx, d0 := new, reaction := r,
        stages := if r < s.vn .multiMax t.idx then [] else [t], transient := true, hardware := true, tag := tag }
    let top := s.vn .multiMax t.idx
    let s := (s.raise f).setV .multiMax t.idx (max top r : Nat)
    if r < top && s.sBusy then s.carryOut t top Ev.MULTI_LEG_TRIP t.idx else s
  else s

/-- A rail falls below UVLO for its filter time: the channel turns off and stays off (R373, R375). -/
def State.gateUvlo (s : State) (c : Nat) (negative : Bool) : State :=
  let t := Stage.ofLeg (c / 2)
  let neg := negative && isolated c
  if s.fb (if neg then Reg.CH_STATUS_UVLO_NEG else Reg.CH_STATUS_UVLO_POS) c || !s.fb Reg.LEG_CFG_ENABLE (c / 2) then s
  else
    let s := (s.detectorOff c).addF Reg.CH_COUNTERS c 1 2
    let s := s.setFb (if neg then Reg.CH_STATUS_UVLO_NEG else Reg.CH_STATUS_UVLO_POS) c true
    let s := s.setOn .chUvlo c true
    let s := s.when (!isolated c && c % 2 == 1) fun s => s.setFb Reg.GD_STATUS_LV_RAIL_OK 0 false
    let f : FaultEvt :=
      { code := Ev.GATE_UVLO, inst := c, src := t.idx, d0 := c, d1 := if neg then 1 else 0,
        reaction := s.f Reg.CH_FAULT_UVLO_REACTION c, stages := [t], lasting := true }
    s.raise f

/-- A rail falls below UVLO. -/
def execGateUvlo (channel : Fin 64) (negative : Bool) (s : State) : Host.Outcome State Fault Refusal :=
  done (s.gateUvlo channel.val negative)

/-- The rail has stood above its release threshold for 100 us: the channel may turn on at its next turn-on edge. -/
def execUvloRelease (channel : Fin 64) (negative : Bool) (s : State) : Host.Outcome State Fault Refusal :=
  let c := channel.val
  let neg := negative && isolated c
  let s := s.setFb (if neg then Reg.CH_STATUS_UVLO_NEG else Reg.CH_STATUS_UVLO_POS) c false
  let s := s.when (!isolated c && c % 2 == 1) fun s =>
    s.setFb Reg.GD_STATUS_LV_RAIL_OK 0 ((List.range 6).all fun k => !s.fb Reg.CH_STATUS_UVLO_POS (53 + 2 * k))
  done (if s.fb Reg.CH_STATUS_UVLO_POS c || s.fb Reg.CH_STATUS_UVLO_NEG c then s
    else (s.setOn .chUvlo c false).clearCause Ev.GATE_UVLO c)

/-! ### Read-back (R362, R363, R367, R368, R371) -/

/-- The clamp threshold of a channel above VNEG in mV (Table 10-7). -/
def State.clampMv (s : State) (c : Nat) : Nat := 1000 + 500 * s.f Reg.CH_DRIVE_CLAMP_V c

/-- The read-back of a channel shows off for the first time since its turn-off: the dead time of a partner that waited for it starts (R363),
and that of a low side that turns on under R371. -/
def State.shownOff (s : State) (c : Nat) : State :=
  let p := partner c
  let s := (s.when (s.on .chOffSpecial c || s.on .ascWait (c / 2)) fun s => s.setV .chOffAt c (subOf s.now : Nat)).setOn .chOffShown c true
  let s := s.when (s.on .chWait p) fun s => (s.setOn .chWait p false).addOn p (s.wholeUp p (subOf s.now + s.deadTime p))
  s.when (c % 2 == 0 && s.on .ascWait (c / 2)) fun s => s.ascTurnOn (c / 2)

/-- A channel reports its gate state (R362). When the gate of a channel that is off has fallen to CLAMP_V above VNEG, the clamp engages with
CLAMP_EN (R367); in a soft turn-off its end does that (R368). -/
def State.gateReadback (s : State) (c : Nat) (gate : GateSeen) : State := match gate with
  | .on => (s.setFb Reg.CH_STATUS_GATE c true).setOn .chOffShown c false
  | .off mv =>
    let s := s.setFb Reg.CH_STATUS_GATE c false
    let s := if s.on .chOffShown c then s else s.shownOff c
    s.when (mv ≤ s.clampMv c && !s.on .chDrive c && !s.fb Reg.CH_STATUS_SOFT_OFF c && s.fb Reg.CH_DRIVE_CLAMP_EN c) fun s =>
      s.setFb Reg.CH_STATUS_CLAMP c true

/-- A channel's gate crosses the mid-point. -/
def execGateReadback (channel : Fin 64) (gate : GateSeen) (t : Nat) (s : State) : Host.Outcome State Fault Refusal :=
  done (({ s with now := max s.now t }).gateReadback channel.val gate)

/-- A soft turn-off completes: the clamp engages and turn-on edges are no longer ignored (R368); a low side that waited for it to turn on
under R371 does so. -/
def execSoftTurnOffDone (channel : Fin 64) (s : State) : Host.Outcome State Fault Refusal :=
  let c := channel.val
  done (if s.fb Reg.CH_STATUS_SOFT_OFF c then
      let s := (s.setFb Reg.CH_STATUS_SOFT_OFF c false).setFb Reg.CH_STATUS_CLAMP c true
      s.when (c % 2 == 1 && s.on .ascWait (c / 2)) fun s => s.ascTurnOn (c / 2)
    else s)

/-! ### Isolation links (R364 to R366) -/

/-- The cause of a channel's LINK_FAULT clears. -/
def State.linkClear (s : State) (c : Nat) : State :=
  ((s.close .linkValid c).setFb Reg.CH_STATUS_LINK_OK c true).clearCause Ev.LINK_FAULT c

/-- What a status frame says of the command path of its channel: invalid, the path is lost again; 10 us of validity open the way to the next turn-on edge (R365). -/
def State.cmdPath (s : State) (c : Nat) (ok : Bool) : State :=
  if !s.on .chPathLost c || s.ended 1 .cmdValid c then s
  else if !ok then (s.close .cmdValid c).setV .chPathBack c 0
  else if s.isOpen .cmdValid c then s
  else s.openBy 1 .cmdValid c (us 10)

/-- A status frame of a channel is missing or fails its CRC-8: it is counted, and the validity that clears a LINK_FAULT starts anew (R366). -/
def State.frameBad (s : State) (c : Nat) : State :=
  let s := if s.ended 1 .linkValid c then s.linkClear c else s
  ((s.addF Reg.CH_COUNTERS c 1 3).addV .chBadFrames c 1).close .linkValid c

/-- What a valid status frame tells (R364): rails, leg temperature, command path, gate state; a rail below UVLO and a detector turn-off of a
channel that is still driven on are registered by the frame where no urgent symbol has brought them. -/
def State.takeFrame (s : State) (c : Nat) (f : ChFrame) : State :=
  let s := s.setV .chBadFrames c 0
  let s := (s.setF Reg.CH_RAILS_VPOS c f.vpos).setF Reg.CH_RAILS_VNEG c (if isolated c then f.vneg else 0)
  let s := s.when (!isolated c && c % 2 == 1) fun s => s.setF Reg.GD_LV_RAIL 0 f.vpos
  let s := match f.temp with
    | some x => if isolated c && c % 2 == 0 then s.setF Reg.CH_TEMP_T c x else s
    | none => s
  let s := s.cmdPath c f.cmdOk
  let s := if f.gate == s.fb Reg.CH_STATUS_GATE c then s else s.gateReadback c (if f.gate then .on else .off (s.clampMv c + 1))
  let s := (s.when f.uvloPos fun s => s.gateUvlo c false).when (f.uvloNeg && isolated c) fun s => s.gateUvlo c true
  s.when ((f.desat || f.short) && s.on .chDrive c && !s.fb Reg.CH_STATUS_TRIPPED c) fun s => s.detectorTrip c (f.short && isolated c)

/-- A status frame of a channel is due: it brings what it holds, or it is missing or fails its CRC; 10 us of valid frames clear a
LINK_FAULT. -/
def execStatusFrame (channel : Fin 64) (frame : FrameSeen) (t : Nat) (s : State) : Host.Outcome State Fault Refusal :=
  let s := { s with now := max s.now t }
  let c := channel.val
  if !s.fb Reg.LEG_CFG_ENABLE (c / 2) then done s
  else match frame with
  | .missing => done (s.frameBad c)
  | .badCrc => done (s.frameBad c)
  | .good f =>
    let s := s.takeFrame c f
    if s.present Ev.LINK_FAULT c then
      match s.due .linkValid c with
      | none => done (s.openBy 1 .linkValid c (us 10))
      | some e =>
        done (if e ≤ s.now then s.linkClear c else s)
    else done s

/-- Four consecutive frames of a channel are missing or failed: LINK_REACTION. -/
def execLinkFault (channel : Fin 64) (s : State) : Host.Outcome State Fault Refusal :=
  let c := channel.val
  let t := Stage.ofLeg (c / 2)
  if s.vn .chBadFrames c < 4 || s.present Ev.LINK_FAULT c then done s
  else
    let s := (s.setFb Reg.CH_STATUS_LINK_OK c false).addF Reg.CH_COUNTERS c 1 4
    let f : FaultEvt :=
      { code := Ev.LINK_FAULT, inst := c, src := t.idx, d0 := c, reaction := s.f Reg.CH_FAULT_LINK_REACTION c, stages := [t],
        lasting := true }
    done (s.raise f)

/-- A driver has received no valid command signal for 400 ns: soft turn-off; it stays off until the path has been valid for 10 us
and a turn-on edge arrives, whatever the status path does (R365). -/
def execCommandPathLost (path : PathLost) (s : State) : Host.Outcome State Fault Refusal :=
  let c := path.ch.val
  let s := ((s.turnOff c).setOn .chPathLost c true).close .cmdValid c
  done (s.setV .chPathBack c (match path.back with
    | some t => (t + 1 : Nat)
    | none => 0))

/-! ### Timing trim and leg temperature (R361, R380, R381) -/

/-- Twelfths of a picosecond by which the delay of a channel falls short of 60 ns; one tap is 625 of them. -/
def trimWish (ps : Nat) : Int := 12 * (60000 - (ps : Int))

/-- The timing probe of a channel: the trim moves by at most one tap towards 100.0 ns in all. -/
def execSkewMeasure (channel : Fin 64) (ps : Nat) (s : State) : Host.Outcome State Fault Refusal :=
  let c := channel.val
  if !s.fb Reg.LEG_CFG_ENABLE (c / 2) then done s else
  let s := s.setF Reg.CH_TIMING_DELAY c ps
  let old := s.f Reg.CH_TIMING_TRIM c
  let d := 2 * trimWish ps - 1250 * (old : Int)
  let new : Nat := if 625 < d then min 127 (old + 1) else if d < -625 then old - 1 else old
  let s := s.setF Reg.CH_TIMING_TRIM c new
  let limit := new == 0 || new == 127
  let was := s.fb Reg.CH_STATUS_TRIM_LIMIT c
  let s := s.setFb Reg.CH_STATUS_TRIM_LIMIT c limit
  done (if limit && !was then
      s.raise { code := Ev.SKEW_LIMIT, inst := c, src := (Stage.ofLeg (c / 2)).idx, d0 := c, lasting := true }
    else if !limit && was then s.clearCause Ev.SKEW_LIMIT c else s)

/-- The temperature of a thermistor of R ohm in 0.1 degC by the formula of R380, rounded as the spec leaves open. -/
def thermTemp (r r25 b : Nat) : Int :=
  let l := Config.logRatio r r25
  let num : Int := 10 * 5963 * b * 2 ^ 30
  let den : Int := 20 * b * 2 ^ 30 + 5963 * l
  divOpen (2 * num - 5463 * den) (2 * den)

/-- The millisecond thermistor measurement of an isolated leg, in ohm: outside 20 ohm to 2 Mohm a flag is set and no temperature
is stated (a free value). -/
def execThermistorMeasure (leg : Fin 26) (ohms : Nat) (s : State) : Host.Outcome State Fault Refusal :=
  let c := 2 * leg.val
  if !s.fb Reg.LEG_CFG_ENABLE leg.val then done s else
  let s := (s.setFb Reg.CH_STATUS_THERM_OPEN c (2000000 < ohms)).setFb Reg.CH_STATUS_THERM_SHORT c (ohms < 20)
  let s := s.setF Reg.CH_TEMP_R c (min (divOpen ohms 100) 65535)
  if ohms < 20 || 2000000 < ohms then
    let (x, s) := s.takeFree
    done (s.setF Reg.CH_TEMP_T c x)
  else done (s.setF Reg.CH_TEMP_T c (thermTemp ohms (10 * s.f Reg.CH_THERM_R25 c) (s.f Reg.CH_THERM_B c)))

/-! ### Gate enables and staggered turn-off (R369, R370) -/

/-- The gate-enable line of a stage group: on removal every on channel of the group begins its turn-off at once. -/
def State.removeEnable (s : State) (g : Nat) : State :=
  let s := s.setF Reg.GD_STATUS_ENABLE_SG 0 (s.f Reg.GD_STATUS_ENABLE_SG &&& (15 - 2 ^ g) : Nat)
  s.each (Stage.ofGroup g) fun s t => s.each t.chans fun s c => (s.turnOff c).setFb Reg.CH_STATUS_ENABLE c false

/-- The enable of a group returns; no channel turns on by it. -/
def State.restoreEnable (s : State) (g : Nat) : State :=
  let s := s.setF Reg.GD_STATUS_ENABLE_SG 0 (s.f Reg.GD_STATUS_ENABLE_SG ||| 2 ^ g : Nat)
  s.each (Stage.ofGroup g) fun s t => s.each t.chans fun s c => s.setFb Reg.CH_STATUS_ENABLE c true

/-- The gate-enable line of a stage group (0-3) is removed. -/
def execEnableRemoved (group : Fin 4) (s : State) : Host.Outcome State Fault Refusal := done (s.removeEnable group.val)

/-- STAGGER elapses: the next leg with a channel on turns off. -/
def execStaggerSlot (t : Stage) (s : State) : Host.Outcome State Fault Refusal :=
  done (s.expire .stagger t.idx fun s =>
    let on := t.legs.filter fun n => s.on .staggerLeg n && (s.chOn (2 * n) || s.chOn (2 * n + 1))
    match on with
    | [] => s
    | n :: more =>
      let s := s.legOff n
      if more.isEmpty then s else s.openBy Clk.pulse .stagger t.idx (300 * s.f Reg.GD_STAGE_CFG_STAGGER t.idx))

end Sys2Proof.Machine
end

