-- ==== Sys2Proof/Machine/Engines.lean ====
section
/-!
DEFINITION. What the pulse engines hold and give out (R329 to R332): the 40 records with their CRC-16, and the output word of a command
cycle. Both engines hold the state of chapter 8 and compute alike from the same inputs, which every command gives to both; State holds
that state once. What is an engine's own is how a stored CRC differs from that of its record's content, and the word differences that a
command reports.
-/

namespace Sys2Proof.Machine

/-- The end of a window as a record holds it, 0 none. -/
def dueLe (o : Option Nat) : List Byte := le 8 (match o with
  | some t => (t + 1 : Nat)
  | none => 0)

/-- Record n below 32: leg n with its shadow, pending and active sets, carry and trip window. -/
def State.legRecord (s : State) (n : Nat) : List Byte :=
  (shadowFields.flatMap fun f => le 4 (s.f f n)) ++ ((List.range 6).flatMap fun k => le 4 (s.v .legPend (n * 8 + k)))
  ++ ((List.range 6).flatMap fun k => le 4 (s.act n k)) ++ le 4 (s.fi Reg.LEG_CARRY n) ++ le 4 (s.word (Reg.LEG_STATUS_TRIPPED.key n)).toNat
  ++ le 1 (s.v .legPending n + 2 * s.v .legLate n + 4 * s.v .legLive n + 8 * s.v .legTripCounted n + 16 * s.v .legWhole n)
  ++ le 8 (s.v .legCommitAt n) ++ le 8 (s.v .legStart n) ++ le 8 (s.v .legNext n) ++ le 8 (s.v .legEndMin n) ++ le 8 (s.v .legHighEnd n)
  ++ le 8 (s.v .legTripAt n) ++ le 1 (s.v .legLevel n + 4 * s.v .legMode n) ++ dueLe (s.due .legReload n) ++ dueLe (s.due .tripWindow n)

/-- Record 32 + i: the carrier of stage i. -/
def State.carrierRecord (s : State) (i : Nat) : List Byte :=
  le 4 (s.word (Reg.PULSE_STATUS_RUN.key i)).toNat ++ le 4 (s.f Reg.PULSE_PERIOD_NOW i) ++ le 8 (s.v .perStart i) ++ le 8 (s.v .perNext i)
  ++ le 8 (s.v .perLater i) ++ le 1 (s.v .modeNext i) ++ dueLe (s.due .carrierStart i) ++ dueLe (s.due .periodStart i)
  ++ dueLe (s.due .periodMiddle i)

/-- Record 39: synchronisation and DLL state. -/
def State.syncRecord (s : State) : List Byte :=
  le 8 (s.v .syncEdge) ++ le 4 (s.v .syncPrev) ++ le 1 (s.v .syncRun) ++ ((List.range 7).flatMap fun i => le 4 (s.v .lockedPer i))
  ++ le 8 (s.v .cycleStartAt) ++ le 8 (s.v .syncFall) ++ le 4 (s.word (Reg.PULSE_DLL_LOCKED.key 0)).toNat

/-- The content of one of the 40 records (R331). -/
def State.engineRecord (s : State) (k : Nat) : List Byte :=
  if k < 32 then s.legRecord k else if k < 39 then s.carrierRecord (k - 32) else s.syncRecord

/-- The CRC-16 that an engine stores with a record: it follows every write of the record, but for what an upset has changed (R331). -/
def State.storedCrc (s : State) (e k : Nat) : Nat := crc16 (s.engineRecord k) ^^^ s.vn .crcOff (64 * e + k)

/-- The checker finds another CRC-16 than the stored one. -/
def State.crcBad (s : State) (e k : Nat) : Bool := s.storedCrc e k != crc16 (s.engineRecord k)

/-- The record that an engine's checker recomputes in this PULSE cycle: one per cycle in ascending order, 40 in a sweep, counted from the start
(R331; the place of the first sweep is a choice, log entry 206). -/
def State.underCheck (s : State) : Nat := (s.now - s.vn .startAt) / Clk.pulse % 40

/-- An upset of an engine: the stored CRC of the record under check no longer fits its content. -/
def State.upset (s : State) (e : Nat) : State :=
  s.setV .crcOff (64 * e + s.underCheck) (1 + Config.crcUpset s.now % 65535 : Nat)

/-- A passed self-test or a copy leaves an engine with records that fit their CRC (R348, R350). -/
def State.recordsGood (s : State) (e : Nat) : State := s.each (List.range 40) fun s k => s.setV .crcOff (64 * e + k) 0

/-! ### Output words (R332, R333) -/

/-- The output word of an engine for a command cycle: command levels of the channels (bit c), channel and tap of the edges in the cycle, the
SYNC_OUT level, and the stages with a PERIOD_START and a PERIOD_MIDDLE. -/
structure OutWord where
  levels  : Nat
  taps    : List (Nat × Nat)
  sync    : Bool
  starts  : Nat
  middles : Nat
  deriving DecidableEq, Repr

/-- A mask of the numbers below n that satisfy a condition. -/
def maskOf (n : Nat) (p : Nat → Bool) : Nat := (List.range n).foldl (fun m k => if p k then m + 2 ^ k else m) 0

/-- The command level of a channel in command cycle y: that of its last edge up to it. -/
def State.levelIn (s : State) (y c : Nat) : Bool :=
  match (s.edges.filter fun e => e.ch == c && e.t / 64 ≤ y).foldl (fun (a : Option Edge) e => match a with
    | none => some e
    | some x => if x.t ≤ e.t then some e else some x) none with
  | some e => e.on
  | none => s.on .chCmd c

/-- SYNC_OUT has been risen by a PERIOD_START at or before command cycle y and falls after it (R321). -/
def State.syncIn (s : State) (y : Nat) : Bool :=
  let src := s.f Reg.PULSE_SYNC_OUT_SRC
  (y < s.vn .syncFall / Clk.pulse) || (src < 7 && s.isOpen .periodStart src && s.vn .perNext src / 64 ≤ y)

/-- The owner's output word for command cycle y. -/
def State.ownerWord (s : State) (y : Nat) : OutWord :=
  { levels := maskOf 64 (s.levelIn y), taps := (s.edges.filter fun e => e.t / 64 == y).map fun e => (e.ch, e.t % 64), sync := s.syncIn y,
    starts := maskOf 7 fun i => s.isOpen .periodStart i && s.vn .perNext i / 64 == y,
    middles := maskOf 7 fun i => match s.due .periodMiddle i with
      | some e => e / Clk.pulse == y
      | none => false }

/-- A word that differs from this one in the given channels and carrier events, and in SYNC_OUT alone when both are none. -/
def OutWord.deviate (w : OutWord) (channels carriers : Nat) : OutWord :=
  { w with levels := w.levels ^^^ channels, starts := w.starts ^^^ carriers, sync := if channels = 0 && carriers = 0 then !w.sync else w.sync }

/-- The channels in whose level or taps two words differ, and the stages in whose carrier events they do (R333). -/
def OutWord.diff (a b : OutWord) : Nat × Nat :=
  let taps := maskOf 64 fun c => (a.taps.filter fun x => x.1 == c) != b.taps.filter fun x => x.1 == c
  ((a.levels ^^^ b.levels) ||| taps, (a.starts ^^^ b.starts) ||| (a.middles ^^^ b.middles))

end Sys2Proof.Machine
end

