-- ==== Sys2Proof/Machine/Failover.lean ====
section
/-!
DEFINITION. Twin pulse engines and fail-over (chapter 9): the decisions of Table 9-1, the hand-over gap, engine states,
self-test and switch-back.
-/

namespace Sys2Proof.Machine

/-- The owner: 0 PE-A, 1 PE-B. -/
def State.owner (s : State) : Nat := s.f Reg.FO_STATUS_OWNER

/-- An engine's state (Table 9-2). -/
def State.engState (s : State) (e : Nat) : Nat :=
  if e = 0 then s.f Reg.FO_STATUS_STATE_A else s.f Reg.FO_STATUS_STATE_B

/-- Set an engine's state; DEGRADED is set while an engine is neither OWNER nor SPARE (R347). Its clearing belongs to the end of
a switch-back and to the start. -/
def State.setEng (s : State) (e v : Nat) : State :=
  let s := if e = 0 then s.setF Reg.FO_STATUS_STATE_A 0 v else s.setF Reg.FO_STATUS_STATE_B 0 v
  if v = 0 || v = 1 then s else s.setFb Reg.FO_STATUS_DEGRADED 0 true

/-- The standby is in service: SPARE. -/
def State.spareIn (s : State) : Bool := s.engState (1 - s.owner) == 1

/-- Count the set bits of a 64-channel mask, and its first four channels packed from the low byte (R336). -/
def maskChans (m : Nat) : List Nat := (List.range 64).filter fun c => m.testBit c
def firstFour (m : Nat) : Nat := ((maskChans m).take 4).reverse.foldl (fun a c => a * 256 + c) 0

/-! ### What the comparator sees in a PULSE cycle (R333 to R337) -/

/-- An instant lies in the present PULSE cycle. -/
def State.thisCycle (s : State) (t : Nat) : Bool := max s.now t / Clk.pulse == s.now / Clk.pulse

/-- An engine's self-check reads FAIL in this PULSE cycle: it has failed, or a waiting command brings its failure in the cycle. -/
def State.failNow (s : State) (e : Nat) : Bool := s.on .selfFail e || s.pending.any fun i => match i with
  | .selfCheckFail x t => x.val == e && s.thisCycle t
  | _ => false

/-- The channels and the stages that differ: those of the pending decision, and those that a waiting command brings in this cycle (R337). -/
def State.diffNow (s : State) : Nat × Nat := s.pending.foldl (fun m i => match i with
  | .wordMismatch channels carriers _ t => if s.thisCycle t then (m.1 ||| channels, m.2 ||| carriers) else m
  | _ => m) (s.vn .diffChans, s.vn .diffStages)

/-- A decision has been made in this PULSE cycle (R336). -/
def State.decidedNow (s : State) : Bool := s.vn .decideAt == s.now / Clk.pulse + 1

/-- The first of rows 1 to 4 and 9 of Table 9-1 that matches this cycle, with whether a channel contradicts the owner; 0 none. A new owner that
fails within the hand-over gap is row 1 (R346). -/
def State.rowNow (s : State) (contra : Bool) : Nat :=
  let fail := s.failNow s.owner
  let spareFail := s.failNow (1 - s.owner)
  if fail && (!s.spareIn || spareFail || s.now < s.vn .gapEnd) then 1
  else if fail then 2
  else if s.spareIn && spareFail then 3
  else if contra then (if s.spareIn then 4 else 9) else 0

/-- The record of a decision (R336, Table 9-4); a decision ends a pending one. -/
def State.decide (s : State) (row eng mask : Nat) : State :=
  let s := ((s.setF Reg.FO_LAST_ROW 0 row).setF Reg.FO_LAST_CONDEMNED 0 eng).setF Reg.FO_LAST_CHANNELS 0 (maskChans mask).length
  let s := (s.setF Reg.FO_LAST_CYCLE 0 ((s.now - s.vn .startAt) / Clk.pulse : Nat)).setV .decideAt 0 (s.now / Clk.pulse + 1 : Nat)
  ((s.setFb Reg.FO_STATUS_PENDING 0 false).close .decision).setV .diffChans 0 0 |>.setV .diffStages 0 0

/-- An engine leaves service for TEST, whose self-test takes 20 ms; a counted condemnation above CONDEMN_LIMIT leads to FAILED
without one (R338, R348). -/
def State.toTest (s : State) (e : Nat) (counted : Bool) : State :=
  let f := if e = 0 then Reg.FO_STATUS_CONDEMN_A else Reg.FO_STATUS_CONDEMN_B
  let s := s.when counted fun s => (s.addF f 0).addV .condemned e 1
  let s := s.setFb Reg.FO_STATUS_SWITCHING 0 false
  let s := ((s.close .syncCopy).close .qualify).close .switchHandover
  if counted && s.f Reg.FO_CFG_CONDEMN_LIMIT < s.vn .condemned e then s.setEng e 5
  else (s.setEng e 2).openBy Clk.pulse .selfTest e (ms 20)

/-- The gap of a hand-over decided in the present cycle: cycles d to d + 3 (R343). A falling edge of SYNC_OUT in it comes after it (R344). -/
def State.openGap (s : State) : State :=
  let d := s.now / Clk.pulse * Clk.pulse + Clk.pulse
  let s := ((s.setV .gapFrom 0 d).setV .gapEnd 0 (d + 4 * Clk.pulse : Nat)).setDue .gap 0 (some (d + 4 * Clk.pulse))
  let fall := s.vn .syncFall
  let held := s.afterGap fall
  if held = fall then s
  else
    let s := s.setV .syncFall 0 held
    { s with out := s.out.map fun o => match o with
        | .syncOut rise f => .syncOut rise (if f == fall + 12 * Clk.pulse then held + 12 * Clk.pulse else f)
        | o => o }

/-- Ownership passes to the other engine under the gap, and OWN_SEL takes its level (R342). -/
def State.passOwner (s : State) : State :=
  let e := 1 - s.owner
  (((s.setF Reg.FO_STATUS_OWNER 0 e).setV .ownSel 0 (e : Nat)).setEng e 0).openGap

/-- Row 2 or 4: the owner is condemned and ownership passes (R338). -/
def State.handover (s : State) (row mask : Nat) : State :=
  let e := s.owner
  let s := s.decide row e mask
  let s := ((s.passOwner).toTest e true).addF Reg.FO_COUNTERS 0
  s.raise { code := Ev.HANDOVER, d0 := row, d1 := firstFour mask, d2 := (maskChans mask).length,
            reaction := s.f Reg.FO_REACTION_HANDOVER_REACTION, stages := Stage.all, lasting := true }

/-- Row 3: the standby is condemned (R338). -/
def State.condemnSpare (s : State) (mask : Nat) : State :=
  let e := 1 - s.owner
  let s := s.decide 3 e mask
  let s := (s.toTest e true).addF Reg.FO_COUNTERS 1
  s.raise { code := Ev.STANDBY_CONDEMNED, d0 := 3, d1 := firstFour mask, d2 := (maskChans mask).length, reaction := s.f Reg.FO_REACTION_SPARE_REACTION, stages := Stage.all,
            lasting := true }

/-- No engine drives the outputs from now on: the output stage itself holds the safe outputs of the reaction, active short
circuit for T stages configured for it (R341, R342). -/
def State.holdSafe (s : State) (code reaction row mask : Nat) : State :=
  let s := s.reportAll [{ code := code, d0 := row, d1 := firstFour mask, d2 := (maskChans mask).length, reaction := reaction, stages := Stage.all }]
  let s := (s.updCause code 0 fun c => { c with present := true, nextStart := true }).latchStages code 0 Stage.all
  let s := s.setOn .enginesDead 0 true
  if reaction == 7 then s.moduleSafe code
  else s.each Stage.all fun s t => s.toSafe t (s.ascConfigured t) code reaction

/-- Row 1: no engine can drive (R341). -/
def State.exhausted (s : State) (mask : Nat) : State :=
  (s.decide 1 s.owner mask).holdSafe Ev.ENGINES_EXHAUSTED (s.f Reg.FO_REACTION_EXHAUSTED_REACTION) 1 mask

/-- Rows 5 and 6: ownership stays, the stages that own a differing channel or carrier event take UNDECIDED_REACTION, and the standby
leaves service (R339). -/
def State.undecided (s : State) (row mask carriers : Nat) : State :=
  let e := 1 - s.owner
  let l := Stage.all.filter fun t => carriers.testBit t.idx || t.chans.any fun c => mask.testBit c
  let s := s.decide row e mask
  let s := (s.toTest e false).addF Reg.FO_COUNTERS 2
  s.raise { code := Ev.UNDECIDED_MISMATCH, d0 := row, d1 := firstFour mask, d2 := (maskChans mask).length,
            reaction := s.f Reg.FO_REACTION_UNDECIDED_REACTION, stages := l, transient := true }

/-- An engine in SYNCING shows NE or FAIL: back to TEST with a condemnation, and the switch-back ends (R350 step 2). -/
def State.syncFailed (s : State) (e : Nat) : State :=
  ((s.toTest e true).addF Reg.FO_COUNTERS 8).noteLasting Ev.SYNC_FAILED 0 e

/-- The decision of rows 1 to 3, with the differing channels (R336). Under row 1 inside the hand-over gap the outputs stay frozen until its end
(R346). -/
def State.decideFail (s : State) : State :=
  let mask := s.diffNow.1
  match s.rowNow false with
  | 1 => if s.now < s.vn .gapEnd then s.setOn .exhaustAtGap 0 true else s.exhausted mask
  | 2 => s.handover 2 mask
  | 3 => s.condemnSpare mask
  | _ => s

/-- An engine's record checker finds a CRC mismatch in the record under check, and its self-check reads FAIL (R331); the comparator decides
under Table 9-1, and a qualification fails. -/
def State.selfCheckFail (s : State) (e : Nat) : State :=
  let s := (s.upset e).setOn .selfFail e true
  if s.on .enginesDead then s
  else if (e = s.owner && s.engState e == 0) || (e != s.owner && s.engState e == 1) then s.decideFail
  else if s.engState e == 4 && s.isOpen .qualify then s.syncFailed e
  else s

/-- An engine (0 PE-A, 1 PE-B) fails its self-check. -/
def execSelfCheckFail (engine : Fin 2) (t : Nat) (s : State) : Host.Outcome State Fault Refusal :=
  done (({ s with now := max s.now t }).selfCheckFail engine.val)

/-- This PULSE cycle lies within RB_TOL of an expected edge of a channel, past or still to come, which shows at the read-back RB_DELAY after its
command (R334). -/
def State.nearEdge (s : State) (c : Nat) : Bool :=
  let d := s.f Reg.FO_RB_DELAY c
  let near (t : Nat) : Bool := t != 0 && s.now / Clk.pulse ≤ t / 64 + d + s.f Reg.FO_CFG_RB_TOL && t / 64 + d ≤ s.now / Clk.pulse + s.f Reg.FO_CFG_RB_TOL
  near (s.vn .chOnAt c) || near (s.vn .chOffAt c) || s.edges.any fun e => e.ch == c && near e.t

/-- A cycle of the channel is evaluable: it is not near an expected edge, the channel is not off by a detector or enable removal, and its
stage is not at a safe output (R334). -/
def State.evaluable (s : State) (c : Nat) : Bool :=
  !s.nearEdge c &&
  !s.fb Reg.CH_STATUS_TRIPPED c && !s.on .chUvlo c && s.enabled c && s.st (Stage.ofLeg (c / 2)) != .safe

/-- A waiting command brings a contradiction of an evaluable channel in this cycle, or an engine's failure: an earlier row of Table 9-1. -/
def State.earlierRow (s : State) : Bool := s.rowNow false != 0 || s.pending.any fun i => match i with
  | .readbackContradiction c t => s.thisCycle t && s.evaluable c.val
  | _ => false

/-- The words of the owner and the standby for the next command cycle differ (R333), the standby's as the command reports it: an undecided mismatch when no channel is
concerned or the read-back is known to agree, otherwise a pending decision, which later differences join (R335 to R337). Where an earlier row
matches in the cycle, the difference joins that decision. -/
def State.wordMismatch (s : State) (mask carriers : Nat) (agree : Bool) : State :=
  let e := 1 - s.owner
  if s.engState e == 4 && s.isOpen .qualify then s.syncFailed e
  else if !s.spareIn || s.on .enginesDead then s
  else
    let w := s.ownerWord (s.now / Clk.pulse + 1)
    let diff := w.diff (w.deviate mask carriers)
    let mask := diff.1 ||| s.diffNow.1
    let carriers := diff.2 ||| s.diffNow.2
    let noted := (s.setV .diffChans 0 mask).setV .diffStages 0 carriers
    if s.earlierRow then noted
    else if mask = 0 then s.undecided 6 mask carriers
    else if agree then s.undecided 5 mask carriers
    else
      let s := noted
      if s.fb Reg.FO_STATUS_PENDING then s
      else ((s.setFb Reg.FO_STATUS_PENDING 0 true).addF Reg.FO_COUNTERS 4).openBy Clk.pulse .decision 0
        (Clk.pulse * s.f Reg.FO_CFG_RB_WAIT)

/-- Owner and standby words differ. -/
def execWordMismatch (channels carriers : Nat) (agree : Bool) (t : Nat) (s : State) : Host.Outcome State Fault Refusal :=
  done (({ s with now := max s.now t }).wordMismatch channels carriers agree)

/-- A pending decision reaches RB_WAIT: UNEVAL, row 6, unless an earlier row matches in the cycle and takes it up (R337). -/
def execDecisionTimeout (s : State) : Host.Outcome State Fault Refusal :=
  done (s.expire .decision 0 fun s => if s.earlierRow then s else s.undecided 6 s.diffNow.1 s.diffNow.2)

/-- A channel's read-back has contradicted the owner in RB_FILTER evaluable cycles: row 4 with a standby in service, else row 9
(R335, R340). An earlier row of the cycle is decided by its own command, and one decision of another row is all that a cycle makes (R336). -/
def State.contradiction (s : State) (c : Nat) : State :=
  if !s.evaluable c || s.on .enginesDead || (s.decidedNow && s.f Reg.FO_LAST_ROW != 9) then s
  else if s.rowNow true = 4 then s.handover 4 (s.diffNow.1 ||| 2 ^ c)
  else if s.rowNow true != 9 then s
  else
    let t := Stage.ofLeg (c / 2)
    let s := (s.decide 9 s.owner (2 ^ c)).addF Reg.FO_COUNTERS 3
    s.raise { code := Ev.PATH_MISMATCH, inst := c, src := t.idx, d0 := c, reaction := s.f Reg.FO_REACTION_PATH_REACTION,
              stages := [t], latched := true }

/-- A channel's read-back contradicts the owner. -/
def execReadbackContradiction (channel : Fin 64) (t : Nat) (s : State) : Host.Outcome State Fault Refusal :=
  done (({ s with now := max s.now t }).contradiction channel.val)

/-- The hand-over gap ends and the new owner's words are accepted; after a failure inside the gap row 1 applies (R346). -/
def execHandoverGapEnd (s : State) : Host.Outcome State Fault Refusal :=
  done (s.expire .gap 0 fun s =>
    if s.on .exhaustAtGap then (s.setOn .exhaustAtGap 0 false).exhausted s.diffNow.1 else s)

/-- The multiplexer reads OWN_SEL back: the line selects another engine than the recorded owner (R342). -/
def State.interlockBad (s : State) : Bool := s.vn .ownSel != s.owner

/-- The read-back of OWN_SEL has left the level of the recorded owner (R342). -/
def execInterlockFault (s : State) : Host.Outcome State Fault Refusal :=
  let s := s.setV .ownSel 0 (1 - s.owner : Nat)
  done (if s.fb Reg.FO_STATUS_INTERLOCK || !s.interlockBad then s
    else (s.setFb Reg.FO_STATUS_INTERLOCK 0 true).holdSafe Ev.INTERLOCK_FAULT (s.f Reg.FO_REACTION_INTERLOCK_REACTION) 0 0)

/-- Copy of the owner's records into an engine: 40 records, one per PULSE cycle (R350 step 1). -/
def State.startSync (s : State) (e : Nat) : State := (s.setEng e 4).openBy Clk.pulse .syncCopy 0 (40 * Clk.pulse)

/-- Both self-tests of start step 8 are known (R352). -/
def State.startEngines (s : State) : State :=
  let pref := s.f Reg.FO_CFG_PREFERRED
  let ok (e : Nat) : Bool := s.vn .testRes e == 1
  if ok 0 && ok 1 then
    let s := ((s.setF Reg.FO_STATUS_OWNER 0 pref).setV .ownSel 0 (pref : Nat)).setEng pref 0
    (s.startSync (1 - pref))
  else if ok 0 || ok 1 then
    let e : Nat := if ok 0 then 0 else 1
    ((((s.setF Reg.FO_STATUS_OWNER 0 e).setV .ownSel 0 (e : Nat)).setEng e 0).setEng (1 - e) 5).noteUntilStart Ev.START_SINGLE 0 (1 - e)
  else
    let s := ((s.setEng 0 5).setEng 1 5).setOn .enginesDead 0 true
    let s := s.report { code := Ev.ENGINES_EXHAUSTED, reaction := s.f Reg.FO_REACTION_EXHAUSTED_REACTION }
    (s.updCause Ev.ENGINES_EXHAUSTED 0 fun c => { c with present := true, nextStart := true }).latchStages Ev.ENGINES_EXHAUSTED 0 Stage.all

/-- An engine's 20 ms self-test completes (R348, R352). -/
def State.selfTestDone (s : State) (e : Nat) (pass : Bool) : State :=
  s.expire .selfTest e fun s =>
    let s := if pass then (((s.recordsGood e).setOn .selfFail e false).addF Reg.FO_COUNTERS 5).note Ev.SELF_TEST_PASSED e
      else (s.addF Reg.FO_COUNTERS 6).noteUntilStart Ev.SELF_TEST_FAILED e e
    if s.module == .starting then
      let s := (s.setV .testRes e (if pass then 1 else 2)).setEng e (if pass then 3 else 5)
      if s.vn .testRes 0 != 0 && s.vn .testRes 1 != 0 then s.startEngines else s
    else s.setEng e (if pass then 3 else 5)

/-- The self-test of an engine (0 PE-A, 1 PE-B) completes. -/
def execSelfTestDone (engine : Fin 2) (pass : Bool) (s : State) : Host.Outcome State Fault Refusal :=
  done (s.selfTestDone engine.val pass)

/-- The end of a switch-back: DEGRADED clears, and with it the causes it stands for (R350 step 5, R758). -/
def State.switchDone (s : State) : State :=
  let s := ((s.setFb Reg.FO_STATUS_SWITCHING 0 false).setFb Reg.FO_STATUS_DEGRADED 0 false).addF Reg.FO_COUNTERS 7
  (((s.clearCause Ev.HANDOVER).clearCause Ev.STANDBY_CONDEMNED).noteEnds Ev.SYNC_FAILED).note Ev.SWITCH_BACK_DONE

/-- All records of the owner are copied; qualification begins, and fails at once where the engine's self-check reads FAIL since its last
self-test (R331, R350 step 2). -/
def execSyncCopyDone (s : State) : Host.Outcome State Fault Refusal :=
  done (s.expire .syncCopy 0 fun s =>
    let e := 1 - s.owner
    let s := s.recordsGood e
    if s.on .selfFail e then s.syncFailed e else s.openBy Clk.pulse .qualify 0 (us (10 * s.f Reg.FO_CFG_QUALIFY)))

/-- The QUALIFY window ends cleanly: the engine enters SPARE; at start the engines are both in service, in a switch-back ownership
passes to the returning engine when PREFERRED names it (R350, R352). -/
def State.qualifyEnd (s : State) : State :=
  s.expire .qualify 0 fun s =>
    let e := 1 - s.owner
    let s := s.setEng e 1
    if !s.fb Reg.FO_STATUS_SWITCHING then s.setFb Reg.FO_STATUS_DEGRADED 0 false
    else if s.f Reg.FO_CFG_PREFERRED == e then (s.setV .switchAt 0 (s.now / Clk.pulse * Clk.pulse : Nat)).openBy Clk.pulse .switchHandover 0 (ms 10)
    else s.switchDone

/-- QUALIFY ends cleanly. -/
def execQualifyEnd (s : State) : Host.Outcome State Fault Refusal := done s.qualifyEnd

/-- The command cycles in which the owner's words carry a channel edge or an edge of SYNC_OUT (R332). -/
def State.wordEdges (s : State) : List Nat :=
  let src := s.f Reg.PULSE_SYNC_OUT_SRC
  s.vn .syncFall / Clk.pulse :: (if src < 7 && s.isOpen .periodStart src then [s.vn .perNext src / 64] else []) ++ s.edges.map fun e => e.t / 64

/-- The owner's words carry no channel edge and no SYNC_OUT edge in the four cycles after the PULSE cycle of an instant (R350 step 4). -/
def State.edgeFree (s : State) (t : Nat) : Bool :=
  let d := t / Clk.pulse + 1
  s.wordEdges.all fun y => y < d || d + 3 < y

/-- The first instant from a given one on, the end of the window at the latest, whose next four cycles are free of edges: that one, or the
cycle of an edge. -/
def State.freeFrom (s : State) (a e : Nat) : Nat :=
  ((a :: s.wordEdges.map fun y => y * Clk.pulse).filter fun x => a ≤ x && s.edgeFree x).foldl min e

/-- The instant at which the module picks cycle d of the switch-back's hand-over (R350 step 4). -/
def State.switchPick (s : State) : Nat := match s.due .switchHandover with
  | some e => s.freeFrom (s.vn .switchAt) e
  | none => s.now

/-- Ownership passes to the returning engine at the first edge-free span, or at 10 ms (R350 step 4). A command that comes before that span has
no effect yet. -/
def execSwitchBackHandover (t : Nat) (s : State) : Host.Outcome State Fault Refusal :=
  done (if !s.isOpen .switchHandover then s
    else if t < s.switchPick then { s with now := max s.now t }
    else
      let s := { (s.close .switchHandover) with now := max s.now s.switchPick }
      let old := s.owner
      ((s.passOwner).setEng old 1).switchDone)

end Sys2Proof.Machine
end

