-- ==== Sys2Proof/Machine/Clock.lean ====
section
/-!
DEFINITION. Clocks and internal arbitration (chapter 3): the discipline of the root to the cycle master, the hard clock
faults, the interconnect's grants and the error correction of the SRAM.
-/

namespace Sys2Proof.Machine

/-! ### The discipline loop (R110 to R115) -/

/-- Write the correction, in 0.001 ppm, clamped at ±100 ppm; at the limit a window of 1 s runs, and leaving it ends the cause. -/
def State.setCorrection (s : State) (x : Int) : State :=
  let x := clampI (-100000) 100000 x
  let s := s.setF Reg.CLK_CORRECTION 0 x
  if x = 100000 || x = -100000 then
    let s := s.setFb Reg.CLK_STATUS_CORR_LIMIT 0 true
    if s.isOpen .corrLimit || s.present Ev.CORRECTION_LIMIT then s else s.openSlow .corrLimit 0 (sec 1)
  else ((s.setFb Reg.CLK_STATUS_CORR_LIMIT 0 false).lapse Clk.slow .corrLimit).clearCause Ev.CORRECTION_LIMIT

/-- One update of the proportional-integral loop (R111): the spec gives its bandwidth and not its result, a free value within the
clamp of R110; the last 64 corrections are kept. -/
def State.loopUpdate (s : State) : State :=
  let (x, s) := s.takeFree
  let s := s.setCorrection x
  let k := s.vn .corrPlace
  let s := s.setV .corrHist k (s.fi Reg.CLK_CORRECTION)
  (s.setV .corrPlace 0 ((k + 1) % 64 : Nat)).setV .corrCount 0 (min 64 (s.vn .corrCount + 1) : Nat)

/-- The discipline state: 0 FREE, 1 ACQUIRE, 2 LOCKED, 3 HOLDOVER. -/
def State.disc (s : State) : Nat := s.f Reg.CLK_STATUS_STATE

/-- Enter a discipline state; every transition from LOCKED is counted, and the return to LOCKED ends what its loss caused (R114,
R758). -/
def State.setDisc (s : State) (d : Nat) : State :=
  let s := s.when (s.disc == 2 && d != 2) fun s => s.addF Reg.CLK_LOCK_LOSSES 0
  let s := s.when (s.disc == 3 && d != 3) fun s =>
    (s.close .holdover).setF Reg.CLK_STATUS_HOLDOVER_S 0 (min 65535 ((s.now - s.vn .holdoverAt) / sec 1) : Nat)
  let s := (s.setF Reg.CLK_STATUS_STATE 0 d).setV .discRun 0 0
  if d = 2 then ((s.note Ev.DISCIPLINE_LOCKED).clearCause Ev.LOCK_LOST).clearCause Ev.HOLDOVER_ENTERED else s

/-- The reaction at a loss: LOSS_REACTION on the stages of LOSS_STAGES (R114). -/
def State.lossFault (s : State) (code : Nat) : FaultEvt :=
  { code := code, reaction := s.f Reg.CLK_DISCIPLINE_LOSS_REACTION, stages := Stage.ofMask (s.f Reg.CLK_DISCIPLINE_LOSS_STAGES),
    lasting := true }

/-- FREE with the correction held at zero: the module is master, is not disciplined, or a hard clock fault came. -/
def State.disciplineFree (s : State) : State := (s.setDisc 0).setCorrection 0

/-- HOLDOVER_LIMIT expires: FREE, the correction stays at its frozen value. -/
def State.holdoverEnd (s : State) : State :=
  s.expire .holdover 0 fun s => if s.disc == 3 then (s.setDisc 0).noteLasting Ev.HOLDOVER_EXPIRED 0 else s

/-- A cycle frame from a master brings a phase error in ps (Table 3-2); in the cycle in which HOLDOVER_LIMIT ends it comes too late for
HOLDOVER (R33). The row of a hard clock fault names its event alone: a cycle frame after it is the first one of FREE, and the loop runs,
although the fault's cause lasts until the next start (DESIGN CHOICE, log entry 197). -/
def State.disciplineFrame (s : State) (err : Int) (masterChanged : Bool) : State :=
  if !s.fb Reg.CLK_DISCIPLINE_ENABLE then s.disciplineFree
  else
    let s := if s.ended Clk.slow .holdover then s.holdoverEnd else s
    let s := (s.setV .missing 0 0).setF Reg.CLK_PHASE_ERROR 0 err
    if s.disc == 0 then ((s.setDisc 1).loopUpdate).noteEnds Ev.HOLDOVER_EXPIRED
    else if masterChanged || s.disc == 3 then
      let lost := s.disc == 2
      let s := (s.setDisc 1).loopUpdate
      if lost then s.raise (s.lossFault Ev.LOCK_LOST) else s
    else
      let s := s.loopUpdate
      if s.disc == 1 then
        let run := if err.natAbs ≤ 20000 then s.vn .discRun + 1 else 0
        let s := s.setV .discRun 0 run
        if run = 64 then s.setDisc 2 else s
      else
        let run := if 100000 < err.natAbs then s.vn .discRun + 1 else 0
        let s := s.setV .discRun 0 run
        if run = 4 then
          let s := s.setDisc 1
          s.raise (s.lossFault Ev.LOCK_LOST)
        else s

/-- A cycle is missing; the eighth in a row moves the discipline to HOLDOVER, the correction frozen at the mean of the last 64
updates (R113). -/
def State.disciplineMissing (s : State) : State :=
  if s.disc == 1 || s.disc == 2 then
    let s := (s.addV .missing 0 1).setV .discRun 0 0
    if s.vn .missing = 8 then
      let n := s.vn .corrCount
      let sum := (List.range n).foldl (fun a k => a + s.v .corrHist k) 0
      let s := s.setCorrection (if n = 0 then s.fi Reg.CLK_CORRECTION else divOpen sum n)
      let s := (s.setDisc 3).setV .holdoverAt 0 (s.now : Nat)
      let s := s.openSlow .holdover 0 (sec (s.f Reg.CLK_DISCIPLINE_HOLDOVER_LIMIT))
      s.raise (s.lossFault Ev.HOLDOVER_ENTERED)
    else s
  else s

/-- HOLDOVER_LIMIT expires. -/
def execHoldoverExpired (s : State) : Host.Outcome State Fault Refusal := done s.holdoverEnd

/-- The correction has stayed at ±100 ppm for 1 s. -/
def execCorrectionLimit (s : State) : Host.Outcome State Fault Refusal :=
  done (s.expire .corrLimit 0 fun s => s.raise { code := Ev.CORRECTION_LIMIT, lasting := true })

/-! ### Hard clock faults (R116 to R122) -/

/-- A hard clock fault removes the gate enables of all four groups through its own line, so that every channel turns off at once,
sets the discipline FREE and carries out CLOCK_REACTION; in STARTING and UNCONFIGURED only the latch remains. Its cause lasts
until the next start. -/
def State.hardClockFault (s : State) (code d0 : Nat) : State :=
  let s := (s.setOn .hardClock 0 true).disciplineFree
  let s := s.each [0, 1, 2, 3] State.removeEnable
  let starting := s.module == .starting || s.module == .unconfigured
  let r := if starting then 0 else s.f Reg.CLK_FAULT_CLOCK_REACTION
  let f : FaultEvt :=
    { code := code, d0 := d0, reaction := r, stages := if r == 4 then Stage.all else [], lasting := true, nextStart := true }
  s.raise f

/-- The crystal stops or is off frequency: the PLL holds its control value until it relocks (R120). A hard clock fault whose flag is set
since the start raises no second fault: its cause is present until the next start (DESIGN CHOICE, log entry 198). -/
def execXtalFail (s : State) : Host.Outcome State Fault Refusal :=
  done (if s.fb Reg.CLK_STATUS_XTAL_FAIL then s
    else ((s.setFb Reg.CLK_STATUS_XTAL_FAIL 0 true).setFb Reg.CLK_STATUS_PLL_LOCK 0 false).hardClockFault Ev.XTAL_FAIL 0)

/-- The PLL lock detector reports a phase error above 1 ns for 2 us; once per start (log entry 198). -/
def execPllUnlock (s : State) : Host.Outcome State Fault Refusal :=
  done (if s.fb Reg.CLK_STATUS_PLL_FAIL then s
    else ((s.setFb Reg.CLK_STATUS_PLL_FAIL 0 true).setFb Reg.CLK_STATUS_PLL_LOCK 0 false).hardClockFault Ev.PLL_UNLOCK 0)

/-- The expected count of a clock in 10 us: CORE, PULSE, LOOP, SAMPLE, LINK, BUS, SLOW (Table 3-3). -/
def clockExpect (clock : Nat) : Nat := [6000, 3000, 2000, 1500, 1250, 400, 10].getD clock 0

/-- A 10 us window ends with a count of a derived clock; outside its expected count ±1 it is a fault, which names the first failing
clock; once per start, whichever clock fails later (log entry 198). -/
def execClockCount (clock : Fin 7) (count : Nat) (s : State) : Host.Outcome State Fault Refusal :=
  let e := clockExpect clock.val
  done (if (e ≤ count + 1 && count ≤ e + 1) || s.fb Reg.CLK_STATUS_COUNT_FAIL then s
    else ((s.setFb Reg.CLK_STATUS_COUNT_FAIL 0 true).setF Reg.CLK_STATUS_FAILED_CLOCK 0 clock.val).hardClockFault
      Ev.CLOCK_COUNT clock.val)

/-! ### Error correction and scrubbing (R130 to R132) -/

/-- What a read of SRAM found is corrected and reported, or poisons the data and carries out ECC_REACTION, latched until the next
start. -/
def State.eccRead (s : State) (e : Ecc) : State :=
  match e with
  | .ok => s
  | .single a => (s.addF Reg.ARB_ECC_CORRECTED 0).note Ev.ECC_CORRECTED a
  | .double a =>
    let s := s.addF Reg.ARB_ECC_UNCORRECTABLE 0
    let r := s.f Reg.CLK_FAULT_ECC_REACTION
    let f : FaultEvt :=
      { code := Ev.ECC_UNCORRECTABLE, d0 := a, reaction := r, stages := if r == 7 then [] else Stage.all, lasting := true,
        nextStart := true }
    s.raise f


/-! ### Interconnect (R123 to R129) -/

/-- The CORE cycle number of an instant, from 1. -/
def coreCycle (now : Nat) : Nat := now / Clk.core + 1

/-- Quota per 600 CORE cycles of P0 to P5 (Table 3-4). -/
def busQuota (c : Nat) : Nat := [8, 10, 16, 8, 8, 6].getD c 0

/-- The class that carries a transaction: every write to MRAM is in P6 (R125). -/
def busClass (r : BusReq) : Nat := if r.write && r.mram then 6 else r.cls.val

/-- Grants of a class in the last 600 CORE cycles. -/
def State.grantsIn (s : State) (c : Nat) : Nat :=
  ((List.range 16).filter fun k =>
    s.vn .grantAt (c * 16 + k) != 0 && coreCycle s.now < s.vn .grantAt (c * 16 + k) + 600).length

/-- A transaction may be granted: its class has quota left, and a request of P6 finds room in the posted write buffer of four
transactions (R126, R127). -/
def State.mayGrant (s : State) (r : BusReq) : Bool :=
  if busClass r = 6 then s.vn .posted < 4 else s.grantsIn (busClass r) < busQuota (busClass r)

/-- Round-robin distance of a requester from the last one served of its class. -/
def State.turn (s : State) (r : BusReq) : Nat := (r.who + 16 - s.vn .rrLast (busClass r) % 16 + 15) % 16

/-- The transaction that a grant serves: highest class first, round-robin within it (R124). -/
def State.pickGrant (s : State) (l : List BusReq) : Option BusReq :=
  (l.filter s.mayGrant).foldl (fun a r => match a with
    | none => some r
    | some x =>
      if (busClass r) < (busClass x) || ((busClass r) == (busClass x) && s.turn r < s.turn x) then some r else some x) none

/-- A transaction of a number of beats is granted now: the next grant comes when the bus is free again, at the earliest after one CORE
cycle for each beat of 16 bytes (R123; log entry 167). -/
def State.holdBus (s : State) (beats : Nat) : State := s.setV .busFree 0 (coreCycle s.now + beats : Nat)

/-- Time goes on to the first CORE cycle in which the bus is free (R123). -/
def State.awaitBus (s : State) : State := { s with now := max s.now ((s.vn .busFree - 1) * Clk.core) }

/-- What a read found shows at its requester: the word is marked as poisoned or not (R132). -/
def State.busRead (s : State) (c who : Nat) (e : Ecc) : State :=
  (s.setOn .poisoned (c * 16 + who) (match e with
    | .double _ => true
    | _ => false)).eccRead e

/-- The burst that a core's staging FIFO requests (R166): its oldest entries for one buffer, up to 32 and not beyond the last result before
a satisfied wait; it is requested when 32 are present, when an entry for another buffer is behind them, or when the last of them is
that last result. -/
def burstOf (l : List DmaEntry) : Option (List DmaEntry) := match l with
  | [] => none
  | a :: _ =>
    let same := l.takeWhile fun e => e.buf == a.buf
    let run := match same.findIdx? (·.last) with
      | some i => same.take (min 32 (i + 1))
      | none => same.take 32
    if run.length == 32 || same.length < l.length || (run.getLast?.map DmaEntry.last).getD false then some run else none

/-- The beats of a transaction: those it names, or for the burst of a fast core one for each four of its entries. -/
def State.beatsOf (s : State) (r : BusReq) : Nat :=
  if busClass r == 2 then
    match burstOf (s.dmaFifo.filter fun e => e.core == r.who && e.here) with
    | some l => divUp l.length 4
    | none => r.more.val + 1
  else r.more.val + 1

/-- What a read finds as a number, and back. -/
def eccCode : Ecc → Nat
  | .ok => 0
  | .single a => 2 * a + 1
  | .double a => 2 * a + 2
def eccOf (n : Nat) : Ecc := if n == 0 then .ok else if n % 2 == 1 then .single (n / 2) else .double (n / 2 - 1)

/-- The transaction of the scrubber that waits for a grant: requester 1 of P6, the read of a block's eight beats and then its write (R130). -/
def State.scrubReq (s : State) : Option BusReq :=
  if s.vn .scrubWait == 0 then none
  else some { cls := 6, who := 1, more := 7, write := s.vn .scrubWait % 2 == 1, mram := false,
              waited := coreCycle s.now - s.vn .scrubHead, ecc := eccOf (s.vn .scrubFound 0) }

/-- A transaction of the scrubber has been granted: its write ends the block, and the next block of the 4 MiB is due after it. -/
def State.scrubGranted (s : State) (r : BusReq) : State :=
  let s := (s.addV .scrubWait 0 (-1)).setV .scrubHead 0 (coreCycle s.now : Nat)
  if r.write then
    let s := s.each (List.range 16) fun s k => s.setV .scrubFound k (s.v .scrubFound (k + 1))
    s.setV .scrubAddr 0 ((s.vn .scrubAddr + 128) % 2 ^ 22 : Nat)
  else s

/-- The transactions that compete for a grant: those that wait elsewhere, and the scrubber's. -/
def State.competing (s : State) (l : List BusReq) : List BusReq := (l.filter fun r => busClass r != 6 || r.who != 1) ++ s.scrubReq.toList

/-- One grant among the waiting transactions: a request that its quota delays is counted once; a grant of P1 takes one transaction out of
its lane's mirror buffer (R254), and a write to MRAM enters the posted write buffer. -/
def State.grant (s : State) (waiting : List BusReq) : State :=
  let s := s.awaitBus
  let l := s.competing waiting
  let late := l.filter fun r => busClass r != 6 && !s.mayGrant r && !s.on .shapedNow (busClass r * 16 + r.who)
  let s := s.each late fun s r => (s.addF Reg.ARB_SHAPED (busClass r)).setOn .shapedNow (busClass r * 16 + r.who) true
  match s.pickGrant l with
  | none => s
  | some r =>
    let c := busClass r
    let s := (s.holdBus (s.beatsOf r)).setOn .shapedNow (c * 16 + r.who) false
    let s := if c == 6 && r.write && r.mram then s.addV .posted 0 1 else s
    let s := s.setF Reg.ARB_MAX_WAIT c (max (s.f Reg.ARB_MAX_WAIT c) r.waited : Nat)
    let s := (s.setV .grantAt (c * 16 + s.vn .grantPlace c) (coreCycle s.now : Nat)).setV .grantPlace c
      ((s.vn .grantPlace c + 1) % 16 : Nat)
    let s := s.setV .rrLast c r.who
    let s := if c == 1 then s.setV .mirror r.who (s.vn .mirror r.who - 1 : Nat) else s
    let s := if r.write || r.mram then s else s.busRead c r.who r.ecc
    if c == 6 && r.who == 1 then s.scrubGranted r else s

/-- MRAM has completed posted writes. -/
def State.drainPosted (s : State) (n : Nat) : State := s.setV .posted 0 (s.vn .posted - n : Nat)

/-- The interconnect grants a waiting transaction; MRAM has completed some posted writes since the last grant. -/
def execInterconnectGrant (waiting : List BusReq) (drained : Nat) (t : Nat) (s : State) : Host.Outcome State Fault Refusal :=
  done ((({ s with now := max s.now t }).drainPosted drained).grant waiting)

/-! ### Scrubbing (R130) -/

/-- The scrubber's next block falls due: two transactions of P6 come to wait for a grant. -/
def State.scrubDue (s : State) (e : Ecc) : State :=
  let k := (s.vn .scrubWait + 1) / 2
  let s := s.when (s.vn .scrubWait == 0) fun s => s.setV .scrubHead 0 (coreCycle s.now : Nat)
  (s.setV .scrubFound k (eccCode e : Nat)).addV .scrubWait 0 2

/-- Grants follow one another until the scrubber's block is done or none can be given: among the transactions that wait beside it, higher
classes come first, and while the posted write buffer is full P6 gets none (R124, R126). -/
def State.scrubGrants : Nat → List BusReq → State → State
  | 0, _, s => s
  | k + 1, l, s =>
    if s.vn .scrubWait == 0 then s
    else
      let s := s.awaitBus
      match s.pickGrant (s.competing l) with
      | none => s
      | some r =>
        let at' := coreCycle s.now
        let s := s.grant l
        let rest := (l.erase r).map fun x => { x with waited := x.waited + (s.vn .busFree - at') }
        scrubGrants k rest s

/-- The block of a us falls due (R130): a block that gets no grant in its us waits for one, and the next one waits behind it. -/
def execScrubBlock (b : ScrubBlock) (s : State) : Host.Outcome State Fault Refusal :=
  done (s.expire .scrub 0 fun s =>
    ((s.openSlow .scrub 0 (us 1)).scrubDue b.ecc).scrubGrants (b.waiting.length + s.vn .scrubWait + 2) b.waiting)

end Sys2Proof.Machine
end

