-- ==== Sys2Proof/Machine/Sampling.lean ====
section
/-!
DEFINITION. Current and voltage sampling (chapter 4): slice rotation, the sequence tables, accumulators, DMA buffers, and the
housekeeping converter. The cores are carried forward by the commands that bring results: up to the SAMPLE cycle in which their event
becomes visible.
-/

namespace Sys2Proof.Machine

/-! ### Sequence tables (R147 to R152) -/

/-- A field of word w of entry e of core c's sequence table. -/
def State.seqF (s : State) (c e w hi lo : Nat) : Nat := bits (s.vn .seqTab (c * 512 + e * 2 + w)) hi lo

def State.seqChannel (s : State) (c e : Nat) : Nat := s.seqF c e 0 7 0
/-- Conversions of an entry; for a LOOP entry, runs of its group. -/
def State.seqRepeat (s : State) (c e : Nat) : Nat := if s.seqF c e 0 19 8 = 0 then 4096 else s.seqF c e 0 19 8
def State.seqWaitEvt (s : State) (c e : Nat) : Nat := s.seqF c e 1 16 15
def State.seqWaitSrc (s : State) (c e : Nat) : Nat := s.seqF c e 1 14 12
def State.seqLoop (s : State) (c e : Nat) : Bool := s.seqF c e 1 17 17 = 1

/-- A WAIT_EVT or LATCH_EVT code selects PERIOD_START (false) or PERIOD_MIDDLE (true). -/
def selects (code : Nat) (middle : Bool) : Bool := code == 3 || code == (if middle then 2 else 1)

/-- The wait of an entry, if it has one, is complete in SAMPLE cycle `a`: DELAY cycles pass, then the first conversion falls, or, in an entry
that converts nothing, the next entry starts; without a wait and with DELAY 0 such an entry occupies one cycle (R149, R150). -/
def State.seqReady (s : State) (c e a : Nat) : State :=
  let delay := s.seqF c e 0 31 20
  let idle := s.seqChannel c e == 255 && s.seqWaitEvt c e == 0 && delay == 0
  (s.setOn .seqWait c false).setV .seqAt c (if idle then a + 1 else a + delay : Nat)

/-- Entry e starts in SAMPLE cycle `a` (R149): with WAIT_EVT it waits for its event from that cycle on. -/
def State.seqStart (s : State) (c e a : Nat) : State :=
  let s := ((s.setV .seqEntry c e).setF Reg.SMP_CORE_STATUS_ENTRY c e).setV .seqDone c 0
  if s.seqWaitEvt c e != 0 then (s.setOn .seqWait c true).setV .seqAt c a else s.seqReady c e a

/-- The present entry has run once, and the next cycle of the sequencer is `a`: a LOOP entry goes back to the start of its group until the
last run (R151), any other entry is followed by the next one, round the table (R147). -/
def State.seqOn (s : State) (c a : Nat) : State :=
  let e := s.vn .seqEntry c
  let next := (e + 1) % max 1 (s.f Reg.SMP_CORE_CFG_TABLE_LEN c)
  if s.seqLoop c e then
    let n := s.vn .seqLoops (c * 256 + e) + 1
    if n < s.seqRepeat c e then (s.setV .seqLoops (c * 256 + e) n).seqStart c (s.seqF c e 1 25 18) a
    else (s.setV .seqLoops (c * 256 + e) 0).seqStart c next a
  else s.seqStart c next a

/-- The conversion of cycle `a` is done: the entry converts again in the next cycle, or it has run. -/
def State.seqConverted (s : State) (c a : Nat) : State :=
  let e := s.vn .seqEntry c
  let n := s.vn .seqDone c + 1
  if !s.seqLoop c e && n < s.seqRepeat c e then (s.setV .seqDone c n).setV .seqAt c (a + 1 : Nat)
  else s.seqOn c (a + 1)

/-! ### Results (R135 to R138, R142, R158, R162, R166, R168, R326) -/

/-- The interleave position that takes the sample of a SAMPLE cycle: the cycle's number modulo 8, counted from the first common SLOW edge
after PLL lock (R136). -/
def State.position (s : State) (n : Nat) : Nat :=
  let base := if n < s.vn .sampleBase then s.v .sampleWas else s.v .sampleBase
  (((n : Int) - base) % 8).toNat

/-- The slice that holds an interleave position of a core (R135). -/
def State.sliceAt (s : State) (c k : Nat) : Nat := s.vn .slicePos (c * 8 + k)

/-- The slice that takes the sample of SAMPLE cycle n: the leaving slice every sample before the instant of a swap, the entering one every
sample from it on, also where the sample is carried forward after the swap or before its command (R142). -/
def State.sliceOf (s : State) (c n : Nat) : Nat :=
  let k := s.sliceAt c (s.position n)
  if n * Clk.sample + 1 < s.vn .swapAt c then (if k == s.vn .swapIn c then s.vn .swapOut c else k)
  else match s.due .rotate c with
    | some e => if e ≤ n * Clk.sample && s.on .calPass c && k == s.vn .nextLeave c then s.vn .calSlice c else k
    | none => k

/-- The correction chain of a slice (R137): its offset in uV, then its gain in ppm, then the fractional-delay filter for its skew in fs on
the result and the one before it. The spec gives no coefficient of the filter; without skew it is the identity (log entry 65). -/
def State.correct (s : State) (c slice : Nat) (raw : Int) : Int × State :=
  let i := c * 9 + slice
  let x := raw - divOpen (2 * s.v .sliceOffset i) 625
  let x := divOpen (x * 1000000) (1000000 + s.v .sliceGain i)
  let y := if s.v .sliceSkew i = 0 then x else Config.skewFilter (s.v .sliceSkew i) (s.v .coreLast c) x
  (y, s.setV .coreLast c x)

/-- A corrected result as the core gives it: saturated to Q1.15, with its overrange mark (R138). -/
def result (raw : Int) : Int × Bool := (satQ15 raw, raw < -32768 || 32767 < raw)

/-- Add a result to an accumulator; a full window takes no more. -/
def State.accAdd (s : State) (a : Nat) (x : Int) : State :=
  if 1048575 ≤ s.vn .accCount a then s.setOn .accFull a true
  else (s.addV .accSum a x).addV .accCount a 1

/-- A result of SAMPLE cycle n is sent to a buffer: it arrives at the core's staging FIFO 40 cycles later (R137, R166). MARK goes to the
first result sent after a satisfied wait, whatever becomes of that result (log entry 169). -/
def State.dmaPut (s : State) (c b n : Nat) (x : Int) (ovr : Bool) (channel tag : Nat) : State :=
  let w := wrap 16 x + channel * 2 ^ 16 + tag * 2 ^ 24 + (if ovr then 2 ^ 30 else 0) + (if s.on .seqMark c then 2 ^ 31 else 0)
  let e : DmaEntry := { core := c, buf := b, entry := BitVec.ofNat 32 w, due := n + 40, here := false, last := false }
  { s.setOn .seqMark c false with dmaFifo := s.dmaFifo ++ [e] }

/-- A frozen buffer, and one whose POST entries are written, takes no entries (R170). -/
def State.bufClosed (s : State) (k : Nat) : Bool := s.fb Reg.SMP_BUF_CONTROL_FROZEN k || (s.on .bufTrig k && s.vn .bufPost k = 0)

/-- The entries that a core's staging FIFO holds. -/
def State.fifo (s : State) (c : Nat) : List DmaEntry := s.dmaFifo.filter fun e => e.core == c && e.here

/-- A result arrives at the staging FIFO of 128 entries, which keeps the order of the samples: at a full FIFO it is dropped, counted and
reported (R168); a frozen buffer takes nothing. -/
def State.dmaEnter (s : State) (e : DmaEntry) : State :=
  let dropped : State := { s with dmaFifo := s.dmaFifo.erase e }
  if s.bufClosed (16 * e.core + e.buf) then dropped
  else if 128 ≤ (s.fifo e.core).length then
    (dropped.addF Reg.SMP_DMA_LOST e.core).raise { code := Ev.DMA_OVERFLOW, inst := e.core, d0 := e.core, transient := true }
  else { s with dmaFifo := s.dmaFifo.replace e { e with here := true } }

/-- The results of a core that have reached its FIFO by now. -/
def State.dmaArrive (s : State) (c : Nat) : State :=
  s.each (s.dmaFifo.filter fun e => e.core == c && !e.here && e.due ≤ sampleCycle s.now) State.dmaEnter

/-- Overrange results of an analogue input: the W1C mark, the run of consecutive ones, and the way back of R176's event. -/
def State.ovrCheck (s : State) (n : Nat) (ovr : Bool) : State :=
  if ovr then
    let s := if n < 64 then s.setW1c Reg.SMP_AI_OVR (n / 32) (2 ^ (n % 32))
      else s.setW1c Reg.SMP_AI_OVR_HI 0 (2 ^ (n - 64))
    s.setV .ovrRun n (min 255 (s.vn .ovrRun n + 1) : Nat)
  else if s.on .ovrRun n then (s.setV .ovrRun n 0).clearCause Ev.INPUT_OVERRANGE n
  else s

/-- The leg comparators that watch a channel of a core (R326). -/
def State.legCompare (s : State) (c channel : Nat) (x : Int) : State :=
  s.each ((Stage.ofCore c).flatMap Stage.legs) fun s n =>
    if s.f Reg.LEG_CMP_CHANNEL n == channel && channel != 255 then
      let lim := s.fi Reg.LEG_CMP_LIMIT n
      let x := if s.fb Reg.LEG_CMP_ABS n then |x| else x
      s.setFb Reg.LEG_STATUS_CMP n (lim ≤ x)
    else s

/-- The accumulators take the results of a core whose sample lies before SAMPLE cycle v (R137, R159). -/
def State.accTake (s : State) (c v : Nat) : State :=
  let mine := fun e : Sample => e.core == c && e.n < v && e.acc != 0
  let l := s.pipe.filter mine
  ({ s with pipe := s.pipe.map fun e => if mine e then ({ e with acc := 0 } : Sample) else e } : State).each l fun s e => s.accAdd (e.acc - 1) e.x

/-- In SAMPLE cycle m the comparators of a core have seen its results up to the sample 41 cycles before: each reaches them one cycle after the
accumulators (R137, R326). -/
def State.cmpTake (s : State) (c m : Nat) : State :=
  let (old, rest) := (s.accTake c (m - 40)).pipe.partition fun e => e.core == c && e.n + 41 ≤ m
  ({ s.accTake c (m - 40) with pipe := rest } : State).each old fun s e => (s.legCompare c e.ch e.x).setV .lastRes (256 * c + e.ch) e.x

/-- A result with FB set of SAMPLE cycle n reaches the demodulator of the core's resolver: it adds to the window in which it was sampled, the
present one or the next (R217). -/
def State.resResult (s : State) (c n : Nat) (isCos : Bool) (x : Int) : State :=
  match s.due .resWin c with
  | none => s
  | some e =>
    let i := if n * Clk.sample < e then c else c + 2
    if n * Clk.sample < s.vn .resFrom c then s
    else if isCos then (s.addV .resCos i x).addV .resCosN i 1
    else (s.addV .resSin i x).addV .resSinN i 1

/-- The conversion of the present entry in SAMPLE cycle n (R136, R137): the slice of the cycle's position corrects it, and the result goes
where the entry sends it. What was sampled 48 cycles before has reached everything it goes to. -/
def State.convert (s : State) (c n : Nat) (raw : Int) : State :=
  let e := s.vn .seqEntry c
  let ch := s.seqChannel c e
  let (y, s) := s.correct c (s.sliceOf c n) raw
  let (x, ovr) := result y
  let s := s.when (ch < 20) fun s => s.ovrCheck (20 * c + ch) ovr
  let acc := if s.seqF c e 1 5 5 = 1 then 32 * c + s.seqF c e 1 4 0 + 1 else 0
  let s := s.cmpTake c (n - 7)
  let s : State := { s with pipe := s.pipe ++ ([{ core := c, n := n, ch := ch, acc := acc, x := x }] : List Sample) }
  let s := s.when (s.seqF c e 1 10 10 = 1) fun s => s.dmaPut c (s.seqF c e 1 9 6) n x ovr ch (s.seqF c e 1 31 26)
  let s := s.when (s.seqF c e 1 11 11 = 1 && (ch == 0x28 || ch == 0x29)) fun s => s.resResult c n (ch == 0x29) x
  s.seqConverted c n

/-- The sequencer of a core runs up to SAMPLE cycle v: one sample at every conversion of its table (R136, R149), with the raw results given
in order; one that the command does not give is a free value of its cycle (log entry 170). -/
def State.seqGo (c v : Nat) : Nat → List Int → State → State
  | 0, _, s => s
  | fuel + 1, l, s =>
    let a := s.vn .seqAt c
    let ch := s.seqChannel c (s.vn .seqEntry c)
    if s.on .seqWait c then s
    else if ch == 255 then (if a ≤ v then State.seqGo c v fuel l (s.seqOn c a) else s)
    else if a < v then State.seqGo c v fuel l.tail (s.convert c a (l.headD (Config.analogue c ch a)))
    else s

/-- A core that is not idle converts up to SAMPLE cycle v. -/
def State.coreTo (s : State) (c v : Nat) (l : List Int) : State :=
  if s.f Reg.SMP_CORE_CFG_TABLE_LEN c = 0 then s else (State.seqGo c v (v + 2 - s.vn .seqAt c) l s).dmaArrive c

/-- The raw results of a core among those of a command. -/
def convOf (l : List Conv) (c : Nat) : List Int := l.filterMap fun x => if x.core.val = c then some x.raw else none

/-! ### Carrier events at the cores (R153 to R163) -/

/-- AVG: the quotient rounded to the nearest step, ties away from zero (R160). -/
def avgRound (sum : Int) (n : Nat) : Int :=
  if n = 0 then 0 else if 0 ≤ sum then (2 * sum + n) / (2 * n) else -((2 * -sum + n) / (2 * n))

/-- An accumulator latches in SAMPLE cycle v: its sum and count become the read set, which shows from v + 40 on and its AVG from v + 44
(R159); it restarts from zero; a window with too few results is STALE and, on an owner stage in use, raises ACC_EMPTY at each such
latch (R158 to R162). -/
def State.accLatch (s : State) (a v : Nat) : State :=
  let sum := s.v .accSum a
  let n := s.vn .accCount a
  let full := s.on .accFull a
  let s := s.each (List.range' 1 5) fun s j =>
    (s.setV .accOlder (a * 8 + j) (s.v .accOld (a * 8 + j))).setV .accOld (a * 8 + j) ((s.word (Reg.SMP_ACC_AVG.key a (j - 1))).toNat : Nat)
  let s := (s.setV .accAtOld a (s.v .accAt a)).setV .accAt a (v : Nat)
  let s := ((s.setV .accSum a 0).setV .accCount a 0).setOn .accFull a false
  let s := (s.setF Reg.SMP_ACC_SUM_LO a sum).setF Reg.SMP_ACC_SUM_HI a (clampI (-128) 127 (Int.fdiv sum (2 ^ 32)))
  let s := (s.setF Reg.SMP_ACC_STATUS_COUNT a n).setFb Reg.SMP_ACC_STATUS_FULL a full
  let s := s.addF Reg.SMP_ACC_LATCH_NO a
  if n < s.f Reg.SMP_ACC_CFG_MIN_COUNT a then
    let s := s.setFb Reg.SMP_ACC_STATUS_STALE a true
    match Stage.ofNat? (s.f Reg.SMP_ACC_CFG_OWNER a) with
    | none => s
    | some t =>
      if (s.st t).isActive then
        s.raise { code := Ev.ACC_EMPTY, inst := a, src := t.idx, d0 := a, d1 := n,
                  reaction := s.f Reg.SMP_ACC_CFG_EMPTY_REACTION a, stages := [t], lasting := true }
      else s
  else
    let s := s.setFb Reg.SMP_ACC_STATUS_STALE a false
    (s.setF Reg.SMP_ACC_AVG a (avgRound sum n)).clearCause Ev.ACC_EMPTY a

/-- The WAIT entries of a core's table that select an event. -/
def State.tableSelects (s : State) (c src : Nat) (middle : Bool) : Bool :=
  (List.range (s.f Reg.SMP_CORE_CFG_TABLE_LEN c)).any fun e =>
    s.seqWaitSrc c e == src && selects (s.seqWaitEvt c e) middle

/-- A wait is satisfied: the last result sampled before it ends a burst (R166), the next one sent carries MARK, and the overrun's cause
ends. -/
def State.waitMet (s : State) (c : Nat) : State :=
  let fifo := match (s.dmaFifo.filter fun e => e.core == c).getLast? with
    | some l => s.dmaFifo.replace l { l with last := true }
    | none => s.dmaFifo
  ({ s with dmaFifo := fifo }.setOn .seqMark c true).clearCause Ev.SEQ_OVERRUN c

/-- The sequencer waits at an entry that started by SAMPLE cycle v and selects an event. -/
def State.seqWaits (s : State) (c src : Nat) (middle : Bool) (v : Nat) : Bool :=
  let e := s.vn .seqEntry c
  s.on .seqWait c && s.vn .seqAt c ≤ v && s.seqWaitSrc c e == src && selects (s.seqWaitEvt c e) middle

/-- An event that becomes visible in SAMPLE cycle v satisfies the wait of the present entry, and where that entry converts nothing and the next
one starts in the same cycle, its wait too (R150, R154), each entry of the table once at most (log entry 171). -/
def State.seqMeet (c src : Nat) (middle : Bool) (v : Nat) : Nat → State → State
  | 0, s => s
  | fuel + 1, s =>
    if s.seqWaits c src middle v then State.seqMeet c src middle v fuel ((s.waitMet c |>.seqReady c (s.vn .seqEntry c) v).coreTo c v [])
    else s

/-- An event becomes visible in SAMPLE cycle v to a core's sequencer: it satisfies waits, or a real event that the table selects is an overrun
(R154, R155). -/
def State.seqEvent (s : State) (c src : Nat) (middle subst : Bool) (v : Nat) : State :=
  if s.f Reg.SMP_CORE_CFG_TABLE_LEN c = 0 then s
  else
    let e := s.vn .seqEntry c
    if s.seqWaits c src middle v then State.seqMeet c src middle v (s.f Reg.SMP_CORE_CFG_TABLE_LEN c) s
    else if !subst && s.tableSelects c src middle then
      let s := s.addF Reg.SMP_OVERRUNS c
      s.raise { code := Ev.SEQ_OVERRUN, inst := c, d0 := c, d1 := e, reaction := s.f Reg.SMP_FAULT_OVERRUN_REACTION c,
                stages := Stage.ofCore c, lasting := true }
    else s

/-- An event of a source (0-6 stages, 7 excitation) becomes visible to a core in SAMPLE cycle v: the samples before v are taken, its
accumulators take them and latch, also when the core has been carried beyond v already, and its sequencer sees it. A substitute event and a real event of one cycle count as one (R157). -/
def State.coreEvent (s : State) (c src : Nat) (middle subst : Bool) (v : Nat) (l : List Int) : State :=
  let s := s.coreTo c v l
  let i := c * 8 + src
  let last := s.vn .evLast i
  let s := s.setV .evLast i (2 * v + (if subst then 1 else 0) + 2 : Nat)
  if 2 ≤ last && (last - 2) / 2 == v && (subst || last % 2 == 1) then s
  else
    let s := (s.accTake c v).each (List.range' (32 * c) 32) fun s a =>
      if s.f Reg.SMP_ACC_CFG_LATCH_SRC a == src && selects (s.f Reg.SMP_ACC_CFG_LATCH_EVT a) middle then s.accLatch a v else s
    s.seqEvent c src middle subst v

/-- A real carrier event of a stage at all cores, visible in SAMPLE cycle v; it ends substitution, and substitute events count from it, the
next PERIOD_MIDDLE half an IDLE_PERIOD later (R156, R157). A stage counts as selected by a core, for SUBST, when a WAIT entry of its table
selects it: the spec does not say whether LATCH_SRC selects too (DESIGN CHOICE, log entry 201). -/
def State.carrierEvent (s : State) (t : Stage) (middle : Bool) (v : Nat) (l : List Conv) : State :=
  s.each (List.range 4) fun s c =>
    let i := c * 8 + t.idx
    let s := (s.setV .substBase i (v * Clk.sample : Nat)).setOn .substMid i false
    (s.setFb Reg.SMP_CORE_STATUS_SUBST c
      ((Stage.all.filter (· != t)).any fun u => !s.fb Reg.PULSE_STATUS_RUN u.idx && (s.tableSelects c u.idx false
        || s.tableSelects c u.idx true))).coreEvent c t.idx middle false v (convOf l c)

/-! ### DMA buffers (R165 to R170) -/

/-- Write one entry into its buffer in SRAM, little endian, and advance WRPTR; a buffer with SIZE_LOG2 0, a frozen one and one whose
POST entries are written take nothing. -/
def State.bufWrite (s : State) (e : DmaEntry) : State :=
  let k := 16 * e.core + e.buf
  let size := 2 ^ s.f Reg.SMP_BUF_CFG_SIZE_LOG2 k
  if s.f Reg.SMP_BUF_CFG_SIZE_LOG2 k = 0 || s.bufClosed k then s
  else
    let i := s.f Reg.SMP_BUF_WRPTR_INDEX k
    let base := s.f Reg.SMP_BUF_CFG_BASE k * 256 + 4 * i
    let s := s.each (List.range 4) fun s b =>
      { s with sram := Store.set State.ramReset s.sram (base + b) (BitVec.ofNat 8 (e.entry.toNat / 2 ^ (8 * b))) }
    let s := s.setF Reg.SMP_BUF_WRPTR_INDEX k ((i + 1) % size : Nat)
    let s := s.when (i + 1 = size) fun s => s.wrapF Reg.SMP_BUF_WRPTR_WRAPS k
    s.when (s.on .bufTrig k) fun s => s.addV .bufPost k (-1)

/-- The results of a core up to an instant, with the raw values given, have reached its staging FIFO (R137, R168). -/
def State.coreUntil (s : State) (c t : Nat) (conv : List Int) : State :=
  let s := { s with now := max s.now t }
  (s.coreTo c (sampleCycle s.now) conv).dmaArrive c

/-- A granted burst of a core has been written to SRAM: the one that its FIFO requests at the given instant (R166, R169). -/
def execDmaBurstWritten (b : DmaBurst) (s : State) : Host.Outcome State Fault Refusal :=
  let c := b.core.val
  let s := s.coreUntil c b.t b.conv
  match burstOf (s.fifo c) with
  | none => done s
  | some burst =>
    let s := s.each burst State.bufWrite
    done { s with dmaFifo := s.dmaFifo.filter (fun e => e.core != c || !e.here) ++ (s.fifo c).drop burst.length }

/-- The core's results up to an instant arrive at its staging FIFO; at a full FIFO a result is dropped and counted, and the accumulators
receive it as usual (R168). -/
def execDmaOverflow (core : Fin 4) (conv : List Int) (t : Nat) (s : State) : Host.Outcome State Fault Refusal :=
  done (s.coreUntil core.val t conv)

/-- POST entries have been written after the trigger: the buffer freezes. FREEZE then reads 1 as FROZEN does: the spec does not say what it
reads (DESIGN CHOICE, log entry 172). -/
def execBufferFrozen (buffer : Fin 64) (s : State) : Host.Outcome State Fault Refusal :=
  let k := buffer.val
  done (if s.on .bufTrig k && s.vn .bufPost k = 0 && !s.fb Reg.SMP_BUF_CONTROL_FROZEN k then
      let s := ((s.setFb Reg.SMP_BUF_CONTROL_FROZEN k true).setFb Reg.SMP_BUF_CONTROL_FREEZE k true)
      s.raise { code := Ev.BUFFER_FROZEN, inst := k, d0 := k, lasting := true }
    else s)

/-- A host write of SMP.BUFkk.CONTROL: POST is stored, FREEZE 1 freezes, 0 resumes at WRPTR and rearms the trigger (R170). -/
def State.bufControl (s : State) (k : Nat) (v : Nat) : State :=
  let s := s.setF Reg.SMP_BUF_CONTROL_POST k (bits v 31 16)
  let frz := bits v 0 0 == 1
  let s := (s.setFb Reg.SMP_BUF_CONTROL_FREEZE k frz).setFb Reg.SMP_BUF_CONTROL_FROZEN k frz
  if frz then s else ((s.setOn .bufTrig k false).setV .bufPost k 0).clearCause Ev.BUFFER_FROZEN k

/-- OVR_FILTER consecutive overrange results of an input: OVR_REACTION on the stages of its core (R176). -/
def execInputOverrange (input : Fin 80) (s : State) : Host.Outcome State Fault Refusal :=
  let n := input.val
  done (if s.f Reg.SMP_AI_CFG_OVR_FILTER n ≤ s.vn .ovrRun n && !s.present Ev.INPUT_OVERRANGE n then
      s.raise { code := Ev.INPUT_OVERRANGE, inst := n, d0 := n, reaction := s.f Reg.SMP_AI_CFG_OVR_REACTION n,
                stages := Stage.ofCore (n / 20), lasting := true }
    else s)

/-! ### Slice rotation (R141 to R146) -/

/-- The calibrated slice takes the interleave position of the slice next due to leave, which goes into calibration, from an instant on (R141,
R142). -/
def State.swapSlice (s : State) (c at' : Nat) : State :=
  let leave := s.vn .nextLeave c
  let enter := s.vn .calSlice c
  let s := s.each (List.range 8) fun s k => if s.sliceAt c k == leave then s.setV .slicePos (c * 8 + k) enter else s
  let s := ((s.setV .swapIn c enter).setV .swapOut c leave).setV .swapAt c (at' + 1 : Nat)
  let s := ((s.setV .calSlice c leave).setV .nextLeave c ((leave + 1) % 9 : Nat)).setOn .calPass c false
  (s.setF Reg.SMP_CORE_STATUS_CAL_SLICE c leave).openSlow .calEnd c (ms 2)

/-- A 2 ms SLOW edge of the rotation: a slice that has passed its calibration enters service; a failed one that has passed ends the
suspension (R141, R145). -/
def execSliceSwap (core : Fin 4) (s : State) : Host.Outcome State Fault Refusal :=
  let c := core.val
  let e := (s.due .rotate c).getD 0
  done (s.expire .rotate c fun s =>
    let s := s.openSlow .rotate c (ms 2)
    if !s.on .calPass c then s
    else
      let back := s.f Reg.SMP_CORE_STATUS_FAILED c != 0
      let s := s.swapSlice c e
      if back then
        let s := ((s.setF Reg.SMP_CORE_STATUS_FAILED c 0).setFb Reg.SMP_CORE_STATUS_DEGRADED c false).lapse Clk.slow .calStale c
        let s := (s.setFb Reg.SMP_CORE_STATUS_STALE c false).clearCause Ev.CAL_STALE c
        (s.clearCause Ev.SLICE_CAL_FAIL c).note Ev.SLICE_RESTORED c
      else s)

/-- The raw errors of a slice, offset in uV, gain in ppm and skew in fs, lie within the correctable range of Table 4-1 (R143). -/
def calWithin (offset gain skew : Int) : Bool := offset.natAbs ≤ 50000 && gain.natAbs ≤ 20000 && skew.natAbs ≤ 15000

/-- A 2 ms calibration ends with the raw errors it has measured (R143): a slice that passes takes them as its coefficients; one that fails
suspends the rotation and is calibrated again in the next 2 ms (R144, R145). A further failure of a failed slice is counted and raises
nothing new, since its fault is present already (DESIGN CHOICE, log entry 173). -/
def execSliceCalDone (core : Fin 4) (offset gain skew : Int) (s : State) : Host.Outcome State Fault Refusal :=
  let c := core.val
  done (s.expire .calEnd c fun s =>
    let i := c * 9 + s.vn .calSlice c
    if calWithin offset gain skew then
      (((s.setV .sliceOffset i offset).setV .sliceGain i gain).setV .sliceSkew i skew).setOn .calPass c true
    else
      let s := ((s.addF Reg.SMP_CAL_FAILS c).setOn .calPass c false).openSlow .calEnd c (ms 2)
      if s.f Reg.SMP_CORE_STATUS_FAILED c != 0 then s
      else
        let s := s.setF Reg.SMP_CORE_STATUS_FAILED c (2 ^ s.vn .calSlice c : Nat)
        let s := (s.setF Reg.SMP_CORE_STATUS_CAL_SLICE c 15).setFb Reg.SMP_CORE_STATUS_DEGRADED c true
        let s := s.openSlow .calStale c (sec (s.f Reg.SMP_FAULT_STALE_LIMIT c))
        s.raise { code := Ev.SLICE_CAL_FAIL, inst := c, d0 := c, d1 := s.vn .calSlice c, lasting := true })

/-- The rotation of a core begins: S0 to S7 hold the positions 0 to 7, S8 is in calibration and S0 leaves first (DESIGN CHOICE: the spec
gives no order at the start, log entry 174). -/
def State.rotationBegin (s : State) (c : Nat) : State :=
  let s := s.each (List.range 8) fun s k => s.setV .slicePos (c * 8 + k) (k : Nat)
  let s := (s.setV .calSlice c 8).setF Reg.SMP_CORE_STATUS_CAL_SLICE c 8
  (s.openSlow .rotate c (ms 2)).openSlow .calEnd c (ms 2)

/-- The rotation of a core has been suspended for STALE_LIMIT. -/
def execCalStale (core : Fin 4) (s : State) : Host.Outcome State Fault Refusal :=
  let c := core.val
  done (s.expire .calStale c fun s =>
    let s := s.setFb Reg.SMP_CORE_STATUS_STALE c true
    s.raise { code := Ev.CAL_STALE, inst := c, d0 := c, reaction := s.f Reg.SMP_FAULT_STALE_REACTION c,
              stages := Stage.ofCore c, lasting := true })

/-! ### Housekeeping converter (R171 to R175) -/

/-- A code of a position lies within its limits. Position 63 reads H zero, ±8 steps around zero. -/
def State.hkInside (s : State) (p : Nat) (code : Int) : Bool :=
  if p < 48 then (s.f Reg.HK_P_LIMITS_LOW p : Int) ≤ code && code ≤ s.f Reg.HK_P_LIMITS_HIGH p
  else if p < 57 then (let l := Map.hkFixed.getD (p - 48) (0, 4095)
    (l.1 : Int) ≤ code && code ≤ l.2)
  else if p = 63 then -8 ≤ code && code ≤ 8
  else true

/-- The event of a position whose limit cause arises. -/
def State.hkRaise (s : State) (p : Nat) (code : Int) : State :=
  if p < 48 then
    let r := s.f Reg.HK_P_LIMITS_REACTION p
    s.raise { code := Ev.HK_LIMIT, inst := p, d0 := p, d1 := wrap 32 code, reaction := r, stages := if r == 7 then [] else
      Stage.all, lasting := true }
  else if p = 49 || p = 50 then
    let cores := if p = 49 then [0, 1] else [2, 3]
    let s := s.each cores fun s c => s.setFb Reg.SMP_CORE_STATUS_REF_FAULT c true
    s.raiseAll (cores.map fun c =>
      { code := Ev.REF_FAULT, inst := c, d0 := p, d1 := wrap 32 code, d2 := c,
        reaction := s.f Reg.SMP_FAULT_REF_REACTION c, stages := Stage.ofCore c, lasting := true })
  else if p = 51 then s.raise { code := Ev.VAUX_RANGE, d0 := p, d1 := wrap 32 code, lasting := true }
  else
    let r := s.f Reg.HK_CFG_RAIL_REACTION
    s.raise { code := Ev.RAIL_FAULT, inst := p, d0 := p, d1 := wrap 32 code, reaction := r,
              stages := if r == 7 then [] else Stage.all, lasting := true, nextStart := true }

/-- The limit cause of a position clears; that of a rail stays until the next start (Table 4-8). -/
def State.hkClear (s : State) (p : Nat) : State :=
  if p < 48 then s.clearCause Ev.HK_LIMIT p
  else if p = 49 || p = 50 then
    s.each (if p = 49 then [0, 1] else [2, 3]) fun s c =>
      (s.setFb Reg.SMP_CORE_STATUS_REF_FAULT c false).clearCause Ev.REF_FAULT c
  else if p = 51 then s.clearCause Ev.VAUX_RANGE
  else s

/-- A position is enabled: 48 to 63 always. -/
def State.hkEnabled (s : State) (p : Nat) : Bool :=
  48 ≤ p || (if p < 32 then (s.f Reg.HK_MASK).testBit p else (s.f Reg.HK_MASK_HI).testBit (p - 32))

/-- One position of a round: the code is stored and the limit cause follows the filter (R173, R174). -/
def State.hkPosition (s : State) (p : Nat) (code : Int) : State :=
  if !s.hkEnabled p then s
  else
    let code := if p < 48 then clampI 0 4095 code else code
    let inside := s.hkInside p code
    let filter := if p < 48 then s.f Reg.HK_P_LIMITS_FILTER p else 3
    let s := ((s.setF Reg.HK_P_RESULT_CODE p code).setFb Reg.HK_P_RESULT_VALID p true).setFb Reg.HK_P_RESULT_OUT p (!inside)
    let s := s.setF Reg.HK_P_RESULT_ROUND p (s.f Reg.HK_ROUNDS)
    if inside then
      let s := (s.setV .hkBad p 0).setV .hkGood p (min 15 (s.vn .hkGood p + 1) : Nat)
      if s.fb Reg.HK_P_RESULT_CAUSE p && filter ≤ s.vn .hkGood p then (s.setFb Reg.HK_P_RESULT_CAUSE p false).hkClear p else s
    else
      let s := (s.setV .hkGood p 0).setV .hkBad p (min 15 (s.vn .hkBad p + 1) : Nat)
      if !s.fb Reg.HK_P_RESULT_CAUSE p && filter ≤ s.vn .hkBad p then (s.setFb Reg.HK_P_RESULT_CAUSE p true).hkRaise p code else s

/-- A housekeeping round at its period boundary: every enabled position is converted in ascending order, one per us, the codes given for
positions 0, 1, ...; one that the command does not give is a free value (R171; log entry 170). The next round starts a PERIOD later. -/
def execHkRound (codes : List Int) (s : State) : Host.Outcome State Fault Refusal :=
  done (s.expire .hkRound 0 fun s =>
    let s := s.openSlow .hkRound 0 (us (100 * s.f Reg.HK_CFG_PERIOD))
    let s := s.each (List.range 64) fun s p => s.hkPosition p (codes.getD p (Config.analogue 4 p (sampleCycle s.now)))
    s.addF Reg.HK_ROUNDS 0)

end Sys2Proof.Machine
end

