-- ==== Sys2Proof/Machine/Thermal.lean ====
section
/-!
DEFINITION. Temperature sensing and thermal management (chapter 5): the sources, the neighbour check, thresholds, the stage limits
and the shutdown latches. Temperatures are in 0.1 degC.
-/

namespace Sys2Proof.Machine

/-- A source's raw value and electrical fault of Table 5-1. -/
structure Reading where
  raw  : Int
  elec : Bool

/-- A source is used. -/
def State.thEnabled (s : State) (n : Nat) : Bool := s.fb Reg.TH_S_CFG_ENABLE n

/-- The stages a source protects. -/
def State.thStages (s : State) (n : Nat) : List Stage := Stage.ofMask (s.f Reg.TH_S_CFG_STAGES n)

/-- The answer of a board sensor: none that the command does not give. -/
def boardRead (board : List BoardRead) (n : Nat) : BoardRead := board.getD n .silent

/-- The present reading of a source (R178, R179): board sensors in 1/16 degC from the two-wire bus (no answer, or a second CRC error in a
row, is an electrical fault, and the last value stands), die sensors and external inputs from their housekeeping codes, leg temperatures
from the status frames. An enabled external source without a position (HK_POS 63) reads the code of position 63 (DESIGN CHOICE, log entry
204). -/
def State.thRead (s : State) (board : List BoardRead) (n : Nat) : Reading :=
  if n < 12 then
    match boardRead board n with
    | .value x => { raw := divOpen (10 * x) 16, elec := false }
    | .crcError => { raw := s.fi Reg.TH_S_VALUE_RAW n, elec := 1 ≤ s.vn .thCrc n }
    | .silent => { raw := s.fi Reg.TH_S_VALUE_RAW n, elec := true }
  else if n < 18 then
    let code := s.f Reg.HK_P_RESULT_CODE (57 + (n - 12))
    { raw := divOpen (5 * code - 10926) 4, elec := code = 0 || code = 4095 }
  else if n < 44 then
    let c := 2 * (n - 18)
    { raw := s.fi Reg.CH_TEMP_T c, elec := s.fb Reg.CH_STATUS_THERM_OPEN c || s.fb Reg.CH_STATUS_THERM_SHORT c }
  else
    let k := n - 44
    let code := s.f Reg.HK_P_RESULT_CODE (s.f Reg.TH_EXT_CFG_HK_POS k)
    { raw := s.fi Reg.TH_EXT_CFG_OFFSET k + divOpen (s.fi Reg.TH_EXT_GAIN k * code) 2621440,
      elec := code = 0 || code = 4095 }

/-! ### Neighbours (R184 to R186) -/

/-- The neighbour numbers of a source. -/
def State.thNbs (s : State) (n : Nat) : List Nat :=
  ((List.range 4).map fun b => s.vn .thNb (n * 8 + b)).filter (· < 52)
/-- LIMIT and OFFSET of a source's entry. -/
def State.thLimit (s : State) (n : Nat) : Nat := s.vn .thNb (n * 8 + 4) + 256 * s.vn .thNb (n * 8 + 5)
def State.thOffset (s : State) (n : Nat) : Int := toSigned 16 (s.vn .thNb (n * 8 + 6) + 256 * s.vn .thNb (n * 8 + 7))

/-- The raw values of the usable neighbours: enabled, neither BROKEN nor ELEC. A neighbour that an entry names twice counts twice (DESIGN
CHOICE, log entry 204). -/
def State.thUsable (s : State) (n : Nat) : List Int :=
  ((s.thNbs n).filter fun m => s.thEnabled m && !s.fb Reg.TH_S_STATUS_BROKEN m && !s.fb Reg.TH_S_STATUS_ELEC m).map fun m =>
    s.fi Reg.TH_S_VALUE_RAW m

/-- Largest minus smallest of a list. -/
def spanOf (l : List Int) : Int :=
  match l with
  | [] => 0
  | a :: r => r.foldl max a - r.foldl min a

/-- The estimate of a source: the mean of its usable neighbours plus OFFSET, when at least two agree. -/
def State.thEstimate (s : State) (n : Nat) : Option Int :=
  let l := s.thUsable n
  if 2 ≤ l.length && spanOf l ≤ s.thLimit n then some (divOpen (l.foldl (· + ·) 0) l.length + s.thOffset n) else none

/-- Step 2 for one source: with agreeing neighbours BROKEN is declared after FILTER consecutive rounds in which it departs, or at once when
ELEC, and restored after RESTORE consecutive rounds near the estimate. Without agreeing neighbours, fewer than two usable ones among them,
it neither becomes nor stops being BROKEN (R184 to R186). -/
def State.thCheck (s : State) (n : Nat) : State :=
  let elec := s.fb Reg.TH_S_STATUS_ELEC n
  let broken := s.fb Reg.TH_S_STATUS_BROKEN n
  let raw := s.fi Reg.TH_S_VALUE_RAW n
  let declare (s : State) : State :=
    (s.setFb Reg.TH_S_STATUS_BROKEN n true).raise { code := Ev.SENSOR_BROKEN, inst := n, d0 := n, lasting := true }
  match s.thEstimate n with
  | none => (s.setV .thNear n 0).setV .thDepart n 0
  | some e =>
    let far : Int := |raw - e|
    if !broken then
      let run := if s.thLimit n < far then s.vn .thDepart n + 1 else 0
      let s := s.setV .thDepart n run
      if elec || s.f Reg.TH_S_CFG_FILTER n ≤ run then (declare s).setV .thNear n 0 else s
    else
      let run := if !elec && 2 * far ≤ s.thLimit n then s.vn .thNear n + 1 else 0
      let s := s.setV .thNear n run
      if s.f Reg.TH_CFG_RESTORE ≤ run then
        (((s.setFb Reg.TH_S_STATUS_BROKEN n false).setV .thDepart n 0).clearCause Ev.SENSOR_BROKEN n).note Ev.SENSOR_RESTORED n
      else s

/-- Step 3: the effective value. A BROKEN source takes its estimate, computed anew with the BROKEN flags of the end of step 2; while its
neighbours disagree it keeps its last effective value, and NO_EST stays as it is (both DESIGN CHOICE, log entry 202). With fewer than two
usable neighbours it keeps that value and is NO_EST, and so does an ELEC source without an entry (R186), whose NO_EST clears in its first
round that is not ELEC (DESIGN CHOICE, log entry 203). An ELEC source with an entry that is not BROKEN keeps its raw value while its neighbours
do not agree (R185), NO_EST with fewer than two usable ones (log entry 203). The faults raised are collected. -/
def State.thEffective (s : State) (n : Nat) : State × List FaultEvt :=
  if s.fb Reg.TH_S_STATUS_BROKEN n || s.fb Reg.TH_S_STATUS_ELEC n then
    match s.thEstimate n with
    | some e => (((s.setF Reg.TH_S_VALUE_EFF n e).setFb Reg.TH_S_STATUS_NO_EST n false).clearCause Ev.NO_ESTIMATE n, [])
    | none =>
      if 2 ≤ (s.thUsable n).length then
        (if s.fb Reg.TH_S_STATUS_BROKEN n then s else s.setF Reg.TH_S_VALUE_EFF n (s.fi Reg.TH_S_VALUE_RAW n), [])
      else
        let s := if s.fb Reg.TH_S_STATUS_BROKEN n || (s.thNbs n).isEmpty then s
          else s.setF Reg.TH_S_VALUE_EFF n (s.fi Reg.TH_S_VALUE_RAW n)
        if s.fb Reg.TH_S_STATUS_NO_EST n then (s, []) else
        (s.setFb Reg.TH_S_STATUS_NO_EST n true,
          [{ code := Ev.NO_ESTIMATE, inst := n, d0 := n, reaction := s.f Reg.TH_CFG_NOEST_REACTION,
             stages := s.thStages n, lasting := true }])
  else
    (((s.setF Reg.TH_S_VALUE_EFF n (s.fi Reg.TH_S_VALUE_RAW n)).setFb Reg.TH_S_STATUS_NO_EST n false).clearCause
      Ev.NO_ESTIMATE n, [])

/-! ### Thresholds (R187 to R192) -/

/-- One condition of a source, number k: it changes when the set (or, being set, the clear) test has held for FILTER rounds; whether
it has been set now. -/
def State.thCond (s : State) (n k : Nat) (flag : Fld) (set clr : Bool) (code : Nat) : State × Bool :=
  let on := s.fb flag n
  let run := if (if on then clr else set) then s.vn .thCnt (n * 8 + k) + 1 else 0
  if s.f Reg.TH_S_CFG_FILTER n ≤ run then
    let s := (s.setV .thCnt (n * 8 + k) 0).setFb flag n (!on)
    if on then (s.clearCause code n, false) else (s, true)
  else (s.setV .thCnt (n * 8 + k) run, false)

/-- Step 4 for one source. A shutdown latches in MRAM with its count (R190). The record of TH_SHUTDOWN carries s, BROKEN at bit 8 and STAGES
from bit 16 in DETAIL0, T in DETAIL1 and the raw value in DETAIL2; the records of the other conditions carry T in DETAIL1: Table 5-3 gives
the five items of the first no words, and those of the others no value (DESIGN CHOICE, log entry 205). -/
def State.thThresholds (s : State) (n : Nat) : State × List FaultEvt :=
  let t := s.fi Reg.TH_S_VALUE_EFF n
  let hyst : Int := s.f Reg.TH_S_CFG_HYST n
  let warn := s.fi Reg.TH_S_UPPER_WARN n
  let derate := s.fi Reg.TH_S_UPPER_DERATE n
  let shut := s.fi Reg.TH_S_SHUT_SHUT n
  let cd := s.fi Reg.TH_S_COLD_DRIVE n
  let cc := s.fi Reg.TH_S_COLD_CHARGE n
  let l := s.thStages n
  let (s, w) := s.thCond n 0 Reg.TH_S_STATUS_WARN (warn ≤ t) (t ≤ warn - hyst) Ev.TH_WARN
  let (s, d) := s.thCond n 1 Reg.TH_S_STATUS_DERATE (derate ≤ t) (t ≤ derate - hyst) Ev.TH_DERATE
  let (s, c1) := s.thCond n 3 Reg.TH_S_STATUS_COLD_DRIVE (t ≤ cd) (cd + hyst ≤ t) Ev.TH_COLD_DRIVE
  let (s, c2) := s.thCond n 4 Reg.TH_S_STATUS_COLD_CHARGE (t ≤ cc) (cc + hyst ≤ t) Ev.TH_COLD_CHARGE
  let run := if shut ≤ t && !s.fb Reg.TH_S_STATUS_SHUT n then s.vn .thCnt (n * 8 + 2) + 1 else 0
  let sh := run != 0 && s.f Reg.TH_S_CFG_FILTER n ≤ run
  let s := s.setV .thCnt (n * 8 + 2) (if sh then 0 else run)
  let s := s.when sh fun s =>
    (((s.setFb Reg.TH_S_STATUS_SHUT n true).setOn .thLatch n true).setV .thLatchAt n t).addF Reg.TH_SHUT_COUNT n
  let fault (code r : Nat) (stages : List Stage) : FaultEvt :=
    { code := code, inst := n, d0 := n, d1 := wrap 32 t, reaction := r, stages := stages, lasting := true }
  let shutEvt : FaultEvt :=
    { code := Ev.TH_SHUTDOWN, inst := n,
      d0 := n + (if s.fb Reg.TH_S_STATUS_BROKEN n then 2 ^ 8 else 0) + s.f Reg.TH_S_CFG_STAGES n * 2 ^ 16, d1 := wrap 32 t,
      d2 := wrap 32 (s.fi Reg.TH_S_VALUE_RAW n), reaction := s.f Reg.TH_S_CFG_SHUT_REACTION n, stages := l, lasting := true }
  (s, (if w then [fault Ev.TH_WARN 0 l] else []) ++ (if d then [fault Ev.TH_DERATE 1 l] else [])
      ++ (if c1 then [fault Ev.TH_COLD_DRIVE 1 l] else []) ++ (if c2 then [fault Ev.TH_COLD_CHARGE 0 l] else [])
      ++ (if sh then [shutEvt] else []))

/-- The limit of a source in DERATE, in 0.1 % (R188). -/
def State.thSourceLimit (s : State) (n : Nat) : Int :=
  let floor : Int := s.f Reg.TH_CFG_FLOOR
  let d := s.fi Reg.TH_S_UPPER_DERATE n
  let den := s.fi Reg.TH_S_SHUT_SHUT n - d
  if den ≤ 0 then floor
  else clampI floor 1000 (Int.fdiv (1000 * den - (1000 - floor) * (s.fi Reg.TH_S_VALUE_EFF n - d)) den)

/-- The limit of a stage: the lowest of its sources' limits, COLD_LIMIT and 100 % (R188). -/
def State.thStageLimit (s : State) (t : Stage) : Int :=
  ((List.range 52).filter fun n => s.thEnabled n && (s.f Reg.TH_S_CFG_STAGES n).testBit t.idx).foldl (fun a n =>
    let a := if s.fb Reg.TH_S_STATUS_DERATE n then min a (s.thSourceLimit n) else a
    if s.fb Reg.TH_S_STATUS_COLD_DRIVE n then min a (s.f Reg.TH_CFG_COLD_LIMIT) else a) 1000

/-- Collect the faults that an operation raises for each source. -/
def State.eachSource (s : State) (k : State → Nat → State × List FaultEvt) : State × List FaultEvt :=
  ((List.range 52).filter s.thEnabled).foldl (fun (a : State × List FaultEvt) n =>
    let (s, l) := k a.1 n
    (s, a.2 ++ l)) (s, [])

/-- A slow round (R181): it takes place after a housekeeping round whose count is a multiple of 10. -/
def State.thermalRound (s : State) (board : List BoardRead) : State :=
  if s.f Reg.HK_ROUNDS = 0 || s.f Reg.HK_ROUNDS % 10 != 0 then s
  else
    let en := (List.range 52).filter s.thEnabled
    let s := s.each en fun s n =>
      let r := s.thRead board n
      let s := s.when (n < 12) fun s => s.setV .thCrc n (if boardRead board n = .crcError then min 2 (s.vn .thCrc n + 1) else 0 : Nat)
      (s.setF Reg.TH_S_VALUE_RAW n r.raw).setFb Reg.TH_S_STATUS_ELEC n r.elec
    let s := s.each en State.thCheck
    let (s, f1) := s.eachSource State.thEffective
    let (s, f2) := s.eachSource State.thThresholds
    let s := s.each Stage.all fun s t =>
      let old := s.f Reg.TH_STAGE_LIMIT t.idx
      let s := s.setF Reg.TH_STAGE_LIMIT t.idx (s.thStageLimit t)
      if old = 1000 && s.f Reg.TH_STAGE_LIMIT t.idx < 1000 then s.abortBrakeTest t else s
    (s.addF Reg.TH_ROUNDS 0).raiseAll (f1 ++ f2)

/-- A slow thermal round with the board sensors' answers. -/
def execThermalRound (board : List BoardRead) (s : State) : Host.Outcome State Fault Refusal := done (s.thermalRound board)

/-- THERMAL_RELEASE clears the latch of every source below RELEASE (R191). -/
def State.thermalRelease (s : State) : State :=
  s.each (List.range 52) fun s n =>
    if s.fb Reg.TH_S_STATUS_SHUT n && s.fi Reg.TH_S_VALUE_EFF n < s.fi Reg.TH_S_SHUT_RELEASE n then
      ((((s.setFb Reg.TH_S_STATUS_SHUT n false).setOn .thLatch n false).setV .thLatchAt n 0).clearCause Ev.TH_SHUTDOWN n).note Ev.TH_RELEASED n
    else s

/-- The mask of remaining latches, bit s for source s (R191). -/
def State.thermalMask (s : State) : Nat :=
  (List.range 52).foldl (fun a n => if s.fb Reg.TH_S_STATUS_SHUT n then a + 2 ^ n else a) 0

/-- A stage has a latched source: it cannot be armed (R190). -/
def State.thermalLatched (s : State) (t : Stage) : Bool :=
  (List.range 52).any fun n => s.fb Reg.TH_S_STATUS_SHUT n && (s.f Reg.TH_S_CFG_STAGES n).testBit t.idx

end Sys2Proof.Machine
end

