-- ==== Sys2Proof/Machine/Feedback.lean ====
section
/-!
DEFINITION. Position and speed feedback (chapter 6): counting, direction, index, halls, the resolver observer, SSI frames, the two
speed methods, snapshots, and the feedback faults.
-/

namespace Sys2Proof.Machine

/-! ### Channels, angles and speed (R195 to R200, R208, R215, R226 to R230) -/

/-- The stage a feedback channel belongs to (R198). -/
def State.fbStage (s : State) (n : Nat) : Option Stage := Stage.ofNat? (s.f Reg.FB_MODE_STAGE n)

/-- Counts per mechanical revolution (Table 6-1). -/
def State.fbCpr (s : State) (n : Nat) : Nat :=
  match s.f Reg.FB_MODE_MODE n with
  | 1 => s.f Reg.FB_SCALE_CPR n
  | 2 => 6 * s.f Reg.FB_SCALE_POLE_PAIRS n
  | 3 => 65536 * s.f Reg.FB_RES_RES_POLES n
  | 4 => 2 ^ s.f Reg.FB_SSI_FRAME_ST_BITS n
  | _ => 0

/-- SPEED in Q16.16 revolutions per second from counts in SAMPLE cycles, ties away from zero, saturated (R230). -/
def revs (counts : Int) (cpr cycles : Nat) : Int := satQ30 (avgRound (counts * 9830400000000) (cpr * cycles))

/-- Speed with the sign of DIR. -/
def State.fbSigned (s : State) (n : Nat) (x : Int) : Int := if s.fb Reg.FB_STATUS_DIR n then -x else x

/-- The period method in SAMPLE cycle c (R226, R227): the time between the k-th last edge that moved EXT and the last one; less when the
last edge is older, 0 after ZERO_TIME. -/
def State.fbPeriod (s : State) (n c : Nat) : Int :=
  let k := min (s.f Reg.FB_SPEED_CFG_PERIOD_COUNTS n) (s.vn .fbHistLen n - 1)
  if k = 0 then 0
  else
    let c0 := s.vn .fbHist (n * 16)
    let T := max 1 (c0 - s.vn .fbHist (n * 16 + k))
    let t := c - c0
    if 150000 * s.f Reg.FB_SPEED_CFG_ZERO_TIME n ≤ t then 0
    else s.fbSigned n (if T < t * k then revs 1 (s.fbCpr n) t else revs k (s.fbCpr n) T)

/-- The observer's angle in SAMPLE cycle c, in 2^-48 of a resolver revolution: it advances by its speed every SAMPLE cycle (R219). -/
def State.resAngle (s : State) (n c : Nat) : Int := s.v .fbRes n + s.v .fbOmega n * ((c : Int) - s.v .fbObsAt n)

/-- POS in SAMPLE cycle c: a signed 32-bit count; in RES mode the observer's angle in 2^-16 of a resolver revolution. -/
def State.posAt (s : State) (n c : Nat) : Int :=
  if s.f Reg.FB_MODE_MODE n == 3 then toSigned 32 (wrap 32 (Int.fdiv (s.resAngle n c) (2 ^ 32))) else s.fi Reg.FB_POS n

/-- POS now. -/
def State.fbPos (s : State) (n : Nat) : Int := s.posAt n (sampleCycle s.now)

/-- SPEED in SAMPLE cycle c (Table 6-1). -/
def State.speedAt (s : State) (n c : Nat) : Int :=
  match s.f Reg.FB_MODE_MODE n with
  | 1 | 2 => if s.fb Reg.FB_STATUS_METHOD n then s.v .fbCount n else s.fbPeriod n c
  | 3 => satQ30 (avgRound (s.v .fbOmega n * 150000000) (2 ^ 32 * s.f Reg.FB_RES_RES_POLES n))
  | 4 => s.v .fbCount n
  | _ => 0

/-- SPEED now. -/
def State.fbSpeed (s : State) (n : Nat) : Int := s.speedAt n (sampleCycle s.now)

/-- AGE: SAMPLE cycles from the last accepted count edge to SAMPLE cycle v, saturated. -/
def State.fbAge (s : State) (n v : Nat) : Nat := min 65535 (v - s.vn .fbEdgeAt n)

/-- Floor of (p x a / cpr), 0 with no CPR. -/
def scaleFloor (p : Int) (a cpr : Nat) : Nat := ((p % (cpr : Int)).toNat * a) / cpr

/-- MECH under R208; for a resolver known modulo 1 / RES_POLES of a revolution (R219). -/
def State.mechAt (s : State) (n c : Nat) : Nat :=
  match s.f Reg.FB_MODE_MODE n with
  | 1 | 2 | 4 => scaleFloor (s.posAt n c) 65536 (s.fbCpr n)
  | 3 => wrap 16 (divOpen (s.resAngle n c) (2 ^ 32 * s.f Reg.FB_RES_RES_POLES n))
  | _ => 0

/-- The electrical angle in HALL mode (R215): the sector's centre at speed 0, otherwise the boundary last crossed advanced by the
electrical speed over AGE, within the sector. -/
def State.hallAngle (s : State) (n c age : Nat) : Int :=
  let sec : Int := s.f Reg.FB_STATUS_SECTOR n
  let lo := divOpen (sec * 65536) 6
  let hi := divOpen ((sec + 1) * 65536) 6
  if s.speedAt n c = 0 then divOpen ((2 * sec + 1) * 65536) 12
  else
    let from' := if s.on .fbHallUp n then hi else lo
    clampI lo (hi - 1) (from' + divOpen (s.speedAt n c * s.f Reg.FB_SCALE_POLE_PAIRS n * age) 150000000)

/-- ANGLE_E in SAMPLE cycle c, in 2^-16 of a revolution, at an age. -/
def State.angleAt (s : State) (n c age : Nat) : Nat :=
  let off : Int := Config.angleOffset n
  match s.f Reg.FB_MODE_MODE n with
  | 1 | 4 => wrap 16 (scaleFloor (s.posAt n c) (s.f Reg.FB_SCALE_POLE_PAIRS n * 65536) (s.fbCpr n) + off)
  | 2 => wrap 16 (s.hallAngle n c age + off)
  | 3 => wrap 16 (divOpen (s.resAngle n c * s.f Reg.FB_SCALE_POLE_PAIRS n) (2 ^ 32 * s.f Reg.FB_RES_RES_POLES n) + off)
  | _ => 0

/-! ### Outputs (R196, R197, R216, R222): SUP is `fbSup` -/

/-- The period of the excitation in VCO cycles: 5, 10 or 20 kHz, from the PULSE clock. -/
def State.excPeriod (s : State) (n : Nat) : Nat :=
  match s.f Reg.FB_RES_EXC_FREQ n with
  | 0 => 600000
  | 1 => 300000
  | _ => 150000

/-- The EXC output of a resolver at an instant, in 2^-30 of 0.1 V: a sine wave of EXC_AMP from step 7 on, 0 while it is off. -/
def State.excitation (s : State) (n at' : Nat) : Int :=
  if s.on .excAt n then
    s.f Reg.FB_RES_EXC_AMP n * Config.sine ((at' + 1 - s.vn .excAt n) % s.excPeriod n * 65536 / s.excPeriod n)
  else 0

/-- Bits of one SSI frame: multi-turn, single-turn, error and parity bits. -/
def State.ssiBits (s : State) (n : Nat) : Nat :=
  s.f Reg.FB_SSI_FRAME_MT_BITS n + s.f Reg.FB_SSI_FRAME_ST_BITS n + s.f Reg.FB_SSI_FRAME_ERR_BITS n + s.f Reg.FB_SSI_FRAME_PARITY n

/-- The k-th half clock period of a frame from its first falling clock edge, in VCO cycles. -/
def State.ssiHalf (s : State) (n k : Nat) : Nat := k * 15000 / max 1 (s.f Reg.FB_SSI_TIMING_CLK n)

/-- The CK output of a channel at an instant: off outside SSI mode; high between frames; in a frame low in the first half of every clock
period. -/
def State.ckOut (s : State) (n at' : Nat) : Option Bool :=
  if s.f Reg.FB_MODE_MODE n != 4 then none
  else match s.due .ssiFrame n with
    | none => some true
    | some e => some (e ≤ at' || ((List.range (s.ssiBits n + 1)).any fun k =>
        s.vn .ssiAt n + s.ssiHalf n (2 * k + 1) ≤ at' && at' < s.vn .ssiAt n + s.ssiHalf n (2 * k + 2)))

/-! ### VALID, REF_OK and faults (R199, R200, R234, R235, R274) -/

/-- A brake test that follows a channel aborts when its REF_OK or VALID falls (R512). -/
def State.fbLost (s : State) (n : Nat) : State :=
  s.each [0, 1] fun s k => if s.f Reg.SAFE_BRK_CFG_FB k == n then s.abortTest k else s

/-- VALID follows the mode and the causes of the SIGNAL group (R199). -/
def State.fbValid (s : State) (n : Nat) : State :=
  let bad := s.present Ev.SUPPLY_FAULT n || s.present Ev.HALL_INVALID n || s.present Ev.RES_AMPLITUDE n
    || s.present Ev.EXC_FAULT n || s.present Ev.SSI_FRAME n || (List.range 4).any fun p => s.present Ev.WIRE_FAULT (4 * n + p)
  let ok := s.f Reg.FB_MODE_MODE n != 0 && !bad
  let was := s.fb Reg.FB_STATUS_VALID n
  let s := s.setFb Reg.FB_STATUS_VALID n ok
  if was && !ok then s.fbLost n else s

/-- A fault of a channel with the reaction of its group on the channel's stage (Table 6-3). -/
def State.fbEvt (s : State) (code n inst reaction d1 d2 : Nat) (lasting : Bool) : FaultEvt :=
  { code := code, inst := inst, src := s.f Reg.FB_MODE_STAGE n, d0 := n, d1 := d1, d2 := d2, reaction := reaction,
    stages := (s.fbStage n).toList, lasting := lasting, transient := !lasting }

/-- It is raised. -/
def State.fbFault (s : State) (code n inst reaction d1 d2 : Nat) (lasting : Bool) : State :=
  s.raise (s.fbEvt code n inst reaction d1 d2 lasting)

/-- A fault of the SIGNAL group: its cause is present until it clears, VALID falls, and it is counted. -/
def State.fbSignal (s : State) (code n inst d1 : Nat) : State :=
  if s.present code inst then s
  else ((s.addF Reg.FB_COUNTERS n 1 3).fbFault code n inst (s.f Reg.FB_FAULT_SIGNAL_REACTION n) d1 0 true).fbValid n

/-- The cause of a SIGNAL fault clears. -/
def State.fbClear (s : State) (code n inst : Nat) : State := (s.clearCause code inst).fbValid n

/-- A fault of the POSITION group. -/
def State.fbPosition (s : State) (code n d1 : Nat) (lasting : Bool) : State :=
  s.fbFault code n n (s.f Reg.FB_FAULT_POS_REACTION n) d1 0 lasting

/-- The slot types that need REF_OK (Table 7-1). -/
def needsRef (ty : Nat) : Bool := ty == 1 || ty == 2 || ty == 5 || ty == 9

/-- The feedback channel that input .07 of a slot names. -/
def State.slotFb (s : State) (k : Nat) : Option Nat :=
  let src := s.f Reg.SLOT_INPUTS_SOURCE k 7
  if 128 ≤ src && src < 136 then some (src - 128) else none

/-- The slots that need REF_OK of a channel. -/
def State.refSlots (s : State) (n : Nat) : List Nat :=
  (List.range 48).filter fun k => needsRef (s.f Reg.SLOT_TYPE_TYPE k) && s.slotFb k == some n

/-- REF_OK falls: REF_REACTION of each slot that needs it in AUTO and RUNNING (R274). -/
def State.refFalls (s : State) (n : Nat) : State :=
  if s.fb Reg.FB_STATUS_REF_OK n then
    let s := (s.setFb Reg.FB_STATUS_REF_OK n false).fbLost n
    s.each (s.refSlots n) fun s k => match Stage.ofNat? (s.f Reg.SLOT_TYPE_STAGE k) with
      | some t =>
        if s.fb Reg.SLOT_MODE_MODE k && s.st t == .running then
          s.raise { code := Ev.REF_LOST, inst := k, src := t.idx, d0 := k, d1 := n,
                    reaction := s.f Reg.SLOT_MODE_REF_REACTION k, stages := [t], lasting := true }
        else s
      | none => s
  else s

/-- REF_OK is set. -/
def State.refRises (s : State) (n : Nat) : State :=
  let s := s.setFb Reg.FB_STATUS_REF_OK n true
  (s.each (s.refSlots n) fun s k => s.clearCause Ev.REF_LOST k).clearCause Ev.RES_TRACKING n

/-! ### Position compares and the movement check of a brake test (R475, R479 to R482, R511) -/

/-- The actuators whose slot follows a feedback channel. -/
def State.actsOf (s : State) (n : Nat) : List Nat :=
  [0, 1].filter fun a => s.f Reg.ACT_CFG_SLOT a < 48 && s.slotFb (s.f Reg.ACT_CFG_SLOT a) == some n

/-- Compare c of actuator a fires (R481). -/
def State.cmpFire (s : State) (a c : Nat) (pos : Int) (at' : Nat) : State :=
  let s := ((s.setFb Reg.ACT_CMP_ARMED a false c).setFb Reg.ACT_CMP_EITHER a false c).setW1c Reg.ACT_CMP_FIRED a 1 c
  let s := (s.setF Reg.ACT_CMP_FIRE_POS a pos c).setF Reg.ACT_CMP_FIRE_CYCLE a ((at' - s.vn .startAt) / Clk.pulse : Nat) c
  let s := s.addF Reg.ACT_COUNTERS a 1 6
  let s := if s.f Reg.ACT_CMP_LIMIT a c == 0 then s else s.setV .actLimit a (s.f Reg.ACT_CMP_LIMIT a c : Nat)
  s.when (s.fb Reg.ACT_CMP_LOG a c) fun s => s.noteAt Ev.COMPARE_FIRED (if a = 0 then .X1 else .X2) c (wrap 32 pos)

/-- An armed compare fires on a crossing of its MODE, or of either direction (R479). -/
def State.cmpCross (s : State) (a c : Nat) (p p' : Int) (at' : Nat) : State :=
  let m := s.f Reg.ACT_CMP_MODE a c
  let e := s.fb Reg.ACT_CMP_EITHER a c
  let dv := toSigned 32 (wrap 32 (s.fi Reg.ACT_CMP_VALUE a c - p))
  let dp := toSigned 32 (wrap 32 (p' - p))
  let up := 0 < dv && dv ≤ dp
  let down := dv < 0 && dp ≤ dv
  if s.fb Reg.ACT_CMP_ARMED a c && ((up && (m == 1 || m == 3 || e)) || (down && (m == 2 || m == 3 || e))) then s.cmpFire a c p' at'
  else s

/-- The test of a compare that is armed: behind when POS has passed VALUE in the direction of movement (R480). -/
def State.cmpTest (s : State) (a c n : Nat) : State :=
  let pos := s.fbPos n
  let v := s.fi Reg.ACT_CMP_VALUE a c
  let behind := s.fbSpeed n != 0 && (if s.fb Reg.FB_STATUS_DIR n then pos ≤ v else v ≤ pos)
  if behind && s.f Reg.ACT_CMP_MODE a c != 0 then
    let s := s.addF Reg.ACT_COUNTERS a 1 7
    if s.fb Reg.ACT_CMP_FIRE_IF_PASSED a c then s.cmpFire a c pos s.now
    else
      let s := (s.setFb Reg.ACT_CMP_EITHER a true c).setW1c Reg.ACT_CMP_BEHIND a 1 c
      s.when (s.fb Reg.ACT_CMP_LOG a c) fun s => s.noteAt Ev.COMPARE_BEHIND (if a = 0 then .X1 else .X2) c (wrap 32 v)
  else s

/-- A write of VALUE arms a compare and tests it (R480); an actuator with no slot has no unit. -/
def State.cmpArm (s : State) (a c : Nat) : State :=
  match (if s.f Reg.ACT_CFG_SLOT a < 48 then s.slotFb (s.f Reg.ACT_CFG_SLOT a) else none) with
  | none => s
  | some n => ((s.setFb Reg.ACT_CMP_ARMED a true c).setFb Reg.ACT_CMP_EITHER a (s.f Reg.ACT_CMP_MODE a c == 3) c).cmpTest a c n

/-- A write of CFG disarms a compare (R480). -/
def State.cmpDisarm (s : State) (a c : Nat) : State := (s.setFb Reg.ACT_CMP_ARMED a false c).setFb Reg.ACT_CMP_EITHER a false c

/-- A correction of POS is no crossing: every armed compare is tested again (R482). -/
def State.cmpRetest (s : State) (n : Nat) : State :=
  s.each (s.actsOf n) fun s a => s.each [0, 1, 2, 3] fun s c =>
    if s.fb Reg.ACT_CMP_ARMED a c then s.cmpTest a c n else s

/-- BLOCKED clears when POS leaves the span in which the actuator stood (R475). -/
def State.unblock (s : State) (a : Nat) (pos : Int) : State :=
  if s.fb Reg.ACT_STATUS_BLOCKED a
      && (s.f Reg.ACT_MOVE_ARRIVE_WIN a : Int) < max pos (s.v .actHi a) - min pos (s.v .actLo a) then
    (s.setFb Reg.ACT_STATUS_BLOCKED a false).clearCause Ev.ACT_BLOCKED a
  else s

/-- The test of a brake that aborted in the present SAMPLE cycle is under way again: a deviation of that cycle counts as a failure, not as an
abort (R512). -/
def State.unabort (s : State) (k : Nat) : State :=
  if s.f Reg.SAFE_BRK_STATUS_TEST k == 4 && s.vn .btAbort k = sampleCycle s.now + 1 then
    let s := { s with queue := s.queue.filter fun r => !(r.code == Ev.BRAKE_TEST_ABORTED && r.d0 == k) }
    let s := (s.setF Reg.SAFE_BRK_STATUS_TEST k 1).setF Reg.SAFE_COUNTERS 0 (s.f Reg.SAFE_COUNTERS 5 - 1 : Nat) 5
    (s.setV .btPhase k (s.vn .btStep k % 256 : Nat)).setOn .btNeg k (256 ≤ s.vn .btStep k)
  else s

/-- The movement check of the brake tests that follow a channel (R511). -/
def State.brakeMoved (s : State) (n : Nat) (pos : Int) : State :=
  s.each [0, 1] fun s k =>
    let dev := |toSigned 32 (wrap 32 (pos - s.v .btPos0 k))|.toNat
    let s := s.when (s.f Reg.SAFE_BRK_TEST_COUNT_LIMIT k < dev && s.f Reg.SAFE_BRK_CFG_FB k == n) fun s => s.unabort k
    if s.f Reg.SAFE_BRK_STATUS_TEST k == 1 && s.f Reg.SAFE_BRK_CFG_FB k == n then
      let s := s.setF Reg.SAFE_BRK_RESULT k (max (s.f Reg.SAFE_BRK_RESULT k) (min dev 65535) : Nat)
      if dev ≤ s.f Reg.SAFE_BRK_TEST_COUNT_LIMIT k then s
      else
        let step := s.vn .btPhase k + 1
        let neg : Nat := if s.on .btNeg k then 1 else 0
        let s := ((s.setF Reg.SAFE_BRK_STATUS_TEST k 3).setFb Reg.SAFE_STATUS_BT_RUN 0 false).close .brakeTest k
        let s := ((s.brakeZero k).setFb Reg.SAFE_BRK_STATUS_FAILED k true).addF Reg.SAFE_COUNTERS 5
        let st := s.f Reg.SAFE_BRK_CFG_STAGE k
        s.raise { code := Ev.BRAKE_TEST_FAILED, inst := k, src := st, d0 := dev, d1 := neg, d2 := step,
                  reaction := s.f Reg.SAFE_BRK_TEST_FAIL_REACTION k, stages := (Stage.ofNat? st).toList, lasting := true }
    else s

/-- What follows a movement of a channel's POS from p to p' at an instant. -/
def State.moved (s : State) (n : Nat) (p p' : Int) (at' : Nat) : State :=
  if p' = p then s
  else
    let s := s.each (s.actsOf n) fun s a => (s.each [0, 1, 2, 3] fun s c => s.cmpCross a c p p' at').unblock a p'
    s.brakeMoved n p'

/-! ### Direction and EXT (R207) -/

/-- An edge of SAMPLE cycle c that moved EXT enters the history of the period method, and ZERO_TIME starts again (R226, R227). -/
def State.fbPush (s : State) (n c : Nat) : State :=
  let len := s.vn .fbHistLen n
  let s := s.each (List.range (min 15 len)).reverse fun s k => s.setV .fbHist (n * 16 + k + 1) (s.v .fbHist (n * 16 + k))
  let s := (s.setV .fbHist (n * 16) (c : Nat)).setV .fbHistLen n (min 16 (len + 1) : Nat)
  s.setDue .fbZero n (some (c * Clk.sample + ms (s.f Reg.FB_SPEED_CFG_ZERO_TIME n)))

/-- DIR and EXT follow POS with one-count hysteresis; `edge` says that a count edge of SAMPLE cycle c moved POS. -/
def State.fbDir (s : State) (n c : Nat) (edge : Bool) : State :=
  let ahead := s.fbSigned n (toSigned 32 (wrap 32 (s.fi Reg.FB_POS n - s.v .fbExt n)))
  if ahead ≤ -2 then
    let s := (s.setFb Reg.FB_STATUS_DIR n (!s.fb Reg.FB_STATUS_DIR n)).setV .fbExt n (s.fi Reg.FB_POS n)
    (s.setV .fbHistLen n 0).when edge fun s => s.fbPush n c
  else if 0 < ahead then (s.setV .fbExt n (s.fi Reg.FB_POS n)).when edge fun s => s.fbPush n c
  else s

/-- A count edge of SAMPLE cycle c changes POS. -/
def State.fbMove (s : State) (n c : Nat) (d : Int) : State :=
  (s.setF Reg.FB_POS n (s.fi Reg.FB_POS n + d)).setV .fbEdgeAt n (c : Nat)

/-- What has changed POS before the first count window begins is no part of it (R228). -/
def State.winFirst (s : State) (n c : Nat) : State :=
  if c < s.vn .fbWinFrom n then (s.setV .fbWinPos n (s.fi Reg.FB_POS n)).setV .fbWinCorr n 0 else s

/-- A difference reduced into [-CPR/2, CPR/2). -/
def reduce (x : Int) (cpr : Nat) : Int :=
  let m := x % (cpr : Int)
  if (cpr : Int) ≤ 2 * m then m - cpr else m

/-! ### Encoder (R205, R206, R209 to R212) -/

/-- The position of a quadrature state (A, B) in the order 00, 10, 11, 01. -/
def quadrature (a b : Bool) : Nat := if a then (if b then 2 else 1) else (if b then 3 else 0)

/-- A and B match Z_GATE (R209). -/
def State.zGate (s : State) (n : Nat) : Bool :=
  match s.f Reg.FB_INPUT_Z_GATE n with
  | 1 => s.vn .fbLevels n % 4 == 3
  | 2 => s.vn .fbLevels n % 4 == 0
  | _ => true

/-- Step 2 of R232: in the first SAMPLE cycle in which Z is accepted high and A and B match Z_GATE, an index is qualified, once between two
low levels of Z (R209). The first one with REF_MODE INDEX and REF_OK 0 sets the reference, every other is compared with INDEX_POS (R210,
R211); P becomes the present POS (R212). The report, if any, is for step 5. -/
def State.indexStep (s : State) (n : Nat) : State × Option FaultEvt :=
  let high := (s.vn .fbLevels n).testBit 2
  if !high then (s.setOn .zArmed n true, none)
  else if !s.on .zArmed n || s.f Reg.FB_INDEX_INDEX_MODE n == 0 || !s.zGate n then (s, none)
  else
    let s := s.setOn .zArmed n false
    let c := s.fi Reg.FB_POS n
    let ip : Int := s.f Reg.FB_INDEX_INDEX_POS n
    let mark := fun (s : State) => s.setV .fbIdxPos n (s.fi Reg.FB_POS n)
    if s.fb Reg.FB_INDEX_REF_MODE n && !s.fb Reg.FB_STATUS_REF_OK n then
      let d := reduce (ip - c) (s.fbCpr n)
      (mark (((s.setF Reg.FB_POS n (c + d)).cmpRetest n).refRises n), some (s.fbEvt Ev.REF_ESTABLISHED n n 0 0 0 false))
    else
      let δ := reduce (c - ip) (s.fbCpr n)
      if (s.f Reg.FB_INDEX_INDEX_TOL n : Int) < |δ| then
        let s := (s.addF Reg.FB_COUNTERS n).setF Reg.FB_COUNTERS n δ 1
        let fix := s.f Reg.FB_INDEX_INDEX_MODE n == 2
        let s := s.when fix fun s => ((s.setF Reg.FB_POS n (c - δ)).addV .fbWinCorr n (-δ)).cmpRetest n
        (mark s, some (s.fbEvt Ev.INDEX_UNEXPECTED n n (s.f Reg.FB_FAULT_INDEX_REACTION n) (wrap 32 δ) (if fix then 1 else 0) false))
      else (mark s, none)

/-- The check for a missing index (R212). -/
def State.indexCheck (s : State) (n : Nat) : State :=
  if s.f Reg.FB_INDEX_INDEX_MODE n != 0
      && (s.fbCpr n + s.f Reg.FB_INDEX_INDEX_TOL n : Int) < |toSigned 32 (wrap 32 (s.fi Reg.FB_POS n - s.v .fbIdxPos n))| then
    (s.setV .fbIdxPos n (s.fi Reg.FB_POS n)).fbPosition Ev.INDEX_MISSING n 0 false
  else s

/-- Edges of A and B accepted in one SAMPLE cycle (R206). -/
def State.countError (s : State) (n : Nat) : State :=
  let s := s.addF Reg.FB_COUNTERS n 1 2
  let s := if s.fb Reg.FB_INDEX_REF_MODE n then s.refFalls n else s
  s.fbPosition Ev.COUNT_ERROR n 0 false

/-- SAMPLE cycle c of an encoder whose accepted levels were `old` in the cycle before (R205, R206, R209 to R212), in the order of R232:
the count, the index, direction and EXT with the compares (R479), the faults. -/
def State.encoderCycle (s : State) (n c old : Nat) : State :=
  let new := s.vn .fbLevels n
  let q := quadrature (old.testBit 0) (old.testBit 1)
  let r := quadrature (new.testBit 0) (new.testBit 1)
  let p := s.fi Reg.FB_POS n
  let step := r == (q + 1) % 4 || q == (r + 1) % 4
  let d : Int := if (r == (q + 1) % 4) != s.fb Reg.FB_INPUT_INV_DIR n then 1 else -1
  let s := if step then s.fbMove n c d else s
  let p' := s.fi Reg.FB_POS n
  let (s, evt) := s.indexStep n
  let s := ((s.winFirst n c).fbDir n c step).moved n p p' (c * Clk.sample)
  let s := if r == (q + 2) % 4 then s.countError n else s
  let s := match evt with
    | some e => s.raise e
    | none => s
  s.indexCheck n

/-! ### Halls (R213 to R215) -/

/-- The sector of a hall code. -/
def State.hallSector (s : State) (n code : Nat) : Nat := bits (s.f Reg.FB_HALL_MAP_SECTOR n) (3 * code + 2) (3 * code)

/-- The hall code accepted in SAMPLE cycle c: a change from the last valid sector changes POS by the shortest sector distance; DIR, EXT
and the period method follow (R214). -/
def State.hallChange (s : State) (n c code : Nat) : State :=
  let new := s.hallSector n code
  let last := s.vn .fbHall n
  let s := (s.setF Reg.FB_STATUS_HALL_CODE n code).setF Reg.FB_STATUS_SECTOR n new
  if new = 7 then s
  else
    let s := (s.refRises n).setV .fbHall n (new + 1 : Nat)
    let old := last - 1
    if last = 0 || old = new then s
    else
      let m := (new + 6 - old) % 6
      let d : Int := if m = 3 then 0 else if m < 3 then m else (m : Int) - 6
      let p := s.fi Reg.FB_POS n
      let s := s.setOn .fbHallUp n (d < 0)
      let s := if d = 0 then s else (((s.fbMove n c d).winFirst n c).fbDir n c true).moved n p (p + d) (c * Clk.sample)
      if m = 2 || m = 3 || m = 4 then (s.addF Reg.FB_COUNTERS n 1 2).fbPosition Ev.HALL_SEQUENCE n (old * 8 + new) false else s

/-- A window of WIRE_FILTER that starts in SAMPLE cycle c (R202, R213). -/
def State.filterFrom (s : State) (tm : Timer) (i n c : Nat) : State :=
  if s.isOpen tm i then s else s.setDue tm i (some (c * Clk.sample + 300 * s.f Reg.FB_INPUT_WIRE_FILTER n))

/-- SAMPLE cycle c of the hall inputs: the code follows the accepted levels, and the windows of R213 follow its validity. -/
def State.hallCycle (s : State) (n c : Nat) : State :=
  let code := s.vn .fbLevels n % 8
  let s := if code = s.f Reg.FB_STATUS_HALL_CODE n && s.f Reg.FB_STATUS_SECTOR n = s.hallSector n code then s else s.hallChange n c code
  if code = 0 || code = 7 then (s.lapseAt Clk.sample (c * Clk.sample) .hallGood n).filterFrom .hallBad n n c
  else
    let s := s.lapseAt Clk.sample (c * Clk.sample) .hallBad n
    if s.present Ev.HALL_INVALID n then s.filterFrom .hallGood n n c else s

/-! ### Inputs (R201 to R204) -/

/-- The pairs A, B, Z, CK (0 to 3) that a channel checks (R203). -/
def State.wireChecked (s : State) (n p : Nat) : Bool :=
  match s.f Reg.FB_MODE_MODE n with
  | 1 => p < 2 || (p == 2 && s.f Reg.FB_INDEX_INDEX_MODE n != 0)
  | 2 => p < 3 && s.fb Reg.FB_INPUT_HALL_DIFF n
  | 4 => p == 0 || p == 3
  | _ => false

/-- A checked pair whose wires show these levels disagrees: they lie on one side of the mid-point (R202). -/
def State.disagrees (s : State) (n p raw : Nat) : Bool := s.wireChecked n p && (raw == 0 || raw == 3)

/-- A SAMPLE cycle of a channel in which levels are accepted. -/
def State.fbCycle (s : State) (n c : Nat) : State :=
  let (mine, rest) := s.accepts.partition fun a => a.ch == n && a.due == c
  let old := s.vn .fbLevels n
  let new := mine.foldl (fun w a => putBits w a.pair a.pair (if a.level then 1 else 0)) old
  let s := { s with accepts := rest }.setV .fbLevels n (new : Nat)
  match s.f Reg.FB_MODE_MODE n with
  | 1 => s.encoderCycle n c old
  | 2 => s.hallCycle n c
  | _ => s

/-- The cycles of a channel up to SAMPLE cycle v in which levels are accepted. -/
def State.fbCycles (n v : Nat) : Nat → State → State
  | 0, s => s
  | fuel + 1, s =>
    match ((s.accepts.filter fun a => a.ch == n && a.due ≤ v).map Accept.due).min? with
    | some c => State.fbCycles n v fuel (s.fbCycle n c)
    | none => s

/-- A channel runs up to SAMPLE cycle v. -/
def State.fbRun (s : State) (n v : Nat) : State := State.fbCycles n v s.accepts.length s

/-- The wires of a pair change. A level that has not held for GLITCH SAMPLE cycles is not accepted; the new one is, GLITCH + 2 cycles
after the first SAMPLE edge at it (R201). While the pair disagrees nothing is accepted from it, and WIRE_FILTER runs (R202, R204). -/
def State.pinChange (s : State) (n : Nat) (x : PinChange) : State :=
  let p := x.pair.val
  let i := 4 * n + p
  let e := divUp x.t Clk.sample
  let s := { (s.fbRun n (e - 1)) with now := max s.now x.t }
  let was := s.vn .pinRaw i
  let raw := (if x.pos then 1 else 0) + (if x.neg then 2 else 0)
  let g := s.f Reg.FB_INPUT_GLITCH n
  if raw = was then s
  else
    let bad := s.disagrees n p raw
    let badWas := s.disagrees n p was
    let held := s.vn .pinAt i + g ≤ e
    let drop := fun (a : Accept) => a.ch == n && a.pair == p && (bad || (!held && a.due == s.vn .pinAt i + g + 2))
    let change := !bad && (badWas || raw % 2 != was % 2)
    let s := (s.setV .pinRaw i (raw : Nat)).when (bad || change) fun s => { s with accepts := s.accepts.filter fun a => !drop a }
    let s := s.when change fun s => { (s.setV .pinAt i (e : Nat)) with
      accepts := s.accepts ++ [{ ch := n, pair := p, level := x.pos, due := e + g + 2 }] }
    if bad && !badWas then (s.lapseAt Clk.sample (e * Clk.sample) .wireOk i).filterFrom .wire i n e
    else if badWas && !bad then
      let s := s.lapseAt Clk.sample (e * Clk.sample) .wire i
      if s.present Ev.WIRE_FAULT i then s.filterFrom .wireOk i n e else s
    else s

/-- Changes of wires, in order. -/
def State.fbPins (s : State) (n : Nat) (pins : List PinChange) : State := s.each pins fun s x => s.pinChange n x

/-- A window of a channel ends: the channel has run up to the SAMPLE cycle before it. -/
def State.fbExpire (s : State) (n : Nat) (tm : Timer) (i : Nat) (k : State → State) : State :=
  match s.due tm i with
  | none => s
  | some e =>
    let s := s.fbRun n (sampleCycle e - 1)
    if s.due tm i = some e then s.expire tm i k else s

/-! ### Snapshots (R231) -/

/-- The snapshot of a channel at SAMPLE cycle v holds its state after cycle v - 1. -/
def State.snapTake (s : State) (n v : Nat) : State :=
  let c := v - 1
  let age := s.fbAge n v
  let fl := bits (s.word (Reg.FB_STATUS_VALID.key n)).toNat 2 0
  let (po, me, an, sp) := (s.posAt n c, s.mechAt n c, s.angleAt n c age, s.speedAt n c)
  let s := ((s.setV .snPos n po).setV .snMech n me).setV .snAngle n an
  ((s.setV .snSpeed n sp).setV .snAge n age).setV .snFlags n fl

/-- What has happened before the cycle v of a snapshot already taken is still part of it. -/
def State.snapRenew (s : State) (n : Nat) : State := if sampleCycle s.now < s.vn .snAt n then s.snapTake n (s.vn .snAt n) else s

/-- A quantity of the last snapshot that the engine can read now: from v + 2 on, until then that of the snapshot before (R231). -/
def State.snap (s : State) (x : Var) (n : Nat) : Int := if sampleCycle s.now < s.vn .snAt n + 2 then s.v x (n + 8) else s.v x n

/-- The end of a command of a channel. -/
def fbDone (n : Nat) (s : State) : Host.Outcome State Fault Refusal := done ((s.fbRun n (sampleCycle s.now)).snapRenew n)

/-! ### Events of the inputs (R201 to R206, R209, R213, R214, R234) -/

/-- The wires of a channel change up to an instant. -/
def State.fbInputs (s : State) (n : Nat) (pins : List PinChange) (t : Nat) : State :=
  let s := s.fbPins n pins
  { s with now := max s.now t }

/-- A change of hall sector. -/
def execHallSectorChange (channel : Fin 8) (pins : List PinChange) (t : Nat) (s : State) : Host.Outcome State Fault Refusal :=
  fbDone channel (s.fbInputs channel pins t)

/-- The hall code has been 0 or 7 for WIRE_FILTER; a code that is valid again in the cycle of the end has begun its own window (R33, R213). -/
def execHallInvalid (channel : Fin 8) (pins : List PinChange) (s : State) : Host.Outcome State Fault Refusal :=
  let n := channel.val
  let c := sampleCycle (((s.fbPins n pins).due .hallBad n).getD 0)
  fbDone n ((s.fbPins n pins).fbExpire n .hallBad n fun s =>
    let code := s.f Reg.FB_STATUS_HALL_CODE n
    let s := (s.refFalls n).fbSignal Ev.HALL_INVALID n n code
    if code = 0 || code = 7 then s else s.filterFrom .hallGood n n c)

/-- The hall code has been valid for WIRE_FILTER. -/
def execHallCodeValid (channel : Fin 8) (pins : List PinChange) (s : State) : Host.Outcome State Fault Refusal :=
  let n := channel.val
  fbDone n ((s.fbPins n pins).fbExpire n .hallGood n fun s => s.fbClear Ev.HALL_INVALID n n)

/-- The STATUS bit of a pair's wire fault. -/
def wireBit (p : Nat) : Fld :=
  match p with
  | 0 => Reg.FB_STATUS_WIRE_A
  | 1 => Reg.FB_STATUS_WIRE_B
  | 2 => Reg.FB_STATUS_WIRE_Z
  | _ => Reg.FB_STATUS_WIRE_CK

/-- A pair has disagreed for WIRE_FILTER; one that agrees again in the cycle of the end has begun its window of agreement (R33, R202). -/
def execWireFault (channel : Fin 8) (pair : Fin 4) (pins : List PinChange) (s : State) : Host.Outcome State Fault Refusal :=
  let n := channel.val
  let i := 4 * n + pair.val
  let c := sampleCycle (((s.fbPins n pins).due .wire i).getD 0)
  fbDone n ((s.fbPins n pins).fbExpire n .wire i fun s =>
    let s := (s.setFb (wireBit pair) n true).fbSignal Ev.WIRE_FAULT n i pair
    if s.disagrees n pair (s.vn .pinRaw i) then s else s.filterFrom .wireOk i n (max c (s.vn .pinAt i)))

/-- A pair has agreed for WIRE_FILTER. -/
def execWireFaultCleared (channel : Fin 8) (pair : Fin 4) (pins : List PinChange) (s : State) : Host.Outcome State Fault Refusal :=
  let n := channel.val
  let i := 4 * n + pair.val
  fbDone n ((s.fbPins n pins).fbExpire n .wireOk i fun s => (s.setFb (wireBit pair) n false).fbClear Ev.WIRE_FAULT n i)

/-- The supply current has exceeded 300 mA for 1 ms: SUP is turned off and is retried after 1 s. -/
def execSupplyFault (channel : Fin 8) (s : State) : Host.Outcome State Fault Refusal :=
  let n := channel.val
  fbDone n (if s.on .fbSup n then
      let s := ((s.setOn .fbSup n false).close .supHeld n).openSlow .supRetry n (sec 1)
      (s.setFb Reg.FB_STATUS_SUPPLY n true).fbSignal Ev.SUPPLY_FAULT n n 0
    else s)

/-- The sensor supply is retried. -/
def execSupplyRetry (channel : Fin 8) (s : State) : Host.Outcome State Fault Refusal :=
  done (s.expire .supRetry channel fun s =>
    ((s.setOn .fbSup channel true).countV .fbRetries channel).openSlow .supHeld channel (ms 100))

/-- The supply has held for 100 ms after a retry. -/
def execSupplyHeld (channel : Fin 8) (s : State) : Host.Outcome State Fault Refusal :=
  fbDone channel (s.expire .supHeld channel fun s =>
    (s.setFb Reg.FB_STATUS_SUPPLY channel false).fbClear Ev.SUPPLY_FAULT channel channel)

/-! ### Resolver (R216 to R221) -/

/-- The square root of a natural number, rounded down or up as open. -/
def sqrtOpen (x : Nat) : Nat :=
  let r := Nat.sqrt x
  if r * r = x then r else if Config.sqrtUp x then r + 1 else r

/-- The observer advances to SAMPLE cycle c. -/
def State.resAdvance (s : State) (n c : Nat) : State := (s.setV .fbRes n (s.resAngle n c)).setV .fbObsAt n (c : Nat)

/-- The tracking checks of one window (R220). -/
def State.resTrack (s : State) (n : Nat) (e : Int) : State :=
  let limit : Int := 56220991 * s.f Reg.FB_RES_LIMITS_TRACK_LIMIT n
  let far := limit < |e|
  let near := 2 * |e| ≤ limit
  let s := (s.setV .resFar n (if far then min 15 (s.vn .resFar n + 1) else 0 : Nat)).setV .resNear n
    (if near then min 31 (s.vn .resNear n + 1) else 0 : Nat)
  let s := s.setFb Reg.FB_STATUS_RES_TRACK n far
  if s.vn .resFar n = 2 then (s.refFalls n).fbPosition Ev.RES_TRACKING n 0 true
  else if s.vn .resNear n = 16 then s.refRises n
  else s

/-- The amplitude checks of one window (R218). -/
def State.resAmp (s : State) (n : Nat) (stale inside : Bool) : State :=
  let bump (x : Var) (b : Bool) (s : State) : State := s.setV x n (if b then min 15 (s.vn x n + 1) else 0 : Nat)
  let s := bump .resGood (!stale && inside) (bump .resStale stale (bump .resBad (!stale && !inside) s))
  if s.vn .resBad n = 4 || s.vn .resStale n = 4 then
    (s.setFb Reg.FB_STATUS_RES_AMP n true).fbSignal Ev.RES_AMPLITUDE n n (if stale then 1 else 0)
  else if s.vn .resGood n = 4 then (s.setFb Reg.FB_STATUS_RES_AMP n false).fbClear Ev.RES_AMPLITUDE n n
  else s

/-- The length of a demodulation window in SAMPLE cycles. -/
def State.resLen (s : State) (n : Nat) : Nat := s.excPeriod n / (2 * Clk.sample)

/-- The error of the sums against the observer's angle half a window before SAMPLE cycle c, in 2^-30: S and C are means over the window
(R219). -/
def State.resError (s : State) (n c : Nat) (S C : Int) (A : Nat) : Int :=
  let θ := wrap 16 (Int.fdiv (s.resAngle n c - divOpen (s.v .fbOmega n * s.resLen n) 2) (2 ^ 32))
  divOpen (S * Config.cosine θ - C * Config.sine θ) A

/-- The corrections of angle and speed by an error: a type-II observer with damping 0.7, 2 x 0.7 x w and w x w for its natural frequency w
times the window, an error in 2^-30 of a radian being 170891319 in 2^-60 of a revolution (log entry 175). -/
def State.resCorrect (s : State) (n : Nat) (e : Int) : State :=
  let w : Int := Config.observerRate (s.f Reg.FB_RES_RES_BW n) (s.f Reg.FB_RES_EXC_FREQ n)
  let s := s.addV .fbRes n (divOpen (14 * w * e * 170891319) (10 * 2 ^ 44))
  s.addV .fbOmega n (divOpen (w * w * e * 170891319) (2 ^ 76 * s.resLen n))

/-- A demodulation window ends (R217): the means S and C of the results sampled in it, with the sign of its reference, the amplitude, the
error and the observer's corrections (R218 to R220); the next window has the opposite sign. `conv` are the core's results since its last
event. -/
def execResWindowEnd (channel : Fin 2) (conv : List Int) (s : State) : Host.Outcome State Fault Refusal :=
  let n := channel.val
  let e := (s.due .resWin n).getD 0
  fbDone n (s.expire .resWin n fun s =>
    let c := sampleCycle e
    let s := (s.setDue .resWin n (some e)).coreTo n (divUp e Clk.sample) conv
    let (ns, nc) := (s.vn .resSinN n, s.vn .resCosN n)
    let S := s.v .resPol n * avgRound (s.v .resSin n) ns
    let C := s.v .resPol n * avgRound (s.v .resCos n) nc
    let s := s.each [Var.resSin, .resCos, .resSinN, .resCosN] fun s x => (s.setV x n (s.v x (n + 2))).setV x (n + 2) 0
    let s := ((s.setV .resPol n (-s.v .resPol n)).setV .resFrom n (e : Nat)).setDue .resWin n (some (e + s.excPeriod n / 2))
    let p := s.posAt n (s.vn .fbObsAt n)
    let s := s.resAdvance n c
    let s := if ns < 8 || nc < 8 then s.resAmp n true false
      else
        let A := sqrtOpen (S * S + C * C).toNat
        let mV := A * 10240 / 32768
        let s := s.resAmp n false (s.f Reg.FB_RES_LIMITS_AMP_LOW n ≤ mV && mV ≤ s.f Reg.FB_RES_LIMITS_AMP_HIGH n)
        let e := s.resError n c S C A
        (s.resCorrect n e).resTrack n e
    s.moved n p (s.posAt n c) e)

/-- The excitation unit has measured one period: its amplitude in 0.1 V, and whether the output current limit acts. -/
def execExcPeriod (channel : Fin 2) (amp : Nat) (limit : Bool) (s : State) : Host.Outcome State Fault Refusal :=
  let n := channel.val
  if s.f Reg.FB_MODE_MODE n != 3 then done s
  else
    let set : Int := s.f Reg.FB_RES_EXC_AMP n
    let dev := |(amp : Int) - set|
    let far := set < 5 * dev
    let near := !limit && 10 * dev ≤ set
    let s := (s.setV .excBad n (if far then min 15 (s.vn .excBad n + 1) else 0 : Nat)).setV .excGood n
      (if near then min 15 (s.vn .excGood n + 1) else 0 : Nat)
    if limit || s.vn .excBad n = 4 then
      fbDone n ((s.setFb Reg.FB_STATUS_EXC n true).fbSignal Ev.EXC_FAULT n n amp)
    else if s.vn .excGood n = 4 then fbDone n ((s.setFb Reg.FB_STATUS_EXC n false).fbClear Ev.EXC_FAULT n n)
    else done s

/-! ### SSI (R222 to R224) -/

/-- A trigger starts a frame, or is skipped when it comes less than MONO after the last clock edge of the previous one (R222). The frame's
last clock edge is the rising one after those that read its bits. -/
def State.ssiStart (s : State) (n : Nat) : State :=
  if s.f Reg.FB_MODE_MODE n != 4 then s
  else if s.now < s.vn .ssiEnd n + us (s.f Reg.FB_SSI_TIMING_MONO n) && s.on .ssiEnd n then s.addF Reg.FB_COUNTERS n 1 5
  else
    let e := s.now + s.ssiHalf n (2 * s.ssiBits n + 1)
    ((s.setV .ssiAt n (s.now : Nat)).setV .ssiEnd n (e : Nat)).setDue .ssiFrame n (some e)

/-- The SSI window of a channel with no stage ends. -/
def execSsiWindow (channel : Fin 8) (s : State) : Host.Outcome State Fault Refusal :=
  let n := channel.val
  fbDone n (s.expire .ssiWindow n fun s =>
    (s.openSlow .ssiWindow n (us (10 * s.f Reg.FB_SPEED_CFG_WINDOW n))).ssiStart n)

/-- Gray decoding of a w-bit number. -/
def grayDecode (w x : Nat) : Nat := (List.range w).foldl (fun a k => a ^^^ (x / 2 ^ k)) 0

/-- The number of ones among the low w bits. -/
def ones (w x : Nat) : Nat := ((List.range w).filter fun k => x.testBit k).length

/-- The accepted levels of DATA at instants of a frame, the wires changing between them. -/
def State.ssiRead (n : Nat) : List Nat → List PinChange → List Bool → State → List Bool × State
  | [], pins, l, s => (l, s.fbPins n pins)
  | at' :: rest, pins, l, s =>
    let s := (s.fbPins n (pins.filter fun x => x.t ≤ at')).fbRun n (sampleCycle at')
    State.ssiRead n rest (pins.filter fun x => at' < x.t) (l ++ [(s.vn .fbLevels n).testBit 0]) s

/-- The frame's position from its levels: at its start, at the rising clock edges that read its bits, the first one highest, and at the
edge after the last bit; bad when DATA is not high at the start or not low at the end, or the parity or an error bit is wrong (R223). -/
def State.ssiCheck (s : State) (n : Nat) (l : List Bool) : Option Nat :=
  let w := s.ssiBits n
  let frame := ((l.drop 1).take w).foldl (fun a b => 2 * a + (if b then 1 else 0)) 0
  let par := s.f Reg.FB_SSI_FRAME_PARITY n
  let errs := s.f Reg.FB_SSI_FRAME_ERR_BITS n
  let e := frame / 2 ^ par % 2 ^ errs
  let pos := frame / 2 ^ (par + errs) % 2 ^ (s.f Reg.FB_SSI_FRAME_MT_BITS n + s.f Reg.FB_SSI_FRAME_ST_BITS n)
  let errOk := if s.fb Reg.FB_SSI_FRAME_ERR_POL n then e == 0 else e == 2 ^ errs - 1
  if l.headD false && !l.getD (w + 1) true && !(par == 1 && ones w frame % 2 == 1) && errOk then some pos else none

/-- A good frame gives a position: the value nearest the previous POS; a jump discards it (R224), otherwise POS, DIR and the speed
between good frames follow (R230). -/
def State.ssiGood (s : State) (n pos : Nat) : State :=
  let w := s.f Reg.FB_SSI_FRAME_MT_BITS n + s.f Reg.FB_SSI_FRAME_ST_BITS n
  let q : Int := if s.fb Reg.FB_SSI_FRAME_GRAY n then grayDecode w pos else pos
  let old := s.fi Reg.FB_POS n
  let d := reduce (q - old) (2 ^ w)
  let take := s.on .ssiTake n
  if !take && (s.f Reg.FB_SSI_TIMING_MAX_STEP n : Int) < |d| then
    let k := s.vn .ssiDisc n + 1
    let s := (s.addF Reg.FB_COUNTERS n 1 6).setV .ssiDisc n k
    let s := if 3 ≤ k then (s.refFalls n).setOn .ssiTake n true else s
    s.fbPosition Ev.SSI_JUMP n (wrap 32 d) false
  else
    let c := sampleCycle (s.vn .ssiAt n)
    let dt := c - sampleCycle (s.vn .ssiLastAt n)
    let s := if s.on .ssiHave n && dt != 0 then s.setV .fbCount n (revs d (s.fbCpr n) dt) else s
    let s := ((s.setV .ssiLastAt n (s.v .ssiAt n)).setOn .ssiHave n true).setV .ssiDisc n 0
    let s := (s.setF Reg.FB_POS n (old + d)).setV .fbEdgeAt n (c : Nat)
    let s := (s.fbDir n c true).moved n old (old + d) s.now
    if take then (s.setOn .ssiTake n false).refRises n else s

/-- A frame completes with its last clock edge: DATA is read at its first falling edge, at the rising edges of its bits, and at the rising
edge after them (R222, R223; log entry 176). -/
def execSsiFrameDone (channel : Fin 8) (pins : List PinChange) (s : State) : Host.Outcome State Fault Refusal :=
  let n := channel.val
  fbDone n (s.expire .ssiFrame n fun s =>
    let f := s.vn .ssiAt n
    let (l, s) := State.ssiRead n (f :: (List.range (s.ssiBits n + 1)).map fun k => f + s.ssiHalf n (2 * k + 1)) pins [] s
    match s.ssiCheck n l with
    | none =>
      let s := (s.setV .ssiBad n (min 255 (s.vn .ssiBad n + 1) : Nat)).countV .ssiBads n
      if s.vn .ssiBad n = 3 then (s.setFb Reg.FB_STATUS_SSI_ERR n true).fbSignal Ev.SSI_FRAME n n 0 else s
    | some pos =>
      let s := ((s.setV .ssiBad n 0).setFb Reg.FB_STATUS_SSI_ERR n false).fbClear Ev.SSI_FRAME n n
      s.ssiGood n pos)

/-! ### Speed windows (R227 to R229) -/

/-- The count window ends: the count method's speed from the POS before the cycle of its end, corrections under R211 excluded (R212); then,
after the edges of that cycle (R232), the change between the methods. -/
def execSpeedWindowEnd (channel : Fin 8) (s : State) : Host.Outcome State Fault Refusal :=
  let n := channel.val
  let e := (s.due .fbWindow n).getD 0
  fbDone n (s.fbExpire n .fbWindow n fun s =>
    let len := us (10 * s.f Reg.FB_SPEED_CFG_WINDOW n)
    let s := s.openSlow .fbWindow n len
    let N := toSigned 32 (wrap 32 (s.fi Reg.FB_POS n - s.v .fbWinPos n - s.v .fbWinCorr n))
    let s := ((s.setV .fbCount n (revs N (s.fbCpr n) (len / Clk.sample))).setV .fbWinPos n (s.fi Reg.FB_POS n)).setV .fbWinCorr n 0
    let s := s.fbRun n (sampleCycle e)
    let reported := s.fbSpeed n
    let cross := s.f Reg.FB_CROSS n
    let h := s.f Reg.FB_SPEED_CFG_HYST n
    let s :=
      if !s.fb Reg.FB_STATUS_METHOD n && (cross * (100 + h) : Int) ≤ 100 * |reported| then
        (s.setFb Reg.FB_STATUS_METHOD n true).addF Reg.FB_COUNTERS n 1 4
      else if s.fb Reg.FB_STATUS_METHOD n && 100 * |reported| < (cross * (100 - h) : Int) then
        (s.setFb Reg.FB_STATUS_METHOD n false).addF Reg.FB_COUNTERS n 1 4
      else s
    s.setF Reg.FB_SPEED n (s.fbSpeed n))

/-- ZERO_TIME has passed without an edge that moves EXT: the period method reports 0. -/
def execSpeedZeroTime (channel : Fin 8) (s : State) : Host.Outcome State Fault Refusal :=
  fbDone channel (s.fbExpire channel .fbZero channel fun s => s.setF Reg.FB_SPEED channel (s.fbSpeed channel))

/-! ### Carrier events and the start (R222, R231) -/

/-- A snapshot of a channel at a carrier event that becomes visible in SAMPLE cycle v; an SSI frame starts (R222). -/
def State.fbSnapshot (s : State) (n v : Nat) (subst : Bool) : State :=
  let s := s.fbRun n (v - 1)
  let s := s.each [Var.snPos, .snMech, .snAngle, .snSpeed, .snAge, .snFlags] fun s x => s.setV x (n + 8) (s.v x n)
  let s := (s.setV .snAt n (v : Nat)).snapTake n v
  ((s.wrapF Reg.FB_SPEED_SNAPS n).setFb Reg.FB_STATUS_SUBST n subst).ssiStart n

/-- The snapshots of a carrier event of a stage that becomes visible in SAMPLE cycle v. -/
def State.fbEvent (s : State) (t : Stage) (middle subst : Bool) (v : Nat) : State :=
  s.each (List.range 8) fun s n =>
    if s.f Reg.FB_MODE_MODE n != 0 && s.f Reg.FB_MODE_STAGE n == t.idx && selects (s.f Reg.FB_MODE_LATCH_EVT n) middle then
      s.fbSnapshot n v subst
    else s

/-- The words of FBn.POS and FBn.SPEED in one cycle (R233). -/
def State.fbLive (s : State) (n : Nat) : State :=
  let c := sampleCycle s.now
  let u := s.fbRun n c
  let age := u.fbAge n c
  let s' := ((s.setF Reg.FB_POS_MECH n (u.mechAt n c)).setF Reg.FB_POS_ANGLE_E n (u.angleAt n c age)).setF Reg.FB_SPEED n (u.speedAt n c)
  (s'.setF Reg.FB_SPEED_AGE n age).setF Reg.FB_POS n (u.posAt n c)

/-- The excitation starts: its first positive peak comes a quarter period later, and its windows run from its zero crossings delayed by
RES_PHASE (R216, R217). -/
def State.excStart (s : State) (n : Nat) : State :=
  let T := s.excPeriod n
  let z := s.now + divUp (s.f Reg.FB_RES_RES_PHASE n * T) 256
  let s := ((s.setV .excAt n (s.now + 1 : Nat)).setOn .excNeg n false).setDue .excPeak n (some (s.now + T / 4))
  let s := ((s.setV .resPol n 1).setV .fbObsAt n (sampleCycle s.now : Nat)).setV .resFrom n (z : Nat)
  s.setDue .resWin n (some (z + T / 2))

/-- Step 7 of the start: supplies and excitation on, POS 0, the decoder at the levels that its inputs show, windows open, REF_OK as its
mode gives it (R197, R205, R210, R216, R228; log entry 177). -/
def State.fbStart (s : State) : State :=
  s.each (List.range 8) fun s n =>
    let m := s.f Reg.FB_MODE_MODE n
    if m == 0 then s
    else
      let c := sampleCycle s.now
      let level := fun p => s.vn .pinRaw (4 * n + p) % 2
      let s := { s with accepts := s.accepts.filter fun a => a.ch != n }
      let s := (s.setV .fbLevels n (level 0 + 2 * level 1 + 4 * level 2 : Nat)).setOn .zArmed n true
      let s := s.each (List.range 4) fun s p =>
        if s.disagrees n p (s.vn .pinRaw (4 * n + p)) then s.filterFrom .wire (4 * n + p) n c else s
      let s := (s.setOn .fbSup n (s.f Reg.FB_MODE_SUPPLY n != 0)).setV .fbEdgeAt n (c : Nat)
      let s := (s.setFb Reg.FB_STATUS_REF_OK n ((m == 1 && !s.fb Reg.FB_INDEX_REF_MODE n) || m == 4)).setF Reg.FB_STATUS_SECTOR n 7
      let s := s.when (m == 1 || m == 2) fun s =>
        let from' := (s.now / Clk.slow + 1) * Clk.slow
        (s.setV .fbWinFrom n (from' / Clk.sample : Nat)).setDue .fbWindow n (some (from' + us (10 * s.f Reg.FB_SPEED_CFG_WINDOW n)))
      let s := s.when (m == 2) fun s => s.hallCycle n c
      let s := s.when (m == 3) fun s => s.excStart n
      let s := s.when (m == 4 && s.f Reg.FB_MODE_STAGE n == 7) fun s => s.openSlow .ssiWindow n (us (10 * s.f Reg.FB_SPEED_CFG_WINDOW n))
      s.fbValid n

end Sys2Proof.Machine
end

