-- ==== Sys2Proof/Machine/EngineOps.lean ====
section
/-!
DEFINITION. What the slots of the control engine compute with (chapter 7): scaling, angles, setpoints and limits, the PI loop, the
current chains, the TORQUE, SPEED, POSITION and GENERIC_PI chains, and the link voltage co-optimisation.
-/

namespace Sys2Proof.Machine

/-! ### Numbers: Q2.30 and Q16.16 -/

/-- 1 in Q2.30. -/
def one30 : Int := 1073741824

/-- A product of two Q2.30 numbers, saturated. -/
def mul30 (a b : Int) : Int := satQ30 (divOpen (a * b) one30)

/-- A Q16.16 gain times a Q2.30 number, saturated. -/
def mulK (k x : Int) : Int := satQ30 (divOpen (k * x) 65536)

/-- The square root of three and its inverse in 2^-30, to the nearest step. -/
def sqrt3 : Int := 1859775393
def invSqrt3 : Int := 619925131

/-- A Q1.15 half of a word in Q2.30. -/
def q15to30 (x : Nat) : Int := toSigned 16 (x % 65536) * 32768

/-- Two Q2.30 components packed as two Q1.15 halves, the first in bits 15:0. -/
def pack15 (a b : Int) : Int :=
  toSigned 32 (wrap 16 (satQ15 (divOpen a 32768)) + 65536 * wrap 16 (satQ15 (divOpen b 32768)))

/-- The magnitude of a vector. -/
def mag (a b : Int) : Int := sqrtOpen (a * a + b * b).toNat

/-! ### Inputs (R245, R255) -/

/-- The source of input j of a slot. -/
def State.inSrc (s : State) (n j : Nat) : Nat := s.f Reg.SLOT_INPUTS_SOURCE n j

/-- The unscaled value of input j: AVG of an accumulator, or an output word of another slot. -/
def State.inRaw (s : State) (n j : Nat) : Int :=
  let src := s.inSrc n j
  if src < 128 then s.accAvg src
  else if 192 ≤ src && src < 240 then s.v .slotWord ((src - 192) * 8 + s.f Reg.SLOT_INPUTS_OUTPUT n j)
  else 0

/-- An input is an accumulator whose read set is STALE. -/
def State.inStale (s : State) (n j : Nat) : Bool := s.inSrc n j < 128 && s.accStale (s.inSrc n j)

/-- An input scaled by a gain of SLOTnn.SCALE: an accumulator's AVG less an offset; another slot's output is used unscaled. -/
def State.inScaled (s : State) (n j k : Nat) (off : Int) : Int :=
  if s.inSrc n j < 128 then satQ30 (divOpen (s.fi Reg.SLOT_SCALE_K n k * (s.inRaw n j - off)) 2) else s.inRaw n j

/-- A current, a voltage and a GENERIC_PI input (R255). -/
def State.inI (s : State) (n j : Nat) : Int := s.inScaled n j 0 (s.fi Reg.SLOT_SCALE_OFFSET n j)
def State.inU (s : State) (n j : Nat) : Int := s.inScaled n j 1 0
def State.inX (s : State) (n j : Nat) : Int := s.inScaled n j 3 0

/-- The voltage input .06 is below 1/64 of its full scale (R259). -/
def State.inLow (s : State) (n j : Nat) : Bool :=
  if s.inSrc n j < 128 then s.inRaw n j < 512 else s.inRaw n j < 16777216

/-- Some accumulator among the inputs of a slot is STALE. -/
def State.anyStale (s : State) (n : Nat) : Bool := (List.range 8).any (s.inStale n)

/-- Speed in per unit of the slot's speed base; an input .07 that is no feedback channel is used as R255 says of its source. -/
def State.inN (s : State) (n : Nat) : Int := match s.slotFb n with
  | some c => satQ30 (divOpen (s.fi Reg.SLOT_SCALE_K n 2 * s.snap .snSpeed c) 4)
  | none => s.inScaled n 7 2 0

/-! ### Time and angles (R250, R256) -/

/-- T_u in PULSE cycles: PERIOD for a timer, otherwise the interval between the last two triggers; 0 before the second trigger. -/
def State.slotTu (s : State) (n : Nat) : Nat :=
  if s.f Reg.SLOT_TRIGGER_SRC n == 3 then 3 * s.f Reg.SLOT_TRIGGER_TIMER n
  else if s.on .slotTrigPrev n then (s.vn .slotTrigAt n - s.vn .slotTrigPrev n) / Clk.pulse else 0

/-- Electrical speed of a slot's channel in 2^-16 revolutions per second. -/
def State.omegaE (s : State) (n : Nat) : Int := match s.slotFb n with
  | some c => s.snap .snSpeed c * s.f Reg.FB_SCALE_POLE_PAIRS c
  | none => 0

/-- ANGLE_E of the snapshot with the advances of R256, each rounded to the nearest step: θ_m, the middle of the averaging window,
and θ_o, the output angle. -/
def State.angles (s : State) (n tu : Nat) : Nat × Nat :=
  let w := s.omegaE n
  let (base, age) := match s.slotFb n with
    | some c => ((s.snap .snAngle c).toNat, (s.snap .snAge c).toNat)
    | none => (0, 0)
  let a := base + divRound (w * age) 150000000
  (wrap 16 (a - divRound (w * tu) 600000000), wrap 16 (a + divRound (w * s.fi Reg.SLOT_FF n 3 * tu) (65536 * 300000000)))

/-! ### Limits and setpoints (R47, R269 to R272, R510) -/

/-- The factor of R272 in 0.1 %. -/
def State.limitFactor (s : State) (n : Nat) : Nat := match Stage.ofNat? (s.f Reg.SLOT_TYPE_STAGE n) with
  | some t =>
    let a := min 1000 (s.f Reg.TH_STAGE_LIMIT t.idx)
    if s.derated t then min a (s.f Reg.SLOT_LIMITS_DERATE_VALUE n) else a
  | none => 1000

/-- The brake whose running test drives a slot. -/
def State.testOf (s : State) (n : Nat) : Option Nat :=
  [0, 1].find? fun k => s.f Reg.SAFE_BRK_STATUS_TEST k == 1 && s.f Reg.SAFE_BRK_CFG_BT_SLOT k == n

/-- The torque T of a brake test: TORQUE x LIMITS.02 (R510). -/
def State.testTorque (s : State) (k : Nat) : Int :=
  divOpen (s.fi Reg.SLOT_LIMITS_NOMINAL (s.f Reg.SAFE_BRK_CFG_BT_SLOT k) * s.f Reg.SAFE_BRK_TEST_TORQUE k) 100

/-- The torque a brake test asks for at this instant: ramps of 100 ms and the hold between them. -/
def State.testNow (s : State) (k : Nat) : Int :=
  let T := s.testTorque k
  let e : Int := min (s.now - s.vn .btAt k) (ms 100)
  let x := match s.vn .btPhase k with
    | 1 => divOpen (T * e) (ms 100)
    | 2 => T
    | 3 => T - divOpen (T * e) (ms 100)
    | _ => 0
  if s.on .btNeg k then -x else x

/-- The limit at a STOP shrinks linearly to zero over the ramp of the stage's stop sequence (R47). -/
def State.stopScale (s : State) (t : Stage) (x : Int) : Int :=
  if (s.stg t).stopping && t.isT then
    let len := us (100 * s.f Reg.ENG_STOP_STOP_TIME t.idx)
    divOpen (x * (s.vn .stopForceAt t.idx - s.now : Nat)) len
  else x

/-- A bound in SERVICE: at most the service limit of a kind (0 current or power, 1 voltage, 2 speed) of a slot's stage (R44). -/
def State.inService (s : State) (n kind : Nat) (x : Int) : Int :=
  if s.module == .service then min x (Config.serviceLimit (s.f Reg.SLOT_TYPE_STAGE n) kind) else x

/-- The magnitude or power limit of a slot in Q2.30 (R272), in SERVICE within the service limit (R44): in a stop sequence of a T stage the limit at the STOP, ramped; in a brake
test the test's torque. -/
def State.slotLimit (s : State) (n : Nat) : Int :=
  let x := match s.testOf n with
    | some k => s.testTorque k
    | none => divOpen (s.fi Reg.SLOT_LIMITS_NOMINAL n * s.limitFactor n) 1000
  let x := s.inService n 0 x
  match Stage.ofNat? (s.f Reg.SLOT_TYPE_STAGE n) with
  | some t => if (s.stg t).stopping && t.isT then s.stopScale t (s.v .slotLim n) else x
  | none => x

/-- A current slot. -/
def isFoc (ty : Nat) : Bool := ty == 1 || ty == 2

/-- Component k of the setpoint that a slot's source gives (R269, R270): d, q, x, y of a current slot, one Q2.30 value of others, 0 for a
DAB_POWER slot in D's stop sequence (R452). -/
def State.spSource (s : State) (n k : Nat) : Int :=
  if s.f Reg.SLOT_TYPE_TYPE n == 8 && (s.stg .D).stopping then 0 else
  let foc := isFoc (s.f Reg.SLOT_TYPE_TYPE n)
  let word : Nat → Int := fun w =>
    if s.f Reg.SLOT_SP_CFG_SP_SRC n == 1 then
      if w = 0 then s.v .slotWord (s.f Reg.SLOT_SP_CFG_SP_SLOT n * 8 + s.f Reg.SLOT_SP_CFG_SP_OUT n) else 0
    else s.fi Reg.SLOT_SETPOINT n w
  if foc then
    let u := wrap 32 (word (k / 2))
    q15to30 (if k % 2 = 0 then u % 65536 else u / 65536)
  else word 0

/-- Component k of the effective setpoint of this run, and whether RAMP limited it: in HOLD the setpoint of the last run (R250), in a
brake test the test's torque, otherwise the source approached by at most RAMP x T_u. -/
def State.spNext (s : State) (n k tu : Nat) : Int × Bool :=
  let old := s.v .slotSp (n * 8 + k)
  let hold : Bool := match Stage.ofNat? (s.f Reg.SLOT_TYPE_STAGE n) with
    | some t => s.st t == .hold
    | none => false
  match s.testOf n with
  | some b => (if isFoc (s.f Reg.SLOT_TYPE_TYPE n) && k != 1 then 0 else s.testNow b, false)
  | none =>
    if hold then (old, false)
    else
      let new := s.spSource n k
      let r := s.f Reg.SLOT_LIMITS_RAMP n
      if r = 0 then (new, false)
      else
        let step := divOpen ((r : Int) * 16384 * tu) 300000
        let x := clampI (old - step) (old + step) new
        (x, x != new)

/-! ### The PI loop (R262, R265) -/

/-- What a loop gives: output, integrator, saturation, whether integration was suspended, error. -/
structure Pi where
  u    : Int
  i    : Int
  sat  : Int
  held : Bool
  e    : Int

/-- Loop `gain` of a slot, integrator and saturation k, reference r, measured y, feed-forward, limits, T_u; `preset` gives the MANUAL
output that the first AUTO run starts from, and `frozen` otherwise keeps the integrator (ARMED, R249). -/
def State.pi (s : State) (n k gain : Nat) (r y ff lo hi : Int) (tu : Nat) (frozen : Bool) (preset : Option Int) : Pi :=
  let e := satQ30 (r - y)
  let p := mulK (s.fi Reg.SLOT_KP n gain) e
  let old := s.v .slotInt (n * 8 + k)
  let sat := s.v .slotSat (n * 8 + k)
  let into := (0 < sat && 0 < e) || (sat < 0 && e < 0)
  let i := match preset with
    | some m => clampI lo hi (m - p - ff)
    | none => if frozen then old else if into then clampI lo hi old
      else clampI lo hi (old + divOpen (s.fi Reg.SLOT_KI n gain * tu * e) (65536 * 300000000))
  let x := p + i + ff
  { u := clampI lo hi x, i := i, sat := if hi < x then 1 else if x < lo then -1 else 0,
    held := into && !frozen && preset.isNone, e := e }

/-! ### What a run is asked for -/

/-- How a slot runs: AUTO with its loops, MANUAL with MAN_OUT, or frozen because REF_OK is absent (R263, R274). -/
inductive SlotWay where
  | auto | manual | frozen
  deriving DecidableEq, Repr

/-- The stage of a slot. -/
def State.slotStage (s : State) (n : Nat) : Stage := (Stage.ofNat? (s.f Reg.SLOT_TYPE_STAGE n)).getD .T1

/-- REF_OK is needed and absent. -/
def State.refWait (s : State) (n : Nat) : Bool :=
  needsRef (s.f Reg.SLOT_TYPE_TYPE n) && match s.slotFb n with
    | some c => !s.fb Reg.FB_STATUS_REF_OK c
    | none => true

/-- How a slot runs now. -/
def State.slotWay (s : State) (n : Nat) : SlotWay :=
  if !s.fb Reg.SLOT_MODE_MODE n then .manual else if s.refWait n then .frozen else .auto

/-- Component k that a slot which does not run its loops drives: MAN_OUT or the last output. -/
def State.heldOut (s : State) (n k : Nat) : Int :=
  if s.slotWay n == .frozen then s.v .slotRaw (n * 8 + k) else s.fi Reg.SLOT_MODE_MAN_OUT n k

/-- In ARMED the integrators stay (R249). -/
def State.isArmed (s : State) (n : Nat) : Bool := s.st (s.slotStage n) == .armed

/-- What the first AUTO run starts from (R265). -/
def State.presetOf (s : State) (n k : Nat) : Option Int :=
  if s.on .slotPreset n then some (s.fi Reg.SLOT_MODE_MAN_OUT n k) else none

/-- As `presetOf` for a loop whose output has no place in MAN_OUT: the value it starts from is given (log entry 85). -/
def State.presetAt (s : State) (n : Nat) (x : Int) : Option Int := if s.on .slotPreset n then some x else none

/-- What input j of a run brings for its mirror record: AVG, another slot's output, or POS of a feedback channel (R254). -/
def State.inMirror (s : State) (n j : Nat) : Int :=
  if 128 ≤ s.inSrc n j && s.inSrc n j < 136 then s.snap .snPos (s.inSrc n j - 128) else s.inRaw n j

/-- The setpoint components of a slot: d, q, x, y of CURRENT_FOC6, d, q of CURRENT_FOC3, one value of others (R270). -/
def spParts (ty : Nat) : Nat := if ty = 2 then 4 else if ty = 1 then 2 else 1
/-- The start of a run's record. -/
def State.runBase (s : State) (n : Nat) : Run :=
  { lane := s.f Reg.SLOT_TYPE_LANE n, slot := n, tu := s.slotTu n, auto := s.slotWay n == .auto, refWait := s.refWait n,
    derated := s.limitFactor n < 1000, stale := s.anyStale n, lim := s.slotLimit n,
    ints := (List.range 4).map fun k => s.v .slotInt (n * 8 + k), sats := [0, 0, 0, 0],
    sp := (List.range 4).map fun k => (s.spNext n k (s.slotTu n)).1,
    ramping := (List.range (spParts (s.f Reg.SLOT_TYPE_TYPE n))).any fun k => (s.spNext n k (s.slotTu n)).2,
    preset := s.on .slotPreset n && s.slotWay n == .auto, ins := (List.range 8).map (s.inMirror n) }

/-! ### Current slots (R257 to R261) -/

/-- Clarke transformation, amplitude-invariant (the spec leaves the form open; log entry 12). -/
def clarke (a b c : Int) : Int × Int := (satQ30 (divOpen (2 * a - b - c) 3), satQ30 (divOpen ((b - c) * invSqrt3) one30))

/-- Inverse Clarke transformation. -/
def clarkeInv (α β : Int) : List Int :=
  let h := divOpen (β * sqrt3) (2 * one30)
  [α, divOpen (-α) 2 + h, divOpen (-α) 2 - h]

/-- Vector-space decomposition of two three-phase sets 30 degrees apart (log entry 12): α, β, x, y. -/
def vsd (a1 b1 c1 a2 b2 c2 : Int) : Int × Int × Int × Int :=
  let h (x : Int) : Int := divOpen (x * sqrt3) (2 * one30)
  let p := 2 * a1 - b1 - c1
  let q := h (a2 - b2)
  let r := h (b1 - c1)
  let t := a2 + b2 - 2 * c2
  (satQ30 (divOpen (p + 2 * q) 6), satQ30 (divOpen (2 * r + t) 6), satQ30 (divOpen (p - 2 * q) 6), satQ30 (divOpen (t - 2 * r) 6))

/-- The voltages of the two sets from α, β, x, y. -/
def vsdInv (α β x y : Int) : List Int × List Int :=
  let h (v : Int) : Int := divOpen (v * sqrt3) (2 * one30)
  let set1 := clarkeInv (α + x) (β - y)
  (set1, [h (α - x) + divOpen (β + y) 2, divOpen (β + y) 2 - h (α - x), -(β + y)])

/-- Rotation by an angle: (d, q) of (α, β). -/
def rotate (θ : Nat) (α β : Int) : Int × Int :=
  (satQ30 (divOpen (α * Config.cosine θ + β * Config.sine θ) one30), satQ30 (divOpen (β * Config.cosine θ - α * Config.sine θ) one30))

/-- Rotation back. -/
def unrotate (θ : Nat) (d q : Int) : Int × Int :=
  (satQ30 (divOpen (d * Config.cosine θ - q * Config.sine θ) one30), satQ30 (divOpen (d * Config.sine θ + q * Config.cosine θ) one30))

/-- The duties of one three-phase set in Q1.15 (R257); with u_dc too low every duty is 0.5 (R259). -/
def duties (v : List Int) (u : Int) (low : Bool) : List Nat :=
  if low then v.map fun _ => 16384
  else
    let top := v.foldl max (v.getD 0 0)
    let bot := v.foldl min (v.getD 0 0)
    let v0 := -divOpen (top + bot) 2
    v.map fun x => (clampI 0 32767 (16384 + divRound ((x + v0) * 32768) u)).toNat

/-- The limit M_MAX x u_dc / sqrt 3 on a voltage vector (R258), in SERVICE within the service limit (R44). -/
def State.vMax (s : State) (n : Nat) (u : Int) : Int :=
  s.inService n 1 (divOpen (max 0 u * s.f Reg.SLOT_LIMITS_M_MAX n * invSqrt3) (32768 * one30))

/-- The first component of a vector within a limit keeps priority, the second takes what remains (R258); whether the limit acted. -/
def limitVec (lim d q : Int) : Int × Int × Bool :=
  let d' := clampI (-lim) lim d
  let rest : Int := sqrtOpen (lim * lim - d' * d').toNat
  let q' := clampI (-rest) rest q
  (d', q', d' != d || q' != q)

/-- The legs of a current slot in the order of R239. -/
def State.focLegs (s : State) (n : Nat) (six : Bool) : List Nat :=
  let t := s.slotStage n
  if six then t.legs
  else if t.isT then List.range' (t.legBase + 3 * s.f Reg.SLOT_TYPE_HALF n) 3
  else t.legs

/-- The flags word of a current slot: VSAT, OUT_SAT and INT_HELD at their places of Table 7-16 (log entry 13). -/
def flagsWord (vsat sat held : Bool) : Int := (if vsat then 4 else 0) + (if sat then 8 else 0) + (if held then 16 else 0)

/-- A run of CURRENT_FOC6 (six) or CURRENT_FOC3. -/
def State.runFoc (s : State) (n : Nat) (six : Bool) : Run :=
  let r := s.runBase n
  let u := s.inU n 6
  let low := s.inLow n 6
  let (θm, θo) := s.angles n r.tu
  let w := s.inN n
  let (α, β, x, y) := if six then vsd (s.inI n 0) (s.inI n 1) (s.inI n 2) (s.inI n 3) (s.inI n 4) (s.inI n 5)
    else ((clarke (s.inI n 0) (s.inI n 1) (s.inI n 2)).1, (clarke (s.inI n 0) (s.inI n 1) (s.inI n 2)).2, 0, 0)
  let (id, iq) := rotate θm α β
  let mθ := wrap 16 (-(θm : Int))
  let (ix, iy) := rotate mθ x y
  let vm := s.vMax n u
  let (dr, qr, _) := limitVec (max 0 r.lim) (r.sp.getD 0 0) (r.sp.getD 1 0)
  let (xr, yr, _) := limitVec (max 0 r.lim) (r.sp.getD 2 0) (r.sp.getD 3 0)
  let ffd := -mulK (s.fi Reg.SLOT_FF n 1) (mul30 w iq)
  let ffq := satQ30 (mulK (s.fi Reg.SLOT_FF n 0) (mul30 w id) + mulK (s.fi Reg.SLOT_FF n 2) w)
  let loop (k : Nat) (ref y ff : Int) : Pi := s.pi n k k ref y ff (-vm) vm r.tu (s.isArmed n) (s.presetOf n k)
  let pd := loop 0 dr id ffd
  let pq := loop 1 qr iq ffq
  let px := loop 2 xr ix 0
  let py := loop 3 yr iy 0
  let (d0, q0, x0, y0) := if r.auto then (pd.u, pq.u, px.u, py.u)
    else (s.heldOut n 0, s.heldOut n 1, s.heldOut n 2, s.heldOut n 3)
  let (vd, vq, cut) := limitVec vm d0 q0
  let (vx, vy, cutxy) := if six then limitVec (max 0 (vm - mag vd vq)) x0 y0 else (0, 0, false)
  let (vα, vβ) := unrotate θo vd vq
  let (vX, vY) := unrotate (wrap 16 (-(θo : Int))) vx vy
  let sets := if six then [(vsdInv vα vβ vX vY).1, (vsdInv vα vβ vX vY).2] else [clarkeInv vα vβ]
  let ds := sets.flatMap fun v => duties v u low
  let sats := if six then [pd.sat, pq.sat, px.sat, py.sat] else [pd.sat, pq.sat, 0, 0]
  let sat := r.auto && sats.any (· != 0)
  let vsat := low || cut || cutxy || (r.auto && (pd.sat != 0 || pq.sat != 0))
  let held := r.auto && (pd.held || pq.held || (six && (px.held || py.held)))
  let power := satQ30 (divOpen ((if six then 2 else 1) * 3 * (vd * id + vq * iq + (if six then vx * ix + vy * iy else 0)))
    (2 * one30))
  let errs := if six then [pd.e, pq.e, px.e, py.e] else [pd.e, pq.e]
  { r with
    outs := [vd, vq, vx, vy], words := [pack15 vd vq, pack15 vx vy, mag vd vq, power, flagsWord vsat sat held],
    ints := if r.auto then (if six then [pd.i, pq.i, px.i, py.i] else [pd.i, pq.i, 0, 0]) else r.ints,
    sats := if r.auto then sats else [0, 0, 0, 0], sp := [dr, qr, xr, yr],
    err := if r.auto then (errs.map fun e => |e|).foldl max 0 else 0, vsat := vsat, outSat := sat, held := held,
    legs := (s.focLegs n six).zip ds |>.map fun x => { leg := x.1, dutyA := x.2, dutyB := x.2, phase := 0, force := 0 } }

/-! ### TORQUE, SPEED, POSITION, GENERIC_PI (R276, R277) -/

/-- A grid position: the lower index among n points, and the fraction num / den beyond it, within the grid. -/
def gridAt (x den : Int) (n : Nat) : Nat × Int :=
  if den ≤ 0 then (n - 2, den)
  else
    let p := clampI 0 (den * ((n : Int) - 1)) (x * ((n : Int) - 1))
    let i := min (n - 2) (p / den).toNat
    (i, p - den * i)

/-- Bilinear interpolation between four corners with fractions fx / dx and fy / dy. -/
def bilinear (v00 v01 v10 v11 fx dx fy dy : Int) : Int :=
  if dx ≤ 0 || dy ≤ 0 then v11
  else divOpen (v00 * (dx - fx) * (dy - fy) + v01 * (dx - fx) * fy + v10 * fx * (dy - fy) + v11 * fx * fy) (dx * dy)

/-- Column c (0 id, 1 iq) of entry (a, b) of a MOTOR_TABLES set, in Q2.30. -/
def State.motorEntry (s : State) (set a b c : Nat) : Int := s.v .motorTab (set * 4096 + 2 + 2 * (a * 32 + b) + c) * 32768

/-- id* or iq* at a torque (Q2.30) and a flux (Q16.16). -/
def State.motorLook (s : State) (set c : Nat) (T psi : Int) : Int :=
  let (a, fx) := gridAt T (s.v .motorTab (set * 4096) * 16384) 32
  let (b, fy) := gridAt psi (s.v .motorTab (set * 4096 + 1)) 32
  bilinear (s.motorEntry set a b c) (s.motorEntry set a (b + 1) c) (s.motorEntry set (a + 1) b c)
    (s.motorEntry set (a + 1) (b + 1) c) fx (s.v .motorTab (set * 4096) * 16384) fy (s.v .motorTab (set * 4096 + 1))

/-- A run of TORQUE. -/
def State.runTorque (s : State) (n : Nat) : Run :=
  let r := s.runBase n
  let set := s.f Reg.SLOT_TYPE_TABLE n
  let T := clampI (-(max 0 r.lim)) (max 0 r.lim) (r.sp.getD 0 0)
  let w := |s.inN n|
  let top := s.v .motorTab (set * 4096 + 1)
  let psi := if w = 0 then top
    else min top (divOpen (s.f Reg.SLOT_LIMITS_M_MAX n * max 0 (s.inU n 6) * invSqrt3 * 2) (one30 * w))
  let id := s.motorLook set 0 |T| psi
  let iq := s.motorLook set 1 |T| psi
  let (a, b, c) := if r.auto then (id, if T < 0 then -iq else iq, T) else (s.heldOut n 0, s.heldOut n 1, s.heldOut n 2)
  { r with outs := [a, b, c], words := [pack15 a b, c], sp := [r.sp.getD 0 0], outSat := r.auto && T != r.sp.getD 0 0 }

/-- Some current slot takes output .00 of a slot as its setpoint (R277). -/
def State.feedsCurrent (s : State) (n : Nat) : Bool :=
  (List.range 48).any fun m => isFoc (s.f Reg.SLOT_TYPE_TYPE m) && s.f Reg.SLOT_SP_CFG_SP_SRC m == 1
    && s.f Reg.SLOT_SP_CFG_SP_SLOT m == n && s.f Reg.SLOT_SP_CFG_SP_OUT m == 0

/-- A run of one PI loop from an error, or of MAN_OUT. -/
def State.runSingle (s : State) (n : Nat) (ref y lo hi : Int) (packed : Bool) : Run :=
  let r := s.runBase n
  let p := s.pi n 0 0 ref y 0 lo hi r.tu (s.isArmed n) (s.presetOf n 0)
  let u := if r.auto then p.u else s.heldOut n 0
  { r with
    outs := [u], words := [if packed then pack15 0 u else u],
    ints := if r.auto then [p.i, 0, 0, 0] else r.ints, sats := if r.auto then [p.sat, 0, 0, 0] else [0, 0, 0, 0],
    sp := [r.sp.getD 0 0], err := if r.auto then |p.e| else 0, outSat := r.auto && p.sat != 0, held := r.auto && p.held }

/-- A run of SPEED: one loop on n; the reference it passes to a current loop keeps the limit of R272, and in SERVICE the speed it asks for
the service limit (R44). -/
def State.runSpeed (s : State) (n : Nat) : Run :=
  let packed := s.feedsCurrent n
  let lo := s.fi Reg.SLOT_LIMITS_OUT_MIN n
  let hi := s.fi Reg.SLOT_LIMITS_OUT_MAX n
  let lim := max 0 (s.slotLimit n)
  let sp := (s.spNext n 0 (s.slotTu n)).1
  let top := max 0 (s.inService n 2 (2 * one30))
  s.runSingle n (clampI (-top) top sp) (s.inN n) (if packed then max lo (-lim) else lo)
    (if packed then min hi lim else hi) packed

/-- A run of POSITION: one loop on POS, with FF.00 the error modulo CPR. -/
def State.runPosition (s : State) (n : Nat) : Run :=
  let sp := (s.spNext n 0 (s.slotTu n)).1
  let (pos, cpr) := match s.slotFb n with
    | some c => (s.snap .snPos c, s.fbCpr c)
    | none => (0, 0)
  let y := if s.f Reg.SLOT_FF n 0 == 1 && cpr != 0 then sp - reduce (sp - pos) cpr else pos
  s.runSingle n sp y (s.fi Reg.SLOT_LIMITS_OUT_MIN n) (s.fi Reg.SLOT_LIMITS_OUT_MAX n) false

/-- A run of GENERIC_PI: one loop on input .00. -/
def State.runGeneric (s : State) (n : Nat) : Run :=
  s.runSingle n (s.spNext n 0 (s.slotTu n)).1 (s.inX n 0) (s.fi Reg.SLOT_LIMITS_OUT_MIN n) (s.fi Reg.SLOT_LIMITS_OUT_MAX n) false

/-! ### Link voltage co-optimisation (R279 to R283): voltages in 2^-16 V -/

/-- Volts of a Q2.30 quantity of a slot's U_BASE. -/
def State.volts (s : State) (n : Nat) (x : Int) : Int := divOpen (x * s.f Reg.SLOT_SCALE_U_BASE n) 16384

/-- Q2.30 of a slot's U_BASE from 2^-16 V. -/
def State.perUnit (s : State) (n : Nat) (v : Int) : Int := satQ30 (divOpen (v * 16384) (s.f Reg.SLOT_SCALE_U_BASE n))

/-- FF.k of a LINK_VOLTAGE slot in 2^-16 V. -/
def State.coV (s : State) (n k : Nat) : Int := (s.f Reg.SLOT_FF n k : Int) * 65536

/-- A slot that an input names. -/
def State.inSlot (s : State) (n j : Nat) : Option Nat :=
  let src := s.inSrc n j
  if 192 ≤ src && src < 240 then some (src - 192) else none

/-- The feedback channel that an input names. -/
def State.inFb (s : State) (n j : Nat) : Option Nat :=
  let src := s.inSrc n j
  if 128 ≤ src && src < 136 then some (src - 128) else none

/-- U_map of traction stage k: LINK_MAP at speed and torque reference, 0 when something is absent. -/
def State.uMap (s : State) (n k : Nat) : Int :=
  if !s.on .linkMapHas then 0
  else match s.inSlot n (2 + k), s.inFb n (4 + k) with
    | some tq, some fb =>
      let dx := s.v .linkMap (k * 512)
      let dy := s.v .linkMap (k * 512 + 1) * 16384
      let (a, fx) := gridAt |s.snap .snSpeed fb| dx 16
      let (b, fy) := gridAt |s.v .slotRaw (tq * 8 + 2)| dy 16
      let e (i j : Nat) : Int := s.v .linkMap (k * 512 + 2 + i * 16 + j) * 65536
      bilinear (e a b) (e a (b + 1)) (e (a + 1) b) (e (a + 1) (b + 1)) fx dx fy dy
    | _, _ => 0

/-- The run of a current slot is older than two of its T_u (R280). -/
def State.contribStale (s : State) (c : Nat) : Bool := s.vn .slotRunAt c + 2 * Clk.pulse * s.slotTu c < s.now

/-- The contribution of traction stage k, and whether it is stale; none when the stage is not RUNNING or HOLD or has no slot. -/
def State.contribution (s : State) (n k : Nat) : Option (Int × Bool) :=
  match s.inSlot n k with
  | none => none
  | some c =>
    let t : Stage := if k = 0 then .T1 else .T2
    if !(s.st t).isRunning then none
    else if s.contribStale c then some (s.coV n 8, true)
    else
      let u := s.volts n (s.inU n 6)
      let need := if s.fb Reg.SLOT_STATUS_VSAT c then u + s.coV n 3
        else divOpen (s.v .slotWord (c * 8 + 2) * s.f Reg.SLOT_SCALE_U_BASE c * sqrt3 * 32768)
          (one30 * 16384 * (s.f Reg.SLOT_LIMITS_M_MAX c : Int)) + s.coV n 2
      some (max need (s.uMap n k), false)

/-- A setpoint clamped to voltages in 2^-16 V; within them it stays as it is (R283). -/
def State.clampVolts (s : State) (n : Nat) (lo hi x : Int) : Int :=
  let v := x * s.f Reg.SLOT_SCALE_U_BASE n
  if v < lo * 16384 then s.perUnit n lo else if hi * 16384 < v then s.perUnit n hi else x

/-- A run of LINK_VOLTAGE: its setpoint, in SERVICE within the service limit (R44), to output .00 and the sum of the load powers to .01. The
co-optimised setpoint moves by RISE, FALL and RAMP from the last one, from CO_MIN where there is none yet, and stays as it is within DEADBAND
(R40, R269, R281; log entry 183). `meas` holds whether a contribution is stale, and the floor in V when it exceeds CO_MAX, else 0. -/
def State.runLink (s : State) (n : Nat) : Run :=
  let r := s.runBase n
  let cs := [s.contribution n 0, s.contribution n 1].filterMap id
  let coMin := s.coV n 0
  let coMax := s.coV n 1
  let ub := s.volts n (s.inU n 7)
  let floor := max coMin (divOpen (ub * (1000 + s.f Reg.SLOT_FF n 4)) 1000)
  let target := match cs with
    | [] => s.coV n 9
    | c :: l => l.foldl (fun a x => max a x.1) c.1
  let last := if s.v .slotSp (n * 8) = 0 then s.perUnit n coMin else s.v .slotSp (n * 8)
  let old := s.volts n last
  let co := s.f Reg.SLOT_SP_CFG_SP_SRC n == 2
  let step (v : Int) : Int := divOpen (v * r.tu) 300000
  let hold := s.st .L == .hold
  let sp :=
    if !co then s.clampVolts n coMin coMax (r.sp.getD 0 0)
    else if hold then last
    else if coMax < floor then s.perUnit n coMax
    else
      let t := clampI floor coMax target
      if old < t then s.perUnit n (min t (old + step (s.coV n 5)))
      else if s.coV n 7 < old - t then s.perUnit n (max t (old - step (s.coV n 6)))
      else last
  let ramp := s.f Reg.SLOT_LIMITS_RAMP n
  let pace : Int := divOpen ((ramp : Int) * 16384 * r.tu) 300000
  let sp' := if co && ramp != 0 && !hold then clampI (last - pace) (last + pace) sp else sp
  let cut := sp' != sp
  let sp := sp'
  let power := [0, 1].foldl (fun a k => match s.inSlot n k with
    | some c => a + s.v .slotWord (c * 8 + 3)
    | none => a) 0
  let load := clampI (-(max 0 r.lim)) (max 0 r.lim) (satQ30 power)
  let volt := s.inService n 1 sp
  let (a, b) := if r.auto then (volt, load) else (s.inService n 1 (s.heldOut n 0), s.heldOut n 1)
  { r with
    outSat := r.auto && (load != power || volt != sp || (if co then coMax < floor else sp != r.sp.getD 0 0)),
    outs := [a, b], words := [a, b], sp := [if r.auto then sp else s.v .slotSp (n * 8)], ramping := if co then cut else r.ramping,
    meas := if r.auto && co then [if cs.any fun c => c.2 then 1 else 0, if coMax < floor then floor / 65536 else 0] else [0, 0] }

end Sys2Proof.Machine
end

