-- ==== Sys2Proof/Machine/Link.lean ====
section
/-!
DEFINITION. Link converter regulation (chapter 11): the regulator's update, its states, phase shedding, light load and burst,
soft start, hand-over, faults; and the synchronisation of carriers to SYNC_IN (R316 to R319, R412 to R414). Voltages are in
2^-16 V, currents in 2^-16 A.
-/

namespace Sys2Proof.Machine

/-! ### Measured quantities and settings (R383 to R390) -/

/-- Volts of an AVG of a link or battery accumulator: 1,310.72 V at full scale (R384). -/
def hvVolts (avg : Int) : Int := divOpen (avg * 262144) 100

/-- The accumulator of a LINK input. -/
def State.linkAcc (s : State) (j : Nat) : Int := s.accAvg (64 + s.f Reg.LINK_INPUTS j)

/-- The current of phase j. -/
def State.phaseI (s : State) (j : Nat) : Int := divOpen (s.linkAcc j * s.f Reg.LINK_SCALE_I_FS) 5

/-- A current of LINK.SCALE given in 0.1 A. -/
def amps10 (x : Nat) : Int := divOpen ((x : Int) * 65536) 10

/-- A percentage of I_PH. -/
def State.iPh (s : State) (pct : Nat) : Int := divOpen (amps10 (s.f Reg.LINK_SCALE_I_PH) * pct) 100

/-- The LINK_VOLTAGE slot. -/
def State.linkSlot (s : State) : Option Nat := (List.range 48).find? fun n => s.f Reg.SLOT_TYPE_TYPE n == 6

/-- The setpoint (R390), in SERVICE within the service limit (R44). -/
def State.linkSetpoint (s : State) : Int := match s.linkSlot with
  | some n => s.volts n (s.v .slotWord (n * 8))
  | none =>
    let v := clampI (650 * 65536) (1150 * 65536) (s.f Reg.LINK_VSET * 65536)
    if s.module == .service then min v (Config.serviceLimit 2 4) else v

/-- The feed-forward current FF_GAIN x P_ff / u_link (R390, R391). -/
def State.linkFf (s : State) (u : Int) : Int := match s.linkSlot with
  | some n => divOpen (s.fi Reg.LINK_CURRENT_FF_GAIN * s.v .slotWord (n * 8 + 1) * s.f Reg.LINK_SCALE_P_BASE * 6553600) (one30 * u)
  | none => 0

/-- The largest number of switching legs, and those of a count n: LEG12 upwards (R394). -/
def State.nMax (s : State) : Nat := s.f Reg.LINK_CFG_N_MAX
def legMask (n : Nat) : Nat := 2 ^ n - 1

/-- The switching legs of a state: LIGHT and a burst switch REF_LEG alone (Table 11-2). -/
def State.regLegs (s : State) (st n : Nat) : Nat :=
  if st == 3 || st == 4 then (if n = 0 then 0 else 2 ^ s.f Reg.PULSE_CARRIER_REF_LEG 2) else legMask n

/-- The regulator enters a state with a number of switching legs; the hiccup count resets when REGULATE is reached (R409), and what ends with
BURST ends (R406). -/
def State.regState (s : State) (st n : Nat) : State :=
  let s := s.when (st != 4) State.burstLeft
  let s := if s.f Reg.LINK_STATUS_STATE == st then s else s.setV .regUpd 0 0
  let s := s.when (st == 2) fun s => s.setF Reg.LINK_STATUS_HICCUPS 0 0
  ((s.setF Reg.LINK_STATUS_STATE 0 st).setF Reg.LINK_STATUS_PHASES 0 n).setF Reg.LINK_STATUS_LEGS 0 (s.regLegs st n)

/-- A burst begins or ends: REF_LEG switches or every leg is OFF (R406). -/
def State.regBurstTo (s : State) (on : Bool) : State :=
  let n : Nat := if on then 1 else 0
  ((s.setOn .regBurst 0 on).setF Reg.LINK_STATUS_PHASES 0 n).setF Reg.LINK_STATUS_LEGS 0 (s.regLegs 4 n)

/-! ### Commits (R388, R393) -/

/-- The first common LOOP and PULSE edge at least 10 ns after an instant. -/
def commonEdge (t : Nat) : Nat := divUp (t + 30) 30 * 30

/-- Write the shadow set of phase j and its commit, complete at the end of the update. -/
def State.regLeg (s : State) (j duty phase force timeA timeB : Nat) : State :=
  let n := 12 + j
  let s := ((s.setF Reg.LEG_DUTY_A n duty).setF Reg.LEG_DUTY_B n duty).setF Reg.LEG_PHASE n phase
  let s := ((s.setF Reg.LEG_TIME_A n timeA).setF Reg.LEG_TIME_B n timeB).setF Reg.LEG_CTRL_FORCE n force
  (s.setFb Reg.LEG_CTRL_COMMIT n true).setDue .commit n (some (commonEdge (s.now + 960)))

/-- Commit all six legs of L with n switching legs at their interleave phases, shed legs at their full-interleave positions (R389, R393). -/
def State.regPhases (s : State) (n : Nat) : State :=
  s.each (List.range 6) fun s j =>
    let duty := (clampI 0 32767 (s.v .regDuty j)).toNat
    if j < n then s.regLeg j duty (wrap 16 (divOpen (65536 * j) n)) 0 0 0
    else s.regLeg j duty (wrap 16 (divOpen (65536 * j) s.nMax)) 3 0 0

/-- Commit FORCE OFF to all legs. -/
def State.regOff (s : State) : State := s.regPhases 0

/-- PULSE.L.CARRIER changes mode at the next PERIOD_START (R296). -/
def State.regMode (s : State) (mode : Nat) : State :=
  if s.f Reg.PULSE_STATUS_MODE 2 == mode && !s.fb Reg.PULSE_STATUS_MODE_PENDING 2 then s
  else (s.setV .modeNext 2 mode).setFb Reg.PULSE_STATUS_MODE_PENDING 2 true

/-! ### Light load (R403, R406) -/

/-- The one leg of LIGHT and of a burst with a peak current; every other leg is OFF. -/
def State.regLight (s : State) (ipk ub : Int) (on : Bool) : State :=
  let s := s.setV .regIpk 0 ipk
  let ta := (divOpen (s.f Reg.LINK_SCALE_L_PH * 1920 * ipk) ub).toNat
  let ref := s.f Reg.PULSE_CARRIER_REF_LEG 2
  s.each (List.range 6) fun s j =>
    if j = ref && on then s.regLeg j 0 0 0 ta (4 * s.f Reg.PULSE_PERIOD_NOW 2) else s.regLeg j 0 0 3 ta 0

/-! ### Transitions (Table 11-3, R397) -/

/-- A transition reported with reaction 0x0 on L. -/
def State.linkNote (s : State) (code : Nat) (d0 : Nat := 0) : State := s.noteAt code .L d0

/-- Enter SOFT_START: a new window, the reference at the measured link voltage, history zero. -/
def State.softStart (s : State) : State :=
  let s := ((s.regState 1 s.nMax).regHistory 0).setV .regRef 0 (s.v .regLink)
  let s := (s.each (List.range 6) fun s j => (s.setV .regX j 0).setV .regSat j 0).setV .regSoft 0 0
  let s := (s.setV .ssJudged 0 0).setOn .hiccupOver 0 false
  ((s.setFb Reg.LINK_STATUS_SS_WINDOW 0 true).openSlow .ssWindow 0 (ms (s.f Reg.LINK_SOFT_SS_TIME))).regMode 1

/-- SOFT_START ends. -/
def State.softEnd (s : State) : State := ((s.setFb Reg.LINK_STATUS_SS_WINDOW 0 false).setV .ssJudged 0 0).close .ssWindow

/-- Enter REGULATE from SOFT_START with every leg. -/
def State.softDone (s : State) (code : Nat) : State :=
  (s.softEnd.regState 2 s.nMax).linkNote code

/-- The number of switching legs changes by one (R399, R400). -/
def State.regShed (s : State) (n : Nat) : State :=
  ((s.regState 2 n).addF Reg.LINK_COUNTERS 1).linkNote Ev.PHASES_CHANGED n

/-- Enter LIGHT or BURST, or REGULATE with one leg from LIGHT; BURST is counted at each burst. -/
def State.regEnter (s : State) (st : Nat) : State :=
  let s := (s.regState st (if st == 4 then 0 else 1)).regMode (if st == 2 then 1 else 3)
  let s := (s.setOn .regBurst 0 false).setV .regBurstAt 0 0
  s.linkNote Ev.MODE_ENTERED st

/-- A fault of stage L; one whose reaction is not REPORT captures the FAULT snapshot (R417). -/
def State.linkFault (s : State) (code inst reaction d0 : Nat) (lasting : Bool) : State :=
  let s := s.snapFrom.raise { code := code, inst := inst, src := 2, d0 := d0, reaction := reaction, stages := [.L], lasting := lasting,
                              transient := !lasting }
  if reaction == 0 then s else s.linkSnap 5 code

/-- What the judgement of the soft-start window brings (Table 11-3, R408, R409): REGULATE, HICCUP, or the reaction of SOFT_START_FAIL. -/
def State.softJudged (s : State) : State :=
  if s.vn .ssJudged = 1 then (s.softDone Ev.SOFT_START_INCOMPLETE).linkSnap 0 Ev.SOFT_START_INCOMPLETE
  else if s.f Reg.LINK_STATUS_HICCUPS < s.f Reg.LINK_CFG_HICCUP_MAX then
    let s := (((s.softEnd.regState 6 0).regMode 1).setOn .hiccupOver 0 false).addF Reg.LINK_COUNTERS 5
    ((s.linkNote Ev.HICCUP).openSlow .hiccup 0 (ms (10 * s.f Reg.LINK_CFG_HICCUP_WAIT))).linkSnap 0 Ev.HICCUP
  else (s.softEnd.addF Reg.LINK_COUNTERS 4).linkFault Ev.SOFT_START_FAIL 0 (s.f Reg.LINK_SOFT_SS_REACTION) 0 false

/-- The SHED_BLOCK window is closed (R402). -/
def State.shedFree (s : State) : Bool := !s.isOpen .shedBlock

/-- A load step (R401) for an error and the last current reference. -/
def State.loadStep (s : State) (e0 : Int) : Bool :=
  divOpen ((s.f Reg.LINK_STEP_STEP_V : Int) * 65536) 10 ≤ |e0|
  || (s.f Reg.LINK_STEP_STEP_I : Int) * 65536 ≤ |s.v .regIref - ((List.range 6).foldl (fun a j => a + s.phaseI j) 0)|

/-- What a transition of an update asks of the rest of it: legs restored by a load step, or the take-over of R410. -/
inductive RegStep where
  | none | loadStep | takeOver
  deriving DecidableEq, Repr

/-- The end of a burst, or BURST left for LIGHT: u_link is judged against the setpoint (R406, R407). -/
def State.burstStep (s : State) (sp u : Int) : State :=
  let wake := divOpen ((s.f Reg.LINK_LIGHT_WAKE_V : Int) * 65536) 10
  let hyst := divOpen ((s.f Reg.LINK_LIGHT_BURST_HYST : Int) * 65536) 10
  let leave (s : State) := (s.regEnter 3).linkSnap 2 Ev.MODE_ENTERED
  if s.on .regBurst then
    if sp + hyst ≤ u then (s.regBurstTo false).setV .regBurstAt 0 (s.now : Nat) else s
  else if u ≤ sp - wake then
    let soon := s.on .regBurstAt && s.now < s.vn .regBurstAt + 20 * (s.f Reg.PULSE_PERIOD_NOW 2 / 64) * Clk.pulse
    let s := s.addF Reg.LINK_COUNTERS 3
    if soon then leave s else s.regBurstTo true
  else if s.fb Reg.LINK_CFG_BIDIR && sp + 2 * hyst ≤ u then leave s
  else s

/-- The one transition of an update (Table 11-3 in the order of R397); conditions on i_ref take the value of the last update. The regulator
leaves OFF after its stage's entry to RUNNING, not once its stop sequence is over (R395). -/
def State.regTransition (s : State) (sp u e0 : Int) : State × RegStep :=
  let st := s.f Reg.LINK_STATUS_STATE
  let n := s.f Reg.LINK_STATUS_PHASES
  let i := |s.v .regIref|
  if st == 0 then
    if (s.stg .L).stopping then (s, .none)
    else if s.f Reg.CHG_STATUS_PP_STATE == 4 then ((s.regState 5 0).regMode 1, .none)
    else (s.softStart, .none)
  else if st == 7 then (s, .none)
  else if st == 1 && s.on .ssJudged then (s.softJudged, .none)
  else if s.on .handbackReq && st != 5 then
    let s := ((s.softEnd.close .hiccup).regState 5 0).setOn .handbackReq 0 false
    let s := ((s.regMode 1).linkNote Ev.HANDBACK).linkSnap 4 Ev.HANDBACK
    (s.regLeft st Ev.HANDBACK, .none)
  else if st == 5 && s.on .takeoverReq then
    let s := ((s.regState 2 s.nMax).regHistory 0).setOn .takeoverReq 0 false
    (((s.addF Reg.LINK_COUNTERS 6).linkNote Ev.TAKEOVER).linkSnap 4 Ev.TAKEOVER, .takeOver)
  else if ((st == 2 && n < s.nMax) || st == 3 || st == 4) && s.loadStep e0 then
    let s := ((s.regState 2 s.nMax).regMode 1).addF Reg.LINK_COUNTERS 2
    let s := (s.openSlow .shedBlock 0 (ms (s.f Reg.LINK_SHED_SHED_BLOCK))).setFb Reg.LINK_STATUS_BLOCK 0 true
    let s := ((s.linkNote Ev.SHED_ABORT n).linkSnap 1 Ev.SHED_ABORT).regLeft st Ev.SHED_ABORT
    (if st == 3 then s.linkNote Ev.MODE_ENTERED 2 else s, .loadStep)
  else if st == 6 then (if s.on .hiccupOver then (s.addF Reg.LINK_STATUS_HICCUPS 0).softStart else s, .none)
  else if st == 1 then
    (if 4 ≤ s.vn .regSoft && !s.ended Clk.slow .ssWindow then (s.softDone Ev.SOFT_START_DONE).linkSnap 0 Ev.SOFT_START_DONE else s, .none)
  else if st == 3 && s.iPh (s.f Reg.LINK_LIGHT_LIGHT_EXIT) ≤ i then (s.regEnter 2, .none)
  else if st == 4 then (s.burstStep sp u, .none)
  else if st == 2 && s.on .shedMet 1 then (s.regEnter 3, .none)
  else if st == 3 && s.on .shedMet 2 then ((s.regEnter 4).linkSnap 2 Ev.MODE_ENTERED, .none)
  else if st == 2 && s.fb Reg.LINK_CFG_SHED_EN && s.shedFree && n < s.nMax && (n : Int) * s.iPh (s.f Reg.LINK_SHED_ADD_PCT) ≤ i then
    (s.regShed (n + 1), .none)
  else if st == 2 && s.on .shedMet 0 then (s.regShed (n - 1), .none)
  else (s, .none)

/-! ### Compensator and current loops (R391, R392) -/

/-- I_HIGH in a state: I_MAX, n x the soft-start limit, or the ramp of the stop sequence from the limit it found in force (R391, R396,
R408); in SERVICE within the service limit (R44). -/
def State.iHigh (s : State) : Int :=
  let within (x : Int) : Int := if s.module == .service then min x (max 0 (Config.serviceLimit 2 3)) else x
  let soft := within (s.f Reg.LINK_STATUS_PHASES * s.iPh (5 * s.f Reg.LINK_SOFT_SS_ILIM))
  let top := within (amps10 (s.f Reg.LINK_SCALE_I_MAX))
  match s.f Reg.LINK_STATUS_STATE with
  | 1 => soft
  | 7 =>
    let len := us (100 * s.f Reg.LINK_SCALE_STOP_RAMP)
    let rest : Nat := match s.due .stopSeq 2 with
      | some e => min len (e - s.now)
      | none => 0
    divOpen ((if s.vn .regStopFrom == 1 then soft else top) * rest) len
  | _ => top

/-- The compensator's output for an error, with its history moved on. -/
def State.compensate (s : State) (e0 u : Int) : State :=
  let A (k : Nat) : Int := s.fi Reg.LINK_COMP_A k
  let B (k : Nat) : Int := s.fi Reg.LINK_COMP_B k
  let a := A 0 * s.v .regC 1 + A 1 * s.v .regC 2 + A 2 * s.v .regC 3
  let b := B 0 * e0 + B 1 * s.v .regE 1 + B 2 * s.v .regE 2 + B 3 * s.v .regE 3
  let c0 := divOpen (a + 16384 * b) one30
  let ff := s.linkFf u
  let hi := s.iHigh
  let lo := if s.fb Reg.LINK_CFG_BIDIR then -hi else 0
  let i := clampI lo hi (c0 + ff)
  let c0 := if i = c0 + ff then c0 else i - ff
  let s := ((s.setV .regC 3 (s.v .regC 2)).setV .regC 2 (s.v .regC 1)).setV .regC 1 c0
  let s := ((s.setV .regE 3 (s.v .regE 2)).setV .regE 2 (s.v .regE 1)).setV .regE 1 e0
  (s.setV .regIref 0 i).setFb Reg.LINK_STATUS_BUCK 0 (i < 0)

/-- The ratio u_batt / u_link in 2^-30. -/
def ratio30 (ub u : Int) : Int := divOpen (ub * one30) u

/-- Phase j keeps a duty: the duty and the integrator that gives it (R402, R410). -/
def State.preBias (s : State) (j : Nat) (duty30 base e : Int) : State :=
  ((s.setV .regDuty j (divOpen duty30 32768)).setV .regX j
    (base - divOpen (s.fi Reg.LINK_CURRENT_KP_I * e) 4 - duty30)).setV .regSat j 0

/-- The average-current loop of phase j. -/
def State.phaseLoop (s : State) (j : Nat) (r base : Int) (tu : Nat) : State :=
  let e := r - s.phaseI j
  let sat := s.v .regSat j
  let x := if (sat < 0 && 0 < e) || (0 < sat && e < 0) then s.v .regX j
    else s.v .regX j + divOpen (s.fi Reg.LINK_CURRENT_KI_I * tu * e) (4 * 300000000)
  let d := base - divOpen (s.fi Reg.LINK_CURRENT_KP_I * e) 4 - x
  let lo := s.fi Reg.LINK_CURRENT_DUTY_MIN * 32768
  let hi := s.fi Reg.LINK_CURRENT_DUTY_MAX * 32768
  ((s.setV .regX j x).setV .regDuty j (divOpen (clampI lo hi d) 32768)).setV .regSat j (if d < lo then -1 else if hi < d then 1 else 0)

/-- The loops of the switching legs; a load step restores the others at the mean of the duties that `was` legs switched with, a take-over
starts every leg at u_batt / u_link (R392, R402, R410). -/
def State.regLoops (s : State) (step : RegStep) (was : Nat) (u ub : Int) (tu : Nat) : State :=
  let n := max 1 (s.f Reg.LINK_STATUS_PHASES)
  let r := divOpen (s.v .regIref) n
  let base := ratio30 ub u
  match step with
  | .none => s.each (List.range n) fun s j => s.phaseLoop j r base tu
  | .takeOver => s.each (List.range n) fun s j => s.preBias j base base (r - s.phaseI j)
  | .loadStep =>
    let mean := if was = 0 then base
      else divOpen ((List.range was).foldl (fun a j => a + s.v .regDuty j * 32768) 0) was
    let s := s.each (List.range was) fun s j => s.phaseLoop j r base tu
    s.each (List.range' was (n - was)) fun s j => s.preBias j mean base (r - s.phaseI j)

/-! ### Conditions that are timed and fault conditions (R398, R399, R404, R406, R415) -/

/-- A condition timed in SLOW cycles and judged at an instant: its window opens when it becomes true and closes when it is false, unless it
ends in that SLOW cycle or before it (R31 to R34). -/
def State.timedAt (s : State) (at' : Nat) (t : Timer) (i : Nat) (cond : Bool) (len : Nat) : State :=
  if cond then (if s.isOpen t i then s else s.setDue t i (some (at' / Clk.slow * Clk.slow + len))) else s.lapseAt Clk.slow at' t i

/-- A condition timed from now. -/
def State.timed (s : State) (t : Timer) (i : Nat) (cond : Bool) (len : Nat) : State := s.timedAt s.now t i cond len

/-- The end of the update that starts now: conditions that must hold for a time are set and cleared there (R388, R398). -/
def State.updateEnd (s : State) : Nat := s.now + 64 * Clk.loop

/-- The shed (0), light (1) or burst (2) condition: once it has held for SHED_TIME it stays met until it is false (R397). -/
def State.shedCond (s : State) (i : Nat) (cond : Bool) : State :=
  if cond && s.on .shedMet i then s
  else (s.setOn .shedMet i false).timedAt s.updateEnd .shed i cond (ms (s.f Reg.LINK_SHED_SHED_TIME))

/-- The shed, light and burst conditions (R399, R404, R406). -/
def State.shedConds (s : State) (u ub : Int) : State :=
  let st := s.f Reg.LINK_STATUS_STATE
  let n := s.f Reg.LINK_STATUS_PHASES
  let i := |s.v .regIref|
  let s := s.shedCond 0 (st == 2 && s.fb Reg.LINK_CFG_SHED_EN && 1 < n && s.shedFree
    && i ≤ ((n : Int) - 1) * s.iPh (s.f Reg.LINK_SHED_SHED_PCT))
  let s := s.shedCond 1 (st == 2 && s.fb Reg.LINK_CFG_LIGHT_EN && n == 1 && s.shedFree
    && i ≤ s.iPh (s.f Reg.LINK_LIGHT_LIGHT_ENTER))
  s.shedCond 2 (st == 3 && s.fb Reg.LINK_CFG_BURST_EN && 0 ≤ s.v .regIref && s.v .regIref < s.iMin u ub)

/-- A stage's regulator evaluates LINK_OV, LINK_UV and PHASE_IMBALANCE from the measured values (R415). -/
def State.linkFaults (s : State) (sp u : Int) : State :=
  let st := s.f Reg.LINK_STATUS_STATE
  let on := st == 2 || st == 3 || st == 4
  let high := (on || st == 1) && ((700 + 5 * s.f Reg.LINK_LIMITS_OV_LIMIT : Nat) : Int) * 65536 ≤ u
  let s := s.setV .regOv 0 (if high then min 3 (s.vn .regOv + 1) else 0 : Nat)
  let low := on && u < sp - s.f Reg.LINK_LIMITS_UV_BAND * 65536
  let s := if low && s.present Ev.LINK_UV then s else s.timedAt s.updateEnd .uvTime 0 low (ms (s.f Reg.LINK_LIMITS_UV_TIME))
  let s := if low then s else (s.setFb Reg.LINK_STATUS_UV 0 false).clearCause Ev.LINK_UV
  let n := s.f Reg.LINK_STATUS_PHASES
  let legs := if st == 3 || st == 4 then [s.f Reg.PULSE_CARRIER_REF_LEG 2] else List.range n
  let mean := if legs.isEmpty then 0 else divOpen (legs.foldl (fun a j => a + s.phaseI j) 0) legs.length
  let s := s.each (List.range 6) fun s j =>
    let bad := on && legs.contains j && s.iPh (s.f Reg.LINK_IMBALANCE_IMB_LIMIT) < |s.phaseI j - mean|
    if bad && s.present Ev.PHASE_IMBALANCE j then s
    else
      let s := s.timedAt s.updateEnd .imbTime j bad (ms (s.f Reg.LINK_IMBALANCE_IMB_TIME))
      if bad then s else s.clearCause Ev.PHASE_IMBALANCE j
  let s := s.setFb Reg.LINK_STATUS_IMB 0 ((List.range 6).any fun j => s.present Ev.PHASE_IMBALANCE j)
  if s.vn .regOv = 2 && !s.present Ev.LINK_OV then
    (s.setFb Reg.LINK_STATUS_OV 0 true).linkFault Ev.LINK_OV 0 (s.f Reg.LINK_LIMITS_OV_REACTION) (wrap 32 (tenths u)) true
  else if high then s
  else (s.setFb Reg.LINK_STATUS_OV 0 false).clearCause Ev.LINK_OV

/-! ### The update (R388, R389) -/

/-- The end of the stop sequence: FORCE OFF is committed to every leg and the regulator is OFF (R396). -/
def State.regStopped (s : State) : State :=
  let s := (s.regState 0 0).regOff
  (s.setV .stopForceAt 2 (commonEdge (s.now + 960) : Nat)).close .stopSeq 2

/-- Steps 4 to 7 of an update; OFF commits nothing (R389, Table 11-2). -/
def State.regAct (s : State) (step : RegStep) (was : Nat) (sp u ub : Int) (tu : Nat) : State :=
  let st := s.f Reg.LINK_STATUS_STATE
  let ref := if st == 1 then
      let d := divOpen (s.f Reg.LINK_SOFT_SS_RAMP * 65536 * (tu : Int)) 300000
      clampI (s.v .regRef - d) (s.v .regRef + d) sp
    else sp
  let s := s.setV .regRef 0 ref
  let e0 := ref - u
  let from' := s.vn .regStopFrom
  let light := st == 3 || (st == 7 && (from' == 3 || from' == 4))
  if st == 0 then s
  else if st == 5 || st == 6 then s.regOff
  else if st == 4 then
    let s := s.setV .regIref 0 (s.iMin u ub)
    s.regLight (2 * s.iMin u ub) ub (s.on .regBurst)
  else
    let s := s.compensate e0 u
    if light then s.regLight (max (2 * |s.v .regIref|) (2 * s.iMin u ub)) ub true
    else (s.regLoops step was u ub tu).regPhases (s.f Reg.LINK_STATUS_PHASES)

/-- The measured words of LINK.MEAS and the flags of LINK.STATUS after an update; CLIM covers a carrier period, two updates with TRIG 3
(Table 11-14). -/
def State.regMeas (s : State) (sp u ub : Int) : State :=
  let n := s.f Reg.LINK_STATUS_PHASES
  let mean := if n = 0 then 0 else divOpen ((List.range n).foldl (fun a j => a + s.v .regDuty j) 0) n
  let s := ((s.setF Reg.LINK_MEAS 0 (tenths u)).setF Reg.LINK_MEAS 1 (tenths ub)).setF Reg.LINK_MEAS 2 (tenths sp)
  let s := (s.setF Reg.LINK_MEAS 3 (tenths (s.v .regIref))).setF Reg.LINK_MEAS 4 mean
  let co : Bool := match s.linkSlot with
    | some k => s.f Reg.SLOT_SP_CFG_SP_SRC k == 2 && s.fb Reg.SLOT_MODE_MODE k
    | none => false
  let s := (s.setFb Reg.LINK_STATUS_CO 0 co).setFb Reg.LINK_STATUS_CLIM 0
    (s.on .regClim || (s.f Reg.LINK_CFG_TRIG == 3 && s.on .regClimWas))
  ((s.setOn .regClimWas 0 (s.on .regClim)).setOn .regClim 0 false).setFb Reg.LINK_STATUS_LOCKED 0 (s.fb Reg.PULSE_STATUS_LOCKED 2)

/-- A step in which P's stop sequence waits for TAKEOVER ends with it (R452). -/
def State.pTaken (s : State) : State :=
  if s.vn .pStop == 2 then (s.close .stopTakeover).pRamp else s

/-- Steps 1 to 7 of an update while the stage is RUNNING or HOLD. -/
def State.regSteps (s : State) : State :=
  let tu := if s.on .regPrev then (s.vn .regAt - s.vn .regPrev) / Clk.pulse else 0
  let u := hvVolts (s.linkAcc 6)
  let ub := hvVolts (s.linkAcc 7)
  let sp := s.linkSetpoint
  let s := ((s.setV .regLink 0 u).setV .regBatt 0 ub).setV .regSet 0 sp
  let s := s.linkFaults sp u
  if !(s.st .L).isRunning then s
  else
    let st := s.f Reg.LINK_STATUS_STATE
    let ended : Bool := st == 7 && match s.due .stopSeq 2 with
      | some e => e ≤ s.now
      | none => false
    if ended then (s.regStopped).regMeas sp u ub
    else
      let near := 50 * |sp - u| ≤ sp
      let s := s.setV .regSoft 0 (if st == 1 && near then min 4 (s.vn .regSoft + 1) else 0 : Nat)
      let s := if st == 5 || st == 0 then s else s.setOn .takeoverReq 0 false
      let n := s.f Reg.LINK_STATUS_PHASES
      let was := if st == 3 || st == 4 then 0 else n
      let (s, step) := s.regTransition sp u (sp - u)
      if !(s.st .L).isRunning then s
      else
        let s := s.regAct step was sp u ub tu
        let s := if step == .takeOver then s.pTaken else s
        (s.shedConds u ub).regMeas sp u ub

/-- One update of the regulator (R389); the snapshots due are its last step. -/
def State.regUpdate (s : State) : State :=
  let s := s.addF Reg.LINK_COUNTERS 0
  if !(s.st .L).isRunning then s
  else (((s.addV .regUpd 0 1).snapFrom.setOn .regIn 0 true).regSteps.setOn .regIn 0 false).snapsDue

/-- The regulator runs one update after its carrier event. -/
def execRegulatorUpdate (s : State) : Host.Outcome State Fault Refusal := done (s.expire .regTrig 0 State.regUpdate)

/-- A carrier event of L at an instant triggers the regulator at the first LOOP edge at or after v + 44 SAMPLE cycles (R388, R392). -/
def State.regEvent (s : State) (middle : Bool) (at' : Nat) : State :=
  if selects (s.f Reg.LINK_CFG_TRIG) middle then
    ((s.setV .regPrev 0 (s.v .regAt)).setV .regAt 0 at').setDue .regTrig 0
      (some (divUp ((visibleAt at' + 44) * Clk.sample) Clk.loop * Clk.loop))
  else s

/-! ### Windows -/

/-- The soft-start window ends: the last measured link voltage is judged against 10 % of the setpoint, and the next update takes the outcome
(R389, R397, R408). -/
def execSoftStartWindowEnd (s : State) : Host.Outcome State Fault Refusal :=
  done (s.expire .ssWindow 0 fun s =>
    let s := s.setFb Reg.LINK_STATUS_SS_WINDOW 0 false
    if s.f Reg.LINK_STATUS_STATE != 1 then s else s.setV .ssJudged 0 (if s.v .regSet ≤ 10 * s.v .regLink then 1 else 2))

/-- HICCUP_WAIT elapses: the next update returns to SOFT_START (R389, R397). -/
def execHiccupWaitEnd (s : State) : Host.Outcome State Fault Refusal :=
  done (s.expire .hiccup 0 fun s => if s.f Reg.LINK_STATUS_STATE != 6 then s else s.setOn .hiccupOver 0 true)

/-- A shed (0), light (1) or burst (2) condition has held for SHED_TIME: an update takes its transition in the order of R397 (R399, R404,
R406). -/
def execShedTimer (cond : Fin 3) (s : State) : Host.Outcome State Fault Refusal :=
  done (s.expire .shed cond fun s => s.setOn .shedMet cond true)

/-- The SHED_BLOCK window closes. -/
def execShedBlockEnd (s : State) : Host.Outcome State Fault Refusal :=
  done (s.expire .shedBlock 0 fun s => s.setFb Reg.LINK_STATUS_BLOCK 0 false)

/-- u_link has stayed below setpoint − UV_BAND for UV_TIME. -/
def execLinkUv (s : State) : Host.Outcome State Fault Refusal :=
  done (s.expire .uvTime 0 fun s =>
    (s.setFb Reg.LINK_STATUS_UV 0 true).linkFault Ev.LINK_UV 0 (s.f Reg.LINK_LIMITS_UV_REACTION)
      (wrap 32 (tenths (s.v .regLink))) true)

/-- The current of a phase has deviated from the mean for IMB_TIME. -/
def execPhaseImbalance (phase : Fin 6) (s : State) : Host.Outcome State Fault Refusal :=
  done (s.expire .imbTime phase fun s =>
    (s.setFb Reg.LINK_STATUS_IMB 0 true).linkFault Ev.PHASE_IMBALANCE phase (s.f Reg.LINK_IMBALANCE_IMB_REACTION) (12 + phase) true)

/-! ### SYNC_IN (R316 to R319, R412, R413) -/

/-- A carrier period of L lies within 5 to 50 us (R412). -/
def State.syncFits (s : State) (t : Stage) (per : Nat) : Bool :=
  t != .L || (96000 ≤ per * 2 ^ s.f Reg.PULSE_SYNC_RATIO 2 && per * 2 ^ s.f Reg.PULSE_SYNC_RATIO 2 ≤ 960000)

/-- A period lies within 1 % of another. -/
def within1 (p q : Nat) : Bool := 100 * (max p q - min p q) ≤ q

/-- A locked stage loses lock: SYNC_REACTION, and for L the SYNC_FREE window and the SYNC snapshot. -/
def State.syncLose (s : State) (t : Stage) : State :=
  let s := ((s.setFb Reg.PULSE_STATUS_LOCKED t.idx false).setFb Reg.PULSE_STATUS_SYNC_LOST t.idx true).close .syncTimeout t.idx
  let s := (s.addF Reg.PULSE_COUNTERS t.idx 1 1).raise
    { code := Ev.SYNC_LOST, inst := t.idx, src := t.idx, d0 := t.idx, reaction := s.f Reg.PULSE_SYNC_SYNC_REACTION t.idx,
      stages := [t], lasting := true }
  if t == .L then
    ((s.setFb Reg.LINK_STATUS_LOCKED 0 false).openSlow .syncFree 0 (ms (s.f Reg.LINK_CFG_SYNC_FREE))).snapFrom.linkSnap 3 Ev.SYNC_LOST
  else s

/-- A stage locks. -/
def State.syncLock (s : State) (t : Stage) (per : Nat) : State :=
  let s := (s.setFb Reg.PULSE_STATUS_LOCKED t.idx true).setFb Reg.PULSE_STATUS_SYNC_LOST t.idx false
  let s := ((s.setV .lockedPer t.idx per).clearCause Ev.SYNC_LOST t.idx).noteAt Ev.SYNC_LOCKED t t.idx
  if t == .L then
    let s := (((s.close .syncFree).setOn .syncFreeing 0 false).setOn .freeRun 0 false).setFb Reg.LINK_STATUS_FREE 0 false
    (s.setFb Reg.LINK_STATUS_LOCKED 0 true).snapFrom.linkSnap 3 Ev.SYNC_LOCKED
  else s

/-- A rising edge of SYNC_IN, time-stamped in sub-steps since manufacture; COMP is subtracted. -/
def execSyncInEdge (stamp : Nat) (s : State) : Host.Outcome State Fault Refusal :=
  let s := { s with now := max s.now (vcoOf stamp) }
  let x := stamp - s.f Reg.PULSE_SYNC_IN_COMP
  let old := s.vn .syncEdge
  let s := s.recordTouched.setV .syncEdge 0 x
  if old = 0 || x ≤ old then done s
  else
    let p := x - old
    let prev := s.vn .syncPrev
    let ok := 48000 ≤ p && p ≤ 960000 && prev != 0 && within1 p prev
    let s := (s.setV .syncRun 0 (if ok then min 4 (s.vn .syncRun + 1) else 0 : Nat)).setV .syncPrev 0 p
    let s := s.setF Reg.PULSE_SYNC_IN_PERIOD 0 p
    done (s.each (Stage.all.filter fun t => s.f Reg.PULSE_SYNC_SRC t.idx == 1) fun s t =>
      let s :=
        if s.fb Reg.PULSE_STATUS_LOCKED t.idx then
          if within1 p (s.vn .lockedPer t.idx) && s.syncFits t p then s.setV .lockedPer t.idx p else s.syncLose t
        else if s.vn .syncRun = 4 && s.syncFits t p then s.syncLock t p
        else s
      if s.fb Reg.PULSE_STATUS_LOCKED t.idx then
        s.setDue .syncTimeout t.idx (some (vcoOf (stamp + s.vn .lockedPer t.idx * 5 / 4)))
      else s)

/-- No SYNC_IN edge has come within 1.25 x the locked period. -/
def execSyncInTimeout (t : Stage) (s : State) : Host.Outcome State Fault Refusal :=
  done (s.expire .syncTimeout t.idx fun s => if s.fb Reg.PULSE_STATUS_LOCKED t.idx then s.syncLose t else s)

/-- After SYNC_FREE without lock the period of L has moved back to PULSE.L.PERIOD. -/
def execSyncFree (t : Nat) (s : State) : Host.Outcome State Fault Refusal :=
  let s := ({ s with now := max s.now t } : State).syncFreed
  done (if s.on .syncFreeing && !s.fb Reg.LINK_STATUS_FREE && s.f Reg.PULSE_PERIOD_NOW 2 == s.f Reg.PULSE_PERIOD 2 * 64 then
      (s.setFb Reg.LINK_STATUS_FREE 0 true).linkNote Ev.SYNC_FREE
    else s)

end Sys2Proof.Machine
end

