-- ==== Sys2Proof/Machine/Charger.lean ====
section
/-!
DEFINITION. Charger and power path (chapter 12): source supervision and qualification, the power path, the PFC_CURRENT and
DAB_POWER laws, the charge supervisor and its safety timer, and the charger's faults and ATTN conditions. Voltages are in
2^-16 V, currents in 2^-16 A, powers in 2^-16 W.
-/

namespace Sys2Proof.Machine

/-! ### Settings (R420 to R423) -/

/-- The square root of two in 2^-30, to the nearest step. -/
def sqrt2 : Int := 1518500250

/-- The charger is in use: some leg of P or D is enabled (R422). -/
def State.chgInUse (s : State) : Bool := (List.range' 18 8).any fun n => s.fb Reg.LEG_CFG_ENABLE n

/-- U_NOM in V and the used inputs of the INPUT mode (Table 12-1). -/
def State.uNom (s : State) : Nat := if s.f Reg.CHG_CFG_INPUT == 0 then 400 else 230
def State.usedInputs (s : State) : List Nat := if s.f Reg.CHG_CFG_INPUT == 2 then [0] else [0, 1, 2]

/-- A percentage of U_NOM. -/
def State.nomPct (s : State) (pct : Nat) : Int := divOpen ((s.uNom * pct * 65536 : Nat) : Int) 100

/-- P_SRC_MAX. -/
def State.pSrc (s : State) : Int := (s.f Reg.CHG_SOURCE_P_SRC_MAX : Int) * 100 * 65536

/-- The slot of a type on P or D. -/
def State.slotOfType (s : State) (ty : Nat) : Option Nat := (List.range 48).find? fun n => s.f Reg.SLOT_TYPE_TYPE n == ty

/-- U_PK: the peak of the source from the last completed half-cycles (Table 12-4). -/
def State.uPk (s : State) : Int :=
  let m := s.usedInputs.foldl (fun a k => max a (s.v .chgRms k)) 0
  let pk := divOpen (m * sqrt2) one30
  if s.f Reg.CHG_CFG_INPUT == 1 then divOpen (pk * sqrt3) one30 else pk

/-! ### ATTN of the charger (R456) and the flags of CHG.STATUS -/

/-- The faults whose latch R448 and R456 name. -/
def chgFaults : List Nat := [Ev.PFC_OV, Ev.BATT_OV, Ev.BATT_OC, Ev.DAB_FLUX]

/-- A source of P or D is in COLD_CHARGE. -/
def State.coldCharge (s : State) : Bool :=
  (List.range 52).any fun n => s.fb Reg.TH_S_STATUS_COLD_CHARGE n
    && ((s.f Reg.TH_S_CFG_STAGES n).testBit 3 || (s.f Reg.TH_S_CFG_STAGES n).testBit 4)

/-- The BMS data is fresh: the window of BMS_TIMEOUT in SLOW cycles from the last applied write has not ended (R32, R446). -/
def State.bmsFresh (s : State) : Bool :=
  s.on .bmsAt && s.now < s.vn .bmsAt / Clk.slow * Clk.slow + ms (s.f Reg.CHG_BMS_TIMEOUT)

/-- The conditions of Table 12-7, bit by bit. -/
def State.chgAttn (s : State) : List Bool :=
  let pp := s.f Reg.CHG_STATUS_PP_STATE
  let st := s.f Reg.CHG_STATUS_CHG_STATE
  let e := if s.on .chgEnded then s.f Reg.CHG_STATUS_LAST_END else 0
  [pp == 2, s.on .chgLost && pp < 2, s.fb Reg.CHG_STATUS_VREG, st == 1 || st == 2, e == 4 || e == 6 || e == 8,
    e == 1 || e == 2 || e == 3 || e == 5 || e == 7, chgFaults.any s.faultBit, s.fb Reg.CHG_STATUS_THERMAL]

/-- The flags of CHG.STATUS that follow other state. -/
def State.chgSync (s : State) : State :=
  let s := s.setFb Reg.CHG_STATUS_THERMAL 0 (s.f Reg.TH_STAGE_LIMIT 3 < 1000 || s.f Reg.TH_STAGE_LIMIT 4 < 1000)
  let s := (s.setFb Reg.CHG_STATUS_BMS_FRESH 0 s.bmsFresh).setFb Reg.CHG_STATUS_COLD 0 s.coldCharge
  let s := s.setFb Reg.CHG_STATUS_FAULT_LATCH 0 (chgFaults.any s.faultBit)
  let mask := s.f Reg.CHG_ATTN_MASK
  s.setFb Reg.CHG_STATUS_ATTN 0 (s.chgAttn.zipIdx.any fun x => x.1 && mask.testBit x.2)

/-! ### Power path (R427 to R438) -/

/-- The power path enters a state; the first stay in AVAILABLE with P RUNNING ends the feeding that RESUME 0 allows (R432). -/
def State.ppTo (s : State) (st : Nat) : State :=
  let s := s.when (s.f Reg.CHG_STATUS_PP_STATE == 2 && s.st .P == .running) fun s => s.setOn .chgFed 0 true
  let s := (s.setF Reg.CHG_STATUS_PP_STATE 0 st).setFb Reg.CHG_STATUS_FEEDING 0 (st == 3 || st == 4)
  let s := if st == 3 || st == 4 then s.setOn .chgLost 0 false else s
  let s := if st == 4 then s else s.noteEnds Ev.SAG_UNSUPPORTED
  if st == 3 then s else (s.close .hbTime).noteEnds Ev.TAKEOVER_SAG

/-- A take-over request to L (R410), counted. -/
def State.takeOver (s : State) : State := (s.setOn .takeoverReq 0 true).addF Reg.CHG_COUNTERS 2

/-- L is in STANDBY and no take-over request to it is outstanding (R434). -/
def State.mayTakeOver (s : State) : Bool := s.f Reg.LINK_STATUS_STATE == 5 && !s.on .takeoverReq

/-- Feeding starts: P_vreg and P_ramp are reset (Table 12-4). -/
def State.startFeeding (s : State) : State :=
  let l := s.f Reg.LINK_STATUS_STATE
  let s := s.ppTo (if 1 ≤ l && l ≤ 4 then 3 else 4)
  let s := (((s.setV .chgPvreg 0 s.pSrc).setV .chgFeedAt 0 (s.now : Nat)).setOn .chgFed 0 true).setV .chgExtraAt 0 0
  ((s.setFb Reg.CHG_STATUS_VREG 0 false).setV .chgSag 0 0).noteEnds Ev.VIN_REGULATING

/-- The qualification window is complete (R426, Table 12-4). -/
def State.qualNow (s : State) : State :=
  let s := ((s.close .qual).setFb Reg.CHG_STATUS_QUALIFIED 0 true).addF Reg.CHG_COUNTERS 0
  if s.f Reg.CHG_STATUS_PP_STATE == 1 then ((s.ppTo 2).clearCause Ev.SOURCE_LOST).noteAt Ev.SOURCE_QUALIFIED .P else s

/-- What breaks the qualification in the SLOW cycle in which its window ends comes too late (R33, R426). -/
def State.qualLate (s : State) : State := if s.ended Clk.slow .qual then s.qualNow else s

/-- QUALIFIED clears and the window restarts at the next half-cycle start of input .00 (R426, R437). -/
def State.requalify (s : State) : State :=
  let s := s.qualLate
  ((s.setFb Reg.CHG_STATUS_QUALIFIED 0 false).close .qual).setOn .chgRestart 0 true

/-- The first row of Table 12-4 that holds, in the order of R433 after the loss of the source; the window of the hand-back condition
follows. The conditions on u_link are evaluated at the end of a run of the PFC_CURRENT slot only (R431): `run`. -/
def State.ppStep (s : State) (run : Bool := false) : State :=
  let st := s.f Reg.CHG_STATUS_PP_STATE
  let feeding := st == 3 || st == 4
  let s :=
    if feeding && s.st .P != .running then
      let s := s.ppTo (if s.fb Reg.CHG_STATUS_QUALIFIED then 2 else 1)
      if s.mayTakeOver then s.takeOver.chgSnap 0 st 0 else s
    else if st == 3 && !(s.st .L).isRunning then (s.ppTo 4).setV .chgExtraAt 0 0
    else if run && st == 4 && s.vn .chgSag == 2 then
      if (s.st .L).isRunning then
        let s := ((s.ppTo 3).requalify).noteLastingAt Ev.TAKEOVER_SAG .P
        (s.setV .chgSag 0 0).takeOver.chgSnap 0 st Ev.TAKEOVER_SAG
      else (s.setV .chgSag 0 3).noteLastingAt Ev.SAG_UNSUPPORTED .P
    else if run && st == 2 && s.st .P == .running && !(s.stg .P).stopping && (s.fb Reg.CHG_CFG_RESUME || !s.on .chgFed) then
      if s.uPk ≤ s.v .chgLink then s.startFeeding
      else
        let s := s.raise { code := Ev.PRECHARGE_LOW, src := 3, reaction := 3, stages := [.P], transient := true,
                           d0 := wrap 32 (tenths (s.v .chgLink)), d1 := wrap 32 (tenths s.uPk) }
        s.chgSnap 2 st Ev.PRECHARGE_LOW
    else s
  let hb := s.f Reg.CHG_STATUS_PP_STATE == 3 && s.fb Reg.CHG_STATUS_QUALIFIED
    && s.fi Reg.LINK_MEAS 3 ≤ 10 * s.f Reg.CHG_PATH_HB_I
  (s.timed .hbTime 0 hb (ms (10 * s.f Reg.CHG_PATH_HB_TIME))).chgSync

/-- The source is lost (R425, R438): input and rule (0 RMS, 1 no crossing, 2 lengths). -/
def State.ppLoss (s : State) (input rule : Nat) : State :=
  let st := s.f Reg.CHG_STATUS_PP_STATE
  if st == 0 then s
  else
    let s := s.qualLate
    let s := ((s.ppTo 0).setFb Reg.CHG_STATUS_QUALIFIED 0 false).close .qual
    let s := (s.setOn .chgRestart 0 false).each [0, 1, 2] fun s k => s.setOn .chgGood k false
    let s := (s.setOn .chgLost 0 true).addF Reg.CHG_COUNTERS 1
    let s := s.raise { code := Ev.SOURCE_LOST, src := 3, d0 := input, d1 := rule, reaction := s.f Reg.CHG_CFG_LOSS_REACTION,
                       stages := Stage.ofMask (s.f Reg.CHG_CFG_LOSS_STAGES), lasting := true }
    let s := s.chgSnap 0 st Ev.SOURCE_LOST
    let s := if s.f Reg.CHG_CFG_LOSS_REACTION == 0 then s else s.chgSnap 2 st Ev.SOURCE_LOST
    (if s.mayTakeOver then s.takeOver else s).chgSync

/-- One sample of a used input: the sign outside ±5 % of the nominal peak, and the half-cycle that its change ends (R424). -/
def State.ppSample (s : State) (k : Nat) : State :=
  let x := s.accAvg (64 + s.f Reg.CHG_INPUTS k)
  let v := x * s.f Reg.CHG_VIN_SCALE
  let small := v * v * 200 < (s.uNom * s.uNom : Nat) * 327680 * 327680
  let old := s.v .chgSign k
  let sign := if small then old else if 0 < x then 1 else -1
  let s := s.setV .chgSign k sign
  let s :=
    if old != 0 && sign != old then
      let s := ((s.setOn .chgHalf k (s.on .chgFrom k)).setV .chgHalfSum k (s.v .chgSum k)).setV .chgHalfNum k (s.v .chgNum k)
      let s := s.setV .chgHalfLen k ((s.now - s.vn .chgFrom k) / us 1 : Nat)
      let s := ((s.setV .chgSum k 0).setV .chgNum k 0).setV .chgFrom k (s.now : Nat)
      (s.setOn .chgDead k false).openSlow .noCross k (ms 12)
    else s
  (s.addV .chgSum k (x * x)).addV .chgNum k 1

/-- The power path monitor reads its inputs and evaluates the transitions every 100 us. -/
def execPowerPathEval (s : State) : Host.Outcome State Fault Refusal :=
  done (s.expire .ppEval 0 fun s => ((s.openSlow .ppEval 0 (us 100)).each s.usedInputs State.ppSample).ppStep)

/-- P_vreg follows the lowest RMS of the latest completed half-cycles of the used inputs (R427). -/
def State.vregUpdate (s : State) : State :=
  let vmin := ((s.usedInputs.filter (s.on .chgLen ·)).map fun k => s.v .chgRms k).min?.getD 0
  let reg := s.nomPct (s.f Reg.CHG_VREG_VIN_REG)
  let p := s.v .chgPvreg
  let p' :=
    if vmin < reg then
      p - divOpen (s.f Reg.CHG_VREG_VREG_DOWN * s.pSrc * (reg - vmin)) (1000 * s.nomPct 1)
    else if reg + s.nomPct (s.f Reg.CHG_VREG_VREG_HYST) ≤ vmin then p + divOpen (s.f Reg.CHG_VREG_VREG_UP * s.pSrc) 1000
    else p
  let p' := clampI 0 s.pSrc p'
  let was := s.fb Reg.CHG_STATUS_VREG
  let s := (s.setV .chgPvreg 0 p').setFb Reg.CHG_STATUS_VREG 0 (p' < s.pSrc)
  if p' < s.pSrc then (if was then s else s.noteLastingAt Ev.VIN_REGULATING .P) else s.noteEnds Ev.VIN_REGULATING

/-- A half-cycle within limits (R425). -/
def State.halfGood (s : State) (k : Nat) : Bool :=
  s.nomPct (s.f Reg.CHG_QUAL_VIN_MIN) ≤ s.v .chgRms k && s.v .chgRms k ≤ s.nomPct (s.f Reg.CHG_QUAL_VIN_MAX)
  && 7690 ≤ s.vn .chgLen k && s.vn .chgLen k ≤ 11110

/-- The completed half-cycle of an input is judged (R424 to R427). -/
def State.halfEnd (s : State) (k : Nat) : State :=
  if !s.on .chgHalf k || !s.usedInputs.contains k then s
  else
    let n := max 1 (s.vn .chgHalfNum k)
    let sc := s.f Reg.CHG_VIN_SCALE
    let rms : Int := sqrtOpen (divOpen (s.v .chgHalfSum k * sc * sc) (25 * n)).toNat
    let len := s.vn .chgHalfLen k
    let s := ((s.setOn .chgHalf k false).setV .chgRms k rms).setV .chgLen k len
    let s := s.setF Reg.CHG_MEAS k (tenths rms)
    let s := if k = 0 && len != 0 then s.setF Reg.CHG_MEAS 3 (divOpen 50000000 len) else s
    let odd := len < 7690 || 11110 < len
    let s := s.setV .chgOdd k (if odd then min 2 (s.vn .chgOdd k + 1) else 0 : Nat)
    let s := s.vregUpdate
    let st := s.f Reg.CHG_STATUS_PP_STATE
    let good := s.halfGood k
    let s :=
      if st != 0 && rms < s.nomPct (s.f Reg.CHG_QUAL_VIN_LOSS) then s.ppLoss k 0
      else if st != 0 && s.vn .chgOdd k = 2 then s.ppLoss k 2
      else if !good then
        let s := s.each [0, 1, 2] fun s j => s.setOn .chgGood j false
        let s := s.qualLate
        let s := if s.f Reg.CHG_STATUS_PP_STATE == 2 then s.ppTo 1 else s
        if st == 0 then s else s.requalify
      else
        let s := s.setOn .chgGood k true
        if st == 0 && s.usedInputs.all (s.on .chgGood ·) then
          let s := (s.ppTo 1).setOn .chgRestart 0 true
          match s.usedInputs.find? (s.on .chgDead ·) with
          | some j => s.ppLoss j 1
          | none => s
        else s
    let s := if k = 0 && s.on .chgRestart && s.f Reg.CHG_STATUS_PP_STATE != 0 then
        (s.setOn .chgRestart 0 false).openSlow .qual 0 (sec (s.f Reg.CHG_QUAL_QUAL_TIME))
      else s
    s.ppStep

/-- A zero crossing ends a half-cycle of a source input. -/
def execHalfCycleEnd (input : Fin 3) (s : State) : Host.Outcome State Fault Refusal := done (s.halfEnd input)

/-- A used input has had no zero crossing for 12 ms: the source is lost, and one that returns to QUALIFYING without a crossing of this input
is lost again (R425). -/
def execNoZeroCrossing (input : Fin 3) (s : State) : Host.Outcome State Fault Refusal :=
  done (s.expire .noCross input fun s =>
    if s.usedInputs.contains input.val then ((s.setOn .chgDead input true).ppLoss input 1).ppStep else s)

/-- The qualification window completes (R426). -/
def execSourceQualified (s : State) : Host.Outcome State Fault Refusal :=
  done (s.expire .qual 0 fun s =>
    s.qualNow.ppStep)

/-- i_ref of L has stayed at or below HB_I for HB_TIME: hand-back, and the link passes to P; a QUALIFIED that clears in the cycle of the
window's end clears too late (R33). -/
def execHandbackDone (s : State) : Host.Outcome State Fault Refusal :=
  done (s.expire .hbTime 0 fun s =>
    if s.f Reg.CHG_STATUS_PP_STATE == 3 && s.st .P == .running && (s.st .L).isRunning then
      let s := ((s.ppTo 4).setOn .handbackReq 0 true).addF Reg.CHG_COUNTERS 3
      let s := (s.setV .chgExtraAt 0 (s.now : Nat)).noteAt Ev.HANDBACK_DONE .P
      (s.chgSnap 0 3 Ev.HANDBACK_DONE).ppStep
    else s.ppStep)

/-- P's stop sequence has waited 10 ms for TAKEOVER and goes on (R452). -/
def execStopTakeoverTimeout (s : State) : Host.Outcome State Fault Refusal :=
  done (s.expire .stopTakeover 0 fun s => if s.vn .pStop == 2 then s.pRamp else s)

/-! ### PFC_CURRENT (R428, R435, R439 to R442) -/

/-- Watts of a Q2.30 power: 1 pu is P_BASE of LINK.SCALE (log entry 14). -/
def State.watts (s : State) (x : Int) : Int := divOpen (x * s.f Reg.LINK_SCALE_P_BASE * 100) 16384

/-- Power that rises at PWR_RAMP for a time. -/
def State.rampPower (s : State) (t : Nat) : Int := divOpen (s.f Reg.CHG_RAMP_PWR_RAMP * 6553600 * (t : Int)) 3000000000

/-- P_lim (R428), ramped down in P's stop sequence (R452). -/
def State.pLim (s : State) (n : Nat) : Int :=
  let sum := s.usedInputs.foldl (fun a k => a + s.v .chgRms k) 0
  let cur := s.f Reg.CHG_SOURCE_IIN_MAX * sum
  let cur := if s.f Reg.CHG_CFG_INPUT == 0 then divOpen (cur * invSqrt3) one30 else cur
  let ramp := min s.pSrc (s.rampPower (s.now - s.vn .chgFeedAt))
  let a := min (min s.pSrc cur) (min (min (s.v .chgPvreg) ramp) (s.watts (s.slotLimit n)))
  if s.vn .pStop == 3 then max 0 (min a (s.v .chgStopP - s.rampPower (s.now - s.vn .chgStopAt))) else max 0 a

/-- What is added to the target: TRANSFER_V in SHARED, falling at 1 V per ms after the hand-back (R435). -/
def State.pfcExtra (s : State) : Int :=
  let v : Int := s.f Reg.CHG_PATH_TRANSFER_V * 65536
  match s.f Reg.CHG_STATUS_PP_STATE with
  | 3 => v
  | 4 => if s.on .chgExtraAt then max 0 (v - divOpen (65536 * ((s.now - s.vn .chgExtraAt : Nat) : Int)) (ms 1)) else 0
  | _ => 0

/-- The target of the PFC_CURRENT slot (R435). -/
def State.pfcTarget (s : State) (n : Nat) (sp : Int) : Int :=
  max (s.volts n sp) (divOpen (s.uPk * (100 + s.f Reg.CHG_SOURCE_PFC_MARGIN)) 100) + s.pfcExtra

/-- The duty of a fraction v / u added to an offset in Q1.15. -/
def dutyOf (off v u : Int) : Nat := (clampI 0 32767 (off + divRound (v * 32768) u)).toNat

/-- A leg set: duty, FORCE. -/
def legDuty (n d force : Nat) : LegSet := { leg := n, dutyA := d, dutyB := d, phase := 0, force := force }

/-- The legs of P from the voltage references of the phases (R440); in 3W mode a link below 1/64 of its full scale leaves 0.5 (R257, R259). -/
def State.pfcLegs (s : State) (vc : List Int) (u : Int) (low pos : Bool) : List LegSet :=
  let a := vc.getD 0 0
  let b := vc.getD 1 0
  let c := vc.getD 2 0
  match s.f Reg.CHG_CFG_INPUT with
  | 0 => ((duties [a, b, c] u low).zipIdx.map fun x => legDuty (18 + x.2) x.1 0) ++ [legDuty 21 0 3]
  | 1 =>
    let vn := -divOpen (max (max a b) (max c 0) + min (min a b) (min c 0)) 2
    ([a, b, c].zipIdx.map fun x => legDuty (18 + x.2) (dutyOf 16384 (x.1 + vn) u) 0) ++ [legDuty 21 (dutyOf 16384 vn u) 0]
  | _ => [legDuty 18 (dutyOf (if pos then 0 else 32768) a u) 0, legDuty 19 0 3, legDuty 20 0 3, legDuty 21 0 (if pos then 2 else 1)]

/-- The phase voltages of a run (R439). -/
def State.pfcV (s : State) (n : Nat) : List Int :=
  let a := s.inU n 0
  let b := s.inU n 1
  let c := s.inU n 2
  match s.f Reg.CHG_CFG_INPUT with
  | 0 => [divOpen (a - c) 3, divOpen (b - a) 3, divOpen (c - b) 3]
  | 1 => [a, b, c]
  | _ => [a]

/-- The FORCE OFF sets of a stage's legs. -/
def offLegs (t : Stage) : List LegSet := t.legs.map fun n => legDuty n 0 3

/-- The phase voltages that the duties in MAN_OUT stand for, from which the first AUTO run starts (R265, R440). -/
def State.pfcManual (s : State) (n : Nat) (u : Int) (pos : Bool) : List Int :=
  let m (k : Nat) : Int := s.fi Reg.SLOT_MODE_MAN_OUT n k
  match s.f Reg.CHG_CFG_INPUT with
  | 0 =>
    let mean := divOpen (m 0 + m 1 + m 2) 3
    [mul30 (m 0 - mean) u, mul30 (m 1 - mean) u, mul30 (m 2 - mean) u]
  | 1 => [mul30 (m 0 - m 3) u, mul30 (m 1 - m 3) u, mul30 (m 2 - m 3) u]
  | _ => [mul30 (m 0 - (if pos then 0 else one30)) u]

/-- The conductance that the phases show now, from which the voltage loop's first AUTO run starts (log entry 85). -/
def measuredG (vs is : List Int) : Int :=
  let sq := vs.foldl (fun a x => a + x * x) 0
  if sq = 0 then 0 else divOpen ((vs.zip is).foldl (fun a x => a + x.1 * x.2) 0 * one30) sq

/-- A run of PFC_CURRENT; its loops run in AUTO whether or not P feeds (R262), the current loops within the limit of R258. In 3W mode the sum of
the squares of the phase RMS values is a third of that of the line-to-line ones. `meas`: u_link, target, input power, P_lim, whether the
stop sequence commits FORCE OFF, the sign of v_a. -/
def State.runPfc (s : State) (n : Nat) : Run :=
  let r := s.runBase n
  let u := s.inU n 6
  let ulink := s.volts n u
  let target := s.pfcTarget n (r.sp.getD 0 0)
  let plim := s.pLim n
  let vs := s.pfcV n
  let is := (List.range vs.length).map fun k => s.inI n (3 + k)
  let base := s.f Reg.LINK_SCALE_P_BASE * 100
  let sq := s.usedInputs.foldl (fun a k => a + s.perUnit n (s.v .chgRms k) * s.perUnit n (s.v .chgRms k)) 0
  let lines : Int := if s.f Reg.CHG_CFG_INPUT == 0 then 3 else 1
  let gmax := satQ30 (divOpen (plim * lines * one30 * one30 * one30) (65536 * (base : Int) * sq))
  let ev := s.pi n 0 0 (s.perUnit n target) u 0 0 gmax r.tu (s.isArmed n)
    (s.presetAt n (measuredG vs is))
  let pos := 0 ≤ s.v .chgSign 0
  let man := s.pfcManual n u pos
  let s' := if s.f Reg.CHG_CFG_INPUT == 2 && s.v .chgVa != s.v .chgSign 0 then s.setV .slotInt (n * 8 + 1) 0 else s
  let vm := s.vMax n u
  let ps := vs.zipIdx.map fun x => s'.pi n (1 + x.2) 1 (mul30 ev.u x.1) (is.getD x.2 0) 0 (-vm) vm r.tu (s.isArmed n) (s.presetAt n (x.1 - man.getD x.2 0))
  let vc := vs.zipIdx.map fun x => satQ30 (x.1 - (ps.getD x.2 ev).u)
  let pin := s.watts ((vs.zip is).foldl (fun a x => a + mul30 x.1 x.2) 0)
  let feeding := s.fb Reg.CHG_STATUS_FEEDING
  let stopOff := s.vn .pStop == 3 && plim = 0
  let legs :=
    if !feeding || stopOff then offLegs .P
    else if r.auto then s.pfcLegs vc u (s.inLow n 6) pos
    else (List.range 4).map fun k => legDuty (18 + k) (clampI 0 32767 (divOpen (s.heldOut n k) 32768)).toNat 0
  let run := r.auto
  let outs := legs.map fun l => (l.dutyA : Int) * 32768
  { r with
    outs := outs, words := outs,
    ints := if run then ev.i :: ps.map (·.i) else r.ints, sats := if run then ev.sat :: ps.map (·.sat) else [0, 0, 0, 0],
    sp := [r.sp.getD 0 0], err := if run then (ps.map fun p => |p.e|).foldl max |ev.e| else 0,
    outSat := run && (ev.sat != 0 || ps.any fun p => p.sat != 0), held := run && (ev.held || ps.any fun p => p.held),
    legs := legs, meas := [ulink, target, pin, plim, if stopOff then 1 else 0, s.v .chgSign 0] }

/-- A condition of R458 and R483 that is absent: its 1 ms window runs while the cause is present. -/
def State.absence (s : State) (k code inst : Nat) (cond : Bool) : State :=
  if cond || !s.present code inst then s.lapse Clk.slow .absent k
  else if s.isOpen .absent k then s else s.openSlow .absent k (ms 1)

/-- A charger fault: raised with its reaction, latched until its stage enters STOPPED; the FAULT snapshot unless it is REPORT. -/
def State.chgFault (s : State) (code reaction : Nat) (t : Stage) (d0 : Nat) : State :=
  let s := s.raise { code := code, src := t.idx, d0 := d0, reaction := reaction, stages := [t], lasting := true, latched := true }
  (if reaction == 0 then s else s.chgSnap 2 (s.f Reg.CHG_STATUS_PP_STATE) code).chgSync

/-- What the end of a PFC_CURRENT run evaluates: the sag count, PFC_OV, the power path, the end of P's stop sequence. -/
def State.pfcEnd (s : State) (r : Run) : State :=
  let u := r.meas.getD 0 0
  let target := r.meas.getD 1 0
  let s := (((s.setV .chgLink 0 u).setV .chgTarget 0 target).setV .chgPin 0 (r.meas.getD 2 0)).setV .chgVa 0 (r.meas.getD 5 0)
  let s := s.setV .chgPlim 0 (r.meas.getD 3 0)
  let s := (s.setF Reg.CHG_MEAS 4 (divOpen (r.meas.getD 3 0) 6553600)).setF Reg.CHG_MEAS 5 (divOpen (r.meas.getD 2 0) 6553600)
  let sag := s.f Reg.CHG_STATUS_PP_STATE == 4 && u < target - s.f Reg.CHG_PATH_SAG_V * 65536
  let s := s.setV .chgSag 0 (if !sag then 0 else if s.vn .chgSag < 2 then s.vn .chgSag + 1 else 3 : Nat)
  let s := if sag then s else s.noteEnds Ev.SAG_UNSUPPORTED
  let high := ((700 + 5 * s.f Reg.LINK_LIMITS_OV_LIMIT : Nat) : Int) * 65536 ≤ u
  let s := (s.setV .chgOv 0 (if high then min 3 (s.vn .chgOv + 1) else 0 : Nat)).absence 0 Ev.PFC_OV 0 high
  let s := if s.vn .chgOv = 2 && !s.present Ev.PFC_OV then
      s.chgFault Ev.PFC_OV (s.f Reg.CHG_FAULT_PFC_OV_REACTION) .P (wrap 32 (tenths u))
    else s
  let s := if s.vn .pStop == 3 && r.meas.getD 4 0 = 1 && !s.on .stopForceAt 3 then
      s.setV .stopForceAt 3 (commonEdge s.now : Nat)
    else s
  s.ppStep true

/-! ### DAB_POWER (R443 to R445) -/

/-- Amperes of a Q2.30 current: 1 pu is P_BASE / U_BASE (log entry 14). -/
def State.amps (s : State) (n : Nat) (x : Int) : Int := divOpen (x * s.f Reg.LINK_SCALE_P_BASE * 100) (s.f Reg.SLOT_SCALE_U_BASE n * 16384)

/-- Q2.30 of a current. -/
def State.ampsPu (s : State) (n : Nat) (i : Int) : Int :=
  satQ30 (divOpen (i * s.f Reg.SLOT_SCALE_U_BASE n * 16384) (s.f Reg.LINK_SCALE_P_BASE * 100))

/-- The legs of D for a shift d in 2^-30 and the duties of LEG22 to LEG25 in Q1.15 (R443). -/
def dabLegs (d : Int) (duties : List Int) : List LegSet :=
  let ph := (clampI 0 65535 (divRound (d * 32768) one30)).toNat
  let set (n p : Nat) (x : Int) : LegSet := { leg := n, dutyA := x.toNat, dutyB := x.toNat, phase := p, force := 0 }
  [set 22 0 (duties.getD 0 16384), set 23 32768 (duties.getD 1 16384), set 24 ph (duties.getD 2 16384),
   set 25 ((ph + 32768) % 65536) (duties.getD 3 16384)]

/-- V_CV (R444). -/
def State.vCv (s : State) : Int := divOpen ((min (s.f Reg.CHG_V_SET) (s.f Reg.CHG_BMS_LIMITS_V_MAX) : Int) * 65536) 10

/-- k_link in 2^-30 for the link voltage and P's target. -/
def State.kLink (s : State) (ulink : Int) : Int :=
  let sag : Int := s.f Reg.CHG_PATH_SAG_V * 65536
  clampI 0 one30 (divOpen (2 * (ulink - s.v .chgTarget + sag) * one30) sag)

/-- The end of a charge or of D's stop sequence: 10 ms after its beginning (R451, R452). -/
def State.dabDeadline (s : State) : Nat := match s.due .stopSeq 4 with
  | some e => e
  | none => s.vn .chgEndAt + ms 10

/-- A run of DAB_POWER; its loops run in AUTO whether or not a charge runs (R262), and MAN_OUT gives the shift and the duties of LEG22
to LEG24 (R263, log entry 85). `meas`: u_batt, i_batt, I_CC, V_CV, d, and flags: the CV loop supplied r, flux beyond its limit, k_link below
1, FORCE OFF at the end of a charge. -/
def State.runDab (s : State) (n : Nat) : Run :=
  let r := s.runBase n
  let ip := s.amps n (s.inI n 0)
  let ib := s.amps n (s.inI n 1)
  let ub := s.volts n (s.inU n 5)
  let ul := s.volts n (s.inU n 6)
  let k := s.kLink ul
  let vcv := s.vCv
  let plim := s.watts (max 0 r.lim)
  let icc0 := min (min (amps10 (s.f Reg.CHG_I_SET)) (amps10 (s.f Reg.CHG_BMS_LIMITS_I_MAX)))
    (divOpen (plim * 65536) ub)
  let icc := max 0 (divOpen (icc0 * k) one30)
  let cv := s.pi n 1 1 vcv ub 0 0 icc r.tu (s.isArmed n) (s.presetAt n ib)
  let ending := s.on .chgEnding || (s.stg .D).stopping
  let sp := s.amps n (r.sp.getD 0 0)
  let ref := min sp cv.u
  let per := max 1 (s.f Reg.PULSE_PERIOD 4)
  let lk := s.f Reg.SLOT_FF n 1
  let den := ul * s.fi Reg.SLOT_FF n 0 * ub
  let y := clampI 0 (one30 / 4) (divOpen (60 * lk * ref * ub * 65536 * one30) (per * den))
  let root : Int := sqrtOpen ((one30 - 4 * y) * one30).toNat
  let e := ref - ib
  let old := s.v .slotInt (n * 8)
  let sat := s.v .slotSat (n * 8)
  let frozen := s.isArmed n
  let base := divOpen (one30 - root) 2 + divOpen (s.fi Reg.SLOT_KP n 0 * e) 4
  let into := (0 < sat && 0 < e) || (sat < 0 && e < 0)
  let lo := s.fi Reg.SLOT_LIMITS_OUT_MIN n
  let hi := s.fi Reg.SLOT_LIMITS_OUT_MAX n
  let x := match s.presetOf n 0 with
    | some m => clampI lo hi (m - base)
    | none => if frozen then old
      else if into then clampI lo hi old
      else clampI lo hi (old + divOpen (s.fi Reg.SLOT_KI n 0 * r.tu * e) (4 * 300000000))
  let dmax := s.fi Reg.SLOT_FF n 3 * 32768
  let d0 := base + x
  let above := min hi dmax < d0
  let below := d0 < max lo 0
  let d := if r.auto then clampI 0 dmax (clampI lo hi d0) else clampI 0 dmax (s.heldOut n 0)
  let trim := clampI (-328) 328 (divOpen (-(s.fi Reg.SLOT_FF n 2) * ip) (2 ^ 32))
  let charging := s.f Reg.CHG_STATUS_CHG_STATE == 1 || s.f Reg.CHG_STATUS_CHG_STATE == 2
  let small := 2 * |ib| ≤ amps10 (s.f Reg.CHG_END_I_TAPER)
  let off := ending && (small || s.dabDeadline ≤ s.now)
  let active := (charging && !ending) || (ending && !off)
  let run := r.auto
  let man (k : Nat) : Int := clampI 0 32767 (divOpen (s.heldOut n k) 32768)
  let ds : List Int := if run then [16384 - trim, 16384, 16384, 16384] else [man 1, man 2, man 3, 16384]
  let outs := (if active then d else 0) :: ds.map fun x => if active then x * 32768 else 0
  { r with
    outs := outs, words := outs,
    ints := if run then [x, cv.i, 0, 0] else r.ints,
    sats := if run then [if above then 1 else if below then -1 else 0, cv.sat, 0, 0] else [0, 0, 0, 0],
    sp := [r.sp.getD 0 0], err := if run then max |s.ampsPu n e| |s.perUnit n cv.e| else 0,
    outSat := run && (above || below || cv.sat != 0),
    held := run && ((into && !frozen && (s.presetOf n 0).isNone) || cv.held),
    legs := if active then dabLegs d ds else offLegs .D,
    meas := [ub, ib, icc, vcv, if active then d else 0, if cv.u < sp then 1 else 0,
      if divOpen ((s.f Reg.CHG_FAULT_FLUX_LIMIT : Int) * 65536) 10 < |ip| then 1 else 0, if k < one30 then 1 else 0,
      if off then 1 else 0] }

/-! ### Charging (R446 to R455) -/

/-- A charge ends with a cause of Table 12-6 (R450, R451); its events' reaction, which stops the charge, is not REPORT, so that a FAULT snapshot
is written beside the CHARGE_END one (R457). -/
def State.chgFinish (s : State) (cause : Nat) : State :=
  let s := match s.slotOfType 8 with
    | some n => s.setF Reg.SLOT_SETPOINT n 0
    | none => s
  let s := ((s.setOn .chgEnding 0 true).setV .chgEndAt 0 (s.now : Nat)).setF Reg.CHG_STATUS_CHG_STATE 0 0
  let s := ((((s.setF Reg.CHG_STATUS_LAST_END 0 cause).setOn .chgEnded 0 true).setFb Reg.CHG_STATUS_HALF 0 false).close .taper).close .chgPause
  let code := if cause = 3 then Ev.BMS_LOST else if cause = 5 then Ev.SAFETY_TIMER else Ev.CHARGE_ENDED
  let s := if cause = 3 then s.addF Reg.CHG_COUNTERS 6 else if cause = 5 then s.addF Reg.CHG_COUNTERS 5 else s
  let s := (s.noteEnds Ev.CHARGE_PAUSED).setCause code 0 false
  (((s.noteAt code .D cause).chgSnap 1 (s.f Reg.CHG_STATUS_PP_STATE) code).chgSnap 2 (s.f Reg.CHG_STATUS_PP_STATE) code).chgSync

/-- What the end of a DAB_POWER run evaluates: the CV count, BATT_OV, BATT_OC, DAB_FLUX and the end of D's stop sequence. -/
def State.dabEnd (s : State) (r : Run) : State :=
  let m (k : Nat) : Int := r.meas.getD k 0
  let s := ((((s.setV .batU 0 (m 0)).setV .batI 0 (m 1)).setV .batIcc 0 (m 2)).setV .batVcv 0 (m 3)).setV .batShift 0 (m 4)
  let s := (s.setF Reg.CHG_MEAS 6 (tenths (m 0))).setF Reg.CHG_MEAS 7 (tenths (m 1))
  let s := s.setFb Reg.CHG_STATUS_BACKOFF 0 (m 7 = 1)
  let c := s.v .batCv
  let s := s.setV .batCv 0 (if m 5 = 1 then min 16 (max 0 c + 1) else max (-16) (min 0 c - 1))
  let st := s.f Reg.CHG_STATUS_CHG_STATE
  let s := if (s.stg .D).stopping && st != 0 then s.chgFinish 1 else s
  let s := if m 8 = 1 then
      let s := s.setOn .chgEnding 0 false
      if (s.stg .D).stopping && !s.on .stopForceAt 4 then s.setV .stopForceAt 4 (commonEdge s.now : Nat) else s
    else s
  let ov := m 3 * (100 + s.f Reg.CHG_FAULT_BATT_OV_PCT) ≤ m 0 * 100
  let s := (s.setV .batOv 0 (if ov then min 3 (s.vn .batOv + 1) else 0 : Nat)).absence 1 Ev.BATT_OV 0 ov
  let s := if s.vn .batOv = 2 && !s.present Ev.BATT_OV then
      s.chgFault Ev.BATT_OV (s.f Reg.CHG_FAULT_BATT_OV_REACTION) .D (wrap 32 (tenths (m 0)))
    else s
  let oc := 11 * m 2 + 10 * 65536 < 10 * m 1
  let s := s.absence 2 Ev.BATT_OC 0 oc
  let s := if oc && s.present Ev.BATT_OC then s else s.timed .battOc 0 oc (ms 1)
  let s := s.setV .batFlux 0 (if m 6 = 1 then min 17 (s.vn .batFlux + 1) else 0 : Nat)
  let s := if s.vn .batFlux = 16 && !s.present Ev.DAB_FLUX then
      s.chgFault Ev.DAB_FLUX (s.f Reg.CHG_FAULT_FLUX_REACTION) .D 0
    else s
  if m 6 = 1 then s else (s.clearCause Ev.DAB_FLUX).chgSync

/-- i_batt has exceeded 1.1 x I_CC + 1 A for 1 ms. -/
def execBattOc (s : State) : Host.Outcome State Fault Refusal :=
  done (s.expire .battOc 0 fun s =>
    s.chgFault Ev.BATT_OC (s.f Reg.CHG_FAULT_BATT_OC_REACTION) .D (wrap 32 (tenths (s.v .batI))))

/-- The first condition of Table 12-6 that is met; `stop` is CHARGE_STOP. -/
def State.endCause (s : State) (stop : Bool) : Option Nat :=
  let st := s.f Reg.CHG_STATUS_CHG_STATE
  let past (t : Timer) : Bool := match s.due t with
    | some e => e ≤ s.now
    | none => false
  if s.st .P != .running || s.st .D != .running then some 1
  else if s.coldCharge then some 2
  else if !s.bmsFresh then some 3
  else if s.fb Reg.CHG_BMS_STOP || !s.fb Reg.CHG_BMS_REQUEST then some 4
  else if s.f Reg.CHG_SAFETY_SAFETY_TIME * 2000 ≤ s.vn .chgCount then some 5
  else if stop then some 6
  else if st == 3 && past .chgPause then some 7
  else if st == 2 && past .taper then some 8
  else none

/-- The safety timer's words. -/
def State.chgTimer (s : State) : State :=
  let limit := s.f Reg.CHG_SAFETY_SAFETY_TIME * 2000
  (s.setF Reg.CHG_TIMER 0 (s.vn .chgCount)).setF Reg.CHG_TIMER 1 ((limit - s.vn .chgCount) / 2000 : Nat)

/-- The supervisor's evaluation in a charge: its end, or the moves between CC, CV and PAUSED, the taper window and I_CC as the
slot's setpoint. -/
def State.chargeStep (s : State) (stop : Bool) : State :=
  let st := s.f Reg.CHG_STATUS_CHG_STATE
  if st == 0 then s.chgSync
  else match s.endCause stop with
    | some c => s.chgFinish c
    | none =>
      let src := s.f Reg.CHG_STATUS_PP_STATE == 4
      let s :=
        if (st == 1 || st == 2) && !src then
          let s := (s.setF Reg.CHG_STATUS_CHG_STATE 0 3).openSlow .chgPause 0 (sec (s.f Reg.CHG_RAMP_PAUSE_LIMIT))
          ((s.close .taper).setFb Reg.CHG_STATUS_HALF 0 false).noteLastingAt Ev.CHARGE_PAUSED .D
        else if st == 3 && src then
          (((s.setF Reg.CHG_STATUS_CHG_STATE 0 1).close .chgPause).setV .batCv 0 0).noteEnds Ev.CHARGE_PAUSED
        else if st == 1 && s.v .batCv = 16 then s.setF Reg.CHG_STATUS_CHG_STATE 0 2
        else if st == 2 && s.v .batCv = -16 then s.setF Reg.CHG_STATUS_CHG_STATE 0 1
        else s
      let low := s.f Reg.CHG_STATUS_CHG_STATE == 2 && s.v .batI ≤ amps10 (s.f Reg.CHG_END_I_TAPER)
      let s := s.timed .taper 0 low (sec (s.f Reg.CHG_END_TAPER_TIME))
      let s := match s.slotOfType 8 with
        | some n => if s.f Reg.CHG_STATUS_CHG_STATE == 3 then s else s.setF Reg.SLOT_SETPOINT n (s.ampsPu n (s.v .batIcc))
        | none => s
      s.chgSync

/-- The charge supervisor evaluates each millisecond: the safety timer counts 2, or 1 while the current is reduced, then the
transitions follow (R447, R453, R454). -/
def execChargeEval (s : State) : Host.Outcome State Fault Refusal :=
  done (s.expire .chgEval 0 fun s =>
    let s := (s.openSlow .chgEval 0 (ms 1)).chgSync
    let st := s.f Reg.CHG_STATUS_CHG_STATE
    let s :=
      if st == 1 || st == 2 then
        let half := s.fb Reg.CHG_STATUS_VREG || s.fb Reg.CHG_STATUS_THERMAL
        ((s.addV .chgCount 0 (if half then 1 else 2)).setFb Reg.CHG_STATUS_HALF 0 half).chgTimer
      else s
    s.chargeStep false)

/-- The first condition of R448 that fails, counted from 1. -/
def State.chargeRefusal (s : State) : Option Nat :=
  if s.f Reg.CHG_STATUS_CHG_STATE != 0 then some 1
  else if s.st .P != .running || s.st .D != .running then some 2
  else if s.f Reg.CHG_STATUS_PP_STATE != 4 then some 3
  else if !s.bmsFresh || !s.fb Reg.CHG_BMS_REQUEST || s.fb Reg.CHG_BMS_STOP || s.f Reg.CHG_BMS_LIMITS_V_MAX == 0
      || s.f Reg.CHG_BMS_LIMITS_I_MAX == 0 then some 4
  else if s.coldCharge then some 5
  else if chgFaults.any s.faultBit then some 6
  else none

/-- An accepted CHARGE_START: the safety timer at zero, CC, CHARGE_STARTED. -/
def State.chargeStart (s : State) : State :=
  let s := ((s.setV .chgCount 0 0).setF Reg.CHG_STATUS_CHG_STATE 0 1).setOn .chgEnded 0 false
  let s := ((s.noteEnds Ev.CHARGE_ENDED).noteEnds Ev.SAFETY_TIMER).noteEnds Ev.BMS_LOST
  let s := ((s.setV .batCv 0 0).setOn .chgEnding 0 false).addF Reg.CHG_COUNTERS 4
  let s := match s.slotOfType 8 with
    | some n => s.setF Reg.SLOT_SETPOINT n (s.ampsPu n (s.v .batIcc))
    | none => s
  ((s.chgTimer).noteAt Ev.CHARGE_STARTED .D).chgSync

/-- Step 7 of the start: the monitor and the supervisor run while the charger is in use (R422, R423, R447). -/
def State.chgBegin (s : State) : State :=
  if s.chgInUse then
    let s := (s.setDue .ppEval 0 (some (divUp s.now Clk.slow * Clk.slow + us 100))).setDue .chgEval 0
      (some (divUp s.now Clk.slow * Clk.slow + ms 1))
    s.setV .chgPvreg 0 s.pSrc
  else s

end Sys2Proof.Machine
end

