-- ==== Sys2Proof/Machine/Actuator.lean ====
section
/-!
DEFINITION. Gearbox actuators (chapter 13): the ACT_POSITION law (R465 to R468), moving, arriving and holding (R470 to R478), the
supply faults (R483), and the windows of the causes that clear after 1 ms (R458, R483).
-/

namespace Sys2Proof.Machine

/-- The stage of an actuator. -/
def actStage (a : Nat) : Stage := if a = 0 then .X1 else .X2

/-- The actuator unit of a slot. -/
def State.actOf (s : State) (n : Nat) : Option Nat := [0, 1].find? fun a => s.f Reg.ACT_CFG_SLOT a == n

/-! ### The position law (R465 to R468) -/

/-- Per unit of a current in 0.01 A, and back. -/
def State.actPu (s : State) (n : Nat) (x : Int) : Int := satQ30 (x * s.fi Reg.SLOT_SCALE_K n * 4)
def State.actAmps (s : State) (n : Nat) (i : Int) : Int := divOpen i (s.fi Reg.SLOT_SCALE_K n * 4)

/-- The hold mode in force, when the actuator holds: 0 SERVO, 1 SHORT, 2 OFF, 3 FULL (R473). -/
def State.holding (s : State) (n : Nat) : Option Nat := match s.actOf n with
  | some a => if s.f Reg.ACT_STATUS_STATE a == 2 then some (s.f Reg.ACT_STATUS_HOLD a) else none
  | none => none

/-- I_lim of a slot in per unit: a compare limit, I_HOLD in SERVO, or the limit of R272; in the stop sequence the limit of the last
run before it, ramped to zero over STOP_RAMP (R465, R473, R478, R481). -/
def State.actLim (s : State) (n : Nat) (r : Run) : Int :=
  let t := s.slotStage n
  if (s.stg t).stopping then
    let len := us (100 * s.f Reg.ACT_FAULT_STOP_RAMP (if t == .X1 then 0 else 1))
    divOpen (s.v .slotLim n * (s.vn .stopForceAt t.idx - s.now : Nat)) len
  else match s.actOf n with
    | some a =>
      if s.on .actLimit a then s.actPu n (s.v .actLimit a)
      else if s.holding n == some 0 then s.actPu n (s.f Reg.ACT_HOLD_I_HOLD a : Nat)
      else max 0 r.lim
    | none => max 0 r.lim

/-- The commutation sector: of the halls, or of ANGLE_E (R466). -/
def State.actSector (s : State) (n : Nat) : Nat := match s.slotFb n with
  | some c => if s.f Reg.FB_MODE_MODE c == 2 then s.f Reg.FB_STATUS_SECTOR c else (s.snap .snAngle c).toNat * 6 / 65536
  | none => 0

/-- The plus and the minus leg of a sector (Table 13-2), by place in the stage. -/
def plusLeg (sector : Nat) : Nat := [0, 0, 1, 1, 2, 2].getD sector 0
def minusLeg (sector : Nat) : Nat := [1, 2, 2, 0, 0, 1].getD sector 1

/-- FORCE of a leg by R467: HIGH at or above FULL_DUTY, LOW at or below its complement, PWM once the duty is 512 steps inside. -/
def State.fullForce (s : State) (n leg d : Nat) : Nat :=
  let full := s.f Reg.SLOT_FF n 2
  if full ≤ d then 1
  else if d + full ≤ 32768 then 2
  else match s.vn .legFull leg with
    | 1 => if d + 512 ≤ full then 0 else 1
    | 2 => if 32768 + 512 ≤ d + full then 0 else 2
    | _ => 0

/-- A leg set with the force of R467. -/
def State.actLeg (s : State) (n leg d : Nat) : LegSet := legDuty leg d (s.fullForce n leg d)

/-- The three legs of a stage from what each place gets. -/
def actLegs (t : Stage) (k : Nat → Nat → LegSet) : List LegSet := (List.range 3).map fun j => k j (t.legBase + j)

/-- The slot drives field-oriented: not HALL, in a CENTRE carrier (R466). -/
def State.actFoc (s : State) (n : Nat) : Bool :=
  s.f Reg.PULSE_CARRIER_MODE (s.slotStage n).idx == 0 && (match s.slotFb n with
    | some c => s.f Reg.FB_MODE_MODE c != 2
    | none => false)

/-- The torque current of R466, and in the field-oriented form the current id. -/
def State.actCurrent (s : State) (n tu : Nat) (sector : Nat) : Int × Int :=
  if s.actFoc n then
    let ab := clarke (s.inI n 0) (s.inI n 1) (s.inI n 2)
    let dq := rotate (s.angles n tu).1 ab.1 ab.2
    (dq.2, dq.1)
  else (divOpen (s.inI n (plusLeg sector) - s.inI n (minusLeg sector)) 2, 0)

/-- The voltage that the duties in MAN_OUT stand for, from which the first AUTO run starts (R265, R466): of the minus-to-plus pair, or
d and q at the output angle. -/
def State.actManual (s : State) (n sector tu : Nat) (u : Int) : Int × Int :=
  let m (k : Nat) : Int := s.fi Reg.SLOT_MODE_MAN_OUT n k
  if s.actFoc n then
    let ab := clarke (mul30 (m 0) u) (mul30 (m 1) u) (mul30 (m 2) u)
    let dq := rotate (s.angles n tu).2 ab.1 ab.2
    (dq.2, dq.1)
  else (mul30 (m (plusLeg sector) - m (minusLeg sector)) u, 0)

/-- A run of ACT_POSITION; its loops run in AUTO whatever the hold mode commits (R262, R473), and in SERVICE current, voltage and speed keep
the service limits (R44). `meas`: POS, VACT in 2^-16 V, torque current, I_lim, whether i* is clamped, whether i* is negative, sector,
whether the legs follow the law. -/
def State.runAct (s : State) (n : Nat) : Run :=
  let r := s.runBase n
  let t := s.slotStage n
  let u := s.inU n 6
  let low := s.inLow n 6
  let pos := match s.slotFb n with
    | some c => s.snap .snPos c
    | none => 0
  let base : Int := s.f Reg.SLOT_FF n 1
  let sp := r.sp.getD 0 0
  let hold := if (s.stg t).stopping then none else s.holding n
  let still := match hold with
    | some h => h != 0
    | none => false
  let sector := match hold, s.actOf n with
    | some 3, some a => s.vn .actSector a
    | _, _ => s.actSector n
  let iid := s.actCurrent n r.tu sector
  let lim := s.inService n 0 (s.actLim n r)
  let vmaxn := s.inService n 2 (s.fi Reg.SLOT_FF n 0)
  let ep := satQ30 (sp - satQ30 (divOpen (pos * one30) base))
  let nref := clampI (-vmaxn) vmaxn (mulK (s.fi Reg.SLOT_KP n 0) ep)
  let armed := s.isArmed n
  let pn := s.pi n 1 1 nref (s.inN n) 0 (-lim) lim r.tu armed (s.presetAt n iid.1)
  let istar := pn.u
  let vm := s.inService n 1 (divOpen (max 0 u * s.f Reg.SLOT_LIMITS_M_MAX n) 32768)
  let man := s.actManual n sector r.tu u
  let pre := s.on .slotPreset n
  let pi := s.pi n 2 2 istar iid.1 0 (-vm) vm r.tu armed (if pre then some man.1 else none)
  let pd := s.pi n 3 2 0 iid.2 0 (-vm) vm r.tu armed (if pre then some man.2 else none)
  let foc := s.actFoc n
  let chop := s.f Reg.PULSE_CARRIER_MODE t.idx == 3
  let plus := if istar < 0 && chop then minusLeg sector else plusLeg sector
  let minus := if istar < 0 && chop then plusLeg sector else minusLeg sector
  let cut := limitVec (s.vMax n u) pd.u pi.u
  let law : List LegSet :=
    if chop then
      let frac := (divOpen (|istar| * 32768) lim).toNat
      actLegs t fun j g =>
        if j = plus then
          { leg := g, dutyA := 0, dutyB := 0, phase := 0, force := s.fullForce n g frac,
            times := some (s.f Reg.SLOT_FF n 3, s.f Reg.SLOT_FF n 4) }
        else legDuty g 0 (if j = minus then 2 else 3)
    else if foc then
      let ab := unrotate (s.angles n r.tu).2 cut.1 cut.2.1
      let ds := duties (clarkeInv ab.1 ab.2) u low
      actLegs t fun j g => s.actLeg n g (ds.getD j 16384)
    else actLegs t fun j g =>
      if j = plusLeg sector then s.actLeg n g (if low then 16384 else dutyOf 16384 pi.u (2 * u))
      else if j = minusLeg sector then s.actLeg n g (if low then 16384 else dutyOf 16384 (-pi.u) (2 * u))
      else legDuty g 0 3
  let holdLegs : List LegSet := match hold, s.actOf n with
    | some 1, _ => actLegs t fun _ g => legDuty g 0 2
    | some 2, _ => actLegs t fun _ g => legDuty g 0 3
    | some 3, some a =>
      let neg := s.on .actNeg a
      let p := if neg then minusLeg sector else plusLeg sector
      let m := if neg then plusLeg sector else minusLeg sector
      actLegs t fun j g => legDuty g 0 (if j = p then 1 else if j = m then 2 else 3)
    | _, _ => law
  let legs := match s.slotWay n with
    | .auto => holdLegs
    | .manual => actLegs t fun j g => s.actLeg n g (clampI 0 32767 (divOpen (s.fi Reg.SLOT_MODE_MAN_OUT n j) 32768)).toNat
    | .frozen => []
  let run := r.auto
  let follows := r.auto && !still
  let clamped := run && pn.sat != 0
  let outs := match s.slotWay n with
    | .frozen => (List.range 3).map fun k => s.v .slotRaw (n * 8 + k)
    | _ => legs.map fun l => (l.dutyA : Int) * 32768
  { r with
    outs := outs, words := outs,
    ints := if run then [s.v .slotInt (n * 8), pn.i, if chop then s.v .slotInt (n * 8 + 2) else pi.i,
      if foc then pd.i else s.v .slotInt (n * 8 + 3)] else r.ints,
    sats := if run then [0, pn.sat, if chop then 0 else pi.sat, if foc then pd.sat else 0] else [0, 0, 0, 0],
    sp := [sp], lim := lim,
    err := if run then max (max |ep| |pn.e|) (max (if chop then 0 else |pi.e|) (if foc then |pd.e| else 0)) else 0,
    vsat := run && !chop && (low || pi.sat != 0 || (foc && cut.2.2)),
    outSat := run && (pn.sat != 0 || (!chop && pi.sat != 0)), held := run && (pn.held || (!chop && pi.held)),
    legs := legs,
    meas := [pos, s.volts n u, iid.1, lim, if clamped then 1 else 0, if istar < 0 then 1 else 0, sector, if follows then 1 else 0,
      |istar|] }

/-! ### Moving, arriving, holding (R470 to R477) -/

/-- The distance of POS from r x POS_BASE exceeds a number of counts. -/
def State.actFar (s : State) (n : Nat) (pos sp : Int) (win : Nat) : Bool :=
  (win : Int) * one30 < |pos * one30 - sp * (s.f Reg.SLOT_FF n 1 : Int)|

/-- Entry to MOVING: the MOVE_TIME window opens and I_lim is nominal; from HOLDING the integrators start at zero unless HOLD_MODE is
SERVO (R470, R473). -/
def State.actMove (s : State) (a n : Nat) : State :=
  let s := if s.f Reg.ACT_STATUS_STATE a == 2 && s.f Reg.ACT_CFG_HOLD_MODE a != 0 then
      s.each (List.range 4) fun s k => s.setV .slotInt (n * 8 + k) 0
    else s
  let s := (((s.setF Reg.ACT_STATUS_STATE a 1).setF Reg.ACT_STATUS_HOLD a 0).setFb Reg.ACT_STATUS_TIMED_OUT a false).addF Reg.ACT_COUNTERS a
  ((s.setV .actLimit a 0).openSlow .moveTime a (ms (s.f Reg.ACT_MOVE_MOVE_TIME a))).close .holdOc a

/-- The blocked window of a moving actuator: i* clamped in every run and POS within a span of ARRIVE_WIN (R475). -/
def State.actBlock (s : State) (a : Nat) (pos : Int) (clamped : Bool) : State :=
  if s.f Reg.ACT_STATUS_STATE a != 1 || s.fb Reg.ACT_STATUS_BLOCKED a then s.close .block a
  else if !clamped then s.lapse Clk.slow .block a
  else
    let lo := min pos (s.v .actLo a)
    let hi := max pos (s.v .actHi a)
    if s.ended Clk.slow .block a then s
    else if s.isOpen .block a && hi - lo ≤ s.f Reg.ACT_MOVE_ARRIVE_WIN a then (s.setV .actLo a lo).setV .actHi a hi
    else ((s.setV .actLo a pos).setV .actHi a pos).openSlow .block a (ms (10 * s.f Reg.ACT_HOLD_BLOCK_TIME a))

/-- A supply fault after two runs; its cause clears after 1 ms without it (R483). -/
def State.actSupply (s : State) (a : Nat) (cond : Bool) (x : Var) (k code : Nat) (reaction : Nat) (bit : Fld) (vact : Int) : State :=
  let s := (s.setV x a (if cond then min 2 (s.vn x a + 1) else 0 : Nat)).absence k code a cond
  if s.vn x a = 2 && !s.present code a then
    (s.setFb bit a true).raise { code := code, inst := a, src := (actStage a).idx, d0 := wrap 32 vact, reaction := reaction,
                                 stages := [actStage a], lasting := true }
  else s

/-- The evaluation at the end of a run (R470, R471, R483). -/
def State.actEnd (s : State) (r : Run) : State :=
  match s.actOf r.slot with
  | none => s
  | some a =>
    let n := r.slot
    let m (k : Nat) : Int := r.meas.getD k 0
    let pos := m 0
    let sp := r.sp.getD 0 0
    let vact := divOpen (m 1 * 100) 65536
    let s := (s.setF Reg.ACT_MEAS a (divOpen (sp * s.f Reg.SLOT_FF n 1) one30)).setF Reg.ACT_MEAS a vact 1
    let s := (s.setF Reg.ACT_MEAS a (s.actAmps n (m 2)) 2).setF Reg.ACT_MEAS a (s.actAmps n (m 3)) 3
    let low := m 1 < (s.f Reg.ACT_LIMITS_VACT_MIN a : Int) * 32768
    let high := (s.f Reg.ACT_LIMITS_VACT_MAX a : Int) * 32768 ≤ m 1
    let s := s.actSupply a low .actLow (3 + a) Ev.VACT_LOW (s.f Reg.ACT_FAULT_VACT_LOW_REACTION a) Reg.ACT_STATUS_VACT_LOW vact
    let s := s.actSupply a high .actHigh (5 + a) Ev.VACT_HIGH (s.f Reg.ACT_FAULT_VACT_HIGH_REACTION a) Reg.ACT_STATUS_VACT_HIGH vact
    let chop := s.f Reg.PULSE_CARRIER_MODE (actStage a).idx == 3
    let s := s.each r.legs fun s (l : LegSet) =>
      s.setV .legFull l.leg (if m 7 = 1 && l.force < 3 && (!chop || l.times.isSome) then l.force else 0 : Nat)
    let s := s.setFb Reg.ACT_STATUS_FULL a (m 7 = 1 && r.legs.any fun (l : LegSet) => s.vn .legFull l.leg != 0)
    let s := if m 7 = 1 then ((s.setOn .actNeg a (m 5 = 1)).setV .actSector a (m 6)).setV .actIref a (m 8) else s
    let new := s.on .actNew a
    let s := s.setOn .actNew a false
    let t := s.slotStage n
    let st := s.f Reg.ACT_STATUS_STATE a
    let far := s.actFar n pos sp (s.f Reg.ACT_MOVE_ARRIVE_WIN a)
    let s :=
      if !(s.st t).isRunning || !s.fb Reg.SLOT_MODE_MODE n then if st = 0 then s else s.actStop a
      else if st = 0 then if s.st t == .running then s.actMove a n else s
      else if st = 1 && new then
        (((s.setFb Reg.ACT_STATUS_TIMED_OUT a false).setV .actLimit a 0).openSlow .moveTime a (ms (s.f Reg.ACT_MOVE_MOVE_TIME a)))
      else if st = 2 && new && far then s.actMove a n
      else if st = 2 && s.f Reg.ACT_STATUS_HOLD a != 0 && s.actFar n pos sp (s.f Reg.ACT_HOLD_DRIFT_WIN a) then
        let s := if s.present Ev.ACT_DRIFT a then s
          else (s.addF Reg.ACT_COUNTERS a 1 5).raise { code := Ev.ACT_DRIFT, inst := a, src := t.idx, d0 := wrap 32 pos, lasting := true }
        if s.fb Reg.ACT_CFG_DRIFT_ACTION a then s.actMove a n else s
      else s
    let moving := s.f Reg.ACT_STATUS_STATE a == 1
    let s := if !moving then s.close .arrive a
      else if far then s.lapse Clk.slow .arrive a
      else if s.isOpen .arrive a then s
      else s.openSlow .arrive a (ms (s.f Reg.ACT_MOVE_ARRIVE_TIME a))
    let s := s.actBlock a pos (m 4 = 1)
    let above := s.f Reg.ACT_STATUS_STATE a == 2 && s.f Reg.ACT_STATUS_HOLD a == 3
      && s.actPu n (s.f Reg.ACT_HOLD_I_HOLD a : Nat) < |m 2|
    s.timed .holdOc a above (ms 10)

/-- Arrival (R472): HOLDING with HOLD_MODE, unless a setpoint applied meanwhile comes first (R471). -/
def execArrived (actuator : Fin 2) (s : State) : Host.Outcome State Fault Refusal :=
  let a := actuator.val
  done (s.expire .arrive a fun s =>
    if s.f Reg.ACT_STATUS_STATE a != 1 then s
    else if s.on .actNew a then s.setDue .arrive a (some s.now)
    else
      let s := ((s.setF Reg.ACT_STATUS_STATE a 2).setF Reg.ACT_STATUS_HOLD a (s.f Reg.ACT_CFG_HOLD_MODE a)).setV .actLimit a 0
      let s := ((s.close .moveTime a).close .block a).addF Reg.ACT_COUNTERS a 1 1
      let s := ((s.setFb Reg.ACT_STATUS_BLOCKED a false).clearCause Ev.ACT_BLOCKED a).clearCause Ev.ACT_DRIFT a
      (s.clearCause Ev.HOLD_OVERCURRENT a).noteAt Ev.ARRIVED (actStage a) a)

/-- MOVE_TIME expires in MOVING: once for each window, with TIMEOUT_REACTION (R476). -/
def execActTimeout (actuator : Fin 2) (s : State) : Host.Outcome State Fault Refusal :=
  let a := actuator.val
  done (s.expire .moveTime a fun s =>
    if s.f Reg.ACT_STATUS_STATE a != 1 then s
    else
      let s := (s.setFb Reg.ACT_STATUS_TIMED_OUT a true).addF Reg.ACT_COUNTERS a 1 2
      s.raise { code := Ev.ACT_TIMEOUT, inst := a, src := (actStage a).idx, d0 := a,
                reaction := s.f Reg.ACT_FAULT_TIMEOUT_REACTION a, stages := [actStage a], transient := true })

/-- The actuator has been pushed at I_lim for BLOCK_TIME without moving (R475). -/
def execActBlocked (actuator : Fin 2) (s : State) : Host.Outcome State Fault Refusal :=
  let a := actuator.val
  done (s.expire .block a fun s =>
    ((s.setFb Reg.ACT_STATUS_BLOCKED a true).addF Reg.ACT_COUNTERS a 1 3).raise
      { code := Ev.ACT_BLOCKED, inst := a, src := (actStage a).idx, d0 := a, lasting := true })

/-- |i| has exceeded I_HOLD for 10 ms in FULL: the hold becomes SERVO until the next arrival (R474). -/
def execHoldOvercurrent (actuator : Fin 2) (s : State) : Host.Outcome State Fault Refusal :=
  let a := actuator.val
  done (s.expire .holdOc a fun s =>
    (s.setF Reg.ACT_STATUS_HOLD a 0).raise { code := Ev.HOLD_OVERCURRENT, inst := a, src := (actStage a).idx, d0 := a, lasting := true })

/-- A park setpoint is refused (R477): it moves r in ENGAGE_DIR while a watched channel's latest snapshot shows more than PARK_SPEED. -/
def State.parkRefused (s : State) (n : Nat) (new : Int) : Option Nat := match s.actOf n with
  | none => none
  | some a =>
    let old := s.fi Reg.SLOT_SETPOINT n
    let engages := if s.fb Reg.ACT_CFG_ENGAGE_DIR a then new < old else old < new
    let fast := (List.range 8).any fun c => (s.f Reg.ACT_CFG_PARK_FB a).testBit c
      && (s.f Reg.ACT_CFG_PARK_SPEED a : Int) * 65536 < 10 * |s.snap .snSpeed c|
    if s.fb Reg.ACT_CFG_ROLE a && engages && fast then some a else none

/-! ### What comparators and regulators register (R301, R322, R326, R387, R403, R468, R469) -/

/-- A core's samples up to now, and what its comparators have seen of them (R137, R326). -/
def State.compared (s : State) (t : Stage) (conv : List Int) : State :=
  (s.coreTo t.core (sampleCycle s.now) conv).cmpTake t.core (sampleCycle s.now)

/-- The last corrected current of a leg: of its sense channel for X1 and X2 (R463), otherwise of its comparator's channel (R385). -/
def State.legResult (s : State) (n : Nat) : Int :=
  match Stage.ofLeg n with
  | .X1 => s.v .lastRes (780 + (n - 26))
  | .X2 => s.v .lastRes (784 + (n - 29))
  | t => s.v .lastRes (256 * t.core + s.f Reg.LEG_CMP_CHANNEL n)

/-- The stage regulator signals a current limit on a leg: ILIM_PH, in SOFT_START the soft-start limit, for L (R387), I_TRIP for X1 and X2
(R469). The other stages have no such source. -/
def State.limitReached (s : State) (n : Nat) : Bool :=
  let x := |s.legResult n|
  match Stage.ofLeg n with
  | .L =>
    if s.f Reg.LINK_STATUS_STATE == 1 then
      (s.f Reg.LINK_SOFT_SS_ILIM * s.f Reg.LINK_SCALE_I_PH * 32768 : Nat) ≤ 20 * (x * s.f Reg.LINK_SCALE_I_FS)
    else (s.f Reg.LINK_SCALE_ILIM_PH * 32768 : Nat) ≤ x * s.f Reg.LINK_SCALE_I_FS
  | .X1 => (8 * s.f Reg.ACT_LIMITS_I_TRIP 0 : Nat) ≤ x
  | .X2 => (8 * s.f Reg.ACT_LIMITS_I_TRIP 1 : Nat) ≤ x
  | _ => false

/-- The terminate condition of a leg (R301): its comparator high in CONST_OFF and low in CONST_ON; in LIGHT and BURST the peak current, or
2 % of full scale in the boost direction (R403); for an actuator |i_plus| at |i*| (R468). -/
def State.terminates (s : State) (n : Nat) : Bool :=
  let t := Stage.ofLeg n
  match s.f Reg.LEG_CFG_TERM_SRC n, t with
  | 1, _ => s.fb Reg.LEG_STATUS_CMP n == (s.carrierMode t == 3)
  | 2, .L =>
    if s.fb Reg.LINK_STATUS_BUCK then 5 * s.v .regIpk ≤ |s.legResult n| * s.f Reg.LINK_SCALE_I_FS else 50 * |s.legResult n| ≤ 32768
  | 2, _ =>
    let a := if t == .X1 then 0 else 1
    let slot := s.f Reg.ACT_CFG_SLOT a
    let j := n - t.legBase
    let plus := if s.on .actNeg a then minusLeg (s.vn .actSector a) else plusLeg (s.vn .actSector a)
    j == plus && s.v .actIref a ≤ |satQ30 (divOpen (s.fi Reg.SLOT_SCALE_K slot * (s.legResult n - s.fi Reg.SLOT_SCALE_OFFSET slot j)) 2)|
  | _, _ => false

/-- A leg registers a trip from an enabled source (R322): a detector turn-off, which is registered for the stage's period as well (R376,
R377), its comparator high, or a current limit of the stage regulator, with the raw results of the stage's core since its last event. -/
def execCbcTrip (leg : Fin 32) (src : TripSrc) (conv : List Int) (t : Nat) (s : State) : Host.Outcome State Fault Refusal :=
  let s := { s with now := max s.now t }
  let n := leg.val
  let s := if src == .desat then s else s.compared (Stage.ofLeg n) conv
  match src with
  | .desat => done ((s.cbcTrip n src).multiLeg n)
  | .cmp => done (if s.fb Reg.LEG_STATUS_CMP n then s.cbcTrip n src else s)
  | .reg => done (if s.limitReached n then s.cbcTrip n src else s)

/-- The terminate condition of a leg is registered, with the raw results of the stage's core since its last event. -/
def execTerminateCondition (leg : Fin 32) (conv : List Int) (t : Nat) (s : State) : Host.Outcome State Fault Refusal :=
  let s := ({ s with now := max s.now t } : State).compared (Stage.ofLeg leg.val) conv
  done (if s.terminates leg.val then s.terminate leg.val else s)

/-! ### Causes that clear after 1 ms (R458, R483) -/

/-- The conditions whose cause clears after 1 ms of absence: PFC_OV, BATT_OV, BATT_OC, VACT_LOW of X1 and X2, VACT_HIGH of X1 and X2. -/
def absentCause (k : Nat) : Nat × Nat :=
  [(Ev.PFC_OV, 0), (Ev.BATT_OV, 0), (Ev.BATT_OC, 0), (Ev.VACT_LOW, 0), (Ev.VACT_LOW, 1), (Ev.VACT_HIGH, 0), (Ev.VACT_HIGH, 1)].getD k (0, 0)

/-- A condition has been absent for 1 ms: its cause clears. -/
def execCauseAbsent1ms (cond : Fin 7) (s : State) : Host.Outcome State Fault Refusal :=
  let k := cond.val
  done (s.expire .absent k fun s =>
    let s := s.clearCause (absentCause k).1 (absentCause k).2
    if k = 3 || k = 4 then s.setFb Reg.ACT_STATUS_VACT_LOW (k - 3) false
    else if k = 5 || k = 6 then s.setFb Reg.ACT_STATUS_VACT_HIGH (k - 5) false
    else s.chgSync)

end Sys2Proof.Machine
end

