-- ==== Sys2Proof/Machine/Engine.lean ====
section
/-!
DEFINITION. The control engine's scheduling (chapter 7): triggers (R241 to R243, R248), runs in the lanes (R238, R244 to R247, R254),
following errors (R273), setpoint loss (R271), OPEN_LOOP and CLOSE_LOOP (R263 to R266).
-/

namespace Sys2Proof.Machine

/-! ### Setpoint loss (R271) -/

/-- A slot's stage is ARMED, RUNNING or HOLD. -/
def State.slotActive (s : State) (n : Nat) : Bool := s.f Reg.SLOT_TYPE_TYPE n != 0 && (s.st (s.slotStage n)).isActive

/-- A setpoint-loss cause arises. -/
def State.spLost (s : State) (n : Nat) : State :=
  if s.slotActive n && !s.present Ev.SP_LOST n then
    (s.setFb Reg.SLOT_STATUS_SP_LOST n true).raise
      { code := Ev.SP_LOST, inst := n, src := s.f Reg.SLOT_TYPE_STAGE n, d0 := n,
        reaction := s.f Reg.SLOT_SP_CFG_SP_LOSS_REACTION n, stages := [s.slotStage n], lasting := true }
  else s

/-- A setpoint-loss cause clears: SP_RESTORED. -/
def State.spRestore (s : State) (n : Nat) : State := (s.spBack n).settle

/-- The source slot's stage of a slot with SP_SRC SLOT is not active. -/
def State.spSourceGone (s : State) (n : Nat) : Bool :=
  s.f Reg.SLOT_SP_CFG_SP_SRC n == 1 && !s.slotActive (s.f Reg.SLOT_SP_CFG_SP_SLOT n)

/-- SP_TIMEOUT of a HOST slot starts again. -/
def State.spWindow (s : State) (n : Nat) : State :=
  if s.f Reg.SLOT_SP_CFG_SP_SRC n == 0 && s.f Reg.SLOT_SP_CFG_SP_TIMEOUT n != 0 && s.slotActive n then
    s.openSlow .slotSpTimer n (ms (s.f Reg.SLOT_SP_CFG_SP_TIMEOUT n))
  else s

/-- A write to SETPOINT.00 has been applied: the time-out starts again, a loss clears, an actuator sees it (R271, R470). A write in the
SLOW cycle in which SP_TIMEOUT ends comes too late (R33). -/
def State.spApplied (s : State) (n : Nat) : State :=
  let s := match s.actOf n with
    | some a => s.setOn .actNew a true
    | none => s
  let s := if s.ended Clk.slow .slotSpTimer n then s else s.spWindow n
  if s.f Reg.SLOT_SP_CFG_SP_SRC n == 0 then s.spRestore n else s

/-- SP_TIMEOUT has passed without a write, or the source slot's stage is not active. -/
def execSpLost (slot : Fin 48) (s : State) : Host.Outcome State Fault Refusal :=
  let n := slot.val
  done (if s.f Reg.SLOT_SP_CFG_SP_SRC n == 0 then s.expire .slotSpTimer n fun s => s.spLost n
    else if s.spSourceGone n then s.spLost n else s)

/-- A stage has entered RUNNING: slots that take their setpoint from its slots have it again. -/
def State.spSourceRuns (s : State) (t : Stage) : State := (s.spSourceBack t).settle

/-- The slots of a stage on its entry to ARMED: integrators zero, events numbered from 0, time-outs open, the sources' stages
looked at (R243, R249, R271). -/
def State.slotsArm (s : State) (t : Stage) : State :=
  s.each (s.slotsOf t) fun s n =>
    let s := s.each (List.range 4) fun s k => (s.setV .slotInt (n * 8 + k) 0).setV .slotSat (n * 8 + k) 0
    let s := ((s.setV .slotEvents n 0).setV .slotTrigAt n 0).setV .slotTrigPrev n 0
    let s := ((s.setV .slotVsat n 0).setFb Reg.SLOT_STATUS_ACTIVE n true).spWindow n
    if s.spSourceGone n then s.spLost n else s

/-! ### Triggers (R241 to R243, R248) -/

/-- A trigger takes effect: the slot becomes pending, or the trigger is dropped and counted. -/
def State.slotTrigger (s : State) (n at' : Nat) : State :=
  if !s.slotActive n then s
  else if s.on .slotPend n || s.on .slotRun n then
    (s.addF Reg.SLOT_COUNTERS n 1 1).raise
      { code := Ev.SLOT_OVERRUN, inst := n, src := s.f Reg.SLOT_TYPE_STAGE n, d0 := n,
        reaction := s.f Reg.SLOT_MODE_OVR_REACTION n, stages := [s.slotStage n], transient := true }
  else
    let s := (s.setV .slotTrigPrev n (s.v .slotTrigAt n)).setV .slotTrigAt n at'
    (s.setOn .slotPend n true).setV .slotPendAt n (s.now : Nat)

/-- DIV of a carrier trigger, 0 meaning 256. -/
def State.slotDiv (s : State) (n : Nat) : Nat :=
  if s.f Reg.SLOT_TRIGGER_DIV n == 0 then 256 else s.f Reg.SLOT_TRIGGER_DIV n

/-- A carrier event of a stage that becomes visible in SAMPLE cycle v: each slot that selects it counts it, and every DIV-th one, at PHASE, triggers the slot at the first
LOOP edge at least 44 SAMPLE cycles after the event is visible. -/
def State.slotEvent (s : State) (t : Stage) (middle : Bool) (v : Nat) : State :=
  s.each (List.range 48) fun s n =>
    if s.f Reg.SLOT_TRIGGER_SRC n == 1 && s.f Reg.SLOT_TRIGGER_REF n == t.idx && selects (s.f Reg.SLOT_TRIGGER_EVT n) middle
        && s.slotActive n then
      let k := s.vn .slotEvents n
      let s := s.setV .slotEvents n (k + 1 : Nat)
      if k % s.slotDiv n = s.f Reg.SLOT_TRIGGER_PHASE n then
        (s.setV .slotEvAt n (s.now / Clk.pulse * Clk.pulse : Nat)).setDue .slotTrig n
          (some (divUp ((v + 44) * Clk.sample) Clk.loop * Clk.loop))
      else s
    else s

/-- A slot's trigger takes effect: of its timer, which goes on, or of a carrier or slot. -/
def execSlotTrigger (slot : Fin 48) (s : State) : Host.Outcome State Fault Refusal :=
  let n := slot.val
  done (if s.f Reg.SLOT_TRIGGER_SRC n == 3 then
      let e := (s.due .slotTimer n).getD 0
      s.expire .slotTimer n fun s =>
        (s.setDue .slotTimer n (some (e + 30 * s.f Reg.SLOT_TRIGGER_TIMER n))).slotTrigger n e
    else s.expire .slotTrig n fun s =>
      s.slotTrigger n (if s.f Reg.SLOT_TRIGGER_SRC n == 1 then s.vn .slotEvAt n else s.now))

/-- Step 7 of the start: the timers of slots begin at the first SLOW edge after it (R241). -/
def State.slotTimers (s : State) : State :=
  s.each (List.range 48) fun s n =>
    if s.f Reg.SLOT_TYPE_TYPE n != 0 && s.f Reg.SLOT_TRIGGER_SRC n == 3 then
      s.setDue .slotTimer n (some ((s.now / Clk.slow + 1) * Clk.slow))
    else s

/-! ### Runs (R238, R244 to R247) -/

/-- LOOP cycles of a type (Table 7-1). -/
def slotCycles (ty : Nat) : Nat := [0, 146, 220, 90, 50, 60, 120, 160, 110, 180, 30].getD ty 0

/-- P1 transactions of a run (Table 7-1). -/
def slotTransactions (ty : Nat) : Nat := if ty = 2 then 2 else 1

/-- The run of a slot by its type. -/
def State.runOf (s : State) (n : Nat) : Run := match s.f Reg.SLOT_TYPE_TYPE n with
  | 1 => s.runFoc n false
  | 2 => s.runFoc n true
  | 3 => s.runTorque n
  | 4 => s.runSpeed n
  | 5 => s.runPosition n
  | 6 => s.runLink n
  | 7 => s.runPfc n
  | 8 => s.runDab n
  | 9 => s.runAct n
  | 10 => s.runGeneric n
  | _ => s.runBase n

/-- The lowest-numbered pending slot of a lane (R244). -/
def State.nextSlot (s : State) (lane : Nat) : Option Nat :=
  (List.range 48).find? fun n => s.on .slotPend n && s.f Reg.SLOT_TYPE_LANE n == lane && s.slotActive n

/-- A free lane starts its lowest-numbered pending slot, which reads its inputs in this LOOP cycle. -/
def execSlotRunStart (lane : Fin 4) (t : Nat) (s : State) : Host.Outcome State Fault Refusal :=
  let s := { s with now := max s.now t }
  done (match s.nextSlot lane.val with
    | none => s
    | some n =>
      if s.runs.any fun r => r.lane == lane.val then s
      else
        let run := s.runOf n
        let s := ((s.setOn .slotPend n false).setOn .slotRun n true).setV .slotRunAt n (s.now : Nat)
        let s := { s with runs := s.runs ++ [{ run with lane := lane.val }] }
        s.openLoop .laneEnd lane.val (Clk.loop * slotCycles (s.f Reg.SLOT_TYPE_TYPE n)))

/-- The mirror record of a run, of its inputs, outputs and integrators: posted when the lane's buffer of 4 transactions has room, otherwise
skipped and counted (R254). -/
def State.slotMirror (s : State) (r : Run) (outs : List Int) : State :=
  let n := r.slot
  let tx := slotTransactions (s.f Reg.SLOT_TYPE_TYPE n)
  if 4 < s.vn .mirror r.lane + tx then s.addF Reg.SLOT_COUNTERS n 1 4
  else
    let s := s.addV .mirror r.lane tx
    let s := s.each (List.range 8) fun s j => s.setV .mirrorIn (n * 8 + j) (r.ins.getD j 0)
    let s := s.each (List.range 5) fun s k => s.setF Reg.SLOT_OUT n (outs.getD k 0) k
    let s := (s.setF Reg.SLOT_OUT_T_U n r.tu).setF Reg.SLOT_STATE_ERROR n (satQ30 r.err)
    s.each (List.range 4) fun s k => s.setF Reg.SLOT_STATE_INTEGRATOR n (satQ30 (s.v .slotInt (n * 8 + k))) k

/-- The commit of a run's legs: the shadow sets together, complete at the first common edge of LOOP and PULSE at least 10 ns after
the run's end (R247); not in ARMED and not once the stop sequence has committed FORCE OFF (R47, R249). -/
def State.slotCommit (s : State) (r : Run) : State :=
  let t := s.slotStage r.slot
  if !(s.st t).isRunning || (s.on .stopForceAt t.idx && s.vn .stopForceAt t.idx ≤ s.now) then s
  else s.each r.legs fun s (l : LegSet) =>
    let s := ((s.setF Reg.LEG_DUTY_A l.leg l.dutyA).setF Reg.LEG_DUTY_B l.leg l.dutyB).setF Reg.LEG_PHASE l.leg l.phase
    let s := match l.times with
      | some (a, b) => (s.setF Reg.LEG_TIME_A l.leg a).setF Reg.LEG_TIME_B l.leg b
      | none => s
    (s.setF Reg.LEG_CTRL_FORCE l.leg l.force).setDue .commit l.leg (some (commonEdge s.now))

/-- The flags of SLOTnn.STATUS after a run. -/
def State.slotFlags (s : State) (r : Run) : State :=
  let n := r.slot
  let s := (((s.setFb Reg.SLOT_STATUS_VSAT n r.vsat).setFb Reg.SLOT_STATUS_OUT_SAT n r.outSat).setFb Reg.SLOT_STATUS_INT_HELD n
    r.held).setFb Reg.SLOT_STATUS_RAMPING n r.ramping
  ((s.setFb Reg.SLOT_STATUS_DERATED n r.derated).setFb Reg.SLOT_STATUS_STALE_IN n r.stale).setFb Reg.SLOT_STATUS_REF_WAIT n r.refWait

/-- The following-error condition of a run and its timer, which runs only in AUTO and in RUNNING (R273). -/
def State.slotError (s : State) (r : Run) : State :=
  let n := r.slot
  let lim := s.f Reg.SLOT_FE_FE_LIMIT n
  let bad := lim != 0 && (lim : Int) * 32768 < r.err
  let s := s.setFb Reg.SLOT_STATUS_FE n bad
  let s := if bad then s else s.clearCause Ev.FOLLOWING_ERROR n
  if !bad then s.lapse Clk.loop .slotFe n
  else if r.auto && s.fb Reg.SLOT_MODE_MODE n && s.st (s.slotStage n) == .running then
    if s.isOpen .slotFe n || s.present Ev.FOLLOWING_ERROR n then s else s.openLoop .slotFe n (us (s.f Reg.SLOT_FE_FE_TIME n))
  else s.close .slotFe n

/-- VSAT in 100 consecutive runs (R258, Table 7-7). -/
def State.slotVsat100 (s : State) (r : Run) : State :=
  let n := r.slot
  if !r.vsat then (s.setV .slotVsat n 0).clearCause Ev.VOLTAGE_SATURATED n
  else
    let k := min 101 (s.vn .slotVsat n + 1)
    let s := s.setV .slotVsat n k
    if k = 100 then
      s.raise { code := Ev.VOLTAGE_SATURATED, inst := n, src := s.f Reg.SLOT_TYPE_STAGE n, d0 := n, lasting := true }
    else s

/-- One cause of CO_STALE, with the slot as its item and a value. -/
def State.coCause (s : State) (inst : Nat) (b : Bool) (slot : Nat) (x : Int) : State :=
  if !b then s.clearCause Ev.CO_STALE inst
  else if s.present Ev.CO_STALE inst then s
  else s.raise { code := Ev.CO_STALE, inst := inst, src := 2, d0 := slot, d1 := wrap 32 x, lasting := true }

/-- CO_STALE of a LINK_VOLTAGE run: a stale contribution, and a floor above CO_MAX, reported with the floor in V (R280, R282). -/
def State.slotCo (s : State) (r : Run) : State :=
  let floor := r.meas.getD 1 0
  (s.coCause 0 (r.meas.getD 0 0 != 0) r.slot 0).coCause 1 (floor != 0) r.slot floor

/-- What a type does at the end of its run beyond its outputs. -/
def State.slotHook (s : State) (r : Run) : State := match s.f Reg.SLOT_TYPE_TYPE r.slot with
  | 6 => s.slotCo r
  | 7 => s.pfcEnd r
  | 8 => s.dabEnd r
  | 9 => s.actEnd r
  | _ => s

/-- The outputs of a run become visible (R246), zero in ARMED (R249), with its integrators, which in ARMED only a preset moves, its flags,
commit and mirror record. -/
def State.publish (s : State) (r : Run) : State :=
  let n := r.slot
  let t := s.slotStage n
  let armed := s.st t == .armed
  let vis (l : List Int) (k : Nat) : Int := if armed then 0 else l.getD k 0
  let s := s.each (List.range 5) fun s k => (s.setV .slotRaw (n * 8 + k) (vis r.outs k)).setV .slotWord (n * 8 + k) (vis r.words k)
  let s := s.each (List.range 4) fun s k =>
    let s := s.setV .slotSp (n * 8 + k) (r.sp.getD k (s.v .slotSp (n * 8 + k)))
    let s := s.setV .slotSat (n * 8 + k) (r.sats.getD k 0)
    s.setV .slotInt (n * 8 + k) (r.ints.getD k 0)
  let s := if (s.stg t).stopping then s else s.setV .slotLim n r.lim
  let s := s.when r.preset fun s => s.setOn .slotPreset n false
  let s := ((s.slotFlags r).slotMirror r ((List.range 5).map (vis r.words))).slotCommit r
  ((s.slotError r).slotVsat100 r).slotHook r

/-- The counters of a run: runs, and the largest time from trigger to end of the slot and of its lane. -/
def State.slotCount (s : State) (r : Run) : State :=
  let n := r.slot
  let d := (s.now - s.vn .slotPendAt n) / Clk.loop
  let s := (s.addF Reg.SLOT_COUNTERS n).setF Reg.SLOT_COUNTERS n (max (s.f Reg.SLOT_COUNTERS n 3) d : Nat) 3
  s.setF Reg.ENG_LANE_LOAD_LARGEST r.lane (max (s.f Reg.ENG_LANE_LOAD_LARGEST r.lane) (min d 65535) : Nat)

/-- The run of a lane ends. A run whose stage has gone to STOPPED or SAFE meanwhile shows nothing; slots that follow this slot are
triggered in the cycle after its last one (R241). -/
def execSlotRunEnd (lane : Fin 4) (s : State) : Host.Outcome State Fault Refusal :=
  done (s.expire .laneEnd lane.val fun s =>
    match s.runs.find? fun r => r.lane == lane.val with
    | none => s
    | some r =>
      let s := { s with runs := s.runs.filter fun r => r.lane != lane.val }
      if !s.on .slotRun r.slot then s
      else
        let s := ((s.setOn .slotRun r.slot false).slotCount r).publish r
        s.each (List.range 48) fun s m =>
          if s.f Reg.SLOT_TRIGGER_SRC m == 2 && s.f Reg.SLOT_TRIGGER_REF m == r.slot && s.slotActive m then
            s.setDue .slotTrig m (some s.now)
          else s)

/-- FE_TIME has passed with the condition, in AUTO and in RUNNING (R273). -/
def execFollowingError (slot : Fin 48) (s : State) : Host.Outcome State Fault Refusal :=
  let n := slot.val
  done (s.expire .slotFe n fun s =>
    if !s.fb Reg.SLOT_MODE_MODE n || s.st (s.slotStage n) != .running then s
    else (s.addF Reg.SLOT_COUNTERS n 1 2).raise
      { code := Ev.FOLLOWING_ERROR, inst := n, src := s.f Reg.SLOT_TYPE_STAGE n, d0 := n, reaction := s.f Reg.SLOT_FE_FE_REACTION n,
        stages := [s.slotStage n], lasting := true })

/-! ### Modes (R263 to R266) -/

/-- A slot is put into MANUAL with the outputs of its last run (R264). -/
def State.openLoopSlot (s : State) (n : Nat) : State :=
  let s := s.each (List.range 4) fun s k => s.setF Reg.SLOT_MODE_MAN_OUT n (s.v .slotRaw (n * 8 + k)) k
  let was := s.fb Reg.SLOT_MODE_MODE n
  let s := ((s.setAuto n false).close .slotFe n).setOn .slotPreset n false
  s.when was fun s => s.noteAt Ev.MODE_CHANGED (s.slotStage n) n

/-- CLOSE_LOOP is refused (R266): the stage is in SAFE or HOLD, REF_OK is needed and absent, or the setpoint is lost; the number is
the failing case. -/
def State.closeRefusal (s : State) (n : Nat) : Option Nat :=
  let st := s.st (s.slotStage n)
  if st == .safe || st == .hold then some 1
  else if s.refWait n then some 2
  else if s.present Ev.SP_LOST n then some 3
  else none

/-- A slot is put into AUTO; its first AUTO run presets the integrators (R265). -/
def State.closeLoopSlot (s : State) (n : Nat) : State :=
  let was := s.fb Reg.SLOT_MODE_MODE n
  let s := s.setAuto n true
  if was then s else (s.setOn .slotPreset n true).noteAt Ev.MODE_CHANGED (s.slotStage n) n 1

end Sys2Proof.Machine
end

