-- ==== Sys2Proof/Machine/Arm.lean ====
section
/-!
DEFINITION. ARM, RUN and STOP of a stage (Tables 1-6, 1-7; R45 to R49, R757): their numbered conditions and what each does.
-/

namespace Sys2Proof.Machine

/-- A fault that the manual names as latched on the stage (R757, condition 2 of ARM). -/
def State.stageLatched (s : State) (t : Stage) : Bool :=
  s.on .hardClock || s.on .enginesDead || s.faultBit Ev.ECC_UNCORRECTABLE || s.faultBit Ev.ENGINES_EXHAUSTED
  || s.faultAt Ev.START_FAIL t.idx
  || (t.legs.any fun n => s.fb Reg.LEG_STATUS_LATCHED n)
  || (t.chans.any fun c => s.faultAt Ev.PATH_MISMATCH c)
  || s.thermalLatched t
  || (s.f Reg.SAFE_STATUS_TEST_FAIL).testBit t.group
  || s.causes.any fun c => chgFaults.contains c.code && c.stages.contains t

/-- The feedback of a stage is valid: at least one channel belongs to it, and each that does is VALID (R199). -/
def State.feedbackValid (s : State) (t : Stage) : Bool :=
  let own := (List.range 8).filter fun n => s.f Reg.FB_MODE_STAGE n == t.idx
  !own.isEmpty && own.all fun n => s.fb Reg.FB_STATUS_VALID n

/-- Conditions (1) to (6) of ARM: the lowest failing number. -/
def State.armBar (s : State) (t : Stage) : Option Nat :=
  if (s.f Reg.SAFE_STATUS_STO_REQ).testBit t.group then some 1
  else if s.stageLatched t then some 2
  else if t.chans.any fun c => s.on .chUvlo c then some 3
  else if t.isT && hvVolts (s.linkAcc 6) ≤ Config.linkMinimum t.idx then some 4
  else if t.isT && !s.feedbackValid t then some 5
  else if t == .D && s.st .P != .running then some 6
  else none

/-- The module is in READY, RUN or SERVICE, and no entry to SLEEP or SHIP is under way. -/
def State.operable (s : State) : Bool := (s.module == .ready || s.module == .run || s.module == .service) && !s.on .entering

/-- A stage enters ARMED: the carrier starts, its slots begin at zero, and the pulse legs take their sets (R249, R295, R307). -/
def State.armStage (s : State) (t : Stage) : State :=
  (((s.protectStage t).carrierArm t).enter t .armed 0 0).slotsArm t |>.setOn .armWait t.idx false

/-- A stage enters RUNNING, or HOLD in the same cycle when a recorded cause is still present (R49). -/
def State.runStage (s : State) (t : Stage) : State :=
  let s := (s.protectStage t).enter t .running 0 0
  let s := if (s.stg t).holds.isEmpty then s else (s.enter t .hold 0 0).openHold t
  (if s.st t == .running then s.spSourceRuns t else s).brakeSync

/-- A cause whose way back from SAFE is STOP itself: a detector trip stays present until a turn-on edge, which SAFE never brings
(R374), and its event table gives STOP, then ARM. STO has a condition of its own. -/
def stopClears (code : Nat) : Bool :=
  code == Ev.DESAT_TRIP || code == Ev.SHORT_TRIP || code == Ev.STO_REQUEST

/-- The conditions of STOP on a stage in SAFE: cause cleared, STO released, no discrepancy latched. A momentary event
(MULTI_LEG_TRIP) leaves no cause behind that STOP would wait for; a hard clock fault and an uncorrectable ECC error are causes on every
stage until the next start (R119, R132). -/
def State.stopBar (s : State) (t : Stage) : Option Nat :=
  if s.on .hardClock || s.faultBit Ev.ECC_UNCORRECTABLE then some 1
  else if s.causes.any fun c => c.present && !c.transient && c.stages.contains t && !stopClears c.code then some 1
  else if s.on .stoState t.group then some 2
  else if (s.f Reg.SAFE_STATUS_DISC).testBit t.group then some 3
  else none

/-- STOP carried out on a stage that is not STOPPED (Table 1-7): in HOLD it is stored (R48). -/
def State.stopStage (s : State) (t : Stage) : State := match s.st t with
  | .armed => ((s.protectStage t).toStopped t 0 0).settle
  | .running => s.beginStop t 0 0
  | .hold => s.setStg t { s.stg t with storedStop := true }
  | .safe => ((s.protectStage t).toStopped t 0 0).settle
  | .stopped => s.setOn .armWait t.idx false

end Sys2Proof.Machine
end

