-- ==== Sys2Proof/Machine/SafetyFn.lean ====
section
/-!
DEFINITION. Safety functions (chapter 14): the two paths of STO and their tests (R489 to R502), brake control and the brake test
(R503 to R513), contactors and precharge (R514 to R519).
-/

namespace Sys2Proof.Machine

/-! ### The enables of a group (R369, R489, R490) -/

/-- The gate-enable line of a group follows its three enables, and is removed until the module reaches READY (R83, R90). -/
def State.enableSync (s : State) (g : Nat) : State :=
  let want := (s.f Reg.SAFE_STATUS_EN_HW).testBit g && (s.f Reg.SAFE_STATUS_EN_SW).testBit g && !s.on .hardClock
    && 5 ≤ s.module.code
  let has := (s.f Reg.GD_STATUS_ENABLE_SG).testBit g
  if want && !has then s.restoreEnable g else if !want && has then s.removeEnable g else s

/-- Set or clear bit g of a field of SAFE.STATUS. -/
def State.safeBit (s : State) (f : Fld) (g : Nat) (b : Bool) : State :=
  let x := s.f f
  s.setF f 0 (if b then x ||| 2 ^ g else x - (if x.testBit g then 2 ^ g else 0) : Nat)

/-- EN_HW or EN_SW of a group changes, and the line follows. -/
def State.setEnable (s : State) (f : Fld) (g : Nat) (b : Bool) : State := (s.safeBit f g b).enableSync g

/-- Pair S writes EN_SW of a group (R490, R537). -/
def State.writeEnSw (s : State) (g : Nat) (b : Bool) : State :=
  (s.protect (.enSw g) (s.f Reg.SAFE_STATUS_EN_SW / 2 ^ g % 2)).setEnable Reg.SAFE_STATUS_EN_SW g b

/-- The pair has shown a request for 1.0 us: EN_HW is removed; `cycles` is the time in PULSE cycles that the timing monitor has measured, and
more than 2 us latch the late flag (R489, R498). -/
def execStoHwRequest (group : Fin 4) (cycles : Nat) (t : Nat) (s : State) : Host.Outcome State Fault Refusal :=
  let g := group.val
  let s := { s with now := max s.now t }
  let s := (s.setOn .hwReq g true).when (600 < cycles) fun s => s.setOn .stoLate g true
  done (s.setEnable Reg.SAFE_STATUS_EN_HW g false)

/-- The pair has been released for 1.0 us: EN_HW is restored, unless the internal test forces a request. -/
def execStoHwRelease (group : Fin 4) (t : Nat) (s : State) : Host.Outcome State Fault Refusal :=
  let g := group.val
  let s := { s with now := max s.now t }.setOn .hwReq g false
  done (if s.on .stoTest g || !s.powered then s else s.setEnable Reg.SAFE_STATUS_EN_HW g true)

/-- The hard-wired path opens the low-side switches of the brakes that it acts on: on SBC both, on STO of a group those coupled to a
stage of it (R504). -/
def execSbcHwOpen (sbc : Bool) (group : Fin 4) (t : Nat) (s : State) : Host.Outcome State Fault Refusal :=
  let s := { s with now := max s.now t }
  done (s.each [0, 1] fun s k =>
    let coupled : Bool := match Stage.ofNat? (s.f Reg.SAFE_BRK_CFG_STAGE k) with
      | some u => s.fb Reg.SAFE_BRK_CFG_COUPLE_STO k && u.group == group.val
      | none => false
    if sbc || coupled then s.brakeApply k else s)

/-! ### Requests as pair S sees them (R490 to R495, R498) -/

/-- A failure of a group's STO test or check latches until the next start and carries out TEST_REACTION (R498, R501); before READY
the reaction waits for it. -/
def State.stoFail (s : State) (g d1 : Nat) : State :=
  let s := s.safeBit Reg.SAFE_STATUS_TEST_FAIL g true
  s.raise { code := Ev.STO_TEST_FAIL, inst := g, d0 := g, d1 := d1,
            reaction := s.f Reg.SAFE_STO_CFG_TEST_REACTION,
            stages := if s.operable || s.module == .safe then Stage.ofGroup g else [], lasting := true, nextStart := true }

/-- A passed test or a request of a group: TEST_DUE clears and its times start again (R500, R502). -/
def State.stoTested (s : State) (g : Nat) : State :=
  ((s.safeBit Reg.SAFE_STATUS_TEST_DUE g false).clearCause Ev.STO_TEST_DUE g).setV .stoLast g (s.now : Nat)
    |>.openSlow .stoDue g (sec 86400)

/-- The stages of a group go to SAFE on an STO request, without a staggered turn-off (R490, R491, R492). -/
def State.stoSafe (s : State) (g : Nat) : State :=
  let s := s.reportAll [{ code := Ev.STO_REQUEST, inst := g, d0 := g, reaction := 6, stages := Stage.ofGroup g }]
  let s := (s.setCause Ev.STO_REQUEST g false).latchStages Ev.STO_REQUEST g (Stage.ofGroup g)
  s.each (Stage.ofGroup g) fun s t =>
    (((s.overtake t 1 Ev.STO_REQUEST 6).setRank t 1 6).toSafe t false Ev.STO_REQUEST 6).close .stagger t.idx

/-- Pair S acts on a request of a group: EN_SW is removed, the stages go to SAFE once the module is in service, and a late flag fails
the check of R498. -/
def State.stoRequest (s : State) (g : Nat) : State :=
  let s := ((s.setOn .stoState g true).safeBit Reg.SAFE_STATUS_STO_REQ g true).writeEnSw g false
  let s := (s.stoTested g).setOn .stoCheck g true
  let s := if s.operable || s.module == .safe then (s.addF Reg.SAFE_COUNTERS 0).stoSafe g else s
  let s := if s.on .stoLate g then s.stoFail g 1 else s
  s.setOn .stoLate g false

/-- A pair is released, and no latched discrepancy acts as a request of it (R490, R494). -/
def State.stoRelease (s : State) (g : Nat) : State :=
  let s := (s.setOn .stoState g false).safeBit Reg.SAFE_STATUS_STO_REQ g false
  let s := if s.operable || s.module == .safe then s.note Ev.STO_RELEASED g else s
  s.clearCause Ev.STO_REQUEST g

/-- EN_SW of a group returns when the pair is released, nothing is latched and every stage of the group is STOPPED (R490). -/
def State.stoRestore (s : State) (g : Nat) : State :=
  if !s.on .stoState g && !(s.f Reg.SAFE_STATUS_DISC).testBit g && !s.on .pathFault g
      && !(s.f Reg.SAFE_STATUS_TEST_FAIL).testBit g && !s.on .stoTest g
      && (Stage.ofGroup g).all (fun t => s.st t == .stopped) && !(s.f Reg.SAFE_STATUS_EN_SW).testBit g then
    (s.setOn .stoCheck g false).writeEnSw g true
  else s

/-- A discrepancy of a pair is latched and acts as a request of it (R494). -/
def State.discLatched (s : State) (i : Nat) : Bool :=
  if i < 4 then (s.f Reg.SAFE_STATUS_DISC).testBit i else s.fb Reg.SAFE_STATUS_SBC_DISC

/-- The discrepancy windows of a pair: DISC_TIME while A and B are equal, DISC_CLEAR while a latched pair shows A low, B high. -/
def State.pairWindows (s : State) (i : Nat) (a b : Bool) : State :=
  let latched := s.discLatched i
  let s := s.timed .disc i (a == b && !latched) (ms (s.f Reg.SAFE_STO_CFG_DISC_TIME))
  s.timed .discClear i (latched && !a && b) (ms (10 * s.f Reg.SAFE_STO_CFG_DISC_CLEAR))

/-- An SBC request is accepted: it is reported once the module is in service, and its cause is present until the release (R504). -/
def State.sbcRequest (s : State) : State :=
  if s.operable || s.module == .safe then
    (s.addF Reg.SAFE_COUNTERS 3).raise { code := Ev.SBC_REQUEST, lasting := true }
  else s

/-- SBC is released (R504). -/
def State.sbcRelease (s : State) : State :=
  let s := s.setOn .stoState 4 false
  let s := if s.operable || s.module == .safe then s.note Ev.SBC_RELEASED else s
  s.clearCause Ev.SBC_REQUEST

/-- One sample of a pair: two agreeing samples change its state, and the first sample after a warm restart is enough for a request; under a
latched discrepancy, which acts as a request, neither a request nor a release is a new one (R490, R493, R494). -/
def State.samplePair (s : State) (i : Nat) (a b : Bool) : State :=
  let req := !(a && !b)
  let agree := s.on .stoSample i == req
  let was := s.on .stoState i
  let s := if req && !agree && i < 4 then s.setV .stoFirst i (s.now : Nat) else s
  let s := (s.setOn .stoSample i req).pairWindows i a b
  if req && !was && (agree || s.on .stoAfter) then
    if s.discLatched i then s.setOn .stoState i true
    else if i < 4 then s.stoRequest i
    else (s.setOn .stoState 4 true).sbcRequest
  else if !req && was && agree then
    if s.discLatched i then s.setOn .stoState i false
    else if i < 4 then s.stoRelease i
    else s.sbcRelease
  else s

/-- The first use of a sample after a warm restart, and every sample of pair S: the five pairs by their levels, and SBC at the brakes
(R490, R493, R504). -/
def State.samplePairs (s : State) (levels : BitVec 10) : State :=
  let s := (s.setF Reg.SAFE_INPUTS_STO 0 (bits levels.toNat 7 0 : Nat)).setF Reg.SAFE_INPUTS_SBC 0 (bits levels.toNat 9 8 : Nat)
  let s := s.each (List.range 5) fun s i => s.samplePair i (levels.toNat.testBit (2 * i)) (levels.toNat.testBit (2 * i + 1))
  let s := s.setOn .stoAfter 0 false
  s.setFb Reg.SAFE_STATUS_SBC_REQ 0 (s.on .stoState 4 || s.fb Reg.SAFE_STATUS_SBC_DISC)

/-- The check of EN_SW at the drivers in the first sample 1 ms or more after the first one that showed the request (R498). -/
def State.swCheck (s : State) (g : Nat) (present : Bool) : State :=
  if s.on .stoCheck g && s.vn .stoFirst g + ms 1 ≤ s.now then
    let s := s.setOn .stoCheck g false
    if present then s.stoFail g 2 else s
  else s

/-- The path comparison of a group: the read-backs of EN_HW, EN_SW and the driver enable against pair S's own evaluation; 5 ms of
disagreement are a path fault (R496, R497). -/
def State.pathCheck (s : State) (g : Nat) (hw sw drv : Bool) : State :=
  let expect := !s.on .stoSample g && !s.on .stoTest g
  s.timed .path g ((hw != expect || (drv && !(hw && sw))) && !s.on .pathFault g) (ms 5)

/-- A sample of pair S every 100 us: the levels of STO1A, STO1B to STO4B, SBCA, SBCB, and the read-backs of EN_HW, EN_SW and the
driver enables of the groups. Nothing is sampled while pair S restarts or is stopped (R493). -/
def execSafetySample (levels : BitVec 10) (hw sw drv : BitVec 4) (s : State) : Host.Outcome State Fault Refusal :=
  done (s.expire .safety 0 fun s =>
    let s := s.openSlow .safety 0 (us 100)
    if s.sBusy then s
    else
      let s := s.samplePairs levels
      let s := s.each (List.range 4) fun s g =>
        (((s.swCheck g (sw.toNat.testBit g)).pathCheck g (hw.toNat.testBit g) (sw.toNat.testBit g) (drv.toNat.testBit g)).stoRestore g)
      s.brakeSync)

/-- A pair has been equal for DISC_TIME: the discrepancy latches and acts as a request (R494). -/
def execStoDiscrepancy (pair : Fin 5) (s : State) : Host.Outcome State Fault Refusal :=
  let i := pair.val
  done (s.expire .disc i fun s =>
    let s := s.addF Reg.SAFE_COUNTERS 1
    if i < 4 then
      let s := (s.safeBit Reg.SAFE_STATUS_DISC i true).raise
        { code := Ev.STO_DISCREPANCY, inst := i, d0 := i, reaction := 6, lasting := true }
      if s.on .stoState i then s.safeBit Reg.SAFE_STATUS_STO_REQ i true else s.stoRequest i
    else
      let s := (s.setFb Reg.SAFE_STATUS_SBC_DISC 0 true).setFb Reg.SAFE_STATUS_SBC_REQ 0 true
      let s := if s.on .stoState 4 then s else (s.setOn .stoState 4 true).sbcRequest
      (s.raise { code := Ev.SBC_DISCREPANCY, inst := i, lasting := true }).brakeSync)

/-- DISC_CLEAR has passed: the latch clears and the pair is evaluated normally (R495). -/
def execDiscrepancyCleared (pair : Fin 5) (s : State) : Host.Outcome State Fault Refusal :=
  let i := pair.val
  done (s.expire .discClear i fun s =>
    if i < 4 then
      let s := (s.safeBit Reg.SAFE_STATUS_DISC i false).clearCause Ev.STO_DISCREPANCY i
      if s.on .stoState i then s else s.stoRelease i
    else
      let s := ((s.setFb Reg.SAFE_STATUS_SBC_DISC 0 false).setFb Reg.SAFE_STATUS_SBC_REQ 0 (s.on .stoState 4)).clearCause Ev.SBC_DISCREPANCY i
      if s.on .stoState 4 then s else s.sbcRelease)

/-- The paths have disagreed for 5 ms (R497). -/
def execPathDisagree (group : Fin 4) (s : State) : Host.Outcome State Fault Refusal :=
  let g := group.val
  done (s.expire .path g fun s =>
    let s := (s.setOn .pathFault g true).setFb Reg.SAFE_STATUS_PATH_FAULT 0 true
    s.raise { code := Ev.PATH_DISAGREE, inst := g, d0 := g, reaction := s.f Reg.SAFE_STO_CFG_PATH_REACTION,
              stages := Stage.ofGroup g, lasting := true, nextStart := true })

/-! ### The internal test (R499 to R502) -/

/-- The test of a group starts: EN_SW is removed, so the line falls (R499). -/
def State.stoTestStart (s : State) (g : Nat) : State :=
  let was : Nat := if (s.f Reg.SAFE_STATUS_EN_SW).testBit g then 2 else 1
  ((s.setV .stoTest g was).addF Reg.SAFE_COUNTERS 2).writeEnSw g false

/-- Every stage of a group has been STOPPED or SAFE for 10 ms. -/
def State.groupIdle (s : State) (g : Nat) : Bool :=
  (Stage.ofGroup g).all fun t => (s.st t == .stopped || s.st t == .safe) && s.vn .stgSince t.idx + ms 10 ≤ s.now

/-- The last test or request of a group is older than AUTO_TEST. -/
def State.testOld (s : State) (g : Nat) : Bool := s.vn .stoLast g + sec (600 * s.f Reg.SAFE_STO_CFG_AUTO_TEST) < s.now

/-- An idle group, or an ARM that waits for it, starts the internal test. -/
def execStoAutoTest (group : Fin 4) (t : Nat) (s : State) : Host.Outcome State Fault Refusal :=
  let g := group.val
  let s := { s with now := max s.now t }
  let waits := (Stage.ofGroup g).any fun t => s.on .armWait t.idx
  done (if !s.on .stoTest g && (s.operable || s.module == .safe) && (waits || (s.groupIdle g && s.testOld g)) then s.stoTestStart g else s)

/-- The three read-backs of the test of R499: the driver enable falls when EN_SW goes and when the hard-wired path is forced, and is present
again when both enables are. -/
def stoPass (drv : BitVec 3) : Bool := drv == 4

/-- The test ends with the read-backs of the driver enable in its three steps: a pass returns the EN_SW that the group had before it, restarts its times and arms the stages that wait; after a
failure, which latches, EN_SW stays removed (R490, R499 to R501). -/
def execStoGroupTestEnd (group : Fin 4) (drv : BitVec 3) (t : Nat) (s : State) : Host.Outcome State Fault Refusal :=
  let g := group.val
  let s := { s with now := max s.now t }
  done (if !s.on .stoTest g then s
    else
      let was := s.vn .stoTest g == 2
      let s := (s.setOn .stoTest g false).setEnable Reg.SAFE_STATUS_EN_HW g (!s.on .hwReq g)
      let waiting := (Stage.ofGroup g).filter fun t => s.on .armWait t.idx
      let s := s.each (Stage.ofGroup g) fun s t => s.setOn .armWait t.idx false
      if stoPass drv then
        let held := s.on .stoState g || (s.f Reg.SAFE_STATUS_DISC).testBit g || s.on .pathFault g
          || (s.f Reg.SAFE_STATUS_TEST_FAIL).testBit g
        let s := if was && !held then s.writeEnSw g true else s
        (s.stoTested g).each waiting fun s t => if s.operable && s.st t == .stopped && (s.armBar t).isNone then s.armStage t else s
      else s.stoFail g 0)

/-- A group has gone 24 h without a passed test or a request (R502). -/
def execStoTestDue (group : Fin 4) (s : State) : Host.Outcome State Fault Refusal :=
  let g := group.val
  done (s.expire .stoDue g fun s =>
    (s.safeBit Reg.SAFE_STATUS_TEST_DUE g true).raise { code := Ev.STO_TEST_DUE, inst := g, d0 := g, lasting := true })

/-- At READY: the stages of a group that shows a request enter SAFE, a failed test carries out its reaction (R492, R501), and an SBC
request that stands is reported. -/
def State.safetyReady (s : State) : State :=
  (s.when (s.on .stoState 4) State.sbcRequest).each (List.range 4) fun s g =>
    let s := if (s.f Reg.SAFE_STATUS_STO_REQ).testBit g then (s.addF Reg.SAFE_COUNTERS 0).stoSafe g else s
    if (s.f Reg.SAFE_STATUS_TEST_FAIL).testBit g then
      s.each (Stage.ofGroup g) fun s t => s.carryOut t (s.f Reg.SAFE_STO_CFG_TEST_REACTION) Ev.STO_TEST_FAIL g false
    else s

/-! ### Brakes (R503 to R508) -/

/-- A write of SAFE.BRK_CMD (R505, R506, R519): refused whole when it sets the bit of a brake with FAILED and BLOCK_RELEASE. -/
def State.brakeCmdBar (s : State) (v : Nat) : Bool :=
  [0, 1].any fun k => v.testBit k && s.fb Reg.SAFE_BRK_STATUS_FAILED k && s.fb Reg.SAFE_BRK_CFG_BLOCK_RELEASE k

def State.brakeCmd (s : State) (v : Nat) : State :=
  let s := s.setF Reg.SAFE_BRK_CMD 0 v
  (s.each [0, 1] fun s k => if v.testBit k then s.setOn .brkReq k true else (s.brakeApply k).setOn .brkReq k false).brakeSync

/-- The output fault of a brake clears. -/
def State.brakeClear (s : State) (k : Nat) : State :=
  ((s.close .brkClear k).setFb Reg.SAFE_BRK_STATUS_OUT_FAULT k false).clearCause Ev.BRAKE_OUTPUT_FAULT k

/-- An output fault of a brake (R508): its condition is 1 a failed switch check, 2 low current, 3 the current limiter. One in the SLOW
cycle in which the 100 ms without a condition end is a new one (R33). -/
def State.brakeFault (s : State) (k cond : Nat) : State :=
  let s := if s.ended Clk.slow .brkClear k then s.brakeClear k else s
  if s.fb Reg.SAFE_BRK_STATUS_OUT_FAULT k then s.close .brkClear k
  else
    let st := s.f Reg.SAFE_BRK_CFG_STAGE k
    ((s.setFb Reg.SAFE_BRK_STATUS_OUT_FAULT k true).raise
      { code := Ev.BRAKE_OUTPUT_FAULT, inst := k, src := st, d0 := k, d1 := cond, reaction := s.f Reg.SAFE_BRK_CFG_FAULT_REACTION k,
        stages := (Stage.ofNat? st).toList, lasting := true }).brakeSync

/-- The node behind the opened switch is where R507 asks: below 4 V behind the high-side switch, within 4 V of VAUX behind the low-side one. -/
def nodeGood (obs : BrakeObs) : Bool := match obs.switch with
  | .none => true
  | .high => obs.node < 4000
  | .low => obs.vaux ≤ obs.node + 4000

/-- A switch check of a released brake, and its current: below 100 mA for 100 ms, or at the limiter for 10 ms, is a fault (R507, R508). -/
def execBrakeSwitchCheck (brake : Fin 2) (obs : BrakeObs) (t : Nat) (s : State) : Host.Outcome State Fault Refusal :=
  let s := { s with now := max s.now t }
  let k := brake.val
  done (if !s.fb Reg.SAFE_BRK_STATUS_RELEASED k then s
    else
      let s := (s.timed .brkLow k (obs.current < 100) (ms 100)).timed .brkLimit k obs.limiting (ms 10)
      if !nodeGood obs then s.brakeFault k 1
      else if s.ended Clk.slow .brkLow k then (s.close .brkLow k).brakeFault k 2
      else if s.ended Clk.slow .brkLimit k then (s.close .brkLimit k).brakeFault k 3
      else s)

/-- The check of an applied brake's nodes; a fault clears once its condition has been absent for 100 ms while the brake is applied. -/
def execBrakeAppliedCheck (brake : Fin 2) (obs : BrakeRest) (t : Nat) (s : State) : Host.Outcome State Fault Refusal :=
  let s := { s with now := max s.now t }
  let k := brake.val
  done (if s.fb Reg.SAFE_BRK_STATUS_RELEASED k then s
    else if 4000 < obs.high || 4000 < obs.low then s.brakeFault k 1
    else if !s.fb Reg.SAFE_BRK_STATUS_OUT_FAULT k then s
    else match s.due .brkClear k with
      | none => s.openSlow .brkClear k (ms 100)
      | some e => if s.now < e then s else s.brakeClear k)

/-! ### Brake test (R509 to R513) -/

/-- The first failing condition of BRAKE_TEST on brake k (R509). -/
def State.brakeTestBar (s : State) (k : Nat) : Option Nat :=
  let fb := s.f Reg.SAFE_BRK_CFG_FB k
  let n := s.f Reg.SAFE_BRK_CFG_BT_SLOT k
  let runs : Bool := match Stage.ofNat? (s.f Reg.SAFE_BRK_CFG_STAGE k) with
    | some t => s.st t == .running && !(s.stg t).stopping
    | none => false
  if s.module != .run then some 1
  else if !runs then some 2
  else if !(s.fb Reg.FB_STATUS_VALID fb && s.fb Reg.FB_STATUS_REF_OK fb) then some 3
  else if !(s.fb Reg.SLOT_MODE_MODE n && s.limitFactor n = 1000) then some 4
  else if s.fb Reg.SAFE_BRK_STATUS_RELEASED k || s.now < s.vn .brkAt k + ms (10 * s.f Reg.SAFE_BRK_CFG_APPLY_TIME k) then some 5
  else if s.fb Reg.SAFE_STATUS_BT_RUN then some 6
  else none

/-- The test starts (R510 steps 1 and 2). -/
def State.brakeTestStart (s : State) (k : Nat) : State :=
  let s := s.setV .btPos0 k (s.fbPos (s.f Reg.SAFE_BRK_CFG_FB k))
  let s := ((s.setF Reg.SAFE_BRK_STATUS_TEST k 1).setFb Reg.SAFE_STATUS_BT_RUN 0 true).setF Reg.SAFE_BRK_RESULT k 0
  let s := (s.setV .btPhase k 1).setV .btAt k (s.now : Nat)
  (s.setOn .btNeg k (s.f Reg.SAFE_BRK_TEST_DIR k == 1)).openSlow .brakeTest k (ms 100)

/-- HOURS of a brake in 0.1 h, saturating (R513). -/
def State.brakeHours (s : State) (k : Nat) : Nat := min 65535 (((s.now : Int) - s.v .brkSince k).toNat / sec 360)

/-- The instant at which HOURS reaches INTERVAL. -/
def State.brakeDueWindow (s : State) (k : Nat) : State :=
  s.setDue .btDue k (some (s.v .brkSince k + (sec 360 * s.f Reg.SAFE_BRK_INTERVAL_INTERVAL k : Nat)).toNat)

/-- A brake test passes (R510 steps 6 and 7). -/
def State.brakePassed (s : State) (k : Nat) : State :=
  let s := ((s.setF Reg.SAFE_BRK_STATUS_TEST k 2).setFb Reg.SAFE_STATUS_BT_RUN 0 false).setV .btPhase k 0
  let s := (s.setFb Reg.SAFE_BRK_STATUS_FAILED k false).setFb Reg.SAFE_BRK_STATUS_DUE k false
  let s := ((s.setF Reg.SAFE_BRK_STATUS_HOURS k 0).setV .brkSince k (s.now : Nat)).brakeDueWindow k
  let s := (s.clearCause Ev.BRAKE_TEST_FAILED k).clearCause Ev.BRAKE_TEST_DUE k
  ((s.addF Reg.SAFE_COUNTERS 4).report { code := Ev.BRAKE_TEST_PASSED, src := s.f Reg.SAFE_BRK_CFG_STAGE k, d0 := k }).brakeSync

/-- A phase of the test ends: ramp, hold, ramp to zero, the other direction, and the pass (R510). -/
def execBrakeTestPhaseEnd (brake : Fin 2) (s : State) : Host.Outcome State Fault Refusal :=
  let k := brake.val
  done (s.expire .brakeTest k fun s =>
    if s.f Reg.SAFE_BRK_STATUS_TEST k != 1 then s
    else
      let next (p : Nat) (len : Nat) (s : State) : State := ((s.setV .btPhase k p).setV .btAt k (s.now : Nat)).openSlow .brakeTest k len
      match s.vn .btPhase k with
      | 1 => next 2 (sec (s.f Reg.SAFE_BRK_TEST_TIME k)) s
      | 2 => next 3 (ms 100) s
      | _ =>
        if s.f Reg.SAFE_BRK_TEST_DIR k == 2 && !s.on .btNeg k then next 1 (ms 100) (s.setOn .btNeg k true) else s.brakePassed k)

/-- HOURS reaches INTERVAL (R513). -/
def execBrakeTestDue (brake : Fin 2) (s : State) : Host.Outcome State Fault Refusal :=
  let k := brake.val
  done (s.expire .btDue k fun s =>
    let st := s.f Reg.SAFE_BRK_CFG_STAGE k
    let s := (s.setFb Reg.SAFE_BRK_STATUS_DUE k true).setF Reg.SAFE_BRK_STATUS_HOURS k (s.brakeHours k)
    s.raise { code := Ev.BRAKE_TEST_DUE, inst := k, src := st, d0 := k, reaction := s.f Reg.SAFE_BRK_INTERVAL_DUE_REACTION k,
              stages := (Stage.ofNat? st).toList, lasting := true })

/-! ### Contactors and precharge (R514 to R519) -/

/-- u_link and u_batt as the precharge reads them, in 2^-16 V (R517). -/
def State.preLink (s : State) : Int := hvVolts (s.linkAcc 6)
def State.preBatt (s : State) : Int := hvVolts (s.linkAcc 7)

/-- u_link is at least a percentage of u_batt. -/
def State.preAbove (s : State) (pct : Nat) : Bool := s.preBatt * pct ≤ s.preLink * 100

/-- A driver is on. -/
def State.cdrOn (s : State) (d : Nat) : Bool := d < 6 && (s.f Reg.SAFE_CON_STATUS_ON).testBit d

/-- PRE_OK and the running precharge follow the latest AVG of the link (R517, R518); in the SLOW cycle in which PRE_TIME ends it is too
late for PRE_OK (R33). -/
def State.preEval (s : State) : State :=
  let done' := s.f Reg.SAFE_PRECHARGE_PRE_DONE
  if s.fb Reg.SAFE_CON_STATUS_PRE_RUN && s.preAbove done' then
    if s.ended Clk.slow .pre then s else
    ((s.setFb Reg.SAFE_CON_STATUS_PRE_RUN 0 false).setFb Reg.SAFE_CON_STATUS_PRE_OK 0 true).close .pre |>.clearCause Ev.PRECHARGE_TIMEOUT
  else if s.fb Reg.SAFE_CON_STATUS_PRE_OK && !s.cdrOn (s.f Reg.SAFE_PRECHARGE_MAIN_CDR) && !s.preAbove done' then
    s.setFb Reg.SAFE_CON_STATUS_PRE_OK 0 false
  else s

/-- The drivers change, by a write of pair S: the windows of their feedbacks open, and PRE_OK clears with both precharge drivers off (R515, R518). -/
def State.drivers (s : State) (v : Nat) : State :=
  let old := s.f Reg.SAFE_CON_STATUS_ON
  let s := (s.protect .drivers old).setF Reg.SAFE_CON_STATUS_ON 0 v
  let s := s.each (List.range 8) fun s n =>
    let d := s.f Reg.SAFE_CFB_CFG_CDR n
    if d < 6 && old.testBit d != v.testBit d then
      ((s.openSlow .cfb n (ms (10 * s.f Reg.SAFE_CONTACTOR_CFB_TIME))).setV .cfbAt n 0).setV .cfbOk n 0
    else s
  if s.cdrOn (s.f Reg.SAFE_PRECHARGE_PRE_CDR) || s.cdrOn (s.f Reg.SAFE_PRECHARGE_MAIN_CDR) then s
  else (((s.setFb Reg.SAFE_CON_STATUS_PRE_OK 0 false).setFb Reg.SAFE_CON_STATUS_PRE_RUN 0 false).close .pre).close .weld

/-- The stages that contactor faults act on. -/
def State.conStages (s : State) : List Stage := Stage.ofMask (s.f Reg.SAFE_CONTACTOR_STAGES)

/-- OPEN_ON_FAULT: every driver goes off OPEN_DELAY after the reactions begin (R516). -/
def State.openOnFault (s : State) : State :=
  if s.fb Reg.SAFE_CONTACTOR_OPEN_ON_FAULT && !s.isOpen .cdrOpen then
    s.openSlow .cdrOpen 0 (ms (s.f Reg.SAFE_CONTACTOR_OPEN_DELAY))
  else s

/-- A contactor is welded: latched until the next start (R515, R517). -/
def State.welded (s : State) (d cfb : Nat) : State :=
  if s.faultAt Ev.CONTACTOR_WELDED d then s
  else
    let s := (s.safeBit Reg.SAFE_CON_STATUS_WELDED d true).addF Reg.SAFE_COUNTERS 6
    (s.raise { code := Ev.CONTACTOR_WELDED, inst := d, d0 := d, d1 := cfb, reaction := s.f Reg.SAFE_CONTACTOR_WELD_REACTION,
               stages := s.conStages, lasting := true, nextStart := true }).openOnFault

/-- A feedback is wrong for a driver that is on. -/
def State.mismatch (s : State) (n d : Nat) : State :=
  if s.present Ev.CONTACTOR_MISMATCH n then s
  else
    ((s.addF Reg.SAFE_COUNTERS 6).raise
      { code := Ev.CONTACTOR_MISMATCH, inst := n, d0 := d, d1 := n, reaction := s.f Reg.SAFE_CONTACTOR_MISMATCH_REACTION,
        stages := s.conStages, lasting := true }).openOnFault

/-- A monitored feedback has been unexpected for its time: CFB_TIME after a change of the driver, otherwise FILTER. A level that is expected
again at the end instant comes too late (R33). -/
def State.cfbEnded (s : State) (n : Nat) : Bool := match s.due .cfb n with
  | some e => e ≤ s.now
  | none => s.on .cfbAt n && s.vn .cfbAt n + ms (s.f Reg.SAFE_CFB_CFG_FILTER n) ≤ s.now

/-- A monitored feedback has been expected for its FILTER. -/
def State.cfbGood (s : State) (n : Nat) : Bool := s.on .cfbOk n && s.vn .cfbOk n + ms (s.f Reg.SAFE_CFB_CFG_FILTER n) ≤ s.now

/-- The evaluation of one monitored feedback (R515). -/
def State.cfbCheck (s : State) (n : Nat) (level : Bool) : State :=
  let d := s.f Reg.SAFE_CFB_CFG_CDR n
  if 6 ≤ d then s
  else
    let on := s.cdrOn d
    let good := level == (on == s.fb Reg.SAFE_CFB_CFG_POLARITY n)
    let s := s.safeBit Reg.SAFE_CON_STATUS_UNEXPECTED n (!good)
    let s := if s.cfbEnded n then
        let s := s.close .cfb n
        if on then s.mismatch n d else s.welded d n
      else s
    if good then
      let s := (s.close .cfb n).setV .cfbAt n 0
      let s := if s.on .cfbOk n then s else s.setV .cfbOk n (s.now : Nat)
      if s.cfbGood n then s.clearCause Ev.CONTACTOR_MISMATCH n else s
    else
      let s := if s.cfbGood n then s.clearCause Ev.CONTACTOR_MISMATCH n else s
      let s := s.setV .cfbOk n 0
      if s.isOpen .cfb n || s.on .cfbAt n then s else s.setV .cfbAt n (s.now : Nat)

/-- Pair S evaluates every monitored feedback each millisecond. -/
def execContactorCheck (levels : BitVec 8) (s : State) : Host.Outcome State Fault Refusal :=
  done (s.expire .cfbCheck 0 fun s =>
    let s := s.openSlow .cfbCheck 0 (ms 1)
    if s.sBusy then s
    else (s.setF Reg.SAFE_CON_STATUS_CFB 0 levels.toNat).each (List.range 8) fun s n => s.cfbCheck n (levels.toNat.testBit n))

/-- A write of SAFE.CDR_CMD would close MAIN_CDR without PRE_OK (R518). -/
def State.closeBarred (s : State) (v : Nat) : Bool :=
  let m := s.f Reg.SAFE_PRECHARGE_MAIN_CDR
  s.fb Reg.SAFE_PRE_TIME_PRE_ENFORCE && m < 6 && v.testBit m && !s.cdrOn m && !s.fb Reg.SAFE_CON_STATUS_PRE_OK

/-- The refusal of R518. -/
def State.closeRefused (s : State) : State := (s.addF Reg.SAFE_COUNTERS 7).note Ev.CLOSE_REFUSED (s.f Reg.SAFE_PRECHARGE_MAIN_CDR)

/-- The start of a precharge (R517). -/
def State.preStart (s : State) : State :=
  let s := ((s.setFb Reg.SAFE_CON_STATUS_PRE_RUN 0 true).setFb Reg.SAFE_CON_STATUS_PRE_OK 0 false).setV .preAt 0 (s.now : Nat)
  let s := (s.openSlow .pre 0 (ms (10 * s.f Reg.SAFE_PRE_TIME_PRE_TIME))).clearCause Ev.PRECHARGE_TIMEOUT
  let s := if s.preAbove (s.f Reg.SAFE_PRECHARGE_WELD_FRAC) then s.note Ev.PRECHARGE_INCONCLUSIVE
    else s.openSlow .weld 0 (ms (s.f Reg.SAFE_PRECHARGE_WELD_TIME))
  s.preEval

/-- An accepted write of SAFE.CDR_CMD: the drivers follow, and a precharge may start. -/
def State.cdrCmd (s : State) (v : Nat) : State :=
  let p := s.f Reg.SAFE_PRECHARGE_PRE_CDR
  let start := p < 6 && v.testBit p && !s.cdrOn p && !s.cdrOn (s.f Reg.SAFE_PRECHARGE_MAIN_CDR)
  let s := (s.setF Reg.SAFE_CDR_CMD 0 v).drivers v
  if start then s.preStart else s

/-- WELD_TIME after the start: the main contactor is welded when the link has risen already. -/
def execPrechargeWeldCheck (s : State) : Host.Outcome State Fault Refusal :=
  done (s.expire .weld 0 fun s =>
    if s.preAbove (s.f Reg.SAFE_PRECHARGE_WELD_FRAC) && s.f Reg.SAFE_PRECHARGE_MAIN_CDR < 6 then
      s.welded (s.f Reg.SAFE_PRECHARGE_MAIN_CDR) 8
    else s)

/-- The precharge judged by the latest AVG just before PRE_TIME ends (R517). -/
def State.preLast (s : State) : State := match s.due .pre with
  | some e => ({ s with now := max s.now (e - 1) } : State).preEval
  | none => s

/-- PRE_TIME expires without PRE_OK. -/
def execPrechargeTimeout (s : State) : Host.Outcome State Fault Refusal :=
  done (s.preLast.expire .pre 0 fun s =>
    ((s.setFb Reg.SAFE_CON_STATUS_PRE_RUN 0 false).raise
      { code := Ev.PRECHARGE_TIMEOUT, reaction := s.f Reg.SAFE_CONTACTOR_MISMATCH_REACTION, stages := s.conStages,
        lasting := true }).openOnFault)

/-- OPEN_DELAY after a contactor fault every driver is off; they stay off until SAFE.CDR_CMD is written. -/
def execContactorOpenDelay (s : State) : Host.Outcome State Fault Refusal := done (s.expire .cdrOpen 0 fun s => s.drivers 0)

end Sys2Proof.Machine
end

