-- ==== Sys2Proof/Machine/Motion.lean ====
section
/-!
DEFINITION. Events that several units see at once: the carrier events of a stage (R153 to R158, R231, R241, R294, R388), their
substitutes (R156), the excitation peaks (R153, R216), and the edges of an encoder (R205, R209, R479).
-/

namespace Sys2Proof.Machine

/-- What a carrier event of a stage at an instant reaches after its carrier, with the results of the cores since their last event: the cores and
accumulators, two SAMPLE cycles after the first SAMPLE edge at or after it (R153), the feedback unit, the slots, for L the regulator, and the precharge that watches the link. -/
def State.stageEvent (s : State) (t : Stage) (middle : Bool) (at' : Nat) (conv : List Conv) : State :=
  let v := visibleAt at'
  let s := ((s.carrierEvent t middle v conv).fbEvent t middle false v).slotEvent t middle v
  (if t == .L then s.regEvent middle at' else s).preEval

/-- PERIOD_START of a running carrier; `conv` are the results of the cores since the last event. -/
def execPeriodStart (t : Stage) (conv : List Conv) (s : State) : Host.Outcome State Fault Refusal :=
  done (if s.isOpen .periodStart t.idx then (s.carrierPeriod t).stageEvent t false ((s.due .periodStart t.idx).getD 0) conv else s)

/-- PERIOD_MIDDLE of a running carrier. -/
def execPeriodMiddle (t : Stage) (conv : List Conv) (s : State) : Host.Outcome State Fault Refusal :=
  done (if s.isOpen .periodMiddle t.idx then (s.carrierMiddle t).stageEvent t true ((s.due .periodMiddle t.idx).getD 0) conv else s)

/-- A substitute event of a stage at a core while the stage's carrier does not run: IDLE_PERIOD after the last visible event, PERIOD_MIDDLE
halfway; it is visible in the SAMPLE cycle in which it falls (R156). The stage's own core takes it to the feedback unit and the slots. -/
def execSubstituteEvent (core : Fin 4) (t : Stage) (middle : Bool) (conv : List Conv) (s : State) :
    Host.Outcome State Fault Refusal :=
  let c := core.val
  let i := c * 8 + t.idx
  let len := us (s.f Reg.SMP_CORE_CFG_IDLE_PERIOD c)
  let e := s.vn .substBase i + (if middle then len / 2 else len)
  done (if s.fb Reg.PULSE_STATUS_RUN t.idx || !s.powered || (middle && s.on .substMid i) then s
    else
      let s := { s with now := max s.now e }
      let s := if middle then s.setOn .substMid i true else (s.setV .substBase i e).setOn .substMid i false
      let s := (s.setFb Reg.SMP_CORE_STATUS_SUBST c (s.fb Reg.SMP_CORE_STATUS_SUBST c || s.tableSelects c t.idx middle)).coreEvent c
        t.idx middle true (sampleCycle e) (convOf conv c)
      (if t.core == c then (s.fbEvent t middle true (sampleCycle e)).slotEvent t middle (sampleCycle e) else s).preEval)

/-- A positive or negative peak of the excitation of a resolver, at its core (R153, R216); the next one is half a period later. -/
def execExcitationPeak (resolver : Fin 2) (conv : List Conv) (s : State) : Host.Outcome State Fault Refusal :=
  let n := resolver.val
  let e := (s.due .excPeak n).getD 0
  done (s.expire .excPeak n fun s =>
    let neg := s.on .excNeg n
    ((s.setOn .excNeg n (!neg)).setDue .excPeak n (some (e + s.excPeriod n / 2))).coreEvent n 7 neg false (visibleAt e) (convOf conv n))

/-- Levels of A and B that have been accepted up to an instant. -/
def execEncoderEdge (channel : Fin 8) (pins : List PinChange) (t : Nat) (s : State) : Host.Outcome State Fault Refusal :=
  fbDone channel (s.fbInputs channel pins t)

/-- A level of Z that has been accepted up to an instant. -/
def execIndexQualified (channel : Fin 8) (pins : List PinChange) (t : Nat) (s : State) : Host.Outcome State Fault Refusal :=
  fbDone channel (s.fbInputs channel pins t)

end Sys2Proof.Machine
end

