-- ==== Sys2Proof/Machine/Recorder.lean ====
section
/-!
DEFINITION. The event recorder (chapter 16): the record layout, writing from the queue, the rebuild at start, the full log, reading
and clearing.
-/

namespace Sys2Proof.Machine

/-! ### The record and the log (R563 to R566, R569) -/

/-- The 32 bytes of a record (Table 16-1): its MARK is (SEQ mod 65,536) XOR 0x5A5A (R565). -/
def Rec.bytes (r : Rec) : List Byte :=
  if r.raw.length = 32 then r.raw
  else
    let l := le 6 r.seq ++ le 2 r.code ++ le 1 (r.stage % 8 + (if r.exempt then 8 else 0) + 16 * r.reaction)
      ++ le 1 (r.modState % 16 + 16 * (r.stgState % 8) + (if r.degraded then 128 else 0))
      ++ le 2 r.group ++ le 2 r.startNo ++ le 2 r.suppressed ++ le 4 r.d0 ++ le 4 r.d1 ++ le 4 r.d2
    l ++ le 2 (crc16 l) ++ le 2 (((r.seq % 65536) ^^^ 0x5A5A : Nat) : Int)

/-- NEXT, the sequence number of the next record. -/
def State.logNext (s : State) : Nat := s.log.base + s.log.recs.length

/-- SUMMARY's log head and tail: both all ones in a module whose log has never held a record (R580). -/
def State.logHead (s : State) : Nat := if s.logNext == 0 then 2 ^ 48 - 1 else s.log.base
def State.logTail (s : State) : Nat := if s.logNext == 0 then 2 ^ 48 - 1 else s.logNext - 1

/-! ### Writing (R568, R571, R576, R577) -/

/-- Append a record with the next sequence number. -/
def State.append (s : State) (r : Rec) : State :=
  let r : Rec := { r with seq := s.logNext, raw := [], corrupt := false }
  { s with log := { s.log with recs := s.log.recs ++ [r] } }.addF Reg.LOG_COUNTERS 0

/-- The record of an event of the recorder itself, written ahead of the queue, with its STATE.SEEN bit. -/
def State.appendOwn (s : State) (a : RepArg) : State := (s.markSeen a.code).append (s.mkRec a)

/-- LOG_FULL is written into the last slot (R577). -/
def State.fullCheck (s : State) : State :=
  if s.log.recs.length == 8191 then (s.appendOwn { code := Ev.LOG_FULL }).setOn .logFull 0 true else s

/-- What a written record, and the application of an image, bring about: LOG.STATUS.FILL_WARN, the fill warning, once per log, and
LOG_FULL in the last slot. -/
def State.fillCheck (s : State) : State :=
  let s : State := s.setOn .fillWarn 0 (s.f Reg.LOG_CFG_FILL_WARN ≤ s.log.recs.length)
  let s := if s.log.recs.length ≥ s.f Reg.LOG_CFG_FILL_WARN && !s.log.warned && s.log.recs.length < 8191 then
      let s := s.appendOwn { code := Ev.LOG_FILL_WARN }
      { s with log := { s.log with warned := true } }
    else s
  s.fullCheck

/-- The core that writes the log serves: pair V, or V0 (Table 15-2). -/
def State.writerRuns (s : State) : Bool := s.f Reg.CORE_STATUS_V0_STATE == 0 || s.f Reg.CORE_STATUS_V0_STATE == 3

/-- The queue has drained: reports lost to a full queue are reported (R551). -/
def State.drained (s : State) : State :=
  if s.queue.isEmpty && s.on .reportsLost && s.writerRuns then
    (s.setV .reportsLost 0 0).note Ev.REPORTS_LOST 0 (s.vn .reportsLost)
  else s

/-- The oldest queued report becomes part of the log; none does while the log is full, while a clear runs, while the writing core
restarts, or before the memory test has ended (R106). Its write passes through the posted write buffer behind the writes in it, for which
it waits while the buffer is full; they complete in their order, so that none of them is left when its mark completes (R126; log entry
200). -/
def State.recordWrite (s : State) : State := match s.queue with
  | [] => s
  | r :: rest =>
    if s.on .logFull || 8192 ≤ s.log.recs.length || s.on .clearing || !s.writerRuns || !s.powered || !(s.on .logBuilt || s.vn .memoryOk == 2) then s
    else (({ s with queue := rest }.append r).fillCheck).drained.setV .posted 0 0

/-- A queued report is written to MRAM, and its mark completes (R568, R569). -/
def execRecordWrite (s : State) : Host.Outcome State Fault Refusal := done s.recordWrite

/-! ### Rate limits (R573) -/

/-- The refill interval of a code in units of 100 ms. -/
def State.refillInterval (s : State) (code : Nat) : Nat := match s.rateEntry code with
  | some e => s.f Reg.LOG_RATE_INTERVAL e
  | none => s.f Reg.LOG_CFG_INTERVAL

/-- Every code that a chapter defines. -/
def Ev.allCodes : List Nat := Ev.highs.flatMap fun h => (Ev.lows h).map (h * 256 + ·)

/-- A refill window of a code's bucket ends: one token is added, up to BURST, and the next window begins there. -/
def execTokenRefill (code : Nat) (s : State) : Host.Outcome State Fault Refusal :=
  done (s.expire .refill code fun u =>
    let taken := s.due .refill code == some (s.vn .refillTaken code)
    let s := u.when (!taken) fun u => u.setV .tokensUsed code (u.v .tokensUsed code - 1 |> max 0)
    s.setDue .refill code (some (s.now + ms (100 * s.refillInterval code))))

/-! ### The rebuild (R570, R576, R582, R585) -/

/-- The bytes of a slot end the log: its MARK fails R565, or its CRC is right and its SEQ is another. -/
def endsLog (seq : Nat) (l : List Byte) : Bool :=
  ofLe ((l.drop 30).take 2) != ((seq % 65536) ^^^ 0x5A5A)
  || (crc16 (l.take 28) == ofLe ((l.drop 28).take 2) && ofLe (l.take 6) != seq)

/-- What a rebuild finds in a slot in place of what was written. -/
def refound (damage : List (Nat × List Byte)) (base : Nat) (r : Rec) : Rec :=
  match damage.find? fun d => d.1 == r.seq - base with
  | some d => { r with raw := d.2, corrupt := crc16 (d.2.take 28) != ofLe ((d.2.drop 28).take 2) }
  | none => r

/-- Step 3 of a clear: both copies of the management area hold the new BASE and the staged DETAIL words (Table 16-2). -/
def State.clearStage (s : State) : State :=
  let l := s.log
  { s with log := { base := s.logNext, recs := [], lostFull := 0, warned := false, clears := l.clears + 1,
                    staged := some (l.recs.length, l.lostFull % 2 ^ 32, l.base % 2 ^ 32) } }

/-- LOG_CLEARED takes slot 0, and what belonged to the old log ends (R584 steps 4 and 5, R585). -/
def State.clearEnd (s : State) (incomplete : Bool) : State := match s.log.staged with
  | none => s
  | some (d0, d1, d2) =>
    let s := s.appendOwn { code := Ev.LOG_CLEARED, d0 := d0 + (if incomplete then 2 ^ 31 else 0), d1 := d1, d2 := d2 }
    let s := { s with log := { s.log with staged := none } }
    ((s.setOn .fillWarn 0 false).setOn .logFull 0 false).setF Reg.LOG_CURSOR_OFFSET 0 0

/-- The rebuild of step 1 of the start after the memory test, with the bytes that MRAM holds where they are not those written, and what the
two copies of the management area hold. With neither copy correct the start ends under cause 0x9; a correct copy of an interrupted clear has
the higher BASE and is the one used (R582, R585). -/
def State.rebuild (s : State) (damage : List (Nat × List Byte)) (copyA copyB : MgmtCopy) : State :=
  if !copyA.good && !copyB.good then s.setV .memoryOk 0 2
  else
    let cut := s.on .clearCut && ((copyA.good && copyA.cleared) || (copyB.good && copyB.cleared))
    let s := (s.when cut State.clearStage).setOn .clearCut 0 false
    let base := s.log.base
    let recs := (s.log.recs.map (refound damage base)).takeWhile fun r => !endsLog r.seq r.bytes
    let s := { s with log := { s.log with recs := recs } }
    let s := (s.setOn .logFull 0 (recs.length == 8192)).setOn .clearing 0 false
    let s := s.each (recs.filter Rec.corrupt) fun s r => (s.addF Reg.LOG_COUNTERS 3).note Ev.CORRUPT_RECORD (r.seq - base)
    let s := if !copyA.good then s.note Ev.MGMT_REPAIRED 0 else if !copyB.good then s.note Ev.MGMT_REPAIRED 1 else s
    let s := s.clearEnd true
    let s : State := s.setOn .fillWarn 0 (s.f Reg.LOG_CFG_FILL_WARN ≤ s.log.recs.length)
    let s : State := s.fullCheck
    s.each Ev.allCodes fun s c =>
      s.setDue .refill c (some ((s.now / Clk.slow + 1) * Clk.slow + ms (100 * s.refillInterval c)))

/-! ### Clearing (R583, R584) -/

/-- An accepted clear begins: from now on reports enter the queue again (R577, R584). -/
def State.clearStart (s : State) : State := s.setOn .clearing 0 true

/-- The clear completes: the new BASE is in force and LOG_CLEARED stands in slot 0. -/
def execClearDone (s : State) : Host.Outcome State Fault Refusal :=
  done (if s.on .clearing then ((s.clearStage).clearEnd false).setOn .clearing 0 false else s)

/-! ### Reading (R579, R581) -/

/-- The reply data of LOG_READ. -/
def State.logRead (s : State) (start count : Nat) : List Byte :=
  let base := s.log.base
  let l := (s.log.recs.drop (start - base)).take count
  let mask := (l.zipIdx.filter fun x => x.1.corrupt).foldl (fun a x => a + 2 ^ x.2) 0
  le 6 base ++ le 6 s.logNext ++ le 1 l.length ++ le 1 (if start < base then 1 else 0) ++ le 2 mask ++ l.flatMap Rec.bytes

/-- Word k of the cursor window. -/
def State.windowWord (s : State) (k : Nat) : Nat := match s.log.recs[s.f Reg.LOG_CURSOR_OFFSET]? with
  | some r => ofLe ((r.bytes.drop (4 * k)).take 4)
  | none => 0

/-- A read of LOG.WINDOW.07 advances the cursor, up to 8,192. -/
def State.cursorAdvance (s : State) : State := s.setF Reg.LOG_CURSOR_OFFSET 0 (min 8192 (s.f Reg.LOG_CURSOR_OFFSET + 1) : Nat)

end Sys2Proof.Machine
end

