-- ==== Sys2Proof/Machine/Net.lean ====
section
/-!
DEFINITION. What the services send through: sections of the running image, the transmit FIFOs of the CAN channels (R669, R670), and
frames sent on fabric ports (R591, R592, R649).
-/

namespace Sys2Proof.Machine

/-! ### Sections of the running image (R78) -/

/-- The bytes of a section; none when the image has no such section. -/
def State.section? (s : State) (ty : Nat) : List Byte := match s.image.find? fun x => x.1 == ty with
  | some x => x.2
  | none => []

/-- A little-endian number of k bytes at an offset, 0 beyond the end. -/
def numAt (l : List Byte) (o k : Nat) : Nat := ofLe ((l.drop o).take k)

/-! ### The receive map of the CAN channels (Tables 19-4, 19-5) -/

/-- The number of receive entries of a CAN_FILTERS_AND_MAP section, and the offset of one. -/
def canRxCount (l : List Byte) : Nat := numAt l 0 2
def rxAt (i : Nat) : Nat := 1552 + 16 * i

/-- The CAN_FILTERS_AND_MAP section of the running image. -/
def State.canMap (s : State) : List Byte := s.section? 5

/-- The receive map entry of a channel and key, matched in bits 29:0 (Table 19-5). -/
def State.rxEntry (s : State) (ch key : Nat) : Option Nat :=
  let l := s.canMap
  (List.range (canRxCount l)).find? fun i => numAt l (rxAt i + 4) 1 == ch && numAt l (rxAt i) 4 % 2 ^ 30 == key % 2 ^ 30

/-- KIND of a receive entry: 0 PARAM, 1 SERVICE. -/
def State.rxKind (s : State) (i : Nat) : Nat := numAt s.canMap (rxAt i + 5) 1

/-! ### CAN transmit FIFO (R669, R670, R679) -/

/-- Frames in the FIFO of a channel. -/
def State.txFill (s : State) (ch : Nat) : Nat := (s.canTx.filter fun t => t.ch == ch).length

/-- The fill levels of STATUS follow the queues and the FIFO. -/
def State.canSync (s : State) (ch : Nat) : State :=
  let n := fun q => (s.canRx.filter fun e => e.ch == ch && e.queue == q).length
  ((s.setF Reg.CAN_STATUS_Q0_FILL ch (n 0)).setF Reg.CAN_STATUS_Q1_FILL ch (n 1)).setF Reg.CAN_STATUS_TX_FILL ch (s.txFill ch)

/-- A channel whose FIFO takes frames: on the bus and not in restricted operation. -/
def State.canOpen (s : State) (ch : Nat) : Bool :=
  let st := s.f Reg.CAN_STATUS_STATE ch
  2 ≤ st && st ≤ 5

/-- A frame enters the FIFO tail. -/
def State.canPush (s : State) (t : TxFrame) : State := { s with canTx := s.canTx ++ [t] }.canSync t.ch

/-- A frame that cannot enter is refused, counted and reported. -/
def State.canRefuse (s : State) (ch : Nat) : State := (s.addF Reg.CAN_COUNTERS ch 1 7).note Ev.TX_FULL ch

/-- A frame reaches the FIFO; the Bool says whether it entered. -/
def State.canOffer (s : State) (t : TxFrame) (urgent : Bool) : Bool × State :=
  let limit := if urgent then 32 else s.f Reg.CAN_TX_CFG_NORMAL_LIMIT t.ch
  if s.canOpen t.ch && s.txFill t.ch < limit then (true, s.canPush t) else (false, s.canRefuse t.ch)

/-! ### Fabric frames (R591 to R595) -/

/-- The 64-bit unique ID (R710). -/
def State.uid (s : State) : Nat := s.f Reg.ID_UID 0 + 2 ^ 32 * s.f Reg.ID_UID 1

/-- The module's node address. -/
def State.address (s : State) : Nat := s.f Reg.FAB_STATUS_ADDRESS

/-- A port carries every kind of frame. -/
def State.verified (s : State) (p : Nat) : Bool := s.f Reg.FAB_PORT_STATUS_STATE p == 3

/-- The EtherType in use: 0x88B5 until the image is applied (R591, R601). -/
def State.etherType (s : State) : Nat := if s.on .imageApplied then s.f Reg.FAB_CFG_ETHERTYPE else 0x88B5

/-- A frame of this module (Table 17-1). -/
def State.ownFrame (s : State) (kind flags dst seq hops : Nat) (body : List Byte) : Frame :=
  { ether := s.etherType, mac := s.uid % 2 ^ 40, version := 1, kind := kind, flags := flags, dst := dst, src := s.address,
    length := body.length, seq := seq, hops := hops, zeros := true, hcrc := true, fcs := true, body := body }

/-- The class of a frame at an egress port (R621). -/
def frameClass (f : Frame) : Nat := if f.kind = 5 then 1 else if f.kind = 6 then 2 else 3

/-- A byte on the wire at 1 Gbit/s, in VCO cycles. -/
def byteTime : Nat := 24

/-- How long a frame holds a port: preamble, MAC addresses, EtherType, header and body padded to 46 bytes, FCS and inter-frame gap, as R622
counts 294 bytes for 256. -/
def wireTime (f : Frame) : Nat := byteTime * (38 + max 46 (16 + f.body.length))

/-- A frame begins to leave on a port at an instant. -/
def State.depart (s : State) (p : Nat) (f : Frame) (bad : Bool) (t : Nat) : State :=
  ((s.addF Reg.FAB_PORT_COUNTERS p 1 1).setV .portEnd p (t + wireTime f : Nat)).emit (.fabric p f bad)

/-- The frame that a free port takes next: of the highest class, the first that arrived (R621). -/
def State.nextEgress (s : State) (p : Nat) : Option Egress :=
  [1, 2, 3].findSome? fun c => s.egress.find? fun e => e.port == p && e.cls == c

/-- The frames that a port has begun to send up to this instant, each when the one before it has left; at most `n`. -/
def State.drainPort (p : Nat) : Nat → State → State
  | 0, s => s
  | n + 1, s => match s.nextEgress p with
    | none => s
    | some e =>
      if s.now < s.vn .portEnd p then s
      else drainPort p n ({ s with egress := s.egress.erase e }.depart p e.frame e.bad (s.vn .portEnd p))

/-- A port serves its queue up to this instant. -/
def State.servePort (s : State) (p : Nat) : State := s.drainPort p s.egress.length

/-- A frame goes to a port: it leaves at once when the port is idle, and otherwise waits behind the frame in progress and the frames that go
before it (R621); with `bad` its FCS is inverted (R594). -/
def State.sendOn (s : State) (p : Nat) (f : Frame) (bad : Bool := false) : State :=
  let s := s.servePort p
  if s.vn .portEnd p ≤ s.now then s.depart p f bad s.now
  else { s with egress := s.egress ++ [{ port := p, cls := frameClass f, frame := f, bad := bad }] }

/-- The last frame that began to leave on a port ends with the inverted FCS. -/
def spoil (p : Nat) : List Out → List Out
  | [] => []
  | .fabric q f b :: l => if q == p && l.all (fun o => match o with
      | .fabric r _ _ => r != p
      | _ => true) then .fabric q f true :: l else .fabric q f b :: spoil p l
  | o :: l => o :: spoil p l

/-- A port goes DOWN: the frame in progress on it ends with the inverted FCS, and every frame queued for it is discarded and counted
(R599). -/
def State.cutPort (s : State) (p : Nat) : State :=
  let s := s.servePort p
  let s : State := if s.now + 12 * byteTime < s.vn .portEnd p then { s with out := spoil p s.out } else s
  let s := s.addF Reg.FAB_PORT_COUNTERS p (s.egress.filter fun e => e.port == p).length 6
  { s with egress := s.egress.filter fun e => e.port != p }.setV .portEnd p 0

/-- A frame leaves on every VERIFIED port but one (4: on every one). -/
def State.flood (s : State) (f : Frame) (but : Nat) : State :=
  s.each ((List.range 4).filter fun p => p != but && s.verified p) fun s p => s.sendOn p f

/-- The downstream ports (R606). -/
def State.downPorts (s : State) : List Nat := (List.range 4).filter fun p => s.verified p && s.fb Reg.FAB_PORT_STATUS_DOWNSTREAM p

/-- The upstream port, if the module has one (R606). -/
def State.upPort (s : State) : Option Nat := (List.range 4).find? fun p => s.verified p && s.fb Reg.FAB_PORT_STATUS_UPSTREAM p

/-- The learned port of a SRC, which expires 1 s after its last frame (R624, R649). -/
def State.learned (s : State) (src : Nat) : Option Nat := match s.peers.find? fun p => p.src == src && s.now < p.ends with
  | some p => some p.port
  | none => none

/-- Send a frame with UP or TREE set as the flag of its kind says (R595): towards the root, or down the tree. -/
def State.sendUp (s : State) (f : Frame) : State := match s.upPort with
  | some p => s.sendOn p f
  | none => s

def State.sendTree (s : State) (f : Frame) : State := s.each s.downPorts fun s p => s.sendOn p f

/-- The next SEQ of a KIND. -/
def State.nextSeq (s : State) (kind : Nat) : Nat × State :=
  let n := (s.vn .fabSeq kind + 1) % 65536
  (n, s.setV .fabSeq kind n)

/-- The module is root. -/
def State.isRoot (s : State) : Bool := s.fb Reg.FAB_STATUS_ROOT

/-- Send one of the module's own service frames to an address (R649). -/
def State.sendService (s : State) (dst : Nat) (body : List Byte) : State :=
  let (n, s) := s.nextSeq 8
  if dst == 0x3FE || dst == 0x3FF then
    if s.isRoot then s.sendTree (s.ownFrame 8 2 dst n 0 body) else s.sendUp (s.ownFrame 8 1 dst n 0 body)
  else
    let f := s.ownFrame 8 0 dst n 0 body
    match s.learned dst with
    | some p => if s.verified p then s.sendOn p f else if s.address == 0x3FE then s.sendUp f else s.flood f 4
    | none => if s.address == 0x3FE then s.sendUp f else s.flood f 4

end Sys2Proof.Machine
end

