-- ==== Sys2Proof/Machine/Reply.lean ====
section
/-!
DEFINITION. The form of requests and replies of the service layer (Tables 18-7, 20-1 to 20-6, R699), the reply of a request with its
transport (R647, R648, R700), and authority (R696 to R698, R756).
-/

namespace Sys2Proof

/-! ### Codes and payloads (Tables 20-1, 20-2, 20-3, 20-5, 20-6) -/

/-- The SERVICE code. -/
def Svc.code : Svc → Nat
  | .read _ => 1
  | .write _ _ _ => 2
  | .command _ => 3
  | .challenge => 4
  | .malformed n => n
  | .unknown n => n

/-- The command code. -/
def Cmd.code : Cmd → Nat
  | .summary => 1 | .arm _ _ => 2 | .run _ _ => 3 | .stop _ _ => 4 | .openLoop _ => 5 | .closeLoop _ => 6 | .switchBack => 7
  | .logRead _ _ => 8 | .clearLog => 9 | .busRecover _ => 10 | .chargeStart => 11 | .chargeStop => 12 | .thermalRelease => 13
  | .brakeTest _ => 14 | .splitV => 15 | .joinV => 16 | .restart => 17 | .serviceEnter _ => 18 | .serviceExit => 19
  | .keyWrite _ _ => 20

/-- TARGET. -/
def Cmd.target : Cmd → Nat
  | .arm m _ => m | .run m _ => m | .stop m _ => m
  | .openLoop n => n | .closeLoop n => n | .busRecover n => n | .brakeTest n => n
  | _ => 0

/-- ARGS. -/
def Cmd.args : Cmd → List Byte
  | .logRead a n => Machine.le 6 a ++ Machine.le 1 n ++ Machine.le 5 0
  | .serviceEnter d => Machine.le 1 (if d then 1 else 0) ++ Machine.le 11 0
  | .keyWrite g c => Machine.le 4 g ++ Machine.le 4 c ++ Machine.le 4 0
  | _ => Machine.le 12 0

/-- The command of a code with its TARGET and ARGS; none for a code outside Table 20-6 or a non-zero unused byte. -/
def Cmd.ofBytes (code target : Nat) (args : List Byte) : Option Cmd :=
  let plain := target == 0 && args.all (· == 0)
  let noArgs := args.all (· == 0)
  let a : Bool → Cmd → Option Cmd := fun b c => if b then some c else none
  match code with
  | 1 => a plain .summary
  | 2 => a noArgs (.arm target [])
  | 3 => a noArgs (.run target [])
  | 4 => a noArgs (.stop target [])
  | 5 => a noArgs (.openLoop target)
  | 6 => a noArgs (.closeLoop target)
  | 7 => a plain .switchBack
  | 8 => a (target == 0 && (args.drop 7).all (· == 0)) (.logRead (Machine.ofLe (args.take 6)) (Machine.ofLe ((args.drop 6).take 1)))
  | 9 => a plain .clearLog
  | 10 => a noArgs (.busRecover target)
  | 11 => a plain .chargeStart
  | 12 => a plain .chargeStop
  | 13 => a plain .thermalRelease
  | 14 => a noArgs (.brakeTest target)
  | 15 => a plain .splitV
  | 16 => a plain .joinV
  | 17 => a plain .restart
  | 18 => a (target == 0 && Machine.ofLe (args.take 1) < 2 && (args.drop 1).all (· == 0)) (.serviceEnter (Machine.ofLe (args.take 1) == 1))
  | 19 => a plain .serviceExit
  | 20 => a (target == 0 && (args.drop 8).all (· == 0)) (.keyWrite (Machine.ofLe (args.take 4)) (Machine.ofLe ((args.drop 4).take 4)))
  | _ => none

/-- The payload bytes that precede the authority block; `auth` is the AUTH flag. -/
def Svc.payload (c : Svc) (auth : Bool) : List Byte :=
  let flag : Int := if auth then 1 else 0
  match c with
  | .read l => Machine.le 1 l.length ++ Machine.le 1 0
      ++ l.flatMap fun e => Machine.le 2 e.1 ++ Machine.le 1 e.2 ++ Machine.le 1 0
  | .write l _ _ => Machine.le 1 l.length ++ Machine.le 1 flag
      ++ l.flatMap fun e => Machine.le 2 e.index ++ Machine.le 1 e.sub ++ Machine.le 1 0 ++ Machine.le 4 e.value.toNat
  | .command c => Machine.le 1 c.code ++ Machine.le 1 flag ++ Machine.le 2 c.target ++ c.args
  | _ => []

/-- The entries of a READ: none when a reserved byte is not zero. -/
def readEntries : Nat → List Byte → Option (List (Nat × Nat))
  | 0, _ => some []
  | n + 1, a :: b :: c :: d :: l =>
    if d == 0 then (readEntries n l).map fun r => (Machine.ofLe [a, b], c.toNat) :: r else none
  | _ + 1, _ => none

/-- The entries of a WRITE. -/
def writeEntries : Nat → List Byte → Option (List WEntry)
  | 0, _ => some []
  | n + 1, a :: b :: c :: d :: w :: x :: y :: z :: l =>
    if d == 0 then
      (writeEntries n l).map fun r =>
        { index := Machine.ofLe [a, b], sub := c.toNat, value := BitVec.ofNat 32 (Machine.ofLe [w, x, y, z]) } :: r
    else none
  | _ + 1, _ => none

/-- The authority block of 80 bytes. -/
def AuthBlock.ofBytes (l : List Byte) : AuthBlock :=
  { challenge := BitVec.ofNat 128 (Machine.ofLe (l.take 16)), signature := (l.drop 16).take 64 }

/-- A payload as a request and its authority block. `exact` says that the payload's length is its own (the fabric and J1); on CAN it is
always 58 bytes, the bytes beyond the request are not looked at, and the block of a request with AUTH set need not fit (R701). -/
def Svc.parse (service : Nat) (l : List Byte) (exact : Bool) : Svc × Option AuthBlock :=
  let n := Machine.ofLe (l.take 1)
  let flag := Machine.ofLe ((l.drop 1).take 1)
  let fits : Nat → Nat → Bool := fun k tail => if exact then l.length == k + tail else k ≤ l.length
  let block : Nat → Option AuthBlock := fun o => if flag == 1 then some (AuthBlock.ofBytes (l.drop o)) else none
  if service == 1 then
    if 1 ≤ n && n ≤ 27 && flag == 0 && fits (2 + 4 * n) 0 then
      match readEntries n (l.drop 2) with
      | some r => (.read r, none)
      | none => (.malformed 1, none)
    else (.malformed 1, none)
  else if service == 2 then
    if 1 ≤ n && n ≤ (if flag == 1 then 17 else 27) && flag < 2 && fits (2 + 8 * n) (80 * flag) then
      match writeEntries n (l.drop 2) with
      | some r => (.write r [] [], block (2 + 8 * n))
      | none => (.malformed 2, none)
    else (.malformed 2, none)
  else if service == 3 then
    if flag < 2 && fits 16 (80 * flag) then
      match Cmd.ofBytes n (Machine.ofLe ((l.drop 2).take 2)) ((l.drop 4).take 12) with
      | some c => (.command c, block 16)
      | none => (.malformed 3, none)
    else (.malformed 3, none)
  else if service == 4 then (if fits 0 0 then .challenge else .malformed 4, none)
  else (.unknown service, none)

/-- A typed request keeps the limits of its tables: counts of entries by path and flag, COUNT of LOG_READ (R579, R686, R699). -/
def Svc.wellFormed (c : Svc) (r : Req) : Bool :=
  let can : Bool := match r.who with
    | .can _ _ => true
    | _ => false
  match c with
  | .read l => 1 ≤ l.length && l.length ≤ (if can then 14 else 27)
  | .write l _ _ => 1 ≤ l.length && l.length ≤ (if can then 7 else if r.auth.isSome then 17 else 27)
  | .command (.logRead a n) => a < 2 ^ 48 && 1 ≤ n && n ≤ 16
  | .command (.keyWrite g c) => g < 2 ^ 32 && c < 2 ^ 32
  | .command c => c.target < 65536
  | .malformed _ => false
  | _ => true

end Sys2Proof

namespace Sys2Proof.Machine

/-! ### Results and envelope STATUS (Tables 18-7, 20-4) -/

def Status.ok : Nat := 0
def Status.notReady : Nat := 1
def Status.notConfigured : Nat := 2
def Status.busy : Nat := 3
def Status.refused : Nat := 4
def Status.segmentError : Nat := 5
def Status.unknownService : Nat := 6

def Result.ok : Nat := 0
def Result.noParameter : Nat := 1
def Result.readOnly : Nat := 2
def Result.state : Nat := 3
def Result.range : Nat := 4
def Result.owned : Nat := 5
def Result.authRequired : Nat := 6
def Result.authFailed : Nat := 7
def Result.condition : Nat := 8
def Result.superseded : Nat := 9
def Result.busy : Nat := 10
def Result.notAvailable : Nat := 11

/-- A result of Table 20-4 and its DETAIL. -/
structure Res where
  code   : Nat
  detail : Nat
  deriving DecidableEq, Repr

def Res.ok : Res := { code := 0, detail := 0 }
def Res.of (code : Nat) : Res := { code := code, detail := 0 }
def Res.cond (n : Nat) : Res := { code := Result.condition, detail := n }

/-- A refusal is counted at the sub-index equal to its code (R688). -/
def State.countResult (s : State) (r : Res) : State := if r.code == 0 then s else s.addF Reg.SVC_COUNTERS r.code

/-- Sub-index .0C: malformed or dropped requests. -/
def State.countDropped (s : State) : State := s.addF Reg.SVC_COUNTERS 12

/-! ### Replies (R646 to R648, R700) -/

/-- The parts of a payload of at most k bytes, at least one part. -/
def segments (k : Nat) : Nat → List Byte → List (List Byte)
  | 0, _ => []
  | n + 1, l => if l.length ≤ k then [l] else l.take k :: segments k n (l.drop k)

/-- A reply on the fabric: segments of 224 bytes with consecutive SEQ (R647). -/
def State.fabricReply (s : State) (dst trans : Nat) (r : Reply) : State :=
  let parts := segments 224 16 r.payload
  s.each parts.zipIdx fun s x =>
    s.sendService dst (le 2 trans ++ le 1 r.service ++ le 1 (x.2 + 16 * (parts.length - 1) : Nat) ++ le 1 r.status ++ le 3 0
      ++ le 8 s.uid ++ x.1)

/-- A reply on CAN: segments of 58 bytes as FD frames of 64 bytes with the key of SVC.CAN_REPLYn; a segment that the FIFO refuses ends
the reply (R700). -/
def State.canReply (s : State) (ch trans : Nat) (brs : Bool) (r : Reply) : State :=
  let parts := segments 58 32 r.payload
  (parts.zipIdx.foldl (fun (a : Bool × State) x =>
    if a.1 then
      let data := le 2 trans ++ le 1 r.service ++ le 1 r.status ++ le 1 x.2 ++ le 1 (parts.length - 1 : Nat) ++ x.1
      a.2.canOffer { ch := ch, fd := true, entry := none, sa := false,
                     frame := { key := a.2.f Reg.SVC_CAN_REPLY ch, dlc := 15, brs := brs, esi := false,
                                data := data ++ List.replicate (64 - data.length) 0 } } false
    else a) (true, s)).2

/-- A reply leaves on the path of its request. -/
def State.sendReply (s : State) (r : Req) (rep : Reply) : State :=
  let s := s.emit (.reply r.who r.trans rep)
  match r.who with
  | .fab src => s.fabricReply src r.trans rep
  | .mac _ => s.fabricReply 0x3FE r.trans rep
  | .can ch _ => s.canReply (ch % 4) r.trans r.brs rep
  | .j1 => s

/-- The last reply of each of up to 64 requesters is kept, in the order in which they were served; a requester that drops out of the
list loses its window CONTROLs (R648, R722). -/
def State.keep (s : State) (r : Req) (rep : Reply) : State :=
  let l := s.kept.filter (fun k => k.who != r.who) ++ [{ who := r.who, trans := r.trans, time := s.now, reply := rep }]
  if l.length ≤ 64 then { s with kept := l }
  else { s with kept := l.drop 1, windows := s.windows.filter fun w => (l.drop 1).any fun k => k.who == w.who }

/-- Answer a request: a served request is counted, a malformed one as well; the reply is kept unless the request was turned away. -/
def State.answer (s : State) (r : Req) (service status : Nat) (payload : List Byte) : State :=
  let rep : Reply := { service := service, status := status, payload := payload }
  let s := if status == Status.ok then s.addF Reg.SVC_COUNTERS 0 else if status == Status.refused then s.countDropped else s
  let s := if status == Status.notReady || status == Status.notConfigured || status == Status.busy then s else s.keep r rep
  s.sendReply r rep

/-- The reply of a command (Table 20-5): a refusal is counted, and data follow with result OK or for stage masks. -/
def State.answerCmd (s : State) (r : Req) (c : Cmd) (x : Res) (data : List Byte) : State :=
  (s.countResult x).answer r 3 Status.ok
    (le 1 c.code ++ le 1 x.code ++ le 2 x.detail ++ (if x.code == 0 || (2 ≤ c.code && c.code ≤ 4) then data else []))

/-- The kept reply of a request that repeats one of the last second (R648). -/
def State.repeatOf (s : State) (r : Req) : Option Reply :=
  match s.kept.find? fun k => k.who == r.who && k.trans == r.trans && s.now < k.time + sec 1 with
  | some k => some k.reply
  | none => none

/-! ### Authority (R696 to R698, R756) -/

/-- DETAIL words that name a requester and a command (R756). -/
def authDetail (r : Req) (c : Svc) : Nat × Nat × Nat :=
  let cmd : Nat := match c with
    | .command c => c.code
    | _ => 0
  let d0 := c.code % 256 + 256 * cmd
  match r.who with
  | .fab src => (d0, src % 1024, 0)
  | .mac a => (d0 + 65536, a % 2 ^ 32, a / 2 ^ 32 % 256)
  | .can ch key => (d0 + 2 * 65536, key % 2 ^ 32, ch % 4)
  | .j1 => (d0 + 3 * 65536, 0, 0)

/-- A report that names the requester and the command. -/
def State.noteAuth (s : State) (code : Nat) (r : Req) (c : Svc) : State :=
  let (d0, d1, d2) := authDetail r c
  s.note code d0 d1 d2

/-- The lockout is in force: its window has not ended (R698, R33). -/
def State.lockedOut (s : State) : Bool := s.fb Reg.SVC_STATUS_LOCKOUT && !s.ended Clk.slow .lockout 0

/-- A verification fails: it is counted, and the fifth failure of a window starts the lockout (R698). -/
def State.authFailure (s : State) (r : Req) (c : Svc) : State :=
  let s := s.noteAuth Ev.AUTH_FAILED r c
  let s := if s.isOpen .authFail && !s.ended Clk.slow .authFail 0 then s.addF Reg.SVC_STATUS_FAILS 0
    else (s.openSlow .authFail 0 (sec 60)).setF Reg.SVC_STATUS_FAILS 0 1
  if s.f Reg.SVC_STATUS_FAILS == 5 then
    ((s.setFb Reg.SVC_STATUS_LOCKOUT 0 true).openSlow .lockout 0 (sec 60)).noteAuth Ev.AUTH_LOCKOUT r c
  else s

/-- The message that a signature covers (R696). -/
def State.authMessage (s : State) (b : AuthBlock) (c : Svc) : List Byte :=
  le 16 b.challenge.toNat ++ le 8 s.uid ++ le 1 c.code ++ c.payload true

/-- Open challenges, as SVC.STATUS shows them. -/
def State.setChallenges (s : State) (l : List Challenge) : State :=
  { s with challenges := l }.setF Reg.SVC_STATUS_OPEN 0 l.length

/-- The verification of a request's authority block: whether the request carries valid authority, whether its block failed, and the
state after it (R697, R698). -/
def State.verify (s : State) (r : Req) (c : Svc) : Bool × Bool × State := match r.auth with
  | none => (false, false, s)
  | some b =>
    if s.lockedOut then (false, true, s)
    else
      let mine := s.challenges.find? fun k => k.who == r.who
      let ok : Bool := match mine with
        | some k => k.value == b.challenge && s.now < k.ends && ownerSigned (s.authMessage b c) b.signature
        | none => false
      let s := s.setChallenges (s.challenges.filter fun k => k.who != r.who)
      if ok then (true, false, s.noteAuth Ev.AUTH_ACCEPTED r c) else (false, true, s.authFailure r c)

/-- CHALLENGE: a new challenge replaces the requester's open one, and a ninth requester's the oldest (R697). -/
def State.serveChallenge (s : State) (r : Req) : State :=
  if s.lockedOut then s.answer r 4 Status.busy []
  else
    let v := Config.random (s.vn .challengeNo)
    let s := s.addV .challengeNo 0 1
    let l := s.challenges.filter fun k => k.who != r.who && s.now < k.ends
    let l := if 8 ≤ l.length then l.drop 1 else l
    let s := s.setChallenges (l ++ [{ who := r.who, value := v, ends := s.now / Clk.slow * Clk.slow + sec 10 }])
    s.answer r 4 Status.ok (le 16 v.toNat)

/-- The window of a requester's challenge ends. -/
def State.challengeExpiry (s : State) (who : Requester) : State := match s.challenges.find? fun k => k.who == who with
  | none => s
  | some k => { s.setChallenges (s.challenges.filter fun k => k.who != who) with now := max s.now k.ends }

/-- 10 s after its issue a challenge is no longer open (R697). -/
def execChallengeExpiry (who : Requester) (s : State) : Host.Outcome State Fault Refusal := done (s.challengeExpiry who)

/-- The lockout ends after 60 s (R698). -/
def execLockoutEnd (s : State) : Host.Outcome State Fault Refusal :=
  done (s.expire .lockout 0 fun s => s.setFb Reg.SVC_STATUS_LOCKOUT 0 false)

/-- The window of failed verifications ends (R698). -/
def execAuthFailWindowEnd (s : State) : Host.Outcome State Fault Refusal :=
  done (s.expire .authFail 0 fun s => s.setF Reg.SVC_STATUS_FAILS 0 0)

end Sys2Proof.Machine
end

