-- ==== Sys2Proof/Machine/View.lean ====
section
/-!
DEFINITION. What reads show: the words that are computed at the read (Tables 21-3 to 21-11, 16-4 to 16-7), parameter reads (R689,
R707), the table windows (R721 to R727), and the capture of SUMMARY (R703, R704, Table 20-8).
-/

namespace Sys2Proof

/-- The number of data bytes of a DLC code. -/
def Machine.dlcBytes (dlc : Nat) : Nat := [0, 1, 2, 3, 4, 5, 6, 7, 8, 12, 16, 20, 24, 32, 48, 64].getD dlc 64

/-- The number of data bytes of a frame: a remote frame has none, a classical one at most 8. -/
def CanFrame.size (f : CanFrame) : Nat :=
  if f.key.testBit 30 then 0 else if f.key.testBit 31 then Machine.dlcBytes f.dlc else min 8 (Machine.dlcBytes f.dlc)

/-- The data of a frame, zero beyond what is given. -/
def CanFrame.bytes (f : CanFrame) : List Byte := (f.data ++ List.replicate 64 0).take f.size

end Sys2Proof

namespace Sys2Proof.Machine

/-! ### Words computed at the read -/

/-- STATE.FAULT word w (R713). -/
def State.faultWord (s : State) (w : Nat) : Nat :=
  let codes := s.causes.filterMap fun c => if c.alive then some c.code else none
  let logs := [Ev.LOG_FILL_WARN, Ev.LOG_FULL, Ev.CORRUPT_RECORD].filter s.logCause
  (codes ++ logs).foldl (fun a c => if Ev.w c == w then a ||| 2 ^ Ev.b c else a) 0

/-- STATE.STAGE of a stage (Table 21-7). -/
def State.stageWord (s : State) (t : Stage) : Nat :=
  let c := s.stg t
  let sto := s.on .stoState t.group || (s.f Reg.SAFE_STATUS_DISC).testBit t.group
  c.lastEvent % 65536 + 2 ^ 16 * (c.reaction % 16) + (if s.stageLatched t then 2 ^ 20 else 0) + (if sto then 2 ^ 21 else 0)
    + 2 ^ 22 * c.state.code

/-- ATTN.STATUS (Table 21-11). -/
def State.attnWord (s : State) : Nat :=
  (List.range 18).foldl (fun a w => if s.attnSubsys w then a + 2 ^ w else a) 0
    + (if s.module == .starting || s.module == .unconfigured then 2 ^ 18 else 0)
    + (if s.fb Reg.ATTN_CFG_SAFE_ATTN && s.module == .safe then 2 ^ 19 else 0)
    + (if s.fb Reg.ATTN_CFG_DEGRADED_ATTN && s.degradedWord != 0 then 2 ^ 20 else 0)
    + (if s.on .attn && !s.attnCond then 2 ^ 21 else 0) + (if s.on .attn then 2 ^ 31 else 0)

/-- STATE.MODULE (Table 21-5). -/
def State.moduleWord (s : State) : Nat :=
  s.module.code + 2 ^ 4 * (s.vn .startStep % 16) + (if s.on .attn then 2 ^ 8 else 0) + (if s.degradedWord != 0 then 2 ^ 9 else 0)
    + 2 ^ 16 * (s.vn .moduleEvent % 65536)

/-- LOG.STATUS (Table 16-5). -/
def State.logWord (s : State) : Nat :=
  s.log.recs.length + (if s.on .fillWarn then 2 ^ 14 else 0) + (if s.on .logFull then 2 ^ 15 else 0)
    + (if s.on .clearing then 2 ^ 16 else 0) + (if s.log.recs.any Rec.corrupt then 2 ^ 17 else 0) + 2 ^ 24 * min 255 s.queue.length

/-- LOG.CURSOR (Table 16-7). -/
def State.cursorWord (s : State) : Nat :=
  let o := s.f Reg.LOG_CURSOR_OFFSET
  o + (match s.log.recs[o]? with
    | some r => if r.corrupt then 2 ^ 15 else 0
    | none => 2 ^ 14)

/-- Milliseconds since the present start (R710). -/
def State.uptime (s : State) : Nat := min ((s.now - s.vn .startAt) / ms 1) (2 ^ 32 - 1)

/-- Powered time in 0.1 h (R710). -/
def State.poweredTime (s : State) : Nat :=
  min ((s.vn .poweredBase + (if s.powered then s.now - s.vn .startAt else 0)) / sec 360) (2 ^ 32 - 1)

/-- The carrier counter of a stage: it counts up and down in CENTRE, and up in every other mode (Table 8-1); 0 while it stands. -/
def State.carrierCount (s : State) (t : Stage) : Nat :=
  if s.fb Reg.PULSE_STATUS_RUN t.idx then
    let e := (subOf s.now - s.vn .perStart t.idx) / 64
    let p := s.f Reg.PULSE_PERIOD_NOW t.idx / 64
    if s.f Reg.PULSE_STATUS_MODE t.idx == 0 && p / 2 < e then p - e else e
  else 0

/-- Write a whole word. -/
def State.putWord (s : State) (key v : Nat) : State := s.setWord key (BitVec.ofNat 32 v)

/-- Debug actions leave the replay buffer 2 CORE cycles after they entered it (R559). -/
def State.replaySync (s : State) : State :=
  if s.now < s.vn .replayAt + 2 * Clk.core then s else s.setF Reg.CORE_DEBUG_REPLAY 0 0

/-- The state with every word that is computed at a read brought up to this instant. -/
def State.live (s : State) : State :=
  let s := s.chgSync.replaySync.each (List.range 8) State.fbLive
  let s := s.each (List.range 4) fun s c => s.cmpTake c (sampleCycle s.now)
  let s := s.each ((List.range 128).filter fun a => s.on .accAt a && sampleCycle s.now < s.vn .accAt a + 44) fun s a =>
    s.each ((List.range' 1 5).map fun j => (j, s.accWord a j (sampleCycle s.now))) fun s x =>
      s.setWord (Reg.SMP_ACC_AVG.key a (x.1 - 1)) x.2
  let s := s.each (List.range 4) State.canSync
  let s := s.each (List.range 48) fun s n => s.setFb Reg.SLOT_STATUS_REF_WAIT n (s.refWait n)
  let s := s.each Stage.all fun s t => (s.putWord (0x001200 + t.idx) (s.stageWord t)).setF Reg.PULSE_COUNT t.idx (s.carrierCount t)
  let s := s.each (List.range 18) fun s w => s.putWord (0x001400 + w) (s.faultWord w)
  let s := ((s.putWord 0x001000 s.moduleWord).putWord 0x001300 s.degradedWord).putWord 0x002000 s.attnWord
  let s := (s.putWord 0x000600 s.poweredTime).putWord 0x000700 s.uptime
  let s := ((s.putWord 0x1B0000 s.logWord).putWord 0x1B0100 (s.log.base % 2 ^ 32)).putWord 0x1B0101 (s.log.base / 2 ^ 32)
  let s := (s.putWord 0x1B0200 (s.logNext % 2 ^ 32)).putWord 0x1B0201 (s.logNext / 2 ^ 32)
  let s := (s.putWord 0x1B0402 (min s.log.lostFull (2 ^ 32 - 1))).putWord 0x1B0405 (min s.log.clears (2 ^ 32 - 1))
  let s := (s.each (List.range 8) fun s k => s.putWord (0x1B0900 + k) (s.windowWord k)).putWord 0x1B0800 s.cursorWord
  let s := s.each [0, 1] fun s k => s.setF Reg.SAFE_BRK_STATUS_HOURS k (s.brakeHours k)
  let s := s.setFb Reg.FO_STATUS_PATH 0 (s.faultBit Ev.PATH_MISMATCH)
  let s := s.setF Reg.SVC_STATUS_OPEN 0 (s.challenges.filter fun k => s.now < k.ends).length
  let s := (s.setF Reg.SVC_STATUS_HELD 0 s.held.length).setF Reg.PULSE_SYNC_IN_PERIOD 0 s.syncInPeriod
  if s.f Reg.CLK_STATUS_STATE == 3 then
    s.setF Reg.CLK_STATUS_HOLDOVER_S 0 (min 65535 ((s.now - s.vn .holdoverAt) / sec 1) : Nat)
  else s

/-! ### CAN queue window (R660, R661, R725) -/

/-- An entry belongs to a host. -/
def CanEntry.ownedBy (e : CanEntry) (who : Requester) : Bool := e.owner == .host who

/-- The entry that a requester's window shows on a channel. -/
def State.shownEntry (s : State) (who : Requester) (ch : Nat) : Option CanEntry :=
  s.canRx.find? fun e => e.ch == ch && e.shown && e.ownedBy who

/-- Change one entry. -/
def State.updEntry (s : State) (e : CanEntry) (k : CanEntry → CanEntry) : State :=
  { s with canRx := s.canRx.map fun x => if x.ch == e.ch && x.queue == e.queue && x.slot == e.slot then k x else x }

/-- The oldest FILLED entry of a target: in Q0, otherwise in Q1 (R660). -/
def State.oldest (s : State) (ch : Nat) (host : Bool) : Option CanEntry :=
  let l := s.canRx.filter fun e => e.ch == ch && e.host == host && e.owner == .free
  match l.find? fun e => e.queue == 0 with
  | some e => some e
  | none => l.find? fun e => e.queue == 1

/-- The end of ACK_TIMEOUT for an entry taken now (R662). -/
def State.ackEnd (s : State) (ch : Nat) : Nat := s.now / Clk.slow * Clk.slow + ms (s.f Reg.CAN_QUEUE_CFG_ACK_TIMEOUT ch)

/-- The take of a host; the Bool says whether an entry was taken. -/
def State.hostTake (s : State) (who : Requester) (ch : Nat) : Bool × State := match s.oldest ch true with
  | none => (false, s)
  | some e =>
    if s.f Reg.CAN_QUEUE_CFG_OWN_MAX ch ≤ (s.canRx.filter fun x => x.ch == ch && x.queue == e.queue && x.ownedBy who).length then
      (false, s)
    else
      let s := { s with canRx := s.canRx.map fun (x : CanEntry) =>
        if x.ch == ch && x.ownedBy who then { x with shown := false } else x }
      (true, s.updEntry e fun x => { x with owner := .host who, ends := s.ackEnd ch, shown := true })

/-- HANDLE (Table 19-3). -/
def CanEntry.handle (e : CanEntry) : Nat := e.slot % 64 + 64 * (e.queue % 2) + 256 * (e.gen % 256)

/-- The 80 bytes of an entry (Table 19-2). -/
def CanEntry.bytes (e : CanEntry) : List Byte :=
  let f := e.frame
  le 4 f.key ++ le 1 (f.dlc % 16 + (if f.brs then 16 else 0) + (if f.esi then 32 else 0) : Nat) ++ le 1 e.pair ++ le 2 e.handle
    ++ le 4 e.stamp ++ le 4 0 ++ (f.bytes ++ List.replicate 64 0).take 64

/-! ### Table windows (R721 to R727) -/

/-- The CONTROL of a requester's window. -/
def State.winControl (s : State) (who : Requester) (w : Nat) : Nat := match s.windows.find? fun c => c.who == who && c.window == w with
  | some c => c.control.toNat
  | none => 0

/-- SELECT names a table of Table 21-15. -/
def selectOk (w sel : Nat) : Bool :=
  if w = 0 then (1 ≤ sel && sel ≤ 9) || sel == 0xF0
  else if w = 1 then sel < 64
  else if w = 2 then sel < 4
  else sel == 0

/-- Bytes of the 48-byte colony table entry of a node (R610). -/
def Node.bytes (n : Node) : List Byte := (n.body ++ List.replicate 40 0).take 40 ++ le 1 n.missed ++ le 1 (if n.refused then 1 else 0) ++ le 6 0

/-- Nodes in ascending unique ID. -/
def insertNode (n : Node) : List Node → List Node
  | [] => [n]
  | m :: l => if n.uid ≤ m.uid then n :: m :: l else m :: insertNode n l

def sortNodes (l : List Node) : List Node := l.foldr insertNode []

/-- SIZE of a selected table in words. -/
def State.winSize (s : State) (who : Requester) (w sel : Nat) : Nat :=
  if w = 0 then ((s.section? sel).length + 3) / 4
  else if w = 1 then (if s.f Reg.SMP_BUF_CFG_SIZE_LOG2 sel == 0 then 0 else 2 ^ s.f Reg.SMP_BUF_CFG_SIZE_LOG2 sel)
  else if w = 2 then (if (s.shownEntry who sel).isSome then 20 else 0)
  else if w = 3 then 262144
  else if s.isRoot then 12 * s.colony.length else 0

/-- Word i of a selected table. -/
def State.winWord (s : State) (who : Requester) (w sel i : Nat) : Nat :=
  if w = 0 then numAt (s.section? sel) (4 * i) 4
  else if w = 1 then
    ofLe ((List.range 4).map fun b => Store.get State.ramReset s.sram (s.f Reg.SMP_BUF_CFG_BASE sel * 256 + 4 * i + b))
  else if w = 2 then (match s.shownEntry who sel with
    | some e => numAt e.bytes (4 * i) 4
    | none => 0)
  else if w = 3 then ofLe ((List.range 4).map fun b => Store.get State.ramReset s.staging (4 * i + b))
  else numAt ((sortNodes s.colony).flatMap Node.bytes) (4 * i) 4

/-- A read of word `sub` of window w: its result and value; `taken` says whether the READ's take of the CAN queue window failed. -/
def State.winRead (s : State) (who : Requester) (w sub : Nat) (barred : Bool) : Res × Nat :=
  let c := s.winControl who w
  let sel := c / 2 ^ 24
  let off := c % 2 ^ 24
  let size := s.winSize who w sel
  if sub = 0 then (Res.ok, c)
  else if sub = 1 then
    let present := if w = 4 then s.isRoot else size != 0
    let frozen := w == 1 && s.fb Reg.SMP_BUF_CONTROL_FROZEN sel
    (Res.ok, size + (if present then 2 ^ 24 else 0) + (if frozen then 2 ^ 25 else 0) + (if w == 2 && size != 0 then 2 ^ 26 else 0))
  else if sub < 16 || 80 ≤ sub then (Res.of Result.noParameter, 0)
  else if w = 2 then
    if 36 ≤ sub then (Res.of Result.range, 0)
    else if barred || size == 0 then (Res.of Result.busy, 0)
    else (Res.ok, s.winWord who 2 sel (sub - 16))
  else if w = 4 && !s.isRoot then (Res.of Result.notAvailable, 0)
  else if size ≤ off + (sub - 16) then (Res.of Result.range, 0)
  else (Res.ok, s.winWord who w sel (off + (sub - 16)))

/-! ### READ (R689, R707) -/

/-- The index of a table window. -/
def winOf (index : Nat) : Option Nat :=
  if index % 256 = 0 && 0x8000 ≤ index && index ≤ 0x8400 then some ((index - 0x8000) / 256) else none

/-- The key of an index and sub-index. -/
def keyOf (index sub : Nat) : Nat := 256 * index + sub

/-- Result and value of one entry of a READ, on the state that `live` gives. -/
def State.readEntry (s : State) (who : Requester) (barred : List Nat) (e : Nat × Nat) : Res × Nat :=
  match winOf e.1 with
  | some w => s.winRead who w e.2 (w == 2 && barred.contains 2)
  | none =>
    if e.1 < 0x2000 && e.2 < 256 && (Map.word (keyOf e.1 e.2)).isSome then (Res.ok, (s.word (keyOf e.1 e.2)).toNat)
    else (Res.of Result.noParameter, 0)

/-- A READ that names AVG of an accumulator shows the other words of the read set that AVG belongs to (R163); `v` is the state that `live`
gives. -/
def State.wholeSets (s v : State) (l : List (Nat × Nat)) : State :=
  v.each ((List.range 128).filter fun a => l.contains (Reg.SMP_ACC_AVG.key a / 256, 1)) fun v a =>
    v.each (List.range' 1 5) fun v j => v.setWord (Reg.SMP_ACC_AVG.key a (j - 1)) (s.accSet a j (sampleCycle s.now) 44)

/-- A READ: the take of R725 when it names DATA .10 of the CAN queue window, all values of one instant, and the cursor's advance when it
names LOG.WINDOW.07. -/
def State.serveRead (s : State) (r : Req) (l : List (Nat × Nat)) : State :=
  let takes := l.contains (0x8200, 16)
  let (ok, s) := if takes then s.hostTake r.who (s.winControl r.who 2 / 2 ^ 24) else (true, s)
  let v := s.wholeSets s.live l
  let out := l.map fun e => (e, v.readEntry r.who (if ok then [] else [2]) e)
  let s := if l.contains (0x1B09, 7) then s.cursorAdvance else s
  let s := s.each out fun s x => s.countResult x.2.1
  s.answer r 1 Status.ok (le 1 l.length ++ le 1 0 ++ out.flatMap fun x =>
    le 2 x.1.1 ++ le 1 x.1.2 ++ le 1 x.2.1.code ++ le 4 (if x.2.1.code == 0 then x.2.2 else 0 : Nat))

/-! ### SUMMARY (R703, R704, Table 20-8) -/

/-- One bit of the CRC-32 of R71 in reflected form. -/
def crc32Bit (c : Nat) : Nat := if c % 2 = 1 then (c / 2) ^^^ 0xEDB88320 else c / 2

/-- One byte. -/
def crc32Byte (c : Nat) (b : Byte) : Nat := (List.range 8).foldl (fun c _ => crc32Bit c) (c ^^^ b.toNat)

/-- CRC-32: polynomial 0x04C11DB7, reflected, initial value and final XOR 0xFFFFFFFF (R71). -/
def crc32 (l : List Byte) : Nat := (l.foldl crc32Byte 0xFFFFFFFF) ^^^ 0xFFFFFFFF

/-- The groups that a capture fills, by module state. -/
def State.summaryValid (s : State) : Nat := match s.module with
  | .starting => 1
  | .unconfigured => 1 + 2 + 16 + 32 + 64
  | _ => 0x7FF

/-- A bit per thermal source. -/
def State.sourceMask (s : State) (f : Fld) : Nat := (List.range 52).foldl (fun a n => if s.fb f n then a + 2 ^ n else a) 0

/-- The parts of SUMMARY: group, offset, bytes. The state is the one that `live` gives. -/
def State.summaryParts (s : State) : List (Nat × Nat × List Byte) :=
  let word : Nat → List Byte := fun k => le 4 (s.word k).toNat
  [(0, 0x004, le 1 s.module.code ++ le 1 (s.vn .startStep)), (0, 0x008, le 8 s.uid), (0, 0x010, le 2 (s.f Reg.ID_ROM)),
   (0, 0x014, word 0x010000), (1, 0x018, le 2 (s.f Reg.ID_HW_REV) ++ le 2 (s.f Reg.ID_STARTS % 65536 : Nat) ++ le 4 s.uptime),
   (1, 0x020, word 0x010200 ++ word 0x010300 ++ word 0x010100 ++ word 0x011300 ++ word 0x010400 ++ word 0x010500),
   (2, 0x040, Stage.all.flatMap fun t => le 1 (s.st t).code),
   (2, 0x048, Stage.all.flatMap fun t => le 4 (s.stageWord t % 2 ^ 22 : Nat)), (2, 0x064, le 4 s.degradedWord),
   (3, 0x080, (List.range 18).flatMap fun w => le 4 (s.faultWord w)),
   (3, 0x0C8, le 4 (s.attnWord % 2 ^ 18 + (if s.on .attn then 2 ^ 31 else 0) : Nat)),
   (4, 0x0D0, le 6 s.logHead ++ le 6 s.logTail ++ word 0x1B0000 ++ word 0x1B0401),
   (5, 0x0F0, word 0x100000 ++ word 0x190000 ++ word 0x020000 ++ word 0x190200 ++ word 0x190202 ++ le 4 (s.f Reg.FO_COUNTERS 0)),
   (6, 0x110, word 0x1C0000 ++ word 0x1C4100 ++ word 0x1C0500 ++ word 0x1C0501 ++ word 0x1C4200 ++ word 0x1C4201 ++ word 0x1C0600
     ++ word 0x1C4300 ++ (List.range 4).flatMap fun p => le 1 ((s.word (0x1C1001 + 256 * p)).toNat % 256 : Nat)),
   (7, 0x140, ((List.range 4).flatMap fun n => word (0x1E0700 + 4096 * n)) ++ (List.range 4).flatMap fun n => word (0x1E0800 + 4096 * n)),
   (8, 0x180, le 4 (s.word (Reg.CHG_STATUS_PP_STATE.key 0)).toNat ++ le 4 (s.word (Reg.LINK_STATUS_STATE.key 0)).toNat
     ++ le 4 (s.f Reg.CHG_TIMER 0) ++ le 4 (s.word (Reg.SAFE_STATUS_STO_REQ.key 0)).toNat
     ++ le 4 (s.word (Reg.SAFE_CON_STATUS_ON.key 0)).toNat),
   (9, 0x1A0, Stage.all.flatMap fun t => le 2 (s.f Reg.TH_STAGE_LIMIT t.idx)),
   (9, 0x1B0, le 8 (s.sourceMask Reg.TH_S_STATUS_SHUT) ++ le 8 (s.sourceMask Reg.TH_S_STATUS_BROKEN)
     ++ le 8 (s.sourceMask Reg.TH_S_STATUS_DERATE)),
   (10, 0x1D0, le 4 (s.f Reg.SVC_COUNTERS 0) ++ le 4 ((List.range' 1 11).foldl (fun a k => a + s.f Reg.SVC_COUNTERS k) 0 : Nat)
     ++ word 0x1F0000)]

/-- Lay parts at their offsets from a position; gaps are zero. -/
def layParts (pos : Nat) : List (Nat × Nat × List Byte) → List Byte
  | [] => []
  | p :: l => List.replicate (p.2.1 - pos) 0 ++ p.2.2 ++ layParts (p.2.1 + p.2.2.length) l

/-- The 1,024 bytes of SUMMARY: the capture of one instant, its unfilled groups zero. -/
def State.summary (s : State) : List Byte :=
  let valid := s.summaryValid
  let v := s.live
  let l := le 2 1 ++ le 2 valid ++ layParts 4 (v.summaryParts.filter fun p => valid.testBit p.1)
  let l := l ++ List.replicate (1020 - l.length) 0
  l ++ le 4 (crc32 l)

end Sys2Proof.Machine
end

