-- ==== Sys2Proof/Machine/Cores.lean ====
section
/-!
DEFINITION. Supervisor cores (chapter 15): mismatches and watchdogs of pair S with the warm restart they start, the repeat window,
hold expiry and restoration, restarts of pair V, hand-overs, and debug.
-/

namespace Sys2Proof.Machine

/-! ### Pair S (R541 to R549) -/

/-- What the controller captures at step 2 of a warm restart (Table 15-1, Table 15-4). -/
def State.captureS (s : State) (m : Mismatch) : State :=
  let s := ((s.setF Reg.CORE_LAST_S 0 m.main).setF Reg.CORE_LAST_S 1 m.checker).setF Reg.CORE_LAST_S 2 m.window
  (s.setF Reg.CORE_LAST_S_LANES 0 m.lanes).setF Reg.CORE_LAST_S_B 1 m.pc

/-- A command to a stage that its release buffer discards has not reached it: the stage is in the state before the command, and a stop
sequence that the command began has not begun (R537). A stage that a reaction has taken on since stays there (log entry 191). -/
def State.undoStage (s : State) (t : Stage) (old : Nat) : State :=
  let c := s.stg t
  if !s.operable then s else match old % 8, c.state with
  | 0, .armed => (s.leaveActive t).enter t .stopped 0 0
  | 1, .running | 1, .hold => ((s.each t.legs fun s n => (s.endCommands n).setOn .legLive n false).enter t .armed 0 0).brakeSync
  | 1, .stopped => s.armStage t
  | 4, .stopped => s.enter t .safe 0 0
  | 2, .running | 2, .hold | 3, .hold =>
    if c.stopping && old < 8 then
      let s := ((s.setStg t { c with stopping := false }).close .stopSeq t.idx).setV .stopForceAt t.idx 0
      match t with
      | .L => s.setF Reg.LINK_STATUS_STATE 0 (s.vn .regStopFrom : Nat)
      | .P => ((s.setV .pStop 0 0).setOn .takeoverReq 0 false).close .stopTakeover
      | _ => s
    else s
  | _, _ => s

/-- The protected output returns to what it was before a write; an STO request that caused it is not recorded either, so that the
first sample after the restart decides anew (R493). -/
def State.undo (s : State) (p : Protected) : State := match p.out with
  | .enSw g =>
    let s := s.setEnable Reg.SAFE_STATUS_EN_SW g (p.old == 1)
    if s.on .stoTest g || p.old == 0 then s else (s.setOn .stoState g false).safeBit Reg.SAFE_STATUS_STO_REQ g false
  | .brake k =>
    if p.old == 0 then s.brakeApply k
    else ((s.setOn .brkReq k true).setFb Reg.SAFE_BRK_STATUS_RELEASED k true).setF Reg.SAFE_STATUS_APPLIED 0
      (s.f Reg.SAFE_STATUS_APPLIED &&& (3 - 2 ^ k) : Nat)
  | .drivers => s.drivers p.old
  | .stage t => s.undoStage t p.old
  | .area => s

/-- The release buffer discards every entry of a window that has not compared equal, the newest first (R537, R543). -/
def State.discardWrites (s : State) : State :=
  { s.each (s.release.filter fun p => s.now ≤ p.due).reverse State.undo with release := [] }

/-- A warm restart of pair S begins (R543 step 1): every running stage that is not in its stop sequence is held. On a repeat within
the window, [start, start + 1 s), the watchdog carries out MODULE_SAFE at once (R547). -/
def State.restartS (s : State) (code counter d1 d2 : Nat) (m : Mismatch) : State :=
  if s.f Reg.CORE_STATUS_S_STATE == 3 || !s.powered then s
  else
    let again : Bool := match s.due .repeatS with
      | some e => Decidable.decide (s.now < e)
      | none => false
    let s := (((s.addF Reg.CORE_COUNTERS counter).captureS m).setF Reg.CORE_STATUS_S_STATE 0 1).discardWrites
    let s := (s.setFb Reg.CORE_DEBUG_S_HALT 0 false).setV .sRestartAt 0 (s.now : Nat)
    let s := (s.openSlow .repeatS 0 (sec 1)).setFb Reg.CORE_STATUS_REPEAT_WINDOW 0 true
    let first : FaultEvt := { code := code, d1 := d1, d2 := d2, lasting := true, hardware := true }
    let s := if again then
        (s.setV .sToSafe 0 Ev.S_REPEAT_MISMATCH).raiseAll
          [first, { code := Ev.S_REPEAT_MISMATCH, reaction := 7, hardware := true, nextStart := true }]
      else s.raise first
    let s := s.each (Stage.all.filter fun t => (s.st t).isRunning) fun s t => s.holdBy t .restart code
    s.setFb Reg.CORE_STATUS_RESTART_HOLD 0 (Stage.all.any fun t => (s.stg t).holds.contains .restart)

/-- The pair-S signatures differ: the record carries the lane word and the window (R536, R543). -/
def execSMismatch (m : Mismatch) (t : Nat) (s : State) : Host.Outcome State Fault Refusal :=
  done ({ s with now := max s.now t }.restartS Ev.S_MISMATCH 0 m.lanes m.window m)

/-- Pair S wrote a wrong value, or none within 2 ms: treated as a mismatch; the window is suspended while debug halts the core (R541,
R560). -/
def execSWatchdog (m : Mismatch) (t : Nat) (s : State) : Host.Outcome State Fault Refusal :=
  done (if s.f Reg.CORE_STATUS_S_STATE == 2 then s else { s with now := max s.now t }.restartS Ev.S_WATCHDOG 1 0 0 m)

/-- The repeat window closes (R547). -/
def execRepeatWindowEnd (s : State) : Host.Outcome State Fault Refusal :=
  done (s.expire .repeatS 0 fun s => s.setFb Reg.CORE_STATUS_REPEAT_WINDOW 0 false)

/-- The injection test of a warm restart fails: pair S stays halted, and the watchdog carries out MODULE_SAFE on every stage that is
not already SAFE (R549). -/
def State.restartFails (s : State) : State :=
  if s.f Reg.CORE_STATUS_S_STATE == 1 then
    let s := (s.setF Reg.CORE_STATUS_S_STATE 0 3).setFb Reg.CORE_STATUS_INJECT_OK 0 false
    let s := (s.moduleToSafe Ev.INJECTION_TEST_FAIL).close .repeatS
    let s := s.setFb Reg.CORE_STATUS_REPEAT_WINDOW 0 false
    let s := s.each (Stage.all.filter fun t => s.st t != .safe) fun s t =>
      s.toSafe t (s.ascConfigured t) Ev.INJECTION_TEST_FAIL 7
    let s := s.updCause Ev.INJECTION_TEST_FAIL 0 fun c => { c with present := true, nextStart := true }
    (s.setFb Reg.CORE_STATUS_RESTART_HOLD 0 false).reportAll [{ code := Ev.INJECTION_TEST_FAIL, reaction := 7, stages := Stage.all }]
  else s

/-- The HOLD_EXPIRY reaction of a stage (Table 15-7). -/
def State.holdExpiry (s : State) (t : Stage) : Nat := match t with
  | .T1 => s.f Reg.CORE_HOLD_EXPIRY_T1
  | .T2 => s.f Reg.CORE_HOLD_EXPIRY_T2
  | .L => s.f Reg.CORE_HOLD_EXPIRY_L
  | .P => s.f Reg.CORE_HOLD_EXPIRY_P
  | .D => s.f Reg.CORE_HOLD_EXPIRY_D
  | .X1 => s.f Reg.CORE_HOLD_EXPIRY_X1
  | .X2 => s.f Reg.CORE_HOLD_EXPIRY_X2

/-- A hold window expires: HOLD_EXPIRY is carried out in the pulse unit; a stored STOP is discarded, and an expiry within a warm
restart takes the module to SAFE when the restart completes (R48, R542, R548). -/
def execHoldExpired (t : Stage) (s : State) : Host.Outcome State Fault Refusal :=
  done (s.expire .hold t.idx fun s =>
    if s.st t == .hold then
      let s := s.when (s.f Reg.CORE_STATUS_S_STATE == 1 && !s.on .sToSafe) fun s => s.setV .sToSafe 0 Ev.HOLD_EXPIRED
      s.raise { code := Ev.HOLD_EXPIRED, inst := t.idx, src := t.idx, d0 := t.idx, reaction := s.holdExpiry t, stages := [t],
                hardware := true }
    else s)

/-- The SLOW cycle ends: causes that lasted only for it clear, and stages held by nothing else return to RUNNING (R49). -/
def execHoldRestoration (s : State) : Host.Outcome State Fault Refusal :=
  let s := { s with now := (s.now / Clk.slow + 1) * Clk.slow }
  done (s.each (s.causes.filter fun c => c.transient && c.present) fun s c => s.clearCause c.code c.inst)

/-! ### Pair V (R550 to R557) -/

/-- The state field of V0, or of V1. -/
def vState (core : Nat) : Fld := if core = 0 then Reg.CORE_STATUS_V0_STATE else Reg.CORE_STATUS_V1_STATE

/-- Pair V, or the core that a service stands with, serves (R551, R759). -/
def State.vRuns (s : State) (core : Nat) : Bool :=
  let c := if s.f Reg.CORE_STATUS_V_MODE == 0 then 0 else core
  s.f (vState c) == 0 || s.f (vState c) == 3

/-- The command whose hand-over a restart ends is answered as failed, its second condition no longer holds; the cores come up in SPLIT (R553,
R557). -/
def State.handFails (s : State) : State := match s.handCmd with
  | none => s
  | some (r, c) =>
    let s := { s with handCmd := none }.setF Reg.CORE_STATUS_V_MODE 0 1
    let s := s.each [0, 1] fun s k => s.when (s.f (vState k) == 3) fun s => s.setF (vState k) 0 0
    match c with
    | .command c => s.answerCmd r c (Res.cond 2) []
    | _ => s

/-- Pair V or a V core restarts; a second restart within 1 s of the start of the previous one carries out V_REACTION (R550, R552). -/
def State.restartV (s : State) (core code d1 d2 : Nat) : State :=
  if !s.powered then s
  else
    let prev := s.vn .vRestartAt core
    let again := prev != 0 && s.now < (prev - 1) / Clk.slow * Clk.slow + sec 1
    let s := ((s.addF Reg.CORE_COUNTERS 3).addF Reg.CORE_COUNTERS 4).setV .vRestartAt core (s.now + 1 : Nat)
    let s := s.setF (vState core) 0 1
    let s := s.setFb (if core = 0 then Reg.CORE_DEBUG_V_HALT else Reg.CORE_DEBUG_V1_HALT) 0 false
    let re := if again then s.f Reg.CORE_CFG_V_REACTION else 0
    let s := s.raise { code := code, inst := core, d0 := core, d1 := d1, d2 := d2, reaction := re,
                       stages := if re == 3 then Stage.all else [], lasting := true }
    s.handFails

/-- The pair-V signatures differ; only in LOCKSTEP are they compared (R534, R550). -/
def execVMismatch (m : Mismatch) (t : Nat) (s : State) : Host.Outcome State Fault Refusal :=
  let s := { s with now := max s.now t }
  done (if s.f Reg.CORE_STATUS_V_MODE == 0 then
    let s := ((s.setF Reg.CORE_LAST_V 0 m.main).setF Reg.CORE_LAST_V 1 m.checker).setF Reg.CORE_LAST_V 2 m.window
    (s.setF Reg.CORE_LAST_V_LANES 0 m.lanes).restartV 0 Ev.V_MISMATCH m.lanes m.window
  else s)

/-- The watchdog window of pair V, of V0 or of V1 expires; it is suspended while debug halts the core (R550, R560). -/
def execVWatchdog (core : Fin 2) (t : Nat) (s : State) : Host.Outcome State Fault Refusal :=
  let s := { s with now := max s.now t }
  done (if s.f (vState core.val) == 2 || (core.val == 1 && s.f Reg.CORE_STATUS_V_MODE == 0) then s
    else s.restartV core.val Ev.V_WATCHDOG 0 0)

/-- The conditions of SPLIT_V (`mode` 0) and JOIN_V (`mode` 1) in the order of R553; the first that fails. -/
def State.splitBar (s : State) (mode : Nat) : Option Nat :=
  if !s.operable then some 1
  else if s.f Reg.CORE_STATUS_V_MODE != mode || s.f Reg.CORE_STATUS_V0_STATE != 0 || s.f Reg.CORE_STATUS_V1_STATE != 0
      || s.handCmd.isSome || (mode == 1 && s.on .joinBarred) then some 2
  else if 64 < s.f Reg.FAB_ROUND_NODES then some 3
  else if 1 ≤ s.f Reg.START_KEY_WRITE_STATUS_STATE && s.f Reg.START_KEY_WRITE_STATUS_STATE ≤ 5 then some 4
  else none

/-- A split or join begins: the cores that hand services over show HANDING_OVER (R555, R556). -/
def State.handBegin (s : State) (r : Req) (c : Cmd) : State :=
  let s := { s with handCmd := some (r, .command c) }.setF Reg.CORE_STATUS_V0_STATE 0 3
  if c == .joinV then s.setF Reg.CORE_STATUS_V1_STATE 0 3 else s

/-! ### Debug (R558 to R560) -/

/-- A debug action on the main core of pair S (0), of pair V or V0 (1), or on V1 (2): only with access granted in SERVICE, a halt only
with every stage STOPPED or SAFE. It waits 2 CORE cycles in the replay buffer for the checker, and on J1 while 16 actions wait there
(R559). -/
def execDebugAction (core : Fin 3) (kind : DebugKind) (s : State) : Host.Outcome State Fault Refusal :=
  let c := core.val
  let (st, bit) := if c = 0 then (Reg.CORE_STATUS_S_STATE, Reg.CORE_DEBUG_S_HALT)
    else if c = 1 then (Reg.CORE_STATUS_V0_STATE, Reg.CORE_DEBUG_V_HALT) else (Reg.CORE_STATUS_V1_STATE, Reg.CORE_DEBUG_V1_HALT)
  let may := s.fb Reg.CORE_STATUS_DEBUG && s.module == .service && (kind != .halt || s.allIdle)
    && (c != 2 || s.f Reg.CORE_STATUS_V_MODE != 0)
  done (if may then
    let s := s.replaySync
    let s := if s.f Reg.CORE_DEBUG_REPLAY < 16 then s else { s with now := s.vn .replayAt + 2 * Clk.core }.replaySync
    let s := ((s.wrapF Reg.CORE_DEBUG_ACTIONS 0).addF Reg.CORE_DEBUG_REPLAY 0).setV .replayAt 0 (s.now : Nat)
    match kind with
    | .halt => if s.f st == 0 then (s.setF st 0 2).setFb bit 0 true else s
    | .resume => if s.f st == 2 then (s.setF st 0 0).setFb bit 0 false else s
    | _ => s
  else s)

/-- A core is halted by debug. -/
def State.anyHalted (s : State) : Bool :=
  s.fb Reg.CORE_DEBUG_S_HALT || s.fb Reg.CORE_DEBUG_V_HALT || s.fb Reg.CORE_DEBUG_V1_HALT

end Sys2Proof.Machine
end

