-- ==== Sys2Proof/Machine/Budget.lean ====
section
/-!
DEFINITION. The figures derived from a configuration that step 7 of the start and every write of PULSE.stage.PERIOD check (R293): slot
rates (R251), lane loads (R252), responses (R253), the P1 and P2 demand (R128, R167, R254) and gate loads (R357, R736).
-/

namespace Sys2Proof.Machine

/-! ### Slots and lanes (R251 to R254, R297) -/

/-- The highest rate of one event type of a stage's carrier, per second: once per PERIOD, and for a stage synchronised to SYNC_IN
400 kHz / 2^RATIO whatever PERIOD is (R297). -/
def State.carrierRate (s : State) (t : Nat) : ℚ :=
  let p : ℚ := if s.f Reg.PULSE_PERIOD t = 0 then 0 else 300000000 / (s.f Reg.PULSE_PERIOD t : ℚ)
  if s.f Reg.PULSE_SYNC_SRC t = 1 then 400000 / (2 ^ s.f Reg.PULSE_SYNC_RATIO t : ℚ) else p

/-- The rate of a slot (R251); a slot trigger takes its source slot's rate. -/
def State.slotRate (s : State) : Nat → Nat → ℚ
  | 0, _ => 0
  | fuel + 1, n => match s.f Reg.SLOT_TRIGGER_SRC n with
    | 1 =>
      let types : Nat := if s.f Reg.SLOT_TRIGGER_EVT n = 3 then 2 else if s.f Reg.SLOT_TRIGGER_EVT n = 0 then 0 else 1
      let div : Nat := if s.f Reg.SLOT_TRIGGER_DIV n = 0 then 256 else s.f Reg.SLOT_TRIGGER_DIV n
      (types : ℚ) * s.carrierRate (s.f Reg.SLOT_TRIGGER_REF n) / (div : ℚ)
    | 2 => s.slotRate fuel (s.f Reg.SLOT_TRIGGER_REF n)
    | 3 => if s.f Reg.SLOT_TRIGGER_TIMER n = 0 then 0 else 100000000 / (s.f Reg.SLOT_TRIGGER_TIMER n : ℚ)
    | _ => 0

/-- The rate of a slot that runs; 0 for type NONE. -/
def State.rate (s : State) (n : Nat) : ℚ := if s.f Reg.SLOT_TYPE_TYPE n = 0 then 0 else s.slotRate 48 n

/-- The slots of a lane, ascending. -/
def State.laneSlots (s : State) (lane : Nat) : List Nat :=
  (List.range 48).filter fun n => s.f Reg.SLOT_TYPE_TYPE n != 0 && s.f Reg.SLOT_TYPE_LANE n == lane

/-- LOOP cycles of a slot's run. -/
def State.slotC (s : State) (n : Nat) : Nat := slotCycles (s.f Reg.SLOT_TYPE_TYPE n)

/-- LOOP cycles per second that the slots of a lane take (R252). -/
def State.laneLoad (s : State) (lane : Nat) : ℚ := ((s.laneSlots lane).map fun n => (s.slotC n : ℚ) * s.rate n).sum

/-- The worst-case response of a slot in LOOP cycles (R253). -/
def State.response (s : State) (n : Nat) : Nat :=
  let l := s.laneSlots (s.f Reg.SLOT_TYPE_LANE n)
  ((l.filter fun m => n < m).map s.slotC).foldl max 0 + ((l.filter fun m => m < n).map s.slotC).sum + s.slotC n

/-- 315 ns, the response and 25 ns fit into a period of the slot. -/
def State.responseOk (s : State) (n : Nat) : Bool :=
  Decidable.decide ((340 + 5 * (s.response n : ℚ)) * s.rate n ≤ 1000000000)

/-- The P1 demand in transactions per second (R254). -/
def State.p1Demand (s : State) : ℚ :=
  ((List.range 48).map fun n => s.rate n * (slotTransactions (s.f Reg.SLOT_TYPE_TYPE n) : ℚ)).sum

/-! ### Sequence tables (R166, R167) -/

/-- A pass through a table: SAMPLE cycles, bursts, the buffer and number of the DMA results not yet in a burst, and, once a burst has been cut
short by a wait or by a change of the buffer, the buffer and number of the results before the first cut. -/
structure Pass where
  cycles : Nat
  bursts : Nat
  buf    : Nat
  open'  : Nat
  first  : Option (Nat × Nat)
  deriving DecidableEq, Repr

/-- A wait or a change of the buffer ends the present burst; the results before the first such end may follow those at the end of the pass
before. -/
def Pass.cut (p : Pass) : Pass := match p.first with
  | some _ => { p with bursts := p.bursts + divUp p.open' 32, open' := 0 }
  | none => { p with first := some (p.buf, p.open'), open' := 0 }

/-- The bursts of a pass among equal passes: results left at its end go with the first ones of the next pass when no wait lies between and the
buffer stays, so that a table without an end of a burst requests one for each 32 results (R166, R167). -/
def Pass.count (p : Pass) : ℚ := match p.first with
  | none => (p.open' : ℚ) / 32
  | some (b, n) =>
    (p.bursts + (if b == p.buf || n = 0 || p.open' = 0 then divUp (p.open' + n) 32 else divUp p.open' 32 + divUp n 32) : Nat)

/-- One entry of core c with `n` conversions. -/
def State.passEntry (s : State) (c : Nat) (n : Nat) (p : Pass) (e : Nat) : Pass :=
  let delay := s.seqF c e 0 31 20
  let wait := s.seqWaitEvt c e != 0
  let p := if wait then p.cut else p
  if s.seqChannel c e == 255 then { p with cycles := p.cycles + (if !wait && delay == 0 then 1 else delay) }
  else
    let p := { p with cycles := p.cycles + delay + n }
    if s.seqF c e 1 10 10 = 1 then
      let b := s.seqF c e 1 9 6
      if b == p.buf || (p.open' = 0 && p.first.isNone) then { p with buf := b, open' := p.open' + n } else { p.cut with buf := b, open' := n }
    else p

/-- Entry e of a pass; a LOOP entry repeats its group. -/
def State.passStep (s : State) (c : Nat) (p : Pass) (e : Nat) : Pass :=
  if s.seqLoop c e then
    let first := s.seqF c e 1 25 18
    let group := List.range' first (e + 1 - first)
    let run := fun (p : Pass) => group.foldl (fun p k => s.passEntry c (if s.seqLoop c k then 1 else s.seqRepeat c k) p k) p
    (List.range (s.seqRepeat c e - 1)).foldl (fun p _ => run p) (s.passEntry c 1 p e)
  else s.passEntry c (s.seqRepeat c e) p e

/-- One pass of a core's table with every wait satisfied at once. -/
def State.pass (s : State) (c : Nat) : Pass :=
  (List.range (s.f Reg.SMP_CORE_CFG_TABLE_LEN c)).foldl (s.passStep c) { cycles := 0, bursts := 0, buf := 0, open' := 0, first := none }

/-- The P2 demand in transactions per microsecond: 150 SAMPLE cycles each (R167). -/
def State.p2Demand (s : State) : ℚ :=
  ((List.range 4).map fun c =>
    let p := s.pass c
    if p.cycles = 0 then 0 else p.count * 150 / (p.cycles : ℚ)).sum

/-! ### Gate loads (R357, R736) -/

/-- The rail swing of a channel in 0.5 V. -/
def State.swing (s : State) (c : Nat) : Nat := 34 + s.f Reg.CH_SUPPLY_VPOS c + s.f Reg.CH_SUPPLY_VNEG c

/-- The load of an isolated channel in W. -/
def State.gateLoad (s : State) (c : Nat) : ℚ :=
  let p := s.f Reg.PULSE_PERIOD (Stage.ofLeg (c / 2)).idx
  if p = 0 then 0 else (s.f Reg.CH_SUPPLY_GATE_Q c : ℚ) * (s.swing c : ℚ) * 3 / (2 * (p : ℚ))

/-- The channels of the enabled legs. -/
def State.enabledChans (s : State) : List Nat := (List.range 64).filter fun c => s.fb Reg.LEG_CFG_ENABLE (c / 2)

/-- Every channel keeps its limit, and the isolated ones their sum: 1.20 W and 41.99 W, or 10 mA. -/
def State.gateLoadsOk (s : State) : Bool :=
  (s.enabledChans.all fun c =>
    if isolated c then Decidable.decide (s.gateLoad c ≤ 6 / 5)
    else Decidable.decide (300 * s.f Reg.CH_SUPPLY_GATE_Q c ≤ s.f Reg.PULSE_PERIOD (Stage.ofLeg (c / 2)).idx))
  && Decidable.decide (((s.enabledChans.filter isolated).map s.gateLoad).sum ≤ 4199 / 100)

/-! ### The checks together (R293) -/

/-- Every check of step 7 on figures derived from the carriers and tables. -/
def State.budgetOk (s : State) : Bool :=
  ((List.range 48).all fun n => Decidable.decide (s.rate n ≤ 100000) && s.responseOk n)
  && ((List.range 4).all fun l => Decidable.decide (s.laneLoad l ≤ 180000000))
  && Decidable.decide (s.p1Demand ≤ 10000000) && Decidable.decide (s.p2Demand ≤ 16) && s.gateLoadsOk

/-- ENG.LANE_LOAD and ARB.DEMAND show the figures (R128, R252, R284); the rounding of UTIL is not stated. -/
def State.budgetShow (s : State) : State :=
  let s := s.each (List.range 4) fun s l =>
    let u := s.laneLoad l / 20000
    s.setF Reg.ENG_LANE_LOAD_UTIL l (divOpen u.num u.den)
  (s.setF Reg.ARB_DEMAND 0 (s.p1Demand / 10000).ceil).setF Reg.ARB_DEMAND 1 (s.p2Demand * 100).ceil

/-- The limits of PERIOD (R292). -/
def State.periodOk (s : State) (t : Stage) (v : Nat) : Bool :=
  600 ≤ v && v ≤ 16777214 && (s.f Reg.PULSE_CARRIER_MODE t.idx != 0 || v % 2 == 0)

/-- A write of PERIOD: accepted when every check passes with the new value; otherwise nothing changes (R292, R293). -/
def State.writePeriod (s : State) (t : Stage) (v : Nat) : Option State :=
  let s' := s.setF Reg.PULSE_PERIOD t.idx v
  if s.periodOk t v && s'.budgetOk then some s'.budgetShow else none

end Sys2Proof.Machine
end

