-- ==== Sys2Proof/Machine/HostWrite.lean ====
section
/-!
DEFINITION. A write of one parameter or window word (R22 to R29, R690, R708, R721 to R726, R754): what refuses it, what it stores, and
the effect that the word's chapter gives it.
-/

namespace Sys2Proof

/-! ### Admitted values -/

/-- A value of a field of width w lies in its range. -/
def Rng.admits (r : Rng) (v : Nat) : Bool := match r with
  | .any => true
  | .nat lo hi => lo ≤ v && v ≤ hi
  | .oneOf l => l.contains v
  | .natOr lo hi x => (lo ≤ v && v ≤ hi) || v == x
  | .q15 lo hi => Decidable.decide (lo ≤ Machine.toSigned 16 (v % 65536)) && Decidable.decide (Machine.toSigned 16 (v % 65536) ≤ hi)
  | .source => v ≤ 0x87 || (0xC0 ≤ v && v ≤ 0xEF) || v == 0xFF

/-- A Q1.15 word: bits 31:16 are ignored at a write and read as the sign extension (R14). -/
def Rng.isQ15 (r : Rng) : Bool := match r with
  | .q15 _ _ => true
  | _ => false

/-- The value that a field stores. -/
def Fld.stored (f : Fld) (v : Nat) : Nat := if f.rng.isQ15 then Machine.wrap 32 (Machine.toSigned 16 (v % 65536)) else v

/-- The bits of a word that its fields hold. -/
def WordDef.mask (w : WordDef) : Nat := w.flds.foldl (fun a f => a ||| (2 ^ (f.hi + 1) - 2 ^ f.lo)) 0

/-- SP_SRC of SLOTnn.SP_CFG is RWO although its word is CFG (Table 7-12). -/
def Fld.acc (f : Fld) : Access := if f.base = Reg.SLOT_SP_CFG_SP_SRC.base ∧ f.hi = 1 then .rwo else f.cls

/-- The command that a service carries. -/
def Svc.cmd? : Svc → Option Cmd
  | .command c => some c
  | _ => none

end Sys2Proof

namespace Sys2Proof.Machine

/-- A slot's FF sub-index takes a value (R708, Tables 7-8, 7-13, 12-18, 13-3); `minPulse` is the largest MIN_PULSE of its legs. -/
def ffAdmits (ty sub v minPulse : Nat) : Bool :=
  if ty = 1 ∨ ty = 2 then sub < 3 || (if sub = 3 then v ≤ 4 * 65536 else v == 0)
  else if ty = 5 then (if sub = 0 then v ≤ 1 else v == 0)
  else if ty = 6 then sub != 4 || v ≤ 500
  else if ty = 8 then
    (if sub = 0 then 16384 ≤ v && v ≤ 262144
     else if sub = 1 then 1 ≤ v && v ≤ 65535
     else if sub = 2 then true
     else if sub = 3 then 1638 ≤ v % 65536 && v % 65536 ≤ 16384
     else v == 0)
  else if ty = 9 then
    (if sub = 0 then true
     else if sub = 1 then 1 ≤ v && v ≤ 16777216
     else if sub = 2 then 16384 ≤ v % 65536 && v % 65536 ≤ 32767
     else if sub = 3 then minPulse * 64 ≤ v
     else if sub = 4 then true
     else v == 0)
  else v == 0

/-- An FF sub-index of a slot type that holds a Q1.15 word. -/
def ffQ15 (ty sub : Nat) : Bool := (ty == 8 && sub == 3) || (ty == 9 && sub == 2)

/-- The largest MIN_PULSE of a stage's legs. -/
def State.stageMinPulse (s : State) (t : Stage) : Nat := (t.legs.map fun n => s.f Reg.LEG_MIN_MIN_PULSE n).foldl max 0

/-- A reaction code applies to a stage (R56): SAFE_ASC to T stages only. -/
def reactionOk (v : Nat) (t : Stage) : Bool := v ≤ 7 && (v != 5 || t.isT)

/-! ### The test of a word (Table 0-2, R24, R29, R754) -/

/-- Who makes a write and what shares its LOOP cycle (R24): stages that leave STOPPED, slots that change to AUTO. -/
structure WriteCtx where
  who     : Option Requester
  leaving : List Stage
  closing : List Nat
  deriving DecidableEq, Repr

/-- KEY_WRITE runs. -/
def State.keyBusy (s : State) : Bool := 1 ≤ s.f Reg.START_KEY_WRITE_STATUS_STATE && s.f Reg.START_KEY_WRITE_STATUS_STATE ≤ 5

/-- A waiting command falls in the present LOOP cycle. -/
def State.dueNow (s : State) (t : Nat) : Bool := t / Clk.loop ≤ s.now / Clk.loop

/-- The command in a fabric service frame for this module. -/
def State.frameCmd (s : State) (f : Frame) : Option Cmd :=
  let b := f.body.take f.length
  if f.kind == 7 && f.fcs && (f.dst == s.address || f.dst == 0x3FE) && 16 ≤ b.length && numAt b 3 1 == 0 then
    (Svc.parse (numAt b 2 1) (b.drop 16) true).1.cmd?
  else none

/-- The commands in the SERVICE frames that wait for the map service. -/
def State.queuedCmds (s : State) : List Cmd :=
  (s.canRx.filter fun e => !e.host).filterMap fun e => match s.rxEntry e.ch e.frame.key with
    | some i =>
      let d := e.frame.bytes
      if s.rxKind i == 1 && d.length == 64 then (Svc.parse (numAt d 2 1) (d.drop 6) false).1.cmd? else none
    | none => none

/-- The commands that wait behind the write in the same LOOP cycle: rows of their own, and those in service frames (R24). -/
def State.cmdsDue (s : State) : List Cmd :=
  s.pending.flatMap fun c => match c with
    | .arm _ m h t => if s.dueNow t then [.arm m h] else []
    | .stop _ m h t => if s.dueNow t then [.stop m h] else []
    | .closeLoop _ n t => if s.dueNow t then [.closeLoop n] else []
    | .openLoop _ n t => if s.dueNow t then [.openLoop n] else []
    | .serviceReq _ f t => if s.dueNow t then (s.frameCmd f).toList else []
    | .frameReceived _ f _ t => if s.dueNow t then (s.frameCmd f).toList else []
    | .mapEntry t => if s.dueNow t then s.queuedCmds else []
    | _ => []

/-- An ARM that waits behind the write in the same LOOP cycle, or the group's test for which one waits, takes the stage out of STOPPED (R24,
R500). -/
def State.leaves (s : State) (t : Stage) : Bool :=
  (s.cmdsDue.any fun c => match c with
    | .arm mask higher => mask.testBit t.idx && !higher.contains t && s.operable && (s.armBar t).isNone && !s.testOld t.group
    | _ => false)
  || (s.on .armWait t.idx && s.pending.any fun c => match c with
    | .stoGroupTestEnd g _ u => s.dueNow u && g.val == t.group
    | _ => false)

/-- A STOP that waits behind the write in the same LOOP cycle takes an ARMED stage to STOPPED (R24). -/
def State.comesBack (s : State) (t : Stage) : Bool :=
  s.st t == .armed && s.cmdsDue.any fun c => match c with
    | .stop mask higher => mask.testBit t.idx && !higher.contains t
    | _ => false

/-- A CLOSE_LOOP that waits behind the write in the same LOOP cycle takes the slot to AUTO (R24). -/
def State.closes (s : State) (n : Nat) : Bool := s.cmdsDue.contains (.closeLoop n) && (s.closeRefusal n).isNone

/-- An OPEN_LOOP that waits behind the write in the same LOOP cycle takes the slot to MANUAL (R24). -/
def State.opens (s : State) (n : Nat) : Bool := s.cmdsDue.contains (.openLoop n) && s.st (s.slotStage n) != .hold

/-- The owning slot is in MANUAL, or the owning stage is STOPPED, at the end of the LOOP cycle: after what has changed it before the write,
and what waits behind the write or shares its cycle (R24). -/
def State.rwoOk (s : State) (c : WriteCtx) (w : WordDef) (n : Nat) : Bool :=
  let stage : Stage → Bool := fun t =>
    (if s.st t == .stopped then !c.leaving.contains t && !s.leaves t else s.comesBack t)
  if 0x090000 ≤ w.base && w.base < 0x0C0000 then
    (if s.fb Reg.SLOT_MODE_MODE n then s.opens n else !c.closing.contains n && !s.closes n)
  else if w.base < 0x0D0000 then stage ((Stage.ofNat? n).getD .T1)
  else if w.base < 0x100000 then stage (Stage.ofLeg n)
  else stage .L

/-- A write to SAFE.BRK_CMD or SAFE.CDR_CMD that only clears bits is accepted in SAFE as well (R519). -/
def State.onlyClears (s : State) (w : WordDef) (old v : Nat) : Bool :=
  s.module == .safe && (w.base == 0x180600 || w.base == 0x181000) && v &&& old == v

/-- The refusal of one field, if any: old word, new word. -/
def State.fieldBar (s : State) (c : WriteCtx) (w : WordDef) (n : Nat) (old v : Nat) (f : Fld) : Option Nat :=
  let x := bits v f.hi f.lo
  match f.acc with
  | .ro | .cfg | .w1c => none
  | .rw =>
    if !(s.operable || s.onlyClears w old v) then some Result.state
    else if f.rng.admits x then none else some Result.range
  | .rwo =>
    if !s.rwoOk c w n then some Result.state
    else if f.rng.admits x then none else some Result.range

/-- The first refusal of a word: READ_ONLY for a word without a field to write or a CFG field that differs, then the first failing
field in ascending order, then a reserved bit. -/
def State.wordBar (s : State) (c : WriteCtx) (w : WordDef) (n : Nat) (old v : Nat) : Option Nat :=
  let free : Bool := w.flds.any fun f => f.acc != .ro && f.acc != .cfg
  if !free || w.flds.any (fun f => f.acc == .cfg && bits v f.hi f.lo != bits old f.hi f.lo) then some Result.readOnly
  else match w.flds.filterMap (s.fieldBar c w n old v) with
    | r :: _ => some r
    | [] =>
      let q : Bool := w.flds.any fun f => f.rng.isQ15
      if !q && v &&& w.mask != v then some Result.range else none

/-- Store what a write may change: RW and RWO fields take the value, W1C bits written 1 clear but for the bits `held`, which hardware has
set in the same cycle (R25). -/
def storeWord (w : WordDef) (old v : Nat) (held : Nat := 0) : Nat :=
  w.flds.foldl (fun a f =>
    let x := bits v f.hi f.lo
    match f.acc with
    | .rw | .rwo => putBits a f.hi f.lo (f.stored x)
    | .w1c => putBits a f.hi f.lo (bits old f.hi f.lo - (bits old f.hi f.lo &&& (x - (x &&& bits held f.hi f.lo))))
    | _ => a) old

/-! ### Effects by word -/

/-- What a write comes to: refused, or the state after it. -/
abbrev Applied := Res × State

/-- SLOTnn.SETPOINT (R269, R421, R477): the charger owns that of the DAB slot; a refused park setpoint is counted and reported. -/
def State.writeSetpoint (s : State) (n j : Nat) (v : Word) : Applied :=
  if s.f Reg.SLOT_TYPE_TYPE n = 8 then (Res.of Result.owned, s)
  else if j ≠ 0 then (Res.ok, s.setF Reg.SLOT_SETPOINT n v.toNat j)
  else match s.parkRefused n v.toInt with
    | some a => (Res.cond 2, (s.addF Reg.ACT_COUNTERS a 1 4).noteAt Ev.PARK_REFUSED (s.slotStage n) a)
    | none => (Res.ok, (s.setF Reg.SLOT_SETPOINT n v.toNat).spApplied n)

/-- A shadow field or CTRL of a leg (R302, R303, R308): a slot's or the link regulator's leg is theirs; COMMIT 1 commits the shadow set. -/
def State.writeLeg (s : State) (w : WordDef) (n : Nat) (key : Nat) (v : Word) : Applied :=
  let mode := s.f Reg.PULSE_STATUS_MODE (Stage.ofLeg n).idx
  if s.f Reg.LEG_STATUS_OWNER n ≠ 0 then (Res.of Result.owned, s)
  else if w.base = Reg.LEG_TIME_A.base ∧ 2 ≤ mode ∧ v.toNat < 64 * s.f Reg.LEG_MIN_MIN_PULSE n then (Res.of Result.range, s)
  else if w.base = Reg.LEG_CTRL_FORCE.base then
    let s := s.recordTouched
    let s := s.setF Reg.LEG_CTRL_FORCE n (bits v.toNat 1 0)
    if v.toNat.testBit 2 then (Res.ok, (s.setFb Reg.LEG_CTRL_COMMIT n true).setDue .commit n (some (commonEdge s.now)))
    else (Res.ok, s)
  else (Res.ok, s.recordTouched.setWord key v)

/-- CAN.CHn.ACK (R661): the entry is OWNED by the writer and has the handle's GEN; it becomes FREE, and the word reads as zero. -/
def State.writeAck (s : State) (who : Option Requester) (ch v : Nat) : Applied :=
  let mine : Option CanEntry := match who with
    | some r => s.canRx.find? fun e => e.ch == ch && e.slot == v % 64 && e.queue == v / 64 % 2 && e.ownedBy r
    | none => none
  match mine with
  | none => (Res.cond 1, s)
  | some e =>
    if v / 128 % 2 != 0 then (Res.of Result.range, s)
    else if e.gen % 256 != v / 256 || e.ends ≤ s.now then (Res.cond 2, s)
    else (Res.ok, { s with canRx := s.canRx.filter fun x => x != e }.canSync ch)

/-- WAKE is high now: as the command that is carried out says, or else as the pin shows (R92). -/
def State.wakeNow (s : State) : Bool := if s.vn .wakeAt == s.now + 1 then s.on .wakeHigh else Config.wakeLevel s.now

/-- STATE.REQUEST (R716): an accepted request starts the entry sequence of R91, which turns off the gate supplies. -/
def State.writeRequest (s : State) (v : Nat) : Applied :=
  if v == 3 then (Res.of Result.range, s)
  else if s.keyBusy then (Res.of Result.busy, s)
  else if s.module != .ready || s.on .entering || s.on .restarting || !s.allStopped then (Res.of Result.state, s)
  else if v == 1 && s.wakeNow then (Res.cond 1, s)
  else if v == 0 then (Res.ok, s)
  else (Res.ok, s.setV .entering 0 (if v == 1 then 2 else 1))

/-- The effect of a write that its class and fields allow. -/
def State.applyWord (s : State) (c : WriteCtx) (w : WordDef) (n j key : Nat) (v : Word) : Applied :=
  let x := v.toNat
  let plain : State := s.putWord key (storeWord w (s.word key).toNat x (s.w1cHeld key))
  if w.base = Reg.SLOT_SETPOINT.base then s.writeSetpoint n j v
  else if w.base = Reg.SLOT_FF.base then
    let ty := s.f Reg.SLOT_TYPE_TYPE n
    if !ffAdmits ty j x (s.stageMinPulse (s.slotStage n)) then (Res.of Result.range, s)
    else (Res.ok, s.putWord key (if ffQ15 ty j then wrap 32 (toSigned 16 (x % 65536)) else x))
  else if w.base = Reg.SLOT_SP_CFG_SP_SRC.base then
    if x % 4 = 2 ∧ s.f Reg.SLOT_TYPE_TYPE n ≠ 6 then (Res.of Result.range, s) else (Res.ok, plain)
  else if w.base = Reg.SLOT_FE_FE_LIMIT.base then
    if reactionOk (bits x 19 16) (s.slotStage n) then (Res.ok, plain) else (Res.of Result.range, s)
  else if Reg.LEG_DUTY_A.base ≤ w.base ∧ w.base ≤ Reg.LEG_CTRL_FORCE.base then s.writeLeg w n key v
  else if w.base = Reg.PULSE_PERIOD.base then match s.writePeriod ((Stage.ofNat? n).getD .T1) x with
    | some s' => (Res.ok, s')
    | none => (Res.of Result.range, s)
  else if w.base = Reg.ACT_CMP_VALUE.base then (Res.ok, plain.cmpArm n j)
  else if w.base = Reg.ACT_CMP_MODE.base then (Res.ok, plain.cmpDisarm n j)
  else if w.base = Reg.SMP_BUF_CONTROL_FREEZE.base then (Res.ok, s.bufControl n x)
  else if w.base = Reg.SAFE_BRK_CMD.base then (if s.brakeCmdBar x then (Res.cond 5, s) else (Res.ok, s.brakeCmd x))
  else if w.base = Reg.SAFE_CDR_CMD.base then
    let p := s.preEval
    (if p.closeBarred x then (Res.cond 1, p.closeRefused) else (Res.ok, p.cdrCmd x))
  else if w.base = Reg.CHG_BMS_REQUEST.base ∨ w.base = Reg.CHG_BMS_LIMITS_V_MAX.base then (Res.ok, plain.setV .bmsAt 0 (s.now : Nat))
  else if w.base = Reg.CAN_ACK.base then s.writeAck c.who n x
  else if w.base = Reg.STATE_REQUEST_SHIP.base then s.writeRequest x
  else (Res.ok, plain)

/-! ### Windows (R721 to R726) -/

/-- A write of word `sub` of a table window. -/
def State.writeWindow (s : State) (who : Requester) (w sub : Nat) (v : Word) : Applied :=
  if sub = 0 then
    let sel := v.toNat / 2 ^ 24
    let off := v.toNat % 2 ^ 24
    let size := s.winSize who w sel
    if !s.operable then (Res.of Result.state, s)
    else if !selectOk w sel || (size != 0 && size ≤ off) then (Res.of Result.range, s)
    else
      let rest := s.windows.filter fun c => !(c.who == who && c.window == w)
      (Res.ok, { s with windows := if v == 0 then rest else rest ++ [{ who := who, window := w, control := v }] })
  else if sub = 1 then (Res.of Result.readOnly, s)
  else if sub < 16 ∨ 80 ≤ sub then (Res.of Result.noParameter, s)
  else if w ≠ 3 then (Res.of Result.readOnly, s)
  else
    let i := s.winControl who 3 % 2 ^ 24 + (sub - 16)
    if !(s.module == .ready || s.module == .service) || s.on .entering then (Res.of Result.state, s)
    else if s.keyBusy then (Res.of Result.busy, s)
    else if 262144 ≤ i then (Res.of Result.range, s)
    else
      let put := fun (m : List Host.Cell) (b : Byte × Nat) => Store.set State.ramReset m (4 * i + b.2) b.1
      (Res.ok, { s with staging := (le 4 v.toNat).zipIdx.foldl put s.staging })

/-! ### The write (R23, R690) -/

/-- A write of one word. A sleep or ship request is refused as busy while KEY_WRITE runs, whatever else would refuse it (R92, R103). -/
def State.hostWrite1 (s : State) (c : WriteCtx) (index sub : Nat) (v : Word) : Applied :=
  match winOf index with
  | some w => (match c.who with
    | some who => s.writeWindow who w sub v
    | none => (Res.of Result.noParameter, s))
  | none =>
    let key := keyOf index sub
    if 0x2000 ≤ index ∨ 256 ≤ sub then (Res.of Result.noParameter, s)
    else match Map.word key with
      | none => (Res.of Result.noParameter, s)
      | some w => match w.find key with
        | none => (Res.of Result.noParameter, s)
        | some (n, j) =>
          if w.base == Reg.STATE_REQUEST_SHIP.base && s.keyBusy && (v.toNat == 1 || v.toNat == 2) then (Res.of Result.busy, s)
          else match s.live.wordBar c w n (s.live.word key).toNat v.toNat with
          | some r => (Res.of r, s)
          | none => s.applyWord c w n j key v

/-- A host write of one word; a signal write of the same LOOP cycle to the same parameter is applied second and stands (R630). -/
def State.hostWrite (s : State) (c : WriteCtx) (index sub : Nat) (v : Word) : Applied :=
  let (r, s) := s.hostWrite1 c index sub v
  let key := keyOf index sub
  if r.code == 0 && s.vn .sigAt key == s.loopNo + 1 then
    (r, (s.hostWrite1 { who := none, leaving := [], closing := [] } index sub (BitVec.ofNat 32 (s.vn .sigVal key))).2)
  else (r, s)

/-- A WRITE that pair S decides: it names the safety block or the state block (R691). -/
def toPairS (l : List WEntry) : Bool := l.any fun e => (0x1800 ≤ e.index && e.index < 0x1900) || (0x0010 ≤ e.index && e.index < 0x0020)

/-- The entries of a WRITE in order, with their results. -/
def State.writeAll (s : State) (c : WriteCtx) : List WEntry → List Res × State
  | [] => ([], s)
  | e :: l =>
    let (r, s) := s.hostWrite c e.index e.sub e.value
    let (rs, s) := s.writeAll c l
    (r :: rs, s)

/-- A WRITE applied and answered (Table 20-3). -/
def State.serveWrite (s : State) (r : Req) (l : List WEntry) (leaving : List Stage) (closing : List Nat) : State :=
  let (rs, s) := s.writeAll { who := some r.who, leaving := leaving, closing := closing } l
  let s := s.each rs State.countResult
  s.answer r 2 Status.ok (le 1 l.length ++ le 1 0
    ++ (l.zip rs).flatMap (fun x => le 2 x.1.index ++ le 1 x.1.sub ++ le 1 x.2.code) ++ rs.flatMap fun x => le 2 x.detail)

end Sys2Proof.Machine
end

