-- ==== Sys2Proof/Machine/Content.lean ====
section
/-!
DEFINITION. The content checks of a comb image (step 7 of Table 2-5), on a state whose parameters and tables the image has set: the
reactions under R56 and the table rules of the chapters. A check pairs what must hold with the index or section that its record
carries.
-/

namespace Sys2Proof

/-- A check and what its CONTENT_INVALID record carries. -/
abbrev Check := Bool × Nat

/-- A check on the word of a field. -/
def Fld.check (f : Fld) (n : Nat) (ok : Bool) : Check := (ok, f.key n)

end Sys2Proof

namespace Sys2Proof.Machine

/-- A stage code with its reactions: a code above 6 has no stage. -/
def codeOk (v code : Nat) : Bool := match Stage.ofNat? code with
  | some t => reactionOk v t
  | none => v == 0

/-- One check for each number of a range. -/
def forAll (n : Nat) (k : Nat → Check) : List Check := (List.range n).map k

/-! ### Sampling and thermal (R140, R152, R165, R176, R180, R184, R193) -/

/-- Channels of Table 4-2 on core c. -/
def coreChannel (c ch : Nat) : Bool :=
  ch < 20 || (32 ≤ ch && ch ≤ 38) || (c < 2 && 40 ≤ ch && ch ≤ 42) || ch == 255

/-- An entry of a sequence table keeps R140 and R152; entries beyond TABLE_LEN are all zero (R148). The spec does not say whether BUF, ACC and
LOOP_TO of an entry with DMA_EN, ACC_EN or LOOP 0 are judged: they are not (DESIGN CHOICE, log entry 179). -/
def State.seqOk (s : State) (c e : Nat) : Bool :=
  let len := s.f Reg.SMP_CORE_CFG_TABLE_LEN c
  if len ≤ e then s.vn .seqTab (c * 512 + e * 2) == 0 && s.vn .seqTab (c * 512 + e * 2 + 1) == 0
  else
    let ch := s.seqChannel c e
    let lo := s.seqF c e 1 25 18
    coreChannel c ch
    && (s.seqF c e 1 10 10 == 0 || s.f Reg.SMP_BUF_CFG_SIZE_LOG2 (16 * c + s.seqF c e 1 9 6) != 0)
    && (s.seqF c e 1 5 5 == 0 || s.f Reg.SMP_ACC_CFG_LATCH_EVT (32 * c + s.seqF c e 1 4 0) != 0)
    && !(s.seqWaitEvt c e != 0 && s.seqWaitSrc c e == 7 && 2 ≤ c)
    && (s.seqF c e 1 11 11 == 0 || ch == 0x28 || ch == 0x29)
    && (!s.seqLoop c e || (lo ≤ e && s.seqWaitEvt c e == 0
        && (List.range' lo (e - lo)).all fun k => s.seqWaitEvt c k == 0 && !s.seqLoop c k))

/-- No LOOP entry of a core lies inside the group of another. -/
def State.loopsOk (s : State) (c : Nat) : Bool :=
  let l := (List.range (s.f Reg.SMP_CORE_CFG_TABLE_LEN c)).filter (s.seqLoop c)
  l.all fun e => l.all fun k => e == k || !(s.seqF c k 1 25 18 ≤ e && e < k)

/-- The first byte and the end of a buffer in the sampling region. -/
def State.bufSpan (s : State) (k : Nat) : Nat × Nat :=
  let b := s.f Reg.SMP_BUF_CFG_BASE k * 256
  (b, b + 4 * 2 ^ s.f Reg.SMP_BUF_CFG_SIZE_LOG2 k)

/-- A buffer lies in the region and overlaps no other. -/
def State.bufOk (s : State) (k : Nat) : Bool :=
  s.f Reg.SMP_BUF_CFG_SIZE_LOG2 k == 0
  || (let (a, b) := s.bufSpan k
      b ≤ 2097152 && (List.range 64).all fun m =>
        m == k || s.f Reg.SMP_BUF_CFG_SIZE_LOG2 m == 0 || (s.bufSpan m).2 ≤ a || b ≤ (s.bufSpan m).1)

/-- A thermal source keeps R184, R186 and R193; an entry may name one neighbour twice (DESIGN CHOICE, log entry 204). -/
def State.sourceOk (s : State) (n : Nat) : Bool :=
  let warn := s.fi Reg.TH_S_UPPER_WARN n
  let derate := s.fi Reg.TH_S_UPPER_DERATE n
  let shut := s.fi Reg.TH_S_SHUT_SHUT n
  let nb := (List.range 4).map fun b => s.vn .thNb (n * 8 + b)
  let named := nb.filter (· != 255)
  Decidable.decide (s.fi Reg.TH_S_COLD_DRIVE n < warn ∧ warn ≤ derate ∧ derate < shut ∧ s.fi Reg.TH_S_COLD_CHARGE n < warn
    ∧ s.fi Reg.TH_S_SHUT_RELEASE n ≤ shut - s.f Reg.TH_S_CFG_HYST n)
  && (s.f Reg.TH_S_CFG_SHUT_REACTION n != 5 || s.f Reg.TH_S_CFG_STAGES n < 4)
  && named.length != 1 && named.all (fun m => m != n && m < 52 && s.thEnabled m)
  && (named.isEmpty || (1 ≤ s.thLimit n && s.thLimit n ≤ 500))

/-- An external source: its position is enabled in HK.MASK, and no other external source names it (R180). HK_POS 63, unused, is
accepted also with the source enabled (DESIGN CHOICE, log entry 204). -/
def State.extOk (s : State) (k : Nat) : Bool :=
  let p := s.f Reg.TH_EXT_CFG_HK_POS k
  let on := s.thEnabled (44 + k)
  p == 63 || ((!on || (if p < 32 then (s.f Reg.HK_MASK).testBit p else (s.f Reg.HK_MASK_HI).testBit (p - 32)))
    && (List.range 8).all fun m => m == k || s.f Reg.TH_EXT_CFG_HK_POS m != p)

def State.samplingChecks (s : State) : List Check :=
  ((List.range 4).flatMap fun c => forAll 256 fun e => (s.seqOk c e, 3))
  ++ (forAll 4 fun c => (s.loopsOk c, 3))
  ++ (forAll 64 fun k => Reg.SMP_BUF_CFG_BASE.check k (s.bufOk k))
  ++ (forAll 128 fun a => Reg.SMP_ACC_CFG_OWNER.check a (codeOk (s.f Reg.SMP_ACC_CFG_EMPTY_REACTION a) (s.f Reg.SMP_ACC_CFG_OWNER a)
      && !(s.f Reg.SMP_ACC_CFG_LATCH_SRC a == 7 && 64 ≤ a)))
  ++ (forAll 52 fun n => Reg.TH_S_CFG_ENABLE.check n (s.sourceOk n))
  ++ (forAll 8 fun k => Reg.TH_EXT_CFG_HK_POS.check k (s.extOk k))

/-! ### Position feedback (R234, Tables 6-5 to 6-14) -/

/-- The sectors of codes 0-7 of a HALL_MAP are a map of R213. -/
def hallMapOk (w : Nat) : Bool :=
  let sec := (List.range 8).map fun c => w / 8 ^ c % 8
  sec.getD 0 0 == 7 && sec.getD 7 0 == 7 && (List.range 6).all fun v => ((sec.drop 1).take 6).count v == 1

/-- A feedback channel; the table of a resolver's core feeds it both its channels (R221). -/
def State.fbOk (s : State) (n : Nat) : Bool :=
  let mode := s.f Reg.FB_MODE_MODE n
  let st := s.f Reg.FB_MODE_STAGE n
  let cpr := s.f Reg.FB_SCALE_CPR n
  let res := mode == 3
  codeOk (s.f Reg.FB_FAULT_SIGNAL_REACTION n) st && codeOk (s.f Reg.FB_FAULT_POS_REACTION n) st
  && codeOk (s.f Reg.FB_FAULT_INDEX_REACTION n) st
  && !(res && (2 ≤ n || s.f Reg.FB_MODE_SUPPLY n != 0 || s.f Reg.FB_SCALE_POLE_PAIRS n % s.f Reg.FB_RES_RES_POLES n != 0
    || !([0x28, 0x29] : List Nat).all fun ch => (List.range (s.f Reg.SMP_CORE_CFG_TABLE_LEN n)).any fun e =>
      s.seqChannel n e == ch && s.seqF n e 1 11 11 == 1)) && !(n < 2 && s.f Reg.FB_RES_LIMITS_AMP_HIGH n ≤ s.f Reg.FB_RES_LIMITS_AMP_LOW n)
  && (if mode == 1 then 4 ≤ cpr && cpr ≤ 262140 && cpr % 4 == 0 && s.f Reg.FB_INDEX_INDEX_POS n < cpr
      else cpr == 0 && s.f Reg.FB_INDEX_INDEX_MODE n == 0)
  && (s.f Reg.FB_INDEX_REF_MODE n == 0 || s.f Reg.FB_INDEX_INDEX_MODE n != 0)
  && hallMapOk (s.f Reg.FB_HALL_MAP_SECTOR n)
  && (s.f Reg.FB_SSI_FRAME_ST_BITS n + s.f Reg.FB_SSI_FRAME_MT_BITS n + s.f Reg.FB_SSI_FRAME_ERR_BITS n
        + s.f Reg.FB_SSI_FRAME_PARITY n ≤ 32)

/-! ### Slots (R240, R275, R278, R282, R285, R708) -/

/-- The stages that Table 7-1 allows a type. -/
def typeStages (ty : Nat) : List Nat :=
  if ty = 1 ∨ ty = 4 ∨ ty = 5 then [0, 1, 5, 6] else if ty = 2 ∨ ty = 3 then [0, 1] else if ty = 6 then [2]
  else if ty = 7 then [3] else if ty = 8 then [4] else if ty = 9 then [5, 6] else if ty = 10 then [0, 1, 2, 3, 4, 5, 6] else []

/-- The inputs that a type uses; PFC_CURRENT in 1P mode uses only .00, .03 and .06 (R439). -/
def State.typeInputs (s : State) (ty : Nat) : List Nat :=
  if ty = 1 then [0, 1, 2, 6, 7] else if ty = 2 then [0, 1, 2, 3, 4, 5, 6, 7] else if ty = 3 then [6, 7]
  else if ty = 4 ∨ ty = 5 then [7] else if ty = 6 then [6, 7]
  else if ty = 7 then (if s.f Reg.CHG_CFG_INPUT = 2 then [0, 3, 6] else [0, 1, 2, 3, 4, 5, 6])
  else if ty = 8 then [0, 1, 5, 6] else if ty = 9 then [0, 1, 2, 6, 7] else if ty = 10 then [0] else []

/-- The inputs that are currents or voltages; that of GENERIC_PI is neither (R255). -/
def State.analogInputs (s : State) (ty : Nat) : List Nat := (s.typeInputs ty).filter fun j => ty != 10 && (j != 7 || ty == 6)

/-- Types that need REF_OK. -/
def typeNeedsRef (ty : Nat) : Bool := ty == 1 || ty == 2 || ty == 5 || ty == 9

/-- The legs that a slot writes (R239, R308). -/
def State.slotWrites (s : State) (n : Nat) : List Nat :=
  let ty := s.f Reg.SLOT_TYPE_TYPE n
  match Stage.ofNat? (s.f Reg.SLOT_TYPE_STAGE n) with
  | none => []
  | some t =>
    if ty = 1 then (if t.isT then (t.legs.drop (3 * s.f Reg.SLOT_TYPE_HALF n)).take 3 else t.legs)
    else if ty = 2 ∨ ty = 7 ∨ ty = 8 ∨ ty = 9 then t.legs else []

/-- Following slot triggers from a slot ends within the slots. -/
def State.triggerEnds (s : State) : Nat → Nat → Bool
  | 0, _ => false
  | fuel + 1, n => s.f Reg.SLOT_TRIGGER_SRC n != 2 || s.triggerEnds fuel (s.f Reg.SLOT_TRIGGER_REF n)

/-- The trigger of a slot (Table 7-10); only a slot of type NONE may have none. -/
def State.triggerOk (s : State) (n : Nat) : Bool :=
  let ref := s.f Reg.SLOT_TRIGGER_REF n
  let div := if s.f Reg.SLOT_TRIGGER_DIV n = 0 then 256 else s.f Reg.SLOT_TRIGGER_DIV n
  s.f Reg.SLOT_TRIGGER_PHASE n < div &&
  match s.f Reg.SLOT_TRIGGER_SRC n with
  | 1 => s.f Reg.SLOT_TRIGGER_EVT n != 0 && ref < 7
  | 2 => ref < 48 && ref != n && s.f Reg.SLOT_TYPE_TYPE ref != 0 && s.triggerEnds 49 n
  | 3 => true
  | _ => s.f Reg.SLOT_TYPE_TYPE n == 0

/-- An accumulator that a carrier-triggered slot names latches on its carrier with its events (R285). -/
def State.latchOk (s : State) (n j : Nat) : Bool :=
  let a := s.f Reg.SLOT_INPUTS_SOURCE n j
  s.f Reg.SLOT_TRIGGER_SRC n != 1 || 128 ≤ a
  || (s.f Reg.SMP_ACC_CFG_LATCH_SRC a == s.f Reg.SLOT_TRIGGER_REF n && s.f Reg.SMP_ACC_CFG_LATCH_EVT a == s.f Reg.SLOT_TRIGGER_EVT n)

/-- The ranges of the co-optimised setpoint (R282). -/
def State.coOk (s : State) (n : Nat) : Bool :=
  let v := fun j => s.f Reg.SLOT_FF n j
  650 ≤ v 0 && v 0 ≤ v 9 && v 9 ≤ v 1 && v 1 ≤ 1150 && v 0 ≤ v 8 && v 8 ≤ v 1

/-- MOTOR_TABLES holds the sets of Table 7-4 back to back, each number once. -/
def motorOk (l : List Byte) : Bool :=
  let n := l.length / 4112
  let num := fun k => numAt l (4112 * k) 2
  l.length % 4112 == 0 && n ≤ 4 && (List.range n).all fun k =>
    num k < 4 && numAt l (4112 * k + 2) 2 == 32 && numAt l (4112 * k + 4) 2 == 32 && numAt l (4112 * k + 6) 2 == 0
    && (List.range n).all fun j => j == k || num j != num k

/-- A set of MOTOR_TABLES is present. -/
def State.motorHas (s : State) (k : Nat) : Bool :=
  let l := s.section? 6
  (List.range (l.length / 4112)).any fun j => numAt l (4112 * j) 2 == k

/-- LINK_MAP holds two maps with their zero bytes. -/
def linkMapOk (l : List Byte) : Bool :=
  l.isEmpty || (l.length == 1056 && numAt l 8 8 == 0 && numAt l 536 8 == 0)

/-- The words of a slot: what holds of every type, and what a type other than NONE asks for (Tables 7-9 to 7-12). -/
def State.slotOk (s : State) (n : Nat) : Bool :=
  let ty := s.f Reg.SLOT_TYPE_TYPE n
  let st := s.f Reg.SLOT_TYPE_STAGE n
  s.triggerOk n && (s.f Reg.SLOT_TYPE_HALF n == 0 || (ty == 1 && st < 2)) && (s.f Reg.SLOT_TYPE_TABLE n == 0 || ty == 3)
  && (s.f Reg.SLOT_SP_CFG_SP_SRC n != 2 || ty == 6) && s.f Reg.SLOT_SP_CFG_SP_SRC n != 3
  && s.f Reg.SLOT_SP_CFG_SP_TIMEOUT n ≤ 1000
  && (ty == 0 || (ty ≤ 10 && (typeStages ty).contains st
    && ((s.typeInputs ty).all fun j => s.f Reg.SLOT_INPUTS_SOURCE n j != 255)
    && (!typeNeedsRef ty || (128 ≤ s.f Reg.SLOT_INPUTS_SOURCE n 7 && s.f Reg.SLOT_INPUTS_SOURCE n 7 < 136))
    && ((s.analogInputs ty).all (s.latchOk n))
    && (s.f Reg.SLOT_SP_CFG_SP_SRC n != 1 || s.f Reg.SLOT_SP_CFG_SP_SLOT n < 48)
    && codeOk (s.f Reg.SLOT_SP_CFG_SP_LOSS_REACTION n) st && codeOk (s.f Reg.SLOT_FE_FE_REACTION n) st
    && codeOk (s.f Reg.SLOT_MODE_OVR_REACTION n) st && codeOk (s.f Reg.SLOT_MODE_REF_REACTION n) st
    && (ty != 3 || s.motorHas (s.f Reg.SLOT_TYPE_TABLE n)) && (ty != 6 || s.coOk n)
    && ((s.slotWrites n).all fun l => (List.range 48).all fun m => m == n || !(s.slotWrites m).contains l)))

def State.engineChecks (s : State) : List Check :=
  (forAll 8 fun n => Reg.FB_MODE_MODE.check n (s.fbOk n))
  ++ (forAll 48 fun n => Reg.SLOT_TYPE_TYPE.check n (s.slotOk n))
  ++ (forAll 48 fun n => Reg.SLOT_FF.check n ((List.range 10).all fun j =>
      ffAdmits (s.f Reg.SLOT_TYPE_TYPE n) j (s.f Reg.SLOT_FF n j) (s.stageMinPulse (s.slotStage n))))
  ++ [Reg.SLOT_TYPE_TYPE.check 0 (((List.range 48).filter fun n => s.f Reg.SLOT_TYPE_TYPE n == 6).length ≤ 1),
      (!s.on .linkMapHas || (List.range 2).all fun k => (List.range 256).all fun e =>
        Decidable.decide (650 ≤ s.v .linkMap (k * 512 + 2 + e)) && Decidable.decide (s.v .linkMap (k * 512 + 2 + e) ≤ 1150), 7),
      Reg.ENG_LANE_LOAD_UTIL.check 0 s.budgetOk]

/-! ### Pulse generation and gate drive (R291, R292, R327, R379, Tables 8-8 to 8-15, 10-6 to 10-9) -/

/-- The carrier modes of Table 8-1 that a stage may run. -/
def Stage.modes : Stage → List Nat
  | .T1 | .T2 | .P => [0]
  | .L => [1, 2, 3]
  | .D => [1]
  | .X1 | .X2 => [0, 3]

/-- The carrier words of a stage. -/
def State.carrierOk (s : State) (t : Stage) : Bool :=
  let k := t.idx
  (Stage.modes t).contains (s.f Reg.PULSE_CARRIER_MODE k) && s.periodOk t (s.f Reg.PULSE_PERIOD k)
  && (s.f Reg.PULSE_CARRIER_UPDATE k == 0 || s.f Reg.PULSE_CARRIER_MODE k == 0)
  && s.f Reg.PULSE_CARRIER_REF_LEG k < t.legCount && reactionOk (s.f Reg.PULSE_SYNC_SYNC_REACTION k) t

/-- The words of a leg. -/
def State.legOk (s : State) (n : Nat) : Bool :=
  let t := Stage.ofLeg n
  let reg := t == .L || t == .X1 || t == .X2
  (s.f Reg.LEG_CFG_TERM_SRC n != 2 || reg) && (!(s.f Reg.LEG_TRIP_SRC n).testBit 2 || reg)
  && reactionOk (s.f Reg.LEG_TRIP_LATCH_REACTION n) t && coreChannel t.core (s.f Reg.LEG_CMP_CHANNEL n)

/-- The words of a channel; the supply rails and the hard-short detector of a low-voltage channel are fixed. -/
def State.chanOk (s : State) (c : Nat) : Bool :=
  let t := Stage.ofLeg (c / 2)
  let on := s.f Reg.CH_DRIVE_I_ON c
  let off := s.f Reg.CH_DRIVE_I_OFF c
  (if isolated c then 1 ≤ on && 2 ≤ off && off ≤ 20 && off % 2 == 0 && s.f Reg.CH_DESAT_THRESH c ≤ 12
      && (!s.fb Reg.CH_SHORT_ENABLE c || s.f Reg.CH_SHORT_LIMIT c != 0)
   else 1 ≤ on && on ≤ 2 && 1 ≤ off && off ≤ 3)
  && reactionOk (s.f Reg.CH_FAULT_DESAT_REACTION c) t && reactionOk (s.f Reg.CH_FAULT_SHORT_REACTION c) t
  && reactionOk (s.f Reg.CH_FAULT_UVLO_REACTION c) t && reactionOk (s.f Reg.CH_FAULT_LINK_REACTION c) t

def State.pulseChecks (s : State) : List Check :=
  (Stage.all.map fun t => Reg.PULSE_CARRIER_MODE.check t.idx (s.carrierOk t))
  ++ (Stage.all.map fun t => Reg.GD_STAGE_CFG_MULTI_REACTION.check t.idx (reactionOk (s.f Reg.GD_STAGE_CFG_MULTI_REACTION t.idx) t))
  ++ (forAll 32 fun n => Reg.LEG_CFG_ENABLE.check n (s.legOk n))
  ++ (forAll 64 fun c => Reg.CH_SUPPLY_VPOS.check c (s.chanOk c))

/-! ### Link converter, charger and actuators (R384 to R386, R399, R404, R415, R421, R422, R464) -/

/-- The channels that the sequence table of a core adds to accumulator a of that core. -/
def State.accChannels (s : State) (c a : Nat) : List Nat :=
  ((List.range (s.f Reg.SMP_CORE_CFG_TABLE_LEN c)).filter fun e => s.seqF c e 1 5 5 == 1 && s.seqF c e 1 4 0 == a
    && s.seqChannel c e != 255).map (s.seqChannel c)

/-- Accumulator a of core c measures channel ch. -/
def State.accIs (s : State) (c a ch : Nat) : Bool := !(s.accChannels c a).isEmpty && (s.accChannels c a).all (· == ch)

/-- Where a channel is converted in a pass: the cycle count, the first and the last cycle of a conversion, and the widest distance. -/
structure Gap where
  cycles : Nat
  first  : Option Nat
  last   : Nat
  worst  : Nat
  deriving DecidableEq, Repr

/-- One entry with `n` conversions. -/
def State.gapEntry (s : State) (c ch n : Nat) (g : Gap) (e : Nat) : Gap :=
  let delay := s.seqF c e 0 31 20
  if s.seqChannel c e == 255 then { g with cycles := g.cycles + (if s.seqWaitEvt c e == 0 && delay == 0 then 1 else delay) }
  else
    let a := g.cycles + delay
    let g := { g with cycles := a + n }
    if s.seqChannel c e != ch then g
    else match g.first with
      | none => { g with first := some a, last := a + n - 1 }
      | some _ => { g with worst := max g.worst (a - g.last), last := a + n - 1 }

/-- Entry e of a pass; a LOOP entry repeats its group. -/
def State.gapStep (s : State) (c ch : Nat) (g : Gap) (e : Nat) : Gap :=
  if s.seqLoop c e then
    let lo := s.seqF c e 1 25 18
    let run := fun (g : Gap) => (List.range' lo (e + 1 - lo)).foldl (fun g k =>
      s.gapEntry c ch (if s.seqLoop c k then 1 else s.seqRepeat c k) g k) g
    (List.range (s.seqRepeat c e - 1)).foldl (fun g _ => run g) (s.gapEntry c ch 1 g e)
  else s.gapEntry c ch (s.seqRepeat c e) g e

/-- A channel is converted at least once in every 16 consecutive SAMPLE cycles of the pass (R385). -/
def State.dense (s : State) (c ch : Nat) : Bool :=
  let g := (List.range (s.f Reg.SMP_CORE_CFG_TABLE_LEN c)).foldl (s.gapStep c ch) { cycles := 0, first := none, last := 0, worst := 0 }
  match g.first with
  | none => false
  | some a => g.worst ≤ 16 && a + g.cycles - g.last ≤ 16

/-- Stage L is in use. -/
def State.linkUsed (s : State) : Bool := Stage.L.legs.any fun n => s.fb Reg.LEG_CFG_ENABLE n

/-- The charger is in use. -/
def State.chgUsed (s : State) : Bool := (Stage.P.legs ++ Stage.D.legs).any fun n => s.fb Reg.LEG_CFG_ENABLE n

/-- An accumulator of F2 that LINK.INPUTS names latches on the carrier of L with the events of TRIG. -/
def State.linkInputOk (s : State) (j : Nat) : Bool :=
  let a := 64 + s.f Reg.LINK_INPUTS j
  s.f Reg.SMP_ACC_CFG_LATCH_SRC a == 2 && s.f Reg.SMP_ACC_CFG_LATCH_EVT a == s.f Reg.LINK_CFG_TRIG

/-- A leg of L. -/
def State.linkLegOk (s : State) (j : Nat) : Bool :=
  let n := 12 + j
  let ch := s.f Reg.LEG_CMP_CHANNEL n
  s.fb Reg.LEG_CFG_ENABLE n == Decidable.decide (j < s.f Reg.LINK_CFG_N_MAX)
  && (!s.fb Reg.LEG_CFG_ENABLE n || (s.f Reg.LEG_CFG_TERM_SRC n == 2 && (s.f Reg.LEG_TRIP_SRC n).testBit 2
      && s.accIs 2 (s.f Reg.LINK_INPUTS j) ch && s.dense 2 ch))

/-- CO_MAX of the LINK_VOLTAGE slot, 1,150 V without one (R415). -/
def State.coMax (s : State) : Nat := match s.slotOfType 6 with
  | some n => s.f Reg.SLOT_FF n 1
  | none => 1150

def State.linkChecks (s : State) : List Check :=
  if !s.linkUsed then [] else
  [Reg.PULSE_CARRIER_MODE.check 2 (s.f Reg.PULSE_CARRIER_MODE 2 == 1),
   Reg.LINK_COMP_B.check 0 ((List.range 4).any fun k => s.f Reg.LINK_COMP_B k != 0),
   Reg.LINK_SHED_SHED_PCT.check 0 (s.f Reg.LINK_SHED_SHED_PCT + 10 ≤ s.f Reg.LINK_SHED_ADD_PCT),
   Reg.LINK_LIGHT_LIGHT_ENTER.check 0 (s.f Reg.LINK_LIGHT_LIGHT_ENTER + 10 ≤ s.f Reg.LINK_LIGHT_LIGHT_EXIT),
   Reg.LINK_LIMITS_OV_LIMIT.check 0 (s.coMax + 25 ≤ 700 + 5 * s.f Reg.LINK_LIMITS_OV_LIMIT)]
  ++ (forAll 8 fun j => Reg.LINK_INPUTS.check j (s.linkInputOk j))
  ++ (forAll 6 fun j => Reg.LEG_CFG_ENABLE.check (12 + j) (s.linkLegOk j))

/-- The legs of P to which the INPUT mode gives a role (Table 12-1). -/
def State.pfcRoleLegs (s : State) : List Nat := match s.f Reg.CHG_CFG_INPUT with
  | 0 => [18, 19, 20]
  | 2 => [18, 21]
  | _ => [18, 19, 20, 21]

/-- An input of the PFC slot is an accumulator that CHG.INPUTS names, or another of F2 that latches on the slot's carrier (R439). -/
def State.pfcInputOk (s : State) (n j : Nat) : Bool :=
  let a := s.f Reg.SLOT_INPUTS_SOURCE n j
  64 ≤ a && a < 96 && ((List.range 3).any (fun k => 64 + s.f Reg.CHG_INPUTS k == a) || s.f Reg.SMP_ACC_CFG_LATCH_SRC a == 3)

def State.chargerChecks (s : State) : List Check :=
  if !s.chgUsed then [] else
  let pfc := (List.range 48).filter fun n => s.f Reg.SLOT_TYPE_TYPE n == 7
  let dab := (List.range 48).filter fun n => s.f Reg.SLOT_TYPE_TYPE n == 8
  [Reg.PULSE_CARRIER_MODE.check 3 (s.f Reg.PULSE_CARRIER_MODE 3 == 0 && s.f Reg.PULSE_CARRIER_MODE 4 == 1),
   Reg.SLOT_TYPE_TYPE.check 0 (pfc.length == 1 && dab.length == 1),
   Reg.SLOT_SP_CFG_SP_SRC.check 0 (dab.all fun n => s.f Reg.SLOT_SP_CFG_SP_SRC n == 0 && s.f Reg.SLOT_SP_CFG_SP_TIMEOUT n == 0),
   Reg.SLOT_INPUTS_SOURCE.check 0 (pfc.all fun n => ((s.typeInputs 7).filter (· < 3)).all (s.pfcInputOk n)),
   Reg.LEG_CFG_ENABLE.check 18 ((Stage.D.legs ++ s.pfcRoleLegs).all fun n => s.fb Reg.LEG_CFG_ENABLE n)]

/-- Actuator a keeps R464. -/
def State.actuatorOk (s : State) (a : Nat) : Bool :=
  let n := s.f Reg.ACT_CFG_SLOT a
  let t : Stage := if a = 0 then .X1 else .X2
  let ch := if a = 0 then 0x0C else 0x10
  let acc := fun j => s.f Reg.SLOT_INPUTS_SOURCE n j
  let isCh := fun j c => 96 ≤ acc j && acc j < 128 && s.accIs 3 (acc j - 96) c
  n == 63 || (s.f Reg.SLOT_TYPE_TYPE n == 9 && s.f Reg.SLOT_TYPE_STAGE n == t.idx
    && s.f Reg.FB_MODE_STAGE (acc 7 - 128) == t.idx && isCh 0 ch && isCh 1 (ch + 1) && isCh 2 (ch + 2) && isCh 6 (ch + 3)
    && (s.f Reg.PULSE_CARRIER_MODE t.idx != 3 || t.legs.all fun l => s.f Reg.LEG_CFG_TERM_SRC l == 2)
    && (!s.fb Reg.ACT_CFG_ROLE a || s.f Reg.ACT_CFG_PARK_FB a != 0))

/-! ### Safety functions, recorder, fabric and CAN words (Tables 14-7, R575, 17-13 to 18-13, R656, R682, Table 20-9, 21-13) -/

/-- A brake. -/
def State.brakeOk (s : State) (k : Nat) : Bool :=
  let st := s.f Reg.SAFE_BRK_CFG_STAGE k
  let n := s.f Reg.SAFE_BRK_CFG_BT_SLOT k
  let re := fun v => if st == 7 then v != 5 else codeOk v st
  re (s.f Reg.SAFE_BRK_CFG_FAULT_REACTION k) && re (s.f Reg.SAFE_BRK_TEST_FAIL_REACTION k)
  && re (s.f Reg.SAFE_BRK_INTERVAL_DUE_REACTION k)
  && (st == 7 || (s.f Reg.FB_MODE_STAGE (s.f Reg.SAFE_BRK_CFG_FB k) == st && n < 48 && s.f Reg.SLOT_TYPE_STAGE n == st
      && [1, 2, 3].contains (s.f Reg.SLOT_TYPE_TYPE n)))

/-- An entry of LOG.RATE (R575). -/
def State.rateOk (s : State) (e : Nat) : Bool :=
  let c := s.f Reg.LOG_RATE_CODE e
  c == 0 || (s.f Reg.LOG_RATE_INTERVAL e != 0 && Ev.allCodes.contains c && !Ev.alwaysExempt c
    && (List.range 64).all fun m => m == e || s.f Reg.LOG_RATE_CODE m != c)

/-- Bits per second of a bit timing word, and its ranges (Table 19-1). -/
def timingOk (brp tseg1 tseg2 sjw : Nat) (data : Bool) : Bool :=
  (if data then brp < 32 && 1 ≤ tseg1 && tseg1 < 32 && tseg2 < 16 else brp < 64 && 1 ≤ tseg1 && tseg2 < 128) && sjw ≤ tseg2

/-- Quanta of 25 ns in a bit. -/
def bitTicks (brp tseg1 tseg2 : Nat) : Nat := (brp + 1) * (3 + tseg1 + tseg2)

/-- The bit rates of an enabled channel (R656); DATA is used by an FD channel only. -/
def State.canRateOk (s : State) (ch : Nat) : Bool :=
  let n := bitTicks (s.f Reg.CAN_NOMINAL_BRP ch) (s.f Reg.CAN_NOMINAL_TSEG1 ch) (s.f Reg.CAN_NOMINAL_TSEG2 ch)
  let d := bitTicks (s.f Reg.CAN_DATA_BRP ch) (s.f Reg.CAN_DATA_TSEG1 ch) (s.f Reg.CAN_DATA_TSEG2 ch)
  !s.fb Reg.CAN_CFG_ENABLE ch || (
    timingOk (s.f Reg.CAN_NOMINAL_BRP ch) (s.f Reg.CAN_NOMINAL_TSEG1 ch) (s.f Reg.CAN_NOMINAL_TSEG2 ch) (s.f Reg.CAN_NOMINAL_SJW ch) false
    && !s.fb Reg.CAN_NOMINAL_TDC ch && 40 ≤ n && n ≤ 4000
    && (!s.fb Reg.CAN_CFG_FD ch
      || (timingOk (s.f Reg.CAN_DATA_BRP ch) (s.f Reg.CAN_DATA_TSEG1 ch) (s.f Reg.CAN_DATA_TSEG2 ch) (s.f Reg.CAN_DATA_SJW ch) true
        && d ≤ n && 5 ≤ d && (s.fb Reg.CAN_DATA_TDC ch || 40 ≤ d))))

def State.wordChecks (s : State) : List Check :=
  (forAll 2 fun a => Reg.ACT_CFG_SLOT.check a (s.actuatorOk a))
  ++ (forAll 2 fun k => Reg.SAFE_BRK_CFG_STAGE.check k (s.brakeOk k))
  ++ (forAll 64 fun e => Reg.LOG_RATE_CODE.check e (s.rateOk e))
  ++ (forAll 4 fun ch => Reg.CAN_NOMINAL_BRP.check ch (s.canRateOk ch))
  ++ (forAll 4 fun n => Reg.FAB_PUB_OFFSET.check n
      (!s.fb Reg.FAB_PUB_ENABLE n || s.f Reg.FAB_PUB_OFFSET n < s.f Reg.FAB_CYCLE_CFG_CYCLE_LEN))
  ++ (forAll 18 fun w => Reg.ATTN_MASK_MASK.check w ((List.range 32).all fun b =>
      !(s.f Reg.ATTN_MASK_MASK w).testBit b || Ev.allCodes.any fun c => Ev.w c == w && Ev.b c == b))
  ++ [Reg.FAB_CFG_ETHERTYPE.check 0 (s.f Reg.FAB_CFG_ETHERTYPE != 0x8100 && s.f Reg.FAB_CFG_ETHERTYPE != 0x88A8),
      Reg.FAB_DISCOVERY_WAGGLE_PERIOD.check 0 (s.f Reg.FAB_DISCOVERY_REPLY_WINDOW ≤ s.f Reg.FAB_DISCOVERY_WAGGLE_PERIOD),
      Reg.FAB_RING_RING_PORTS.check 0 ([0, 3, 5, 6, 9, 10, 12].contains (s.f Reg.FAB_RING_RING_PORTS)),
      Reg.SVC_CFG_AUTH_MASK.check 0 (!(s.f Reg.SVC_CFG_AUTH_MASK).testBit 0)]

/-! ### Sections (R612, R625, R626, R664, R666, R701) -/

/-- A parameter that a host may write at run time: it exists and is not of class RO or CFG. -/
def writable (index sub : Nat) : Bool := match Map.word (keyOf index sub) with
  | some w => index < 0x2000 && w.flds.any fun f => f.acc != .ro && f.acc != .cfg
  | none => false

/-- A parameter exists. -/
def exists' (index sub : Nat) : Bool := index < 0x2000 && (Map.word (keyOf index sub)).isSome

/-- The counts of a ROUTE_TABLE section. -/
def routeCount (l : List Byte) : Nat := numAt l 0 2
def pubCount (l : List Byte) : Nat := numAt l 2 2

/-- Words of a route entry. -/
def routeWord (l : List Byte) (i w : Nat) : Nat := numAt l (16 + 8 * i + 4 * w) 4

/-- Words of a publish entry. -/
def pubWord (l : List Byte) (i w : Nat) : Nat := numAt l (16 + 8 * (routeCount l + i) + 4 * w) 4

/-- The publish entries of frame n. -/
def pubEntries (l : List Byte) (n : Nat) : List Nat := (List.range (pubCount l)).filter fun i => pubWord l i 0 / 2 ^ 13 % 4 == n

/-- The ROUTE_TABLE section. -/
def State.routeOk (s : State) (l : List Byte) : Bool :=
  l.isEmpty || (16 ≤ l.length && l.length == 16 + 8 * (routeCount l + pubCount l) && routeCount l ≤ 8192 && pubCount l ≤ 116
    && ((l.drop 4).take 12).all (· == 0)
    && ((List.range (routeCount l)).all fun i =>
      let a := routeWord l i 0
      let b := routeWord l i 1
      a / 64 % 1024 == 0 && b < 256 && (!a.testBit 4 || writable (a / 65536) b))
    && ((List.range (pubCount l)).all fun i =>
      let a := pubWord l i 0
      let b := pubWord l i 1
      a < 2 ^ 15 && b < 2 ^ 24 && exists' (b % 65536) (b / 65536)
      && (List.range (pubCount l)).all fun j => i == j || pubWord l j 0 % 8192 != a % 8192)
    && ((List.range 4).all fun n => (pubEntries l n).length ≤ 29 && (!s.fb Reg.FAB_PUB_ENABLE n || !(pubEntries l n).isEmpty)))

/-- The ADDRESS_TABLE section (R612). -/
def addressOk (l : List Byte) : Bool :=
  let n := numAt l 0 2
  let kind := fun i => numAt l (4 + 16 * i) 1
  let depth := fun i => numAt l (5 + 16 * i) 1
  let addr := fun i => numAt l (6 + 16 * i) 2
  let val := fun i => numAt l (12 + 16 * i) 8
  l.isEmpty || (1 ≤ n && n ≤ 1024 && numAt l 2 2 == 0 && l.length == 4 + 16 * n
    && (List.range n).all fun i =>
      addr i < 0x200 && numAt l (8 + 16 * i) 4 == 0
      && (if kind i == 1 then depth i == 0 else kind i == 2 && depth i ≤ 32 && val i < 4 ^ depth i)
      && (List.range n).all fun j => i == j || (addr i != addr j && !(kind i == kind j && depth i == depth j && val i == val j)))

/-! The parts of a CAN_FILTERS_AND_MAP section (Tables 19-4 to 19-7). -/

def canTxCount (l : List Byte) : Nat := numAt l 2 2
def canFieldCount (l : List Byte) : Nat := numAt l 4 2
/-- Offsets of filter pair f of channel ch, of receive and transmit entries, and of field descriptors. -/
def filterAt (ch f : Nat) : Nat := 16 + 384 * ch + 12 * f
def txAt (l : List Byte) (i : Nat) : Nat := 1552 + 16 * (canRxCount l + i)
def fieldAt (l : List Byte) (i : Nat) : Nat := 1552 + 16 * (canRxCount l + canTxCount l) + 8 * i

/-- A field descriptor (Table 19-7). -/
structure CanField where
  index  : Nat
  sub    : Nat
  length : Nat
  start  : Nat
  flags  : Nat
  pos    : Nat
  deriving DecidableEq, Repr

def canField (l : List Byte) (i : Nat) : CanField :=
  let o := fieldAt l i
  { index := numAt l o 2, sub := numAt l (o + 2) 1, length := numAt l (o + 3) 1, start := numAt l (o + 4) 2,
    flags := numAt l (o + 6) 1, pos := numAt l (o + 7) 1 }

/-- The bit positions of a field in the data, least significant first (R665). -/
def CanField.bits (f : CanField) : List Nat :=
  if f.flags.testBit 0 then
    -- from the most significant bit downwards within a byte and then into the next byte
    ((List.range f.length).map fun k =>
      let down := 7 - f.start % 8 + k
      (f.start / 8 + down / 8) * 8 + (7 - down % 8)).reverse
  else (List.range f.length).map fun k => f.start + k

/-- A field ends within a number of data bytes. -/
def CanField.fits (f : CanField) (bytes : Nat) : Bool := f.bits.all fun b => b < 8 * bytes

/-- The CAN_FILTERS_AND_MAP section. -/
def State.canMapOk (s : State) (l : List Byte) : Bool :=
  let fc := canFieldCount l
  l.isEmpty || (1552 ≤ l.length && l.length == 1552 + 16 * (canRxCount l + canTxCount l) + 8 * fc
    && canRxCount l ≤ 256 && canTxCount l ≤ 64 && fc ≤ 1024 && ((l.drop 6).take 10).all (· == 0)
    && ((List.range 128).all fun k =>
      let o := filterAt (k / 32) (k % 32)
      numAt l (o + 8) 1 < 16 && numAt l (o + 9) 3 == 0
      && (!(numAt l (o + 8) 1).testBit 3 || s.fb Reg.CAN_CFG_CLAIM_EN (k / 32)))
    && ((List.range (canRxCount l)).all fun i =>
      let o := rxAt i
      let kind := numAt l (o + 5) 1
      let n := numAt l (o + 8) 1
      let ch := numAt l (o + 4) 1
      ch < 4 && kind < 2 && numAt l (o + 9) 7 == 0
      && (if kind == 0 then 1 ≤ n && n ≤ 8 && numAt l (o + 6) 2 + n ≤ fc
          else n == 0 && s.fb Reg.CAN_CFG_FD ch && s.f Reg.SVC_CAN_REPLY ch != 0)
      && ((List.range' (numAt l (o + 6) 2) n).all fun k => writable (canField l k).index (canField l k).sub)
      && (List.range (canRxCount l)).all fun j =>
        i == j || numAt l (rxAt j + 4) 1 != ch || numAt l (rxAt j) 4 % 2 ^ 30 != numAt l o 4 % 2 ^ 30)
    && ((List.range (canTxCount l)).all fun i =>
      let o := txAt l i
      let fl := numAt l (o + 5) 1
      let ch := numAt l (o + 4) 1
      let n := numAt l (o + 12) 1
      let dlc := numAt l (o + 6) 1
      ch < 4 && fl < 16 && dlc < 16 && (dlc ≤ 8 || fl.testBit 1) && !(numAt l o 4).testBit 30 && numAt l (o + 7) 1 == 0
      && numAt l (o + 8) 2 ≤ 60000 && numAt l (o + 13) 3 == 0 && 1 ≤ n && n ≤ 16 && numAt l (o + 10) 2 + n ≤ fc
      && !s.fb Reg.CAN_CFG_RESTRICTED ch
      && (!fl.testBit 3 || (s.fb Reg.CAN_CFG_CLAIM_EN ch && (numAt l o 4).testBit 29))
      && (List.range' (numAt l (o + 10) 2) n).all fun k =>
        exists' (canField l k).index (canField l k).sub && (canField l k).fits (dlcBytes dlc))
    && ((List.range fc).all fun k =>
      let f := canField l k
      1 ≤ f.length && f.length ≤ 32 && f.pos + f.length ≤ 32 && f.start ≤ 511 && f.flags < 4))

/-- The sections of an image. -/
def State.sectionChecks (s : State) : List Check :=
  [((s.section? 3).isEmpty || (s.section? 3).length == 8192, 3), (motorOk (s.section? 6), 6), (linkMapOk (s.section? 7), 7),
   ((s.section? 9).isEmpty || (s.section? 9).length == 416, 9), (s.routeOk (s.section? 4), 4), (s.canMapOk (s.section? 5), 5), (addressOk (s.section? 8), 8)]

/-- Every content check of step 7 but those on the PARAMETERS entries themselves. -/
def State.contentChecks (s : State) : List Check :=
  s.samplingChecks ++ s.engineChecks ++ s.pulseChecks ++ s.linkChecks ++ s.chargerChecks ++ s.wordChecks ++ s.sectionChecks

/-- What the record of the first failing check carries. -/
def State.contentBad (s : State) : Option Nat := (s.contentChecks.find? fun c => !c.1).map Prod.snd

end Sys2Proof.Machine
end

