-- ==== Sys2Proof/Machine/Image.lean ====
section
/-!
DEFINITION. The comb image (chapter 2): header, directory and sections (Tables 2-2 to 2-4), the checks of steps 2 to 7 of Table 2-5 on a
copy of it, and the configuration that it gives (R73 to R76, Table 21-13).
-/

namespace Sys2Proof.Machine

/-! ### Key and staging bytes (R65, R726) -/

/-- n bytes of the key from an address. -/
def State.keyBytes (s : State) (a n : Nat) : List Byte := (List.range n).map fun i => Store.get State.keyReset s.keyMem (a + i)

/-- The first n bytes of the staging area. -/
def State.stagedBytes (s : State) (n : Nat) : List Byte := (List.range n).map fun i => Store.get State.ramReset s.staging i

/-- The address of image slot A (0) or B (1). -/
def slotBase (slot : Nat) : Nat := if slot = 1 then 0x100000 else 0

/-! ### Header (Table 2-2, R66) -/

def hdrGeneration (h : List Byte) : Nat := numAt h 0x08 4
def hdrLength (h : List Byte) : Nat := numAt h 0x0C 4
def hdrCount (h : List Byte) : Nat := numAt h 0x1C 2
def hdrFlags (h : List Byte) : Nat := numAt h 0x1E 2
def hdrCrc (h : List Byte) : Nat := numAt h 0x1FC 4

/-- k bytes from an offset are zero. -/
def zeroAt (l : List Byte) (o k : Nat) : Bool := ((l.drop o).take k).all (· == 0)

/-- A header of 512 bytes is valid (R66). -/
def headerOk (h : List Byte) : Bool :=
  numAt h 0 4 == 0x424D4F43 && numAt h 4 2 == 1 && numAt h 6 2 == 0x200 && hdrCrc h == crc32 (h.take 0x1FC)
  && 1 ≤ hdrGeneration h && hdrGeneration h ≤ 0xFFFFFFFE
  && 0x250 ≤ hdrLength h && hdrLength h ≤ 0x100000 && hdrLength h % 16 == 0
  && 1 ≤ hdrCount h && hdrCount h ≤ 24 && hdrFlags h < 2 && zeroAt h 0x28 24 && zeroAt h 0x1C0 60

/-! ### Directory (Table 2-3, R70, R73, R74) -/

/-- One entry of the directory. -/
structure DirEntry where
  type    : Nat
  version : Nat
  offset  : Nat
  size    : Nat
  crc     : Nat
  deriving DecidableEq, Repr

def dirEntry (h : List Byte) (i : Nat) : DirEntry :=
  let o := 0x40 + 16 * i
  { type := numAt h o 2, version := numAt h (o + 2) 2, offset := numAt h (o + 4) 4, size := numAt h (o + 8) 4, crc := numAt h (o + 12) 4 }

/-- The entries in use. -/
def directory (h : List Byte) : List DirEntry := (List.range (hdrCount h)).map (dirEntry h)

/-- An entry alone. -/
def entryOk (len : Nat) (e : DirEntry) : Bool :=
  ((1 ≤ e.type && e.type ≤ 9) || e.type == 0xF0) && e.version == 1 && e.offset % 16 == 0 && 0x200 ≤ e.offset
  && 1 ≤ e.size && e.size ≤ 0x40000 && e.offset + e.size + 64 ≤ len
  && (e.type != 1 || (e.size == 512 && e.offset == 0x200)) && (e.type != 0xF0 || e.size ≤ 16384) && (e.type != 2 || e.size % 8 == 0)

/-- Two entries do not overlap and have different types. -/
def apart (a b : DirEntry) : Bool := a.type != b.type && (a.offset + a.size ≤ b.offset || b.offset + b.size ≤ a.offset)

/-- The directory obeys R70 and R73; otherwise the section type that the record carries, 2 where PARAMETERS is absent and 0 for a
non-zero unused entry. -/
def directoryBad (h : List Byte) : Option Nat :=
  let l := directory h
  match l.zipIdx.find? fun x => !entryOk (hdrLength h) x.1 || (l.take x.2).any fun e => !apart e x.1 with
  | some x => some x.1.type
  | none =>
    if !l.any fun e => e.type == 2 then some 2
    else if !zeroAt h (0x40 + 16 * l.length) (16 * (24 - l.length)) then some 0
    else none

/-- A section of an image. -/
def sectionOf (img : List Byte) (e : DirEntry) : List Byte := (img.drop e.offset).take e.size

/-- The sections of an image by type. -/
def sectionsOf (img : List Byte) : List (Nat × List Byte) := (directory (img.take 512)).map fun e => (e.type, sectionOf img e)

/-! ### PARAMETERS (R74, R75) -/

/-- The entries of a PARAMETERS section: key, byte 3, value. -/
def paramEntries : List Byte → List (Nat × Nat × Nat)
  | a :: b :: c :: d :: w :: x :: y :: z :: l => (keyOf (ofLe [a, b]) c.toNat, d.toNat, ofLe [w, x, y, z]) :: paramEntries l
  | _ => []

/-- The access class of a word: CHnn.SHORT is RO for the low-voltage channels, CHnn.THERM for the high-side and low-voltage ones. -/
def wordClass (w : WordDef) (key : Nat) : Access :=
  let c := (key - w.base) / 0x1000
  if w.base = Reg.CH_SHORT_ENABLE.base then (if 52 ≤ c then .ro else w.cls)
  else if w.base = Reg.CH_THERM_R25.base then (if c % 2 = 1 ∨ 52 ≤ c then .ro else w.cls)
  else w.cls

/-- A field is fixed in an instance: the rails of the low-voltage channels (Table 10-6). -/
def fixedField (f : Fld) (key : Nat) : Bool :=
  (f == Reg.CH_SUPPLY_VPOS || f == Reg.CH_SUPPLY_VNEG) && 52 ≤ (key - f.base) / 0x1000

/-- A field that an image sets. -/
def setByImage (f : Fld) (key : Nat) : Bool := f.cls != .ro && f.cls != .w1c && !fixedField f key

/-- An entry of PARAMETERS is valid (R75). -/
def paramOk (e : Nat × Nat × Nat) : Bool := match Map.word e.1 with
  | none => false
  | some w =>
    let c := wordClass w e.1
    e.1 < 0x200000 && c != .ro && c != .w1c && e.2.1 == 0
    && (w.flds.any (fun f => f.rng.isQ15) || e.2.2 &&& w.mask == e.2.2)
    && w.flds.all fun f => !setByImage f e.1 || f.rng.admits (bits e.2.2 f.hi f.lo)

/-- Keys in strictly rising order. -/
def rising : List (Nat × Nat × Nat) → Bool
  | a :: b :: l => a.1 < b.1 && rising (b :: l)
  | _ => true

/-- The first entry of PARAMETERS that is invalid or out of order. -/
def paramsBad (l : List (Nat × Nat × Nat)) : Option Nat :=
  match l.zipIdx.find? fun x => !paramOk x.1 || (match l[x.2 + 1]? with
    | some y => !(x.1.1 < y.1)
    | none => false) with
  | some x => some x.1.1
  | none => none

/-! ### The configuration (step 7 of Table 2-7) -/

/-- Apply one entry of PARAMETERS: its RO fields are ignored. The FF sub-indices that hold a Q1.15 word for their slot's type take its sign
extension afterwards (`extendFf`). -/
def State.setParam (s : State) (e : Nat × Nat × Nat) : State := match Map.word e.1 with
  | none => s
  | some w => s.putWord e.1 (w.flds.foldl (fun a f =>
      if setByImage f e.1 then putBits a f.hi f.lo (f.stored (bits e.2.2 f.hi f.lo)) else a) (s.word e.1).toNat)

/-- The default of sub-index j of SLOTnn.FF for a slot type (Tables 7-8, 7-13, 12-18, 13-3). -/
def ffDefault (ty j : Nat) : Nat :=
  if ty = 1 ∨ ty = 2 then (if j = 3 then 98304 else 0)
  else if ty = 6 then [650, 1150, 20, 25, 50, 50, 10, 5, 1150, 650].getD j 0
  else if ty = 8 then [65536, 300, 0, 13107].getD j 0
  else if ty = 9 then [536870912, 4096, 32512, 38400, 960000].getD j 0
  else 0

/-- Defaults that depend on another parameter: SLOTnn.FF by type, FBn.FAULT by STAGE; `given` holds the keys that the image sets. -/
def State.dependentDefaults (s : State) (given : List Nat) : State :=
  let unset := fun (f : Fld) n j => !given.contains (f.key n j)
  let s := s.each (List.range 48) fun s n =>
    let ty := s.f Reg.SLOT_TYPE_TYPE n
    (List.range 10).foldl (fun s j => if unset Reg.SLOT_FF n j then s.putWord (Reg.SLOT_FF.key n j) (ffDefault ty j) else s) s
  s.each (List.range 8) fun s n =>
    if unset Reg.FB_FAULT_SIGNAL_REACTION n 0 && s.f Reg.FB_MODE_STAGE n != 7 then
      (s.setF Reg.FB_FAULT_SIGNAL_REACTION n 4).setF Reg.FB_FAULT_POS_REACTION n 3
    else s

/-- The FF sub-indices that hold a Q1.15 word for the type of their slot: bits 31:16 are ignored and read as the sign extension, as on a
host write (R14, R754). -/
def State.extendFf (s : State) : State :=
  s.each (List.range 48) fun s n => s.each (List.range 10) fun s j =>
    if ffQ15 (s.f Reg.SLOT_TYPE_TYPE n) j then
      s.putWord (Reg.SLOT_FF.key n j) (wrap 32 (toSigned 16 ((s.word (Reg.SLOT_FF.key n j)).toNat % 65536)))
    else s

/-- The tables of the image: sequence tables, motor tables, link map, thermal neighbours (R148, Tables 7-4, 7-6, R184). -/
def State.loadTables (s : State) : State :=
  let q := s.section? 3
  let m := s.section? 6
  let k := s.section? 7
  let h := s.section? 9
  let s := s.each (List.range (q.length / 4)) fun s i => s.setV .seqTab i (numAt q (4 * i) 4)
  let s := s.each (List.range (m.length / 4112)) fun s j =>
    let o := 4112 * j
    let set := numAt m o 2
    let s := (s.setOn .motorHas set true).setV .motorTab (set * 4096) (numAt m (o + 8) 4)
    let s := s.setV .motorTab (set * 4096 + 1) (numAt m (o + 12) 4)
    (List.range 2048).foldl (fun s e => s.setV .motorTab (set * 4096 + 2 + e) (toSigned 16 (numAt m (o + 16 + 2 * e) 2))) s
  let s := s.setOn .linkMapHas 0 (!k.isEmpty)
  let s := s.each (List.range (k.length / 528)) fun s j =>
    let o := 528 * j
    let s := (s.setV .linkMap (j * 512) (numAt k o 4)).setV .linkMap (j * 512 + 1) (numAt k (o + 4) 4)
    (List.range 256).foldl (fun s e => s.setV .linkMap (j * 512 + 2 + e) (numAt k (o + 16 + 2 * e) 2)) s
  s.each (List.range 416) fun s i => s.setV .thNb i (if h.isEmpty then 255 else numAt h i 1)

/-! ### The default of ATTN.MASK (Table 21-13, R755) -/

/-- Some instance of a range has a reaction other than REPORT. -/
def anyOf (n : Nat) (p : Nat → Bool) : Bool := (List.range n).any p

/-- The reaction in force of an event is not REPORT, in some instance that is in use. -/
def State.reacts (s : State) (code : Nat) : Bool :=
  let slot := fun (f : Fld) => anyOf 48 fun n => s.f Reg.SLOT_TYPE_TYPE n != 0 && s.f f n != 0
  let fb := fun (f : Fld) => anyOf 8 fun n => s.f f n != 0
  let leg := fun (f : Fld) => anyOf 32 fun n => s.fb Reg.LEG_CFG_ENABLE n && s.f f n != 0
  let ch := fun (f : Fld) => anyOf 64 fun c => s.fb Reg.LEG_CFG_ENABLE (c / 2) && s.f f c != 0
  let act := fun (f : Fld) => anyOf 2 fun a => s.f f a != 0
  let one := fun (f : Fld) => s.f f != 0
  if code = Ev.KEY_CHANGED then one Reg.START_KEY_CHECK_REACTION
  else if code = Ev.XTAL_FAIL ∨ code = Ev.PLL_UNLOCK ∨ code = Ev.CLOCK_COUNT then one Reg.CLK_FAULT_CLOCK_REACTION
  else if code = Ev.LOCK_LOST ∨ code = Ev.HOLDOVER_ENTERED then one Reg.CLK_DISCIPLINE_LOSS_REACTION
  else if code = Ev.ECC_UNCORRECTABLE then one Reg.CLK_FAULT_ECC_REACTION
  else if code = Ev.CAL_STALE then one Reg.SMP_FAULT_STALE_REACTION
  else if code = Ev.SEQ_OVERRUN then one Reg.SMP_FAULT_OVERRUN_REACTION
  else if code = Ev.ACC_EMPTY then anyOf 128 fun a => s.f Reg.SMP_ACC_CFG_EMPTY_REACTION a != 0
  else if code = Ev.INPUT_OVERRANGE then anyOf 80 fun a => s.f Reg.SMP_AI_CFG_OVR_REACTION a != 0
  else if code = Ev.REF_FAULT then one Reg.SMP_FAULT_REF_REACTION
  else if code = Ev.RAIL_FAULT then one Reg.HK_CFG_RAIL_REACTION
  else if code = Ev.HK_LIMIT then anyOf 64 fun p => s.f Reg.HK_P_LIMITS_REACTION p != 0
  else if [Ev.WIRE_FAULT, Ev.SUPPLY_FAULT, Ev.HALL_INVALID, Ev.RES_AMPLITUDE, Ev.EXC_FAULT, Ev.SSI_FRAME].contains code then
    fb Reg.FB_FAULT_SIGNAL_REACTION
  else if [Ev.COUNT_ERROR, Ev.HALL_SEQUENCE, Ev.INDEX_MISSING, Ev.RES_TRACKING, Ev.SSI_JUMP].contains code then
    fb Reg.FB_FAULT_POS_REACTION
  else if code = Ev.INDEX_UNEXPECTED then fb Reg.FB_FAULT_INDEX_REACTION
  else if code = Ev.SLOT_OVERRUN then slot Reg.SLOT_MODE_OVR_REACTION
  else if code = Ev.FOLLOWING_ERROR then slot Reg.SLOT_FE_FE_REACTION
  else if code = Ev.SP_LOST then slot Reg.SLOT_SP_CFG_SP_LOSS_REACTION
  else if code = Ev.REF_LOST then slot Reg.SLOT_MODE_REF_REACTION
  else if code = Ev.TRIP_LATCH then leg Reg.LEG_TRIP_LATCH_REACTION
  else if code = Ev.SYNC_LOST then Stage.all.any fun t => s.f Reg.PULSE_SYNC_SYNC_REACTION t.idx != 0
  else if code = Ev.DLL_UNLOCK then one Reg.PULSE_FAULT_DLL_REACTION
  else if code = Ev.HANDOVER then one Reg.FO_REACTION_HANDOVER_REACTION
  else if code = Ev.STANDBY_CONDEMNED then one Reg.FO_REACTION_SPARE_REACTION
  else if code = Ev.UNDECIDED_MISMATCH then one Reg.FO_REACTION_UNDECIDED_REACTION
  else if code = Ev.PATH_MISMATCH then one Reg.FO_REACTION_PATH_REACTION
  else if code = Ev.ENGINES_EXHAUSTED then one Reg.FO_REACTION_EXHAUSTED_REACTION
  else if code = Ev.INTERLOCK_FAULT then one Reg.FO_REACTION_INTERLOCK_REACTION
  else if code = Ev.DESAT_TRIP then ch Reg.CH_FAULT_DESAT_REACTION
  else if code = Ev.SHORT_TRIP then ch Reg.CH_FAULT_SHORT_REACTION
  else if code = Ev.MULTI_LEG_TRIP then Stage.all.any fun t => s.f Reg.GD_STAGE_CFG_MULTI_REACTION t.idx != 0
  else if code = Ev.GATE_UVLO then ch Reg.CH_FAULT_UVLO_REACTION
  else if code = Ev.LINK_FAULT then ch Reg.CH_FAULT_LINK_REACTION
  else if code = Ev.SOFT_START_FAIL then one Reg.LINK_SOFT_SS_REACTION
  else if code = Ev.LINK_OV then one Reg.LINK_LIMITS_OV_REACTION
  else if code = Ev.LINK_UV then one Reg.LINK_LIMITS_UV_REACTION
  else if code = Ev.PHASE_IMBALANCE then one Reg.LINK_IMBALANCE_IMB_REACTION
  else if code = Ev.SOURCE_LOST then one Reg.CHG_CFG_LOSS_REACTION
  else if code = Ev.PFC_OV then one Reg.CHG_FAULT_PFC_OV_REACTION
  else if code = Ev.BATT_OV then one Reg.CHG_FAULT_BATT_OV_REACTION
  else if code = Ev.BATT_OC then one Reg.CHG_FAULT_BATT_OC_REACTION
  else if code = Ev.DAB_FLUX then one Reg.CHG_FAULT_FLUX_REACTION
  else if code = Ev.ACT_TIMEOUT then act Reg.ACT_FAULT_TIMEOUT_REACTION
  else if code = Ev.VACT_LOW then act Reg.ACT_FAULT_VACT_LOW_REACTION
  else if code = Ev.VACT_HIGH then act Reg.ACT_FAULT_VACT_HIGH_REACTION
  else if code = Ev.PATH_DISAGREE then one Reg.SAFE_STO_CFG_PATH_REACTION
  else if code = Ev.STO_TEST_FAIL then one Reg.SAFE_STO_CFG_TEST_REACTION
  else if code = Ev.BRAKE_OUTPUT_FAULT then anyOf 2 fun k => s.f Reg.SAFE_BRK_CFG_FAULT_REACTION k != 0
  else if code = Ev.BRAKE_TEST_FAILED then anyOf 2 fun k => s.f Reg.SAFE_BRK_TEST_FAIL_REACTION k != 0
  else if code = Ev.BRAKE_TEST_DUE then anyOf 2 fun k => s.f Reg.SAFE_BRK_INTERVAL_DUE_REACTION k != 0
  else if code = Ev.CONTACTOR_MISMATCH ∨ code = Ev.PRECHARGE_TIMEOUT then one Reg.SAFE_CONTACTOR_MISMATCH_REACTION
  else if code = Ev.CONTACTOR_WELDED then one Reg.SAFE_CONTACTOR_WELD_REACTION
  else if code = Ev.TH_SHUTDOWN then anyOf 52 fun n => s.fb Reg.TH_S_CFG_ENABLE n && s.f Reg.TH_S_CFG_SHUT_REACTION n != 0
  else if code = Ev.NO_ESTIMATE then one Reg.TH_CFG_NOEST_REACTION
  else if code = Ev.LINK_DOWN then one Reg.FAB_FAULT_LINK_REACTION
  else if code = Ev.ROOT_LOST then one Reg.FAB_FAULT_PARTITION_REACTION
  else if code = Ev.RING_BROKEN then one Reg.FAB_RING_RING_REACTION
  else if code = Ev.LATENCY_UNMET then one Reg.FAB_CYCLE_CFG_LAT_REACTION
  else if code = Ev.BUS_OFF then anyOf 4 fun n => s.f Reg.CAN_FAULT_BUS_OFF_REACTION n != 0
  else if code = Ev.CANNOT_CLAIM then anyOf 4 fun n => s.f Reg.CAN_FAULT_CLAIM_REACTION n != 0
  else if code = Ev.HOLD_EXPIRED then true
  else [Ev.PRECHARGE_LOW, Ev.STO_REQUEST, Ev.STO_DISCREPANCY, Ev.INJECTION_TEST_FAIL, Ev.S_REPEAT_MISMATCH, Ev.STATE_LOST, Ev.TH_DERATE,
        Ev.TH_COLD_DRIVE].contains code

/-- ATTN.MASK words that the image does not set. -/
def State.attnDefaults (s : State) (given : List Nat) : State :=
  s.each ((List.range 18).filter fun w => !given.contains (Reg.ATTN_MASK_MASK.key w)) fun s w =>
    s.putWord (Reg.ATTN_MASK_MASK.key w)
      ((Ev.allCodes.filter fun c => Ev.w c == w && s.reacts c).foldl (fun a c => a + 2 ^ Ev.b c) 0)

/-! ### What follows from the configuration -/

/-- The owner of each leg (Table 8-14): a slot that writes it, the link regulator for the enabled legs of L, otherwise the host. -/
def State.setOwners (s : State) : State :=
  let slots := (List.range 48).flatMap s.slotWrites
  s.each (List.range 32) fun s n =>
    s.setF Reg.LEG_STATUS_OWNER n (if Stage.ofLeg n == .L then (if s.fb Reg.LEG_CFG_ENABLE n then 2 else 0)
      else if slots.contains n then 1 else 0)

/-- The image gives the machine its parameters and tables; `s` holds every parameter it may set at its default. -/
def State.configure (s : State) (sections : List (Nat × List Byte)) : State :=
  let s := { s with image := sections }
  let p := paramEntries (s.section? 2)
  let given := p.map fun e => e.1
  let s := ((s.each p State.setParam).dependentDefaults given).extendFf.loadTables
  let s := s.each (List.range 48) fun s n => s.setAuto n (s.fb Reg.SLOT_MODE_INIT_MODE n)
  let s := s.each Stage.all fun s t => s.setF Reg.PULSE_STATUS_MODE t.idx (s.f Reg.PULSE_CARRIER_MODE t.idx)
  let s := (s.attnDefaults given).setOwners
  s.each (List.range 4) fun s n => s.setF Reg.FAB_PUB_COUNT n (pubEntries (s.section? 4) n).length

/-! ### Steps 3 to 7 of Table 2-5 -/

/-- What the checks of an image find: the cause of the first that fails, what its record carries, and whether a section was read
twice with a good second read. -/
structure Verdict where
  cause  : Nat
  detail : Nat
  reread : Bool
  deriving DecidableEq, Repr

/-- Step 3: MIN_HW, MIN_ROM and OWNER_FP. -/
def State.compatible (s : State) (h : List Byte) : Bool :=
  numAt h 0x18 2 ≤ s.f Reg.ID_HW_REV && numAt h 0x1A 2 ≤ s.f Reg.ID_ROM
  && numAt h 0x20 4 == s.f Reg.ID_OWNER_FP 0 && numAt h 0x24 4 == s.f Reg.ID_OWNER_FP 1

/-- Step 6: the signature over all but the last 64 bytes of LENGTH (R72). -/
def signatureOk (img : List Byte) : Bool :=
  let n := hdrLength (img.take 512)
  ownerSigned (img.take (n - 64)) ((img.drop (n - 64)).take 64)

/-- Step 7: the entries of PARAMETERS, then the content checks on the configuration that the image gives to a state with defaults. -/
def State.contentVerdict (s : State) (img : List Byte) : Option Nat :=
  let l := sectionsOf img
  let p := paramEntries ((l.find? fun x => x.1 == 2).map Prod.snd |>.getD [])
  match paramsBad p with
  | some d => some d
  | none => (s.configure l).contentBad

/-- Steps 3 to 7 on an image. `bad1` and `bad2` name the directory entries whose first and second read did not arrive as the key holds
them (R78); the state gives the module's values and holds every parameter at its default. -/
def State.verdict (s : State) (img : List Byte) (bad1 bad2 : List Nat) : Verdict :=
  let h := img.take 512
  let v : Nat → Nat → Bool → Verdict := fun c d r => { cause := c, detail := d, reread := r }
  if !s.compatible h then v 4 0 false
  else match directoryBad h with
    | some d => v 7 d false
    | none =>
      let l := (directory h).zipIdx
      let good := fun (e : DirEntry) => crc32 (sectionOf img e) == e.crc
      let failed := l.filter fun x => !good x.1 || bad1.contains x.2
      match failed.find? fun x => !good x.1 || bad2.contains x.2 with
      | some x => v 5 x.1.type (failed.head? != some x)
      | none =>
        let again := !failed.isEmpty
        if !signatureOk img then v 6 0 again
        else match s.contentVerdict img with
          | some d => v 7 d again
          | none => v 0 0 again

end Sys2Proof.Machine
end

