-- ==== Sys2Proof/Machine/Serve.lean ====
section
/-!
DEFINITION. The service layer (chapter 20): what is served in which state (R88 to R90, R120, R549, R759), hand-over and held requests
(R544, R554), the decision of every command of Table 20-6, and the commands of the table that are requests of hosts.
-/

namespace Sys2Proof

/-- The V core that a service stands with in SPLIT and INDEPENDENT: V1 for table windows and LOG_READ (Table 15-2, R759). -/
def Svc.core : Svc → Nat
  | .read l => if l.any fun e => (Machine.winOf e.1).isSome then 1 else 0
  | .write l _ _ => if l.any fun e => (Machine.winOf e.index).isSome then 1 else 0
  | .command (.logRead _ _) => 1
  | _ => 0

/-- A request that pair S decides (R544, R691). -/
def Svc.toS : Svc → Bool
  | .write l _ _ => Machine.toPairS l
  | .command .summary => false
  | .command (.logRead _ _) => false
  | .command _ => true
  | _ => false

/-- SUMMARY. -/
def Svc.isSummary (c : Svc) : Bool := c == .command .summary

/-- A command or a parameter request (R96). -/
def Svc.isRequest : Svc → Bool
  | .read _ | .write _ _ _ | .command _ => true
  | _ => false

/-- RESTART. -/
def Svc.isRestart (c : Svc) : Bool := c == .command .restart

end Sys2Proof

namespace Sys2Proof.Machine

/-! ### KEY_WRITE (R99 to R104, Table 2-13) -/

/-- The slot that does not hold the running image. -/
def State.otherSlot (s : State) : Nat := if s.f Reg.START_KEY_STATUS_SLOT = 1 then 0 else 1

/-- START.PENDING_GEN follows the header of the other slot (R104). Before step 7 and in UNCONFIGURED, with no running image to compare
with, it keeps its 0 (DESIGN CHOICE, log entry 164). -/
def State.pendingSync (s : State) : State :=
  let h := s.keyBytes (slotBase s.otherSlot) 512
  s.setF Reg.START_PENDING_GEN 0 (if headerOk h && s.f Reg.START_IMAGE_GEN < hdrGeneration h then hdrGeneration h else 0)

/-- Put bytes into the key from an address. -/
def State.keyPut (s : State) (a : Nat) (l : List Byte) : State :=
  { s with keyMem := l.zipIdx.foldl (fun m b => Store.set State.keyReset m (a + b.2) b.1) s.keyMem }

/-- Erase n bytes of the key from an address. -/
def State.keyErase (s : State) (a n : Nat) : State := { s with keyMem := s.keyMem.filter fun e => !(a ≤ e.1 && e.1 < a + n) }

/-- The write fails: the target slot is left without a valid header, and KEY_WRITE_FAILED is reported (R102). -/
def State.keyFail (s : State) (code : Nat) : State :=
  let s := if s.vn .onKeyStage == 0 then s else (s.keyErase (slotBase s.otherSlot) 512).pendingSync
  let s := (s.setF Reg.START_KEY_WRITE_STATUS_STATE 0 7).setF Reg.START_KEY_WRITE_STATUS_FAIL 0 code
  (s.setV .onKeyStage 0 0).note Ev.KEY_WRITE_FAILED code

/-- The state with every parameter that an image may set at its default. -/
def State.defaults (s : State) : State :=
  { s with regs := s.regs.filter fun e => e.1 < 0x000900, vars := [] }

/-- The first failing check of R100 on the staged image: steps 2 to 7, the generation, the block protection. The code of step 2 is the cause
code 0x3 of Table 2-5 (log entry 165). -/
def State.stagedBad (s : State) : Option Nat :=
  let h := s.stagedBytes 512
  let img := s.stagedBytes (hdrLength h)
  let v := s.defaults.verdict img [] []
  let other := s.keyBytes (slotBase s.otherSlot) 512
  if !headerOk h || v.cause == 4 then some 3
  else if v.cause == 7 && (directoryBad h).isSome then some 4
  else if v.cause == 5 then some 5
  else if v.cause == 6 then some 6
  else if v.cause == 7 then some 7
  else if hdrGeneration h ≤ s.f Reg.START_IMAGE_GEN || (headerOk other && hdrGeneration h ≤ hdrGeneration other) then some 10
  else if s.fb Reg.START_KEY_STATUS_PROTECTED then some 9
  else none

/-- KEY_WRITE: refused by state, while one runs, or unless both arguments equal the staged header's; otherwise the checks of R100 begin. A
refusal by state or as busy shows FAIL 0x8; a write that runs goes on and clears it at its next step (log entry 165). -/
def State.keyWriteCmd (s : State) (generation crc : Nat) : Res × State :=
  let h := s.stagedBytes 512
  if s.keyBusy then (Res.of Result.busy, s.setF Reg.START_KEY_WRITE_STATUS_FAIL 0 8)
  else if !(s.module == .ready || s.module == .service) || s.on .entering then
    (Res.of Result.state, (s.setF Reg.START_KEY_WRITE_STATUS_STATE 0 7).setF Reg.START_KEY_WRITE_STATUS_FAIL 0 8)
  else if hdrGeneration h != generation || hdrCrc h != crc then (Res.of Result.range, s)
  else
    let s := ((s.setF Reg.START_KEY_WRITE_STATUS_STATE 0 1).setF Reg.START_KEY_WRITE_STATUS_FAIL 0 0).setF Reg.START_KEY_WRITE_STATUS_PROGRESS 0 0
    (Res.ok, s.setF Reg.START_KEY_WRITE_STATUS_TARGET 0 s.otherSlot)

/-- A step of the write completes: the checks of R100, whose outcome the staged image decides, or a step of R101, which succeeded (0), whose
read-back differs (1), or at which the key does not answer (2). -/
def State.keyStep (s : State) (outcome : Nat) : State :=
  let st := s.vn .onKeyStage
  let s := if s.keyBusy then s.setF Reg.START_KEY_WRITE_STATUS_FAIL 0 0 else s
  if !s.keyBusy then s
  else if st == 0 then
    match s.stagedBad with
    | some n => s.keyFail n
    | none => (s.setF Reg.START_KEY_WRITE_STATUS_STATE 0 2).setV .onKeyStage 0 1
  else if outcome == 1 then s.keyFail 0xB
  else if outcome != 0 then s.keyFail 0xC
  else
    let a := slotBase s.otherSlot
    let h := s.stagedBytes 512
    let n := hdrLength h
    let state := fun (s : State) (v : Nat) => s.setF Reg.START_KEY_WRITE_STATUS_STATE 0 v
    if st == 1 then (state ((s.keyErase a 0x100000).pendingSync) 3).setV .onKeyStage 0 2
    else if st == 2 then
      let s := s.keyPut (a + 512) ((s.stagedBytes n).drop 512)
      (state (s.setF Reg.START_KEY_WRITE_STATUS_PROGRESS 0 (divOpen ((n - 512) * 100 : Nat) n)) 4).setV .onKeyStage 0 3
    else if st == 3 then (state s 5).setV .onKeyStage 0 4
    else if st == 4 then ((s.keyPut a h).setF Reg.START_KEY_WRITE_STATUS_PROGRESS 0 100).setV .onKeyStage 0 5
    else ((state s 6).setV .onKeyStage 0 0).pendingSync.note Ev.KEY_WRITE_DONE (hdrGeneration h)

/-! ### Stage-mask commands (R692, R693, R757) -/

/-- A stage has an enabled leg. -/
def State.stageUsed (s : State) (t : Stage) : Bool := t.legs.any fun n => s.fb Reg.LEG_CFG_ENABLE n

/-- ARM of one stage: it waits for the group's internal test when that is older than AUTO_TEST (R500). After the decision of a RESTART it is
refused, since a start follows from READY or SERVICE with every stage STOPPED or SAFE only (Table 1-5, R41; log entry 16). -/
def State.armOne (s : State) (t : Stage) : Res × State :=
  if s.st t != .stopped || !s.operable || s.on .restarting then (Res.of Result.state, s)
  else match s.armBar t with
    | some n => (Res.cond n, s)
    | none => if s.testOld t.group then (Res.ok, s.setOn .armWait t.idx true) else (Res.ok, s.armStage t)

/-- RUN of one stage. -/
def State.runOne (s : State) (t : Stage) : Res × State :=
  if s.st t != .armed || !s.operable then (Res.of Result.state, s)
  else match s.armBar t with
    | some n => (Res.cond n, s)
    | none => (Res.ok, s.runStage t)

/-- STOP of one stage. -/
def State.stopOne (s : State) (t : Stage) : Res × State :=
  if s.st t == .stopped && !s.on .armWait t.idx then (Res.of Result.state, s)
  else if s.st t == .safe then
    if s.module == .safe then (Res.of Result.state, s)
    else match s.stopBar t with
      | some n => (Res.cond n, s)
      | none => (Res.ok, s.stopStage t)
  else (Res.ok, s.stopStage t)

/-- A stage-mask command of a rank of R50: each named stage is decided on its own, in stage order; the result is the first refusal. A stage
that a higher-ranked event of the same LOOP cycle has taken gives SUPERSEDED (R50, R51). -/
def State.maskCmd (s : State) (rank mask : Nat) (higher : List Stage) (k : State → Stage → Res × State) : Res × List Byte × State :=
  let none' := List.replicate 7 (255 : Byte)
  if mask == 0 || 128 ≤ mask then (Res.of Result.range, none', s)
  else
    let (rs, s) := (Stage.ofMask mask).foldl (fun (a : List (Stage × Res) × State) t =>
      let (r, s) := if !a.2.stageUsed t then (Res.of Result.range, a.2)
        else if higher.contains t || a.2.rankNow t < rank then (Res.of Result.superseded, a.2)
        else let (r, s) := k (if rank == 4 then a.2.overtake t 4 0 0 else a.2) t; (r, if r.code == 0 then s.setRank t rank else s)
      (a.1 ++ [(t, r)], s)) ([], s)
    let first := (rs.map Prod.snd).find? fun r => r.code != 0
    (first.getD Res.ok, Stage.all.flatMap fun t => match rs.find? fun x => x.1 == t with
      | some x => le 1 x.2.code
      | none => le 1 255, s)

/-! ### The decision of a command (Table 20-6) -/

/-- OPEN_LOOP and CLOSE_LOOP (R264, R266, R692). -/
def State.openLoopCmd (s : State) (n : Nat) : Res × State :=
  if 48 ≤ n || s.f Reg.SLOT_TYPE_TYPE n == 0 then (Res.of Result.range, s)
  else if s.st (s.slotStage n) == .hold then (Res.of Result.state, s)
  else (Res.ok, s.openLoopSlot n)

def State.closeLoopCmd (s : State) (n : Nat) : Res × State :=
  if 48 ≤ n || s.f Reg.SLOT_TYPE_TYPE n == 0 then (Res.of Result.range, s)
  else match s.closeRefusal n with
    | some 1 => (Res.of Result.state, s)
    | some k => (Res.cond k, s)
    | none => (Res.ok, s.closeLoopSlot n)

/-- SWITCH_BACK (R349). -/
def State.switchBackCmd (s : State) : Res × State :=
  let e := 1 - s.owner
  if s.fb Reg.FO_STATUS_SWITCHING || s.engState e == 2 then (Res.of Result.busy, s)
  else if !s.operable then (Res.cond 1, s)
  else if s.engState e != 3 then (Res.cond 2, s)
  else if Stage.all.any fun t => s.st t == .hold then (Res.cond 3, s)
  else (Res.ok, (s.setFb Reg.FO_STATUS_SWITCHING 0 true).startSync e)

/-- CLEAR_LOG (R583); its reply carries the new BASE. -/
def State.clearLogCmd (s : State) : Res × List Byte × State :=
  if !(s.operable || s.module == .safe) then (Res.cond 2, [], s)
  else if s.on .clearing then (Res.of Result.busy, [], s)
  else (Res.ok, le 6 s.logNext ++ le 2 0, s.clearStart)

/-- BUS_RECOVER: only for a channel in bus-off whose recovery has not started (R677). -/
def State.busRecoverCmd (s : State) (ch : Nat) : Res × State :=
  if 4 ≤ ch then (Res.of Result.range, s)
  else if s.f Reg.CAN_STATUS_STATE ch != 4 then (Res.cond 1, s)
  else
    let s := ((s.setF Reg.CAN_STATUS_STATE ch 5).setFb Reg.CAN_STATUS_AUTO_SUSPENDED ch false).noteEnds Ev.AUTO_SUSPENDED ch
    (Res.ok, (s.close .canAuto ch).setV .busOffs ch 0)

/-- BRAKE_TEST (R509). -/
def State.brakeTestCmd (s : State) (k : Nat) : Res × State :=
  if 2 ≤ k then (Res.of Result.range, s)
  else match s.brakeTestBar k with
    | some n => (Res.cond n, s)
    | none => (Res.ok, s.brakeTestStart k)

/-- RESTART: in UNCONFIGURED, in SAFE, and in READY and SERVICE with every stage STOPPED or SAFE; busy while KEY_WRITE runs or a restart
has been decided (Table 1-5, R103, R695). An ARM that waits for its group's test ends with it. It begins within 10 ms of its decision. -/
def State.restartCmd (s : State) : Res × State :=
  let may := s.module == .unconfigured || s.module == .safe || ((s.module == .ready || s.module == .service) && s.allIdle)
  if s.keyBusy || s.on .restarting then (Res.of Result.busy, s)
  else if !may || s.on .entering then (Res.of Result.state, s)
  else (Res.ok, ((s.setOn .restarting 0 true).each Stage.all fun s t => s.setOn .armWait t.idx false).openSlow .restartBy 0 (ms 10))

/-- SERVICE_ENTER from READY (R44, R558). -/
def State.serviceEnterCmd (s : State) (debug : Bool) : Res × State :=
  if s.module != .ready || !s.allIdle || s.on .entering then (Res.of Result.state, s)
  else
    let s := { s with module := .service }
    (Res.ok, if debug then (s.setFb Reg.CORE_STATUS_DEBUG 0 true).noteLasting Ev.DEBUG_ATTACHED 0 else s)

/-- SERVICE_EXIT back to READY; refused while a core is halted by debug (R558). -/
def State.serviceExitCmd (s : State) : Res × State :=
  if s.module != .service || !s.allIdle then (Res.of Result.state, s)
  else if s.anyHalted then (Res.cond 1, s)
  else (Res.ok, ({ s with module := .ready }.setFb Reg.CORE_STATUS_DEBUG 0 false).noteEnds Ev.DEBUG_ATTACHED)

/-- The decision of a command that is answered at its decision: result, reply data, state. -/
def State.decideCmd (s : State) (c : Cmd) : Res × List Byte × State :=
  let plain := fun (x : Res × State) => (x.1, ([] : List Byte), x.2)
  match c with
  | .summary => (Res.ok, s.summary, s)
  | .arm m h => s.maskCmd 7 m h State.armOne
  | .run m h => s.maskCmd 6 m h State.runOne
  | .stop m h => s.maskCmd 4 m h State.stopOne
  | .openLoop n => plain (s.openLoopCmd n)
  | .closeLoop n => plain (s.closeLoopCmd n)
  | .switchBack => plain s.switchBackCmd
  | .logRead a n => (Res.ok, s.logRead a n, s)
  | .clearLog => s.clearLogCmd
  | .busRecover n => plain (s.busRecoverCmd n)
  | .chargeStart => match s.chargeRefusal with
    | some n => (Res.cond n, [], s)
    | none => (Res.ok, [], s.chargeStart)
  | .chargeStop => (Res.ok, [], s.chargeStep true)
  | .thermalRelease => let s := s.thermalRelease; (Res.ok, le 8 s.thermalMask, s)
  | .brakeTest k => plain (s.brakeTestCmd k)
  | .restart => plain s.restartCmd
  | .serviceEnter d => plain (s.serviceEnterCmd d)
  | .serviceExit => plain s.serviceExitCmd
  | .keyWrite g k => plain (s.keyWriteCmd g k)
  | .splitV | .joinV => (Res.ok, [], s)

/-- A command is carried out and answered. SPLIT_V and JOIN_V that are accepted are answered when they end (R555, R557). -/
def State.carryCmd (s : State) (r : Req) (c : Cmd) : State :=
  let decided := fun (s : State) => let (x, d, s) := s.decideCmd c; s.answerCmd r c x d
  let mode : Option Nat := match c with
    | .splitV => some 0
    | .joinV => some 1
    | _ => none
  match mode with
  | none => decided s
  | some m =>
    if s.f Reg.CORE_STATUS_V_MODE == 2 then s.answerCmd r c (Res.of Result.notAvailable) []
    else match s.splitBar m with
      | some n => s.answerCmd r c (Res.cond n) []
      | none => s.handBegin r c

/-- A request that nothing turns away is carried out and answered. -/
def State.carryReq (s : State) (r : Req) (c : Svc) : State := match c with
  | .read l => s.serveRead r l
  | .write l leaving closing => s.serveWrite r l leaving closing
  | .command c => s.carryCmd r c
  | .challenge => s.serveChallenge r
  | .malformed n => s.answer r n Status.refused []
  | .unknown n => s.answer r n Status.unknownService []

/-! ### What turns a request away -/

/-- Every entry of a WRITE or READ, or the command, is refused with one result. -/
def State.refuseAll (s : State) (r : Req) (c : Svc) (code : Nat) : State := match c with
  | .read l => (s.each l fun s _ => s.countResult (Res.of code)).answer r 1 Status.ok (le 1 l.length ++ le 1 0 ++ l.flatMap fun e =>
      le 2 e.1 ++ le 1 e.2 ++ le 1 code ++ le 4 0)
  | .write l _ _ => (s.each l fun s _ => s.countResult (Res.of code)).answer r 2 Status.ok (le 1 l.length ++ le 1 0
      ++ (l.flatMap fun e => le 2 e.index ++ le 1 e.sub ++ le 1 code) ++ l.flatMap fun _ => le 2 0)
  | .command c => s.answerCmd r c (Res.of code) (List.replicate 7 255)
  | c => s.answer r c.code Status.busy []

/-- A command needs authority (Table 20-6). -/
def State.needsAuth (s : State) (c : Svc) : Bool := match c with
  | .command .clearLog | .command (.serviceEnter _) | .command (.keyWrite _ _) => true
  | .command c => (c == .restart && (s.module == .safe || s.f Reg.CORE_STATUS_S_STATE == 3))
      || (s.f Reg.SVC_CFG_AUTH_MASK).testBit (c.code - 1)
  | _ => false

/-- The requester has a window of R88 that is open. -/
def State.deniedNow (s : State) (who : Requester) (summary : Bool) : Bool :=
  s.denials.any fun d => d.who == who && d.summary == summary && s.now < d.ends

/-- A reply of STARTING or UNCONFIGURED under the limit of R88: at most one per requester and window of 10 ms, up to 64 requesters; other
requests are dropped and counted. A tracked requester stays one of the 64 until READY, also when its windows have closed (DESIGN CHOICE,
log entry 166). -/
def State.limited (s : State) (r : Req) (summary : Bool) (k : State → State) : State :=
  let known := (s.denials.map fun d => d.who).dedup
  if s.deniedNow r.who summary || (!known.contains r.who && 64 ≤ known.length) then
    match r.who with
    | .fab _ | .mac _ => (s.addF Reg.START_NOT_READY_DROPPED 0).note Ev.STARTUP_DROPS 3
    | _ => s
  else
    let rest := s.denials.filter fun d => !(d.who == r.who && d.summary == summary)
    k { s with denials := rest ++ [{ who := r.who, summary := summary, ends := s.now / Clk.slow * Clk.slow + ms 10 }] }

/-- A request whose authority is settled: pair S is stopped (R549), restarts (R544), or decides. -/
def State.serveDecided (s : State) (r : Req) (c : Svc) (authed : Bool) : State :=
  if s.needsAuth c && !authed then s.refuseAll r c Result.authRequired
  else if s.f Reg.CORE_STATUS_S_STATE == 3 && !(c.isSummary || c.isRestart || c == .challenge) then s.refuseAll r c Result.notAvailable
  else if s.f Reg.CORE_STATUS_S_STATE == 1 && c.toS then
    if 32 ≤ s.held.length then s.answer r c.code Status.busy [] else { s with held := s.held ++ [(r, c)] }
  else s.carryReq r c

/-- The authority of a request, which is settled before its payload is judged (R686, R697, R698, R701). -/
def State.serveAuth (s : State) (r : Req) (c : Svc) : State :=
  let can : Bool := match r.who with
    | .can _ _ => true
    | _ => false
  if can && (r.auth.isSome || s.needsAuth c) then s.refuseAll r c Result.notAvailable
  else
    let (ok, bad, s) := s.verify r c
    if bad then s.refuseAll r c Result.authFailed
    else if !c.wellFormed r then s.answer r c.code Status.refused []
    else s.serveDecided r c ok

/-- A repeated request gets the kept reply again, any other its authority settled first (R648, R697). -/
def State.serveAnew (s : State) (r : Req) (c : Svc) : State := match s.repeatOf r with
  | some rep =>
    let s := match r.who with
      | .fab _ | .mac _ => s.addF Reg.FAB_CYCLE_COUNTERS 3
      | _ => s
    s.sendReply r rep
  | none => s.serveAuth r c

/-- A request while the module is not configured (R88 to R90). -/
def State.serveEarly (s : State) (r : Req) (c : Svc) : State :=
  if s.module == .starting then
    if c.isSummary then s.limited r true fun s => s.serveAnew r c
    else s.limited r false fun s => s.answer r c.code Status.notReady []
  else if c.isSummary || c.isRestart then s.serveAnew r c
  else s.limited r false fun s => s.answer r c.code Status.notConfigured []

/-- The services that a hand-over moves: those of V1 in a split, every one in a join (R554 to R556). -/
def State.moves (s : State) (c : Svc) : Bool := match s.handCmd with
  | some (_, .command .splitV) => c.core == 1
  | some _ => true
  | none => false

/-- A request in an operating state. -/
def State.serveReady (s : State) (r : Req) (c : Svc) : State :=
  if (s.repeatOf r).isNone && s.moves c then
    if s.handQueue.any (fun q => q.1.who == r.who) || 64 ≤ s.handQueue.length then s.answer r c.code Status.busy []
    else { s with handQueue := s.handQueue ++ [(r, c)] }
  else match c with
    | .unknown n => if (s.repeatOf r).isNone then s.answer r n Status.unknownService [] else s.serveAnew r c
    | c => s.serveAnew r c

/-- A command or parameter request restarts the sleep idle window (R96). -/
def State.idleRestart (s : State) : State :=
  if s.isOpen .sleepIdle then s.openSlow .sleepIdle 0 (sec (s.f Reg.START_SLEEP_IDLE)) else s

/-- A request arrives at the service layer. Nothing is served without power, after VAUX_INVALID (R572), or on the backup oscillator but on
J1 (R120); a request for a core that restarts is dropped and counted (R759). -/
def State.serve (s : State) (r : Req) (c : Svc) : State :=
  let s := s.when c.isRequest State.idleRestart
  if !s.powered || s.on .dying then s
  else if s.fb Reg.CLK_STATUS_ON_BACKUP && r.who != .j1 then s
  else if !s.vRuns c.core then s.countDropped
  else if s.module == .starting || s.module == .unconfigured then s.serveEarly r c
  else s.serveReady r c

/-- A request at an instant. -/
def State.serveAt (s : State) (t : Nat) (r : Req) (c : Svc) : Host.Outcome State Fault Refusal :=
  done ({ s with now := max s.now t }.serve r c)

/-- A request that writes one word. -/
def State.writeOne (s : State) (t : Nat) (r : Req) (index sub : Nat) (v : Word) : Host.Outcome State Fault Refusal :=
  s.serveAt t r (.write [{ index := index, sub := sub, value := v }] [] [])

end Sys2Proof.Machine
end

