-- ==== Sys2Proof/Machine/Commands.lean ====
section
/-!
DEFINITION. The rows of the table that are requests of hosts: the four services and every command of Table 20-6, and the writes and reads
that have a row of their own. Each is a request that arrives at the service layer at an instant `t`.
-/

namespace Sys2Proof.Machine

/-! ### Services (R689, R690, R697) -/

/-- A READ of up to 27 words, in one LOOP cycle. -/
def execRead (r : Req) (entries : List (Nat × Nat)) (t : Nat) (s : State) : Host.Outcome State Fault Refusal := s.serveAt t r (.read entries)

/-- A WRITE; `leaving` and `closing` share its LOOP cycle (R24). -/
def execWrite (r : Req) (entries : List WEntry) (leaving : List Stage) (closing : List Nat) (t : Nat) (s : State) :
    Host.Outcome State Fault Refusal :=
  s.serveAt t r (.write entries leaving closing)

/-- CHALLENGE. -/
def execChallenge (r : Req) (t : Nat) (s : State) : Host.Outcome State Fault Refusal := s.serveAt t r .challenge

/-! ### Commands (Table 20-6) -/

/-- SUMMARY (R703). -/
def execSummary (r : Req) (t : Nat) (s : State) : Host.Outcome State Fault Refusal := s.serveAt t r (.command .summary)

/-- ARM (R757). -/
def execArm (r : Req) (mask : Nat) (higher : List Stage) (t : Nat) (s : State) : Host.Outcome State Fault Refusal :=
  s.serveAt t r (.command (.arm mask higher))

/-- RUN (R46). -/
def execRun (r : Req) (mask : Nat) (higher : List Stage) (t : Nat) (s : State) : Host.Outcome State Fault Refusal :=
  s.serveAt t r (.command (.run mask higher))

/-- STOP (R47, R48). -/
def execStop (r : Req) (mask : Nat) (higher : List Stage) (t : Nat) (s : State) : Host.Outcome State Fault Refusal :=
  s.serveAt t r (.command (.stop mask higher))

/-- OPEN_LOOP (R264). -/
def execOpenLoop (r : Req) (slot : Nat) (t : Nat) (s : State) : Host.Outcome State Fault Refusal := s.serveAt t r (.command (.openLoop slot))

/-- CLOSE_LOOP (R265, R266). -/
def execCloseLoop (r : Req) (slot : Nat) (t : Nat) (s : State) : Host.Outcome State Fault Refusal := s.serveAt t r (.command (.closeLoop slot))

/-- SWITCH_BACK (R349). -/
def execSwitchBack (r : Req) (t : Nat) (s : State) : Host.Outcome State Fault Refusal := s.serveAt t r (.command .switchBack)

/-- LOG_READ (R579). -/
def execLogRead (r : Req) (start count : Nat) (t : Nat) (s : State) : Host.Outcome State Fault Refusal :=
  s.serveAt t r (.command (.logRead start count))

/-- CLEAR_LOG (R583). -/
def execClearLog (r : Req) (t : Nat) (s : State) : Host.Outcome State Fault Refusal := s.serveAt t r (.command .clearLog)

/-- BUS_RECOVER (R677). -/
def execBusRecover (r : Req) (channel : Nat) (t : Nat) (s : State) : Host.Outcome State Fault Refusal :=
  s.serveAt t r (.command (.busRecover channel))

/-- CHARGE_START (R448). -/
def execChargeStart (r : Req) (t : Nat) (s : State) : Host.Outcome State Fault Refusal := s.serveAt t r (.command .chargeStart)

/-- CHARGE_STOP (R451). -/
def execChargeStop (r : Req) (t : Nat) (s : State) : Host.Outcome State Fault Refusal := s.serveAt t r (.command .chargeStop)

/-- THERMAL_RELEASE (R191). -/
def execThermalRelease (r : Req) (t : Nat) (s : State) : Host.Outcome State Fault Refusal := s.serveAt t r (.command .thermalRelease)

/-- BRAKE_TEST (R509). -/
def execBrakeTest (r : Req) (brake : Nat) (t : Nat) (s : State) : Host.Outcome State Fault Refusal := s.serveAt t r (.command (.brakeTest brake))

/-- SPLIT_V (R553). -/
def execSplitV (r : Req) (t : Nat) (s : State) : Host.Outcome State Fault Refusal := s.serveAt t r (.command .splitV)

/-- JOIN_V (R553). -/
def execJoinV (r : Req) (t : Nat) (s : State) : Host.Outcome State Fault Refusal := s.serveAt t r (.command .joinV)

/-- RESTART is decided and answered (R695). -/
def execRestart (r : Req) (t : Nat) (s : State) : Host.Outcome State Fault Refusal := s.serveAt t r (.command .restart)

/-- SERVICE_ENTER (R44, R558). -/
def execServiceEnter (r : Req) (debug : Bool) (t : Nat) (s : State) : Host.Outcome State Fault Refusal :=
  s.serveAt t r (.command (.serviceEnter debug))

/-- SERVICE_EXIT (R558). -/
def execServiceExit (r : Req) (t : Nat) (s : State) : Host.Outcome State Fault Refusal := s.serveAt t r (.command .serviceExit)

/-- KEY_WRITE (R99, R100). -/
def execKeyWrite (r : Req) (generation crc : Nat) (t : Nat) (s : State) : Host.Outcome State Fault Refusal :=
  s.serveAt t r (.command (.keyWrite generation crc))

/-- One step of KEY_WRITE completes, with its outcome: 0 good, 1 read-back differs, 2 the key does not answer (R101, R102). -/
def execKeyWriteStepEnd (outcome : Fin 3) (t : Nat) (s : State) : Host.Outcome State Fault Refusal :=
  done ({ s with now := max s.now t }.keyStep outcome.val)

/-! ### Writes and reads with a row of their own -/

/-- A write of a word of a field: instance n, sub-index j. -/
def State.writeField (s : State) (t : Nat) (r : Req) (f : Fld) (n j : Nat) (v : Word) : Host.Outcome State Fault Refusal :=
  s.writeOne t r (f.key n j / 256) (f.key n j % 256) v

/-- SLOTnn.SETPOINT (R271). -/
def execSetpointWrite (r : Req) (slot : Fin 48) (sub : Fin 2) (value : Word) (t : Nat) (s : State) : Host.Outcome State Fault Refusal :=
  s.writeField t r Reg.SLOT_SETPOINT slot.val sub.val value

/-- LEGnn.CTRL with COMMIT (R303). -/
def execHostCommit (r : Req) (leg : Fin 32) (value : Word) (t : Nat) (s : State) : Host.Outcome State Fault Refusal :=
  s.writeField t r Reg.LEG_CTRL_FORCE leg.val 0 value

/-- PULSE.stage.PERIOD (R293). -/
def execPeriodWrite (r : Req) (stage : Stage) (value : Word) (t : Nat) (s : State) : Host.Outcome State Fault Refusal :=
  s.writeField t r Reg.PULSE_PERIOD stage.idx 0 value

/-- ACT.A.CMPc.VALUE (R480). -/
def execCompareWrite (r : Req) (actuator : Fin 2) (compare : Fin 4) (value : Word) (t : Nat) (s : State) : Host.Outcome State Fault Refusal :=
  s.writeField t r Reg.ACT_CMP_VALUE actuator.val compare.val value

/-- ACT.A.CMPc.CFG (R480). -/
def execCompareCfgWrite (r : Req) (actuator : Fin 2) (compare : Fin 4) (value : Word) (t : Nat) (s : State) :
    Host.Outcome State Fault Refusal :=
  s.writeField t r Reg.ACT_CMP_MODE actuator.val compare.val value

/-- SAFE.BRK_CMD (R505). -/
def execBrakeCommandWrite (r : Req) (value : Word) (t : Nat) (s : State) : Host.Outcome State Fault Refusal :=
  s.writeField t r Reg.SAFE_BRK_CMD 0 0 value

/-- SAFE.CDR_CMD (R517). -/
def execContactorCommandWrite (r : Req) (value : Word) (t : Nat) (s : State) : Host.Outcome State Fault Refusal :=
  s.writeField t r Reg.SAFE_CDR_CMD 0 0 value

/-- SMP.BUFkk.CONTROL (R170). -/
def execBufferFreezeWrite (r : Req) (buffer : Fin 64) (value : Word) (t : Nat) (s : State) : Host.Outcome State Fault Refusal :=
  s.writeField t r Reg.SMP_BUF_CONTROL_FREEZE buffer.val 0 value

/-- STATE.REQUEST with SHIP (R716), with the level of WAKE, which refuses it while high (R92). -/
def execShipRequest (r : Req) (wake : Bool) (t : Nat) (s : State) : Host.Outcome State Fault Refusal :=
  ((s.setOn .wakeHigh 0 wake).setV .wakeAt 0 (max s.now t + 1 : Nat)).writeField t r Reg.STATE_REQUEST_SHIP 0 0 1

/-- STATE.REQUEST with SLEEP (R716). -/
def execSleepRequest (r : Req) (t : Nat) (s : State) : Host.Outcome State Fault Refusal := s.writeField t r Reg.STATE_REQUEST_SHIP 0 0 2

/-- LOG.CURSOR (R581). -/
def execCursorWrite (r : Req) (value : Word) (t : Nat) (s : State) : Host.Outcome State Fault Refusal :=
  s.writeField t r Reg.LOG_CURSOR_OFFSET 0 0 value

/-- A READ of LOG.WINDOW.07 (R581). -/
def execWindowRead (r : Req) (t : Nat) (s : State) : Host.Outcome State Fault Refusal := s.serveAt t r (.read [(0x1B09, 7)])

/-- CAN.CHn.ACK (R661). -/
def execCanAck (r : Req) (channel : Fin 4) (value : Word) (t : Nat) (s : State) : Host.Outcome State Fault Refusal :=
  s.writeField t r Reg.CAN_ACK channel.val 0 value

/-- A READ of the first words of the CAN queue window (R725). -/
def execCanQueueTake (r : Req) (words : Fin 20) (t : Nat) (s : State) : Host.Outcome State Fault Refusal :=
  s.serveAt t r (.read ((List.range (words.val + 1)).map fun i => (0x8200, 16 + i)))

/-- CONTROL of a table window (R722). -/
def execWindowControlWrite (r : Req) (window : Fin 5) (value : Word) (t : Nat) (s : State) : Host.Outcome State Fault Refusal :=
  s.writeOne t r (0x8000 + 256 * window.val) 0 value

/-- A data word of the key staging window (R726). -/
def execStagingWrite (r : Req) (word : Fin 64) (value : Word) (t : Nat) (s : State) : Host.Outcome State Fault Refusal :=
  s.writeOne t r 0x8300 (16 + word.val) value

/-- The MIN_ASSERT window of ATTN ends (R719). -/
def execAttnRelease (s : State) : Host.Outcome State Fault Refusal := done (s.expire .attnHold 0 fun s => s)

end Sys2Proof.Machine
end

