-- ==== Sys2Proof/Machine/Can.lean ====
section
/-!
DEFINITION. CAN channels (chapter 19): receive filters and queues, the frame-to-parameter map, transmission, error states with
recovery, address claim, and what the start does to the channels (R85 to R87, R673).
-/

namespace Sys2Proof

/-- The PGN field, bits 25:8 of an extended identifier, whatever its priority. -/
def pgnBits (key : Nat) : Nat := key / 256 % 2 ^ 18

/-- A frame is an address claim; it is a request for the PGN of address claims. -/
def CanFrame.isClaim (f : CanFrame) : Bool := f.key.testBit 29 && !f.key.testBit 30 && pgnBits f.key == 0xEEFF && 8 ≤ f.size
def CanFrame.isClaimRequest (f : CanFrame) : Bool :=
  f.key.testBit 29 && !f.key.testBit 30 && pgnBits f.key / 256 == 0xEA && Machine.ofLe (f.bytes.take 3) == 0x00EE00 && 3 ≤ f.size

end Sys2Proof

namespace Sys2Proof.Machine

/-! ### The parts of CAN_FILTERS_AND_MAP in use (Tables 19-4 to 19-6, 2-6) -/

/-- A filter pair as the channel tests it: pair number, MASK, MATCH, queue, target HOST. -/
structure CanFilter where
  pair  : Nat
  mask  : Nat
  mtch  : Nat
  queue : Nat
  host  : Bool
  deriving DecidableEq, Repr

/-- The enabled pairs of the image for a channel, in ascending order; a pair with DA_SUBST stands with the claimed address and is
disabled while there is none (R657 to R659). -/
def State.imageFilters (s : State) (ch : Nat) : List CanFilter :=
  let l := s.canMap
  if l.isEmpty then [] else (List.range 32).filterMap fun p =>
    let o := filterAt ch p
    let fl := numAt l (o + 8) 1
    let m := numAt l (o + 4) 4
    let da := fl.testBit 3
    if !fl.testBit 0 || (da && !s.fb Reg.CAN_STATUS_CLAIMED ch) then none
    else some { pair := p, mask := numAt l o 4, mtch := if da then putBits m 15 8 (s.f Reg.CAN_ADDRESS ch) else m,
                queue := if fl.testBit 1 then 1 else 0, host := fl.testBit 2 }

/-- The early filter pairs of a channel (Table 2-6). -/
def State.earlyFilters (s : State) (ch : Nat) : List CanFilter :=
  let l := (s.early.drop (128 * ch)).take 128
  (List.range (min 8 (numAt l 12 4))).map fun p =>
    let o := 16 + 12 * p
    { pair := p, mask := numAt l o 4, mtch := numAt l (o + 4) 4, queue := numAt l (o + 8) 1 % 2, host := false }

/-- EARLY_CAN enables a channel; with FD frames. -/
def State.earlyOn (s : State) (ch : Nat) : Bool := s.fb Reg.START_KEY_STATUS_EARLY_CAN && (numAt s.early (128 * ch) 4).testBit 0
def State.earlyFd (s : State) (ch : Nat) : Bool := (numAt s.early (128 * ch) 4).testBit 1

/-- The pairs in force: the early ones before step 7, the image's from there on (R85). -/
def State.filters (s : State) (ch : Nat) : List CanFilter := if s.on .imageApplied then s.imageFilters ch else s.earlyFilters ch

/-- A pair matches a key (R657). -/
def CanFilter.hits (f : CanFilter) (key : Nat) : Bool := ((key ^^^ f.mtch) &&& f.mask) == 0

/-- The field descriptors of a receive entry and of a transmit entry. -/
def State.rxFields (s : State) (i : Nat) : List CanField :=
  let l := s.canMap
  (List.range (numAt l (rxAt i + 8) 1)).map fun k => canField l (numAt l (rxAt i + 6) 2 + k)
def State.txFields (s : State) (i : Nat) : List CanField :=
  let l := s.canMap
  (List.range (numAt l (txAt l i + 12) 1)).map fun k => canField l (numAt l (txAt l i + 10) 2 + k)

/-! ### Address claim (R680, R681) -/

/-- NAME of a channel. -/
def State.canName (s : State) (ch : Nat) : Nat := s.f Reg.CAN_CLAIM_NAME ch + 2 ^ 32 * s.f Reg.CAN_CLAIM_NAME ch 1

/-- The key of an address-claimed frame: identifier 0x18EEFF00 + address, extended. -/
def claimKey (addr : Nat) : Nat := 0x38EEFF00 + addr

/-- Send the address-claimed frame for an address; it counts as URGENT. -/
def State.sendClaim (s : State) (ch addr : Nat) : State :=
  (s.canOffer { ch := ch, fd := false, entry := none, sa := false,
                frame := { key := claimKey addr, dlc := 8, brs := false, esi := false, data := le 8 (s.canName ch) } } true).2

/-- Claim an address. -/
def State.claimGo (s : State) (ch addr : Nat) : State := ((s.setV .canAddr ch (addr + 1 : Nat)).close .claim ch).sendClaim ch addr

/-- No address can be claimed: cannot-claim is sent, and CLAIM_REACTION is carried out. -/
def State.cannotClaim (s : State) (ch : Nat) : State :=
  let s := ((s.setV .canAddr ch 0).setFb Reg.CAN_STATUS_CANNOT_CLAIM ch true).sendClaim ch 0xFE
  s.raise { code := Ev.CANNOT_CLAIM, inst := ch, d0 := ch, reaction := s.f Reg.CAN_FAULT_CLAIM_REACTION ch,
            stages := Stage.ofMask (s.f Reg.CAN_FAULT_STAGES ch), lasting := true }

/-- The next address of the range above an address, wrapping round, that no claim received holds. -/
def State.nextAddress (s : State) (ch cur : Nat) : Option Nat :=
  let low := s.f Reg.CAN_CLAIM_RANGE_LOW ch
  let all := List.range' low (s.f Reg.CAN_CLAIM_RANGE_HIGH ch + 1 - low)
  let order := all.filter (cur < ·) ++ all.filter (· < cur)
  order.find? fun a => !s.canClaims.any fun c => c.ch == ch && c.addr == a

/-- The channel loses its address: frames that carry it are discarded, and it claims the next address or none. -/
def State.loseAddress (s : State) (ch : Nat) : State :=
  let cur := s.vn .canAddr ch - 1
  let s := ((s.setFb Reg.CAN_STATUS_CLAIMED ch false).setF Reg.CAN_ADDRESS ch 0xFE).close .claim ch
  let s := s.noteLasting Ev.ADDRESS_LOST ch ch cur
  let gone := fun (t : TxFrame) => t.ch == ch && t.sa
  let n := (s.canTx.filter gone).length + (s.canHold.filter gone).length
  let s := s.addF Reg.CAN_COUNTERS ch n 8
  let s := { s with canTx := s.canTx.filter fun t => !gone t, canHold := s.canHold.filter fun t => !gone t }.canSync ch
  if (s.canName ch).testBit 63 then
    match s.nextAddress ch cur with
    | some a => s.claimGo ch a
    | none => s.cannotClaim ch
  else s.cannotClaim ch

/-- No contest has arrived within 250 ms: the address counts as claimed (R681). -/
def State.claimDone (s : State) (ch : Nat) : State :=
  let a := s.vn .canAddr ch - 1
  (((s.setFb Reg.CAN_STATUS_CLAIMED ch true).setF Reg.CAN_ADDRESS ch a).noteEnds Ev.ADDRESS_LOST ch).note Ev.ADDRESS_CLAIMED ch a

/-- What a received frame means for the channel's own claim. A contest in the SLOW cycle in which the window of a claim ends comes after it
(R33). -/
def State.claimFrame (s : State) (ch : Nat) (f : CanFrame) : State :=
  let cand := s.vn .canAddr ch
  if f.isClaim then
    let name := ofLe (f.bytes.take 8)
    let addr := f.key % 256
    let rest := s.canClaims.filter fun c => !(c.ch == ch && c.name == name)
    let s := { s with canClaims := if addr < 254 then rest ++ [{ ch := ch, addr := addr, name := name }] else rest }
    if cand == addr + 1 && s.fb Reg.CAN_CFG_CLAIM_EN ch then
      let s := if s.ended Clk.slow .claim ch then (s.close .claim ch).claimDone ch else s
      if name ≤ s.canName ch then s.loseAddress ch else (s.close .claim ch).sendClaim ch addr
    else s
  else if f.isClaimRequest && cand != 0 && s.fb Reg.CAN_CFG_CLAIM_EN ch
      && (pgnBits f.key % 256 == cand - 1 || pgnBits f.key % 256 == 0xFF) then s.sendClaim ch (cand - 1)
  else s

/-! ### Reception (R653, R657 to R659, R675, R679, R85) -/

/-- The error state and WARNING follow the error counters of a channel on the bus (R675). -/
def State.canErrors (s : State) (ch : Nat) : State :=
  let tec := s.f Reg.CAN_ERRORS_TX ch
  let rec' := s.f Reg.CAN_ERRORS_RX ch
  let s := s.setFb Reg.CAN_STATUS_WARNING ch (96 ≤ tec || 96 ≤ rec')
  let st := s.f Reg.CAN_STATUS_STATE ch
  if st == 2 && (128 ≤ tec || 128 ≤ rec') then (s.setF Reg.CAN_STATUS_STATE ch 3).noteLasting Ev.ERROR_PASSIVE ch ch
  else if st == 3 && tec < 128 && rec' < 128 then (s.setF Reg.CAN_STATUS_STATE ch 2).noteEnds Ev.ERROR_PASSIVE ch
  else s

/-- A good reception counts the receive error counter down; above 127 it returns to a value of 119 to 127, which ISO 11898-1 leaves
open (log entry 3). -/
def State.canGood (s : State) (ch : Nat) : State :=
  let st := s.f Reg.CAN_STATUS_STATE ch
  let n := s.f Reg.CAN_ERRORS_RX ch
  if st != 2 && st != 3 then s
  else if n ≤ 127 then (s.setF Reg.CAN_ERRORS_RX ch (n - 1 : Nat)).canErrors ch
  else
    let (x, s) := s.takeFree
    (s.setF Reg.CAN_ERRORS_RX ch (119 + x % 9)).canErrors ch

/-- A frame enters a queue, in its lowest free slot; a full queue loses it (R658, R85). -/
def State.canQueue (s : State) (ch : Nat) (f : CanFrame) (p : CanFilter) : State :=
  let used := (s.canRx.filter fun e => e.ch == ch && e.queue == p.queue).map CanEntry.slot
  let early := !(5 ≤ s.module.code)
  match (List.range 64).find? fun k => !used.contains k with
  | none =>
    let s := (s.addF Reg.CAN_COUNTERS ch 1 3).note Ev.RX_OVERFLOW p.queue ch
    if early then (s.addF Reg.START_CAN_OVERFLOW ch).note Ev.STARTUP_DROPS 1 ch else s
  | some k =>
    let g := ch * 128 + p.queue * 64 + k
    let s := s.setV .canGen g ((s.vn .canGen g + 1) % 256 : Nat)
    let e : CanEntry :=
      { ch := ch, queue := p.queue, slot := k, gen := s.vn .canGen g, frame := f, pair := p.pair, host := p.host,
        stamp := (s.now - s.vn .startAt) / Clk.pulse % 2 ^ 32, owner := .free, ends := 0, shown := false }
    { s with canRx := s.canRx ++ [e] }.canSync ch

/-- A valid frame on the bus of a channel. -/
def State.canReceive (s : State) (ch : Nat) (f : CanFrame) : State :=
  let st := s.f Reg.CAN_STATUS_STATE ch
  let fdOn := if s.on .imageApplied then s.fb Reg.CAN_CFG_FD ch else s.earlyFd ch
  if st == 0 || 4 ≤ st || (f.key.testBit 31 && !fdOn) then s
  else
    let s := ((s.canGood ch).addF Reg.CAN_COUNTERS ch).claimFrame ch f
    match (s.filters ch).find? fun p => p.hits f.key with
    | some p => s.canQueue ch f p
    | none =>
      let s := s.addF Reg.CAN_COUNTERS ch 1 2
      if 5 ≤ s.module.code then s else (s.addF Reg.START_CAN_DROPPED ch).note Ev.STARTUP_DROPS 0 ch

/-- A valid CAN frame is received. -/
def execCanFrameReceived (channel : Fin 4) (frame : CanFrame) (t : Nat) (s : State) : Host.Outcome State Fault Refusal :=
  done ({ s with now := max s.now t }.canReceive channel.val frame)

/-- The frame received is an address claim or a request for one; another frame is no such event (log entry 9). -/
def execClaimReceived (channel : Fin 4) (frame : CanFrame) (t : Nat) (s : State) : Host.Outcome State Fault Refusal :=
  done (if frame.isClaim || frame.isClaimRequest then { s with now := max s.now t }.canReceive channel.val frame else s)

/-- Ownership of an entry lapses: it is FILLED again, its place unchanged (R662). The record names the owner: 0 the map service, 1 the
fabric, 2 a MAC address, 3 CAN, 4 J1, with its address. -/
def State.ackLapse (s : State) (ch queue slot : Nat) : State :=
  match s.canRx.find? fun e => e.ch == ch && e.queue == queue && e.slot == slot && e.owner != .free with
  | none => s
  | some e =>
    let s := { s with now := max s.now e.ends }
    let (k, a) : Nat × Nat := match e.owner with
      | .host (.fab src) => (1, src)
      | .host (.mac a) => (2, a)
      | .host (.can c _) => (3, c)
      | .host .j1 => (4, 0)
      | _ => (0, 0)
    let s := s.updEntry e fun x => { x with owner := .free, shown := false }
    (s.addF Reg.CAN_COUNTERS ch 1 4).note Ev.ACK_LAPSED k a ch

/-- ACK_TIMEOUT of an OWNED entry has passed. -/
def execAckLapsed (channel : Fin 4) (queue : Fin 2) (slot : Fin 64) (s : State) : Host.Outcome State Fault Refusal :=
  done (s.ackLapse channel.val queue.val slot.val)

/-! ### The map service (R663, R665, R667, R668, R699) -/

/-- The value of a field in the data. -/
def CanField.value (f : CanField) (data : List Byte) : Nat :=
  f.bits.zipIdx.foldl (fun a x => if (ofLe ((data.drop (x.1 / 8)).take 1)).testBit (x.1 % 8) then a + 2 ^ x.2 else a) 0

/-- A field put into the word of its parameter, with its sign above it. -/
def CanField.place (f : CanField) (data : List Byte) (w : Nat) : Nat :=
  let v := f.value data
  if f.flags.testBit 1 then putBits w 31 f.pos (wrap 32 (toSigned f.length v)) else putBits w (f.pos + f.length - 1) f.pos v

/-- The words of a frame: each parameter once, in the order of its first field. -/
def wordsOf (l : List CanField) (data : List Byte) : List (Nat × Nat × Word) :=
  ((l.map fun f => (f.index, f.sub)).reverse.dedup.reverse).map fun k =>
    (k.1, k.2, BitVec.ofNat 32 ((l.filter fun f => f.index == k.1 && f.sub == k.2).foldl (fun w f => f.place data w) 0))

/-- A PARAM frame: a short one writes nothing; every other write is a host write, whose refusal counts as one (R688). -/
def State.mapParam (s : State) (ch i : Nat) (f : CanFrame) : State :=
  let l := s.rxFields i
  match l.find? fun x => !x.fits f.size with
  | some x => (s.addF Reg.CAN_COUNTERS ch 1 6).note Ev.MAP_REFUSED (f.key % 2 ^ 32) (keyOf x.index x.sub)
  | none => s.each (wordsOf l f.bytes) fun s w =>
    let (r, s) := s.hostWrite { who := none, leaving := [], closing := [] } w.1 w.2.1 w.2.2
    if r.code == 0 then s.addF Reg.CAN_COUNTERS ch 1 5
    else ((s.countResult r).addF Reg.CAN_COUNTERS ch 1 6).note Ev.MAP_REFUSED (f.key % 2 ^ 32) (keyOf w.1 w.2.1)

/-- A SERVICE frame. -/
def State.mapService (s : State) (ch : Nat) (f : CanFrame) : State :=
  let d := f.bytes
  if d.length != 64 || !f.key.testBit 31 then s.countDropped
  else
    let service := numAt d 2 1
    let r : Req := { who := .can ch (f.key % 2 ^ 30), trans := numAt d 0 2, auth := none, brs := f.brs }
    if numAt d 4 2 != 0 then s.answer r service Status.segmentError []
    else
      let (c, a) := if numAt d 3 1 != 0 then (Svc.malformed service, none) else Svc.parse service (d.drop 6) false
      s.serve { r with auth := a } c

/-- The parameters that an entry's frame writes belong to pair S, which restarts (R544). -/
def State.mapWaits (s : State) (e : CanEntry) : Bool :=
  s.f Reg.CORE_STATUS_S_STATE == 1 && (match s.rxEntry e.ch e.frame.key with
    | some i => s.rxKind i == 0 && toPairS ((s.rxFields i).map fun f => { index := f.index, sub := f.sub, value := 0 })
    | none => false)

/-- The entry that the map service owns, otherwise the next one: Q0 of every channel before any Q1, channels ascending. -/
def State.mapNext (s : State) : Option CanEntry :=
  match s.canRx.find? fun e => e.owner == .map with
  | some e => some e
  | none => ([0, 1].flatMap fun q => [0, 1, 2, 3].filterMap fun ch =>
      s.canRx.find? fun e => e.ch == ch && e.queue == q && !e.host && e.owner == .free).head?

/-- The map service handles an entry and acknowledges it; while it waits for pair S it only owns it. -/
def State.mapEntry (s : State) : State :=
  if !(5 ≤ s.module.code) || !s.vRuns 1 || s.on .dying then s
  else match s.mapNext with
  | none => s
  | some e =>
    if s.mapWaits e then
      (if e.owner == .map then s else s.updEntry e fun x => { x with owner := .map, ends := s.ackEnd e.ch })
    else
      let s := { s with canRx := s.canRx.filter fun x => x != e }.canSync e.ch
      match s.rxEntry e.ch e.frame.key with
      | none => s.addF Reg.CAN_COUNTERS e.ch 1 10
      | some i => if s.rxKind i == 0 then s.idleRestart.mapParam e.ch i e.frame else s.mapService e.ch e.frame

/-- The map service takes a MAP queue entry. -/
def execMapEntry (t : Nat) (s : State) : Host.Outcome State Fault Refusal := done ({ s with now := max s.now t }.mapEntry)

/-! ### Transmission (R669 to R672) -/

/-- Words of a transmit entry (Table 19-6). -/
def State.txKey (s : State) (i : Nat) : Nat := numAt s.canMap (txAt s.canMap i) 4
def State.txCh (s : State) (i : Nat) : Nat := numAt s.canMap (txAt s.canMap i + 4) 1
def State.txFlags (s : State) (i : Nat) : Nat := numAt s.canMap (txAt s.canMap i + 5) 1
def State.txDlc (s : State) (i : Nat) : Nat := numAt s.canMap (txAt s.canMap i + 6) 1
def State.txPeriodMs (s : State) (i : Nat) : Nat := numAt s.canMap (txAt s.canMap i + 8) 2

/-- The values of an entry's fields, all of one instant (R26). -/
def State.txValues (s : State) (i : Nat) : List Nat :=
  let w := s.live
  (s.txFields i).map fun f => bits (w.word (keyOf f.index f.sub)).toNat (f.pos + f.length - 1) f.pos

/-- A value laid into data bytes at the bits of a field. -/
def CanField.lay (f : CanField) (v : Nat) (data : List Nat) : List Nat :=
  f.bits.zipIdx.foldl (fun d x => if v.testBit x.2 then d.modify (x.1 / 8) (· ||| 2 ^ (x.1 % 8)) else d.modify (x.1 / 8) fun b =>
    b - (if b.testBit (x.1 % 8) then 2 ^ (x.1 % 8) else 0)) data

/-- The frame that an entry forms from its values. -/
def State.txFrame (s : State) (i : Nat) (vals : List Nat) : TxFrame :=
  let fl := s.txFlags i
  let ch := s.txCh i
  let sa := fl.testBit 3
  let fd := fl.testBit 1
  let key := s.txKey i % 2 ^ 30
  let key := if sa then putBits key 7 0 (s.f Reg.CAN_ADDRESS ch) else key
  let n := dlcBytes (s.txDlc i)
  let data := ((s.txFields i).zip vals).foldl (fun d x => x.1.lay x.2 d) (List.replicate n 0)
  { ch := ch, fd := fd, entry := some i, sa := sa,
    frame := { key := key + (if fd then 2 ^ 31 else 0), dlc := s.txDlc i, brs := fd && fl.testBit 2, esi := false,
               data := data.map fun b => BitVec.ofNat 8 b } }

/-- A frame of an entry is formed: it enters the FIFO, or waits in the holding slot behind the entry's earlier frame (R672). -/
def State.txForm (s : State) (i : Nat) (vals : List Nat) : State :=
  let f := s.txFrame i vals
  let s : State := { s with canLast := (s.canLast.filter fun (x : Nat × List Nat) => x.1 != i) ++ [(i, vals)] }
  if s.canTx.any fun t => t.entry == some i then
    let held := s.canHold.any fun t => t.entry == some i
    let s := s.when held fun s => s.addF Reg.CAN_COUNTERS f.ch 1 8
    { s with canHold := (s.canHold.filter fun (t : TxFrame) => t.entry != some i) ++ [f] }
  else (s.canOffer f ((s.txFlags i).testBit 0)).2

/-- The map service forms frames of an entry: its core serves, and an entry with SA_SUBST has an address (R672, R681). -/
def State.txMay (s : State) (i : Nat) : Bool :=
  5 ≤ s.module.code && s.vRuns 1 && !s.on .dying && (!(s.txFlags i).testBit 3 || s.fb Reg.CAN_STATUS_CLAIMED (s.txCh i))

/-- A period of a transmit entry starts; the periods run back to back. -/
def execTxPeriod (entry : Fin 64) (s : State) : Host.Outcome State Fault Refusal :=
  let i := entry.val
  done (match s.due .txPeriod i with
    | none => s
    | some e => s.expire .txPeriod i fun s =>
      let s := s.setDue .txPeriod i (some (e + ms (s.txPeriodMs i)))
      if s.txMay i then s.txForm i (s.txValues i) else s)

/-- An on-change entry is checked every 1 ms: it forms a frame when a field value differs from its last frame. -/
def execTxChangeCheck (entry : Fin 64) (s : State) : Host.Outcome State Fault Refusal :=
  let i := entry.val
  done (match s.due .txCheck i with
    | none => s
    | some e => s.expire .txCheck i fun s =>
      let s := s.setDue .txCheck i (some (e + ms 1))
      let vals := s.txValues i
      if s.txMay i && !s.canLast.any (fun x => x.1 == i && x.2 == vals) then s.txForm i vals else s)

/-- The frame at the head of a channel's FIFO has been sent: a held frame of its entry enters the tail (R669, R672), and a claim opens
its window of 250 ms (R681). -/
def State.canSent (s : State) (ch : Nat) : State :=
  let st := s.f Reg.CAN_STATUS_STATE ch
  match s.canTx.find? fun t => t.ch == ch with
  | none => s
  | some f =>
    if st != 2 && st != 3 then s
    else
      let s := { s with canTx := s.canTx.erase f }.canSync ch
      let s := (s.addF Reg.CAN_COUNTERS ch 1 1).setF Reg.CAN_ERRORS_TX ch (s.f Reg.CAN_ERRORS_TX ch - 1 : Nat)
      let s := (s.canErrors ch).emit (.can f)
      let s := if f.frame.key == claimKey (s.vn .canAddr ch - 1) && s.on .canAddr ch && !s.fb Reg.CAN_STATUS_CLAIMED ch
            && !s.isOpen .claim ch then
          s.openSlow .claim ch (ms 250)
        else s
      match s.canHold.find? fun t => t.entry == f.entry && t.entry.isSome with
      | none => s
      | some h =>
        let s := { s with canHold := s.canHold.erase h }
        (s.canOffer h ((s.txFlags (h.entry.getD 0)).testBit 0)).2

/-- The head frame of the FIFO is transmitted. -/
def execCanFrameSent (channel : Fin 4) (t : Nat) (s : State) : Host.Outcome State Fault Refusal :=
  done ({ s with now := max s.now t }.canSent channel.val)

/-- The window of a claim ends without a contest. -/
def execAddressClaimed (channel : Fin 4) (s : State) : Host.Outcome State Fault Refusal :=
  done (s.expire .claim channel.val fun s => s.claimDone channel.val)

/-! ### Error states and recovery (R675 to R678) -/

/-- Entry to bus-off. -/
def State.busOff (s : State) (ch : Nat) : State :=
  let s := ((s.setF Reg.CAN_STATUS_STATE ch 4).setF Reg.CAN_ERRORS_TX ch 256).noteEnds Ev.ERROR_PASSIVE ch
  let s := s.addF Reg.CAN_COUNTERS ch 1 9
  let s := s.raise { code := Ev.BUS_OFF, inst := ch, d0 := ch, reaction := s.f Reg.CAN_FAULT_BUS_OFF_REACTION ch,
                     stages := Stage.ofMask (s.f Reg.CAN_FAULT_STAGES ch), lasting := true }
  if !s.fb Reg.CAN_CFG_AUTO_RECOVER ch then s
  else
    let inside : Bool := match s.due .canAuto ch with
      | some e => Decidable.decide (s.now < e)
      | none => false
    let s := if inside then s.addV .busOffs ch 1 else (s.openSlow .canAuto ch (sec 10)).setV .busOffs ch 1
    if s.f Reg.CAN_CFG_AUTO_MAX ch ≤ s.vn .busOffs ch then
      (s.setFb Reg.CAN_STATUS_AUTO_SUSPENDED ch true).noteLasting Ev.AUTO_SUSPENDED ch ch
    else s.setF Reg.CAN_STATUS_STATE ch 5

/-- Protocol errors as ISO 11898-1 counts them: a receive error by 1, a receive error by 8, a transmit error by 8. In restricted
operation and off the bus the counters do not change (R679). -/
def State.canError (s : State) (ch kind : Nat) : State :=
  let st := s.f Reg.CAN_STATUS_STATE ch
  if st != 2 && st != 3 then s
  else if kind == 2 then
    let n := s.f Reg.CAN_ERRORS_TX ch + 8
    if 255 < n then (s.setFb Reg.CAN_STATUS_WARNING ch true).busOff ch else (s.setF Reg.CAN_ERRORS_TX ch n).canErrors ch
  else (s.addF Reg.CAN_ERRORS_RX ch (if kind == 0 then 1 else 8)).canErrors ch

/-- A CAN protocol error. -/
def execCanError (channel : Fin 4) (kind : Fin 3) (t : Nat) (s : State) : Host.Outcome State Fault Refusal :=
  done ({ s with now := max s.now t }.canError channel.val kind.val)

/-- The recovery sequence completes: the counters are zero, and the FIFO resumes (R677). -/
def execBusRecovered (channel : Fin 4) (t : Nat) (s : State) : Host.Outcome State Fault Refusal :=
  let ch := channel.val
  done (if s.f Reg.CAN_STATUS_STATE ch == 5 then
    let s := { s with now := max s.now t }
    let s := ((s.setF Reg.CAN_ERRORS_TX ch 0).setF Reg.CAN_ERRORS_RX ch 0).setFb Reg.CAN_STATUS_WARNING ch false
    let s := s.setF Reg.CAN_STATUS_STATE ch (if s.fb Reg.CLK_STATUS_ON_BACKUP then 1 else 2)
    (s.clearCause Ev.BUS_OFF ch).note Ev.BUS_RECOVERED ch
  else s)

/-! ### What the start does to the channels (R85 to R87, R673) -/

/-- Bits of a frame with n data bytes at the nominal and at the data rate (R673). -/
def frameBits (fd brs : Bool) (n : Nat) : Nat × Nat :=
  let data := 5 + 8 * n + (5 + 8 * n) / 4 + (if n ≤ 16 then 27 else 32)
  if !fd then (67 + 8 * n + (53 + 8 * n) / 4, 0) else if brs then (57, data) else (57 + data, 0)

/-- T_MAX in ns. -/
def State.canTMax (s : State) (ch : Nat) : Nat :=
  let bn := bitTicks (s.f Reg.CAN_NOMINAL_BRP ch) (s.f Reg.CAN_NOMINAL_TSEG1 ch) (s.f Reg.CAN_NOMINAL_TSEG2 ch)
  let bd := bitTicks (s.f Reg.CAN_DATA_BRP ch) (s.f Reg.CAN_DATA_TSEG1 ch) (s.f Reg.CAN_DATA_TSEG2 ch)
  let time := fun (x : Nat × Nat) => 25 * (x.1 * bn + x.2 * bd)
  let mine := (List.range (canTxCount s.canMap)).filter fun i => s.txCh i == ch
  let l := mine.map fun i => time (frameBits ((s.txFlags i).testBit 1) ((s.txFlags i).testBit 2) (dlcBytes (s.txDlc i)))
  (l ++ (if s.fb Reg.CAN_CFG_FD ch then [time (frameBits true true 64)] else [])).foldl max 0

/-- The inversion bound of an enabled channel. -/
def State.canBound (s : State) (ch : Nat) : State :=
  if !s.fb Reg.CAN_CFG_ENABLE ch then s
  else
    let mine := (List.range (canTxCount s.canMap)).filter fun i => s.txCh i == ch && (s.txFlags i).testBit 0
    let u := mine.length + (if s.fb Reg.CAN_CFG_CLAIM_EN ch then 1 else 0)
    let k := min 31 (s.f Reg.CAN_TX_CFG_NORMAL_LIMIT ch + u - 1)
    let t := s.canTMax ch
    ((s.setF Reg.CAN_TX_BOUND ch (divOpen (k * t : Nat) 1000)).setF Reg.CAN_TX_BOUND ch k 1).setF Reg.CAN_TX_BOUND ch t 2

/-- Queued frames are discarded and counted in START.CAN_STALE (R85, R87). -/
def State.canStale (s : State) (ch n : Nat) : State :=
  if n == 0 then s else (s.addF Reg.START_CAN_STALE ch n).note Ev.STARTUP_DROPS 2 ch

/-- Step 7: the full filter set takes over on channels that the image enables; a channel that only EARLY_CAN enables leaves the bus. -/
def State.canApply (s : State) (ch : Nat) : State :=
  let s := s.canBound ch
  if s.earlyOn ch && !s.fb Reg.CAN_CFG_ENABLE ch then
    let n := (s.canRx.filter fun e => e.ch == ch).length
    ({ s with canRx := s.canRx.filter fun e => e.ch != ch }.setF Reg.CAN_STATUS_STATE ch 6 |>.canStale ch n).canSync ch
  else s

/-- The entries that READY applies: of the frames that map to parameters, the newest of each identifier on its channel (R87). -/
def State.readyFrames (s : State) : List CanEntry :=
  let param := s.canRx.filter fun e => match s.rxEntry e.ch e.frame.key with
    | some i => s.rxKind i == 0
    | none => false
  let same := fun (a b : CanEntry) => a.ch == b.ch && a.frame.key % 2 ^ 30 == b.frame.key % 2 ^ 30
  param.zipIdx.filterMap fun x => if (param.drop (x.2 + 1)).any (same x.1) then none else some x.1

/-- READY: queued frames are classified, the channels come onto the bus, the transmit entries' periods begin at the first SLOW edge
after it, and claims are sent (R86, R87, R671, R680). -/
def State.canReady (s : State) : State :=
  let s := s.noteEnds Ev.EARLY_CAN_INVALID
  let apply := s.readyFrames
  let s := s.each [0, 1, 2, 3] fun s ch =>
    s.canStale ch ((s.canRx.filter fun e => e.ch == ch).length - (apply.filter fun e => e.ch == ch).length)
  let s := { s with canRx := [] }
  let s := s.each apply fun s e => match s.rxEntry e.ch e.frame.key with
    | some i => s.mapParam e.ch i e.frame
    | none => s
  let s := s.each ([0, 1, 2, 3].filter fun ch => s.fb Reg.CAN_CFG_ENABLE ch) fun s ch =>
    s.setF Reg.CAN_STATUS_STATE ch (if s.fb Reg.CAN_CFG_RESTRICTED ch || s.fb Reg.CLK_STATUS_ON_BACKUP then 1 else 2)
  let edge := (s.now / Clk.slow + 1) * Clk.slow
  let s := s.each ((List.range (canTxCount s.canMap)).filter fun i => s.fb Reg.CAN_CFG_ENABLE (s.txCh i)) fun s i =>
    if s.txPeriodMs i == 0 then s.setDue .txCheck i (some edge) else s.setDue .txPeriod i (some edge)
  let s := s.each ([0, 1, 2, 3].filter fun ch => s.fb Reg.CAN_CFG_ENABLE ch && s.fb Reg.CAN_CFG_CLAIM_EN ch) fun s ch =>
    s.claimGo ch (s.f Reg.CAN_CLAIM_PREFERRED ch)
  s.each [0, 1, 2, 3] State.canSync

/-- Every channel is off the bus and its queues are empty (R90). -/
def State.canOff (s : State) : State :=
  { s with canRx := [], canTx := [], canHold := [] }.each [0, 1, 2, 3] fun s ch => (s.setF Reg.CAN_STATUS_STATE ch 0).canSync ch

end Sys2Proof.Machine
end

