-- ==== Sys2Proof/Machine/FabricLink.lean ====
section
/-!
DEFINITION. Fabric links and discovery (chapter 17): port states with their supervision, LINK_CHECK and TOPOLOGY frames, waggle
rounds, the root's tally, addresses, and the latency check that a round may start (R644).
-/

namespace Sys2Proof.Machine

/-! ### Latency check (R644, R645) -/

/-- Fabric stages of a reaction. -/
def State.fabStages (s : State) : List Stage := Stage.ofMask (s.f Reg.FAB_FAULT_STAGES)

/-- The colony's worst-case path time in ns. -/
def State.tPath (s : State) : Nat := 1000 + 2 * s.f Reg.FAB_MAX_DEPTH * 4252 + 2352

/-- The shortest cycle in ns that passes the check: twice T_path, and OFFSET + T_path + 1.0 us of each enabled publish frame. -/
def State.shortestCycle (s : State) : Nat :=
  ((List.range 4).filter fun n => s.fb Reg.FAB_PUB_ENABLE n).foldl
    (fun a n => max a (500 * s.f Reg.FAB_PUB_OFFSET n + s.tPath + 1000)) (2 * s.tPath)

/-- The latency check of the colony against the cycle length in force. -/
def State.latencyCheck (s : State) : State :=
  let t := s.tPath
  let s := (s.setF Reg.FAB_LATENCY 0 (divUp t 100)).setF Reg.FAB_LATENCY 1 (2 * s.f Reg.FAB_MAX_DEPTH : Nat)
  let s := s.setF Reg.FAB_LATENCY 2 (divUp s.shortestCycle 500)
  let len := s.f Reg.FAB_CYCLE_LEN_NOW
  if 3 * s.shortestCycle ≤ len * 10 then
    let s := s.setFb Reg.FAB_CYCLE_STATUS_LAT_OK 0 true
    if s.present Ev.LATENCY_UNMET then (s.clearCause Ev.LATENCY_UNMET).note Ev.LATENCY_MET t len else s
  else
    (s.setFb Reg.FAB_CYCLE_STATUS_LAT_OK 0 false).raise
      { code := Ev.LATENCY_UNMET, d0 := t, d1 := len, reaction := s.f Reg.FAB_CYCLE_CFG_LAT_REACTION, stages := s.fabStages,
        lasting := true }

/-- NODES and MAX_DEPTH as a WAGGLE or the root's tally gives them; a change runs the latency check (R608). -/
def State.colonySize (s : State) (nodes depth : Nat) : State :=
  if s.f Reg.FAB_ROUND_NODES == nodes && s.f Reg.FAB_MAX_DEPTH == depth then s
  else
    let s := (s.setF Reg.FAB_ROUND_NODES 0 nodes).setF Reg.FAB_MAX_DEPTH 0 depth
    if s.on .imageApplied then s.latencyCheck else s

/-! ### Ports (R596 to R600) -/

/-- The state of a port (Table 17-3). -/
def State.portState (s : State) (p : Nat) : Nat := s.f Reg.FAB_PORT_STATUS_STATE p

/-- A mask of the ports with a property. -/
def portMask (k : Nat → Bool) : Nat := ((List.range 4).filter k).foldl (fun a p => a + 2 ^ p) 0

/-- A port enters a state; FAB.STATUS follows. -/
def State.setPort (s : State) (p st : Nat) : State :=
  let s := s.setF Reg.FAB_PORT_STATUS_STATE p st
  (s.setF Reg.FAB_STATUS_VERIFIED 0 (portMask fun q => s.portState q == 3)).setF Reg.FAB_STATUS_BLOCKED 0
    (portMask fun q => s.portState q == 4)

/-- What ends with a port's link: its windows, its part in the tree, its neighbour, its measured delay and its queue. -/
def State.portClear (s : State) (p : Nat) : State :=
  let s := ((s.close .linkCheck p).close .linkTimeout p).close .errWindow p
  let s := ((s.setV .lcRun p 0).setV .errDrops p 0).setFb Reg.FAB_PORT_STATUS_PHY_LINK p false
  let s := (s.setFb Reg.FAB_PORT_STATUS_UPSTREAM p false).setFb Reg.FAB_PORT_STATUS_DOWNSTREAM p false
  let s := (s.setF Reg.FAB_PORT_PEER p 0).setF Reg.FAB_PORT_PEER p 0 1
  let s := (s.setFb Reg.FAB_PORT_STATUS_MASTER p false).setFb Reg.FAB_PORT_DELAY_MEASURED p false
  let s := ((s.setF Reg.FAB_PORT_DELAY_DELAY p 0).setV .pdCount p 0).setOn .pdOpen p false
  { s with egress := s.egress.filter fun e => e.port != p }.setV .portEnd p 0

/-- ROOT_PRIO: 255 until the image is applied (R601). -/
def State.ownPrio (s : State) : Nat := if s.on .imageApplied then s.f Reg.FAB_CFG_ROOT_PRIO else 255

/-- The root followed, 0 if none. -/
def State.rootUid (s : State) : Nat := s.f Reg.FAB_ROOT + 2 ^ 32 * s.f Reg.FAB_ROOT 1

/-- Follow a root, or none (0). -/
def State.setRoot (s : State) (uid prio : Nat) : State :=
  ((s.setF Reg.FAB_ROOT 0 (uid % 2 ^ 32)).setF Reg.FAB_ROOT 1 (uid / 2 ^ 32)).setV .rootPrio 0 prio

/-! ### Addresses (R612 to R614) -/

/-- The address that the ADDRESS_TABLE gives a module: its UID entry, otherwise the PATH entry of its place; with its source. -/
def State.tableAddress (s : State) (depth path : Nat) : Option (Nat × Nat) :=
  let l := s.section? 8
  let idx := List.range (numAt l 0 2)
  let kind := fun i => numAt l (4 + 16 * i) 1
  let val := fun i => numAt l (12 + 16 * i) 8
  let addr := fun i => numAt l (6 + 16 * i) 2
  match idx.find? fun i => kind i == 1 && val i == s.uid with
  | some i => some (addr i, 1)
  | none => match idx.find? fun i => kind i == 2 && numAt l (5 + 16 * i) 1 == depth && val i == path && depth ≤ 32 with
    | some i => some (addr i, 2)
    | none => none

/-- The length of 8 own cycles in VCO cycles (R639). -/
def State.masterWait (s : State) : Nat := 8 * 1500 * s.f Reg.FAB_CYCLE_CFG_CYCLE_LEN

/-- A module without an address derives one once its image is applied, and uses it at once (R613). -/
def State.derive (s : State) (depth path : Nat) : State :=
  if s.address != 0x3FE || !s.on .imageApplied || s.fb Reg.FAB_STATUS_REFUSED then s
  else match s.tableAddress depth path with
    | none => s
    | some (a, src) =>
      let s := (s.setF Reg.FAB_STATUS_ADDRESS 0 a).setF Reg.FAB_STATUS_ADDR_SRC 0 src
      let s := s.note Ev.ADDRESS_ASSIGNED a src
      if s.f Reg.FAB_CYCLE_CFG_MASTER_PRIO < 255 then s.setDue .master 0 (some (s.now + s.masterWait)) else s

/-- An ADDRESS_REFUSED frame that names this module, or the root's own refusal (R615). -/
def State.refuseSelf (s : State) (addr reason : Nat) : State :=
  let s := (s.setF Reg.FAB_STATUS_ADDRESS 0 0x3FE).setF Reg.FAB_STATUS_ADDR_SRC 0 0
  let s := ((s.setFb Reg.FAB_STATUS_REFUSED 0 true).addF Reg.FAB_COUNTERS 4).close .master
  let s := if s.f Reg.FAB_CYCLE_STATUS_ROLE == 2 then
      ((s.setF Reg.FAB_CYCLE_STATUS_ROLE 0 0).setF Reg.FAB_MASTER 0 0).setF Reg.FAB_MASTER 1 0
    else s
  s.noteUntilStart Ev.ADDRESS_REFUSED 0 addr reason

/-! ### Rounds (R604 to R608) -/

/-- The body of a WAGGLE (Table 17-5). -/
def waggleBody (uid prio round nodes depth path maxDepth : Nat) : List Byte :=
  le 8 uid ++ le 1 prio ++ le 1 0 ++ le 2 round ++ le 2 nodes ++ le 2 depth ++ le 8 path ++ le 2 maxDepth ++ le 6 0

/-- The root starts a round. -/
def State.startRound (s : State) : State :=
  let s := s.derive 0 0
  let n := (s.f Reg.FAB_ROUND_ROUND + 1) % 65536
  let s := s.setF Reg.FAB_ROUND_ROUND 0 n
  let s := s.each ((List.range 4).filter s.verified) fun s p =>
    s.sendOn p (s.ownFrame 1 0 0x3FF 0 0 (waggleBody s.uid s.ownPrio n (s.vn .nextNodes) 1 p (s.vn .nextDepth)))
  let s := s.openSlow .replyWindow 0 (ms (s.f Reg.FAB_DISCOVERY_REPLY_WINDOW))
  let s := s.openSlow .waggle 0 (ms (s.f Reg.FAB_DISCOVERY_WAGGLE_PERIOD))
  { s with replies := [] }.setOn .earlyRound 0 false

/-- Something at the root asks for an early round (R604). -/
def State.rootEarly (s : State) : State := if s.isOpen .replyWindow then s.setOn .earlyRound 0 true else s.startRound

/-- A port has changed to VERIFIED (0) or DOWN (1): a TOPOLOGY frame goes towards the root, but not for the loss of the upstream port
itself; the root starts a round (R602, R604). -/
def State.topology (s : State) (p change : Nat) (wasUp : Bool) : State :=
  if s.isRoot then s.rootEarly
  else if change == 1 && wasUp then s
  else s.sendUp (s.ownFrame 3 1 0x3FF 0 0 (le 8 s.uid ++ le 1 p ++ le 1 change ++ le 2 0))

/-- A frame of a SRC other than 0x3FE has come on a port, which is the way back to the SRC (R649). -/
def State.learn (s : State) (src port : Nat) : State :=
  if src == s.address || 0x200 ≤ src then s
  else
    let dups := match s.peers.find? fun p => p.src == src && s.now < p.ends with
      | some p => p.dups
      | none => []
    { s with peers := (s.peers.filter fun p => p.src != src) ++ [{ src := src, port := port, ends := s.now + sec 1, dups := dups }] }

/-- A port goes DOWN (R598 to R600): cause 0 PHY link, 1 LINK_TIMEOUT, 2 dropped frames. -/
def State.portDown (s : State) (p cause : Nat) : State :=
  if s.portState p != 2 && s.portState p != 3 then s
  else
    let wasUp := s.fb Reg.FAB_PORT_STATUS_UPSTREAM p
    let s := (((s.cutPort p).portClear p).setPort p 1).addF Reg.FAB_PORT_COUNTERS p 1 7
    let inside : Bool := match s.due .flapWindow p with
      | some e => Decidable.decide (s.now < e)
      | none => false
    let s := if inside then s.addF Reg.FAB_PORT_STATUS_FLAPS p
      else (s.openSlow .flapWindow p (sec (s.f Reg.FAB_LINK_FLAP_WINDOW))).setF Reg.FAB_PORT_STATUS_FLAPS p 1
    let s := s.raise { code := Ev.LINK_DOWN, inst := p, d0 := p, d1 := cause, reaction := s.f Reg.FAB_FAULT_LINK_REACTION,
                       stages := s.fabStages, lasting := true }
    let s := if s.f Reg.FAB_LINK_FLAP_LIMIT ≤ s.f Reg.FAB_PORT_STATUS_FLAPS p then
        ((s.setPort p 4).openSlow .holdOff p (sec (s.f Reg.FAB_LINK_HOLD_OFF))).noteLasting Ev.PORT_BLOCKED p p
      else s
    s.topology p 1 wasUp

/-- The PHY of an enabled port in TRAINING reports link, as master or slave by negotiation unless ROLE forces it: the port is UP (R590,
R596). -/
def execPhyLinkUp (port : Fin 4) (master : Bool) (t : Nat) (s : State) : Host.Outcome State Fault Refusal :=
  let p := port.val
  done (if s.portState p == 1 && s.powered && !s.on .dying && !s.fb Reg.CLK_STATUS_ON_BACKUP then
    let s := { s with now := max s.now t }
    let role := s.f Reg.FAB_PORT_CFG_ROLE p
    let s := ((s.setPort p 2).setFb Reg.FAB_PORT_STATUS_PHY_LINK p true).setFb Reg.FAB_PORT_STATUS_MASTER p
      (if role = 0 then master else role == 1)
    let s := (s.setV .lcRun p 0).setV .errDrops p 0
    let s := (s.openSlow .linkCheck p (ms 1)).openSlow .linkTimeout p (ms (s.f Reg.FAB_LINK_LINK_TIMEOUT))
    s.openSlow .errWindow p (ms 100)
  else s)

/-- The loop of a port is gone (R597). -/
def State.unloop (s : State) (p : Nat) : State := (s.setFb Reg.FAB_PORT_STATUS_LOOPBACK p false).noteEnds Ev.LOOPBACK p

/-- The PHY reports loss of link: a port in UP or VERIFIED goes DOWN, a looped port returns to TRAINING (R597, R598). -/
def execPhyLinkLoss (port : Fin 4) (t : Nat) (s : State) : Host.Outcome State Fault Refusal :=
  let p := port.val
  let s := { s with now := max s.now t }
  done (if s.fb Reg.FAB_PORT_STATUS_LOOPBACK p then ((s.unloop p).portClear p).setPort p 1
    else s.portDown p 0)

/-- The body of a LINK_CHECK on a port (Table 17-4). -/
def State.linkCheckBody (s : State) (p : Nat) : List Byte :=
  le 8 s.uid ++ le 1 p ++ le 1 s.module.code ++ le 2 s.address ++ le 8 s.rootUid ++ le 2 (s.f Reg.FAB_ROUND_ROUND)
    ++ le 1 s.ownPrio ++ le 1 (if s.fb Reg.FAB_PORT_STATUS_UPSTREAM p then 2 else 0)
    ++ le 4 (s.f Reg.FAB_PORT_PEER p) ++ le 4 (s.f Reg.FAB_PORT_PEER p 1)

/-- Every 1 ms a port in UP or VERIFIED sends a LINK_CHECK (R596). -/
def execLinkCheckSend (port : Fin 4) (s : State) : Host.Outcome State Fault Refusal :=
  let p := port.val
  done (match s.due .linkCheck p with
    | none => s
    | some e => s.expire .linkCheck p fun s =>
      (s.setDue .linkCheck p (some (e + ms 1))).sendOn p (s.ownFrame 0 0 0x3FF 0 0 (s.linkCheckBody p)))

/-- No frame passing R593 has arrived for LINK_TIMEOUT (R598). -/
def execLinkTimeout (port : Fin 4) (s : State) : Host.Outcome State Fault Refusal :=
  done (s.expire .linkTimeout port.val fun s => s.portDown port.val 1)

/-- A 100 ms error window ends; the windows run back to back (R598). -/
def execErrorWindowEnd (port : Fin 4) (s : State) : Host.Outcome State Fault Refusal :=
  let p := port.val
  done (match s.due .errWindow p with
    | none => s
    | some e => s.expire .errWindow p fun s =>
      if s.f Reg.FAB_LINK_ERR_LIMIT ≤ s.vn .errDrops p then s.portDown p 2
      else (s.setV .errDrops p 0).setDue .errWindow p (some (e + ms 100)))

/-- HOLD_OFF ends: the port returns to TRAINING with an empty flap window (R600). -/
def execHoldOffEnd (port : Fin 4) (s : State) : Host.Outcome State Fault Refusal :=
  let p := port.val
  done (s.expire .holdOff p fun s => (((s.setPort p 1).setF Reg.FAB_PORT_STATUS_FLAPS p 0).close .flapWindow p).noteEnds Ev.PORT_BLOCKED p)

/-- The flap window of a port ends, and its DOWN count returns to zero. -/
def execFlapWindowEnd (port : Fin 4) (s : State) : Host.Outcome State Fault Refusal :=
  done (s.expire .flapWindow port.val fun s => s.setF Reg.FAB_PORT_STATUS_FLAPS port.val 0)

/-- A LINK_CHECK received on a port (R596, R597, R606). -/
def State.linkCheck (s : State) (p : Nat) (b : List Byte) : State :=
  let uid := numAt b 0 8
  let s := (s.setF Reg.FAB_PORT_PEER p (uid % 2 ^ 32)).setF Reg.FAB_PORT_PEER p (uid / 2 ^ 32) 1
  if uid == s.uid then
    ((s.portClear p).setPort p 4).setFb Reg.FAB_PORT_STATUS_LOOPBACK p true |>.noteLasting Ev.LOOPBACK p p
  else
    let s := s.setFb Reg.FAB_PORT_STATUS_DOWNSTREAM p ((numAt b 0x17 1).testBit 1)
    let inTime := s.now < s.vn .lcAt p / Clk.slow * Clk.slow + ms (s.f Reg.FAB_LINK_LINK_TIMEOUT)
    let run := if numAt b 0x18 8 != s.uid then 0 else if s.vn .lcRun p != 0 && inTime then s.vn .lcRun p + 1 else 1
    let s := (s.setV .lcRun p run).setV .lcAt p (s.now : Nat)
    if s.portState p == 2 && 3 ≤ run then
      let s := (s.setPort p 3).clearCause Ev.LINK_DOWN p
      (s.note Ev.LINK_UP p (uid % 2 ^ 32) (uid / 2 ^ 32)).topology p 0 false
    else s

/-! ### The root (R603, R604, R608 to R610, R615) -/

/-- The module becomes root and starts its own rounds. -/
def State.becomeRoot (s : State) : State :=
  let s := (s.setFb Reg.FAB_STATUS_ROOT 0 true).setRoot s.uid s.ownPrio
  let s := s.each (List.range 4) fun s p => s.setFb Reg.FAB_PORT_STATUS_UPSTREAM p false
  let s := ((s.setF Reg.FAB_STATUS_UPSTREAM 0 0).setF Reg.FAB_ROUND_ROUND 0 0).setF Reg.FAB_PATH_DEPTH 0 0
  let s := (s.setF Reg.FAB_PATH_BITS 0 0).setF Reg.FAB_PATH_BITS 1 0
  let s := ((s.setV .nextNodes 0 0).setV .nextDepth 0 0).setOn .rootKeeps 0 false
  ({ s with colony := [], replies := [] }.close .settle).startRound

/-- The module stops being root. -/
def State.stopRoot (s : State) : State :=
  let s := (s.setFb Reg.FAB_STATUS_ROOT 0 false).setOn .earlyRound 0 false
  (({ s with colony := [], replies := [] }.close .waggle).close .replyWindow).noteEnds Ev.COLONY_OVERSIZE

/-- The root's periodic round. -/
def execWagglePeriodEnd (s : State) : Host.Outcome State Fault Refusal :=
  done (s.expire .waggle 0 fun s => if s.isRoot then s.startRound else s)

/-- No WAGGLE of the root followed for 3 x WAGGLE_PERIOD: ROOT_LOST, and an eligible node becomes root; a node that followed none
becomes root without the report (R610). -/
def execRootLost (s : State) : Host.Outcome State Fault Refusal :=
  done (s.expire .rootLost 0 fun s =>
    let s := if s.rootUid == 0 then s
      else
        let s := ((s.setFb Reg.FAB_STATUS_ROOT_LOST 0 true).addF Reg.FAB_COUNTERS 5).setRoot 0 255
        s.raise { code := Ev.ROOT_LOST, reaction := s.f Reg.FAB_FAULT_PARTITION_REACTION, stages := s.fabStages, lasting := true }
    if s.ownPrio < 255 then s.becomeRoot else s)

/-- Send ADDRESS_REFUSED down the tree (Table 17-8). -/
def State.sendRefused (s : State) (uid addr reason : Nat) : State :=
  s.sendTree (s.ownFrame 4 2 0x3FF 0 0 (le 8 uid ++ le 2 (addr % 1024) ++ le 1 reason ++ le 1 0))

/-- Nodes in ascending DEPTH, then unique ID (R609). -/
def Node.before (a b : Node) : Bool := a.depth < b.depth || (a.depth == b.depth && a.uid ≤ b.uid)
def orderNodes (l : List Node) : List Node := l.foldr (fun n a => (a.takeWhile fun m => !n.before m) ++ n :: a.dropWhile fun m => !n.before m) []

/-- The refusal of a claim, if any: 3 for an address that no node may have, 1 for a duplicate (R615). `claims` holds unique ID, address
and whether the node kept it in an earlier round, of all claimants of this round and of nodes that keep an address. -/
def claimRefusal (claims : List (Nat × Nat × Bool)) (uid addr : Nat) (keeps : Bool) : Option Nat :=
  if addr == 0x3FE then none
  else if 0x200 ≤ addr then some 3
  else if keeps then none
  else if claims.any fun c => c.2.1 == addr && c.1 != uid && (c.2.2 || c.1 < uid) then some 1
  else none

/-- The tally at the end of a round's reply window. -/
def State.tally (s : State) : State :=
  let known := fun (n : Node) => s.colony.find? fun m => m.uid == n.uid
  let old := s.replies.filter fun n => (known n).isSome
  let new := orderNodes (s.replies.filter fun n => (known n).isNone)
  let room := 511 - old.length
  let joined := new.take room
  let s := if (new.drop room).isEmpty then s.noteEnds Ev.COLONY_OVERSIZE else s
  let s := s.each (new.drop room) fun s n =>
    (s.sendRefused n.uid n.addr 2).noteLasting Ev.COLONY_OVERSIZE 0 (n.uid % 2 ^ 32) (n.uid / 2 ^ 32)
  -- the table: replies replace, missed rounds count, long-missed nodes leave
  let limit := s.f Reg.FAB_DISCOVERY_LEAVE_ROUNDS
  let kept := s.colony.filterMap fun m => match s.replies.find? fun n => n.uid == m.uid with
    | some n => some { n with refused := m.refused, keeps := m.keeps && m.addr == n.addr }
    | none => if limit ≤ m.missed + 1 then none else some { m with missed := m.missed + 1 }
  let left := s.colony.filter fun m => !kept.any fun n => n.uid == m.uid
  let s := s.each left fun s n => (s.addF Reg.FAB_COUNTERS 3).note Ev.NODE_LEFT (n.uid % 2 ^ 32) (n.uid / 2 ^ 32)
  let s := s.each joined fun s n => (s.addF Reg.FAB_COUNTERS 2).note Ev.NODE_JOINED (n.uid % 2 ^ 32) (n.uid / 2 ^ 32)
  let table := kept ++ joined
  let here := fun (n : Node) => n.missed == 0

  let live := (s.uid, s.address, s.on .rootKeeps) :: (table.filter fun n => here n || n.keeps).map fun n => (n.uid, n.addr, n.keeps)
  let s := match claimRefusal live s.uid s.address (s.on .rootKeeps) with
    | some r => (s.refuseSelf s.address r).setOn .rootKeeps 0 false
    | none => s.setOn .rootKeeps 0 (s.address != 0x3FE)
  let s := s.each (table.filter here) fun s n => match claimRefusal live n.uid n.addr n.keeps with
    | some r => s.sendRefused n.uid n.addr r
    | none => s
  let table := table.map fun (n : Node) =>
    if !here n then n
    else match claimRefusal live n.uid n.addr n.keeps with
      | some _ => { n with refused := true, keeps := false }
      | none => { n with keeps := n.addr != 0x3FE }
  let s := { s with colony := table, replies := [] }
  let nodes := 1 + old.length + joined.length
  let depth := ((old ++ joined).map Node.depth).foldl max 0
  let s := ((s.setV .nextNodes 0 nodes).setV .nextDepth 0 depth).colonySize nodes depth

  if s.on .earlyRound then s.startRound else s

/-- The reply window of the root's round ends (R608). -/
def execReplyWindowEnd (s : State) : Host.Outcome State Fault Refusal :=
  done (s.expire .replyWindow 0 fun s => if s.isRoot then s.tally else s)

/-- A WAGGLE_REPLY at the root: the last reply of each node of the present round is kept (R608). -/
def State.waggleReply (s : State) (b : List Byte) : State :=
  if !(s.due .replyWindow).any (s.now < ·) || numAt b 8 2 != s.f Reg.FAB_ROUND_ROUND then s
  else
    let n : Node := { uid := numAt b 0 8, body := b.take 40, addr := numAt b 0xA 2 % 1024, depth := numAt b 0xC 2, missed := 0,
                      refused := false, keeps := false }
    { s with replies := (s.replies.filter fun m => m.uid != n.uid) ++ [n] }

/-! ### A node in a round (R605 to R607, R613) -/

/-- The hops of a path. -/
def pathHops (depth path : Nat) : List Nat := (List.range (min depth 32)).map fun h => path / 4 ^ h % 4

/-- The first of two lists of hops has the lower port where they first differ. -/
def lowerPort : List Nat → List Nat → Bool
  | a :: l, b :: r => a < b || (a == b && lowerPort l r)
  | _, _ => false

/-- Path A is better than path B (R606). -/
def betterPath (da pa db pb : Nat) : Bool := da < db || (da == db && lowerPort (pathHops da pa) (pathHops db pb))

/-- The module's own place in the tree as FAB.PATH shows it. -/
def State.setPath (s : State) (depth path : Nat) : State :=
  ((s.setF Reg.FAB_PATH_DEPTH 0 depth).setF Reg.FAB_PATH_BITS 0 (path % 2 ^ 32)).setF Reg.FAB_PATH_BITS 1 (path / 2 ^ 32)

/-- The upstream port of the module. -/
def State.setUpstream (s : State) (p : Nat) : State :=
  let s := s.each (List.range 4) fun s q => s.setFb Reg.FAB_PORT_STATUS_UPSTREAM q (q == p)
  s.setF Reg.FAB_STATUS_UPSTREAM 0 p

/-- The body of the module's WAGGLE_REPLY (Table 17-6). -/
def State.replyBody (s : State) : List Byte :=
  let ports := (List.range 4).foldl (fun a p => a + s.portState p * 16 ^ p) 0
  let src := s.f Reg.FAB_STATUS_ADDR_SRC
  le 8 s.uid ++ le 2 (s.f Reg.FAB_ROUND_ROUND) ++ le 2 (s.address + 4096 * src : Nat) ++ le 2 (s.f Reg.FAB_PATH_DEPTH) ++ le 2 0
    ++ le 4 (s.f Reg.FAB_PATH_BITS) ++ le 4 (s.f Reg.FAB_PATH_BITS 1) ++ le 1 s.module.code ++ le 1 (s.f Reg.FAB_STATUS_UPSTREAM)
    ++ le 2 ports ++ le 4 (if s.on .imageApplied then s.f Reg.START_IMAGE_ID else 0)
    ++ le 4 (if s.on .imageApplied then s.f Reg.START_IMAGE_CRC else 0) ++ le 1 (if s.ownPrio < 255 then 2 else 0) ++ le 3 0

/-- The module's reply of the present round goes towards the root. -/
def State.sendWaggleReply (s : State) : State := s.sendUp (s.ownFrame 2 1 0x3FF 0 0 s.replyBody)

/-- The settle window ends: DEPTH and PATH are fixed, the address is derived, and the reply is sent (R607). -/
def State.settleRound (s : State) : State :=
  s.expire .settle 0 fun s =>
    let d := s.vn .bestDepth
    let p := s.vn .bestPath
    let s := (s.setOn .settled 0 true).setPath d p
    (s.derive d p).sendWaggleReply

def execWaggleSettle (s : State) : Host.Outcome State Fault Refusal := done s.settleRound

/-- Forward a copy on every other VERIFIED port, with DEPTH and the egress port written (R606). -/
def State.forwardWaggle (s : State) (p : Nat) (f : Frame) : State :=
  let d := numAt f.body 0xE 2
  let path := numAt f.body 0x10 8
  s.each ((List.range 4).filter fun q => q != p && s.verified q) fun s q =>
    let path' := if d < 32 then path + q * 4 ^ d else path
    let body := f.body.take 0xE ++ le 2 (d + 1 : Nat) ++ le 8 path' ++ f.body.drop 0x18
    s.sendOn q { f with hops := f.hops + 1, body := body }

/-- A WAGGLE of the root followed has arrived: the wait for the next one starts again, unless it ends in this SLOW cycle (R33, R610). -/
def State.rootHeard (s : State) : State :=
  if s.ended Clk.slow .rootLost then s else s.openSlow .rootLost 0 (3 * ms (s.f Reg.FAB_DISCOVERY_WAGGLE_PERIOD))

/-- The first copy of a round that the node accepts. -/
def State.acceptRound (s : State) (p : Nat) (f : Frame) : State :=
  let b := f.body
  let root := numAt b 0 8
  let changed := s.rootUid != root
  let s := (if s.isRoot then s.stopRoot else s).learn f.src p
  let s := (s.setRoot root (numAt b 8 1)).addF Reg.FAB_COUNTERS 0
  let s := if changed then (s.addF Reg.FAB_COUNTERS 1).note Ev.ROOT_CHANGED (root % 2 ^ 32) (root / 2 ^ 32) else s
  let s := (s.setFb Reg.FAB_STATUS_ROOT_LOST 0 false).clearCause Ev.ROOT_LOST
  let s := (if changed then s.close .rootLost else s).rootHeard
  let s := s.setF Reg.FAB_ROUND_ROUND 0 (numAt b 0xA 2)
  let s := (s.setV .bestDepth 0 (numAt b 0xE 2)).setV .bestPath 0 (numAt b 0x10 8)
  let s := ((s.setOn .settled 0 false).setDue .settle 0 (some (s.now + ms 1))).setUpstream p
  (s.colonySize (numAt b 0xC 2) (numAt b 0x18 2)).forwardWaggle p f

/-- A later copy of the present round: a better one changes the upstream port and is forwarded, and after settling it changes the path
and brings a second reply. -/
def State.laterCopy (s : State) (p : Nat) (f : Frame) : State :=
  let d := numAt f.body 0xE 2
  let path := numAt f.body 0x10 8
  if !betterPath d path (s.vn .bestDepth) (s.vn .bestPath) then s
  else
    let s := ((s.setV .bestDepth 0 d).setV .bestPath 0 path).setUpstream p
    let s := s.forwardWaggle p f
    if s.on .settled then (s.setPath d path).sendWaggleReply else s

/-- A WAGGLE is accepted, handled as a later copy, or dropped (R605). A copy that comes at the end of the settle window or after it finds the
round settled (R607). -/
def State.waggle (s : State) (p : Nat) (f : Frame) : State :=
  let s := if (s.due .settle).any (· ≤ s.now) then s.settleRound else s
  let root := numAt f.body 0 8
  let prio := numAt f.body 8 1
  let round := numAt f.body 0xA 2
  let mine := s.rootUid
  let myPrio := s.vn .rootPrio
  let better := mine == 0 || (root != mine && (prio < myPrio || (prio == myPrio && root < mine)))
  let ahead := (round + 65536 - s.f Reg.FAB_ROUND_ROUND) % 65536
  if root == s.uid then s
  else if better || (root == mine && 1 ≤ ahead && ahead ≤ 32767) then s.acceptRound p f
  else if root == mine then (if ahead == 0 then s.laterCopy p f else s).rootHeard
  else s

/-! ### What the start does to the ports (R601) -/

/-- Step 5 of the start: the enabled ports train, and the module is a transit node until its image is applied. -/
def State.fabTrain (s : State) : State :=
  let s := s.setFb Reg.FAB_STATUS_TRANSIT 0 true
  if s.fb Reg.CLK_STATUS_ON_BACKUP then s else s.each (List.range 4) fun s p => s.setPort p 1

/-- A port is OFF: no link, no loop, no block (R590). -/
def State.portOff (s : State) (p : Nat) : State :=
  ((((s.portClear p).unloop p).setPort p 0).close .holdOff p).noteEnds Ev.PORT_BLOCKED p

/-- The ports are dropped: at the entry to SLEEP and SHIP, in OFF, and on the backup oscillator (R91, R120). -/
def State.fabDrop (s : State) : State :=
  s.each (List.range 4) State.portOff

/-- Step 7: the image's fabric parameters take effect, the module leaves transit, its local cycle timer starts, and a node that follows
no root waits for one. -/
def State.fabApply (s : State) : State :=
  let s := s.setFb Reg.FAB_STATUS_TRANSIT 0 false
  let s := s.each ((List.range 4).filter fun p => !s.fb Reg.FAB_PORT_CFG_ENABLE p) State.portOff
  let s := s.setF Reg.FAB_CYCLE_LEN_NOW 0 (150 * s.f Reg.FAB_CYCLE_CFG_CYCLE_LEN : Nat)
  let s := (s.setOn .cycleZero 0 true).setDue .cycle 0 (some (divUp s.now Clk.pulse * Clk.pulse))
  let s := s.openSlow .pdelay 0 (ms 100)
  let s := if s.isOpen .rootLost then s else s.openSlow .rootLost 0 (3 * ms (s.f Reg.FAB_DISCOVERY_WAGGLE_PERIOD))
  s.latencyCheck

end Sys2Proof.Machine
end

