-- ==== Sys2Proof/Machine/FabricCycle.lean ====
section
/-!
DEFINITION. Fabric routing and the colony cycle (chapter 18): duplicate state, the route table with published and delivered signals,
rings, SYNC and link delays, masters and the local cycle, and service frames.
-/

namespace Sys2Proof.Machine

/-! ### Duplicate state (R623, R624, R649) -/

/-- The class of a received SEQ: 0 new, 1 duplicate, 2 stale; with the state of its (SRC, KIND) after it. -/
def Dup.classify (d : Dup) (seq : Nat) : Nat × Dup :=
  let up := (seq + 65536 - d.high) % 65536
  let down := (d.high + 65536 - seq) % 65536
  if up == 0 then (1, d)
  else if up ≤ 32767 then
    (0, { d with high := seq, mask := (d.mask * 2 ^ up + 2 ^ (up - 1)) % 2 ^ 64, sent := d.sent.filter fun x => (seq + 65536 - x.1) % 65536 ≤ 64 })
  else if down ≤ 64 then
    if d.mask.testBit (down - 1) then (1, d) else (0, { d with mask := d.mask + 2 ^ (down - 1) })
  else (2, d)

/-- Classify a frame of a SRC other than 0x3FE that arrived on a port: its duplicate state is kept for 1 s after its last frame, and the
port of a first copy is learned. -/
def State.classify (s : State) (src kind seq port : Nat) : Nat × State :=
  let ends := s.now + sec 1
  match s.peers.find? fun p => p.src == src && s.now < p.ends with
  | none => (0, { s with peers := (s.peers.filter fun x => x.src != src) ++
                                    [{ src := src, port := port, ends := ends, dups := [{ kind := kind, high := seq, mask := 0, sent := [] }] }] })
  | some p =>
    let (c, d) := match p.dups.find? fun d => d.kind == kind with
      | some d => d.classify seq
      | none => (0, { kind := kind, high := seq, mask := 0, sent := [] })
    let new : Peer := { p with ends := ends, port := if c == 0 then port else p.port,
                               dups := (p.dups.filter fun x => x.kind != kind) ++ [d] }
    (c, { s with peers := (s.peers.filter fun x => x.src != src) ++ [new] })

/-- Without its FCS a frame is not recorded as accepted; its class only says whether it would be forwarded. -/
def State.classOf (s : State) (src kind seq : Nat) : Nat := match s.peers.find? fun p => p.src == src && s.now < p.ends with
  | none => 0
  | some p => match p.dups.find? fun d => d.kind == kind with
    | some d => (d.classify seq).1
    | none => 0

/-- The ports on which (SRC, KIND, SEQ) has been sent. -/
def State.sentPorts (s : State) (src kind seq : Nat) : List Nat := match s.peers.find? fun p => p.src == src && s.now < p.ends with
  | none => []
  | some p => match p.dups.find? fun d => d.kind == kind with
    | some d => (d.sent.filter fun x => x.1 == seq).map Prod.snd
    | none => []

/-- Record a port on which a frame has been sent. -/
def State.markSent (s : State) (src kind seq port : Nat) : State :=
  { s with peers := s.peers.map fun (p : Peer) => if p.src != src then p else
      { p with dups := p.dups.map fun (d : Dup) => if d.kind != kind then d else { d with sent := d.sent ++ [(seq, port)] } } }

/-- Forward a frame, at most once on each of some ports and never on the port it arrived on; `k` gives the body for each port. -/
def State.forward (s : State) (p : Nat) (f : Frame) (ports : List Nat) (k : Nat → List Byte) : State :=
  let used := s.sentPorts f.src f.kind f.seq
  s.each (ports.filter fun q => q != p && s.verified q && !used.contains q) fun s q =>
    (s.sendOn q { f with hops := f.hops + 1, body := k q } (!f.fcs)).markSent f.src f.kind f.seq q

/-- 1 s after the last frame of a SRC, its duplicate state and its learned port are discarded. -/
def State.forget (s : State) (src : Nat) : State := match s.peers.find? fun p => p.src == src with
  | none => s
  | some p => { s with now := max s.now p.ends, peers := s.peers.filter fun x => x.src != src }

def execDuplicateStateExpiry (src : Nat) (s : State) : Host.Outcome State Fault Refusal := done (s.forget src)

/-! ### Signals (R625 to R630) -/

/-- The two words of a signal's route entry; all zero beyond ROUTE_COUNT. -/
def State.sigRoute (s : State) (id w : Nat) : Nat :=
  let l := s.section? 4
  if id < routeCount l then routeWord l id w else 0

/-- A signal is written to its parameter as a host write; it stands over a host write of the same LOOP cycle (R629, R630). -/
def State.writeSignal (s : State) (w : Waiting) : State :=
  let (r, s) := s.hostWrite1 { who := none, leaving := [], closing := [] } w.index w.sub w.value
  let key := keyOf w.index w.sub
  if r.code == 0 then (s.setV .sigAt key (s.loopNo + 1 : Nat)).setV .sigVal key (w.value.toNat : Nat)
  else ((s.countResult r).addF Reg.FAB_SIG_COUNTERS 5).note Ev.SIGNAL_REFUSED w.signal (keyOf w.index w.sub)

/-- A signal is delivered under its own entry: now, or at the next local cycle start. -/
def State.deliverSignal (s : State) (id : Nat) (v : Word) : State :=
  let a := s.sigRoute id 0
  if !a.testBit 4 then s
  else
    let s := s.addF Reg.FAB_SIG_COUNTERS 0
    let w : Waiting := { signal := id, index := a / 65536, sub := s.sigRoute id 1 % 256, value := v, loop := s.loopNo }
    if !a.testBit 5 then s.writeSignal w
    else
      let s := if s.waiting.any fun x => x.signal == id then s.addF Reg.FAB_SIG_COUNTERS 4 else s
      { s with waiting := (s.waiting.filter fun x => x.signal != id) ++ [w] }

/-- The entries of a SIGNAL body: signal ID and value. -/
def signalEntries (b : List Byte) : List (Nat × Word) :=
  (List.range (numAt b 0 2)).map fun i => (numAt b (8 + 8 * i) 2, BitVec.ofNat 32 (numAt b (12 + 8 * i) 4))

/-- A SIGNAL frame's body has a count of 1 to 29 and reaches its last entry. -/
def signalOk (b : List Byte) : Bool := 1 ≤ numAt b 0 2 && numAt b 0 2 ≤ 29 && 8 + 8 * numAt b 0 2 ≤ b.length

/-- The ports of a signal's route entry. -/
def State.routePorts (s : State) (id : Nat) : List Nat := (List.range 4).filter fun p => (s.sigRoute id 0).testBit p

/-- A publish frame is formed and sent (R627): once per cycle number, in READY, RUN, SERVICE and SAFE, and not at address 0x3FE. -/
def State.publishFrame (s : State) (n : Nat) : State :=
  let l := s.section? 4
  let e := pubEntries l n
  if !(5 ≤ s.module.code) || s.address == 0x3FE || !s.fb Reg.FAB_PUB_ENABLE n || e.isEmpty
      || s.vn .pubDone n == s.f Reg.FAB_CYCLE_NO + 1 then s
  else
    let v := s.live
    let sig := e.map fun i => (pubWord l i 0 % 8192, v.word (keyOf (pubWord l i 1 % 65536) (pubWord l i 1 / 65536)))
    let (q, s) := s.nextSeq 6
    let body := le 2 sig.length ++ le 2 0 ++ le 4 (s.f Reg.FAB_CYCLE_NO)
      ++ sig.flatMap fun x => le 2 x.1 ++ le 2 0 ++ le 4 x.2.toNat
    let first := (sig.head?.map Prod.fst).getD 0
    let s := s.each ((s.routePorts first).filter s.verified) fun s p => s.sendOn p (s.ownFrame 6 0 s.address q 0 body)
    let s := (s.addF Reg.FAB_SIG_COUNTERS 1).setV .pubDone n (s.f Reg.FAB_CYCLE_NO + 1 : Nat)
    if (s.sigRoute first 0).testBit 4 then s.each sig fun s x => s.deliverSignal x.1 x.2 else s

/-- Cycle start + OFFSET of an enabled publish frame. -/
def execPublish (frame : Fin 4) (s : State) : Host.Outcome State Fault Refusal :=
  done (s.expire .publish frame.val fun s => s.publishFrame frame.val)

/-- A SIGNAL frame is routed by the entry of its first signal and delivered on its first copy (R623, R628, R629). -/
def State.signal (s : State) (p : Nat) (f : Frame) : State :=
  if f.src == s.address then s
  else
    let (c, s) := if f.fcs then s.classify f.src 6 f.seq p else (s.classOf f.src 6 f.seq, s)
    if c == 2 then s.addF Reg.FAB_SIG_COUNTERS 3
    else
      let e := signalEntries f.body
      let first := (e.head?.map Prod.fst).getD 0
      let ports := s.routePorts first
      let s := if c == 0 && f.fcs && ports.isEmpty && !e.any (fun x => (s.sigRoute x.1 0).testBit 4) then s.addF Reg.FAB_SIG_COUNTERS 2 else s
      let s := s.forward p f ports fun _ => f.body
      if c == 0 && f.fcs then s.each e fun s x => s.deliverSignal x.1 x.2 else s

/-! ### The local cycle (R632, R633, R639 to R643, R320) -/

/-- The ring ports. -/
def State.ringPorts (s : State) : List Nat := (List.range 4).filter fun p => (s.f Reg.FAB_RING_RING_PORTS).testBit p

/-- The degraded flag of the fabric follows its ring ports. -/
def State.ringSync (s : State) : State :=
  s.setFb Reg.FAB_CYCLE_STATUS_RING_BROKEN 0 ((List.range 4).any fun p => s.on .ringBad p)

/-- What one cycle without a copy, or with one, means for a ring port (R633). -/
def State.ringPort (s : State) (p : Nat) (missed : Bool) : State :=
  let limit := s.f Reg.FAB_RING_RING_MISS
  if missed then
    let s := (s.addV .ringMissRun p 1).setV .ringGoodRun p 0
    if limit ≤ s.vn .ringMissRun p && !s.on .ringBad p then
      (s.setOn .ringBad p true).ringSync.raise
        { code := Ev.RING_BROKEN, inst := p, d0 := p, reaction := s.f Reg.FAB_RING_RING_REACTION, stages := s.fabStages, lasting := true }
    else s
  else
    let s := s.setV .ringMissRun p 0
    if !s.on .ringBad p then s
    else
      let s := s.addV .ringGoodRun p 1
      if limit ≤ s.vn .ringGoodRun p then
        (((s.setOn .ringBad p false).setV .ringGoodRun p 0).ringSync.clearCause Ev.RING_BROKEN p).note Ev.RING_RESTORED p
      else s

/-- A copy of the SYNC of a cycle has arrived on a port; the one of the cycle before it is kept, since a copy may come before the local start of
its cycle (R631, R632). -/
def State.ringCopy (s : State) (p no : Nat) : State :=
  if s.vn .ringGot p == no + 1 then s else (s.setV .ringBefore p (s.v .ringGot p)).setV .ringGot p (no + 1 : Nat)

/-- At a local cycle start, the ring ports of the cycle that ends; when both miss, only the missing-cycle rules apply. -/
def State.ringCheck (s : State) : State :=
  let n := s.f Reg.FAB_CYCLE_NO
  let got := fun p => s.vn .ringGot p == n + 1 || s.vn .ringBefore p == n + 1
  let ports := s.ringPorts
  if ports.isEmpty || s.f Reg.FAB_CYCLE_STATUS_ROLE == 0 then s
  else
    let s := s.setF Reg.FAB_CYCLE_STATUS_RING_MISSED 0 (portMask fun p => ports.contains p && !got p)
    if ports.all fun p => !got p then s else s.each ports fun s p => s.ringPort p (!got p)

/-- The alignment of stages with SRC CYCLE, whether or not their carriers run (R295, R320): the module has a master or is one, fewer than 8 cycles are missing, and the cycle
length is a multiple of the carrier period. -/
def State.cycleAlign (s : State) : State :=
  s.each (Stage.all.filter fun t => s.f Reg.PULSE_SYNC_SRC t.idx == 2) fun s t =>
    let s := s.recordTouched
    let per := s.f Reg.PULSE_PERIOD t.idx
    let ok := s.f Reg.FAB_CYCLE_STATUS_ROLE != 0 && s.vn .missing < 8 && per != 0 && s.f Reg.FAB_CYCLE_LEN_NOW % per == 0
    if ok then
      let s := ((s.setFb Reg.PULSE_STATUS_CYCLE_MISMATCH t.idx false).setFb Reg.PULSE_STATUS_SYNC_LOST t.idx false)
      (s.setFb Reg.PULSE_STATUS_LOCKED t.idx true).clearCause Ev.SYNC_LOST t.idx
    else if s.fb Reg.PULSE_STATUS_CYCLE_MISMATCH t.idx then s
    else
      let s := (s.setFb Reg.PULSE_STATUS_CYCLE_MISMATCH t.idx true).setFb Reg.PULSE_STATUS_SYNC_LOST t.idx true
      ((s.setFb Reg.PULSE_STATUS_LOCKED t.idx false).addF Reg.PULSE_COUNTERS t.idx 1 1).raise
        { code := Ev.SYNC_LOST, inst := t.idx, src := t.idx, d0 := t.idx, reaction := s.f Reg.PULSE_SYNC_SYNC_REACTION t.idx,
          stages := [t], lasting := true }

/-- The master followed, 0 if none. -/
def State.masterUid (s : State) : Nat := s.f Reg.FAB_MASTER + 2 ^ 32 * s.f Reg.FAB_MASTER 1

/-- Show a master. -/
def State.setMaster (s : State) (uid : Nat) : State := (s.setF Reg.FAB_MASTER 0 (uid % 2 ^ 32)).setF Reg.FAB_MASTER 1 (uid / 2 ^ 32)

/-- The cycle length in force changes; the latency check runs. -/
def State.setCycleLen (s : State) (len : Nat) : State :=
  if s.f Reg.FAB_CYCLE_LEN_NOW == len then s else (s.setF Reg.FAB_CYCLE_LEN_NOW 0 len).latencyCheck

/-- What every local cycle start does, in the order of R643: the signals whose delivery completed before its LOOP cycle (R629), publish
offsets, alignment. A publish instant that a step
has passed is not made up (R641). -/
def State.cycleActions (s : State) (start : Nat) : State :=
  let s := s.setV .cycleStartAt 0 start
  let s := s.setDue .cycle 0 (some (start + s.f Reg.FAB_CYCLE_LEN_NOW * Clk.pulse))
  let due := fun (w : Waiting) => w.loop < max start s.now / Clk.loop
  let w := s.waiting.filter due
  let s := { s with waiting := s.waiting.filter fun w => !due w }.each w State.writeSignal
  let s := s.each (List.range 4) fun s n =>
    let at' := start + 1500 * s.f Reg.FAB_PUB_OFFSET n
    s.setDue .publish n (if s.fb Reg.FAB_PUB_ENABLE n && s.now ≤ at' then some at' else none)
  s.cycleAlign

/-- The body of a CYCLE frame (Table 18-6). -/
def cycleBody (type prio req no uid len origin corr : Int) : List Byte :=
  le 1 type ++ le 1 prio ++ le 2 req ++ le 4 no ++ le 8 uid ++ le 4 len ++ le 4 origin ++ le 8 corr

/-- The first common SLOW edge after PLL lock, from which local time counts (R635). -/
def State.timeBase (s : State) : Nat := s.vn .sampleBase * Clk.sample

/-- The instant of an edge as local time in sub-steps (R635). -/
def State.localTime (s : State) (v : Nat) : Int := (((v : Int) - s.timeBase) * 32) / 5

/-- The master sends its SYNC on every VERIFIED port (R634, R639). -/
def State.sendSync (s : State) (leave : List Nat) : State :=
  let no := s.f Reg.FAB_CYCLE_NO
  let s := s.addF Reg.FAB_CYCLE_COUNTERS 0
  s.each ((List.range 4).filter s.verified) fun s p =>
    let origin := ((leave.getD p 0 : Nat) : Int) - s.localTime (s.vn .cycleStartAt)
    s.sendOn p (s.ownFrame 5 0 s.address (no % 65536) 0
      (cycleBody 0 (s.f Reg.FAB_CYCLE_CFG_MASTER_PRIO) 0 no s.uid (s.f Reg.FAB_CYCLE_LEN_NOW) (wrap 32 origin) 0))

/-- A local cycle starts. `leave` gives the departure stamps of the SYNC frames that a master sends. -/
def State.cycleStart (s : State) (start : Nat) (leave : List Nat) : State :=
  let s := s.ringCheck
  let no : Nat := if s.on .cycleZero then 0 else (s.f Reg.FAB_CYCLE_NO + 1) % 2 ^ 32
  let s := ((s.setOn .cycleZero 0 false).setF Reg.FAB_CYCLE_NO 0 no).cycleActions start
  let role := s.f Reg.FAB_CYCLE_STATUS_ROLE
  if role == 2 then s.sendSync leave
  else if role == 1 || s.vn .lapsedUid != 0 then
    if s.on .syncEarly then s.setOn .syncEarly 0 false
    else s.setDue .missing 0 (some (start + s.f Reg.FAB_CYCLE_LEN_NOW * Clk.pulse / 2))
  else s

/-- The next local cycle start. -/
def execCycleStart (leave : List Nat) (s : State) : Host.Outcome State Fault Refusal :=
  done (match s.due .cycle with
    | none => s
    | some e => s.expire .cycle 0 fun s => if s.on .imageApplied then s.cycleStart e leave else s)

/-- No SYNC of the master followed has come for 8 of its cycles: the module follows none, and its own cycle length is in force (R638,
R640). -/
def State.masterLapse (s : State) : State :=
  if s.f Reg.FAB_CYCLE_STATUS_ROLE == 1 && s.vn .masterAt + 8 * s.vn .masterLen * Clk.pulse ≤ s.now then
    let s := (s.setF Reg.FAB_CYCLE_STATUS_ROLE 0 0).setMaster 0
    s.setCycleLen (150 * s.f Reg.FAB_CYCLE_CFG_CYCLE_LEN)
  else s

/-- The window of a cycle frame ends without one (R112). The windows of a master that has lapsed go on. -/
def State.missedCycle (s : State) : State :=
  s.expire .missing 0 fun s =>
    if s.f Reg.FAB_CYCLE_STATUS_ROLE == 2 then s
    else
      let n := s.vn .missing
      let s := s.disciplineMissing
      let s := if s.vn .missing == n then s.addV .missing 0 1 else s
      (s.setF Reg.FAB_CYCLE_STATUS_MISSING 0 (min 15 (s.vn .missing) : Nat)).masterLapse.cycleAlign

/-- No cycle frame of the master has arrived in its window (R112). -/
def execMissingCycle (s : State) : Host.Outcome State Fault Refusal := done s.missedCycle

/-! ### Link delays (R636) -/

/-- The link delay of a port in ps: measured, or DELAY_DEFAULT. -/
def State.linkDelay (s : State) (p : Nat) : Nat :=
  if s.fb Reg.FAB_PORT_DELAY_MEASURED p then s.f Reg.FAB_PORT_DELAY_DELAY p else 1000 * s.f Reg.FAB_PORT_DELAY_CFG_DEFAULT p

/-- Every 100 ms a module with an address sends a PDELAY_REQ on each VERIFIED port; `leave` gives the departure stamps. -/
def execPdelaySend (leave : List Nat) (s : State) : Host.Outcome State Fault Refusal :=
  done (match s.due .pdelay with
    | none => s
    | some e => s.expire .pdelay 0 fun s =>
      let s := s.setDue .pdelay 0 (some (e + ms 100))
      if s.address == 0x3FE then s
      else s.each ((List.range 4).filter s.verified) fun s p =>
        let r := (s.vn .pdReq p + 1) % 65536
        let s := ((s.setV .pdReq p r).setV .pdSentAt p (leave.getD p 0 : Nat)).setOn .pdOpen p true
        s.sendOn p (s.ownFrame 5 0 s.address 0 0 (cycleBody 1 0 r 0 0 0 0 0)))

/-- A PDELAY_REQ is answered with its arrival stamp and the departure stamp of the response. -/
def State.pdelayReq (s : State) (p : Nat) (f : Frame) (st : Stamps) : State :=
  if s.address == 0x3FE then s
  else
    let t3 := st.leave.getD p 0
    let high : Nat := t3 / 2 ^ 32 % 2 ^ 32
    let low : Nat := t3 % 2 ^ 32
    let t2 : Nat := st.arrive % 2 ^ 64
    s.sendOn p (s.ownFrame 5 0 s.address 0 0
      (cycleBody 2 0 (numAt f.body 2 2) 0 t2 low high 0))

/-- A PDELAY_RESP gives one result, kept as twice the delay in sub-steps; the delay is the mean of the last 8. -/
def State.pdelayResp (s : State) (p : Nat) (f : Frame) (st : Stamps) : State :=
  if !s.on .pdOpen p || numAt f.body 2 2 != s.vn .pdReq p then s
  else
    let t2 : Int := numAt f.body 8 8
    let t3 : Int := numAt f.body 0x10 8
    let x : Int := (st.arrive : Int) - s.v .pdSentAt p - (t3 - t2)
    let k := s.vn .pdPlace p % 8
    let s := ((s.setOn .pdOpen p false).setV .pdResult (p * 8 + k) x).setV .pdPlace p ((k + 1) % 8 : Nat)
    let s := s.setV .pdCount p (min 8 (s.vn .pdCount p + 1) : Nat)
    if s.vn .pdCount p < 8 then s
    else
      let sum := (List.range 8).foldl (fun a i => a + s.v .pdResult (p * 8 + i)) 0
      (s.setF Reg.FAB_PORT_DELAY_DELAY p (clampI 0 0xFFFFF (divOpen (sum * 625) 192))).setFb Reg.FAB_PORT_DELAY_MEASURED p true

/-! ### SYNC (R631, R637 to R641) -/

/-- Master A is better than master B (R638). -/
def betterMaster (pa ua pb ub : Nat) : Bool := pa < pb || (pa == pb && ua < ub)

/-- Step the local cycle timer to the nearest PULSE edge of an estimate in 2^-16 sub-steps of local time, with the frame's number. -/
def State.cycleStep (s : State) (est : Int) (no : Nat) (size : Int) : State :=
  let edge : Int := (est + (2 ^ 21 : Nat)) / (2 ^ 22 : Nat)
  let start : Nat := (edge * 10 + (s.timeBase : Int)).toNat
  let s := ((s.addF Reg.FAB_CYCLE_COUNTERS 2).note Ev.CYCLE_STEPPED (wrap 32 size)).setF Reg.FAB_CYCLE_NO 0 no
  (s.setOn .cycleZero 0 false).cycleActions start

/-- The first copy of a SYNC of the master that the module follows. It falls in the window of the present cycle, or from half a cycle after
the expected instant on in that of the next one, and a second one in a window changes nothing of either (R112). When the window has ended
the cycle is missing first (R112), and when that was the eighth, the change from HOLDOVER to ACQUIRE is reported as well, under
LOCK_LOST with the two states, since Table 3-9 names no event for it (R115; DESIGN CHOICE, log entry 168). -/
def State.followSync (s : State) (p : Nat) (f : Frame) (st : Stamps) (changed : Bool) : State :=
  let no := numAt f.body 4 4
  let len := numAt f.body 0x10 4
  let tooLate := (s.due .missing).any (· ≤ s.now)
  let s := (if tooLate then s.missedCycle else s).setCycleLen len
  let held := s.disc == 3 && s.vn .holdoverAt / Clk.loop == s.now / Clk.loop
  let unit := fun (ps : Nat) => divOpen (ps * 12 * 65536 : Nat) 625
  let est : Int := (st.arrive : Int) * 65536 - numAt f.body 0x14 4 * 65536 - numAt f.body 0x18 8 - unit (s.linkDelay p)
  let ahead := toSigned 32 ((no + 2 ^ 32 - s.f Reg.FAB_CYCLE_NO) % 2 ^ 32)
  let start : Int := (s.localTime (s.vn .cycleStartAt) + ahead * len * 64) * 65536
  let err := start - est
  let ps := fun (x : Int) => divOpen (x * 625) (12 * 65536)
  let step := (s.disc == 0 && (s.fb Reg.CLK_DISCIPLINE_ENABLE || !s.on .masterSeen)) || changed
    || (s.disc == 1 && 1000000 < (ps err).natAbs)
  let s := s.setOn .masterSeen 0 true
  let early := s.vn .cycleStartAt + len * Clk.pulse / 2 ≤ s.now && !step
  let s := if early then s.setOn .syncEarly 0 true else (s.close .missing).setOn .syncEarly 0 false
  let s := if step then s.cycleStep est no (divOpen (est - start) 65536) else s
  let left : Int := if step then s.localTime (s.vn .cycleStartAt) * 65536 - est else err
  let s := s.setF Reg.FAB_CYCLE_STATUS_MISSING 0 0
  let s := (s.disciplineFrame (clampI (-(2 ^ 31 : Int)) (2 ^ 31 - 1) (ps left)) changed).setV .missing 0 0
  if held && s.disc == 1 then s.note Ev.LOCK_LOST 3 1 else s

/-- A SYNC is forwarded with its correction; its first copy may be followed (R631, R637, R638). -/
def State.sync (s : State) (p : Nat) (f : Frame) (st : Stamps) : State :=
  let prio := numAt f.body 1 1
  let no := numAt f.body 4 4
  let uid := numAt f.body 8 8
  if f.src == s.address then
    if f.fcs && s.f Reg.FAB_CYCLE_STATUS_ROLE == 2 then s.ringCopy p no else s
  else
    let (c, s) := if f.fcs then s.classify f.src 5 f.seq p else (s.classOf f.src 5 f.seq, s)
    if c == 2 then s.addF Reg.FAB_SIG_COUNTERS 3
    else
      let delay := divOpen (s.linkDelay p * 12 * 65536 : Nat) 625
      let s := s.forward p f (List.range 4) fun q =>
        let corr : Int := numAt f.body 0x18 8 + delay + (((st.leave.getD q 0 : Nat) : Int) - st.arrive) * 65536
        f.body.take 0x18 ++ le 8 corr
      if !f.fcs then s
      else
        let own := s.f Reg.FAB_CYCLE_CFG_MASTER_PRIO
        let role := s.f Reg.FAB_CYCLE_STATUS_ROLE
        let mine := s.masterUid
        let s := if betterMaster prio uid own s.uid && s.isOpen .master then s.setDue .master 0 (some (s.now + s.masterWait)) else s
        let lapsed := s.vn .masterAt + 8 * s.vn .masterLen * Clk.pulse ≤ s.now
        let take := if role == 2 then betterMaster prio uid own s.uid
          else mine == 0 || uid == mine || lapsed || betterMaster prio uid (s.vn .masterPrio) mine
        if !take then s
        else
          let s := if uid == mine || role == 2 then s.ringCopy p no else s
          if c != 0 then s
          else
            let s := s.addF Reg.FAB_CYCLE_COUNTERS 1
            let s := if role == 2 then
                (s.note Ev.MASTER_CHANGED (uid % 2 ^ 32) (uid / 2 ^ 32)).setDue .master 0 (some (s.now + s.masterWait))
              else s
            let changed := s.vn .lapsedUid != 0 && uid != s.vn .lapsedUid
            let s := (((s.setMaster uid).setV .lapsedUid 0 (uid : Nat)).setV .masterPrio 0 prio).setV .masterLen 0 (numAt f.body 0x10 4 : Nat)
            let s := (s.setV .masterAt 0 (s.now : Nat)).setF Reg.FAB_CYCLE_STATUS_ROLE 0 1
            (s.ringCopy p no).followSync p f st changed

/-- No SYNC of a better master for 8 own cycles: an eligible module becomes master and starts its cycle at the next PULSE cycle (R638,
R639). -/
def execMasterAssumed (s : State) : Host.Outcome State Fault Refusal :=
  done (s.expire .master 0 fun s =>
    if s.f Reg.FAB_CYCLE_CFG_MASTER_PRIO == 255 || s.address == 0x3FE || !s.on .imageApplied || s.f Reg.FAB_CYCLE_STATUS_ROLE == 2 then s
    else
      let s := (((s.setMaster s.uid).setV .lapsedUid 0 (s.uid : Nat)).setF Reg.FAB_CYCLE_STATUS_ROLE 0 2).setOn .cycleZero 0 (!s.on .masterSeen)
      let s := (s.close .missing).setDue .cycle 0 (some ((s.now / Clk.pulse + 1) * Clk.pulse))
      let s := (s.setV .missing 0 0).setF Reg.FAB_CYCLE_STATUS_MISSING 0 0
      (s.setCycleLen (150 * s.f Reg.FAB_CYCLE_CFG_CYCLE_LEN)).disciplineFree.note Ev.MASTER_ASSUMED)

/-! ### Service frames (R616, R646, R647, R649) -/

/-- A service request delivered to this module: a segmented one is answered SEGMENT_ERROR, one whose unused bytes are not zero is
malformed, and so is one with more than 224 bytes of payload. -/
def State.deliverRequest (s : State) (f : Frame) : State :=
  let b := f.body.take f.length
  let service := numAt b 2 1
  let r : Req := { who := if f.src == 0x3FE then .mac f.mac else .fab f.src, trans := numAt b 0 2, auth := none, brs := false }
  let mine := numAt b 8 8 == s.uid
  if b.length < 16 || (f.dst == 0x3FE && (s.address != 0x3FE || !mine)) then s
  else if numAt b 3 1 != 0 then s.answer r service Status.segmentError []
  else if 240 < b.length || numAt b 4 4 != 0 || (f.dst != 0x3FE && numAt b 8 8 != 0) then s.serve r (.malformed service)
  else
    let (c, a) := Svc.parse service (b.drop 16) true
    s.serve { r with auth := a } c

/-- A service frame is delivered locally: a request is served, and a reply is not this module's. -/
def State.deliverService (s : State) (f : Frame) : State := if f.kind == 7 && f.fcs then s.deliverRequest f else s

/-- A service frame under the table of R649. The root sends a frame to 0x3FE or 0x3FF down every branch, the one it came from included, since it
is delivered at every node (R616). -/
def State.service (s : State) (p : Nat) (f : Frame) : State :=
  let up := fun (s : State) (f : Frame) => match s.upPort with
    | some q => if q == p then s else s.sendOn q { f with hops := f.hops + 1 } (!f.fcs)
    | none => s
  let lost := fun (s : State) => if s.isRoot then s.addF Reg.FAB_PORT_COUNTERS p 1 5 else up s f
  if f.src != 0x3FE && f.src == s.address then s
  else if f.dst == 0x3FE || f.dst == 0x3FF then
    if s.isRoot then
      let t := { f with flags := 2 }
      let s := s.each s.downPorts fun s q => s.sendOn q { t with hops := f.hops + 1 } (!f.fcs)
      s.deliverService f
    else up s { f with flags := 1 }
  else if f.src == 0x3FE then
    if f.dst == s.address then s.deliverService f
    else match s.learned f.dst with
      | some q => if s.verified q && q != p then s.sendOn q { f with hops := f.hops + 1 } (!f.fcs) else lost s
      | none => lost s
  else
    let (c, s) := if f.fcs then s.classify f.src f.kind f.seq p else (s.classOf f.src f.kind f.seq, s)
    if c == 2 then s.addF Reg.FAB_SIG_COUNTERS 3
    else if f.dst == s.address then (if c == 0 then s.deliverService f else s)
    else match s.learned f.dst with
      | some q => if s.verified q && q != p then s.forward p f [q] (fun _ => f.body) else s.forward p f (List.range 4) fun _ => f.body
      | none => s.forward p f (List.range 4) fun _ => f.body

end Sys2Proof.Machine
end

