-- ==== Sys2Proof/Machine/Fabric.lean ====
section
/-!
DEFINITION. A fabric frame from its arrival on (R591 to R595, R601, R616, R620): the checks of the port, what is dropped and counted,
what is forwarded, and the commands that are received frames.
-/

namespace Sys2Proof.Machine

/-! ### The checks of a received frame (R591, R593, R598, R611) -/

/-- An address that a frame may not carry: reserved, or broadcast as SRC. -/
def reservedAddress (a : Nat) : Bool := 0x200 ≤ a && a ≤ 0x3FD

/-- The header and the body's form satisfy R593, HCRC apart; a CYCLE frame has a TYPE of Table 18-6 and a body of its kind's table has its
size, and cycle and signal frames do not come from 0x3FE (R616). -/
def frameOk (f : Frame) : Bool :=
  f.version == 1 && f.kind ≤ 8 && f.zeros && f.length ≤ 1484 && f.length ≤ f.body.length && f.hops < 1023 && f.flags < 8 && f.flags % 4 != 3
  && !reservedAddress f.dst && !reservedAddress f.src && f.src != 0x3FF && f.dst < 1024 && f.src < 1024
  && [32, 32, 40, 12, 12, 32, 4, 16, 16].getD f.kind 0 ≤ f.length
  && (f.kind != 5 || (numAt f.body 0 1 ≤ 2 && f.src != 0x3FE))
  && (f.kind != 6 || (signalOk (f.body.take f.length) && f.src != 0x3FE))

/-- Count a frame dropped for HCRC or FCS. -/
def State.portError (s : State) (p j : Nat) : State := (s.addF Reg.FAB_PORT_COUNTERS p 1 j).addV .errDrops p 1

/-- What arrives on a port in UP or VERIFIED: foreign and damaged frames are dropped and counted, and a frame that passes R593 restarts
LINK_TIMEOUT. The Bool says whether the frame goes on; one with a wrong FCS goes on as its copies that are already leaving. -/
def State.portCheck (s : State) (p : Nat) (f : Frame) : Bool × State :=
  let st := s.portState p
  if (st != 2 && st != 3) || s.on .dying then (false, s)
  else
    let s := s.addF Reg.FAB_PORT_COUNTERS p
    if f.ether != s.etherType then (false, s.addF Reg.FAB_PORT_COUNTERS p 1 4)
    else if !f.hcrc then (false, s.portError p 2)
    else if !frameOk f then (false, s.addF Reg.FAB_PORT_COUNTERS p 1 5)
    else
      let s := if s.ended Clk.slow .linkTimeout p then s else s.openSlow .linkTimeout p (ms (s.f Reg.FAB_LINK_LINK_TIMEOUT))
      let s := if f.fcs then s else s.portError p 3
      (f.kind == 0 || st == 3, s)

/-! ### Forwarding by flags and in transit (R595, R601) -/

/-- An UP or TREE frame delivered here: the root's rounds, the refusal of an address, a service request. -/
def State.deliver (s : State) (f : Frame) : State :=
  let b := f.body.take f.length
  if !f.fcs then s
  else match f.kind with
    | 2 => if s.isRoot then s.waggleReply b else s
    | 3 => if s.isRoot then s.rootEarly else s
    | 4 => if numAt b 0 8 == s.uid then s.refuseSelf (numAt b 8 2 % 1024) (numAt b 0xA 1) else s
    | 7 => s.deliverRequest f
    | _ => s

/-- A frame with UP: the root delivers it, another module sends it out of its upstream port, and one without drops and counts it. -/
def State.goUp (s : State) (p : Nat) (f : Frame) : State :=
  if s.isRoot then (if 7 ≤ f.kind then s.service p { f with flags := 0 } else s.deliver f)
  else match s.upPort with
    | some q => if q == p then s else s.sendOn q { f with hops := f.hops + 1 } (!f.fcs)
    | none => s.addF Reg.FAB_COUNTERS 6

/-- A frame with TREE: out of every downstream port, and delivered. -/
def State.goTree (s : State) (p : Nat) (f : Frame) : State :=
  (s.each (s.downPorts.filter (· != p)) fun s q => s.sendOn q { f with hops := f.hops + 1 } (!f.fcs)).deliver f

/-- Any other frame in transit: from the upstream port to every downstream port, and from a downstream port to the upstream port. -/
def State.transit (s : State) (p : Nat) (f : Frame) : State :=
  let s := if f.kind == 7 && (f.dst == 0x3FE || f.dst == 0x3FF) then s.deliver f else s
  let out := if s.upPort == some p then s.downPorts else s.upPort.toList
  s.each (out.filter (· != p)) fun s q => s.sendOn q { f with hops := f.hops + 1 } (!f.fcs)

/-- A service frame to 0x3FE or 0x3FF is recorded for its port alone, which its first copy gives: the tree needs no duplicate discard, since
the frame passes a module once with UP and once with TREE (R595, R616, R649). -/
def State.learnFirst (s : State) (f : Frame) (p : Nat) : State :=
  if f.src == s.address || 0x200 ≤ f.src then s else (s.classify f.src f.kind f.seq p).2

/-- A frame that has passed the checks of its port, other than a WAGGLE. The port of its SRC is learned: with the duplicate state of the
frames that have one, and here for every other frame (R649). -/
def State.handleFrame (s : State) (p : Nat) (f : Frame) (st : Stamps) : State :=
  let type := numAt f.body 0 1
  let toAll := 7 ≤ f.kind && (f.dst == 0x3FE || f.dst == 0x3FF)
  let classified := s.on .imageApplied && f.flags % 4 == 0 && 5 ≤ f.kind && (f.kind != 5 || type == 0) && !toAll
  let s := if !f.fcs || classified then s else if toAll then s.learnFirst f p else s.learn f.src p
  if f.kind == 0 then (if f.fcs then s.linkCheck p f.body else s)
  else if f.kind == 5 && type != 0 then
    (if !f.fcs || !s.on .imageApplied then s else if type == 1 then s.pdelayReq p f st else s.pdelayResp p f st)
  else if f.flags % 2 == 1 then s.goUp p f
  else if f.flags / 2 % 2 == 1 then s.goTree p f
  else if !s.on .imageApplied then s.transit p f
  else if 2 ≤ f.kind && f.kind ≤ 4 then s
  else if f.kind == 5 then s.sync p f st
  else if f.kind == 6 then s.signal p f
  else s.service p f

/-- Several WAGGLEs of one SAMPLE cycle: of the copies of one round only the best counts as received (R606). -/
def State.waggles (s : State) (l : List (Nat × Frame)) : State :=
  let better := fun (a b : Frame) => numAt a.body 0 8 == numAt b.body 0 8 && numAt a.body 0xA 2 == numAt b.body 0xA 2
    && betterPath (numAt a.body 0xE 2) (numAt a.body 0x10 8) (numAt b.body 0xE 2) (numAt b.body 0x10 8)
  let best : List (Nat × Frame) := l.filter fun x => !l.any fun y => better y.2 x.2
  s.each best fun s (x : Nat × Frame) => s.waggle x.1 x.2

/-- The copies of WAGGLEs that arrive together. -/
def State.receiveWaggles (s : State) (l : List (Nat × Frame)) : State :=
  let r : List (Nat × Frame) × State := l.foldl (fun (a : List (Nat × Frame) × State) (x : Nat × Frame) =>
    let c := a.2.portCheck x.1 x.2
    (if c.1 && x.2.fcs then a.1 ++ [x] else a.1, c.2)) ([], s)
  r.2.waggles r.1

/-- A frame arrives on a port. -/
def State.receive (s : State) (p : Nat) (f : Frame) (st : Stamps) : State :=
  if f.kind == 1 then s.receiveWaggles [(p, f)]
  else
    let (go, s) := s.portCheck p f
    if go then s.handleFrame p f st else s

/-! ### The commands -/

/-- A fabric frame is received whole. -/
def execFrameReceived (port : Fin 4) (frame : Frame) (stamps : Stamps) (t : Nat) (s : State) : Host.Outcome State Fault Refusal :=
  done ({ s with now := max s.now t }.receive port.val frame stamps)

/-- A received frame of one kind; a frame of another kind is no such event (log entry 9). -/
def State.receiveKind (s : State) (is : Bool) (port : Fin 4) (f : Frame) (st : Stamps) (t : Nat) : Host.Outcome State Fault Refusal :=
  done (if is then { s with now := max s.now t }.receive port.val f st else s)

/-- A LINK_CHECK is received. -/
def execLinkCheck (port : Fin 4) (frame : Frame) (t : Nat) (s : State) : Host.Outcome State Fault Refusal :=
  s.receiveKind (frame.kind == 0) port frame { arrive := 0, leave := [] } t

/-- WAGGLEs are received, all within one SAMPLE cycle. -/
def execWaggle (copies : List (Fin 4 × Frame)) (t : Nat) (s : State) : Host.Outcome State Fault Refusal :=
  let s : State := { s with now := max s.now t }
  done (s.receiveWaggles ((copies.filter fun x => x.2.kind == 1).map fun x => (x.1.val, x.2)))

/-- A WAGGLE_REPLY is received. -/
def execWaggleReply (port : Fin 4) (frame : Frame) (t : Nat) (s : State) : Host.Outcome State Fault Refusal :=
  s.receiveKind (frame.kind == 2) port frame { arrive := 0, leave := [] } t

/-- A TOPOLOGY frame is received. -/
def execTopology (port : Fin 4) (frame : Frame) (t : Nat) (s : State) : Host.Outcome State Fault Refusal :=
  s.receiveKind (frame.kind == 3) port frame { arrive := 0, leave := [] } t

/-- An ADDRESS_REFUSED frame is received. -/
def execAddressRefused (port : Fin 4) (frame : Frame) (t : Nat) (s : State) : Host.Outcome State Fault Refusal :=
  s.receiveKind (frame.kind == 4) port frame { arrive := 0, leave := [] } t

/-- A SYNC is received. -/
def execSyncReceived (port : Fin 4) (frame : Frame) (stamps : Stamps) (t : Nat) (s : State) : Host.Outcome State Fault Refusal :=
  s.receiveKind (frame.kind == 5 && numAt frame.body 0 1 == 0) port frame stamps t

/-- A PDELAY_REQ is received. -/
def execPdelayReq (port : Fin 4) (frame : Frame) (stamps : Stamps) (t : Nat) (s : State) : Host.Outcome State Fault Refusal :=
  s.receiveKind (frame.kind == 5 && numAt frame.body 0 1 == 1) port frame stamps t

/-- A PDELAY_RESP is received. -/
def execPdelayResp (port : Fin 4) (frame : Frame) (stamps : Stamps) (t : Nat) (s : State) : Host.Outcome State Fault Refusal :=
  s.receiveKind (frame.kind == 5 && numAt frame.body 0 1 == 2) port frame stamps t

/-- A SIGNAL frame is received. -/
def execSignal (port : Fin 4) (frame : Frame) (t : Nat) (s : State) : Host.Outcome State Fault Refusal :=
  s.receiveKind (frame.kind == 6) port frame { arrive := 0, leave := [] } t

/-- A service request is received. -/
def execServiceReq (port : Fin 4) (frame : Frame) (t : Nat) (s : State) : Host.Outcome State Fault Refusal :=
  s.receiveKind (frame.kind == 7) port frame { arrive := 0, leave := [] } t

end Sys2Proof.Machine
end

