-- ==== Sys2Proof/Machine/Restart.lean ====
section
/-!
DEFINITION. The ends of what the supervisor cores do over time (chapter 15): warm restarts of pair S, restarts of pair V, SPLIT_V and
JOIN_V.
-/

namespace Sys2Proof.Machine

/-! ### Warm restart of pair S (Table 15-1, R543 to R548) -/

/-- Step 5: the reactions that waited are carried out once, as if their faults had fallen in one LOOP cycle (R545). -/
def State.carryDeferred (s : State) : State :=
  let l := s.deferred
  { s with deferred := [] }.carryAll l

/-- Step 6: the requests held by pair V are delivered in order of arrival (R544). -/
def State.deliverHeld (s : State) : State :=
  let l := s.held
  { s with held := [] }.each l fun s x => s.carryReq x.1 x.2

/-- The warm restart completes: `levels` is the first sample of the request pairs in step 5, whose requests act ahead of everything
else (R493); with `lost`, a block of the protected state area has failed its CRC (R546). -/
def State.warmDone (s : State) (lost : Bool) (levels : BitVec 10) : State :=
  if s.f Reg.CORE_STATUS_S_STATE != 1 then s
  else
    let dur := divOpen ((s.now : Int) - s.v .sRestartAt) Clk.slow
    let s := (s.setF Reg.CORE_LAST_S_B 0 dur).addF Reg.CORE_COUNTERS 2
    let s := (s.setF Reg.CORE_STATUS_S_STATE 0 0).setFb Reg.CORE_STATUS_INJECT_OK 0 true
    let s := (((s.setOn .stoAfter 0 true).samplePairs levels).brakeSync).carryDeferred
    let s := if s.on .sToSafe then (s.setV .sToSafe 0 0).moduleSafe (s.vn .sToSafe) else s
    let s := if lost then s.raise { code := Ev.STATE_LOST, reaction := 7, nextStart := true } else s
    let s := (s.clearCause Ev.S_MISMATCH).clearCause Ev.S_WATCHDOG
    let s := (s.releaseHold .restart).setFb Reg.CORE_STATUS_RESTART_HOLD 0 false
    s.deliverHeld.note Ev.WARM_RESTART_DONE (wrap 32 dur)

def execWarmRestartDone (lost : Bool) (levels : BitVec 10) (t : Nat) (s : State) : Host.Outcome State Fault Refusal :=
  done ({ s with now := max s.now t }.warmDone lost levels)

/-! ### Pair V (R550, R551, R554 to R557) -/

/-- The hand-over has ended: queued requests are served in order of arrival (R554). -/
def State.serveQueue (s : State) : State :=
  if s.handCmd.isSome then s
  else
    let l := s.handQueue
    { s with handQueue := [] }.each l fun s x => s.serveReady x.1 x.2

/-- Pair V, V0 or V1 resumes: queued reports drain, and requests that a broken hand-over left are served. -/
def execVRestartDone (core : Fin 2) (t : Nat) (s : State) : Host.Outcome State Fault Refusal :=
  let c := core.val
  done (if s.f (vState c) == 1 then
    let s := { s with now := max s.now t }.setF (vState c) 0 0
    let s := ((s.clearCause Ev.V_MISMATCH c).clearCause Ev.V_WATCHDOG c).note Ev.V_RESTART_DONE c
    s.drained.serveQueue
  else s)

/-- A hand-over ends: the command is answered, and the queue is served. -/
def State.handEnd (s : State) (r : Req) (c : Svc) (x : Res) : State :=
  let s := { s with handCmd := none }
  let s := (s.setF Reg.CORE_STATUS_V0_STATE 0 0).setF Reg.CORE_STATUS_V1_STATE 0 0
  let s := match c with
    | .command k => s.answerCmd r k x []
    | _ => s
  s.serveQueue

/-- SPLIT_V ends; when the requests in progress have not completed in time it is refused as busy, and pair V stays in LOCKSTEP. -/
def State.splitDone (s : State) (completed : Bool) : State := match s.handCmd with
  | some (r, .command .splitV) =>
    if !completed then s.handEnd r (.command .splitV) (Res.of Result.busy)
    else
      let s := (s.setF Reg.CORE_STATUS_V_MODE 0 1).addF Reg.CORE_COUNTERS 5
      (s.noteLasting Ev.V_SPLIT 0).handEnd r (.command .splitV) Res.ok
  | _ => s

def execSplitVDone (completed : Bool) (t : Nat) (s : State) : Host.Outcome State Fault Refusal :=
  done ({ s with now := max s.now t }.splitDone completed)

/-- JOIN_V ends: in lock-step, or in SPLIT when the injection test of pair V's lanes fails, which bars JOIN_V until the next start; the
command is then answered as failed. -/
def State.joinDone (s : State) (completed pass : Bool) : State := match s.handCmd with
  | some (r, .command .joinV) =>
    if !completed then s.handEnd r (.command .joinV) (Res.of Result.busy)
    else if pass then
      let s := ((s.setF Reg.CORE_STATUS_V_MODE 0 0).addF Reg.CORE_COUNTERS 6).setFb Reg.CORE_STATUS_INJECT_OK 0 true
      ((s.noteEnds Ev.V_SPLIT).note Ev.V_JOINED).handEnd r (.command .joinV) Res.ok
    else
      let s := ((s.setOn .joinBarred 0 true).addF Reg.CORE_COUNTERS 7).setFb Reg.CORE_STATUS_INJECT_OK 0 false
      (s.noteUntilStart Ev.JOIN_FAILED 0).handEnd r (.command .joinV) (Res.cond 2)
  | _ => s

def execJoinVDone (completed pass : Bool) (t : Nat) (s : State) : Host.Outcome State Fault Refusal :=
  done ({ s with now := max s.now t }.joinDone completed pass)

end Sys2Proof.Machine
end

