-- ==== Sys2Proof/Machine/Start.lean ====
section
/-!
DEFINITION. Power, start-up, sleep and ship (chapter 2, Table 1-5): what survives the loss of power, the steps of Table 2-7 with the
checks of Table 2-5, and the run-time key check.
-/

namespace Sys2Proof.Machine

/-! ### What survives (R190, R418, R513, R566, R710) -/

/-- A parameter word kept in MRAM over the loss of power, or in SLEEP a word that the wake detectors need. -/
def keptWord (asleep : Bool) (key : Nat) : Bool :=
  key == Reg.ID_STARTS.key 0 || (Reg.TH_SHUT_COUNT.key 0 ≤ key && key < Reg.TH_SHUT_COUNT.key 0 + 256)
  || (0x152000 ≤ key && key ≤ 0x152600) || (0x162000 ≤ key && key ≤ 0x162300)
  || (asleep && (key == Reg.START_WAKE_SOURCES_CAN_WAKE.key 0 || [0, 1, 2, 3].any fun p => key == Reg.FAB_PORT_CFG_ENABLE.key p))

/-- An internal quantity kept over the loss of power: MRAM contents, pin levels and the two clocks of unpowered time. -/
def keptVar (key : Nat) : Bool :=
  [Var.thLatch, .thLatchAt, .pinRaw, .brkSince, .poweredBase, .challengeNo, .wakeHigh, .wakeAt, .hwReq, .offAt].any fun x =>
    x.key 0 ≤ key && key < x.key 0 + 65536

/-- A module without state but for what survives; the failed brakes keep their flag. -/
def State.fresh (s : State) (m : ModState) : State :=
  let asleep : Bool := m == .sleep
  let t : State := { State.reset with
    now := s.now, log := s.log, keyMem := s.keyMem, out := s.out, free := s.free, pending := s.pending, module := m,
    regs := s.regs.filter fun e => keptWord asleep e.1, vars := s.vars.filter fun e => keptVar e.1 }
  let t := t.setOn .clearCut 0 (s.on .clearing || s.on .clearCut)
  t.each [0, 1] fun t k => t.setFb Reg.SAFE_BRK_STATUS_FAILED k (s.fb Reg.SAFE_BRK_STATUS_FAILED k)

/-- The whole report queue is written to MRAM (R91, R572); what a full log cannot take is lost to it, and what waits for a clear that the loss
of power interrupts is never written (R586). -/
def State.writeQueue (s : State) : State :=
  let l := if s.on .clearing then [] else s.queue
  { s with queue := [] }.each l fun s r =>
    if s.on .logFull then { s with log := { s.log with lostFull := s.log.lostFull + 1 } } else (s.append r).fillCheck

/-- The powered time of this start joins the powered time of the module (R710). -/
def State.countPowered (s : State) : State := s.addV .poweredBase 0 ((s.now : Int) - s.v .startAt)

/-- The control domain loses its power. -/
def State.powerEnd (s : State) (m : ModState) : State :=
  ((s.writeQueue).countPowered.fresh m).setV .offAt 0 (s.now + 1 : Nat)

/-- Time without power does not count towards the hours of the brakes (R513). -/
def State.skipUnpowered (s : State) : State :=
  let gap := (s.now : Int) - (s.v .offAt - 1 |> max 0)
  (s.each [0, 1] fun s k => s.addV .brkSince k gap).setV .offAt 0 0

/-! ### The begin of a start (R79, R83, R93, R94, R105, R513, R695) -/

/-- The latches that survive show again: SHUT of the thermal sources and the failed brakes. -/
def State.restoreLatches (s : State) : State :=
  let s := s.each ((List.range 52).filter fun n => s.on .thLatch n) fun s n =>
    (s.setFb Reg.TH_S_STATUS_SHUT n true).setCause Ev.TH_SHUTDOWN n false
  s.each ([0, 1].filter fun k => s.fb Reg.SAFE_BRK_STATUS_FAILED k) fun s k => s.setCause Ev.BRAKE_TEST_FAILED k false

/-- The safety functions at the begin of a start: every pair shows its request until two samples show its release, and the
hard-wired paths show their own state. -/
def State.safetyBegin (s : State) : State :=
  let s := s.each (List.range 5) fun s i => (s.setOn .stoState i true).setOn .stoSample i true
  let s := (s.setF Reg.SAFE_STATUS_STO_REQ 0 15).setFb Reg.SAFE_STATUS_SBC_REQ 0 true
  let hw : Nat := ((List.range 4).filter fun g => !s.on .hwReq g).foldl (fun a g => a + 2 ^ g) 0
  let s := (s.setF Reg.SAFE_STATUS_EN_HW 0 hw).openSlow .safety 0 (us 100)
  (s.openSlow .cfbCheck 0 (ms 1)).each (List.range 4) fun s g => (s.setV .stoLast g (s.now : Nat)).openSlow .stoDue g (sec 86400)

/-- A start begins at step 1 of Table 2-7, from VAUX valid (source 0), a wake (1 to 3) or RESTART (4), through which gate supplies that are on
stay on (R358). -/
def State.begin (s : State) (source unit : Nat) : State :=
  let woken := s.module == .sleep || s.module == .ship
  let supplied := (List.range 64).filter fun c => s.powered && s.fb Reg.CH_STATUS_SUPPLY_ON c
  let s := if s.powered then s.writeQueue.countPowered else s.skipUnpowered
  let s := (s.fresh .starting).addF Reg.ID_STARTS 0
  let s := ((s.setV .startAt 0 (s.now : Nat)).setV .startStep 0 1).setV .offAt 0 0
  let s := (s.setF Reg.START_WAKE_CAUSE_SOURCE 0 source).setF Reg.START_WAKE_CAUSE_UNIT 0 unit
  let s := (s.setF Reg.START_KEY_STATUS_SLOT 0 3).setF Reg.START_KEY_STATUS_READ_MODE 0 3
  let s := (s.setF Reg.START_TIMES_VERIFIED_AT 0 0xFFFF).setF Reg.START_TIMES_READY_AT 0 0xFFFF
  let s := (s.restoreLatches.safetyBegin).each supplied fun s c => s.setFb Reg.CH_STATUS_SUPPLY_ON c true
  if woken then s.note Ev.WAKE source unit else s

/-- VAUX has become valid (R79). -/
def execVauxValid (t : Nat) (s : State) : Host.Outcome State Fault Refusal :=
  let s := { s with now := max s.now t }
  done (if s.module == .off then s.begin 0 0 else s)

/-- A wake event of a source and unit: it ends SHIP or SLEEP, and is latched during an entry sequence (R93 to R95). -/
def State.wakeUp (s : State) (source unit : Nat) : State :=
  if s.module == .sleep || s.module == .ship then s.begin source unit
  else if s.on .entering && !s.on .wakeLatched then s.setV .wakeLatched 0 (source + 1 + 16 * unit : Nat)
  else s

/-- A rising edge after which WAKE has stayed high for 1 ms. -/
def execWake (t : Nat) (s : State) : Host.Outcome State Fault Refusal :=
  done ((({ s with now := max s.now t }.setOn .wakeHigh 0 true).setV .wakeAt 0 (max s.now t + 1 : Nat)).wakeUp 1 0)

/-- The wake-up pattern on a CAN channel: it wakes from SLEEP alone, on a channel enabled in START.WAKE_SOURCES (R94). -/
def execCanWakePattern (channel : Fin 4) (t : Nat) (s : State) : Host.Outcome State Fault Refusal :=
  let s := { s with now := max s.now t }
  let ch := channel.val
  done (if (s.f Reg.START_WAKE_SOURCES_CAN_WAKE).testBit ch && s.module != .ship && s.vn .entering != 2 then s.wakeUp 2 ch else s)

/-- A differential signal on the MDI of a fabric port: as a CAN pattern, on an enabled port. -/
def execFabricWakeSignal (port : Fin 4) (t : Nat) (s : State) : Host.Outcome State Fault Refusal :=
  let s := { s with now := max s.now t }
  let p := port.val
  done (if (s.f Reg.START_WAKE_SOURCES_FABRIC_WAKE).testBit p && s.fb Reg.FAB_PORT_CFG_ENABLE p && s.module != .ship
      && s.vn .entering != 2 then s.wakeUp 3 p else s)

/-! ### Loss of VAUX (R572, R731) -/

/-- VAUX has become invalid: a KEY_WRITE fails (with FAIL 0xC, since Table 2-13 names no code for it: DESIGN CHOICE, log entry 162),
VAUX_LOST takes the tail of the queue whatever its fill, and serving ends. -/
def State.vauxLost (s : State) : State :=
  if s.on .dying then s
  else if s.module == .sleep || s.module == .ship then s.fresh .off
  else if !s.powered then s
  else
    let s := if s.keyBusy then s.keyFail 0xC else s
    let r := s.mkRec { code := Ev.VAUX_LOST }
    (({ s with queue := s.queue ++ [r] }.markSeen Ev.VAUX_LOST).setOn .dying 0 true).setV .dyingAt 0 (s.now : Nat)

def execVauxInvalid (t : Nat) (s : State) : Host.Outcome State Fault Refusal := done ({ s with now := max s.now t }.vauxLost)

/-- The hold-up sequence ends, 2.9 ms after VAUX became invalid or later (R731): the queue is written and the module is OFF. -/
def execHoldupEnd (t : Nat) (s : State) : Host.Outcome State Fault Refusal :=
  let s := { s with now := max (max s.now t) (if s.on .dying then s.vn .dyingAt + us 2900 else 0) }
  done (if s.on .dying then s.powerEnd .off else s)

/-! ### Sleep and ship (R91 to R96) -/

/-- The sleep idle window expires in READY with every stage STOPPED. -/
def execSleepIdleExpired (s : State) : Host.Outcome State Fault Refusal :=
  done (s.expire .sleepIdle 0 fun s =>
    if s.module == .ready && s.allStopped && !s.keyBusy && !s.on .entering then s.setV .entering 0 1 else s)

/-- An entry sequence completes: its record is written and power goes from everything but the wake detectors; a latched wake leads to
STARTING at once. -/
def State.lowPower (s : State) (kind : Nat) (m : ModState) (code : Nat) : State :=
  if s.vn .entering != kind || s.module != .ready then s
  else
    let w := s.vn .wakeLatched
    let s := (s.note code).powerEnd m
    if w == 0 then s else s.begin (w % 16 - 1) (w / 16)

def execSleepEntered (t : Nat) (s : State) : Host.Outcome State Fault Refusal :=
  done ({ s with now := max s.now t }.lowPower 1 .sleep Ev.SLEEP_ENTERED)

def execShipEntered (t : Nat) (s : State) : Host.Outcome State Fault Refusal :=
  done ({ s with now := max s.now t }.lowPower 2 .ship Ev.SHIP_ENTERED)

/-- A RESTART begins: its reply has left, or 10 ms have passed since the decision. It begins from UNCONFIGURED, SAFE, READY and SERVICE
(Table 1-5). -/
def execRestartBegin (t : Nat) (s : State) : Host.Outcome State Fault Refusal :=
  done (if s.on .restarting && (s.module == .unconfigured || s.module == .safe || s.module == .ready || s.module == .service) then
    let e := match s.due .restartBy with
      | some e => min t e
      | none => t
    { s with now := max s.now e }.begin 4 0
  else s)

/-! ### Step 1 (R77, R106, R539, R570) -/

/-- The event of Table 2-15 for a cause of Table 2-5. -/
def startEvent (cause : Nat) : Nat :=
  [0, Ev.KEY_ABSENT, Ev.KEY_UNSUPPORTED, Ev.HEADER_INVALID, Ev.IMAGE_INCOMPATIBLE, Ev.SECTION_CRC, Ev.SIGNATURE_INVALID,
   Ev.CONTENT_INVALID, Ev.INJECTION_TEST_FAIL, Ev.MEMORY_TEST].getD cause 0

/-- The start ends in UNCONFIGURED: one record, the cause, the CAN channels off the bus, the fabric ports trained (R90). -/
def State.startFail (s : State) (cause detail : Nat) : State :=
  let trained := s.vn .startStep != 1
  let s := (s.note (startEvent cause) detail).setF Reg.START_KEY_STATUS_CAUSE 0 cause
  let s : State := { s.setV .moduleEvent 0 (startEvent cause) with module := .unconfigured }
  let s := (s.setV .startStep 0 0).canOff
  if trained then s else s.fabTrain

/-- The PLL has locked: the SAMPLE cycles count from the first common SLOW edge after it (R136). -/
def State.pllLocked (s : State) : State :=
  let s := (s.setFb Reg.CLK_STATUS_PLL_LOCK 0 true).setV .sampleWas 0 (s.v .sampleBase)
  s.setV .sampleBase 0 ((s.now / Clk.slow + 1) * (Clk.slow / Clk.sample) : Nat)

/-- The checks that end with step 1 are decided in the order of Table 2-5, once the two tests and then the key findings are there. While
steps 1 to 5 of Table 2-7 overlap, the step shown is 1 until step 6 begins: the spec names none (DESIGN CHOICE, log entry 53). Table 2-7
gives the lock of the PLL no instant within step 1: it locks here, which fixes the base of R136 (DESIGN CHOICE, log entry 199). After a
CLOCK_COUNT it locks all the same, and not after XTAL_FAIL or PLL_UNLOCK. -/
def State.startDecide (s : State) : State :=
  if s.module != .starting || s.vn .startStep != 1 || s.vn .injectOk == 0 || s.vn .memoryOk == 0 then s
  else if s.vn .injectOk == 2 then s.startFail 8 0
  else if s.vn .memoryOk == 2 then s.startFail 9 0
  else if !s.on .logBuilt || s.vn .keyFound == 0 then s
  else if 2 ≤ s.vn .keyFound then s.startFail (s.vn .keyFound - 2) 0
  else
    let s := if s.fb Reg.CLK_STATUS_XTAL_FAIL || s.fb Reg.CLK_STATUS_PLL_FAIL then s else s.pllLocked
    (s.setV .startStep 0 6).fabTrain

/-- The injection test of both pairs in step 1, or of pair S in a warm restart, has ended. -/
def execInjectionTestDone (pass : Bool) (t : Nat) (s : State) : Host.Outcome State Fault Refusal :=
  let s := { s with now := max s.now t }
  done (if s.module == .starting && s.vn .startStep == 1 && s.vn .injectOk == 0 then
    ((s.setV .injectOk 0 (if pass then 1 else 2)).setFb Reg.CORE_STATUS_INJECT_OK 0 pass).startDecide
  else if pass then (if s.f Reg.CORE_STATUS_S_STATE == 1 then s.setFb Reg.CORE_STATUS_INJECT_OK 0 true else s)
  else s.restartFails)

/-- The SRAM march test and the MRAM management-area check have ended; the scrubber runs from then on (log entry 167). -/
def execMemoryTestDone (pass : Bool) (t : Nat) (s : State) : Host.Outcome State Fault Refusal :=
  let s := { s with now := max s.now t }
  done (if s.module == .starting && s.vn .startStep == 1 && s.vn .memoryOk == 0 then
    ((s.setV .memoryOk 0 (if pass then 1 else 2)).openSlow .scrub 0 (us 1)).startDecide
  else s)

/-- The recorder rebuilds its state from MRAM after the memory test, also when the start has ended in UNCONFIGURED, so that the records held
until then are written (R106). `damage` gives the bytes of the slots that hold other bytes than were written. -/
def execLogRebuild (damage : List (Nat × List Byte)) (copyA copyB : MgmtCopy) (t : Nat) (s : State) : Host.Outcome State Fault Refusal :=
  let s := { s with now := max s.now t }
  done (if (s.module == .unconfigured || (s.module == .starting && s.vn .startStep == 1)) && s.vn .memoryOk != 0 && !s.on .logBuilt then
    ((s.rebuild damage copyA copyB).setOn .logBuilt 0 true).startDecide
  else s)

/-! ### Step 2 (R60 to R66, R77, R85, R86) -/

/-- The slot a start takes: the valid header of higher GENERATION, slot A when they are equal (R66); none without a valid header. -/
def State.chosenSlot (s : State) : Option Nat :=
  let a := s.keyBytes (slotBase 0) 512
  let b := s.keyBytes (slotBase 1) 512
  if headerOk a && headerOk b then some (if hdrGeneration a < hdrGeneration b then 1 else 0)
  else if headerOk a then some 0 else if headerOk b then some 1 else none

/-- EARLY_CAN of the selected slot: applied when its CRC is good, reported when it fails, nothing when there is none. -/
def State.earlyRead (s : State) (slot : Nat) : State :=
  match (directory s.header).find? fun e => e.type == 1 with
  | none => s
  | some e =>
    let b := s.keyBytes (slotBase slot + e.offset) e.size
    if e.offset == 512 && e.size == 512 && crc32 b == e.crc then
      let s := ({ s with early := b }).setFb Reg.START_KEY_STATUS_EARLY_CAN 0 true
      s.each ([0, 1, 2, 3].filter s.earlyOn) fun s ch => s.setF Reg.CAN_STATUS_STATE ch 1
    else s.noteLasting Ev.EARLY_CAN_INVALID 0

/-- The read mode that R62 takes from the SFDP table: 2 for 1-1-4, 1 for 1-1-2, 0 for 1-1-1. -/
def readMode (o : KeyObs) : Nat := if o.fast114 && o.quad != some false then 2 else if o.fast112 then 1 else 0

/-- The key findings. The field CAPACITY has 8 bits; the spec does not say what it shows for a key above 255 Mbit, which R64 calls
unsupported: it shows 255 (DESIGN CHOICE, log entry 161). -/
def State.keyRead (s : State) (o : KeyObs) : State :=
  let s := match o.contents with
    | none => s
    | some l => ({ s with keyMem := [] }).each l fun s x => s.keyPut x.1 x.2
  let s := { s with keyObs := { o with contents := none } }
  if o.jedec % 2 ^ 24 == 0 || o.jedec % 2 ^ 24 == 0xFFFFFF then s.setV .keyFound 0 3
  else
    let s := (s.setF Reg.START_KEY_STATUS_CAPACITY 0 (min o.capacity 255 : Nat)).setFb Reg.START_KEY_STATUS_PROTECTED 0 o.blocked
    if o.sfdp != 0x50444653 || o.capacity < 16 || 128 < o.capacity then s.setV .keyFound 0 4
    else
      let s := s.setF Reg.START_KEY_STATUS_READ_MODE 0 (readMode o)
      let s := s.setFb Reg.START_KEY_STATUS_SLOT_A_HDR 0 (headerOk (s.keyBytes (slotBase 0) 512))
      let s := s.setFb Reg.START_KEY_STATUS_SLOT_B_HDR 0 (headerOk (s.keyBytes (slotBase 1) 512))
      match s.chosenSlot with
      | none => s.setV .keyFound 0 5
      | some slot =>
        let s := { s with header := s.keyBytes (slotBase slot) 512 }
        ((s.setF Reg.START_KEY_STATUS_SLOT 0 slot).earlyRead slot).setV .keyFound 0 1

/-- The key ID, the SFDP table, both headers and EARLY_CAN have been read. -/
def execKeyReadDone (key : KeyObs) (t : Nat) (s : State) : Host.Outcome State Fault Refusal :=
  let s := { s with now := max s.now t }
  done (if s.module == .starting && s.vn .startStep == 1 && s.vn .keyFound == 0 then (s.keyRead key).startDecide else s)

/-! ### Step 6 (R67, R78, R81) -/

/-- Time since the begin of the start in units of 0.1 ms; 0xFFFF says that it was not reached. -/
def State.sinceStart (s : State) : Nat := (min 0xFFFE (divOpen ((s.now : Int) - s.v .startAt) (us 100 : Nat))).toNat

/-- The image has been read and checked under steps 3 to 7 of Table 2-5. Sections that pass on their second read are reported by one
SECTION_REREAD, which names none of them: Table 2-15 does not say whether each raises its own (DESIGN CHOICE, log entry 208). -/
def State.imageVerified (s : State) (bad1 bad2 : List Nat) : State :=
  let img := s.keyBytes (slotBase (s.f Reg.START_KEY_STATUS_SLOT)) (hdrLength s.header)
  let v := s.verdict img bad1 bad2
  let s := if v.reread || v.cause == 5 then s.setFb Reg.START_KEY_STATUS_REREAD 0 true else s
  let s := if v.reread then s.note Ev.SECTION_REREAD else s
  if v.cause != 0 then s.startFail v.cause v.detail
  else
    let s := s.setF Reg.START_TIMES_VERIFIED_AT 0 s.sinceStart
    { s with image := sectionsOf img }.setV .startStep 0 7

/-- `bad1` and `bad2` name the directory entries whose first and second read did not arrive as the key holds them. -/
def execImageVerified (bad1 bad2 : List Nat) (t : Nat) (s : State) : Host.Outcome State Fault Refusal :=
  let s := { s with now := max s.now t }
  done (if s.module == .starting && s.vn .startStep == 6 then s.imageVerified bad1 bad2 else s)

/-! ### Steps 7 and 8 (R80, R82, R352, R358, R359, R499) -/

/-- The gate-supply groups: the enabled isolated legs two at a time in leg order, the enabled legs of X1 and X2 with the first. -/
def State.supplyGroups (s : State) : List (List Nat) :=
  let on := fun n => s.fb Reg.LEG_CFG_ENABLE n
  let low := ((List.range 6).map (26 + ·)).filter on
  let pairs := ((List.range 26).filter on).toChunks 2
  match pairs with
  | [] => if low.isEmpty then [] else [low]
  | p :: rest => (p ++ low) :: rest

/-- A group of supplies is switched on; its rails and channels are checked within 16 ms. -/
def State.supplyOn (s : State) (g : Nat) : State := match s.supplyGroups[g]? with
  | none => s.setOn .supplyDone 0 true
  | some l =>
    let s := s.each (l.flatMap fun n => [2 * n, 2 * n + 1]) fun s c => s.setFb Reg.CH_STATUS_SUPPLY_ON c true
    (s.setV .supplyGroup 0 g).openSlow .supplyStep 0 (ms 16)

/-- START_FAIL of a channel latches on its stage until the next start (R359). -/
def State.supplyFail (s : State) (c : Nat) : State :=
  let t := Stage.ofLeg (c / 2)
  let s := s.setFb Reg.CH_STATUS_START_FAIL c true
  let s := s.setF Reg.GD_STATUS_START_FAIL 0 (s.f Reg.GD_STATUS_START_FAIL ||| 2 ^ t.idx : Nat)
  s.raise { code := Ev.START_FAIL, inst := t.idx, src := t.idx, d0 := c, nextStart := true }

/-- A channel passes (R359): its rails stood above their release thresholds within the 16 ms of its group, its link answers, and the test pulse
is read back as on and then as off, each within RB_TOL of the channel's read-back delay. -/
def State.testPasses (s : State) (x : ChTest) : Bool :=
  let near (o : Option Nat) : Bool := match o with
    | none => false
    | some d => d ≤ Config.readbackDelay x.ch.val + s.f Reg.FO_CFG_RB_TOL && Config.readbackDelay x.ch.val ≤ d + s.f Reg.FO_CFG_RB_TOL
  x.rails && x.link && near x.on && near x.off

/-- The checks of a group end: the failed channels latch, and the next group starts; the supply part ends 8 ms after the last, in which the
self-tests of the last channels end (R82). A channel of an earlier group whose self-test ends late may fail there too. -/
def State.supplyChecked (s : State) (tests : List ChTest) : State :=
  let g := s.vn .supplyGroup
  let begun := (s.supplyGroups.take (g + 1)).flatten.flatMap fun n => [2 * n, 2 * n + 1]
  let bad := begun.filter fun c => (tests.any fun x => x.ch.val == c && !s.testPasses x) && !s.fb Reg.CH_STATUS_START_FAIL c
  let s := s.each bad State.supplyFail
  match s.supplyGroups[g]? with
  | none => s.setOn .supplyDone 0 true
  | some l =>
    let chans := l.flatMap fun n => [2 * n, 2 * n + 1]
    let low := chans.filter fun c => !isolated c
    let s := s.each (chans.filter fun c => !bad.contains c) fun s c => s.setFb Reg.CH_STATUS_LINK_OK c true
    let s := if low.any fun c => !bad.contains c then s.setFb Reg.GD_STATUS_LV_RAIL_OK 0 true else s
    if g + 1 < s.supplyGroups.length then s.supplyOn (g + 1)
    else (s.setV .supplyGroup 0 (g + 1 : Nat)).openSlow .supplyStep 0 (ms 8)

/-- The rails and self-tests of the present group are decided, or the last 8 ms of the supply part have passed. -/
def execGateSupplyGroup (tests : List ChTest) (s : State) : Host.Outcome State Fault Refusal :=
  done (s.expire .supplyStep 0 fun s => s.supplyChecked tests)

/-- Step 7 on the module's own parameters: the image's, and what START shows of it. -/
def State.applyImage (s : State) : State :=
  let h := s.header
  let s := s.configure s.image
  let s := s.each ((List.range 64).filter fun c => !s.fb Reg.LEG_CFG_ENABLE (c / 2)) fun s c => s.setFb Reg.CH_STATUS_SUPPLY_ON c false
  let s := (s.setF Reg.START_IMAGE_GEN 0 (hdrGeneration h)).setF Reg.START_IMAGE_ID 0 (numAt h 0x10 4)
  let s := (s.setF Reg.START_IMAGE_CRC 0 (hdrCrc h)).setF Reg.START_MACHINE_TYPE 0 (numAt h 0x14 4)
  let s := s.setF Reg.CORE_STATUS_V_MODE 0 (if (hdrFlags h).testBit 0 then 2 else 0)
  (s.setOn .imageApplied 0 true).pendingSync

/-- What runs from the configuration on: engine timers, feedback, charger monitor, budgets, CAN, fabric, recorder, sequencers. -/
def State.unitsBegin (s : State) : State :=
  let s := s.slotTimers.fbStart.chgBegin.budgetShow
  let s := ((s.each [0, 1, 2, 3] State.canApply).each [0, 1] State.brakeDueWindow).fillCheck.fabApply
  let a := divUp s.now Clk.sample
  let s := s.each (List.range 32) fun s i => s.setV .substBase i (a * Clk.sample : Nat)
  let s := s.each [0, 1, 2, 3] fun s c => (s.rotationBegin c).when (s.f Reg.SMP_CORE_CFG_TABLE_LEN c != 0) fun s => s.seqStart c 0 a
  s.openSlow .hkRound 0 (us (100 * s.f Reg.HK_CFG_PERIOD))

/-- Step 8 begins: the self-tests of both engines, the STO tests of the groups, the first gate supplies. -/
def State.testsBegin (s : State) : State :=
  let s := s.each [0, 1] fun s e => ((s.setEng e 2).setV .testRes e 0).openBy Clk.pulse .selfTest e (ms 20)
  ((s.each (List.range 4) State.stoTestStart).setV .startStep 0 8).supplyOn 0

def execImageApplied (t : Nat) (s : State) : Host.Outcome State Fault Refusal :=
  let s := { s with now := max s.now t }
  done (if s.module == .starting && s.vn .startStep == 7 then s.applyImage.unitsBegin.testsBegin else s)

/-! ### READY (R80, R82, R87, R97) -/

/-- Every activity of step 8 has ended: the supply part, the self-tests of both engines, the STO tests, and those whose end the command
tells, since the spec gives it neither an instant nor a criterion (R82; log entry 163). -/
def State.step8Ended (s : State) (o : StepEight) : Bool :=
  s.module == .starting && s.vn .startStep == 8 && o.rotation && o.delayLines && o.wireChecks && s.on .supplyDone && s.vn .testRes 0 != 0 && s.vn .testRes 1 != 0
  && !s.isOpen .syncCopy && !s.isOpen .qualify && !(List.range 4).any fun g => s.on .stoTest g

/-- The delay lines have been calibrated, to a span that the spec does not give, and the read-back delays measured (R82, R334). -/
def State.dllReady (s : State) : State :=
  let s := s.each (List.range 64) fun s c => s.setF Reg.FO_RB_DELAY c (Config.readbackDelay c)
  if s.fb Reg.PULSE_DLL_FALLBACK then s
  else
    let (span, s) := s.takeFree
    (s.setFb Reg.PULSE_DLL_LOCKED 0 true).setF Reg.PULSE_DLL_SPAN 0 span

/-- The module enters READY: enables, pending safety reactions, CAN frames and claims, the key check. -/
def State.ready (s : State) : State :=
  let s : State := { (s.setV .startStep 0 0).setV .moduleEvent 0 Ev.READY_REACHED with module := .ready, denials := [] }
  let s := (s.setF Reg.START_TIMES_READY_AT 0 s.sinceStart).note Ev.READY_REACHED
  let s := (s.setFb Reg.GD_STATUS_STARTED 0 true).dllReady
  let s := ((s.each (List.range 4) State.enableSync).safetyReady).canReady
  if s.f Reg.START_KEY_CHECK_PERIOD == 0 then s else s.openSlow .keyCheck 0 (sec (s.f Reg.START_KEY_CHECK_PERIOD))

def execReadyReached (others : StepEight) (t : Nat) (s : State) : Host.Outcome State Fault Refusal :=
  let s := { s with now := max s.now t }
  done (if s.step8Ended others then s.ready else s)

/-- The first check of a start that differs sets KEY_CHANGED and carries the reaction out (R98). -/
def State.keyChanged (s : State) : State :=
  if s.fb Reg.START_KEY_STATUS_KEY_CHANGED then s
  else
    (s.setFb Reg.START_KEY_STATUS_KEY_CHANGED 0 true).raise
      { code := Ev.KEY_CHANGED, reaction := s.f Reg.START_KEY_CHECK_REACTION, stages := Stage.all, lasting := true, nextStart := true }

/-- What the key answers at a check, its JEDEC ID and the header of the running slot, differs from the copies taken at start, or it does not
answer (R97, R98). -/
def State.keyDiffers (s : State) (found : Option (Nat × List Byte)) : Bool := match found with
  | none => true
  | some (id, h) => id % 2 ^ 24 != s.keyObs.jedec % 2 ^ 24 || h != s.header

/-- A period of the run-time key check ends: a check is made in READY, RUN, SERVICE and SAFE and not while KEY_WRITE runs (R97). -/
def execKeyCheckPeriod (found : Option (Nat × List Byte)) (s : State) : Host.Outcome State Fault Refusal :=
  done (s.expire .keyCheck 0 fun s =>
    let s := s.openSlow .keyCheck 0 (sec (s.f Reg.START_KEY_CHECK_PERIOD))
    if (5 ≤ s.module.code) && !s.keyBusy && s.keyDiffers found then s.keyChanged else s)

/-! ### The backup oscillator (R120, R121) -/

/-- The PLL has locked to the backup oscillator: CAN in restricted operation, the fabric ports dropped. -/
def execPllBackupLock (t : Nat) (s : State) : Host.Outcome State Fault Refusal :=
  let s := { s with now := max s.now t }
  done (if s.fb Reg.CLK_STATUS_XTAL_FAIL && !s.fb Reg.CLK_STATUS_ON_BACKUP then
    let s := (s.setFb Reg.CLK_STATUS_ON_BACKUP 0 true).pllLocked
    let s := s.each ([0, 1, 2, 3].filter fun ch => 2 ≤ s.f Reg.CAN_STATUS_STATE ch && s.f Reg.CAN_STATUS_STATE ch ≤ 5) fun s ch =>
      s.setF Reg.CAN_STATUS_STATE ch 1
    s.fabDrop
  else s)

end Sys2Proof.Machine
end

