-- ==== Sys2Proof/Machine/Dispatch.lean ====
section
/-!
DEFINITION. The dispatch: one arm for each row of spec/opcode_table.json.
-/

namespace Sys2Proof.Machine

def exec (i : Instr) (s : State) : Host.Outcome State Fault Refusal :=
  match i with
  | .vauxValid t => Sys2Proof.Machine.execVauxValid t s
  | .vauxInvalid t => Sys2Proof.Machine.execVauxInvalid t s
  | .holdupEnd t => Sys2Proof.Machine.execHoldupEnd t s
  | .wake t => Sys2Proof.Machine.execWake t s
  | .canWakePattern channel t => Sys2Proof.Machine.execCanWakePattern channel t s
  | .fabricWakeSignal port t => Sys2Proof.Machine.execFabricWakeSignal port t s
  | .shipRequest r wake t => Sys2Proof.Machine.execShipRequest r wake t s
  | .sleepRequest r t => Sys2Proof.Machine.execSleepRequest r t s
  | .sleepIdleExpired => Sys2Proof.Machine.execSleepIdleExpired s
  | .sleepEntered t => Sys2Proof.Machine.execSleepEntered t s
  | .shipEntered t => Sys2Proof.Machine.execShipEntered t s
  | .injectionTestDone pass t => Sys2Proof.Machine.execInjectionTestDone pass t s
  | .memoryTestDone pass t => Sys2Proof.Machine.execMemoryTestDone pass t s
  | .logRebuild damage copyA copyB t => Sys2Proof.Machine.execLogRebuild damage copyA copyB t s
  | .keyReadDone key t => Sys2Proof.Machine.execKeyReadDone key t s
  | .imageVerified bad1 bad2 t => Sys2Proof.Machine.execImageVerified bad1 bad2 t s
  | .imageApplied t => Sys2Proof.Machine.execImageApplied t s
  | .gateSupplyGroup tests => Sys2Proof.Machine.execGateSupplyGroup tests s
  | .readyReached others t => Sys2Proof.Machine.execReadyReached others t s
  | .keyCheckPeriod found => Sys2Proof.Machine.execKeyCheckPeriod found s
  | .keyWrite r generation crc t => Sys2Proof.Machine.execKeyWrite r generation crc t s
  | .keyWriteStepEnd outcome t => Sys2Proof.Machine.execKeyWriteStepEnd outcome t s
  | .restart r t => Sys2Proof.Machine.execRestart r t s
  | .restartBegin t => Sys2Proof.Machine.execRestartBegin t s
  | .serviceEnter r debug t => Sys2Proof.Machine.execServiceEnter r debug t s
  | .serviceExit r t => Sys2Proof.Machine.execServiceExit r t s
  | .debugAction core kind => Sys2Proof.Machine.execDebugAction core kind s
  | .missingCycle => Sys2Proof.Machine.execMissingCycle s
  | .holdoverExpired => Sys2Proof.Machine.execHoldoverExpired s
  | .xtalFail => Sys2Proof.Machine.execXtalFail s
  | .pllUnlock => Sys2Proof.Machine.execPllUnlock s
  | .clockCount clock count => Sys2Proof.Machine.execClockCount clock count s
  | .pllBackupLock t => Sys2Proof.Machine.execPllBackupLock t s
  | .correctionLimit => Sys2Proof.Machine.execCorrectionLimit s
  | .interconnectGrant waiting drained t => Sys2Proof.Machine.execInterconnectGrant waiting drained t s
  | .scrubBlock b => Sys2Proof.Machine.execScrubBlock b s
  | .sliceSwap core => Sys2Proof.Machine.execSliceSwap core s
  | .sliceCalDone core offset gain skew => Sys2Proof.Machine.execSliceCalDone core offset gain skew s
  | .calStale core => Sys2Proof.Machine.execCalStale core s
  | .carrierStart stage => Sys2Proof.Machine.execCarrierStart stage s
  | .periodStart stage conv => Sys2Proof.Machine.execPeriodStart stage conv s
  | .periodMiddle stage conv => Sys2Proof.Machine.execPeriodMiddle stage conv s
  | .substituteEvent core stage middle conv => Sys2Proof.Machine.execSubstituteEvent core stage middle conv s
  | .inputOverrange input => Sys2Proof.Machine.execInputOverrange input s
  | .dmaBurstWritten b => Sys2Proof.Machine.execDmaBurstWritten b s
  | .dmaOverflow core conv t => Sys2Proof.Machine.execDmaOverflow core conv t s
  | .bufferFreezeWrite r buffer value t => Sys2Proof.Machine.execBufferFreezeWrite r buffer value t s
  | .bufferFrozen buffer => Sys2Proof.Machine.execBufferFrozen buffer s
  | .hkRound codes => Sys2Proof.Machine.execHkRound codes s
  | .thermalRound board => Sys2Proof.Machine.execThermalRound board s
  | .thermalRelease r t => Sys2Proof.Machine.execThermalRelease r t s
  | .encoderEdge channel pins t => Sys2Proof.Machine.execEncoderEdge channel pins t s
  | .indexQualified channel pins t => Sys2Proof.Machine.execIndexQualified channel pins t s
  | .hallSectorChange channel pins t => Sys2Proof.Machine.execHallSectorChange channel pins t s
  | .hallInvalid channel pins => Sys2Proof.Machine.execHallInvalid channel pins s
  | .wireFault channel pair pins => Sys2Proof.Machine.execWireFault channel pair pins s
  | .wireFaultCleared channel pair pins => Sys2Proof.Machine.execWireFaultCleared channel pair pins s
  | .supplyFault channel => Sys2Proof.Machine.execSupplyFault channel s
  | .supplyRetry channel => Sys2Proof.Machine.execSupplyRetry channel s
  | .resWindowEnd channel conv => Sys2Proof.Machine.execResWindowEnd channel conv s
  | .excPeriod channel amp limit => Sys2Proof.Machine.execExcPeriod channel amp limit s
  | .ssiWindow channel => Sys2Proof.Machine.execSsiWindow channel s
  | .ssiFrameDone channel pins => Sys2Proof.Machine.execSsiFrameDone channel pins s
  | .speedWindowEnd channel => Sys2Proof.Machine.execSpeedWindowEnd channel s
  | .speedZeroTime channel => Sys2Proof.Machine.execSpeedZeroTime channel s
  | .slotTrigger slot => Sys2Proof.Machine.execSlotTrigger slot s
  | .slotRunStart lane t => Sys2Proof.Machine.execSlotRunStart lane t s
  | .slotRunEnd lane => Sys2Proof.Machine.execSlotRunEnd lane s
  | .followingError slot => Sys2Proof.Machine.execFollowingError slot s
  | .spLost slot => Sys2Proof.Machine.execSpLost slot s
  | .setpointWrite r slot sub value t => Sys2Proof.Machine.execSetpointWrite r slot sub value t s
  | .openLoop r slot t => Sys2Proof.Machine.execOpenLoop r slot t s
  | .closeLoop r slot t => Sys2Proof.Machine.execCloseLoop r slot t s
  | .commitComplete leg => Sys2Proof.Machine.execCommitComplete leg s
  | .hostCommit r leg value t => Sys2Proof.Machine.execHostCommit r leg value t s
  | .legReload leg => Sys2Proof.Machine.execLegReload leg s
  | .periodWrite r stage value t => Sys2Proof.Machine.execPeriodWrite r stage value t s
  | .dllUnlock span => Sys2Proof.Machine.execDllUnlock span s
  | .dllRelocked span => Sys2Proof.Machine.execDllRelocked span s
  | .syncInEdge stamp => Sys2Proof.Machine.execSyncInEdge stamp s
  | .syncInTimeout stage => Sys2Proof.Machine.execSyncInTimeout stage s
  | .cbcTrip leg src conv t => Sys2Proof.Machine.execCbcTrip leg src conv t s
  | .tripWindowEnd leg => Sys2Proof.Machine.execTripWindowEnd leg s
  | .selfCheckFail engine t => Sys2Proof.Machine.execSelfCheckFail engine t s
  | .wordMismatch channels carriers agree t => Sys2Proof.Machine.execWordMismatch channels carriers agree t s
  | .readbackContradiction channel t => Sys2Proof.Machine.execReadbackContradiction channel t s
  | .decisionTimeout => Sys2Proof.Machine.execDecisionTimeout s
  | .handoverGapEnd => Sys2Proof.Machine.execHandoverGapEnd s
  | .interlockFault => Sys2Proof.Machine.execInterlockFault s
  | .selfTestDone engine pass => Sys2Proof.Machine.execSelfTestDone engine pass s
  | .switchBack r t => Sys2Proof.Machine.execSwitchBack r t s
  | .syncCopyDone => Sys2Proof.Machine.execSyncCopyDone s
  | .qualifyEnd => Sys2Proof.Machine.execQualifyEnd s
  | .switchBackHandover t => Sys2Proof.Machine.execSwitchBackHandover t s
  | .desatTrip channel t => Sys2Proof.Machine.execDesatTrip channel t s
  | .shortTrip channel t vks => Sys2Proof.Machine.execShortTrip channel t vks s
  | .gateUvlo channel negative => Sys2Proof.Machine.execGateUvlo channel negative s
  | .uvloRelease channel negative => Sys2Proof.Machine.execUvloRelease channel negative s
  | .statusFrame channel frame t => Sys2Proof.Machine.execStatusFrame channel frame t s
  | .linkFault channel => Sys2Proof.Machine.execLinkFault channel s
  | .commandPathLost path => Sys2Proof.Machine.execCommandPathLost path s
  | .skewMeasure channel ps => Sys2Proof.Machine.execSkewMeasure channel ps s
  | .thermistorMeasure leg ohms => Sys2Proof.Machine.execThermistorMeasure leg ohms s
  | .enableRemoved group => Sys2Proof.Machine.execEnableRemoved group s
  | .staggerSlot stage => Sys2Proof.Machine.execStaggerSlot stage s
  | .regulatorUpdate => Sys2Proof.Machine.execRegulatorUpdate s
  | .softStartWindowEnd => Sys2Proof.Machine.execSoftStartWindowEnd s
  | .hiccupWaitEnd => Sys2Proof.Machine.execHiccupWaitEnd s
  | .shedTimer cond => Sys2Proof.Machine.execShedTimer cond s
  | .shedBlockEnd => Sys2Proof.Machine.execShedBlockEnd s
  | .linkUv => Sys2Proof.Machine.execLinkUv s
  | .phaseImbalance phase => Sys2Proof.Machine.execPhaseImbalance phase s
  | .syncFree t => Sys2Proof.Machine.execSyncFree t s
  | .powerPathEval => Sys2Proof.Machine.execPowerPathEval s
  | .halfCycleEnd input => Sys2Proof.Machine.execHalfCycleEnd input s
  | .noZeroCrossing input => Sys2Proof.Machine.execNoZeroCrossing input s
  | .sourceQualified => Sys2Proof.Machine.execSourceQualified s
  | .handbackDone => Sys2Proof.Machine.execHandbackDone s
  | .stopTakeoverTimeout => Sys2Proof.Machine.execStopTakeoverTimeout s
  | .chargeEval => Sys2Proof.Machine.execChargeEval s
  | .chargeStart r t => Sys2Proof.Machine.execChargeStart r t s
  | .chargeStop r t => Sys2Proof.Machine.execChargeStop r t s
  | .battOc => Sys2Proof.Machine.execBattOc s
  | .arrived actuator => Sys2Proof.Machine.execArrived actuator s
  | .actTimeout actuator => Sys2Proof.Machine.execActTimeout actuator s
  | .actBlocked actuator => Sys2Proof.Machine.execActBlocked actuator s
  | .holdOvercurrent actuator => Sys2Proof.Machine.execHoldOvercurrent actuator s
  | .compareWrite r actuator compare value t => Sys2Proof.Machine.execCompareWrite r actuator compare value t s
  | .compareCfgWrite r actuator compare value t => Sys2Proof.Machine.execCompareCfgWrite r actuator compare value t s
  | .stoHwRequest group cycles t => Sys2Proof.Machine.execStoHwRequest group cycles t s
  | .stoHwRelease group t => Sys2Proof.Machine.execStoHwRelease group t s
  | .sbcHwOpen sbc group t => Sys2Proof.Machine.execSbcHwOpen sbc group t s
  | .safetySample levels hw sw drv => Sys2Proof.Machine.execSafetySample levels hw sw drv s
  | .stoDiscrepancy pair => Sys2Proof.Machine.execStoDiscrepancy pair s
  | .discrepancyCleared pair => Sys2Proof.Machine.execDiscrepancyCleared pair s
  | .pathDisagree group => Sys2Proof.Machine.execPathDisagree group s
  | .stoAutoTest group t => Sys2Proof.Machine.execStoAutoTest group t s
  | .stoGroupTestEnd group drv t => Sys2Proof.Machine.execStoGroupTestEnd group drv t s
  | .stoTestDue group => Sys2Proof.Machine.execStoTestDue group s
  | .brakeCommandWrite r value t => Sys2Proof.Machine.execBrakeCommandWrite r value t s
  | .brakeSwitchCheck brake obs t => Sys2Proof.Machine.execBrakeSwitchCheck brake obs t s
  | .brakeAppliedCheck brake obs t => Sys2Proof.Machine.execBrakeAppliedCheck brake obs t s
  | .brakeTest r brake t => Sys2Proof.Machine.execBrakeTest r brake t s
  | .brakeTestPhaseEnd brake => Sys2Proof.Machine.execBrakeTestPhaseEnd brake s
  | .brakeTestDue brake => Sys2Proof.Machine.execBrakeTestDue brake s
  | .contactorCommandWrite r value t => Sys2Proof.Machine.execContactorCommandWrite r value t s
  | .contactorCheck levels => Sys2Proof.Machine.execContactorCheck levels s
  | .prechargeWeldCheck => Sys2Proof.Machine.execPrechargeWeldCheck s
  | .prechargeTimeout => Sys2Proof.Machine.execPrechargeTimeout s
  | .contactorOpenDelay => Sys2Proof.Machine.execContactorOpenDelay s
  | .sMismatch m t => Sys2Proof.Machine.execSMismatch m t s
  | .sWatchdog m t => Sys2Proof.Machine.execSWatchdog m t s
  | .repeatWindowEnd => Sys2Proof.Machine.execRepeatWindowEnd s
  | .warmRestartDone lost levels t => Sys2Proof.Machine.execWarmRestartDone lost levels t s
  | .holdExpired stage => Sys2Proof.Machine.execHoldExpired stage s
  | .vMismatch m t => Sys2Proof.Machine.execVMismatch m t s
  | .vWatchdog core t => Sys2Proof.Machine.execVWatchdog core t s
  | .vRestartDone core t => Sys2Proof.Machine.execVRestartDone core t s
  | .splitV r t => Sys2Proof.Machine.execSplitV r t s
  | .splitVDone completed t => Sys2Proof.Machine.execSplitVDone completed t s
  | .joinV r t => Sys2Proof.Machine.execJoinV r t s
  | .joinVDone completed pass t => Sys2Proof.Machine.execJoinVDone completed pass t s
  | .recordWrite => Sys2Proof.Machine.execRecordWrite s
  | .tokenRefill code => Sys2Proof.Machine.execTokenRefill code s
  | .logRead r start count t => Sys2Proof.Machine.execLogRead r start count t s
  | .clearLog r t => Sys2Proof.Machine.execClearLog r t s
  | .clearDone => Sys2Proof.Machine.execClearDone s
  | .cursorWrite r value t => Sys2Proof.Machine.execCursorWrite r value t s
  | .windowRead r t => Sys2Proof.Machine.execWindowRead r t s
  | .phyLinkUp port master t => Sys2Proof.Machine.execPhyLinkUp port master t s
  | .phyLinkLoss port t => Sys2Proof.Machine.execPhyLinkLoss port t s
  | .linkCheckSend port => Sys2Proof.Machine.execLinkCheckSend port s
  | .linkCheck port frame t => Sys2Proof.Machine.execLinkCheck port frame t s
  | .linkTimeout port => Sys2Proof.Machine.execLinkTimeout port s
  | .errorWindowEnd port => Sys2Proof.Machine.execErrorWindowEnd port s
  | .holdOffEnd port => Sys2Proof.Machine.execHoldOffEnd port s
  | .frameReceived port frame stamps t => Sys2Proof.Machine.execFrameReceived port frame stamps t s
  | .topology port frame t => Sys2Proof.Machine.execTopology port frame t s
  | .wagglePeriodEnd => Sys2Proof.Machine.execWagglePeriodEnd s
  | .waggle copies t => Sys2Proof.Machine.execWaggle copies t s
  | .waggleSettle => Sys2Proof.Machine.execWaggleSettle s
  | .waggleReply port frame t => Sys2Proof.Machine.execWaggleReply port frame t s
  | .replyWindowEnd => Sys2Proof.Machine.execReplyWindowEnd s
  | .addressRefused port frame t => Sys2Proof.Machine.execAddressRefused port frame t s
  | .rootLost => Sys2Proof.Machine.execRootLost s
  | .syncReceived port frame stamps t => Sys2Proof.Machine.execSyncReceived port frame stamps t s
  | .pdelaySend leave => Sys2Proof.Machine.execPdelaySend leave s
  | .pdelayReq port frame stamps t => Sys2Proof.Machine.execPdelayReq port frame stamps t s
  | .pdelayResp port frame stamps t => Sys2Proof.Machine.execPdelayResp port frame stamps t s
  | .masterAssumed => Sys2Proof.Machine.execMasterAssumed s
  | .cycleStart leave => Sys2Proof.Machine.execCycleStart leave s
  | .publish frame => Sys2Proof.Machine.execPublish frame s
  | .signal port frame t => Sys2Proof.Machine.execSignal port frame t s
  | .duplicateStateExpiry src => Sys2Proof.Machine.execDuplicateStateExpiry src s
  | .serviceReq port frame t => Sys2Proof.Machine.execServiceReq port frame t s
  | .canFrameReceived channel frame t => Sys2Proof.Machine.execCanFrameReceived channel frame t s
  | .canQueueTake r words t => Sys2Proof.Machine.execCanQueueTake r words t s
  | .canAck r channel value t => Sys2Proof.Machine.execCanAck r channel value t s
  | .ackLapsed channel queue slot => Sys2Proof.Machine.execAckLapsed channel queue slot s
  | .mapEntry t => Sys2Proof.Machine.execMapEntry t s
  | .txPeriod entry => Sys2Proof.Machine.execTxPeriod entry s
  | .txChangeCheck entry => Sys2Proof.Machine.execTxChangeCheck entry s
  | .canFrameSent channel t => Sys2Proof.Machine.execCanFrameSent channel t s
  | .canError channel kind t => Sys2Proof.Machine.execCanError channel kind t s
  | .busRecover r channel t => Sys2Proof.Machine.execBusRecover r channel t s
  | .busRecovered channel t => Sys2Proof.Machine.execBusRecovered channel t s
  | .claimReceived channel frame t => Sys2Proof.Machine.execClaimReceived channel frame t s
  | .addressClaimed channel => Sys2Proof.Machine.execAddressClaimed channel s
  | .read r entries t => Sys2Proof.Machine.execRead r entries t s
  | .write r entries leaving closing t => Sys2Proof.Machine.execWrite r entries leaving closing t s
  | .challenge r t => Sys2Proof.Machine.execChallenge r t s
  | .challengeExpiry who => Sys2Proof.Machine.execChallengeExpiry who s
  | .lockoutEnd => Sys2Proof.Machine.execLockoutEnd s
  | .summary r t => Sys2Proof.Machine.execSummary r t s
  | .arm r mask higher t => Sys2Proof.Machine.execArm r mask higher t s
  | .run r mask higher t => Sys2Proof.Machine.execRun r mask higher t s
  | .stop r mask higher t => Sys2Proof.Machine.execStop r mask higher t s
  | .windowControlWrite r window value t => Sys2Proof.Machine.execWindowControlWrite r window value t s
  | .stagingWrite r word value t => Sys2Proof.Machine.execStagingWrite r word value t s
  | .attnRelease => Sys2Proof.Machine.execAttnRelease s
  | .commandEdge channel => Sys2Proof.Machine.execCommandEdge channel s
  | .gateReadback channel gate t => Sys2Proof.Machine.execGateReadback channel gate t s
  | .softTurnOffDone channel => Sys2Proof.Machine.execSoftTurnOffDone channel s
  | .terminateCondition leg conv t => Sys2Proof.Machine.execTerminateCondition leg conv t s
  | .excitationPeak resolver conv => Sys2Proof.Machine.execExcitationPeak resolver conv s
  | .holdRestoration => Sys2Proof.Machine.execHoldRestoration s
  | .supplyHeld channel => Sys2Proof.Machine.execSupplyHeld channel s
  | .hallCodeValid channel pins => Sys2Proof.Machine.execHallCodeValid channel pins s
  | .flapWindowEnd port => Sys2Proof.Machine.execFlapWindowEnd port s
  | .authFailWindowEnd => Sys2Proof.Machine.execAuthFailWindowEnd s
  | .causeAbsent1ms cond => Sys2Proof.Machine.execCauseAbsent1ms cond s

end Sys2Proof.Machine
end

