-- ==== Sys2Proof/Machine/Step.lean ====
section
/-!
DEFINITION. One step: the command at the front of the queue, or the idle of an empty queue.
-/

namespace Sys2Proof.Machine

/-- With no command waiting, time passes to the next edge of SLOW and nothing else happens: what happens at a tick is an event of the
table (log entry 15). -/
def State.idle (s : State) : State := { s with now := (s.now / Clk.slow + 1) * Clk.slow }

/-- One step: the command at the front is carried out on the state that holds the rest of the queue. -/
def step (s : State) : Host.Outcome State Fault Refusal := match s.pending with
  | [] => .next s.idle
  | c :: rest => exec c { s with pending := rest }

/-- The state with the command that a word spells at the front of its queue; no word spells one. -/
def State.withFetchWord (s : State) (nbits w : Nat) : State := match Sys2Proof.decodeTableWord nbits w with
  | some c => { s with pending := c :: s.pending }
  | none => s

end Sys2Proof.Machine
end

