-- ==== Sys2Proof/Safety.lean ====
section
/-!
DEFINITION. The terms of the statements: that a command completes and what holds after it, what a command leaves unchanged, and the
canonical form of the state's sparse memories.
-/

namespace Sys2Proof.Machine

/-! ### Completion -/

/-- The command completes on a state, and what it leaves has a property. -/
def Completes (c : Instr) (s : State) (P : State → Prop) : Prop := ∃ u, exec c s = .next u ∧ P u

/-- The end instant of an open window (0 for a closed one). -/
def State.endOf (s : State) (t : Timer) (i : Nat := 0) : Nat := (s.due t i).getD 0

/-- The state in which a command of instant t finds the block. -/
def State.arrive (s : State) (t : Nat) : State := { s with now := max s.now t }

/-- A counter that has counted d more, up to its largest value. -/
def State.plus (s : State) (f : Fld) (n : Nat := 0) (d : Nat := 1) (j : Nat := 0) : Nat := min (s.f f n j + d) (2 ^ f.width - 1)

/-! ### Frames -/

/-- The parts of the state beside parameter words, internal quantities, windows and time. -/
inductive Comp where
  | module | stages | causes | deferred | queue | log | kept | challenges | windows | edges | dmaFifo | pipe | sram | runs | denials | held
  | handQueue | handCmd | staging | cycleFaults | release | accepts | egress | keyMem | keyObs | header | early | image | canRx | canTx | canHold | canLast | canClaims | peers
  | waiting | colony | replies | out | free | pending
  deriving DecidableEq, Repr

/-- Two states agree on a part. -/
def Comp.same (c : Comp) (s u : State) : Prop := match c with
  | .module => u.module = s.module
  | .stages => u.stages = s.stages
  | .causes => u.causes = s.causes
  | .deferred => u.deferred = s.deferred
  | .queue => u.queue = s.queue
  | .log => u.log = s.log
  | .kept => u.kept = s.kept
  | .challenges => u.challenges = s.challenges
  | .windows => u.windows = s.windows
  | .edges => u.edges = s.edges
  | .dmaFifo => u.dmaFifo = s.dmaFifo
  | .pipe => u.pipe = s.pipe
  | .cycleFaults => u.cycleFaults = s.cycleFaults
  | .release => u.release = s.release
  | .accepts => u.accepts = s.accepts
  | .egress => u.egress = s.egress
  | .sram => u.sram = s.sram
  | .runs => u.runs = s.runs
  | .denials => u.denials = s.denials
  | .held => u.held = s.held
  | .handQueue => u.handQueue = s.handQueue
  | .handCmd => u.handCmd = s.handCmd
  | .staging => u.staging = s.staging
  | .keyMem => u.keyMem = s.keyMem
  | .keyObs => u.keyObs = s.keyObs
  | .header => u.header = s.header
  | .early => u.early = s.early
  | .image => u.image = s.image
  | .canRx => u.canRx = s.canRx
  | .canTx => u.canTx = s.canTx
  | .canHold => u.canHold = s.canHold
  | .canLast => u.canLast = s.canLast
  | .canClaims => u.canClaims = s.canClaims
  | .peers => u.peers = s.peers
  | .waiting => u.waiting = s.waiting
  | .colony => u.colony = s.colony
  | .replies => u.replies = s.replies
  | .out => u.out = s.out
  | .free => u.free = s.free
  | .pending => u.pending = s.pending

/-- A field of instances `n` to `n + k - 1` and sub-indices `j` to `j + m - 1`. -/
structure Place where
  fld : Fld
  n   : Nat
  k   : Nat
  j   : Nat
  m   : Nat

/-- One field of one instance. -/
def one (f : Fld) (n : Nat := 0) (j : Nat := 0) : Place := ⟨f, n, 1, j, 1⟩

/-- A field of the first k instances and m sub-indices. -/
def all (f : Fld) (k : Nat) (m : Nat := 1) : Place := ⟨f, 0, k, 0, m⟩

/-- Bit i of the word at a key belongs to the place. -/
def Place.has (p : Place) (key i : Nat) : Prop :=
  p.fld.lo ≤ i ∧ i ≤ p.fld.hi ∧ ∃ a < p.k, ∃ b < p.m, key = p.fld.key (p.n + a) (p.j + b)

/-- Between two states, only the parts `cs` and the fields `ps` may differ (beside internal quantities, windows and time): every
bit of every parameter word outside the fields is the same. -/
def Keeps (cs : List Comp) (ps : List Place) (s u : State) : Prop :=
  (∀ c : Comp, c ∉ cs → c.same s u)
  ∧ ∀ key i, i < 32 → (∀ p ∈ ps, ¬ p.has key i) → (u.word key).getLsbD i = (s.word key).getLsbD i

/-- Internal quantities that may differ: instances 0 to k - 1 of each name. -/
def KeepsVars (vs : List (Var × Nat)) (s u : State) : Prop :=
  ∀ key, (∀ x ∈ vs, ∀ i < x.2, key ≠ x.1.key i) → Store.get State.varReset u.vars key = Store.get State.varReset s.vars key

/-- Every next state of a command is related to the state before it. -/
def Framed (c : Instr) (s : State) (R : State → State → Prop) : Prop := ∀ u, exec c s = .next u → R s u

/-- What the loss of power and a start leave: the log with its records (later ones may follow), the key's memory, what has been sent,
the waiting commands, the shutdown counts of the thermal sources and the snapshots of stage L and of the charger. -/
def Survives (s u : State) : Prop :=
  s.log.recs <+: u.log.recs ∧ u.log.base = s.log.base ∧ u.keyMem = s.keyMem ∧ u.out = s.out ∧ u.pending = s.pending
  ∧ ∀ key, keptWord false key = true → key ≠ Reg.ID_STARTS.key 0 → u.word key = s.word key

/-! ### What a report and a reaction may touch -/

/-- The parts and the fields that a report writes (R53, R571 to R577, R714). -/
def reportComps : List Comp := [.queue, .log]
def reportFlds : List Place := [all Reg.STATE_SEEN_EVENTS 19, one Reg.LOG_COUNTERS 1, one Reg.LOG_COUNTERS 4, one Reg.CORE_COUNTERS 8]

/-- The parts and the fields that the reactions of Table 1-8 write: stage and module states, latches, scheduled edges, and what
ends with a stage's activity. -/
def reactionComps : List Comp := reportComps ++ [.causes, .cycleFaults, .deferred, .edges, .release, .stages, .module]
def reactionFlds : List Place := reportFlds ++
  [all Reg.ACT_STATUS_BLOCKED 2, all Reg.ACT_STATUS_FULL 2, all Reg.ACT_STATUS_HOLD 2, all Reg.ACT_STATUS_STATE 2,
   one Reg.CHG_COUNTERS 2, all Reg.CHG_SNAP 3 16, one Reg.CHG_SNAP_VALID, one Reg.CORE_STATUS_BUF_MAX,
   ⟨Reg.CH_COUNTERS, 0, 64, 5, 1⟩, all Reg.CH_STATUS_CLAMP 64, all Reg.CH_STATUS_SOFT_OFF 64,
   all Reg.LEG_STATUS_HIGH_ON 32, all Reg.LEG_STATUS_LATCHED 32, all Reg.LEG_STATUS_LOW_ON 32,
   one Reg.LINK_COUNTERS 8, all Reg.LINK_SNAP 6 16, one Reg.LINK_SNAP_VALID, one Reg.LINK_STATUS_BLOCK, one Reg.LINK_STATUS_CLIM,
   one Reg.LINK_STATUS_IMB, one Reg.LINK_STATUS_LEGS, one Reg.LINK_STATUS_OV, one Reg.LINK_STATUS_PHASES,
   one Reg.LINK_STATUS_SS_WINDOW, one Reg.LINK_STATUS_STATE, one Reg.LINK_STATUS_UV,
   all Reg.PULSE_STATUS_MODE_PENDING 7, all Reg.PULSE_STATUS_RUN 7,
   all Reg.SAFE_BRK_STATUS_RELEASED 2, all Reg.SAFE_BRK_STATUS_TEST 2, one Reg.SAFE_COUNTERS 5, one Reg.SAFE_STATUS_APPLIED,
   one Reg.SAFE_STATUS_BT_RUN,
   all Reg.SLOT_MODE_MAN_OUT 48 4, all Reg.SLOT_MODE_MODE 48, all Reg.SLOT_SETPOINT 64, all Reg.SLOT_STATUS_ACTIVE 48,
   all Reg.SLOT_STATUS_AUTO 48, all Reg.SLOT_STATUS_DERATED 48, all Reg.SLOT_STATUS_FE 48, all Reg.SLOT_STATUS_SP_LOST 48]

/-- What the results of conversions and carrier events write: accumulators, sequencers, overrange marks and leg comparators (chapter
4). -/
def resultFlds : List Place :=
  [all Reg.LEG_STATUS_CMP 32, all Reg.SMP_ACC_AVG 128, all Reg.SMP_ACC_LATCH_NO 128, all Reg.SMP_ACC_STATUS_COUNT 128,
   all Reg.SMP_ACC_STATUS_FULL 128, all Reg.SMP_ACC_STATUS_STALE 128, all Reg.SMP_ACC_SUM_HI 128, all Reg.SMP_ACC_SUM_LO 128,
   all Reg.SMP_AI_OVR 2, one Reg.SMP_AI_OVR_HI, all Reg.SMP_CORE_STATUS_ENTRY 4, all Reg.SMP_DMA_LOST 4, all Reg.SMP_OVERRUNS 4]

/-- What a carrier event writes beside results: snapshots, skipped SSI triggers and the pre-charge check (R157, R222, R231, R495). -/
def carrierFlds : List Place :=
  resultFlds ++ [all Reg.SMP_CORE_STATUS_SUBST 4, ⟨Reg.FB_COUNTERS, 0, 8, 5, 1⟩, all Reg.FB_SPEED_SNAPS 8, all Reg.FB_STATUS_SUBST 8,
   one Reg.SAFE_CON_STATUS_PRE_OK, one Reg.SAFE_CON_STATUS_PRE_RUN]

/-- What a movement of a feedback position writes outside its channel: position compares, BLOCKED and brake tests (R475, R479 to
R482, R511). -/
def movedFlds : List Place :=
  [all Reg.ACT_CMP_ARMED 2 4, all Reg.ACT_CMP_BEHIND 2 4, all Reg.ACT_CMP_EITHER 2 4, all Reg.ACT_CMP_FIRED 2 4,
   all Reg.ACT_CMP_FIRE_CYCLE 2 4, all Reg.ACT_CMP_FIRE_POS 2 4, ⟨Reg.ACT_COUNTERS, 0, 2, 6, 2⟩, all Reg.SAFE_BRK_RESULT 2,
   all Reg.SAFE_BRK_STATUS_FAILED 2]

/-- What accepted levels write in channels n to n + k - 1 (R205 to R214): position, direction, hall code, reference and their counters. -/
def levelFlds (n k : Nat) : List Place :=
  [⟨Reg.FB_COUNTERS, n, k, 0, 3⟩, ⟨Reg.FB_POS, n, k, 0, 1⟩, ⟨Reg.FB_STATUS_DIR, n, k, 0, 1⟩, ⟨Reg.FB_STATUS_HALL_CODE, n, k, 0, 1⟩,
   ⟨Reg.FB_STATUS_REF_OK, n, k, 0, 1⟩, ⟨Reg.FB_STATUS_SECTOR, n, k, 0, 1⟩]

/-- What the decisions of the twin engines write (chapter 9). -/
def foFlds : List Place :=
  [⟨Reg.FO_COUNTERS, 0, 9, 0, 1⟩, one Reg.FO_LAST_CHANNELS, one Reg.FO_LAST_CONDEMNED, one Reg.FO_LAST_CYCLE, one Reg.FO_LAST_ROW,
   one Reg.FO_STATUS_CONDEMN_A, one Reg.FO_STATUS_CONDEMN_B, one Reg.FO_STATUS_DEGRADED, one Reg.FO_STATUS_OWNER,
   one Reg.FO_STATUS_PENDING, one Reg.FO_STATUS_STATE_A, one Reg.FO_STATUS_STATE_B, one Reg.FO_STATUS_SWITCHING]

/-- What the charging of a battery writes (chapter 12). -/
def chargerFlds : List Place :=
  [all Reg.CHG_MEAS 8, all Reg.CHG_SNAP 3 16, all Reg.CHG_COUNTERS 8, all Reg.CHG_TIMER 2, one Reg.CHG_SNAP_VALID, one Reg.CHG_STATUS_ATTN, one Reg.CHG_STATUS_BACKOFF, one Reg.CHG_STATUS_BMS_FRESH,
   one Reg.CHG_STATUS_CHG_STATE, one Reg.CHG_STATUS_COLD, one Reg.CHG_STATUS_FAULT_LATCH, one Reg.CHG_STATUS_FEEDING,
   one Reg.CHG_STATUS_HALF, one Reg.CHG_STATUS_LAST_END, one Reg.CHG_STATUS_PP_STATE, one Reg.CHG_STATUS_QUALIFIED,
   one Reg.CHG_STATUS_THERMAL, one Reg.CHG_STATUS_VREG]

/-- The shadow sets of the legs of L and their commits, which the regulator writes (R388, R393). -/
def regLegFlds : List Place :=
  [⟨Reg.LEG_CTRL_COMMIT, 12, 8, 0, 1⟩, ⟨Reg.LEG_CTRL_FORCE, 12, 8, 0, 1⟩, ⟨Reg.LEG_DUTY_A, 12, 8, 0, 1⟩, ⟨Reg.LEG_DUTY_B, 12, 8, 0, 1⟩,
   ⟨Reg.LEG_PHASE, 12, 8, 0, 1⟩, ⟨Reg.LEG_TIME_A, 12, 8, 0, 1⟩, ⟨Reg.LEG_TIME_B, 12, 8, 0, 1⟩]

/-- What a change of EN_HW or EN_SW writes: the enables, and the soft turn-offs of the channels that they take (R369, R489). -/
def enableFlds : List Place :=
  [one Reg.SAFE_STATUS_EN_HW, one Reg.SAFE_STATUS_EN_SW, one Reg.GD_STATUS_ENABLE_SG, all Reg.CH_STATUS_ENABLE 64,
   all Reg.CH_STATUS_SOFT_OFF 64, ⟨Reg.CH_COUNTERS, 0, 64, 5, 1⟩]

/-- What pair S writes as it evaluates the request pairs (R490 to R502). -/
def stoFlds : List Place :=
  enableFlds ++ [one Reg.SAFE_STATUS_DISC, one Reg.SAFE_STATUS_STO_REQ, one Reg.SAFE_STATUS_TEST_FAIL, one Reg.SAFE_STATUS_TEST_DUE,
   one Reg.SAFE_STATUS_SBC_DISC, one Reg.SAFE_STATUS_SBC_REQ, one Reg.SAFE_INPUTS_STO, one Reg.SAFE_INPUTS_SBC,
   ⟨Reg.SAFE_COUNTERS, 0, 4, 0, 1⟩]

/-- What arming a stage writes: its legs' sets, its carrier mode and period (R307). -/
def armFlds : List Place :=
  [all Reg.LEG_ACTIVE 32 6, all Reg.LEG_CARRY 32, all Reg.LEG_CTRL_COMMIT 32, all Reg.LEG_STATUS_WIN_COUNT 32,
   all Reg.PULSE_PERIOD_NOW 7, all Reg.PULSE_STATUS_MODE 7]

/-- The parts and the fields that a reply writes: the kept replies with the windows of requesters that drop out, what leaves on the
path of the request, and the counters of SVC, of the fabric ports and of the CAN channels (R647, R648, R688, R700). -/
def replyComps : List Comp := [.kept, .windows, .out, .egress, .canTx, .handCmd]
def replyFlds : List Place :=
  [all Reg.SVC_COUNTERS 13, all Reg.FAB_PORT_COUNTERS 4 8, all Reg.CAN_COUNTERS 4 11, all Reg.CAN_STATUS_Q0_FILL 4,
   all Reg.CAN_STATUS_Q1_FILL 4, all Reg.CAN_STATUS_TX_FILL 4]

/-! ### Frames that a port takes -/

/-- A frame passes R593 on a port that carries every kind (VERIFIED), with a right FCS. -/
def State.takes (s : State) (p : Fin 4) (f : Frame) : Bool :=
  s.portState p.val == 3 && !s.on .dying && f.ether == s.etherType && f.hcrc && f.fcs && frameOk f

/-- What leaves, joins and is counted as frames are sent on ports and own reports are made (chapters 17, 18). -/
def sendFlds : List Place := [all Reg.FAB_PORT_COUNTERS 4 8]

/-- What a port that goes DOWN writes beside the reaction: its status words, the ports' summary, and the round that the root starts with the
address it may derive (R598, R602, R604, R613). -/
def portFlds : List Place :=
  [all Reg.FAB_PORT_COUNTERS 4 8, all Reg.FAB_PORT_DELAY_DELAY 4, all Reg.FAB_PORT_DELAY_MEASURED 4, all Reg.FAB_PORT_PEER 4 2,
   all Reg.FAB_PORT_STATUS_DOWNSTREAM 4, all Reg.FAB_PORT_STATUS_FLAPS 4, all Reg.FAB_PORT_STATUS_LOOPBACK 4,
   all Reg.FAB_PORT_STATUS_MASTER 4, all Reg.FAB_PORT_STATUS_PHY_LINK 4, all Reg.FAB_PORT_STATUS_STATE 4,
   all Reg.FAB_PORT_STATUS_UPSTREAM 4, one Reg.FAB_ROUND_ROUND, one Reg.FAB_STATUS_ADDRESS, one Reg.FAB_STATUS_ADDR_SRC,
   one Reg.FAB_STATUS_BLOCKED, one Reg.FAB_STATUS_VERIFIED]

/-- What a round writes in a node or in the root: the root followed, the place in the tree, the size of the colony with its latency
check, and the address (R605 to R615, R644). -/
def roundFlds : List Place :=
  [all Reg.FAB_COUNTERS 7, one Reg.FAB_CYCLE_STATUS_LAT_OK, one Reg.FAB_CYCLE_STATUS_ROLE, all Reg.FAB_LATENCY 3, one Reg.FAB_MAX_DEPTH,
   all Reg.FAB_PATH_BITS 2, one Reg.FAB_PATH_DEPTH, all Reg.FAB_PORT_COUNTERS 4 8, all Reg.FAB_PORT_STATUS_UPSTREAM 4, all Reg.FAB_ROOT 2,
   one Reg.FAB_ROUND_NODES, one Reg.FAB_ROUND_ROUND, one Reg.FAB_STATUS_ADDRESS, one Reg.FAB_STATUS_ADDR_SRC, one Reg.FAB_STATUS_REFUSED,
   one Reg.FAB_STATUS_ROOT, one Reg.FAB_STATUS_ROOT_LOST, one Reg.FAB_STATUS_UPSTREAM]

/-- What the local cycle writes beside a reaction: its number, ring ports, alignment of carriers (R320, R633, R643). -/
def cycleFlds : List Place :=
  [all Reg.FAB_CYCLE_COUNTERS 4, one Reg.FAB_CYCLE_NO, one Reg.FAB_CYCLE_STATUS_RING_BROKEN, one Reg.FAB_CYCLE_STATUS_RING_MISSED,
   all Reg.FAB_PORT_COUNTERS 4 8, all Reg.PULSE_COUNTERS 7 3, all Reg.PULSE_STATUS_CYCLE_MISMATCH 7, all Reg.PULSE_STATUS_LOCKED 7,
   all Reg.PULSE_STATUS_SYNC_LOST 7]

/-- What a change of the fabric's time base writes beside that: the discipline, the role and master, the length in force (R109 to R115,
R638 to R641). -/
def masterFlds : List Place :=
  cycleFlds ++ [one Reg.CLK_CORRECTION, one Reg.CLK_LOCK_LOSSES, one Reg.CLK_PHASE_ERROR, one Reg.CLK_STATUS_CORR_LIMIT,
    one Reg.CLK_STATUS_HOLDOVER_S, one Reg.CLK_STATUS_STATE, one Reg.FAB_CYCLE_LEN_NOW, one Reg.FAB_CYCLE_STATUS_LAT_OK,
    one Reg.FAB_CYCLE_STATUS_MISSING, one Reg.FAB_CYCLE_STATUS_ROLE, all Reg.FAB_LATENCY 3, all Reg.FAB_MASTER 2]

/-! ### Feedback channels between two accepted levels -/

/-- A channel when a window of it is about to end: the changes of its wires are taken, and it has run up to the SAMPLE cycle before. -/
def State.atEnd (s : State) (n : Nat) (pins : List PinChange) (tm : Timer) (i : Nat) : State :=
  (s.fbPins n pins).fbRun n (sampleCycle ((s.fbPins n pins).endOf tm i) - 1)

/-- The window is open and ends, and from then on no further level of the channel is on its way to acceptance. -/
def State.endsQuiet (s : State) (n : Nat) (pins : List PinChange) (tm : Timer) (i : Nat) : Bool :=
  (s.fbPins n pins).isOpen tm i && (s.atEnd n pins tm i).due tm i == (s.fbPins n pins).due tm i
  && (s.atEnd n pins tm i).accepts.all fun a => a.ch != n

/-- The levels of a channel that are on their way to acceptance are all accepted in SAMPLE cycle c, which is not in the future, and make
the channel's accepted levels `new` (bit 0 A, 1 B, 2 Z). -/
def State.acceptsOnce (s : State) (n c new : Nat) : Bool :=
  let mine := s.accepts.filter fun a => a.ch == n
  !mine.isEmpty && (mine.all fun a => a.due == c) && Decidable.decide (c ≤ sampleCycle s.now)
  && mine.foldl (fun w a => putBits w a.pair a.pair (if a.level then 1 else 0)) (s.vn .fbLevels n) == new

/-- The quadrature position of levels. -/
def quadOf (w : Nat) : Nat := quadrature (w.testBit 0) (w.testBit 1)

/-- The core of a resolver at the end of a demodulation window: it has converted up to it. -/
def State.resSums (s : State) (n : Nat) (conv : List Int) : State :=
  let e := s.endOf .resWin n
  ({ (s.close .resWin n) with now := max s.now e }.setDue .resWin n (some e)).coreTo n (divUp e Clk.sample) conv

/-- The levels of DATA of the SSI frame that ends (R223): at its first falling clock edge and at the rising edges after it. -/
def State.ssiLevels (s : State) (n : Nat) (pins : List PinChange) : List Bool :=
  let f := s.vn .ssiAt n
  (State.ssiRead n (f :: (List.range (s.ssiBits n + 1)).map fun k => f + s.ssiHalf n (2 * k + 1)) pins []
    { (s.close .ssiFrame n) with now := max s.now (s.endOf .ssiFrame n) }).1

/-! ### Requests -/

/-- A request arrives at an operating module that turns it away for no reason of its own state: it is powered, its serving core runs, the
request is well-formed, repeats none of the last second, moves with no hand-over, carries no authority and needs none, and pair S can
decide it (R544, R549, R554, R648, R686, R696, R759). -/
def State.serving (s : State) (t : Nat) (r : Req) (c : Svc) : Bool :=
  let s := s.arrive t
  s.powered && !s.on .dying && (!s.fb Reg.CLK_STATUS_ON_BACKUP || r.who == .j1) && s.vRuns c.core && 5 ≤ s.module.code
  && (s.repeatOf r).isNone && !s.moves c && c.wellFormed r && r.auth.isNone && !s.needsAuth c
  && s.f Reg.CORE_STATUS_S_STATE != 3 && (s.f Reg.CORE_STATUS_S_STATE != 1 || !c.toS)

/-- The same for a request with an authority block: no lockout, and the requester's open challenge is the block's (R697, R698). -/
def State.servingAuth (s : State) (t : Nat) (r : Req) (c : Svc) (b : AuthBlock) : Bool :=
  let s := s.arrive t
  s.powered && !s.on .dying && (!s.fb Reg.CLK_STATUS_ON_BACKUP || r.who == .j1) && s.vRuns c.core && 5 ≤ s.module.code
  && (s.repeatOf r).isNone && !s.moves c && c.wellFormed r && r.auth == some b
  && (match r.who with | .can _ _ => false | _ => true) && !s.fb Reg.SVC_STATUS_LOCKOUT
  && (match s.challenges.find? fun k => k.who == r.who with | some k => k.value == b.challenge && s.now < k.ends | none => false)
  && s.f Reg.CORE_STATUS_S_STATE != 3 && s.f Reg.CORE_STATUS_S_STATE != 1

/-- The signature of the block covers the message of R696. -/
def State.signed (s : State) (c : Svc) (b : AuthBlock) : Bool := ownerSigned (s.authMessage b c) b.signature

/-- A command has been answered with result OK and reply data (Table 20-5). -/
def State.told (u : State) (r : Req) (c : Cmd) (data : List Byte := []) : Bool :=
  Decidable.decide (Out.reply r.who r.trans { service := 3, status := 0, payload := le 1 c.code ++ le 1 0 ++ le 2 0 ++ data } ∈ u.out)

/-- A command has been refused with a result (Table 20-4) and no data. -/
def State.refusedCmd (u : State) (r : Req) (c : Cmd) (code : Nat) (detail : Nat := 0) : Bool :=
  Decidable.decide (Out.reply r.who r.trans { service := 3, status := 0, payload := le 1 c.code ++ le 1 code ++ le 2 detail } ∈ u.out)

/-- A WRITE of one word has been answered with OK (Table 20-3). -/
def State.wrote (u : State) (r : Req) (index sub : Nat) : Bool :=
  Decidable.decide (Out.reply r.who r.trans { service := 2, status := 0, payload := le 1 1 ++ le 1 0 ++ (le 2 index ++ le 1 sub ++ le 1 0) ++ le 2 0 } ∈ u.out)

/-- A WRITE of one word of a field is served, and neither its class nor its fields refuse it (R24, R690). -/
def State.admits (s : State) (t : Nat) (r : Req) (f : Fld) (n j : Nat) (v : Word) : Bool :=
  let key := f.key n j
  s.serving t r (.write [{ index := key / 256, sub := key % 256, value := v }] [] [])
  && (match Map.word key with
    | none => false
    | some w => match w.find key with
      | none => false
      | some (i, _) => ((s.arrive t).live.wordBar { who := some r.who, leaving := [], closing := [] } w i
          ((s.arrive t).live.word key).toNat v.toNat).isNone)

/-- The refusal of one entry of a WRITE by its class and fields (R24, R690); NO_PARAMETER where there is no such word. -/
def State.refuses (s : State) (t : Nat) (r : Req) (e : WEntry) : Option Nat :=
  match Map.word (keyOf e.index e.sub) with
  | none => some Result.noParameter
  | some w => match w.find (keyOf e.index e.sub) with
    | none => some Result.noParameter
    | some (n, _) => (s.arrive t).live.wordBar { who := some r.who, leaving := [], closing := [] } w n
        ((s.arrive t).live.word (keyOf e.index e.sub)).toNat e.value.toNat

/-- A word to which no chapter gives an effect beyond the value that a write stores. -/
def plainWord (key : Nat) : Bool := match Map.word key with
  | none => false
  | some w =>
    !(Reg.LEG_DUTY_A.base ≤ w.base && w.base ≤ Reg.LEG_CTRL_FORCE.base)
    && !([Reg.SLOT_SETPOINT.base, Reg.SLOT_FF.base, Reg.SLOT_SP_CFG_SP_SRC.base, Reg.SLOT_FE_FE_LIMIT.base, Reg.PULSE_PERIOD.base,
        Reg.ACT_CMP_VALUE.base, Reg.ACT_CMP_MODE.base, Reg.SMP_BUF_CONTROL_FREEZE.base, Reg.SAFE_BRK_CMD.base, Reg.SAFE_CDR_CMD.base,
        Reg.CHG_BMS_REQUEST.base, Reg.CHG_BMS_LIMITS_V_MAX.base, Reg.CAN_ACK.base, Reg.STATE_REQUEST_SHIP.base].contains w.base)

/-- A whole word as a place. -/
def wordAt (key : Nat) : Place := one ⟨key, 0, 0, 31, 0, .ro, 0, .any⟩

/-- What every request may change, whatever comes of it: reports, replies, the requests that wait, the windows of the limit of R88,
challenges and what counts them (R88, R544, R554, R648, R688, R697, R698). -/
def requestComps : List Comp := reportComps ++ replyComps ++ [.held, .handQueue, .denials, .challenges]
def requestFlds : List Place :=
  reportFlds ++ replyFlds ++ [one Reg.SVC_STATUS_FAILS, one Reg.SVC_STATUS_LOCKOUT, one Reg.SVC_STATUS_OPEN,
    all Reg.FAB_CYCLE_COUNTERS 4, one Reg.START_NOT_READY_DROPPED]

/-- What a CAN channel writes as it receives, sends, claims and errs, beside a reaction (chapter 19). -/
def canFlds : List Place :=
  [all Reg.CAN_ADDRESS 4, all Reg.CAN_COUNTERS 4 11, all Reg.CAN_ERRORS_RX 4, all Reg.CAN_ERRORS_TX 4, all Reg.CAN_STATUS_AUTO_SUSPENDED 4,
   all Reg.CAN_STATUS_CANNOT_CLAIM 4, all Reg.CAN_STATUS_CLAIMED 4, all Reg.CAN_STATUS_Q0_FILL 4, all Reg.CAN_STATUS_Q1_FILL 4,
   all Reg.CAN_STATUS_STATE 4, all Reg.CAN_STATUS_TX_FILL 4, all Reg.CAN_STATUS_WARNING 4, all Reg.START_CAN_DROPPED 4,
   all Reg.START_CAN_OVERFLOW 4]

/-! ### Invariants and transitions of the whole machine -/

/-- Every sparse store is in its canonical form: keys rising, no entry at its reset value. -/
def State.canonical (s : State) : Bool :=
  Store.wf Map.reset s.regs && Store.wf State.varReset s.vars && Store.wf State.timerReset s.timers
  && Store.wf State.ramReset s.sram && Store.wf State.ramReset s.staging && Store.wf State.keyReset s.keyMem

/-- Slot i of the log holds the record BASE + i (R566), the log holds at most 8,192 records, and no clear is half done. -/
def State.logNumbered (s : State) : Bool :=
  Decidable.decide (s.log.recs.length ≤ 8192) && s.log.staged.isNone
  && s.log.recs.zipIdx.all fun x => x.1.seq == s.log.base + x.2

/-- The entries of the queues name units that exist. -/
def State.bounded (s : State) : Bool :=
  (s.dmaFifo.all fun e => Decidable.decide (e.buf < 16) && Decidable.decide (e.core < 4))
  && (s.runs.all fun r => Decidable.decide (r.slot < 48) && Decidable.decide (r.lane < 4))
  && (s.edges.all fun e => Decidable.decide (e.ch < 64))
  && (s.canRx.all fun e => Decidable.decide (e.ch < 4) && Decidable.decide (e.queue < 2) && Decidable.decide (e.slot < 64))
  && (s.canHold.all fun x => Decidable.decide (x.ch < 256))
  && (s.egress.all fun e => Decidable.decide (e.port < 4)) && (s.peers.all fun p => Decidable.decide (p.port < 4))
  && s.accepts.all fun a => Decidable.decide (a.ch < 8)

/-- Before READY, and without power, no stage is ARMED, RUNNING or in HOLD (R45, R83). -/
def State.quiet (s : State) : Bool := match s.module with
  | .off | .ship | .sleep | .starting | .unconfigured => Stage.all.all fun x => !(s.st x).isActive
  | _ => true

/-- The rows of Table 1-5 but the loss of VAUX. -/
def moduleMoves : List (ModState × ModState) :=
  [(.off, .starting), (.ready, .ship), (.ship, .starting), (.ready, .sleep), (.sleep, .starting), (.starting, .ready),
   (.starting, .unconfigured), (.unconfigured, .starting), (.ready, .run), (.run, .ready), (.ready, .service), (.service, .ready),
   (.ready, .safe), (.run, .safe), (.service, .safe), (.safe, .starting), (.ready, .starting), (.service, .starting)]

/-- The rows of Table 1-7, with the ARMED stage that a RUN takes to HOLD at once while a cause of HOLD is present (R49). -/
def stageMoves : List (StageState × StageState) :=
  [(.stopped, .armed), (.armed, .running), (.armed, .stopped), (.running, .stopped), (.running, .hold), (.hold, .running),
   (.hold, .stopped), (.stopped, .safe), (.armed, .safe), (.running, .safe), (.hold, .safe), (.safe, .stopped), (.armed, .hold)]

/-- What has been sent, whatever becomes of the FCS of a frame that is still leaving its port (R599). -/
def Out.sent : Out → Out
  | .fabric p f _ => .fabric p f false
  | o => o

end Sys2Proof.Machine

namespace Sys2Proof

/-- The events that begin a warm restart of pair S (R541, R543). -/
def Instr.restartsS : Instr → Bool
  | .sMismatch .. | .sWatchdog .. => true
  | _ => false

/-- The commands that carry out the requests which waited for them (R544, R551, R554, R557). -/
def Instr.carriesWaiting : Instr → Bool
  | .warmRestartDone .. | .vRestartDone .. | .splitVDone .. | .joinVDone .. => true
  | _ => false

/-- A command of Table 20-6 whose fields have their widths. -/
def Cmd.wf : Cmd → Bool
  | .arm m h | .run m h | .stop m h => Decidable.decide (m < 65536) && h.isEmpty
  | .openLoop n | .closeLoop n | .busRecover n | .brakeTest n => Decidable.decide (n < 65536)
  | .logRead a n => Decidable.decide (a < 2 ^ 48) && Decidable.decide (n < 256)
  | .keyWrite g c => Decidable.decide (g < 2 ^ 32) && Decidable.decide (c < 2 ^ 32)
  | _ => true

/-- The 80 bytes of an authority block. -/
def AuthBlock.bytes (b : AuthBlock) : List Byte := Machine.le 16 b.challenge.toNat ++ b.signature

end Sys2Proof
end

