-- ==== Sys2Proof/WellFormed.lean ====
section
/-!
DEFINITION. Well-formed commands: the operands of a command lie in the fields that the spec gives them (Tables 17-1, 18-7, 20-2, 20-3,
20-5, R591, R657, R696). A meaning is defined for every command, well-formed or not.
-/

namespace Sys2Proof

/-- A requester is an address below 0x400, a MAC address, a CAN channel with a key, or J1 (R684). -/
def Requester.wf : Requester → Bool
  | .fab src => decide (src < 0x400)
  | .mac addr => decide (addr < 2 ^ 40)
  | .can ch key => decide (ch < 4) && decide (key < 2 ^ 32)
  | .j1 => true

/-- An authority block holds a signature of 64 bytes (R696). -/
def AuthBlock.wf (a : AuthBlock) : Bool := a.signature.length == 64

/-- The envelope of a request. -/
def Req.wf (r : Req) : Bool := r.who.wf && decide (r.trans < 2 ^ 16) && (match r.auth with
  | some a => a.wf
  | none => true)

/-- An index and a sub-index. -/
def wordWf (index sub : Nat) : Bool := decide (index < 2 ^ 16) && decide (sub < 2 ^ 8)

/-- 1 to 27 entries of a READ (Table 20-2). -/
def entriesWf (l : List (Nat × Nat)) : Bool :=
  decide (1 ≤ l.length) && decide (l.length ≤ 27) && l.all fun e => wordWf e.1 e.2

/-- 1 to 27 entries of a WRITE, 1 to 17 with an authority block (Table 20-3). -/
def writeWf (r : Req) (l : List WEntry) : Bool :=
  decide (1 ≤ l.length) && decide (l.length ≤ (if r.auth.isSome then 17 else 27)) && l.all fun e => wordWf e.index e.sub

/-- A frame of the fabric: its fields have their widths (Table 17-1). -/
def Frame.wf (f : Frame) : Bool :=
  decide (f.ether < 2 ^ 16) && decide (f.mac < 2 ^ 40) && decide (f.version < 16) && decide (f.kind < 16) && decide (f.flags < 256) && decide (f.dst < 0x400)
  && decide (f.src < 0x400) && decide (f.length < 2 ^ 16) && decide (f.seq < 2 ^ 16) && decide (f.hops < 2 ^ 16)

/-- A CAN frame: a key of 32 bits, a DLC code, as many bytes as the code says at most (R657). -/
def CanFrame.wf (f : CanFrame) : Bool := decide (f.key < 2 ^ 32) && decide (f.dlc < 16) && decide (f.data.length ≤ 64)

/-- A frame has one departure stamp for each port. -/
def Stamps.wf (x : Stamps) : Bool := x.leave.length == 4

/-- A target or argument word of a command. -/
def argWf (n : Nat) : Bool := decide (n < 2 ^ 32)

/-- A well-formed command. -/
def Instr.wf : Instr → Bool
  | .shipRequest r _ _ | .sleepRequest r _ | .restart r _ | .serviceEnter r _ _ | .serviceExit r _ | .thermalRelease r _
  | .switchBack r _ | .chargeStart r _ | .chargeStop r _ | .splitV r _ | .joinV r _ | .clearLog r _ | .windowRead r _
  | .challenge r _ | .summary r _ | .bufferFreezeWrite r _ _ _ | .setpointWrite r _ _ _ _ | .hostCommit r _ _ _
  | .periodWrite r _ _ _ | .compareWrite r _ _ _ _ | .compareCfgWrite r _ _ _ _ | .brakeCommandWrite r _ _
  | .contactorCommandWrite r _ _ | .cursorWrite r _ _ | .canQueueTake r _ _ | .canAck r _ _ _ | .windowControlWrite r _ _ _
  | .stagingWrite r _ _ _ => r.wf
  | .openLoop r n _ | .closeLoop r n _ | .brakeTest r n _ | .busRecover r n _ | .arm r n _ _ | .run r n _ _ | .stop r n _ _ =>
    r.wf && argWf n
  | .keyWrite r generation crc _ => r.wf && argWf generation && argWf crc
  | .logRead r start count _ => r.wf && decide (start < 2 ^ 48) && argWf count
  | .read r l _ => r.wf && entriesWf l
  | .write r l _ _ _ => r.wf && writeWf r l
  | .linkCheck _ f _ | .topology _ f _ | .waggleReply _ f _ | .addressRefused _ f _ | .signal _ f _ | .serviceReq _ f _ => f.wf
  | .frameReceived _ f x _ | .syncReceived _ f x _ | .pdelayReq _ f x _ | .pdelayResp _ f x _ => f.wf && x.wf
  | .waggle l _ => l.all fun c => c.2.wf
  | .pdelaySend l | .cycleStart l => l.length == 4
  | .canFrameReceived _ f _ | .claimReceived _ f _ => f.wf
  | .challengeExpiry who => who.wf
  | .duplicateStateExpiry src => decide (src < 0x400)
  | .tokenRefill code => decide (code < 2 ^ 16)
  | .wordMismatch channels carriers _ _ => decide (channels < 2 ^ 64) && decide (carriers < 2 ^ 7)
  | .imageVerified bad1 bad2 _ => bad1.all (fun n => decide (n < 24)) && bad2.all fun n => decide (n < 24)
  | .keyReadDone key _ => decide (key.jedec < 2 ^ 24) && decide (key.sfdp < 2 ^ 32)
  | .keyCheckPeriod (some x) => decide (x.1 < 2 ^ 24) && x.2.length == 512
  | .thermalRound board => board.length == 12
  | _ => true

end Sys2Proof
end

