-- ==== Sys2Proof/Certificates/Slice0/Obligations.lean ====
section
/-!
DEFINITION. The statements for the provers. `u` names the state that a command leaves; `s.arrive t` is the state in which a command
of instant t finds the block.
-/

open Sys2Proof Sys2Proof.Machine


/-- Completion of the power, wake, sleep, ship and restart events. VAUX_VALID in OFF ends in STARTING at step 1 with wake source 0, ID.STARTS one higher and every stage STOPPED. VAUX_INVALID in a powered module that has not lost VAUX yet ends in the same module state with VAUX_LOST as the last report of the queue. HOLDUP_END after it ends in OFF with an empty report queue and every stage STOPPED, at 2.9 ms after the loss or later. WAKE in SLEEP or SHIP ends in STARTING at step 1 with wake source 1 and unit 0; in READY while an entry sequence runs and no wake is latched, it ends in READY with a wake latched. CAN_WAKE_PATTERN on an enabled channel and FABRIC_WAKE_SIGNAL on an enabled port in SLEEP end in STARTING at step 1 with wake source 2 or 3 and their unit. SLEEP_IDLE_EXPIRED in READY with every stage STOPPED, no KEY_WRITE and no entry sequence starts the sleep entry at the end of the window. SLEEP_ENTERED and SHIP_ENTERED with no wake latched end in SLEEP and SHIP with an empty report queue; SLEEP_ENTERED with a wake latched ends in STARTING at step 1. RESTART_BEGIN of an accepted RESTART in UNCONFIGURED, READY, SERVICE or SAFE ends in STARTING at step 1 with wake source 4. -/
def Obligations.StartEvents : Prop :=
  (∀ (s : State) (t : Nat), s.module = .off → 
    Completes (.vauxValid t) s fun u => u.module = .starting ∧ u.vn .startStep = 1 ∧ u.now = max s.now t ∧ u.f Reg.START_WAKE_CAUSE_SOURCE = 0
    ∧ u.f Reg.ID_STARTS = s.plus Reg.ID_STARTS ∧ u.allStopped = true) ∧
  (∀ (s : State) (t : Nat), s.powered = true → s.on .dying = false → 
    Completes (.vauxInvalid t) s fun u => u.on .dying = true ∧ u.queue.getLast?.map Rec.code = some Ev.VAUX_LOST ∧ u.module = s.module) ∧
  (∀ (s : State) (t : Nat), s.on .dying = true → 
    Completes (.holdupEnd t) s fun u => u.module = .off ∧ u.queue = [] ∧ u.now = max (max s.now t) (s.vn .dyingAt + us 2900) ∧ u.allStopped = true) ∧
  (∀ (s : State) (t : Nat), s.module = .sleep ∨ s.module = .ship → 
    Completes (.wake t) s fun u => u.module = .starting ∧ u.vn .startStep = 1 ∧ u.f Reg.START_WAKE_CAUSE_SOURCE = 1 ∧ u.f Reg.START_WAKE_CAUSE_UNIT = 0) ∧
  (∀ (s : State) (t : Nat), s.module = .ready → s.on .entering = true → s.on .wakeLatched = false → 
    Completes (.wake t) s fun u => u.module = .ready ∧ u.on .wakeLatched = true) ∧
  (∀ (s : State) (channel : Fin 4) (t : Nat), s.module = .sleep → (s.f Reg.START_WAKE_SOURCES_CAN_WAKE).testBit channel.val = true → s.vn .entering ≠ 2 → 
    Completes (.canWakePattern channel t) s fun u => u.module = .starting ∧ u.vn .startStep = 1 ∧ u.f Reg.START_WAKE_CAUSE_SOURCE = 2 ∧ u.f Reg.START_WAKE_CAUSE_UNIT = channel.val) ∧
  (∀ (s : State) (port : Fin 4) (t : Nat), s.module = .sleep → (s.f Reg.START_WAKE_SOURCES_FABRIC_WAKE).testBit port.val = true → s.fb Reg.FAB_PORT_CFG_ENABLE port.val = true → s.vn .entering ≠ 2 → 
    Completes (.fabricWakeSignal port t) s fun u => u.module = .starting ∧ u.vn .startStep = 1 ∧ u.f Reg.START_WAKE_CAUSE_SOURCE = 3 ∧ u.f Reg.START_WAKE_CAUSE_UNIT = port.val) ∧
  (∀ (s : State), s.isOpen .sleepIdle = true → s.module = .ready → s.allStopped = true → s.keyBusy = false → s.on .entering = false → 
    Completes (.sleepIdleExpired) s fun u => u.vn .entering = 1 ∧ u.now = max s.now (s.endOf .sleepIdle) ∧ u.module = .ready) ∧
  (∀ (s : State) (t : Nat), s.module = .ready → s.vn .entering = 1 → s.vn .wakeLatched = 0 → 
    Completes (.sleepEntered t) s fun u => u.module = .sleep ∧ u.queue = [] ∧ u.now = max s.now t) ∧
  (∀ (s : State) (t : Nat), s.module = .ready → s.vn .entering = 1 → s.vn .wakeLatched ≠ 0 → 
    Completes (.sleepEntered t) s fun u => u.module = .starting ∧ u.vn .startStep = 1 ∧ u.now = max s.now t) ∧
  (∀ (s : State) (t : Nat), s.module = .ready → s.vn .entering = 2 → s.vn .wakeLatched = 0 → 
    Completes (.shipEntered t) s fun u => u.module = .ship ∧ u.queue = [] ∧ u.now = max s.now t) ∧
  (∀ (s : State) (t : Nat), s.on .restarting = true → s.module = .unconfigured ∨ s.module = .ready ∨ s.module = .service ∨ s.module = .safe → 
    Completes (.restartBegin t) s fun u => u.module = .starting ∧ u.vn .startStep = 1 ∧ u.f Reg.START_WAKE_CAUSE_SOURCE = 4)

/-- Completion of the steps of a start. In step 1, the first end of the injection test and that of the memory test, with the other still running, each record their result, INJECT_OK showing that of the injection test; a failed injection test after the memory test ends in UNCONFIGURED with cause 8, and a failed memory test after a passed injection test with cause 9. LOG_REBUILD after the memory test, of a log without records and with two good copies of the management area, leaves BASE as it is. KEY_READ_DONE with both tests passed and the log rebuilt ends in UNCONFIGURED with cause 1 for a JEDEC ID of 0, and for a supported key with a valid header in step 6 with the chosen slot shown and its header taken. IMAGE_VERIFIED in step 6 ends in step 7 with the sections of the image, or in UNCONFIGURED with the cause of the verdict on the image. IMAGE_APPLIED in step 7 ends in step 8 with the image's generation and CRC shown and both engines in their self-test. GATE_SUPPLY_GROUP without failed channels reports the links of its group good and opens the next window. READY_REACHED when every activity of step 8 has ended leaves STARTING, sets GD.STATUS.STARTED and drops the windows of R88. KEY_CHECK_PERIOD opens the next window and, when ID and header are those of the start, changes no fault; in READY, RUN, SERVICE or SAFE without KEY_WRITE, a first difference sets KEY_CHANGED and its fault. PLL_BACKUP_LOCK after XTAL_FAIL sets ON_BACKUP and PLL_LOCK. -/
def Obligations.StartSteps : Prop :=
  (∀ (s : State) (pass : Bool) (t : Nat), s.module = .starting → s.vn .startStep = 1 → s.vn .injectOk = 0 → s.vn .memoryOk = 0 → 
    Completes (.injectionTestDone pass t) s fun u => u.vn .injectOk = (if pass then 1 else 2) ∧ u.fb Reg.CORE_STATUS_INJECT_OK = pass ∧ u.module = .starting) ∧
  (∀ (s : State) (t : Nat), s.module = .starting → s.vn .startStep = 1 → s.vn .injectOk = 0 → s.vn .memoryOk ≠ 0 → 
    Completes (.injectionTestDone false t) s fun u => u.module = .unconfigured ∧ u.f Reg.START_KEY_STATUS_CAUSE = 8 ∧ u.vn .startStep = 0) ∧
  (∀ (s : State) (pass : Bool) (t : Nat), s.module = .starting → s.vn .startStep = 1 → s.vn .injectOk = 0 → s.vn .memoryOk = 0 → 
    Completes (.memoryTestDone pass t) s fun u => u.vn .memoryOk = (if pass then 1 else 2) ∧ u.module = .starting) ∧
  (∀ (s : State) (t : Nat), s.module = .starting → s.vn .startStep = 1 → s.vn .injectOk = 1 → s.vn .memoryOk = 0 → 
    Completes (.memoryTestDone false t) s fun u => u.module = .unconfigured ∧ u.f Reg.START_KEY_STATUS_CAUSE = 9 ∧ u.vn .startStep = 0) ∧
  (∀ (s : State) (t : Nat), s.module = .starting → s.vn .startStep = 1 → s.vn .memoryOk = 1 → s.on .logBuilt = false → s.vn .keyFound = 0 → s.vn .injectOk = 0 → s.log.recs = [] → 
    Completes (.logRebuild [] ⟨true, false⟩ ⟨true, false⟩ t) s fun u => u.on .logBuilt = true ∧ u.module = .starting ∧ u.log.base = s.log.base) ∧
  (∀ (s : State) (key : KeyObs) (t : Nat), s.module = .starting → s.vn .startStep = 1 → s.vn .injectOk = 1 → s.vn .memoryOk = 1 → s.on .logBuilt = true → s.vn .keyFound = 0 → key.jedec = 0 → 
    Completes (.keyReadDone key t) s fun u => u.module = .unconfigured ∧ u.f Reg.START_KEY_STATUS_CAUSE = 1) ∧
  (∀ (s : State) (key : KeyObs) (t : Nat), s.module = .starting → s.vn .startStep = 1 → s.vn .injectOk = 1 → s.vn .memoryOk = 1 → s.on .logBuilt = true → s.vn .keyFound = 0 → key.jedec = 0x123456 → key.sfdp = 0x50444653 → key.capacity = 16 → key.contents = none → s.chosenSlot.isSome = true → 
    Completes (.keyReadDone key t) s fun u => u.module = .starting ∧ u.vn .startStep = 6 ∧ u.f Reg.START_KEY_STATUS_SLOT = s.chosenSlot.getD 0
    ∧ u.header = s.keyBytes (slotBase (s.chosenSlot.getD 0)) 512) ∧
  (∀ (s : State) (bad1 : List Nat) (bad2 : List Nat) (t : Nat), s.module = .starting → s.vn .startStep = 6 → 
    Completes (.imageVerified bad1 bad2 t) s fun u => (let img := s.keyBytes (slotBase (s.f Reg.START_KEY_STATUS_SLOT)) (hdrLength s.header)
     let v := ({ s with now := max s.now t } : State).verdict img bad1 bad2
     if v.cause = 0 then u.module = .starting ∧ u.vn .startStep = 7 ∧ u.image = sectionsOf img
     else u.module = .unconfigured ∧ u.f Reg.START_KEY_STATUS_CAUSE = v.cause % 16)) ∧
  (∀ (s : State) (t : Nat), s.module = .starting → s.vn .startStep = 7 → 
    Completes (.imageApplied t) s fun u => u.module = .starting ∧ u.vn .startStep = 8 ∧ u.on .imageApplied = true ∧ u.f Reg.START_IMAGE_GEN = hdrGeneration s.header
    ∧ u.f Reg.START_IMAGE_CRC = hdrCrc s.header ∧ u.f Reg.FO_STATUS_STATE_A = 2 ∧ u.f Reg.FO_STATUS_STATE_B = 2) ∧
  (∀ (s : State), s.isOpen .supplyStep = true → (s.supplyGroups[s.vn .supplyGroup]?).isSome = true → 
    Completes (.gateSupplyGroup []) s fun u => (∀ n ∈ (s.supplyGroups[s.vn .supplyGroup]?).getD [], u.fb Reg.CH_STATUS_LINK_OK (2 * n) = true ∧ u.fb Reg.CH_STATUS_LINK_OK (2 * n + 1) = true)
    ∧ u.isOpen .supplyStep = true ∧ u.vn .supplyGroup = s.vn .supplyGroup + 1) ∧
  (∀ (s : State) (others : StepEight) (t : Nat), s.step8Ended others = true → 
    Completes (.readyReached others t) s fun u => u.module ≠ .starting ∧ u.vn .startStep = 0 ∧ u.fb Reg.GD_STATUS_STARTED = true ∧ u.denials = []) ∧
  (∀ (s : State) (found : Option (Nat × List Byte)), s.isOpen .keyCheck = true → s.keyDiffers found = false → 
    Completes (.keyCheckPeriod found) s fun u => u.endOf .keyCheck = max s.now (s.endOf .keyCheck) / 3000 * 3000 + sec (s.f Reg.START_KEY_CHECK_PERIOD) ∧ u.causes = s.causes) ∧
  (∀ (s : State) (found : Option (Nat × List Byte)), s.keyDiffers found = true → s.isOpen .keyCheck = true → 5 ≤ s.module.code → s.keyBusy = false → s.fb Reg.START_KEY_STATUS_KEY_CHANGED = false → 
    Completes (.keyCheckPeriod found) s fun u => u.fb Reg.START_KEY_STATUS_KEY_CHANGED = true ∧ u.present Ev.KEY_CHANGED = true) ∧
  (∀ (s : State) (t : Nat), s.fb Reg.CLK_STATUS_XTAL_FAIL = true → s.fb Reg.CLK_STATUS_ON_BACKUP = false → 
    Completes (.pllBackupLock t) s fun u => u.fb Reg.CLK_STATUS_ON_BACKUP = true ∧ u.fb Reg.CLK_STATUS_PLL_LOCK = true ∧ u.now = max s.now t)

/-- What the commands of the start leave unchanged. A command that takes the module from or to OFF, SHIP or SLEEP, or that begins a start, leaves the records of the log, the key's memory, what has been sent, and the words that are kept over the loss of power; loss of VAUX elsewhere changes the queue, KEY_WRITE's words, the key's bytes, the pending generation and what a report changes. The end of the sleep idle window changes no part and no parameter word. The checks of the start change the words named for each here (of START, of LOG and of pair S), the key findings, the image and what a report changes (the injection test what a reaction changes), and, when the start fails, the module state, the CAN queues, the CAN and fabric port states and the PLL's lock. The application of the image changes beside words, windows and internal quantities only the sections held, what is sent and the release buffer, and none of the kept words. READY with no early CAN frame held changes its own words of START, the gate drive, the delay lines and CAN, and what safe torque off and a reaction change. A gate-supply check and a key check change only their own words and what a reaction changes; the PLL's lock to the backup oscillator the CAN and port words and what ports hold and send. -/
def Obligations.StartFrames : Prop :=
  (∀ (s : State) (t : Nat), Framed (.vauxValid t) s (Survives)) ∧
  (∀ (s : State) (t : Nat), s.module = .sleep ∨ s.module = .ship → Framed (.vauxInvalid t) s (Survives)) ∧
  (∀ (s : State) (t : Nat), s.module ≠ .sleep → s.module ≠ .ship → Framed (.vauxInvalid t) s (Keeps (reportComps ++ ([.keyMem] : List Comp)) (reportFlds ++ ([one Reg.START_KEY_WRITE_STATUS_FAIL, one Reg.START_KEY_WRITE_STATUS_STATE, one Reg.START_PENDING_GEN] : List Place)))) ∧
  (∀ (s : State) (t : Nat), Framed (.holdupEnd t) s (Survives)) ∧
  (∀ (s : State) (t : Nat), Framed (.wake t) s (Survives)) ∧
  (∀ (s : State) (channel : Fin 4) (t : Nat), Framed (.canWakePattern channel t) s (Survives)) ∧
  (∀ (s : State) (port : Fin 4) (t : Nat), Framed (.fabricWakeSignal port t) s (Survives)) ∧
  (∀ (s : State) (t : Nat), Framed (.sleepEntered t) s (Survives)) ∧
  (∀ (s : State) (t : Nat), Framed (.shipEntered t) s (Survives)) ∧
  (∀ (s : State) (t : Nat), Framed (.restartBegin t) s (Survives)) ∧
  (∀ (s : State), Framed (.sleepIdleExpired) s (Keeps [] [])) ∧
  (∀ (s : State) (pass : Bool) (t : Nat), Framed (.memoryTestDone pass t) s (Keeps (reportComps ++ ([.canHold, .canRx, .canTx, .module] : List Comp)) (reportFlds ++ ([all Reg.CAN_STATUS_STATE 4, one Reg.CLK_STATUS_PLL_LOCK, all Reg.FAB_PORT_STATUS_STATE 4, one Reg.FAB_STATUS_BLOCKED, one Reg.FAB_STATUS_TRANSIT, one Reg.FAB_STATUS_VERIFIED, one Reg.START_KEY_STATUS_CAUSE, all Reg.CAN_STATUS_Q0_FILL 4, all Reg.CAN_STATUS_Q1_FILL 4, all Reg.CAN_STATUS_TX_FILL 4] : List Place)))) ∧
  (∀ (s : State) (pass : Bool) (t : Nat), Framed (.injectionTestDone pass t) s (Keeps (reactionComps ++ ([.canHold, .canRx, .canTx] : List Comp)) (reactionFlds ++ ([all Reg.CAN_STATUS_STATE 4, one Reg.CLK_STATUS_PLL_LOCK, one Reg.CORE_STATUS_INJECT_OK, one Reg.CORE_STATUS_REPEAT_WINDOW, one Reg.CORE_STATUS_RESTART_HOLD, one Reg.CORE_STATUS_S_STATE, all Reg.FAB_PORT_STATUS_STATE 4, one Reg.FAB_STATUS_BLOCKED, one Reg.FAB_STATUS_TRANSIT, one Reg.FAB_STATUS_VERIFIED, one Reg.START_KEY_STATUS_CAUSE, all Reg.CAN_STATUS_Q0_FILL 4, all Reg.CAN_STATUS_Q1_FILL 4, all Reg.CAN_STATUS_TX_FILL 4] : List Place)))) ∧
  (∀ (s : State) (damage : List (Nat × List Byte)) (copyA : MgmtCopy) (copyB : MgmtCopy) (t : Nat), Framed (.logRebuild damage copyA copyB t) s (Keeps (reportComps ++ ([.canHold, .canRx, .canTx, .module] : List Comp)) (reportFlds ++ ([one Reg.LOG_COUNTERS 0, one Reg.LOG_COUNTERS 3, all Reg.CAN_STATUS_STATE 4, one Reg.CLK_STATUS_PLL_LOCK, all Reg.FAB_PORT_STATUS_STATE 4, one Reg.FAB_STATUS_BLOCKED, one Reg.FAB_STATUS_TRANSIT, one Reg.FAB_STATUS_VERIFIED, one Reg.LOG_CURSOR_OFFSET, one Reg.START_KEY_STATUS_CAUSE, all Reg.CAN_STATUS_Q0_FILL 4, all Reg.CAN_STATUS_Q1_FILL 4, all Reg.CAN_STATUS_TX_FILL 4] : List Place)))) ∧
  (∀ (s : State) (key : KeyObs) (t : Nat), Framed (.keyReadDone key t) s (Keeps (reportComps ++ ([.canHold, .canRx, .canTx, .early, .header, .keyMem, .keyObs, .module, .causes] : List Comp)) (reportFlds ++ ([all Reg.CAN_STATUS_STATE 4, one Reg.CLK_STATUS_PLL_LOCK, all Reg.FAB_PORT_STATUS_STATE 4, one Reg.FAB_STATUS_BLOCKED, one Reg.FAB_STATUS_TRANSIT, one Reg.FAB_STATUS_VERIFIED, one Reg.START_KEY_STATUS_CAPACITY, one Reg.START_KEY_STATUS_CAUSE, one Reg.START_KEY_STATUS_EARLY_CAN, one Reg.START_KEY_STATUS_PROTECTED, one Reg.START_KEY_STATUS_READ_MODE, one Reg.START_KEY_STATUS_SLOT, one Reg.START_KEY_STATUS_SLOT_A_HDR, one Reg.START_KEY_STATUS_SLOT_B_HDR, all Reg.CAN_STATUS_Q0_FILL 4, all Reg.CAN_STATUS_Q1_FILL 4, all Reg.CAN_STATUS_TX_FILL 4] : List Place)))) ∧
  (∀ (s : State) (bad1 : List Nat) (bad2 : List Nat) (t : Nat), Framed (.imageVerified bad1 bad2 t) s (Keeps (reportComps ++ ([.canHold, .canRx, .canTx, .image, .module] : List Comp)) (reportFlds ++ ([all Reg.CAN_STATUS_STATE 4, all Reg.FAB_PORT_STATUS_STATE 4, one Reg.FAB_STATUS_BLOCKED, one Reg.FAB_STATUS_TRANSIT, one Reg.FAB_STATUS_VERIFIED, one Reg.START_KEY_STATUS_CAUSE, one Reg.START_KEY_STATUS_REREAD, one Reg.START_TIMES_VERIFIED_AT, all Reg.CAN_STATUS_Q0_FILL 4, all Reg.CAN_STATUS_Q1_FILL 4, all Reg.CAN_STATUS_TX_FILL 4] : List Place)))) ∧
  (∀ (s : State) (t : Nat), Framed (.imageApplied t) s (fun a b => (∀ c : Comp, c ∉ ([.image, .out, .release] : List Comp) → c.same a b) ∧ ∀ key, keptWord false key = true → b.word key = a.word key)) ∧
  (∀ (s : State) (tests : List ChTest), Framed (.gateSupplyGroup tests) s (Keeps reactionComps (reactionFlds ++ ([all Reg.CH_STATUS_LINK_OK 64, all Reg.CH_STATUS_START_FAIL 64, all Reg.CH_STATUS_SUPPLY_ON 64, one Reg.GD_STATUS_LV_RAIL_OK, one Reg.GD_STATUS_START_FAIL] : List Place)))) ∧
  (∀ (s : State) (found : Option (Nat × List Byte)), Framed (.keyCheckPeriod found) s (Keeps reactionComps (reactionFlds ++ ([one Reg.START_KEY_STATUS_KEY_CHANGED] : List Place)))) ∧
  (∀ (s : State) (t : Nat), Framed (.pllBackupLock t) s (Keeps [.egress, .out, .causes] [all Reg.FAB_PORT_COUNTERS 4 8, all Reg.CAN_STATUS_STATE 4, one Reg.CLK_STATUS_ON_BACKUP, one Reg.CLK_STATUS_PLL_LOCK, all Reg.FAB_PORT_DELAY_DELAY 4, all Reg.FAB_PORT_DELAY_MEASURED 4, all Reg.FAB_PORT_PEER 4 2, all Reg.FAB_PORT_STATUS_DOWNSTREAM 4, all Reg.FAB_PORT_STATUS_MASTER 4, all Reg.FAB_PORT_STATUS_PHY_LINK 4, all Reg.FAB_PORT_STATUS_STATE 4, all Reg.FAB_PORT_STATUS_UPSTREAM 4, one Reg.FAB_STATUS_BLOCKED, one Reg.FAB_STATUS_VERIFIED, all Reg.FAB_PORT_STATUS_LOOPBACK 4])) ∧
  (∀ (s : State) (others : StepEight) (t : Nat), s.canRx = [] → Framed (.readyReached others t) s (Keeps (reactionComps ++ ([.canTx, .denials, .free] : List Comp)) (reactionFlds ++ stoFlds ++ canFlds ++ ([all Reg.FO_RB_DELAY 64, one Reg.GD_STATUS_STARTED, one Reg.PULSE_DLL_LOCKED, one Reg.PULSE_DLL_SPAN, all Reg.START_CAN_STALE 4, one Reg.START_TIMES_READY_AT] : List Place))))

/-- Completion of the hard clock faults, the discipline limits, the interconnect and the scrubber. XTAL_FAIL, PLL_UNLOCK and a CLOCK_COUNT outside its expected count by more than 1, each where its own status bit is clear, set that bit (CLOCK_COUNT also FAILED_CLOCK, the other two also clear PLL_LOCK), set the hard clock latch and the discipline state FREE (the first two also correction 0), clear all gate enables and set the fault's cause. HOLDOVER_EXPIRED in HOLDOVER ends at the window's end in FREE with the correction unchanged. CORRECTION_LIMIT at the end of its window sets its cause. INTERCONNECT_GRANT of one waiting write that its quota or the posted write buffer admits once the bus is free takes its wait into its class's MAX_WAIT, makes it the last one served of its class, leaves SHAPED of the class and holds the bus for its beats, and a write to MRAM takes a place of the posted write buffer. SCRUB_BLOCK at the end of its us, with room in the posted write buffer, advances the scrub address by 128 bytes modulo 4 MiB and opens the next us, a corrected word is counted, and a double error is counted and sets ECC_UNCORRECTABLE; with the buffer full and nothing else waiting its block waits: the address stays and the next us opens. -/
def Obligations.ClockEvents : Prop :=
  (∀ (s : State), s.isOpen .holdover = true → s.disc = 3 → 
    Completes (.holdoverExpired) s fun u => u.f Reg.CLK_STATUS_STATE = 0 ∧ u.f Reg.CLK_CORRECTION = s.f Reg.CLK_CORRECTION ∧ u.now = max s.now (s.endOf .holdover)) ∧
  (∀ (s : State), s.isOpen .corrLimit = true → 
    Completes (.correctionLimit) s fun u => u.present Ev.CORRECTION_LIMIT = true ∧ u.now = max s.now (s.endOf .corrLimit)) ∧
  (∀ (s : State), s.fb Reg.CLK_STATUS_XTAL_FAIL = false → 
    Completes (.xtalFail) s fun u => u.fb Reg.CLK_STATUS_XTAL_FAIL = true ∧ u.fb Reg.CLK_STATUS_PLL_LOCK = false ∧ u.on .hardClock = true ∧ u.f Reg.CLK_STATUS_STATE = 0
    ∧ u.f Reg.CLK_CORRECTION = 0 ∧ u.f Reg.GD_STATUS_ENABLE_SG = 0 ∧ u.present Ev.XTAL_FAIL = true) ∧
  (∀ (s : State), s.fb Reg.CLK_STATUS_PLL_FAIL = false → 
    Completes (.pllUnlock) s fun u => u.fb Reg.CLK_STATUS_PLL_FAIL = true ∧ u.fb Reg.CLK_STATUS_PLL_LOCK = false ∧ u.on .hardClock = true ∧ u.f Reg.CLK_STATUS_STATE = 0
    ∧ u.f Reg.CLK_CORRECTION = 0 ∧ u.f Reg.GD_STATUS_ENABLE_SG = 0 ∧ u.present Ev.PLL_UNLOCK = true) ∧
  (∀ (s : State) (clock : Fin 7) (count : Nat), s.fb Reg.CLK_STATUS_COUNT_FAIL = false → count + 1 < clockExpect clock.val ∨ clockExpect clock.val + 1 < count → 
    Completes (.clockCount clock count) s fun u => u.fb Reg.CLK_STATUS_COUNT_FAIL = true ∧ u.f Reg.CLK_STATUS_FAILED_CLOCK = clock.val ∧ u.on .hardClock = true
    ∧ u.f Reg.CLK_STATUS_STATE = 0 ∧ u.f Reg.GD_STATUS_ENABLE_SG = 0 ∧ u.present Ev.CLOCK_COUNT = true) ∧
  (∀ (s : State) (r : BusReq) (drained : Nat) (t : Nat), s.vn .scrubWait = 0 → ¬(busClass r = 6 ∧ r.who = 1) → (((s.arrive t).drainPosted drained).awaitBus).mayGrant r = true → r.write = true → r.who < 16 → s.vn .grantPlace (busClass r) < 16 → r.waited < 2 ^ 32 →
    Completes (.interconnectGrant [r] drained t) s fun u => u.f Reg.ARB_MAX_WAIT (busClass r) = max (s.f Reg.ARB_MAX_WAIT (busClass r)) r.waited ∧ u.vn .rrLast (busClass r) = r.who
    ∧ u.f Reg.ARB_SHAPED (busClass r) = s.f Reg.ARB_SHAPED (busClass r) ∧ u.vn .busFree = coreCycle u.now + s.beatsOf r
    ∧ u.vn .posted = (if busClass r = 6 ∧ r.mram = true then s.vn .posted - drained + 1 else s.vn .posted - drained)) ∧
  (∀ (s : State) (a : Nat), s.isOpen .scrub = true → s.vn .scrubWait = 0 → s.vn .posted < 4 →
    Completes (.scrubBlock { ecc := .single a }) s fun u => u.vn .scrubAddr = (s.vn .scrubAddr + 128) % 2 ^ 22 ∧ u.f Reg.ARB_ECC_CORRECTED = s.plus Reg.ARB_ECC_CORRECTED ∧ u.isOpen .scrub = true) ∧
  (∀ (s : State) (a : Nat), s.isOpen .scrub = true → s.vn .scrubWait = 0 → s.vn .posted < 4 →
    Completes (.scrubBlock { ecc := .double a }) s fun u => u.vn .scrubAddr = (s.vn .scrubAddr + 128) % 2 ^ 22 ∧ u.f Reg.ARB_ECC_UNCORRECTABLE = s.plus Reg.ARB_ECC_UNCORRECTABLE
    ∧ u.present Ev.ECC_UNCORRECTABLE = true ∧ u.isOpen .scrub = true) ∧
  (∀ (s : State), s.isOpen .scrub = true → s.vn .scrubWait = 0 → s.vn .posted < 4 →
    Completes (.scrubBlock { ecc := .ok }) s fun u => u.vn .scrubAddr = (s.vn .scrubAddr + 128) % 2 ^ 22 ∧ u.isOpen .scrub = true) ∧
  (∀ (s : State) (b : ScrubBlock), s.isOpen .scrub = true → 4 ≤ s.vn .posted → b.waiting = [] →
    Completes (.scrubBlock b) s fun u => u.vn .scrubAddr = s.vn .scrubAddr ∧ u.vn .scrubWait = s.vn .scrubWait + 2 ∧ u.isOpen .scrub = true)

/-- What the clock and arbitration commands leave unchanged. HOLDOVER_EXPIRED changes, beside what a report and a reaction change, only the discipline's state, its hold-over time and LOCK_LOSSES; CORRECTION_LIMIT nothing beside them; the three hard clock faults beside them only the clock status words, the correction, LOCK_LOSSES and the gate-enable flags; a grant beside them only MAX_WAIT, SHAPED and the error counters of the memories, and a scrub only those error counters. -/
def Obligations.ClockFrames : Prop :=
  (∀ (s : State), Framed (.holdoverExpired) s (Keeps reactionComps (reactionFlds ++ ([one Reg.CLK_LOCK_LOSSES, one Reg.CLK_STATUS_HOLDOVER_S, one Reg.CLK_STATUS_STATE] : List Place)))) ∧
  (∀ (s : State), Framed (.correctionLimit) s (Keeps reactionComps reactionFlds)) ∧
  (∀ (s : State), Framed (.xtalFail) s (Keeps reactionComps (reactionFlds ++ ([all Reg.CH_STATUS_ENABLE 64, one Reg.CLK_CORRECTION, one Reg.CLK_LOCK_LOSSES, one Reg.CLK_STATUS_CORR_LIMIT, one Reg.CLK_STATUS_HOLDOVER_S, one Reg.CLK_STATUS_PLL_LOCK, one Reg.CLK_STATUS_STATE, one Reg.CLK_STATUS_XTAL_FAIL, one Reg.GD_STATUS_ENABLE_SG] : List Place)))) ∧
  (∀ (s : State), Framed (.pllUnlock) s (Keeps reactionComps (reactionFlds ++ ([all Reg.CH_STATUS_ENABLE 64, one Reg.CLK_CORRECTION, one Reg.CLK_LOCK_LOSSES, one Reg.CLK_STATUS_CORR_LIMIT, one Reg.CLK_STATUS_HOLDOVER_S, one Reg.CLK_STATUS_PLL_FAIL, one Reg.CLK_STATUS_PLL_LOCK, one Reg.CLK_STATUS_STATE, one Reg.GD_STATUS_ENABLE_SG] : List Place)))) ∧
  (∀ (s : State) (clock : Fin 7) (count : Nat), Framed (.clockCount clock count) s (Keeps reactionComps (reactionFlds ++ ([all Reg.CH_STATUS_ENABLE 64, one Reg.CLK_CORRECTION, one Reg.CLK_LOCK_LOSSES, one Reg.CLK_STATUS_CORR_LIMIT, one Reg.CLK_STATUS_COUNT_FAIL, one Reg.CLK_STATUS_FAILED_CLOCK, one Reg.CLK_STATUS_HOLDOVER_S, one Reg.CLK_STATUS_STATE, one Reg.GD_STATUS_ENABLE_SG] : List Place)))) ∧
  (∀ (s : State) (waiting : List BusReq) (drained : Nat) (t : Nat), Framed (.interconnectGrant waiting drained t) s (Keeps reactionComps (reactionFlds ++ ([one Reg.ARB_ECC_CORRECTED, one Reg.ARB_ECC_UNCORRECTABLE, all Reg.ARB_MAX_WAIT 7, all Reg.ARB_SHAPED 7] : List Place)))) ∧
  (∀ (s : State) (b : ScrubBlock), Framed (.scrubBlock b) s (Keeps reactionComps (reactionFlds ++ ([one Reg.ARB_ECC_CORRECTED, one Reg.ARB_ECC_UNCORRECTABLE, all Reg.ARB_MAX_WAIT 7, all Reg.ARB_SHAPED 7] : List Place))))

/-- Completion of slice rotation, overrange, buffers, substitution, housekeeping and excitation peaks. SLICE_SWAP at the end of a rotation window puts a slice that has passed into the positions of the one next due to leave, which goes into calibration, shows it in CAL_SLICE, clears FAILED and opens the next windows; with none passed the next rotation window opens, and no register and no slice of the rotation changes. SLICE_CAL_DONE with raw errors within Table 4-1 keeps them as the slice's coefficients and changes no register; with errors outside it counts in CAL_FAILS and opens the next calibration, and a first failure sets DEGRADED, CAL_SLICE 15, FAILED and SLICE_CAL_FAIL and opens STALE_LIMIT, while a further one changes no cause. CAL_STALE at the end of its window sets STALE and its cause. INPUT_OVERRANGE after OVR_FILTER overrange results sets its cause. DMA_BURST_WRITTEN of a core whose sequencer waits, with one entry in its FIFO that is the last result before a satisfied wait, writes its bytes to SRAM little endian at WRPTR, advances WRPTR and empties the FIFO. DMA_OVERFLOW of a core whose sequencer waits, with 128 entries in its FIFO and one result that arrives for an open buffer, counts the result in DMA_LOST, drops it and sets DMA_OVERFLOW; of such a core with an empty FIFO it changes neither. BUFFER_FROZEN with POST entries written sets FROZEN, FREEZE (the model's choice, log entry 172) and its cause. SUBSTITUTE_EVENT of a stage whose carrier does not run comes IDLE_PERIOD, as a middle half of it, after the base, takes it as the next base, or notes the middle. HK_ROUND at the end of its period counts, and with position 0 enabled stores its code, round, VALID and OUT and opens the next period. EXCITATION_PEAK at its instant turns the sign of the next, half a period later, and restarts each accumulator of the resolver's core that selects both peaks. -/
def Obligations.SamplingEvents : Prop :=
  (∀ (s : State) (core : Fin 4), s.isOpen .rotate core.val = true → s.on .calPass core.val = true →
    Completes (.sliceSwap core) s fun u => u.f Reg.SMP_CORE_STATUS_CAL_SLICE core.val = s.vn .nextLeave core.val % 16 ∧ u.vn .nextLeave core.val = (s.vn .nextLeave core.val + 1) % 9
    ∧ u.f Reg.SMP_CORE_STATUS_FAILED core.val = 0 ∧ u.on .calPass core.val = false ∧ u.isOpen .rotate core.val = true ∧ u.isOpen .calEnd core.val = true
    ∧ ∀ k ∈ List.range 8, u.sliceAt core.val k = if s.sliceAt core.val k = s.vn .nextLeave core.val then s.vn .calSlice core.val else s.sliceAt core.val k) ∧
  (∀ (s : State) (core : Fin 4), s.isOpen .rotate core.val = true → s.on .calPass core.val = false →
    Completes (.sliceSwap core) s fun u => u.isOpen .rotate core.val = true ∧ (∀ k < 8, u.sliceAt core.val k = s.sliceAt core.val k) ∧ u.vn .calSlice core.val = s.vn .calSlice core.val
    ∧ u.vn .nextLeave core.val = s.vn .nextLeave core.val ∧ u.regs = s.regs) ∧
  (∀ (s : State) (core : Fin 4) (offset gain skew : Int), s.isOpen .calEnd core.val = true → s.vn .calSlice core.val < 9 → calWithin offset gain skew = true →
    Completes (.sliceCalDone core offset gain skew) s fun u => (let i := core.val * 9 + s.vn .calSlice core.val
     u.on .calPass core.val = true ∧ u.v .sliceOffset i = offset ∧ u.v .sliceGain i = gain ∧ u.v .sliceSkew i = skew ∧ u.regs = s.regs)) ∧
  (∀ (s : State) (core : Fin 4) (offset gain skew : Int), s.isOpen .calEnd core.val = true → calWithin offset gain skew = false → s.f Reg.SMP_CORE_STATUS_FAILED core.val = 0 →
    Completes (.sliceCalDone core offset gain skew) s fun u => u.f Reg.SMP_CAL_FAILS core.val = s.plus Reg.SMP_CAL_FAILS core.val ∧ u.fb Reg.SMP_CORE_STATUS_DEGRADED core.val = true
    ∧ u.f Reg.SMP_CORE_STATUS_CAL_SLICE core.val = 15 ∧ u.f Reg.SMP_CORE_STATUS_FAILED core.val = 2 ^ s.vn .calSlice core.val % 2 ^ 9
    ∧ u.present Ev.SLICE_CAL_FAIL core.val = true ∧ u.isOpen .calEnd core.val = true ∧ u.isOpen .calStale core.val = true) ∧
  (∀ (s : State) (core : Fin 4) (offset gain skew : Int), s.isOpen .calEnd core.val = true → calWithin offset gain skew = false → s.f Reg.SMP_CORE_STATUS_FAILED core.val ≠ 0 →
    Completes (.sliceCalDone core offset gain skew) s fun u => u.f Reg.SMP_CAL_FAILS core.val = s.plus Reg.SMP_CAL_FAILS core.val ∧ u.isOpen .calEnd core.val = true ∧ u.causes = s.causes) ∧
  (∀ (s : State) (core : Fin 4), s.isOpen .calStale core.val = true → 
    Completes (.calStale core) s fun u => u.fb Reg.SMP_CORE_STATUS_STALE core.val = true ∧ u.present Ev.CAL_STALE core.val = true ∧ u.now = max s.now (s.endOf .calStale core.val)) ∧
  (∀ (s : State) (input : Fin 80), s.f Reg.SMP_AI_CFG_OVR_FILTER input.val ≤ s.vn .ovrRun input.val → s.present Ev.INPUT_OVERRANGE input.val = false → 
    Completes (.inputOverrange input) s fun u => u.present Ev.INPUT_OVERRANGE input.val = true) ∧
  (∀ (s : State) (core : Fin 4) (conv : List Int) (t : Nat) (e : DmaEntry), s.on .seqWait core.val = true ∨ s.f Reg.SMP_CORE_CFG_TABLE_LEN core.val = 0 → s.dmaFifo = [e] → e.core = core.val → e.here = true → e.last = true → e.buf < 16 → s.f Reg.SMP_BUF_CFG_SIZE_LOG2 (16 * core.val + e.buf) ≠ 0 → s.fb Reg.SMP_BUF_CONTROL_FROZEN (16 * core.val + e.buf) = false → s.on .bufTrig (16 * core.val + e.buf) = false → 
    Completes (.dmaBurstWritten ⟨core, conv, t⟩) s fun u => (let k := 16 * core.val + e.buf
     let i := s.f Reg.SMP_BUF_WRPTR_INDEX k
     u.dmaFifo = [] ∧ u.now = max s.now t ∧ u.f Reg.SMP_BUF_WRPTR_INDEX k = (i + 1) % 2 ^ s.f Reg.SMP_BUF_CFG_SIZE_LOG2 k % 2 ^ 16
     ∧ ∀ b ∈ List.range 4, Store.get State.ramReset u.sram (s.f Reg.SMP_BUF_CFG_BASE k * 256 + 4 * i + b) = BitVec.ofNat 8 (e.entry.toNat / 2 ^ (8 * b)))) ∧
  (∀ (s : State) (core : Fin 4) (conv : List Int) (t : Nat) (e : DmaEntry), 128 ≤ (s.fifo core.val).length →
    (s.dmaFifo.filter fun x => x.core == core.val && !x.here) = [e] → e.due ≤ sampleCycle (max s.now t) → s.bufClosed (16 * core.val + e.buf) = false → s.on .seqWait core.val = true ∨ s.f Reg.SMP_CORE_CFG_TABLE_LEN core.val = 0 →
    Completes (.dmaOverflow core conv t) s fun u => u.f Reg.SMP_DMA_LOST core.val = s.plus Reg.SMP_DMA_LOST core.val ∧ u.dmaFifo = s.dmaFifo.erase e ∧ u.present Ev.DMA_OVERFLOW core.val = true
    ∧ u.now = max s.now t) ∧
  (∀ (s : State) (core : Fin 4) (conv : List Int) (t : Nat), (s.dmaFifo.filter fun x => x.core == core.val) = [] → s.on .seqWait core.val = true ∨ s.f Reg.SMP_CORE_CFG_TABLE_LEN core.val = 0 →
    Completes (.dmaOverflow core conv t) s fun u => u.f Reg.SMP_DMA_LOST core.val = s.f Reg.SMP_DMA_LOST core.val ∧ u.dmaFifo = s.dmaFifo ∧ u.now = max s.now t) ∧
  (∀ (s : State) (buffer : Fin 64), s.on .bufTrig buffer.val = true → s.vn .bufPost buffer.val = 0 → s.fb Reg.SMP_BUF_CONTROL_FROZEN buffer.val = false → 
    Completes (.bufferFrozen buffer) s fun u => u.fb Reg.SMP_BUF_CONTROL_FROZEN buffer.val = true ∧ u.fb Reg.SMP_BUF_CONTROL_FREEZE buffer.val = true ∧ u.present Ev.BUFFER_FROZEN buffer.val = true) ∧
  (∀ (s : State) (core : Fin 4) (stage : Stage) (conv : List Conv), s.fb Reg.PULSE_STATUS_RUN stage.idx = false → s.powered = true → (∀ c ∈ List.range 4, s.vn .seqEntry c < 512) → 
    Completes (.substituteEvent core stage false conv) s fun u => (let at' := s.vn .substBase (core.val * 8 + stage.idx) + us (s.f Reg.SMP_CORE_CFG_IDLE_PERIOD core.val)
     u.now = max s.now at' ∧ u.vn .substBase (core.val * 8 + stage.idx) = at' ∧ u.on .substMid (core.val * 8 + stage.idx) = false)) ∧
  (∀ (s : State) (core : Fin 4) (stage : Stage) (conv : List Conv), s.fb Reg.PULSE_STATUS_RUN stage.idx = false → s.powered = true → (∀ c ∈ List.range 4, s.vn .seqEntry c < 512) → s.on .substMid (core.val * 8 + stage.idx) = false → 
    Completes (.substituteEvent core stage true conv) s fun u => u.now = max s.now (s.vn .substBase (core.val * 8 + stage.idx) + us (s.f Reg.SMP_CORE_CFG_IDLE_PERIOD core.val) / 2)
    ∧ u.on .substMid (core.val * 8 + stage.idx) = true) ∧
  (∀ (s : State) (code : Int) (codes : List Int), s.isOpen .hkRound = true → (s.f Reg.HK_MASK).testBit 0 = true →
    Completes (.hkRound (code :: codes)) s fun u => u.f Reg.HK_ROUNDS = s.plus Reg.HK_ROUNDS ∧ u.f Reg.HK_P_RESULT_CODE 0 = (clampI 0 4095 code).toNat
    ∧ u.f Reg.HK_P_RESULT_ROUND 0 = s.f Reg.HK_ROUNDS % 2 ^ Reg.HK_P_RESULT_ROUND.width
    ∧ u.fb Reg.HK_P_RESULT_VALID 0 = true ∧ u.fb Reg.HK_P_RESULT_OUT 0 = !s.hkInside 0 (clampI 0 4095 code)
    ∧ u.endOf .hkRound = max s.now (s.endOf .hkRound) / 3000 * 3000 + us (100 * s.f Reg.HK_CFG_PERIOD)) ∧
  (∀ (s : State) (codes : List Int), s.isOpen .hkRound = true →
    Completes (.hkRound codes) s fun u => u.f Reg.HK_ROUNDS = s.plus Reg.HK_ROUNDS ∧ u.now = max s.now (s.endOf .hkRound)) ∧
  (∀ (s : State) (resolver : Fin 2) (conv : List Conv) (a : Fin 32), s.isOpen .excPeak resolver.val = true → s.vn .seqEntry resolver.val < 512 → s.vn .evLast (resolver.val * 8 + 7) % 2 = 0 →
    s.f Reg.SMP_ACC_CFG_LATCH_SRC (32 * resolver.val + a.val) = 7 → s.f Reg.SMP_ACC_CFG_LATCH_EVT (32 * resolver.val + a.val) = 3 →
    Completes (.excitationPeak resolver conv) s fun u => u.now = max s.now (s.endOf .excPeak resolver.val) ∧ u.v .accSum (32 * resolver.val + a.val) = 0 ∧ u.vn .accCount (32 * resolver.val + a.val) = 0
    ∧ u.on .excNeg resolver.val = !s.on .excNeg resolver.val ∧ u.due .excPeak resolver.val = some (s.endOf .excPeak resolver.val + s.excPeriod resolver.val / 2))

/-- A slow thermal round counts, takes the readings of the board sensors and keeps every stage limit within 100 percent. When HK.ROUNDS is a multiple of ten and not 0, THERMAL_ROUND counts in TH.ROUNDS, gives every enabled source 0 to 11 the raw value and the electrical-fault mark of its reading (a silent sensor at once, a CRC error at the second in a row), and leaves every stage limit at most 1000. -/
def Obligations.ThermalRound : Prop :=
  (∀ (s : State) (board : List BoardRead), s.f Reg.HK_ROUNDS ≠ 0 → s.f Reg.HK_ROUNDS % 10 = 0 → 
    Completes (.thermalRound board) s fun u => u.f Reg.TH_ROUNDS = s.plus Reg.TH_ROUNDS ∧ (∀ t ∈ Stage.all, u.f Reg.TH_STAGE_LIMIT t.idx ≤ 1000)
    ∧ ∀ n ∈ List.range 12, s.thEnabled n = true → u.fb Reg.TH_S_STATUS_ELEC n = (s.thRead board n).elec
        ∧ u.f Reg.TH_S_VALUE_RAW n = wrap Reg.TH_S_VALUE_RAW.width (s.thRead board n).raw)

/-- Completion of the feedback events. ENCODER_EDGE with one change of accepted A and B, no index in use, moves POS by one in the direction of INV_DIR and notes the cycle; a change of both counts a count error and leaves POS. INDEX_QUALIFIED with Z accepted high once, A and B unchanged and matching Z_GATE, sets the reference: REF_OK, and POS moved onto INDEX_POS modulo the counts of a revolution. HALL_SECTOR_CHANGE with one change of accepted levels shows code and sector, and sets REF_OK for a new code of a valid sector. At the ends of their windows, with no level on its way, HALL_INVALID clears REF_OK and VALID, sets its cause and counts; HALL_CODE_VALID clears the cause; WIRE_FAULT sets the pair's bit and cause, clears VALID and counts; WIRE_FAULT_CLEARED clears bit and cause. SUPPLY_FAULT turns SUP off, sets SUPPLY, clears VALID and opens the retry; SUPPLY_RETRY turns it on for 100 ms; SUPPLY_HELD clears SUPPLY and its cause. RES_WINDOW_END turns the sign of the reference, hands the next window's sums on and opens it half a period later; the fourth window in a row with fewer than 8 sine results sets RES_AMP. EXC_PERIOD at the current limit sets EXC and its cause and clears VALID; the fourth good period in a row clears both. SSI_WINDOW starts a frame and opens the next window; SSI_FRAME_DONE of a third bad frame in a row sets SSI_ERR and its cause and clears VALID; of a good frame it clears SSI_ERR and the run of bad frames, and a step up to MAX_STEP moves POS to the nearest such position. SPEED_WINDOW_END sets the count method's speed from the window's counts and shows SPEED; SPEED_ZERO_TIME closes its window and shows SPEED. -/
def Obligations.FeedbackEvents : Prop :=
  (∀ (s : State) (channel : Fin 8) (pins : List PinChange) (t c new : Nat), s.f Reg.FB_MODE_MODE channel.val = 1 → s.f Reg.FB_INDEX_INDEX_MODE channel.val = 0 → (s.fbInputs channel pins t).acceptsOnce channel.val c new = true →
    quadOf new = (quadOf ((s.fbInputs channel pins t).vn .fbLevels channel.val) + 1) % 4 →
    Completes (.encoderEdge channel pins t) s fun u => u.f Reg.FB_POS channel.val = wrap 32 ((s.fbInputs channel pins t).fi Reg.FB_POS channel.val + if s.fb Reg.FB_INPUT_INV_DIR channel.val then -1 else 1)
    ∧ u.vn .fbEdgeAt channel.val = c ∧ u.vn .fbLevels channel.val = new) ∧
  (∀ (s : State) (channel : Fin 8) (pins : List PinChange) (t c new : Nat), s.f Reg.FB_MODE_MODE channel.val = 1 → s.f Reg.FB_INDEX_INDEX_MODE channel.val = 0 → (s.fbInputs channel pins t).acceptsOnce channel.val c new = true →
    quadOf new = (quadOf ((s.fbInputs channel pins t).vn .fbLevels channel.val) + 3) % 4 →
    Completes (.encoderEdge channel pins t) s fun u => u.f Reg.FB_POS channel.val = wrap 32 ((s.fbInputs channel pins t).fi Reg.FB_POS channel.val + if s.fb Reg.FB_INPUT_INV_DIR channel.val then 1 else -1)
    ∧ u.vn .fbEdgeAt channel.val = c ∧ u.vn .fbLevels channel.val = new) ∧
  (∀ (s : State) (channel : Fin 8) (pins : List PinChange) (t c new : Nat), s.f Reg.FB_MODE_MODE channel.val = 1 → s.f Reg.FB_INDEX_INDEX_MODE channel.val = 0 → (s.fbInputs channel pins t).acceptsOnce channel.val c new = true →
    quadOf new = (quadOf ((s.fbInputs channel pins t).vn .fbLevels channel.val) + 2) % 4 →
    Completes (.encoderEdge channel pins t) s fun u => u.f Reg.FB_COUNTERS channel.val 2 = (s.fbInputs channel pins t).plus Reg.FB_COUNTERS channel.val 1 2
    ∧ u.f Reg.FB_POS channel.val = (s.fbInputs channel pins t).f Reg.FB_POS channel.val) ∧
  (∀ (s : State) (channel : Fin 8) (pins : List PinChange) (t c new : Nat), s.f Reg.FB_MODE_MODE channel.val = 1 → s.f Reg.FB_INDEX_INDEX_MODE channel.val ≠ 0 → s.fb Reg.FB_INDEX_REF_MODE channel.val = true →
    (s.fbInputs channel pins t).fb Reg.FB_STATUS_REF_OK channel.val = false → (s.fbInputs channel pins t).acceptsOnce channel.val c new = true → (s.fbInputs channel pins t).on .zArmed channel.val = true →
    new.testBit 2 = true → quadOf new = quadOf ((s.fbInputs channel pins t).vn .fbLevels channel.val) → (((s.fbInputs channel pins t).setV .fbLevels channel.val new).zGate channel.val) = true →
    Completes (.indexQualified channel pins t) s fun u => u.fb Reg.FB_STATUS_REF_OK channel.val = true ∧ u.f Reg.FB_POS channel.val = wrap 32 ((s.fbInputs channel pins t).fi Reg.FB_POS channel.val
      + reduce (s.f Reg.FB_INDEX_INDEX_POS channel.val - (s.fbInputs channel pins t).fi Reg.FB_POS channel.val) (s.fbCpr channel.val))) ∧
  (∀ (s : State) (channel : Fin 8) (pins : List PinChange) (t c new : Nat), s.f Reg.FB_MODE_MODE channel.val = 2 → (s.fbInputs channel pins t).acceptsOnce channel.val c new = true →
    Completes (.hallSectorChange channel pins t) s fun u => u.f Reg.FB_STATUS_HALL_CODE channel.val = new % 8 ∧ u.f Reg.FB_STATUS_SECTOR channel.val = s.hallSector channel.val (new % 8)
    ∧ (s.hallSector channel.val (new % 8) ≠ 7 → (s.fbInputs channel pins t).f Reg.FB_STATUS_HALL_CODE channel.val ≠ new % 8 → u.fb Reg.FB_STATUS_REF_OK channel.val = true)) ∧
  (∀ (s : State) (channel : Fin 8) (pins : List PinChange), s.endsQuiet channel pins .hallBad channel = true → (s.atEnd channel pins .hallBad channel).present Ev.HALL_INVALID channel.val = false →
    Completes (.hallInvalid channel pins) s fun u => u.fb Reg.FB_STATUS_REF_OK channel.val = false ∧ u.fb Reg.FB_STATUS_VALID channel.val = false ∧ u.present Ev.HALL_INVALID channel.val = true
    ∧ u.f Reg.FB_COUNTERS channel.val 3 = (s.atEnd channel pins .hallBad channel).plus Reg.FB_COUNTERS channel.val 1 3) ∧
  (∀ (s : State) (channel : Fin 8) (pins : List PinChange), s.endsQuiet channel pins .hallGood channel = true →
    Completes (.hallCodeValid channel pins) s fun u => u.present Ev.HALL_INVALID channel.val = false ∧ u.isOpen .hallGood channel.val = false) ∧
  (∀ (s : State) (channel : Fin 8) (pair : Fin 4) (pins : List PinChange), s.endsQuiet channel pins .wire (4 * channel.val + pair.val) = true →
    (s.atEnd channel pins .wire (4 * channel.val + pair.val)).present Ev.WIRE_FAULT (4 * channel.val + pair.val) = false →
    Completes (.wireFault channel pair pins) s fun u => u.fb (wireBit pair.val) channel.val = true ∧ u.fb Reg.FB_STATUS_VALID channel.val = false
    ∧ u.present Ev.WIRE_FAULT (4 * channel.val + pair.val) = true
    ∧ u.f Reg.FB_COUNTERS channel.val 3 = (s.atEnd channel pins .wire (4 * channel.val + pair.val)).plus Reg.FB_COUNTERS channel.val 1 3) ∧
  (∀ (s : State) (channel : Fin 8) (pair : Fin 4) (pins : List PinChange), s.endsQuiet channel pins .wireOk (4 * channel.val + pair.val) = true →
    Completes (.wireFaultCleared channel pair pins) s fun u => u.fb (wireBit pair.val) channel.val = false ∧ u.present Ev.WIRE_FAULT (4 * channel.val + pair.val) = false) ∧
  (∀ (s : State) (channel : Fin 8), s.on .fbSup channel.val = true → s.present Ev.SUPPLY_FAULT channel.val = false → 
    Completes (.supplyFault channel) s fun u => u.fb Reg.FB_STATUS_SUPPLY channel.val = true ∧ u.on .fbSup channel.val = false ∧ u.fb Reg.FB_STATUS_VALID channel.val = false
    ∧ u.endOf .supRetry channel.val = s.now / 3000 * 3000 + sec 1) ∧
  (∀ (s : State) (channel : Fin 8), s.isOpen .supRetry channel.val = true → 
    Completes (.supplyRetry channel) s fun u => u.on .fbSup channel.val = true ∧ u.endOf .supHeld channel.val = max s.now (s.endOf .supRetry channel.val) / 3000 * 3000 + ms 100) ∧
  (∀ (s : State) (channel : Fin 8), s.isOpen .supHeld channel.val = true → 
    Completes (.supplyHeld channel) s fun u => u.fb Reg.FB_STATUS_SUPPLY channel.val = false ∧ u.present Ev.SUPPLY_FAULT channel.val = false) ∧
  (∀ (s : State) (channel : Fin 2) (conv : List Int), s.isOpen .resWin channel.val = true → (s.resSums channel conv).vn .resSinN channel.val < 8 → (s.resSums channel conv).vn .resStale channel.val = 3 →
    Completes (.resWindowEnd channel conv) s fun u => u.fb Reg.FB_STATUS_RES_AMP channel.val = true ∧ u.now = max s.now (s.endOf .resWin channel.val)) ∧
  (∀ (s : State) (channel : Fin 2) (conv : List Int), s.isOpen .resWin channel.val = true → s.vn .seqEntry channel.val < 512 →
    Completes (.resWindowEnd channel conv) s fun u => u.v .resPol channel.val = -s.v .resPol channel.val ∧ u.v .resSin (channel.val + 2) = 0 ∧ u.v .resCos (channel.val + 2) = 0
    ∧ u.vn .resSinN (channel.val + 2) = 0 ∧ u.vn .resCosN (channel.val + 2) = 0 ∧ u.due .resWin channel.val = some (s.endOf .resWin channel.val + s.excPeriod channel.val / 2)
    ∧ u.now = max s.now (s.endOf .resWin channel.val)) ∧
  (∀ (s : State) (channel : Fin 2) (amp : Nat), s.f Reg.FB_MODE_MODE channel.val = 3 → s.present Ev.EXC_FAULT channel.val = false → 
    Completes (.excPeriod channel amp true) s fun u => u.fb Reg.FB_STATUS_EXC channel.val = true ∧ u.present Ev.EXC_FAULT channel.val = true ∧ u.fb Reg.FB_STATUS_VALID channel.val = false) ∧
  (∀ (s : State) (channel : Fin 2) (amp : Nat), s.f Reg.FB_MODE_MODE channel.val = 3 → amp = s.f Reg.FB_RES_EXC_AMP channel.val → s.vn .excGood channel.val = 3 → 
    Completes (.excPeriod channel amp false) s fun u => u.fb Reg.FB_STATUS_EXC channel.val = false ∧ u.present Ev.EXC_FAULT channel.val = false) ∧
  (∀ (s : State) (channel : Fin 8), s.isOpen .ssiWindow channel.val = true → s.f Reg.FB_MODE_MODE channel.val = 4 → s.on .ssiEnd channel.val = false →
    Completes (.ssiWindow channel) s fun u => u.vn .ssiAt channel.val = max s.now (s.endOf .ssiWindow channel.val)
    ∧ u.due .ssiFrame channel.val = some (max s.now (s.endOf .ssiWindow channel.val) + s.ssiHalf channel (2 * s.ssiBits channel + 1))
    ∧ u.endOf .ssiWindow channel.val = max s.now (s.endOf .ssiWindow channel.val) / 3000 * 3000 + us (10 * s.f Reg.FB_SPEED_CFG_WINDOW channel.val)) ∧
  (∀ (s : State) (channel : Fin 8) (pins : List PinChange), s.isOpen .ssiFrame channel.val = true → s.f Reg.FB_MODE_MODE channel.val = 4 → s.ssiCheck channel (s.ssiLevels channel pins) = none →
    s.vn .ssiBad channel.val = 2 → s.present Ev.SSI_FRAME channel.val = false →
    Completes (.ssiFrameDone channel pins) s fun u => u.fb Reg.FB_STATUS_SSI_ERR channel.val = true ∧ u.isOpen .ssiFrame channel.val = false ∧ u.present Ev.SSI_FRAME channel.val = true
    ∧ u.fb Reg.FB_STATUS_VALID channel.val = false) ∧
  (∀ (s : State) (channel : Fin 8) (pins : List PinChange) (pos : Nat), s.isOpen .ssiFrame channel.val = true → s.f Reg.FB_MODE_MODE channel.val = 4 → s.ssiCheck channel (s.ssiLevels channel pins) = some pos →
    Completes (.ssiFrameDone channel pins) s fun u => (let w := s.f Reg.FB_SSI_FRAME_MT_BITS channel.val + s.f Reg.FB_SSI_FRAME_ST_BITS channel.val
     let q : Int := if s.fb Reg.FB_SSI_FRAME_GRAY channel.val then grayDecode w pos else pos
     let d := reduce (q - s.fi Reg.FB_POS channel.val) (2 ^ w)
     u.fb Reg.FB_STATUS_SSI_ERR channel.val = false ∧ u.isOpen .ssiFrame channel.val = false ∧ u.vn .ssiBad channel.val = 0
     ∧ (|d| ≤ s.f Reg.FB_SSI_TIMING_MAX_STEP channel.val → u.f Reg.FB_POS channel.val = wrap 32 (s.fi Reg.FB_POS channel.val + d)))) ∧
  (∀ (s : State) (channel : Fin 8), s.endsQuiet channel [] .fbWindow channel = true →
    Completes (.speedWindowEnd channel) s fun u => (let v := s.atEnd channel [] .fbWindow channel
     u.v .fbCount channel.val = revs (toSigned 32 (wrap 32 (v.fi Reg.FB_POS channel.val - v.v .fbWinPos channel.val - v.v .fbWinCorr channel.val)))
      (s.fbCpr channel.val) (us (10 * s.f Reg.FB_SPEED_CFG_WINDOW channel.val) / Clk.sample)
     ∧ u.v .fbWinPos channel.val = v.fi Reg.FB_POS channel.val ∧ u.v .fbWinCorr channel.val = 0 ∧ u.f Reg.FB_SPEED channel.val = wrap 32 (u.fbSpeed channel)
     ∧ u.now = max s.now (s.endOf .fbWindow channel.val))) ∧
  (∀ (s : State) (channel : Fin 8), s.endsQuiet channel [] .fbZero channel = true →
    Completes (.speedZeroTime channel) s fun u => u.isOpen .fbZero channel.val = false ∧ u.now = max s.now (s.endOf .fbZero channel.val)
    ∧ u.f Reg.FB_SPEED channel.val = wrap 32 (u.fbSpeed channel))

/-- What sampling, housekeeping, thermal rounds and feedback leave unchanged. Every command of chapters 4 to 6 changes, beside what a report and the reactions of Table 1-8 may change, only the fields listed for it: the rotation commands those of their core, a result or an excitation peak accumulators, sequencers, overrange marks, comparators and the DMA FIFO, a burst (of entries for buffers 0 to 15) the write pointers, DMA_LOST, the FIFO and SRAM, a housekeeping or thermal round the results of its positions or sources, a feedback command the status, counters and position of its own channel, the levels on their way, and the compares and brake tests that follow a position. A retry of a supply changes no part and no parameter word. -/
def Obligations.AcquisitionFrames : Prop :=
  (∀ (s : State) (core : Fin 4), Framed (.sliceSwap core) s (Keeps reactionComps (reactionFlds ++ ([one Reg.SMP_CORE_STATUS_CAL_SLICE core.val, one Reg.SMP_CORE_STATUS_DEGRADED core.val, one Reg.SMP_CORE_STATUS_FAILED core.val, one Reg.SMP_CORE_STATUS_STALE core.val] : List Place)))) ∧
  (∀ (s : State) (core : Fin 4) (offset gain skew : Int), Framed (.sliceCalDone core offset gain skew) s (Keeps reactionComps (reactionFlds ++ ([one Reg.SMP_CAL_FAILS core.val, one Reg.SMP_CORE_STATUS_CAL_SLICE core.val, one Reg.SMP_CORE_STATUS_DEGRADED core.val, one Reg.SMP_CORE_STATUS_FAILED core.val] : List Place)))) ∧
  (∀ (s : State) (core : Fin 4), Framed (.calStale core) s (Keeps reactionComps (reactionFlds ++ ([one Reg.SMP_CORE_STATUS_STALE core.val] : List Place)))) ∧
  (∀ (s : State) (input : Fin 80), Framed (.inputOverrange input) s (Keeps reactionComps reactionFlds)) ∧
  (∀ (s : State) (b : DmaBurst), Framed (.dmaBurstWritten b) s (fun a b => (∀ e ∈ a.dmaFifo, e.buf < 16) → Keeps (reactionComps ++ ([.dmaFifo, .pipe, .sram] : List Comp)) (reactionFlds ++ resultFlds ++ ([all Reg.SMP_BUF_WRPTR_INDEX 64, all Reg.SMP_BUF_WRPTR_WRAPS 64] : List Place)) a b)) ∧
  (∀ (s : State) (core : Fin 4) (conv : List Int) (t : Nat), Framed (.dmaOverflow core conv t) s (Keeps (reactionComps ++ ([.dmaFifo, .pipe] : List Comp)) (reactionFlds ++ resultFlds))) ∧
  (∀ (s : State) (buffer : Fin 64), Framed (.bufferFrozen buffer) s (Keeps reactionComps (reactionFlds ++ ([one Reg.SMP_BUF_CONTROL_FREEZE buffer.val, one Reg.SMP_BUF_CONTROL_FROZEN buffer.val] : List Place)))) ∧
  (∀ (s : State) (codes : List Int), Framed (.hkRound codes) s (Keeps reactionComps (reactionFlds ++ ([all Reg.HK_P_RESULT_CAUSE 64, all Reg.HK_P_RESULT_CODE 64, all Reg.HK_P_RESULT_OUT 64, all Reg.HK_P_RESULT_ROUND 64, all Reg.HK_P_RESULT_VALID 64, one Reg.HK_ROUNDS, all Reg.SMP_CORE_STATUS_REF_FAULT 4] : List Place)))) ∧
  (∀ (s : State) (board : List BoardRead), Framed (.thermalRound board) s (Keeps reactionComps (reactionFlds ++ ([one Reg.TH_ROUNDS, all Reg.TH_SHUT_COUNT 52, all Reg.TH_STAGE_LIMIT 7, all Reg.TH_S_STATUS_BROKEN 52, all Reg.TH_S_STATUS_ELEC 52, all Reg.TH_S_STATUS_NO_EST 52, all Reg.TH_S_STATUS_SHUT 52, all Reg.TH_S_STATUS_WARN 52, all Reg.TH_S_STATUS_DERATE 52, all Reg.TH_S_STATUS_COLD_DRIVE 52, all Reg.TH_S_STATUS_COLD_CHARGE 52, all Reg.TH_S_VALUE_EFF 52, all Reg.TH_S_VALUE_RAW 52] : List Place)))) ∧
  (∀ (s : State) (core : Fin 4) (stage : Stage) (middle : Bool) (conv : List Conv), Framed (.substituteEvent core stage middle conv) s (Keeps (reactionComps ++ ([.dmaFifo, .pipe, .accepts] : List Comp)) (reactionFlds ++ carrierFlds ++ movedFlds ++ levelFlds 0 8))) ∧
  (∀ (s : State) (resolver : Fin 2) (conv : List Conv), Framed (.excitationPeak resolver conv) s (Keeps (reactionComps ++ ([.dmaFifo, .pipe] : List Comp)) (reactionFlds ++ resultFlds))) ∧
  (∀ (s : State) (channel : Fin 8) (pins : List PinChange) (t : Nat), Framed (.encoderEdge channel pins t) s (Keeps (reactionComps ++ ([.accepts] : List Comp)) (reactionFlds ++ movedFlds ++ levelFlds channel 1))) ∧
  (∀ (s : State) (channel : Fin 8) (pins : List PinChange) (t : Nat), Framed (.indexQualified channel pins t) s (Keeps (reactionComps ++ ([.accepts] : List Comp)) (reactionFlds ++ movedFlds ++ levelFlds channel 1))) ∧
  (∀ (s : State) (channel : Fin 8) (pins : List PinChange) (t : Nat), Framed (.hallSectorChange channel pins t) s (Keeps (reactionComps ++ ([.accepts] : List Comp)) (reactionFlds ++ movedFlds ++ levelFlds channel 1))) ∧
  (∀ (s : State) (channel : Fin 8) (pins : List PinChange), Framed (.hallInvalid channel pins) s (Keeps (reactionComps ++ ([.accepts] : List Comp)) (reactionFlds ++ movedFlds ++ levelFlds channel 1 ++ ([one Reg.FB_COUNTERS channel.val 3, one Reg.FB_STATUS_VALID channel.val] : List Place)))) ∧
  (∀ (s : State) (channel : Fin 8) (pins : List PinChange), Framed (.hallCodeValid channel pins) s (Keeps (reactionComps ++ ([.accepts] : List Comp)) (reactionFlds ++ movedFlds ++ levelFlds channel 1 ++ ([one Reg.FB_STATUS_VALID channel.val] : List Place)))) ∧
  (∀ (s : State) (channel : Fin 8) (pair : Fin 4) (pins : List PinChange), Framed (.wireFault channel pair pins) s (Keeps (reactionComps ++ ([.accepts] : List Comp)) (reactionFlds ++ movedFlds ++ levelFlds channel 1 ++ ([one (wireBit pair.val) channel.val, one Reg.FB_COUNTERS channel.val 3, one Reg.FB_STATUS_VALID channel.val] : List Place)))) ∧
  (∀ (s : State) (channel : Fin 8) (pair : Fin 4) (pins : List PinChange), Framed (.wireFaultCleared channel pair pins) s (Keeps (reactionComps ++ ([.accepts] : List Comp)) (reactionFlds ++ movedFlds ++ levelFlds channel 1 ++ ([one (wireBit pair.val) channel.val, one Reg.FB_STATUS_VALID channel.val] : List Place)))) ∧
  (∀ (s : State) (channel : Fin 8), Framed (.supplyFault channel) s (Keeps (reactionComps ++ ([.accepts] : List Comp)) (reactionFlds ++ movedFlds ++ levelFlds channel 1 ++ ([one Reg.FB_COUNTERS channel.val 3, one Reg.FB_STATUS_SUPPLY channel.val, one Reg.FB_STATUS_VALID channel.val] : List Place)))) ∧
  (∀ (s : State) (channel : Fin 8), Framed (.supplyRetry channel) s (Keeps [] [])) ∧
  (∀ (s : State) (channel : Fin 8), Framed (.supplyHeld channel) s (Keeps (reactionComps ++ ([.accepts] : List Comp)) (reactionFlds ++ movedFlds ++ levelFlds channel 1 ++ ([one Reg.FB_STATUS_SUPPLY channel.val, one Reg.FB_STATUS_VALID channel.val] : List Place)))) ∧
  (∀ (s : State) (channel : Fin 2) (conv : List Int), Framed (.resWindowEnd channel conv) s (Keeps (reactionComps ++ ([.accepts, .dmaFifo, .pipe] : List Comp)) (reactionFlds ++ movedFlds ++ resultFlds ++ levelFlds channel 1 ++ ([one Reg.FB_COUNTERS channel.val 3, one Reg.FB_STATUS_RES_AMP channel.val, one Reg.FB_STATUS_RES_TRACK channel.val, one Reg.FB_STATUS_VALID channel.val] : List Place)))) ∧
  (∀ (s : State) (channel : Fin 2) (amp : Nat) (limit : Bool), Framed (.excPeriod channel amp limit) s (Keeps (reactionComps ++ ([.accepts] : List Comp)) (reactionFlds ++ movedFlds ++ levelFlds channel 1 ++ ([one Reg.FB_COUNTERS channel.val 3, one Reg.FB_STATUS_EXC channel.val, one Reg.FB_STATUS_VALID channel.val] : List Place)))) ∧
  (∀ (s : State) (channel : Fin 8), Framed (.ssiWindow channel) s (Keeps (reactionComps ++ ([.accepts] : List Comp)) (reactionFlds ++ movedFlds ++ levelFlds channel 1 ++ ([one Reg.FB_COUNTERS channel.val 5] : List Place)))) ∧
  (∀ (s : State) (channel : Fin 8) (pins : List PinChange), Framed (.ssiFrameDone channel pins) s (Keeps (reactionComps ++ ([.accepts] : List Comp)) (reactionFlds ++ movedFlds ++ levelFlds channel 1 ++ ([one Reg.FB_COUNTERS channel.val 3, one Reg.FB_COUNTERS channel.val 6, one Reg.FB_STATUS_SSI_ERR channel.val, one Reg.FB_STATUS_VALID channel.val] : List Place)))) ∧
  (∀ (s : State) (channel : Fin 8), Framed (.speedWindowEnd channel) s (Keeps (reactionComps ++ ([.accepts] : List Comp)) (reactionFlds ++ movedFlds ++ levelFlds channel 1 ++ ([one Reg.FB_COUNTERS channel.val 4, one Reg.FB_SPEED channel.val, one Reg.FB_STATUS_METHOD channel.val] : List Place)))) ∧
  (∀ (s : State) (channel : Fin 8), Framed (.speedZeroTime channel) s (Keeps (reactionComps ++ ([.accepts] : List Comp)) (reactionFlds ++ movedFlds ++ levelFlds channel 1 ++ ([one Reg.FB_SPEED channel.val] : List Place))))

/-- Completion of slot triggers, runs, following errors and setpoint loss. SLOT_TRIGGER of a carrier or slot trigger whose slot is active, neither pending nor running, makes it pending at the trigger's end instant and notes the trigger; while it is pending or running, the trigger is counted in COUNTERS.01; a timer trigger opens the next timer from its own instant. SLOT_RUN_START in a free lane takes its lowest-numbered pending slot into a run for the LOOP cycles of its type. SLOT_RUN_END of the only run counts it and ends it. FOLLOWING_ERROR of a slot in AUTO of a RUNNING stage, at the end of its window, counts, and SP_LOST of an active slot comes at the end of SP_TIMEOUT or with its source slot gone; each sets its cause unless its reaction ends the stage's activity or brings the source's stage back. -/
def Obligations.SlotEvents : Prop :=
  (∀ (s : State) (slot : Fin 48), s.f Reg.SLOT_TRIGGER_SRC slot.val ≠ 3 → s.isOpen .slotTrig slot.val = true → s.slotActive slot.val = true → s.on .slotPend slot.val = false → s.on .slotRun slot.val = false → 
    Completes (.slotTrigger slot) s fun u => u.on .slotPend slot.val = true ∧ u.now = max s.now (s.endOf .slotTrig slot.val) ∧ u.vn .slotPendAt slot.val = u.now
    ∧ u.vn .slotTrigAt slot.val = (if s.f Reg.SLOT_TRIGGER_SRC slot.val = 1 then s.vn .slotEvAt slot.val else u.now)) ∧
  (∀ (s : State) (slot : Fin 48), s.f Reg.SLOT_TRIGGER_SRC slot.val ≠ 3 → s.isOpen .slotTrig slot.val = true → s.slotActive slot.val = true → s.on .slotPend slot.val = true ∨ s.on .slotRun slot.val = true → 
    Completes (.slotTrigger slot) s fun u => u.f Reg.SLOT_COUNTERS slot.val 1 = s.plus Reg.SLOT_COUNTERS slot.val 1 1 ∧ u.now = max s.now (s.endOf .slotTrig slot.val)) ∧
  (∀ (s : State) (slot : Fin 48), s.f Reg.SLOT_TRIGGER_SRC slot.val = 3 → s.isOpen .slotTimer slot.val = true → 
    Completes (.slotTrigger slot) s fun u => u.endOf .slotTimer slot.val = s.endOf .slotTimer slot.val + 30 * s.f Reg.SLOT_TRIGGER_TIMER slot.val
    ∧ u.now = max s.now (s.endOf .slotTimer slot.val)) ∧
  (∀ (s : State) (lane : Fin 4) (t : Nat) (n : Fin 48), s.nextSlot lane.val = some n.val → (s.runs.any fun r => r.lane == lane.val) = false → 
    Completes (.slotRunStart lane t) s fun u => u.on .slotRun n.val = true ∧ u.on .slotPend n.val = false ∧ u.runs.length = s.runs.length + 1
    ∧ u.endOf .laneEnd lane.val = max s.now t / Clk.loop * Clk.loop + Clk.loop * slotCycles (s.f Reg.SLOT_TYPE_TYPE n.val)) ∧
  (∀ (s : State) (lane : Fin 4) (r : Run), s.isOpen .laneEnd lane.val = true → s.runs = [r] → r.lane = lane.val → r.slot < 48 → s.on .slotRun r.slot = true → 
    Completes (.slotRunEnd lane) s fun u => u.on .slotRun r.slot = false ∧ u.runs = [] ∧ u.f Reg.SLOT_COUNTERS r.slot = s.plus Reg.SLOT_COUNTERS r.slot
    ∧ u.now = max s.now (s.endOf .laneEnd lane.val)) ∧
  (∀ (s : State) (slot : Fin 48), s.isOpen .slotFe slot.val = true → s.fb Reg.SLOT_MODE_MODE slot.val = true → s.st (s.slotStage slot.val) = .running →
    Completes (.followingError slot) s fun u => u.f Reg.SLOT_COUNTERS slot.val 2 = s.plus Reg.SLOT_COUNTERS slot.val 1 2 ∧ ((u.st (s.slotStage slot.val)).isActive = true → u.present Ev.FOLLOWING_ERROR slot.val = true)
    ∧ u.now = max s.now (s.endOf .slotFe slot.val)) ∧
  (∀ (s : State) (slot : Fin 48), s.f Reg.SLOT_SP_CFG_SP_SRC slot.val = 0 → s.isOpen .slotSpTimer slot.val = true → s.slotActive slot.val = true → 
    Completes (.spLost slot) s fun u => ((u.st (s.slotStage slot.val)).isActive = true → u.present Ev.SP_LOST slot.val = true) ∧ u.now = max s.now (s.endOf .slotSpTimer slot.val)) ∧
  (∀ (s : State) (slot : Fin 48), s.f Reg.SLOT_SP_CFG_SP_SRC slot.val = 1 → s.spSourceGone slot.val = true → s.slotActive slot.val = true → 
    Completes (.spLost slot) s fun u => ((u.st (s.slotStage slot.val)).isActive = true → u.st (s.slotStage (s.f Reg.SLOT_SP_CFG_SP_SLOT slot.val)) = s.st (s.slotStage (s.f Reg.SLOT_SP_CFG_SP_SLOT slot.val)) → u.present Ev.SP_LOST slot.val = true))

/-- Completion of carriers, commits, reloads, command edges and trip windows. CARRIER_START sets RUN at its instant and opens the PERIOD_START. PERIOD_START at its instant is counted in COUNTERS.00 and moves the stage's trip record on, unless a trip of the same cycle has moved it already; PERIOD_MIDDLE takes place at its instant. COMMIT_COMPLETE shows COMMIT and makes the set pending, DUTY_A and FORCE as the shadow set has them. LEG_RELOAD of a pending set committed at least two PULSE cycles before it starts the leg's interval at its instant, makes the set active and counts it. DLL_UNLOCK and DLL_RELOCKED show the span, LOCKED and FALLBACK and set or clear the cause. TRIP_WINDOW_END clears WIN_COUNT and closes its window. COMMAND_EDGE outside a hand-over gap: a turn-off edge of a channel on for MIN_PULSE turns it off, a turn-on edge of an enabled channel whose partner is off turns it on, each at the edge's instant. TERMINATE_CONDITION in a mode of constant time that shortens the leg's period sets its next reload to the shortened period's end; one whose source's condition does not hold leaves the scheduled edges. -/
def Obligations.PulseEvents : Prop :=
  (∀ (s : State) (stage : Stage), s.isOpen .carrierStart stage.idx = true → 
    Completes (.carrierStart stage) s fun u => u.fb Reg.PULSE_STATUS_RUN stage.idx = true ∧ u.now = max s.now (s.endOf .carrierStart stage.idx) ∧ u.isOpen .periodStart stage.idx = true) ∧
  (∀ (s : State) (stage : Stage) (conv : List Conv), s.isOpen .periodStart stage.idx = true → s.on .tripPer stage.idx = false →
    Completes (.periodStart stage conv) s fun u => u.now = max s.now (s.endOf .periodStart stage.idx) ∧ u.f Reg.PULSE_COUNTERS stage.idx 0 = s.plus Reg.PULSE_COUNTERS stage.idx 1 0
    ∧ u.f Reg.GD_STAGE_STATUS_NOW stage.idx = 0 ∧ u.f Reg.GD_STAGE_STATUS_PREV stage.idx = s.f Reg.GD_STAGE_STATUS_NOW stage.idx) ∧
  (∀ (s : State) (stage : Stage) (conv : List Conv), s.isOpen .periodStart stage.idx = true → s.on .tripPer stage.idx = true →
    Completes (.periodStart stage conv) s fun u => u.now = max s.now (s.endOf .periodStart stage.idx) ∧ u.f Reg.PULSE_COUNTERS stage.idx 0 = s.plus Reg.PULSE_COUNTERS stage.idx 1 0
    ∧ u.f Reg.GD_STAGE_STATUS_NOW stage.idx = s.f Reg.GD_STAGE_STATUS_NOW stage.idx ∧ u.f Reg.GD_STAGE_STATUS_PREV stage.idx = s.f Reg.GD_STAGE_STATUS_PREV stage.idx) ∧
  (∀ (s : State) (stage : Stage) (conv : List Conv), s.isOpen .periodMiddle stage.idx = true → 
    Completes (.periodMiddle stage conv) s fun u => u.now = max s.now (s.endOf .periodMiddle stage.idx)) ∧
  (∀ (s : State) (leg : Fin 32), s.isOpen .commit leg.val = true → 
    Completes (.commitComplete leg) s fun u => u.fb Reg.LEG_CTRL_COMMIT leg.val = true ∧ u.on .legPending leg.val = true ∧ u.now = max s.now (s.endOf .commit leg.val)
    ∧ u.v .legPend (leg.val * 8) = s.f Reg.LEG_DUTY_A leg.val ∧ u.v .legPend (leg.val * 8 + 5) = s.f Reg.LEG_CTRL_FORCE leg.val) ∧
  (∀ (s : State) (leg : Fin 32), s.isOpen .legReload leg.val = true → s.on .legPending leg.val = true → s.stopMeets (Stage.ofLeg leg.val) (s.vn .legNext leg.val) = false → s.vn .legCommitAt leg.val / Clk.pulse + 2 ≤ s.vn .legNext leg.val / 64 → 
    Completes (.legReload leg) s fun u => u.now = max s.now (s.endOf .legReload leg.val) ∧ u.vn .legStart leg.val = s.vn .legNext leg.val
    ∧ u.f Reg.LEG_COUNTERS leg.val 0 = s.plus Reg.LEG_COUNTERS leg.val 1 0 ∧ u.fb Reg.LEG_CTRL_COMMIT leg.val = false
    ∧ u.on .legPending leg.val = false ∧ u.f Reg.LEG_ACTIVE leg.val 5 = wrap 32 (s.v .legPend (leg.val * 8 + 5))) ∧
  (∀ (s : State) (leg : Fin 32), s.isOpen .legReload leg.val = true → s.vn .legTripAt leg.val < s.vn .legNext leg.val / 64 * Clk.pulse →
    Completes (.legReload leg) s fun u => u.fb Reg.LEG_STATUS_TRIPPED leg.val = false ∧ u.present Ev.CBC_TRIP leg.val = false) ∧
  (∀ (s : State) (span : Nat), 
    Completes (.dllUnlock span) s fun u => u.fb Reg.PULSE_DLL_LOCKED = false ∧ u.fb Reg.PULSE_DLL_FALLBACK = true ∧ u.f Reg.PULSE_DLL_SPAN = span % 2 ^ Reg.PULSE_DLL_SPAN.width
    ∧ u.present Ev.DLL_UNLOCK = true) ∧
  (∀ (s : State) (span : Nat), 
    Completes (.dllRelocked span) s fun u => u.fb Reg.PULSE_DLL_LOCKED = true ∧ u.fb Reg.PULSE_DLL_FALLBACK = false ∧ u.f Reg.PULSE_DLL_SPAN = span % 2 ^ Reg.PULSE_DLL_SPAN.width
    ∧ u.present Ev.DLL_UNLOCK = false) ∧
  (∀ (s : State) (leg : Fin 32), s.isOpen .tripWindow leg.val = true → 
    Completes (.tripWindowEnd leg) s fun u => u.f Reg.LEG_STATUS_WIN_COUNT leg.val = 0 ∧ u.now = max s.now (s.endOf .tripWindow leg.val) ∧ u.isOpen .tripWindow leg.val = false) ∧
  (∀ (s : State) (channel : Fin 64) (e : Edge), s.firstEdge channel.val = some e → e.on = false → s.on .enginesDead = false → s.vn .gapEnd ≤ vcoOf e.t → s.on .chDrive channel.val = true → s.wholeUp channel.val (s.vn .chOnAt channel.val + s.minPulse channel.val) ≤ e.t → 
    Completes (.commandEdge channel) s fun u => u.on .chDrive channel.val = false ∧ u.vn .chOffAt channel.val = e.t ∧ u.on .chCmd channel.val = false ∧ u.now = max s.now (vcoOf e.t)) ∧
  (∀ (s : State) (channel : Fin 64) (e : Edge), s.firstEdge channel.val = some e → e.ch = channel.val → e.on = true → s.on .enginesDead = false → s.vn .gapEnd ≤ vcoOf e.t → s.enabled channel.val = true → s.on .chUvlo channel.val = false → s.on .chPathLost channel.val = false → s.fb Reg.CH_STATUS_SOFT_OFF channel.val = false → s.partnerHolds channel.val = false → s.on .chDrive (partner channel.val) = false → s.on .chDriven (partner channel.val) = false → 
    Completes (.commandEdge channel) s fun u => u.on .chDrive channel.val = true ∧ u.vn .chOnAt channel.val = e.t ∧ u.on .chCmd channel.val = true ∧ u.now = max s.now (vcoOf e.t)) ∧
  (∀ (s : State) (leg : Fin 32) (conv : List Int) (t : Nat), let w := (s.arrive t).compared (Stage.ofLeg leg.val) conv
    let m := w.vn .legMode leg.val
    let r := w.vn .legStart leg.val
    let per := w.f Reg.PULSE_PERIOD (Stage.ofLeg leg.val).idx * 64
    let cut := subOf ((max s.now t + Clk.pulse - 1) / Clk.pulse * Clk.pulse) + 128
    let x := if m = 2 then cut - (r + w.act leg.val 3) else cut - r
    let p := constParts m (w.act leg.val 3) (w.act leg.val 4) per (some x)
    let p0 := constParts m (w.act leg.val 3) (w.act leg.val 4) per none
    w.terminates leg.val = true → w.isOpen .legReload leg.val = true → 2 ≤ m → w.f Reg.LEG_CFG_TERM_SRC leg.val ≠ 0 → w.on .legTermed leg.val = false → w.carrierMode (Stage.ofLeg leg.val) = m → p.1 < p0.1 ∨ p.2 < p0.2 →
    Completes (.terminateCondition leg conv t) s fun u => u.now = max s.now t ∧ u.vn .legNext leg.val = r + max p.2 1 ∧ u.due .legReload leg.val = some (vcoOf (r + max p.2 1)) ∧ u.on .legTermed leg.val = true) ∧
  (∀ (s : State) (leg : Fin 32) (conv : List Int) (t : Nat), ((s.arrive t).compared (Stage.ofLeg leg.val) conv).on .legTermed leg.val = true →
    Completes (.terminateCondition leg conv t) s fun u => u.now = max s.now t ∧ u.edges = ((s.arrive t).compared (Stage.ofLeg leg.val) conv).edges) ∧
  (∀ (s : State) (leg : Fin 32) (conv : List Int) (t : Nat), ((s.arrive t).compared (Stage.ofLeg leg.val) conv).terminates leg.val = false →
    Completes (.terminateCondition leg conv t) s fun u => u.now = max s.now t ∧ u.edges = ((s.arrive t).compared (Stage.ofLeg leg.val) conv).edges)

/-- Completion of the twin engines' events. SELF_CHECK_FAIL of the owner with a sound standby in service, and no gap under way, passes ownership (row 2), counts the hand-over, opens the gap, moves OWN_SEL and sets HANDOVER; of the standby alone it condemns the standby (row 3), counted. WORD_MISMATCH with a standby in service and no earlier row in the cycle is row 5 with differing channels and agreeing read-back: counted, the standby in TEST, ownership unchanged; row 6 with no differing channel; and with differing channels and no known read-back it is pending and counted until RB_WAIT. READBACK_CONTRADICTION of a channel evaluable in that cycle is row 4 and passes ownership, the record with the channels that differ, or row 9, each where no earlier row matches, and is counted. DECISION_TIMEOUT with no earlier row in its cycle is row 6 and counted. HANDOVER_GAP_END with no failure inside the gap changes no parameter word. A first INTERLOCK_FAULT shows INTERLOCK and takes both engines from the outputs. SELF_TEST_DONE after the start ends TESTED or FAILED and is counted. SYNC_COPY_DONE opens QUALIFY, or ends the switch-back where the engine's self-check reads FAIL. QUALIFY_END outside a switch-back puts the standby in service and clears DEGRADED; in a switch-back to the preferred engine it opens the hand-over window. SWITCH_BACK_HANDOVER from the first edge-free span or the window's end on passes ownership back at that instant and is counted; before it it changes no parameter word. -/
def Obligations.FailoverEvents : Prop :=
  (∀ (s : State) (engine : Fin 2) (t : Nat), engine.val = s.owner → s.engState engine.val = 0 → s.on .enginesDead = false → s.spareIn = true → (s.arrive t).failNow (1 - engine.val) = false → s.vn .gapEnd ≤ max s.now t →
    Completes (.selfCheckFail engine t) s fun u => u.owner = 1 - s.owner ∧ u.engState u.owner = 0 ∧ u.f Reg.FO_COUNTERS 0 = s.plus Reg.FO_COUNTERS 0 ∧ u.f Reg.FO_LAST_ROW = 2
    ∧ u.endOf .gap = max s.now t / Clk.pulse * Clk.pulse + 5 * Clk.pulse ∧ u.present Ev.HANDOVER = true ∧ u.vn .ownSel = u.owner) ∧
  (∀ (s : State) (engine : Fin 2) (t : Nat), engine.val = 1 - s.owner → s.engState engine.val = 1 → s.on .enginesDead = false → (s.arrive t).failNow s.owner = false →
    Completes (.selfCheckFail engine t) s fun u => u.owner = s.owner ∧ u.on .selfFail engine.val = true ∧ u.f Reg.FO_COUNTERS 1 = s.plus Reg.FO_COUNTERS 1 ∧ u.f Reg.FO_LAST_ROW = 3
    ∧ u.present Ev.STANDBY_CONDEMNED = true) ∧
  (∀ (s : State) (channels : Nat) (carriers : Nat) (t : Nat), s.engState (1 - s.owner) = 1 → s.on .enginesDead = false → (s.arrive t).earlierRow = false → channels ≠ 0 →
    Completes (.wordMismatch channels carriers true t) s fun u => u.f Reg.FO_COUNTERS 2 = s.plus Reg.FO_COUNTERS 2 ∧ u.owner = s.owner ∧ u.engState (1 - s.owner) = 2 ∧ u.f Reg.FO_LAST_ROW = 5) ∧
  (∀ (s : State) (carriers : Nat) (agree : Bool) (t : Nat), s.engState (1 - s.owner) = 1 → s.on .enginesDead = false → (s.arrive t).earlierRow = false → (s.arrive t).diffNow.1 = 0 →
    Completes (.wordMismatch 0 carriers agree t) s fun u => u.f Reg.FO_COUNTERS 2 = s.plus Reg.FO_COUNTERS 2 ∧ u.owner = s.owner ∧ u.f Reg.FO_LAST_ROW = 6) ∧
  (∀ (s : State) (channels : Nat) (carriers : Nat) (t : Nat), s.engState (1 - s.owner) = 1 → s.on .enginesDead = false → (s.arrive t).earlierRow = false → channels ≠ 0 → s.fb Reg.FO_STATUS_PENDING = false →
    Completes (.wordMismatch channels carriers false t) s fun u => u.fb Reg.FO_STATUS_PENDING = true ∧ u.f Reg.FO_COUNTERS 4 = s.plus Reg.FO_COUNTERS 4 ∧ u.owner = s.owner
    ∧ u.endOf .decision = max s.now t / Clk.pulse * Clk.pulse + Clk.pulse * s.f Reg.FO_CFG_RB_WAIT) ∧
  (∀ (s : State) (channel : Fin 64) (t : Nat), (s.arrive t).evaluable channel.val = true → s.on .enginesDead = false → (s.arrive t).decidedNow = false → (s.arrive t).rowNow true = 4 →
    Completes (.readbackContradiction channel t) s fun u => u.owner = 1 - s.owner ∧ u.f Reg.FO_COUNTERS 0 = s.plus Reg.FO_COUNTERS 0 ∧ u.f Reg.FO_LAST_ROW = 4
    ∧ u.f Reg.FO_LAST_CHANNELS = (maskChans ((s.arrive t).diffNow.1 ||| 2 ^ channel.val)).length) ∧
  (∀ (s : State) (channel : Fin 64) (t : Nat), (s.arrive t).evaluable channel.val = true → s.on .enginesDead = false → (s.arrive t).decidedNow = false → (s.arrive t).rowNow true = 9 →
    Completes (.readbackContradiction channel t) s fun u => u.owner = s.owner ∧ u.f Reg.FO_COUNTERS 3 = s.plus Reg.FO_COUNTERS 3 ∧ u.f Reg.FO_LAST_ROW = 9) ∧
  (∀ (s : State), s.isOpen .decision = true → (s.arrive (s.endOf .decision)).earlierRow = false →
    Completes (.decisionTimeout) s fun u => u.f Reg.FO_COUNTERS 2 = s.plus Reg.FO_COUNTERS 2 ∧ u.fb Reg.FO_STATUS_PENDING = false ∧ u.f Reg.FO_LAST_ROW = 6 ∧ u.owner = s.owner
    ∧ u.now = max s.now (s.endOf .decision)) ∧
  (∀ (s : State), s.isOpen .gap = true → s.on .exhaustAtGap = false → 
    Completes (.handoverGapEnd) s fun u => u.isOpen .gap = false ∧ u.now = max s.now (s.endOf .gap) ∧ u.regs = s.regs) ∧
  (∀ (s : State), s.fb Reg.FO_STATUS_INTERLOCK = false → 
    Completes (.interlockFault) s fun u => u.fb Reg.FO_STATUS_INTERLOCK = true ∧ u.on .enginesDead = true ∧ u.interlockBad = true) ∧
  (∀ (s : State) (engine : Fin 2) (pass : Bool), s.isOpen .selfTest engine.val = true → s.module ≠ .starting → 
    Completes (.selfTestDone engine pass) s fun u => u.engState engine.val = (if pass then 3 else 5)
    ∧ u.f Reg.FO_COUNTERS (if pass then 5 else 6) = s.plus Reg.FO_COUNTERS (if pass then 5 else 6)) ∧
  (∀ (s : State), s.isOpen .syncCopy = true → s.on .selfFail (1 - s.owner) = false →
    Completes (.syncCopyDone) s fun u => u.isOpen .syncCopy = false
    ∧ u.endOf .qualify = max s.now (s.endOf .syncCopy) / Clk.pulse * Clk.pulse + us (10 * s.f Reg.FO_CFG_QUALIFY)) ∧
  (∀ (s : State), s.isOpen .syncCopy = true → s.on .selfFail (1 - s.owner) = true →
    Completes (.syncCopyDone) s fun u => u.isOpen .syncCopy = false ∧ u.isOpen .qualify = false ∧ u.fb Reg.FO_STATUS_SWITCHING = false) ∧
  (∀ (s : State), s.isOpen .qualify = true → s.fb Reg.FO_STATUS_SWITCHING = false → 
    Completes (.qualifyEnd) s fun u => u.engState (1 - s.owner) = 1 ∧ u.fb Reg.FO_STATUS_DEGRADED = false ∧ u.owner = s.owner) ∧
  (∀ (s : State), s.isOpen .qualify = true → s.fb Reg.FO_STATUS_SWITCHING = true → s.f Reg.FO_CFG_PREFERRED = 1 - s.owner → 
    Completes (.qualifyEnd) s fun u => u.engState (1 - s.owner) = 1 ∧ u.endOf .switchHandover = max s.now (s.endOf .qualify) / Clk.pulse * Clk.pulse + ms 10 ∧ u.owner = s.owner) ∧
  (∀ (s : State) (t : Nat), s.isOpen .switchHandover = true → s.switchPick ≤ t →
    Completes (.switchBackHandover t) s fun u => u.owner = 1 - s.owner ∧ u.f Reg.FO_COUNTERS 7 = s.plus Reg.FO_COUNTERS 7 ∧ u.fb Reg.FO_STATUS_SWITCHING = false
    ∧ u.fb Reg.FO_STATUS_DEGRADED = false ∧ u.engState s.owner = 1 ∧ u.now = max s.now s.switchPick) ∧
  (∀ (s : State) (t : Nat), s.isOpen .switchHandover = true → t < s.switchPick →
    Completes (.switchBackHandover t) s fun u => u.regs = s.regs ∧ u.isOpen .switchHandover = true ∧ u.now = max s.now t)

/-- What slots, carriers, legs and the twin engines leave unchanged. Each command changes, beside what a report and the reactions of Table 1-8 may change where its frame names them, only the parts and fields listed for it: a trigger, a following error and a setpoint loss counters of their slot; a run's start only the runs; its end what a run publishes (slots, shadow sets, the charger and the actuators) and the lane's load; a carrier start RUN of its stage; a carrier event its stage's period, mode and trip record, what the cores, the feedback channels and the precharge take from it and, at a PERIOD_START, SYNC_OUT; a commit COMMIT and its leg's counter of replaced sets; a reload active sets, carries, counters and COMMIT of legs, and TRIPPED of its leg; the delay lines PULSE.DLL; a trip window its count; an edge trip marks and edge counters; a terminate condition what results write; a decision of the twin engines the words of FO. -/
def Obligations.EngineFrames : Prop :=
  (∀ (s : State) (slot : Fin 48), Framed (.slotTrigger slot) s (Keeps reactionComps (reactionFlds ++ ([one Reg.SLOT_COUNTERS slot.val 1] : List Place)))) ∧
  (∀ (s : State) (lane : Fin 4) (t : Nat), Framed (.slotRunStart lane t) s (Keeps [.runs] [])) ∧
  (∀ (s : State) (lane : Fin 4), Framed (.slotRunEnd lane) s (Keeps (reactionComps ++ ([.runs] : List Comp)) (reactionFlds ++ ([all Reg.ACT_COUNTERS 2 8, all Reg.ACT_MEAS 2 4, all Reg.ACT_STATUS_TIMED_OUT 2, one Reg.ENG_LANE_LOAD_LARGEST lane.val, all Reg.LEG_CTRL_FORCE 32, all Reg.LEG_DUTY_A 32, all Reg.LEG_DUTY_B 32, all Reg.LEG_PHASE 32, all Reg.LEG_TIME_A 32, all Reg.LEG_TIME_B 32, ⟨Reg.SLOT_COUNTERS, 0, 48, 0, 5⟩, all Reg.SLOT_OUT 48 5, all Reg.SLOT_OUT_T_U 48, all Reg.SLOT_STATE_ERROR 48, all Reg.SLOT_STATE_INTEGRATOR 48 4, all Reg.SLOT_STATUS_INT_HELD 48, all Reg.SLOT_STATUS_OUT_SAT 48, all Reg.SLOT_STATUS_RAMPING 48, all Reg.SLOT_STATUS_REF_WAIT 48, all Reg.SLOT_STATUS_STALE_IN 48, all Reg.SLOT_STATUS_VSAT 48] : List Place) ++ chargerFlds))) ∧
  (∀ (s : State) (slot : Fin 48), Framed (.followingError slot) s (Keeps reactionComps (reactionFlds ++ ([one Reg.SLOT_COUNTERS slot.val 2] : List Place)))) ∧
  (∀ (s : State) (slot : Fin 48), Framed (.spLost slot) s (Keeps reactionComps reactionFlds)) ∧
  (∀ (s : State) (stage : Stage), Framed (.carrierStart stage) s (Keeps [] [one Reg.PULSE_STATUS_RUN stage.idx])) ∧
  (∀ (s : State) (stage : Stage) (conv : List Conv), Framed (.periodStart stage conv) s (Keeps (reactionComps ++ ([.dmaFifo, .pipe, .out, .accepts] : List Comp)) (reactionFlds ++ carrierFlds ++ movedFlds ++ levelFlds 0 8 ++ ([one Reg.GD_STAGE_STATUS_CAUSE stage.idx, one Reg.GD_STAGE_STATUS_NOW stage.idx, one Reg.GD_STAGE_STATUS_PREV stage.idx, one Reg.PULSE_COUNTERS stage.idx 0, one Reg.PULSE_COUNTERS stage.idx 2, one Reg.PULSE_PERIOD_NOW stage.idx, one Reg.PULSE_STATUS_MODE stage.idx] : List Place)))) ∧
  (∀ (s : State) (stage : Stage) (conv : List Conv), Framed (.periodMiddle stage conv) s (Keeps (reactionComps ++ ([.dmaFifo, .pipe, .accepts] : List Comp)) (reactionFlds ++ carrierFlds ++ movedFlds ++ levelFlds 0 8))) ∧
  (∀ (s : State) (leg : Fin 32), Framed (.commitComplete leg) s (Keeps [] [one Reg.LEG_COUNTERS leg.val 2, one Reg.LEG_CTRL_COMMIT leg.val])) ∧
  (∀ (s : State) (leg : Fin 32), Framed (.legReload leg) s (Keeps reactionComps (reactionFlds ++ ([⟨Reg.LEG_ACTIVE, leg.val, 1, 0, 6⟩, all Reg.LEG_CARRY 32, ⟨Reg.LEG_COUNTERS, 0, 32, 0, 9⟩, all Reg.LEG_CTRL_COMMIT 32, one Reg.LEG_STATUS_TRIPPED leg.val] : List Place)))) ∧
  (∀ (s : State) (span : Nat), Framed (.dllUnlock span) s (Keeps reactionComps (reactionFlds ++ ([one Reg.PULSE_DLL_FALLBACK, one Reg.PULSE_DLL_LOCKED, one Reg.PULSE_DLL_SPAN] : List Place)))) ∧
  (∀ (s : State) (span : Nat), Framed (.dllRelocked span) s (Keeps reactionComps (reactionFlds ++ ([one Reg.PULSE_DLL_FALLBACK, one Reg.PULSE_DLL_LOCKED, one Reg.PULSE_DLL_SPAN] : List Place)))) ∧
  (∀ (s : State) (leg : Fin 32), Framed (.tripWindowEnd leg) s (Keeps [] [one Reg.LEG_STATUS_WIN_COUNT leg.val])) ∧
  (∀ (s : State) (channel : Fin 64), Framed (.commandEdge channel) s (Keeps reactionComps (reactionFlds ++ ([all Reg.CH_STATUS_TRIPPED 64, ⟨Reg.CH_COUNTERS, 0, 64, 6, 1⟩, ⟨Reg.LEG_COUNTERS, 0, 32, 7, 2⟩] : List Place)))) ∧
  (∀ (s : State) (leg : Fin 32) (conv : List Int) (t : Nat), Framed (.terminateCondition leg conv t) s (Keeps (reactionComps ++ ([.dmaFifo, .pipe] : List Comp)) (reactionFlds ++ resultFlds))) ∧
  (∀ (s : State) (engine : Fin 2) (t : Nat), Framed (.selfCheckFail engine t) s (Keeps (reactionComps ++ ([.out] : List Comp)) (reactionFlds ++ foFlds))) ∧
  (∀ (s : State) (channels : Nat) (carriers : Nat) (agree : Bool) (t : Nat), Framed (.wordMismatch channels carriers agree t) s (Keeps reactionComps (reactionFlds ++ foFlds))) ∧
  (∀ (s : State) (channel : Fin 64) (t : Nat), Framed (.readbackContradiction channel t) s (Keeps (reactionComps ++ ([.out] : List Comp)) (reactionFlds ++ foFlds))) ∧
  (∀ (s : State), Framed (.decisionTimeout) s (Keeps reactionComps (reactionFlds ++ foFlds))) ∧
  (∀ (s : State), Framed (.handoverGapEnd) s (Keeps reactionComps (reactionFlds ++ ([one Reg.FO_LAST_CHANNELS, one Reg.FO_LAST_CONDEMNED, one Reg.FO_LAST_CYCLE, one Reg.FO_LAST_ROW, one Reg.FO_STATUS_PENDING] : List Place)))) ∧
  (∀ (s : State), Framed (.interlockFault) s (Keeps reactionComps (reactionFlds ++ ([one Reg.FO_STATUS_INTERLOCK] : List Place)))) ∧
  (∀ (s : State) (engine : Fin 2) (pass : Bool), Framed (.selfTestDone engine pass) s (Keeps (reportComps ++ ([.causes, .stages] : List Comp)) (reportFlds ++ ([one Reg.FO_COUNTERS 5, one Reg.FO_COUNTERS 6, one Reg.FO_STATUS_DEGRADED, one Reg.FO_STATUS_OWNER, one Reg.FO_STATUS_STATE_A, one Reg.FO_STATUS_STATE_B] : List Place)))) ∧
  (∀ (s : State), Framed (.syncCopyDone) s (Keeps (reportComps ++ ([.causes] : List Comp)) (reportFlds ++ foFlds))) ∧
  (∀ (s : State), Framed (.qualifyEnd) s (Keeps reactionComps (reactionFlds ++ ([one Reg.FO_COUNTERS 7, one Reg.FO_STATUS_DEGRADED, one Reg.FO_STATUS_STATE_A, one Reg.FO_STATUS_STATE_B, one Reg.FO_STATUS_SWITCHING] : List Place)))) ∧
  (∀ (s : State) (t : Nat), Framed (.switchBackHandover t) s (Keeps (reactionComps ++ ([.out] : List Comp)) (reactionFlds ++ ([one Reg.FO_COUNTERS 7, one Reg.FO_STATUS_DEGRADED, one Reg.FO_STATUS_OWNER, one Reg.FO_STATUS_STATE_A, one Reg.FO_STATUS_STATE_B, one Reg.FO_STATUS_SWITCHING] : List Place))))

/-- Completion of the gate drive's events. CBC_TRIP from an enabled source (a detector, a comparator high after the results up to that instant, a regulator whose limit they reach) marks its leg TRIPPED in its PULSE cycle and sets CBC_TRIP; from a comparator that is low it leaves TRIPPED and its count. DESAT_TRIP of an enabled detector on a channel on for the gate edge and BLANK with no hard-short trip in its detector cycle, and SHORT_TRIP of an enabled detector on an isolated channel on since the gate edge whose integral reaches LIMIT in one evaluation, turn the channel off, also when a command turn-off edge has come in the same detector cycle, latch TRIPPED and which it was, and count; below LIMIT the integral is kept and no parameter word changes. GATE_UVLO of an enabled leg marks the rail, keeps the channel off, counts and sets its cause; UVLO_RELEASE with the other rail up clears mark, hold and cause. STATUS_FRAME of an enabled leg, missing or with a bad CRC, is counted, the run of bad frames growing by one; valid, it shows the positive rail and the gate state and ends the run. LINK_FAULT after four bad frames clears LINK_OK, counts and sets its cause. COMMAND_PATH_LOST turns the channel off and keeps the instant from which the path is valid again where it is known. SKEW_MEASURE of an enabled leg shows the delay, moves TRIM by at most one tap and marks TRIM_LIMIT at 0 and 127. THERMISTOR_MEASURE of an enabled leg marks OPEN above 2 Mohm and SHORT below 20 ohm. ENABLE_REMOVED clears its group's enable and turns off every channel of the group. STAGGER_SLOT turns off the lowest waiting leg with a channel on. GATE_READBACK shows the gate, and the clamp where CLAMP_EN allows it once the gate of a channel that is off has fallen to CLAMP_V; SOFT_TURN_OFF_DONE ends SOFT_OFF and engages the clamp, or turns on the low side that waits for an active short circuit. -/
def Obligations.GateEvents : Prop :=
  (∀ (s : State) (leg : Fin 32) (src : TripSrc) (conv : List Int) (t : Nat), let w := (s.arrive t).compared (Stage.ofLeg leg.val) conv
    (s.f Reg.LEG_TRIP_SRC leg.val).testBit (tripBit src) = true → (src = .cmp → w.fb Reg.LEG_STATUS_CMP leg.val = true) → (src = .reg → w.limitReached leg.val = true) →
    Completes (.cbcTrip leg src conv t) s fun u => u.fb Reg.LEG_STATUS_TRIPPED leg.val = true ∧ u.present Ev.CBC_TRIP leg.val = true ∧ u.now = max s.now t ∧ u.vn .legTripAt leg.val = max s.now t / Clk.pulse * Clk.pulse) ∧
  (∀ (s : State) (leg : Fin 32) (conv : List Int) (t : Nat), ((s.arrive t).compared (Stage.ofLeg leg.val) conv).fb Reg.LEG_STATUS_CMP leg.val = false →
    Completes (.cbcTrip leg .cmp conv t) s fun u => u.fb Reg.LEG_STATUS_TRIPPED leg.val = s.fb Reg.LEG_STATUS_TRIPPED leg.val ∧ u.f Reg.LEG_COUNTERS leg.val 3 = s.f Reg.LEG_COUNTERS leg.val 3) ∧
  (∀ (s : State) (channel : Fin 64) (t : Nat), s.fb Reg.CH_DESAT_ENABLE channel.val = true → s.on .chDrive channel.val = true ∨ (s.arrive t).justOff channel.val = true → s.gateEdge channel.val + s.blank channel.val ≤ max s.now t → (s.arrive t).shortToo channel.val = false →
    Completes (.desatTrip channel t) s fun u => u.fb Reg.CH_STATUS_TRIPPED channel.val = true ∧ u.fb Reg.CH_STATUS_DESAT channel.val = true ∧ u.fb Reg.CH_STATUS_SHORT channel.val = false
    ∧ u.on .chDrive channel.val = false ∧ u.f Reg.CH_COUNTERS channel.val 0 = s.plus Reg.CH_COUNTERS channel.val 1 0) ∧
  (∀ (s : State) (channel : Fin 64) (t : Nat) (vks : List Int), isolated channel.val = true → s.fb Reg.CH_SHORT_ENABLE channel.val = true → s.on .chDrive channel.val = true ∨ (s.arrive t).justOff channel.val = true → s.gateEdge channel.val ≤ max s.now t →
    fluxReaches (50000 * s.f Reg.CH_SHORT_LIMIT channel.val) (s.v .phi channel.val) vks = true →
    Completes (.shortTrip channel t vks) s fun u => u.fb Reg.CH_STATUS_TRIPPED channel.val = true ∧ u.fb Reg.CH_STATUS_SHORT channel.val = true ∧ u.fb Reg.CH_STATUS_DESAT channel.val = false
    ∧ u.on .chDrive channel.val = false ∧ u.f Reg.CH_COUNTERS channel.val 1 = s.plus Reg.CH_COUNTERS channel.val 1 1) ∧
  (∀ (s : State) (channel : Fin 64) (t : Nat) (vks : List Int), isolated channel.val = true → s.on .chDrive channel.val = true → s.gateEdge channel.val ≤ max s.now t →
    fluxReaches (50000 * s.f Reg.CH_SHORT_LIMIT channel.val) (s.v .phi channel.val) vks = false →
    Completes (.shortTrip channel t vks) s fun u => u.v .phi channel.val = fluxOf (s.v .phi channel.val) vks ∧ u.on .chDrive channel.val = true ∧ u.regs = s.regs) ∧
  (∀ (s : State) (channel : Fin 64), s.fb Reg.CH_STATUS_UVLO_POS channel.val = false → s.fb Reg.LEG_CFG_ENABLE (channel.val / 2) = true → 
    Completes (.gateUvlo channel false) s fun u => u.fb Reg.CH_STATUS_UVLO_POS channel.val = true ∧ u.on .chUvlo channel.val = true ∧ u.on .chDrive channel.val = false
    ∧ u.f Reg.CH_COUNTERS channel.val 2 = s.plus Reg.CH_COUNTERS channel.val 1 2 ∧ u.present Ev.GATE_UVLO channel.val = true) ∧
  (∀ (s : State) (channel : Fin 64), s.fb Reg.CH_STATUS_UVLO_POS channel.val = false → 
    Completes (.uvloRelease channel true) s fun u => (isolated channel.val = true → u.fb Reg.CH_STATUS_UVLO_NEG channel.val = false ∧ u.on .chUvlo channel.val = false
      ∧ u.present Ev.GATE_UVLO channel.val = false)) ∧
  (∀ (s : State) (channel : Fin 64), s.fb Reg.CH_STATUS_UVLO_NEG channel.val = false → 
    Completes (.uvloRelease channel false) s fun u => u.fb Reg.CH_STATUS_UVLO_POS channel.val = false ∧ u.on .chUvlo channel.val = false ∧ u.present Ev.GATE_UVLO channel.val = false) ∧
  (∀ (s : State) (channel : Fin 64) (frame : FrameSeen) (t : Nat), s.fb Reg.LEG_CFG_ENABLE (channel.val / 2) = true → 0 ≤ s.v .chBadFrames channel.val → frame = .missing ∨ frame = .badCrc →
    Completes (.statusFrame channel frame t) s fun u => u.f Reg.CH_COUNTERS channel.val 3 = s.plus Reg.CH_COUNTERS channel.val 1 3 ∧ u.vn .chBadFrames channel.val = s.vn .chBadFrames channel.val + 1) ∧
  (∀ (s : State) (channel : Fin 64) (frame : ChFrame) (t : Nat), s.fb Reg.LEG_CFG_ENABLE (channel.val / 2) = true → 
    Completes (.statusFrame channel (.good frame) t) s fun u => u.f Reg.CH_RAILS_VPOS channel.val = frame.vpos % 2 ^ Reg.CH_RAILS_VPOS.width ∧ u.vn .chBadFrames channel.val = 0 ∧ u.fb Reg.CH_STATUS_GATE channel.val = frame.gate) ∧
  (∀ (s : State) (channel : Fin 64), 4 ≤ s.vn .chBadFrames channel.val → s.present Ev.LINK_FAULT channel.val = false → 
    Completes (.linkFault channel) s fun u => u.fb Reg.CH_STATUS_LINK_OK channel.val = false ∧ u.f Reg.CH_COUNTERS channel.val 4 = s.plus Reg.CH_COUNTERS channel.val 1 4
    ∧ u.present Ev.LINK_FAULT channel.val = true) ∧
  (∀ (s : State) (path : PathLost),
    Completes (.commandPathLost path) s fun u => u.on .chPathLost path.ch.val = true ∧ u.on .chDrive path.ch.val = false ∧ (∀ t, path.back = some t → u.vn .chPathBack path.ch.val = t + 1)) ∧
  (∀ (s : State) (channel : Fin 64) (ps : Nat), s.fb Reg.LEG_CFG_ENABLE (channel.val / 2) = true →
    Completes (.skewMeasure channel ps) s fun u => u.f Reg.CH_TIMING_DELAY channel.val = ps % 2 ^ Reg.CH_TIMING_DELAY.width
    ∧ u.f Reg.CH_TIMING_TRIM channel.val ≤ s.f Reg.CH_TIMING_TRIM channel.val + 1 ∧ s.f Reg.CH_TIMING_TRIM channel.val ≤ u.f Reg.CH_TIMING_TRIM channel.val + 1
    ∧ u.fb Reg.CH_STATUS_TRIM_LIMIT channel.val = (u.f Reg.CH_TIMING_TRIM channel.val == 0 || u.f Reg.CH_TIMING_TRIM channel.val == 127)) ∧
  (∀ (s : State) (leg : Fin 26) (ohms : Nat), s.fb Reg.LEG_CFG_ENABLE leg.val = true →
    Completes (.thermistorMeasure leg ohms) s fun u => u.fb Reg.CH_STATUS_THERM_OPEN (2 * leg.val) = decide (2000000 < ohms) ∧ u.fb Reg.CH_STATUS_THERM_SHORT (2 * leg.val) = decide (ohms < 20)) ∧
  (∀ (s : State) (group : Fin 4), 
    Completes (.enableRemoved group) s fun u => u.f Reg.GD_STATUS_ENABLE_SG = s.f Reg.GD_STATUS_ENABLE_SG &&& (15 - 2 ^ group.val)
    ∧ ∀ t ∈ Stage.ofGroup group.val, ∀ c ∈ t.chans, u.on .chDrive c = false ∧ u.fb Reg.CH_STATUS_ENABLE c = false) ∧
  (∀ (s : State) (stage : Stage) (n : Fin 32), s.isOpen .stagger stage.idx = true → n.val ∈ stage.legs → s.on .staggerLeg n.val = true → s.chOn (2 * n.val) = true ∨ s.chOn (2 * n.val + 1) = true → (∀ m ∈ stage.legs, m < n.val → s.on .staggerLeg m = false ∨ (s.chOn (2 * m) = false ∧ s.chOn (2 * m + 1) = false)) → 
    Completes (.staggerSlot stage) s fun u => u.on .chDrive (2 * n.val) = false ∧ u.on .chDrive (2 * n.val + 1) = false ∧ u.now = max s.now (s.endOf .stagger stage.idx)) ∧
  (∀ (s : State) (channel : Fin 64) (t : Nat),
    Completes (.gateReadback channel .on t) s fun u => u.fb Reg.CH_STATUS_GATE channel.val = true ∧ u.now = max s.now t) ∧
  (∀ (s : State) (channel : Fin 64) (mv : Nat) (t : Nat),
    Completes (.gateReadback channel (.off mv) t) s fun u => u.fb Reg.CH_STATUS_GATE channel.val = false ∧ u.now = max s.now t ∧ u.on .chOffShown channel.val = true) ∧
  (∀ (s : State) (channel : Fin 64) (mv : Nat) (t : Nat), mv ≤ s.clampMv channel.val → s.on .chDrive channel.val = false → s.fb Reg.CH_STATUS_SOFT_OFF channel.val = false → s.fb Reg.CH_DRIVE_CLAMP_EN channel.val = true →
    Completes (.gateReadback channel (.off mv) t) s fun u => u.fb Reg.CH_STATUS_CLAMP channel.val = true) ∧
  (∀ (s : State) (channel : Fin 64), s.fb Reg.CH_STATUS_SOFT_OFF channel.val = true → (channel.val % 2 = 1 → s.on .ascWait (channel.val / 2) = false) →
    Completes (.softTurnOffDone channel) s fun u => u.fb Reg.CH_STATUS_SOFT_OFF channel.val = false ∧ u.fb Reg.CH_STATUS_CLAMP channel.val = true) ∧
  (∀ (s : State) (leg : Fin 32) (channel : Fin 64), channel.val = 2 * leg.val + 1 → s.fb Reg.CH_STATUS_SOFT_OFF channel.val = true → s.on .ascWait leg.val = true → s.lowMayTurnOn channel.val = true →
    (s.f Reg.GD_STATUS_ENABLE_SG).testBit (Stage.ofLeg leg.val).group = true → s.chOn (2 * leg.val) = false → s.on .chDriven (2 * leg.val) = false →
    Completes (.softTurnOffDone channel) s fun u => u.fb Reg.CH_STATUS_SOFT_OFF channel.val = false ∧ u.on .chDrive channel.val = true)

/-- Completion of the link regulator's updates and windows and of SYNC_IN. REGULATOR_UPDATE at its instant is counted. SOFT_START_WINDOW_END in SOFT_START clears SS_WINDOW and keeps for the next update whether the link has come to a tenth of the setpoint; HICCUP_WAIT_END in HICCUP and SHED_TIMER of a condition keep that it is met (that an update makes the transition is the model's reading, log entry 207). With L RUNNING and no overvoltage about to be declared, the update after a window that the link met ends in REGULATE with every leg and no hiccups; after one that it missed, while hiccups are left, in HICCUP, counted, with HICCUP_WAIT open; in HICCUP after HICCUP_WAIT in a new soft start with its window, the hiccup counted; in REGULATE with every leg, when the light condition is met, in LIGHT with one leg, otherwise, when the shed condition is met, with one leg fewer, counted; on a request to hand back in REGULATE, LIGHT, BURST or HICCUP it ends in STANDBY without legs; on one to take over in STANDBY in REGULATE with every leg, counted. SHED_BLOCK_END clears BLOCK. LINK_UV and PHASE_IMBALANCE at the end of their windows set their causes. A later SYNC_IN_EDGE keeps the corrected stamp and shows the period. SYNC_IN_TIMEOUT of a locked stage clears LOCKED, sets SYNC_LOST and its cause and counts. SYNC_FREE with the period back at PERIOD shows FREE. -/
def Obligations.LinkEvents : Prop :=
  (∀ (s : State), s.isOpen .regTrig = true → 
    Completes (.regulatorUpdate) s fun u => u.f Reg.LINK_COUNTERS 0 = s.plus Reg.LINK_COUNTERS 0 ∧ u.now = max s.now (s.endOf .regTrig)) ∧
  (∀ (s : State), s.isOpen .ssWindow = true → s.f Reg.LINK_STATUS_STATE = 1 → s.v .regSet ≤ 10 * s.v .regLink → 
    Completes (.softStartWindowEnd) s fun u => u.vn .ssJudged = 1 ∧ u.fb Reg.LINK_STATUS_SS_WINDOW = false ∧ u.f Reg.LINK_STATUS_STATE = 1 ∧ u.now = max s.now (s.endOf .ssWindow))
 ∧
  (∀ (s : State), s.isOpen .ssWindow = true → s.f Reg.LINK_STATUS_STATE = 1 → 10 * s.v .regLink < s.v .regSet → 
    Completes (.softStartWindowEnd) s fun u => u.vn .ssJudged = 2 ∧ u.fb Reg.LINK_STATUS_SS_WINDOW = false ∧ u.f Reg.LINK_STATUS_STATE = 1 ∧ u.now = max s.now (s.endOf .ssWindow))
 ∧
  (∀ (s : State), s.isOpen .hiccup = true → s.f Reg.LINK_STATUS_STATE = 6 → 
    Completes (.hiccupWaitEnd) s fun u => u.on .hiccupOver = true ∧ u.f Reg.LINK_STATUS_STATE = 6 ∧ u.now = max s.now (s.endOf .hiccup))
 ∧
  (∀ (s : State) (cond : Fin 3), s.isOpen .shed cond.val = true → 
    Completes (.shedTimer cond) s fun u => u.on .shedMet cond.val = true ∧ u.isOpen .shed cond.val = false ∧ u.now = max s.now (s.endOf .shed cond.val))
 ∧
  (∀ (s : State), s.isOpen .regTrig = true → s.st .L = .running → s.f Reg.LINK_STATUS_STATE = 1 → s.vn .ssJudged = 1 → s.vn .regOv ≠ 1 → 
    Completes (.regulatorUpdate) s fun u => u.f Reg.LINK_STATUS_STATE = 2 ∧ u.f Reg.LINK_STATUS_PHASES = s.f Reg.LINK_CFG_N_MAX ∧ u.f Reg.LINK_STATUS_HICCUPS = 0 ∧ u.isOpen .ssWindow = false)
 ∧
  (∀ (s : State), s.isOpen .regTrig = true → s.st .L = .running → s.f Reg.LINK_STATUS_STATE = 1 → s.vn .ssJudged = 2 → s.vn .regOv ≠ 1 → s.f Reg.LINK_STATUS_HICCUPS < s.f Reg.LINK_CFG_HICCUP_MAX → 
    Completes (.regulatorUpdate) s fun u => u.f Reg.LINK_STATUS_STATE = 6 ∧ u.f Reg.LINK_STATUS_PHASES = 0 ∧ u.f Reg.LINK_COUNTERS 5 = s.plus Reg.LINK_COUNTERS 5
    ∧ u.endOf .hiccup = max s.now (s.endOf .regTrig) / 3000 * 3000 + ms (10 * s.f Reg.LINK_CFG_HICCUP_WAIT))
 ∧
  (∀ (s : State), s.isOpen .regTrig = true → s.st .L = .running → s.f Reg.LINK_STATUS_STATE = 6 → s.on .hiccupOver = true → s.on .handbackReq = false → 
    Completes (.regulatorUpdate) s fun u => u.f Reg.LINK_STATUS_STATE = 1 ∧ u.f Reg.LINK_STATUS_HICCUPS = s.plus Reg.LINK_STATUS_HICCUPS ∧ u.fb Reg.LINK_STATUS_SS_WINDOW = true
    ∧ u.endOf .ssWindow = max s.now (s.endOf .regTrig) / 3000 * 3000 + ms (s.f Reg.LINK_SOFT_SS_TIME))
 ∧
  (∀ (s : State), s.isOpen .regTrig = true → s.st .L = .running → s.f Reg.LINK_STATUS_STATE = 2 → s.f Reg.LINK_CFG_N_MAX ≤ s.f Reg.LINK_STATUS_PHASES → s.on .handbackReq = false → s.on .shedMet 1 = true → s.vn .regOv ≠ 1 → 
    Completes (.regulatorUpdate) s fun u => u.f Reg.LINK_STATUS_STATE = 3 ∧ u.f Reg.LINK_STATUS_PHASES = 1 ∧ u.f Reg.LINK_COUNTERS 0 = s.plus Reg.LINK_COUNTERS 0)
 ∧
  (∀ (s : State), s.isOpen .regTrig = true → s.st .L = .running → s.f Reg.LINK_STATUS_STATE = 2 → s.f Reg.LINK_CFG_N_MAX ≤ s.f Reg.LINK_STATUS_PHASES → s.on .handbackReq = false → s.on .shedMet 1 = false → s.on .shedMet 0 = true → s.vn .regOv ≠ 1 → 
    Completes (.regulatorUpdate) s fun u => u.f Reg.LINK_STATUS_STATE = 2 ∧ u.f Reg.LINK_STATUS_PHASES = s.f Reg.LINK_STATUS_PHASES - 1 ∧ u.f Reg.LINK_COUNTERS 1 = s.plus Reg.LINK_COUNTERS 1)
 ∧
  (∀ (s : State), s.isOpen .regTrig = true → s.st .L = .running → s.f Reg.LINK_STATUS_STATE = 2 ∨ s.f Reg.LINK_STATUS_STATE = 3 ∨ s.f Reg.LINK_STATUS_STATE = 4 ∨ s.f Reg.LINK_STATUS_STATE = 6 → s.on .handbackReq = true → s.vn .regOv ≠ 1 → 
    Completes (.regulatorUpdate) s fun u => u.f Reg.LINK_STATUS_STATE = 5 ∧ u.f Reg.LINK_STATUS_PHASES = 0 ∧ u.on .handbackReq = false)
 ∧
  (∀ (s : State), s.isOpen .regTrig = true → s.st .L = .running → s.f Reg.LINK_STATUS_STATE = 5 → s.on .takeoverReq = true → 
    Completes (.regulatorUpdate) s fun u => u.f Reg.LINK_STATUS_STATE = 2 ∧ u.f Reg.LINK_STATUS_PHASES = s.f Reg.LINK_CFG_N_MAX ∧ u.f Reg.LINK_COUNTERS 6 = s.plus Reg.LINK_COUNTERS 6
    ∧ u.on .takeoverReq = false) ∧
  (∀ (s : State), s.isOpen .shedBlock = true → 
    Completes (.shedBlockEnd) s fun u => u.fb Reg.LINK_STATUS_BLOCK = false ∧ u.isOpen .shedBlock = false ∧ u.now = max s.now (s.endOf .shedBlock)) ∧
  (∀ (s : State), s.isOpen .uvTime = true → 
    Completes (.linkUv) s fun u => u.present Ev.LINK_UV = true ∧ u.now = max s.now (s.endOf .uvTime)) ∧
  (∀ (s : State) (phase : Fin 6), s.isOpen .imbTime phase.val = true → 
    Completes (.phaseImbalance phase) s fun u => u.present Ev.PHASE_IMBALANCE phase.val = true ∧ u.now = max s.now (s.endOf .imbTime phase.val)) ∧
  (∀ (s : State) (stamp : Nat), s.vn .syncEdge ≠ 0 → s.vn .syncEdge + s.f Reg.PULSE_SYNC_IN_COMP < stamp → 
    Completes (.syncInEdge stamp) s fun u => u.vn .syncEdge = stamp - s.f Reg.PULSE_SYNC_IN_COMP ∧ u.now = max s.now (vcoOf stamp)
    ∧ u.f Reg.PULSE_SYNC_IN_PERIOD = (stamp - s.f Reg.PULSE_SYNC_IN_COMP - s.vn .syncEdge) % 2 ^ Reg.PULSE_SYNC_IN_PERIOD.width) ∧
  (∀ (s : State) (stage : Stage), s.isOpen .syncTimeout stage.idx = true → s.fb Reg.PULSE_STATUS_LOCKED stage.idx = true → 
    Completes (.syncInTimeout stage) s fun u => u.fb Reg.PULSE_STATUS_LOCKED stage.idx = false ∧ u.fb Reg.PULSE_STATUS_SYNC_LOST stage.idx = true
    ∧ u.f Reg.PULSE_COUNTERS stage.idx 1 = s.plus Reg.PULSE_COUNTERS stage.idx 1 1 ∧ u.present Ev.SYNC_LOST stage.idx = true) ∧
  (∀ (s : State) (t : Nat), s.on .syncFreeing = true → s.fb Reg.LINK_STATUS_FREE = false → s.f Reg.PULSE_PERIOD_NOW 2 = s.f Reg.PULSE_PERIOD 2 * 64 → 
    Completes (.syncFree t) s fun u => u.fb Reg.LINK_STATUS_FREE = true ∧ u.now = max s.now t)

/-- What the gate drive and the link regulator leave unchanged. Each command changes, beside what a report and the reactions of Table 1-8 may change where its frame names them, only the parts and fields listed for it: a trip its leg's status, window count and counters, the trip records and tags of stages and what the results up to it write; a detector trip, a rail, a frame, a link fault, a trim, a temperature or a read-back the status, counters and readings of its channel (a detector trip also trip records, a rail the low-voltage rail, a read-back scheduled edges); a lost path, a removed enable, a stagger slot or the end of a soft turn-off soft turn-offs, clamps, their counters and the enables; an update or a window of the regulator the link's words, its snapshots and the shadow sets of the legs of L; SYNC_IN the synchronisation words. -/
def Obligations.GateLinkFrames : Prop :=
  (∀ (s : State) (leg : Fin 32) (src : TripSrc) (conv : List Int) (t : Nat), Framed (.cbcTrip leg src conv t) s (Keeps (reactionComps ++ ([.dmaFifo, .pipe] : List Comp)) (reactionFlds ++ resultFlds ++ ([all Reg.GD_STAGE_COUNTERS 7, all Reg.GD_STAGE_STATUS_CAUSE 7, all Reg.GD_STAGE_STATUS_NOW 7, one Reg.LEG_COUNTERS leg.val 3, one Reg.LEG_COUNTERS leg.val 4, one Reg.LEG_STATUS_CMP leg.val, one Reg.LEG_STATUS_TRIPPED leg.val, one Reg.LEG_STATUS_WIN_COUNT leg.val, one Reg.LINK_COUNTERS 7, all Reg.GD_STAGE_STATUS_PREV 7] : List Place)))) ∧
  (∀ (s : State) (channel : Fin 64) (t : Nat), Framed (.desatTrip channel t) s (Keeps reactionComps (reactionFlds ++ ([one Reg.CH_COUNTERS channel.val 0, one Reg.CH_STATUS_DESAT channel.val, one Reg.CH_STATUS_SHORT channel.val, one Reg.CH_STATUS_TRIPPED channel.val, all Reg.GD_STAGE_STATUS_CAUSE 7, all Reg.GD_STAGE_STATUS_NOW 7, all Reg.GD_STAGE_STATUS_PREV 7] : List Place)))) ∧
  (∀ (s : State) (channel : Fin 64) (t : Nat) (vks : List Int), Framed (.shortTrip channel t vks) s (Keeps reactionComps (reactionFlds ++ ([one Reg.CH_COUNTERS channel.val 1, one Reg.CH_STATUS_DESAT channel.val, one Reg.CH_STATUS_SHORT channel.val, one Reg.CH_STATUS_TRIPPED channel.val, all Reg.GD_STAGE_STATUS_CAUSE 7, all Reg.GD_STAGE_STATUS_NOW 7, all Reg.GD_STAGE_STATUS_PREV 7] : List Place)))) ∧
  (∀ (s : State) (channel : Fin 64) (negative : Bool), Framed (.gateUvlo channel negative) s (Keeps reactionComps (reactionFlds ++ ([one Reg.CH_COUNTERS channel.val 2, one Reg.CH_STATUS_UVLO_NEG channel.val, one Reg.CH_STATUS_UVLO_POS channel.val, one Reg.GD_STATUS_LV_RAIL_OK] : List Place)))) ∧
  (∀ (s : State) (channel : Fin 64) (negative : Bool), Framed (.uvloRelease channel negative) s (Keeps reactionComps (reactionFlds ++ ([one Reg.CH_STATUS_UVLO_NEG channel.val, one Reg.CH_STATUS_UVLO_POS channel.val, one Reg.GD_STATUS_LV_RAIL_OK] : List Place)))) ∧
  (∀ (s : State) (channel : Fin 64) (frame : FrameSeen) (t : Nat), Framed (.statusFrame channel frame t) s (Keeps reactionComps (reactionFlds ++ ([one Reg.CH_COUNTERS channel.val 0, one Reg.CH_COUNTERS channel.val 1, one Reg.CH_COUNTERS channel.val 2, one Reg.CH_COUNTERS channel.val 3, one Reg.CH_RAILS_VNEG channel.val, one Reg.CH_RAILS_VPOS channel.val, one Reg.CH_STATUS_DESAT channel.val, one Reg.CH_STATUS_GATE channel.val, one Reg.CH_STATUS_LINK_OK channel.val, one Reg.CH_STATUS_SHORT channel.val, one Reg.CH_STATUS_TRIPPED channel.val, one Reg.CH_STATUS_UVLO_NEG channel.val, one Reg.CH_STATUS_UVLO_POS channel.val, one Reg.CH_TEMP_T channel.val, all Reg.GD_STAGE_STATUS_CAUSE 7, all Reg.GD_STAGE_STATUS_NOW 7, all Reg.GD_STAGE_STATUS_PREV 7, one Reg.GD_STATUS_LV_RAIL_OK, one Reg.GD_LV_RAIL] : List Place)))) ∧
  (∀ (s : State) (channel : Fin 64), Framed (.linkFault channel) s (Keeps reactionComps (reactionFlds ++ ([one Reg.CH_COUNTERS channel.val 4, one Reg.CH_STATUS_LINK_OK channel.val] : List Place)))) ∧
  (∀ (s : State) (path : PathLost), Framed (.commandPathLost path) s (Keeps [] [one Reg.CH_COUNTERS path.ch.val 5, one Reg.CH_STATUS_SOFT_OFF path.ch.val])) ∧
  (∀ (s : State) (channel : Fin 64) (ps : Nat), Framed (.skewMeasure channel ps) s (Keeps reactionComps (reactionFlds ++ ([one Reg.CH_STATUS_TRIM_LIMIT channel.val, one Reg.CH_TIMING_DELAY channel.val, one Reg.CH_TIMING_TRIM channel.val] : List Place)))) ∧
  (∀ (s : State) (leg : Fin 26) (ohms : Nat), Framed (.thermistorMeasure leg ohms) s (Keeps [.free] [one Reg.CH_STATUS_THERM_OPEN (2 * leg.val), one Reg.CH_STATUS_THERM_SHORT (2 * leg.val), one Reg.CH_TEMP_R (2 * leg.val), one Reg.CH_TEMP_T (2 * leg.val)])) ∧
  (∀ (s : State) (group : Fin 4), Framed (.enableRemoved group) s (Keeps [] [⟨Reg.CH_COUNTERS, 0, 64, 5, 1⟩, all Reg.CH_STATUS_ENABLE 64, all Reg.CH_STATUS_SOFT_OFF 64, one Reg.GD_STATUS_ENABLE_SG])) ∧
  (∀ (s : State) (stage : Stage), Framed (.staggerSlot stage) s (Keeps [] [⟨Reg.CH_COUNTERS, 0, 64, 5, 1⟩, all Reg.CH_STATUS_SOFT_OFF 64])) ∧
  (∀ (s : State) (channel : Fin 64) (gate : GateSeen) (t : Nat), Framed (.gateReadback channel gate t) s (Keeps [.edges] [one Reg.CH_STATUS_CLAMP channel.val, one Reg.CH_STATUS_CLAMP (partner channel.val), one Reg.CH_STATUS_GATE channel.val])) ∧
  (∀ (s : State) (channel : Fin 64), Framed (.softTurnOffDone channel) s (Keeps [.edges] [one Reg.CH_STATUS_CLAMP channel.val, one Reg.CH_STATUS_SOFT_OFF channel.val])) ∧
  (∀ (s : State), Framed (.regulatorUpdate) s (Keeps reactionComps (reactionFlds ++ regLegFlds ++ ([all Reg.LINK_COUNTERS 9, all Reg.LINK_MEAS 5, one Reg.LINK_STATUS_BUCK, one Reg.LINK_STATUS_CO, one Reg.LINK_STATUS_HICCUPS, one Reg.LINK_STATUS_LOCKED] : List Place)))) ∧
  (∀ (s : State), Framed (.softStartWindowEnd) s (Keeps [] [one Reg.LINK_STATUS_SS_WINDOW])) ∧
  (∀ (s : State), Framed (.hiccupWaitEnd) s (Keeps [] [])) ∧
  (∀ (s : State) (cond : Fin 3), Framed (.shedTimer cond) s (Keeps [] [])) ∧
  (∀ (s : State), Framed (.shedBlockEnd) s (Keeps [] [one Reg.LINK_STATUS_BLOCK])) ∧
  (∀ (s : State), Framed (.linkUv) s (Keeps reactionComps reactionFlds)) ∧
  (∀ (s : State) (phase : Fin 6), Framed (.phaseImbalance phase) s (Keeps reactionComps reactionFlds)) ∧
  (∀ (s : State) (stamp : Nat), Framed (.syncInEdge stamp) s (Keeps reactionComps (reactionFlds ++ ([one Reg.LINK_STATUS_FREE, one Reg.LINK_STATUS_LOCKED, ⟨Reg.PULSE_COUNTERS, 0, 7, 1, 1⟩, all Reg.PULSE_STATUS_LOCKED 7, all Reg.PULSE_STATUS_SYNC_LOST 7, one Reg.PULSE_SYNC_IN_PERIOD] : List Place)))) ∧
  (∀ (s : State) (stage : Stage), Framed (.syncInTimeout stage) s (Keeps reactionComps (reactionFlds ++ ([one Reg.LINK_STATUS_LOCKED, one Reg.PULSE_COUNTERS stage.idx 1, one Reg.PULSE_STATUS_LOCKED stage.idx, one Reg.PULSE_STATUS_SYNC_LOST stage.idx] : List Place)))) ∧
  (∀ (s : State) (t : Nat), Framed (.syncFree t) s (Keeps reportComps (reportFlds ++ ([one Reg.LINK_STATUS_FREE] : List Place))))

/-- The power path and the charge supervisor complete their events with the instants, marks, counts and causes named here. When the power-path period ends, its next end is 100 us after the SLOW edge before the present time. A half-cycle that a used input has begun ends: its mark falls, its length is kept, and CHG.MEAS of the input shows the RMS value in tenths. A used input without a zero crossing, while the path is not idle, counts a lost source, makes the path idle and not qualified, and SOURCE_LOST is present. A qualification whose window ends outside the tests of the sag ride-through counts and marks the source as qualified. When the hand-back time ends with the path in state 3, the source qualified, stage P RUNNING and stage L RUNNING or in HOLD, the request to P stands and the hand-back counts. When the takeover window of P's stop sequence ends in phase 2, phase 3 begins, with the power and the instant kept. The over-current window of the battery ends with BATT_OC present. The supervisor's period in CC and CV opens the next one and counts one or two to the safety timer. When the window of an absent condition ends, that condition's cause is no longer present. -/
def Obligations.ChargerEvents : Prop :=
  (∀ (s : State), s.isOpen .ppEval = true → 
    Completes (.powerPathEval) s fun u => u.now = max s.now (s.endOf .ppEval) ∧ u.endOf .ppEval = max s.now (s.endOf .ppEval) / 3000 * 3000 + us 100) ∧
  (∀ (s : State) (input : Fin 3), s.on .chgHalf input.val = true → input.val ∈ s.usedInputs → 
    Completes (.halfCycleEnd input) s fun u => u.on .chgHalf input.val = false ∧ u.vn .chgLen input.val = s.vn .chgHalfLen input.val
    ∧ u.f Reg.CHG_MEAS input.val = wrap 32 (tenths (u.v .chgRms input.val))) ∧
  (∀ (s : State) (input : Fin 3), s.isOpen .noCross input.val = true → input.val ∈ s.usedInputs → s.f Reg.CHG_STATUS_PP_STATE ≠ 0 → 
    Completes (.noZeroCrossing input) s fun u => u.f Reg.CHG_COUNTERS 1 = s.plus Reg.CHG_COUNTERS 1 ∧ u.f Reg.CHG_STATUS_PP_STATE = 0 ∧ u.fb Reg.CHG_STATUS_QUALIFIED = false
    ∧ u.present Ev.SOURCE_LOST = true ∧ u.now = max s.now (s.endOf .noCross input.val)) ∧
  (∀ (s : State), s.isOpen .qual = true → s.vn .chgSag ≠ 2 → 
    Completes (.sourceQualified) s fun u => u.fb Reg.CHG_STATUS_QUALIFIED = true ∧ u.f Reg.CHG_COUNTERS 0 = s.plus Reg.CHG_COUNTERS 0 ∧ u.now = max s.now (s.endOf .qual)) ∧
  (∀ (s : State), s.isOpen .hbTime = true → s.f Reg.CHG_STATUS_PP_STATE = 3 → s.fb Reg.CHG_STATUS_QUALIFIED = true → s.st .P = .running → (s.st .L).isRunning = true → 
    Completes (.handbackDone) s fun u => u.on .handbackReq = true ∧ u.f Reg.CHG_COUNTERS 3 = s.plus Reg.CHG_COUNTERS 3 ∧ u.now = max s.now (s.endOf .hbTime)) ∧
  (∀ (s : State), s.isOpen .stopTakeover = true → s.vn .pStop = 2 → 
    Completes (.stopTakeoverTimeout) s fun u => u.vn .pStop = 3 ∧ u.v .chgStopP = s.v .chgPin ∧ u.vn .chgStopAt = max s.now (s.endOf .stopTakeover)) ∧
  (∀ (s : State), s.isOpen .battOc = true → 
    Completes (.battOc) s fun u => u.present Ev.BATT_OC = true ∧ u.now = max s.now (s.endOf .battOc)) ∧
  (∀ (s : State), s.isOpen .chgEval = true → s.f Reg.CHG_STATUS_CHG_STATE = 1 ∨ s.f Reg.CHG_STATUS_CHG_STATE = 2 → 
    Completes (.chargeEval) s fun u => u.endOf .chgEval = max s.now (s.endOf .chgEval) / 3000 * 3000 + ms 1 ∧ u.now = max s.now (s.endOf .chgEval)
    ∧ (u.v .chgCount = s.v .chgCount + 1 ∨ u.v .chgCount = s.v .chgCount + 2)) ∧
  (∀ (s : State) (cond : Fin 7), s.isOpen .absent cond.val = true → 
    Completes (.causeAbsent1ms cond) s fun u => u.present (absentCause cond.val).1 (absentCause cond.val).2 = false ∧ u.now = max s.now (s.endOf .absent cond.val))

/-- Arrival, time-out, blocking and hold over-current of an actuator complete when their window ends. Arrival, of a moving actuator to which no setpoint was applied meanwhile, makes it HOLDING in its HOLD_MODE, counts and ends ACT_BLOCKED. MOVE_TIME in MOVING marks TIMED_OUT and counts. The blocked window counts and ACT_BLOCKED is present. The over-current window makes the hold SERVO and HOLD_OVERCURRENT is present. Each takes place at the end of its window or now, whichever is later. -/
def Obligations.ActuatorEvents : Prop :=
  (∀ (s : State) (actuator : Fin 2), s.isOpen .arrive actuator.val = true → s.f Reg.ACT_STATUS_STATE actuator.val = 1 → s.on .actNew actuator.val = false → 
    Completes (.arrived actuator) s fun u => u.f Reg.ACT_STATUS_STATE actuator.val = 2 ∧ u.f Reg.ACT_STATUS_HOLD actuator.val = s.f Reg.ACT_CFG_HOLD_MODE actuator.val
    ∧ u.f Reg.ACT_COUNTERS actuator.val 1 = s.plus Reg.ACT_COUNTERS actuator.val 1 1 ∧ u.present Ev.ACT_BLOCKED actuator.val = false
    ∧ u.now = max s.now (s.endOf .arrive actuator.val)) ∧
  (∀ (s : State) (actuator : Fin 2), s.isOpen .moveTime actuator.val = true → s.f Reg.ACT_STATUS_STATE actuator.val = 1 → 
    Completes (.actTimeout actuator) s fun u => u.f Reg.ACT_COUNTERS actuator.val 2 = s.plus Reg.ACT_COUNTERS actuator.val 1 2 ∧ u.fb Reg.ACT_STATUS_TIMED_OUT actuator.val = true
    ∧ u.now = max s.now (s.endOf .moveTime actuator.val)) ∧
  (∀ (s : State) (actuator : Fin 2), s.isOpen .block actuator.val = true → 
    Completes (.actBlocked actuator) s fun u => u.f Reg.ACT_COUNTERS actuator.val 3 = s.plus Reg.ACT_COUNTERS actuator.val 1 3 ∧ u.present Ev.ACT_BLOCKED actuator.val = true
    ∧ u.now = max s.now (s.endOf .block actuator.val)) ∧
  (∀ (s : State) (actuator : Fin 2), s.isOpen .holdOc actuator.val = true → 
    Completes (.holdOvercurrent actuator) s fun u => u.f Reg.ACT_STATUS_HOLD actuator.val = 0 ∧ u.present Ev.HOLD_OVERCURRENT actuator.val = true ∧ u.now = max s.now (s.endOf .holdOc actuator.val))

/-- Safe torque off: every request, sample, discrepancy, path fault and test completes. A hard-wired request of a group removes EN_HW and the enable of its drivers, and one that took more than 600 PULSE cycles is kept as late; its release, with the machine powered and no test of the group, returns EN_HW. The hard-wired SBC path leaves both brakes not released. When the sample period ends while pair S serves, SAFE.INPUTS shows the levels of the request inputs and the next period ends 100 us after the SLOW edge before the present time. A pair that has been equal for its time latches DISC, shows the request, counts and leaves the discrepancy's cause present, for the four STO pairs and for SBC; the end of its clear window ends latch and cause and shows no request where the pair has none, and one that the pair has stays shown. A path disagreement marks PATH_FAULT and leaves its cause present. The test of a group that has none under way starts, when a stage of it waits to be armed or the group is idle and its last test old, with EN_SW removed and one more test counted. A test whose read-backs are not high only in the third step ends failed, with TEST_FAIL and its cause; one whose read-backs are ends passed, with TEST_DUE and its cause gone and the time of the last test now. When 24 h end, TEST_DUE and its cause are there. -/
def Obligations.SafetyEvents : Prop :=
  (∀ (s : State) (group : Fin 4) (cycles t : Nat), 
    Completes (.stoHwRequest group cycles t) s fun u => (u.f Reg.SAFE_STATUS_EN_HW).testBit group.val = false ∧ (u.f Reg.GD_STATUS_ENABLE_SG).testBit group.val = false ∧ u.now = max s.now t
    ∧ u.on .hwReq group.val = true ∧ (600 < cycles → u.on .stoLate group.val = true)) ∧
  (∀ (s : State) (group : Fin 4) (t : Nat), s.on .stoTest group.val = false → s.powered = true → 
    Completes (.stoHwRelease group t) s fun u => (u.f Reg.SAFE_STATUS_EN_HW).testBit group.val = true ∧ u.on .hwReq group.val = false ∧ u.now = max s.now t) ∧
  (∀ (s : State) (group : Fin 4) (t : Nat), 
    Completes (.sbcHwOpen true group t) s fun u => u.fb Reg.SAFE_BRK_STATUS_RELEASED 0 = false ∧ u.fb Reg.SAFE_BRK_STATUS_RELEASED 1 = false ∧ u.now = max s.now t) ∧
  (∀ (s : State) (levels : BitVec 10) (hw : BitVec 4) (sw : BitVec 4) (drv : BitVec 4), s.isOpen .safety = true → s.sBusy = false → 
    Completes (.safetySample levels hw sw drv) s fun u => u.f Reg.SAFE_INPUTS_STO = levels.toNat % 256 ∧ u.f Reg.SAFE_INPUTS_SBC = levels.toNat / 256 % 4
    ∧ u.endOf .safety = max s.now (s.endOf .safety) / 3000 * 3000 + us 100) ∧
  (∀ (s : State) (pair : Fin 5), s.isOpen .disc pair.val = true → pair.val < 4 → 
    Completes (.stoDiscrepancy pair) s fun u => (u.f Reg.SAFE_STATUS_DISC).testBit pair.val = true ∧ (u.f Reg.SAFE_STATUS_STO_REQ).testBit pair.val = true
    ∧ u.f Reg.SAFE_COUNTERS 1 = s.plus Reg.SAFE_COUNTERS 1 ∧ u.present Ev.STO_DISCREPANCY pair.val = true) ∧
  (∀ (s : State), s.isOpen .disc 4 = true → 
    Completes (.stoDiscrepancy 4) s fun u => u.fb Reg.SAFE_STATUS_SBC_DISC = true ∧ u.fb Reg.SAFE_STATUS_SBC_REQ = true ∧ u.f Reg.SAFE_COUNTERS 1 = s.plus Reg.SAFE_COUNTERS 1
    ∧ u.present Ev.SBC_DISCREPANCY 4 = true) ∧
  (∀ (s : State) (pair : Fin 5), s.isOpen .discClear pair.val = true → pair.val < 4 → 
    Completes (.discrepancyCleared pair) s fun u => (u.f Reg.SAFE_STATUS_DISC).testBit pair.val = false ∧ (u.f Reg.SAFE_STATUS_STO_REQ).testBit pair.val = (s.on .stoState pair.val && (s.f Reg.SAFE_STATUS_STO_REQ).testBit pair.val)
    ∧ u.present Ev.STO_DISCREPANCY pair.val = false) ∧
  (∀ (s : State), s.isOpen .discClear 4 = true → 
    Completes (.discrepancyCleared 4) s fun u => u.fb Reg.SAFE_STATUS_SBC_DISC = false ∧ u.fb Reg.SAFE_STATUS_SBC_REQ = s.on .stoState 4 ∧ u.present Ev.SBC_DISCREPANCY 4 = false) ∧
  (∀ (s : State) (group : Fin 4), s.isOpen .path group.val = true → 
    Completes (.pathDisagree group) s fun u => u.fb Reg.SAFE_STATUS_PATH_FAULT = true ∧ u.present Ev.PATH_DISAGREE group.val = true ∧ u.now = max s.now (s.endOf .path group.val)) ∧
  (∀ (s : State) (group : Fin 4) (t : Nat), s.on .stoTest group.val = false → s.operable = true ∨ s.module = .safe →
    (∃ x ∈ Stage.ofGroup group.val, s.on .armWait x.idx = true) ∨ (s.arrive t).groupIdle group.val = true ∧ (s.arrive t).testOld group.val = true → 
    Completes (.stoAutoTest group t) s fun u => u.on .stoTest group.val = true ∧ (u.f Reg.SAFE_STATUS_EN_SW).testBit group.val = false ∧ u.f Reg.SAFE_COUNTERS 2 = s.plus Reg.SAFE_COUNTERS 2
    ∧ u.now = max s.now t) ∧
  (∀ (s : State) (group : Fin 4) (drv : BitVec 3) (t : Nat), s.on .stoTest group.val = true → drv ≠ 4 → 
    Completes (.stoGroupTestEnd group drv t) s fun u => (u.f Reg.SAFE_STATUS_TEST_FAIL).testBit group.val = true ∧ u.on .stoTest group.val = false ∧ u.present Ev.STO_TEST_FAIL group.val = true) ∧
  (∀ (s : State) (group : Fin 4) (t : Nat), s.on .stoTest group.val = true → 
    Completes (.stoGroupTestEnd group 4 t) s fun u => (u.f Reg.SAFE_STATUS_TEST_DUE).testBit group.val = false ∧ u.on .stoTest group.val = false ∧ u.vn .stoLast group.val = max s.now t
    ∧ u.present Ev.STO_TEST_DUE group.val = false) ∧
  (∀ (s : State) (group : Fin 4), s.isOpen .stoDue group.val = true → 
    Completes (.stoTestDue group) s fun u => (u.f Reg.SAFE_STATUS_TEST_DUE).testBit group.val = true ∧ u.present Ev.STO_TEST_DUE group.val = true ∧ u.now = max s.now (s.endOf .stoDue group.val))

/-- Brake checks and tests, contactor feedbacks and the precharge complete their events. A check of a released brake whose node is wrong marks OUT_FAULT and leaves its cause present; one whose node, current and limiter are right, with no window of them open, changes no register. A check of an applied brake with both nodes at most 4 V clears OUT_FAULT and its cause once the 100 ms without a condition have ended. The first phase of a brake test ends with the second and TEST_TIME; the third, of a test in one direction, passes the test: TEST shows it, BT_RUN and FAILED fall, HOURS is 0 and a passed test counts. When INTERVAL is reached, DUE and its cause are there. Each millisecond, while pair S serves, CFB shows the levels. At WELD_TIME, with the link risen and a main contactor named that is not yet latched, WELDED, its count and its cause show it. PRE_TIME ends the precharge, with its cause present. OPEN_DELAY turns every driver off. -/
def Obligations.BrakeContactorEvents : Prop :=
  (∀ (s : State) (brake : Fin 2) (obs : BrakeObs) (t : Nat), s.fb Reg.SAFE_BRK_STATUS_RELEASED brake.val = true → s.fb Reg.SAFE_BRK_STATUS_OUT_FAULT brake.val = false → nodeGood obs = false → 
    Completes (.brakeSwitchCheck brake obs t) s fun u => u.fb Reg.SAFE_BRK_STATUS_OUT_FAULT brake.val = true ∧ u.present Ev.BRAKE_OUTPUT_FAULT brake.val = true ∧ u.now = max s.now t) ∧
  (∀ (s : State) (brake : Fin 2) (obs : BrakeObs) (t : Nat), s.fb Reg.SAFE_BRK_STATUS_RELEASED brake.val = true → nodeGood obs = true → 100 ≤ obs.current → obs.limiting = false →
    s.isOpen .brkLow brake.val = false → s.isOpen .brkLimit brake.val = false → 
    Completes (.brakeSwitchCheck brake obs t) s fun u => u.now = max s.now t ∧ u.regs = s.regs) ∧
  (∀ (s : State) (brake : Fin 2) (obs : BrakeRest) (t : Nat), obs.high ≤ 4000 → obs.low ≤ 4000 → s.fb Reg.SAFE_BRK_STATUS_RELEASED brake.val = false → s.fb Reg.SAFE_BRK_STATUS_OUT_FAULT brake.val = true → s.isOpen .brkClear brake.val = true → s.endOf .brkClear brake.val ≤ max s.now t → 
    Completes (.brakeAppliedCheck brake obs t) s fun u => u.fb Reg.SAFE_BRK_STATUS_OUT_FAULT brake.val = false ∧ u.present Ev.BRAKE_OUTPUT_FAULT brake.val = false) ∧
  (∀ (s : State) (brake : Fin 2), s.isOpen .brakeTest brake.val = true → s.f Reg.SAFE_BRK_STATUS_TEST brake.val = 1 → s.vn .btPhase brake.val = 1 → 
    Completes (.brakeTestPhaseEnd brake) s fun u => u.vn .btPhase brake.val = 2 ∧ u.now = max s.now (s.endOf .brakeTest brake.val)
    ∧ u.endOf .brakeTest brake.val = max s.now (s.endOf .brakeTest brake.val) / 3000 * 3000 + sec (s.f Reg.SAFE_BRK_TEST_TIME brake.val)) ∧
  (∀ (s : State) (brake : Fin 2), s.isOpen .brakeTest brake.val = true → s.f Reg.SAFE_BRK_STATUS_TEST brake.val = 1 → s.vn .btPhase brake.val = 3 → s.f Reg.SAFE_BRK_TEST_DIR brake.val ≠ 2 → 
    Completes (.brakeTestPhaseEnd brake) s fun u => u.f Reg.SAFE_BRK_STATUS_TEST brake.val = 2 ∧ u.fb Reg.SAFE_STATUS_BT_RUN = false ∧ u.f Reg.SAFE_BRK_STATUS_HOURS brake.val = 0
    ∧ u.fb Reg.SAFE_BRK_STATUS_FAILED brake.val = false ∧ u.f Reg.SAFE_COUNTERS 4 = s.plus Reg.SAFE_COUNTERS 4) ∧
  (∀ (s : State) (brake : Fin 2), s.isOpen .btDue brake.val = true → 
    Completes (.brakeTestDue brake) s fun u => u.fb Reg.SAFE_BRK_STATUS_DUE brake.val = true ∧ u.present Ev.BRAKE_TEST_DUE brake.val = true ∧ u.now = max s.now (s.endOf .btDue brake.val)) ∧
  (∀ (s : State) (levels : BitVec 8), s.isOpen .cfbCheck = true → s.sBusy = false → 
    Completes (.contactorCheck levels) s fun u => u.f Reg.SAFE_CON_STATUS_CFB = levels.toNat ∧ u.endOf .cfbCheck = max s.now (s.endOf .cfbCheck) / 3000 * 3000 + ms 1) ∧
  (∀ (s : State), s.isOpen .weld = true → s.preAbove (s.f Reg.SAFE_PRECHARGE_WELD_FRAC) = true → s.f Reg.SAFE_PRECHARGE_MAIN_CDR < 6 → s.faultAt Ev.CONTACTOR_WELDED (s.f Reg.SAFE_PRECHARGE_MAIN_CDR) = false → 
    Completes (.prechargeWeldCheck) s fun u => (u.f Reg.SAFE_CON_STATUS_WELDED).testBit (s.f Reg.SAFE_PRECHARGE_MAIN_CDR) = true ∧ u.f Reg.SAFE_COUNTERS 6 = s.plus Reg.SAFE_COUNTERS 6
    ∧ u.present Ev.CONTACTOR_WELDED (s.f Reg.SAFE_PRECHARGE_MAIN_CDR) = true) ∧
  (∀ (s : State), s.isOpen .pre = true → 
    Completes (.prechargeTimeout) s fun u => u.fb Reg.SAFE_CON_STATUS_PRE_RUN = false ∧ u.present Ev.PRECHARGE_TIMEOUT = true ∧ u.now = max s.now (s.endOf .pre)) ∧
  (∀ (s : State), s.isOpen .cdrOpen = true → 
    Completes (.contactorOpenDelay) s fun u => u.f Reg.SAFE_CON_STATUS_ON = 0 ∧ u.isOpen .cdrOpen = false ∧ u.now = max s.now (s.endOf .cdrOpen))

/-- Warm restarts of pair S and the changes of pair V complete. While pair S restarts and no request is held, the completion counts, ends the restart and its hold mark, leaves no deferred reaction, and S_MISMATCH and S_WATCHDOG are not present. A core of pair V that restarts, with no request queued, runs again, with V_MISMATCH and V_WATCHDOG not present. A SPLIT_V or a JOIN_V under way, with no request queued, sets the mode, counts and is no longer under way when it has completed and, for JOIN_V, its test has passed. -/
def Obligations.RestartEvents : Prop :=
  (∀ (s : State) (lost : Bool) (levels : BitVec 10) (t : Nat), s.f Reg.CORE_STATUS_S_STATE = 1 → s.held = [] → 
    Completes (.warmRestartDone lost levels t) s fun u => u.f Reg.CORE_STATUS_S_STATE = 0 ∧ u.fb Reg.CORE_STATUS_RESTART_HOLD = false ∧ u.f Reg.CORE_COUNTERS 2 = s.plus Reg.CORE_COUNTERS 2
    ∧ u.present Ev.S_MISMATCH = false ∧ u.present Ev.S_WATCHDOG = false ∧ u.deferred = [] ∧ u.now = max s.now t) ∧
  (∀ (s : State) (core : Fin 2) (t : Nat), s.f (vState core.val) = 1 → s.handQueue = [] → 
    Completes (.vRestartDone core t) s fun u => u.f (vState core.val) = 0 ∧ u.present Ev.V_MISMATCH core.val = false ∧ u.present Ev.V_WATCHDOG core.val = false ∧ u.now = max s.now t) ∧
  (∀ (s : State) (r : Req) (t : Nat), s.handCmd = some (r, .command .splitV) → s.handQueue = [] → 
    Completes (.splitVDone true t) s fun u => u.f Reg.CORE_STATUS_V_MODE = 1 ∧ u.f Reg.CORE_COUNTERS 5 = s.plus Reg.CORE_COUNTERS 5 ∧ u.handCmd = none ∧ u.f Reg.CORE_STATUS_V0_STATE = 0) ∧
  (∀ (s : State) (r : Req) (t : Nat), s.handCmd = some (r, .command .joinV) → s.handQueue = [] → 
    Completes (.joinVDone true true t) s fun u => u.f Reg.CORE_STATUS_V_MODE = 0 ∧ u.f Reg.CORE_COUNTERS 6 = s.plus Reg.CORE_COUNTERS 6 ∧ u.handCmd = none ∧ u.fb Reg.CORE_STATUS_INJECT_OK = true)

/-- Frames of the charger, the actuators, the safety functions and completed restarts, splits and joins. Each event changes only the parts and the fields named for it here, beside internal quantities, windows and time. For the charger that is what a reaction changes and its own words (and the slots' setpoints in its period); for an actuator a reaction and its own counters and marks; for an STO event the enables, a reaction and the words of the request inputs (a test's end also what arming a stage changes); for a brake or a contactor event its own words beside a reaction; for the completion of a restart with nothing held or queued a reaction, what is sent, and the core and request words; for the end of a split or a join with nothing queued what a request changes and the words of pair V. -/
def Obligations.PowerFrames : Prop :=
  (∀ (s : State), Framed (.powerPathEval) s (Keeps reactionComps (reactionFlds ++ chargerFlds))) ∧
  (∀ (s : State) (input : Fin 3), Framed (.halfCycleEnd input) s (Keeps reactionComps (reactionFlds ++ chargerFlds))) ∧
  (∀ (s : State) (input : Fin 3), Framed (.noZeroCrossing input) s (Keeps reactionComps (reactionFlds ++ chargerFlds))) ∧
  (∀ (s : State), Framed (.sourceQualified) s (Keeps reactionComps (reactionFlds ++ chargerFlds))) ∧
  (∀ (s : State), Framed (.handbackDone) s (Keeps reactionComps (reactionFlds ++ chargerFlds))) ∧
  (∀ (s : State), Framed (.stopTakeoverTimeout) s (Keeps [] [])) ∧
  (∀ (s : State), Framed (.battOc) s (Keeps reactionComps (reactionFlds ++ chargerFlds))) ∧
  (∀ (s : State), Framed (.chargeEval) s (Keeps (reportComps ++ ([.causes] : List Comp)) (reportFlds ++ chargerFlds ++ ([all Reg.SLOT_SETPOINT 48] : List Place)))) ∧
  (∀ (s : State) (cond : Fin 7), Framed (.causeAbsent1ms cond) s (Keeps reactionComps (reactionFlds ++ ([all Reg.ACT_STATUS_VACT_HIGH 2, all Reg.ACT_STATUS_VACT_LOW 2, one Reg.CHG_STATUS_ATTN, one Reg.CHG_STATUS_BMS_FRESH, one Reg.CHG_STATUS_COLD, one Reg.CHG_STATUS_FAULT_LATCH, one Reg.CHG_STATUS_THERMAL] : List Place)))) ∧
  (∀ (s : State) (actuator : Fin 2), Framed (.arrived actuator) s (Keeps reactionComps (reactionFlds ++ ([one Reg.ACT_COUNTERS actuator.val 1] : List Place)))) ∧
  (∀ (s : State) (actuator : Fin 2), Framed (.actTimeout actuator) s (Keeps reactionComps (reactionFlds ++ ([one Reg.ACT_COUNTERS actuator.val 2, one Reg.ACT_STATUS_TIMED_OUT actuator.val] : List Place)))) ∧
  (∀ (s : State) (actuator : Fin 2), Framed (.actBlocked actuator) s (Keeps reactionComps (reactionFlds ++ ([one Reg.ACT_COUNTERS actuator.val 3] : List Place)))) ∧
  (∀ (s : State) (actuator : Fin 2), Framed (.holdOvercurrent actuator) s (Keeps reactionComps reactionFlds)) ∧
  (∀ (s : State) (group : Fin 4) (cycles t : Nat), Framed (.stoHwRequest group cycles t) s (Keeps [] enableFlds)) ∧
  (∀ (s : State) (group : Fin 4) (t : Nat), Framed (.stoHwRelease group t) s (Keeps [] enableFlds)) ∧
  (∀ (s : State) (sbc : Bool) (group : Fin 4) (t : Nat), Framed (.sbcHwOpen sbc group t) s (Keeps [.release] [all Reg.SAFE_BRK_STATUS_RELEASED 2, one Reg.SAFE_STATUS_APPLIED, one Reg.CORE_STATUS_BUF_MAX])) ∧
  (∀ (s : State) (levels : BitVec 10) (hw : BitVec 4) (sw : BitVec 4) (drv : BitVec 4), Framed (.safetySample levels hw sw drv) s (Keeps reactionComps (reactionFlds ++ stoFlds))) ∧
  (∀ (s : State) (pair : Fin 5), Framed (.stoDiscrepancy pair) s (Keeps reactionComps (reactionFlds ++ stoFlds))) ∧
  (∀ (s : State) (pair : Fin 5), Framed (.discrepancyCleared pair) s (Keeps reactionComps (reactionFlds ++ ([one Reg.SAFE_STATUS_DISC, one Reg.SAFE_STATUS_STO_REQ, one Reg.SAFE_STATUS_SBC_DISC, one Reg.SAFE_STATUS_SBC_REQ] : List Place)))) ∧
  (∀ (s : State) (group : Fin 4), Framed (.pathDisagree group) s (Keeps reactionComps (reactionFlds ++ ([one Reg.SAFE_STATUS_PATH_FAULT] : List Place)))) ∧
  (∀ (s : State) (group : Fin 4) (t : Nat), Framed (.stoAutoTest group t) s (Keeps [.release] (enableFlds ++ ([one Reg.SAFE_COUNTERS 2, one Reg.CORE_STATUS_BUF_MAX] : List Place)))) ∧
  (∀ (s : State) (group : Fin 4) (drv : BitVec 3) (t : Nat), Framed (.stoGroupTestEnd group drv t) s (Keeps reactionComps (reactionFlds ++ stoFlds ++ armFlds))) ∧
  (∀ (s : State) (group : Fin 4), Framed (.stoTestDue group) s (Keeps reactionComps (reactionFlds ++ ([one Reg.SAFE_STATUS_TEST_DUE] : List Place)))) ∧
  (∀ (s : State) (brake : Fin 2) (obs : BrakeObs) (t : Nat), Framed (.brakeSwitchCheck brake obs t) s (Keeps reactionComps (reactionFlds ++ ([one Reg.SAFE_BRK_STATUS_OUT_FAULT brake.val] : List Place)))) ∧
  (∀ (s : State) (brake : Fin 2) (obs : BrakeRest) (t : Nat), Framed (.brakeAppliedCheck brake obs t) s (Keeps reactionComps (reactionFlds ++ ([one Reg.SAFE_BRK_STATUS_OUT_FAULT brake.val] : List Place)))) ∧
  (∀ (s : State) (brake : Fin 2), Framed (.brakeTestPhaseEnd brake) s (Keeps reactionComps (reactionFlds ++ ([one Reg.SAFE_BRK_STATUS_DUE brake.val, one Reg.SAFE_BRK_STATUS_FAILED brake.val, one Reg.SAFE_BRK_STATUS_HOURS brake.val, one Reg.SAFE_COUNTERS 4] : List Place)))) ∧
  (∀ (s : State) (brake : Fin 2), Framed (.brakeTestDue brake) s (Keeps reactionComps (reactionFlds ++ ([one Reg.SAFE_BRK_STATUS_DUE brake.val, one Reg.SAFE_BRK_STATUS_HOURS brake.val] : List Place)))) ∧
  (∀ (s : State) (levels : BitVec 8), Framed (.contactorCheck levels) s (Keeps reactionComps (reactionFlds ++ ([one Reg.SAFE_CON_STATUS_CFB, one Reg.SAFE_CON_STATUS_UNEXPECTED, one Reg.SAFE_CON_STATUS_WELDED, one Reg.SAFE_COUNTERS 6] : List Place)))) ∧
  (∀ (s : State), Framed (.prechargeWeldCheck) s (Keeps reactionComps (reactionFlds ++ ([one Reg.SAFE_CON_STATUS_WELDED, one Reg.SAFE_COUNTERS 6] : List Place)))) ∧
  (∀ (s : State), Framed (.prechargeTimeout) s (Keeps reactionComps (reactionFlds ++ ([one Reg.SAFE_CON_STATUS_PRE_RUN, one Reg.SAFE_CON_STATUS_PRE_OK] : List Place)))) ∧
  (∀ (s : State), Framed (.contactorOpenDelay) s (Keeps [.release] [one Reg.SAFE_CON_STATUS_ON, one Reg.SAFE_CON_STATUS_PRE_OK, one Reg.SAFE_CON_STATUS_PRE_RUN, one Reg.CORE_STATUS_BUF_MAX])) ∧
  (∀ (s : State) (lost : Bool) (levels : BitVec 10) (t : Nat), Framed (.warmRestartDone lost levels t) s (fun a b => a.held = [] → Keeps (reactionComps ++ ([.egress, .out] : List Comp)) (reactionFlds ++ stoFlds ++ sendFlds ++ ([one Reg.CORE_COUNTERS 2, one Reg.CORE_LAST_S_B 0, one Reg.CORE_STATUS_INJECT_OK, one Reg.CORE_STATUS_RESTART_HOLD, one Reg.CORE_STATUS_S_STATE] : List Place)) a b)) ∧
  (∀ (s : State) (core : Fin 2) (t : Nat), Framed (.vRestartDone core t) s (fun a b => a.handQueue = [] → Keeps reactionComps (reactionFlds ++ ([one (vState core.val)] : List Place)) a b)) ∧
  (∀ (s : State) (completed : Bool) (t : Nat), s.handQueue = [] → Framed (.splitVDone completed t) s (Keeps (requestComps ++ ([.causes] : List Comp)) (requestFlds ++ ([one Reg.CORE_COUNTERS 5, one Reg.CORE_STATUS_V0_STATE, one Reg.CORE_STATUS_V1_STATE, one Reg.CORE_STATUS_V_MODE] : List Place)))) ∧
  (∀ (s : State) (completed : Bool) (pass : Bool) (t : Nat), s.handQueue = [] → Framed (.joinVDone completed pass t) s (Keeps (requestComps ++ ([.causes] : List Comp)) (requestFlds ++ ([one Reg.CORE_COUNTERS 6, one Reg.CORE_COUNTERS 7, one Reg.CORE_STATUS_INJECT_OK, one Reg.CORE_STATUS_V0_STATE, one Reg.CORE_STATUS_V1_STATE, one Reg.CORE_STATUS_V_MODE] : List Place))))

/-- Mismatches, watchdogs, hold windows and debug actions of the supervisor cores complete. A mismatch of pair S with no repeat window open, while it has not failed, and a watchdog fault while it serves or restarts, make it restart, count, and open the repeat window; the mismatch shows what was captured; and with no write of the release buffer left to compare, every RUNNING stage outside its stop sequence on which no higher-ranked event of the LOOP cycle has acted is in HOLD (D where no stored STOP of P waits for its HOLD to end). The end of the repeat window ends its mark. A hold window of a stage in HOLD that expires, where no event or reaction of the same LOOP cycle makes the stage discard it, takes the stage to SAFE with HOLD_EXPIRED as its last event where HOLD_EXPIRY is 4 to 6, takes the module in RUN and every stage to SAFE where it is 7, and stops the stage or begins its stop where it is 3. The end of a SLOW cycle leaves no momentary cause. A mismatch of pair V in LOCKSTEP and a watchdog fault of a core that runs make the core restart, count, and leave the cause present. A debug halt with every stage idle and a resume, in SERVICE with access, change the state of the core, the halt its mark, and every action with access the count of actions. -/
def Obligations.CoreEvents : Prop :=
  (∀ (s : State) (m : Mismatch) (t : Nat), s.powered = true → s.f Reg.CORE_STATUS_S_STATE ≠ 3 → s.isOpen .repeatS = false → 
    Completes (.sMismatch m t) s fun u => u.f Reg.CORE_STATUS_S_STATE = 1 ∧ u.fb Reg.CORE_STATUS_REPEAT_WINDOW = true ∧ u.f Reg.CORE_COUNTERS 0 = s.plus Reg.CORE_COUNTERS 0
    ∧ u.f Reg.CORE_LAST_S 0 = m.main % 2 ^ 32 ∧ u.f Reg.CORE_LAST_S 1 = m.checker % 2 ^ 32 ∧ u.f Reg.CORE_LAST_S 2 = m.window % 2 ^ 32
    ∧ u.f Reg.CORE_LAST_S_LANES = m.lanes % 256 ∧ u.f Reg.CORE_LAST_S_B 1 = m.pc % 2 ^ 32
    ∧ u.endOf .repeatS = max s.now t / 3000 * 3000 + sec 1
    ∧ ((∀ p ∈ s.release, p.due < max s.now t) → ∀ x ∈ Stage.all, s.st x = .running → (s.stg x).stopping = false → 5 ≤ (s.arrive t).rankNow x → (x = .D → (s.stg .P).storedStop = false) → u.st x = .hold)) ∧
  (∀ (s : State) (m : Mismatch) (t : Nat), s.powered = true → s.f Reg.CORE_STATUS_S_STATE = 0 ∨ s.f Reg.CORE_STATUS_S_STATE = 1 → s.isOpen .repeatS = false → 
    Completes (.sWatchdog m t) s fun u => u.f Reg.CORE_STATUS_S_STATE = 1 ∧ u.fb Reg.CORE_STATUS_REPEAT_WINDOW = true ∧ u.f Reg.CORE_COUNTERS 1 = s.plus Reg.CORE_COUNTERS 1
    ∧ ((∀ p ∈ s.release, p.due < max s.now t) → ∀ x ∈ Stage.all, s.st x = .running → (s.stg x).stopping = false → 5 ≤ (s.arrive t).rankNow x → (x = .D → (s.stg .P).storedStop = false) → u.st x = .hold)) ∧
  (∀ (s : State), s.isOpen .repeatS = true → 
    Completes (.repeatWindowEnd) s fun u => u.fb Reg.CORE_STATUS_REPEAT_WINDOW = false ∧ u.isOpen .repeatS = false ∧ u.now = max s.now (s.endOf .repeatS)) ∧
  (∀ (s : State) (stage : Stage), s.isOpen .hold stage.idx = true → s.st stage = .hold → (s.arrive (s.endOf .hold stage.idx)).discards stage (s.holdExpiry stage) = false → 4 ≤ s.holdExpiry stage → s.holdExpiry stage ≤ 6 → 
    Completes (.holdExpired stage) s fun u => u.st stage = .safe ∧ (u.stg stage).lastEvent = Ev.HOLD_EXPIRED ∧ u.now = max s.now (s.endOf .hold stage.idx)) ∧
  (∀ (s : State) (stage : Stage), s.isOpen .hold stage.idx = true → s.st stage = .hold → (s.arrive (s.endOf .hold stage.idx)).discards stage (s.holdExpiry stage) = false → s.holdExpiry stage = 7 → s.module = .run → 
    Completes (.holdExpired stage) s fun u => u.module = .safe ∧ ∀ x ∈ Stage.all, u.st x = .safe) ∧
  (∀ (s : State) (stage : Stage), s.isOpen .hold stage.idx = true → s.st stage = .hold → (s.arrive (s.endOf .hold stage.idx)).discards stage (s.holdExpiry stage) = false → s.holdExpiry stage = 3 → 
    Completes (.holdExpired stage) s fun u => u.st stage = .stopped ∨ (u.stg stage).stopping = true) ∧
  (∀ (s : State), 
    Completes (.holdRestoration) s fun u => u.now = (s.now / 3000 + 1) * 3000 ∧ ∀ c ∈ u.causes, ¬ (c.transient = true ∧ c.present = true)) ∧
  (∀ (s : State) (m : Mismatch) (t : Nat), s.powered = true → s.f Reg.CORE_STATUS_V_MODE = 0 → 
    Completes (.vMismatch m t) s fun u => u.f Reg.CORE_STATUS_V0_STATE = 1 ∧ u.f Reg.CORE_LAST_V 0 = m.main % 2 ^ 32 ∧ u.f Reg.CORE_LAST_V_LANES = m.lanes % 256
    ∧ u.f Reg.CORE_COUNTERS 3 = s.plus Reg.CORE_COUNTERS 3 ∧ u.f Reg.CORE_COUNTERS 4 = s.plus Reg.CORE_COUNTERS 4
    ∧ u.present Ev.V_MISMATCH = true) ∧
  (∀ (s : State) (core : Fin 2) (t : Nat), s.powered = true → s.f (vState core.val) ≠ 2 → core = 0 ∨ s.f Reg.CORE_STATUS_V_MODE ≠ 0 → 
    Completes (.vWatchdog core t) s fun u => u.f (vState core.val) = 1 ∧ u.f Reg.CORE_COUNTERS 4 = s.plus Reg.CORE_COUNTERS 4 ∧ u.present Ev.V_WATCHDOG core.val = true) ∧
  (∀ (s : State), s.fb Reg.CORE_STATUS_DEBUG = true → s.module = .service → s.allIdle = true → s.f Reg.CORE_STATUS_V0_STATE = 0 → 
    Completes (.debugAction 1 .halt) s fun u => u.f Reg.CORE_STATUS_V0_STATE = 2 ∧ u.fb Reg.CORE_DEBUG_V_HALT = true ∧ u.f Reg.CORE_DEBUG_ACTIONS = (s.f Reg.CORE_DEBUG_ACTIONS + 1) % 2 ^ 16) ∧
  (∀ (s : State), s.fb Reg.CORE_STATUS_DEBUG = true → s.module = .service → s.allIdle = true → s.f Reg.CORE_STATUS_S_STATE = 0 → 
    Completes (.debugAction 0 .halt) s fun u => u.f Reg.CORE_STATUS_S_STATE = 2 ∧ u.fb Reg.CORE_DEBUG_S_HALT = true ∧ u.f Reg.CORE_DEBUG_ACTIONS = (s.f Reg.CORE_DEBUG_ACTIONS + 1) % 2 ^ 16) ∧
  (∀ (s : State), s.fb Reg.CORE_STATUS_DEBUG = true → s.module = .service → s.f Reg.CORE_STATUS_S_STATE = 2 → 
    Completes (.debugAction 0 .resume) s fun u => u.f Reg.CORE_STATUS_S_STATE = 0 ∧ u.fb Reg.CORE_DEBUG_S_HALT = false ∧ u.f Reg.CORE_DEBUG_ACTIONS = (s.f Reg.CORE_DEBUG_ACTIONS + 1) % 2 ^ 16) ∧
  (∀ (s : State), s.fb Reg.CORE_STATUS_DEBUG = true → s.module = .service → 
    Completes (.debugAction 0 .step) s fun u => u.f Reg.CORE_DEBUG_ACTIONS = (s.f Reg.CORE_DEBUG_ACTIONS + 1) % 2 ^ 16 ∧ u.f Reg.CORE_STATUS_S_STATE = s.f Reg.CORE_STATUS_S_STATE)

/-- Frames of the supervisor cores. A mismatch or a watchdog of pair S changes, beside what a report, a reaction and the arming of a stage change, only the core words, the protected outputs and the enables of channels named here; the end of the repeat window only its mark; hold expiry and the end of a SLOW cycle only what a reaction changes; a mismatch or a watchdog of pair V only the core words named here beside a report, a reaction and a reply; a debug action only the states and halt marks of the cores, the action count and the replay count. Internal quantities, windows and time stand beside. -/
def Obligations.CoreFrames : Prop :=
  (∀ (s : State) (m : Mismatch) (t : Nat), Framed (.sMismatch m t) s (Keeps reactionComps (reactionFlds ++ armFlds ++ ([one Reg.CORE_COUNTERS 0, one Reg.CORE_DEBUG_S_HALT, all Reg.CORE_LAST_S 3, one Reg.CORE_LAST_S_B 1, one Reg.CORE_LAST_S_LANES, one Reg.CORE_STATUS_REPEAT_WINDOW, one Reg.CORE_STATUS_RESTART_HOLD, one Reg.CORE_STATUS_S_STATE, all Reg.CH_STATUS_ENABLE 64, one Reg.GD_STATUS_ENABLE_SG, one Reg.SAFE_CON_STATUS_ON, one Reg.SAFE_CON_STATUS_PRE_OK, one Reg.SAFE_CON_STATUS_PRE_RUN, one Reg.SAFE_STATUS_EN_SW, one Reg.SAFE_STATUS_STO_REQ] : List Place)))) ∧
  (∀ (s : State) (m : Mismatch) (t : Nat), Framed (.sWatchdog m t) s (Keeps reactionComps (reactionFlds ++ armFlds ++ ([one Reg.CORE_COUNTERS 1, one Reg.CORE_DEBUG_S_HALT, all Reg.CORE_LAST_S 3, one Reg.CORE_LAST_S_B 1, one Reg.CORE_LAST_S_LANES, one Reg.CORE_STATUS_REPEAT_WINDOW, one Reg.CORE_STATUS_RESTART_HOLD, one Reg.CORE_STATUS_S_STATE, all Reg.CH_STATUS_ENABLE 64, one Reg.GD_STATUS_ENABLE_SG, one Reg.SAFE_CON_STATUS_ON, one Reg.SAFE_CON_STATUS_PRE_OK, one Reg.SAFE_CON_STATUS_PRE_RUN, one Reg.SAFE_STATUS_EN_SW, one Reg.SAFE_STATUS_STO_REQ] : List Place)))) ∧
  (∀ (s : State), Framed (.repeatWindowEnd) s (Keeps [] [one Reg.CORE_STATUS_REPEAT_WINDOW])) ∧
  (∀ (s : State) (stage : Stage), Framed (.holdExpired stage) s (Keeps reactionComps reactionFlds)) ∧
  (∀ (s : State), Framed (.holdRestoration) s (Keeps reactionComps reactionFlds)) ∧
  (∀ (s : State) (m : Mismatch) (t : Nat), Framed (.vMismatch m t) s (Keeps (reactionComps ++ replyComps ++ ([.egress, .out] : List Comp)) (reactionFlds ++ replyFlds ++ sendFlds ++ ([one Reg.CORE_COUNTERS 3, one Reg.CORE_COUNTERS 4, one Reg.CORE_DEBUG_V_HALT, all Reg.CORE_LAST_V 3, one Reg.CORE_LAST_V_LANES, one Reg.CORE_STATUS_V0_STATE, one Reg.CORE_STATUS_V_MODE, one Reg.CORE_STATUS_V1_STATE] : List Place)))) ∧
  (∀ (s : State) (core : Fin 2) (t : Nat), Framed (.vWatchdog core t) s (Keeps (reactionComps ++ replyComps ++ ([.egress, .out] : List Comp)) (reactionFlds ++ replyFlds ++ sendFlds ++ ([one Reg.CORE_COUNTERS 3, one Reg.CORE_COUNTERS 4, one Reg.CORE_DEBUG_V1_HALT, one Reg.CORE_DEBUG_V_HALT, one Reg.CORE_STATUS_V0_STATE, one Reg.CORE_STATUS_V1_STATE, one Reg.CORE_STATUS_V_MODE] : List Place)))) ∧
  (∀ (s : State) (core : Fin 3) (kind : DebugKind), Framed (.debugAction core kind) s (Keeps [] [one Reg.CORE_DEBUG_ACTIONS, one Reg.CORE_DEBUG_S_HALT, one Reg.CORE_DEBUG_V1_HALT, one Reg.CORE_DEBUG_V_HALT, one Reg.CORE_STATUS_S_STATE, one Reg.CORE_STATUS_V0_STATE, one Reg.CORE_STATUS_V1_STATE, one Reg.CORE_DEBUG_REPLAY]))

/-- Records, token refills and the end of a clear complete. With the log built, not full, not being cleared, and its writer running with power, the oldest queued report becomes the log's next record with the next sequence number, the log keeps its base and what it held, and the rest of the queue stays in front. With the log full, being cleared, without its writer or without power, queue and records stay as they are. The end of a refill window returns one token, if one was used, and the next window ends one interval later. The end of a clear under way leaves a log whose base is the old next number and whose only record is LOG_CLEARED with the old count, the lost records and the old base, not full, with the cursor at 0 and one more clear; without one under way, log and queue stay. -/
def Obligations.RecorderEvents : Prop :=
  (∀ (s : State) (r : Rec), s.powered = true → s.on .logBuilt = true → s.on .logFull = false → s.log.recs.length < 8192 → s.on .clearing = false → s.writerRuns = true → s.queue.head? = some r → 
    Completes (.recordWrite) s fun u => s.log.recs ++ [{ r with seq := s.logNext, raw := [], corrupt := false }] <+: u.log.recs ∧ u.log.base = s.log.base
    ∧ s.queue.tail <+: u.queue ∧ u.logNext > s.logNext ∧ u.now = s.now) ∧
  (∀ (s : State), s.on .logFull = true ∨ 8192 ≤ s.log.recs.length ∨ s.on .clearing = true ∨ s.writerRuns = false ∨ s.powered = false → 
    Completes (.recordWrite) s fun u => u.queue = s.queue ∧ u.log.recs = s.log.recs ∧ u.log.base = s.log.base) ∧
  (∀ (s : State) (code : Nat), code < 2 ^ 16 → s.isOpen .refill code = true → 
    Completes (.tokenRefill code) s fun u => u.v .tokensUsed code = max 0 (s.v .tokensUsed code - 1) ∧ u.endOf .refill code = max s.now (s.endOf .refill code) + ms (100 * s.refillInterval code)
    ∧ u.now = max s.now (s.endOf .refill code)) ∧
  (∀ (s : State), s.on .clearing = true → 
    Completes (.clearDone) s fun u => u.on .clearing = false ∧ u.log.base = s.logNext ∧ u.log.recs.map (fun r => r.code) = [Ev.LOG_CLEARED]
    ∧ u.log.recs.map (fun r => (r.seq, r.d0, r.d1, r.d2)) = [(s.logNext, s.log.recs.length % 2 ^ 32, s.log.lostFull % 2 ^ 32, s.log.base % 2 ^ 32)]
    ∧ u.on .logFull = false ∧ u.f Reg.LOG_CURSOR_OFFSET = 0 ∧ u.log.clears = s.log.clears + 1) ∧
  (∀ (s : State), s.on .clearing = false → 
    Completes (.clearDone) s fun u => u.log = s.log ∧ u.queue = s.queue)

/-- The steps of a key write complete. Without a key write under way a step changes no parameter word, no byte of the key and no report. The first step of one is the check of the staged image: its first failing check gives FAILED with that check's code and the event KEY_WRITE_FAILED seen, and without one the erasure begins; the key's bytes stay. Each later step that ends well brings the next state, in the order programming, verifying, header, its verification with PROGRESS 100, and DONE; one whose read-back differs gives FAILED with 11, and one at which the key does not answer FAILED with 12. Every step changes only the key's bytes, the write's words, the pending generation and what a report changes. -/
def Obligations.KeyWriteSteps : Prop :=
  (∀ (s : State) (outcome : Fin 3) (t : Nat), s.keyBusy = false → 
    Completes (.keyWriteStepEnd outcome t) s fun u => u.regs = s.regs ∧ u.keyMem = s.keyMem ∧ u.queue = s.queue ∧ u.now = max s.now t) ∧
  (∀ (s : State) (outcome : Fin 3) (t : Nat), s.keyBusy = true → s.vn .onKeyStage = 0 → 
    Completes (.keyWriteStepEnd outcome t) s fun u => u.keyMem = s.keyMem ∧ u.now = max s.now t ∧ match (s.arrive t).stagedBad with
    | some n => u.f Reg.START_KEY_WRITE_STATUS_STATE = 7 ∧ u.f Reg.START_KEY_WRITE_STATUS_FAIL = n ∧ u.v .onKeyStage = 0
        ∧ (u.f Reg.STATE_SEEN_EVENTS (Ev.w Ev.KEY_WRITE_FAILED)).testBit (Ev.b Ev.KEY_WRITE_FAILED) = true
    | none => u.f Reg.START_KEY_WRITE_STATUS_STATE = 2 ∧ u.f Reg.START_KEY_WRITE_STATUS_FAIL = 0 ∧ u.vn .onKeyStage = 1) ∧
  (∀ (s : State) (t : Nat), s.keyBusy = true → s.vn .onKeyStage ≠ 0 → 
    Completes (.keyWriteStepEnd 1 t) s fun u => u.f Reg.START_KEY_WRITE_STATUS_STATE = 7 ∧ u.f Reg.START_KEY_WRITE_STATUS_FAIL = 11 ∧ u.v .onKeyStage = 0) ∧
  (∀ (s : State) (t : Nat), s.keyBusy = true → s.vn .onKeyStage ≠ 0 → 
    Completes (.keyWriteStepEnd 2 t) s fun u => u.f Reg.START_KEY_WRITE_STATUS_STATE = 7 ∧ u.f Reg.START_KEY_WRITE_STATUS_FAIL = 12 ∧ u.v .onKeyStage = 0) ∧
  (∀ (s : State) (t : Nat), s.keyBusy = true → s.vn .onKeyStage = 1 → 
    Completes (.keyWriteStepEnd 0 t) s fun u => u.f Reg.START_KEY_WRITE_STATUS_STATE = 3 ∧ u.vn .onKeyStage = 2) ∧
  (∀ (s : State) (t : Nat), s.keyBusy = true → s.vn .onKeyStage = 2 → 
    Completes (.keyWriteStepEnd 0 t) s fun u => u.f Reg.START_KEY_WRITE_STATUS_STATE = 4 ∧ u.vn .onKeyStage = 3) ∧
  (∀ (s : State) (t : Nat), s.keyBusy = true → s.vn .onKeyStage = 3 → 
    Completes (.keyWriteStepEnd 0 t) s fun u => u.f Reg.START_KEY_WRITE_STATUS_STATE = 5 ∧ u.vn .onKeyStage = 4 ∧ u.keyMem = s.keyMem) ∧
  (∀ (s : State) (t : Nat), s.keyBusy = true → s.vn .onKeyStage = 4 → 
    Completes (.keyWriteStepEnd 0 t) s fun u => u.f Reg.START_KEY_WRITE_STATUS_PROGRESS = 100 ∧ u.vn .onKeyStage = 5) ∧
  (∀ (s : State) (t : Nat), s.keyBusy = true → s.vn .onKeyStage = 5 → 
    Completes (.keyWriteStepEnd 0 t) s fun u => u.f Reg.START_KEY_WRITE_STATUS_STATE = 6 ∧ u.vn .onKeyStage = 0 ∧ u.keyMem = s.keyMem) ∧
  (∀ (s : State) (outcome : Fin 3) (t : Nat), Framed (.keyWriteStepEnd outcome t) s (Keeps (reportComps ++ ([.keyMem] : List Comp)) (reportFlds ++ ([one Reg.START_KEY_WRITE_STATUS_FAIL, one Reg.START_KEY_WRITE_STATUS_PROGRESS, one Reg.START_KEY_WRITE_STATUS_STATE, one Reg.START_PENDING_GEN] : List Place))))

/-- What the recorder's own events leave unchanged. A written record changes only the queue, the log, its count of records and what a report changes; a token refill no part and no parameter word; the end of a clear only the log, its counters, the cursor and the marks of seen events. -/
def Obligations.RecorderFrames : Prop :=
  (∀ (s : State), Framed (.recordWrite) s (Keeps reportComps (reportFlds ++ ([one Reg.LOG_COUNTERS 0] : List Place)))) ∧
  (∀ (s : State) (code : Nat), Framed (.tokenRefill code) s (Keeps [] [])) ∧
  (∀ (s : State), Framed (.clearDone) s (Keeps [.log] [all Reg.LOG_COUNTERS 6, one Reg.LOG_CURSOR_OFFSET, all Reg.STATE_SEEN_EVENTS 19]))

/-- The states of a fabric port: link, supervision, discovery of the peer and what a port does with a frame that arrives. A PHY link on a port in TRAINING, of a powered module on its crystal, makes it UP as master or slave, as its ROLE or the negotiation says, with its windows open. Loss of link takes a port in UP or VERIFIED to TRAINING or BLOCKED, counts, leaves LINK_DOWN present and no frame queued for the port; a looped port returns to TRAINING. LINK_TIMEOUT and, with too many damaged frames, the error window do the same to the state and LINK_DOWN; with fewer, the next error window begins. A LINK_CHECK leaves an idle port at its time and waits behind the frame in progress on another. The end of HOLD_OFF returns the port to TRAINING with no flaps, the end of the flap window leaves none. A LINK_CHECK with the module's own ID blocks a VERIFIED port as looped; any other shows the peer; the third in a row and in time that names this module verifies a port in UP and ends LINK_DOWN. A frame that a port takes is counted as received; a foreign one is counted as such too; one with a wrong HCRC is counted and does not restart the supervision; on a port that is neither UP nor VERIFIED nothing is counted or sent. -/
def Obligations.PortEvents : Prop :=
  (∀ (s : State) (port : Fin 4) (master : Bool) (t : Nat), s.portState port.val = 1 → s.powered = true → s.on .dying = false → s.fb Reg.CLK_STATUS_ON_BACKUP = false → 
    Completes (.phyLinkUp port master t) s fun u => u.portState port.val = 2 ∧ u.fb Reg.FAB_PORT_STATUS_PHY_LINK port.val = true ∧ u.fb Reg.FAB_PORT_STATUS_MASTER port.val = (if s.f Reg.FAB_PORT_CFG_ROLE port.val = 0 then master else s.f Reg.FAB_PORT_CFG_ROLE port.val == 1)
    ∧ u.isOpen .linkCheck port.val = true ∧ u.isOpen .linkTimeout port.val = true ∧ u.isOpen .errWindow port.val = true ∧ u.now = max s.now t) ∧
  (∀ (s : State) (port : Fin 4) (t : Nat), s.fb Reg.FAB_PORT_STATUS_LOOPBACK port.val = false → s.portState port.val = 2 ∨ s.portState port.val = 3 → 
    Completes (.phyLinkLoss port t) s fun u => (u.portState port.val = 1 ∨ u.portState port.val = 4) ∧ u.f Reg.FAB_PORT_COUNTERS port.val 7 = s.plus Reg.FAB_PORT_COUNTERS port.val 1 7
    ∧ u.present Ev.LINK_DOWN port.val = true ∧ u.fb Reg.FAB_PORT_STATUS_PHY_LINK port.val = false ∧ u.isOpen .linkTimeout port.val = false ∧ (∀ e ∈ u.egress, e.port ≠ port.val)) ∧
  (∀ (s : State) (port : Fin 4) (t : Nat), s.fb Reg.FAB_PORT_STATUS_LOOPBACK port.val = true → 
    Completes (.phyLinkLoss port t) s fun u => u.portState port.val = 1 ∧ u.fb Reg.FAB_PORT_STATUS_LOOPBACK port.val = false ∧ u.causes = s.causes) ∧
  (∀ (s : State) (port : Fin 4), s.isOpen .linkCheck port.val = true → s.vn .portEnd port.val ≤ max s.now (s.endOf .linkCheck port.val) → (∀ e ∈ s.egress, e.port ≠ port.val) → 
    Completes (.linkCheckSend port) s fun u => u.endOf .linkCheck port.val = s.endOf .linkCheck port.val + ms 1 ∧ u.f Reg.FAB_PORT_COUNTERS port.val 1 = s.plus Reg.FAB_PORT_COUNTERS port.val 1 1
    ∧ u.out = s.out ++ [.fabric port.val (s.ownFrame 0 0 0x3FF 0 0 (s.linkCheckBody port.val)) false] ∧ u.now = max s.now (s.endOf .linkCheck port.val)) ∧
  (∀ (s : State) (port : Fin 4), s.isOpen .linkCheck port.val = true → max s.now (s.endOf .linkCheck port.val) < s.vn .portEnd port.val → 
    Completes (.linkCheckSend port) s fun u => u.endOf .linkCheck port.val = s.endOf .linkCheck port.val + ms 1
    ∧ u.egress = s.egress ++ [{ port := port.val, cls := 3, frame := s.ownFrame 0 0 0x3FF 0 0 (s.linkCheckBody port.val), bad := false }]
    ∧ u.out = s.out ∧ u.now = max s.now (s.endOf .linkCheck port.val)) ∧
  (∀ (s : State) (port : Fin 4), s.isOpen .linkTimeout port.val = true → s.portState port.val = 2 ∨ s.portState port.val = 3 → 
    Completes (.linkTimeout port) s fun u => (u.portState port.val = 1 ∨ u.portState port.val = 4) ∧ u.f Reg.FAB_PORT_COUNTERS port.val 7 = s.plus Reg.FAB_PORT_COUNTERS port.val 1 7
    ∧ u.present Ev.LINK_DOWN port.val = true ∧ u.now = max s.now (s.endOf .linkTimeout port.val)) ∧
  (∀ (s : State) (port : Fin 4), s.isOpen .errWindow port.val = true → s.portState port.val = 2 ∨ s.portState port.val = 3 → s.f Reg.FAB_LINK_ERR_LIMIT ≤ s.vn .errDrops port.val → 
    Completes (.errorWindowEnd port) s fun u => (u.portState port.val = 1 ∨ u.portState port.val = 4) ∧ u.present Ev.LINK_DOWN port.val = true ∧ u.isOpen .errWindow port.val = false) ∧
  (∀ (s : State) (port : Fin 4), s.isOpen .errWindow port.val = true → s.vn .errDrops port.val < s.f Reg.FAB_LINK_ERR_LIMIT → 
    Completes (.errorWindowEnd port) s fun u => u.v .errDrops port.val = 0 ∧ u.endOf .errWindow port.val = s.endOf .errWindow port.val + ms 100 ∧ u.portState port.val = s.portState port.val) ∧
  (∀ (s : State) (port : Fin 4), s.isOpen .holdOff port.val = true → 
    Completes (.holdOffEnd port) s fun u => u.portState port.val = 1 ∧ u.f Reg.FAB_PORT_STATUS_FLAPS port.val = 0 ∧ u.isOpen .flapWindow port.val = false ∧ u.now = max s.now (s.endOf .holdOff port.val)) ∧
  (∀ (s : State) (port : Fin 4), s.isOpen .flapWindow port.val = true → 
    Completes (.flapWindowEnd port) s fun u => u.f Reg.FAB_PORT_STATUS_FLAPS port.val = 0 ∧ u.isOpen .flapWindow port.val = false ∧ u.now = max s.now (s.endOf .flapWindow port.val)) ∧
  (∀ (s : State) (port : Fin 4) (frame : Frame) (t : Nat), s.takes port frame = true → frame.kind = 0 → numAt frame.body 0 8 = s.uid → 
    Completes (.linkCheck port frame t) s fun u => u.portState port.val = 4 ∧ u.fb Reg.FAB_PORT_STATUS_LOOPBACK port.val = true ∧ u.isOpen .linkTimeout port.val = false ∧ u.now = max s.now t) ∧
  (∀ (s : State) (port : Fin 4) (frame : Frame) (t : Nat), s.takes port frame = true → frame.kind = 0 → numAt frame.body 0 8 ≠ s.uid → 
    Completes (.linkCheck port frame t) s fun u => u.f Reg.FAB_PORT_PEER port.val 0 = numAt frame.body 0 8 % 2 ^ 32 ∧ u.f Reg.FAB_PORT_PEER port.val 1 = numAt frame.body 4 4
    ∧ u.fb Reg.FAB_PORT_STATUS_DOWNSTREAM port.val = (numAt frame.body 0x17 1).testBit 1 ∧ u.portState port.val = 3
    ∧ u.isOpen .linkTimeout port.val = true ∧ u.f Reg.FAB_PORT_COUNTERS port.val 0 = s.plus Reg.FAB_PORT_COUNTERS port.val 1 0) ∧
  (∀ (s : State) (port : Fin 4) (frame : Frame) (t : Nat), s.on .dying = false → s.portState port.val = 2 → frame.ether = s.etherType → frame.hcrc = true → frame.fcs = true → frameOk frame = true → frame.kind = 0 → numAt frame.body 0 8 ≠ s.uid → numAt frame.body 0x18 8 = s.uid → s.vn .lcRun port.val = 2 → (s.arrive t).now < s.vn .lcAt port.val / Clk.slow * Clk.slow + ms (s.f Reg.FAB_LINK_LINK_TIMEOUT) → 
    Completes (.linkCheck port frame t) s fun u => u.portState port.val = 3 ∧ u.present Ev.LINK_DOWN port.val = false ∧ u.f Reg.FAB_STATUS_VERIFIED / 2 ^ port.val % 2 = 1) ∧
  (∀ (s : State) (port : Fin 4) (frame : Frame) (stamps : Stamps) (t : Nat), s.takes port frame = true → frame.kind ≠ 7 → 
    Completes (.frameReceived port frame stamps t) s fun u => u.f Reg.FAB_PORT_COUNTERS port.val 0 = s.plus Reg.FAB_PORT_COUNTERS port.val 1 0 ∧ u.now = max s.now t) ∧
  (∀ (s : State) (port : Fin 4) (frame : Frame) (stamps : Stamps) (t : Nat), s.on .dying = false → s.portState port.val = 2 ∨ s.portState port.val = 3 → frame.ether ≠ s.etherType → 
    Completes (.frameReceived port frame stamps t) s fun u => u.f Reg.FAB_PORT_COUNTERS port.val 0 = s.plus Reg.FAB_PORT_COUNTERS port.val 1 0 ∧ u.f Reg.FAB_PORT_COUNTERS port.val 4 = s.plus Reg.FAB_PORT_COUNTERS port.val 1 4) ∧
  (∀ (s : State) (port : Fin 4) (frame : Frame) (stamps : Stamps) (t : Nat), s.on .dying = false → s.portState port.val = 2 ∨ s.portState port.val = 3 → frame.ether = s.etherType → frame.hcrc = false → 
    Completes (.frameReceived port frame stamps t) s fun u => u.f Reg.FAB_PORT_COUNTERS port.val 2 = s.plus Reg.FAB_PORT_COUNTERS port.val 1 2 ∧ u.v .errDrops port.val = s.v .errDrops port.val + 1
    ∧ u.endOf .linkTimeout port.val = s.endOf .linkTimeout port.val) ∧
  (∀ (s : State) (port : Fin 4) (frame : Frame) (stamps : Stamps) (t : Nat), s.portState port.val ≠ 2 → s.portState port.val ≠ 3 → 
    Completes (.frameReceived port frame stamps t) s fun u => u.f Reg.FAB_PORT_COUNTERS port.val 0 = s.f Reg.FAB_PORT_COUNTERS port.val 0 ∧ u.out = s.out)

/-- Waggle rounds, the tally and addresses. At its period the root starts a round, with the next number, no reply and its reply window open; another module starts none. A TOPOLOGY frame makes the root start a round, or mark an early one while it awaits replies. A WAGGLE of another module, from the first root seen, from a better root, or of a newer round of the root followed, is accepted: the module is no root, follows that root and round with the port as its upstream port, its settle window open and ROOT_LOST ended; a WAGGLE of the module's own ID is not. The end of the settle window fixes the path. The root keeps the last reply of each node of the present round that arrives before its reply window ends; the end of the reply window, with at most 511 replies, leaves the number of nodes and every replying node in the colony's table, and with an early round marked the next round has started. An ADDRESS_REFUSED frame that names the module takes its address and its role as master. When the root followed is lost, that is marked, counted and present; a node that followed none does not report; an eligible one becomes root. -/
def Obligations.RoundEvents : Prop :=
  (∀ (s : State), s.isOpen .waggle = true → s.isRoot = true → 
    Completes (.wagglePeriodEnd) s fun u => u.f Reg.FAB_ROUND_ROUND = (s.f Reg.FAB_ROUND_ROUND + 1) % 65536 ∧ u.isOpen .replyWindow = true ∧ u.isOpen .waggle = true ∧ u.replies = []
    ∧ u.on .earlyRound = false ∧ u.now = max s.now (s.endOf .waggle)) ∧
  (∀ (s : State), s.isOpen .waggle = true → s.isRoot = false → 
    Completes (.wagglePeriodEnd) s fun u => u.f Reg.FAB_ROUND_ROUND = s.f Reg.FAB_ROUND_ROUND ∧ u.out = s.out) ∧
  (∀ (s : State) (port : Fin 4) (frame : Frame) (t : Nat), s.takes port frame = true → frame.kind = 3 → frame.flags = 1 → s.isRoot = true → s.isOpen .replyWindow = false → 
    Completes (.topology port frame t) s fun u => u.f Reg.FAB_ROUND_ROUND = (s.f Reg.FAB_ROUND_ROUND + 1) % 65536 ∧ u.isOpen .replyWindow = true ∧ u.replies = [] ∧ u.now = max s.now t) ∧
  (∀ (s : State) (port : Fin 4) (frame : Frame) (t : Nat), s.takes port frame = true → frame.kind = 3 → frame.flags = 1 → s.isRoot = true → s.isOpen .replyWindow = true → 
    Completes (.topology port frame t) s fun u => u.on .earlyRound = true ∧ u.f Reg.FAB_ROUND_ROUND = s.f Reg.FAB_ROUND_ROUND ∧ u.replies = s.replies) ∧
  (∀ (s : State) (port : Fin 4) (frame : Frame) (t : Nat), s.takes port frame = true → frame.kind = 1 → numAt frame.body 0 8 ≠ s.uid → s.rootUid = 0 ∨ (numAt frame.body 0 8 ≠ s.rootUid ∧ (numAt frame.body 8 1 < s.vn .rootPrio ∨ numAt frame.body 8 1 = s.vn .rootPrio ∧ numAt frame.body 0 8 < s.rootUid)) ∨ (numAt frame.body 0 8 = s.rootUid ∧ 1 ≤ (numAt frame.body 0xA 2 + 65536 - s.f Reg.FAB_ROUND_ROUND) % 65536 ∧ (numAt frame.body 0xA 2 + 65536 - s.f Reg.FAB_ROUND_ROUND) % 65536 ≤ 32767) → 
    Completes (.waggle [(port, frame)] t) s fun u => u.isRoot = false ∧ u.rootUid = numAt frame.body 0 8 ∧ u.f Reg.FAB_ROUND_ROUND = numAt frame.body 0xA 2 ∧ u.f Reg.FAB_COUNTERS 0 = s.plus Reg.FAB_COUNTERS 0
    ∧ u.f Reg.FAB_STATUS_UPSTREAM = port.val ∧ u.fb Reg.FAB_PORT_STATUS_UPSTREAM port.val = true ∧ u.isOpen .settle = true ∧ u.isOpen .rootLost = true
    ∧ u.fb Reg.FAB_STATUS_ROOT_LOST = false ∧ u.present Ev.ROOT_LOST = false ∧ u.vn .bestDepth = numAt frame.body 0xE 2 ∧ u.now = max s.now t) ∧
  (∀ (s : State) (port : Fin 4) (frame : Frame) (t : Nat), s.takes port frame = true → frame.kind = 1 → numAt frame.body 0 8 = s.uid → 
    Completes (.waggle [(port, frame)] t) s fun u => u.rootUid = s.rootUid ∧ u.f Reg.FAB_ROUND_ROUND = s.f Reg.FAB_ROUND_ROUND ∧ u.out = s.out) ∧
  (∀ (s : State), s.isOpen .settle = true → 
    Completes (.waggleSettle) s fun u => u.on .settled = true ∧ u.f Reg.FAB_PATH_DEPTH = s.vn .bestDepth % 65536 ∧ u.f Reg.FAB_PATH_BITS 0 = s.vn .bestPath % 2 ^ 32
    ∧ u.isOpen .settle = false ∧ u.now = max s.now (s.endOf .settle)) ∧
  (∀ (s : State) (port : Fin 4) (frame : Frame) (t : Nat), s.takes port frame = true → frame.kind = 2 → frame.flags = 1 → s.isRoot = true → (s.due .replyWindow).any (max s.now t < ·) = true → numAt frame.body 8 2 = s.f Reg.FAB_ROUND_ROUND → 
    Completes (.waggleReply port frame t) s fun u => u.replies.map (fun n => n.uid) = (s.replies.map (fun n => n.uid)).filter (fun k => k ≠ numAt frame.body 0 8) ++ [numAt frame.body 0 8]
    ∧ u.now = max s.now t) ∧
  (∀ (s : State), s.isOpen .replyWindow = true → s.isRoot = true → s.on .earlyRound = false → s.replies.length ≤ 511 → 
    Completes (.replyWindowEnd) s fun u => u.replies = [] ∧ u.isOpen .replyWindow = false ∧ u.f Reg.FAB_ROUND_NODES = 1 + s.replies.length
    ∧ u.f Reg.FAB_ROUND_ROUND = s.f Reg.FAB_ROUND_ROUND ∧ (∀ n ∈ s.replies, u.colony.any (fun m => m.uid == n.uid) = true)
    ∧ u.now = max s.now (s.endOf .replyWindow)) ∧
  (∀ (s : State), s.isOpen .replyWindow = true → s.isRoot = true → s.on .earlyRound = true → 
    Completes (.replyWindowEnd) s fun u => u.replies = [] ∧ u.on .earlyRound = false ∧ u.isOpen .replyWindow = true ∧ u.f Reg.FAB_ROUND_ROUND = (s.f Reg.FAB_ROUND_ROUND + 1) % 65536) ∧
  (∀ (s : State) (port : Fin 4) (frame : Frame) (t : Nat), s.takes port frame = true → frame.kind = 4 → frame.flags = 2 → numAt frame.body 0 8 = s.uid → 
    Completes (.addressRefused port frame t) s fun u => u.address = 0x3FE ∧ u.fb Reg.FAB_STATUS_REFUSED = true ∧ u.f Reg.FAB_STATUS_ADDR_SRC = 0 ∧ u.f Reg.FAB_COUNTERS 4 = s.plus Reg.FAB_COUNTERS 4
    ∧ u.isOpen .master = false ∧ u.f Reg.FAB_CYCLE_STATUS_ROLE ≠ 2) ∧
  (∀ (s : State), s.isOpen .rootLost = true → s.rootUid ≠ 0 → 
    Completes (.rootLost) s fun u => u.fb Reg.FAB_STATUS_ROOT_LOST = true ∧ u.f Reg.FAB_COUNTERS 5 = s.plus Reg.FAB_COUNTERS 5 ∧ u.present Ev.ROOT_LOST = true
    ∧ (s.ownPrio < 255 → u.isRoot = true ∧ u.rootUid = s.uid ∧ u.isOpen .replyWindow = true) ∧ u.now = max s.now (s.endOf .rootLost)) ∧
  (∀ (s : State), s.isOpen .rootLost = true → s.rootUid = 0 → 
    Completes (.rootLost) s fun u => u.f Reg.FAB_COUNTERS 5 = s.f Reg.FAB_COUNTERS 5 ∧ u.causes = s.causes ∧ (s.ownPrio < 255 → u.isRoot = true ∧ u.rootUid = s.uid))

/-- The colony cycle, link delays, masters and signals. A local cycle start counts the cycle number on (0 first), opens the next cycle, and leaves waiting only the signals of its own LOOP cycle. A cycle missing for a follower is counted and shown, and after 8 cycles of the master's length without it the module follows none. An eligible module with an address becomes master with its own cycle length and the next cycle at the next PULSE cycle. A first copy of a SYNC of the master followed, or of any while the module follows none, makes it a follower with that master and length and no missing cycle; a stale one is counted and changes neither master nor output. A PDELAY_REQ leaves each idle VERIFIED port every 100 ms and is noted with its stamp; one that is received is answered on an idle port with both stamps; a response to the open one is kept as a result, and the eighth gives a measured delay. An enabled publish frame with entries goes out once per cycle number. A first copy of a SIGNAL frame is delivered to each of its local entries, at once or waiting; a duplicate and a stale one are not, and the stale one is counted. Expired duplicate state is forgotten with the learned port. -/
def Obligations.CycleEvents : Prop :=
  (∀ (s : State) (leave : List Nat), s.isOpen .cycle = true → s.on .imageApplied = true → 
    Completes (.cycleStart leave) s fun u => u.f Reg.FAB_CYCLE_NO = (if s.on .cycleZero = true then 0 else (s.f Reg.FAB_CYCLE_NO + 1) % 2 ^ 32) ∧ u.on .cycleZero = false
    ∧ u.endOf .cycle = s.endOf .cycle + s.f Reg.FAB_CYCLE_LEN_NOW * Clk.pulse ∧ u.waiting = s.waiting.filter (fun w => max s.now (s.endOf .cycle) / Clk.loop ≤ w.loop) ∧ u.now = max s.now (s.endOf .cycle)) ∧
  (∀ (s : State), s.isOpen .missing = true → s.f Reg.FAB_CYCLE_STATUS_ROLE = 1 → 0 ≤ s.v .missing → 
    Completes (.missingCycle) s fun u => u.isOpen .missing = false ∧ s.vn .missing < u.vn .missing ∧ u.f Reg.FAB_CYCLE_STATUS_MISSING = min 15 (u.vn .missing) 
    ∧ (s.vn .masterAt + 8 * s.vn .masterLen * Clk.pulse ≤ max s.now (s.endOf .missing) → u.f Reg.FAB_CYCLE_STATUS_ROLE = 0 ∧ u.masterUid = 0) ∧ u.now = max s.now (s.endOf .missing)) ∧
  (∀ (s : State), s.isOpen .master = true → s.f Reg.FAB_CYCLE_CFG_MASTER_PRIO ≠ 255 → s.address ≠ 0x3FE → s.on .imageApplied = true → s.f Reg.FAB_CYCLE_STATUS_ROLE ≠ 2 → 
    Completes (.masterAssumed) s fun u => u.f Reg.FAB_CYCLE_STATUS_ROLE = 2 ∧ u.masterUid = s.uid ∧ u.f Reg.FAB_CYCLE_LEN_NOW = 150 * s.f Reg.FAB_CYCLE_CFG_CYCLE_LEN
    ∧ u.endOf .cycle = (max s.now (s.endOf .master) / Clk.pulse + 1) * Clk.pulse ∧ u.f Reg.FAB_CYCLE_STATUS_MISSING = 0 ∧ u.isOpen .missing = false) ∧
  (∀ (s : State) (port : Fin 4) (frame : Frame) (stamps : Stamps) (t : Nat), s.takes port frame = true → frame.kind = 5 → numAt frame.body 0 1 = 0 → frame.flags = 0 → s.on .imageApplied = true → frame.src ≠ s.address → (s.arrive t).classOf frame.src 5 frame.seq = 0 → s.f Reg.FAB_CYCLE_STATUS_ROLE ≠ 2 → numAt frame.body 0x10 4 ≠ 0 → s.masterUid = 0 ∨ s.masterUid = numAt frame.body 8 8 → 
    Completes (.syncReceived port frame stamps t) s fun u => u.f Reg.FAB_CYCLE_STATUS_ROLE = 1 ∧ u.masterUid = numAt frame.body 8 8 ∧ u.f Reg.FAB_CYCLE_COUNTERS 1 = s.plus Reg.FAB_CYCLE_COUNTERS 1
    ∧ u.f Reg.FAB_CYCLE_STATUS_MISSING = 0 ∧ u.v .missing = 0 ∧ u.f Reg.FAB_CYCLE_LEN_NOW = numAt frame.body 0x10 4 ∧ max s.now t ≤ u.now) ∧
  (∀ (s : State) (port : Fin 4) (frame : Frame) (stamps : Stamps) (t : Nat), s.takes port frame = true → frame.kind = 5 → numAt frame.body 0 1 = 0 → frame.flags = 0 → s.on .imageApplied = true → frame.src ≠ s.address → (s.arrive t).classOf frame.src 5 frame.seq = 2 → 
    Completes (.syncReceived port frame stamps t) s fun u => u.f Reg.FAB_SIG_COUNTERS 3 = s.plus Reg.FAB_SIG_COUNTERS 3 ∧ u.masterUid = s.masterUid ∧ u.out = s.out) ∧
  (∀ (s : State) (leave : List Nat) (port : Fin 4), s.isOpen .pdelay = true → s.address ≠ 0x3FE → s.verified port.val = true → s.vn .portEnd port.val ≤ max s.now (s.endOf .pdelay) → (∀ e ∈ s.egress, e.port ≠ port.val) → 
    Completes (.pdelaySend leave) s fun u => u.endOf .pdelay = s.endOf .pdelay + ms 100 ∧ u.v .pdReq port.val = (s.vn .pdReq port.val + 1) % 65536 ∧ u.on .pdOpen port.val = true
    ∧ u.v .pdSentAt port.val = leave.getD port.val 0 ∧ u.f Reg.FAB_PORT_COUNTERS port.val 1 = s.plus Reg.FAB_PORT_COUNTERS port.val 1 1) ∧
  (∀ (s : State) (port : Fin 4) (frame : Frame) (stamps : Stamps) (t : Nat), s.takes port frame = true → frame.kind = 5 → numAt frame.body 0 1 = 1 → s.on .imageApplied = true → s.address ≠ 0x3FE → s.vn .portEnd port.val ≤ max s.now t → (∀ e ∈ s.egress, e.port ≠ port.val) → 
    Completes (.pdelayReq port frame stamps t) s fun u => u.out = s.out ++ [.fabric port.val (s.ownFrame 5 0 s.address 0 0 (cycleBody 2 0 (numAt frame.body 2 2) 0 (stamps.arrive % 2 ^ 64 : Nat) (stamps.leave.getD port.val 0 % 2 ^ 32 : Nat) (stamps.leave.getD port.val 0 / 2 ^ 32 % 2 ^ 32 : Nat) 0)) false]
    ∧ u.f Reg.FAB_PORT_COUNTERS port.val 1 = s.plus Reg.FAB_PORT_COUNTERS port.val 1 1 ∧ u.now = max s.now t) ∧
  (∀ (s : State) (port : Fin 4) (frame : Frame) (stamps : Stamps) (t : Nat), s.takes port frame = true → frame.kind = 5 → numAt frame.body 0 1 = 2 → s.on .imageApplied = true → s.on .pdOpen port.val = true → numAt frame.body 2 2 = s.vn .pdReq port.val → 
    Completes (.pdelayResp port frame stamps t) s fun u => u.on .pdOpen port.val = false ∧ u.vn .pdCount port.val = min 8 (s.vn .pdCount port.val + 1)
    ∧ u.v .pdResult (port.val * 8 + s.vn .pdPlace port.val % 8) = stamps.arrive - s.v .pdSentAt port.val - ((numAt frame.body 0x10 8 : Nat) - (numAt frame.body 8 8 : Nat))
    ∧ (7 ≤ s.vn .pdCount port.val → u.fb Reg.FAB_PORT_DELAY_MEASURED port.val = true)) ∧
  (∀ (s : State) (frame : Fin 4), s.isOpen .publish frame.val = true → 5 ≤ s.module.code → s.address ≠ 0x3FE → s.fb Reg.FAB_PUB_ENABLE frame.val = true → pubEntries (s.section? 4) frame.val ≠ [] → s.vn .pubDone frame.val ≠ s.f Reg.FAB_CYCLE_NO + 1 → 
    Completes (.publish frame) s fun u => u.f Reg.FAB_SIG_COUNTERS 1 = s.plus Reg.FAB_SIG_COUNTERS 1 ∧ u.v .pubDone frame.val = s.f Reg.FAB_CYCLE_NO + 1 ∧ u.v .fabSeq 6 = (s.vn .fabSeq 6 + 1) % 65536
    ∧ u.isOpen .publish frame.val = false ∧ u.now = max s.now (s.endOf .publish frame.val)) ∧
  (∀ (s : State) (frame : Fin 4), s.isOpen .publish frame.val = true → s.vn .pubDone frame.val = s.f Reg.FAB_CYCLE_NO + 1 → 
    Completes (.publish frame) s fun u => u.f Reg.FAB_SIG_COUNTERS 1 = s.f Reg.FAB_SIG_COUNTERS 1 ∧ u.out = s.out) ∧
  (∀ (s : State) (port : Fin 4) (frame : Frame) (t : Nat), s.takes port frame = true → frame.kind = 6 → frame.flags = 0 → s.on .imageApplied = true → frame.src ≠ s.address → (s.arrive t).classOf frame.src 6 frame.seq = 0 → 
    Completes (.signal port frame t) s fun u => u.f Reg.FAB_SIG_COUNTERS 0 = s.plus Reg.FAB_SIG_COUNTERS 0 ((signalEntries frame.body).filter (fun x => (s.sigRoute x.1 0).testBit 4)).length
    ∧ (∀ x ∈ signalEntries frame.body, (s.sigRoute x.1 0).testBit 4 = true → (s.sigRoute x.1 0).testBit 5 = true → u.waiting.any (fun w => w.signal == x.1) = true)
    ∧ u.f Reg.FAB_PORT_COUNTERS port.val 0 = s.plus Reg.FAB_PORT_COUNTERS port.val 1 0 ∧ u.now = max s.now t) ∧
  (∀ (s : State) (port : Fin 4) (frame : Frame) (t : Nat), s.takes port frame = true → frame.kind = 6 → frame.flags = 0 → s.on .imageApplied = true → frame.src ≠ s.address → (s.arrive t).classOf frame.src 6 frame.seq = 1 → 
    Completes (.signal port frame t) s fun u => u.f Reg.FAB_SIG_COUNTERS 0 = s.f Reg.FAB_SIG_COUNTERS 0 ∧ u.waiting = s.waiting) ∧
  (∀ (s : State) (port : Fin 4) (frame : Frame) (t : Nat), s.takes port frame = true → frame.kind = 6 → frame.flags = 0 → s.on .imageApplied = true → frame.src ≠ s.address → (s.arrive t).classOf frame.src 6 frame.seq = 2 → 
    Completes (.signal port frame t) s fun u => u.f Reg.FAB_SIG_COUNTERS 3 = s.plus Reg.FAB_SIG_COUNTERS 3 ∧ u.waiting = s.waiting ∧ u.out = s.out) ∧
  (∀ (s : State) (src : Nat), s.peers.any (fun p => p.src == src) = true → 
    Completes (.duplicateStateExpiry src) s fun u => u.peers = s.peers.filter (fun p => p.src ≠ src) ∧ s.now ≤ u.now ∧ u.learned src = none)

/-- Frames of the fabric's events: each changes only the parts and the fields named for it here, beside internal quantities, windows and time. A port's events change the words and the summary of ports, with a reaction and what a round or a TOPOLOGY frame sends; a round's frames the place in the tree, the colony's table and size and the address; cycle events, without waiting signals, the cycle, its ring and alignment, the discipline and the master; link-delay frames the delays; a publish frame without local delivery, and a SIGNAL or service frame not delivered here, counters, what is sent and what is kept of its source; a frame on a port that is neither UP nor VERIFIED nothing. -/
def Obligations.FabricFrames : Prop :=
  (∀ (s : State) (port : Fin 4) (master : Bool) (t : Nat), Framed (.phyLinkUp port master t) s (Keeps [] [one Reg.FAB_PORT_STATUS_MASTER port.val, one Reg.FAB_PORT_STATUS_PHY_LINK port.val, one Reg.FAB_PORT_STATUS_STATE port.val, one Reg.FAB_STATUS_BLOCKED, one Reg.FAB_STATUS_VERIFIED])) ∧
  (∀ (s : State) (port : Fin 4) (t : Nat), Framed (.phyLinkLoss port t) s (Keeps (reactionComps ++ ([.out, .replies, .egress] : List Comp)) (reactionFlds ++ portFlds ++ sendFlds))) ∧
  (∀ (s : State) (port : Fin 4), Framed (.linkCheckSend port) s (Keeps [.out, .egress] (sendFlds ++ ([one Reg.FAB_PORT_COUNTERS port.val 1] : List Place)))) ∧
  (∀ (s : State) (port : Fin 4), Framed (.linkTimeout port) s (Keeps (reactionComps ++ ([.out, .replies, .egress] : List Comp)) (reactionFlds ++ portFlds ++ sendFlds))) ∧
  (∀ (s : State) (port : Fin 4), Framed (.errorWindowEnd port) s (Keeps (reactionComps ++ ([.out, .replies, .egress] : List Comp)) (reactionFlds ++ portFlds ++ sendFlds))) ∧
  (∀ (s : State) (port : Fin 4), Framed (.holdOffEnd port) s (Keeps [.causes] [one Reg.FAB_PORT_STATUS_FLAPS port.val, one Reg.FAB_PORT_STATUS_STATE port.val, one Reg.FAB_STATUS_BLOCKED, one Reg.FAB_STATUS_VERIFIED])) ∧
  (∀ (s : State) (port : Fin 4), Framed (.flapWindowEnd port) s (Keeps [] [one Reg.FAB_PORT_STATUS_FLAPS port.val])) ∧
  (∀ (s : State) (port : Fin 4) (frame : Frame) (t : Nat), Framed (.linkCheck port frame t) s (Keeps (reactionComps ++ ([.out, .replies, .egress] : List Comp)) (reactionFlds ++ portFlds ++ sendFlds))) ∧
  (∀ (s : State) (port : Fin 4) (frame : Frame) (t : Nat), Framed (.topology port frame t) s (Keeps (reportComps ++ ([.out, .replies, .egress] : List Comp)) (reportFlds ++ portFlds ++ ([one Reg.FAB_COUNTERS 6] : List Place)))) ∧
  (∀ (s : State) (port : Fin 4) (frame : Frame) (t : Nat), Framed (.waggleReply port frame t) s (Keeps [.out, .replies, .egress] [all Reg.FAB_PORT_COUNTERS 4 8, one Reg.FAB_COUNTERS 6])) ∧
  (∀ (s : State) (port : Fin 4) (frame : Frame) (t : Nat), Framed (.addressRefused port frame t) s (Keeps (reportComps ++ ([.out, .egress, .causes] : List Comp)) (reportFlds ++ ([all Reg.FAB_PORT_COUNTERS 4 8, one Reg.FAB_COUNTERS 4, one Reg.FAB_COUNTERS 6, one Reg.FAB_STATUS_ADDRESS, one Reg.FAB_STATUS_ADDR_SRC, one Reg.FAB_STATUS_REFUSED, one Reg.FAB_CYCLE_STATUS_ROLE, all Reg.FAB_MASTER 2] : List Place)))) ∧
  (∀ (s : State) (copies : List (Fin 4 × Frame)) (t : Nat), Framed (.waggle copies t) s (Keeps (reactionComps ++ ([.colony, .out, .replies, .egress] : List Comp)) (reactionFlds ++ roundFlds))) ∧
  (∀ (s : State), Framed (.wagglePeriodEnd) s (Keeps (reportComps ++ ([.out, .replies, .egress] : List Comp)) (reportFlds ++ sendFlds ++ ([all Reg.FAB_PORT_COUNTERS 4 8, one Reg.FAB_ROUND_ROUND, one Reg.FAB_STATUS_ADDRESS, one Reg.FAB_STATUS_ADDR_SRC] : List Place)))) ∧
  (∀ (s : State), Framed (.waggleSettle) s (Keeps (reportComps ++ ([.out, .egress] : List Comp)) (reportFlds ++ roundFlds ++ sendFlds))) ∧
  (∀ (s : State), Framed (.replyWindowEnd) s (Keeps (reactionComps ++ ([.colony, .out, .replies, .egress] : List Comp)) (reactionFlds ++ roundFlds ++ sendFlds ++ ([all Reg.FAB_MASTER 2] : List Place)))) ∧
  (∀ (s : State), Framed (.rootLost) s (Keeps (reactionComps ++ ([.colony, .out, .replies, .egress] : List Comp)) (reactionFlds ++ roundFlds ++ sendFlds))) ∧
  (∀ (s : State), Framed (.missingCycle) s (Keeps reactionComps (reactionFlds ++ masterFlds))) ∧
  (∀ (s : State), Framed (.masterAssumed) s (Keeps reactionComps (reactionFlds ++ masterFlds))) ∧
  (∀ (s : State) (leave : List Nat), Framed (.cycleStart leave) s (fun a b => a.waiting = [] → Keeps (reactionComps ++ ([.out, .egress] : List Comp)) (reactionFlds ++ cycleFlds ++ sendFlds ++ ([all Reg.SVC_COUNTERS 13] : List Place)) a b)) ∧
  (∀ (s : State) (leave : List Nat), Framed (.pdelaySend leave) s (Keeps [.out, .egress] (sendFlds ++ ([all Reg.FAB_PORT_COUNTERS 4 8] : List Place)))) ∧
  (∀ (s : State) (port : Fin 4) (frame : Frame) (stamps : Stamps) (t : Nat), Framed (.pdelayReq port frame stamps t) s (Keeps [.out, .egress] [all Reg.FAB_PORT_COUNTERS 4 8])) ∧
  (∀ (s : State) (port : Fin 4) (frame : Frame) (stamps : Stamps) (t : Nat), Framed (.pdelayResp port frame stamps t) s (Keeps [.egress] [all Reg.FAB_PORT_COUNTERS 4 8, one Reg.FAB_PORT_DELAY_DELAY port.val, one Reg.FAB_PORT_DELAY_MEASURED port.val])) ∧
  (∀ (s : State) (frame : Fin 4), Framed (.publish frame) s (fun a b => (a.sigRoute (pubWord (a.section? 4) ((pubEntries (a.section? 4) frame.val).headD 0) 0 % 8192) 0).testBit 4 = false → Keeps (reactionComps ++ ([.out, .egress] : List Comp)) (sendFlds ++ replyFlds ++ reactionFlds ++ ([all Reg.FAB_PORT_COUNTERS 4 8, one Reg.FAB_SIG_COUNTERS 1] : List Place)) a b)) ∧
  (∀ (s : State) (port : Fin 4) (frame : Frame) (t : Nat), Framed (.signal port frame t) s (fun a b => (∀ x ∈ signalEntries frame.body, (a.sigRoute x.1 0).testBit 4 = false) → Keeps [.out, .egress, .peers] [all Reg.FAB_PORT_COUNTERS 4 8, all Reg.FAB_SIG_COUNTERS 6, one Reg.FAB_COUNTERS 6] a b)) ∧
  (∀ (s : State) (port : Fin 4) (frame : Frame) (t : Nat), Framed (.serviceReq port frame t) s (fun a b => frame.dst ≠ a.address → frame.dst < 0x3FE → Keeps [.out, .egress, .peers] [all Reg.FAB_PORT_COUNTERS 4 8, all Reg.FAB_SIG_COUNTERS 6, one Reg.FAB_COUNTERS 6] a b)) ∧
  (∀ (s : State) (port : Fin 4) (frame : Frame) (stamps : Stamps) (t : Nat), Framed (.syncReceived port frame stamps t) s (fun a b => a.waiting = [] → Keeps (reactionComps ++ ([.out, .peers, .free, .egress] : List Comp)) (reactionFlds ++ masterFlds ++ sendFlds ++ ([all Reg.FAB_SIG_COUNTERS 6, one Reg.FAB_COUNTERS 6] : List Place)) a b)) ∧
  (∀ (s : State) (port : Fin 4) (frame : Frame) (stamps : Stamps) (t : Nat), Framed (.frameReceived port frame stamps t) s (fun a b => a.portState port.val ≠ 2 → a.portState port.val ≠ 3 → Keeps [] [] a b)) ∧
  (∀ (s : State) (src : Nat), Framed (.duplicateStateExpiry src) s (Keeps [.peers] []))

/-- Reception on CAN: queues, takes, acknowledgements, the map service and claims. A frame that no filter ignores, on a channel on the bus, is counted and enters the first matching pair's queue while fewer than 64 entries of the channel are there; one that no pair hits is counted as such, and a channel off the bus takes none. A take of a host owns the oldest entry of its channel, below its limit; an acknowledgement in time with the entry's handle frees it; an owner whose time passes loses it and that is counted. The map service takes the next entry; one that no map entry names is counted. A claim that is heard is kept; a contest of a name not above the channel's takes its address, one of a higher name before the end of the claim window leaves it. An address that nobody contests counts as claimed. -/
def Obligations.CanReception : Prop :=
  (∀ (s : State) (channel : Fin 4) (frame : CanFrame) (t : Nat), s.f Reg.CAN_STATUS_STATE channel.val = 2 → s.on .imageApplied = true → frame.key.testBit 31 = false ∨ s.fb Reg.CAN_CFG_FD channel.val = true → frame.isClaim = false → frame.isClaimRequest = false → (s.filters channel.val).any (fun p => p.hits frame.key) = true → (s.canRx.filter (fun e => e.ch == channel.val)).length < 64 → 
    Completes (.canFrameReceived channel frame t) s fun u => u.f Reg.CAN_COUNTERS channel.val 0 = s.plus Reg.CAN_COUNTERS channel.val 1 0 ∧ u.canRx.length = s.canRx.length + 1 ∧ u.now = max s.now t
    ∧ u.canRx.any (fun e => e.ch == channel.val && e.frame == frame && e.owner == .free && some (e.queue, e.pair, e.host) == ((s.filters channel.val).find? (fun p => p.hits frame.key)).map (fun p => (p.queue, p.pair, p.host))) = true) ∧
  (∀ (s : State) (channel : Fin 4) (frame : CanFrame) (t : Nat), s.f Reg.CAN_STATUS_STATE channel.val = 2 → s.on .imageApplied = true → frame.key.testBit 31 = false ∨ s.fb Reg.CAN_CFG_FD channel.val = true → frame.isClaim = false → frame.isClaimRequest = false → (s.filters channel.val).any (fun p => p.hits frame.key) = false → 
    Completes (.canFrameReceived channel frame t) s fun u => u.f Reg.CAN_COUNTERS channel.val 0 = s.plus Reg.CAN_COUNTERS channel.val 1 0 ∧ u.f Reg.CAN_COUNTERS channel.val 2 = s.plus Reg.CAN_COUNTERS channel.val 1 2 ∧ u.canRx = s.canRx) ∧
  (∀ (s : State) (channel : Fin 4) (frame : CanFrame) (t : Nat), s.f Reg.CAN_STATUS_STATE channel.val = 0 → 
    Completes (.canFrameReceived channel frame t) s fun u => u.canRx = s.canRx ∧ u.f Reg.CAN_COUNTERS channel.val 0 = s.f Reg.CAN_COUNTERS channel.val 0) ∧
  (∀ (s : State) (r : Req) (words : Fin 20) (t : Nat) (e : CanEntry), s.serving t r (.read ((List.range (words.val + 1)).map (fun i => (0x8200, 16 + i)))) = true → s.oldest (s.winControl r.who 2 / 2 ^ 24) true = some e → (s.canRx.filter (fun x => x.ch == s.winControl r.who 2 / 2 ^ 24 && x.queue == e.queue && x.ownedBy r.who)).length < s.f Reg.CAN_QUEUE_CFG_OWN_MAX (s.winControl r.who 2 / 2 ^ 24) → 
    Completes (.canQueueTake r words t) s fun u => { e with owner := .host r.who, ends := (s.arrive t).ackEnd (s.winControl r.who 2 / 2 ^ 24), shown := true } ∈ u.canRx ∧ u.canRx.length = s.canRx.length ∧ u.f Reg.SVC_COUNTERS 0 = s.plus Reg.SVC_COUNTERS 0) ∧
  (∀ (s : State) (r : Req) (channel : Fin 4) (value : Word) (t : Nat) (e : CanEntry), s.admits t r Reg.CAN_ACK channel.val 0 value = true → (s.canRx.find? (fun x => x.ch == channel.val && x.slot == value.toNat % 64 && x.queue == value.toNat / 64 % 2 && x.ownedBy r.who)) = some e → value.toNat / 128 % 2 = 0 → e.gen % 256 = value.toNat / 256 → max s.now t < e.ends → 
    Completes (.canAck r channel value t) s fun u => u.canRx = s.canRx.filter (fun x => x ≠ e) ∧ u.wrote r (Reg.CAN_ACK.key channel.val / 256) (Reg.CAN_ACK.key channel.val % 256) = true) ∧
  (∀ (s : State) (channel : Fin 4) (queue : Fin 2) (slot : Fin 64), s.canRx.any (fun e => e.ch == channel.val && e.queue == queue.val && e.slot == slot.val && e.owner != .free) = true → 
    Completes (.ackLapsed channel queue slot) s fun u => u.f Reg.CAN_COUNTERS channel.val 4 = s.plus Reg.CAN_COUNTERS channel.val 1 4 ∧ u.canRx.length = s.canRx.length
    ∧ u.canRx.any (fun e => e.ch == channel.val && e.queue == queue.val && e.slot == slot.val && e.owner == .free) = true) ∧
  (∀ (s : State) (t : Nat) (e : CanEntry), 5 ≤ s.module.code → s.vRuns 1 = true → s.on .dying = false → s.mapNext = some e → s.mapWaits e = false → s.rxEntry e.ch e.frame.key = none → 
    Completes (.mapEntry t) s fun u => u.canRx = s.canRx.filter (fun x => x ≠ e) ∧ u.f Reg.CAN_COUNTERS e.ch 10 = s.plus Reg.CAN_COUNTERS e.ch 1 10 ∧ u.now = max s.now t) ∧
  (∀ (s : State) (t : Nat) (e : CanEntry), 5 ≤ s.module.code → s.vRuns 1 = true → s.on .dying = false → s.mapNext = some e → s.mapWaits e = false → (s.rxEntry e.ch e.frame.key).any (fun i => s.rxKind i == 0) = true → 
    Completes (.mapEntry t) s fun u => u.canRx = s.canRx.filter (fun x => x ≠ e) ∧ u.now = max s.now t) ∧
  (∀ (s : State) (channel : Fin 4) (frame : CanFrame) (t : Nat), s.f Reg.CAN_STATUS_STATE channel.val = 2 → s.on .imageApplied = true → frame.key.testBit 31 = false ∨ s.fb Reg.CAN_CFG_FD channel.val = true → frame.isClaim = true → frame.key % 256 < 254 → 
    Completes (.claimReceived channel frame t) s fun u => u.canClaims.any (fun c => c.ch == channel.val && c.addr == frame.key % 256 && c.name == ofLe (frame.bytes.take 8)) = true ∧ u.now = max s.now t) ∧
  (∀ (s : State) (channel : Fin 4) (frame : CanFrame) (t : Nat), s.f Reg.CAN_STATUS_STATE channel.val = 2 → s.on .imageApplied = true → frame.key.testBit 31 = false ∨ s.fb Reg.CAN_CFG_FD channel.val = true → frame.isClaim = true → s.vn .canAddr channel.val = frame.key % 256 + 1 → s.fb Reg.CAN_CFG_CLAIM_EN channel.val = true → ofLe (frame.bytes.take 8) ≤ s.canName channel.val → 
    Completes (.claimReceived channel frame t) s fun u => u.fb Reg.CAN_STATUS_CLAIMED channel.val = false ∧ u.f Reg.CAN_ADDRESS channel.val = 0xFE) ∧
  (∀ (s : State) (channel : Fin 4) (frame : CanFrame) (t : Nat), s.f Reg.CAN_STATUS_STATE channel.val = 2 → s.on .imageApplied = true → frame.key.testBit 31 = false ∨ s.fb Reg.CAN_CFG_FD channel.val = true → frame.isClaim = true → s.vn .canAddr channel.val = frame.key % 256 + 1 → s.fb Reg.CAN_CFG_CLAIM_EN channel.val = true → s.canName channel.val < ofLe (frame.bytes.take 8) → (s.arrive t).ended Clk.slow .claim channel.val = false → 
    Completes (.claimReceived channel frame t) s fun u => u.fb Reg.CAN_STATUS_CLAIMED channel.val = s.fb Reg.CAN_STATUS_CLAIMED channel.val ∧ u.f Reg.CAN_ADDRESS channel.val = s.f Reg.CAN_ADDRESS channel.val) ∧
  (∀ (s : State) (channel : Fin 4), s.isOpen .claim channel.val = true → 
    Completes (.addressClaimed channel) s fun u => u.fb Reg.CAN_STATUS_CLAIMED channel.val = true ∧ u.f Reg.CAN_ADDRESS channel.val = (s.vn .canAddr channel.val - 1) % 256 ∧ u.now = max s.now (s.endOf .claim channel.val))

/-- Transmission on CAN, errors and recovery. Periods and checks of transmit entries run back to back, and an entry that may send has a last frame. The head frame of a channel on the bus leaves, is counted and lowers the transmit error counter; a frame held behind it is no longer held. Errors count by one and by eight; 128 receive errors make the channel passive; transmit errors above 255 take it off the bus, into bus-off or its recovery, with BUS_OFF present and counted. BUS_RECOVER starts the recovery of a channel in bus-off and is refused with condition 1 for any other; the end of the recovery clears both counters and BUS_OFF. -/
def Obligations.CanTransmission : Prop :=
  (∀ (s : State) (entry : Fin 64), s.isOpen .txPeriod entry.val = true → 
    Completes (.txPeriod entry) s fun u => u.endOf .txPeriod entry.val = s.endOf .txPeriod entry.val + ms (s.txPeriodMs entry.val) ∧ u.now = max s.now (s.endOf .txPeriod entry.val)
    ∧ (s.txMay entry.val = true → u.canLast.any (fun x => x.1 == entry.val) = true)) ∧
  (∀ (s : State) (entry : Fin 64), s.isOpen .txCheck entry.val = true → 
    Completes (.txChangeCheck entry) s fun u => u.endOf .txCheck entry.val = s.endOf .txCheck entry.val + ms 1 ∧ u.now = max s.now (s.endOf .txCheck entry.val)
    ∧ (s.txMay entry.val = true → u.canLast.any (fun x => x.1 == entry.val) = true)) ∧
  (∀ (s : State) (channel : Fin 4) (t : Nat) (f : TxFrame), s.f Reg.CAN_STATUS_STATE channel.val = 2 ∨ s.f Reg.CAN_STATUS_STATE channel.val = 3 → s.canTx.find? (fun x => x.ch == channel.val) = some f → s.canHold.find? (fun x => x.entry == f.entry && x.entry.isSome) = none → 
    Completes (.canFrameSent channel t) s fun u => u.out = s.out ++ [.can f] ∧ u.f Reg.CAN_COUNTERS channel.val 1 = s.plus Reg.CAN_COUNTERS channel.val 1 1 ∧ u.f Reg.CAN_ERRORS_TX channel.val = s.f Reg.CAN_ERRORS_TX channel.val - 1 ∧ u.now = max s.now t) ∧
  (∀ (s : State) (channel : Fin 4) (t : Nat) (f : TxFrame) (h : TxFrame), s.f Reg.CAN_STATUS_STATE channel.val = 2 ∨ s.f Reg.CAN_STATUS_STATE channel.val = 3 → s.canTx.find? (fun x => x.ch == channel.val) = some f → s.canHold.find? (fun x => x.entry == f.entry && x.entry.isSome) = some h → h.ch = channel.val → 
    Completes (.canFrameSent channel t) s fun u => u.out = s.out ++ [.can f] ∧ u.f Reg.CAN_COUNTERS channel.val 1 = s.plus Reg.CAN_COUNTERS channel.val 1 1 ∧ u.f Reg.CAN_ERRORS_TX channel.val = s.f Reg.CAN_ERRORS_TX channel.val - 1 ∧ u.canHold = s.canHold.erase h ∧ u.now = max s.now t) ∧
  (∀ (s : State) (channel : Fin 4) (kind : Fin 3) (t : Nat), s.f Reg.CAN_STATUS_STATE channel.val = 2 ∨ s.f Reg.CAN_STATUS_STATE channel.val = 3 → kind.val ≠ 2 → 
    Completes (.canError channel kind t) s fun u => u.f Reg.CAN_ERRORS_RX channel.val = s.plus Reg.CAN_ERRORS_RX channel.val (if kind.val = 0 then 1 else 8) ∧ u.f Reg.CAN_ERRORS_TX channel.val = s.f Reg.CAN_ERRORS_TX channel.val
    ∧ (127 ≤ s.f Reg.CAN_ERRORS_RX channel.val → u.f Reg.CAN_STATUS_STATE channel.val = 3) ∧ u.now = max s.now t) ∧
  (∀ (s : State) (channel : Fin 4) (t : Nat), s.f Reg.CAN_STATUS_STATE channel.val = 2 ∨ s.f Reg.CAN_STATUS_STATE channel.val = 3 → s.f Reg.CAN_ERRORS_TX channel.val + 8 ≤ 255 → 
    Completes (.canError channel 2 t) s fun u => u.f Reg.CAN_ERRORS_TX channel.val = s.f Reg.CAN_ERRORS_TX channel.val + 8 ∧ u.now = max s.now t) ∧
  (∀ (s : State) (channel : Fin 4) (t : Nat), s.f Reg.CAN_STATUS_STATE channel.val = 2 ∨ s.f Reg.CAN_STATUS_STATE channel.val = 3 → 255 < s.f Reg.CAN_ERRORS_TX channel.val + 8 → 
    Completes (.canError channel 2 t) s fun u => (u.f Reg.CAN_STATUS_STATE channel.val = 4 ∨ u.f Reg.CAN_STATUS_STATE channel.val = 5) ∧ u.present Ev.BUS_OFF channel.val = true ∧ u.f Reg.CAN_COUNTERS channel.val 9 = s.plus Reg.CAN_COUNTERS channel.val 1 9) ∧
  (∀ (s : State) (r : Req) (channel : Nat) (t : Nat), s.serving t r (.command (.busRecover channel)) = true → channel < 4 → s.f Reg.CAN_STATUS_STATE channel = 4 → 
    Completes (.busRecover r channel t) s fun u => u.f Reg.CAN_STATUS_STATE channel = 5 ∧ u.fb Reg.CAN_STATUS_AUTO_SUSPENDED channel = false ∧ u.told r (.busRecover channel) = true) ∧
  (∀ (s : State) (r : Req) (channel : Nat) (t : Nat), s.serving t r (.command (.busRecover channel)) = true → channel < 4 → s.f Reg.CAN_STATUS_STATE channel ≠ 4 → 
    Completes (.busRecover r channel t) s fun u => u.f Reg.CAN_STATUS_STATE channel = s.f Reg.CAN_STATUS_STATE channel ∧ u.refusedCmd r (.busRecover channel) 8 1 = true) ∧
  (∀ (s : State) (channel : Fin 4) (t : Nat), s.f Reg.CAN_STATUS_STATE channel.val = 5 → 
    Completes (.busRecovered channel t) s fun u => u.f Reg.CAN_ERRORS_TX channel.val = 0 ∧ u.f Reg.CAN_ERRORS_RX channel.val = 0 ∧ u.present Ev.BUS_OFF channel.val = false
    ∧ u.f Reg.CAN_STATUS_STATE channel.val = (if s.fb Reg.CLK_STATUS_ON_BACKUP = true then 1 else 2) ∧ u.now = max s.now t)

/-- Frames of the events of CAN: each changes only the parts and the fields named for it here, beside internal quantities, windows and time. A received frame changes claims, queues, the FIFO with its holding slots and the words of CAN, beside a reaction; a lapse, an acknowledgement and a take the queue entries beside a report or a reply; the map service, for an entry that no map entry names, the queue and its counters; transmission the FIFO, what is held and kept, and the words of CAN; errors and recovery the words of CAN beside a reaction. -/
def Obligations.CanFrames : Prop :=
  (∀ (s : State) (channel : Fin 4) (frame : CanFrame) (t : Nat), Framed (.canFrameReceived channel frame t) s (Keeps (reactionComps ++ ([.canClaims, .canHold, .canRx, .canTx, .free] : List Comp)) (reactionFlds ++ canFlds))) ∧
  (∀ (s : State) (channel : Fin 4) (frame : CanFrame) (t : Nat), Framed (.claimReceived channel frame t) s (Keeps (reactionComps ++ ([.canClaims, .canHold, .canRx, .canTx, .free] : List Comp)) (reactionFlds ++ canFlds))) ∧
  (∀ (s : State) (channel : Fin 4) (queue : Fin 2) (slot : Fin 64), Framed (.ackLapsed channel queue slot) s (Keeps (reportComps ++ ([.canRx] : List Comp)) (reportFlds ++ ([one Reg.CAN_COUNTERS channel.val 4] : List Place)))) ∧
  (∀ (s : State) (r : Req) (channel : Fin 4) (value : Word) (t : Nat), Framed (.canAck r channel value t) s (Keeps (requestComps ++ ([.canRx] : List Comp)) requestFlds)) ∧
  (∀ (s : State) (r : Req) (words : Fin 20) (t : Nat), Framed (.canQueueTake r words t) s (Keeps (requestComps ++ ([.canRx] : List Comp)) requestFlds)) ∧
  (∀ (s : State) (t : Nat), Framed (.mapEntry t) s (fun a b => a.mapNext.any (fun e => e.ch < 4 && (a.rxEntry e.ch e.frame.key).isNone) = true → Keeps [.canRx] [⟨Reg.CAN_COUNTERS, 0, 4, 10, 1⟩, all Reg.CAN_STATUS_Q0_FILL 4, all Reg.CAN_STATUS_Q1_FILL 4, all Reg.CAN_STATUS_TX_FILL 4] a b)) ∧
  (∀ (s : State) (entry : Fin 64), Framed (.txPeriod entry) s (Keeps (reportComps ++ ([.canHold, .canLast, .canTx] : List Comp)) (reportFlds ++ ([⟨Reg.CAN_COUNTERS, 0, 256, 7, 2⟩, all Reg.CAN_STATUS_Q0_FILL 256, all Reg.CAN_STATUS_Q1_FILL 256, all Reg.CAN_STATUS_TX_FILL 256] : List Place)))) ∧
  (∀ (s : State) (entry : Fin 64), Framed (.txChangeCheck entry) s (Keeps (reportComps ++ ([.canHold, .canLast, .canTx] : List Comp)) (reportFlds ++ ([⟨Reg.CAN_COUNTERS, 0, 256, 7, 2⟩, all Reg.CAN_STATUS_Q0_FILL 256, all Reg.CAN_STATUS_Q1_FILL 256, all Reg.CAN_STATUS_TX_FILL 256] : List Place)))) ∧
  (∀ (s : State) (channel : Fin 4) (t : Nat), Framed (.canFrameSent channel t) s (fun a b => (∀ x ∈ a.canHold, x.ch < 256) → Keeps (reportComps ++ ([.canHold, .canTx, .out, .causes] : List Comp)) (reportFlds ++ canFlds ++ ([⟨Reg.CAN_COUNTERS, 0, 256, 7, 1⟩, all Reg.CAN_STATUS_Q0_FILL 256, all Reg.CAN_STATUS_Q1_FILL 256, all Reg.CAN_STATUS_TX_FILL 256] : List Place)) a b)) ∧
  (∀ (s : State) (channel : Fin 4) (kind : Fin 3) (t : Nat), Framed (.canError channel kind t) s (Keeps reactionComps (reactionFlds ++ canFlds))) ∧
  (∀ (s : State) (r : Req) (channel : Nat) (t : Nat), Framed (.busRecover r channel t) s (Keeps (requestComps ++ ([.causes] : List Comp)) (requestFlds ++ ([all Reg.CAN_STATUS_STATE 4, all Reg.CAN_STATUS_AUTO_SUSPENDED 4] : List Place)))) ∧
  (∀ (s : State) (channel : Fin 4) (t : Nat), Framed (.busRecovered channel t) s (Keeps reactionComps (reactionFlds ++ canFlds))) ∧
  (∀ (s : State) (channel : Fin 4), Framed (.addressClaimed channel) s (Keeps (reportComps ++ ([.causes] : List Comp)) (reportFlds ++ ([one Reg.CAN_ADDRESS channel.val, one Reg.CAN_STATUS_CLAIMED channel.val] : List Place))))

/-- Commands on the module's mode, the key and the log. On a request that nothing turns away: SHIP and SLEEP in READY, with every stage STOPPED, no key write and no RESTART decided, begin the entry; RESTART in READY and SERVICE with every stage idle, and in UNCONFIGURED on a request that is no repeat and carries and needs no authority, while pair S serves, is answered and awaits its begin; SERVICE_EXIT with no core halted returns to READY; LOG_READ answers the records asked for, a write of the cursor places it, and a read of the last window word moves it on. With an authority block on the requester's open challenge, CLEAR_LOG, SERVICE_ENTER and KEY_WRITE of the staged image's generation and CRC have their effect when its signature verifies and are refused AUTH_FAILED otherwise; for the first two the requester's challenges are then gone. -/
def Obligations.ModeCommands : Prop :=
  (∀ (s : State) (r : Req) (wake : Bool) (t : Nat), s.admits t r Reg.STATE_REQUEST_SHIP 0 0 1 = true → s.module = .ready → s.on .entering = false → s.on .restarting = false → s.allStopped = true → s.keyBusy = false → wake = false → 
    Completes (.shipRequest r wake t) s fun u => u.v .entering = 2 ∧ u.wrote r 0x11 0 = true ∧ u.module = .ready ∧ u.now = max s.now t) ∧
  (∀ (s : State) (r : Req) (t : Nat), s.admits t r Reg.STATE_REQUEST_SHIP 0 0 2 = true → s.module = .ready → s.on .entering = false → s.on .restarting = false → s.allStopped = true → s.keyBusy = false → 
    Completes (.sleepRequest r t) s fun u => u.v .entering = 1 ∧ u.wrote r 0x11 0 = true ∧ u.module = .ready ∧ u.now = max s.now t) ∧
  (∀ (s : State) (r : Req) (t : Nat), s.serving t r (.command .restart) = true → s.module = .ready ∨ s.module = .service → s.allIdle = true → s.keyBusy = false → s.on .restarting = false → s.on .entering = false → 
    Completes (.restart r t) s fun u => u.on .restarting = true ∧ u.isOpen .restartBy = true ∧ u.told r .restart = true ∧ u.now = max s.now t) ∧
  (∀ (s : State) (r : Req) (t : Nat), s.powered = true → s.on .dying = false → s.fb Reg.CLK_STATUS_ON_BACKUP = false → s.vRuns 0 = true → s.module = .unconfigured → s.keyBusy = false → s.on .restarting = false → s.on .entering = false → (s.arrive t).repeatOf r = none → r.auth = none → s.needsAuth (.command .restart) = false → s.f Reg.CORE_STATUS_S_STATE ≠ 1 → 
    Completes (.restart r t) s fun u => u.on .restarting = true ∧ u.isOpen .restartBy = true ∧ u.told r .restart = true) ∧
  (∀ (s : State) (r : Req) (t : Nat), s.serving t r (.command .serviceExit) = true → s.module = .service → s.allIdle = true → s.anyHalted = false → 
    Completes (.serviceExit r t) s fun u => u.module = .ready ∧ u.fb Reg.CORE_STATUS_DEBUG = false ∧ u.told r .serviceExit = true ∧ u.now = max s.now t) ∧
  (∀ (s : State) (r : Req) (debug : Bool) (t : Nat) (b : AuthBlock), s.servingAuth t r (.command (.serviceEnter debug)) b = true → s.module = .ready → s.allIdle = true → s.on .entering = false → 
    Completes (.serviceEnter r debug t) s fun u => (if s.signed (.command (.serviceEnter debug)) b = true then u.module = .service ∧ u.told r (.serviceEnter debug) = true ∧ (debug = true → u.fb Reg.CORE_STATUS_DEBUG = true)
      else u.module = .ready ∧ u.refusedCmd r (.serviceEnter debug) 7 = true) ∧ u.challenges = s.challenges.filter (fun k => k.who ≠ r.who) ∧ u.now = max s.now t) ∧
  (∀ (s : State) (r : Req) (t : Nat) (b : AuthBlock), s.servingAuth t r (.command .clearLog) b = true → s.operable = true → s.on .clearing = false → 
    Completes (.clearLog r t) s fun u => (if s.signed (.command .clearLog) b = true then u.on .clearing = true ∧ u.told r .clearLog (le 6 s.logNext ++ le 2 0) = true
      else u.on .clearing = false ∧ u.refusedCmd r .clearLog 7 = true) ∧ u.log.base = s.log.base ∧ u.log.recs = s.log.recs ∧ u.challenges = s.challenges.filter (fun k => k.who ≠ r.who) ∧ u.now = max s.now t) ∧
  (∀ (s : State) (r : Req) (generation crc : Nat) (t : Nat) (b : AuthBlock), s.servingAuth t r (.command (.keyWrite generation crc)) b = true → s.module = .ready ∨ s.module = .service → s.on .entering = false → s.keyBusy = false → 
    Completes (.keyWrite r generation crc t) s fun u => (if s.signed (.command (.keyWrite generation crc)) b = false then u.refusedCmd r (.keyWrite generation crc) 7 = true ∧ u.v .onKeyStage = s.v .onKeyStage
      else if hdrGeneration (s.stagedBytes 512) = generation ∧ hdrCrc (s.stagedBytes 512) = crc then
        u.told r (.keyWrite generation crc) = true ∧ u.f Reg.START_KEY_WRITE_STATUS_TARGET = s.otherSlot ∧ u.f Reg.START_KEY_WRITE_STATUS_STATE = 1
        ∧ u.f Reg.START_KEY_WRITE_STATUS_FAIL = 0 ∧ u.f Reg.START_KEY_WRITE_STATUS_PROGRESS = 0
      else u.refusedCmd r (.keyWrite generation crc) 4 = true ∧ u.f Reg.START_KEY_WRITE_STATUS_STATE = s.f Reg.START_KEY_WRITE_STATUS_STATE) ∧ u.now = max s.now t) ∧
  (∀ (s : State) (r : Req) (start count : Nat) (t : Nat), s.serving t r (.command (.logRead start count)) = true → 
    Completes (.logRead r start count t) s fun u => u.told r (.logRead start count) (s.logRead start count) = true ∧ u.log.base = s.log.base ∧ u.log.recs = s.log.recs ∧ u.now = max s.now t) ∧
  (∀ (s : State) (r : Req) (value : Word) (t : Nat), s.admits t r Reg.LOG_CURSOR_OFFSET 0 0 value = true → 
    Completes (.cursorWrite r value t) s fun u => u.f Reg.LOG_CURSOR_OFFSET = value.toNat % 2 ^ 14 ∧ u.wrote r 0x1B08 0 = true ∧ u.now = max s.now t) ∧
  (∀ (s : State) (r : Req) (t : Nat), s.serving t r (.read [(0x1B09, 7)]) = true → 
    Completes (.windowRead r t) s fun u => u.f Reg.LOG_CURSOR_OFFSET = min 8192 (s.f Reg.LOG_CURSOR_OFFSET + 1) ∧ u.f Reg.SVC_COUNTERS 0 = s.plus Reg.SVC_COUNTERS 0
    ∧ Out.reply r.who r.trans { service := 1, status := 0, payload := le 1 1 ++ le 1 0 ++ (le 2 0x1B09 ++ le 1 7 ++ le 1 0 ++ le 4 (s.windowWord 7)) } ∈ u.out ∧ u.now = max s.now t)

/-- Commands on stages, slots and engines. On a request that nothing turns away, for one used stage on which no higher-ranked event of the LOOP cycle has acted: ARM of a STOPPED stage whose conditions hold, with no RESTART decided, makes it ARMED, or makes it wait while its group's test is due; RUN of an ARMED stage makes it RUNNING, or HOLD with a cause of HOLD recorded; STOP makes a RUNNING stage STOPPED or begins its stop sequence, makes an ARMED one STOPPED, and is stored by one in HOLD, but acts on one that has entered HOLD in this LOOP cycle as on a RUNNING one; each is answered with the result of every stage. ARM with a mask of 0 or above 127 changes no stage and counts a refusal. OPEN_LOOP puts a slot into MANUAL with its last outputs, CLOSE_LOOP into AUTO, SWITCH_BACK begins the copy to the other engine. THERMAL_RELEASE clears the shutdowns whose temperature is below their release; CHARGE_START and CHARGE_STOP begin and end a charge; BRAKE_TEST begins a test; SPLIT_V and JOIN_V begin their hand-over. -/
def Obligations.StageCommands : Prop :=
  (∀ (s : State) (r : Req) (mask : Nat) (higher : List Stage) (t : Nat) (x : Stage), mask = 2 ^ x.idx → s.serving t r (.command (.arm mask higher)) = true → s.operable = true → s.stageUsed x = true → higher = [] → s.on .restarting = false → 7 ≤ (s.arrive t).rankNow x → s.st x = .stopped → s.armBar x = none → 
    Completes (.arm r mask higher t) s fun u => (if (s.arrive t).testOld x.group = true then u.on .armWait x.idx = true ∧ u.st x = .stopped else u.st x = .armed ∧ u.on .armWait x.idx = false)
    ∧ u.told r (.arm mask higher) (Stage.all.flatMap (fun y => if y = x then [0] else [255])) = true ∧ u.now = max s.now t) ∧
  (∀ (s : State) (r : Req) (mask : Nat) (higher : List Stage) (t : Nat) (x : Stage), mask = 2 ^ x.idx → s.serving t r (.command (.run mask higher)) = true → s.operable = true → s.stageUsed x = true → higher = [] → 6 ≤ (s.arrive t).rankNow x → s.st x = .armed → s.armBar x = none → 
    Completes (.run r mask higher t) s fun u => u.st x = (if (s.stg x).holds = [] then .running else .hold) ∧ u.told r (.run mask higher) (Stage.all.flatMap (fun y => if y = x then [0] else [255])) = true ∧ u.now = max s.now t) ∧
  (∀ (s : State) (r : Req) (mask : Nat) (higher : List Stage) (t : Nat) (x : Stage), mask = 2 ^ x.idx → s.serving t r (.command (.stop mask higher)) = true → s.stageUsed x = true → higher = [] → 4 ≤ (s.arrive t).rankNow x → s.st x = .running → 
    Completes (.stop r mask higher t) s fun u => (u.st x = .stopped ∨ (u.stg x).stopping = true) ∧ u.told r (.stop mask higher) (Stage.all.flatMap (fun y => if y = x then [0] else [255])) = true ∧ u.now = max s.now t) ∧
  (∀ (s : State) (r : Req) (mask : Nat) (higher : List Stage) (t : Nat) (x : Stage), mask = 2 ^ x.idx → s.serving t r (.command (.stop mask higher)) = true → s.stageUsed x = true → higher = [] → 4 ≤ (s.arrive t).rankNow x → s.st x = .armed → 
    Completes (.stop r mask higher t) s fun u => u.st x = .stopped ∧ u.told r (.stop mask higher) (Stage.all.flatMap (fun y => if y = x then [0] else [255])) = true) ∧
  (∀ (s : State) (r : Req) (mask : Nat) (higher : List Stage) (t : Nat) (x : Stage), mask = 2 ^ x.idx → s.serving t r (.command (.stop mask higher)) = true → s.stageUsed x = true → higher = [] → 4 ≤ (s.arrive t).rankNow x → (s.arrive t).rankNow x ≠ 5 → s.st x = .hold → 
    Completes (.stop r mask higher t) s fun u => u.st x = .hold ∧ (u.stg x).storedStop = true ∧ u.told r (.stop mask higher) (Stage.all.flatMap (fun y => if y = x then [0] else [255])) = true) ∧
  (∀ (s : State) (r : Req) (mask : Nat) (higher : List Stage) (t : Nat), s.serving t r (.command (.arm mask higher)) = true → mask = 0 ∨ 128 ≤ mask → 
    Completes (.arm r mask higher t) s fun u => u.stages = s.stages ∧ u.f Reg.SVC_COUNTERS 4 = s.plus Reg.SVC_COUNTERS 4) ∧
  (∀ (s : State) (r : Req) (slot : Nat) (t : Nat), s.serving t r (.command (.openLoop slot)) = true → slot < 48 → s.f Reg.SLOT_TYPE_TYPE slot ≠ 0 → s.st (s.slotStage slot) ≠ .hold → 
    Completes (.openLoop r slot t) s fun u => u.fb Reg.SLOT_MODE_MODE slot = false ∧ u.fb Reg.SLOT_STATUS_AUTO slot = false ∧ (∀ k ∈ List.range 4, u.word (Reg.SLOT_MODE_MAN_OUT.key slot k) = BitVec.ofInt 32 (s.v .slotRaw (slot * 8 + k)))
    ∧ u.told r (.openLoop slot) = true ∧ u.now = max s.now t) ∧
  (∀ (s : State) (r : Req) (slot : Nat) (t : Nat), s.serving t r (.command (.closeLoop slot)) = true → slot < 48 → s.f Reg.SLOT_TYPE_TYPE slot ≠ 0 → s.closeRefusal slot = none → 
    Completes (.closeLoop r slot t) s fun u => u.fb Reg.SLOT_MODE_MODE slot = true ∧ u.fb Reg.SLOT_STATUS_AUTO slot = true ∧ u.told r (.closeLoop slot) = true ∧ u.now = max s.now t
    ∧ (s.fb Reg.SLOT_MODE_MODE slot = false → u.on .slotPreset slot = true)) ∧
  (∀ (s : State) (r : Req) (t : Nat), s.serving t r (.command .switchBack) = true → s.operable = true → s.fb Reg.FO_STATUS_SWITCHING = false → s.engState (1 - s.owner) = 3 → (∀ x ∈ Stage.all, s.st x ≠ .hold) → 
    Completes (.switchBack r t) s fun u => u.fb Reg.FO_STATUS_SWITCHING = true ∧ u.engState (1 - s.owner) = 4 ∧ u.isOpen .syncCopy = true ∧ u.told r .switchBack = true ∧ u.now = max s.now t) ∧
  (∀ (s : State) (r : Req) (t : Nat), s.serving t r (.command .thermalRelease) = true → 
    Completes (.thermalRelease r t) s fun u => u.told r .thermalRelease (le 8 u.thermalMask) = true ∧ u.now = max s.now t
    ∧ (∀ n ∈ List.range 52, u.fb Reg.TH_S_STATUS_SHUT n = (s.fb Reg.TH_S_STATUS_SHUT n && !(Decidable.decide (s.fi Reg.TH_S_VALUE_EFF n < s.fi Reg.TH_S_SHUT_RELEASE n))))) ∧
  (∀ (s : State) (r : Req) (t : Nat), s.serving t r (.command .chargeStart) = true → (s.arrive t).chargeRefusal = none → 
    Completes (.chargeStart r t) s fun u => u.f Reg.CHG_COUNTERS 4 = s.plus Reg.CHG_COUNTERS 4 ∧ u.f Reg.CHG_STATUS_CHG_STATE = 1 ∧ u.f Reg.CHG_STATUS_LAST_END = s.f Reg.CHG_STATUS_LAST_END ∧ u.told r .chargeStart = true ∧ u.now = max s.now t) ∧
  (∀ (s : State) (r : Req) (t : Nat), s.serving t r (.command .chargeStop) = true → s.f Reg.CHG_STATUS_CHG_STATE = 0 → 
    Completes (.chargeStop r t) s fun u => u.f Reg.CHG_STATUS_CHG_STATE = 0 ∧ u.told r .chargeStop = true ∧ u.now = max s.now t) ∧
  (∀ (s : State) (r : Req) (t : Nat), s.serving t r (.command .chargeStop) = true → s.f Reg.CHG_STATUS_CHG_STATE ≠ 0 → 
    Completes (.chargeStop r t) s fun u => u.f Reg.CHG_STATUS_CHG_STATE = 0 ∧ u.told r .chargeStop = true) ∧
  (∀ (s : State) (r : Req) (brake : Nat) (t : Nat), s.serving t r (.command (.brakeTest brake)) = true → brake < 2 → (s.arrive t).brakeTestBar brake = none → 
    Completes (.brakeTest r brake t) s fun u => u.f Reg.SAFE_BRK_STATUS_TEST brake = 1 ∧ u.fb Reg.SAFE_STATUS_BT_RUN = true ∧ u.isOpen .brakeTest brake = true ∧ u.told r (.brakeTest brake) = true ∧ u.now = max s.now t) ∧
  (∀ (s : State) (r : Req) (t : Nat), s.serving t r (.command .splitV) = true → s.f Reg.CORE_STATUS_V_MODE ≠ 2 → s.splitBar 0 = none → 
    Completes (.splitV r t) s fun u => u.handCmd = some (r, .command .splitV) ∧ u.f Reg.CORE_STATUS_V0_STATE = 3 ∧ u.now = max s.now t) ∧
  (∀ (s : State) (r : Req) (t : Nat), s.serving t r (.command .joinV) = true → s.f Reg.CORE_STATUS_V_MODE ≠ 2 → s.splitBar 1 = none → 
    Completes (.joinV r t) s fun u => u.handCmd = some (r, .command .joinV) ∧ u.f Reg.CORE_STATUS_V0_STATE = 3 ∧ u.f Reg.CORE_STATUS_V1_STATE = 3 ∧ u.now = max s.now t) ∧
  (∀ (s : State) (r : Req) (mask : Nat) (higher : List Stage) (t : Nat) (x : Stage), mask = 2 ^ x.idx → s.serving t r (.command (.stop mask higher)) = true → s.stageUsed x = true → higher = [] → (s.arrive t).rankNow x = 5 → s.st x = .hold → 
    Completes (.stop r mask higher t) s fun u => (u.st x = .stopped ∨ (u.stg x).stopping = true) ∧ u.told r (.stop mask higher) (Stage.all.flatMap (fun y => if y = x then [0] else [255])) = true ∧ u.now = max s.now t)

/-- Writes of hosts. On a write that nothing turns away and that its class and its fields allow: SETPOINT takes its value, unless the charger owns it, which refuses, or the park rule stands against it; CTRL with COMMIT, of a leg whose owner is the host, marks the leg and opens its commit; PERIOD takes an admissible value and keeps its own otherwise; VALUE takes its value; CFG takes its mode and disarms the compare; BRK_CMD and CDR_CMD take the command, but a close that is barred; BUF CONTROL freezes and unfreezes; a window's CONTROL is kept for its requester; a staging word takes its four bytes; and a word to which no chapter gives another effect holds what the write stores, while one that is refused stays, with the request counted as served. -/
def Obligations.HostWrites : Prop :=
  (∀ (s : State) (r : Req) (slot : Fin 48) (sub : Fin 2) (value : Word) (t : Nat), s.admits t r Reg.SLOT_SETPOINT slot.val sub.val value = true → s.f Reg.SLOT_TYPE_TYPE slot.val ≠ 8 → sub = 1 ∨ s.parkRefused slot.val value.toInt = none → 
    Completes (.setpointWrite r slot sub value t) s fun u => u.word (Reg.SLOT_SETPOINT.key slot.val sub.val) = value ∧ u.wrote r (Reg.SLOT_SETPOINT.key slot.val sub.val / 256) sub.val = true ∧ u.now = max s.now t) ∧
  (∀ (s : State) (r : Req) (slot : Fin 48) (sub : Fin 2) (value : Word) (t : Nat), s.admits t r Reg.SLOT_SETPOINT slot.val sub.val value = true → s.f Reg.SLOT_TYPE_TYPE slot.val = 8 → 
    Completes (.setpointWrite r slot sub value t) s fun u => u.word (Reg.SLOT_SETPOINT.key slot.val sub.val) = s.word (Reg.SLOT_SETPOINT.key slot.val sub.val) ∧ u.f Reg.SVC_COUNTERS 5 = s.plus Reg.SVC_COUNTERS 5) ∧
  (∀ (s : State) (r : Req) (leg : Fin 32) (value : Word) (t : Nat), s.admits t r Reg.LEG_CTRL_FORCE leg.val 0 value = true → s.f Reg.LEG_STATUS_OWNER leg.val = 0 → value.getLsbD 2 = true → 
    Completes (.hostCommit r leg value t) s fun u => u.fb Reg.LEG_CTRL_COMMIT leg.val = true ∧ u.f Reg.LEG_CTRL_FORCE leg.val = value.toNat % 4 ∧ u.endOf .commit leg.val = commonEdge (max s.now t) ∧ u.now = max s.now t) ∧
  (∀ (s : State) (r : Req) (stage : Stage) (value : Word) (t : Nat), s.admits t r Reg.PULSE_PERIOD stage.idx 0 value = true → (s.arrive t).periodOk stage value.toNat = true → ((s.arrive t).setF Reg.PULSE_PERIOD stage.idx value.toNat).budgetOk = true → 
    Completes (.periodWrite r stage value t) s fun u => u.f Reg.PULSE_PERIOD stage.idx = value.toNat % 2 ^ 24 ∧ u.wrote r (Reg.PULSE_PERIOD.key stage.idx / 256) 0 = true ∧ u.now = max s.now t) ∧
  (∀ (s : State) (r : Req) (stage : Stage) (value : Word) (t : Nat), s.admits t r Reg.PULSE_PERIOD stage.idx 0 value = true → (s.arrive t).periodOk stage value.toNat = false → 
    Completes (.periodWrite r stage value t) s fun u => u.f Reg.PULSE_PERIOD stage.idx = s.f Reg.PULSE_PERIOD stage.idx ∧ u.f Reg.SVC_COUNTERS 4 = s.plus Reg.SVC_COUNTERS 4) ∧
  (∀ (s : State) (r : Req) (actuator : Fin 2) (compare : Fin 4) (value : Word) (t : Nat), s.admits t r Reg.ACT_CMP_VALUE actuator.val compare.val value = true → 
    Completes (.compareWrite r actuator compare value t) s fun u => u.word (Reg.ACT_CMP_VALUE.key actuator.val compare.val) = value ∧ u.wrote r (Reg.ACT_CMP_VALUE.key actuator.val compare.val / 256) (Reg.ACT_CMP_VALUE.key actuator.val compare.val % 256) = true ∧ u.now = max s.now t) ∧
  (∀ (s : State) (r : Req) (actuator : Fin 2) (compare : Fin 4) (value : Word) (t : Nat), s.admits t r Reg.ACT_CMP_MODE actuator.val compare.val value = true → 
    Completes (.compareCfgWrite r actuator compare value t) s fun u => u.f Reg.ACT_CMP_MODE actuator.val compare.val = value.toNat % 4 ∧ u.fb Reg.ACT_CMP_ARMED actuator.val compare.val = false ∧ u.fb Reg.ACT_CMP_EITHER actuator.val compare.val = false ∧ u.now = max s.now t) ∧
  (∀ (s : State) (r : Req) (value : Word) (t : Nat), s.admits t r Reg.SAFE_BRK_CMD 0 0 value = true → s.brakeCmdBar value.toNat = false → 
    Completes (.brakeCommandWrite r value t) s fun u => u.f Reg.SAFE_BRK_CMD = value.toNat % 4 ∧ u.wrote r (Reg.SAFE_BRK_CMD.key 0 / 256) 0 = true ∧ u.now = max s.now t) ∧
  (∀ (s : State) (r : Req) (value : Word) (t : Nat), s.admits t r Reg.SAFE_CDR_CMD 0 0 value = true → s.closeBarred value.toNat = false → 
    Completes (.contactorCommandWrite r value t) s fun u => u.f Reg.SAFE_CDR_CMD = value.toNat % 64 ∧ u.wrote r (Reg.SAFE_CDR_CMD.key 0 / 256) 0 = true ∧ u.now = max s.now t) ∧
  (∀ (s : State) (r : Req) (value : Word) (t : Nat), s.admits t r Reg.SAFE_CDR_CMD 0 0 value = true → s.closeBarred value.toNat = true → 
    Completes (.contactorCommandWrite r value t) s fun u => u.f Reg.SAFE_CDR_CMD = s.f Reg.SAFE_CDR_CMD ∧ u.f Reg.SAFE_COUNTERS 7 = s.plus Reg.SAFE_COUNTERS 7 ∧ u.f Reg.SVC_COUNTERS 8 = s.plus Reg.SVC_COUNTERS 8) ∧
  (∀ (s : State) (r : Req) (buffer : Fin 64) (value : Word) (t : Nat), s.admits t r Reg.SMP_BUF_CONTROL_FREEZE buffer.val 0 value = true → 
    Completes (.bufferFreezeWrite r buffer value t) s fun u => u.fb Reg.SMP_BUF_CONTROL_FROZEN buffer.val = value.getLsbD 0 ∧ u.fb Reg.SMP_BUF_CONTROL_FREEZE buffer.val = value.getLsbD 0 ∧ u.f Reg.SMP_BUF_CONTROL_POST buffer.val = value.toNat / 65536
    ∧ (value.getLsbD 0 = false → u.present Ev.BUFFER_FROZEN buffer.val = false) ∧ u.now = max s.now t) ∧
  (∀ (s : State) (r : Req) (window : Fin 5) (value : Word) (t : Nat), s.serving t r (.write [{ index := 0x8000 + 256 * window.val, sub := 0, value := value }] [] []) = true → s.operable = true → selectOk window.val (value.toNat / 2 ^ 24) = true → s.winSize r.who window.val (value.toNat / 2 ^ 24) = 0 ∨ value.toNat % 2 ^ 24 < s.winSize r.who window.val (value.toNat / 2 ^ 24) → s.kept.length < 64 → 
    Completes (.windowControlWrite r window value t) s fun u => u.winControl r.who window.val = value.toNat ∧ u.wrote r (0x8000 + 256 * window.val) 0 = true ∧ u.now = max s.now t) ∧
  (∀ (s : State) (r : Req) (word : Fin 64) (value : Word) (t : Nat), s.serving t r (.write [{ index := 0x8300, sub := 16 + word.val, value := value }] [] []) = true → s.module = .ready ∨ s.module = .service → s.on .entering = false → s.keyBusy = false → s.winControl r.who 3 % 2 ^ 24 + word.val < 262144 → 
    Completes (.stagingWrite r word value t) s fun u => (∀ b ∈ List.range 4, Store.get State.ramReset u.staging (4 * (s.winControl r.who 3 % 2 ^ 24 + word.val) + b) = (le 4 value.toNat).getD b 0) ∧ u.wrote r 0x8300 (16 + word.val) = true ∧ u.now = max s.now t) ∧
  (∀ (s : State) (r : Req) (e : WEntry) (t : Nat), s.serving t r (.write [e] [] []) = true → e.index < 0x2000 → e.sub < 256 → plainWord (keyOf e.index e.sub) = true → s.refuses t r e = none → 
    Completes (.write r [e] [] [] t) s fun u => u.word (keyOf e.index e.sub) = BitVec.ofNat 32 (match Map.word (keyOf e.index e.sub) with | some w => storeWord w (s.word (keyOf e.index e.sub)).toNat e.value.toNat | none => 0)
    ∧ u.wrote r e.index e.sub = true ∧ u.now = max s.now t) ∧
  (∀ (s : State) (r : Req) (e : WEntry) (t : Nat) (d : Fin 16), s.serving t r (.write [e] [] []) = true → e.index < 0x2000 → e.sub < 256 → s.refuses t r e = some d.val → 
    Completes (.write r [e] [] [] t) s fun u => u.word (keyOf e.index e.sub) = s.word (keyOf e.index e.sub) ∧ u.f Reg.SVC_COUNTERS 0 = s.plus Reg.SVC_COUNTERS 0)

/-- Reads, SUMMARY, challenges and the windows of the service layer. On a request that nothing turns away, a READ of one parameter word answers its value at that instant, and of one that does not exist NO_PARAMETER; SUMMARY answers its 1,024 bytes; CHALLENGE gives the requester one new challenge for 10 s, or BUSY in a lockout that has not ended. A request that J1 repeats within the window of replies gets the kept reply and nothing else. A challenge, a lockout, the window of failures and the hold time of ATTN end at their instants. A service frame for the module that is segmented is answered SEGMENT_ERROR; one that asks for a challenge is served. -/
def Obligations.ServiceEvents : Prop :=
  (∀ (s : State) (r : Req) (e : Nat × Nat) (t : Nat), s.serving t r (.read [e]) = true → e.1 < 0x2000 → e.2 < 256 → (Map.word (keyOf e.1 e.2)).isSome = true → e ≠ (0x1B09, 7) → 
    Completes (.read r [e] t) s fun u => Out.reply r.who r.trans { service := 1, status := 0, payload := le 1 1 ++ le 1 0 ++ (le 2 e.1 ++ le 1 e.2 ++ le 1 0 ++ le 4 ((s.arrive t).live.word (keyOf e.1 e.2)).toNat) } ∈ u.out
    ∧ u.f Reg.SVC_COUNTERS 0 = s.plus Reg.SVC_COUNTERS 0 ∧ u.now = max s.now t) ∧
  (∀ (s : State) (r : Req) (e : Nat × Nat) (t : Nat), s.serving t r (.read [e]) = true → e.1 < 0x2000 → e.2 < 256 → (Map.word (keyOf e.1 e.2)).isNone = true → 
    Completes (.read r [e] t) s fun u => Out.reply r.who r.trans { service := 1, status := 0, payload := le 1 1 ++ le 1 0 ++ (le 2 e.1 ++ le 1 e.2 ++ le 1 1 ++ le 4 0) } ∈ u.out
    ∧ u.f Reg.SVC_COUNTERS 1 = s.plus Reg.SVC_COUNTERS 1) ∧
  (∀ (s : State) (r : Req) (t : Nat), s.serving t r (.command .summary) = true → 
    Completes (.summary r t) s fun u => u.told r .summary ((s.arrive t).summary) = true ∧ (s.arrive t).summary.length = 1024 ∧ u.now = max s.now t) ∧
  (∀ (s : State) (r : Req) (t : Nat), s.serving t r .challenge = true → s.fb Reg.SVC_STATUS_LOCKOUT = false → 
    Completes (.challenge r t) s fun u => u.challenges.any (fun k => k.who == r.who && k.value == Config.random (s.vn .challengeNo) && k.ends == max s.now t / 3000 * 3000 + sec 10) = true
    ∧ (u.challenges.filter (fun k => k.who = r.who)).length = 1 ∧ Out.reply r.who r.trans { service := 4, status := 0, payload := le 16 (Config.random (s.vn .challengeNo)).toNat } ∈ u.out ∧ u.now = max s.now t) ∧
  (∀ (s : State) (r : Req) (t : Nat), s.serving t r .challenge = true → s.fb Reg.SVC_STATUS_LOCKOUT = true → (s.arrive t).ended Clk.slow .lockout = false → 
    Completes (.challenge r t) s fun u => u.challenges = s.challenges ∧ Out.reply r.who r.trans { service := 4, status := 3, payload := [] } ∈ u.out) ∧
  (∀ (s : State) (r : Req) (t : Nat), s.powered = true → s.on .dying = false → s.fb Reg.CLK_STATUS_ON_BACKUP = false → s.vRuns 0 = true → 5 ≤ s.module.code → r.who = .j1 → ((s.arrive t).repeatOf r).isSome = true → 
    Completes (.challenge r t) s fun u => u.challenges = s.challenges ∧ u.kept = s.kept ∧ u.out = s.out ++ (((s.arrive t).repeatOf r).toList.map (fun x => Out.reply r.who r.trans x))) ∧
  (∀ (s : State) (who : Requester), s.challenges.any (fun k => k.who == who) = true → 
    Completes (.challengeExpiry who) s fun u => u.challenges = s.challenges.filter (fun k => k.who ≠ who) ∧ u.f Reg.SVC_STATUS_OPEN = u.challenges.length % 2 ^ Reg.SVC_STATUS_OPEN.width ∧ s.now ≤ u.now) ∧
  (∀ (s : State), s.isOpen .lockout = true → 
    Completes (.lockoutEnd) s fun u => u.fb Reg.SVC_STATUS_LOCKOUT = false ∧ u.isOpen .lockout = false ∧ u.now = max s.now (s.endOf .lockout)) ∧
  (∀ (s : State), s.isOpen .authFail = true → 
    Completes (.authFailWindowEnd) s fun u => u.f Reg.SVC_STATUS_FAILS = 0 ∧ u.isOpen .authFail = false ∧ u.now = max s.now (s.endOf .authFail)) ∧
  (∀ (s : State), s.isOpen .attnHold = true → 
    Completes (.attnRelease) s fun u => s.now ≤ u.now ∧ s.endOf .attnHold ≤ u.now) ∧
  (∀ (s : State) (port : Fin 4) (frame : Frame) (t : Nat), s.takes port frame = true → frame.kind = 7 → frame.flags = 0 → s.on .imageApplied = true → s.address < 0x200 → frame.dst = s.address → frame.src ≠ s.address → frame.src < 0x3FE → (s.arrive t).classOf frame.src 7 frame.seq = 0 → numAt frame.body 3 1 ≠ 0 → 
    Completes (.serviceReq port frame t) s fun u => Out.reply (.fab frame.src) (numAt frame.body 0 2) { service := numAt frame.body 2 1, status := 5, payload := [] } ∈ u.out ∧ u.now = max s.now t) ∧
  (∀ (s : State) (port : Fin 4) (frame : Frame) (t : Nat), s.takes port frame = true → frame.kind = 7 → frame.flags = 0 → s.on .imageApplied = true → s.address < 0x200 → frame.dst = s.address → frame.src ≠ s.address → frame.src < 0x3FE → (s.arrive t).classOf frame.src 7 frame.seq = 0 → numAt frame.body 3 1 = 0 → numAt frame.body 4 4 = 0 → numAt frame.body 8 8 = 0 → frame.body.length = 16 → numAt frame.body 2 1 = 4 → s.serving t { who := .fab frame.src, trans := numAt frame.body 0 2, auth := none } .challenge = true → s.fb Reg.SVC_STATUS_LOCKOUT = false → 
    Completes (.serviceReq port frame t) s fun u => Out.reply (.fab frame.src) (numAt frame.body 0 2) { service := 4, status := 0, payload := le 16 (Config.random (s.vn .challengeNo)).toNat } ∈ u.out
    ∧ u.f Reg.SVC_COUNTERS 0 = s.plus Reg.SVC_COUNTERS 0 ∧ u.challenges.any (fun k => k.who == .fab frame.src) = true ∧ u.now = max s.now t)

/-- What requests leave unchanged. Whatever comes of one (served, refused, held, moved, dropped or repeated), it changes no more than the parts and the fields named for it here, beside internal quantities, windows and time: reports, replies and their counters, the requests that wait and challenges, and beside that a READ the queue entries and the cursor, a command what is named for its unit, a reaction where its effect can bring one, and a write of a plain word that word; a window's or a challenge's end only its own word. -/
def Obligations.ServiceFrames : Prop :=
  (∀ (s : State) (r : Req) (entries : List (Nat × Nat)) (t : Nat), Framed (.read r entries t) s (Keeps (requestComps ++ ([.canRx] : List Comp)) (requestFlds ++ ([one Reg.LOG_CURSOR_OFFSET] : List Place)))) ∧
  (∀ (s : State) (r : Req) (e : WEntry) (leaving : List Stage) (closing : List Nat) (t : Nat), Framed (.write r [e] leaving closing t) s (fun a b => plainWord (keyOf e.index e.sub) = true → e.index < 0x2000 → Keeps requestComps (requestFlds ++ ([wordAt (keyOf e.index e.sub)] : List Place)) a b)) ∧
  (∀ (s : State) (r : Req) (t : Nat), Framed (.summary r t) s (Keeps requestComps requestFlds)) ∧
  (∀ (s : State) (r : Req) (t : Nat), Framed (.challenge r t) s (Keeps requestComps requestFlds)) ∧
  (∀ (s : State) (r : Req) (start count : Nat) (t : Nat), Framed (.logRead r start count t) s (Keeps requestComps requestFlds)) ∧
  (∀ (s : State) (r : Req) (t : Nat), Framed (.clearLog r t) s (Keeps requestComps requestFlds)) ∧
  (∀ (s : State) (r : Req) (t : Nat), Framed (.restart r t) s (Keeps requestComps requestFlds)) ∧
  (∀ (s : State) (r : Req) (wake : Bool) (t : Nat), Framed (.shipRequest r wake t) s (Keeps requestComps requestFlds)) ∧
  (∀ (s : State) (r : Req) (t : Nat), Framed (.sleepRequest r t) s (Keeps requestComps requestFlds)) ∧
  (∀ (s : State) (r : Req) (debug : Bool) (t : Nat), Framed (.serviceEnter r debug t) s (Keeps (requestComps ++ ([.module, .causes] : List Comp)) (requestFlds ++ ([one Reg.CORE_STATUS_DEBUG] : List Place)))) ∧
  (∀ (s : State) (r : Req) (t : Nat), Framed (.serviceExit r t) s (Keeps (requestComps ++ ([.module, .causes] : List Comp)) (requestFlds ++ ([one Reg.CORE_STATUS_DEBUG] : List Place)))) ∧
  (∀ (s : State) (r : Req) (generation crc : Nat) (t : Nat), Framed (.keyWrite r generation crc t) s (Keeps requestComps (requestFlds ++ ([one Reg.START_KEY_WRITE_STATUS_FAIL, one Reg.START_KEY_WRITE_STATUS_PROGRESS, one Reg.START_KEY_WRITE_STATUS_STATE, one Reg.START_KEY_WRITE_STATUS_TARGET] : List Place)))) ∧
  (∀ (s : State) (r : Req) (value : Word) (t : Nat), Framed (.cursorWrite r value t) s (Keeps requestComps (requestFlds ++ ([one Reg.LOG_CURSOR_OFFSET] : List Place)))) ∧
  (∀ (s : State) (r : Req) (t : Nat), Framed (.windowRead r t) s (Keeps requestComps (requestFlds ++ ([one Reg.LOG_CURSOR_OFFSET] : List Place)))) ∧
  (∀ (s : State) (r : Req) (mask : Nat) (higher : List Stage) (t : Nat), Framed (.arm r mask higher t) s (Keeps (requestComps ++ reactionComps) (requestFlds ++ reactionFlds ++ armFlds ++ ([all Reg.SLOT_OUT 48 4] : List Place)))) ∧
  (∀ (s : State) (r : Req) (mask : Nat) (higher : List Stage) (t : Nat), Framed (.run r mask higher t) s (Keeps (requestComps ++ reactionComps) (requestFlds ++ reactionFlds))) ∧
  (∀ (s : State) (r : Req) (mask : Nat) (higher : List Stage) (t : Nat), Framed (.stop r mask higher t) s (Keeps (requestComps ++ reactionComps) (requestFlds ++ reactionFlds ++ ([all Reg.LEG_CTRL_COMMIT 32, all Reg.LEG_CTRL_FORCE 32] : List Place)))) ∧
  (∀ (s : State) (r : Req) (slot : Nat) (t : Nat), Framed (.openLoop r slot t) s (Keeps requestComps (requestFlds ++ ([⟨Reg.SLOT_MODE_MAN_OUT, slot, 1, 0, 4⟩, one Reg.SLOT_MODE_MODE slot, one Reg.SLOT_STATUS_AUTO slot] : List Place)))) ∧
  (∀ (s : State) (r : Req) (slot : Nat) (t : Nat), Framed (.closeLoop r slot t) s (Keeps requestComps (requestFlds ++ ([one Reg.SLOT_MODE_MODE slot, one Reg.SLOT_STATUS_AUTO slot] : List Place)))) ∧
  (∀ (s : State) (r : Req) (t : Nat), Framed (.switchBack r t) s (Keeps requestComps (requestFlds ++ foFlds))) ∧
  (∀ (s : State) (r : Req) (t : Nat), Framed (.thermalRelease r t) s (Keeps (requestComps ++ reactionComps ++ ([.causes, .stages, .deferred] : List Comp)) (requestFlds ++ reactionFlds ++ ([all Reg.TH_S_STATUS_SHUT 52] : List Place)))) ∧
  (∀ (s : State) (r : Req) (t : Nat), Framed (.chargeStart r t) s (Keeps (requestComps ++ ([.causes] : List Comp)) (requestFlds ++ chargerFlds ++ ([all Reg.SLOT_SETPOINT 64 2] : List Place)))) ∧
  (∀ (s : State) (r : Req) (t : Nat), Framed (.chargeStop r t) s (Keeps (requestComps ++ reactionComps) (requestFlds ++ reactionFlds ++ chargerFlds))) ∧
  (∀ (s : State) (r : Req) (brake : Nat) (t : Nat), Framed (.brakeTest r brake t) s (Keeps requestComps (requestFlds ++ ([one Reg.SAFE_BRK_STATUS_TEST brake, one Reg.SAFE_STATUS_BT_RUN, one Reg.SAFE_BRK_RESULT brake] : List Place)))) ∧
  (∀ (s : State) (r : Req) (t : Nat), Framed (.splitV r t) s (Keeps requestComps (requestFlds ++ ([one Reg.CORE_STATUS_V0_STATE] : List Place)))) ∧
  (∀ (s : State) (r : Req) (t : Nat), Framed (.joinV r t) s (Keeps requestComps (requestFlds ++ ([one Reg.CORE_STATUS_V0_STATE, one Reg.CORE_STATUS_V1_STATE] : List Place)))) ∧
  (∀ (s : State) (r : Req) (slot : Fin 48) (sub : Fin 2) (value : Word) (t : Nat), Framed (.setpointWrite r slot sub value t) s (Keeps (requestComps ++ reactionComps ++ ([.causes, .stages, .deferred] : List Comp)) (requestFlds ++ reactionFlds ++ ([one Reg.SLOT_SETPOINT slot.val sub.val, all Reg.SLOT_STATUS_SP_LOST 48, ⟨Reg.ACT_COUNTERS, 0, 2, 4, 1⟩] : List Place)))) ∧
  (∀ (s : State) (r : Req) (leg : Fin 32) (value : Word) (t : Nat), Framed (.hostCommit r leg value t) s (Keeps requestComps (requestFlds ++ ([one Reg.LEG_CTRL_COMMIT leg.val, one Reg.LEG_CTRL_FORCE leg.val] : List Place)))) ∧
  (∀ (s : State) (r : Req) (stage : Stage) (value : Word) (t : Nat), Framed (.periodWrite r stage value t) s (Keeps requestComps (requestFlds ++ ([one Reg.PULSE_PERIOD stage.idx, all Reg.ENG_LANE_LOAD_UTIL 4, all Reg.ARB_DEMAND 2] : List Place)))) ∧
  (∀ (s : State) (r : Req) (actuator : Fin 2) (compare : Fin 4) (value : Word) (t : Nat), Framed (.compareWrite r actuator compare value t) s (Keeps requestComps (requestFlds ++ movedFlds ++ ([one Reg.ACT_CMP_VALUE actuator.val compare.val] : List Place)))) ∧
  (∀ (s : State) (r : Req) (actuator : Fin 2) (compare : Fin 4) (value : Word) (t : Nat), Framed (.compareCfgWrite r actuator compare value t) s (Keeps requestComps (requestFlds ++ ([wordAt (Reg.ACT_CMP_MODE.key actuator.val compare.val), one Reg.ACT_CMP_ARMED actuator.val compare.val, one Reg.ACT_CMP_EITHER actuator.val compare.val] : List Place)))) ∧
  (∀ (s : State) (r : Req) (value : Word) (t : Nat), Framed (.brakeCommandWrite r value t) s (Keeps (requestComps ++ reactionComps) (requestFlds ++ reactionFlds ++ ([one Reg.SAFE_BRK_CMD] : List Place)))) ∧
  (∀ (s : State) (r : Req) (value : Word) (t : Nat), Framed (.contactorCommandWrite r value t) s (Keeps (requestComps ++ reactionComps ++ ([.causes, .stages, .deferred] : List Comp)) (requestFlds ++ reactionFlds ++ ([one Reg.SAFE_CDR_CMD, one Reg.SAFE_COUNTERS 7, one Reg.SAFE_CON_STATUS_ON, one Reg.SAFE_CON_STATUS_PRE_OK, one Reg.SAFE_CON_STATUS_PRE_RUN] : List Place)))) ∧
  (∀ (s : State) (r : Req) (buffer : Fin 64) (value : Word) (t : Nat), Framed (.bufferFreezeWrite r buffer value t) s (Keeps (requestComps ++ reactionComps ++ ([.causes, .stages, .deferred] : List Comp)) (requestFlds ++ reactionFlds ++ ([one Reg.SMP_BUF_CONTROL_FREEZE buffer.val, one Reg.SMP_BUF_CONTROL_FROZEN buffer.val, one Reg.SMP_BUF_CONTROL_POST buffer.val] : List Place)))) ∧
  (∀ (s : State) (r : Req) (window : Fin 5) (value : Word) (t : Nat), Framed (.windowControlWrite r window value t) s (Keeps requestComps requestFlds)) ∧
  (∀ (s : State) (r : Req) (word : Fin 64) (value : Word) (t : Nat), Framed (.stagingWrite r word value t) s (Keeps (requestComps ++ ([.staging] : List Comp)) requestFlds)) ∧
  (∀ (s : State) (who : Requester), Framed (.challengeExpiry who) s (Keeps [.challenges] [one Reg.SVC_STATUS_OPEN])) ∧
  (∀ (s : State), Framed (.lockoutEnd) s (Keeps [] [one Reg.SVC_STATUS_LOCKOUT])) ∧
  (∀ (s : State), Framed (.authFailWindowEnd) s (Keeps [] [one Reg.SVC_STATUS_FAILS])) ∧
  (∀ (s : State), Framed (.attnRelease) s (Keeps [] []))

/-- A step carries out the command at the front of the queue. For every command c and every state with c at the front of its queue, step is exec of c on the state that holds the queue's rest; and every command answers a next state in every state. -/
def Obligations.StepIsExec : Prop :=
  (∀ (s : State) (c : Instr) (rest : List Instr),
    step { s with pending := c :: rest } = exec c { s with pending := rest }) ∧
  (∀ (s : State) (c : Instr), ∃ u, exec c s = .next u)

/-- With no command waiting, only time passes. The model's choice (log entry 15): a step on an empty queue moves time to the next edge of SLOW, 1 µs away at most, and changes nothing else. -/
def Obligations.StepIdles : Prop :=
  (∀ (s : State), s.pending = [] → ∃ u, step s = .next u ∧ s.now < u.now ∧ u.now ≤ s.now + Clk.slow ∧ u.now % Clk.slow = 0
    ∧ u = { s with now := u.now })

/-- The state after reset. After reset the module is OFF with every stage STOPPED, no fault, report, record, waiting command or output; every parameter word of a family reads its reset value; and the state meets the invariants of the model. -/
def Obligations.ResetState : Prop :=
  State.reset.module = .off ∧ (∀ t : Stage, State.reset.st t = .stopped) ∧ State.reset.causes = [] ∧ State.reset.queue = []
  ∧ State.reset.log.recs = [] ∧ State.reset.logNext = 0 ∧ State.reset.pending = [] ∧ State.reset.out = []
  ∧ (∀ key, State.reset.word key = Map.reset key)
  ∧ State.reset.canonical = true ∧ State.reset.logNumbered = true ∧ State.reset.bounded = true

/-- Every step keeps the canonical form of every sparse store. When parameter words, internal quantities, windows, the SRAM, the key staging window and the key hold their entries in rising order with no entry at its reset value, so do they after every step: equal contents are equal data. -/
def Obligations.CanonicalStores : Prop :=
  ∀ (s u : State), s.canonical = true → step s = .next u → u.canonical = true

/-- Every step keeps the numbering of the log. When slot i of the log holds the record with sequence number BASE + i, at most 8,192 slots are in use and no clear is half done, so it is after every step. -/
def Obligations.LogNumbered : Prop :=
  ∀ (s u : State), s.logNumbered = true → step s = .next u → u.logNumbered = true

/-- Records are only added. Apart from the rebuild of a start, no command lets NEXT decrease; apart from it and the completion of a clear, no command changes BASE or a record of the log: it can only write further records behind them. -/
def Obligations.LogGrows : Prop :=
  ∀ (s u : State) (c : Instr), (∀ damage copyA copyB t, c ≠ .logRebuild damage copyA copyB t) → exec c s = .next u →
    s.logNext ≤ u.logNext ∧ (c ≠ .clearDone → u.log.base = s.log.base ∧ s.log.recs <+: u.log.recs)

/-- Every step keeps the entries of the queues within their units. DMA entries name one of 4 cores and 16 buffers, runs one of 48 slots and 4 lanes, scheduled edges one of 64 channels, receive entries one of 4 channels, 2 queues and 64 places, held CAN frames a channel number below 256, frames queued for sending and learned ways back one of 4 ports, levels on their way one of 8 channels: after every step when before it. -/
def Obligations.QueueBounds : Prop :=
  ∀ (s u : State), s.bounded = true → step s = .next u → u.bounded = true

/-- Time does not go back, output stands, and no command touches the queue of commands. Whatever a command does, time is at or after what it was, everything sent before stays sent in its order, but for the FCS of a frame that is still leaving a port when the port goes DOWN (R599), and the waiting commands are the same. -/
def Obligations.TimeAndOutput : Prop :=
  ∀ (s u : State) (c : Instr), exec c s = .next u → s.now ≤ u.now ∧ s.out.map Out.sent <+: u.out.map Out.sent ∧ u.pending = s.pending

/-- The module changes state only by the transitions of Table 1-5. When no stage is active in a state before READY (StagesRest), for every command the module's state stays, goes to OFF, or goes along a row of Table 1-5; a command that carries out requests which waited for it (the end of a warm restart, of a restart of pair V, of a SPLIT_V or of a JOIN_V) is meant with none waiting, since each of them would take a row of its own. -/
def Obligations.ModuleTransitions : Prop :=
  ∀ (s u : State) (c : Instr), s.quiet = true → (c.carriesWaiting = true → s.held = [] ∧ s.handQueue = []) → exec c s = .next u →
    u.module = s.module ∨ u.module = .off ∨ (s.module, u.module) ∈ moduleMoves

/-- No stage is active while the module is off, asleep, starting or unconfigured. Every step keeps this: in OFF, SHIP, SLEEP, STARTING and UNCONFIGURED no stage is ARMED, RUNNING or in HOLD. -/
def Obligations.StagesRest : Prop :=
  State.reset.quiet = true ∧ ∀ (s u : State), s.quiet = true → step s = .next u → u.quiet = true

/-- A stage changes state only by the transitions of Table 1-7. For every command each stage keeps its state or goes along a row of Table 1-7; a command that carries out requests which waited for it (the end of a warm restart, of a restart of pair V, of a SPLIT_V or of a JOIN_V) is meant with none waiting, since each of them would take a row of its own; a restart of pair S is meant with no write to the stage left in the release buffer, which it would take back (R537; the model's choice, log entry 191); an ARMED stage that enters RUNNING while a cause of HOLD is present is in HOLD at once (R49). -/
def Obligations.StageTransitions : Prop :=
  ∀ (s u : State) (c : Instr) (x : Stage), (c.carriesWaiting = true → s.held = [] ∧ s.handQueue = []) → (c.restartsS = true → ∀ p ∈ s.release, p.out ≠ .stage x) → exec c s = .next u →
    u.st x = s.st x ∨ (s.st x, u.st x) ∈ stageMoves

/-- The module enters SAFE with every stage in SAFE. Whatever command takes the module to SAFE, every stage is in SAFE after it. -/
def Obligations.SafeTakesStages : Prop :=
  ∀ (s u : State) (c : Instr), exec c s = .next u → s.module ≠ .safe → u.module = .safe → ∀ x : Stage, u.st x = .safe

/-- The module leaves SAFE only through RESTART or loss of VAUX. From SAFE, the only commands after which the module is in another state are the begin of a restart, which takes it to STARTING, and the end of the hold-up after a loss of VAUX, which takes it to OFF; none takes it to READY. -/
def Obligations.SafeIsLeft : Prop :=
  ∀ (s u : State) (c : Instr), s.module = .safe → exec c s = .next u →
    u.module = .safe ∨ (u.module = .starting ∧ ∃ t, c = .restartBegin t) ∨ (u.module = .off ∧ ∃ t, c = .holdupEnd t)

/-- A STOP in HOLD is stored, carried out at restoration, discarded at the hold limit. A STOP that reaches a stage in HOLD is stored; when the last cause of HOLD has gone within the hold window, a stage with a stored STOP is STOPPED or in its stop sequence; when the hold window expires, whatever reaction is configured, a stage that leaves HOLD has no stored STOP. -/
def Obligations.HoldStoresStop : Prop :=
  (∀ (s : State) (r : Req) (mask : Nat) (higher : List Stage) (t : Nat) (x : Stage), mask = 2 ^ x.idx →
    s.serving t r (.command (.stop mask higher)) = true → s.stageUsed x = true → higher = [] → 4 ≤ (s.arrive t).rankNow x → s.st x = .hold →
    Completes (.stop r mask higher t) s fun u => u.st x = .hold ∧ (u.stg x).storedStop = true) ∧
  (∀ (s : State) (x : Stage), s.st x = .hold → (s.stg x).holds = [] → (∀ e, s.due .hold x.idx = some e → s.now < e) →
    (s.stg x).storedStop = true → (s.stg x).stopping = false →
    (s.tryRestore x).st x = .stopped ∨ ((s.tryRestore x).st x = .running ∧ ((s.tryRestore x).stg x).stopping = true)) ∧
  (∀ (s : State) (x : Stage), s.isOpen .hold x.idx = true → s.st x = .hold →
    Completes (.holdExpired x) s fun u => u.st x ≠ .hold → (u.stg x).storedStop = false)

/-- AVG is the mean, rounded to the nearest step. When an accumulator of 1 to 1,048,575 results latches a window that is not STALE, AVG is an integer whose distance from the mean is at most half a step, and of the two at half a step it is the one further from zero. -/
def Obligations.AccumulatorMean : Prop :=
  ∀ (s : State) (a v : Nat), a < 128 → 0 < s.vn .accCount a → s.f Reg.SMP_ACC_CFG_MIN_COUNT a ≤ s.vn .accCount a →
    |s.v .accSum a| ≤ 32768 * s.vn .accCount a →
    (2 * |(s.accLatch a v).fi Reg.SMP_ACC_AVG a * s.vn .accCount a - s.v .accSum a| ≤ s.vn .accCount a
    ∧ (2 * |(s.accLatch a v).fi Reg.SMP_ACC_AVG a * s.vn .accCount a - s.v .accSum a| = s.vn .accCount a →
      |s.v .accSum a| < |(s.accLatch a v).fi Reg.SMP_ACC_AVG a * s.vn .accCount a|))

/-- An accumulator is full at 1,048,575 results. Below 1,048,575 results each further one is added and counted. At 1,048,575 a further result changes neither the sum nor the count, and when the window then latches, the read set shows COUNT 1,048,575 and FULL. -/
def Obligations.AccumulatorFull : Prop :=
  (∀ (s : State) (a : Nat) (x : Int), a < 128 → 0 ≤ s.v .accCount a → s.vn .accCount a < 1048575 →
    (s.accAdd a x).v .accSum a = s.v .accSum a + x ∧ (s.accAdd a x).vn .accCount a = s.vn .accCount a + 1) ∧
  (∀ (s : State) (a v : Nat) (x : Int), a < 128 → s.vn .accCount a = 1048575 →
    (s.accAdd a x).v .accSum a = s.v .accSum a ∧ (s.accAdd a x).vn .accCount a = 1048575
    ∧ ((s.accAdd a x).accLatch a v).fb Reg.SMP_ACC_STATUS_FULL a = true
    ∧ ((s.accAdd a x).accLatch a v).f Reg.SMP_ACC_STATUS_COUNT a = 1048575)

/-- The commits that a reload meets. A pending commit of a leg that completed in cycle c becomes the active set at a reload of cycle r with c ≤ r − 2: the six values become active and nothing is pending. At r = c + 1 and r = c the active set stays and the commit stays pending, and a following reload of a cycle from c + 2 on takes it. -/
def Obligations.CommitMeetsReload : Prop :=
  (∀ (s : State) (x : Stage) (n r : Nat), n < 32 → (s.stg x).stopping = false → s.on .legPending n = true →
    s.vn .legCommitAt n / Clk.pulse + 2 ≤ r / 64 →
    (s.takePending x n r).2 = true ∧ (s.takePending x n r).1.on .legPending n = false
    ∧ (s.carrierMode x < 2 → ∀ k < 6, (s.takePending x n r).1.f Reg.LEG_ACTIVE n k = wrap 32 (s.v .legPend (n * 8 + k)))) ∧
  (∀ (s : State) (x : Stage) (n r : Nat), n < 32 → (s.stg x).stopping = false → s.on .legPending n = true →
    (r / 64 = s.vn .legCommitAt n / Clk.pulse + 1 ∨ r / 64 = s.vn .legCommitAt n / Clk.pulse) →
    (s.takePending x n r).2 = false ∧ (s.takePending x n r).1.on .legPending n = true
    ∧ (∀ k < 6, (s.takePending x n r).1.f Reg.LEG_ACTIVE n k = s.f Reg.LEG_ACTIVE n k)
    ∧ ∀ next, s.vn .legCommitAt n / Clk.pulse + 2 ≤ next / 64 → ((s.takePending x n r).1.takePending x n next).2 = true)

/-- A record is valid only with its MARK. Whatever bytes a start finds in MRAM, every record that the rebuilt log holds, with the records the rebuild itself writes, has in its bytes 0x1E and 0x1F the low 16 bits of its sequence number XOR 0x5A5A. -/
def Obligations.RecordsCarryMark : Prop :=
  ∀ (s : State) (damage : List (Nat × List Byte)) (copyA copyB : MgmtCopy), (copyA.good || copyB.good) = true →
    ∀ r ∈ (s.rebuild damage copyA copyB).log.recs, ofLe ((r.bytes.drop 0x1E).take 2) = (r.seq % 65536) ^^^ 0x5A5A

/-- SUMMARY shows the log's head and tail. In every module state but STARTING, where that group is not filled, bytes 0x0D0 to 0x0D5 of SUMMARY are BASE and bytes 0x0D6 to 0x0DB are NEXT − 1; with NEXT 0, in a module whose log has never held a record, both are 0xFFFFFFFFFFFF. -/
def Obligations.SummaryShowsLog : Prop :=
  ∀ (s : State), s.module ≠ .starting →
    (s.summary.drop 0x0D0).take 6 = le 6 (if s.logNext = 0 then 0xFFFFFFFFFFFF else s.log.base)
    ∧ (s.summary.drop 0x0D6).take 6 = le 6 (if s.logNext = 0 then 0xFFFFFFFFFFFF else (s.log.base + s.log.recs.length - 1 : Nat))

/-- A request survives its bytes. The payload of every READ, WRITE and COMMAND of Tables 20-2, 20-3 and 20-5, at every value its fields admitRec, is read back as the same request, with its authority block where the payload carries one. -/
def Obligations.PayloadRoundTrip : Prop :=
  (∀ l : List (Nat × Nat), entriesWf l = true → Svc.parse 1 ((Svc.read l).payload false) true = (.read l, none)) ∧
  (∀ (r : Req) (l : List WEntry), writeWf r l = true → r.auth = none →
    Svc.parse 2 ((Svc.write l [] []).payload false) true = (.write l [] [], none)) ∧
  (∀ (r : Req) (l : List WEntry) (b : AuthBlock), writeWf r l = true → r.auth = some b → b.wf = true →
    Svc.parse 2 ((Svc.write l [] []).payload true ++ b.bytes) true = (.write l [] [], some b)) ∧
  (∀ c : Cmd, c.wf = true → Svc.parse 3 ((Svc.command c).payload false) true = (.command c, none)) ∧
  (∀ (c : Cmd) (b : AuthBlock), c.wf = true → b.wf = true →
    Svc.parse 3 ((Svc.command c).payload true ++ b.bytes) true = (.command c, some b))

/-- Only a key write changes the configuration key. Whatever a command does, the bytes of the key stay as they are unless it is the end of a step of KEY_WRITE, or the read that finds a key newly fitted or reprogrammed from outside. -/
def Obligations.KeyIsKept : Prop :=
  ∀ (s u : State) (c : Instr), exec c s = .next u → (∀ ok t, c ≠ .keyWriteStepEnd ok t) → (∀ k t, c ≠ .keyReadDone k t) →
    u.keyMem = s.keyMem
end

