-- ==== Sys2Proof/Laws/Store.lean ====
section
/-! SUPPORT. The laws of `Store`: reading after writing, and the canonical form is kept. -/

namespace Sys2Proof

theorem Store.get_erase_same {α : Type} (d : Nat → α) (l : List (Nat × α)) (k : Nat) :
    Store.get d (Store.erase l k) k = d k := by
  induction l with
  | nil => rfl
  | cons e l ih =>
    by_cases h : e.1 = k
    · simpa [Store.erase, h] using ih
    · simpa [Store.erase, Store.get, h] using ih

theorem Store.get_erase_ne {α : Type} (d : Nat → α) (l : List (Nat × α)) {k k' : Nat} (h : k' ≠ k) :
    Store.get d (Store.erase l k) k' = Store.get d l k' := by
  induction l with
  | nil => rfl
  | cons e l ih =>
    have ih' : Store.get d (List.filter (fun e => e.1 != k) l) k' = Store.get d l k' := ih
    by_cases h1 : e.1 = k
    · have h2 : e.1 ≠ k' := fun h3 => h (h3.symm.trans h1)
      simp only [Store.erase, Store.get, if_neg h2]
      rw [List.filter_cons_of_neg (by simp [h1])]
      exact ih'
    · simp only [Store.erase, Store.get]
      rw [List.filter_cons_of_pos (by simp [h1])]
      simp only [Store.get, ih']

theorem Store.get_insert_ne {α : Type} (d : Nat → α) (l : List (Nat × α)) {k k' : Nat} (v : α) (h : k' ≠ k) :
    Store.get d (Store.insert l k v) k' = Store.get d l k' := by
  induction l with
  | nil => simp [Store.insert, Store.get, h.symm]
  | cons e l ih =>
    by_cases h1 : k < e.1
    · simp [Store.insert, Store.get, h1, h.symm]
    · simp [Store.insert, Store.get, h1, ih]

theorem Store.get_insert_same {α : Type} (d : Nat → α) (l : List (Nat × α)) (k : Nat) (v : α)
    (h : ∀ e ∈ l, e.1 ≠ k) : Store.get d (Store.insert l k v) k = v := by
  induction l with
  | nil => simp [Store.insert, Store.get]
  | cons e l ih =>
    have h2 : e.1 ≠ k := h e (by simp)
    by_cases h1 : k < e.1
    · simp [Store.insert, Store.get, h1]
    · simp [Store.insert, Store.get, h1, h2, ih (fun x hx => h x (by simp [hx]))]

/-- A read after a write to the same key gives the value written. -/
@[simp] theorem Store.get_set_same {α : Type} [DecidableEq α] (d : Nat → α) (l : List (Nat × α)) (k : Nat) (v : α) :
    Store.get d (Store.set d l k v) k = v := by
  unfold Store.set
  split
  · rename_i h; rw [Store.get_erase_same, h]
  · exact Store.get_insert_same d _ k v (by simp [Store.erase])

/-- A write leaves every other key alone. -/
theorem Store.get_set_ne {α : Type} [DecidableEq α] (d : Nat → α) (l : List (Nat × α)) {k k' : Nat} (v : α)
    (h : k' ≠ k) : Store.get d (Store.set d l k v) k' = Store.get d l k' := by
  unfold Store.set
  split
  · exact Store.get_erase_ne d l h
  · rw [Store.get_insert_ne d _ v h, Store.get_erase_ne d l h]

theorem Store.mem_insert {α : Type} {l : List (Nat × α)} {k : Nat} {v : α} {e : Nat × α} :
    e ∈ Store.insert l k v ↔ e = (k, v) ∨ e ∈ l := by
  induction l with
  | nil => simp [Store.insert]
  | cons x l ih =>
    by_cases h : k < x.1
    · simp [Store.insert, h]
    · simp only [Store.insert, if_neg h, List.mem_cons, ih]
      tauto

theorem Store.wf_iff {α : Type} [DecidableEq α] {d : Nat → α} {l : List (Nat × α)} :
    Store.wf d l = true ↔ (l.map Prod.fst).Pairwise (· < ·) ∧ ∀ e ∈ l, e.2 ≠ d e.1 := by
  simp [Store.wf]

theorem Store.pairwise_insert {α : Type} {l : List (Nat × α)} {k : Nat} {v : α}
    (hp : (l.map Prod.fst).Pairwise (· < ·)) (hk : ∀ e ∈ l, e.1 ≠ k) :
    ((Store.insert l k v).map Prod.fst).Pairwise (· < ·) := by
  induction l with
  | nil => simp [Store.insert]
  | cons x l ih =>
    rw [List.map_cons, List.pairwise_cons] at hp
    have hx : x.1 ≠ k := hk x (by simp)
    by_cases h : k < x.1
    · simp only [Store.insert, if_pos h, List.map_cons, List.pairwise_cons]
      refine ⟨?_, hp.1, hp.2⟩
      intro a ha
      rcases List.mem_cons.1 ha with rfl | ha
      · exact h
      · exact lt_trans h (hp.1 a ha)
    · simp only [Store.insert, if_neg h, List.map_cons, List.pairwise_cons]
      refine ⟨?_, ih hp.2 (fun e he => hk e (by simp [he]))⟩
      intro a ha
      obtain ⟨e, he, rfl⟩ := List.mem_map.1 ha
      rcases Store.mem_insert.1 he with rfl | he
      · exact lt_of_le_of_ne (not_lt.1 h) hx
      · exact hp.1 _ (List.mem_map.2 ⟨e, he, rfl⟩)

theorem Store.wf_erase {α : Type} [DecidableEq α] {d : Nat → α} {l : List (Nat × α)} (k : Nat)
    (h : Store.wf d l = true) : Store.wf d (Store.erase l k) = true := by
  rw [Store.wf_iff] at h ⊢
  refine ⟨h.1.sublist ((List.filter_sublist (l := l)).map Prod.fst), fun e he => h.2 e ?_⟩
  exact List.mem_of_mem_filter he

/-- Every write keeps the canonical form. -/
theorem Store.wf_set {α : Type} [DecidableEq α] {d : Nat → α} {l : List (Nat × α)} (k : Nat) (v : α)
    (h : Store.wf d l = true) : Store.wf d (Store.set d l k v) = true := by
  unfold Store.set
  split
  · exact Store.wf_erase k h
  · rename_i hv
    have he := Store.wf_erase k h
    rw [Store.wf_iff] at he ⊢
    refine ⟨Store.pairwise_insert he.1 (by simp [Store.erase]), ?_⟩
    intro e hm
    rcases Store.mem_insert.1 hm with rfl | hm
    · exact hv
    · exact he.2 e hm

end Sys2Proof
end

