-- ==== Sys2Proof/Laws/State.lean ====
section
/-!
SUPPORT. The updates of State: what each of the shared updates leaves in every field, and reading after writing.
-/

namespace Sys2Proof.Machine

/-! ### setWord -/

@[simp] theorem State.setWord_now (s : State) (k : Nat) (w : Word) : (s.setWord k w).now = s.now := rfl
@[simp] theorem State.setWord_vars (s : State) (k : Nat) (w : Word) : (s.setWord k w).vars = s.vars := rfl
@[simp] theorem State.setWord_timers (s : State) (k : Nat) (w : Word) : (s.setWord k w).timers = s.timers := rfl
@[simp] theorem State.setWord_module (s : State) (k : Nat) (w : Word) : (s.setWord k w).module = s.module := rfl
@[simp] theorem State.setWord_stages (s : State) (k : Nat) (w : Word) : (s.setWord k w).stages = s.stages := rfl
@[simp] theorem State.setWord_causes (s : State) (k : Nat) (w : Word) : (s.setWord k w).causes = s.causes := rfl
@[simp] theorem State.setWord_deferred (s : State) (k : Nat) (w : Word) : (s.setWord k w).deferred = s.deferred := rfl
@[simp] theorem State.setWord_queue (s : State) (k : Nat) (w : Word) : (s.setWord k w).queue = s.queue := rfl
@[simp] theorem State.setWord_log (s : State) (k : Nat) (w : Word) : (s.setWord k w).log = s.log := rfl
@[simp] theorem State.setWord_kept (s : State) (k : Nat) (w : Word) : (s.setWord k w).kept = s.kept := rfl
@[simp] theorem State.setWord_challenges (s : State) (k : Nat) (w : Word) : (s.setWord k w).challenges = s.challenges := rfl
@[simp] theorem State.setWord_windows (s : State) (k : Nat) (w : Word) : (s.setWord k w).windows = s.windows := rfl
@[simp] theorem State.setWord_edges (s : State) (k : Nat) (w : Word) : (s.setWord k w).edges = s.edges := rfl
@[simp] theorem State.setWord_dmaFifo (s : State) (k : Nat) (w : Word) : (s.setWord k w).dmaFifo = s.dmaFifo := rfl
@[simp] theorem State.setWord_pipe (s : State) (k : Nat) (w : Word) : (s.setWord k w).pipe = s.pipe := rfl
@[simp] theorem State.setWord_cycleFaults (s : State) (k : Nat) (w : Word) : (s.setWord k w).cycleFaults = s.cycleFaults := rfl
@[simp] theorem State.setWord_release (s : State) (k : Nat) (w : Word) : (s.setWord k w).release = s.release := rfl
@[simp] theorem State.setWord_accepts (s : State) (k : Nat) (w : Word) : (s.setWord k w).accepts = s.accepts := rfl
@[simp] theorem State.setWord_egress (s : State) (k : Nat) (w : Word) : (s.setWord k w).egress = s.egress := rfl
@[simp] theorem State.setWord_sram (s : State) (k : Nat) (w : Word) : (s.setWord k w).sram = s.sram := rfl
@[simp] theorem State.setWord_runs (s : State) (k : Nat) (w : Word) : (s.setWord k w).runs = s.runs := rfl
@[simp] theorem State.setWord_denials (s : State) (k : Nat) (w : Word) : (s.setWord k w).denials = s.denials := rfl
@[simp] theorem State.setWord_held (s : State) (k : Nat) (w : Word) : (s.setWord k w).held = s.held := rfl
@[simp] theorem State.setWord_handQueue (s : State) (k : Nat) (w : Word) : (s.setWord k w).handQueue = s.handQueue := rfl
@[simp] theorem State.setWord_handCmd (s : State) (k : Nat) (w : Word) : (s.setWord k w).handCmd = s.handCmd := rfl
@[simp] theorem State.setWord_staging (s : State) (k : Nat) (w : Word) : (s.setWord k w).staging = s.staging := rfl
@[simp] theorem State.setWord_keyMem (s : State) (k : Nat) (w : Word) : (s.setWord k w).keyMem = s.keyMem := rfl
@[simp] theorem State.setWord_keyObs (s : State) (k : Nat) (w : Word) : (s.setWord k w).keyObs = s.keyObs := rfl
@[simp] theorem State.setWord_header (s : State) (k : Nat) (w : Word) : (s.setWord k w).header = s.header := rfl
@[simp] theorem State.setWord_early (s : State) (k : Nat) (w : Word) : (s.setWord k w).early = s.early := rfl
@[simp] theorem State.setWord_image (s : State) (k : Nat) (w : Word) : (s.setWord k w).image = s.image := rfl
@[simp] theorem State.setWord_canRx (s : State) (k : Nat) (w : Word) : (s.setWord k w).canRx = s.canRx := rfl
@[simp] theorem State.setWord_canTx (s : State) (k : Nat) (w : Word) : (s.setWord k w).canTx = s.canTx := rfl
@[simp] theorem State.setWord_canHold (s : State) (k : Nat) (w : Word) : (s.setWord k w).canHold = s.canHold := rfl
@[simp] theorem State.setWord_canLast (s : State) (k : Nat) (w : Word) : (s.setWord k w).canLast = s.canLast := rfl
@[simp] theorem State.setWord_canClaims (s : State) (k : Nat) (w : Word) : (s.setWord k w).canClaims = s.canClaims := rfl
@[simp] theorem State.setWord_peers (s : State) (k : Nat) (w : Word) : (s.setWord k w).peers = s.peers := rfl
@[simp] theorem State.setWord_waiting (s : State) (k : Nat) (w : Word) : (s.setWord k w).waiting = s.waiting := rfl
@[simp] theorem State.setWord_colony (s : State) (k : Nat) (w : Word) : (s.setWord k w).colony = s.colony := rfl
@[simp] theorem State.setWord_replies (s : State) (k : Nat) (w : Word) : (s.setWord k w).replies = s.replies := rfl
@[simp] theorem State.setWord_out (s : State) (k : Nat) (w : Word) : (s.setWord k w).out = s.out := rfl
@[simp] theorem State.setWord_free (s : State) (k : Nat) (w : Word) : (s.setWord k w).free = s.free := rfl
@[simp] theorem State.setWord_pending (s : State) (k : Nat) (w : Word) : (s.setWord k w).pending = s.pending := rfl

/-! ### setF -/

@[simp] theorem State.setF_now (s : State) (f : Fld) (n : Nat) (v : Int) (j : Nat) : (s.setF f n v j).now = s.now := rfl
@[simp] theorem State.setF_vars (s : State) (f : Fld) (n : Nat) (v : Int) (j : Nat) : (s.setF f n v j).vars = s.vars := rfl
@[simp] theorem State.setF_timers (s : State) (f : Fld) (n : Nat) (v : Int) (j : Nat) : (s.setF f n v j).timers = s.timers := rfl
@[simp] theorem State.setF_module (s : State) (f : Fld) (n : Nat) (v : Int) (j : Nat) : (s.setF f n v j).module = s.module := rfl
@[simp] theorem State.setF_stages (s : State) (f : Fld) (n : Nat) (v : Int) (j : Nat) : (s.setF f n v j).stages = s.stages := rfl
@[simp] theorem State.setF_causes (s : State) (f : Fld) (n : Nat) (v : Int) (j : Nat) : (s.setF f n v j).causes = s.causes := rfl
@[simp] theorem State.setF_deferred (s : State) (f : Fld) (n : Nat) (v : Int) (j : Nat) : (s.setF f n v j).deferred = s.deferred := rfl
@[simp] theorem State.setF_queue (s : State) (f : Fld) (n : Nat) (v : Int) (j : Nat) : (s.setF f n v j).queue = s.queue := rfl
@[simp] theorem State.setF_log (s : State) (f : Fld) (n : Nat) (v : Int) (j : Nat) : (s.setF f n v j).log = s.log := rfl
@[simp] theorem State.setF_kept (s : State) (f : Fld) (n : Nat) (v : Int) (j : Nat) : (s.setF f n v j).kept = s.kept := rfl
@[simp] theorem State.setF_challenges (s : State) (f : Fld) (n : Nat) (v : Int) (j : Nat) : (s.setF f n v j).challenges = s.challenges := rfl
@[simp] theorem State.setF_windows (s : State) (f : Fld) (n : Nat) (v : Int) (j : Nat) : (s.setF f n v j).windows = s.windows := rfl
@[simp] theorem State.setF_edges (s : State) (f : Fld) (n : Nat) (v : Int) (j : Nat) : (s.setF f n v j).edges = s.edges := rfl
@[simp] theorem State.setF_dmaFifo (s : State) (f : Fld) (n : Nat) (v : Int) (j : Nat) : (s.setF f n v j).dmaFifo = s.dmaFifo := rfl
@[simp] theorem State.setF_pipe (s : State) (f : Fld) (n : Nat) (v : Int) (j : Nat) : (s.setF f n v j).pipe = s.pipe := rfl
@[simp] theorem State.setF_cycleFaults (s : State) (f : Fld) (n : Nat) (v : Int) (j : Nat) : (s.setF f n v j).cycleFaults = s.cycleFaults := rfl
@[simp] theorem State.setF_release (s : State) (f : Fld) (n : Nat) (v : Int) (j : Nat) : (s.setF f n v j).release = s.release := rfl
@[simp] theorem State.setF_accepts (s : State) (f : Fld) (n : Nat) (v : Int) (j : Nat) : (s.setF f n v j).accepts = s.accepts := rfl
@[simp] theorem State.setF_egress (s : State) (f : Fld) (n : Nat) (v : Int) (j : Nat) : (s.setF f n v j).egress = s.egress := rfl
@[simp] theorem State.setF_sram (s : State) (f : Fld) (n : Nat) (v : Int) (j : Nat) : (s.setF f n v j).sram = s.sram := rfl
@[simp] theorem State.setF_runs (s : State) (f : Fld) (n : Nat) (v : Int) (j : Nat) : (s.setF f n v j).runs = s.runs := rfl
@[simp] theorem State.setF_denials (s : State) (f : Fld) (n : Nat) (v : Int) (j : Nat) : (s.setF f n v j).denials = s.denials := rfl
@[simp] theorem State.setF_held (s : State) (f : Fld) (n : Nat) (v : Int) (j : Nat) : (s.setF f n v j).held = s.held := rfl
@[simp] theorem State.setF_handQueue (s : State) (f : Fld) (n : Nat) (v : Int) (j : Nat) : (s.setF f n v j).handQueue = s.handQueue := rfl
@[simp] theorem State.setF_handCmd (s : State) (f : Fld) (n : Nat) (v : Int) (j : Nat) : (s.setF f n v j).handCmd = s.handCmd := rfl
@[simp] theorem State.setF_staging (s : State) (f : Fld) (n : Nat) (v : Int) (j : Nat) : (s.setF f n v j).staging = s.staging := rfl
@[simp] theorem State.setF_keyMem (s : State) (f : Fld) (n : Nat) (v : Int) (j : Nat) : (s.setF f n v j).keyMem = s.keyMem := rfl
@[simp] theorem State.setF_keyObs (s : State) (f : Fld) (n : Nat) (v : Int) (j : Nat) : (s.setF f n v j).keyObs = s.keyObs := rfl
@[simp] theorem State.setF_header (s : State) (f : Fld) (n : Nat) (v : Int) (j : Nat) : (s.setF f n v j).header = s.header := rfl
@[simp] theorem State.setF_early (s : State) (f : Fld) (n : Nat) (v : Int) (j : Nat) : (s.setF f n v j).early = s.early := rfl
@[simp] theorem State.setF_image (s : State) (f : Fld) (n : Nat) (v : Int) (j : Nat) : (s.setF f n v j).image = s.image := rfl
@[simp] theorem State.setF_canRx (s : State) (f : Fld) (n : Nat) (v : Int) (j : Nat) : (s.setF f n v j).canRx = s.canRx := rfl
@[simp] theorem State.setF_canTx (s : State) (f : Fld) (n : Nat) (v : Int) (j : Nat) : (s.setF f n v j).canTx = s.canTx := rfl
@[simp] theorem State.setF_canHold (s : State) (f : Fld) (n : Nat) (v : Int) (j : Nat) : (s.setF f n v j).canHold = s.canHold := rfl
@[simp] theorem State.setF_canLast (s : State) (f : Fld) (n : Nat) (v : Int) (j : Nat) : (s.setF f n v j).canLast = s.canLast := rfl
@[simp] theorem State.setF_canClaims (s : State) (f : Fld) (n : Nat) (v : Int) (j : Nat) : (s.setF f n v j).canClaims = s.canClaims := rfl
@[simp] theorem State.setF_peers (s : State) (f : Fld) (n : Nat) (v : Int) (j : Nat) : (s.setF f n v j).peers = s.peers := rfl
@[simp] theorem State.setF_waiting (s : State) (f : Fld) (n : Nat) (v : Int) (j : Nat) : (s.setF f n v j).waiting = s.waiting := rfl
@[simp] theorem State.setF_colony (s : State) (f : Fld) (n : Nat) (v : Int) (j : Nat) : (s.setF f n v j).colony = s.colony := rfl
@[simp] theorem State.setF_replies (s : State) (f : Fld) (n : Nat) (v : Int) (j : Nat) : (s.setF f n v j).replies = s.replies := rfl
@[simp] theorem State.setF_out (s : State) (f : Fld) (n : Nat) (v : Int) (j : Nat) : (s.setF f n v j).out = s.out := rfl
@[simp] theorem State.setF_free (s : State) (f : Fld) (n : Nat) (v : Int) (j : Nat) : (s.setF f n v j).free = s.free := rfl
@[simp] theorem State.setF_pending (s : State) (f : Fld) (n : Nat) (v : Int) (j : Nat) : (s.setF f n v j).pending = s.pending := rfl

/-! ### setFb -/

@[simp] theorem State.setFb_now (s : State) (f : Fld) (n : Nat) (b : Bool) (j : Nat) : (s.setFb f n b j).now = s.now := rfl
@[simp] theorem State.setFb_vars (s : State) (f : Fld) (n : Nat) (b : Bool) (j : Nat) : (s.setFb f n b j).vars = s.vars := rfl
@[simp] theorem State.setFb_timers (s : State) (f : Fld) (n : Nat) (b : Bool) (j : Nat) : (s.setFb f n b j).timers = s.timers := rfl
@[simp] theorem State.setFb_module (s : State) (f : Fld) (n : Nat) (b : Bool) (j : Nat) : (s.setFb f n b j).module = s.module := rfl
@[simp] theorem State.setFb_stages (s : State) (f : Fld) (n : Nat) (b : Bool) (j : Nat) : (s.setFb f n b j).stages = s.stages := rfl
@[simp] theorem State.setFb_causes (s : State) (f : Fld) (n : Nat) (b : Bool) (j : Nat) : (s.setFb f n b j).causes = s.causes := rfl
@[simp] theorem State.setFb_deferred (s : State) (f : Fld) (n : Nat) (b : Bool) (j : Nat) : (s.setFb f n b j).deferred = s.deferred := rfl
@[simp] theorem State.setFb_queue (s : State) (f : Fld) (n : Nat) (b : Bool) (j : Nat) : (s.setFb f n b j).queue = s.queue := rfl
@[simp] theorem State.setFb_log (s : State) (f : Fld) (n : Nat) (b : Bool) (j : Nat) : (s.setFb f n b j).log = s.log := rfl
@[simp] theorem State.setFb_kept (s : State) (f : Fld) (n : Nat) (b : Bool) (j : Nat) : (s.setFb f n b j).kept = s.kept := rfl
@[simp] theorem State.setFb_challenges (s : State) (f : Fld) (n : Nat) (b : Bool) (j : Nat) : (s.setFb f n b j).challenges = s.challenges := rfl
@[simp] theorem State.setFb_windows (s : State) (f : Fld) (n : Nat) (b : Bool) (j : Nat) : (s.setFb f n b j).windows = s.windows := rfl
@[simp] theorem State.setFb_edges (s : State) (f : Fld) (n : Nat) (b : Bool) (j : Nat) : (s.setFb f n b j).edges = s.edges := rfl
@[simp] theorem State.setFb_dmaFifo (s : State) (f : Fld) (n : Nat) (b : Bool) (j : Nat) : (s.setFb f n b j).dmaFifo = s.dmaFifo := rfl
@[simp] theorem State.setFb_pipe (s : State) (f : Fld) (n : Nat) (b : Bool) (j : Nat) : (s.setFb f n b j).pipe = s.pipe := rfl
@[simp] theorem State.setFb_cycleFaults (s : State) (f : Fld) (n : Nat) (b : Bool) (j : Nat) : (s.setFb f n b j).cycleFaults = s.cycleFaults := rfl
@[simp] theorem State.setFb_release (s : State) (f : Fld) (n : Nat) (b : Bool) (j : Nat) : (s.setFb f n b j).release = s.release := rfl
@[simp] theorem State.setFb_accepts (s : State) (f : Fld) (n : Nat) (b : Bool) (j : Nat) : (s.setFb f n b j).accepts = s.accepts := rfl
@[simp] theorem State.setFb_egress (s : State) (f : Fld) (n : Nat) (b : Bool) (j : Nat) : (s.setFb f n b j).egress = s.egress := rfl
@[simp] theorem State.setFb_sram (s : State) (f : Fld) (n : Nat) (b : Bool) (j : Nat) : (s.setFb f n b j).sram = s.sram := rfl
@[simp] theorem State.setFb_runs (s : State) (f : Fld) (n : Nat) (b : Bool) (j : Nat) : (s.setFb f n b j).runs = s.runs := rfl
@[simp] theorem State.setFb_denials (s : State) (f : Fld) (n : Nat) (b : Bool) (j : Nat) : (s.setFb f n b j).denials = s.denials := rfl
@[simp] theorem State.setFb_held (s : State) (f : Fld) (n : Nat) (b : Bool) (j : Nat) : (s.setFb f n b j).held = s.held := rfl
@[simp] theorem State.setFb_handQueue (s : State) (f : Fld) (n : Nat) (b : Bool) (j : Nat) : (s.setFb f n b j).handQueue = s.handQueue := rfl
@[simp] theorem State.setFb_handCmd (s : State) (f : Fld) (n : Nat) (b : Bool) (j : Nat) : (s.setFb f n b j).handCmd = s.handCmd := rfl
@[simp] theorem State.setFb_staging (s : State) (f : Fld) (n : Nat) (b : Bool) (j : Nat) : (s.setFb f n b j).staging = s.staging := rfl
@[simp] theorem State.setFb_keyMem (s : State) (f : Fld) (n : Nat) (b : Bool) (j : Nat) : (s.setFb f n b j).keyMem = s.keyMem := rfl
@[simp] theorem State.setFb_keyObs (s : State) (f : Fld) (n : Nat) (b : Bool) (j : Nat) : (s.setFb f n b j).keyObs = s.keyObs := rfl
@[simp] theorem State.setFb_header (s : State) (f : Fld) (n : Nat) (b : Bool) (j : Nat) : (s.setFb f n b j).header = s.header := rfl
@[simp] theorem State.setFb_early (s : State) (f : Fld) (n : Nat) (b : Bool) (j : Nat) : (s.setFb f n b j).early = s.early := rfl
@[simp] theorem State.setFb_image (s : State) (f : Fld) (n : Nat) (b : Bool) (j : Nat) : (s.setFb f n b j).image = s.image := rfl
@[simp] theorem State.setFb_canRx (s : State) (f : Fld) (n : Nat) (b : Bool) (j : Nat) : (s.setFb f n b j).canRx = s.canRx := rfl
@[simp] theorem State.setFb_canTx (s : State) (f : Fld) (n : Nat) (b : Bool) (j : Nat) : (s.setFb f n b j).canTx = s.canTx := rfl
@[simp] theorem State.setFb_canHold (s : State) (f : Fld) (n : Nat) (b : Bool) (j : Nat) : (s.setFb f n b j).canHold = s.canHold := rfl
@[simp] theorem State.setFb_canLast (s : State) (f : Fld) (n : Nat) (b : Bool) (j : Nat) : (s.setFb f n b j).canLast = s.canLast := rfl
@[simp] theorem State.setFb_canClaims (s : State) (f : Fld) (n : Nat) (b : Bool) (j : Nat) : (s.setFb f n b j).canClaims = s.canClaims := rfl
@[simp] theorem State.setFb_peers (s : State) (f : Fld) (n : Nat) (b : Bool) (j : Nat) : (s.setFb f n b j).peers = s.peers := rfl
@[simp] theorem State.setFb_waiting (s : State) (f : Fld) (n : Nat) (b : Bool) (j : Nat) : (s.setFb f n b j).waiting = s.waiting := rfl
@[simp] theorem State.setFb_colony (s : State) (f : Fld) (n : Nat) (b : Bool) (j : Nat) : (s.setFb f n b j).colony = s.colony := rfl
@[simp] theorem State.setFb_replies (s : State) (f : Fld) (n : Nat) (b : Bool) (j : Nat) : (s.setFb f n b j).replies = s.replies := rfl
@[simp] theorem State.setFb_out (s : State) (f : Fld) (n : Nat) (b : Bool) (j : Nat) : (s.setFb f n b j).out = s.out := rfl
@[simp] theorem State.setFb_free (s : State) (f : Fld) (n : Nat) (b : Bool) (j : Nat) : (s.setFb f n b j).free = s.free := rfl
@[simp] theorem State.setFb_pending (s : State) (f : Fld) (n : Nat) (b : Bool) (j : Nat) : (s.setFb f n b j).pending = s.pending := rfl

/-! ### addF -/

@[simp] theorem State.addF_now (s : State) (f : Fld) (n d j : Nat) : (s.addF f n d j).now = s.now := rfl
@[simp] theorem State.addF_vars (s : State) (f : Fld) (n d j : Nat) : (s.addF f n d j).vars = s.vars := rfl
@[simp] theorem State.addF_timers (s : State) (f : Fld) (n d j : Nat) : (s.addF f n d j).timers = s.timers := rfl
@[simp] theorem State.addF_module (s : State) (f : Fld) (n d j : Nat) : (s.addF f n d j).module = s.module := rfl
@[simp] theorem State.addF_stages (s : State) (f : Fld) (n d j : Nat) : (s.addF f n d j).stages = s.stages := rfl
@[simp] theorem State.addF_causes (s : State) (f : Fld) (n d j : Nat) : (s.addF f n d j).causes = s.causes := rfl
@[simp] theorem State.addF_deferred (s : State) (f : Fld) (n d j : Nat) : (s.addF f n d j).deferred = s.deferred := rfl
@[simp] theorem State.addF_queue (s : State) (f : Fld) (n d j : Nat) : (s.addF f n d j).queue = s.queue := rfl
@[simp] theorem State.addF_log (s : State) (f : Fld) (n d j : Nat) : (s.addF f n d j).log = s.log := rfl
@[simp] theorem State.addF_kept (s : State) (f : Fld) (n d j : Nat) : (s.addF f n d j).kept = s.kept := rfl
@[simp] theorem State.addF_challenges (s : State) (f : Fld) (n d j : Nat) : (s.addF f n d j).challenges = s.challenges := rfl
@[simp] theorem State.addF_windows (s : State) (f : Fld) (n d j : Nat) : (s.addF f n d j).windows = s.windows := rfl
@[simp] theorem State.addF_edges (s : State) (f : Fld) (n d j : Nat) : (s.addF f n d j).edges = s.edges := rfl
@[simp] theorem State.addF_dmaFifo (s : State) (f : Fld) (n d j : Nat) : (s.addF f n d j).dmaFifo = s.dmaFifo := rfl
@[simp] theorem State.addF_pipe (s : State) (f : Fld) (n d j : Nat) : (s.addF f n d j).pipe = s.pipe := rfl
@[simp] theorem State.addF_cycleFaults (s : State) (f : Fld) (n d j : Nat) : (s.addF f n d j).cycleFaults = s.cycleFaults := rfl
@[simp] theorem State.addF_release (s : State) (f : Fld) (n d j : Nat) : (s.addF f n d j).release = s.release := rfl
@[simp] theorem State.addF_accepts (s : State) (f : Fld) (n d j : Nat) : (s.addF f n d j).accepts = s.accepts := rfl
@[simp] theorem State.addF_egress (s : State) (f : Fld) (n d j : Nat) : (s.addF f n d j).egress = s.egress := rfl
@[simp] theorem State.addF_sram (s : State) (f : Fld) (n d j : Nat) : (s.addF f n d j).sram = s.sram := rfl
@[simp] theorem State.addF_runs (s : State) (f : Fld) (n d j : Nat) : (s.addF f n d j).runs = s.runs := rfl
@[simp] theorem State.addF_denials (s : State) (f : Fld) (n d j : Nat) : (s.addF f n d j).denials = s.denials := rfl
@[simp] theorem State.addF_held (s : State) (f : Fld) (n d j : Nat) : (s.addF f n d j).held = s.held := rfl
@[simp] theorem State.addF_handQueue (s : State) (f : Fld) (n d j : Nat) : (s.addF f n d j).handQueue = s.handQueue := rfl
@[simp] theorem State.addF_handCmd (s : State) (f : Fld) (n d j : Nat) : (s.addF f n d j).handCmd = s.handCmd := rfl
@[simp] theorem State.addF_staging (s : State) (f : Fld) (n d j : Nat) : (s.addF f n d j).staging = s.staging := rfl
@[simp] theorem State.addF_keyMem (s : State) (f : Fld) (n d j : Nat) : (s.addF f n d j).keyMem = s.keyMem := rfl
@[simp] theorem State.addF_keyObs (s : State) (f : Fld) (n d j : Nat) : (s.addF f n d j).keyObs = s.keyObs := rfl
@[simp] theorem State.addF_header (s : State) (f : Fld) (n d j : Nat) : (s.addF f n d j).header = s.header := rfl
@[simp] theorem State.addF_early (s : State) (f : Fld) (n d j : Nat) : (s.addF f n d j).early = s.early := rfl
@[simp] theorem State.addF_image (s : State) (f : Fld) (n d j : Nat) : (s.addF f n d j).image = s.image := rfl
@[simp] theorem State.addF_canRx (s : State) (f : Fld) (n d j : Nat) : (s.addF f n d j).canRx = s.canRx := rfl
@[simp] theorem State.addF_canTx (s : State) (f : Fld) (n d j : Nat) : (s.addF f n d j).canTx = s.canTx := rfl
@[simp] theorem State.addF_canHold (s : State) (f : Fld) (n d j : Nat) : (s.addF f n d j).canHold = s.canHold := rfl
@[simp] theorem State.addF_canLast (s : State) (f : Fld) (n d j : Nat) : (s.addF f n d j).canLast = s.canLast := rfl
@[simp] theorem State.addF_canClaims (s : State) (f : Fld) (n d j : Nat) : (s.addF f n d j).canClaims = s.canClaims := rfl
@[simp] theorem State.addF_peers (s : State) (f : Fld) (n d j : Nat) : (s.addF f n d j).peers = s.peers := rfl
@[simp] theorem State.addF_waiting (s : State) (f : Fld) (n d j : Nat) : (s.addF f n d j).waiting = s.waiting := rfl
@[simp] theorem State.addF_colony (s : State) (f : Fld) (n d j : Nat) : (s.addF f n d j).colony = s.colony := rfl
@[simp] theorem State.addF_replies (s : State) (f : Fld) (n d j : Nat) : (s.addF f n d j).replies = s.replies := rfl
@[simp] theorem State.addF_out (s : State) (f : Fld) (n d j : Nat) : (s.addF f n d j).out = s.out := rfl
@[simp] theorem State.addF_free (s : State) (f : Fld) (n d j : Nat) : (s.addF f n d j).free = s.free := rfl
@[simp] theorem State.addF_pending (s : State) (f : Fld) (n d j : Nat) : (s.addF f n d j).pending = s.pending := rfl

/-! ### wrapF -/

@[simp] theorem State.wrapF_now (s : State) (f : Fld) (n d j : Nat) : (s.wrapF f n d j).now = s.now := rfl
@[simp] theorem State.wrapF_vars (s : State) (f : Fld) (n d j : Nat) : (s.wrapF f n d j).vars = s.vars := rfl
@[simp] theorem State.wrapF_timers (s : State) (f : Fld) (n d j : Nat) : (s.wrapF f n d j).timers = s.timers := rfl
@[simp] theorem State.wrapF_module (s : State) (f : Fld) (n d j : Nat) : (s.wrapF f n d j).module = s.module := rfl
@[simp] theorem State.wrapF_stages (s : State) (f : Fld) (n d j : Nat) : (s.wrapF f n d j).stages = s.stages := rfl
@[simp] theorem State.wrapF_causes (s : State) (f : Fld) (n d j : Nat) : (s.wrapF f n d j).causes = s.causes := rfl
@[simp] theorem State.wrapF_deferred (s : State) (f : Fld) (n d j : Nat) : (s.wrapF f n d j).deferred = s.deferred := rfl
@[simp] theorem State.wrapF_queue (s : State) (f : Fld) (n d j : Nat) : (s.wrapF f n d j).queue = s.queue := rfl
@[simp] theorem State.wrapF_log (s : State) (f : Fld) (n d j : Nat) : (s.wrapF f n d j).log = s.log := rfl
@[simp] theorem State.wrapF_kept (s : State) (f : Fld) (n d j : Nat) : (s.wrapF f n d j).kept = s.kept := rfl
@[simp] theorem State.wrapF_challenges (s : State) (f : Fld) (n d j : Nat) : (s.wrapF f n d j).challenges = s.challenges := rfl
@[simp] theorem State.wrapF_windows (s : State) (f : Fld) (n d j : Nat) : (s.wrapF f n d j).windows = s.windows := rfl
@[simp] theorem State.wrapF_edges (s : State) (f : Fld) (n d j : Nat) : (s.wrapF f n d j).edges = s.edges := rfl
@[simp] theorem State.wrapF_dmaFifo (s : State) (f : Fld) (n d j : Nat) : (s.wrapF f n d j).dmaFifo = s.dmaFifo := rfl
@[simp] theorem State.wrapF_pipe (s : State) (f : Fld) (n d j : Nat) : (s.wrapF f n d j).pipe = s.pipe := rfl
@[simp] theorem State.wrapF_cycleFaults (s : State) (f : Fld) (n d j : Nat) : (s.wrapF f n d j).cycleFaults = s.cycleFaults := rfl
@[simp] theorem State.wrapF_release (s : State) (f : Fld) (n d j : Nat) : (s.wrapF f n d j).release = s.release := rfl
@[simp] theorem State.wrapF_accepts (s : State) (f : Fld) (n d j : Nat) : (s.wrapF f n d j).accepts = s.accepts := rfl
@[simp] theorem State.wrapF_egress (s : State) (f : Fld) (n d j : Nat) : (s.wrapF f n d j).egress = s.egress := rfl
@[simp] theorem State.wrapF_sram (s : State) (f : Fld) (n d j : Nat) : (s.wrapF f n d j).sram = s.sram := rfl
@[simp] theorem State.wrapF_runs (s : State) (f : Fld) (n d j : Nat) : (s.wrapF f n d j).runs = s.runs := rfl
@[simp] theorem State.wrapF_denials (s : State) (f : Fld) (n d j : Nat) : (s.wrapF f n d j).denials = s.denials := rfl
@[simp] theorem State.wrapF_held (s : State) (f : Fld) (n d j : Nat) : (s.wrapF f n d j).held = s.held := rfl
@[simp] theorem State.wrapF_handQueue (s : State) (f : Fld) (n d j : Nat) : (s.wrapF f n d j).handQueue = s.handQueue := rfl
@[simp] theorem State.wrapF_handCmd (s : State) (f : Fld) (n d j : Nat) : (s.wrapF f n d j).handCmd = s.handCmd := rfl
@[simp] theorem State.wrapF_staging (s : State) (f : Fld) (n d j : Nat) : (s.wrapF f n d j).staging = s.staging := rfl
@[simp] theorem State.wrapF_keyMem (s : State) (f : Fld) (n d j : Nat) : (s.wrapF f n d j).keyMem = s.keyMem := rfl
@[simp] theorem State.wrapF_keyObs (s : State) (f : Fld) (n d j : Nat) : (s.wrapF f n d j).keyObs = s.keyObs := rfl
@[simp] theorem State.wrapF_header (s : State) (f : Fld) (n d j : Nat) : (s.wrapF f n d j).header = s.header := rfl
@[simp] theorem State.wrapF_early (s : State) (f : Fld) (n d j : Nat) : (s.wrapF f n d j).early = s.early := rfl
@[simp] theorem State.wrapF_image (s : State) (f : Fld) (n d j : Nat) : (s.wrapF f n d j).image = s.image := rfl
@[simp] theorem State.wrapF_canRx (s : State) (f : Fld) (n d j : Nat) : (s.wrapF f n d j).canRx = s.canRx := rfl
@[simp] theorem State.wrapF_canTx (s : State) (f : Fld) (n d j : Nat) : (s.wrapF f n d j).canTx = s.canTx := rfl
@[simp] theorem State.wrapF_canHold (s : State) (f : Fld) (n d j : Nat) : (s.wrapF f n d j).canHold = s.canHold := rfl
@[simp] theorem State.wrapF_canLast (s : State) (f : Fld) (n d j : Nat) : (s.wrapF f n d j).canLast = s.canLast := rfl
@[simp] theorem State.wrapF_canClaims (s : State) (f : Fld) (n d j : Nat) : (s.wrapF f n d j).canClaims = s.canClaims := rfl
@[simp] theorem State.wrapF_peers (s : State) (f : Fld) (n d j : Nat) : (s.wrapF f n d j).peers = s.peers := rfl
@[simp] theorem State.wrapF_waiting (s : State) (f : Fld) (n d j : Nat) : (s.wrapF f n d j).waiting = s.waiting := rfl
@[simp] theorem State.wrapF_colony (s : State) (f : Fld) (n d j : Nat) : (s.wrapF f n d j).colony = s.colony := rfl
@[simp] theorem State.wrapF_replies (s : State) (f : Fld) (n d j : Nat) : (s.wrapF f n d j).replies = s.replies := rfl
@[simp] theorem State.wrapF_out (s : State) (f : Fld) (n d j : Nat) : (s.wrapF f n d j).out = s.out := rfl
@[simp] theorem State.wrapF_free (s : State) (f : Fld) (n d j : Nat) : (s.wrapF f n d j).free = s.free := rfl
@[simp] theorem State.wrapF_pending (s : State) (f : Fld) (n d j : Nat) : (s.wrapF f n d j).pending = s.pending := rfl

/-! ### setV -/

@[simp] theorem State.setV_now (s : State) (x : Var) (i : Nat) (v : Int) : (s.setV x i v).now = s.now := rfl
@[simp] theorem State.setV_regs (s : State) (x : Var) (i : Nat) (v : Int) : (s.setV x i v).regs = s.regs := rfl
@[simp] theorem State.setV_timers (s : State) (x : Var) (i : Nat) (v : Int) : (s.setV x i v).timers = s.timers := rfl
@[simp] theorem State.setV_module (s : State) (x : Var) (i : Nat) (v : Int) : (s.setV x i v).module = s.module := rfl
@[simp] theorem State.setV_stages (s : State) (x : Var) (i : Nat) (v : Int) : (s.setV x i v).stages = s.stages := rfl
@[simp] theorem State.setV_causes (s : State) (x : Var) (i : Nat) (v : Int) : (s.setV x i v).causes = s.causes := rfl
@[simp] theorem State.setV_deferred (s : State) (x : Var) (i : Nat) (v : Int) : (s.setV x i v).deferred = s.deferred := rfl
@[simp] theorem State.setV_queue (s : State) (x : Var) (i : Nat) (v : Int) : (s.setV x i v).queue = s.queue := rfl
@[simp] theorem State.setV_log (s : State) (x : Var) (i : Nat) (v : Int) : (s.setV x i v).log = s.log := rfl
@[simp] theorem State.setV_kept (s : State) (x : Var) (i : Nat) (v : Int) : (s.setV x i v).kept = s.kept := rfl
@[simp] theorem State.setV_challenges (s : State) (x : Var) (i : Nat) (v : Int) : (s.setV x i v).challenges = s.challenges := rfl
@[simp] theorem State.setV_windows (s : State) (x : Var) (i : Nat) (v : Int) : (s.setV x i v).windows = s.windows := rfl
@[simp] theorem State.setV_edges (s : State) (x : Var) (i : Nat) (v : Int) : (s.setV x i v).edges = s.edges := rfl
@[simp] theorem State.setV_dmaFifo (s : State) (x : Var) (i : Nat) (v : Int) : (s.setV x i v).dmaFifo = s.dmaFifo := rfl
@[simp] theorem State.setV_pipe (s : State) (x : Var) (i : Nat) (v : Int) : (s.setV x i v).pipe = s.pipe := rfl
@[simp] theorem State.setV_cycleFaults (s : State) (x : Var) (i : Nat) (v : Int) : (s.setV x i v).cycleFaults = s.cycleFaults := rfl
@[simp] theorem State.setV_release (s : State) (x : Var) (i : Nat) (v : Int) : (s.setV x i v).release = s.release := rfl
@[simp] theorem State.setV_accepts (s : State) (x : Var) (i : Nat) (v : Int) : (s.setV x i v).accepts = s.accepts := rfl
@[simp] theorem State.setV_egress (s : State) (x : Var) (i : Nat) (v : Int) : (s.setV x i v).egress = s.egress := rfl
@[simp] theorem State.setV_sram (s : State) (x : Var) (i : Nat) (v : Int) : (s.setV x i v).sram = s.sram := rfl
@[simp] theorem State.setV_runs (s : State) (x : Var) (i : Nat) (v : Int) : (s.setV x i v).runs = s.runs := rfl
@[simp] theorem State.setV_denials (s : State) (x : Var) (i : Nat) (v : Int) : (s.setV x i v).denials = s.denials := rfl
@[simp] theorem State.setV_held (s : State) (x : Var) (i : Nat) (v : Int) : (s.setV x i v).held = s.held := rfl
@[simp] theorem State.setV_handQueue (s : State) (x : Var) (i : Nat) (v : Int) : (s.setV x i v).handQueue = s.handQueue := rfl
@[simp] theorem State.setV_handCmd (s : State) (x : Var) (i : Nat) (v : Int) : (s.setV x i v).handCmd = s.handCmd := rfl
@[simp] theorem State.setV_staging (s : State) (x : Var) (i : Nat) (v : Int) : (s.setV x i v).staging = s.staging := rfl
@[simp] theorem State.setV_keyMem (s : State) (x : Var) (i : Nat) (v : Int) : (s.setV x i v).keyMem = s.keyMem := rfl
@[simp] theorem State.setV_keyObs (s : State) (x : Var) (i : Nat) (v : Int) : (s.setV x i v).keyObs = s.keyObs := rfl
@[simp] theorem State.setV_header (s : State) (x : Var) (i : Nat) (v : Int) : (s.setV x i v).header = s.header := rfl
@[simp] theorem State.setV_early (s : State) (x : Var) (i : Nat) (v : Int) : (s.setV x i v).early = s.early := rfl
@[simp] theorem State.setV_image (s : State) (x : Var) (i : Nat) (v : Int) : (s.setV x i v).image = s.image := rfl
@[simp] theorem State.setV_canRx (s : State) (x : Var) (i : Nat) (v : Int) : (s.setV x i v).canRx = s.canRx := rfl
@[simp] theorem State.setV_canTx (s : State) (x : Var) (i : Nat) (v : Int) : (s.setV x i v).canTx = s.canTx := rfl
@[simp] theorem State.setV_canHold (s : State) (x : Var) (i : Nat) (v : Int) : (s.setV x i v).canHold = s.canHold := rfl
@[simp] theorem State.setV_canLast (s : State) (x : Var) (i : Nat) (v : Int) : (s.setV x i v).canLast = s.canLast := rfl
@[simp] theorem State.setV_canClaims (s : State) (x : Var) (i : Nat) (v : Int) : (s.setV x i v).canClaims = s.canClaims := rfl
@[simp] theorem State.setV_peers (s : State) (x : Var) (i : Nat) (v : Int) : (s.setV x i v).peers = s.peers := rfl
@[simp] theorem State.setV_waiting (s : State) (x : Var) (i : Nat) (v : Int) : (s.setV x i v).waiting = s.waiting := rfl
@[simp] theorem State.setV_colony (s : State) (x : Var) (i : Nat) (v : Int) : (s.setV x i v).colony = s.colony := rfl
@[simp] theorem State.setV_replies (s : State) (x : Var) (i : Nat) (v : Int) : (s.setV x i v).replies = s.replies := rfl
@[simp] theorem State.setV_out (s : State) (x : Var) (i : Nat) (v : Int) : (s.setV x i v).out = s.out := rfl
@[simp] theorem State.setV_free (s : State) (x : Var) (i : Nat) (v : Int) : (s.setV x i v).free = s.free := rfl
@[simp] theorem State.setV_pending (s : State) (x : Var) (i : Nat) (v : Int) : (s.setV x i v).pending = s.pending := rfl

/-! ### setOn -/

@[simp] theorem State.setOn_now (s : State) (x : Var) (i : Nat) (b : Bool) : (s.setOn x i b).now = s.now := rfl
@[simp] theorem State.setOn_regs (s : State) (x : Var) (i : Nat) (b : Bool) : (s.setOn x i b).regs = s.regs := rfl
@[simp] theorem State.setOn_timers (s : State) (x : Var) (i : Nat) (b : Bool) : (s.setOn x i b).timers = s.timers := rfl
@[simp] theorem State.setOn_module (s : State) (x : Var) (i : Nat) (b : Bool) : (s.setOn x i b).module = s.module := rfl
@[simp] theorem State.setOn_stages (s : State) (x : Var) (i : Nat) (b : Bool) : (s.setOn x i b).stages = s.stages := rfl
@[simp] theorem State.setOn_causes (s : State) (x : Var) (i : Nat) (b : Bool) : (s.setOn x i b).causes = s.causes := rfl
@[simp] theorem State.setOn_deferred (s : State) (x : Var) (i : Nat) (b : Bool) : (s.setOn x i b).deferred = s.deferred := rfl
@[simp] theorem State.setOn_queue (s : State) (x : Var) (i : Nat) (b : Bool) : (s.setOn x i b).queue = s.queue := rfl
@[simp] theorem State.setOn_log (s : State) (x : Var) (i : Nat) (b : Bool) : (s.setOn x i b).log = s.log := rfl
@[simp] theorem State.setOn_kept (s : State) (x : Var) (i : Nat) (b : Bool) : (s.setOn x i b).kept = s.kept := rfl
@[simp] theorem State.setOn_challenges (s : State) (x : Var) (i : Nat) (b : Bool) : (s.setOn x i b).challenges = s.challenges := rfl
@[simp] theorem State.setOn_windows (s : State) (x : Var) (i : Nat) (b : Bool) : (s.setOn x i b).windows = s.windows := rfl
@[simp] theorem State.setOn_edges (s : State) (x : Var) (i : Nat) (b : Bool) : (s.setOn x i b).edges = s.edges := rfl
@[simp] theorem State.setOn_dmaFifo (s : State) (x : Var) (i : Nat) (b : Bool) : (s.setOn x i b).dmaFifo = s.dmaFifo := rfl
@[simp] theorem State.setOn_pipe (s : State) (x : Var) (i : Nat) (b : Bool) : (s.setOn x i b).pipe = s.pipe := rfl
@[simp] theorem State.setOn_cycleFaults (s : State) (x : Var) (i : Nat) (b : Bool) : (s.setOn x i b).cycleFaults = s.cycleFaults := rfl
@[simp] theorem State.setOn_release (s : State) (x : Var) (i : Nat) (b : Bool) : (s.setOn x i b).release = s.release := rfl
@[simp] theorem State.setOn_accepts (s : State) (x : Var) (i : Nat) (b : Bool) : (s.setOn x i b).accepts = s.accepts := rfl
@[simp] theorem State.setOn_egress (s : State) (x : Var) (i : Nat) (b : Bool) : (s.setOn x i b).egress = s.egress := rfl
@[simp] theorem State.setOn_sram (s : State) (x : Var) (i : Nat) (b : Bool) : (s.setOn x i b).sram = s.sram := rfl
@[simp] theorem State.setOn_runs (s : State) (x : Var) (i : Nat) (b : Bool) : (s.setOn x i b).runs = s.runs := rfl
@[simp] theorem State.setOn_denials (s : State) (x : Var) (i : Nat) (b : Bool) : (s.setOn x i b).denials = s.denials := rfl
@[simp] theorem State.setOn_held (s : State) (x : Var) (i : Nat) (b : Bool) : (s.setOn x i b).held = s.held := rfl
@[simp] theorem State.setOn_handQueue (s : State) (x : Var) (i : Nat) (b : Bool) : (s.setOn x i b).handQueue = s.handQueue := rfl
@[simp] theorem State.setOn_handCmd (s : State) (x : Var) (i : Nat) (b : Bool) : (s.setOn x i b).handCmd = s.handCmd := rfl
@[simp] theorem State.setOn_staging (s : State) (x : Var) (i : Nat) (b : Bool) : (s.setOn x i b).staging = s.staging := rfl
@[simp] theorem State.setOn_keyMem (s : State) (x : Var) (i : Nat) (b : Bool) : (s.setOn x i b).keyMem = s.keyMem := rfl
@[simp] theorem State.setOn_keyObs (s : State) (x : Var) (i : Nat) (b : Bool) : (s.setOn x i b).keyObs = s.keyObs := rfl
@[simp] theorem State.setOn_header (s : State) (x : Var) (i : Nat) (b : Bool) : (s.setOn x i b).header = s.header := rfl
@[simp] theorem State.setOn_early (s : State) (x : Var) (i : Nat) (b : Bool) : (s.setOn x i b).early = s.early := rfl
@[simp] theorem State.setOn_image (s : State) (x : Var) (i : Nat) (b : Bool) : (s.setOn x i b).image = s.image := rfl
@[simp] theorem State.setOn_canRx (s : State) (x : Var) (i : Nat) (b : Bool) : (s.setOn x i b).canRx = s.canRx := rfl
@[simp] theorem State.setOn_canTx (s : State) (x : Var) (i : Nat) (b : Bool) : (s.setOn x i b).canTx = s.canTx := rfl
@[simp] theorem State.setOn_canHold (s : State) (x : Var) (i : Nat) (b : Bool) : (s.setOn x i b).canHold = s.canHold := rfl
@[simp] theorem State.setOn_canLast (s : State) (x : Var) (i : Nat) (b : Bool) : (s.setOn x i b).canLast = s.canLast := rfl
@[simp] theorem State.setOn_canClaims (s : State) (x : Var) (i : Nat) (b : Bool) : (s.setOn x i b).canClaims = s.canClaims := rfl
@[simp] theorem State.setOn_peers (s : State) (x : Var) (i : Nat) (b : Bool) : (s.setOn x i b).peers = s.peers := rfl
@[simp] theorem State.setOn_waiting (s : State) (x : Var) (i : Nat) (b : Bool) : (s.setOn x i b).waiting = s.waiting := rfl
@[simp] theorem State.setOn_colony (s : State) (x : Var) (i : Nat) (b : Bool) : (s.setOn x i b).colony = s.colony := rfl
@[simp] theorem State.setOn_replies (s : State) (x : Var) (i : Nat) (b : Bool) : (s.setOn x i b).replies = s.replies := rfl
@[simp] theorem State.setOn_out (s : State) (x : Var) (i : Nat) (b : Bool) : (s.setOn x i b).out = s.out := rfl
@[simp] theorem State.setOn_free (s : State) (x : Var) (i : Nat) (b : Bool) : (s.setOn x i b).free = s.free := rfl
@[simp] theorem State.setOn_pending (s : State) (x : Var) (i : Nat) (b : Bool) : (s.setOn x i b).pending = s.pending := rfl

/-! ### addV -/

@[simp] theorem State.addV_now (s : State) (x : Var) (i : Nat) (d : Int) : (s.addV x i d).now = s.now := rfl
@[simp] theorem State.addV_regs (s : State) (x : Var) (i : Nat) (d : Int) : (s.addV x i d).regs = s.regs := rfl
@[simp] theorem State.addV_timers (s : State) (x : Var) (i : Nat) (d : Int) : (s.addV x i d).timers = s.timers := rfl
@[simp] theorem State.addV_module (s : State) (x : Var) (i : Nat) (d : Int) : (s.addV x i d).module = s.module := rfl
@[simp] theorem State.addV_stages (s : State) (x : Var) (i : Nat) (d : Int) : (s.addV x i d).stages = s.stages := rfl
@[simp] theorem State.addV_causes (s : State) (x : Var) (i : Nat) (d : Int) : (s.addV x i d).causes = s.causes := rfl
@[simp] theorem State.addV_deferred (s : State) (x : Var) (i : Nat) (d : Int) : (s.addV x i d).deferred = s.deferred := rfl
@[simp] theorem State.addV_queue (s : State) (x : Var) (i : Nat) (d : Int) : (s.addV x i d).queue = s.queue := rfl
@[simp] theorem State.addV_log (s : State) (x : Var) (i : Nat) (d : Int) : (s.addV x i d).log = s.log := rfl
@[simp] theorem State.addV_kept (s : State) (x : Var) (i : Nat) (d : Int) : (s.addV x i d).kept = s.kept := rfl
@[simp] theorem State.addV_challenges (s : State) (x : Var) (i : Nat) (d : Int) : (s.addV x i d).challenges = s.challenges := rfl
@[simp] theorem State.addV_windows (s : State) (x : Var) (i : Nat) (d : Int) : (s.addV x i d).windows = s.windows := rfl
@[simp] theorem State.addV_edges (s : State) (x : Var) (i : Nat) (d : Int) : (s.addV x i d).edges = s.edges := rfl
@[simp] theorem State.addV_dmaFifo (s : State) (x : Var) (i : Nat) (d : Int) : (s.addV x i d).dmaFifo = s.dmaFifo := rfl
@[simp] theorem State.addV_pipe (s : State) (x : Var) (i : Nat) (d : Int) : (s.addV x i d).pipe = s.pipe := rfl
@[simp] theorem State.addV_cycleFaults (s : State) (x : Var) (i : Nat) (d : Int) : (s.addV x i d).cycleFaults = s.cycleFaults := rfl
@[simp] theorem State.addV_release (s : State) (x : Var) (i : Nat) (d : Int) : (s.addV x i d).release = s.release := rfl
@[simp] theorem State.addV_accepts (s : State) (x : Var) (i : Nat) (d : Int) : (s.addV x i d).accepts = s.accepts := rfl
@[simp] theorem State.addV_egress (s : State) (x : Var) (i : Nat) (d : Int) : (s.addV x i d).egress = s.egress := rfl
@[simp] theorem State.addV_sram (s : State) (x : Var) (i : Nat) (d : Int) : (s.addV x i d).sram = s.sram := rfl
@[simp] theorem State.addV_runs (s : State) (x : Var) (i : Nat) (d : Int) : (s.addV x i d).runs = s.runs := rfl
@[simp] theorem State.addV_denials (s : State) (x : Var) (i : Nat) (d : Int) : (s.addV x i d).denials = s.denials := rfl
@[simp] theorem State.addV_held (s : State) (x : Var) (i : Nat) (d : Int) : (s.addV x i d).held = s.held := rfl
@[simp] theorem State.addV_handQueue (s : State) (x : Var) (i : Nat) (d : Int) : (s.addV x i d).handQueue = s.handQueue := rfl
@[simp] theorem State.addV_handCmd (s : State) (x : Var) (i : Nat) (d : Int) : (s.addV x i d).handCmd = s.handCmd := rfl
@[simp] theorem State.addV_staging (s : State) (x : Var) (i : Nat) (d : Int) : (s.addV x i d).staging = s.staging := rfl
@[simp] theorem State.addV_keyMem (s : State) (x : Var) (i : Nat) (d : Int) : (s.addV x i d).keyMem = s.keyMem := rfl
@[simp] theorem State.addV_keyObs (s : State) (x : Var) (i : Nat) (d : Int) : (s.addV x i d).keyObs = s.keyObs := rfl
@[simp] theorem State.addV_header (s : State) (x : Var) (i : Nat) (d : Int) : (s.addV x i d).header = s.header := rfl
@[simp] theorem State.addV_early (s : State) (x : Var) (i : Nat) (d : Int) : (s.addV x i d).early = s.early := rfl
@[simp] theorem State.addV_image (s : State) (x : Var) (i : Nat) (d : Int) : (s.addV x i d).image = s.image := rfl
@[simp] theorem State.addV_canRx (s : State) (x : Var) (i : Nat) (d : Int) : (s.addV x i d).canRx = s.canRx := rfl
@[simp] theorem State.addV_canTx (s : State) (x : Var) (i : Nat) (d : Int) : (s.addV x i d).canTx = s.canTx := rfl
@[simp] theorem State.addV_canHold (s : State) (x : Var) (i : Nat) (d : Int) : (s.addV x i d).canHold = s.canHold := rfl
@[simp] theorem State.addV_canLast (s : State) (x : Var) (i : Nat) (d : Int) : (s.addV x i d).canLast = s.canLast := rfl
@[simp] theorem State.addV_canClaims (s : State) (x : Var) (i : Nat) (d : Int) : (s.addV x i d).canClaims = s.canClaims := rfl
@[simp] theorem State.addV_peers (s : State) (x : Var) (i : Nat) (d : Int) : (s.addV x i d).peers = s.peers := rfl
@[simp] theorem State.addV_waiting (s : State) (x : Var) (i : Nat) (d : Int) : (s.addV x i d).waiting = s.waiting := rfl
@[simp] theorem State.addV_colony (s : State) (x : Var) (i : Nat) (d : Int) : (s.addV x i d).colony = s.colony := rfl
@[simp] theorem State.addV_replies (s : State) (x : Var) (i : Nat) (d : Int) : (s.addV x i d).replies = s.replies := rfl
@[simp] theorem State.addV_out (s : State) (x : Var) (i : Nat) (d : Int) : (s.addV x i d).out = s.out := rfl
@[simp] theorem State.addV_free (s : State) (x : Var) (i : Nat) (d : Int) : (s.addV x i d).free = s.free := rfl
@[simp] theorem State.addV_pending (s : State) (x : Var) (i : Nat) (d : Int) : (s.addV x i d).pending = s.pending := rfl

/-! ### setDue -/

@[simp] theorem State.setDue_now (s : State) (t : Timer) (i : Nat) (e : Option Nat) : (s.setDue t i e).now = s.now := rfl
@[simp] theorem State.setDue_regs (s : State) (t : Timer) (i : Nat) (e : Option Nat) : (s.setDue t i e).regs = s.regs := rfl
@[simp] theorem State.setDue_vars (s : State) (t : Timer) (i : Nat) (e : Option Nat) : (s.setDue t i e).vars = s.vars := rfl
@[simp] theorem State.setDue_module (s : State) (t : Timer) (i : Nat) (e : Option Nat) : (s.setDue t i e).module = s.module := rfl
@[simp] theorem State.setDue_stages (s : State) (t : Timer) (i : Nat) (e : Option Nat) : (s.setDue t i e).stages = s.stages := rfl
@[simp] theorem State.setDue_causes (s : State) (t : Timer) (i : Nat) (e : Option Nat) : (s.setDue t i e).causes = s.causes := rfl
@[simp] theorem State.setDue_deferred (s : State) (t : Timer) (i : Nat) (e : Option Nat) : (s.setDue t i e).deferred = s.deferred := rfl
@[simp] theorem State.setDue_queue (s : State) (t : Timer) (i : Nat) (e : Option Nat) : (s.setDue t i e).queue = s.queue := rfl
@[simp] theorem State.setDue_log (s : State) (t : Timer) (i : Nat) (e : Option Nat) : (s.setDue t i e).log = s.log := rfl
@[simp] theorem State.setDue_kept (s : State) (t : Timer) (i : Nat) (e : Option Nat) : (s.setDue t i e).kept = s.kept := rfl
@[simp] theorem State.setDue_challenges (s : State) (t : Timer) (i : Nat) (e : Option Nat) : (s.setDue t i e).challenges = s.challenges := rfl
@[simp] theorem State.setDue_windows (s : State) (t : Timer) (i : Nat) (e : Option Nat) : (s.setDue t i e).windows = s.windows := rfl
@[simp] theorem State.setDue_edges (s : State) (t : Timer) (i : Nat) (e : Option Nat) : (s.setDue t i e).edges = s.edges := rfl
@[simp] theorem State.setDue_dmaFifo (s : State) (t : Timer) (i : Nat) (e : Option Nat) : (s.setDue t i e).dmaFifo = s.dmaFifo := rfl
@[simp] theorem State.setDue_pipe (s : State) (t : Timer) (i : Nat) (e : Option Nat) : (s.setDue t i e).pipe = s.pipe := rfl
@[simp] theorem State.setDue_cycleFaults (s : State) (t : Timer) (i : Nat) (e : Option Nat) : (s.setDue t i e).cycleFaults = s.cycleFaults := rfl
@[simp] theorem State.setDue_release (s : State) (t : Timer) (i : Nat) (e : Option Nat) : (s.setDue t i e).release = s.release := rfl
@[simp] theorem State.setDue_accepts (s : State) (t : Timer) (i : Nat) (e : Option Nat) : (s.setDue t i e).accepts = s.accepts := rfl
@[simp] theorem State.setDue_egress (s : State) (t : Timer) (i : Nat) (e : Option Nat) : (s.setDue t i e).egress = s.egress := rfl
@[simp] theorem State.setDue_sram (s : State) (t : Timer) (i : Nat) (e : Option Nat) : (s.setDue t i e).sram = s.sram := rfl
@[simp] theorem State.setDue_runs (s : State) (t : Timer) (i : Nat) (e : Option Nat) : (s.setDue t i e).runs = s.runs := rfl
@[simp] theorem State.setDue_denials (s : State) (t : Timer) (i : Nat) (e : Option Nat) : (s.setDue t i e).denials = s.denials := rfl
@[simp] theorem State.setDue_held (s : State) (t : Timer) (i : Nat) (e : Option Nat) : (s.setDue t i e).held = s.held := rfl
@[simp] theorem State.setDue_handQueue (s : State) (t : Timer) (i : Nat) (e : Option Nat) : (s.setDue t i e).handQueue = s.handQueue := rfl
@[simp] theorem State.setDue_handCmd (s : State) (t : Timer) (i : Nat) (e : Option Nat) : (s.setDue t i e).handCmd = s.handCmd := rfl
@[simp] theorem State.setDue_staging (s : State) (t : Timer) (i : Nat) (e : Option Nat) : (s.setDue t i e).staging = s.staging := rfl
@[simp] theorem State.setDue_keyMem (s : State) (t : Timer) (i : Nat) (e : Option Nat) : (s.setDue t i e).keyMem = s.keyMem := rfl
@[simp] theorem State.setDue_keyObs (s : State) (t : Timer) (i : Nat) (e : Option Nat) : (s.setDue t i e).keyObs = s.keyObs := rfl
@[simp] theorem State.setDue_header (s : State) (t : Timer) (i : Nat) (e : Option Nat) : (s.setDue t i e).header = s.header := rfl
@[simp] theorem State.setDue_early (s : State) (t : Timer) (i : Nat) (e : Option Nat) : (s.setDue t i e).early = s.early := rfl
@[simp] theorem State.setDue_image (s : State) (t : Timer) (i : Nat) (e : Option Nat) : (s.setDue t i e).image = s.image := rfl
@[simp] theorem State.setDue_canRx (s : State) (t : Timer) (i : Nat) (e : Option Nat) : (s.setDue t i e).canRx = s.canRx := rfl
@[simp] theorem State.setDue_canTx (s : State) (t : Timer) (i : Nat) (e : Option Nat) : (s.setDue t i e).canTx = s.canTx := rfl
@[simp] theorem State.setDue_canHold (s : State) (t : Timer) (i : Nat) (e : Option Nat) : (s.setDue t i e).canHold = s.canHold := rfl
@[simp] theorem State.setDue_canLast (s : State) (t : Timer) (i : Nat) (e : Option Nat) : (s.setDue t i e).canLast = s.canLast := rfl
@[simp] theorem State.setDue_canClaims (s : State) (t : Timer) (i : Nat) (e : Option Nat) : (s.setDue t i e).canClaims = s.canClaims := rfl
@[simp] theorem State.setDue_peers (s : State) (t : Timer) (i : Nat) (e : Option Nat) : (s.setDue t i e).peers = s.peers := rfl
@[simp] theorem State.setDue_waiting (s : State) (t : Timer) (i : Nat) (e : Option Nat) : (s.setDue t i e).waiting = s.waiting := rfl
@[simp] theorem State.setDue_colony (s : State) (t : Timer) (i : Nat) (e : Option Nat) : (s.setDue t i e).colony = s.colony := rfl
@[simp] theorem State.setDue_replies (s : State) (t : Timer) (i : Nat) (e : Option Nat) : (s.setDue t i e).replies = s.replies := rfl
@[simp] theorem State.setDue_out (s : State) (t : Timer) (i : Nat) (e : Option Nat) : (s.setDue t i e).out = s.out := rfl
@[simp] theorem State.setDue_free (s : State) (t : Timer) (i : Nat) (e : Option Nat) : (s.setDue t i e).free = s.free := rfl
@[simp] theorem State.setDue_pending (s : State) (t : Timer) (i : Nat) (e : Option Nat) : (s.setDue t i e).pending = s.pending := rfl

/-! ### close -/

@[simp] theorem State.close_now (s : State) (t : Timer) (i : Nat) : (s.close t i).now = s.now := rfl
@[simp] theorem State.close_regs (s : State) (t : Timer) (i : Nat) : (s.close t i).regs = s.regs := rfl
@[simp] theorem State.close_vars (s : State) (t : Timer) (i : Nat) : (s.close t i).vars = s.vars := rfl
@[simp] theorem State.close_module (s : State) (t : Timer) (i : Nat) : (s.close t i).module = s.module := rfl
@[simp] theorem State.close_stages (s : State) (t : Timer) (i : Nat) : (s.close t i).stages = s.stages := rfl
@[simp] theorem State.close_causes (s : State) (t : Timer) (i : Nat) : (s.close t i).causes = s.causes := rfl
@[simp] theorem State.close_deferred (s : State) (t : Timer) (i : Nat) : (s.close t i).deferred = s.deferred := rfl
@[simp] theorem State.close_queue (s : State) (t : Timer) (i : Nat) : (s.close t i).queue = s.queue := rfl
@[simp] theorem State.close_log (s : State) (t : Timer) (i : Nat) : (s.close t i).log = s.log := rfl
@[simp] theorem State.close_kept (s : State) (t : Timer) (i : Nat) : (s.close t i).kept = s.kept := rfl
@[simp] theorem State.close_challenges (s : State) (t : Timer) (i : Nat) : (s.close t i).challenges = s.challenges := rfl
@[simp] theorem State.close_windows (s : State) (t : Timer) (i : Nat) : (s.close t i).windows = s.windows := rfl
@[simp] theorem State.close_edges (s : State) (t : Timer) (i : Nat) : (s.close t i).edges = s.edges := rfl
@[simp] theorem State.close_dmaFifo (s : State) (t : Timer) (i : Nat) : (s.close t i).dmaFifo = s.dmaFifo := rfl
@[simp] theorem State.close_pipe (s : State) (t : Timer) (i : Nat) : (s.close t i).pipe = s.pipe := rfl
@[simp] theorem State.close_cycleFaults (s : State) (t : Timer) (i : Nat) : (s.close t i).cycleFaults = s.cycleFaults := rfl
@[simp] theorem State.close_release (s : State) (t : Timer) (i : Nat) : (s.close t i).release = s.release := rfl
@[simp] theorem State.close_accepts (s : State) (t : Timer) (i : Nat) : (s.close t i).accepts = s.accepts := rfl
@[simp] theorem State.close_egress (s : State) (t : Timer) (i : Nat) : (s.close t i).egress = s.egress := rfl
@[simp] theorem State.close_sram (s : State) (t : Timer) (i : Nat) : (s.close t i).sram = s.sram := rfl
@[simp] theorem State.close_runs (s : State) (t : Timer) (i : Nat) : (s.close t i).runs = s.runs := rfl
@[simp] theorem State.close_denials (s : State) (t : Timer) (i : Nat) : (s.close t i).denials = s.denials := rfl
@[simp] theorem State.close_held (s : State) (t : Timer) (i : Nat) : (s.close t i).held = s.held := rfl
@[simp] theorem State.close_handQueue (s : State) (t : Timer) (i : Nat) : (s.close t i).handQueue = s.handQueue := rfl
@[simp] theorem State.close_handCmd (s : State) (t : Timer) (i : Nat) : (s.close t i).handCmd = s.handCmd := rfl
@[simp] theorem State.close_staging (s : State) (t : Timer) (i : Nat) : (s.close t i).staging = s.staging := rfl
@[simp] theorem State.close_keyMem (s : State) (t : Timer) (i : Nat) : (s.close t i).keyMem = s.keyMem := rfl
@[simp] theorem State.close_keyObs (s : State) (t : Timer) (i : Nat) : (s.close t i).keyObs = s.keyObs := rfl
@[simp] theorem State.close_header (s : State) (t : Timer) (i : Nat) : (s.close t i).header = s.header := rfl
@[simp] theorem State.close_early (s : State) (t : Timer) (i : Nat) : (s.close t i).early = s.early := rfl
@[simp] theorem State.close_image (s : State) (t : Timer) (i : Nat) : (s.close t i).image = s.image := rfl
@[simp] theorem State.close_canRx (s : State) (t : Timer) (i : Nat) : (s.close t i).canRx = s.canRx := rfl
@[simp] theorem State.close_canTx (s : State) (t : Timer) (i : Nat) : (s.close t i).canTx = s.canTx := rfl
@[simp] theorem State.close_canHold (s : State) (t : Timer) (i : Nat) : (s.close t i).canHold = s.canHold := rfl
@[simp] theorem State.close_canLast (s : State) (t : Timer) (i : Nat) : (s.close t i).canLast = s.canLast := rfl
@[simp] theorem State.close_canClaims (s : State) (t : Timer) (i : Nat) : (s.close t i).canClaims = s.canClaims := rfl
@[simp] theorem State.close_peers (s : State) (t : Timer) (i : Nat) : (s.close t i).peers = s.peers := rfl
@[simp] theorem State.close_waiting (s : State) (t : Timer) (i : Nat) : (s.close t i).waiting = s.waiting := rfl
@[simp] theorem State.close_colony (s : State) (t : Timer) (i : Nat) : (s.close t i).colony = s.colony := rfl
@[simp] theorem State.close_replies (s : State) (t : Timer) (i : Nat) : (s.close t i).replies = s.replies := rfl
@[simp] theorem State.close_out (s : State) (t : Timer) (i : Nat) : (s.close t i).out = s.out := rfl
@[simp] theorem State.close_free (s : State) (t : Timer) (i : Nat) : (s.close t i).free = s.free := rfl
@[simp] theorem State.close_pending (s : State) (t : Timer) (i : Nat) : (s.close t i).pending = s.pending := rfl

/-! ### openBy -/

@[simp] theorem State.openBy_now (s : State) (c : Nat) (t : Timer) (i len : Nat) : (s.openBy c t i len).now = s.now := rfl
@[simp] theorem State.openBy_regs (s : State) (c : Nat) (t : Timer) (i len : Nat) : (s.openBy c t i len).regs = s.regs := rfl
@[simp] theorem State.openBy_vars (s : State) (c : Nat) (t : Timer) (i len : Nat) : (s.openBy c t i len).vars = s.vars := rfl
@[simp] theorem State.openBy_module (s : State) (c : Nat) (t : Timer) (i len : Nat) : (s.openBy c t i len).module = s.module := rfl
@[simp] theorem State.openBy_stages (s : State) (c : Nat) (t : Timer) (i len : Nat) : (s.openBy c t i len).stages = s.stages := rfl
@[simp] theorem State.openBy_causes (s : State) (c : Nat) (t : Timer) (i len : Nat) : (s.openBy c t i len).causes = s.causes := rfl
@[simp] theorem State.openBy_deferred (s : State) (c : Nat) (t : Timer) (i len : Nat) : (s.openBy c t i len).deferred = s.deferred := rfl
@[simp] theorem State.openBy_queue (s : State) (c : Nat) (t : Timer) (i len : Nat) : (s.openBy c t i len).queue = s.queue := rfl
@[simp] theorem State.openBy_log (s : State) (c : Nat) (t : Timer) (i len : Nat) : (s.openBy c t i len).log = s.log := rfl
@[simp] theorem State.openBy_kept (s : State) (c : Nat) (t : Timer) (i len : Nat) : (s.openBy c t i len).kept = s.kept := rfl
@[simp] theorem State.openBy_challenges (s : State) (c : Nat) (t : Timer) (i len : Nat) : (s.openBy c t i len).challenges = s.challenges := rfl
@[simp] theorem State.openBy_windows (s : State) (c : Nat) (t : Timer) (i len : Nat) : (s.openBy c t i len).windows = s.windows := rfl
@[simp] theorem State.openBy_edges (s : State) (c : Nat) (t : Timer) (i len : Nat) : (s.openBy c t i len).edges = s.edges := rfl
@[simp] theorem State.openBy_dmaFifo (s : State) (c : Nat) (t : Timer) (i len : Nat) : (s.openBy c t i len).dmaFifo = s.dmaFifo := rfl
@[simp] theorem State.openBy_pipe (s : State) (c : Nat) (t : Timer) (i len : Nat) : (s.openBy c t i len).pipe = s.pipe := rfl
@[simp] theorem State.openBy_cycleFaults (s : State) (c : Nat) (t : Timer) (i len : Nat) : (s.openBy c t i len).cycleFaults = s.cycleFaults := rfl
@[simp] theorem State.openBy_release (s : State) (c : Nat) (t : Timer) (i len : Nat) : (s.openBy c t i len).release = s.release := rfl
@[simp] theorem State.openBy_accepts (s : State) (c : Nat) (t : Timer) (i len : Nat) : (s.openBy c t i len).accepts = s.accepts := rfl
@[simp] theorem State.openBy_egress (s : State) (c : Nat) (t : Timer) (i len : Nat) : (s.openBy c t i len).egress = s.egress := rfl
@[simp] theorem State.openBy_sram (s : State) (c : Nat) (t : Timer) (i len : Nat) : (s.openBy c t i len).sram = s.sram := rfl
@[simp] theorem State.openBy_runs (s : State) (c : Nat) (t : Timer) (i len : Nat) : (s.openBy c t i len).runs = s.runs := rfl
@[simp] theorem State.openBy_denials (s : State) (c : Nat) (t : Timer) (i len : Nat) : (s.openBy c t i len).denials = s.denials := rfl
@[simp] theorem State.openBy_held (s : State) (c : Nat) (t : Timer) (i len : Nat) : (s.openBy c t i len).held = s.held := rfl
@[simp] theorem State.openBy_handQueue (s : State) (c : Nat) (t : Timer) (i len : Nat) : (s.openBy c t i len).handQueue = s.handQueue := rfl
@[simp] theorem State.openBy_handCmd (s : State) (c : Nat) (t : Timer) (i len : Nat) : (s.openBy c t i len).handCmd = s.handCmd := rfl
@[simp] theorem State.openBy_staging (s : State) (c : Nat) (t : Timer) (i len : Nat) : (s.openBy c t i len).staging = s.staging := rfl
@[simp] theorem State.openBy_keyMem (s : State) (c : Nat) (t : Timer) (i len : Nat) : (s.openBy c t i len).keyMem = s.keyMem := rfl
@[simp] theorem State.openBy_keyObs (s : State) (c : Nat) (t : Timer) (i len : Nat) : (s.openBy c t i len).keyObs = s.keyObs := rfl
@[simp] theorem State.openBy_header (s : State) (c : Nat) (t : Timer) (i len : Nat) : (s.openBy c t i len).header = s.header := rfl
@[simp] theorem State.openBy_early (s : State) (c : Nat) (t : Timer) (i len : Nat) : (s.openBy c t i len).early = s.early := rfl
@[simp] theorem State.openBy_image (s : State) (c : Nat) (t : Timer) (i len : Nat) : (s.openBy c t i len).image = s.image := rfl
@[simp] theorem State.openBy_canRx (s : State) (c : Nat) (t : Timer) (i len : Nat) : (s.openBy c t i len).canRx = s.canRx := rfl
@[simp] theorem State.openBy_canTx (s : State) (c : Nat) (t : Timer) (i len : Nat) : (s.openBy c t i len).canTx = s.canTx := rfl
@[simp] theorem State.openBy_canHold (s : State) (c : Nat) (t : Timer) (i len : Nat) : (s.openBy c t i len).canHold = s.canHold := rfl
@[simp] theorem State.openBy_canLast (s : State) (c : Nat) (t : Timer) (i len : Nat) : (s.openBy c t i len).canLast = s.canLast := rfl
@[simp] theorem State.openBy_canClaims (s : State) (c : Nat) (t : Timer) (i len : Nat) : (s.openBy c t i len).canClaims = s.canClaims := rfl
@[simp] theorem State.openBy_peers (s : State) (c : Nat) (t : Timer) (i len : Nat) : (s.openBy c t i len).peers = s.peers := rfl
@[simp] theorem State.openBy_waiting (s : State) (c : Nat) (t : Timer) (i len : Nat) : (s.openBy c t i len).waiting = s.waiting := rfl
@[simp] theorem State.openBy_colony (s : State) (c : Nat) (t : Timer) (i len : Nat) : (s.openBy c t i len).colony = s.colony := rfl
@[simp] theorem State.openBy_replies (s : State) (c : Nat) (t : Timer) (i len : Nat) : (s.openBy c t i len).replies = s.replies := rfl
@[simp] theorem State.openBy_out (s : State) (c : Nat) (t : Timer) (i len : Nat) : (s.openBy c t i len).out = s.out := rfl
@[simp] theorem State.openBy_free (s : State) (c : Nat) (t : Timer) (i len : Nat) : (s.openBy c t i len).free = s.free := rfl
@[simp] theorem State.openBy_pending (s : State) (c : Nat) (t : Timer) (i len : Nat) : (s.openBy c t i len).pending = s.pending := rfl

/-! ### openSlow -/

@[simp] theorem State.openSlow_now (s : State) (t : Timer) (i len : Nat) : (s.openSlow t i len).now = s.now := rfl
@[simp] theorem State.openSlow_regs (s : State) (t : Timer) (i len : Nat) : (s.openSlow t i len).regs = s.regs := rfl
@[simp] theorem State.openSlow_vars (s : State) (t : Timer) (i len : Nat) : (s.openSlow t i len).vars = s.vars := rfl
@[simp] theorem State.openSlow_module (s : State) (t : Timer) (i len : Nat) : (s.openSlow t i len).module = s.module := rfl
@[simp] theorem State.openSlow_stages (s : State) (t : Timer) (i len : Nat) : (s.openSlow t i len).stages = s.stages := rfl
@[simp] theorem State.openSlow_causes (s : State) (t : Timer) (i len : Nat) : (s.openSlow t i len).causes = s.causes := rfl
@[simp] theorem State.openSlow_deferred (s : State) (t : Timer) (i len : Nat) : (s.openSlow t i len).deferred = s.deferred := rfl
@[simp] theorem State.openSlow_queue (s : State) (t : Timer) (i len : Nat) : (s.openSlow t i len).queue = s.queue := rfl
@[simp] theorem State.openSlow_log (s : State) (t : Timer) (i len : Nat) : (s.openSlow t i len).log = s.log := rfl
@[simp] theorem State.openSlow_kept (s : State) (t : Timer) (i len : Nat) : (s.openSlow t i len).kept = s.kept := rfl
@[simp] theorem State.openSlow_challenges (s : State) (t : Timer) (i len : Nat) : (s.openSlow t i len).challenges = s.challenges := rfl
@[simp] theorem State.openSlow_windows (s : State) (t : Timer) (i len : Nat) : (s.openSlow t i len).windows = s.windows := rfl
@[simp] theorem State.openSlow_edges (s : State) (t : Timer) (i len : Nat) : (s.openSlow t i len).edges = s.edges := rfl
@[simp] theorem State.openSlow_dmaFifo (s : State) (t : Timer) (i len : Nat) : (s.openSlow t i len).dmaFifo = s.dmaFifo := rfl
@[simp] theorem State.openSlow_pipe (s : State) (t : Timer) (i len : Nat) : (s.openSlow t i len).pipe = s.pipe := rfl
@[simp] theorem State.openSlow_cycleFaults (s : State) (t : Timer) (i len : Nat) : (s.openSlow t i len).cycleFaults = s.cycleFaults := rfl
@[simp] theorem State.openSlow_release (s : State) (t : Timer) (i len : Nat) : (s.openSlow t i len).release = s.release := rfl
@[simp] theorem State.openSlow_accepts (s : State) (t : Timer) (i len : Nat) : (s.openSlow t i len).accepts = s.accepts := rfl
@[simp] theorem State.openSlow_egress (s : State) (t : Timer) (i len : Nat) : (s.openSlow t i len).egress = s.egress := rfl
@[simp] theorem State.openSlow_sram (s : State) (t : Timer) (i len : Nat) : (s.openSlow t i len).sram = s.sram := rfl
@[simp] theorem State.openSlow_runs (s : State) (t : Timer) (i len : Nat) : (s.openSlow t i len).runs = s.runs := rfl
@[simp] theorem State.openSlow_denials (s : State) (t : Timer) (i len : Nat) : (s.openSlow t i len).denials = s.denials := rfl
@[simp] theorem State.openSlow_held (s : State) (t : Timer) (i len : Nat) : (s.openSlow t i len).held = s.held := rfl
@[simp] theorem State.openSlow_handQueue (s : State) (t : Timer) (i len : Nat) : (s.openSlow t i len).handQueue = s.handQueue := rfl
@[simp] theorem State.openSlow_handCmd (s : State) (t : Timer) (i len : Nat) : (s.openSlow t i len).handCmd = s.handCmd := rfl
@[simp] theorem State.openSlow_staging (s : State) (t : Timer) (i len : Nat) : (s.openSlow t i len).staging = s.staging := rfl
@[simp] theorem State.openSlow_keyMem (s : State) (t : Timer) (i len : Nat) : (s.openSlow t i len).keyMem = s.keyMem := rfl
@[simp] theorem State.openSlow_keyObs (s : State) (t : Timer) (i len : Nat) : (s.openSlow t i len).keyObs = s.keyObs := rfl
@[simp] theorem State.openSlow_header (s : State) (t : Timer) (i len : Nat) : (s.openSlow t i len).header = s.header := rfl
@[simp] theorem State.openSlow_early (s : State) (t : Timer) (i len : Nat) : (s.openSlow t i len).early = s.early := rfl
@[simp] theorem State.openSlow_image (s : State) (t : Timer) (i len : Nat) : (s.openSlow t i len).image = s.image := rfl
@[simp] theorem State.openSlow_canRx (s : State) (t : Timer) (i len : Nat) : (s.openSlow t i len).canRx = s.canRx := rfl
@[simp] theorem State.openSlow_canTx (s : State) (t : Timer) (i len : Nat) : (s.openSlow t i len).canTx = s.canTx := rfl
@[simp] theorem State.openSlow_canHold (s : State) (t : Timer) (i len : Nat) : (s.openSlow t i len).canHold = s.canHold := rfl
@[simp] theorem State.openSlow_canLast (s : State) (t : Timer) (i len : Nat) : (s.openSlow t i len).canLast = s.canLast := rfl
@[simp] theorem State.openSlow_canClaims (s : State) (t : Timer) (i len : Nat) : (s.openSlow t i len).canClaims = s.canClaims := rfl
@[simp] theorem State.openSlow_peers (s : State) (t : Timer) (i len : Nat) : (s.openSlow t i len).peers = s.peers := rfl
@[simp] theorem State.openSlow_waiting (s : State) (t : Timer) (i len : Nat) : (s.openSlow t i len).waiting = s.waiting := rfl
@[simp] theorem State.openSlow_colony (s : State) (t : Timer) (i len : Nat) : (s.openSlow t i len).colony = s.colony := rfl
@[simp] theorem State.openSlow_replies (s : State) (t : Timer) (i len : Nat) : (s.openSlow t i len).replies = s.replies := rfl
@[simp] theorem State.openSlow_out (s : State) (t : Timer) (i len : Nat) : (s.openSlow t i len).out = s.out := rfl
@[simp] theorem State.openSlow_free (s : State) (t : Timer) (i len : Nat) : (s.openSlow t i len).free = s.free := rfl
@[simp] theorem State.openSlow_pending (s : State) (t : Timer) (i len : Nat) : (s.openSlow t i len).pending = s.pending := rfl

/-! ### openLoop -/

@[simp] theorem State.openLoop_now (s : State) (t : Timer) (i len : Nat) : (s.openLoop t i len).now = s.now := rfl
@[simp] theorem State.openLoop_regs (s : State) (t : Timer) (i len : Nat) : (s.openLoop t i len).regs = s.regs := rfl
@[simp] theorem State.openLoop_vars (s : State) (t : Timer) (i len : Nat) : (s.openLoop t i len).vars = s.vars := rfl
@[simp] theorem State.openLoop_module (s : State) (t : Timer) (i len : Nat) : (s.openLoop t i len).module = s.module := rfl
@[simp] theorem State.openLoop_stages (s : State) (t : Timer) (i len : Nat) : (s.openLoop t i len).stages = s.stages := rfl
@[simp] theorem State.openLoop_causes (s : State) (t : Timer) (i len : Nat) : (s.openLoop t i len).causes = s.causes := rfl
@[simp] theorem State.openLoop_deferred (s : State) (t : Timer) (i len : Nat) : (s.openLoop t i len).deferred = s.deferred := rfl
@[simp] theorem State.openLoop_queue (s : State) (t : Timer) (i len : Nat) : (s.openLoop t i len).queue = s.queue := rfl
@[simp] theorem State.openLoop_log (s : State) (t : Timer) (i len : Nat) : (s.openLoop t i len).log = s.log := rfl
@[simp] theorem State.openLoop_kept (s : State) (t : Timer) (i len : Nat) : (s.openLoop t i len).kept = s.kept := rfl
@[simp] theorem State.openLoop_challenges (s : State) (t : Timer) (i len : Nat) : (s.openLoop t i len).challenges = s.challenges := rfl
@[simp] theorem State.openLoop_windows (s : State) (t : Timer) (i len : Nat) : (s.openLoop t i len).windows = s.windows := rfl
@[simp] theorem State.openLoop_edges (s : State) (t : Timer) (i len : Nat) : (s.openLoop t i len).edges = s.edges := rfl
@[simp] theorem State.openLoop_dmaFifo (s : State) (t : Timer) (i len : Nat) : (s.openLoop t i len).dmaFifo = s.dmaFifo := rfl
@[simp] theorem State.openLoop_pipe (s : State) (t : Timer) (i len : Nat) : (s.openLoop t i len).pipe = s.pipe := rfl
@[simp] theorem State.openLoop_cycleFaults (s : State) (t : Timer) (i len : Nat) : (s.openLoop t i len).cycleFaults = s.cycleFaults := rfl
@[simp] theorem State.openLoop_release (s : State) (t : Timer) (i len : Nat) : (s.openLoop t i len).release = s.release := rfl
@[simp] theorem State.openLoop_accepts (s : State) (t : Timer) (i len : Nat) : (s.openLoop t i len).accepts = s.accepts := rfl
@[simp] theorem State.openLoop_egress (s : State) (t : Timer) (i len : Nat) : (s.openLoop t i len).egress = s.egress := rfl
@[simp] theorem State.openLoop_sram (s : State) (t : Timer) (i len : Nat) : (s.openLoop t i len).sram = s.sram := rfl
@[simp] theorem State.openLoop_runs (s : State) (t : Timer) (i len : Nat) : (s.openLoop t i len).runs = s.runs := rfl
@[simp] theorem State.openLoop_denials (s : State) (t : Timer) (i len : Nat) : (s.openLoop t i len).denials = s.denials := rfl
@[simp] theorem State.openLoop_held (s : State) (t : Timer) (i len : Nat) : (s.openLoop t i len).held = s.held := rfl
@[simp] theorem State.openLoop_handQueue (s : State) (t : Timer) (i len : Nat) : (s.openLoop t i len).handQueue = s.handQueue := rfl
@[simp] theorem State.openLoop_handCmd (s : State) (t : Timer) (i len : Nat) : (s.openLoop t i len).handCmd = s.handCmd := rfl
@[simp] theorem State.openLoop_staging (s : State) (t : Timer) (i len : Nat) : (s.openLoop t i len).staging = s.staging := rfl
@[simp] theorem State.openLoop_keyMem (s : State) (t : Timer) (i len : Nat) : (s.openLoop t i len).keyMem = s.keyMem := rfl
@[simp] theorem State.openLoop_keyObs (s : State) (t : Timer) (i len : Nat) : (s.openLoop t i len).keyObs = s.keyObs := rfl
@[simp] theorem State.openLoop_header (s : State) (t : Timer) (i len : Nat) : (s.openLoop t i len).header = s.header := rfl
@[simp] theorem State.openLoop_early (s : State) (t : Timer) (i len : Nat) : (s.openLoop t i len).early = s.early := rfl
@[simp] theorem State.openLoop_image (s : State) (t : Timer) (i len : Nat) : (s.openLoop t i len).image = s.image := rfl
@[simp] theorem State.openLoop_canRx (s : State) (t : Timer) (i len : Nat) : (s.openLoop t i len).canRx = s.canRx := rfl
@[simp] theorem State.openLoop_canTx (s : State) (t : Timer) (i len : Nat) : (s.openLoop t i len).canTx = s.canTx := rfl
@[simp] theorem State.openLoop_canHold (s : State) (t : Timer) (i len : Nat) : (s.openLoop t i len).canHold = s.canHold := rfl
@[simp] theorem State.openLoop_canLast (s : State) (t : Timer) (i len : Nat) : (s.openLoop t i len).canLast = s.canLast := rfl
@[simp] theorem State.openLoop_canClaims (s : State) (t : Timer) (i len : Nat) : (s.openLoop t i len).canClaims = s.canClaims := rfl
@[simp] theorem State.openLoop_peers (s : State) (t : Timer) (i len : Nat) : (s.openLoop t i len).peers = s.peers := rfl
@[simp] theorem State.openLoop_waiting (s : State) (t : Timer) (i len : Nat) : (s.openLoop t i len).waiting = s.waiting := rfl
@[simp] theorem State.openLoop_colony (s : State) (t : Timer) (i len : Nat) : (s.openLoop t i len).colony = s.colony := rfl
@[simp] theorem State.openLoop_replies (s : State) (t : Timer) (i len : Nat) : (s.openLoop t i len).replies = s.replies := rfl
@[simp] theorem State.openLoop_out (s : State) (t : Timer) (i len : Nat) : (s.openLoop t i len).out = s.out := rfl
@[simp] theorem State.openLoop_free (s : State) (t : Timer) (i len : Nat) : (s.openLoop t i len).free = s.free := rfl
@[simp] theorem State.openLoop_pending (s : State) (t : Timer) (i len : Nat) : (s.openLoop t i len).pending = s.pending := rfl

/-! ### setStg -/

@[simp] theorem State.setStg_now (s : State) (t : Stage) (c : StageCtl) : (s.setStg t c).now = s.now := rfl
@[simp] theorem State.setStg_regs (s : State) (t : Stage) (c : StageCtl) : (s.setStg t c).regs = s.regs := rfl
@[simp] theorem State.setStg_vars (s : State) (t : Stage) (c : StageCtl) : (s.setStg t c).vars = s.vars := rfl
@[simp] theorem State.setStg_timers (s : State) (t : Stage) (c : StageCtl) : (s.setStg t c).timers = s.timers := rfl
@[simp] theorem State.setStg_module (s : State) (t : Stage) (c : StageCtl) : (s.setStg t c).module = s.module := rfl
@[simp] theorem State.setStg_causes (s : State) (t : Stage) (c : StageCtl) : (s.setStg t c).causes = s.causes := rfl
@[simp] theorem State.setStg_deferred (s : State) (t : Stage) (c : StageCtl) : (s.setStg t c).deferred = s.deferred := rfl
@[simp] theorem State.setStg_queue (s : State) (t : Stage) (c : StageCtl) : (s.setStg t c).queue = s.queue := rfl
@[simp] theorem State.setStg_log (s : State) (t : Stage) (c : StageCtl) : (s.setStg t c).log = s.log := rfl
@[simp] theorem State.setStg_kept (s : State) (t : Stage) (c : StageCtl) : (s.setStg t c).kept = s.kept := rfl
@[simp] theorem State.setStg_challenges (s : State) (t : Stage) (c : StageCtl) : (s.setStg t c).challenges = s.challenges := rfl
@[simp] theorem State.setStg_windows (s : State) (t : Stage) (c : StageCtl) : (s.setStg t c).windows = s.windows := rfl
@[simp] theorem State.setStg_edges (s : State) (t : Stage) (c : StageCtl) : (s.setStg t c).edges = s.edges := rfl
@[simp] theorem State.setStg_dmaFifo (s : State) (t : Stage) (c : StageCtl) : (s.setStg t c).dmaFifo = s.dmaFifo := rfl
@[simp] theorem State.setStg_pipe (s : State) (t : Stage) (c : StageCtl) : (s.setStg t c).pipe = s.pipe := rfl
@[simp] theorem State.setStg_cycleFaults (s : State) (t : Stage) (c : StageCtl) : (s.setStg t c).cycleFaults = s.cycleFaults := rfl
@[simp] theorem State.setStg_release (s : State) (t : Stage) (c : StageCtl) : (s.setStg t c).release = s.release := rfl
@[simp] theorem State.setStg_accepts (s : State) (t : Stage) (c : StageCtl) : (s.setStg t c).accepts = s.accepts := rfl
@[simp] theorem State.setStg_egress (s : State) (t : Stage) (c : StageCtl) : (s.setStg t c).egress = s.egress := rfl
@[simp] theorem State.setStg_sram (s : State) (t : Stage) (c : StageCtl) : (s.setStg t c).sram = s.sram := rfl
@[simp] theorem State.setStg_runs (s : State) (t : Stage) (c : StageCtl) : (s.setStg t c).runs = s.runs := rfl
@[simp] theorem State.setStg_denials (s : State) (t : Stage) (c : StageCtl) : (s.setStg t c).denials = s.denials := rfl
@[simp] theorem State.setStg_held (s : State) (t : Stage) (c : StageCtl) : (s.setStg t c).held = s.held := rfl
@[simp] theorem State.setStg_handQueue (s : State) (t : Stage) (c : StageCtl) : (s.setStg t c).handQueue = s.handQueue := rfl
@[simp] theorem State.setStg_handCmd (s : State) (t : Stage) (c : StageCtl) : (s.setStg t c).handCmd = s.handCmd := rfl
@[simp] theorem State.setStg_staging (s : State) (t : Stage) (c : StageCtl) : (s.setStg t c).staging = s.staging := rfl
@[simp] theorem State.setStg_keyMem (s : State) (t : Stage) (c : StageCtl) : (s.setStg t c).keyMem = s.keyMem := rfl
@[simp] theorem State.setStg_keyObs (s : State) (t : Stage) (c : StageCtl) : (s.setStg t c).keyObs = s.keyObs := rfl
@[simp] theorem State.setStg_header (s : State) (t : Stage) (c : StageCtl) : (s.setStg t c).header = s.header := rfl
@[simp] theorem State.setStg_early (s : State) (t : Stage) (c : StageCtl) : (s.setStg t c).early = s.early := rfl
@[simp] theorem State.setStg_image (s : State) (t : Stage) (c : StageCtl) : (s.setStg t c).image = s.image := rfl
@[simp] theorem State.setStg_canRx (s : State) (t : Stage) (c : StageCtl) : (s.setStg t c).canRx = s.canRx := rfl
@[simp] theorem State.setStg_canTx (s : State) (t : Stage) (c : StageCtl) : (s.setStg t c).canTx = s.canTx := rfl
@[simp] theorem State.setStg_canHold (s : State) (t : Stage) (c : StageCtl) : (s.setStg t c).canHold = s.canHold := rfl
@[simp] theorem State.setStg_canLast (s : State) (t : Stage) (c : StageCtl) : (s.setStg t c).canLast = s.canLast := rfl
@[simp] theorem State.setStg_canClaims (s : State) (t : Stage) (c : StageCtl) : (s.setStg t c).canClaims = s.canClaims := rfl
@[simp] theorem State.setStg_peers (s : State) (t : Stage) (c : StageCtl) : (s.setStg t c).peers = s.peers := rfl
@[simp] theorem State.setStg_waiting (s : State) (t : Stage) (c : StageCtl) : (s.setStg t c).waiting = s.waiting := rfl
@[simp] theorem State.setStg_colony (s : State) (t : Stage) (c : StageCtl) : (s.setStg t c).colony = s.colony := rfl
@[simp] theorem State.setStg_replies (s : State) (t : Stage) (c : StageCtl) : (s.setStg t c).replies = s.replies := rfl
@[simp] theorem State.setStg_out (s : State) (t : Stage) (c : StageCtl) : (s.setStg t c).out = s.out := rfl
@[simp] theorem State.setStg_free (s : State) (t : Stage) (c : StageCtl) : (s.setStg t c).free = s.free := rfl
@[simp] theorem State.setStg_pending (s : State) (t : Stage) (c : StageCtl) : (s.setStg t c).pending = s.pending := rfl

/-! ### emit -/

@[simp] theorem State.emit_now (s : State) (o : Out) : (s.emit o).now = s.now := rfl
@[simp] theorem State.emit_regs (s : State) (o : Out) : (s.emit o).regs = s.regs := rfl
@[simp] theorem State.emit_vars (s : State) (o : Out) : (s.emit o).vars = s.vars := rfl
@[simp] theorem State.emit_timers (s : State) (o : Out) : (s.emit o).timers = s.timers := rfl
@[simp] theorem State.emit_module (s : State) (o : Out) : (s.emit o).module = s.module := rfl
@[simp] theorem State.emit_stages (s : State) (o : Out) : (s.emit o).stages = s.stages := rfl
@[simp] theorem State.emit_causes (s : State) (o : Out) : (s.emit o).causes = s.causes := rfl
@[simp] theorem State.emit_deferred (s : State) (o : Out) : (s.emit o).deferred = s.deferred := rfl
@[simp] theorem State.emit_queue (s : State) (o : Out) : (s.emit o).queue = s.queue := rfl
@[simp] theorem State.emit_log (s : State) (o : Out) : (s.emit o).log = s.log := rfl
@[simp] theorem State.emit_kept (s : State) (o : Out) : (s.emit o).kept = s.kept := rfl
@[simp] theorem State.emit_challenges (s : State) (o : Out) : (s.emit o).challenges = s.challenges := rfl
@[simp] theorem State.emit_windows (s : State) (o : Out) : (s.emit o).windows = s.windows := rfl
@[simp] theorem State.emit_edges (s : State) (o : Out) : (s.emit o).edges = s.edges := rfl
@[simp] theorem State.emit_dmaFifo (s : State) (o : Out) : (s.emit o).dmaFifo = s.dmaFifo := rfl
@[simp] theorem State.emit_pipe (s : State) (o : Out) : (s.emit o).pipe = s.pipe := rfl
@[simp] theorem State.emit_cycleFaults (s : State) (o : Out) : (s.emit o).cycleFaults = s.cycleFaults := rfl
@[simp] theorem State.emit_release (s : State) (o : Out) : (s.emit o).release = s.release := rfl
@[simp] theorem State.emit_accepts (s : State) (o : Out) : (s.emit o).accepts = s.accepts := rfl
@[simp] theorem State.emit_egress (s : State) (o : Out) : (s.emit o).egress = s.egress := rfl
@[simp] theorem State.emit_sram (s : State) (o : Out) : (s.emit o).sram = s.sram := rfl
@[simp] theorem State.emit_runs (s : State) (o : Out) : (s.emit o).runs = s.runs := rfl
@[simp] theorem State.emit_denials (s : State) (o : Out) : (s.emit o).denials = s.denials := rfl
@[simp] theorem State.emit_held (s : State) (o : Out) : (s.emit o).held = s.held := rfl
@[simp] theorem State.emit_handQueue (s : State) (o : Out) : (s.emit o).handQueue = s.handQueue := rfl
@[simp] theorem State.emit_handCmd (s : State) (o : Out) : (s.emit o).handCmd = s.handCmd := rfl
@[simp] theorem State.emit_staging (s : State) (o : Out) : (s.emit o).staging = s.staging := rfl
@[simp] theorem State.emit_keyMem (s : State) (o : Out) : (s.emit o).keyMem = s.keyMem := rfl
@[simp] theorem State.emit_keyObs (s : State) (o : Out) : (s.emit o).keyObs = s.keyObs := rfl
@[simp] theorem State.emit_header (s : State) (o : Out) : (s.emit o).header = s.header := rfl
@[simp] theorem State.emit_early (s : State) (o : Out) : (s.emit o).early = s.early := rfl
@[simp] theorem State.emit_image (s : State) (o : Out) : (s.emit o).image = s.image := rfl
@[simp] theorem State.emit_canRx (s : State) (o : Out) : (s.emit o).canRx = s.canRx := rfl
@[simp] theorem State.emit_canTx (s : State) (o : Out) : (s.emit o).canTx = s.canTx := rfl
@[simp] theorem State.emit_canHold (s : State) (o : Out) : (s.emit o).canHold = s.canHold := rfl
@[simp] theorem State.emit_canLast (s : State) (o : Out) : (s.emit o).canLast = s.canLast := rfl
@[simp] theorem State.emit_canClaims (s : State) (o : Out) : (s.emit o).canClaims = s.canClaims := rfl
@[simp] theorem State.emit_peers (s : State) (o : Out) : (s.emit o).peers = s.peers := rfl
@[simp] theorem State.emit_waiting (s : State) (o : Out) : (s.emit o).waiting = s.waiting := rfl
@[simp] theorem State.emit_colony (s : State) (o : Out) : (s.emit o).colony = s.colony := rfl
@[simp] theorem State.emit_replies (s : State) (o : Out) : (s.emit o).replies = s.replies := rfl
@[simp] theorem State.emit_free (s : State) (o : Out) : (s.emit o).free = s.free := rfl
@[simp] theorem State.emit_pending (s : State) (o : Out) : (s.emit o).pending = s.pending := rfl

/-! ### The field that an update writes -/

theorem State.setWord_regs (s : State) (k : Nat) (w : Word) : (s.setWord k w).regs = Store.set Map.reset s.regs k w := rfl
theorem State.setV_vars (s : State) (x : Var) (i : Nat) (v : Int) :
    (s.setV x i v).vars = Store.set State.varReset s.vars (x.key i) v := rfl
theorem State.setDue_timers (s : State) (t : Timer) (i : Nat) (e : Option Nat) :
    (s.setDue t i e).timers = Store.set State.timerReset s.timers (t.key i) e := rfl
@[simp] theorem State.emit_out (s : State) (o : Out) : (s.emit o).out = s.out ++ [o] := rfl

/-! ### Reading after writing -/

@[simp] theorem State.word_setWord_same (s : State) (k : Nat) (w : Word) : (s.setWord k w).word k = w := Store.get_set_same ..
theorem State.word_setWord_ne (s : State) {k k' : Nat} (w : Word) (h : k' ≠ k) : (s.setWord k w).word k' = s.word k' :=
  Store.get_set_ne _ _ _ h
@[simp] theorem State.v_setV_same (s : State) (x : Var) (i : Nat) (v : Int) : (s.setV x i v).v x i = v := Store.get_set_same ..
theorem State.v_setV_ne (s : State) {x y : Var} {i k : Nat} (v : Int) (h : y.key k ≠ x.key i) : (s.setV x i v).v y k = s.v y k :=
  Store.get_set_ne _ _ _ h
@[simp] theorem State.due_setDue_same (s : State) (t : Timer) (i : Nat) (e : Option Nat) : (s.setDue t i e).due t i = e :=
  Store.get_set_same ..
theorem State.due_setDue_ne (s : State) {t u : Timer} {i k : Nat} (e : Option Nat) (h : u.key k ≠ t.key i) :
    (s.setDue t i e).due u k = s.due u k := Store.get_set_ne _ _ _ h
@[simp] theorem State.due_close_same (s : State) (t : Timer) (i : Nat) : (s.close t i).due t i = none :=
  State.due_setDue_same s t i none
@[simp] theorem State.due_openBy_same (s : State) (c : Nat) (t : Timer) (i len : Nat) :
    (s.openBy c t i len).due t i = some (s.now / c * c + len) := State.due_setDue_same s t i _
@[simp] theorem State.on_setOn_same (s : State) (x : Var) (i : Nat) (b : Bool) : (s.setOn x i b).on x i = b := by
  cases b <;> simp [State.on, State.setOn]

/-- Quantities of two names, or of two instances below 65,536 of one name, have keys of their own. -/
theorem Var.key_ne_of_ctor {x y : Var} {i k : Nat} (hi : i < 65536) (hk : k < 65536) (h : x.ctorIdx ≠ y.ctorIdx) : x.key i ≠ y.key k := by
  unfold Var.key; omega
theorem Var.key_ne_of_index (x : Var) {i k : Nat} (h : i ≠ k) : x.key i ≠ x.key k := by unfold Var.key; omega
theorem Timer.key_ne_of_ctor {x y : Timer} {i k : Nat} (hi : i < 65536) (hk : k < 65536) (h : x.ctorIdx ≠ y.ctorIdx) : x.key i ≠ y.key k := by
  unfold Timer.key; omega
theorem Timer.key_ne_of_index (x : Timer) {i k : Nat} (h : i ≠ k) : x.key i ≠ x.key k := by unfold Timer.key; omega

/-- What one update of words, quantities or windows leaves of the others' reads. -/
@[simp] theorem State.v_setWord (s : State) (k : Nat) (w : Word) (x : Var) (i : Nat) : (s.setWord k w).v x i = s.v x i := rfl
@[simp] theorem State.due_setWord (s : State) (k : Nat) (w : Word) (t : Timer) (i : Nat) : (s.setWord k w).due t i = s.due t i := rfl
@[simp] theorem State.v_setF (s : State) (f : Fld) (n : Nat) (v : Int) (j : Nat) (x : Var) (i : Nat) : (s.setF f n v j).v x i = s.v x i := rfl
@[simp] theorem State.due_setF (s : State) (f : Fld) (n : Nat) (v : Int) (j : Nat) (t : Timer) (i : Nat) :
    (s.setF f n v j).due t i = s.due t i := rfl
@[simp] theorem State.word_setV (s : State) (x : Var) (i : Nat) (v : Int) (k : Nat) : (s.setV x i v).word k = s.word k := rfl
@[simp] theorem State.due_setV (s : State) (x : Var) (i : Nat) (v : Int) (t : Timer) (k : Nat) : (s.setV x i v).due t k = s.due t k := rfl
@[simp] theorem State.f_setV (s : State) (x : Var) (i : Nat) (v : Int) (f : Fld) (n j : Nat) : (s.setV x i v).f f n j = s.f f n j := rfl
@[simp] theorem State.word_setDue (s : State) (t : Timer) (i : Nat) (e : Option Nat) (k : Nat) : (s.setDue t i e).word k = s.word k := rfl
@[simp] theorem State.v_setDue (s : State) (t : Timer) (i : Nat) (e : Option Nat) (x : Var) (k : Nat) : (s.setDue t i e).v x k = s.v x k := rfl
@[simp] theorem State.f_setDue (s : State) (t : Timer) (i : Nat) (e : Option Nat) (f : Fld) (n j : Nat) :
    (s.setDue t i e).f f n j = s.f f n j := rfl
@[simp] theorem State.word_setStg (s : State) (t : Stage) (c : StageCtl) (k : Nat) : (s.setStg t c).word k = s.word k := rfl
@[simp] theorem State.word_emit (s : State) (o : Out) (k : Nat) : (s.emit o).word k = s.word k := rfl

/-! ### Stage records -/

theorem Stage.idx_lt (t : Stage) : t.idx < 7 := by cases t <;> decide
theorem Stage.idx_ne {t u : Stage} (h : t ≠ u) : t.idx ≠ u.idx := by cases t <;> cases u <;> first | contradiction | decide

@[simp] theorem State.stg_setStg_same (s : State) (t : Stage) (c : StageCtl) : (s.setStg t c).stg t = c := by
  simp [State.stg, State.setStg, List.getD, Stage.idx_lt t]
theorem State.stg_setStg_ne (s : State) {t u : Stage} (c : StageCtl) (h : t ≠ u) : (s.setStg t c).stg u = s.stg u := by
  simp [State.stg, State.setStg, List.getD, List.getElem?_set_ne (Stage.idx_ne h)]
@[simp] theorem State.st_setStg_same (s : State) (t : Stage) (c : StageCtl) : (s.setStg t c).st t = c.state := by
  rw [State.st, State.stg_setStg_same]

/-! ### Fields of a word -/

theorem bits_putBits_same (v hi lo x : Nat) : bits (putBits v hi lo x) hi lo = x % 2 ^ (hi - lo + 1) := by
  have h2 : 0 < 2 ^ lo := Nat.two_pow_pos lo
  have h3 : 0 < 2 ^ (hi - lo + 1) := Nat.two_pow_pos _
  unfold putBits bits
  generalize 2 ^ lo = a at *
  generalize 2 ^ (hi - lo + 1) = b at *
  have e : v - v / a % b * a + x % b * a = v % a + a * (x % b + b * (v / a / b)) := by
    have h4 := Nat.div_add_mod v a
    have h5 := Nat.div_add_mod (v / a) b
    have h6 : v / a % b * a ≤ v := le_trans (Nat.mul_le_mul_right a (Nat.mod_le ..)) (Nat.div_mul_le_self v a)
    zify [h6] at *
    linear_combination (-1 : ℤ) * h4 - (a : ℤ) * h5
  rw [e, Nat.add_mul_div_left _ _ h2, Nat.div_eq_of_lt (Nat.mod_lt v h2), Nat.zero_add, Nat.add_mul_mod_self_left, Nat.mod_mod]

theorem putBits_lt {v hi lo : Nat} (n : Nat) (hl : lo ≤ hi) (hh : hi < n) (hv : v < 2 ^ n) (x : Nat) : putBits v hi lo x < 2 ^ n := by
  have hn : 2 ^ n = 2 ^ lo * (2 ^ (hi - lo + 1) * 2 ^ (n - hi - 1)) := by
    rw [← pow_add, ← pow_add]; congr 1; omega
  have h2 : 0 < 2 ^ lo := Nat.two_pow_pos lo
  have h3 : 0 < 2 ^ (hi - lo + 1) := Nat.two_pow_pos _
  rw [hn] at hv ⊢
  unfold putBits bits
  generalize 2 ^ lo = a at *
  generalize 2 ^ (hi - lo + 1) = b at *
  generalize 2 ^ (n - hi - 1) = c at *
  have h4 := Nat.div_add_mod v a
  have h5 := Nat.div_add_mod (v / a) b
  have h6 : v / a % b * a ≤ v := le_trans (Nat.mul_le_mul_right a (Nat.mod_le ..)) (Nat.div_mul_le_self v a)
  have h7 : v / a / b < c := by
    rw [Nat.div_div_eq_div_mul]; exact Nat.div_lt_of_lt_mul (by rwa [mul_assoc])
  have h8 : x % b < b := Nat.mod_lt x h3
  have h9 : v % a < a := Nat.mod_lt v h2
  have e : v - v / a % b * a + x % b * a = v % a + a * (x % b + b * (v / a / b)) := by
    zify [h6] at *
    linear_combination (-1 : ℤ) * h4 - (a : ℤ) * h5
  rw [e]
  have h10 : x % b + b * (v / a / b) + 1 ≤ b * c := by
    have : b * (v / a / b + 1) ≤ b * c := Nat.mul_le_mul_left b h7
    rw [Nat.mul_add] at this; omega
  calc v % a + a * (x % b + b * (v / a / b)) < a + a * (x % b + b * (v / a / b)) := by omega
    _ = a * (x % b + b * (v / a / b) + 1) := by ring
    _ ≤ a * (b * c) := Nat.mul_le_mul_left a h10

theorem wrap_lt (w : Nat) (v : Int) : wrap w v < 2 ^ w := by
  have h : (0 : Int) < ((2 ^ w : Nat) : Int) := by positivity
  have h1 := Int.emod_lt_of_pos v h
  have h2 := Int.emod_nonneg v h.ne'
  unfold wrap; omega

/-- A field reads as the value written to it, modulo its width. -/
theorem State.f_setF_same (s : State) (f : Fld) (n : Nat) (v : Int) (j : Nat) (hl : f.lo ≤ f.hi) (hh : f.hi < 32) :
    (s.setF f n v j).f f n j = wrap f.width v := by
  have hw : (s.word (f.key n j)).toNat < 2 ^ 32 := (s.word (f.key n j)).isLt
  have hx : wrap f.width v % 2 ^ (f.hi - f.lo + 1) = wrap f.width v := Nat.mod_eq_of_lt (wrap_lt _ v)
  have hp : putBits (s.word (f.key n j)).toNat f.hi f.lo (wrap f.width v) < 2 ^ 32 := putBits_lt _ hl hh hw _
  rw [State.f, State.setF, State.word_setWord_same, BitVec.toNat_ofNat, Nat.mod_eq_of_lt hp, bits_putBits_same, hx]
theorem State.f_setF_ne (s : State) (f g : Fld) (n m : Nat) (v : Int) (j k : Nat) (h : g.key m k ≠ f.key n j) :
    (s.setF f n v j).f g m k = s.f g m k := by
  rw [State.f, State.setF, State.word_setWord_ne _ _ h]; rfl

/-! ### Control -/

/-- A closed window's expiry does nothing; an open one's closes it at its end instant and goes on. -/
theorem State.expire_cases (s : State) (t : Timer) (i : Nat) (k : State → State) :
    (s.due t i = none ∧ s.expire t i k = s) ∨ ∃ e, s.due t i = some e ∧ s.expire t i k = k { s.close t i with now := max s.now e } := by
  unfold State.expire
  cases s.due t i with
  | none => exact .inl ⟨rfl, rfl⟩
  | some e => exact .inr ⟨e, rfl, rfl⟩

@[simp] theorem State.each_nil {α : Type} (s : State) (k : State → α → State) : s.each [] k = s := rfl
@[simp] theorem State.each_cons {α : Type} (s : State) (x : α) (l : List α) (k : State → α → State) : s.each (x :: l) k = (k s x).each l k := rfl

/-- A relation that holds of each operation and composes holds of all of them in a row. -/
theorem State.each_rel {α : Type} (R : State → State → Prop) (hr : ∀ s, R s s) (ht : ∀ a b c, R a b → R b c → R a c) (l : List α)
    (k : State → α → State) (hk : ∀ s, ∀ x ∈ l, R s (k s x)) (s : State) : R s (s.each l k) := by
  induction l generalizing s with
  | nil => exact hr s
  | cons x l ih =>
    exact ht _ _ _ (hk s x (by simp)) (ih (fun s y hy => hk s y (by simp [hy])) (k s x))

@[simp] theorem State.when_true (s : State) (k : State → State) : s.when true k = k s := rfl
@[simp] theorem State.when_false (s : State) (k : State → State) : s.when false k = s := rfl
theorem State.when_rel (R : State → State → Prop) (hr : ∀ s, R s s) (s : State) (b : Bool) (k : State → State) (hk : R s (k s)) :
    R s (s.when b k) := by cases b; exacts [hr s, hk]

end Sys2Proof.Machine
end

