-- ==== Sys2Proof/Laws/Frame.lean ====
section
/-!
SUPPORT. Laws of the frame relations and of the canonical form: reflexivity, transitivity and weakening of `Keeps`, what the shared
updates keep, what the end of a command may touch, and that every update keeps the canonical form.
-/

namespace Sys2Proof.Machine

/-! ### Keeps -/

theorem Comp.same_refl (c : Comp) (s : State) : c.same s s := by cases c <;> rfl
theorem Comp.same_trans (c : Comp) {s u w : State} (h1 : c.same s u) (h2 : c.same u w) : c.same s w := by
  cases c <;> exact Eq.trans h2 h1

theorem Keeps.refl (cs : List Comp) (ps : List Place) (s : State) : Keeps cs ps s s :=
  ⟨fun c _ => c.same_refl s, fun _ _ _ _ => rfl⟩

theorem Keeps.trans {cs : List Comp} {ps : List Place} {s u w : State} (h1 : Keeps cs ps s u) (h2 : Keeps cs ps u w) : Keeps cs ps s w :=
  ⟨fun c hc => c.same_trans (h1.1 c hc) (h2.1 c hc), fun key i hi hp => (h2.2 key i hi hp).trans (h1.2 key i hi hp)⟩

/-- A frame that allows more. -/
theorem Keeps.mono {cs cs' : List Comp} {ps ps' : List Place} {s u : State} (h : Keeps cs ps s u) (hc : cs ⊆ cs') (hp : ps ⊆ ps') :
    Keeps cs' ps' s u :=
  ⟨fun c hn => h.1 c fun hm => hn (hc hm), fun key i hi hn => h.2 key i hi fun p hm => hn p (hp hm)⟩

/-- What changes no part but the internal quantities, the windows and time, and no word, keeps everything. -/
theorem Keeps.of_same {s u : State} (h : ∀ c : Comp, c.same s u) (hr : u.regs = s.regs) (cs : List Comp) (ps : List Place) :
    Keeps cs ps s u := ⟨fun c _ => h c, fun key i _ _ => by rw [State.word, State.word, hr]⟩

theorem keeps_setV (s : State) (x : Var) (i : Nat) (v : Int) (cs : List Comp) (ps : List Place) : Keeps cs ps s (s.setV x i v) :=
  Keeps.of_same (fun c => by cases c <;> rfl) rfl cs ps
theorem keeps_setOn (s : State) (x : Var) (i : Nat) (b : Bool) (cs : List Comp) (ps : List Place) : Keeps cs ps s (s.setOn x i b) :=
  keeps_setV s x i _ cs ps
theorem keeps_addV (s : State) (x : Var) (i : Nat) (d : Int) (cs : List Comp) (ps : List Place) : Keeps cs ps s (s.addV x i d) :=
  keeps_setV s x i _ cs ps
theorem keeps_setDue (s : State) (t : Timer) (i : Nat) (e : Option Nat) (cs : List Comp) (ps : List Place) : Keeps cs ps s (s.setDue t i e) :=
  Keeps.of_same (fun c => by cases c <;> rfl) rfl cs ps
theorem keeps_close (s : State) (t : Timer) (i : Nat) (cs : List Comp) (ps : List Place) : Keeps cs ps s (s.close t i) :=
  keeps_setDue s t i none cs ps
theorem keeps_openBy (s : State) (c : Nat) (t : Timer) (i len : Nat) (cs : List Comp) (ps : List Place) : Keeps cs ps s (s.openBy c t i len) :=
  keeps_setDue s t i _ cs ps
theorem keeps_openSlow (s : State) (t : Timer) (i len : Nat) (cs : List Comp) (ps : List Place) : Keeps cs ps s (s.openSlow t i len) :=
  keeps_setDue s t i _ cs ps
theorem keeps_openLoop (s : State) (t : Timer) (i len : Nat) (cs : List Comp) (ps : List Place) : Keeps cs ps s (s.openLoop t i len) :=
  keeps_setDue s t i _ cs ps
theorem keeps_now (s : State) (t : Nat) (cs : List Comp) (ps : List Place) : Keeps cs ps s { s with now := t } :=
  Keeps.of_same (fun c => by cases c <;> rfl) rfl cs ps
theorem keeps_arrive (s : State) (t : Nat) (cs : List Comp) (ps : List Place) : Keeps cs ps s (s.arrive t) := keeps_now s _ cs ps

/-- Bits outside hi:lo of a replaced field stand. -/
theorem testBit_putBits {v hi lo x i : Nat} (hl : lo ≤ hi) (h : ¬ (lo ≤ i ∧ i ≤ hi)) : (putBits v hi lo x).testBit i = v.testBit i := by
  have h2 : 0 < 2 ^ lo := Nat.two_pow_pos lo
  have e : putBits v hi lo x = 2 ^ lo * (2 ^ (hi - lo + 1) * (v / 2 ^ lo / 2 ^ (hi - lo + 1)) + x % 2 ^ (hi - lo + 1)) + v % 2 ^ lo := by
    unfold putBits bits
    generalize 2 ^ lo = a at *
    generalize 2 ^ (hi - lo + 1) = b at *
    have h4 := Nat.div_add_mod v a
    have h5 := Nat.div_add_mod (v / a) b
    have h6 : v / a % b * a ≤ v := le_trans (Nat.mul_le_mul_right a (Nat.mod_le ..)) (Nat.div_mul_le_self v a)
    zify [h6] at *
    linear_combination (-1 : ℤ) * h4 - (a : ℤ) * h5
  rw [e]
  by_cases h1 : i < lo
  · rw [Nat.testBit_two_pow_mul_add _ (Nat.mod_lt v h2), if_pos h1, Nat.testBit_mod_two_pow]
    simp [h1]
  · have h3 : hi < i := by omega
    rw [Nat.testBit_two_pow_mul_add _ (Nat.mod_lt v h2), if_neg h1,
      Nat.testBit_two_pow_mul_add _ (Nat.mod_lt x (Nat.two_pow_pos _)), if_neg (by omega), Nat.testBit_div_two_pow,
      Nat.testBit_div_two_pow]
    congr 1; omega

theorem one_has (f : Fld) (n j i : Nat) (h : f.lo ≤ i ∧ i ≤ f.hi) : (one f n j).has (f.key n j) i :=
  ⟨h.1, h.2, 0, by simp [one], 0, by simp [one], rfl⟩

/-- A write of a field changes that field. -/
theorem keeps_setF (s : State) (f : Fld) (n : Nat) (v : Int) (j : Nat) (hl : f.lo ≤ f.hi) (cs : List Comp) :
    Keeps cs [one f n j] s (s.setF f n v j) := by
  refine ⟨fun c _ => by cases c <;> rfl, fun key i hi hp => ?_⟩
  have hn : ¬ (one f n j).has key i := hp _ (by simp)
  by_cases hk : key = f.key n j
  · subst hk
    have hb : ¬ (f.lo ≤ i ∧ i ≤ f.hi) := fun h => hn (one_has f n j i h)
    rw [State.setF, State.word_setWord_same, BitVec.getLsbD_ofNat, testBit_putBits hl hb]
    simp [hi, BitVec.getLsbD]
  · rw [State.setF, State.word_setWord_ne _ _ hk]

/-- A write of a whole word changes that word. -/
theorem keeps_setWord (s : State) (key : Nat) (w : Word) (cs : List Comp) : Keeps cs [wordAt key] s (s.setWord key w) := by
  refine ⟨fun c _ => by cases c <;> rfl, fun k i hi hp => ?_⟩
  have hk : k ≠ key := fun h => hp (wordAt key) (by simp)
    ⟨Nat.zero_le i, Nat.le_of_lt_succ hi, 0, Nat.one_pos, 0, Nat.one_pos, by simpa [wordAt, one, Fld.key] using h⟩
  rw [State.word_setWord_ne _ _ hk]

/-- The end of a command touches the sleep idle window, ATTN and its window only. -/
theorem keeps_idleSync (s : State) (cs : List Comp) (ps : List Place) : Keeps cs ps s s.idleSync := by
  unfold State.idleSync
  dsimp only
  split
  · exact Keeps.refl ..
  · split
    · split
      · exact Keeps.refl ..
      · exact keeps_openSlow ..
    · exact keeps_close ..

theorem keeps_attnSync (s : State) (cs : List Comp) (ps : List Place) : Keeps cs ps s s.attnSync := by
  unfold State.attnSync
  dsimp only
  have h1 : Keeps cs ps s (s.setOn .attn 0 false) := keeps_setOn ..
  have h2 : Keeps cs ps s (s.setOn .attn 0 true) := keeps_setOn ..
  split
  · exact h1.trans (keeps_close ..)
  · split
    · split
      · exact Keeps.refl ..
      · split
        · exact h2
        · exact h2.trans (keeps_openSlow ..)
    · split
      · split
        · exact Keeps.refl ..
        · exact h1.trans (keeps_close ..)
      · exact h1

/-- A command that ends with `done` keeps what the state it ends with keeps. -/
theorem Keeps.done {cs : List Comp} {ps : List Place} {s w u : State} (h : Keeps cs ps s w) (hd : Machine.done w = .next u) : Keeps cs ps s u := by
  unfold Machine.done at hd
  injection hd with hd
  subst hd
  exact (h.trans (keeps_idleSync ..)).trans (keeps_attnSync ..)

/-! ### The canonical form -/

theorem State.canonical_iff {s : State} : s.canonical = true ↔
    Store.wf Map.reset s.regs = true ∧ Store.wf State.varReset s.vars = true ∧ Store.wf State.timerReset s.timers = true
    ∧ Store.wf State.ramReset s.sram = true ∧ Store.wf State.ramReset s.staging = true ∧ Store.wf State.keyReset s.keyMem = true := by
  simp only [State.canonical, Bool.and_eq_true, and_assoc]

/-- What writes none of the sparse stores keeps their form. -/
theorem State.canonical_congr {s u : State} (h : s.canonical = true) (h1 : u.regs = s.regs) (h2 : u.vars = s.vars) (h3 : u.timers = s.timers)
    (h4 : u.sram = s.sram) (h5 : u.staging = s.staging) (h6 : u.keyMem = s.keyMem) : u.canonical = true := by
  unfold State.canonical at *; rw [h1, h2, h3, h4, h5, h6]; exact h

theorem State.canonical_setWord {s : State} (h : s.canonical = true) (k : Nat) (w : Word) : (s.setWord k w).canonical = true := by
  rw [State.canonical_iff] at *
  exact ⟨Store.wf_set _ _ h.1, h.2⟩
theorem State.canonical_setF {s : State} (h : s.canonical = true) (f : Fld) (n : Nat) (v : Int) (j : Nat) : (s.setF f n v j).canonical = true :=
  State.canonical_setWord h ..
theorem State.canonical_setFb {s : State} (h : s.canonical = true) (f : Fld) (n : Nat) (b : Bool) (j : Nat) : (s.setFb f n b j).canonical = true :=
  State.canonical_setWord h ..
theorem State.canonical_addF {s : State} (h : s.canonical = true) (f : Fld) (n d j : Nat) : (s.addF f n d j).canonical = true :=
  State.canonical_setWord h ..
theorem State.canonical_wrapF {s : State} (h : s.canonical = true) (f : Fld) (n d j : Nat) : (s.wrapF f n d j).canonical = true :=
  State.canonical_setWord h ..
theorem State.canonical_setV {s : State} (h : s.canonical = true) (x : Var) (i : Nat) (v : Int) : (s.setV x i v).canonical = true := by
  rw [State.canonical_iff] at *
  exact ⟨h.1, Store.wf_set _ _ h.2.1, h.2.2⟩
theorem State.canonical_setOn {s : State} (h : s.canonical = true) (x : Var) (i : Nat) (b : Bool) : (s.setOn x i b).canonical = true :=
  State.canonical_setV h ..
theorem State.canonical_addV {s : State} (h : s.canonical = true) (x : Var) (i : Nat) (d : Int) : (s.addV x i d).canonical = true :=
  State.canonical_setV h ..
theorem State.canonical_setDue {s : State} (h : s.canonical = true) (t : Timer) (i : Nat) (e : Option Nat) : (s.setDue t i e).canonical = true := by
  rw [State.canonical_iff] at *
  exact ⟨h.1, h.2.1, Store.wf_set _ _ h.2.2.1, h.2.2.2⟩
theorem State.canonical_close {s : State} (h : s.canonical = true) (t : Timer) (i : Nat) : (s.close t i).canonical = true :=
  State.canonical_setDue h ..
theorem State.canonical_openBy {s : State} (h : s.canonical = true) (c : Nat) (t : Timer) (i len : Nat) : (s.openBy c t i len).canonical = true :=
  State.canonical_setDue h ..
theorem State.canonical_openSlow {s : State} (h : s.canonical = true) (t : Timer) (i len : Nat) : (s.openSlow t i len).canonical = true :=
  State.canonical_setDue h ..
theorem State.canonical_openLoop {s : State} (h : s.canonical = true) (t : Timer) (i len : Nat) : (s.openLoop t i len).canonical = true :=
  State.canonical_setDue h ..
theorem State.canonical_setW1c {s : State} (h : s.canonical = true) (f : Fld) (n v j : Nat) : (s.setW1c f n v j).canonical = true :=
  State.canonical_setV (State.canonical_setV (State.canonical_setF h ..) ..) ..
theorem State.canonical_setStg {s : State} (h : s.canonical = true) (t : Stage) (c : StageCtl) : (s.setStg t c).canonical = true :=
  State.canonical_congr h rfl rfl rfl rfl rfl rfl
theorem State.canonical_emit {s : State} (h : s.canonical = true) (o : Out) : (s.emit o).canonical = true :=
  State.canonical_congr h rfl rfl rfl rfl rfl rfl

/-- An operation for each element of a list keeps the form when each application does. -/
theorem State.canonical_each {α : Type} {s : State} (h : s.canonical = true) (l : List α) (k : State → α → State)
    (hk : ∀ s, s.canonical = true → ∀ x ∈ l, (k s x).canonical = true) : (s.each l k).canonical = true :=
  State.each_rel (fun s u => s.canonical = true → u.canonical = true) (fun _ h => h) (fun _ _ _ f g h => g (f h)) l k
    (fun s x hx hs => hk s hs x hx) s h
theorem State.canonical_expire {s : State} (h : s.canonical = true) (t : Timer) (i : Nat) (k : State → State)
    (hk : ∀ s, s.canonical = true → (k s).canonical = true) : (s.expire t i k).canonical = true := by
  rcases s.expire_cases t i k with ⟨_, he⟩ | ⟨e, _, he⟩
  · rwa [he]
  · rw [he]
    exact hk _ (State.canonical_congr (State.canonical_close h t i) rfl rfl rfl rfl rfl rfl)

theorem State.canonical_idleSync {s : State} (h : s.canonical = true) : s.idleSync.canonical = true := by
  unfold State.idleSync
  dsimp only
  split
  · exact h
  · split
    · split
      · exact h
      · exact State.canonical_openSlow h ..
    · exact State.canonical_close h ..
theorem State.canonical_attnSync {s : State} (h : s.canonical = true) : s.attnSync.canonical = true := by
  unfold State.attnSync
  dsimp only
  have h1 := State.canonical_setOn h .attn 0 false
  have h2 := State.canonical_setOn h .attn 0 true
  split
  · exact State.canonical_close h1 ..
  · split
    · split
      · exact h
      · split
        · exact h2
        · exact State.canonical_openSlow h2 ..
    · split
      · split
        · exact h
        · exact State.canonical_close h1 ..
      · exact h1

/-- A command that ends with `done` ends in the canonical form when the state it ends with has it. -/
theorem State.canonical_done {w u : State} (h : w.canonical = true) (hd : Machine.done w = .next u) : u.canonical = true := by
  unfold Machine.done at hd
  injection hd with hd
  subst hd
  exact State.canonical_attnSync (State.canonical_idleSync h)

end Sys2Proof.Machine
end

