-- ==== Sys2Proof/Laws/Report.lean ====
section
/-!
SUPPORT. What the shared operations of reports and of stages may do, once for each: what a report writes, and what it leaves.
-/

namespace Sys2Proof.Machine

/-- A write of a field that lies in one of the places of a frame. -/
theorem keeps_setF_in (s : State) (f : Fld) (n : Nat) (v : Int) (j : Nat) (cs : List Comp) (ps : List Place) (p : Place) (hp : p ∈ ps)
    (hf : p.fld = f) (hl : f.lo ≤ f.hi) (hn : p.n ≤ n ∧ n < p.n + p.k) (hj : p.j ≤ j ∧ j < p.j + p.m) : Keeps cs ps s (s.setF f n v j) := by
  refine ⟨(keeps_setF s f n v j hl cs).1, fun key i hi hq => (keeps_setF s f n v j hl cs).2 key i hi ?_⟩
  intro q hm hh
  obtain rfl := List.mem_singleton.1 hm
  obtain ⟨h1, h2, a, ha, b, hb, he⟩ := hh
  have ha0 : a = 0 := Nat.lt_one_iff.1 ha
  have hb0 : b = 0 := Nat.lt_one_iff.1 hb
  subst ha0 hb0
  have e1 : p.n + (n - p.n) = n := by omega
  have e2 : p.j + (j - p.j) = j := by omega
  exact hq p hp ⟨by rw [hf]; exact h1, by rw [hf]; exact h2, n - p.n, by omega, j - p.j, by omega, by rw [hf, e1, e2]; exact he⟩

/-- What writes only parts that a frame allows, and no word, keeps the frame. -/
theorem keeps_of_parts {s u : State} {cs : List Comp} (ps : List Place) (h : ∀ c : Comp, c ∉ cs → c.same s u) (hr : u.regs = s.regs) :
    Keeps cs ps s u := ⟨h, fun key i _ _ => by rw [State.word, State.word, hr]⟩

theorem keeps_queue (s : State) (q : List Rec) : Keeps reportComps reportFlds s { s with queue := q } :=
  keeps_of_parts _ (fun c hc => by cases c <;> first | rfl | exact absurd (by decide) hc) rfl
theorem keeps_log (s : State) (l : Log) : Keeps reportComps reportFlds s { s with log := l } :=
  keeps_of_parts _ (fun c hc => by cases c <;> first | rfl | exact absurd (by decide) hc) rfl

theorem Ev.w_le (code : Nat) : Ev.w code ≤ 18 := List.idxOf_le_length

theorem keeps_markSeen (s : State) (code : Nat) : Keeps reportComps reportFlds s (s.markSeen code) :=
  keeps_setF_in s Reg.STATE_SEEN_EVENTS (Ev.w code) _ 0 _ _ (all Reg.STATE_SEEN_EVENTS 19) (List.mem_cons_self ..) rfl (by decide)
    ⟨Nat.zero_le _, Nat.lt_succ_of_le (by simpa [all] using Ev.w_le code)⟩ (by decide)
    |>.trans (keeps_setV ..) |>.trans (keeps_setV ..)
theorem keeps_logCounter (s : State) (n : Nat) (v : Int) (hn : n = 1 ∨ n = 4) : Keeps reportComps reportFlds s (s.setF Reg.LOG_COUNTERS n v) := by
  rcases hn with rfl | rfl
  · exact keeps_setF_in s Reg.LOG_COUNTERS 1 v 0 _ _ (one Reg.LOG_COUNTERS 1) (by simp [reportFlds]) rfl (by decide) (by decide) (by decide)
  · exact keeps_setF_in s Reg.LOG_COUNTERS 4 v 0 _ _ (one Reg.LOG_COUNTERS 4) (by simp [reportFlds]) rfl (by decide) (by decide) (by decide)
theorem keeps_coreCounter (s : State) (v : Int) : Keeps reportComps reportFlds s (s.setF Reg.CORE_COUNTERS 8 v) :=
  keeps_setF_in s Reg.CORE_COUNTERS 8 v 0 _ _ (one Reg.CORE_COUNTERS 8) (by simp [reportFlds]) rfl (by decide) (by decide) (by decide)

theorem keeps_admitRec (s : State) (a : RepArg) (r : Rec) : Keeps reportComps reportFlds s (s.admitRec a r) := by
  unfold State.admitRec
  dsimp only
  split
  · exact (keeps_addV s .suppressed a.code 1 _ _).trans (keeps_logCounter _ 1 _ (.inl rfl))
  · split
    · exact (keeps_addV s .reportsLost 0 1 _ _).trans (keeps_coreCounter _ _)
    · refine Keeps.trans ?_ (keeps_logCounter _ 4 _ (.inr rfl))
      refine ((keeps_queue s (s.queue ++ [r])).trans (keeps_setV _ .suppressed a.code 0 _ _)).trans ?_
      exact State.when_rel (Keeps reportComps reportFlds) (Keeps.refl _ _) _ _ _ (keeps_addV ..)

/-- A refill changes two quantities of the bucket and nothing else. -/
theorem State.refilled_cases (s : State) (code : Nat) :
    s.refilled code = s ∨ ∃ x y, s.refilled code = (s.setV .tokensUsed code x).setV .refillTaken code y := by
  unfold State.refilled
  split
  · split
    · exact .inr ⟨_, _, rfl⟩
    · exact .inl rfl
  · exact .inl rfl

theorem keeps_refilled (s : State) (code : Nat) (cs : List Comp) (ps : List Place) : Keeps cs ps s (s.refilled code) := by
  rcases s.refilled_cases code with h | ⟨x, y, h⟩ <;> rw [h]
  · exact Keeps.refl ..
  · exact (keeps_setV ..).trans (keeps_setV ..)

theorem keeps_enqueue (s : State) (a : RepArg) : Keeps reportComps reportFlds s (s.enqueue a) := by
  unfold State.enqueue
  split
  · exact Keeps.refl ..
  · split
    · exact keeps_log ..
    · split
      · exact keeps_admitRec ..
      · exact (keeps_refilled ..).trans (keeps_admitRec ..)

/-- A report writes its STATE.SEEN bit, the queue of records or the count of what a full log loses, and the counters of the recorder:
nothing else (R53, R571 to R577, R714). -/
theorem keeps_report (s : State) (a : RepArg) : Keeps reportComps reportFlds s (s.report a) :=
  (keeps_markSeen s a.code).trans (keeps_enqueue ..)
theorem keeps_note (s : State) (code d0 d1 d2 : Nat) : Keeps reportComps reportFlds s (s.note code d0 d1 d2) := keeps_report ..
theorem keeps_noteAt (s : State) (code : Nat) (t : Stage) (d0 d1 d2 : Nat) : Keeps reportComps reportFlds s (s.noteAt code t d0 d1 d2) :=
  keeps_report ..

theorem State.admitRec_timers (s : State) (a : RepArg) (r : Rec) : (s.admitRec a r).timers = s.timers ∧ (s.admitRec a r).now = s.now := by
  unfold State.admitRec
  dsimp only
  repeat' split
  all_goals first | exact ⟨rfl, rfl⟩ | (cases a.isExempt <;> exact ⟨rfl, rfl⟩)

/-- A report opens and closes no window and takes no time. -/
theorem State.enqueue_timers (s : State) (a : RepArg) : (s.enqueue a).timers = s.timers ∧ (s.enqueue a).now = s.now := by
  unfold State.enqueue
  split
  · exact ⟨rfl, rfl⟩
  · split
    · exact ⟨rfl, rfl⟩
    · split
      · exact State.admitRec_timers ..
      · rcases s.refilled_cases a.code with h | ⟨x, y, h⟩ <;> rw [h] <;> exact State.admitRec_timers ..
@[simp] theorem State.markSeen_timers (s : State) (code : Nat) : (s.markSeen code).timers = s.timers := by simp [State.markSeen, State.setW1c]
@[simp] theorem State.markSeen_now (s : State) (code : Nat) : (s.markSeen code).now = s.now := by simp [State.markSeen, State.setW1c]
@[simp] theorem State.report_timers (s : State) (a : RepArg) : (s.report a).timers = s.timers :=
  (State.enqueue_timers ..).1.trans (s.markSeen_timers a.code)
@[simp] theorem State.report_now (s : State) (a : RepArg) : (s.report a).now = s.now :=
  (State.enqueue_timers ..).2.trans (s.markSeen_now a.code)

theorem State.canonical_admitRec {s : State} (h : s.canonical = true) (a : RepArg) (r : Rec) : (s.admitRec a r).canonical = true := by
  unfold State.admitRec
  dsimp only
  split
  · exact State.canonical_addF (State.canonical_addV h ..) ..
  · split
    · exact State.canonical_addF (State.canonical_addV h ..) ..
    · refine State.canonical_setF ?_ ..
      refine State.when_rel (fun s u => s.canonical = true → u.canonical = true) (fun _ h => h) _ _ _ (fun h => State.canonical_addV h ..) ?_
      exact State.canonical_setV (State.canonical_congr h rfl rfl rfl rfl rfl rfl) ..

/-- A report keeps the canonical form. -/
theorem State.canonical_enqueue {s : State} (h : s.canonical = true) (a : RepArg) : (s.enqueue a).canonical = true := by
  unfold State.enqueue
  split
  · exact h
  · split
    · exact State.canonical_congr h rfl rfl rfl rfl rfl rfl
    · split
      · exact State.canonical_admitRec h ..
      · refine State.canonical_admitRec ?_ ..
        rcases s.refilled_cases a.code with e | ⟨x, y, e⟩ <;> rw [e]
        · exact h
        · exact State.canonical_setV (State.canonical_setV h ..) ..
theorem State.canonical_report {s : State} (h : s.canonical = true) (a : RepArg) : (s.report a).canonical = true :=
  State.canonical_enqueue (State.canonical_setW1c h ..) a

theorem State.admitRec_queue (s : State) (a : RepArg) (r : Rec) : (s.admitRec a r).queue = s.queue ∨ (s.admitRec a r).queue = s.queue ++ [r] := by
  unfold State.admitRec
  dsimp only
  split
  · exact .inl rfl
  · split
    · exact .inl rfl
    · right; cases a.isExempt <;> rfl

/-- What a report can add to the queue: nothing, or one record of its code at the end. -/
theorem State.enqueue_queue (s : State) (a : RepArg) : (s.enqueue a).queue = s.queue ∨ (s.enqueue a).queue = s.queue ++ [s.mkRec a] := by
  unfold State.enqueue
  split
  · exact .inl rfl
  · split
    · exact .inl rfl
    · split
      · exact State.admitRec_queue ..
      · rcases s.refilled_cases a.code with h | ⟨x, y, h⟩ <;> rw [h] <;> exact State.admitRec_queue ..

end Sys2Proof.Machine
end

