-- ==== Sys2Proof/Laws/Engines.lean ====
section
/-!
SUPPORT. Where two output words differ (R332, R333), and what a report whose cause lasts may do (R713).
-/

namespace Sys2Proof.Machine

theorem maskOf_false (n : Nat) (p : Nat → Bool) (h : ∀ k, p k = false) : maskOf n p = 0 := by
  have e : ∀ (l : List Nat) (m : Nat), l.foldl (fun m k => if p k then m + 2 ^ k else m) m = m := by
    intro l; induction l with
    | nil => intro m; rfl
    | cons k l ih => intro m; simp [h k, ih]
  exact e _ _

/-- A word does not differ from itself. -/
@[simp] theorem OutWord.diff_self (w : OutWord) : w.diff w = (0, 0) := by
  simp [OutWord.diff, maskOf_false]

/-- The standby's word differs from the owner's in exactly what a command reports. -/
@[simp] theorem OutWord.diff_deviate (w : OutWord) (channels carriers : Nat) :
    w.diff (w.deviate channels carriers) = (channels, carriers) := by
  simp [OutWord.diff, OutWord.deviate, maskOf_false]

/-- A change of a cause writes causes only. -/
theorem keeps_updCause (s : State) (code inst : Nat) (k : Cause → Cause) (cs : List Comp) (ps : List Place) :
    Keeps (.causes :: cs) ps s (s.updCause code inst k) :=
  keeps_of_parts _ (fun c hc => by cases c <;> first | rfl | exact absurd List.mem_cons_self hc) rfl

/-- A report whose cause lasts writes what a report writes, and the cause. -/
theorem keeps_noteLasting (s : State) (code inst d0 d1 d2 : Nat) :
    Keeps (.causes :: reportComps) reportFlds s (s.noteLasting code inst d0 d1 d2) :=
  ((keeps_note ..).mono (List.subset_cons_self ..) (List.Subset.refl _)).trans (keeps_updCause ..)

/-- A report that lasts until the next start, likewise. -/
theorem keeps_noteUntilStart (s : State) (code inst d0 d1 d2 : Nat) :
    Keeps (.causes :: reportComps) reportFlds s (s.noteUntilStart code inst d0 d1 d2) :=
  ((keeps_note ..).mono (List.subset_cons_self ..) (List.Subset.refl _)).trans (keeps_updCause ..)

/-- The end of such a cause writes causes only. -/
theorem keeps_noteEnds (s : State) (code inst : Nat) (cs : List Comp) (ps : List Place) :
    Keeps (.causes :: cs) ps s (s.noteEnds code inst) := keeps_updCause ..

end Sys2Proof.Machine
end

