-- ==== Sys2Proof/Laws/PerInstr.lean ====
section
/-! SUPPORT. Laws. -/
end

