-- ==== Sys2Proof/Tests/Slice0.lean ====
section
/-! SUPPORT. Tests: ill-formed commands, examples of the spec, and witnesses for the hypotheses of the statements. -/

namespace Sys2Proof.Tests

set_option Elab.async false

open Sys2Proof Sys2Proof.Machine

/-- The machine in a module state. -/
def mk (m : ModState) : State := { State.reset with module := m }

/-- The machine in a module state with one stage in a state. -/
def mkSt (m : ModState) (t : Stage) (st : StageState) : State :=
  (mk m).setStg t { StageCtl.reset with state := st }

/-- A fabric frame with a right header and FCS. -/
def frm (kind flags dst src seq : Nat) (body : List Byte) : Frame :=
  { ether := 0x88B5, mac := 0, version := 1, kind := kind, flags := flags, dst := dst, src := src, length := body.length, seq := seq,
    hops := 0, zeros := true, hcrc := true, fcs := true, body := body }

/-- The machine READY, unique ID 7 and address 5, with port 0 VERIFIED. -/
def fab : State :=
  let s := ((mk .ready).setOn .imageApplied 0 true).setF Reg.FAB_PORT_STATUS_STATE 0 3 |>.setF Reg.FAB_STATUS_ADDRESS 0 5
  { s with regs := (0, 7) :: (1, 0) :: s.regs }

/-- That machine as the root of its colony. -/
def root : State := fab.setFb Reg.FAB_STATUS_ROOT 0 true

/-- That machine with a ROUTE_TABLE of one entry (Table 17-9, Table 18-4): signal 0 is LOCAL, for index 0x1800, and published in frame 0. -/
def routed : State := { fab with image := [(4, le 2 1 ++ le 2 1 ++ le 12 0 ++ le 4 0x18000030 ++ le 4 0 ++ le 4 0 ++ le 4 0x1800)] }

/-- A request on J1. -/
def j1 : Req := { who := .j1, trans := 1, auth := none }

/-- A request on J1 with an authority block, and the machine READY with that challenge open. -/
def j1a : Req := { who := .j1, trans := 1, auth := some { challenge := 5, signature := [] } }
def asked (m : ModState) : State := { mk m with challenges := [{ who := .j1, value := 5, ends := 1000 }] }

/-- A CAN frame of 8 data bytes, an entry of Q0 with it, and a channel on the bus. -/
def cfrm (key : Nat) : CanFrame := { key := key, dlc := 8, brs := false, esi := false, data := le 8 1 }
def centry (host : Bool) (owner : CanOwner) : CanEntry :=
  { ch := 0, queue := 0, slot := 3, gen := 1, frame := cfrm 0, pair := 0, host := host, stamp := 0, owner := owner, ends := 100, shown := false }
def can : State := (mk .ready).setF Reg.CAN_STATUS_STATE 0 2

/-- The bytes of a valid header in slot A, generation 1, of length 0x250 with one section (Table 2-2): erased bytes are not listed. -/
def headerBytes : List Host.Cell :=
  [(0, 67), (1, 79), (2, 77), (3, 66), (4, 1), (5, 0), (6, 0), (7, 2), (8, 1), (9, 0), (10, 0), (11, 0), (12, 80), 
   (13, 2), (14, 0), (15, 0), (28, 1), (29, 0), (30, 0), (31, 0), (40, 0), (41, 0), (42, 0), (43, 0), (44, 0), (45, 0), 
   (46, 0), (47, 0), (48, 0), (49, 0), (50, 0), (51, 0), (52, 0), (53, 0), (54, 0), (55, 0), (56, 0), (57, 0), (58, 0), 
   (59, 0), (60, 0), (61, 0), (62, 0), (63, 0), (448, 0), (449, 0), (450, 0), (451, 0), (452, 0), (453, 0), (454, 0)]
  ++ [(455, 0), (456, 0), (457, 0), (458, 0), (459, 0), (460, 0), (461, 0), (462, 0), (463, 0), (464, 0), (465, 0), (466, 0), 
   (467, 0), (468, 0), (469, 0), (470, 0), (471, 0), (472, 0), (473, 0), (474, 0), (475, 0), (476, 0), (477, 0), (478, 0), 
   (479, 0), (480, 0), (481, 0), (482, 0), (483, 0), (484, 0), (485, 0), (486, 0), (487, 0), (488, 0), (489, 0), (490, 0), 
   (491, 0), (492, 0), (493, 0), (494, 0), (495, 0), (496, 0), (497, 0), (498, 0), (499, 0), (500, 0), (501, 0), (502, 0), 
   (503, 0), (504, 0), (505, 0), (506, 0), (507, 0), (508, 102), (509, 254), (510, 50), (511, 110)]

/-- A start whose tests have passed and whose key holds that header. -/
def keyState : State :=
  ((((mk .starting).setV .startStep 0 1).setV .memoryOk 0 1).setV .injectOk 0 1).setOn .logBuilt 0 true |> fun s =>
    { s with keyMem := headerBytes }

/-- A part of that header. -/
def headerPart (k : Nat) : List Byte := keyState.keyBytes (64 * k) (if k = 7 then 60 else 64)

theorem headerPart_crc_0 : (headerPart 0).foldl crc32Byte 4294967295 = 1570654572 := by decide +kernel
theorem headerPart_crc_1 : (headerPart 1).foldl crc32Byte 1570654572 = 626488464 := by decide +kernel
theorem headerPart_crc_2 : (headerPart 2).foldl crc32Byte 626488464 = 122471442 := by decide +kernel
theorem headerPart_crc_3 : (headerPart 3).foldl crc32Byte 122471442 = 3856598952 := by decide +kernel
theorem headerPart_crc_4 : (headerPart 4).foldl crc32Byte 3856598952 = 1596224167 := by decide +kernel
theorem headerPart_crc_5 : (headerPart 5).foldl crc32Byte 1596224167 = 3475257312 := by decide +kernel
theorem headerPart_crc_6 : (headerPart 6).foldl crc32Byte 3475257312 = 489263196 := by decide +kernel
theorem headerPart_crc_7 : (headerPart 7).foldl crc32Byte 489263196 = 2446131609 := by decide +kernel

theorem header_parts : (keyState.keyBytes 0 512).take 0x1FC = headerPart 0 ++ headerPart 1 ++ headerPart 2 ++ headerPart 3 ++ headerPart 4
    ++ headerPart 5 ++ headerPart 6 ++ headerPart 7 := by decide +kernel

theorem header_crc : hdrCrc (keyState.keyBytes 0 512) = crc32 ((keyState.keyBytes 0 512).take 0x1FC) := by
  have h : hdrCrc (keyState.keyBytes 0 512) = 1848835686 := by decide +kernel
  rw [h, header_parts, crc32]
  simp only [List.foldl_append, headerPart_crc_0, headerPart_crc_1, headerPart_crc_2, headerPart_crc_3, headerPart_crc_4,
    headerPart_crc_5, headerPart_crc_6, headerPart_crc_7]
  decide

/-- That key has a valid image header. -/
theorem keyState_chosen : keyState.chosenSlot.isSome = true := by
  have hb : headerOk (keyState.keyBytes (slotBase 0) 512) = true := by
    show headerOk (keyState.keyBytes 0 512) = true
    unfold headerOk
    rw [header_crc, beq_self_eq_true]
    decide +kernel
  unfold State.chosenSlot
  simp only [hb, Bool.true_and, if_true]
  split <;> rfl

/-- The machine in RUN with stage L in HOLD, its hold window open and MODULE_SAFE configured for its expiry. -/
def safing : State := ((mkSt .run .L .hold).setDue .hold 2 (some 10)).setF Reg.CORE_HOLD_EXPIRY_L 0 7

/-- A log of one record. -/
def cleared : State := { mk .starting with log := { Log.reset with recs := [(mk .starting).mkRec { code := Ev.LOG_FULL }] } }

/-! Ill-formed terms, one for each check of WellFormed.lean, which the check refuses, beside well-formed ones, which it accepts. -/

/-- An ill-formed envelope: no fabric address is 0x400. -/
def badReq : Req := { who := .fab 0x400, trans := 1, auth := none }
/-- An authority block with a signature of 63 bytes. -/
def badAuth : AuthBlock := { challenge := 1, signature := List.replicate 63 0 }
/-- A frame whose KIND is no number of 4 bits. -/
def badFrm : Frame := frm 16 0 1 2 3 []
/-- A CAN frame with a DLC code of 5 bits. -/
def badCan : CanFrame := { cfrm 0 with dlc := 16 }

theorem test_wf_requester_fab : (Requester.fab 0x400).wf = false ∧ (Requester.fab 0x3FF).wf = true := by decide
theorem test_wf_requester_mac : (Requester.mac (2 ^ 40)).wf = false ∧ (Requester.mac (2 ^ 40 - 1)).wf = true := by decide
theorem test_wf_requester_can : (Requester.can 4 0).wf = false ∧ (Requester.can 0 (2 ^ 32)).wf = false ∧ (Requester.can 3 0).wf = true := by
  decide
theorem test_wf_auth : badAuth.wf = false ∧ ({ badAuth with signature := List.replicate 64 0 } : AuthBlock).wf = true := by decide
theorem test_wf_req : badReq.wf = false ∧ ({ j1 with trans := 2 ^ 16 } : Req).wf = false ∧ ({ j1 with auth := some badAuth } : Req).wf = false
    ∧ j1.wf = true := by decide
theorem test_wf_word : wordWf (2 ^ 16) 0 = false ∧ wordWf 0 256 = false ∧ wordWf 0xFFFF 255 = true := by decide
theorem test_wf_entries : entriesWf [] = false ∧ entriesWf (List.replicate 28 (0, 0)) = false ∧ entriesWf [(2 ^ 16, 0)] = false
    ∧ entriesWf (List.replicate 27 (0, 0)) = true := by decide
theorem test_wf_write_bounds : writeWf j1 [] = false ∧ writeWf j1 (List.replicate 28 ⟨0, 0, 0⟩) = false
    ∧ writeWf j1 (List.replicate 27 ⟨0, 0, 0⟩) = true := by decide
theorem test_wf_write_authority : writeWf { j1 with auth := some badAuth } (List.replicate 18 ⟨0, 0, 0⟩) = false
    ∧ writeWf { j1 with auth := some badAuth } (List.replicate 17 ⟨0, 0, 0⟩) = true ∧ writeWf j1 [⟨0, 256, 0⟩] = false := by decide
theorem test_wf_frame_low : badFrm.wf = false ∧ ({ frm 1 0 1 2 3 [] with mac := 2 ^ 40 } : Frame).wf = false
    ∧ ({ frm 1 0 1 2 3 [] with version := 16 } : Frame).wf = false ∧ (frm 1 256 1 2 3 []).wf = false ∧ (frm 1 0 1 2 3 []).wf = true := by decide
theorem test_wf_frame_high : (frm 1 0 0x400 2 3 []).wf = false ∧ (frm 1 0 1 0x400 3 []).wf = false
    ∧ ({ frm 1 0 1 2 3 [] with length := 2 ^ 16 } : Frame).wf = false ∧ (frm 1 0 1 2 (2 ^ 16) []).wf = false
    ∧ ({ frm 1 0 1 2 3 [] with hops := 2 ^ 16 } : Frame).wf = false := by decide
theorem test_wf_can_frame : badCan.wf = false ∧ (cfrm (2 ^ 32)).wf = false
    ∧ ({ cfrm 0 with data := List.replicate 65 0 } : CanFrame).wf = false ∧ (cfrm 0).wf = true := by decide
theorem test_wf_stamps : (Stamps.mk 0 [1, 2, 3]).wf = false ∧ (Stamps.mk 0 [1, 2, 3, 4]).wf = true := by decide
theorem test_wf_arg : argWf (2 ^ 32) = false ∧ argWf (2 ^ 32 - 1) = true := by decide
theorem test_wf_plain_requests : (Instr.sleepRequest badReq 0).wf = false ∧ (Instr.clearLog badReq 0).wf = false
    ∧ (Instr.setpointWrite badReq 0 0 0 0).wf = false ∧ (Instr.clearLog j1 0).wf = true := by decide
theorem test_wf_arguments : (Instr.openLoop j1 (2 ^ 32) 0).wf = false ∧ (Instr.arm badReq 1 [] 0).wf = false ∧ (Instr.arm j1 127 [] 0).wf = true := by
  decide
theorem test_wf_key_write : (Instr.keyWrite j1 (2 ^ 32) 0 0).wf = false ∧ (Instr.keyWrite j1 0 (2 ^ 32) 0).wf = false
    ∧ (Instr.keyWrite badReq 0 0 0).wf = false ∧ (Instr.keyWrite j1 1 0 0).wf = true := by decide
theorem test_wf_log_read : (Instr.logRead j1 (2 ^ 48) 1 0).wf = false ∧ (Instr.logRead j1 0 (2 ^ 32) 0).wf = false
    ∧ (Instr.logRead badReq 0 0 0).wf = false ∧ (Instr.logRead j1 0 8 0).wf = true := by decide
theorem test_wf_read_write : (Instr.read j1 [] 0).wf = false ∧ (Instr.read badReq [(0, 0)] 0).wf = false ∧ (Instr.write j1 [] [] [] 0).wf = false
    ∧ (Instr.write badReq [⟨0, 0, 0⟩] [] [] 0).wf = false ∧ (Instr.read j1 [(0, 0)] 0).wf = true := by decide
theorem test_wf_frames : (Instr.linkCheck 0 badFrm 0).wf = false ∧ (Instr.frameReceived 0 badFrm ⟨0, [0, 0, 0, 0]⟩ 0).wf = false
    ∧ (Instr.frameReceived 0 (frm 1 0 1 2 3 []) ⟨0, []⟩ 0).wf = false ∧ (Instr.waggle [(0, badFrm)] 0).wf = false
    ∧ (Instr.linkCheck 0 (frm 1 0 1 2 3 []) 0).wf = true := by decide
theorem test_wf_stamp_lists : (Instr.pdelaySend [0, 0, 0]).wf = false ∧ (Instr.cycleStart [0, 0, 0, 0, 0]).wf = false
    ∧ (Instr.pdelaySend [0, 0, 0, 0]).wf = true := by decide
theorem test_wf_can : (Instr.canFrameReceived 0 badCan 0).wf = false ∧ (Instr.claimReceived 0 badCan 0).wf = false
    ∧ (Instr.canFrameReceived 0 (cfrm 0) 0).wf = true := by decide
theorem test_wf_windows : (Instr.challengeExpiry (.fab 0x400)).wf = false ∧ (Instr.duplicateStateExpiry 0x400).wf = false
    ∧ (Instr.tokenRefill (2 ^ 16)).wf = false ∧ (Instr.tokenRefill 0x1A09).wf = true := by decide
theorem test_wf_observations : (Instr.wordMismatch (2 ^ 64) 0 true 0).wf = false
    ∧ (Instr.wordMismatch 0 128 true 0).wf = false ∧ (Instr.imageVerified [24] [] 0).wf = false ∧ (Instr.imageVerified [] [24] 0).wf = false
    ∧ (Instr.imageVerified [23] [0] 0).wf = true := by decide
/-- What the read of a fitted key finds. -/
def okKey : KeyObs := { jedec := 0, sfdp := 0, capacity := 256, fast114 := true, fast112 := false, quad := some true, blocked := true, contents := none }
theorem test_wf_key_read : (Instr.keyReadDone okKey 0).wf = true ∧ (Instr.keyReadDone { okKey with jedec := 2 ^ 24 } 0).wf = false
    ∧ (Instr.keyReadDone { okKey with sfdp := 2 ^ 32 } 0).wf = false := by decide
theorem test_wf_thermal_round : (Instr.thermalRound []).wf = false ∧ (Instr.thermalRound (List.replicate 12 .silent)).wf = true ∧ (Instr.thermalRound (List.replicate 13 (.value 5))).wf = false := by decide

/-! Examples of the spec on fixed values. -/
/-- Chapter 5, Example: LG03 (source 21) in DERATE at 110.0 °C with DERATE 1,000, SHUT 1,250 and FLOOR 200 limits T1 to 68.0 %. -/
def warm : State :=
  ((((mk .run).setF Reg.TH_S_UPPER_DERATE 21 1000).setF Reg.TH_S_SHUT_SHUT 21 1250).setF Reg.TH_CFG_FLOOR 0 200).setF Reg.TH_S_VALUE_EFF 21 1100
theorem test_thermal_example : warm.thSourceLimit 21 = 680 := by decide +kernel

/-- Chapter 18, Example: a colony with MAX_DEPTH 36 and a cycle of 1 ms, or 250 µs, whose publish frame 0 has OFFSET 400. -/
def colony : State :=
  (((mk .starting).setF Reg.FAB_MAX_DEPTH 0 36).setF Reg.FAB_CYCLE_LEN_NOW 0 300000).setF Reg.FAB_PUB_OFFSET 0 400 |>.setFb Reg.FAB_PUB_ENABLE 0 true
theorem test_latency_example_path : colony.latencyCheck.f Reg.FAB_LATENCY = 3095 ∧ colony.latencyCheck.f Reg.FAB_LATENCY 2 = 1238 := by
  decide +kernel
theorem test_latency_example_verdict : colony.latencyCheck.fb Reg.FAB_CYCLE_STATUS_LAT_OK = true
    ∧ (colony.setF Reg.FAB_CYCLE_LEN_NOW 0 75000).latencyCheck.fb Reg.FAB_CYCLE_STATUS_LAT_OK = false := by decide +kernel

/-- Chapter 19, Example: CAN1 at 500 kbit/s and 2 Mbit/s with FD 1. -/
def can1 : State :=
  let s := (((mk .starting).setF Reg.CAN_NOMINAL_BRP 1 0).setF Reg.CAN_NOMINAL_TSEG1 1 62).setF Reg.CAN_NOMINAL_TSEG2 1 15 |>.setF Reg.CAN_NOMINAL_SJW 1 15
  let s := ((s.setF Reg.CAN_DATA_BRP 1 0).setF Reg.CAN_DATA_TSEG1 1 14).setF Reg.CAN_DATA_TSEG2 1 3 |>.setF Reg.CAN_DATA_SJW 1 3
  (((s.setF Reg.CAN_DATA_TDC 1 1).setFb Reg.CAN_CFG_FD 1 true).setFb Reg.CAN_CFG_ENABLE 1 true).setF Reg.CAN_TX_CFG_NORMAL_LIMIT 1 32
theorem test_can_example_words : can1.word 0x1E1100 = 0x01E3CF80 ∧ can1.word 0x1E1200 = 0x1060C380 := by decide +kernel
theorem test_can_example_frame : frameBits true true 64 = (57, 678) ∧ can1.canTMax 1 = 453000 := by decide +kernel
theorem test_can_example_bound : (can1.canBound 1).f Reg.CAN_TX_BOUND 1 = 14043 := by decide +kernel

/-! ### Witnesses: for every statement with hypotheses, a state and operands that meet them -/

theorem wit_startEvents_1 : ∃ (s : State), (s.module = .off) :=
  ⟨State.reset, by decide +kernel⟩

theorem wit_startEvents_2 : ∃ (s : State), (s.powered = true) ∧ (s.on .dying = false) :=
  ⟨mk .ready, by decide +kernel⟩

theorem wit_startEvents_3 : ∃ (s : State), (s.on .dying = true) :=
  ⟨(mk .ready).setOn .dying 0 true, by decide +kernel⟩

theorem wit_startEvents_4 : ∃ (s : State), (s.module = .sleep ∨ s.module = .ship) :=
  ⟨mk .ship, by decide +kernel⟩

theorem wit_startEvents_5 : ∃ (s : State), (s.module = .ready) ∧ (s.on .entering = true) ∧ (s.on .wakeLatched = false) :=
  ⟨(mk .ready).setV .entering 0 1, by decide +kernel⟩

theorem wit_startEvents_6 : ∃ (s : State) (channel : Fin 4), (s.module = .sleep) ∧ ((s.f Reg.START_WAKE_SOURCES_CAN_WAKE).testBit channel.val = true) ∧ (s.vn .entering ≠ 2) :=
  ⟨(mk .sleep).setF Reg.START_WAKE_SOURCES_CAN_WAKE 0 8, 3, by decide +kernel⟩

theorem wit_startEvents_7 : ∃ (s : State) (port : Fin 4), (s.module = .sleep) ∧ ((s.f Reg.START_WAKE_SOURCES_FABRIC_WAKE).testBit port.val = true) ∧ (s.fb Reg.FAB_PORT_CFG_ENABLE port.val = true) ∧ (s.vn .entering ≠ 2) :=
  ⟨((mk .sleep).setF Reg.START_WAKE_SOURCES_FABRIC_WAKE 0 8).setFb Reg.FAB_PORT_CFG_ENABLE 3 true, 3, by decide +kernel⟩

theorem wit_startEvents_8 : ∃ (s : State), (s.isOpen .sleepIdle = true) ∧ (s.module = .ready) ∧ (s.allStopped = true) ∧ (s.keyBusy = false) ∧ (s.on .entering = false) :=
  ⟨(mk .ready).setDue .sleepIdle 0 (some 9), by decide +kernel⟩

theorem wit_startEvents_9 : ∃ (s : State), (s.module = .ready) ∧ (s.vn .entering = 1) ∧ (s.vn .wakeLatched = 0) :=
  ⟨(mk .ready).setV .entering 0 1, by decide +kernel⟩

theorem wit_startEvents_10 : ∃ (s : State), (s.module = .ready) ∧ (s.vn .entering = 1) ∧ (s.vn .wakeLatched ≠ 0) :=
  ⟨((mk .ready).setV .entering 0 1).setV .wakeLatched 0 2, by decide +kernel⟩

theorem wit_startEvents_11 : ∃ (s : State), (s.module = .ready) ∧ (s.vn .entering = 2) ∧ (s.vn .wakeLatched = 0) :=
  ⟨(mk .ready).setV .entering 0 2, by decide +kernel⟩

theorem wit_startEvents_12 : ∃ (s : State), (s.on .restarting = true) ∧ (s.module = .unconfigured ∨ s.module = .ready ∨ s.module = .service ∨ s.module = .safe) :=
  ⟨(mk .safe).setOn .restarting 0 true, by decide +kernel⟩

theorem wit_startSteps_1 : ∃ (s : State), (s.module = .starting) ∧ (s.vn .startStep = 1) ∧ (s.vn .injectOk = 0) ∧ (s.vn .memoryOk = 0) :=
  ⟨(mk .starting).setV .startStep 0 1, by decide +kernel⟩

theorem wit_startSteps_2 : ∃ (s : State), (s.module = .starting) ∧ (s.vn .startStep = 1) ∧ (s.vn .injectOk = 0) ∧ (s.vn .memoryOk ≠ 0) :=
  ⟨((mk .starting).setV .startStep 0 1).setV .memoryOk 0 1, by decide +kernel⟩

theorem wit_startSteps_3 : ∃ (s : State), (s.module = .starting) ∧ (s.vn .startStep = 1) ∧ (s.vn .injectOk = 0) ∧ (s.vn .memoryOk = 0) :=
  ⟨(mk .starting).setV .startStep 0 1, by decide +kernel⟩

theorem wit_startSteps_4 : ∃ (s : State), (s.module = .starting) ∧ (s.vn .startStep = 1) ∧ (s.vn .injectOk = 1) ∧ (s.vn .memoryOk = 0) :=
  ⟨((mk .starting).setV .startStep 0 1).setV .injectOk 0 1, by decide +kernel⟩

theorem wit_startSteps_5 : ∃ (s : State), (s.module = .starting) ∧ (s.vn .startStep = 1) ∧ (s.vn .memoryOk = 1) ∧ (s.on .logBuilt = false) ∧ (s.vn .keyFound = 0) ∧ (s.vn .injectOk = 0) ∧ (s.log.recs = []) :=
  ⟨((mk .starting).setV .startStep 0 1).setV .memoryOk 0 1, by decide +kernel⟩

theorem wit_startSteps_6 : ∃ (s : State) (key : KeyObs), (s.module = .starting) ∧ (s.vn .startStep = 1) ∧ (s.vn .injectOk = 1) ∧ (s.vn .memoryOk = 1) ∧ (s.on .logBuilt = true) ∧ (s.vn .keyFound = 0) ∧ (key.jedec = 0) :=
  ⟨((((mk .starting).setV .startStep 0 1).setV .memoryOk 0 1).setV .injectOk 0 1).setOn .logBuilt 0 true, noKey, by decide +kernel⟩

theorem wit_startSteps_7 : ∃ (s : State) (key : KeyObs), (s.module = .starting) ∧ (s.vn .startStep = 1) ∧ (s.vn .injectOk = 1) ∧ (s.vn .memoryOk = 1) ∧ (s.on .logBuilt = true) ∧ (s.vn .keyFound = 0) ∧ (key.jedec = 0x123456) ∧ (key.sfdp = 0x50444653) ∧ (key.capacity = 16) ∧ (key.contents = none) ∧ (s.chosenSlot.isSome = true) :=
  ⟨keyState, { noKey with jedec := 0x123456, sfdp := 0x50444653, capacity := 16 }, (⟨by decide, by decide, by decide, by decide, by decide, by decide, by decide, by decide, by decide, by decide, keyState_chosen⟩)⟩

theorem wit_startSteps_8 : ∃ (s : State), (s.module = .starting) ∧ (s.vn .startStep = 6) :=
  ⟨(mk .starting).setV .startStep 0 6, by decide +kernel⟩

theorem wit_startSteps_9 : ∃ (s : State), (s.module = .starting) ∧ (s.vn .startStep = 7) :=
  ⟨(mk .starting).setV .startStep 0 7, by decide +kernel⟩

theorem wit_startSteps_10 : ∃ (s : State), (s.isOpen .supplyStep = true) ∧ ((s.supplyGroups[s.vn .supplyGroup]?).isSome = true) :=
  ⟨((mk .starting).setFb Reg.LEG_CFG_ENABLE 0 true).setDue .supplyStep 0 (some 5), by decide +kernel⟩

theorem wit_startSteps_11 : ∃ (s : State) (others : StepEight), (s.step8Ended others = true) :=
  ⟨((((mk .starting).setV .startStep 0 8).setOn .supplyDone 0 true).setV .testRes 0 1).setV .testRes 1 1, ⟨true, true, true⟩, by decide +kernel⟩

theorem wit_startSteps_12 : ∃ (s : State) (found : Option (Nat × List Byte)), (s.isOpen .keyCheck = true) ∧ (s.keyDiffers found = false) :=
  ⟨(mk .ready).setDue .keyCheck 0 (some 5), some (0, []), by decide +kernel⟩

theorem wit_startSteps_13 : ∃ (s : State) (found : Option (Nat × List Byte)), (s.keyDiffers found = true) ∧ (s.isOpen .keyCheck = true) ∧ (5 ≤ s.module.code) ∧ (s.keyBusy = false) ∧ (s.fb Reg.START_KEY_STATUS_KEY_CHANGED = false) :=
  ⟨(mk .ready).setDue .keyCheck 0 (some 5), none, by decide +kernel⟩

theorem wit_startSteps_14 : ∃ (s : State), (s.fb Reg.CLK_STATUS_XTAL_FAIL = true) ∧ (s.fb Reg.CLK_STATUS_ON_BACKUP = false) :=
  ⟨(mk .ready).setFb Reg.CLK_STATUS_XTAL_FAIL 0 true, by decide +kernel⟩

theorem wit_clockEvents_1 : ∃ (s : State), (s.isOpen .holdover = true) ∧ (s.disc = 3) :=
  ⟨((mk .ready).setDue .holdover 0 (some 6)).setF Reg.CLK_STATUS_STATE 0 3, by decide +kernel⟩

theorem wit_clockEvents_2 : ∃ (s : State), (s.isOpen .corrLimit = true) :=
  ⟨(mk .ready).setDue .corrLimit 0 (some 6), by decide +kernel⟩

theorem wit_clockEvents_3 : ∃ (s : State), (s.fb Reg.CLK_STATUS_XTAL_FAIL = false) :=
  ⟨State.reset, by decide +kernel⟩

theorem wit_clockEvents_4 : ∃ (s : State), (s.fb Reg.CLK_STATUS_PLL_FAIL = false) :=
  ⟨State.reset, by decide +kernel⟩

theorem wit_clockEvents_5 : ∃ (s : State) (clock : Fin 7) (count : Nat), (s.fb Reg.CLK_STATUS_COUNT_FAIL = false) ∧ (count + 1 < clockExpect clock.val ∨ clockExpect clock.val + 1 < count) :=
  ⟨State.reset, 6, 12, by decide +kernel⟩

theorem wit_clockEvents_6 : ∃ (s : State) (r : BusReq) (drained : Nat) (t : Nat), (s.vn .scrubWait = 0) ∧ (¬(busClass r = 6 ∧ r.who = 1)) ∧ ((((s.arrive t).drainPosted drained).awaitBus).mayGrant r = true) ∧ (r.write = true) ∧ (r.who < 16) ∧ (s.vn .grantPlace (busClass r) < 16) ∧ (r.waited < 2 ^ 32) :=
  ⟨State.reset, { cls := 2, who := 3, write := true, mram := false, waited := 7, ecc := .ok }, 0, 0, by decide +kernel⟩

theorem wit_clockEvents_7 : ∃ (s : State), (s.isOpen .scrub = true) ∧ (s.vn .scrubWait = 0) ∧ (s.vn .posted < 4) :=
  ⟨(mk .ready).setDue .scrub 0 (some 6), by decide +kernel⟩

theorem wit_clockEvents_8 : ∃ (s : State), (s.isOpen .scrub = true) ∧ (s.vn .scrubWait = 0) ∧ (s.vn .posted < 4) :=
  ⟨(mk .ready).setDue .scrub 0 (some 6), by decide +kernel⟩

theorem wit_clockEvents_9 : ∃ (s : State), (s.isOpen .scrub = true) ∧ (s.vn .scrubWait = 0) ∧ (s.vn .posted < 4) :=
  ⟨(mk .ready).setDue .scrub 0 (some 6), by decide +kernel⟩

theorem wit_clockEvents_10 : ∃ (s : State) (b : ScrubBlock), (s.isOpen .scrub = true) ∧ (4 ≤ s.vn .posted) ∧ (b.waiting = []) :=
  ⟨((mk .ready).setDue .scrub 0 (some 6)).setV .posted 0 4, { ecc := .ok }, by decide +kernel⟩

theorem wit_samplingEvents_1 : ∃ (s : State) (core : Fin 4), (s.isOpen .rotate core.val = true) ∧ (s.on .calPass core.val = true) :=
  ⟨((mk .ready).setDue .rotate 3 (some 6)).setOn .calPass 3 true, 3, by decide +kernel⟩

theorem wit_samplingEvents_2 : ∃ (s : State) (core : Fin 4), (s.isOpen .rotate core.val = true) ∧ (s.on .calPass core.val = false) :=
  ⟨(mk .ready).setDue .rotate 3 (some 6), 3, by decide +kernel⟩

theorem wit_samplingEvents_3 : ∃ (s : State) (core : Fin 4) (offset : Int) (gain : Int) (skew : Int), (s.isOpen .calEnd core.val = true) ∧ (s.vn .calSlice core.val < 9) ∧ (calWithin offset gain skew = true) :=
  ⟨(mk .ready).setDue .calEnd 2 (some 6), 2, 50000, -20000, 15000, by decide +kernel⟩

theorem wit_samplingEvents_4 : ∃ (s : State) (core : Fin 4) (offset : Int) (gain : Int) (skew : Int), (s.isOpen .calEnd core.val = true) ∧ (calWithin offset gain skew = false) ∧ (s.f Reg.SMP_CORE_STATUS_FAILED core.val = 0) :=
  ⟨(mk .ready).setDue .calEnd 2 (some 6), 2, 50001, 0, 0, by decide +kernel⟩

theorem wit_samplingEvents_5 : ∃ (s : State) (core : Fin 4) (offset : Int) (gain : Int) (skew : Int), (s.isOpen .calEnd core.val = true) ∧ (calWithin offset gain skew = false) ∧ (s.f Reg.SMP_CORE_STATUS_FAILED core.val ≠ 0) :=
  ⟨((mk .ready).setDue .calEnd 2 (some 6)).setF Reg.SMP_CORE_STATUS_FAILED 2 4, 2, 0, 0, -15001, by decide +kernel⟩

theorem wit_samplingEvents_6 : ∃ (s : State) (core : Fin 4), (s.isOpen .calStale core.val = true) :=
  ⟨(mk .ready).setDue .calStale 1 (some 5), 1, by decide +kernel⟩

theorem wit_samplingEvents_7 : ∃ (s : State) (input : Fin 80), (s.f Reg.SMP_AI_CFG_OVR_FILTER input.val ≤ s.vn .ovrRun input.val) ∧ (s.present Ev.INPUT_OVERRANGE input.val = false) :=
  ⟨(mk .ready).setV .ovrRun 79 200, 79, by decide +kernel⟩

theorem wit_samplingEvents_8 : ∃ (s : State) (core : Fin 4) (e : DmaEntry), (s.on .seqWait core.val = true ∨ s.f Reg.SMP_CORE_CFG_TABLE_LEN core.val = 0) ∧ (s.dmaFifo = [e]) ∧ (e.core = core.val) ∧ (e.here = true) ∧ (e.last = true) ∧ (e.buf < 16) ∧ (s.f Reg.SMP_BUF_CFG_SIZE_LOG2 (16 * core.val + e.buf) ≠ 0) ∧ (s.fb Reg.SMP_BUF_CONTROL_FROZEN (16 * core.val + e.buf) = false) ∧ (s.on .bufTrig (16 * core.val + e.buf) = false) :=
  ⟨{ (mk .ready).setF Reg.SMP_BUF_CFG_SIZE_LOG2 17 8 with dmaFifo := [{ core := 1, buf := 1, entry := 5, due := 0, here := true, last := true }] }, 1, { core := 1, buf := 1, entry := 5, due := 0, here := true, last := true }, by decide +kernel⟩

theorem wit_samplingEvents_9 : ∃ (s : State) (core : Fin 4) (t : Nat) (e : DmaEntry), (128 ≤ (s.fifo core.val).length) ∧ ((s.dmaFifo.filter fun x => x.core == core.val && !x.here) = [e]) ∧ (e.due ≤ sampleCycle (max s.now t)) ∧ (s.bufClosed (16 * core.val + e.buf) = false) ∧ (s.on .seqWait core.val = true ∨ s.f Reg.SMP_CORE_CFG_TABLE_LEN core.val = 0) :=
  ⟨{ mk .ready with dmaFifo := List.replicate 128 { core := 2, buf := 0, entry := 0, due := 0, here := true, last := false } ++ [{ core := 2, buf := 0, entry := 0, due := 0, here := false, last := false }] }, 2, 0, { core := 2, buf := 0, entry := 0, due := 0, here := false, last := false }, by decide +kernel⟩

theorem wit_samplingEvents_10 : ∃ (s : State) (core : Fin 4), ((s.dmaFifo.filter fun x => x.core == core.val) = []) ∧ (s.on .seqWait core.val = true ∨ s.f Reg.SMP_CORE_CFG_TABLE_LEN core.val = 0) :=
  ⟨mk .ready, 2, by decide +kernel⟩

theorem wit_samplingEvents_11 : ∃ (s : State) (buffer : Fin 64), (s.on .bufTrig buffer.val = true) ∧ (s.vn .bufPost buffer.val = 0) ∧ (s.fb Reg.SMP_BUF_CONTROL_FROZEN buffer.val = false) :=
  ⟨(mk .ready).setOn .bufTrig 63 true, 63, by decide +kernel⟩

theorem wit_samplingEvents_12 : ∃ (s : State) (stage : Stage), (s.fb Reg.PULSE_STATUS_RUN stage.idx = false) ∧ (s.powered = true) ∧ ((∀ c ∈ List.range 4, s.vn .seqEntry c < 512)) :=
  ⟨mk .ready, .X2, by decide +kernel⟩

theorem wit_samplingEvents_13 : ∃ (s : State) (core : Fin 4) (stage : Stage), (s.fb Reg.PULSE_STATUS_RUN stage.idx = false) ∧ (s.powered = true) ∧ ((∀ c ∈ List.range 4, s.vn .seqEntry c < 512)) ∧ (s.on .substMid (core.val * 8 + stage.idx) = false) :=
  ⟨mk .ready, 0, .T1, by decide +kernel⟩

theorem wit_samplingEvents_14 : ∃ (s : State), (s.isOpen .hkRound = true) ∧ ((s.f Reg.HK_MASK).testBit 0 = true) :=
  ⟨((mk .ready).setDue .hkRound 0 (some 6)).setF Reg.HK_MASK 0 1, by decide +kernel⟩

theorem wit_samplingEvents_15 : ∃ (s : State), (s.isOpen .hkRound = true) :=
  ⟨(mk .ready).setDue .hkRound 0 (some 6), by decide +kernel⟩

theorem wit_samplingEvents_16 : ∃ (s : State) (resolver : Fin 2) (a : Fin 32), (s.isOpen .excPeak resolver.val = true) ∧ (s.vn .seqEntry resolver.val < 512) ∧ (s.vn .evLast (resolver.val * 8 + 7) % 2 = 0) ∧ (s.f Reg.SMP_ACC_CFG_LATCH_SRC (32 * resolver.val + a.val) = 7) ∧ (s.f Reg.SMP_ACC_CFG_LATCH_EVT (32 * resolver.val + a.val) = 3) :=
  ⟨(((mk .ready).setDue .excPeak 1 (some 6)).setF Reg.SMP_ACC_CFG_LATCH_SRC 33 7).setF Reg.SMP_ACC_CFG_LATCH_EVT 33 3, 1, 1, by decide +kernel⟩

theorem wit_thermalRound_1 : ∃ (s : State), (s.f Reg.HK_ROUNDS ≠ 0) ∧ (s.f Reg.HK_ROUNDS % 10 = 0) :=
  ⟨(mk .ready).setF Reg.HK_ROUNDS 0 10, by decide +kernel⟩

theorem wit_feedbackEvents_1 : ∃ (s : State) (channel : Fin 8) (pins : List PinChange) (t : Nat) (c : Nat) (new : Nat), (s.f Reg.FB_MODE_MODE channel.val = 1) ∧ (s.f Reg.FB_INDEX_INDEX_MODE channel.val = 0) ∧ ((s.fbInputs channel pins t).acceptsOnce channel.val c new = true) ∧ (quadOf new = (quadOf ((s.fbInputs channel pins t).vn .fbLevels channel.val) + 1) % 4) :=
  ⟨{ ((mk .ready).setF Reg.FB_MODE_MODE 7 1) with accepts := [{ ch := 7, pair := 0, level := true, due := 0 }] }, 7, [], 0, 0, 1, by decide +kernel⟩

theorem wit_feedbackEvents_2 : ∃ (s : State) (channel : Fin 8) (pins : List PinChange) (t : Nat) (c : Nat) (new : Nat), (s.f Reg.FB_MODE_MODE channel.val = 1) ∧ (s.f Reg.FB_INDEX_INDEX_MODE channel.val = 0) ∧ ((s.fbInputs channel pins t).acceptsOnce channel.val c new = true) ∧ (quadOf new = (quadOf ((s.fbInputs channel pins t).vn .fbLevels channel.val) + 3) % 4) :=
  ⟨{ ((mk .ready).setF Reg.FB_MODE_MODE 7 1) with accepts := [{ ch := 7, pair := 1, level := true, due := 0 }] }, 7, [], 0, 0, 2, by decide +kernel⟩

theorem wit_feedbackEvents_3 : ∃ (s : State) (channel : Fin 8) (pins : List PinChange) (t : Nat) (c : Nat) (new : Nat), (s.f Reg.FB_MODE_MODE channel.val = 1) ∧ (s.f Reg.FB_INDEX_INDEX_MODE channel.val = 0) ∧ ((s.fbInputs channel pins t).acceptsOnce channel.val c new = true) ∧ (quadOf new = (quadOf ((s.fbInputs channel pins t).vn .fbLevels channel.val) + 2) % 4) :=
  ⟨{ ((mk .ready).setF Reg.FB_MODE_MODE 7 1) with accepts := [{ ch := 7, pair := 0, level := true, due := 0 }, { ch := 7, pair := 1, level := true, due := 0 }] }, 7, [], 0, 0, 3, by decide +kernel⟩

theorem wit_feedbackEvents_4 : ∃ (s : State) (channel : Fin 8) (pins : List PinChange) (t : Nat) (c : Nat) (new : Nat), (s.f Reg.FB_MODE_MODE channel.val = 1) ∧ (s.f Reg.FB_INDEX_INDEX_MODE channel.val ≠ 0) ∧ (s.fb Reg.FB_INDEX_REF_MODE channel.val = true) ∧ ((s.fbInputs channel pins t).fb Reg.FB_STATUS_REF_OK channel.val = false) ∧ ((s.fbInputs channel pins t).acceptsOnce channel.val c new = true) ∧ ((s.fbInputs channel pins t).on .zArmed channel.val = true) ∧ (new.testBit 2 = true) ∧ (quadOf new = quadOf ((s.fbInputs channel pins t).vn .fbLevels channel.val)) ∧ ((((s.fbInputs channel pins t).setV .fbLevels channel.val new).zGate channel.val) = true) :=
  ⟨{ ((mk .ready).setF Reg.FB_MODE_MODE 7 1).setF Reg.FB_INDEX_INDEX_MODE 7 1 |>.setFb Reg.FB_INDEX_REF_MODE 7 true |>.setOn .zArmed 7 true with accepts := [{ ch := 7, pair := 2, level := true, due := 0 }] }, 7, [], 0, 0, 4, by decide +kernel⟩

theorem wit_feedbackEvents_5 : ∃ (s : State) (channel : Fin 8) (pins : List PinChange) (t : Nat) (c : Nat) (new : Nat), (s.f Reg.FB_MODE_MODE channel.val = 2) ∧ ((s.fbInputs channel pins t).acceptsOnce channel.val c new = true) :=
  ⟨{ ((mk .ready).setF Reg.FB_MODE_MODE 7 2) with accepts := [{ ch := 7, pair := 0, level := true, due := 0 }] }, 7, [], 0, 0, 1, by decide +kernel⟩

theorem wit_feedbackEvents_6 : ∃ (s : State) (channel : Fin 8) (pins : List PinChange), (s.endsQuiet channel pins .hallBad channel = true) ∧ ((s.atEnd channel pins .hallBad channel).present Ev.HALL_INVALID channel.val = false) :=
  ⟨((mk .ready).setF Reg.FB_MODE_MODE 2 2).setDue .hallBad 2 (some 20), 2, [], by decide +kernel⟩

theorem wit_feedbackEvents_7 : ∃ (s : State) (channel : Fin 8) (pins : List PinChange), (s.endsQuiet channel pins .hallGood channel = true) :=
  ⟨((mk .ready).setF Reg.FB_MODE_MODE 2 2).setDue .hallGood 2 (some 20), 2, [], by decide +kernel⟩

theorem wit_feedbackEvents_8 : ∃ (s : State) (channel : Fin 8) (pair : Fin 4) (pins : List PinChange), (s.endsQuiet channel pins .wire (4 * channel.val + pair.val) = true) ∧ ((s.atEnd channel pins .wire (4 * channel.val + pair.val)).present Ev.WIRE_FAULT (4 * channel.val + pair.val) = false) :=
  ⟨((mk .ready).setF Reg.FB_MODE_MODE 2 1).setDue .wire 9 (some 20), 2, 1, [], by decide +kernel⟩

theorem wit_feedbackEvents_9 : ∃ (s : State) (channel : Fin 8) (pair : Fin 4) (pins : List PinChange), (s.endsQuiet channel pins .wireOk (4 * channel.val + pair.val) = true) :=
  ⟨((mk .ready).setF Reg.FB_MODE_MODE 2 1).setDue .wireOk 9 (some 20), 2, 1, [], by decide +kernel⟩

theorem wit_feedbackEvents_10 : ∃ (s : State) (channel : Fin 8), (s.on .fbSup channel.val = true) ∧ (s.present Ev.SUPPLY_FAULT channel.val = false) :=
  ⟨(mk .ready).setOn .fbSup 2 true, 2, by decide +kernel⟩

theorem wit_feedbackEvents_11 : ∃ (s : State) (channel : Fin 8), (s.isOpen .supRetry channel.val = true) :=
  ⟨(mk .ready).setDue .supRetry 2 (some 6), 2, by decide +kernel⟩

theorem wit_feedbackEvents_12 : ∃ (s : State) (channel : Fin 8), (s.isOpen .supHeld channel.val = true) :=
  ⟨(mk .ready).setDue .supHeld 2 (some 6), 2, by decide +kernel⟩

theorem wit_feedbackEvents_13 : ∃ (s : State) (channel : Fin 2) (conv : List Int), (s.isOpen .resWin channel.val = true) ∧ ((s.resSums channel conv).vn .resSinN channel.val < 8) ∧ ((s.resSums channel conv).vn .resStale channel.val = 3) :=
  ⟨(((mk .ready).setF Reg.FB_MODE_MODE 1 3).setDue .resWin 1 (some 20)).setV .resStale 1 3, 1, [], by decide +kernel⟩

theorem wit_feedbackEvents_14 : ∃ (s : State) (channel : Fin 2), (s.isOpen .resWin channel.val = true) ∧ (s.vn .seqEntry channel.val < 512) :=
  ⟨((mk .ready).setF Reg.FB_MODE_MODE 1 3).setDue .resWin 1 (some 20), 1, by decide +kernel⟩

theorem wit_feedbackEvents_15 : ∃ (s : State) (channel : Fin 2), (s.f Reg.FB_MODE_MODE channel.val = 3) ∧ (s.present Ev.EXC_FAULT channel.val = false) :=
  ⟨(mk .ready).setF Reg.FB_MODE_MODE 1 3, 1, by decide +kernel⟩

theorem wit_feedbackEvents_16 : ∃ (s : State) (channel : Fin 2) (amp : Nat), (s.f Reg.FB_MODE_MODE channel.val = 3) ∧ (amp = s.f Reg.FB_RES_EXC_AMP channel.val) ∧ (s.vn .excGood channel.val = 3) :=
  ⟨((mk .ready).setF Reg.FB_MODE_MODE 1 3).setV .excGood 1 3, 1, (mk .ready).f Reg.FB_RES_EXC_AMP 1, by decide +kernel⟩

theorem wit_feedbackEvents_17 : ∃ (s : State) (channel : Fin 8), (s.isOpen .ssiWindow channel.val = true) ∧ (s.f Reg.FB_MODE_MODE channel.val = 4) ∧ (s.on .ssiEnd channel.val = false) :=
  ⟨((mk .ready).setF Reg.FB_MODE_MODE 5 4).setDue .ssiWindow 5 (some 7), 5, by decide +kernel⟩

theorem wit_feedbackEvents_18 : ∃ (s : State) (channel : Fin 8) (pins : List PinChange), (s.isOpen .ssiFrame channel.val = true) ∧ (s.f Reg.FB_MODE_MODE channel.val = 4) ∧ (s.ssiCheck channel (s.ssiLevels channel pins) = none) ∧ (s.vn .ssiBad channel.val = 2) ∧ (s.present Ev.SSI_FRAME channel.val = false) :=
  ⟨(((mk .ready).setF Reg.FB_MODE_MODE 5 4).setDue .ssiFrame 5 (some 20)).setV .ssiBad 5 2, 5, [], by decide +kernel⟩

theorem wit_feedbackEvents_19 : ∃ (s : State) (channel : Fin 8) (pins : List PinChange) (pos : Nat), (s.isOpen .ssiFrame channel.val = true) ∧ (s.f Reg.FB_MODE_MODE channel.val = 4) ∧ (s.ssiCheck channel (s.ssiLevels channel pins) = some pos) :=
  ⟨(((mk .ready).setF Reg.FB_MODE_MODE 5 4).setDue .ssiFrame 5 (some 20)).setV .fbLevels 5 1, 5, [⟨0, false, true, 20⟩], 0, by decide +kernel⟩

theorem wit_feedbackEvents_20 : ∃ (s : State) (channel : Fin 8), (s.endsQuiet channel [] .fbWindow channel = true) :=
  ⟨(mk .ready).setDue .fbWindow 5 (some 20), 5, by decide +kernel⟩

theorem wit_feedbackEvents_21 : ∃ (s : State) (channel : Fin 8), (s.endsQuiet channel [] .fbZero channel = true) :=
  ⟨(mk .ready).setDue .fbZero 5 (some 20), 5, by decide +kernel⟩

theorem wit_slotEvents_1 : ∃ (s : State) (slot : Fin 48), (s.f Reg.SLOT_TRIGGER_SRC slot.val ≠ 3) ∧ (s.isOpen .slotTrig slot.val = true) ∧ (s.slotActive slot.val = true) ∧ (s.on .slotPend slot.val = false) ∧ (s.on .slotRun slot.val = false) :=
  ⟨((mkSt .run .X1 .running).setF Reg.SLOT_TYPE_TYPE 5 10 |>.setF Reg.SLOT_TYPE_STAGE 5 5).setDue .slotTrig 5 (some 4), 5, by decide +kernel⟩

theorem wit_slotEvents_2 : ∃ (s : State) (slot : Fin 48), (s.f Reg.SLOT_TRIGGER_SRC slot.val ≠ 3) ∧ (s.isOpen .slotTrig slot.val = true) ∧ (s.slotActive slot.val = true) ∧ (s.on .slotPend slot.val = true ∨ s.on .slotRun slot.val = true) :=
  ⟨((mkSt .run .X1 .running).setF Reg.SLOT_TYPE_TYPE 5 10 |>.setF Reg.SLOT_TYPE_STAGE 5 5).setDue .slotTrig 5 (some 4) |>.setOn .slotRun 5 true, 5, by decide +kernel⟩

theorem wit_slotEvents_3 : ∃ (s : State) (slot : Fin 48), (s.f Reg.SLOT_TRIGGER_SRC slot.val = 3) ∧ (s.isOpen .slotTimer slot.val = true) :=
  ⟨((mk .ready).setF Reg.SLOT_TRIGGER_SRC 5 3).setDue .slotTimer 5 (some 4), 5, by decide +kernel⟩

theorem wit_slotEvents_4 : ∃ (s : State) (lane : Fin 4) (n : Fin 48), (s.nextSlot lane.val = some n.val) ∧ ((s.runs.any fun r => r.lane == lane.val) = false) :=
  ⟨((mkSt .run .X1 .running).setF Reg.SLOT_TYPE_TYPE 5 10 |>.setF Reg.SLOT_TYPE_STAGE 5 5).setOn .slotPend 5 true, 0, 5, by decide +kernel⟩

theorem wit_slotEvents_5 : ∃ (s : State) (lane : Fin 4) (r : Run), (s.isOpen .laneEnd lane.val = true) ∧ (s.runs = [r]) ∧ (r.lane = lane.val) ∧ (r.slot < 48) ∧ (s.on .slotRun r.slot = true) :=
  ⟨{ ((mkSt .run .X1 .running).setOn .slotRun 5 true).setDue .laneEnd 2 (some 4) with runs := [{ State.reset.runBase 5 with lane := 2 }] }, 2, { State.reset.runBase 5 with lane := 2 }, by decide +kernel⟩

theorem wit_slotEvents_6 : ∃ (s : State) (slot : Fin 48), (s.isOpen .slotFe slot.val = true) ∧ (s.fb Reg.SLOT_MODE_MODE slot.val = true) ∧ (s.st (s.slotStage slot.val) = .running) :=
  ⟨(((mkSt .run .X1 .running).setF Reg.SLOT_TYPE_TYPE 5 10 |>.setF Reg.SLOT_TYPE_STAGE 5 5).setDue .slotFe 5 (some 4)).setFb Reg.SLOT_MODE_MODE 5 true, 5, by decide +kernel⟩

theorem wit_slotEvents_7 : ∃ (s : State) (slot : Fin 48), (s.f Reg.SLOT_SP_CFG_SP_SRC slot.val = 0) ∧ (s.isOpen .slotSpTimer slot.val = true) ∧ (s.slotActive slot.val = true) :=
  ⟨((mkSt .run .X1 .running).setF Reg.SLOT_TYPE_TYPE 5 10 |>.setF Reg.SLOT_TYPE_STAGE 5 5).setDue .slotSpTimer 5 (some 4), 5, by decide +kernel⟩

theorem wit_slotEvents_8 : ∃ (s : State) (slot : Fin 48), (s.f Reg.SLOT_SP_CFG_SP_SRC slot.val = 1) ∧ (s.spSourceGone slot.val = true) ∧ (s.slotActive slot.val = true) :=
  ⟨((mkSt .run .X1 .running).setF Reg.SLOT_TYPE_TYPE 5 10 |>.setF Reg.SLOT_TYPE_STAGE 5 5).setF Reg.SLOT_SP_CFG_SP_SRC 5 1, 5, by decide +kernel⟩

theorem wit_pulseEvents_1 : ∃ (s : State) (stage : Stage), (s.isOpen .carrierStart stage.idx = true) :=
  ⟨(mk .run).setDue .carrierStart 6 (some 4), .X2, by decide +kernel⟩

theorem wit_pulseEvents_2 : ∃ (s : State) (stage : Stage), (s.isOpen .periodStart stage.idx = true) ∧ (s.on .tripPer stage.idx = false) :=
  ⟨(mk .run).setDue .periodStart 6 (some 4), .X2, by decide +kernel⟩

theorem wit_pulseEvents_3 : ∃ (s : State) (stage : Stage), (s.isOpen .periodStart stage.idx = true) ∧ (s.on .tripPer stage.idx = true) :=
  ⟨((mk .run).setDue .periodStart 6 (some 4)).setOn .tripPer 6 true, .X2, by decide +kernel⟩

theorem wit_pulseEvents_4 : ∃ (s : State) (stage : Stage), (s.isOpen .periodMiddle stage.idx = true) :=
  ⟨(mk .run).setDue .periodMiddle 6 (some 4), .X2, by decide +kernel⟩

theorem wit_pulseEvents_5 : ∃ (s : State) (leg : Fin 32), (s.isOpen .commit leg.val = true) :=
  ⟨(mk .run).setDue .commit 31 (some 4), 31, by decide +kernel⟩

theorem wit_pulseEvents_6 : ∃ (s : State) (leg : Fin 32), (s.isOpen .legReload leg.val = true) ∧ (s.on .legPending leg.val = true) ∧ (s.stopMeets (Stage.ofLeg leg.val) (s.vn .legNext leg.val) = false) ∧ (s.vn .legCommitAt leg.val / Clk.pulse + 2 ≤ s.vn .legNext leg.val / 64) :=
  ⟨((mk .run).setDue .legReload 31 (some 4)).setOn .legPending 31 true |>.setV .legNext 31 1280, 31, by decide +kernel⟩

theorem wit_pulseEvents_7 : ∃ (s : State) (leg : Fin 32), (s.isOpen .legReload leg.val = true) ∧ (s.vn .legTripAt leg.val < s.vn .legNext leg.val / 64 * Clk.pulse) :=
  ⟨((mk .run).setDue .legReload 31 (some 6)).setV .legNext 31 128, 31, by decide +kernel⟩

theorem wit_pulseEvents_10 : ∃ (s : State) (leg : Fin 32), (s.isOpen .tripWindow leg.val = true) :=
  ⟨(mk .run).setDue .tripWindow 31 (some 4), 31, by decide +kernel⟩

theorem wit_pulseEvents_11 : ∃ (s : State) (channel : Fin 64) (e : Edge), (s.firstEdge channel.val = some e) ∧ (e.on = false) ∧ (s.on .enginesDead = false) ∧ (s.vn .gapEnd ≤ vcoOf e.t) ∧ (s.on .chDrive channel.val = true) ∧ (s.wholeUp channel.val (s.vn .chOnAt channel.val + s.minPulse channel.val) ≤ e.t) :=
  ⟨{ (mk .run).setOn .chDrive 63 true with edges := [{ ch := 63, on := false, t := 100000, moved := false }] }, 63, { ch := 63, on := false, t := 100000, moved := false }, by decide +kernel⟩

theorem wit_pulseEvents_12 : ∃ (s : State) (channel : Fin 64) (e : Edge), (s.firstEdge channel.val = some e) ∧ (e.ch = channel.val) ∧ (e.on = true) ∧ (s.on .enginesDead = false) ∧ (s.vn .gapEnd ≤ vcoOf e.t) ∧ (s.enabled channel.val = true) ∧ (s.on .chUvlo channel.val = false) ∧ (s.on .chPathLost channel.val = false) ∧ (s.fb Reg.CH_STATUS_SOFT_OFF channel.val = false) ∧ (s.partnerHolds channel.val = false) ∧ (s.on .chDrive (partner channel.val) = false) ∧ (s.on .chDriven (partner channel.val) = false) :=
  ⟨{ (mk .run).setF Reg.GD_STATUS_ENABLE_SG 0 15 with edges := [{ ch := 63, on := true, t := 100000, moved := false }] }, 63, { ch := 63, on := true, t := 100000, moved := false }, by decide +kernel⟩

theorem wit_pulseEvents_13 : ∃ (s : State) (leg : Fin 32) (conv : List Int) (t : Nat), let w := (s.arrive t).compared (Stage.ofLeg leg.val) conv
    let m := w.vn .legMode leg.val
    let r := w.vn .legStart leg.val
    let per := w.f Reg.PULSE_PERIOD (Stage.ofLeg leg.val).idx * 64
    let cut := subOf ((max s.now t + Clk.pulse - 1) / Clk.pulse * Clk.pulse) + 128
    let x := if m = 2 then cut - (r + w.act leg.val 3) else cut - r
    let p := constParts m (w.act leg.val 3) (w.act leg.val 4) per (some x)
    let p0 := constParts m (w.act leg.val 3) (w.act leg.val 4) per none
    (w.terminates leg.val = true) ∧ (w.isOpen .legReload leg.val = true) ∧ (2 ≤ m) ∧ (w.f Reg.LEG_CFG_TERM_SRC leg.val ≠ 0) ∧ (w.on .legTermed leg.val = false) ∧ (w.carrierMode (Stage.ofLeg leg.val) = m) ∧ (p.1 < p0.1 ∨ p.2 < p0.2) :=
  ⟨((((((mk .run).setDue .legReload 31 (some 4)).setF Reg.PULSE_STATUS_MODE 6 3).setF Reg.LEG_CFG_TERM_SRC 31 1).setFb Reg.LEG_STATUS_CMP 31 true).setF Reg.PULSE_PERIOD 6 1000).setF Reg.LEG_ACTIVE 31 100 3 |>.setF Reg.LEG_ACTIVE 31 10000 4 |>.setV .legMode 31 3, 31, [], 0, by dsimp only; decide +kernel⟩

theorem wit_pulseEvents_14 : ∃ (s : State) (leg : Fin 32) (conv : List Int) (t : Nat), (((s.arrive t).compared (Stage.ofLeg leg.val) conv).on .legTermed leg.val = true) :=
  ⟨(mk .run).setOn .legTermed 31 true, 31, [], 0, by decide +kernel⟩

theorem wit_pulseEvents_15 : ∃ (s : State) (leg : Fin 32) (conv : List Int) (t : Nat), (((s.arrive t).compared (Stage.ofLeg leg.val) conv).terminates leg.val = false) :=
  ⟨mk .run, 31, [], 0, by decide +kernel⟩

theorem wit_failoverEvents_1 : ∃ (s : State) (engine : Fin 2) (t : Nat), (engine.val = s.owner) ∧ (s.engState engine.val = 0) ∧ (s.on .enginesDead = false) ∧ (s.spareIn = true) ∧ ((s.arrive t).failNow (1 - engine.val) = false) ∧ (s.vn .gapEnd ≤ max s.now t) :=
  ⟨(mk .ready).setF Reg.FO_STATUS_STATE_B 0 1, 0, 0, by decide +kernel⟩

theorem wit_failoverEvents_2 : ∃ (s : State) (engine : Fin 2) (t : Nat), (engine.val = 1 - s.owner) ∧ (s.engState engine.val = 1) ∧ (s.on .enginesDead = false) ∧ ((s.arrive t).failNow s.owner = false) :=
  ⟨(mk .ready).setF Reg.FO_STATUS_STATE_B 0 1, 1, 0, by decide +kernel⟩

theorem wit_failoverEvents_3 : ∃ (s : State) (channels : Nat) (t : Nat), (s.engState (1 - s.owner) = 1) ∧ (s.on .enginesDead = false) ∧ ((s.arrive t).earlierRow = false) ∧ (channels ≠ 0) :=
  ⟨(mk .ready).setF Reg.FO_STATUS_STATE_B 0 1, 5, 0, by decide +kernel⟩

theorem wit_failoverEvents_4 : ∃ (s : State) (t : Nat), (s.engState (1 - s.owner) = 1) ∧ (s.on .enginesDead = false) ∧ ((s.arrive t).earlierRow = false) ∧ ((s.arrive t).diffNow.1 = 0) :=
  ⟨(mk .ready).setF Reg.FO_STATUS_STATE_B 0 1, 0, by decide +kernel⟩

theorem wit_failoverEvents_5 : ∃ (s : State) (channels : Nat) (t : Nat), (s.engState (1 - s.owner) = 1) ∧ (s.on .enginesDead = false) ∧ ((s.arrive t).earlierRow = false) ∧ (channels ≠ 0) ∧ (s.fb Reg.FO_STATUS_PENDING = false) :=
  ⟨(mk .ready).setF Reg.FO_STATUS_STATE_B 0 1, 5, 0, by decide +kernel⟩

theorem wit_failoverEvents_6 : ∃ (s : State) (channel : Fin 64) (t : Nat), ((s.arrive t).evaluable channel.val = true) ∧ (s.on .enginesDead = false) ∧ ((s.arrive t).decidedNow = false) ∧ ((s.arrive t).rowNow true = 4) :=
  ⟨((mk .ready).setF Reg.FO_STATUS_STATE_B 0 1).setF Reg.GD_STATUS_ENABLE_SG 0 15, 63, 0, by decide +kernel⟩

theorem wit_failoverEvents_7 : ∃ (s : State) (channel : Fin 64) (t : Nat), ((s.arrive t).evaluable channel.val = true) ∧ (s.on .enginesDead = false) ∧ ((s.arrive t).decidedNow = false) ∧ ((s.arrive t).rowNow true = 9) :=
  ⟨(mk .ready).setF Reg.GD_STATUS_ENABLE_SG 0 15, 63, 0, by decide +kernel⟩

theorem wit_failoverEvents_8 : ∃ (s : State), (s.isOpen .decision = true) ∧ ((s.arrive (s.endOf .decision)).earlierRow = false) :=
  ⟨(mk .ready).setDue .decision 0 (some 6), by decide +kernel⟩

theorem wit_failoverEvents_9 : ∃ (s : State), (s.isOpen .gap = true) ∧ (s.on .exhaustAtGap = false) :=
  ⟨(mk .ready).setDue .gap 0 (some 6), by decide +kernel⟩

theorem wit_failoverEvents_10 : ∃ (s : State), (s.fb Reg.FO_STATUS_INTERLOCK = false) :=
  ⟨mk .ready, by decide +kernel⟩

theorem wit_failoverEvents_11 : ∃ (s : State) (engine : Fin 2), (s.isOpen .selfTest engine.val = true) ∧ (s.module ≠ .starting) :=
  ⟨(mk .ready).setDue .selfTest 1 (some 6), 1, by decide +kernel⟩

theorem wit_failoverEvents_12 : ∃ (s : State), (s.isOpen .syncCopy = true) ∧ (s.on .selfFail (1 - s.owner) = false) :=
  ⟨(mk .ready).setDue .syncCopy 0 (some 6), by decide +kernel⟩

theorem wit_failoverEvents_13 : ∃ (s : State), (s.isOpen .syncCopy = true) ∧ (s.on .selfFail (1 - s.owner) = true) :=
  ⟨((mk .ready).setDue .syncCopy 0 (some 6)).setOn .selfFail 1 true, by decide +kernel⟩

theorem wit_failoverEvents_14 : ∃ (s : State), (s.isOpen .qualify = true) ∧ (s.fb Reg.FO_STATUS_SWITCHING = false) :=
  ⟨(mk .ready).setDue .qualify 0 (some 6), by decide +kernel⟩

theorem wit_failoverEvents_15 : ∃ (s : State), (s.isOpen .qualify = true) ∧ (s.fb Reg.FO_STATUS_SWITCHING = true) ∧ (s.f Reg.FO_CFG_PREFERRED = 1 - s.owner) :=
  ⟨((mk .ready).setDue .qualify 0 (some 6)).setFb Reg.FO_STATUS_SWITCHING 0 true |>.setF Reg.FO_CFG_PREFERRED 0 1, by decide +kernel⟩

theorem wit_failoverEvents_16 : ∃ (s : State) (t : Nat), (s.isOpen .switchHandover = true) ∧ (s.switchPick ≤ t) :=
  ⟨(mk .ready).setDue .switchHandover 0 (some 3000), 3000, by decide +kernel⟩

theorem wit_failoverEvents_17 : ∃ (s : State) (t : Nat), (s.isOpen .switchHandover = true) ∧ (t < s.switchPick) :=
  ⟨{ (mk .ready).setDue .switchHandover 0 (some 3000) with edges := [{ t := 128, ch := 3, on := true, moved := false }] }, 7, by decide +kernel⟩

theorem wit_gateEvents_1 : ∃ (s : State) (leg : Fin 32) (src : TripSrc) (conv : List Int) (t : Nat), let w := (s.arrive t).compared (Stage.ofLeg leg.val) conv
    ((s.f Reg.LEG_TRIP_SRC leg.val).testBit (tripBit src) = true) ∧ ((src = .cmp → w.fb Reg.LEG_STATUS_CMP leg.val = true)) ∧ ((src = .reg → w.limitReached leg.val = true)) :=
  ⟨(mk .run).setF Reg.LEG_TRIP_SRC 31 1, 31, .desat, [], 0, by decide, by decide, by decide⟩

theorem wit_gateEvents_2 : ∃ (s : State) (leg : Fin 32) (conv : List Int) (t : Nat), (((s.arrive t).compared (Stage.ofLeg leg.val) conv).fb Reg.LEG_STATUS_CMP leg.val = false) :=
  ⟨mk .run, 31, [], 0, by decide +kernel⟩

theorem wit_gateEvents_3 : ∃ (s : State) (channel : Fin 64) (t : Nat), (s.fb Reg.CH_DESAT_ENABLE channel.val = true) ∧ (s.on .chDrive channel.val = true ∨ (s.arrive t).justOff channel.val = true) ∧ (s.gateEdge channel.val + s.blank channel.val ≤ max s.now t) ∧ ((s.arrive t).shortToo channel.val = false) :=
  ⟨((mk .run).setFb Reg.CH_DESAT_ENABLE 63 true).setOn .chDrive 63 true, 63, 3000000, by decide +kernel⟩

theorem wit_gateEvents_4 : ∃ (s : State) (channel : Fin 64) (t : Nat) (vks : List Int), (isolated channel.val = true) ∧ (s.fb Reg.CH_SHORT_ENABLE channel.val = true) ∧ (s.on .chDrive channel.val = true ∨ (s.arrive t).justOff channel.val = true) ∧ (s.gateEdge channel.val ≤ max s.now t) ∧ (fluxReaches (50000 * s.f Reg.CH_SHORT_LIMIT channel.val) (s.v .phi channel.val) vks = true) :=
  ⟨(((mk .run).setFb Reg.CH_SHORT_ENABLE 51 true).setOn .chDrive 51 true).setV .phi 51 (10 ^ 12), 51, 3000000, [0], by decide +kernel⟩

theorem wit_gateEvents_5 : ∃ (s : State) (channel : Fin 64) (t : Nat) (vks : List Int), (isolated channel.val = true) ∧ (s.on .chDrive channel.val = true) ∧ (s.gateEdge channel.val ≤ max s.now t) ∧ (fluxReaches (50000 * s.f Reg.CH_SHORT_LIMIT channel.val) (s.v .phi channel.val) vks = false) :=
  ⟨((mk .run).setOn .chDrive 51 true).setF Reg.CH_SHORT_LIMIT 51 1, 51, 3000000, [], by decide +kernel⟩

theorem wit_gateEvents_6 : ∃ (s : State) (channel : Fin 64), (s.fb Reg.CH_STATUS_UVLO_POS channel.val = false) ∧ (s.fb Reg.LEG_CFG_ENABLE (channel.val / 2) = true) :=
  ⟨(mk .run).setFb Reg.LEG_CFG_ENABLE 31 true, 63, by decide +kernel⟩

theorem wit_gateEvents_7 : ∃ (s : State) (channel : Fin 64), (s.fb Reg.CH_STATUS_UVLO_POS channel.val = false) :=
  ⟨mk .run, 5, by decide +kernel⟩

theorem wit_gateEvents_8 : ∃ (s : State) (channel : Fin 64), (s.fb Reg.CH_STATUS_UVLO_NEG channel.val = false) :=
  ⟨mk .run, 63, by decide +kernel⟩

theorem wit_gateEvents_9 : ∃ (s : State) (channel : Fin 64) (frame : FrameSeen), (s.fb Reg.LEG_CFG_ENABLE (channel.val / 2) = true) ∧ (0 ≤ s.v .chBadFrames channel.val) ∧ (frame = .missing ∨ frame = .badCrc) :=
  ⟨(mk .run).setFb Reg.LEG_CFG_ENABLE 31 true, 63, .missing, by decide +kernel⟩

theorem wit_gateEvents_10 : ∃ (s : State) (channel : Fin 64), (s.fb Reg.LEG_CFG_ENABLE (channel.val / 2) = true) :=
  ⟨(mk .run).setFb Reg.LEG_CFG_ENABLE 31 true, 63, by decide +kernel⟩

theorem wit_gateEvents_11 : ∃ (s : State) (channel : Fin 64), (4 ≤ s.vn .chBadFrames channel.val) ∧ (s.present Ev.LINK_FAULT channel.val = false) :=
  ⟨(mk .run).setV .chBadFrames 63 4, 63, by decide +kernel⟩

theorem wit_gateEvents_13 : ∃ (s : State) (channel : Fin 64), (s.fb Reg.LEG_CFG_ENABLE (channel.val / 2) = true) :=
  ⟨(mk .run).setFb Reg.LEG_CFG_ENABLE 31 true, 63, by decide +kernel⟩

theorem wit_gateEvents_14 : ∃ (s : State) (leg : Fin 26), (s.fb Reg.LEG_CFG_ENABLE leg.val = true) :=
  ⟨(mk .run).setFb Reg.LEG_CFG_ENABLE 25 true, 25, by decide +kernel⟩

theorem wit_gateEvents_16 : ∃ (s : State) (stage : Stage) (n : Fin 32), (s.isOpen .stagger stage.idx = true) ∧ (n.val ∈ stage.legs) ∧ (s.on .staggerLeg n.val = true) ∧ (s.chOn (2 * n.val) = true ∨ s.chOn (2 * n.val + 1) = true) ∧ ((∀ m ∈ stage.legs, m < n.val → s.on .staggerLeg m = false ∨ (s.chOn (2 * m) = false ∧ s.chOn (2 * m + 1) = false))) :=
  ⟨((((mk .run).setDue .stagger 2 (some 6)).setOn .staggerLeg 13 true).setOn .chDrive 26 true).setF Reg.GD_STATUS_ENABLE_SG 0 15, .L, 13, by decide +kernel⟩

theorem wit_gateEvents_19 : ∃ (s : State) (channel : Fin 64) (mv : Nat), (mv ≤ s.clampMv channel.val) ∧ (s.on .chDrive channel.val = false) ∧ (s.fb Reg.CH_STATUS_SOFT_OFF channel.val = false) ∧ (s.fb Reg.CH_DRIVE_CLAMP_EN channel.val = true) :=
  ⟨(mk .run).setFb Reg.CH_DRIVE_CLAMP_EN 63 true, 63, 0, by decide +kernel⟩

theorem wit_gateEvents_20 : ∃ (s : State) (channel : Fin 64), (s.fb Reg.CH_STATUS_SOFT_OFF channel.val = true) ∧ ((channel.val % 2 = 1 → s.on .ascWait (channel.val / 2) = false)) :=
  ⟨(mk .run).setFb Reg.CH_STATUS_SOFT_OFF 63 true, 63, by decide +kernel⟩

theorem wit_gateEvents_21 : ∃ (s : State) (leg : Fin 32) (channel : Fin 64), (channel.val = 2 * leg.val + 1) ∧ (s.fb Reg.CH_STATUS_SOFT_OFF channel.val = true) ∧ (s.on .ascWait leg.val = true) ∧ (s.lowMayTurnOn channel.val = true) ∧ ((s.f Reg.GD_STATUS_ENABLE_SG).testBit (Stage.ofLeg leg.val).group = true) ∧ (s.chOn (2 * leg.val) = false) ∧ (s.on .chDriven (2 * leg.val) = false) :=
  ⟨(((mk .run).setFb Reg.CH_STATUS_SOFT_OFF 63 true).setOn .ascWait 31 true).setF Reg.GD_STATUS_ENABLE_SG 0 15 |>.setFb Reg.LEG_CFG_ENABLE 31 true, 31, 63, by decide +kernel⟩

theorem wit_linkEvents_1 : ∃ (s : State), (s.isOpen .regTrig = true) :=
  ⟨(mk .run).setDue .regTrig 0 (some 5), by decide +kernel⟩

theorem wit_linkEvents_2 : ∃ (s : State), (s.isOpen .ssWindow = true) ∧ (s.f Reg.LINK_STATUS_STATE = 1) ∧ (s.v .regSet ≤ 10 * s.v .regLink) :=
  ⟨((mk .run).setDue .ssWindow 0 (some 5)).setF Reg.LINK_STATUS_STATE 0 1, by decide +kernel⟩

theorem wit_linkEvents_3 : ∃ (s : State), (s.isOpen .ssWindow = true) ∧ (s.f Reg.LINK_STATUS_STATE = 1) ∧ (10 * s.v .regLink < s.v .regSet) :=
  ⟨((((mk .run).setDue .ssWindow 0 (some 5)).setF Reg.LINK_STATUS_STATE 0 1)).setV .regSet 0 1000, by decide +kernel⟩

theorem wit_linkEvents_4 : ∃ (s : State), (s.isOpen .hiccup = true) ∧ (s.f Reg.LINK_STATUS_STATE = 6) :=
  ⟨((mk .run).setDue .hiccup 0 (some 5)).setF Reg.LINK_STATUS_STATE 0 6, by decide +kernel⟩

theorem wit_linkEvents_5 : ∃ (s : State) (cond : Fin 3), (s.isOpen .shed cond.val = true) :=
  ⟨(mk .run).setDue .shed 2 (some 5), 2, by decide +kernel⟩

theorem wit_linkEvents_6 : ∃ (s : State), (s.isOpen .regTrig = true) ∧ (s.st .L = .running) ∧ (s.f Reg.LINK_STATUS_STATE = 1) ∧ (s.vn .ssJudged = 1) ∧ (s.vn .regOv ≠ 1) :=
  ⟨(((mkSt .run .L .running).setDue .regTrig 0 (some 15)).setF Reg.LINK_STATUS_STATE 0 1).setV .ssJudged 0 1, by decide +kernel⟩

theorem wit_linkEvents_7 : ∃ (s : State), (s.isOpen .regTrig = true) ∧ (s.st .L = .running) ∧ (s.f Reg.LINK_STATUS_STATE = 1) ∧ (s.vn .ssJudged = 2) ∧ (s.vn .regOv ≠ 1) ∧ (s.f Reg.LINK_STATUS_HICCUPS < s.f Reg.LINK_CFG_HICCUP_MAX) :=
  ⟨((((mkSt .run .L .running).setDue .regTrig 0 (some 15)).setF Reg.LINK_STATUS_STATE 0 1).setV .ssJudged 0 2).setF Reg.LINK_CFG_HICCUP_MAX 0 3, by decide +kernel⟩

theorem wit_linkEvents_8 : ∃ (s : State), (s.isOpen .regTrig = true) ∧ (s.st .L = .running) ∧ (s.f Reg.LINK_STATUS_STATE = 6) ∧ (s.on .hiccupOver = true) ∧ (s.on .handbackReq = false) :=
  ⟨(((mkSt .run .L .running).setDue .regTrig 0 (some 15)).setF Reg.LINK_STATUS_STATE 0 6).setOn .hiccupOver 0 true, by decide +kernel⟩

theorem wit_linkEvents_9 : ∃ (s : State), (s.isOpen .regTrig = true) ∧ (s.st .L = .running) ∧ (s.f Reg.LINK_STATUS_STATE = 2) ∧ (s.f Reg.LINK_CFG_N_MAX ≤ s.f Reg.LINK_STATUS_PHASES) ∧ (s.on .handbackReq = false) ∧ (s.on .shedMet 1 = true) ∧ (s.vn .regOv ≠ 1) :=
  ⟨(((((mkSt .run .L .running).setDue .regTrig 0 (some 15)).setF Reg.LINK_STATUS_STATE 0 2).setF Reg.LINK_CFG_N_MAX 0 1).setF Reg.LINK_STATUS_PHASES 0 1).setOn .shedMet 1 true, by decide +kernel⟩

theorem wit_linkEvents_10 : ∃ (s : State), (s.isOpen .regTrig = true) ∧ (s.st .L = .running) ∧ (s.f Reg.LINK_STATUS_STATE = 2) ∧ (s.f Reg.LINK_CFG_N_MAX ≤ s.f Reg.LINK_STATUS_PHASES) ∧ (s.on .handbackReq = false) ∧ (s.on .shedMet 1 = false) ∧ (s.on .shedMet 0 = true) ∧ (s.vn .regOv ≠ 1) :=
  ⟨(((((mkSt .run .L .running).setDue .regTrig 0 (some 15)).setF Reg.LINK_STATUS_STATE 0 2).setF Reg.LINK_CFG_N_MAX 0 6).setF Reg.LINK_STATUS_PHASES 0 6).setOn .shedMet 0 true, by decide +kernel⟩

theorem wit_linkEvents_11 : ∃ (s : State), (s.isOpen .regTrig = true) ∧ (s.st .L = .running) ∧ (s.f Reg.LINK_STATUS_STATE = 2 ∨ s.f Reg.LINK_STATUS_STATE = 3 ∨ s.f Reg.LINK_STATUS_STATE = 4 ∨ s.f Reg.LINK_STATUS_STATE = 6) ∧ (s.on .handbackReq = true) ∧ (s.vn .regOv ≠ 1) :=
  ⟨(((mkSt .run .L .running).setDue .regTrig 0 (some 15)).setF Reg.LINK_STATUS_STATE 0 2).setOn .handbackReq 0 true, by decide +kernel⟩

theorem wit_linkEvents_12 : ∃ (s : State), (s.isOpen .regTrig = true) ∧ (s.st .L = .running) ∧ (s.f Reg.LINK_STATUS_STATE = 5) ∧ (s.on .takeoverReq = true) :=
  ⟨(((mkSt .run .L .running).setDue .regTrig 0 (some 15)).setF Reg.LINK_STATUS_STATE 0 5).setOn .takeoverReq 0 true, by decide +kernel⟩

theorem wit_linkEvents_13 : ∃ (s : State), (s.isOpen .shedBlock = true) :=
  ⟨(mk .run).setDue .shedBlock 0 (some 5), by decide +kernel⟩

theorem wit_linkEvents_14 : ∃ (s : State), (s.isOpen .uvTime = true) :=
  ⟨(mk .run).setDue .uvTime 0 (some 5), by decide +kernel⟩

theorem wit_linkEvents_15 : ∃ (s : State) (phase : Fin 6), (s.isOpen .imbTime phase.val = true) :=
  ⟨(mk .run).setDue .imbTime 5 (some 5), 5, by decide +kernel⟩

theorem wit_linkEvents_16 : ∃ (s : State) (stamp : Nat), (s.vn .syncEdge ≠ 0) ∧ (s.vn .syncEdge + s.f Reg.PULSE_SYNC_IN_COMP < stamp) :=
  ⟨(mk .run).setV .syncEdge 0 7, 90000, by decide +kernel⟩

theorem wit_linkEvents_17 : ∃ (s : State) (stage : Stage), (s.isOpen .syncTimeout stage.idx = true) ∧ (s.fb Reg.PULSE_STATUS_LOCKED stage.idx = true) :=
  ⟨((mk .run).setDue .syncTimeout 2 (some 5)).setFb Reg.PULSE_STATUS_LOCKED 2 true, .L, by decide +kernel⟩

theorem wit_linkEvents_18 : ∃ (s : State), (s.on .syncFreeing = true) ∧ (s.fb Reg.LINK_STATUS_FREE = false) ∧ (s.f Reg.PULSE_PERIOD_NOW 2 = s.f Reg.PULSE_PERIOD 2 * 64) :=
  ⟨((mk .run).setOn .syncFreeing 0 true).setF Reg.PULSE_PERIOD 2 0 |>.setF Reg.PULSE_PERIOD_NOW 2 0, by decide +kernel⟩

theorem wit_chargerEvents_1 : ∃ (s : State), (s.isOpen .ppEval = true) :=
  ⟨(mk .run).setDue .ppEval 0 (some 5), by decide +kernel⟩

theorem wit_chargerEvents_2 : ∃ (s : State) (input : Fin 3), (s.on .chgHalf input.val = true) ∧ (input.val ∈ s.usedInputs) :=
  ⟨(mk .run).setOn .chgHalf 2 true, 2, by decide +kernel⟩

theorem wit_chargerEvents_3 : ∃ (s : State) (input : Fin 3), (s.isOpen .noCross input.val = true) ∧ (input.val ∈ s.usedInputs) ∧ (s.f Reg.CHG_STATUS_PP_STATE ≠ 0) :=
  ⟨((mk .run).setDue .noCross 2 (some 5)).setF Reg.CHG_STATUS_PP_STATE 0 1, 2, by decide +kernel⟩

theorem wit_chargerEvents_4 : ∃ (s : State), (s.isOpen .qual = true) ∧ (s.vn .chgSag ≠ 2) :=
  ⟨(mk .run).setDue .qual 0 (some 5), by decide +kernel⟩

theorem wit_chargerEvents_5 : ∃ (s : State), (s.isOpen .hbTime = true) ∧ (s.f Reg.CHG_STATUS_PP_STATE = 3) ∧ (s.fb Reg.CHG_STATUS_QUALIFIED = true) ∧ (s.st .P = .running) ∧ ((s.st .L).isRunning = true) :=
  ⟨(((mkSt .run .P .running).setStg .L { StageCtl.reset with state := .running }).setDue .hbTime 0 (some 6)).setF Reg.CHG_STATUS_PP_STATE 0 3 |>.setFb Reg.CHG_STATUS_QUALIFIED 0 true, by decide +kernel⟩

theorem wit_chargerEvents_6 : ∃ (s : State), (s.isOpen .stopTakeover = true) ∧ (s.vn .pStop = 2) :=
  ⟨((mk .run).setDue .stopTakeover 0 (some 5)).setV .pStop 0 2, by decide +kernel⟩

theorem wit_chargerEvents_7 : ∃ (s : State), (s.isOpen .battOc = true) :=
  ⟨(mk .run).setDue .battOc 0 (some 5), by decide +kernel⟩

theorem wit_chargerEvents_8 : ∃ (s : State), (s.isOpen .chgEval = true) ∧ (s.f Reg.CHG_STATUS_CHG_STATE = 1 ∨ s.f Reg.CHG_STATUS_CHG_STATE = 2) :=
  ⟨((mk .run).setDue .chgEval 0 (some 5)).setF Reg.CHG_STATUS_CHG_STATE 0 1, by decide +kernel⟩

theorem wit_chargerEvents_9 : ∃ (s : State) (cond : Fin 7), (s.isOpen .absent cond.val = true) :=
  ⟨(mk .run).setDue .absent 6 (some 5), 6, by decide +kernel⟩

theorem wit_actuatorEvents_1 : ∃ (s : State) (actuator : Fin 2), (s.isOpen .arrive actuator.val = true) ∧ (s.f Reg.ACT_STATUS_STATE actuator.val = 1) ∧ (s.on .actNew actuator.val = false) :=
  ⟨((mk .run).setDue .arrive 1 (some 5)).setF Reg.ACT_STATUS_STATE 1 1, 1, by decide +kernel⟩

theorem wit_actuatorEvents_2 : ∃ (s : State) (actuator : Fin 2), (s.isOpen .moveTime actuator.val = true) ∧ (s.f Reg.ACT_STATUS_STATE actuator.val = 1) :=
  ⟨((mk .run).setDue .moveTime 1 (some 5)).setF Reg.ACT_STATUS_STATE 1 1, 1, by decide +kernel⟩

theorem wit_actuatorEvents_3 : ∃ (s : State) (actuator : Fin 2), (s.isOpen .block actuator.val = true) :=
  ⟨(mk .run).setDue .block 1 (some 5), 1, by decide +kernel⟩

theorem wit_actuatorEvents_4 : ∃ (s : State) (actuator : Fin 2), (s.isOpen .holdOc actuator.val = true) :=
  ⟨(mk .run).setDue .holdOc 1 (some 5), 1, by decide +kernel⟩

theorem wit_safetyEvents_2 : ∃ (s : State) (group : Fin 4), (s.on .stoTest group.val = false) ∧ (s.powered = true) :=
  ⟨mk .run, 3, by decide +kernel⟩

theorem wit_safetyEvents_4 : ∃ (s : State), (s.isOpen .safety = true) ∧ (s.sBusy = false) :=
  ⟨(mk .run).setDue .safety 0 (some 5), by decide +kernel⟩

theorem wit_safetyEvents_5 : ∃ (s : State) (pair : Fin 5), (s.isOpen .disc pair.val = true) ∧ (pair.val < 4) :=
  ⟨(mk .run).setDue .disc 3 (some 5), 3, by decide +kernel⟩

theorem wit_safetyEvents_6 : ∃ (s : State), (s.isOpen .disc 4 = true) :=
  ⟨(mk .run).setDue .disc 4 (some 5), by decide +kernel⟩

theorem wit_safetyEvents_7 : ∃ (s : State) (pair : Fin 5), (s.isOpen .discClear pair.val = true) ∧ (pair.val < 4) :=
  ⟨(mk .run).setDue .discClear 3 (some 5), 3, by decide +kernel⟩

theorem wit_safetyEvents_8 : ∃ (s : State), (s.isOpen .discClear 4 = true) :=
  ⟨(mk .run).setDue .discClear 4 (some 5), by decide +kernel⟩

theorem wit_safetyEvents_9 : ∃ (s : State) (group : Fin 4), (s.isOpen .path group.val = true) :=
  ⟨(mk .run).setDue .path 3 (some 5), 3, by decide +kernel⟩

theorem wit_safetyEvents_10 : ∃ (s : State) (group : Fin 4) (t : Nat), (s.on .stoTest group.val = false) ∧ (s.operable = true ∨ s.module = .safe) ∧ ((∃ x ∈ Stage.ofGroup group.val, s.on .armWait x.idx = true) ∨ (s.arrive t).groupIdle group.val = true ∧ (s.arrive t).testOld group.val = true) :=
  ⟨(mk .ready).setOn .armWait 0 true, 0, 0, by decide +kernel, by decide +kernel, .inl ⟨.T1, by decide, by decide +kernel⟩⟩

theorem wit_safetyEvents_11 : ∃ (s : State) (group : Fin 4) (drv : BitVec 3), (s.on .stoTest group.val = true) ∧ (drv ≠ 4) :=
  ⟨(mk .ready).setOn .stoTest 3 true, 3, 0, by decide +kernel⟩

theorem wit_safetyEvents_12 : ∃ (s : State) (group : Fin 4), (s.on .stoTest group.val = true) :=
  ⟨(mk .ready).setV .stoTest 3 2, 3, by decide +kernel⟩

theorem wit_safetyEvents_13 : ∃ (s : State) (group : Fin 4), (s.isOpen .stoDue group.val = true) :=
  ⟨(mk .ready).setDue .stoDue 3 (some 5), 3, by decide +kernel⟩

theorem wit_brakeContactorEvents_1 : ∃ (s : State) (brake : Fin 2) (obs : BrakeObs), (s.fb Reg.SAFE_BRK_STATUS_RELEASED brake.val = true) ∧ (s.fb Reg.SAFE_BRK_STATUS_OUT_FAULT brake.val = false) ∧ (nodeGood obs = false) :=
  ⟨(mk .ready).setFb Reg.SAFE_BRK_STATUS_RELEASED 1 true, 1, { switch := .high, node := 4000, vaux := 24000, current := 500, limiting := false }, by decide +kernel⟩

theorem wit_brakeContactorEvents_2 : ∃ (s : State) (brake : Fin 2) (obs : BrakeObs), (s.fb Reg.SAFE_BRK_STATUS_RELEASED brake.val = true) ∧ (nodeGood obs = true) ∧ (100 ≤ obs.current) ∧ (obs.limiting = false) ∧ (s.isOpen .brkLow brake.val = false) ∧ (s.isOpen .brkLimit brake.val = false) :=
  ⟨(mk .ready).setFb Reg.SAFE_BRK_STATUS_RELEASED 1 true, 1, { switch := .low, node := 20000, vaux := 24000, current := 100, limiting := false }, by decide +kernel⟩

theorem wit_brakeContactorEvents_3 : ∃ (s : State) (brake : Fin 2) (obs : BrakeRest) (t : Nat), (obs.high ≤ 4000) ∧ (obs.low ≤ 4000) ∧ (s.fb Reg.SAFE_BRK_STATUS_RELEASED brake.val = false) ∧ (s.fb Reg.SAFE_BRK_STATUS_OUT_FAULT brake.val = true) ∧ (s.isOpen .brkClear brake.val = true) ∧ (s.endOf .brkClear brake.val ≤ max s.now t) :=
  ⟨((mk .ready).setFb Reg.SAFE_BRK_STATUS_OUT_FAULT 1 true).setDue .brkClear 1 (some 6), 1, { high := 4000, low := 0 }, 6, by decide +kernel⟩

theorem wit_brakeContactorEvents_4 : ∃ (s : State) (brake : Fin 2), (s.isOpen .brakeTest brake.val = true) ∧ (s.f Reg.SAFE_BRK_STATUS_TEST brake.val = 1) ∧ (s.vn .btPhase brake.val = 1) :=
  ⟨(((mk .run).setDue .brakeTest 1 (some 5)).setF Reg.SAFE_BRK_STATUS_TEST 1 1).setV .btPhase 1 1, 1, by decide +kernel⟩

theorem wit_brakeContactorEvents_5 : ∃ (s : State) (brake : Fin 2), (s.isOpen .brakeTest brake.val = true) ∧ (s.f Reg.SAFE_BRK_STATUS_TEST brake.val = 1) ∧ (s.vn .btPhase brake.val = 3) ∧ (s.f Reg.SAFE_BRK_TEST_DIR brake.val ≠ 2) :=
  ⟨((((mk .run).setDue .brakeTest 1 (some 5)).setF Reg.SAFE_BRK_STATUS_TEST 1 1).setV .btPhase 1 3).setF Reg.SAFE_BRK_TEST_DIR 1 0, 1, by decide +kernel⟩

theorem wit_brakeContactorEvents_6 : ∃ (s : State) (brake : Fin 2), (s.isOpen .btDue brake.val = true) :=
  ⟨(mk .ready).setDue .btDue 1 (some 5), 1, by decide +kernel⟩

theorem wit_brakeContactorEvents_7 : ∃ (s : State), (s.isOpen .cfbCheck = true) ∧ (s.sBusy = false) :=
  ⟨(mk .ready).setDue .cfbCheck 0 (some 5), by decide +kernel⟩

theorem wit_brakeContactorEvents_8 : ∃ (s : State), (s.isOpen .weld = true) ∧ (s.preAbove (s.f Reg.SAFE_PRECHARGE_WELD_FRAC) = true) ∧ (s.f Reg.SAFE_PRECHARGE_MAIN_CDR < 6) ∧ (s.faultAt Ev.CONTACTOR_WELDED (s.f Reg.SAFE_PRECHARGE_MAIN_CDR) = false) :=
  ⟨((mk .ready).setDue .weld 0 (some 5)).setF Reg.SAFE_PRECHARGE_MAIN_CDR 0 2, by decide +kernel⟩

theorem wit_brakeContactorEvents_9 : ∃ (s : State), (s.isOpen .pre = true) :=
  ⟨(mk .ready).setDue .pre 0 (some 5), by decide +kernel⟩

theorem wit_brakeContactorEvents_10 : ∃ (s : State), (s.isOpen .cdrOpen = true) :=
  ⟨(mk .ready).setDue .cdrOpen 0 (some 5), by decide +kernel⟩

theorem wit_restartEvents_1 : ∃ (s : State), (s.f Reg.CORE_STATUS_S_STATE = 1) ∧ (s.held = []) :=
  ⟨(mk .ready).setF Reg.CORE_STATUS_S_STATE 0 1, by decide +kernel⟩

theorem wit_restartEvents_2 : ∃ (s : State) (core : Fin 2), (s.f (vState core.val) = 1) ∧ (s.handQueue = []) :=
  ⟨(mk .ready).setF (vState 1) 0 1, 1, by decide +kernel⟩

theorem wit_restartEvents_3 : ∃ (s : State) (r : Req), (s.handCmd = some (r, .command .splitV)) ∧ (s.handQueue = []) :=
  ⟨{ mk .ready with handCmd := some ({ who := .j1, trans := 7, auth := none }, .command .splitV) }, { who := .j1, trans := 7, auth := none }, by decide +kernel⟩

theorem wit_restartEvents_4 : ∃ (s : State) (r : Req), (s.handCmd = some (r, .command .joinV)) ∧ (s.handQueue = []) :=
  ⟨{ mk .ready with handCmd := some ({ who := .j1, trans := 7, auth := none }, .command .joinV) }, { who := .j1, trans := 7, auth := none }, by decide +kernel⟩

theorem wit_coreEvents_1 : ∃ (s : State), (s.powered = true) ∧ (s.f Reg.CORE_STATUS_S_STATE ≠ 3) ∧ (s.isOpen .repeatS = false) :=
  ⟨mkSt .run .L .running, by decide +kernel⟩

theorem wit_coreEvents_2 : ∃ (s : State), (s.powered = true) ∧ (s.f Reg.CORE_STATUS_S_STATE = 0 ∨ s.f Reg.CORE_STATUS_S_STATE = 1) ∧ (s.isOpen .repeatS = false) :=
  ⟨mkSt .run .L .running, by decide +kernel⟩

theorem wit_coreEvents_3 : ∃ (s : State), (s.isOpen .repeatS = true) :=
  ⟨(mk .ready).setDue .repeatS 0 (some 6), by decide +kernel⟩

theorem wit_coreEvents_4 : ∃ (s : State) (stage : Stage), (s.isOpen .hold stage.idx = true) ∧ (s.st stage = .hold) ∧ ((s.arrive (s.endOf .hold stage.idx)).discards stage (s.holdExpiry stage) = false) ∧ (4 ≤ s.holdExpiry stage) ∧ (s.holdExpiry stage ≤ 6) :=
  ⟨(mkSt .run .L .hold).setDue .hold 2 (some 6), .L, by decide +kernel⟩

theorem wit_coreEvents_5 : ∃ (s : State) (stage : Stage), (s.isOpen .hold stage.idx = true) ∧ (s.st stage = .hold) ∧ ((s.arrive (s.endOf .hold stage.idx)).discards stage (s.holdExpiry stage) = false) ∧ (s.holdExpiry stage = 7) ∧ (s.module = .run) :=
  ⟨((mkSt .run .L .hold).setDue .hold 2 (some 6)).setF Reg.CORE_HOLD_EXPIRY_L 0 7, .L, by decide +kernel⟩

theorem wit_coreEvents_6 : ∃ (s : State) (stage : Stage), (s.isOpen .hold stage.idx = true) ∧ (s.st stage = .hold) ∧ ((s.arrive (s.endOf .hold stage.idx)).discards stage (s.holdExpiry stage) = false) ∧ (s.holdExpiry stage = 3) :=
  ⟨((mkSt .run .L .hold).setDue .hold 2 (some 6)).setF Reg.CORE_HOLD_EXPIRY_L 0 3, .L, by decide +kernel⟩

theorem wit_coreEvents_8 : ∃ (s : State), (s.powered = true) ∧ (s.f Reg.CORE_STATUS_V_MODE = 0) :=
  ⟨mk .ready, by decide +kernel⟩

theorem wit_coreEvents_9 : ∃ (s : State) (core : Fin 2), (s.powered = true) ∧ (s.f (vState core.val) ≠ 2) ∧ (core = 0 ∨ s.f Reg.CORE_STATUS_V_MODE ≠ 0) :=
  ⟨mk .ready, 0, by decide +kernel⟩

theorem wit_coreEvents_10 : ∃ (s : State), (s.fb Reg.CORE_STATUS_DEBUG = true) ∧ (s.module = .service) ∧ (s.allIdle = true) ∧ (s.f Reg.CORE_STATUS_V0_STATE = 0) :=
  ⟨(mk .service).setFb Reg.CORE_STATUS_DEBUG 0 true, by decide +kernel⟩

theorem wit_coreEvents_11 : ∃ (s : State), (s.fb Reg.CORE_STATUS_DEBUG = true) ∧ (s.module = .service) ∧ (s.allIdle = true) ∧ (s.f Reg.CORE_STATUS_S_STATE = 0) :=
  ⟨(mk .service).setFb Reg.CORE_STATUS_DEBUG 0 true, by decide +kernel⟩

theorem wit_coreEvents_12 : ∃ (s : State), (s.fb Reg.CORE_STATUS_DEBUG = true) ∧ (s.module = .service) ∧ (s.f Reg.CORE_STATUS_S_STATE = 2) :=
  ⟨((mk .service).setFb Reg.CORE_STATUS_DEBUG 0 true).setF Reg.CORE_STATUS_S_STATE 0 2, by decide +kernel⟩

theorem wit_coreEvents_13 : ∃ (s : State), (s.fb Reg.CORE_STATUS_DEBUG = true) ∧ (s.module = .service) :=
  ⟨(mk .service).setFb Reg.CORE_STATUS_DEBUG 0 true, by decide +kernel⟩

theorem wit_recorderEvents_1 : ∃ (s : State) (r : Rec), (s.powered = true) ∧ (s.on .logBuilt = true) ∧ (s.on .logFull = false) ∧ (s.log.recs.length < 8192) ∧ (s.on .clearing = false) ∧ (s.writerRuns = true) ∧ (s.queue.head? = some r) :=
  ⟨(({ mk .ready with queue := [{ seq := 0, code := 0x101, stage := 7, exempt := false, reaction := 0, modState := 2, stgState := 0, degraded := false, group := 0, startNo := 1, suppressed := 0, d0 := 0, d1 := 0, d2 := 0, raw := [], corrupt := false }] }).setOn .logBuilt 0 true), { seq := 0, code := 0x101, stage := 7, exempt := false, reaction := 0, modState := 2, stgState := 0, degraded := false, group := 0, startNo := 1, suppressed := 0, d0 := 0, d1 := 0, d2 := 0, raw := [], corrupt := false }, by decide +kernel⟩

theorem wit_recorderEvents_2 : ∃ (s : State), (s.on .logFull = true ∨ 8192 ≤ s.log.recs.length ∨ s.on .clearing = true ∨ s.writerRuns = false ∨ s.powered = false) :=
  ⟨(mk .ready).setOn .logFull 0 true, by decide +kernel⟩

theorem wit_recorderEvents_3 : ∃ (s : State) (code : Nat), (code < 2 ^ 16) ∧ (s.isOpen .refill code = true) :=
  ⟨(mk .ready).setDue .refill 257 (some 6), 257, by decide +kernel⟩

theorem wit_recorderEvents_4 : ∃ (s : State), (s.on .clearing = true) :=
  ⟨(mk .ready).setOn .clearing 0 true, by decide +kernel⟩

theorem wit_recorderEvents_5 : ∃ (s : State), (s.on .clearing = false) :=
  ⟨mk .ready, by decide +kernel⟩

theorem wit_keyWriteSteps_1 : ∃ (s : State), (s.keyBusy = false) :=
  ⟨mk .ready, by decide +kernel⟩

theorem wit_keyWriteSteps_2 : ∃ (s : State), (s.keyBusy = true) ∧ (s.vn .onKeyStage = 0) :=
  ⟨(mk .ready).setF Reg.START_KEY_WRITE_STATUS_STATE 0 1, by decide +kernel⟩

theorem wit_keyWriteSteps_3 : ∃ (s : State), (s.keyBusy = true) ∧ (s.vn .onKeyStage ≠ 0) :=
  ⟨((mk .ready).setF Reg.START_KEY_WRITE_STATUS_STATE 0 3).setV .onKeyStage 0 2, by decide +kernel⟩

theorem wit_keyWriteSteps_4 : ∃ (s : State), (s.keyBusy = true) ∧ (s.vn .onKeyStage ≠ 0) :=
  ⟨((mk .ready).setF Reg.START_KEY_WRITE_STATUS_STATE 0 3).setV .onKeyStage 0 2, by decide +kernel⟩

theorem wit_keyWriteSteps_5 : ∃ (s : State), (s.keyBusy = true) ∧ (s.vn .onKeyStage = 1) :=
  ⟨((mk .ready).setF Reg.START_KEY_WRITE_STATUS_STATE 0 2).setV .onKeyStage 0 1, by decide +kernel⟩

theorem wit_keyWriteSteps_6 : ∃ (s : State), (s.keyBusy = true) ∧ (s.vn .onKeyStage = 2) :=
  ⟨((mk .ready).setF Reg.START_KEY_WRITE_STATUS_STATE 0 3).setV .onKeyStage 0 2, by decide +kernel⟩

theorem wit_keyWriteSteps_7 : ∃ (s : State), (s.keyBusy = true) ∧ (s.vn .onKeyStage = 3) :=
  ⟨((mk .ready).setF Reg.START_KEY_WRITE_STATUS_STATE 0 4).setV .onKeyStage 0 3, by decide +kernel⟩

theorem wit_keyWriteSteps_8 : ∃ (s : State), (s.keyBusy = true) ∧ (s.vn .onKeyStage = 4) :=
  ⟨((mk .ready).setF Reg.START_KEY_WRITE_STATUS_STATE 0 5).setV .onKeyStage 0 4, by decide +kernel⟩

theorem wit_keyWriteSteps_9 : ∃ (s : State), (s.keyBusy = true) ∧ (s.vn .onKeyStage = 5) :=
  ⟨((mk .ready).setF Reg.START_KEY_WRITE_STATUS_STATE 0 5).setV .onKeyStage 0 5, by decide +kernel⟩

theorem wit_portEvents_1 : ∃ (s : State) (port : Fin 4), (s.portState port.val = 1) ∧ (s.powered = true) ∧ (s.on .dying = false) ∧ (s.fb Reg.CLK_STATUS_ON_BACKUP = false) :=
  ⟨(mk .ready).setF Reg.FAB_PORT_STATUS_STATE 0 1, 0, by decide +kernel⟩

theorem wit_portEvents_2 : ∃ (s : State) (port : Fin 4), (s.fb Reg.FAB_PORT_STATUS_LOOPBACK port.val = false) ∧ (s.portState port.val = 2 ∨ s.portState port.val = 3) :=
  ⟨fab, 0, by decide +kernel⟩

theorem wit_portEvents_3 : ∃ (s : State) (port : Fin 4), (s.fb Reg.FAB_PORT_STATUS_LOOPBACK port.val = true) :=
  ⟨fab.setFb Reg.FAB_PORT_STATUS_LOOPBACK 0 true, 0, by decide +kernel⟩

theorem wit_portEvents_4 : ∃ (s : State) (port : Fin 4), (s.isOpen .linkCheck port.val = true) ∧ (s.vn .portEnd port.val ≤ max s.now (s.endOf .linkCheck port.val)) ∧ ((∀ e ∈ s.egress, e.port ≠ port.val)) :=
  ⟨fab.setDue .linkCheck 0 (some 6), 0, by decide +kernel⟩

theorem wit_portEvents_5 : ∃ (s : State) (port : Fin 4), (s.isOpen .linkCheck port.val = true) ∧ (max s.now (s.endOf .linkCheck port.val) < s.vn .portEnd port.val) :=
  ⟨(fab.setDue .linkCheck 0 (some 6)).setV .portEnd 0 7, 0, by decide +kernel⟩

theorem wit_portEvents_6 : ∃ (s : State) (port : Fin 4), (s.isOpen .linkTimeout port.val = true) ∧ (s.portState port.val = 2 ∨ s.portState port.val = 3) :=
  ⟨fab.setDue .linkTimeout 0 (some 6), 0, by decide +kernel⟩

theorem wit_portEvents_7 : ∃ (s : State) (port : Fin 4), (s.isOpen .errWindow port.val = true) ∧ (s.portState port.val = 2 ∨ s.portState port.val = 3) ∧ (s.f Reg.FAB_LINK_ERR_LIMIT ≤ s.vn .errDrops port.val) :=
  ⟨(fab.setDue .errWindow 0 (some 6)).setV .errDrops 0 10000, 0, by decide +kernel⟩

theorem wit_portEvents_8 : ∃ (s : State) (port : Fin 4), (s.isOpen .errWindow port.val = true) ∧ (s.vn .errDrops port.val < s.f Reg.FAB_LINK_ERR_LIMIT) :=
  ⟨fab.setDue .errWindow 0 (some 6), 0, by decide +kernel⟩

theorem wit_portEvents_9 : ∃ (s : State) (port : Fin 4), (s.isOpen .holdOff port.val = true) :=
  ⟨fab.setDue .holdOff 0 (some 6), 0, by decide +kernel⟩

theorem wit_portEvents_10 : ∃ (s : State) (port : Fin 4), (s.isOpen .flapWindow port.val = true) :=
  ⟨fab.setDue .flapWindow 0 (some 6), 0, by decide +kernel⟩

theorem wit_portEvents_11 : ∃ (s : State) (port : Fin 4) (frame : Frame), (s.takes port frame = true) ∧ (frame.kind = 0) ∧ (numAt frame.body 0 8 = s.uid) :=
  ⟨fab, 0, frm 0 0 0x3FF 9 0 (le 8 7 ++ le 24 0), by decide +kernel⟩

theorem wit_portEvents_12 : ∃ (s : State) (port : Fin 4) (frame : Frame), (s.takes port frame = true) ∧ (frame.kind = 0) ∧ (numAt frame.body 0 8 ≠ s.uid) :=
  ⟨fab, 0, frm 0 0 0x3FF 9 0 (le 8 8 ++ le 24 0), by decide +kernel⟩

theorem wit_portEvents_13 : ∃ (s : State) (port : Fin 4) (frame : Frame) (t : Nat), (s.on .dying = false) ∧ (s.portState port.val = 2) ∧ (frame.ether = s.etherType) ∧ (frame.hcrc = true) ∧ (frame.fcs = true) ∧ (frameOk frame = true) ∧ (frame.kind = 0) ∧ (numAt frame.body 0 8 ≠ s.uid) ∧ (numAt frame.body 0x18 8 = s.uid) ∧ (s.vn .lcRun port.val = 2) ∧ ((s.arrive t).now < s.vn .lcAt port.val / Clk.slow * Clk.slow + ms (s.f Reg.FAB_LINK_LINK_TIMEOUT)) :=
  ⟨(fab.setF Reg.FAB_PORT_STATUS_STATE 0 2).setV .lcRun 0 2, 0, frm 0 0 0x3FF 9 0 (le 8 8 ++ le 16 0 ++ le 8 7), 0, by decide +kernel⟩

theorem wit_portEvents_14 : ∃ (s : State) (port : Fin 4) (frame : Frame), (s.takes port frame = true) ∧ (frame.kind ≠ 7) :=
  ⟨fab, 0, frm 8 0 5 9 0 (le 16 0), by decide +kernel⟩

theorem wit_portEvents_15 : ∃ (s : State) (port : Fin 4) (frame : Frame), (s.on .dying = false) ∧ (s.portState port.val = 2 ∨ s.portState port.val = 3) ∧ (frame.ether ≠ s.etherType) :=
  ⟨fab, 0, { frm 8 0 5 9 0 (le 16 0) with ether := 0 }, by decide +kernel⟩

theorem wit_portEvents_16 : ∃ (s : State) (port : Fin 4) (frame : Frame), (s.on .dying = false) ∧ (s.portState port.val = 2 ∨ s.portState port.val = 3) ∧ (frame.ether = s.etherType) ∧ (frame.hcrc = false) :=
  ⟨fab, 0, { frm 8 0 5 9 0 (le 16 0) with hcrc := false }, by decide +kernel⟩

theorem wit_portEvents_17 : ∃ (s : State) (port : Fin 4), (s.portState port.val ≠ 2) ∧ (s.portState port.val ≠ 3) :=
  ⟨mk .ready, 0, by decide +kernel⟩

theorem wit_roundEvents_1 : ∃ (s : State), (s.isOpen .waggle = true) ∧ (s.isRoot = true) :=
  ⟨root.setDue .waggle 0 (some 6), by decide +kernel⟩

theorem wit_roundEvents_2 : ∃ (s : State), (s.isOpen .waggle = true) ∧ (s.isRoot = false) :=
  ⟨fab.setDue .waggle 0 (some 6), by decide +kernel⟩

theorem wit_roundEvents_3 : ∃ (s : State) (port : Fin 4) (frame : Frame), (s.takes port frame = true) ∧ (frame.kind = 3) ∧ (frame.flags = 1) ∧ (s.isRoot = true) ∧ (s.isOpen .replyWindow = false) :=
  ⟨root, 0, frm 3 1 0x3FF 9 0 (le 12 0), by decide +kernel⟩

theorem wit_roundEvents_4 : ∃ (s : State) (port : Fin 4) (frame : Frame), (s.takes port frame = true) ∧ (frame.kind = 3) ∧ (frame.flags = 1) ∧ (s.isRoot = true) ∧ (s.isOpen .replyWindow = true) :=
  ⟨root.setDue .replyWindow 0 (some 6), 0, frm 3 1 0x3FF 9 0 (le 12 0), by decide +kernel⟩

theorem wit_roundEvents_5 : ∃ (s : State) (port : Fin 4) (frame : Frame), (s.takes port frame = true) ∧ (frame.kind = 1) ∧ (numAt frame.body 0 8 ≠ s.uid) ∧ (s.rootUid = 0 ∨ (numAt frame.body 0 8 ≠ s.rootUid ∧ (numAt frame.body 8 1 < s.vn .rootPrio ∨ numAt frame.body 8 1 = s.vn .rootPrio ∧ numAt frame.body 0 8 < s.rootUid)) ∨ (numAt frame.body 0 8 = s.rootUid ∧ 1 ≤ (numAt frame.body 0xA 2 + 65536 - s.f Reg.FAB_ROUND_ROUND) % 65536 ∧ (numAt frame.body 0xA 2 + 65536 - s.f Reg.FAB_ROUND_ROUND) % 65536 ≤ 32767)) :=
  ⟨fab, 0, frm 1 0 0x3FF 9 0 (le 8 9 ++ le 2 0 ++ le 2 1 ++ le 20 0), by decide +kernel⟩

theorem wit_roundEvents_6 : ∃ (s : State) (port : Fin 4) (frame : Frame), (s.takes port frame = true) ∧ (frame.kind = 1) ∧ (numAt frame.body 0 8 = s.uid) :=
  ⟨fab, 0, frm 1 0 0x3FF 9 0 (le 8 7 ++ le 24 0), by decide +kernel⟩

theorem wit_roundEvents_7 : ∃ (s : State), (s.isOpen .settle = true) :=
  ⟨fab.setDue .settle 0 (some 6), by decide +kernel⟩

theorem wit_roundEvents_8 : ∃ (s : State) (port : Fin 4) (frame : Frame) (t : Nat), (s.takes port frame = true) ∧ (frame.kind = 2) ∧ (frame.flags = 1) ∧ (s.isRoot = true) ∧ ((s.due .replyWindow).any (max s.now t < ·) = true) ∧ (numAt frame.body 8 2 = s.f Reg.FAB_ROUND_ROUND) :=
  ⟨root.setDue .replyWindow 0 (some 6), 0, frm 2 1 0x3FF 9 0 (le 8 9 ++ le 32 0), 5, by decide +kernel⟩

theorem wit_roundEvents_9 : ∃ (s : State), (s.isOpen .replyWindow = true) ∧ (s.isRoot = true) ∧ (s.on .earlyRound = false) ∧ (s.replies.length ≤ 511) :=
  ⟨root.setDue .replyWindow 0 (some 6), by decide +kernel⟩

theorem wit_roundEvents_10 : ∃ (s : State), (s.isOpen .replyWindow = true) ∧ (s.isRoot = true) ∧ (s.on .earlyRound = true) :=
  ⟨(root.setDue .replyWindow 0 (some 6)).setOn .earlyRound 0 true, by decide +kernel⟩

theorem wit_roundEvents_11 : ∃ (s : State) (port : Fin 4) (frame : Frame), (s.takes port frame = true) ∧ (frame.kind = 4) ∧ (frame.flags = 2) ∧ (numAt frame.body 0 8 = s.uid) :=
  ⟨fab, 0, frm 4 2 0x3FF 9 0 (le 8 7 ++ le 4 0), by decide +kernel⟩

theorem wit_roundEvents_12 : ∃ (s : State), (s.isOpen .rootLost = true) ∧ (s.rootUid ≠ 0) :=
  ⟨(fab.setF Reg.FAB_ROOT 0 9).setDue .rootLost 0 (some 6), by decide +kernel⟩

theorem wit_roundEvents_13 : ∃ (s : State), (s.isOpen .rootLost = true) ∧ (s.rootUid = 0) :=
  ⟨fab.setDue .rootLost 0 (some 6), by decide +kernel⟩

theorem wit_cycleEvents_1 : ∃ (s : State), (s.isOpen .cycle = true) ∧ (s.on .imageApplied = true) :=
  ⟨fab.setDue .cycle 0 (some 6), by decide +kernel⟩

theorem wit_cycleEvents_2 : ∃ (s : State), (s.isOpen .missing = true) ∧ (s.f Reg.FAB_CYCLE_STATUS_ROLE = 1) ∧ (0 ≤ s.v .missing) :=
  ⟨(fab.setF Reg.FAB_CYCLE_STATUS_ROLE 0 1).setDue .missing 0 (some 6), by decide +kernel⟩

theorem wit_cycleEvents_3 : ∃ (s : State), (s.isOpen .master = true) ∧ (s.f Reg.FAB_CYCLE_CFG_MASTER_PRIO ≠ 255) ∧ (s.address ≠ 0x3FE) ∧ (s.on .imageApplied = true) ∧ (s.f Reg.FAB_CYCLE_STATUS_ROLE ≠ 2) :=
  ⟨(fab.setF Reg.FAB_CYCLE_CFG_MASTER_PRIO 0 1).setDue .master 0 (some 6), by decide +kernel⟩

theorem wit_cycleEvents_4 : ∃ (s : State) (port : Fin 4) (frame : Frame) (t : Nat), (s.takes port frame = true) ∧ (frame.kind = 5) ∧ (numAt frame.body 0 1 = 0) ∧ (frame.flags = 0) ∧ (s.on .imageApplied = true) ∧ (frame.src ≠ s.address) ∧ ((s.arrive t).classOf frame.src 5 frame.seq = 0) ∧ (s.f Reg.FAB_CYCLE_STATUS_ROLE ≠ 2) ∧ (numAt frame.body 0x10 4 ≠ 0) ∧ (s.masterUid = 0 ∨ s.masterUid = numAt frame.body 8 8) :=
  ⟨fab, 0, frm 5 0 0x3FF 9 3 (cycleBody 0 1 0 3 9 1500 0 0), 0, by decide +kernel⟩

theorem wit_cycleEvents_5 : ∃ (s : State) (port : Fin 4) (frame : Frame) (t : Nat), (s.takes port frame = true) ∧ (frame.kind = 5) ∧ (numAt frame.body 0 1 = 0) ∧ (frame.flags = 0) ∧ (s.on .imageApplied = true) ∧ (frame.src ≠ s.address) ∧ ((s.arrive t).classOf frame.src 5 frame.seq = 2) :=
  ⟨{ fab with peers := [{ src := 9, port := 0, ends := 99, dups := [{ kind := 5, high := 300, mask := 0, sent := [] }] }] }, 0, frm 5 0 0x3FF 9 3 (cycleBody 0 1 0 3 9 1500 0 0), 0, by decide +kernel⟩

theorem wit_cycleEvents_6 : ∃ (s : State) (port : Fin 4), (s.isOpen .pdelay = true) ∧ (s.address ≠ 0x3FE) ∧ (s.verified port.val = true) ∧ (s.vn .portEnd port.val ≤ max s.now (s.endOf .pdelay)) ∧ ((∀ e ∈ s.egress, e.port ≠ port.val)) :=
  ⟨fab.setDue .pdelay 0 (some 6), 0, by decide +kernel⟩

theorem wit_cycleEvents_7 : ∃ (s : State) (port : Fin 4) (frame : Frame) (t : Nat), (s.takes port frame = true) ∧ (frame.kind = 5) ∧ (numAt frame.body 0 1 = 1) ∧ (s.on .imageApplied = true) ∧ (s.address ≠ 0x3FE) ∧ (s.vn .portEnd port.val ≤ max s.now t) ∧ ((∀ e ∈ s.egress, e.port ≠ port.val)) :=
  ⟨fab, 0, frm 5 0 0x3FF 9 0 (cycleBody 1 0 4 0 0 0 0 0), 0, by decide +kernel⟩

theorem wit_cycleEvents_8 : ∃ (s : State) (port : Fin 4) (frame : Frame), (s.takes port frame = true) ∧ (frame.kind = 5) ∧ (numAt frame.body 0 1 = 2) ∧ (s.on .imageApplied = true) ∧ (s.on .pdOpen port.val = true) ∧ (numAt frame.body 2 2 = s.vn .pdReq port.val) :=
  ⟨fab.setOn .pdOpen 0 true, 0, frm 5 0 0x3FF 9 0 (cycleBody 2 0 0 0 5 0 6 0), by decide +kernel⟩

theorem wit_cycleEvents_9 : ∃ (s : State) (frame : Fin 4), (s.isOpen .publish frame.val = true) ∧ (5 ≤ s.module.code) ∧ (s.address ≠ 0x3FE) ∧ (s.fb Reg.FAB_PUB_ENABLE frame.val = true) ∧ (pubEntries (s.section? 4) frame.val ≠ []) ∧ (s.vn .pubDone frame.val ≠ s.f Reg.FAB_CYCLE_NO + 1) :=
  ⟨(routed.setFb Reg.FAB_PUB_ENABLE 0 true).setDue .publish 0 (some 6), 0, by decide +kernel⟩

theorem wit_cycleEvents_10 : ∃ (s : State) (frame : Fin 4), (s.isOpen .publish frame.val = true) ∧ (s.vn .pubDone frame.val = s.f Reg.FAB_CYCLE_NO + 1) :=
  ⟨((routed.setFb Reg.FAB_PUB_ENABLE 0 true).setDue .publish 0 (some 6)).setV .pubDone 0 1, 0, by decide +kernel⟩

theorem wit_cycleEvents_11 : ∃ (s : State) (port : Fin 4) (frame : Frame) (t : Nat), (s.takes port frame = true) ∧ (frame.kind = 6) ∧ (frame.flags = 0) ∧ (s.on .imageApplied = true) ∧ (frame.src ≠ s.address) ∧ ((s.arrive t).classOf frame.src 6 frame.seq = 0) :=
  ⟨routed, 0, frm 6 0 0x3FF 9 0 (le 2 1 ++ le 14 0), 0, by decide +kernel⟩

theorem wit_cycleEvents_12 : ∃ (s : State) (port : Fin 4) (frame : Frame) (t : Nat), (s.takes port frame = true) ∧ (frame.kind = 6) ∧ (frame.flags = 0) ∧ (s.on .imageApplied = true) ∧ (frame.src ≠ s.address) ∧ ((s.arrive t).classOf frame.src 6 frame.seq = 1) :=
  ⟨{ fab with peers := [{ src := 9, port := 0, ends := 99, dups := [{ kind := 6, high := 3, mask := 0, sent := [] }] }] }, 0, frm 6 0 0x3FF 9 3 (le 2 1 ++ le 14 0), 0, by decide +kernel⟩

theorem wit_cycleEvents_13 : ∃ (s : State) (port : Fin 4) (frame : Frame) (t : Nat), (s.takes port frame = true) ∧ (frame.kind = 6) ∧ (frame.flags = 0) ∧ (s.on .imageApplied = true) ∧ (frame.src ≠ s.address) ∧ ((s.arrive t).classOf frame.src 6 frame.seq = 2) :=
  ⟨{ fab with peers := [{ src := 9, port := 0, ends := 99, dups := [{ kind := 6, high := 300, mask := 0, sent := [] }] }] }, 0, frm 6 0 0x3FF 9 3 (le 2 1 ++ le 14 0), 0, by decide +kernel⟩

theorem wit_cycleEvents_14 : ∃ (s : State) (src : Nat), (s.peers.any (fun p => p.src == src) = true) :=
  ⟨{ fab with peers := [{ src := 9, port := 0, ends := 99, dups := [] }] }, 9, by decide +kernel⟩

theorem wit_canReception_1 : ∃ (s : State) (channel : Fin 4) (frame : CanFrame), (s.f Reg.CAN_STATUS_STATE channel.val = 2) ∧ (s.on .imageApplied = true) ∧ (frame.key.testBit 31 = false ∨ s.fb Reg.CAN_CFG_FD channel.val = true) ∧ (frame.isClaim = false) ∧ (frame.isClaimRequest = false) ∧ ((s.filters channel.val).any (fun p => p.hits frame.key) = true) ∧ ((s.canRx.filter (fun e => e.ch == channel.val)).length < 64) :=
  ⟨({ can with image := [(5, le 16 0 ++ le 8 0 ++ le 4 1)] }).setOn .imageApplied 0 true, 0, cfrm 0, by decide +kernel⟩

theorem wit_canReception_2 : ∃ (s : State) (channel : Fin 4) (frame : CanFrame), (s.f Reg.CAN_STATUS_STATE channel.val = 2) ∧ (s.on .imageApplied = true) ∧ (frame.key.testBit 31 = false ∨ s.fb Reg.CAN_CFG_FD channel.val = true) ∧ (frame.isClaim = false) ∧ (frame.isClaimRequest = false) ∧ ((s.filters channel.val).any (fun p => p.hits frame.key) = false) :=
  ⟨can.setOn .imageApplied 0 true, 0, cfrm 0, by decide +kernel⟩

theorem wit_canReception_3 : ∃ (s : State) (channel : Fin 4), (s.f Reg.CAN_STATUS_STATE channel.val = 0) :=
  ⟨mk .ready, 0, by decide +kernel⟩

theorem wit_canReception_4 : ∃ (s : State) (r : Req) (words : Fin 20) (t : Nat) (e : CanEntry), (s.serving t r (.read ((List.range (words.val + 1)).map (fun i => (0x8200, 16 + i)))) = true) ∧ (s.oldest (s.winControl r.who 2 / 2 ^ 24) true = some e) ∧ ((s.canRx.filter (fun x => x.ch == s.winControl r.who 2 / 2 ^ 24 && x.queue == e.queue && x.ownedBy r.who)).length < s.f Reg.CAN_QUEUE_CFG_OWN_MAX (s.winControl r.who 2 / 2 ^ 24)) :=
  ⟨{ can with canRx := [centry true .free] }, j1, 0, 0, centry true .free, by decide +kernel⟩

theorem wit_canReception_5 : ∃ (s : State) (r : Req) (channel : Fin 4) (value : Word) (t : Nat) (e : CanEntry), (s.admits t r Reg.CAN_ACK channel.val 0 value = true) ∧ ((s.canRx.find? (fun x => x.ch == channel.val && x.slot == value.toNat % 64 && x.queue == value.toNat / 64 % 2 && x.ownedBy r.who)) = some e) ∧ (value.toNat / 128 % 2 = 0) ∧ (e.gen % 256 = value.toNat / 256) ∧ (max s.now t < e.ends) :=
  ⟨{ can with canRx := [centry true (.host .j1)] }, j1, 0, 259, 0, centry true (.host .j1), by decide +kernel⟩

theorem wit_canReception_6 : ∃ (s : State) (channel : Fin 4) (queue : Fin 2) (slot : Fin 64), (s.canRx.any (fun e => e.ch == channel.val && e.queue == queue.val && e.slot == slot.val && e.owner != .free) = true) :=
  ⟨{ can with canRx := [centry true (.host .j1)] }, 0, 0, 3, by decide +kernel⟩

theorem wit_canReception_7 : ∃ (s : State) (e : CanEntry), (5 ≤ s.module.code) ∧ (s.vRuns 1 = true) ∧ (s.on .dying = false) ∧ (s.mapNext = some e) ∧ (s.mapWaits e = false) ∧ (s.rxEntry e.ch e.frame.key = none) :=
  ⟨{ can with canRx := [centry false .free] }, centry false .free, by decide +kernel⟩

theorem wit_canReception_8 : ∃ (s : State) (e : CanEntry), (5 ≤ s.module.code) ∧ (s.vRuns 1 = true) ∧ (s.on .dying = false) ∧ (s.mapNext = some e) ∧ (s.mapWaits e = false) ∧ ((s.rxEntry e.ch e.frame.key).any (fun i => s.rxKind i == 0) = true) :=
  ⟨{ can with canRx := [centry false .free], image := [(5, le 2 1 ++ List.replicate 1566 0)] }, centry false .free, by decide +kernel⟩

theorem wit_canReception_9 : ∃ (s : State) (channel : Fin 4) (frame : CanFrame), (s.f Reg.CAN_STATUS_STATE channel.val = 2) ∧ (s.on .imageApplied = true) ∧ (frame.key.testBit 31 = false ∨ s.fb Reg.CAN_CFG_FD channel.val = true) ∧ (frame.isClaim = true) ∧ (frame.key % 256 < 254) :=
  ⟨can.setOn .imageApplied 0 true, 0, cfrm 0x38EEFF07, by decide +kernel⟩

theorem wit_canReception_10 : ∃ (s : State) (channel : Fin 4) (frame : CanFrame), (s.f Reg.CAN_STATUS_STATE channel.val = 2) ∧ (s.on .imageApplied = true) ∧ (frame.key.testBit 31 = false ∨ s.fb Reg.CAN_CFG_FD channel.val = true) ∧ (frame.isClaim = true) ∧ (s.vn .canAddr channel.val = frame.key % 256 + 1) ∧ (s.fb Reg.CAN_CFG_CLAIM_EN channel.val = true) ∧ (ofLe (frame.bytes.take 8) ≤ s.canName channel.val) :=
  ⟨((((can.setOn .imageApplied 0 true).setV .canAddr 0 8).setFb Reg.CAN_CFG_CLAIM_EN 0 true).setF Reg.CAN_CLAIM_NAME 0 9), 0, cfrm 0x38EEFF07, by decide +kernel⟩

theorem wit_canReception_11 : ∃ (s : State) (channel : Fin 4) (frame : CanFrame) (t : Nat), (s.f Reg.CAN_STATUS_STATE channel.val = 2) ∧ (s.on .imageApplied = true) ∧ (frame.key.testBit 31 = false ∨ s.fb Reg.CAN_CFG_FD channel.val = true) ∧ (frame.isClaim = true) ∧ (s.vn .canAddr channel.val = frame.key % 256 + 1) ∧ (s.fb Reg.CAN_CFG_CLAIM_EN channel.val = true) ∧ (s.canName channel.val < ofLe (frame.bytes.take 8)) ∧ ((s.arrive t).ended Clk.slow .claim channel.val = false) :=
  ⟨(((can.setOn .imageApplied 0 true).setV .canAddr 0 8).setFb Reg.CAN_CFG_CLAIM_EN 0 true), 0, cfrm 0x38EEFF07, 0, by decide +kernel⟩

theorem wit_canReception_12 : ∃ (s : State) (channel : Fin 4), (s.isOpen .claim channel.val = true) :=
  ⟨(can.setV .canAddr 0 8).setDue .claim 0 (some 6), 0, by decide +kernel⟩

theorem wit_canTransmission_1 : ∃ (s : State) (entry : Fin 64), (s.isOpen .txPeriod entry.val = true) :=
  ⟨can.setDue .txPeriod 0 (some 6), 0, by decide +kernel⟩

theorem wit_canTransmission_2 : ∃ (s : State) (entry : Fin 64), (s.isOpen .txCheck entry.val = true) :=
  ⟨can.setDue .txCheck 0 (some 6), 0, by decide +kernel⟩

theorem wit_canTransmission_3 : ∃ (s : State) (channel : Fin 4) (f : TxFrame), (s.f Reg.CAN_STATUS_STATE channel.val = 2 ∨ s.f Reg.CAN_STATUS_STATE channel.val = 3) ∧ (s.canTx.find? (fun x => x.ch == channel.val) = some f) ∧ (s.canHold.find? (fun x => x.entry == f.entry && x.entry.isSome) = none) :=
  ⟨{ can with canTx := [{ ch := 0, frame := cfrm 1, fd := false, entry := none, sa := false }] }, 0, { ch := 0, frame := cfrm 1, fd := false, entry := none, sa := false }, by decide +kernel⟩

theorem wit_canTransmission_4 : ∃ (s : State) (channel : Fin 4) (f : TxFrame) (h : TxFrame), (s.f Reg.CAN_STATUS_STATE channel.val = 2 ∨ s.f Reg.CAN_STATUS_STATE channel.val = 3) ∧ (s.canTx.find? (fun x => x.ch == channel.val) = some f) ∧ (s.canHold.find? (fun x => x.entry == f.entry && x.entry.isSome) = some h) ∧ (h.ch = channel.val) :=
  ⟨{ can with canTx := [{ ch := 0, frame := cfrm 1, fd := false, entry := some 1, sa := false }], canHold := [{ ch := 0, frame := cfrm 2, fd := false, entry := some 1, sa := false }] }, 0, { ch := 0, frame := cfrm 1, fd := false, entry := some 1, sa := false }, { ch := 0, frame := cfrm 2, fd := false, entry := some 1, sa := false }, by decide +kernel⟩

theorem wit_canTransmission_5 : ∃ (s : State) (channel : Fin 4) (kind : Fin 3), (s.f Reg.CAN_STATUS_STATE channel.val = 2 ∨ s.f Reg.CAN_STATUS_STATE channel.val = 3) ∧ (kind.val ≠ 2) :=
  ⟨can, 0, 1, by decide +kernel⟩

theorem wit_canTransmission_6 : ∃ (s : State) (channel : Fin 4), (s.f Reg.CAN_STATUS_STATE channel.val = 2 ∨ s.f Reg.CAN_STATUS_STATE channel.val = 3) ∧ (s.f Reg.CAN_ERRORS_TX channel.val + 8 ≤ 255) :=
  ⟨can, 0, by decide +kernel⟩

theorem wit_canTransmission_7 : ∃ (s : State) (channel : Fin 4), (s.f Reg.CAN_STATUS_STATE channel.val = 2 ∨ s.f Reg.CAN_STATUS_STATE channel.val = 3) ∧ (255 < s.f Reg.CAN_ERRORS_TX channel.val + 8) :=
  ⟨can.setF Reg.CAN_ERRORS_TX 0 250, 0, by decide +kernel⟩

theorem wit_canTransmission_8 : ∃ (s : State) (r : Req) (channel : Nat) (t : Nat), (s.serving t r (.command (.busRecover channel)) = true) ∧ (channel < 4) ∧ (s.f Reg.CAN_STATUS_STATE channel = 4) :=
  ⟨can.setF Reg.CAN_STATUS_STATE 0 4, j1, 0, 0, by decide +kernel⟩

theorem wit_canTransmission_9 : ∃ (s : State) (r : Req) (channel : Nat) (t : Nat), (s.serving t r (.command (.busRecover channel)) = true) ∧ (channel < 4) ∧ (s.f Reg.CAN_STATUS_STATE channel ≠ 4) :=
  ⟨can, j1, 0, 0, by decide +kernel⟩

theorem wit_canTransmission_10 : ∃ (s : State) (channel : Fin 4), (s.f Reg.CAN_STATUS_STATE channel.val = 5) :=
  ⟨can.setF Reg.CAN_STATUS_STATE 0 5, 0, by decide +kernel⟩

theorem wit_modeCommands_1 : ∃ (s : State) (r : Req) (wake : Bool) (t : Nat), (s.admits t r Reg.STATE_REQUEST_SHIP 0 0 1 = true) ∧ (s.module = .ready) ∧ (s.on .entering = false) ∧ (s.on .restarting = false) ∧ (s.allStopped = true) ∧ (s.keyBusy = false) ∧ (wake = false) :=
  ⟨mk .ready, j1, false, 0, by decide +kernel⟩

theorem wit_modeCommands_2 : ∃ (s : State) (r : Req) (t : Nat), (s.admits t r Reg.STATE_REQUEST_SHIP 0 0 2 = true) ∧ (s.module = .ready) ∧ (s.on .entering = false) ∧ (s.on .restarting = false) ∧ (s.allStopped = true) ∧ (s.keyBusy = false) :=
  ⟨mk .ready, j1, 0, by decide +kernel⟩

theorem wit_modeCommands_3 : ∃ (s : State) (r : Req) (t : Nat), (s.serving t r (.command .restart) = true) ∧ (s.module = .ready ∨ s.module = .service) ∧ (s.allIdle = true) ∧ (s.keyBusy = false) ∧ (s.on .restarting = false) ∧ (s.on .entering = false) :=
  ⟨mk .ready, j1, 0, by decide +kernel⟩

theorem wit_modeCommands_4 : ∃ (s : State) (r : Req) (t : Nat), (s.powered = true) ∧ (s.on .dying = false) ∧ (s.fb Reg.CLK_STATUS_ON_BACKUP = false) ∧ (s.vRuns 0 = true) ∧ (s.module = .unconfigured) ∧ (s.keyBusy = false) ∧ (s.on .restarting = false) ∧ (s.on .entering = false) ∧ ((s.arrive t).repeatOf r = none) ∧ (r.auth = none) ∧ (s.needsAuth (.command .restart) = false) ∧ (s.f Reg.CORE_STATUS_S_STATE ≠ 1) :=
  ⟨mk .unconfigured, j1, 0, by decide +kernel⟩

theorem wit_modeCommands_5 : ∃ (s : State) (r : Req) (t : Nat), (s.serving t r (.command .serviceExit) = true) ∧ (s.module = .service) ∧ (s.allIdle = true) ∧ (s.anyHalted = false) :=
  ⟨mk .service, j1, 0, by decide +kernel⟩

theorem wit_modeCommands_6 : ∃ (s : State) (r : Req) (debug : Bool) (t : Nat) (b : AuthBlock), (s.servingAuth t r (.command (.serviceEnter debug)) b = true) ∧ (s.module = .ready) ∧ (s.allIdle = true) ∧ (s.on .entering = false) :=
  ⟨asked .ready, j1a, false, 0, { challenge := 5, signature := [] }, by decide +kernel⟩

theorem wit_modeCommands_7 : ∃ (s : State) (r : Req) (t : Nat) (b : AuthBlock), (s.servingAuth t r (.command .clearLog) b = true) ∧ (s.operable = true) ∧ (s.on .clearing = false) :=
  ⟨asked .ready, j1a, 0, { challenge := 5, signature := [] }, by decide +kernel⟩

theorem wit_modeCommands_8 : ∃ (s : State) (r : Req) (generation : Nat) (crc : Nat) (t : Nat) (b : AuthBlock), (s.servingAuth t r (.command (.keyWrite generation crc)) b = true) ∧ (s.module = .ready ∨ s.module = .service) ∧ (s.on .entering = false) ∧ (s.keyBusy = false) :=
  ⟨asked .ready, j1a, 1, 1, 0, { challenge := 5, signature := [] }, by decide +kernel⟩

theorem wit_modeCommands_9 : ∃ (s : State) (r : Req) (start : Nat) (count : Nat) (t : Nat), (s.serving t r (.command (.logRead start count)) = true) :=
  ⟨mk .ready, j1, 0, 1, 0, by decide +kernel⟩

theorem wit_modeCommands_10 : ∃ (s : State) (r : Req) (value : Word) (t : Nat), (s.admits t r Reg.LOG_CURSOR_OFFSET 0 0 value = true) :=
  ⟨mk .ready, j1, 5, 0, by decide +kernel⟩

theorem wit_modeCommands_11 : ∃ (s : State) (r : Req) (t : Nat), (s.serving t r (.read [(0x1B09, 7)]) = true) :=
  ⟨mk .ready, j1, 0, by decide +kernel⟩

theorem wit_stageCommands_1 : ∃ (s : State) (r : Req) (mask : Nat) (higher : List Stage) (t : Nat) (x : Stage), (mask = 2 ^ x.idx) ∧ (s.serving t r (.command (.arm mask higher)) = true) ∧ (s.operable = true) ∧ (s.stageUsed x = true) ∧ (higher = []) ∧ (s.on .restarting = false) ∧ (7 ≤ (s.arrive t).rankNow x) ∧ (s.st x = .stopped) ∧ (s.armBar x = none) :=
  ⟨(mk .ready).setFb Reg.LEG_CFG_ENABLE 12 true, j1, 4, [], 0, .L, by decide +kernel⟩

theorem wit_stageCommands_2 : ∃ (s : State) (r : Req) (mask : Nat) (higher : List Stage) (t : Nat) (x : Stage), (mask = 2 ^ x.idx) ∧ (s.serving t r (.command (.run mask higher)) = true) ∧ (s.operable = true) ∧ (s.stageUsed x = true) ∧ (higher = []) ∧ (6 ≤ (s.arrive t).rankNow x) ∧ (s.st x = .armed) ∧ (s.armBar x = none) :=
  ⟨(mkSt .run .L .armed).setFb Reg.LEG_CFG_ENABLE 12 true, j1, 4, [], 0, .L, by decide +kernel⟩

theorem wit_stageCommands_3 : ∃ (s : State) (r : Req) (mask : Nat) (higher : List Stage) (t : Nat) (x : Stage), (mask = 2 ^ x.idx) ∧ (s.serving t r (.command (.stop mask higher)) = true) ∧ (s.stageUsed x = true) ∧ (higher = []) ∧ (4 ≤ (s.arrive t).rankNow x) ∧ (s.st x = .running) :=
  ⟨(mkSt .run .L .running).setFb Reg.LEG_CFG_ENABLE 12 true, j1, 4, [], 0, .L, by decide +kernel⟩

theorem wit_stageCommands_4 : ∃ (s : State) (r : Req) (mask : Nat) (higher : List Stage) (t : Nat) (x : Stage), (mask = 2 ^ x.idx) ∧ (s.serving t r (.command (.stop mask higher)) = true) ∧ (s.stageUsed x = true) ∧ (higher = []) ∧ (4 ≤ (s.arrive t).rankNow x) ∧ (s.st x = .armed) :=
  ⟨(mkSt .run .L .armed).setFb Reg.LEG_CFG_ENABLE 12 true, j1, 4, [], 0, .L, by decide +kernel⟩

theorem wit_stageCommands_5 : ∃ (s : State) (r : Req) (mask : Nat) (higher : List Stage) (t : Nat) (x : Stage), (mask = 2 ^ x.idx) ∧ (s.serving t r (.command (.stop mask higher)) = true) ∧ (s.stageUsed x = true) ∧ (higher = []) ∧ (4 ≤ (s.arrive t).rankNow x) ∧ ((s.arrive t).rankNow x ≠ 5) ∧ (s.st x = .hold) :=
  ⟨(mkSt .run .L .hold).setFb Reg.LEG_CFG_ENABLE 12 true, j1, 4, [], 0, .L, by decide +kernel⟩

theorem wit_stageCommands_6 : ∃ (s : State) (r : Req) (mask : Nat) (higher : List Stage) (t : Nat), (s.serving t r (.command (.arm mask higher)) = true) ∧ (mask = 0 ∨ 128 ≤ mask) :=
  ⟨mk .ready, j1, 0, [], 0, by decide +kernel⟩

theorem wit_stageCommands_7 : ∃ (s : State) (r : Req) (slot : Nat) (t : Nat), (s.serving t r (.command (.openLoop slot)) = true) ∧ (slot < 48) ∧ (s.f Reg.SLOT_TYPE_TYPE slot ≠ 0) ∧ (s.st (s.slotStage slot) ≠ .hold) :=
  ⟨(mk .ready).setF Reg.SLOT_TYPE_TYPE 0 1, j1, 0, 0, by decide +kernel⟩

theorem wit_stageCommands_8 : ∃ (s : State) (r : Req) (slot : Nat) (t : Nat), (s.serving t r (.command (.closeLoop slot)) = true) ∧ (slot < 48) ∧ (s.f Reg.SLOT_TYPE_TYPE slot ≠ 0) ∧ (s.closeRefusal slot = none) :=
  ⟨(mk .ready).setF Reg.SLOT_TYPE_TYPE 0 3, j1, 0, 0, by decide +kernel⟩

theorem wit_stageCommands_9 : ∃ (s : State) (r : Req) (t : Nat), (s.serving t r (.command .switchBack) = true) ∧ (s.operable = true) ∧ (s.fb Reg.FO_STATUS_SWITCHING = false) ∧ (s.engState (1 - s.owner) = 3) ∧ ((∀ x ∈ Stage.all, s.st x ≠ .hold)) :=
  ⟨((mk .ready).setF Reg.FO_STATUS_STATE_B 0 3), j1, 0, by decide +kernel⟩

theorem wit_stageCommands_10 : ∃ (s : State) (r : Req) (t : Nat), (s.serving t r (.command .thermalRelease) = true) :=
  ⟨mk .ready, j1, 0, by decide +kernel⟩

theorem wit_stageCommands_11 : ∃ (s : State) (r : Req) (t : Nat), (s.serving t r (.command .chargeStart) = true) ∧ ((s.arrive t).chargeRefusal = none) :=
  ⟨(((((((((mkSt .run .P .running).setStg .D { StageCtl.reset with state := .running }).setF Reg.CHG_STATUS_PP_STATE 0 4).setFb Reg.CHG_BMS_REQUEST 0 true).setF Reg.CHG_BMS_LIMITS_V_MAX 0 9).setF Reg.CHG_BMS_LIMITS_I_MAX 0 9).setV .bmsAt 0 1).setF Reg.CHG_BMS_TIMEOUT 0 100).setFb Reg.CHG_STATUS_BMS_FRESH 0 true), j1, 0, by decide +kernel⟩

theorem wit_stageCommands_12 : ∃ (s : State) (r : Req) (t : Nat), (s.serving t r (.command .chargeStop) = true) ∧ (s.f Reg.CHG_STATUS_CHG_STATE = 0) :=
  ⟨mk .ready, j1, 0, by decide +kernel⟩

theorem wit_stageCommands_13 : ∃ (s : State) (r : Req) (t : Nat), (s.serving t r (.command .chargeStop) = true) ∧ (s.f Reg.CHG_STATUS_CHG_STATE ≠ 0) :=
  ⟨(mk .run).setF Reg.CHG_STATUS_CHG_STATE 0 1, j1, 0, by decide +kernel⟩

theorem wit_stageCommands_14 : ∃ (s : State) (r : Req) (brake : Nat) (t : Nat), (s.serving t r (.command (.brakeTest brake)) = true) ∧ (brake < 2) ∧ ((s.arrive t).brakeTestBar brake = none) :=
  ⟨((((((((mkSt .run .X1 .running).setF Reg.SAFE_BRK_CFG_STAGE 0 5).setFb Reg.FB_STATUS_VALID 0 true).setFb Reg.FB_STATUS_REF_OK 0 true).setFb Reg.SLOT_MODE_MODE 0 true).setF Reg.SAFE_BRK_CFG_FB 0 0).setF Reg.SAFE_BRK_CFG_BT_SLOT 0 0).setV .brkAt 0 0), j1, 0, 300000000, by decide +kernel⟩

theorem wit_stageCommands_15 : ∃ (s : State) (r : Req) (t : Nat), (s.serving t r (.command .splitV) = true) ∧ (s.f Reg.CORE_STATUS_V_MODE ≠ 2) ∧ (s.splitBar 0 = none) :=
  ⟨mk .ready, j1, 0, by decide +kernel⟩

theorem wit_stageCommands_16 : ∃ (s : State) (r : Req) (t : Nat), (s.serving t r (.command .joinV) = true) ∧ (s.f Reg.CORE_STATUS_V_MODE ≠ 2) ∧ (s.splitBar 1 = none) :=
  ⟨(mk .ready).setF Reg.CORE_STATUS_V_MODE 0 1, j1, 0, by decide +kernel⟩

theorem wit_stageCommands_17 : ∃ (s : State) (r : Req) (mask : Nat) (higher : List Stage) (t : Nat) (x : Stage), (mask = 2 ^ x.idx) ∧ (s.serving t r (.command (.stop mask higher)) = true) ∧ (s.stageUsed x = true) ∧ (higher = []) ∧ ((s.arrive t).rankNow x = 5) ∧ (s.st x = .hold) :=
  ⟨((mkSt .run .L .hold).setFb Reg.LEG_CFG_ENABLE 12 true).setV .rankAt 2 1 |>.setV .rankOf 2 5, j1, 4, [], 0, .L, by decide +kernel⟩

theorem wit_hostWrites_1 : ∃ (s : State) (r : Req) (slot : Fin 48) (sub : Fin 2) (value : Word) (t : Nat), (s.admits t r Reg.SLOT_SETPOINT slot.val sub.val value = true) ∧ (s.f Reg.SLOT_TYPE_TYPE slot.val ≠ 8) ∧ (sub = 1 ∨ s.parkRefused slot.val value.toInt = none) :=
  ⟨mk .ready, j1, 0, 0, 7, 0, by decide +kernel⟩

theorem wit_hostWrites_2 : ∃ (s : State) (r : Req) (slot : Fin 48) (sub : Fin 2) (value : Word) (t : Nat), (s.admits t r Reg.SLOT_SETPOINT slot.val sub.val value = true) ∧ (s.f Reg.SLOT_TYPE_TYPE slot.val = 8) :=
  ⟨(mk .ready).setF Reg.SLOT_TYPE_TYPE 0 8, j1, 0, 0, 7, 0, by decide +kernel⟩

theorem wit_hostWrites_3 : ∃ (s : State) (r : Req) (leg : Fin 32) (value : Word) (t : Nat), (s.admits t r Reg.LEG_CTRL_FORCE leg.val 0 value = true) ∧ (s.f Reg.LEG_STATUS_OWNER leg.val = 0) ∧ (value.getLsbD 2 = true) :=
  ⟨mk .ready, j1, 0, 4, 0, by decide +kernel⟩

theorem wit_hostWrites_4 : ∃ (s : State) (r : Req) (stage : Stage) (value : Word) (t : Nat), (s.admits t r Reg.PULSE_PERIOD stage.idx 0 value = true) ∧ ((s.arrive t).periodOk stage value.toNat = true) ∧ (((s.arrive t).setF Reg.PULSE_PERIOD stage.idx value.toNat).budgetOk = true) :=
  ⟨mk .ready, j1, .L, 15000, 0, by decide +kernel⟩

theorem wit_hostWrites_5 : ∃ (s : State) (r : Req) (stage : Stage) (value : Word) (t : Nat), (s.admits t r Reg.PULSE_PERIOD stage.idx 0 value = true) ∧ ((s.arrive t).periodOk stage value.toNat = false) :=
  ⟨mk .ready, j1, .L, 1, 0, by decide +kernel⟩

theorem wit_hostWrites_6 : ∃ (s : State) (r : Req) (actuator : Fin 2) (compare : Fin 4) (value : Word) (t : Nat), (s.admits t r Reg.ACT_CMP_VALUE actuator.val compare.val value = true) :=
  ⟨mk .ready, j1, 0, 0, 7, 0, by decide +kernel⟩

theorem wit_hostWrites_7 : ∃ (s : State) (r : Req) (actuator : Fin 2) (compare : Fin 4) (value : Word) (t : Nat), (s.admits t r Reg.ACT_CMP_MODE actuator.val compare.val value = true) :=
  ⟨mk .ready, j1, 0, 0, 1, 0, by decide +kernel⟩

theorem wit_hostWrites_8 : ∃ (s : State) (r : Req) (value : Word) (t : Nat), (s.admits t r Reg.SAFE_BRK_CMD 0 0 value = true) ∧ (s.brakeCmdBar value.toNat = false) :=
  ⟨mk .ready, j1, 1, 0, by decide +kernel⟩

theorem wit_hostWrites_9 : ∃ (s : State) (r : Req) (value : Word) (t : Nat), (s.admits t r Reg.SAFE_CDR_CMD 0 0 value = true) ∧ (s.closeBarred value.toNat = false) :=
  ⟨mk .ready, j1, 1, 0, by decide +kernel⟩

theorem wit_hostWrites_10 : ∃ (s : State) (r : Req) (value : Word) (t : Nat), (s.admits t r Reg.SAFE_CDR_CMD 0 0 value = true) ∧ (s.closeBarred value.toNat = true) :=
  ⟨((mk .ready).setFb Reg.SAFE_PRE_TIME_PRE_ENFORCE 0 true).setF Reg.SAFE_PRECHARGE_MAIN_CDR 0 0, j1, 1, 0, by decide +kernel⟩

theorem wit_hostWrites_11 : ∃ (s : State) (r : Req) (buffer : Fin 64) (value : Word) (t : Nat), (s.admits t r Reg.SMP_BUF_CONTROL_FREEZE buffer.val 0 value = true) :=
  ⟨mk .ready, j1, 0, 1, 0, by decide +kernel⟩

theorem wit_hostWrites_12 : ∃ (s : State) (r : Req) (window : Fin 5) (value : Word) (t : Nat), (s.serving t r (.write [{ index := 0x8000 + 256 * window.val, sub := 0, value := value }] [] []) = true) ∧ (s.operable = true) ∧ (selectOk window.val (value.toNat / 2 ^ 24) = true) ∧ (s.winSize r.who window.val (value.toNat / 2 ^ 24) = 0 ∨ value.toNat % 2 ^ 24 < s.winSize r.who window.val (value.toNat / 2 ^ 24)) ∧ (s.kept.length < 64) :=
  ⟨mk .ready, j1, 1, 0, 0, by decide +kernel⟩

theorem wit_hostWrites_13 : ∃ (s : State) (r : Req) (word : Fin 64) (value : Word) (t : Nat), (s.serving t r (.write [{ index := 0x8300, sub := 16 + word.val, value := value }] [] []) = true) ∧ (s.module = .ready ∨ s.module = .service) ∧ (s.on .entering = false) ∧ (s.keyBusy = false) ∧ (s.winControl r.who 3 % 2 ^ 24 + word.val < 262144) :=
  ⟨mk .ready, j1, 0, 7, 0, by decide +kernel⟩

theorem wit_hostWrites_14 : ∃ (s : State) (r : Req) (e : WEntry) (t : Nat), (s.serving t r (.write [e] [] []) = true) ∧ (e.index < 0x2000) ∧ (e.sub < 256) ∧ (plainWord (keyOf e.index e.sub) = true) ∧ (s.refuses t r e = none) :=
  ⟨mk .ready, j1, { index := 0x1B08, sub := 0, value := 5 }, 0, by decide +kernel⟩

theorem wit_hostWrites_15 : ∃ (s : State) (r : Req) (e : WEntry) (t : Nat) (d : Fin 16), (s.serving t r (.write [e] [] []) = true) ∧ (e.index < 0x2000) ∧ (e.sub < 256) ∧ (s.refuses t r e = some d.val) :=
  ⟨mk .ready, j1, { index := 0x1B02, sub := 0, value := 5 }, 0, 2, by decide +kernel⟩

theorem wit_serviceEvents_1 : ∃ (s : State) (r : Req) (e : Nat × Nat) (t : Nat), (s.serving t r (.read [e]) = true) ∧ (e.1 < 0x2000) ∧ (e.2 < 256) ∧ ((Map.word (keyOf e.1 e.2)).isSome = true) ∧ (e ≠ (0x1B09, 7)) :=
  ⟨mk .ready, j1, (0x10, 0), 0, by decide +kernel⟩

theorem wit_serviceEvents_2 : ∃ (s : State) (r : Req) (e : Nat × Nat) (t : Nat), (s.serving t r (.read [e]) = true) ∧ (e.1 < 0x2000) ∧ (e.2 < 256) ∧ ((Map.word (keyOf e.1 e.2)).isNone = true) :=
  ⟨mk .ready, j1, (0x1FFF, 0), 0, by decide +kernel⟩

theorem wit_serviceEvents_3 : ∃ (s : State) (r : Req) (t : Nat), (s.serving t r (.command .summary) = true) :=
  ⟨mk .ready, j1, 0, by decide +kernel⟩

theorem wit_serviceEvents_4 : ∃ (s : State) (r : Req) (t : Nat), (s.serving t r .challenge = true) ∧ (s.fb Reg.SVC_STATUS_LOCKOUT = false) :=
  ⟨mk .ready, j1, 0, by decide +kernel⟩

theorem wit_serviceEvents_5 : ∃ (s : State) (r : Req) (t : Nat), (s.serving t r .challenge = true) ∧ (s.fb Reg.SVC_STATUS_LOCKOUT = true) ∧ ((s.arrive t).ended Clk.slow .lockout = false) :=
  ⟨(mk .ready).setFb Reg.SVC_STATUS_LOCKOUT 0 true, j1, 0, by decide +kernel⟩

theorem wit_serviceEvents_6 : ∃ (s : State) (r : Req) (t : Nat), (s.powered = true) ∧ (s.on .dying = false) ∧ (s.fb Reg.CLK_STATUS_ON_BACKUP = false) ∧ (s.vRuns 0 = true) ∧ (5 ≤ s.module.code) ∧ (r.who = .j1) ∧ (((s.arrive t).repeatOf r).isSome = true) :=
  ⟨{ mk .ready with kept := [{ who := .j1, trans := 1, time := 0, reply := ⟨1, 0, []⟩ }] }, j1, 0, by decide +kernel⟩

theorem wit_serviceEvents_7 : ∃ (s : State) (who : Requester), (s.challenges.any (fun k => k.who == who) = true) :=
  ⟨asked .ready, .j1, by decide +kernel⟩

theorem wit_serviceEvents_8 : ∃ (s : State), (s.isOpen .lockout = true) :=
  ⟨(mk .ready).setDue .lockout 0 (some 6), by decide +kernel⟩

theorem wit_serviceEvents_9 : ∃ (s : State), (s.isOpen .authFail = true) :=
  ⟨(mk .ready).setDue .authFail 0 (some 6), by decide +kernel⟩

theorem wit_serviceEvents_10 : ∃ (s : State), (s.isOpen .attnHold = true) :=
  ⟨(mk .ready).setDue .attnHold 0 (some 6), by decide +kernel⟩

theorem wit_serviceEvents_11 : ∃ (s : State) (port : Fin 4) (frame : Frame) (t : Nat), (s.takes port frame = true) ∧ (frame.kind = 7) ∧ (frame.flags = 0) ∧ (s.on .imageApplied = true) ∧ (s.address < 0x200) ∧ (frame.dst = s.address) ∧ (frame.src ≠ s.address) ∧ (frame.src < 0x3FE) ∧ ((s.arrive t).classOf frame.src 7 frame.seq = 0) ∧ (numAt frame.body 3 1 ≠ 0) :=
  ⟨fab, 0, frm 7 0 5 9 1 (le 3 0 ++ le 1 1 ++ le 12 0), 0, by decide +kernel⟩

theorem wit_serviceEvents_12 : ∃ (s : State) (port : Fin 4) (frame : Frame) (t : Nat), (s.takes port frame = true) ∧ (frame.kind = 7) ∧ (frame.flags = 0) ∧ (s.on .imageApplied = true) ∧ (s.address < 0x200) ∧ (frame.dst = s.address) ∧ (frame.src ≠ s.address) ∧ (frame.src < 0x3FE) ∧ ((s.arrive t).classOf frame.src 7 frame.seq = 0) ∧ (numAt frame.body 3 1 = 0) ∧ (numAt frame.body 4 4 = 0) ∧ (numAt frame.body 8 8 = 0) ∧ (frame.body.length = 16) ∧ (numAt frame.body 2 1 = 4) ∧ (s.serving t { who := .fab frame.src, trans := numAt frame.body 0 2, auth := none } .challenge = true) ∧ (s.fb Reg.SVC_STATUS_LOCKOUT = false) :=
  ⟨fab, 0, frm 7 0 5 9 1 (le 2 0 ++ le 1 4 ++ le 13 0), 0, by decide +kernel⟩

theorem wit_stepIdles : State.reset.pending = [] := by decide

theorem wit_canonicalStores : (safing.canonical = true ∧ step safing = .next safing.idle) := ⟨by decide +kernel, rfl⟩

theorem wit_logNumbered : (cleared.logNumbered = true ∧ step cleared = .next cleared.idle) := ⟨by decide +kernel, rfl⟩

theorem wit_logGrows : ((∀ damage copyA copyB t, (Instr.clearDone) ≠ .logRebuild damage copyA copyB t) ∧
    ∃ u, exec .clearDone fab = .next u) := ⟨by simp, _, rfl⟩

theorem wit_queueBounds : (safing.bounded = true ∧ step safing = .next safing.idle) := ⟨by decide +kernel, rfl⟩

theorem wit_moduleTransitions : safing.quiet = true ∧ safing.held = [] ∧ safing.handQueue = [] := by decide +kernel

theorem wit_stagesRest : State.reset.quiet = true ∧ step State.reset = .next State.reset.idle := ⟨by decide, rfl⟩

theorem wit_stageTransitions : Instr.clearDone.carriesWaiting = false ∧ (Instr.warmRestartDone false 0 0).carriesWaiting = true ∧ fab.held = [] ∧ fab.handQueue = [] ∧
    Instr.clearDone.restartsS = false ∧
    ∃ u, exec .clearDone fab = .next u := ⟨by decide, by decide, rfl, rfl, by decide, _, rfl⟩

theorem wit_timeAndOutput : ∃ u, exec .clearDone fab = .next u := ⟨_, rfl⟩

theorem wit_safeTakesStages : ∃ u, exec (.holdExpired .L) safing = .next u ∧ safing.module ≠ .safe ∧ u.module = .safe := by
  refine ⟨_, rfl, ?_, ?_⟩ <;> decide +kernel

theorem wit_safeIsLeft : ((mk .safe).module = .safe ∧ ∃ u, exec .clearDone (mk .safe) = .next u) := ⟨rfl, _, rfl⟩

theorem wit_holdStoresStop_1 : ∃ (s : State) (x : Stage), (4 : Nat) = 2 ^ x.idx ∧ s.serving 0 j1 (.command (.stop 4 [])) = true ∧
    s.stageUsed x = true ∧ 4 ≤ (s.arrive 0).rankNow x ∧ s.st x = .hold :=
  ⟨(mkSt .run .L .hold).setFb Reg.LEG_CFG_ENABLE 12 true, .L, by decide +kernel⟩

theorem wit_holdStoresStop_2 : ∃ (s : State) (x : Stage), s.st x = .hold ∧ (s.stg x).holds = [] ∧
    (∀ e, s.due .hold x.idx = some e → s.now < e) ∧ (s.stg x).storedStop = true ∧ (s.stg x).stopping = false :=
  ⟨(mk .run).setStg .L { StageCtl.reset with state := .hold, storedStop := true }, .L, by decide +kernel, by decide +kernel,
    by intro e h; exact absurd h (by simp [mk, State.setStg, State.due, State.reset, Store.get, State.timerReset]),
    by decide +kernel, by decide +kernel⟩

theorem wit_holdStoresStop_3 : ∃ (s : State) (x : Stage), s.isOpen .hold x.idx = true ∧ s.st x = .hold :=
  ⟨safing, .L, by decide +kernel⟩

theorem wit_accumulatorMean : ∃ (s : State) (a v : Nat), a < 128 ∧ 0 < s.vn .accCount a ∧
    s.f Reg.SMP_ACC_CFG_MIN_COUNT a ≤ s.vn .accCount a ∧ |s.v .accSum a| ≤ 32768 * s.vn .accCount a ∧
    2 * |(s.accLatch a v).fi Reg.SMP_ACC_AVG a * s.vn .accCount a - s.v .accSum a| = s.vn .accCount a :=
  ⟨((mk .ready).setV .accCount 3 2).setV .accSum 3 (-5), 3, 0, by decide +kernel⟩

theorem wit_accumulatorFull : ∃ (s t : State) (a : Nat), a < 128 ∧ 0 ≤ s.v .accCount a ∧ s.vn .accCount a < 1048575 ∧
    t.vn .accCount a = 1048575 :=
  ⟨(mk .ready).setV .accCount 3 1048574, (mk .ready).setV .accCount 3 1048575, 3, by decide +kernel⟩

theorem wit_commitMeetsReload_1 : ∃ (s : State) (x : Stage) (n r : Nat), n < 32 ∧ (s.stg x).stopping = false ∧
    s.on .legPending n = true ∧ s.vn .legCommitAt n / Clk.pulse + 2 ≤ r / 64 ∧ s.carrierMode x < 2 :=
  ⟨((mkSt .run .L .running).setOn .legPending 12 true).setV .legCommitAt 12 (Clk.pulse * 5), .L, 12, 7 * 64, by decide +kernel⟩

theorem wit_commitMeetsReload_2 : ∃ (s : State) (x : Stage) (n r : Nat), n < 32 ∧ (s.stg x).stopping = false ∧
    s.on .legPending n = true ∧ r / 64 = s.vn .legCommitAt n / Clk.pulse + 1 :=
  ⟨((mkSt .run .L .running).setOn .legPending 12 true).setV .legCommitAt 12 (Clk.pulse * 5), .L, 12, 6 * 64, by decide +kernel⟩

theorem wit_recordsCarryMark : ∃ (s : State) (r : Rec) (copyA copyB : MgmtCopy), (copyA.good || copyB.good) = true ∧ r ∈ (s.rebuild [] copyA copyB).log.recs :=
  ⟨cleared, (cleared.rebuild [] ⟨true, false⟩ ⟨false, false⟩).log.recs.getD 0 ((mk .off).mkRec { code := 0 }), ⟨true, false⟩, ⟨false, false⟩, by decide +kernel⟩

theorem wit_summaryShowsLog : (mk .ready).module ≠ .starting := by decide

theorem wit_payloadRoundTrip : entriesWf [(0x1B00, 3)] = true ∧ writeWf j1 [{ index := 0x1B00, sub := 3, value := 7 }] = true ∧
    j1.auth = none ∧ (Cmd.arm 3 []).wf = true ∧ (AuthBlock.ofBytes (List.replicate 80 1)).wf = true ∧
    writeWf { j1 with auth := some (AuthBlock.ofBytes (List.replicate 80 1)) } [{ index := 0x1B00, sub := 3, value := 7 }] = true := by
  decide +kernel

theorem wit_keyIsKept : (∀ ok t, Instr.clearDone ≠ .keyWriteStepEnd ok t) ∧ (∀ k t, Instr.clearDone ≠ .keyReadDone k t) :=
  ⟨by simp, by simp⟩


end Sys2Proof.Tests
end

-- ==== The canonical form of the sparse stores (O43) ====
section
/-!
Every function of the model keeps the canonical form of the sparse stores: one lemma per function, in the order of the calls, each
assembled from the lemmas of the functions it calls. A lemma of a function with several results speaks of the state it returns.
-/

namespace Sys2Proof.Machine.State
open Sys2Proof Sys2Proof.Machine

/-- An update of the parts beside the sparse stores keeps the canonical form. -/
theorem canonical_parts {s : State} (h : s.canonical = true) {now : Nat} {module : ModState} {stages : Vector StageCtl 7}
    {causes : List Cause} {cycleFaults : List CycleFault} {deferred : List FaultEvt} {release : List Protected} {queue : List Rec}
    {log : Log} {kept : List Kept} {challenges : List Challenge} {windows : List WinCtl} {edges : List Edge} {dmaFifo : List DmaEntry}
    {pipe : List Sample} {accepts : List Accept} {runs : List Run} {denials : List Denial} {held handQueue : List (Req × Svc)} {handCmd : Option (Req × Svc)}
    {keyObs : KeyObs} {header early : List Byte} {image : List (Nat × List Byte)} {canRx : List CanEntry} {canTx canHold : List TxFrame}
    {canLast : List (Nat × List Nat)} {canClaims : List Claim} {peers : List Peer} {waiting : List Waiting} {colony replies : List Node}
    {egress : List Egress} {out : List Out} {free : Nat} {pending : List Instr} :
    State.canonical
      { now, regs := s.regs, vars := s.vars, timers := s.timers, module, stages, causes, cycleFaults, deferred,
        release, queue, log, kept, challenges, windows, edges, dmaFifo, pipe,
        accepts, sram := s.sram, runs, denials, held, handQueue, handCmd, staging := s.staging, keyMem := s.keyMem,
        keyObs, header, early, image, canRx, canTx, canHold, canLast, canClaims,
        peers, waiting, colony, replies, egress, out, free, pending } = true :=
  canonical_congr h rfl rfl rfl rfl rfl rfl

theorem canonical_ite {c : Prop} [Decidable c] {a b : State} (ha : a.canonical = true) (hb : b.canonical = true) :
    (if c then a else b).canonical = true := by
  split <;> assumption

theorem canonical_ite_fst {α : Type} {c : Prop} [Decidable c] {a b : State × α} (ha : a.1.canonical = true)
    (hb : b.1.canonical = true) : (if c then a else b).1.canonical = true := by
  split <;> assumption

theorem canonical_ite_snd {α : Type} {c : Prop} [Decidable c] {a b : α × State} (ha : a.2.canonical = true)
    (hb : b.2.canonical = true) : (if c then a else b).2.canonical = true := by
  split <;> assumption

theorem canonical_ite_snd_snd {α β : Type} {c : Prop} [Decidable c] {a b : α × β × State} (ha : a.2.2.canonical = true)
    (hb : b.2.2.canonical = true) : (if c then a else b).2.2.canonical = true := by
  split <;> assumption

theorem canonical_foldl {α : Type} {s : State} (h : s.canonical = true) (k : State → α → State) (l : List α)
    (hk : ∀ s : State, s.canonical = true → ∀ x ∈ l, (k s x).canonical = true) : (l.foldl k s).canonical = true :=
  canonical_each h l k hk

theorem canonical_foldl_snd {α β : Type} {p : β × State} (h : p.2.canonical = true) (k : β × State → α → β × State) (l : List α)
    (hk : ∀ p : β × State, p.2.canonical = true → ∀ x ∈ l, (k p x).2.canonical = true) : (l.foldl k p).2.canonical = true :=
  List.foldlRecOn (motive := fun p => p.2.canonical = true) l k h hk

theorem canonical_foldl_fst {α β : Type} {p : State × β} (h : p.1.canonical = true) (k : State × β → α → State × β) (l : List α)
    (hk : ∀ p : State × β, p.1.canonical = true → ∀ x ∈ l, (k p x).1.canonical = true) : (l.foldl k p).1.canonical = true :=
  List.foldlRecOn (motive := fun p => p.1.canonical = true) l k h hk

/-- Removing entries keeps the canonical form of a store. -/
theorem wf_filter {α : Type} [DecidableEq α] {d : Nat → α} {l : List (Nat × α)} (p : Nat × α → Bool) (h : Store.wf d l = true) :
    Store.wf d (l.filter p) = true := by
  rw [Store.wf_iff] at h ⊢
  exact ⟨h.1.sublist (List.filter_sublist.map Prod.fst), fun e he => h.2 e (List.mem_of_mem_filter he)⟩

/-- Several writes keep the canonical form of a store. -/
theorem wf_foldl_set {α β : Type} [DecidableEq α] {d : Nat → α} {m : List (Nat × α)} (h : Store.wf d m = true) (l : List β)
    (key : β → Nat) (val : β → α) : Store.wf d (l.foldl (fun m b => Store.set d m (key b) (val b)) m) = true :=
  List.foldlRecOn (motive := fun m => Store.wf d m = true) l _ h fun _ hm _ _ => Store.wf_set _ _ hm

/-- A state with an erased key keeps the canonical form. -/
theorem canonical_noKeyMem {s : State} (h : s.canonical = true) : ({ s with keyMem := [] } : State).canonical = true := by
  obtain ⟨hregs, hvars, htimers, hsram, hstaging, -⟩ := canonical_iff.1 h
  exact canonical_iff.2 ⟨hregs, hvars, htimers, hsram, hstaging, rfl⟩

/-- A write of a byte of the sampling SRAM keeps the canonical form. -/
theorem canonical_setSram {s : State} (h : s.canonical = true) (a : Nat) (b : Byte) :
    ({ s with sram := Store.set State.ramReset s.sram a b } : State).canonical = true := by
  obtain ⟨hregs, hvars, htimers, hsram, hstaging, hkey⟩ := canonical_iff.1 h
  exact canonical_iff.2 ⟨hregs, hvars, htimers, Store.wf_set _ _ hsram, hstaging, hkey⟩

theorem canonical_idle {s : State} (h : s.canonical = true) :
    s.idle.canonical = true :=
  canonical_parts h

theorem canonical_countPowered {s : State} (h : s.canonical = true) :
    s.countPowered.canonical = true :=
  canonical_addV h ..

theorem canonical_append {s : State} (h : s.canonical = true) (r : Rec) :
    (s.append r).canonical = true :=
  canonical_addF (canonical_parts h) ..

theorem canonical_markSeen {s : State} (h : s.canonical = true) (code : Nat) :
    (s.markSeen code).canonical = true :=
  canonical_setW1c h ..

theorem canonical_appendOwn {s : State} (h : s.canonical = true) (a : RepArg) :
    (s.appendOwn a).canonical = true :=
  canonical_append (canonical_markSeen h ..) ..

theorem canonical_fullCheck {s : State} (h : s.canonical = true) :
    s.fullCheck.canonical = true :=
  canonical_ite (canonical_setOn (canonical_appendOwn h ..) ..) h

theorem canonical_fillCheck {s : State} (h : s.canonical = true) :
    s.fillCheck.canonical = true :=
  canonical_fullCheck (canonical_ite (canonical_parts (canonical_appendOwn (canonical_setOn h ..) ..)) (canonical_setOn h ..))

theorem canonical_writeQueue {s : State} (h : s.canonical = true) :
    s.writeQueue.canonical = true :=
  canonical_each (canonical_parts h) _ _ fun _ h _ _ => canonical_ite (canonical_parts h) (canonical_fillCheck (canonical_append h ..))

theorem canonical_skipUnpowered {s : State} (h : s.canonical = true) :
    s.skipUnpowered.canonical = true :=
  canonical_setV (canonical_each h _ _ (fun _ h _ _ => canonical_addV h ..)) ..

theorem canonical_fresh {s : State} (h : s.canonical = true) (m : ModState) : (s.fresh m).canonical = true := by
  obtain ⟨hregs, hvars, -, -, -, hkey⟩ := canonical_iff.1 h
  refine canonical_each (canonical_setOn ?_ ..) _ _ fun s h _ _ => canonical_setFb h ..
  exact canonical_iff.2 ⟨wf_filter _ hregs, wf_filter _ hvars, rfl, rfl, rfl, hkey⟩

theorem canonical_safetyBegin {s : State} (h : s.canonical = true) :
    s.safetyBegin.canonical = true :=
  canonical_each (canonical_openSlow (canonical_openSlow (canonical_setF (canonical_setFb (canonical_setF (canonical_each h _ _
    (fun _ h _ _ => canonical_setOn (canonical_setOn h ..) ..)) ..) ..) ..) ..) ..) _ _ fun _ h _ _ => canonical_openSlow
    (canonical_setV h ..) ..

theorem canonical_updCause {s : State} (h : s.canonical = true) (code inst : Nat) (k : Cause → Cause) :
    (s.updCause code inst k).canonical = true :=
  canonical_parts h

theorem canonical_setCause {s : State} (h : s.canonical = true) (code inst : Nat) (transient : Bool) :
    (s.setCause code inst transient).canonical = true :=
  canonical_updCause h ..

theorem canonical_restoreLatches {s : State} (h : s.canonical = true) :
    s.restoreLatches.canonical = true :=
  canonical_each (canonical_each h _ _ (fun _ h _ _ => canonical_setCause
    (canonical_setFb h ..) ..)) _ _ fun _ h _ _ => canonical_setCause h ..

theorem canonical_when {s : State} (h : s.canonical = true) (b : Bool) (k : State → State) (hk : ∀ (a : State), a.canonical = true →
    (k a).canonical = true) :
    (s.when b k).canonical = true :=
  canonical_ite (hk _ h) h

theorem canonical_refilled {s : State} (h : s.canonical = true) (code : Nat) :
    (s.refilled code).canonical = true := by
  unfold State.refilled
  split
  · exact canonical_ite (canonical_setV (canonical_setV h ..) ..) h
  · exact h

theorem canonical_note {s : State} (h : s.canonical = true) (code d0 : Nat) (d1 d2 : Nat) :
    (s.note code d0 d1 d2).canonical = true :=
  canonical_report h ..

theorem canonical_begin {s : State} (h : s.canonical = true) (source unit : Nat) :
    (s.begin source unit).canonical = true := by
  unfold State.begin
  refine canonical_ite ?_ ?_
  · exact canonical_note (canonical_each (canonical_safetyBegin (canonical_restoreLatches (canonical_setF (canonical_setF (canonical_setF
      (canonical_setF (canonical_setF (canonical_setF (canonical_setV (canonical_setV (canonical_setV (canonical_addF (canonical_fresh
    (canonical_ite (canonical_countPowered (canonical_writeQueue h))
    (canonical_skipUnpowered h)) ..) ..) ..) ..) ..) ..) ..) ..) ..) ..) ..))) _ _ (fun _ h _ _ => canonical_setFb h ..)) ..
  · exact canonical_each (canonical_safetyBegin (canonical_restoreLatches (canonical_setF (canonical_setF (canonical_setF (canonical_setF
      (canonical_setF (canonical_setF (canonical_setV (canonical_setV (canonical_setV (canonical_addF (canonical_fresh (canonical_ite
    (canonical_countPowered (canonical_writeQueue h))
    (canonical_skipUnpowered h)) ..) ..) ..) ..) ..) ..) ..) ..) ..) ..) ..))) _ _ fun _ h _ _ => canonical_setFb h ..

theorem canonical_execVauxValid {s : State} (h : s.canonical = true) {t : Nat} {u : State}
    (hu : execVauxValid t s = .next u) : u.canonical = true :=
  canonical_done (canonical_ite (canonical_begin (canonical_parts h) ..) (canonical_parts h)) hu

theorem canonical_pendingSync {s : State} (h : s.canonical = true) :
    s.pendingSync.canonical = true :=
  canonical_setF h ..

theorem canonical_keyErase {s : State} (h : s.canonical = true) (a n : Nat) : (s.keyErase a n).canonical = true := by
  obtain ⟨hregs, hvars, htimers, hsram, hstaging, hkey⟩ := canonical_iff.1 h
  exact canonical_iff.2 ⟨hregs, hvars, htimers, hsram, hstaging, wf_filter _ hkey⟩

theorem canonical_keyFail {s : State} (h : s.canonical = true) (code : Nat) :
    (s.keyFail code).canonical = true :=
  canonical_note (canonical_setV (canonical_setF (canonical_setF (canonical_ite h (canonical_pendingSync
    (canonical_keyErase h ..))) ..) ..) ..) ..

theorem canonical_vauxLost {s : State} (h : s.canonical = true) :
    s.vauxLost.canonical = true := by
  unfold State.vauxLost
  refine canonical_ite h ?_
  refine canonical_ite (canonical_fresh h ..) ?_
  refine canonical_ite h ?_
  exact canonical_setV (canonical_setOn (canonical_markSeen (canonical_parts (canonical_ite (canonical_keyFail h ..) h)) ..) ..) ..

theorem canonical_execVauxInvalid {s : State} (h : s.canonical = true) {t : Nat} {u : State}
    (hu : execVauxInvalid t s = .next u) : u.canonical = true :=
  canonical_done (canonical_vauxLost (canonical_parts h)) hu

theorem canonical_powerEnd {s : State} (h : s.canonical = true) (m : ModState) :
    (s.powerEnd m).canonical = true :=
  canonical_setV (canonical_fresh (canonical_countPowered (canonical_writeQueue h)) ..) ..

theorem canonical_execHoldupEnd {s : State} (h : s.canonical = true) {t : Nat} {u : State}
    (hu : execHoldupEnd t s = .next u) : u.canonical = true :=
  canonical_done (canonical_ite (canonical_powerEnd (canonical_parts h) ..) (canonical_parts h)) hu

theorem canonical_wakeUp {s : State} (h : s.canonical = true) (source unit : Nat) :
    (s.wakeUp source unit).canonical = true :=
  canonical_ite (canonical_begin h ..) (canonical_ite (canonical_setV h ..) h)

theorem canonical_execWake {s : State} (h : s.canonical = true) {t : Nat} {u : State}
    (hu : execWake t s = .next u) : u.canonical = true :=
  canonical_done (canonical_wakeUp (canonical_setV (canonical_setOn (canonical_parts h) ..) ..) ..) hu

theorem canonical_execCanWakePattern {s : State} (h : s.canonical = true) {channel : Fin 4} {t : Nat} {u : State}
    (hu : execCanWakePattern channel t s = .next u) : u.canonical = true :=
  canonical_done (canonical_ite (canonical_wakeUp (canonical_parts h) ..) (canonical_parts h)) hu

theorem canonical_execFabricWakeSignal {s : State} (h : s.canonical = true) {port : Fin 4} {t : Nat} {u : State}
    (hu : execFabricWakeSignal port t s = .next u) : u.canonical = true :=
  canonical_done (canonical_ite (canonical_wakeUp (canonical_parts h) ..) (canonical_parts h)) hu

theorem canonical_idleRestart {s : State} (h : s.canonical = true) :
    s.idleRestart.canonical = true :=
  canonical_ite (canonical_openSlow h ..) h

theorem canonical_countDropped {s : State} (h : s.canonical = true) :
    s.countDropped.canonical = true :=
  canonical_addF h ..

theorem canonical_limited {s : State} (h : s.canonical = true) (r : Req) (summary : Bool) (k : State → State)
    (hk : ∀ a : State, a.canonical = true → (k a).canonical = true) :
    (s.limited r summary k).canonical = true := by
  unfold State.limited
  refine canonical_ite ?_ (hk _ (canonical_parts h))
  split
  · exact canonical_note (canonical_addF h ..) ..
  · exact canonical_note (canonical_addF h ..) ..
  · exact h

theorem canonical_nextSeq {s : State} (h : s.canonical = true) (kind : Nat) :
    (s.nextSeq kind).2.canonical = true :=
  canonical_setV h ..

theorem canonical_depart {s : State} (h : s.canonical = true) (p : Nat) (f : Frame) (bad : Bool) (t : Nat) :
    (s.depart p f bad t).canonical = true :=
  canonical_emit (canonical_setV (canonical_addF h ..) ..) ..

theorem canonical_drainPort {s : State} (h : s.canonical = true) (p n : Nat) : (State.drainPort p n s).canonical = true := by
  induction n generalizing s with
  | zero => exact h
  | succ n ih =>
    unfold State.drainPort
    split
    · exact h
    · exact canonical_ite h (ih (canonical_depart (canonical_parts h) ..))

theorem canonical_servePort {s : State} (h : s.canonical = true) (p : Nat) :
    (s.servePort p).canonical = true :=
  canonical_drainPort h ..

theorem canonical_sendOn {s : State} (h : s.canonical = true) (p : Nat) (f : Frame) (bad : Bool) :
    (s.sendOn p f bad).canonical = true := by
  unfold State.sendOn
  refine canonical_ite (canonical_depart (canonical_servePort h ..) ..) ?_
  exact canonical_parts (canonical_servePort h ..)

theorem canonical_sendTree {s : State} (h : s.canonical = true) (f : Frame) :
    (s.sendTree f).canonical = true :=
  canonical_each h _ _ fun _ h _ _ => canonical_sendOn h ..

theorem canonical_sendUp {s : State} (h : s.canonical = true) (f : Frame) :
    (s.sendUp f).canonical = true := by
  unfold State.sendUp
  split
  · exact canonical_sendOn h ..
  · exact h

theorem canonical_flood {s : State} (h : s.canonical = true) (f : Frame) (but : Nat) :
    (s.flood f but).canonical = true :=
  canonical_each h _ _ fun _ h _ _ => canonical_sendOn h ..

theorem canonical_sendService {s : State} (h : s.canonical = true) (dst : Nat) (body : List Byte) :
    (s.sendService dst body).canonical = true := by
  unfold State.sendService
  refine canonical_ite ?_ ?_
  · exact canonical_ite (canonical_sendTree (canonical_setV h ..) ..) (canonical_sendUp (canonical_setV h ..) ..)
  · dsimp only
    split
    · refine canonical_ite (canonical_sendOn (canonical_setV h ..) ..) ?_
      exact canonical_ite (canonical_sendUp (canonical_setV h ..) ..) (canonical_flood (canonical_setV h ..) ..)
    · exact canonical_ite (canonical_sendUp (canonical_setV h ..) ..) (canonical_flood (canonical_setV h ..) ..)

theorem canonical_fabricReply {s : State} (h : s.canonical = true) (dst trans : Nat) (r : Reply) :
    (s.fabricReply dst trans r).canonical = true :=
  canonical_each h _ _ fun _ h _ _ => canonical_sendService h ..

theorem canonical_canSync {s : State} (h : s.canonical = true) (ch : Nat) :
    (s.canSync ch).canonical = true :=
  canonical_setF (canonical_setF (canonical_setF h ..) ..) ..

theorem canonical_canPush {s : State} (h : s.canonical = true) (t : TxFrame) :
    (s.canPush t).canonical = true :=
  canonical_canSync (canonical_parts h) ..

theorem canonical_canRefuse {s : State} (h : s.canonical = true) (ch : Nat) :
    (s.canRefuse ch).canonical = true :=
  canonical_note (canonical_addF h ..) ..

theorem canonical_canOffer {s : State} (h : s.canonical = true) (t : TxFrame) (urgent : Bool) :
    (s.canOffer t urgent).2.canonical = true :=
  canonical_ite_snd (canonical_canPush h ..) (canonical_canRefuse h ..)

theorem canonical_canReply {s : State} (h : s.canonical = true) (ch trans : Nat) (brs : Bool) (r : Reply) :
    (s.canReply ch trans brs r).canonical = true :=
  canonical_foldl_snd h _ _ fun _ h _ _ => canonical_ite_snd (canonical_canOffer h ..) h

theorem canonical_sendReply {s : State} (h : s.canonical = true) (r : Req) (rep : Reply) :
    (s.sendReply r rep).canonical = true := by
  unfold State.sendReply
  dsimp only
  split
  · exact canonical_fabricReply (canonical_emit h ..) ..
  · exact canonical_fabricReply (canonical_emit h ..) ..
  · exact canonical_canReply (canonical_emit h ..) ..
  · exact canonical_emit h ..

theorem canonical_keep {s : State} (h : s.canonical = true) (r : Req) (rep : Reply) :
    (s.keep r rep).canonical = true :=
  canonical_ite (canonical_parts h) (canonical_parts h)

theorem canonical_answer {s : State} (h : s.canonical = true) (r : Req) (service status : Nat) (payload : List Byte) :
    (s.answer r service status payload).canonical = true := by
  unfold State.answer
  refine canonical_sendReply ?_ ..
  refine canonical_ite (canonical_ite (canonical_addF h ..) (canonical_ite (canonical_countDropped h) h)) ?_
  exact canonical_keep (canonical_ite (canonical_addF h ..) (canonical_ite (canonical_countDropped h) h)) ..

theorem canonical_countResult {s : State} (h : s.canonical = true) (r : Res) :
    (s.countResult r).canonical = true :=
  canonical_ite h (canonical_addF h ..)

theorem canonical_answerCmd {s : State} (h : s.canonical = true) (r : Req) (c : Cmd) (x : Res) (data : List Byte) :
    (s.answerCmd r c x data).canonical = true :=
  canonical_answer (canonical_countResult h ..) ..

theorem canonical_refuseAll {s : State} (h : s.canonical = true) (r : Req) (c : Svc) (code : Nat) :
    (s.refuseAll r c code).canonical = true := by
  unfold State.refuseAll
  split
  · exact canonical_answer (canonical_each h _ _ (fun _ h _ _ => canonical_countResult h ..)) ..
  · exact canonical_answer (canonical_each h _ _ (fun _ h _ _ => canonical_countResult h ..)) ..
  · exact canonical_answerCmd h ..
  · exact canonical_answer h ..

theorem canonical_setChallenges {s : State} (h : s.canonical = true) (l : List Challenge) :
    (s.setChallenges l).canonical = true :=
  canonical_setF (canonical_parts h) ..

theorem canonical_noteAuth {s : State} (h : s.canonical = true) (code : Nat) (r : Req) (c : Svc) :
    (s.noteAuth code r c).canonical = true :=
  canonical_note h ..

theorem canonical_authFailure {s : State} (h : s.canonical = true) (r : Req) (c : Svc) :
    (s.authFailure r c).canonical = true := by
  unfold State.authFailure
  refine canonical_ite ?_ ?_
  · refine canonical_noteAuth ?_ ..
    refine canonical_openSlow ?_ ..
    refine canonical_setFb ?_ ..
    refine canonical_ite (canonical_addF (canonical_noteAuth h ..) ..) ?_
    exact canonical_setF (canonical_openSlow (canonical_noteAuth h ..) ..) ..
  · refine canonical_ite (canonical_addF (canonical_noteAuth h ..) ..) ?_
    exact canonical_setF (canonical_openSlow (canonical_noteAuth h ..) ..) ..

theorem canonical_verify {s : State} (h : s.canonical = true) (r : Req) (c : Svc) : (s.verify r c).2.2.canonical = true := by
  unfold State.verify
  split
  · exact h
  · exact canonical_ite_snd_snd h (canonical_ite_snd_snd (canonical_noteAuth (canonical_setChallenges h ..) ..)
      (canonical_authFailure (canonical_setChallenges h ..) ..))

theorem canonical_updEntry {s : State} (h : s.canonical = true) (e : CanEntry) (k : CanEntry → CanEntry) :
    (s.updEntry e k).canonical = true :=
  canonical_parts h

theorem canonical_hostTake {s : State} (h : s.canonical = true) (who : Requester) (ch : Nat) :
    (s.hostTake who ch).2.canonical = true := by
  unfold State.hostTake
  split
  · exact h
  · exact canonical_ite_snd h (canonical_updEntry (canonical_parts h) ..)

theorem canonical_wholeSets {v : State} (h : v.canonical = true) (s : State) (l : List (Nat × Nat)) :
    (s.wholeSets v l).canonical = true :=
  canonical_each h _ _ fun _ h _ _ => canonical_each h _ _ fun _ h _ _ => canonical_setWord h ..

theorem canonical_replaySync {s : State} (h : s.canonical = true) :
    s.replaySync.canonical = true :=
  canonical_ite h (canonical_setF h ..)

theorem canonical_chgSync {s : State} (h : s.canonical = true) :
    s.chgSync.canonical = true :=
  canonical_setFb (canonical_setFb (canonical_setFb (canonical_setFb (canonical_setFb h ..) ..) ..) ..) ..

theorem canonical_fbMove {s : State} (h : s.canonical = true) (n c : Nat) (d : Int) :
    (s.fbMove n c d).canonical = true :=
  canonical_setV (canonical_setF h ..) ..

theorem canonical_dropDerates {s : State} (h : s.canonical = true) :
    s.dropDerates.canonical = true :=
  canonical_each h _ _ fun _ h _ _ => canonical_setStg h ..

theorem canonical_noteAt {s : State} (h : s.canonical = true) (code : Nat) (t : Stage) (d0 d1 d2 : Nat) :
    (s.noteAt code t d0 d1 d2).canonical = true :=
  canonical_report h ..

theorem canonical_spBack {s : State} (h : s.canonical = true) (n : Nat) :
    (s.spBack n).canonical = true :=
  canonical_ite (canonical_updCause (canonical_noteAt (canonical_setFb h ..) ..) ..) h

theorem canonical_spSourceBack {s : State} (h : s.canonical = true) (t : Stage) :
    (s.spSourceBack t).canonical = true :=
  canonical_each h _ _ fun _ h _ _ => canonical_ite (canonical_spBack h ..) h

theorem canonical_protect {s : State} (h : s.canonical = true) (out : ProtOut) (old : Nat) :
    (s.protect out old).canonical = true := by
  unfold State.protect
  refine canonical_ite h ?_
  dsimp only
  split
  · exact canonical_setF (canonical_parts h) ..
  · exact canonical_setF (canonical_parts h) ..

theorem canonical_syncModule {s : State} (h : s.canonical = true) (code : Nat) :
    (s.syncModule code).canonical = true := by
  unfold State.syncModule
  refine canonical_ite (canonical_parts (canonical_setV h ..)) ?_
  exact canonical_ite (canonical_parts (canonical_setV h ..)) h

theorem canonical_regHistory {s : State} (h : s.canonical = true) (c : Int) :
    (s.regHistory c).canonical = true :=
  canonical_each h _ _ fun _ h _ _ => canonical_setV (canonical_setV h ..) ..

theorem canonical_burstLeft {s : State} (h : s.canonical = true) :
    s.burstLeft.canonical = true :=
  canonical_when h _ _ fun _ h => canonical_regHistory h ..

theorem canonical_snapFrom {s : State} (h : s.canonical = true) :
    s.snapFrom.canonical = true :=
  canonical_setV (canonical_setV h ..) ..

theorem canonical_snapWrite {s : State} (h : s.canonical = true) (f : Fld) (k i : Nat) (l : List Byte) :
    (s.snapWrite f k i l).canonical = true :=
  canonical_each (canonical_each h _ _ (fun _ h _ _ => canonical_setV h ..)) _ _ fun _ h _ _ => canonical_setF h ..

theorem canonical_linkSnapOf {s : State} (h : s.canonical = true) (k detail seq : Nat) :
    (s.linkSnapOf k detail seq).canonical = true := by
  unfold State.linkSnapOf
  refine canonical_ite (canonical_openSlow (canonical_setF (canonical_snapWrite h ..) ..) ..) ?_
  exact canonical_addF h ..

theorem canonical_linkSnap {s : State} (h : s.canonical = true) (k detail : Nat) :
    (s.linkSnap k detail).canonical = true :=
  canonical_ite (canonical_setV (canonical_setV h ..) ..) (canonical_linkSnapOf h ..)

theorem canonical_regLeft {s : State} (h : s.canonical = true) (st code : Nat) :
    (s.regLeft st code).canonical = true :=
  canonical_ite (canonical_linkSnap h ..) (canonical_ite (canonical_linkSnap h ..) h)

theorem canonical_regLeaves {s : State} (h : s.canonical = true) (code : Nat) :
    (s.regLeaves code).canonical = true :=
  canonical_regLeft (canonical_when (canonical_setF (canonical_setF (canonical_burstLeft (canonical_snapFrom h)) ..) ..) _ _
    (fun _ h => canonical_linkSnap h ..)) ..

theorem canonical_enter {s : State} (h : s.canonical = true) (t : Stage) (st : StageState) (code reaction : Nat) :
    (s.enter t st code reaction).canonical = true := by
  unfold State.enter
  refine canonical_ite ?_ ?_
  · exact canonical_regLeaves (canonical_syncModule (canonical_close (canonical_setStg (canonical_when (canonical_protect h ..) _ _
      (fun _ h => canonical_setV h ..)) ..) ..) ..) ..
  · exact canonical_syncModule (canonical_close (canonical_setStg (canonical_when (canonical_protect h ..) _ _
      (fun _ h => canonical_setV h ..)) ..) ..) ..

theorem canonical_unlatchLegs {s : State} (h : s.canonical = true) (t : Stage) :
    (s.unlatchLegs t).canonical = true :=
  canonical_each h _ _ fun _ h _ _ => canonical_setFb h ..

theorem canonical_endCommands {s : State} (h : s.canonical = true) (n : Nat) :
    (s.endCommands n).canonical = true :=
  canonical_parts (canonical_setV (canonical_setOn (canonical_setOn (canonical_setOn (canonical_setOn (canonical_setOn (canonical_setFb
    (canonical_setFb h ..) ..) ..) ..) ..) ..) ..) ..)

theorem canonical_releaseLatches {s : State} (h : s.canonical = true) (t : Stage) :
    (s.releaseLatches t).canonical = true :=
  canonical_parts h

theorem canonical_slotsIdle {s : State} (h : s.canonical = true) (t : Stage) :
    (s.slotsIdle t).canonical = true :=
  canonical_dropDerates (canonical_parts (canonical_each h _ _ (fun _ h _ _ => canonical_setFb (canonical_setFb (canonical_setFb
    (canonical_setFb (canonical_close (canonical_close (canonical_close (canonical_setOn
    (canonical_setOn h ..) ..) ..) ..) ..) ..) ..) ..) ..)))

theorem canonical_brakeZero {s : State} (h : s.canonical = true) (k : Nat) :
    (s.brakeZero k).canonical = true :=
  canonical_setV (canonical_setV (canonical_setF (canonical_setV h ..) ..) ..) ..

theorem canonical_abortTest {s : State} (h : s.canonical = true) (k : Nat) :
    (s.abortTest k).canonical = true := by
  unfold State.abortTest
  refine canonical_ite ?_ ?_
  · exact canonical_report (canonical_addF (canonical_brakeZero (canonical_setV (canonical_setV (canonical_close (canonical_setFb
      (canonical_setF h ..) ..) ..) ..) ..) ..) ..) ..
  · exact h

theorem canonical_abortBrakeTest {s : State} (h : s.canonical = true) (t : Stage) :
    (s.abortBrakeTest t).canonical = true :=
  canonical_each h _ _ fun _ h _ _ => canonical_ite (canonical_abortTest h ..) h

theorem canonical_recordTouched {s : State} (h : s.canonical = true) :
    s.recordTouched.canonical = true := by
  unfold State.recordTouched
  split
  · exact canonical_setDue h ..
  · exact h

theorem canonical_carrierStop {s : State} (h : s.canonical = true) (t : Stage) :
    (s.carrierStop t).canonical = true :=
  canonical_parts (canonical_each (canonical_setOn (canonical_close (canonical_close (canonical_close (canonical_setFb (canonical_setFb
    (canonical_recordTouched h) ..) ..) ..) ..) ..) ..) _ _ (fun _ h _ _ => canonical_setOn (canonical_setOn (canonical_setV
    (canonical_close h ..) ..) ..) ..))

theorem canonical_brakeApply {s : State} (h : s.canonical = true) (k : Nat) :
    (s.brakeApply k).canonical = true := by
  unfold State.brakeApply
  refine canonical_ite ?_ ?_
  · exact canonical_close (canonical_close (canonical_close (canonical_setV (canonical_setOn (canonical_setF (canonical_setFb
      (canonical_protect h ..) ..) ..) ..) ..) ..) ..) ..
  · exact h

theorem canonical_brakeSync {s : State} (h : s.canonical = true) :
    s.brakeSync.canonical = true := by
  unfold State.brakeSync
  refine canonical_each h _ _ ?_
  intro _ h _ _
  split
  · exact canonical_brakeApply h ..
  · exact canonical_ite h (canonical_setF (canonical_setFb (canonical_protect h ..) ..) ..)

theorem canonical_actStop {s : State} (h : s.canonical = true) (a : Nat) :
    (s.actStop a).canonical = true :=
  canonical_parts (canonical_setFb (canonical_setV (canonical_close (canonical_close (canonical_close (canonical_close (canonical_setFb
    (canonical_setF (canonical_setF h ..) ..) ..) ..) ..) ..) ..) ..) ..)

theorem canonical_stageIdle {s : State} (h : s.canonical = true) (t : Stage) :
    (s.stageIdle t).canonical = true := by
  unfold State.stageIdle
  dsimp only
  split
  · exact canonical_each (canonical_close (canonical_close (canonical_close (canonical_close (canonical_setOn (canonical_setV
      (canonical_setV (canonical_setV (canonical_close (canonical_setOn (canonical_setOn (canonical_setFb (canonical_setFb
    (canonical_setFb (canonical_setFb (canonical_setFb (canonical_setFb (canonical_setF (canonical_setF (canonical_setF
    (canonical_setV h ..) ..) ..) ..) ..) ..) ..) ..) ..) ..) ..) ..) ..) ..) ..) ..) ..) ..) ..) ..) ..) _ _ fun _ h _ _ =>
    canonical_setOn (canonical_close (canonical_close h ..) ..) ..
  · exact canonical_close (canonical_setOn (canonical_setV (canonical_setV h ..) ..) ..) ..
  · exact canonical_actStop (canonical_setV h ..) ..
  · exact canonical_actStop (canonical_setV h ..) ..
  · exact canonical_setV h ..

theorem canonical_stageEnds {s : State} (h : s.canonical = true) (t : Stage) :
    (s.stageEnds t).canonical = true :=
  canonical_brakeSync (canonical_stageIdle (canonical_slotsIdle (canonical_abortBrakeTest (canonical_close
    (canonical_carrierStop h ..) ..) ..) ..) ..)

theorem canonical_turnOff {s : State} (h : s.canonical = true) (c : Nat) :
    (s.turnOff c).canonical = true := by
  unfold State.turnOff
  refine canonical_ite ?_ h
  refine canonical_ite ?_ ?_
  · exact canonical_addF (canonical_setFb (canonical_setOn (canonical_setV (canonical_setV (canonical_setOn
      (canonical_setOn h ..) ..) ..) ..) ..) ..) ..
  · exact canonical_setOn (canonical_setV (canonical_setV (canonical_setOn (canonical_setOn h ..) ..) ..) ..) ..

theorem canonical_legOff {s : State} (h : s.canonical = true) (n : Nat) :
    (s.legOff n).canonical = true :=
  canonical_turnOff (canonical_turnOff (canonical_setOn h ..) ..) ..

theorem canonical_outputAllOff {s : State} (h : s.canonical = true) (t : Stage) :
    (s.outputAllOff t).canonical = true :=
  canonical_setOn (canonical_each (canonical_each h _ _ (fun _ h _ _ => canonical_endCommands h ..)) _ _
    (fun _ h _ _ => canonical_legOff h ..)) ..

theorem canonical_dropD {s : State} (h : s.canonical = true) :
    s.dropD.canonical = true := by
  unfold State.dropD
  refine canonical_ite ?_ ?_
  · exact canonical_stageEnds (canonical_releaseLatches (canonical_enter (canonical_unlatchLegs (canonical_outputAllOff h ..) ..) ..) ..) ..
  · exact h

theorem canonical_leaveActive {s : State} (h : s.canonical = true) (t : Stage) :
    (s.leaveActive t).canonical = true :=
  canonical_ite (canonical_dropD (canonical_stageEnds h ..)) (canonical_stageEnds h ..)

theorem canonical_chgSnap {s : State} (h : s.canonical = true) (k before detail : Nat) :
    (s.chgSnap k before detail).canonical = true := by
  unfold State.chgSnap
  refine canonical_ite (canonical_openSlow (canonical_setF (canonical_snapWrite h ..) ..) ..) ?_
  exact canonical_addF h ..

theorem canonical_pRamp {s : State} (h : s.canonical = true) :
    s.pRamp.canonical = true :=
  canonical_setV (canonical_setV (canonical_setV h ..) ..) ..

theorem canonical_pStopNext {s : State} (h : s.canonical = true) :
    s.pStopNext.canonical = true := by
  unfold State.pStopNext
  refine canonical_ite ?_ h
  refine canonical_ite ?_ ?_
  · exact canonical_chgSnap (canonical_openSlow (canonical_addF (canonical_setOn (canonical_setV h ..) ..) ..) ..) ..
  · exact canonical_pRamp h

theorem canonical_toStopped {s : State} (h : s.canonical = true) (t : Stage) (code reaction : Nat) :
    (s.toStopped t code reaction).canonical = true := by
  unfold State.toStopped
  refine canonical_ite ?_ ?_
  · exact canonical_pStopNext (canonical_leaveActive (canonical_releaseLatches (canonical_enter (canonical_setOn (canonical_each
      (canonical_unlatchLegs (canonical_each h _ _ (fun _ h _ _ => canonical_endCommands h ..)) ..) _ _
    (fun _ h _ _ => canonical_setOn h ..)) ..) ..) ..) ..)
  · exact canonical_leaveActive (canonical_releaseLatches (canonical_enter (canonical_setOn (canonical_each (canonical_unlatchLegs
      (canonical_each h _ _ (fun _ h _ _ => canonical_endCommands h ..)) ..) _ _ (fun _ h _ _ => canonical_setOn h ..)) ..) ..) ..) ..

theorem canonical_protectStage {s : State} (h : s.canonical = true) (t : Stage) :
    (s.protectStage t).canonical = true :=
  canonical_protect h ..

theorem canonical_rampThenOff {s : State} (h : s.canonical = true) (t : Stage) (len : Nat) :
    (s.rampThenOff t len).canonical = true :=
  canonical_setV (canonical_openLoop h ..) ..

theorem canonical_stopStart {s : State} (h : s.canonical = true) (t : Stage) :
    (s.stopStart t).canonical = true := by
  unfold State.stopStart
  split
  · exact canonical_rampThenOff h ..
  · exact canonical_rampThenOff h ..
  · refine canonical_ite (canonical_toStopped h ..) ?_
    exact canonical_regLeft (canonical_setV (canonical_openLoop (canonical_setV (canonical_setF (canonical_burstLeft
      (canonical_snapFrom h)) ..) ..) ..) ..) ..
  · exact canonical_setV h ..
  · exact canonical_ite (canonical_openLoop h ..) (canonical_setV (canonical_openLoop h ..) ..)
  · exact canonical_rampThenOff h ..
  · exact canonical_rampThenOff h ..

theorem canonical_beginStop1 {s : State} (h : s.canonical = true) (t : Stage) (code reaction : Nat) :
    (s.beginStop1 t code reaction).canonical = true := by
  unfold State.beginStop1
  dsimp only
  split
  · exact canonical_toStopped (canonical_protectStage h ..) ..
  · refine canonical_ite h ?_
    exact canonical_stopStart (canonical_abortBrakeTest (canonical_setV (canonical_setV (canonical_setStg
      (canonical_protectStage h ..) ..) ..) ..) ..) ..
  · refine canonical_ite h ?_
    exact canonical_stopStart (canonical_abortBrakeTest (canonical_setV (canonical_setV (canonical_setStg
      (canonical_protectStage h ..) ..) ..) ..) ..) ..
  · exact h

theorem canonical_beginStop {s : State} (h : s.canonical = true) (t : Stage) (code reaction : Nat) :
    (s.beginStop t code reaction).canonical = true := by
  unfold State.beginStop
  refine canonical_ite ?_ (canonical_beginStop1 h ..)
  refine canonical_ite ?_ ?_
  · exact canonical_setV (canonical_pStopNext (canonical_ite (canonical_beginStop1 (canonical_beginStop1 h ..) ..)
      (canonical_beginStop1 h ..))) ..
  · exact canonical_pStopNext (canonical_ite (canonical_beginStop1 (canonical_beginStop1 h ..) ..) (canonical_beginStop1 h ..))

theorem canonical_tryRestore {s : State} (h : s.canonical = true) (t : Stage) :
    (s.tryRestore t).canonical = true := by
  unfold State.tryRestore
  refine canonical_ite ?_ h
  refine canonical_ite (canonical_beginStop (canonical_spSourceBack (canonical_enter h ..) ..) ..) ?_
  exact canonical_spSourceBack (canonical_enter h ..) ..

theorem canonical_settle1 {s : State} (h : s.canonical = true) :
    s.settle1.canonical = true :=
  canonical_dropDerates (canonical_each h _ _ (fun _ h _ _ => canonical_ite (canonical_tryRestore (canonical_setStg h ..) ..) h))

theorem canonical_settleN {s : State} (h : s.canonical = true) (n : Nat) : (State.settleN n s).canonical = true := by
  induction n generalizing s with
  | zero => exact h
  | succ n ih =>
    unfold State.settleN
    exact canonical_ite (canonical_settle1 h) (ih (canonical_settle1 h))

theorem canonical_settle {s : State} (h : s.canonical = true) :
    s.settle.canonical = true :=
  canonical_settleN h ..

theorem canonical_clearCause {s : State} (h : s.canonical = true) (code inst : Nat) :
    (s.clearCause code inst).canonical = true :=
  canonical_ite (canonical_settle (canonical_updCause h ..)) h

theorem canonical_refRises {s : State} (h : s.canonical = true) (n : Nat) :
    (s.refRises n).canonical = true :=
  canonical_clearCause (canonical_each (canonical_setFb h ..) _ _ (fun _ h _ _ => canonical_clearCause h ..)) ..

theorem canonical_cmpFire {s : State} (h : s.canonical = true) (a c : Nat) (pos : Int) (at' : Nat) :
    (s.cmpFire a c pos at').canonical = true := by
  unfold State.cmpFire
  refine canonical_when ?_ _ _ fun _ h => canonical_noteAt h ..
  refine canonical_ite ?_ ?_
  · exact canonical_addF (canonical_setF (canonical_setF (canonical_setW1c (canonical_setFb (canonical_setFb h ..) ..) ..) ..) ..) ..
  · exact canonical_setV (canonical_addF (canonical_setF (canonical_setF (canonical_setW1c (canonical_setFb
      (canonical_setFb h ..) ..) ..) ..) ..) ..) ..

theorem canonical_cmpTest {s : State} (h : s.canonical = true) (a c n : Nat) :
    (s.cmpTest a c n).canonical = true := by
  unfold State.cmpTest
  refine canonical_ite ?_ h
  refine canonical_ite (canonical_cmpFire (canonical_addF h ..) ..) ?_
  exact canonical_when (canonical_setW1c (canonical_setFb (canonical_addF h ..) ..) ..) _ _ fun _ h => canonical_noteAt h ..

theorem canonical_cmpRetest {s : State} (h : s.canonical = true) (n : Nat) :
    (s.cmpRetest n).canonical = true :=
  canonical_each h _ _ fun _ h _ _ => canonical_each h _ _ (fun _ h _ _ => canonical_ite (canonical_cmpTest h ..) h)

theorem canonical_indexStep {s : State} (h : s.canonical = true) (n : Nat) :
    (s.indexStep n).1.canonical = true := by
  unfold State.indexStep
  refine canonical_ite_fst (canonical_setOn h ..) ?_
  refine canonical_ite_fst h ?_
  refine canonical_ite_fst ?_ ?_
  · exact canonical_setV (canonical_refRises (canonical_cmpRetest (canonical_setF (canonical_setOn h ..) ..) ..) ..) ..
  · refine canonical_ite_fst ?_ ?_
    · exact canonical_setV (canonical_when (canonical_setF (canonical_addF (canonical_setOn h ..) ..) ..) _ _
        (fun _ h => canonical_cmpRetest (canonical_addV (canonical_setF h ..) ..) ..)) ..
    · exact canonical_setV (canonical_setOn h ..) ..

theorem canonical_unblock {s : State} (h : s.canonical = true) (a : Nat) (pos : Int) :
    (s.unblock a pos).canonical = true :=
  canonical_ite (canonical_clearCause (canonical_setFb h ..) ..) h

theorem canonical_cmpCross {s : State} (h : s.canonical = true) (a c : Nat) (p p' : Int) (at' : Nat) :
    (s.cmpCross a c p p' at').canonical = true :=
  canonical_ite (canonical_cmpFire h ..) h

theorem canonical_unabort {s : State} (h : s.canonical = true) (k : Nat) :
    (s.unabort k).canonical = true := by
  unfold State.unabort
  refine canonical_ite ?_ ?_
  · exact canonical_setOn (canonical_setV (canonical_setF (canonical_setF (canonical_parts h) ..) ..) ..) ..
  · exact h

theorem canonical_nextTag {s : State} (h : s.canonical = true) :
    (s.nextTag).2.canonical = true :=
  canonical_setV h ..

theorem canonical_retag {s : State} (h : s.canonical = true) (l : List CycleFault) (tag : Nat) (ex : Bool) :
    (s.retag l tag ex).canonical = true :=
  canonical_each (canonical_parts h) _ _ fun _ h _ _ => canonical_ite (canonical_setV h ..) h

theorem canonical_keepFaults {s : State} (h : s.canonical = true) (fs : List FaultEvt) (tag : Nat) :
    (s.keepFaults fs tag).canonical = true :=
  canonical_parts h

theorem canonical_reportAll {s : State} (h : s.canonical = true) (fs : List FaultEvt) :
    (s.reportAll fs).canonical = true := by
  unfold State.reportAll
  dsimp only
  split
  · exact canonical_each (canonical_keepFaults (canonical_retag h ..) ..) _ _ fun _ h _ _ => canonical_report h ..
  · exact canonical_each (canonical_keepFaults (canonical_retag (canonical_ite_snd
      (canonical_nextTag h) h) ..) ..) _ _ fun _ h _ _ => canonical_report h ..

theorem canonical_trigBuffers {s : State} (h : s.canonical = true) (t : Stage) :
    (s.trigBuffers t).canonical = true :=
  canonical_each h _ _ fun _ h _ _ => canonical_ite (canonical_setV (canonical_setOn h ..) ..) h

theorem canonical_latchStages {s : State} (h : s.canonical = true) (code inst : Nat) (l : List Stage) :
    (s.latchStages code inst l).canonical = true :=
  canonical_updCause h ..

theorem canonical_derate {s : State} (h : s.canonical = true) (t : Stage) (code : Nat) (momentary : Bool) :
    (s.derate t code momentary).canonical = true :=
  canonical_ite h (canonical_setStg h ..)

theorem canonical_openHold {s : State} (h : s.canonical = true) (t : Stage) :
    (s.openHold t).canonical = true :=
  canonical_openSlow h ..

theorem canonical_setRank {s : State} (h : s.canonical = true) (t : Stage) (rank reaction : Nat) :
    (s.setRank t rank reaction).canonical = true :=
  canonical_setV (canonical_setV (canonical_setV h ..) ..) ..

theorem canonical_holdBy {s : State} (h : s.canonical = true) (t : Stage) (h' : HoldCause) (code : Nat) :
    (s.holdBy t h' code).canonical = true := by
  unfold State.holdBy
  dsimp only
  split
  · refine canonical_ite h ?_
    exact canonical_each (canonical_openHold (canonical_enter (canonical_abortBrakeTest (canonical_setStg
      (canonical_setRank h ..) ..) ..) ..) ..) _ _ fun _ h _ _ => canonical_close h ..
  · exact canonical_setStg h ..
  · exact canonical_setStg h ..
  · exact h

theorem canonical_driveLow {s : State} (h : s.canonical = true) (n : Nat) :
    (s.driveLow n).canonical = true :=
  canonical_setV (canonical_setFb (canonical_setV (canonical_setOn (canonical_setOn (canonical_setOn h ..) ..) ..) ..) ..) ..

theorem canonical_addOn {s : State} (h : s.canonical = true) (c t : Nat) :
    (s.addOn c t).canonical = true :=
  canonical_parts h

theorem canonical_ascTurnOn {s : State} (h : s.canonical = true) (n : Nat) :
    (s.ascTurnOn n).canonical = true := by
  unfold State.ascTurnOn
  refine canonical_ite (canonical_setOn h ..) ?_
  refine canonical_ite (canonical_setOn h ..) ?_
  exact canonical_ite (canonical_driveLow (canonical_setOn h ..) ..) (canonical_addOn (canonical_setOn h ..) ..)

theorem canonical_outputAsc {s : State} (h : s.canonical = true) (t : Stage) :
    (s.outputAsc t).canonical = true := by
  unfold State.outputAsc
  refine canonical_setOn ?_ ..
  refine canonical_each h _ _ ?_
  intro _ h _ _
  refine canonical_ite ?_ ?_
  · exact canonical_setFb (canonical_turnOff (canonical_setOn (canonical_setOn (canonical_endCommands h ..) ..) ..) ..) ..
  · refine canonical_ite ?_ ?_
    · exact canonical_turnOff (canonical_setOn (canonical_setOn (canonical_endCommands h ..) ..) ..) ..
    · refine canonical_ite ?_ ?_
      · exact canonical_setOn (canonical_setFb (canonical_turnOff (canonical_setOn (canonical_setOn
          (canonical_endCommands h ..) ..) ..) ..) ..) ..
      · exact canonical_ascTurnOn (canonical_setFb (canonical_turnOff (canonical_setOn (canonical_setOn
          (canonical_endCommands h ..) ..) ..) ..) ..) ..

theorem canonical_outputOff {s : State} (h : s.canonical = true) (t : Stage) :
    (s.outputOff t).canonical = true := by
  unfold State.outputOff
  refine canonical_ite ?_ ?_
  · exact canonical_each (canonical_setOn (canonical_each h _ _
      (fun _ h _ _ => canonical_endCommands h ..)) ..) _ _ fun _ h _ _ => canonical_legOff h ..
  · dsimp only
    split
    · exact canonical_close (canonical_each (canonical_setOn (canonical_each h _ _ (fun _ h _ _ => canonical_endCommands h ..)) ..) _ _
        (fun _ h _ _ => canonical_setOn h ..)) ..
    · refine canonical_ite ?_ ?_
      · exact canonical_close (canonical_legOff (canonical_each (canonical_setOn (canonical_each h _ _
          (fun _ h _ _ => canonical_endCommands h ..)) ..) _ _ (fun _ h _ _ => canonical_setOn h ..)) ..) ..
      · exact canonical_openBy (canonical_legOff (canonical_each (canonical_setOn (canonical_each h _ _
          (fun _ h _ _ => canonical_endCommands h ..)) ..) _ _ (fun _ h _ _ => canonical_setOn h ..)) ..) ..

theorem canonical_setAuto {s : State} (h : s.canonical = true) (n : Nat) (b : Bool) :
    (s.setAuto n b).canonical = true :=
  canonical_setFb (canonical_setFb h ..) ..

theorem canonical_slotsManual {s : State} (h : s.canonical = true) (t : Stage) :
    (s.slotsManual t).canonical = true :=
  canonical_each h _ _ fun _ h _ _ => canonical_when (canonical_each (canonical_setAuto h ..) _ _ (fun _ h _ _ => canonical_setV
    (canonical_setF h ..) ..)) _ _ (fun _ h => canonical_noteAt h ..)

theorem canonical_toSafe {s : State} (h : s.canonical = true) (t : Stage) (asc : Bool) (code reaction : Nat) :
    (s.toSafe t asc code reaction).canonical = true := by
  unfold State.toSafe
  refine canonical_ite ?_ ?_
  · refine canonical_ite (canonical_setRank h ..) ?_
    refine canonical_ite (canonical_outputAsc (canonical_setRank h ..) ..) ?_
    exact canonical_outputOff (canonical_setRank h ..) ..
  · refine canonical_leaveActive ?_ ..
    refine canonical_slotsManual ?_ ..
    refine canonical_enter ?_ ..
    refine canonical_ite (canonical_setRank h ..) ?_
    refine canonical_ite (canonical_outputAsc (canonical_setRank h ..) ..) ?_
    exact canonical_outputOff (canonical_setRank h ..) ..

theorem canonical_moduleToSafe {s : State} (h : s.canonical = true) (code : Nat) :
    (s.moduleToSafe code).canonical = true := by
  unfold State.moduleToSafe
  split
  · exact canonical_parts (canonical_setV (canonical_protect (canonical_setV (canonical_setV h ..) ..) ..) ..)
  · exact canonical_parts (canonical_setV (canonical_protect (canonical_setV (canonical_setV h ..) ..) ..) ..)
  · exact canonical_parts (canonical_setV (canonical_protect (canonical_setV (canonical_setV h ..) ..) ..) ..)
  · exact h

theorem canonical_moduleSafe {s : State} (h : s.canonical = true) (code reaction : Nat) :
    (s.moduleSafe code reaction).canonical = true := by
  unfold State.moduleSafe
  refine canonical_ite ?_ ?_
  · exact canonical_each (canonical_moduleToSafe h ..) _ _ fun _ h _ _ => canonical_toSafe h ..
  · exact canonical_moduleToSafe h ..

theorem canonical_react {s : State} (h : s.canonical = true) (t : Stage) (reaction code inst : Nat) (momentary : Bool) :
    (s.react t reaction code inst momentary).canonical = true := by
  unfold State.react
  refine canonical_ite ?_ ?_
  · exact canonical_each (canonical_derate h ..) _ _ fun _ h _ _ => canonical_ite (canonical_abortTest h ..) h
  · refine canonical_ite (canonical_holdBy h ..) ?_
    refine canonical_ite (canonical_beginStop h ..) ?_
    refine canonical_ite (canonical_latchStages (canonical_toSafe h ..) ..) ?_
    refine canonical_ite (canonical_latchStages (canonical_toSafe h ..) ..) ?_
    refine canonical_ite ?_ ?_
    · exact canonical_latchStages (canonical_each h _ _ (fun _ h _ _ => canonical_toSafe h ..)) ..
    · refine canonical_ite ?_ ?_
      · exact canonical_ite (canonical_latchStages (canonical_moduleSafe h ..) ..) (canonical_moduleSafe h ..)
      · exact h

theorem canonical_overtake {s : State} (h : s.canonical = true) (t : Stage) (rank code reaction : Nat) :
    (s.overtake t rank code reaction).canonical = true := by
  unfold State.overtake
  refine canonical_ite ?_ ?_
  · exact canonical_enter (canonical_setStg (canonical_when h _ _ (fun _ h => canonical_setStg h ..)) ..) ..
  · refine canonical_ite (canonical_setStg (canonical_when h _ _ (fun _ h => canonical_setStg h ..)) ..) ?_
    refine canonical_ite ?_ ?_
    · exact canonical_setV (canonical_setV (canonical_when h _ _ (fun _ h => canonical_setStg h ..)) ..) ..
    · exact canonical_when h _ _ fun _ h => canonical_setStg h ..

theorem canonical_carryOut {s : State} (h : s.canonical = true) (t : Stage) (reaction code inst : Nat) (momentary : Bool) :
    (s.carryOut t reaction code inst momentary).canonical = true :=
  canonical_ite h (canonical_react (canonical_setRank (canonical_overtake h ..) ..) ..)

theorem canonical_carryAll {s : State} (h : s.canonical = true) (fs : List FaultEvt) :
    (s.carryAll fs).canonical = true := by
  unfold State.carryAll
  refine canonical_settle ?_
  refine canonical_each ?_ _ _ fun _ h _ _ => canonical_carryOut h ..
  refine canonical_each h _ _ ?_
  intro _ h _ _
  split
  · exact canonical_carryOut h ..
  · exact h

theorem canonical_raiseAll {s : State} (h : s.canonical = true) (fs : List FaultEvt) :
    (s.raiseAll fs).canonical = true := by
  unfold State.raiseAll
  refine canonical_ite ?_ ?_
  · exact canonical_carryAll (canonical_parts (canonical_each (canonical_each (canonical_each (canonical_reportAll h ..) _ _
      (fun _ h _ _ => canonical_protect h ..)) _ _ (fun _ h _ _ => canonical_each h _ _ (fun _ h _ _ => canonical_trigBuffers h ..))) _ _
    (fun _ h _ _ => canonical_when (canonical_when (canonical_when h _ _ (fun _ h => canonical_setCause h ..)) _ _
    (fun _ h => canonical_latchStages h ..)) _ _ (fun _ h => canonical_updCause h ..)))) ..
  · exact canonical_carryAll (canonical_each (canonical_each (canonical_each (canonical_reportAll h ..) _ _
      (fun _ h _ _ => canonical_protect h ..)) _ _ (fun _ h _ _ => canonical_each h _ _ (fun _ h _ _ => canonical_trigBuffers h ..))) _ _
    (fun _ h _ _ => canonical_when (canonical_when (canonical_when h _ _ (fun _ h => canonical_setCause h ..)) _ _
    (fun _ h => canonical_latchStages h ..)) _ _ (fun _ h => canonical_updCause h ..))) ..

theorem canonical_raise {s : State} (h : s.canonical = true) (f : FaultEvt) :
    (s.raise f).canonical = true :=
  canonical_raiseAll h ..

theorem canonical_brakeMoved {s : State} (h : s.canonical = true) (n : Nat) (pos : Int) :
    (s.brakeMoved n pos).canonical = true := by
  unfold State.brakeMoved
  refine canonical_each h _ _ ?_
  intro _ h _ _
  refine canonical_ite ?_ (canonical_when h _ _ (fun _ h => canonical_unabort h ..))
  refine canonical_ite (canonical_setF (canonical_when h _ _ (fun _ h => canonical_unabort h ..)) ..) ?_
  exact canonical_raise (canonical_addF (canonical_setFb (canonical_brakeZero (canonical_close (canonical_setFb (canonical_setF
    (canonical_setF (canonical_when h _ _ (fun _ h => canonical_unabort h ..)) ..) ..) ..) ..) ..) ..) ..) ..

theorem canonical_moved {s : State} (h : s.canonical = true) (n : Nat) (p p' : Int) (at' : Nat) :
    (s.moved n p p' at').canonical = true := by
  unfold State.moved
  refine canonical_ite h ?_
  exact canonical_brakeMoved (canonical_each h _ _ (fun _ h _ _ => canonical_unblock (canonical_each h _ _
    (fun _ h _ _ => canonical_cmpCross h ..)) ..)) ..

theorem canonical_fbPush {s : State} (h : s.canonical = true) (n c : Nat) :
    (s.fbPush n c).canonical = true :=
  canonical_setDue (canonical_setV (canonical_setV (canonical_each h _ _ (fun _ h _ _ => canonical_setV h ..)) ..) ..) ..

theorem canonical_fbDir {s : State} (h : s.canonical = true) (n c : Nat) (edge : Bool) :
    (s.fbDir n c edge).canonical = true := by
  unfold State.fbDir
  refine canonical_ite ?_ ?_
  · exact canonical_when (canonical_setV (canonical_setV (canonical_setFb h ..) ..) ..) _ _ fun _ h => canonical_fbPush h ..
  · exact canonical_ite (canonical_when (canonical_setV h ..) _ _ (fun _ h => canonical_fbPush h ..)) h

theorem canonical_winFirst {s : State} (h : s.canonical = true) (n c : Nat) :
    (s.winFirst n c).canonical = true :=
  canonical_ite (canonical_setV (canonical_setV h ..) ..) h

theorem canonical_fbLost {s : State} (h : s.canonical = true) (n : Nat) :
    (s.fbLost n).canonical = true :=
  canonical_each h _ _ fun _ h _ _ => canonical_ite (canonical_abortTest h ..) h

theorem canonical_refFalls {s : State} (h : s.canonical = true) (n : Nat) :
    (s.refFalls n).canonical = true := by
  unfold State.refFalls
  refine canonical_ite ?_ h
  refine canonical_each (canonical_fbLost (canonical_setFb h ..) ..) _ _ ?_
  intro _ h _ _
  split
  · exact canonical_ite (canonical_raise h ..) h
  · exact h

theorem canonical_fbFault {s : State} (h : s.canonical = true) (code n : Nat) (inst reaction : Nat) (d1 d2 : Nat) (lasting : Bool) :
    (s.fbFault code n inst reaction d1 d2 lasting).canonical = true :=
  canonical_raise h ..

theorem canonical_fbPosition {s : State} (h : s.canonical = true) (code n d1 : Nat) (lasting : Bool) :
    (s.fbPosition code n d1 lasting).canonical = true :=
  canonical_fbFault h ..

theorem canonical_countError {s : State} (h : s.canonical = true) (n : Nat) :
    (s.countError n).canonical = true :=
  canonical_fbPosition (canonical_ite (canonical_refFalls (canonical_addF h ..) ..) (canonical_addF h ..)) ..

theorem canonical_indexCheck {s : State} (h : s.canonical = true) (n : Nat) :
    (s.indexCheck n).canonical = true :=
  canonical_ite (canonical_fbPosition (canonical_setV h ..) ..) h

theorem canonical_encoderCycle {s : State} (h : s.canonical = true) (n c old : Nat) : (s.encoderCycle n c old).canonical = true := by
  unfold State.encoderCycle
  dsimp only
  refine canonical_indexCheck ?_ ..
  split
  · refine canonical_raise (canonical_ite (canonical_countError ?_ ..) ?_) ..
    all_goals exact canonical_moved (canonical_fbDir (canonical_winFirst
      (canonical_indexStep (canonical_ite (canonical_fbMove h ..) h) ..) ..) ..) ..
  · refine canonical_ite (canonical_countError ?_ ..) ?_
    all_goals exact canonical_moved (canonical_fbDir (canonical_winFirst
      (canonical_indexStep (canonical_ite (canonical_fbMove h ..) h) ..) ..) ..) ..

theorem canonical_hallChange {s : State} (h : s.canonical = true) (n c code : Nat) :
    (s.hallChange n c code).canonical = true := by
  unfold State.hallChange
  refine canonical_ite (canonical_setF (canonical_setF h ..) ..) ?_
  refine canonical_ite ?_ ?_
  · exact canonical_setV (canonical_refRises (canonical_setF (canonical_setF h ..) ..) ..) ..
  · refine canonical_ite ?_ ?_
    · refine canonical_fbPosition ?_ ..
      refine canonical_addF ?_ ..
      refine canonical_ite ?_ ?_
      · exact canonical_setOn (canonical_setV (canonical_refRises (canonical_setF (canonical_setF h ..) ..) ..) ..) ..
      · exact canonical_moved (canonical_fbDir (canonical_winFirst (canonical_fbMove (canonical_setOn (canonical_setV (canonical_refRises
          (canonical_setF (canonical_setF h ..) ..) ..) ..) ..) ..) ..) ..) ..
    · refine canonical_ite ?_ ?_
      · exact canonical_setOn (canonical_setV (canonical_refRises (canonical_setF (canonical_setF h ..) ..) ..) ..) ..
      · exact canonical_moved (canonical_fbDir (canonical_winFirst (canonical_fbMove (canonical_setOn (canonical_setV (canonical_refRises
          (canonical_setF (canonical_setF h ..) ..) ..) ..) ..) ..) ..) ..) ..

theorem canonical_filterFrom {s : State} (h : s.canonical = true) (tm : Timer) (i n c : Nat) :
    (s.filterFrom tm i n c).canonical = true :=
  canonical_ite h (canonical_setDue h ..)

theorem canonical_lapseAt {s : State} (h : s.canonical = true) (clk at' : Nat) (t : Timer) (i : Nat) :
    (s.lapseAt clk at' t i).canonical = true := by
  unfold State.lapseAt
  split
  · exact canonical_ite h (canonical_close h ..)
  · exact h

theorem canonical_hallCycle {s : State} (h : s.canonical = true) (n c : Nat) :
    (s.hallCycle n c).canonical = true := by
  unfold State.hallCycle
  refine canonical_ite ?_ ?_
  · exact canonical_filterFrom (canonical_lapseAt (canonical_ite h (canonical_hallChange h ..)) ..) ..
  · refine canonical_ite ?_ ?_
    · exact canonical_filterFrom (canonical_lapseAt (canonical_ite h (canonical_hallChange h ..)) ..) ..
    · exact canonical_lapseAt (canonical_ite h (canonical_hallChange h ..)) ..

theorem canonical_fbCycle {s : State} (h : s.canonical = true) (n c : Nat) :
    (s.fbCycle n c).canonical = true := by
  unfold State.fbCycle
  dsimp only
  split
  · exact canonical_encoderCycle (canonical_setV (canonical_parts h) ..) ..
  · exact canonical_hallCycle (canonical_setV (canonical_parts h) ..) ..
  · exact canonical_setV (canonical_parts h) ..

theorem canonical_fbCycles {s : State} (h : s.canonical = true) (n v k : Nat) : (State.fbCycles n v k s).canonical = true := by
  induction k generalizing s with
  | zero => exact h
  | succ k ih =>
    unfold State.fbCycles
    split
    · exact ih (canonical_fbCycle h ..)
    · exact h

theorem canonical_fbRun {s : State} (h : s.canonical = true) (n v : Nat) :
    (s.fbRun n v).canonical = true :=
  canonical_fbCycles h ..

theorem canonical_fbLive {s : State} (h : s.canonical = true) (n : Nat) :
    (s.fbLive n).canonical = true :=
  canonical_setF (canonical_setF (canonical_setF (canonical_setF (canonical_setF h ..) ..) ..) ..) ..

theorem canonical_accAdd {s : State} (h : s.canonical = true) (a : Nat) (x : Int) :
    (s.accAdd a x).canonical = true :=
  canonical_ite (canonical_setOn h ..) (canonical_addV (canonical_addV h ..) ..)

theorem canonical_accTake {s : State} (h : s.canonical = true) (c v : Nat) :
    (s.accTake c v).canonical = true :=
  canonical_each (canonical_parts h) _ _ fun _ h _ _ => canonical_accAdd h ..

theorem canonical_legCompare {s : State} (h : s.canonical = true) (c channel : Nat) (x : Int) :
    (s.legCompare c channel x).canonical = true :=
  canonical_each h _ _ fun _ h _ _ => canonical_ite (canonical_setFb h ..) h

theorem canonical_cmpTake {s : State} (h : s.canonical = true) (c m : Nat) :
    (s.cmpTake c m).canonical = true :=
  canonical_each (canonical_parts (canonical_accTake h ..)) _ _ fun _ h _ _ => canonical_setV (canonical_legCompare h ..) ..

theorem canonical_putWord {s : State} (h : s.canonical = true) (key v : Nat) :
    (s.putWord key v).canonical = true :=
  canonical_setWord h ..

theorem canonical_live {s : State} (h : s.canonical = true) :
    s.live.canonical = true := by
  unfold State.live
  refine canonical_ite ?_ ?_
  · exact canonical_setF (canonical_setF (canonical_setF (canonical_setF (canonical_setFb (canonical_each (canonical_putWord
      (canonical_each (canonical_putWord (canonical_putWord (canonical_putWord (canonical_putWord (canonical_putWord (canonical_putWord
    (canonical_putWord (canonical_putWord (canonical_putWord (canonical_putWord (canonical_putWord (canonical_putWord (canonical_each
    (canonical_each (canonical_each (canonical_each (canonical_each (canonical_each (canonical_each (canonical_replaySync
    (canonical_chgSync h)) _ _ (fun _ h _ _ => canonical_fbLive h ..)) _ _ (fun _ h _ _ => canonical_cmpTake h ..)) _ _
    (fun _ h _ _ => canonical_each h _ _ (fun _ h _ _ => canonical_setWord h ..))) _ _ (fun _ h _ _ => canonical_canSync h ..)) _ _
    (fun _ h _ _ => canonical_setFb h ..)) _ _ (fun _ h _ _ => canonical_setF (canonical_putWord h ..) ..)) _ _
    (fun _ h _ _ => canonical_putWord h ..)) ..) ..) ..) ..) ..) ..) ..) ..) ..) ..) ..) ..) _ _
    (fun _ h _ _ => canonical_putWord h ..)) ..) _ _ (fun _ h _ _ => canonical_setF h ..)) ..) ..) ..) ..) ..
  · exact canonical_setF (canonical_setF (canonical_setF (canonical_setFb (canonical_each (canonical_putWord (canonical_each
      (canonical_putWord (canonical_putWord (canonical_putWord (canonical_putWord (canonical_putWord (canonical_putWord (canonical_putWord
    (canonical_putWord (canonical_putWord (canonical_putWord (canonical_putWord (canonical_putWord (canonical_each (canonical_each
    (canonical_each (canonical_each (canonical_each (canonical_each (canonical_each (canonical_replaySync (canonical_chgSync h)) _ _
    (fun _ h _ _ => canonical_fbLive h ..)) _ _ (fun _ h _ _ => canonical_cmpTake h ..)) _ _ (fun _ h _ _ => canonical_each h _ _
    (fun _ h _ _ => canonical_setWord h ..))) _ _ (fun _ h _ _ => canonical_canSync h ..)) _ _ (fun _ h _ _ => canonical_setFb h ..)) _ _
    (fun _ h _ _ => canonical_setF (canonical_putWord h ..) ..)) _ _
    (fun _ h _ _ => canonical_putWord h ..)) ..) ..) ..) ..) ..) ..) ..) ..) ..) ..) ..) ..) _ _
    (fun _ h _ _ => canonical_putWord h ..)) ..) _ _ (fun _ h _ _ => canonical_setF h ..)) ..) ..) ..) ..

theorem canonical_cursorAdvance {s : State} (h : s.canonical = true) :
    s.cursorAdvance.canonical = true :=
  canonical_setF h ..

theorem canonical_serveRead {s : State} (h : s.canonical = true) (r : Req) (l : List (Nat × Nat)) :
    (s.serveRead r l).canonical = true := by
  unfold State.serveRead
  dsimp only
  split
  · exact canonical_answer (canonical_each (canonical_cursorAdvance (canonical_ite_snd (canonical_hostTake h ..) h)) _ _
      (fun _ h _ _ => canonical_countResult h ..)) ..
  · exact canonical_answer (canonical_each (canonical_ite_snd (canonical_hostTake h ..) h) _ _
      (fun _ h _ _ => canonical_countResult h ..)) ..

theorem canonical_writeWindow {s : State} (h : s.canonical = true) (who : Requester) (w sub : Nat) (v : Word) :
    (s.writeWindow who w sub v).2.canonical = true := by
  obtain ⟨hregs, hvars, htimers, hsram, hstaging, hkey⟩ := canonical_iff.1 h
  refine canonical_ite_snd (canonical_ite_snd h (canonical_ite_snd h (canonical_parts h))) ?_
  refine canonical_ite_snd h (canonical_ite_snd h (canonical_ite_snd h ?_))
  refine canonical_ite_snd h (canonical_ite_snd h (canonical_ite_snd h ?_))
  exact canonical_iff.2 ⟨hregs, hvars, htimers, hsram, wf_foldl_set hstaging .., hkey⟩

theorem canonical_spWindow {s : State} (h : s.canonical = true) (n : Nat) :
    (s.spWindow n).canonical = true :=
  canonical_ite (canonical_openSlow h ..) h

theorem canonical_spRestore {s : State} (h : s.canonical = true) (n : Nat) :
    (s.spRestore n).canonical = true :=
  canonical_settle (canonical_spBack h ..)

theorem canonical_spApplied {s : State} (h : s.canonical = true) (n : Nat) :
    (s.spApplied n).canonical = true := by
  unfold State.spApplied
  refine canonical_ite ?_ ?_
  · refine canonical_spRestore ?_ ..
    refine canonical_ite ?_ ?_
    · split
      · exact canonical_setOn h ..
      · exact h
    · refine canonical_spWindow ?_ ..
      split
      · exact canonical_setOn h ..
      · exact h
  · refine canonical_ite ?_ ?_
    · split
      · exact canonical_setOn h ..
      · exact h
    · refine canonical_spWindow ?_ ..
      split
      · exact canonical_setOn h ..
      · exact h

theorem canonical_writeSetpoint {s : State} (h : s.canonical = true) (n j : Nat) (v : Word) :
    (s.writeSetpoint n j v).2.canonical = true := by
  unfold State.writeSetpoint
  refine canonical_ite_snd h ?_
  refine canonical_ite_snd (canonical_setF h ..) ?_
  split
  · exact canonical_noteAt (canonical_addF h ..) ..
  · exact canonical_spApplied (canonical_setF h ..) ..

theorem canonical_writeLeg {s : State} (h : s.canonical = true) (w : WordDef) (n key : Nat) (v : Word) :
    (s.writeLeg w n key v).2.canonical = true := by
  unfold State.writeLeg
  refine canonical_ite_snd h ?_
  refine canonical_ite_snd h ?_
  refine canonical_ite_snd ?_ (canonical_setWord (canonical_recordTouched h) ..)
  refine canonical_ite_snd ?_ ?_
  · exact canonical_setDue (canonical_setFb (canonical_setF (canonical_recordTouched h) ..) ..) ..
  · exact canonical_setF (canonical_recordTouched h) ..

theorem canonical_budgetShow {s : State} (h : s.canonical = true) :
    s.budgetShow.canonical = true :=
  canonical_setF (canonical_setF (canonical_each h _ _ (fun _ h _ _ => canonical_setF h ..)) ..) ..

theorem canonical_writePeriod {s u : State} (h : s.canonical = true) {t : Stage} {v : Nat} (hu : s.writePeriod t v = some u) :
    u.canonical = true := by
  obtain ⟨-, hu⟩ := Option.ite_none_right_eq_some.1 hu
  exact Option.some.inj hu ▸ canonical_budgetShow (canonical_setF h ..)

theorem canonical_cmpArm {s : State} (h : s.canonical = true) (a c : Nat) :
    (s.cmpArm a c).canonical = true := by
  unfold State.cmpArm
  split
  · exact h
  · exact canonical_cmpTest (canonical_setFb (canonical_setFb h ..) ..) ..

theorem canonical_cmpDisarm {s : State} (h : s.canonical = true) (a c : Nat) :
    (s.cmpDisarm a c).canonical = true :=
  canonical_setFb (canonical_setFb h ..) ..

theorem canonical_bufControl {s : State} (h : s.canonical = true) (k v : Nat) :
    (s.bufControl k v).canonical = true := by
  unfold State.bufControl
  refine canonical_ite (canonical_setFb (canonical_setFb (canonical_setF h ..) ..) ..) ?_
  exact canonical_clearCause (canonical_setV (canonical_setOn (canonical_setFb (canonical_setFb (canonical_setF h ..) ..) ..) ..) ..) ..

theorem canonical_brakeCmd {s : State} (h : s.canonical = true) (v : Nat) :
    (s.brakeCmd v).canonical = true :=
  canonical_brakeSync (canonical_each (canonical_setF h ..) _ _ (fun _ h _ _ => canonical_ite (canonical_setOn h ..) (canonical_setOn
    (canonical_brakeApply h ..) ..)))

theorem canonical_preEval {s : State} (h : s.canonical = true) :
    s.preEval.canonical = true := by
  unfold State.preEval
  refine canonical_ite ?_ (canonical_ite (canonical_setFb h ..) h)
  refine canonical_ite h ?_
  exact canonical_clearCause (canonical_close (canonical_setFb (canonical_setFb h ..) ..) ..) ..

theorem canonical_closeRefused {s : State} (h : s.canonical = true) :
    s.closeRefused.canonical = true :=
  canonical_note (canonical_addF h ..) ..

theorem canonical_drivers {s : State} (h : s.canonical = true) (v : Nat) :
    (s.drivers v).canonical = true := by
  unfold State.drivers
  refine canonical_ite ?_ ?_
  · exact canonical_each (canonical_setF (canonical_protect h ..) ..) _ _ fun _ h _ _ => canonical_ite (canonical_setV (canonical_setV
      (canonical_openSlow h ..) ..) ..) h
  · exact canonical_close (canonical_close (canonical_setFb (canonical_setFb (canonical_each (canonical_setF
      (canonical_protect h ..) ..) _ _ (fun _ h _ _ => canonical_ite (canonical_setV (canonical_setV
    (canonical_openSlow h ..) ..) ..) h)) ..) ..) ..) ..

theorem canonical_preStart {s : State} (h : s.canonical = true) :
    s.preStart.canonical = true := by
  unfold State.preStart
  refine canonical_preEval ?_
  refine canonical_ite ?_ ?_
  · exact canonical_note (canonical_clearCause (canonical_openSlow (canonical_setV (canonical_setFb
      (canonical_setFb h ..) ..) ..) ..) ..) ..
  · exact canonical_openSlow (canonical_clearCause (canonical_openSlow (canonical_setV (canonical_setFb
      (canonical_setFb h ..) ..) ..) ..) ..) ..

theorem canonical_cdrCmd {s : State} (h : s.canonical = true) (v : Nat) :
    (s.cdrCmd v).canonical = true := by
  unfold State.cdrCmd
  refine canonical_ite (canonical_preStart (canonical_drivers (canonical_setF h ..) ..)) ?_
  exact canonical_drivers (canonical_setF h ..) ..

theorem canonical_writeAck {s : State} (h : s.canonical = true) (who : Option Requester) (ch v : Nat) :
    (s.writeAck who ch v).2.canonical = true := by
  unfold State.writeAck
  dsimp only
  split
  · exact h
  · exact canonical_ite_snd h (canonical_ite_snd h (canonical_canSync (canonical_parts h) ..))

theorem canonical_writeRequest {s : State} (h : s.canonical = true) (v : Nat) :
    (s.writeRequest v).2.canonical = true := by
  unfold State.writeRequest
  refine canonical_ite_snd h ?_
  refine canonical_ite_snd h ?_
  exact canonical_ite_snd h (canonical_ite_snd h (canonical_ite_snd h (canonical_setV h ..)))

theorem canonical_applyWord {s : State} (h : s.canonical = true) (c : WriteCtx) (w : WordDef) (n j key : Nat) (v : Word) :
    (s.applyWord c w n j key v).2.canonical = true := by
  unfold State.applyWord
  refine canonical_ite_snd (canonical_writeSetpoint h ..) ?_
  refine canonical_ite_snd (canonical_ite_snd h (canonical_putWord h ..)) ?_
  refine canonical_ite_snd (canonical_ite_snd h (canonical_putWord h ..)) ?_
  refine canonical_ite_snd (canonical_ite_snd (canonical_putWord h ..) h) ?_
  refine canonical_ite_snd (canonical_writeLeg h ..) ?_
  refine canonical_ite_snd ?_ ?_
  · split
    next hw => exact canonical_writePeriod h hw
    · exact h
  refine canonical_ite_snd (canonical_cmpArm (canonical_putWord h ..) ..) ?_
  refine canonical_ite_snd (canonical_cmpDisarm (canonical_putWord h ..) ..) ?_
  refine canonical_ite_snd (canonical_bufControl h ..) ?_
  refine canonical_ite_snd (canonical_ite_snd h (canonical_brakeCmd h ..)) ?_
  refine canonical_ite_snd (canonical_ite_snd (canonical_closeRefused (canonical_preEval h)) (canonical_cdrCmd (canonical_preEval h) ..)) ?_
  refine canonical_ite_snd (canonical_setV (canonical_putWord h ..) ..) ?_
  exact canonical_ite_snd (canonical_writeAck h ..) (canonical_ite_snd (canonical_writeRequest h ..) (canonical_putWord h ..))

theorem canonical_hostWrite1 {s : State} (h : s.canonical = true) (c : WriteCtx) (index sub : Nat) (v : Word) :
    (s.hostWrite1 c index sub v).2.canonical = true := by
  unfold State.hostWrite1
  split
  · split
    · exact canonical_writeWindow h ..
    · exact h
  · refine canonical_ite_snd h ?_
    split
    · exact h
    · split
      · exact h
      · refine canonical_ite_snd h ?_
        split
        · exact h
        · exact canonical_applyWord h ..

theorem canonical_hostWrite {s : State} (h : s.canonical = true) (c : WriteCtx) (index sub : Nat) (v : Word) :
    (s.hostWrite c index sub v).2.canonical = true := by
  unfold State.hostWrite
  dsimp only
  have h1 := canonical_hostWrite1 h c index sub v
  exact canonical_ite_snd (canonical_hostWrite1 h1 ..) h1

theorem canonical_writeAll {s : State} (h : s.canonical = true) (c : WriteCtx) (l : List WEntry) :
    (s.writeAll c l).2.canonical = true := by
  induction l generalizing s with
  | nil => exact h
  | cons e l ih => exact ih (canonical_hostWrite h ..)

theorem canonical_serveWrite {s : State} (h : s.canonical = true) (r : Req) (l : List WEntry) (leaving : List Stage) (closing : List Nat) :
    (s.serveWrite r l leaving closing).canonical = true :=
  canonical_answer (canonical_each (canonical_writeAll h ..) _ _ (fun _ h _ _ => canonical_countResult h ..)) ..

theorem canonical_maskCmd {s : State} (h : s.canonical = true) (rank mask : Nat) (higher : List Stage)
    (k : State → Stage → Res × State) (hk : ∀ s : State, s.canonical = true → ∀ t, (k s t).2.canonical = true) :
    (s.maskCmd rank mask higher k).2.2.canonical = true := by
  unfold State.maskCmd
  refine canonical_ite_snd_snd h (canonical_foldl_snd h _ _ fun a h t _ => ?_)
  refine canonical_ite_snd h (canonical_ite_snd h ?_)
  have hd := hk _ (canonical_ite (c := (rank == 4) = true) (canonical_overtake h t 4 0 0) h) t
  exact canonical_ite (canonical_setRank hd ..) hd

theorem canonical_spLost {s : State} (h : s.canonical = true) (n : Nat) :
    (s.spLost n).canonical = true :=
  canonical_ite (canonical_raise (canonical_setFb h ..) ..) h

theorem canonical_slotsArm {s : State} (h : s.canonical = true) (t : Stage) :
    (s.slotsArm t).canonical = true := by
  unfold State.slotsArm
  refine canonical_each h _ _ ?_
  intro _ h _ _
  refine canonical_ite ?_ ?_
  · exact canonical_spLost (canonical_spWindow (canonical_setFb (canonical_setV (canonical_setV (canonical_setV (canonical_setV
      (canonical_each h _ _ (fun _ h _ _ => canonical_setV (canonical_setV h ..) ..)) ..) ..) ..) ..) ..) ..) ..
  · exact canonical_spWindow (canonical_setFb (canonical_setV (canonical_setV (canonical_setV (canonical_setV (canonical_each h _ _
      (fun _ h _ _ => canonical_setV (canonical_setV h ..) ..)) ..) ..) ..) ..) ..) ..

theorem canonical_legArm {s : State} (h : s.canonical = true) (n : Nat) :
    (s.legArm n).canonical = true :=
  canonical_parts (canonical_close (canonical_setF (canonical_close (canonical_setOn (canonical_setV (canonical_setOn (canonical_setV
    (canonical_setF (canonical_setFb (canonical_setOn (canonical_each (canonical_recordTouched h) _ _ (fun _ h _ _ => canonical_setF
    (canonical_setV h ..) ..)) ..) ..) ..) ..) ..) ..) ..) ..) ..) ..)

theorem canonical_carrierArm {s : State} (h : s.canonical = true) (t : Stage) :
    (s.carrierArm t).canonical = true :=
  canonical_setDue (canonical_setV (canonical_setF (canonical_setF (canonical_each h _ _
    (fun _ h _ _ => canonical_legArm h ..)) ..) ..) ..) ..

theorem canonical_armStage {s : State} (h : s.canonical = true) (t : Stage) :
    (s.armStage t).canonical = true :=
  canonical_setOn (canonical_slotsArm (canonical_enter (canonical_carrierArm (canonical_protectStage h ..) ..) ..) ..) ..

theorem canonical_armOne {s : State} (h : s.canonical = true) (t : Stage) :
    (s.armOne t).2.canonical = true := by
  unfold State.armOne
  refine canonical_ite_snd h ?_
  split
  · exact h
  · exact canonical_ite_snd (canonical_setOn h ..) (canonical_armStage h ..)

theorem canonical_spSourceRuns {s : State} (h : s.canonical = true) (t : Stage) :
    (s.spSourceRuns t).canonical = true :=
  canonical_settle (canonical_spSourceBack h ..)

theorem canonical_runStage {s : State} (h : s.canonical = true) (t : Stage) :
    (s.runStage t).canonical = true := by
  unfold State.runStage
  refine canonical_brakeSync ?_
  refine canonical_ite ?_ ?_
  · refine canonical_spSourceRuns ?_ ..
    refine canonical_ite (canonical_enter (canonical_protectStage h ..) ..) ?_
    exact canonical_openHold (canonical_enter (canonical_enter (canonical_protectStage h ..) ..) ..) ..
  · refine canonical_ite (canonical_enter (canonical_protectStage h ..) ..) ?_
    exact canonical_openHold (canonical_enter (canonical_enter (canonical_protectStage h ..) ..) ..) ..

theorem canonical_runOne {s : State} (h : s.canonical = true) (t : Stage) : (s.runOne t).2.canonical = true := by
  unfold State.runOne
  refine canonical_ite_snd h ?_
  split
  · exact h
  · dsimp only
    exact canonical_runStage h ..

theorem canonical_stopStage {s : State} (h : s.canonical = true) (t : Stage) :
    (s.stopStage t).canonical = true := by
  unfold State.stopStage
  split
  · exact canonical_settle (canonical_toStopped (canonical_protectStage h ..) ..)
  · exact canonical_beginStop h ..
  · exact canonical_setStg h ..
  · exact canonical_settle (canonical_toStopped (canonical_protectStage h ..) ..)
  · exact canonical_setOn h ..

theorem canonical_stopOne {s : State} (h : s.canonical = true) (t : Stage) :
    (s.stopOne t).2.canonical = true := by
  unfold State.stopOne
  refine canonical_ite_snd h ?_
  refine canonical_ite_snd ?_ (canonical_stopStage h ..)
  refine canonical_ite_snd h ?_
  split
  · exact h
  · exact canonical_stopStage h ..

theorem canonical_openLoopSlot {s : State} (h : s.canonical = true) (n : Nat) :
    (s.openLoopSlot n).canonical = true :=
  canonical_when (canonical_setOn (canonical_close (canonical_setAuto (canonical_each h _ _
    (fun _ h _ _ => canonical_setF h ..)) ..) ..) ..) _ _ fun _ h => canonical_noteAt h ..

theorem canonical_openLoopCmd {s : State} (h : s.canonical = true) (n : Nat) :
    (s.openLoopCmd n).2.canonical = true :=
  canonical_ite_snd h (canonical_ite_snd h (canonical_openLoopSlot h ..))

theorem canonical_closeLoopSlot {s : State} (h : s.canonical = true) (n : Nat) :
    (s.closeLoopSlot n).canonical = true := by
  unfold State.closeLoopSlot
  refine canonical_ite (canonical_setAuto h ..) ?_
  exact canonical_noteAt (canonical_setOn (canonical_setAuto h ..) ..) ..

theorem canonical_closeLoopCmd {s : State} (h : s.canonical = true) (n : Nat) :
    (s.closeLoopCmd n).2.canonical = true := by
  unfold State.closeLoopCmd
  refine canonical_ite_snd h ?_
  split
  · exact h
  · exact h
  · exact canonical_closeLoopSlot h ..

theorem canonical_setEng {s : State} (h : s.canonical = true) (e v : Nat) :
    (s.setEng e v).canonical = true := by
  unfold State.setEng
  refine canonical_ite (canonical_ite (canonical_setF h ..) (canonical_setF h ..)) ?_
  exact canonical_setFb (canonical_ite (canonical_setF h ..) (canonical_setF h ..)) ..

theorem canonical_startSync {s : State} (h : s.canonical = true) (e : Nat) :
    (s.startSync e).canonical = true :=
  canonical_openBy (canonical_setEng h ..) ..

theorem canonical_switchBackCmd {s : State} (h : s.canonical = true) :
    (s.switchBackCmd).2.canonical = true := by
  unfold State.switchBackCmd
  refine canonical_ite_snd h ?_
  refine canonical_ite_snd h ?_
  exact canonical_ite_snd h (canonical_ite_snd h (canonical_startSync (canonical_setFb h ..) ..))

theorem canonical_clearStart {s : State} (h : s.canonical = true) :
    s.clearStart.canonical = true :=
  canonical_setOn h ..

theorem canonical_clearLogCmd {s : State} (h : s.canonical = true) :
    (s.clearLogCmd).2.2.canonical = true :=
  canonical_ite_snd_snd h (canonical_ite_snd_snd h (canonical_clearStart h))

theorem canonical_noteEnds {s : State} (h : s.canonical = true) (code inst : Nat) :
    (s.noteEnds code inst).canonical = true :=
  canonical_updCause h ..

theorem canonical_busRecoverCmd {s : State} (h : s.canonical = true) (ch : Nat) :
    (s.busRecoverCmd ch).2.canonical = true := by
  unfold State.busRecoverCmd
  refine canonical_ite_snd h ?_
  refine canonical_ite_snd h ?_
  exact canonical_setV (canonical_close (canonical_noteEnds (canonical_setFb (canonical_setF h ..) ..) ..) ..) ..

theorem canonical_chgTimer {s : State} (h : s.canonical = true) :
    s.chgTimer.canonical = true :=
  canonical_setF (canonical_setF h ..) ..

theorem canonical_chargeStart {s : State} (h : s.canonical = true) :
    s.chargeStart.canonical = true := by
  unfold State.chargeStart
  refine canonical_chgSync ?_
  refine canonical_noteAt ?_ ..
  refine canonical_chgTimer ?_
  split
  · exact canonical_setF (canonical_addF (canonical_setOn (canonical_setV (canonical_noteEnds (canonical_noteEnds (canonical_noteEnds
      (canonical_setOn (canonical_setF (canonical_setV h ..) ..) ..) ..) ..) ..) ..) ..) ..) ..
  · exact canonical_addF (canonical_setOn (canonical_setV (canonical_noteEnds (canonical_noteEnds (canonical_noteEnds (canonical_setOn
      (canonical_setF (canonical_setV h ..) ..) ..) ..) ..) ..) ..) ..) ..

theorem canonical_chgFinish {s : State} (h : s.canonical = true) (cause : Nat) : (s.chgFinish cause).canonical = true := by
  unfold State.chgFinish
  extract_lets s1 s2 s3 code s4 s5
  have h1 : s1.canonical = true := by
    unfold s1
    split
    · exact canonical_setF h ..
    · exact h
  have h3 : s3.canonical = true := canonical_close (canonical_close (canonical_setFb (canonical_setOn (canonical_setF (canonical_setF
    (canonical_setV (canonical_setOn h1 ..) ..) ..) ..) ..) ..) ..) ..
  have h4 : s4.canonical = true := canonical_ite (canonical_addF h3 ..) (canonical_ite (canonical_addF h3 ..) h3)
  exact canonical_chgSync (canonical_chgSnap (canonical_chgSnap (canonical_noteAt (canonical_setCause
    (canonical_noteEnds h4 ..) ..) ..) ..) ..)

theorem canonical_noteLastingAt {s : State} (h : s.canonical = true) (code : Nat) (t : Stage) :
    (s.noteLastingAt code t).canonical = true :=
  canonical_setCause (canonical_noteAt h ..) ..

theorem canonical_timedAt {s : State} (h : s.canonical = true) (at' : Nat) (t : Timer) (i : Nat) (cond : Bool) (len : Nat) :
    (s.timedAt at' t i cond len).canonical = true :=
  canonical_ite (canonical_ite h (canonical_setDue h ..)) (canonical_lapseAt h ..)

theorem canonical_timed {s : State} (h : s.canonical = true) (t : Timer) (i : Nat) (cond : Bool) (len : Nat) :
    (s.timed t i cond len).canonical = true :=
  canonical_timedAt h ..

theorem canonical_chargeStep {s : State} (h : s.canonical = true) (stop : Bool) :
    (s.chargeStep stop).canonical = true := by
  unfold State.chargeStep
  refine canonical_ite (canonical_chgSync h) ?_
  split
  · exact canonical_chgFinish h ..
  · refine canonical_chgSync ?_
    split
    · refine canonical_ite ?_ ?_
      · refine canonical_timed ?_ ..
        refine canonical_ite ?_ ?_
        · exact canonical_noteLastingAt (canonical_setFb (canonical_close (canonical_openSlow (canonical_setF h ..) ..) ..) ..) ..
        · refine canonical_ite ?_ ?_
          · exact canonical_noteEnds (canonical_setV (canonical_close (canonical_setF h ..) ..) ..) ..
          · exact canonical_ite (canonical_setF h ..) (canonical_ite (canonical_setF h ..) h)
      · refine canonical_setF ?_ ..
        refine canonical_timed ?_ ..
        refine canonical_ite ?_ ?_
        · exact canonical_noteLastingAt (canonical_setFb (canonical_close (canonical_openSlow (canonical_setF h ..) ..) ..) ..) ..
        · refine canonical_ite ?_ ?_
          · exact canonical_noteEnds (canonical_setV (canonical_close (canonical_setF h ..) ..) ..) ..
          · exact canonical_ite (canonical_setF h ..) (canonical_ite (canonical_setF h ..) h)
    · refine canonical_timed ?_ ..
      refine canonical_ite ?_ ?_
      · exact canonical_noteLastingAt (canonical_setFb (canonical_close (canonical_openSlow (canonical_setF h ..) ..) ..) ..) ..
      · refine canonical_ite ?_ ?_
        · exact canonical_noteEnds (canonical_setV (canonical_close (canonical_setF h ..) ..) ..) ..
        · exact canonical_ite (canonical_setF h ..) (canonical_ite (canonical_setF h ..) h)

theorem canonical_thermalRelease {s : State} (h : s.canonical = true) :
    s.thermalRelease.canonical = true := by
  unfold State.thermalRelease
  refine canonical_each h _ _ ?_
  intro _ h _ _
  refine canonical_ite ?_ ?_
  · exact canonical_note (canonical_clearCause (canonical_setV (canonical_setOn (canonical_setFb h ..) ..) ..) ..) ..
  · exact h

theorem canonical_brakeTestStart {s : State} (h : s.canonical = true) (k : Nat) :
    (s.brakeTestStart k).canonical = true :=
  canonical_openSlow (canonical_setOn (canonical_setV (canonical_setV (canonical_setF (canonical_setFb (canonical_setF
    (canonical_setV h ..) ..) ..) ..) ..) ..) ..) ..

theorem canonical_brakeTestCmd {s : State} (h : s.canonical = true) (k : Nat) :
    (s.brakeTestCmd k).2.canonical = true := by
  unfold State.brakeTestCmd
  refine canonical_ite_snd h ?_
  split
  · exact h
  · exact canonical_brakeTestStart h ..

theorem canonical_restartCmd {s : State} (h : s.canonical = true) :
    (s.restartCmd).2.canonical = true := by
  unfold State.restartCmd
  refine canonical_ite_snd h ?_
  refine canonical_ite_snd h ?_
  exact canonical_openSlow (canonical_each (canonical_setOn h ..) _ _ (fun _ h _ _ => canonical_setOn h ..)) ..

theorem canonical_noteLasting {s : State} (h : s.canonical = true) (code inst : Nat) (d0 d1 d2 : Nat) :
    (s.noteLasting code inst d0 d1 d2).canonical = true :=
  canonical_setCause (canonical_note h ..) ..

theorem canonical_serviceEnterCmd {s : State} (h : s.canonical = true) (debug : Bool) :
    (s.serviceEnterCmd debug).2.canonical = true := by
  unfold State.serviceEnterCmd
  refine canonical_ite_snd h ?_
  exact canonical_ite (canonical_noteLasting (canonical_setFb (canonical_parts h) ..) ..) (canonical_parts h)

theorem canonical_serviceExitCmd {s : State} (h : s.canonical = true) :
    (s.serviceExitCmd).2.canonical = true := by
  unfold State.serviceExitCmd
  refine canonical_ite_snd h ?_
  exact canonical_ite_snd h (canonical_noteEnds (canonical_setFb (canonical_parts h) ..) ..)

theorem canonical_keyWriteCmd {s : State} (h : s.canonical = true) (generation crc : Nat) :
    (s.keyWriteCmd generation crc).2.canonical = true := by
  unfold State.keyWriteCmd
  refine canonical_ite_snd (canonical_setF h ..) ?_
  refine canonical_ite_snd (canonical_setF (canonical_setF h ..) ..) ?_
  exact canonical_ite_snd h (canonical_setF (canonical_setF (canonical_setF (canonical_setF h ..) ..) ..) ..)

theorem canonical_decideCmd {s : State} (h : s.canonical = true) (c : Cmd) : (s.decideCmd c).2.2.canonical = true := by
  cases c with
  | summary | logRead | splitV | joinV => exact h
  | arm => exact canonical_maskCmd h _ _ _ _ fun _ h _ => canonical_armOne h ..
  | run => exact canonical_maskCmd h _ _ _ _ fun _ h _ => canonical_runOne h ..
  | stop =>
    unfold State.decideCmd
    exact canonical_maskCmd h _ _ _ _ fun _ h _ => canonical_stopOne h ..
  | openLoop =>
    unfold State.decideCmd
    exact canonical_openLoopCmd h ..
  | closeLoop => exact canonical_closeLoopCmd h ..
  | switchBack => exact canonical_switchBackCmd h
  | clearLog => exact canonical_clearLogCmd h
  | busRecover => exact canonical_busRecoverCmd h ..
  | chargeStart =>
    unfold State.decideCmd
    dsimp only
    split
    · exact h
    · exact canonical_chargeStart h
  | chargeStop => exact canonical_chargeStep h ..
  | thermalRelease => exact canonical_thermalRelease h
  | brakeTest => exact canonical_brakeTestCmd h ..
  | restart => exact canonical_restartCmd h
  | serviceEnter => exact canonical_serviceEnterCmd h ..
  | serviceExit => exact canonical_serviceExitCmd h
  | keyWrite => exact canonical_keyWriteCmd h ..

theorem canonical_handBegin {s : State} (h : s.canonical = true) (r : Req) (c : Cmd) :
    (s.handBegin r c).canonical = true := by
  unfold State.handBegin
  refine canonical_ite (canonical_setF (canonical_setF (canonical_parts h) ..) ..) ?_
  exact canonical_setF (canonical_parts h) ..

theorem canonical_carryCmd {s : State} (h : s.canonical = true) (r : Req) (c : Cmd) :
    (s.carryCmd r c).canonical = true := by
  unfold State.carryCmd
  dsimp only
  split
  · exact canonical_answerCmd (canonical_decideCmd h ..) ..
  · refine canonical_ite (canonical_answerCmd h ..) ?_
    split
    · exact canonical_answerCmd h ..
    · exact canonical_handBegin h ..

theorem canonical_serveChallenge {s : State} (h : s.canonical = true) (r : Req) :
    (s.serveChallenge r).canonical = true := by
  unfold State.serveChallenge
  refine canonical_ite (canonical_answer h ..) ?_
  exact canonical_answer (canonical_setChallenges (canonical_addV h ..) ..) ..

theorem canonical_carryReq {s : State} (h : s.canonical = true) (r : Req) (c : Svc) :
    (s.carryReq r c).canonical = true := by
  unfold State.carryReq
  split
  · exact canonical_serveRead h ..
  · exact canonical_serveWrite h ..
  · exact canonical_carryCmd h ..
  · exact canonical_serveChallenge h ..
  · exact canonical_answer h ..
  · exact canonical_answer h ..

theorem canonical_serveDecided {s : State} (h : s.canonical = true) (r : Req) (c : Svc) (authed : Bool) :
    (s.serveDecided r c authed).canonical = true := by
  unfold State.serveDecided
  refine canonical_ite (canonical_refuseAll h ..) ?_
  refine canonical_ite (canonical_refuseAll h ..) ?_
  exact canonical_ite (canonical_ite (canonical_answer h ..) (canonical_parts h)) (canonical_carryReq h ..)

theorem canonical_serveAuth {s : State} (h : s.canonical = true) (r : Req) (c : Svc) : (s.serveAuth r c).canonical = true := by
  unfold State.serveAuth
  refine canonical_ite (canonical_refuseAll h ..) ?_
  have hv := canonical_verify h r c
  exact canonical_ite (canonical_refuseAll hv ..) (canonical_ite (canonical_answer hv ..) (canonical_serveDecided hv ..))

theorem canonical_serveAnew {s : State} (h : s.canonical = true) (r : Req) (c : Svc) :
    (s.serveAnew r c).canonical = true := by
  unfold State.serveAnew
  split
  · refine canonical_sendReply ?_ ..
    split
    · exact canonical_addF h ..
    · exact canonical_addF h ..
    · exact h
  · exact canonical_serveAuth h ..

theorem canonical_serveEarly {s : State} (h : s.canonical = true) (r : Req) (c : Svc) :
    (s.serveEarly r c).canonical = true := by
  unfold State.serveEarly
  refine canonical_ite ?_ ?_
  · refine canonical_ite (canonical_limited h _ _ _ (fun _ h => canonical_serveAnew h ..)) ?_
    exact canonical_limited h _ _ _ fun _ h => canonical_answer h ..
  · exact canonical_ite (canonical_serveAnew h ..) (canonical_limited h _ _ _ (fun _ h => canonical_answer h ..))

theorem canonical_serveReady {s : State} (h : s.canonical = true) (r : Req) (c : Svc) :
    (s.serveReady r c).canonical = true := by
  unfold State.serveReady
  refine canonical_ite (canonical_ite (canonical_answer h ..) (canonical_parts h)) ?_
  split
  · exact canonical_ite (canonical_answer h ..) (canonical_serveAnew h ..)
  · exact canonical_serveAnew h ..

theorem canonical_serve {s : State} (h : s.canonical = true) (r : Req) (c : Svc) :
    (s.serve r c).canonical = true := by
  unfold State.serve
  refine canonical_ite (canonical_when h _ _ (fun _ h => canonical_idleRestart h)) ?_
  refine canonical_ite (canonical_when h _ _ (fun _ h => canonical_idleRestart h)) ?_
  refine canonical_ite ?_ ?_
  · exact canonical_countDropped (canonical_when h _ _ (fun _ h => canonical_idleRestart h))
  · refine canonical_ite ?_ ?_
    · exact canonical_serveEarly (canonical_when h _ _ (fun _ h => canonical_idleRestart h)) ..
    · exact canonical_serveReady (canonical_when h _ _ (fun _ h => canonical_idleRestart h)) ..

theorem canonical_serveAt {s : State} (h : s.canonical = true) {t : Nat} {r : Req} {c : Svc} {u : State}
    (hu : s.serveAt t r c = .next u) : u.canonical = true :=
  canonical_done (canonical_serve (canonical_parts h) ..) hu

theorem canonical_writeOne {s : State} (h : s.canonical = true) {t : Nat} {r : Req} {index sub : Nat} {v : Word} {u : State}
    (hu : s.writeOne t r index sub v = .next u) : u.canonical = true :=
  canonical_serveAt h hu

theorem canonical_writeField {s : State} (h : s.canonical = true) {t : Nat} {r : Req} {f : Fld} {n j : Nat} {v : Word} {u : State}
    (hu : s.writeField t r f n j v = .next u) : u.canonical = true :=
  canonical_writeOne h hu

theorem canonical_execShipRequest {s : State} (h : s.canonical = true) {r : Req} {wake : Bool} {t : Nat} {u : State}
    (hu : execShipRequest r wake t s = .next u) : u.canonical = true :=
  canonical_writeField (canonical_setV (canonical_setOn h ..) ..) hu

theorem canonical_execSleepRequest {s : State} (h : s.canonical = true) {r : Req} {t : Nat} {u : State}
    (hu : execSleepRequest r t s = .next u) : u.canonical = true :=
  canonical_writeField h hu

theorem canonical_execSleepIdleExpired {s : State} (h : s.canonical = true) {u : State}
    (hu : execSleepIdleExpired s = .next u) : u.canonical = true :=
  canonical_done (canonical_expire h _ _ _ (fun _ h => canonical_ite (canonical_setV h ..) h)) hu

theorem canonical_lowPower {s : State} (h : s.canonical = true) (kind : Nat) (m : ModState) (code : Nat) :
    (s.lowPower kind m code).canonical = true := by
  unfold State.lowPower
  refine canonical_ite h ?_
  refine canonical_ite (canonical_powerEnd (canonical_note h ..) ..) ?_
  exact canonical_begin (canonical_powerEnd (canonical_note h ..) ..) ..

theorem canonical_execSleepEntered {s : State} (h : s.canonical = true) {t : Nat} {u : State}
    (hu : execSleepEntered t s = .next u) : u.canonical = true :=
  canonical_done (canonical_lowPower (canonical_parts h) ..) hu

theorem canonical_execShipEntered {s : State} (h : s.canonical = true) {t : Nat} {u : State}
    (hu : execShipEntered t s = .next u) : u.canonical = true :=
  canonical_done (canonical_lowPower (canonical_parts h) ..) hu

theorem canonical_canOff {s : State} (h : s.canonical = true) :
    s.canOff.canonical = true :=
  canonical_each (canonical_parts h) _ _ fun _ h _ _ => canonical_canSync (canonical_setF h ..) ..

theorem canonical_setPort {s : State} (h : s.canonical = true) (p st : Nat) :
    (s.setPort p st).canonical = true :=
  canonical_setF (canonical_setF (canonical_setF h ..) ..) ..

theorem canonical_fabTrain {s : State} (h : s.canonical = true) :
    s.fabTrain.canonical = true := by
  unfold State.fabTrain
  refine canonical_ite (canonical_setFb h ..) ?_
  exact canonical_each (canonical_setFb h ..) _ _ fun _ h _ _ => canonical_setPort h ..

theorem canonical_startFail {s : State} (h : s.canonical = true) (cause detail : Nat) :
    (s.startFail cause detail).canonical = true := by
  unfold State.startFail
  refine canonical_ite ?_ ?_
  · exact canonical_canOff (canonical_setV (canonical_parts (canonical_setV (canonical_setF (canonical_note h ..) ..) ..)) ..)
  · exact canonical_fabTrain (canonical_canOff (canonical_setV (canonical_parts (canonical_setV (canonical_setF
      (canonical_note h ..) ..) ..)) ..))

theorem canonical_pllLocked {s : State} (h : s.canonical = true) :
    s.pllLocked.canonical = true :=
  canonical_setV (canonical_setV (canonical_setFb h ..) ..) ..

theorem canonical_startDecide {s : State} (h : s.canonical = true) :
    s.startDecide.canonical = true := by
  unfold State.startDecide
  refine canonical_ite h ?_
  refine canonical_ite (canonical_startFail h ..) ?_
  refine canonical_ite (canonical_startFail h ..) ?_
  refine canonical_ite h ?_
  refine canonical_ite (canonical_startFail h ..) ?_
  exact canonical_fabTrain (canonical_setV (canonical_ite h (canonical_pllLocked h)) ..)

theorem canonical_restartFails {s : State} (h : s.canonical = true) :
    s.restartFails.canonical = true := by
  unfold State.restartFails
  refine canonical_ite ?_ ?_
  · exact canonical_reportAll (canonical_setFb (canonical_updCause (canonical_each (canonical_setFb (canonical_close
      (canonical_moduleToSafe (canonical_setFb (canonical_setF h ..) ..) ..) ..) ..) _ _ (fun _ h _ _ => canonical_toSafe h ..)) ..) ..) ..
  · exact h

theorem canonical_execInjectionTestDone {s : State} (h : s.canonical = true) {pass : Bool} {t : Nat} {u : State}
    (hu : execInjectionTestDone pass t s = .next u) : u.canonical = true := by
  unfold execInjectionTestDone at hu
  refine canonical_done ?_ hu
  refine canonical_ite ?_ ?_
  · exact canonical_startDecide (canonical_setFb (canonical_setV (canonical_parts h) ..) ..)
  · refine canonical_ite (canonical_ite (canonical_setFb (canonical_parts h) ..) (canonical_parts h)) ?_
    exact canonical_restartFails (canonical_parts h)

theorem canonical_execMemoryTestDone {s : State} (h : s.canonical = true) {pass : Bool} {t : Nat} {u : State}
    (hu : execMemoryTestDone pass t s = .next u) : u.canonical = true := by
  unfold execMemoryTestDone at hu
  refine canonical_done ?_ hu
  refine canonical_ite ?_ ?_
  · exact canonical_startDecide (canonical_openSlow (canonical_setV (canonical_parts h) ..) ..)
  · exact canonical_parts h

theorem canonical_clearStage {s : State} (h : s.canonical = true) :
    s.clearStage.canonical = true :=
  canonical_parts h

theorem canonical_clearEnd {s : State} (h : s.canonical = true) (incomplete : Bool) :
    (s.clearEnd incomplete).canonical = true := by
  unfold State.clearEnd
  split
  · exact h
  · exact canonical_setF (canonical_setOn (canonical_setOn (canonical_parts (canonical_appendOwn h ..)) ..) ..) ..

theorem canonical_rebuild {s : State} (h : s.canonical = true) (damage : List (Nat × List Byte)) (copyA copyB : MgmtCopy) :
    (s.rebuild damage copyA copyB).canonical = true := by
  unfold State.rebuild
  refine canonical_ite (canonical_setV h ..) ?_
  refine canonical_each ?_ _ _ fun _ h _ _ => canonical_setDue h ..
  refine canonical_fullCheck ?_
  refine canonical_setOn ?_ ..
  refine canonical_clearEnd ?_ ..
  refine canonical_ite ?_ ?_
  · exact canonical_note (canonical_each (canonical_setOn (canonical_setOn (canonical_parts (canonical_setOn (canonical_when h _ _
      (fun _ h => canonical_clearStage h)) ..)) ..) ..) _ _ (fun _ h _ _ => canonical_note (canonical_addF h ..) ..)) ..
  · refine canonical_ite ?_ ?_
    · exact canonical_note (canonical_each (canonical_setOn (canonical_setOn (canonical_parts (canonical_setOn (canonical_when h _ _
        (fun _ h => canonical_clearStage h)) ..)) ..) ..) _ _ (fun _ h _ _ => canonical_note (canonical_addF h ..) ..)) ..
    · exact canonical_each (canonical_setOn (canonical_setOn (canonical_parts (canonical_setOn (canonical_when h _ _
        (fun _ h => canonical_clearStage h)) ..)) ..) ..) _ _ fun _ h _ _ => canonical_note (canonical_addF h ..) ..

theorem canonical_execLogRebuild {s : State} (h : s.canonical = true) {damage : List
    (Nat × List Byte)} {copyA copyB : MgmtCopy} {t : Nat} {u : State}
    (hu : execLogRebuild damage copyA copyB t s = .next u) : u.canonical = true := by
  unfold execLogRebuild at hu
  refine canonical_done ?_ hu
  refine canonical_ite ?_ ?_
  · exact canonical_startDecide (canonical_setOn (canonical_rebuild (canonical_parts h) ..) ..)
  · exact canonical_parts h

theorem canonical_keyPut {s : State} (h : s.canonical = true) (a : Nat) (l : List Byte) : (s.keyPut a l).canonical = true := by
  obtain ⟨hregs, hvars, htimers, hsram, hstaging, hkey⟩ := canonical_iff.1 h
  exact canonical_iff.2 ⟨hregs, hvars, htimers, hsram, hstaging, wf_foldl_set hkey ..⟩

theorem canonical_earlyRead {s : State} (h : s.canonical = true) (slot : Nat) :
    (s.earlyRead slot).canonical = true := by
  unfold State.earlyRead
  split
  · exact h
  · refine canonical_ite ?_ ?_
    · exact canonical_each (canonical_setFb (canonical_parts h) ..) _ _ fun _ h _ _ => canonical_setF h ..
    · exact canonical_noteLasting h ..

/-- What a start finds in the key's memory is written byte by byte into an erased one. -/
theorem canonical_keyRead {s : State} (h : s.canonical = true) (o : KeyObs) : (s.keyRead o).canonical = true := by
  unfold State.keyRead
  extract_lets s1
  have h1 : s1.canonical = true := by
    unfold s1
    split
    · exact h
    · exact canonical_each (canonical_noKeyMem h) _ _ fun _ h _ _ => canonical_keyPut h ..
  clear_value s1
  refine canonical_ite (canonical_setV (canonical_parts h1) ..) ?_
  refine canonical_ite (canonical_setV (canonical_setFb (canonical_setF (canonical_parts h1) ..) ..) ..) ?_
  split
  · exact canonical_setV (canonical_setFb (canonical_setFb (canonical_setF (canonical_setFb (canonical_setF
      (canonical_parts h1) ..) ..) ..) ..) ..) ..
  · exact canonical_setV (canonical_earlyRead (canonical_setF (canonical_parts (canonical_setFb (canonical_setFb
      (canonical_setF (canonical_setFb (canonical_setF (canonical_parts h1) ..) ..) ..) ..) ..)) ..) ..) ..

theorem canonical_execKeyReadDone {s : State} (h : s.canonical = true) {key : KeyObs} {t : Nat} {u : State}
    (hu : execKeyReadDone key t s = .next u) : u.canonical = true :=
  canonical_done (canonical_ite (canonical_startDecide (canonical_keyRead (canonical_parts h) ..)) (canonical_parts h)) hu

theorem canonical_imageVerified {s : State} (h : s.canonical = true) (bad1 bad2 : List Nat) :
    (s.imageVerified bad1 bad2).canonical = true := by
  unfold State.imageVerified
  refine canonical_ite ?_ ?_
  · refine canonical_startFail ?_ ..
    refine canonical_ite (canonical_note (canonical_ite (canonical_setFb h ..) h) ..) ?_
    exact canonical_ite (canonical_setFb h ..) h
  · refine canonical_setV ?_ ..
    refine canonical_parts ?_
    refine canonical_setF ?_ ..
    refine canonical_ite (canonical_note (canonical_ite (canonical_setFb h ..) h) ..) ?_
    exact canonical_ite (canonical_setFb h ..) h

theorem canonical_execImageVerified {s : State} (h : s.canonical = true) {bad1 bad2 : List Nat} {t : Nat} {u : State}
    (hu : execImageVerified bad1 bad2 t s = .next u) : u.canonical = true :=
  canonical_done (canonical_ite (canonical_imageVerified (canonical_parts h) ..) (canonical_parts h)) hu

theorem canonical_supplyOn {s : State} (h : s.canonical = true) (g : Nat) :
    (s.supplyOn g).canonical = true := by
  unfold State.supplyOn
  split
  · exact canonical_setOn h ..
  · exact canonical_openSlow (canonical_setV (canonical_each h _ _ (fun _ h _ _ => canonical_setFb h ..)) ..) ..

theorem canonical_restoreEnable {s : State} (h : s.canonical = true) (g : Nat) :
    (s.restoreEnable g).canonical = true :=
  canonical_each (canonical_setF h ..) _ _ fun _ h _ _ => canonical_each h _ _ (fun _ h _ _ => canonical_setFb h ..)

theorem canonical_removeEnable {s : State} (h : s.canonical = true) (g : Nat) :
    (s.removeEnable g).canonical = true :=
  canonical_each (canonical_setF h ..) _ _ fun _ h _ _ => canonical_each h _ _ (fun _ h _ _ => canonical_setFb (canonical_turnOff h ..) ..)

theorem canonical_enableSync {s : State} (h : s.canonical = true) (g : Nat) :
    (s.enableSync g).canonical = true :=
  canonical_ite (canonical_restoreEnable h ..) (canonical_ite (canonical_removeEnable h ..) h)

theorem canonical_safeBit {s : State} (h : s.canonical = true) (f : Fld) (g : Nat) (b : Bool) :
    (s.safeBit f g b).canonical = true :=
  canonical_setF h ..

theorem canonical_setEnable {s : State} (h : s.canonical = true) (f : Fld) (g : Nat) (b : Bool) :
    (s.setEnable f g b).canonical = true :=
  canonical_enableSync (canonical_safeBit h ..) ..

theorem canonical_writeEnSw {s : State} (h : s.canonical = true) (g : Nat) (b : Bool) :
    (s.writeEnSw g b).canonical = true :=
  canonical_setEnable (canonical_protect h ..) ..

theorem canonical_stoTestStart {s : State} (h : s.canonical = true) (g : Nat) :
    (s.stoTestStart g).canonical = true :=
  canonical_writeEnSw (canonical_addF (canonical_setV h ..) ..) ..

theorem canonical_testsBegin {s : State} (h : s.canonical = true) :
    s.testsBegin.canonical = true :=
  canonical_supplyOn (canonical_setV (canonical_each (canonical_each h _ _ (fun _ h _ _ => canonical_openBy (canonical_setV
    (canonical_setEng h ..) ..) ..)) _ _ (fun _ h _ _ => canonical_stoTestStart h ..)) ..) ..

theorem canonical_chgBegin {s : State} (h : s.canonical = true) :
    s.chgBegin.canonical = true :=
  canonical_ite (canonical_setV (canonical_setDue (canonical_setDue h ..) ..) ..) h

theorem canonical_excStart {s : State} (h : s.canonical = true) (n : Nat) :
    (s.excStart n).canonical = true :=
  canonical_setDue (canonical_setV (canonical_setV (canonical_setV (canonical_setDue (canonical_setOn
    (canonical_setV h ..) ..) ..) ..) ..) ..) ..

theorem canonical_fbValid {s : State} (h : s.canonical = true) (n : Nat) :
    (s.fbValid n).canonical = true :=
  canonical_ite (canonical_fbLost (canonical_setFb h ..) ..) (canonical_setFb h ..)

theorem canonical_fbStart {s : State} (h : s.canonical = true) :
    s.fbStart.canonical = true := by
  unfold State.fbStart
  refine canonical_each h _ _ ?_
  intro _ h _ _
  refine canonical_ite h ?_
  exact canonical_fbValid (canonical_when (canonical_when (canonical_when (canonical_when (canonical_setF (canonical_setFb (canonical_setV
    (canonical_setOn (canonical_each (canonical_setOn (canonical_setV (canonical_parts h) ..) ..) _ _ (fun _ h _ _ => canonical_ite
    (canonical_filterFrom h ..) h)) ..) ..) ..) ..) _ _ (fun _ h => canonical_setDue (canonical_setV h ..) ..)) _ _
    (fun _ h => canonical_hallCycle h ..)) _ _ (fun _ h => canonical_excStart h ..)) _ _ (fun _ h => canonical_openSlow h ..)) ..

theorem canonical_slotTimers {s : State} (h : s.canonical = true) :
    s.slotTimers.canonical = true :=
  canonical_each h _ _ fun _ h _ _ => canonical_ite (canonical_setDue h ..) h

theorem canonical_unloop {s : State} (h : s.canonical = true) (p : Nat) :
    (s.unloop p).canonical = true :=
  canonical_noteEnds (canonical_setFb h ..) ..

theorem canonical_portClear {s : State} (h : s.canonical = true) (p : Nat) :
    (s.portClear p).canonical = true :=
  canonical_setV (canonical_parts (canonical_setOn (canonical_setV (canonical_setF (canonical_setFb (canonical_setFb (canonical_setF
    (canonical_setF (canonical_setFb (canonical_setFb (canonical_setFb (canonical_setV (canonical_setV (canonical_close (canonical_close
    (canonical_close h ..) ..) ..) ..) ..) ..) ..) ..) ..) ..) ..) ..) ..) ..) ..)) ..

theorem canonical_portOff {s : State} (h : s.canonical = true) (p : Nat) :
    (s.portOff p).canonical = true :=
  canonical_noteEnds (canonical_close (canonical_setPort (canonical_unloop (canonical_portClear h ..) ..) ..) ..) ..

theorem canonical_latencyCheck {s : State} (h : s.canonical = true) :
    s.latencyCheck.canonical = true := by
  unfold State.latencyCheck
  refine canonical_ite ?_ ?_
  · refine canonical_ite ?_ ?_
    · exact canonical_note (canonical_clearCause (canonical_setFb (canonical_setF (canonical_setF (canonical_setF h ..) ..) ..) ..) ..) ..
    · exact canonical_setFb (canonical_setF (canonical_setF (canonical_setF h ..) ..) ..) ..
  · exact canonical_raise (canonical_setFb (canonical_setF (canonical_setF (canonical_setF h ..) ..) ..) ..) ..

theorem canonical_fabApply {s : State} (h : s.canonical = true) :
    s.fabApply.canonical = true := by
  unfold State.fabApply
  refine canonical_latencyCheck ?_
  refine canonical_ite ?_ ?_
  · exact canonical_openSlow (canonical_setDue (canonical_setOn (canonical_setF (canonical_each (canonical_setFb h ..) _ _
      (fun _ h _ _ => canonical_portOff h ..)) ..) ..) ..) ..
  · exact canonical_openSlow (canonical_openSlow (canonical_setDue (canonical_setOn (canonical_setF (canonical_each
      (canonical_setFb h ..) _ _ (fun _ h _ _ => canonical_portOff h ..)) ..) ..) ..) ..) ..

theorem canonical_canBound {s : State} (h : s.canonical = true) (ch : Nat) :
    (s.canBound ch).canonical = true :=
  canonical_ite h (canonical_setF (canonical_setF (canonical_setF h ..) ..) ..)

theorem canonical_canStale {s : State} (h : s.canonical = true) (ch n : Nat) :
    (s.canStale ch n).canonical = true :=
  canonical_ite h (canonical_note (canonical_addF h ..) ..)

theorem canonical_canApply {s : State} (h : s.canonical = true) (ch : Nat) :
    (s.canApply ch).canonical = true := by
  unfold State.canApply
  refine canonical_ite ?_ ?_
  · exact canonical_canSync (canonical_canStale (canonical_setF (canonical_parts (canonical_canBound h ..)) ..) ..) ..
  · exact canonical_canBound h ..

theorem canonical_brakeDueWindow {s : State} (h : s.canonical = true) (k : Nat) :
    (s.brakeDueWindow k).canonical = true :=
  canonical_setDue h ..

theorem canonical_rotationBegin {s : State} (h : s.canonical = true) (c : Nat) :
    (s.rotationBegin c).canonical = true :=
  canonical_openSlow (canonical_openSlow (canonical_setF (canonical_setV (canonical_each h _ _
    (fun _ h _ _ => canonical_setV h ..)) ..) ..) ..) ..

theorem canonical_seqReady {s : State} (h : s.canonical = true) (c e a : Nat) :
    (s.seqReady c e a).canonical = true :=
  canonical_setV (canonical_setOn h ..) ..

theorem canonical_seqStart {s : State} (h : s.canonical = true) (c e a : Nat) :
    (s.seqStart c e a).canonical = true := by
  unfold State.seqStart
  refine canonical_ite ?_ ?_
  · exact canonical_setV (canonical_setOn (canonical_setV (canonical_setF (canonical_setV h ..) ..) ..) ..) ..
  · exact canonical_seqReady (canonical_setV (canonical_setF (canonical_setV h ..) ..) ..) ..

theorem canonical_unitsBegin {s : State} (h : s.canonical = true) :
    s.unitsBegin.canonical = true :=
  canonical_openSlow (canonical_each (canonical_each (canonical_fabApply (canonical_fillCheck (canonical_each (canonical_each
    (canonical_budgetShow (canonical_chgBegin (canonical_fbStart (canonical_slotTimers h)))) _ _
    (fun _ h _ _ => canonical_canApply h ..)) _ _ (fun _ h _ _ => canonical_brakeDueWindow h ..)))) _ _
    (fun _ h _ _ => canonical_setV h ..)) _ _ (fun _ h _ _ => canonical_when (canonical_rotationBegin h ..) _ _
    (fun _ h => canonical_seqStart h ..))) ..

theorem canonical_loadTables {s : State} (h : s.canonical = true) :
    s.loadTables.canonical = true :=
  canonical_each (canonical_each (canonical_setOn (canonical_each (canonical_each h _ _ (fun _ h _ _ => canonical_setV h ..)) _ _
    (fun _ h _ _ => canonical_foldl (canonical_setV (canonical_setV (canonical_setOn h ..) ..) ..) _ _
    (fun _ h _ _ => canonical_setV h ..))) ..) _ _ (fun _ h _ _ => canonical_foldl (canonical_setV (canonical_setV h ..) ..) _ _
    (fun _ h _ _ => canonical_setV h ..))) _ _ fun _ h _ _ => canonical_setV h ..

theorem canonical_extendFf {s : State} (h : s.canonical = true) :
    s.extendFf.canonical = true :=
  canonical_each h _ _ fun _ h _ _ => canonical_each h _ _ (fun _ h _ _ => canonical_ite (canonical_putWord h ..) h)

theorem canonical_dependentDefaults {s : State} (h : s.canonical = true) (given : List Nat) :
    (s.dependentDefaults given).canonical = true :=
  canonical_each (canonical_each h _ _ (fun _ h _ _ => canonical_foldl h _ _ (fun _ h _ _ => canonical_ite
    (canonical_putWord h ..) h))) _ _ fun _ h _ _ => canonical_ite (canonical_setF (canonical_setF h ..) ..) h

theorem canonical_setParam {s : State} (h : s.canonical = true) (e : Nat × Nat × Nat) :
    (s.setParam e).canonical = true := by
  unfold State.setParam
  split
  · exact h
  · exact canonical_putWord h ..

theorem canonical_setOwners {s : State} (h : s.canonical = true) :
    s.setOwners.canonical = true :=
  canonical_each h _ _ fun _ h _ _ => canonical_setF h ..

theorem canonical_attnDefaults {s : State} (h : s.canonical = true) (given : List Nat) :
    (s.attnDefaults given).canonical = true :=
  canonical_each h _ _ fun _ h _ _ => canonical_putWord h ..

theorem canonical_configure {s : State} (h : s.canonical = true) (sections : List (Nat × List Byte)) :
    (s.configure sections).canonical = true :=
  canonical_each (canonical_setOwners (canonical_attnDefaults (canonical_each (canonical_each (canonical_loadTables (canonical_extendFf
    (canonical_dependentDefaults (canonical_each (canonical_parts h) _ _ (fun _ h _ _ => canonical_setParam h ..)) ..))) _ _
    (fun _ h _ _ => canonical_setAuto h ..)) _ _ (fun _ h _ _ => canonical_setF h ..)) ..)) _ _ fun _ h _ _ => canonical_setF h ..

theorem canonical_applyImage {s : State} (h : s.canonical = true) :
    s.applyImage.canonical = true :=
  canonical_pendingSync (canonical_setOn (canonical_setF (canonical_setF (canonical_setF (canonical_setF (canonical_setF (canonical_each
    (canonical_configure h ..) _ _ (fun _ h _ _ => canonical_setFb h ..)) ..) ..) ..) ..) ..) ..)

theorem canonical_execImageApplied {s : State} (h : s.canonical = true) {t : Nat} {u : State}
    (hu : execImageApplied t s = .next u) : u.canonical = true := by
  unfold execImageApplied at hu
  refine canonical_done ?_ hu
  refine canonical_ite ?_ ?_
  · exact canonical_testsBegin (canonical_unitsBegin (canonical_applyImage (canonical_parts h)))
  · exact canonical_parts h

theorem canonical_supplyFail {s : State} (h : s.canonical = true) (c : Nat) :
    (s.supplyFail c).canonical = true :=
  canonical_raise (canonical_setF (canonical_setFb h ..) ..) ..

theorem canonical_supplyChecked {s : State} (h : s.canonical = true) (tests : List ChTest) :
    (s.supplyChecked tests).canonical = true := by
  unfold State.supplyChecked
  dsimp only
  split
  · exact canonical_setOn (canonical_each h _ _ (fun _ h _ _ => canonical_supplyFail h ..)) ..
  · refine canonical_ite ?_ ?_
    · refine canonical_supplyOn ?_ ..
      refine canonical_ite ?_ ?_
      · exact canonical_setFb (canonical_each (canonical_each h _ _ (fun _ h _ _ => canonical_supplyFail h ..)) _ _
          (fun _ h _ _ => canonical_setFb h ..)) ..
      · exact canonical_each (canonical_each h _ _ (fun _ h _ _ => canonical_supplyFail h ..)) _ _ fun _ h _ _ => canonical_setFb h ..
    · refine canonical_openSlow ?_ ..
      refine canonical_setV ?_ ..
      refine canonical_ite ?_ ?_
      · exact canonical_setFb (canonical_each (canonical_each h _ _ (fun _ h _ _ => canonical_supplyFail h ..)) _ _
          (fun _ h _ _ => canonical_setFb h ..)) ..
      · exact canonical_each (canonical_each h _ _ (fun _ h _ _ => canonical_supplyFail h ..)) _ _ fun _ h _ _ => canonical_setFb h ..

theorem canonical_execGateSupplyGroup {s : State} (h : s.canonical = true) {tests : List ChTest} {u : State}
    (hu : execGateSupplyGroup tests s = .next u) : u.canonical = true :=
  canonical_done (canonical_expire h _ _ _ (fun _ h => canonical_supplyChecked h ..)) hu

theorem canonical_takeFree {s : State} (h : s.canonical = true) :
    (s.takeFree).2.canonical = true :=
  canonical_parts h

theorem canonical_dllReady {s : State} (h : s.canonical = true) :
    s.dllReady.canonical = true := by
  unfold State.dllReady
  refine canonical_ite (canonical_each h _ _ (fun _ h _ _ => canonical_setF h ..)) ?_
  exact canonical_setF (canonical_setFb (canonical_parts (canonical_each h _ _ (fun _ h _ _ => canonical_setF h ..))) ..) ..

theorem canonical_mapParam {s : State} (h : s.canonical = true) (ch i : Nat) (f : CanFrame) : (s.mapParam ch i f).canonical = true := by
  unfold State.mapParam
  dsimp only
  split
  · exact canonical_note (canonical_addF h ..) ..
  · refine canonical_each h _ _ fun s h w _ => ?_
    have hw := canonical_hostWrite h { who := none, leaving := [], closing := [] } w.1 w.2.1 w.2.2
    exact canonical_ite (canonical_addF hw ..) (canonical_note (canonical_addF (canonical_countResult hw ..) ..) ..)

theorem canonical_sendClaim {s : State} (h : s.canonical = true) (ch addr : Nat) :
    (s.sendClaim ch addr).canonical = true :=
  canonical_canOffer h ..

theorem canonical_claimGo {s : State} (h : s.canonical = true) (ch addr : Nat) :
    (s.claimGo ch addr).canonical = true :=
  canonical_sendClaim (canonical_close (canonical_setV h ..) ..) ..

theorem canonical_canReady {s : State} (h : s.canonical = true) :
    s.canReady.canonical = true := by
  unfold State.canReady
  refine canonical_each ?_ _ _ fun _ h _ _ => canonical_canSync h ..
  refine canonical_each ?_ _ _ fun _ h _ _ => canonical_claimGo h ..
  refine canonical_each ?_ _ _ fun _ h _ _ => canonical_ite (canonical_setDue h ..) (canonical_setDue h ..)
  refine canonical_each ?_ _ _ fun _ h _ _ => canonical_setF h ..
  refine canonical_each (canonical_parts (canonical_each (canonical_noteEnds h ..) _ _ (fun _ h _ _ => canonical_canStale h ..))) _ _ ?_
  intro _ h _ _
  split
  · exact canonical_mapParam h ..
  · exact h

theorem canonical_sbcRequest {s : State} (h : s.canonical = true) :
    s.sbcRequest.canonical = true :=
  canonical_ite (canonical_raise (canonical_addF h ..) ..) h

theorem canonical_stoSafe {s : State} (h : s.canonical = true) (g : Nat) :
    (s.stoSafe g).canonical = true :=
  canonical_each (canonical_latchStages (canonical_setCause (canonical_reportAll h ..) ..) ..) _ _ fun _ h _ _ => canonical_close
    (canonical_toSafe (canonical_setRank (canonical_overtake h ..) ..) ..) ..

theorem canonical_safetyReady {s : State} (h : s.canonical = true) :
    s.safetyReady.canonical = true := by
  unfold State.safetyReady
  refine canonical_each (canonical_when h _ _ (fun _ h => canonical_sbcRequest h)) _ _ ?_
  intro _ h _ _
  refine canonical_ite ?_ ?_
  · exact canonical_each (canonical_ite (canonical_stoSafe (canonical_addF h ..) ..) h) _ _ fun _ h _ _ => canonical_carryOut h ..
  · exact canonical_ite (canonical_stoSafe (canonical_addF h ..) ..) h

theorem canonical_ready {s : State} (h : s.canonical = true) :
    s.ready.canonical = true := by
  unfold State.ready
  refine canonical_ite ?_ ?_
  · exact canonical_canReady (canonical_safetyReady (canonical_each (canonical_dllReady (canonical_setFb (canonical_note (canonical_setF
      (canonical_parts (canonical_setV (canonical_setV h ..) ..)) ..) ..) ..)) _ _ (fun _ h _ _ => canonical_enableSync h ..)))
  · exact canonical_openSlow (canonical_canReady (canonical_safetyReady (canonical_each (canonical_dllReady (canonical_setFb
      (canonical_note (canonical_setF (canonical_parts (canonical_setV (canonical_setV h ..) ..)) ..) ..) ..)) _ _
    (fun _ h _ _ => canonical_enableSync h ..)))) ..

theorem canonical_execReadyReached {s : State} (h : s.canonical = true) {others : StepEight} {t : Nat} {u : State}
    (hu : execReadyReached others t s = .next u) : u.canonical = true :=
  canonical_done (canonical_ite (canonical_ready (canonical_parts h)) (canonical_parts h)) hu

theorem canonical_keyChanged {s : State} (h : s.canonical = true) :
    s.keyChanged.canonical = true :=
  canonical_ite h (canonical_raise (canonical_setFb h ..) ..)

theorem canonical_execKeyCheckPeriod {s : State} (h : s.canonical = true) {found : Option (Nat × List Byte)} {u : State}
    (hu : execKeyCheckPeriod found s = .next u) : u.canonical = true :=
  canonical_done (canonical_expire h _ _ _ (fun _ h => canonical_ite (canonical_keyChanged (canonical_openSlow h ..))
    (canonical_openSlow h ..))) hu

theorem canonical_execKeyWrite {s : State} (h : s.canonical = true) {r : Req} {generation crc t : Nat} {u : State}
    (hu : execKeyWrite r generation crc t s = .next u) : u.canonical = true :=
  canonical_serveAt h hu

theorem canonical_keyStep {s : State} (h : s.canonical = true) (outcome : Nat) :
    (s.keyStep outcome).canonical = true := by
  unfold State.keyStep
  refine canonical_ite (canonical_ite (canonical_setF h ..) h) ?_
  refine canonical_ite ?_ ?_
  · split
    · exact canonical_keyFail (canonical_ite (canonical_setF h ..) h) ..
    · exact canonical_setV (canonical_setF (canonical_ite (canonical_setF h ..) h) ..) ..
  · refine canonical_ite (canonical_keyFail (canonical_ite (canonical_setF h ..) h) ..) ?_
    refine canonical_ite (canonical_keyFail (canonical_ite (canonical_setF h ..) h) ..) ?_
    refine canonical_ite ?_ ?_
    · exact canonical_setV (canonical_setF (canonical_pendingSync (canonical_keyErase (canonical_ite (canonical_setF h ..) h) ..)) ..) ..
    · refine canonical_ite ?_ ?_
      · exact canonical_setV (canonical_setF (canonical_setF (canonical_keyPut (canonical_ite (canonical_setF h ..) h) ..) ..) ..) ..
      · refine canonical_ite (canonical_setV (canonical_setF (canonical_ite (canonical_setF h ..) h) ..) ..) ?_
        refine canonical_ite ?_ ?_
        · exact canonical_setV (canonical_setF (canonical_keyPut (canonical_ite (canonical_setF h ..) h) ..) ..) ..
        · exact canonical_note (canonical_pendingSync (canonical_setV (canonical_setF (canonical_ite (canonical_setF h ..) h) ..) ..)) ..

theorem canonical_execKeyWriteStepEnd {s : State} (h : s.canonical = true) {outcome : Fin 3} {t : Nat} {u : State}
    (hu : execKeyWriteStepEnd outcome t s = .next u) : u.canonical = true :=
  canonical_done (canonical_keyStep (canonical_parts h) ..) hu

theorem canonical_execRestart {s : State} (h : s.canonical = true) {r : Req} {t : Nat} {u : State}
    (hu : execRestart r t s = .next u) : u.canonical = true :=
  canonical_serveAt h hu

theorem canonical_execRestartBegin {s : State} (h : s.canonical = true) {t : Nat} {u : State}
    (hu : execRestartBegin t s = .next u) : u.canonical = true :=
  canonical_done (canonical_ite (canonical_begin (canonical_parts h) ..) h) hu

theorem canonical_execServiceEnter {s : State} (h : s.canonical = true) {r : Req} {debug : Bool} {t : Nat} {u : State}
    (hu : execServiceEnter r debug t s = .next u) : u.canonical = true :=
  canonical_serveAt h hu

theorem canonical_execServiceExit {s : State} (h : s.canonical = true) {r : Req} {t : Nat} {u : State}
    (hu : execServiceExit r t s = .next u) : u.canonical = true :=
  canonical_serveAt h hu

theorem canonical_execDebugAction {s : State} (h : s.canonical = true) {core : Fin 3} {kind : DebugKind} {u : State}
    (hu : execDebugAction core kind s = .next u) : u.canonical = true := by
  unfold execDebugAction at hu
  refine canonical_done ?_ hu
  refine canonical_ite ?_ h
  dsimp only
  split
  · refine canonical_ite ?_ ?_
    · exact canonical_setFb (canonical_setF (canonical_setV (canonical_addF (canonical_wrapF (canonical_ite (canonical_replaySync h)
        (canonical_replaySync (canonical_parts (canonical_replaySync h)))) ..) ..) ..) ..) ..
    · exact canonical_setV (canonical_addF (canonical_wrapF (canonical_ite (canonical_replaySync h) (canonical_replaySync (canonical_parts
        (canonical_replaySync h)))) ..) ..) ..
  · refine canonical_ite ?_ ?_
    · exact canonical_setFb (canonical_setF (canonical_setV (canonical_addF (canonical_wrapF (canonical_ite (canonical_replaySync h)
        (canonical_replaySync (canonical_parts (canonical_replaySync h)))) ..) ..) ..) ..) ..
    · exact canonical_setV (canonical_addF (canonical_wrapF (canonical_ite (canonical_replaySync h) (canonical_replaySync (canonical_parts
        (canonical_replaySync h)))) ..) ..) ..
  · exact canonical_setV (canonical_addF (canonical_wrapF (canonical_ite (canonical_replaySync h) (canonical_replaySync (canonical_parts
      (canonical_replaySync h)))) ..) ..) ..

theorem canonical_lapse {s : State} (h : s.canonical = true) (clk : Nat) (t : Timer) (i : Nat) :
    (s.lapse clk t i).canonical = true :=
  canonical_lapseAt h ..

theorem canonical_setCorrection {s : State} (h : s.canonical = true) (x : Int) :
    (s.setCorrection x).canonical = true := by
  unfold State.setCorrection
  refine canonical_ite ?_ ?_
  · refine canonical_ite (canonical_setFb (canonical_setF h ..) ..) ?_
    exact canonical_openSlow (canonical_setFb (canonical_setF h ..) ..) ..
  · exact canonical_clearCause (canonical_lapse (canonical_setFb (canonical_setF h ..) ..) ..) ..

theorem canonical_setDisc {s : State} (h : s.canonical = true) (d : Nat) :
    (s.setDisc d).canonical = true := by
  unfold State.setDisc
  refine canonical_ite ?_ ?_
  · exact canonical_clearCause (canonical_clearCause (canonical_note (canonical_setV (canonical_setF (canonical_when (canonical_when h _ _
      (fun _ h => canonical_addF h ..)) _ _ (fun _ h => canonical_setF (canonical_close h ..) ..)) ..) ..) ..) ..) ..
  · exact canonical_setV (canonical_setF (canonical_when (canonical_when h _ _ (fun _ h => canonical_addF h ..)) _ _
      (fun _ h => canonical_setF (canonical_close h ..) ..)) ..) ..

theorem canonical_disciplineMissing {s : State} (h : s.canonical = true) :
    s.disciplineMissing.canonical = true := by
  unfold State.disciplineMissing
  refine canonical_ite ?_ h
  refine canonical_ite ?_ ?_
  · exact canonical_raise (canonical_openSlow (canonical_setV (canonical_setDisc (canonical_setCorrection (canonical_setV
      (canonical_addV h ..) ..) ..) ..) ..) ..) ..
  · exact canonical_setV (canonical_addV h ..) ..

theorem canonical_cycleAlign {s : State} (h : s.canonical = true) :
    s.cycleAlign.canonical = true := by
  unfold State.cycleAlign
  refine canonical_each h _ _ ?_
  intro _ h _ _
  refine canonical_ite ?_ ?_
  · exact canonical_clearCause (canonical_setFb (canonical_setFb (canonical_setFb (canonical_recordTouched h) ..) ..) ..) ..
  · refine canonical_ite (canonical_recordTouched h) ?_
    exact canonical_raise (canonical_addF (canonical_setFb (canonical_setFb (canonical_setFb (canonical_recordTouched h) ..) ..) ..) ..) ..

theorem canonical_setMaster {s : State} (h : s.canonical = true) (uid : Nat) :
    (s.setMaster uid).canonical = true :=
  canonical_setF (canonical_setF h ..) ..

theorem canonical_setCycleLen {s : State} (h : s.canonical = true) (len : Nat) :
    (s.setCycleLen len).canonical = true :=
  canonical_ite h (canonical_latencyCheck (canonical_setF h ..))

theorem canonical_masterLapse {s : State} (h : s.canonical = true) :
    s.masterLapse.canonical = true :=
  canonical_ite (canonical_setCycleLen (canonical_setMaster (canonical_setF h ..) ..) ..) h

theorem canonical_missedCycle {s : State} (h : s.canonical = true) :
    s.missedCycle.canonical = true := by
  unfold State.missedCycle
  refine canonical_expire h _ _ _ ?_
  intro _ h
  refine canonical_ite h ?_
  exact canonical_cycleAlign (canonical_masterLapse (canonical_setF (canonical_ite (canonical_addV (canonical_disciplineMissing h) ..)
    (canonical_disciplineMissing h)) ..))

theorem canonical_execMissingCycle {s : State} (h : s.canonical = true) {u : State}
    (hu : execMissingCycle s = .next u) : u.canonical = true :=
  canonical_done (canonical_missedCycle h) hu

theorem canonical_holdoverEnd {s : State} (h : s.canonical = true) :
    s.holdoverEnd.canonical = true :=
  canonical_expire h _ _ _ fun _ h => canonical_ite (canonical_noteLasting (canonical_setDisc h ..) ..) h

theorem canonical_execHoldoverExpired {s : State} (h : s.canonical = true) {u : State}
    (hu : execHoldoverExpired s = .next u) : u.canonical = true :=
  canonical_done (canonical_holdoverEnd h) hu

theorem canonical_disciplineFree {s : State} (h : s.canonical = true) :
    s.disciplineFree.canonical = true :=
  canonical_setCorrection (canonical_setDisc h ..) ..

theorem canonical_hardClockFault {s : State} (h : s.canonical = true) (code d0 : Nat) :
    (s.hardClockFault code d0).canonical = true :=
  canonical_raise (canonical_each (canonical_disciplineFree (canonical_setOn h ..)) _ _ (fun _ h _ _ => canonical_removeEnable h ..)) ..

theorem canonical_execXtalFail {s : State} (h : s.canonical = true) {u : State}
    (hu : execXtalFail s = .next u) : u.canonical = true :=
  canonical_done (canonical_ite h (canonical_hardClockFault (canonical_setFb (canonical_setFb h ..) ..) ..)) hu

theorem canonical_execPllUnlock {s : State} (h : s.canonical = true) {u : State}
    (hu : execPllUnlock s = .next u) : u.canonical = true :=
  canonical_done (canonical_ite h (canonical_hardClockFault (canonical_setFb (canonical_setFb h ..) ..) ..)) hu

theorem canonical_execClockCount {s : State} (h : s.canonical = true) {clock : Fin 7} {count : Nat} {u : State}
    (hu : execClockCount clock count s = .next u) : u.canonical = true :=
  canonical_done (canonical_ite h (canonical_hardClockFault (canonical_setF (canonical_setFb h ..) ..) ..)) hu

theorem canonical_fabDrop {s : State} (h : s.canonical = true) :
    s.fabDrop.canonical = true :=
  canonical_each h _ _ fun _ h _ _ => canonical_portOff h ..

theorem canonical_execPllBackupLock {s : State} (h : s.canonical = true) {t : Nat} {u : State}
    (hu : execPllBackupLock t s = .next u) : u.canonical = true := by
  unfold execPllBackupLock at hu
  refine canonical_done ?_ hu
  refine canonical_ite ?_ ?_
  · exact canonical_fabDrop (canonical_each (canonical_pllLocked (canonical_setFb (canonical_parts h) ..)) _ _
      (fun _ h _ _ => canonical_setF h ..))
  · exact canonical_parts h

theorem canonical_execCorrectionLimit {s : State} (h : s.canonical = true) {u : State}
    (hu : execCorrectionLimit s = .next u) : u.canonical = true :=
  canonical_done (canonical_expire h _ _ _ (fun _ h => canonical_raise h ..)) hu

theorem canonical_awaitBus {s : State} (h : s.canonical = true) :
    s.awaitBus.canonical = true :=
  canonical_parts h

theorem canonical_holdBus {s : State} (h : s.canonical = true) (beats : Nat) :
    (s.holdBus beats).canonical = true :=
  canonical_setV h ..

theorem canonical_eccRead {s : State} (h : s.canonical = true) (e : Ecc) :
    (s.eccRead e).canonical = true := by
  unfold State.eccRead
  split
  · exact h
  · exact canonical_note (canonical_addF h ..) ..
  · exact canonical_raise (canonical_addF h ..) ..

theorem canonical_busRead {s : State} (h : s.canonical = true) (c who : Nat) (e : Ecc) :
    (s.busRead c who e).canonical = true :=
  canonical_eccRead (canonical_setOn h ..) ..

theorem canonical_scrubGranted {s : State} (h : s.canonical = true) (r : BusReq) :
    (s.scrubGranted r).canonical = true := by
  unfold State.scrubGranted
  refine canonical_ite ?_ ?_
  · exact canonical_setV (canonical_each (canonical_setV (canonical_addV h ..) ..) _ _ (fun _ h _ _ => canonical_setV h ..)) ..
  · exact canonical_setV (canonical_addV h ..) ..

theorem canonical_grant {s : State} (h : s.canonical = true) (waiting : List BusReq) : (s.grant waiting).canonical = true := by
  unfold State.grant
  extract_lets s1 l late s2
  have h2 : s2.canonical = true :=
    canonical_each (canonical_awaitBus h) _ _ fun _ h _ _ => canonical_setOn (canonical_addF h ..) ..
  split
  · exact h2
  next r _ =>
  extract_lets c s3 s4 s5 s6 s7 s8 s9
  have h3 : s3.canonical = true := canonical_setOn (canonical_holdBus h2 ..) ..
  have h4 : s4.canonical = true := canonical_ite (canonical_addV h3 ..) h3
  have h7 : s7.canonical = true := canonical_setV (canonical_setV (canonical_setV (canonical_setF h4 ..) ..) ..) ..
  have h8 : s8.canonical = true := canonical_ite (canonical_setV h7 ..) h7
  have h9 : s9.canonical = true := canonical_ite h8 (canonical_busRead h8 ..)
  exact canonical_ite (canonical_scrubGranted h9 ..) h9

theorem canonical_drainPosted {s : State} (h : s.canonical = true) (n : Nat) :
    (s.drainPosted n).canonical = true :=
  canonical_setV h ..

theorem canonical_execInterconnectGrant {s : State} (h : s.canonical = true) {waiting : List BusReq} {drained t : Nat} {u : State}
    (hu : execInterconnectGrant waiting drained t s = .next u) : u.canonical = true :=
  canonical_done (canonical_grant (canonical_drainPosted (canonical_parts h) ..) ..) hu

theorem canonical_scrubGrants {s : State} (h : s.canonical = true) (n : Nat) (l : List BusReq) :
    (State.scrubGrants n l s).canonical = true := by
  induction n generalizing s l with
  | zero => exact h
  | succ n ih =>
    unfold State.scrubGrants
    refine canonical_ite h ?_
    dsimp only
    split
    · exact canonical_awaitBus h
    · exact ih (canonical_grant (canonical_awaitBus h) ..) _

theorem canonical_scrubDue {s : State} (h : s.canonical = true) (e : Ecc) :
    (s.scrubDue e).canonical = true :=
  canonical_addV (canonical_setV (canonical_when h _ _ (fun _ h => canonical_setV h ..)) ..) ..

theorem canonical_execScrubBlock {s : State} (h : s.canonical = true) {b : ScrubBlock} {u : State}
    (hu : execScrubBlock b s = .next u) : u.canonical = true :=
  canonical_done (canonical_expire h _ _ _ (fun _ h => canonical_scrubGrants (canonical_scrubDue (canonical_openSlow h ..) ..) ..)) hu

theorem canonical_swapSlice {s : State} (h : s.canonical = true) (c at' : Nat) :
    (s.swapSlice c at').canonical = true :=
  canonical_openSlow (canonical_setF (canonical_setOn (canonical_setV (canonical_setV (canonical_setV (canonical_setV (canonical_setV
    (canonical_each h _ _ (fun _ h _ _ => canonical_ite (canonical_setV h ..) h)) ..) ..) ..) ..) ..) ..) ..) ..

theorem canonical_execSliceSwap {s : State} (h : s.canonical = true) {core : Fin 4} {u : State}
    (hu : execSliceSwap core s = .next u) : u.canonical = true := by
  unfold execSliceSwap at hu
  refine canonical_done ?_ hu
  refine canonical_expire h _ _ _ ?_
  intro _ h
  refine canonical_ite (canonical_openSlow h ..) ?_
  refine canonical_ite ?_ ?_
  · exact canonical_note (canonical_clearCause (canonical_clearCause (canonical_setFb (canonical_lapse (canonical_setFb (canonical_setF
      (canonical_swapSlice (canonical_openSlow h ..) ..) ..) ..) ..) ..) ..) ..) ..
  · exact canonical_swapSlice (canonical_openSlow h ..) ..

theorem canonical_execSliceCalDone {s : State} (h : s.canonical = true) {core : Fin 4} {offset gain skew : Int} {u : State}
    (hu : execSliceCalDone core offset gain skew s = .next u) : u.canonical = true := by
  unfold execSliceCalDone at hu
  refine canonical_done ?_ hu
  refine canonical_expire h _ _ _ ?_
  intro _ h
  refine canonical_ite (canonical_setOn (canonical_setV (canonical_setV (canonical_setV h ..) ..) ..) ..) ?_
  refine canonical_ite (canonical_openSlow (canonical_setOn (canonical_addF h ..) ..) ..) ?_
  exact canonical_raise (canonical_openSlow (canonical_setFb (canonical_setF (canonical_setF (canonical_openSlow (canonical_setOn
    (canonical_addF h ..) ..) ..) ..) ..) ..) ..) ..

theorem canonical_execCalStale {s : State} (h : s.canonical = true) {core : Fin 4} {u : State}
    (hu : execCalStale core s = .next u) : u.canonical = true :=
  canonical_done (canonical_expire h _ _ _ (fun _ h => canonical_raise (canonical_setFb h ..) ..)) hu

theorem canonical_carrierBegin {s : State} (h : s.canonical = true) (t : Stage) :
    (s.carrierBegin t).canonical = true :=
  canonical_expire h _ _ _ (fun _ h => canonical_setOn (canonical_setDue (canonical_setV (canonical_setV
    (canonical_setFb h ..) ..) ..) ..) ..)

theorem canonical_execCarrierStart {s : State} (h : s.canonical = true) {t : Stage} {u : State}
    (hu : execCarrierStart t s = .next u) : u.canonical = true :=
  canonical_done (canonical_carrierBegin h ..) hu

theorem canonical_slotEvent {s : State} (h : s.canonical = true) (t : Stage) (middle : Bool) (v : Nat) :
    (s.slotEvent t middle v).canonical = true := by
  unfold State.slotEvent
  refine canonical_each h _ _ ?_
  intro _ h _ _
  refine canonical_ite ?_ ?_
  · exact canonical_ite (canonical_setDue (canonical_setV (canonical_setV h ..) ..) ..) (canonical_setV h ..)
  · exact h

theorem canonical_snapTake {s : State} (h : s.canonical = true) (n v : Nat) :
    (s.snapTake n v).canonical = true :=
  canonical_setV (canonical_setV (canonical_setV (canonical_setV (canonical_setV (canonical_setV h ..) ..) ..) ..) ..) ..

theorem canonical_ssiStart {s : State} (h : s.canonical = true) (n : Nat) :
    (s.ssiStart n).canonical = true := by
  unfold State.ssiStart
  refine canonical_ite h ?_
  exact canonical_ite (canonical_addF h ..) (canonical_setDue (canonical_setV (canonical_setV h ..) ..) ..)

theorem canonical_fbSnapshot {s : State} (h : s.canonical = true) (n v : Nat) (subst : Bool) :
    (s.fbSnapshot n v subst).canonical = true :=
  canonical_ssiStart (canonical_setFb (canonical_wrapF (canonical_snapTake (canonical_setV (canonical_each (canonical_fbRun h ..) _ _
    (fun _ h _ _ => canonical_setV h ..)) ..) ..) ..) ..) ..

theorem canonical_fbEvent {s : State} (h : s.canonical = true) (t : Stage) (middle subst : Bool) (v : Nat) :
    (s.fbEvent t middle subst v).canonical = true :=
  canonical_each h _ _ fun _ h _ _ => canonical_ite (canonical_fbSnapshot h ..) h

theorem canonical_dmaEnter {s : State} (h : s.canonical = true) (e : DmaEntry) :
    (s.dmaEnter e).canonical = true := by
  unfold State.dmaEnter
  refine canonical_ite (canonical_parts h) ?_
  exact canonical_ite (canonical_raise (canonical_addF (canonical_parts h) ..) ..) (canonical_parts h)

theorem canonical_dmaArrive {s : State} (h : s.canonical = true) (c : Nat) :
    (s.dmaArrive c).canonical = true :=
  canonical_each h _ _ fun _ h _ _ => canonical_dmaEnter h ..

theorem canonical_seqOn {s : State} (h : s.canonical = true) (c a : Nat) :
    (s.seqOn c a).canonical = true := by
  unfold State.seqOn
  refine canonical_ite ?_ ?_
  · exact canonical_ite (canonical_seqStart (canonical_setV h ..) ..) (canonical_seqStart (canonical_setV h ..) ..)
  · exact canonical_seqStart h ..

theorem canonical_correct {s : State} (h : s.canonical = true) (c slice : Nat) (raw : Int) :
    (s.correct c slice raw).2.canonical = true :=
  canonical_setV h ..

theorem canonical_ovrCheck {s : State} (h : s.canonical = true) (n : Nat) (ovr : Bool) :
    (s.ovrCheck n ovr).canonical = true := by
  unfold State.ovrCheck
  refine canonical_ite ?_ ?_
  · exact canonical_setV (canonical_ite (canonical_setW1c h ..) (canonical_setW1c h ..)) ..
  · exact canonical_ite (canonical_clearCause (canonical_setV h ..) ..) h

theorem canonical_dmaPut {s : State} (h : s.canonical = true) (c b n : Nat) (x : Int) (ovr : Bool) (channel tag : Nat) :
    (s.dmaPut c b n x ovr channel tag).canonical = true :=
  canonical_parts (canonical_setOn h ..)

theorem canonical_resResult {s : State} (h : s.canonical = true) (c n : Nat) (isCos : Bool) (x : Int) :
    (s.resResult c n isCos x).canonical = true := by
  unfold State.resResult
  split
  · exact h
  · refine canonical_ite h ?_
    exact canonical_ite (canonical_addV (canonical_addV h ..) ..) (canonical_addV (canonical_addV h ..) ..)

theorem canonical_seqConverted {s : State} (h : s.canonical = true) (c a : Nat) :
    (s.seqConverted c a).canonical = true :=
  canonical_ite (canonical_setV (canonical_setV h ..) ..) (canonical_seqOn h ..)

theorem canonical_convert {s : State} (h : s.canonical = true) (c n : Nat) (raw : Int) :
    (s.convert c n raw).canonical = true :=
  canonical_seqConverted (canonical_when (canonical_when (canonical_parts (canonical_cmpTake (canonical_when (canonical_setV h ..) _ _
    (fun _ h => canonical_ovrCheck h ..)) ..)) _ _ (fun _ h => canonical_dmaPut h ..)) _ _ (fun _ h => canonical_resResult h ..)) ..

theorem canonical_seqGo {s : State} (h : s.canonical = true) (c v n : Nat) (l : List Int) :
    (State.seqGo c v n l s).canonical = true := by
  induction n generalizing s l with
  | zero => exact h
  | succ n ih =>
    unfold State.seqGo
    exact canonical_ite h (canonical_ite (canonical_ite (ih (canonical_seqOn h ..) _) h)
      (canonical_ite (ih (canonical_convert h ..) _) h))

theorem canonical_coreTo {s : State} (h : s.canonical = true) (c v : Nat) (l : List Int) :
    (s.coreTo c v l).canonical = true :=
  canonical_ite h (canonical_dmaArrive (canonical_seqGo h ..) ..)

theorem canonical_accLatch {s : State} (h : s.canonical = true) (a v : Nat) :
    (s.accLatch a v).canonical = true := by
  unfold State.accLatch
  refine canonical_ite ?_ ?_
  · dsimp only
    split
    · exact canonical_setFb (canonical_addF (canonical_setFb (canonical_setF (canonical_setF (canonical_setF (canonical_setOn
        (canonical_setV (canonical_setV (canonical_setV (canonical_setV (canonical_each h _ _ (fun _ h _ _ => canonical_setV
      (canonical_setV h ..) ..)) ..) ..) ..) ..) ..) ..) ..) ..) ..) ..) ..
    · refine canonical_ite ?_ ?_
      · exact canonical_raise (canonical_setFb (canonical_addF (canonical_setFb (canonical_setF (canonical_setF (canonical_setF
          (canonical_setOn (canonical_setV (canonical_setV (canonical_setV (canonical_setV (canonical_each h _ _
        (fun _ h _ _ => canonical_setV (canonical_setV h ..) ..)) ..) ..) ..) ..) ..) ..) ..) ..) ..) ..) ..) ..
      · exact canonical_setFb (canonical_addF (canonical_setFb (canonical_setF (canonical_setF (canonical_setF (canonical_setOn
          (canonical_setV (canonical_setV (canonical_setV (canonical_setV (canonical_each h _ _ (fun _ h _ _ => canonical_setV
        (canonical_setV h ..) ..)) ..) ..) ..) ..) ..) ..) ..) ..) ..) ..) ..
  · exact canonical_clearCause (canonical_setF (canonical_setFb (canonical_addF (canonical_setFb (canonical_setF (canonical_setF
      (canonical_setF (canonical_setOn (canonical_setV (canonical_setV (canonical_setV (canonical_setV (canonical_each h _ _
    (fun _ h _ _ => canonical_setV (canonical_setV h ..) ..)) ..) ..) ..) ..) ..) ..) ..) ..) ..) ..) ..) ..) ..

theorem canonical_waitMet {s : State} (h : s.canonical = true) (c : Nat) :
    (s.waitMet c).canonical = true :=
  canonical_clearCause (canonical_setOn (canonical_parts h) ..) ..

theorem canonical_seqMeet {s : State} (h : s.canonical = true) (c src : Nat) (middle : Bool) (v n : Nat) :
    (State.seqMeet c src middle v n s).canonical = true := by
  induction n generalizing s with
  | zero => exact h
  | succ n ih =>
    unfold State.seqMeet
    exact canonical_ite (ih (canonical_coreTo (canonical_seqReady (canonical_waitMet h ..) ..) ..)) h

theorem canonical_seqEvent {s : State} (h : s.canonical = true) (c src : Nat) (middle subst : Bool) (v : Nat) :
    (s.seqEvent c src middle subst v).canonical = true := by
  unfold State.seqEvent
  refine canonical_ite h ?_
  exact canonical_ite (canonical_seqMeet h ..) (canonical_ite (canonical_raise (canonical_addF h ..) ..) h)

theorem canonical_coreEvent {s : State} (h : s.canonical = true) (c src : Nat) (middle subst : Bool) (v : Nat) (l : List Int) :
    (s.coreEvent c src middle subst v l).canonical = true := by
  unfold State.coreEvent
  refine canonical_ite (canonical_setV (canonical_coreTo h ..) ..) ?_
  exact canonical_seqEvent (canonical_each (canonical_accTake (canonical_setV (canonical_coreTo h ..) ..) ..) _ _
    (fun _ h _ _ => canonical_ite (canonical_accLatch h ..) h)) ..

theorem canonical_carrierEvent {s : State} (h : s.canonical = true) (t : Stage) (middle : Bool) (v : Nat) (l : List Conv) :
    (s.carrierEvent t middle v l).canonical = true :=
  canonical_each h _ _ fun _ h _ _ => canonical_coreEvent (canonical_setFb (canonical_setOn (canonical_setV h ..) ..) ..) ..

theorem canonical_regEvent {s : State} (h : s.canonical = true) (middle : Bool) (at' : Nat) :
    (s.regEvent middle at').canonical = true :=
  canonical_ite (canonical_setDue (canonical_setV (canonical_setV h ..) ..) ..) h

theorem canonical_stageEvent {s : State} (h : s.canonical = true) (t : Stage) (middle : Bool) (at' : Nat) (conv : List Conv) :
    (s.stageEvent t middle at' conv).canonical = true := by
  unfold State.stageEvent
  refine canonical_preEval ?_
  refine canonical_ite ?_ ?_
  · exact canonical_regEvent (canonical_slotEvent (canonical_fbEvent (canonical_carrierEvent h ..) ..) ..) ..
  · exact canonical_slotEvent (canonical_fbEvent (canonical_carrierEvent h ..) ..) ..

theorem canonical_syncFreed {s : State} (h : s.canonical = true) :
    s.syncFreed.canonical = true := by
  unfold State.syncFreed
  split
  · exact canonical_ite (canonical_close (canonical_setOn h ..) ..) h
  · exact h

theorem canonical_newTripPeriod {s : State} (h : s.canonical = true) (t : Stage) :
    (s.newTripPeriod t).canonical = true :=
  canonical_setFb (canonical_setF (canonical_setF (canonical_setV (canonical_setV h ..) ..) ..) ..) ..

theorem canonical_changeMode {s : State} (h : s.canonical = true) (t : Stage) :
    (s.changeMode t).canonical = true := by
  unfold State.changeMode
  refine canonical_ite h ?_
  exact canonical_noteAt (canonical_setFb (canonical_setF (canonical_when h _ _ (fun _ h => canonical_setOn h ..)) ..) ..) ..

theorem canonical_addOff {s : State} (h : s.canonical = true) (c e : Nat) (moved : Bool) :
    (s.addOff c e moved).canonical = true :=
  canonical_ite (canonical_parts h) (canonical_parts h)

theorem canonical_levelChange {s : State} (h : s.canonical = true) (n fromLv : Nat) (toLv e : Nat) (moved mute : Bool) :
    (s.levelChange n fromLv toLv e moved mute).canonical = true := by
  unfold State.levelChange
  refine canonical_ite h ?_
  refine canonical_ite (canonical_ite (canonical_addOff h ..) (canonical_ite (canonical_addOff h ..) h)) ?_
  exact canonical_addOn (canonical_ite (canonical_addOff h ..) (canonical_ite (canonical_addOff h ..) h)) ..

theorem canonical_changeLegs {s : State} (h : s.canonical = true) (t : Stage) (x per : Nat) :
    (s.changeLegs t x per).canonical = true := by
  unfold State.changeLegs
  refine canonical_each h _ _ ?_
  intro _ h _ _
  refine canonical_ite ?_ ?_
  · exact canonical_setDue (canonical_setV (canonical_setDue (canonical_setV (canonical_ite (canonical_setV (canonical_setV
      (canonical_levelChange h ..) ..) ..) h) ..) ..) ..) ..
  · exact canonical_setDue (canonical_setV (canonical_ite (canonical_setV (canonical_setV (canonical_levelChange h ..) ..) ..) h) ..) ..

theorem canonical_rephase {s : State} (h : s.canonical = true) (n x : Nat) (perOld per : Nat) :
    (s.rephase n x perOld per).canonical = true :=
  canonical_ite h (canonical_setDue (canonical_setV h ..) ..)

theorem canonical_carrierPeriod {s : State} (h : s.canonical = true) (t : Stage) : (s.carrierPeriod t).canonical = true := by
  refine canonical_expire h _ _ _ fun s h => ?_
  extract_lets x s1 s2 s3 change s4 base perOld
  have h2 : s2.canonical = true := canonical_addF (canonical_setV (canonical_recordTouched (canonical_ite (canonical_syncFreed h) h)) ..) ..
  have h4 : s4.canonical = true := canonical_changeMode (canonical_setOn (canonical_ite h2 (canonical_newTripPeriod h2 ..)) ..) ..
  split
  next d clamped _ =>
  extract_lets per s5 s6 s7 s8
  have h7 : s7.canonical = true := canonical_when (canonical_setF (canonical_when h4 _ _ fun _ h => canonical_addF h ..) ..) _ _
    fun _ h => canonical_changeLegs h ..
  have h8 : s8.canonical = true := canonical_when h7 _ _ fun _ h => canonical_emit (canonical_setV h ..) ..
  split
  · exact canonical_setDue (canonical_setDue (canonical_setV (canonical_each h8 _ _ fun _ h _ _ =>
      canonical_setDue (canonical_setV h ..) ..) ..) ..) ..
  · exact canonical_setDue (canonical_setDue (canonical_setV (canonical_each h8 _ _ fun _ h _ _ =>
      canonical_ite (canonical_ite h (canonical_rephase h ..)) (canonical_setDue (canonical_setV h ..) ..)) ..) ..) ..
  · exact canonical_each (canonical_setV (canonical_ite (canonical_setDue (canonical_setV h8 ..) ..) h8) ..) _ _
      fun _ h _ _ => canonical_ite h (canonical_setDue (canonical_setV h ..) ..)

theorem canonical_execPeriodStart {s : State} (h : s.canonical = true) {t : Stage} {conv : List Conv} {u : State}
    (hu : execPeriodStart t conv s = .next u) : u.canonical = true :=
  canonical_done (canonical_ite (canonical_stageEvent (canonical_carrierPeriod h ..) ..) h) hu

theorem canonical_carrierMiddle {s : State} (h : s.canonical = true) (t : Stage) :
    (s.carrierMiddle t).canonical = true :=
  canonical_expire h _ _ _ fun _ h => canonical_ite (canonical_each h _ _ (fun _ h _ _ => canonical_setDue (canonical_setV h ..) ..)) h

theorem canonical_execPeriodMiddle {s : State} (h : s.canonical = true) {t : Stage} {conv : List Conv} {u : State}
    (hu : execPeriodMiddle t conv s = .next u) : u.canonical = true :=
  canonical_done (canonical_ite (canonical_stageEvent (canonical_carrierMiddle h ..) ..) h) hu

theorem canonical_execSubstituteEvent {s : State}
    (h : s.canonical = true) {core : Fin 4} {t : Stage} {middle : Bool} {conv : List Conv} {u : State}
    (hu : execSubstituteEvent core t middle conv s = .next u) : u.canonical = true := by
  unfold execSubstituteEvent at hu
  refine canonical_done ?_ hu
  refine canonical_ite h ?_
  refine canonical_preEval ?_
  refine canonical_ite ?_ ?_
  · refine canonical_slotEvent ?_ ..
    refine canonical_fbEvent ?_ ..
    refine canonical_coreEvent ?_ ..
    refine canonical_setFb ?_ ..
    refine canonical_ite (canonical_setOn (canonical_parts h) ..) ?_
    exact canonical_setOn (canonical_setV (canonical_parts h) ..) ..
  · refine canonical_coreEvent ?_ ..
    refine canonical_setFb ?_ ..
    refine canonical_ite (canonical_setOn (canonical_parts h) ..) ?_
    exact canonical_setOn (canonical_setV (canonical_parts h) ..) ..

theorem canonical_execInputOverrange {s : State} (h : s.canonical = true) {input : Fin 80} {u : State}
    (hu : execInputOverrange input s = .next u) : u.canonical = true :=
  canonical_done (canonical_ite (canonical_raise h ..) h) hu

theorem canonical_coreUntil {s : State} (h : s.canonical = true) (c t : Nat) (conv : List Int) :
    (s.coreUntil c t conv).canonical = true :=
  canonical_dmaArrive (canonical_coreTo (canonical_parts h) ..) ..

theorem canonical_bufWrite {s : State} (h : s.canonical = true) (e : DmaEntry) : (s.bufWrite e).canonical = true := by
  refine canonical_ite h (canonical_when (canonical_when (canonical_setF ?_ ..) _ _ fun _ h => canonical_wrapF h ..) _ _
    fun _ h => canonical_addV h ..)
  exact canonical_each h _ _ fun _ h _ _ => canonical_setSram h ..

theorem canonical_execDmaBurstWritten {s : State} (h : s.canonical = true) {b : DmaBurst} {u : State}
    (hu : execDmaBurstWritten b s = .next u) : u.canonical = true := by
  unfold execDmaBurstWritten at hu
  dsimp only at hu
  split at hu
  · exact canonical_done (canonical_coreUntil h ..) hu
  · exact canonical_done (canonical_parts (canonical_each (canonical_coreUntil h ..) _ _ (fun _ h _ _ => canonical_bufWrite h ..))) hu

theorem canonical_execDmaOverflow {s : State} (h : s.canonical = true) {core : Fin 4} {conv : List Int} {t : Nat} {u : State}
    (hu : execDmaOverflow core conv t s = .next u) : u.canonical = true :=
  canonical_done (canonical_coreUntil h ..) hu

theorem canonical_execBufferFreezeWrite {s : State}
    (h : s.canonical = true) {r : Req} {buffer : Fin 64} {value : Word} {t : Nat} {u : State}
    (hu : execBufferFreezeWrite r buffer value t s = .next u) : u.canonical = true :=
  canonical_writeField h hu

theorem canonical_execBufferFrozen {s : State} (h : s.canonical = true) {buffer : Fin 64} {u : State}
    (hu : execBufferFrozen buffer s = .next u) : u.canonical = true :=
  canonical_done (canonical_ite (canonical_raise (canonical_setFb (canonical_setFb h ..) ..) ..) h) hu

theorem canonical_hkClear {s : State} (h : s.canonical = true) (p : Nat) :
    (s.hkClear p).canonical = true := by
  unfold State.hkClear
  refine canonical_ite (canonical_clearCause h ..) ?_
  refine canonical_ite ?_ ?_
  · exact canonical_each h _ _ fun _ h _ _ => canonical_clearCause (canonical_setFb h ..) ..
  · exact canonical_ite (canonical_clearCause h ..) h

theorem canonical_hkRaise {s : State} (h : s.canonical = true) (p : Nat) (code : Int) :
    (s.hkRaise p code).canonical = true := by
  unfold State.hkRaise
  refine canonical_ite (canonical_raise h ..) ?_
  refine canonical_ite ?_ ?_
  · exact canonical_raiseAll (canonical_each h _ _ (fun _ h _ _ => canonical_setFb h ..)) ..
  · exact canonical_ite (canonical_raise h ..) (canonical_raise h ..)

theorem canonical_hkPosition {s : State} (h : s.canonical = true) (p : Nat) (code : Int) :
    (s.hkPosition p code).canonical = true := by
  unfold State.hkPosition
  refine canonical_ite h ?_
  refine canonical_ite ?_ ?_
  · refine canonical_ite ?_ ?_
    · exact canonical_hkClear (canonical_setFb (canonical_setV (canonical_setV (canonical_setF (canonical_setFb (canonical_setFb
        (canonical_setF h ..) ..) ..) ..) ..) ..) ..) ..
    · exact canonical_setV (canonical_setV (canonical_setF (canonical_setFb (canonical_setFb (canonical_setF h ..) ..) ..) ..) ..) ..
  · refine canonical_ite ?_ ?_
    · exact canonical_hkRaise (canonical_setFb (canonical_setV (canonical_setV (canonical_setF (canonical_setFb (canonical_setFb
        (canonical_setF h ..) ..) ..) ..) ..) ..) ..) ..
    · exact canonical_setV (canonical_setV (canonical_setF (canonical_setFb (canonical_setFb (canonical_setF h ..) ..) ..) ..) ..) ..

theorem canonical_execHkRound {s : State} (h : s.canonical = true) {codes : List Int} {u : State}
    (hu : execHkRound codes s = .next u) : u.canonical = true :=
  canonical_done (canonical_expire h _ _ _ (fun _ h => canonical_addF (canonical_each (canonical_openSlow h ..) _ _
    (fun _ h _ _ => canonical_hkPosition h ..)) ..)) hu

theorem canonical_thCheck {s : State} (h : s.canonical = true) (n : Nat) :
    (s.thCheck n).canonical = true := by
  unfold State.thCheck
  dsimp only
  split
  · exact canonical_setV (canonical_setV h ..) ..
  · refine canonical_ite ?_ ?_
    · refine canonical_ite ?_ ?_
      · exact canonical_setV (canonical_raise (canonical_setFb (canonical_setV h ..) ..) ..) ..
      · exact canonical_setV h ..
    · refine canonical_ite ?_ ?_
      · exact canonical_note (canonical_clearCause (canonical_setV (canonical_setFb (canonical_setV h ..) ..) ..) ..) ..
      · exact canonical_setV h ..

theorem canonical_eachSource {s : State} (h : s.canonical = true) (k : State → Nat → State × List FaultEvt)
    (hk : ∀ s : State, s.canonical = true → ∀ n, (k s n).1.canonical = true) : (s.eachSource k).1.canonical = true := by
  unfold State.eachSource
  exact canonical_foldl_fst h _ _ fun a h n _ => hk a.1 h n

theorem canonical_thEffective {s : State} (h : s.canonical = true) (n : Nat) :
    (s.thEffective n).1.canonical = true := by
  unfold State.thEffective
  refine canonical_ite_fst ?_ (canonical_clearCause (canonical_setFb (canonical_setF h ..) ..) ..)
  split
  · exact canonical_clearCause (canonical_setFb (canonical_setF h ..) ..) ..
  · refine canonical_ite_fst (canonical_ite h (canonical_setF h ..)) ?_
    refine canonical_ite_fst (canonical_ite h (canonical_setF h ..)) ?_
    exact canonical_setFb (canonical_ite h (canonical_setF h ..)) ..

theorem canonical_thCond {s : State} (h : s.canonical = true) (n k : Nat) (flag : Fld) (set clr : Bool) (code : Nat) :
    (s.thCond n k flag set clr code).1.canonical = true := by
  unfold State.thCond
  refine canonical_ite_fst ?_ (canonical_setV h ..)
  refine canonical_ite_fst (canonical_clearCause (canonical_setFb (canonical_setV h ..) ..) ..) ?_
  exact canonical_setFb (canonical_setV h ..) ..

theorem canonical_thThresholds {s : State} (h : s.canonical = true) (n : Nat) : (s.thThresholds n).1.canonical = true := by
  unfold State.thThresholds
  dsimp only
  exact canonical_when (canonical_setV (canonical_thCond (canonical_thCond (canonical_thCond (canonical_thCond h ..) ..) ..) ..) ..) _ _
    fun _ h => canonical_addF (canonical_setV (canonical_setOn (canonical_setFb h ..) ..) ..) ..

theorem canonical_thermalRound {s : State} (h : s.canonical = true) (board : List BoardRead) :
    (s.thermalRound board).canonical = true := by
  unfold State.thermalRound
  refine canonical_ite h ?_
  dsimp only
  refine canonical_raiseAll (canonical_addF (canonical_each ?_ _ _ fun _ h _ _ =>
    canonical_ite (canonical_abortBrakeTest (canonical_setF h ..) ..) (canonical_setF h ..)) ..) ..
  refine canonical_eachSource (canonical_eachSource ?_ _ fun _ h _ => canonical_thEffective h ..) _ fun _ h _ => canonical_thThresholds h ..
  refine canonical_each (canonical_each h _ _ fun _ h _ _ => ?_) _ _ fun _ h _ _ => canonical_thCheck h ..
  exact canonical_setFb (canonical_setF (canonical_when h _ _ fun _ h => canonical_setV h ..) ..) ..

theorem canonical_execThermalRound {s : State} (h : s.canonical = true) {board : List BoardRead} {u : State}
    (hu : execThermalRound board s = .next u) : u.canonical = true :=
  canonical_done (canonical_thermalRound h ..) hu

theorem canonical_execThermalRelease {s : State} (h : s.canonical = true) {r : Req} {t : Nat} {u : State}
    (hu : execThermalRelease r t s = .next u) : u.canonical = true :=
  canonical_serveAt h hu

theorem canonical_snapRenew {s : State} (h : s.canonical = true) (n : Nat) :
    (s.snapRenew n).canonical = true :=
  canonical_ite (canonical_snapTake h ..) h

theorem canonical_fbDone {s : State} (h : s.canonical = true) {n : Nat} {u : State}
    (hu : fbDone n s = .next u) : u.canonical = true :=
  canonical_done (canonical_snapRenew (canonical_fbRun h ..) ..) hu

theorem canonical_pinChange {s : State} (h : s.canonical = true) (n : Nat) (x : PinChange) :
    (s.pinChange n x).canonical = true := by
  unfold State.pinChange
  refine canonical_ite (canonical_parts (canonical_fbRun h ..)) ?_
  refine canonical_ite ?_ ?_
  · exact canonical_filterFrom (canonical_lapseAt (canonical_when (canonical_when (canonical_setV (canonical_parts
      (canonical_fbRun h ..)) ..) _ _ (fun _ h => canonical_parts h)) _ _ (fun _ h => canonical_parts (canonical_setV h ..))) ..) ..
  · refine canonical_ite ?_ ?_
    · refine canonical_ite ?_ ?_
      · exact canonical_filterFrom (canonical_lapseAt (canonical_when (canonical_when (canonical_setV (canonical_parts
          (canonical_fbRun h ..)) ..) _ _ (fun _ h => canonical_parts h)) _ _ (fun _ h => canonical_parts (canonical_setV h ..))) ..) ..
      · exact canonical_lapseAt (canonical_when (canonical_when (canonical_setV (canonical_parts (canonical_fbRun h ..)) ..) _ _
          (fun _ h => canonical_parts h)) _ _ (fun _ h => canonical_parts (canonical_setV h ..))) ..
    · exact canonical_when (canonical_when (canonical_setV (canonical_parts (canonical_fbRun h ..)) ..) _ _
        (fun _ h => canonical_parts h)) _ _ fun _ h => canonical_parts (canonical_setV h ..)

theorem canonical_fbPins {s : State} (h : s.canonical = true) (n : Nat) (pins : List PinChange) :
    (s.fbPins n pins).canonical = true :=
  canonical_each h _ _ fun _ h _ _ => canonical_pinChange h ..

theorem canonical_fbInputs {s : State} (h : s.canonical = true) (n : Nat) (pins : List PinChange) (t : Nat) :
    (s.fbInputs n pins t).canonical = true :=
  canonical_parts (canonical_fbPins h ..)

theorem canonical_execEncoderEdge {s : State} (h : s.canonical = true) {channel : Fin 8} {pins : List PinChange} {t : Nat} {u : State}
    (hu : execEncoderEdge channel pins t s = .next u) : u.canonical = true :=
  canonical_fbDone (canonical_fbInputs h ..) hu

theorem canonical_execIndexQualified {s : State} (h : s.canonical = true) {channel : Fin 8} {pins : List PinChange} {t : Nat} {u : State}
    (hu : execIndexQualified channel pins t s = .next u) : u.canonical = true :=
  canonical_fbDone (canonical_fbInputs h ..) hu

theorem canonical_execHallSectorChange {s : State} (h : s.canonical = true) {channel : Fin 8} {pins : List PinChange} {t : Nat} {u : State}
    (hu : execHallSectorChange channel pins t s = .next u) : u.canonical = true :=
  canonical_fbDone (canonical_fbInputs h ..) hu

theorem canonical_fbExpire {s : State} (h : s.canonical = true) (n : Nat) (tm : Timer) (i : Nat) (k : State → State)
    (hk : ∀ a : State, a.canonical = true → (k a).canonical = true) :
    (s.fbExpire n tm i k).canonical = true := by
  unfold State.fbExpire
  split
  · exact h
  · exact canonical_ite (canonical_expire (canonical_fbRun h ..) _ _ _ (fun _ h => hk _ h)) (canonical_fbRun h ..)

theorem canonical_fbSignal {s : State} (h : s.canonical = true) (code n : Nat) (inst d1 : Nat) :
    (s.fbSignal code n inst d1).canonical = true :=
  canonical_ite h (canonical_fbValid (canonical_fbFault (canonical_addF h ..) ..) ..)

theorem canonical_execHallInvalid {s : State} (h : s.canonical = true) {channel : Fin 8} {pins : List PinChange} {u : State}
    (hu : execHallInvalid channel pins s = .next u) : u.canonical = true := by
  unfold execHallInvalid at hu
  refine canonical_fbDone ?_ hu
  refine canonical_fbExpire (canonical_fbPins h ..) _ _ _ _ ?_
  intro _ h
  refine canonical_ite (canonical_fbSignal (canonical_refFalls h ..) ..) ?_
  exact canonical_filterFrom (canonical_fbSignal (canonical_refFalls h ..) ..) ..

theorem canonical_execWireFault {s : State} (h : s.canonical = true) {channel : Fin 8} {pair : Fin 4} {pins : List PinChange} {u : State}
    (hu : execWireFault channel pair pins s = .next u) : u.canonical = true := by
  unfold execWireFault at hu
  refine canonical_fbDone ?_ hu
  refine canonical_fbExpire (canonical_fbPins h ..) _ _ _ _ ?_
  intro _ h
  refine canonical_ite (canonical_fbSignal (canonical_setFb h ..) ..) ?_
  exact canonical_filterFrom (canonical_fbSignal (canonical_setFb h ..) ..) ..

theorem canonical_fbClear {s : State} (h : s.canonical = true) (code n inst : Nat) :
    (s.fbClear code n inst).canonical = true :=
  canonical_fbValid (canonical_clearCause h ..) ..

theorem canonical_execWireFaultCleared {s : State}
    (h : s.canonical = true) {channel : Fin 8} {pair : Fin 4} {pins : List PinChange} {u : State}
    (hu : execWireFaultCleared channel pair pins s = .next u) : u.canonical = true :=
  canonical_fbDone (canonical_fbExpire (canonical_fbPins h ..) _ _ _ _ (fun _ h => canonical_fbClear (canonical_setFb h ..) ..)) hu

theorem canonical_execSupplyFault {s : State} (h : s.canonical = true) {channel : Fin 8} {u : State}
    (hu : execSupplyFault channel s = .next u) : u.canonical = true := by
  unfold execSupplyFault at hu
  refine canonical_fbDone ?_ hu
  refine canonical_ite ?_ ?_
  · exact canonical_fbSignal (canonical_setFb (canonical_openSlow (canonical_close (canonical_setOn h ..) ..) ..) ..) ..
  · exact h

theorem canonical_countV {s : State} (h : s.canonical = true) (x : Var) (i : Nat) :
    (s.countV x i).canonical = true :=
  canonical_setV h ..

theorem canonical_execSupplyRetry {s : State} (h : s.canonical = true) {channel : Fin 8} {u : State}
    (hu : execSupplyRetry channel s = .next u) : u.canonical = true :=
  canonical_done (canonical_expire h _ _ _ (fun _ h => canonical_openSlow (canonical_countV (canonical_setOn h ..) ..) ..)) hu

theorem canonical_resAdvance {s : State} (h : s.canonical = true) (n c : Nat) :
    (s.resAdvance n c).canonical = true :=
  canonical_setV (canonical_setV h ..) ..

theorem canonical_resAmp {s : State} (h : s.canonical = true) (n : Nat) (stale inside : Bool) :
    (s.resAmp n stale inside).canonical = true := by
  unfold State.resAmp
  refine canonical_ite ?_ ?_
  · exact canonical_fbSignal (canonical_setFb (canonical_setV (canonical_setV (canonical_setV h ..) ..) ..) ..) ..
  · refine canonical_ite ?_ ?_
    · exact canonical_fbClear (canonical_setFb (canonical_setV (canonical_setV (canonical_setV h ..) ..) ..) ..) ..
    · exact canonical_setV (canonical_setV (canonical_setV h ..) ..) ..

theorem canonical_resTrack {s : State} (h : s.canonical = true) (n : Nat) (e : Int) :
    (s.resTrack n e).canonical = true := by
  unfold State.resTrack
  refine canonical_ite ?_ ?_
  · exact canonical_fbPosition (canonical_refFalls (canonical_setFb (canonical_setV (canonical_setV h ..) ..) ..) ..) ..
  · refine canonical_ite ?_ ?_
    · exact canonical_refRises (canonical_setFb (canonical_setV (canonical_setV h ..) ..) ..) ..
    · exact canonical_setFb (canonical_setV (canonical_setV h ..) ..) ..

theorem canonical_resCorrect {s : State} (h : s.canonical = true) (n : Nat) (e : Int) :
    (s.resCorrect n e).canonical = true :=
  canonical_addV (canonical_addV h ..) ..

theorem canonical_execResWindowEnd {s : State} (h : s.canonical = true) {channel : Fin 2} {conv : List Int} {u : State}
    (hu : execResWindowEnd channel conv s = .next u) : u.canonical = true := by
  unfold execResWindowEnd at hu
  refine canonical_fbDone ?_ hu
  refine canonical_expire h _ _ _ ?_
  intro _ h
  refine canonical_moved ?_ ..
  refine canonical_ite ?_ ?_
  · exact canonical_resAmp (canonical_resAdvance (canonical_setDue (canonical_setV (canonical_setV (canonical_each (canonical_coreTo
      (canonical_setDue h ..) ..) _ _ (fun _ h _ _ => canonical_setV (canonical_setV h ..) ..)) ..) ..) ..) ..) ..
  · exact canonical_resTrack (canonical_resCorrect (canonical_resAmp (canonical_resAdvance (canonical_setDue (canonical_setV
      (canonical_setV (canonical_each (canonical_coreTo (canonical_setDue h ..) ..) _ _ (fun _ h _ _ => canonical_setV
    (canonical_setV h ..) ..)) ..) ..) ..) ..) ..) ..) ..

theorem canonical_execExcPeriod {s : State} (h : s.canonical = true) {channel : Fin 2} {amp : Nat} {limit : Bool} {u : State}
    (hu : execExcPeriod channel amp limit s = .next u) : u.canonical = true := by
  unfold execExcPeriod at hu
  dsimp only at hu
  split at hu
  · exact canonical_done h hu
  · split at hu
    · split at hu
      · split at hu
        · exact canonical_fbDone (canonical_fbSignal (canonical_setFb (canonical_setV (canonical_setV h ..) ..) ..) ..) hu
        · split at hu
          · exact canonical_fbDone (canonical_fbClear (canonical_setFb (canonical_setV (canonical_setV h ..) ..) ..) ..) hu
          · exact canonical_done (canonical_setV (canonical_setV h ..) ..) hu
      · split at hu
        · exact canonical_fbDone (canonical_fbSignal (canonical_setFb (canonical_setV (canonical_setV h ..) ..) ..) ..) hu
        · split at hu
          · exact canonical_fbDone (canonical_fbClear (canonical_setFb (canonical_setV (canonical_setV h ..) ..) ..) ..) hu
          · exact canonical_done (canonical_setV (canonical_setV h ..) ..) hu
    · split at hu
      · split at hu
        · exact canonical_fbDone (canonical_fbSignal (canonical_setFb (canonical_setV (canonical_setV h ..) ..) ..) ..) hu
        · split at hu
          · exact canonical_fbDone (canonical_fbClear (canonical_setFb (canonical_setV (canonical_setV h ..) ..) ..) ..) hu
          · exact canonical_done (canonical_setV (canonical_setV h ..) ..) hu
      · split at hu
        · exact canonical_fbDone (canonical_fbSignal (canonical_setFb (canonical_setV (canonical_setV h ..) ..) ..) ..) hu
        · split at hu
          · exact canonical_fbDone (canonical_fbClear (canonical_setFb (canonical_setV (canonical_setV h ..) ..) ..) ..) hu
          · exact canonical_done (canonical_setV (canonical_setV h ..) ..) hu

theorem canonical_execSsiWindow {s : State} (h : s.canonical = true) {channel : Fin 8} {u : State}
    (hu : execSsiWindow channel s = .next u) : u.canonical = true :=
  canonical_fbDone (canonical_expire h _ _ _ (fun _ h => canonical_ssiStart (canonical_openSlow h ..) ..)) hu

theorem canonical_ssiRead {s : State} (h : s.canonical = true) (n : Nat) (at' : List Nat) (pins : List PinChange) (l : List Bool) :
    (State.ssiRead n at' pins l s).2.canonical = true := by
  induction at' generalizing s pins l with
  | nil => exact canonical_fbPins h ..
  | cons a rest ih => exact ih (canonical_fbRun (canonical_fbPins h ..) ..) ..

theorem canonical_ssiGood {s : State} (h : s.canonical = true) (n pos : Nat) :
    (s.ssiGood n pos).canonical = true := by
  unfold State.ssiGood
  refine canonical_ite ?_ ?_
  · refine canonical_fbPosition ?_ ..
    refine canonical_ite ?_ ?_
    · exact canonical_setOn (canonical_refFalls (canonical_setV (canonical_addF h ..) ..) ..) ..
    · exact canonical_setV (canonical_addF h ..) ..
  · refine canonical_ite ?_ ?_
    · exact canonical_refRises (canonical_setOn (canonical_moved (canonical_fbDir (canonical_setV (canonical_setF (canonical_setV
        (canonical_setOn (canonical_setV (canonical_ite (canonical_setV h ..) h) ..) ..) ..) ..) ..) ..) ..) ..) ..
    · exact canonical_moved (canonical_fbDir (canonical_setV (canonical_setF (canonical_setV (canonical_setOn (canonical_setV
        (canonical_ite (canonical_setV h ..) h) ..) ..) ..) ..) ..) ..) ..

theorem canonical_execSsiFrameDone {s : State} (h : s.canonical = true) {channel : Fin 8} {pins : List PinChange} {u : State}
    (hu : execSsiFrameDone channel pins s = .next u) : u.canonical = true := by
  unfold execSsiFrameDone at hu
  refine canonical_fbDone ?_ hu
  refine canonical_expire h _ _ _ ?_
  intro _ h
  dsimp only
  split
  · refine canonical_ite ?_ ?_
    · exact canonical_fbSignal (canonical_setFb (canonical_countV (canonical_setV (canonical_ssiRead h ..) ..) ..) ..) ..
    · exact canonical_countV (canonical_setV (canonical_ssiRead h ..) ..) ..
  · exact canonical_ssiGood (canonical_fbClear (canonical_setFb (canonical_setV (canonical_ssiRead h ..) ..) ..) ..) ..

theorem canonical_execSpeedWindowEnd {s : State} (h : s.canonical = true) {channel : Fin 8} {u : State}
    (hu : execSpeedWindowEnd channel s = .next u) : u.canonical = true := by
  unfold execSpeedWindowEnd at hu
  refine canonical_fbDone ?_ hu
  refine canonical_fbExpire h _ _ _ _ ?_
  intro _ h
  refine canonical_setF ?_ ..
  refine canonical_ite ?_ ?_
  · exact canonical_addF (canonical_setFb (canonical_fbRun (canonical_setV (canonical_setV (canonical_setV
      (canonical_openSlow h ..) ..) ..) ..) ..) ..) ..
  · refine canonical_ite ?_ ?_
    · exact canonical_addF (canonical_setFb (canonical_fbRun (canonical_setV (canonical_setV (canonical_setV
        (canonical_openSlow h ..) ..) ..) ..) ..) ..) ..
    · exact canonical_fbRun (canonical_setV (canonical_setV (canonical_setV (canonical_openSlow h ..) ..) ..) ..) ..

theorem canonical_execSpeedZeroTime {s : State} (h : s.canonical = true) {channel : Fin 8} {u : State}
    (hu : execSpeedZeroTime channel s = .next u) : u.canonical = true :=
  canonical_fbDone (canonical_fbExpire h _ _ _ _ (fun _ h => canonical_setF h ..)) hu

theorem canonical_slotTrigger {s : State} (h : s.canonical = true) (n at' : Nat) :
    (s.slotTrigger n at').canonical = true := by
  unfold State.slotTrigger
  refine canonical_ite h ?_
  refine canonical_ite (canonical_raise (canonical_addF h ..) ..) ?_
  exact canonical_setV (canonical_setOn (canonical_setV (canonical_setV h ..) ..) ..) ..

theorem canonical_execSlotTrigger {s : State} (h : s.canonical = true) {slot : Fin 48} {u : State}
    (hu : execSlotTrigger slot s = .next u) : u.canonical = true := by
  unfold execSlotTrigger at hu
  refine canonical_done ?_ hu
  refine canonical_ite ?_ ?_
  · exact canonical_expire h _ _ _ fun _ h => canonical_slotTrigger (canonical_setDue h ..) ..
  · exact canonical_expire h _ _ _ fun _ h => canonical_slotTrigger h ..

theorem canonical_execSlotRunStart {s : State} (h : s.canonical = true) {lane : Fin 4} {t : Nat} {u : State}
    (hu : execSlotRunStart lane t s = .next u) : u.canonical = true := by
  unfold execSlotRunStart at hu
  refine canonical_done ?_ hu
  split
  · exact canonical_parts h
  · refine canonical_ite (canonical_parts h) ?_
    exact canonical_openLoop (canonical_parts (canonical_setV (canonical_setOn (canonical_setOn (canonical_parts h) ..) ..) ..)) ..

theorem canonical_slotCommit {s : State} (h : s.canonical = true) (r : Run) :
    (s.slotCommit r).canonical = true := by
  unfold State.slotCommit
  refine canonical_ite h ?_
  refine canonical_each h _ _ ?_
  intro _ h _ _
  refine canonical_setDue ?_ ..
  refine canonical_setF ?_ ..
  split
  · exact canonical_setF (canonical_setF (canonical_setF (canonical_setF (canonical_setF h ..) ..) ..) ..) ..
  · exact canonical_setF (canonical_setF (canonical_setF h ..) ..) ..

theorem canonical_slotMirror {s : State} (h : s.canonical = true) (r : Run) (outs : List Int) :
    (s.slotMirror r outs).canonical = true := by
  unfold State.slotMirror
  refine canonical_ite (canonical_addF h ..) ?_
  exact canonical_each (canonical_setF (canonical_setF (canonical_each (canonical_each (canonical_addV h ..) _ _
    (fun _ h _ _ => canonical_setV h ..)) _ _ (fun _ h _ _ => canonical_setF h ..)) ..) ..) _ _ fun _ h _ _ => canonical_setF h ..

theorem canonical_slotFlags {s : State} (h : s.canonical = true) (r : Run) :
    (s.slotFlags r).canonical = true :=
  canonical_setFb (canonical_setFb (canonical_setFb (canonical_setFb (canonical_setFb (canonical_setFb
    (canonical_setFb h ..) ..) ..) ..) ..) ..) ..

theorem canonical_coCause {s : State} (h : s.canonical = true) (inst : Nat) (b : Bool) (slot : Nat) (x : Int) :
    (s.coCause inst b slot x).canonical = true :=
  canonical_ite (canonical_clearCause h ..) (canonical_ite h (canonical_raise h ..))

theorem canonical_slotCo {s : State} (h : s.canonical = true) (r : Run) :
    (s.slotCo r).canonical = true :=
  canonical_coCause (canonical_coCause h ..) ..

theorem canonical_absence {s : State} (h : s.canonical = true) (k code inst : Nat) (cond : Bool) :
    (s.absence k code inst cond).canonical = true :=
  canonical_ite (canonical_lapse h ..) (canonical_ite h (canonical_openSlow h ..))

theorem canonical_chgFault {s : State} (h : s.canonical = true) (code reaction : Nat) (t : Stage) (d0 : Nat) :
    (s.chgFault code reaction t d0).canonical = true :=
  canonical_chgSync (canonical_ite (canonical_raise h ..) (canonical_chgSnap (canonical_raise h ..) ..))

theorem canonical_ppTo {s : State} (h : s.canonical = true) (st : Nat) :
    (s.ppTo st).canonical = true := by
  unfold State.ppTo
  refine canonical_ite ?_ ?_
  · refine canonical_ite ?_ ?_
    · refine canonical_ite ?_ ?_
      · exact canonical_setOn (canonical_setFb (canonical_setF (canonical_when h _ _ (fun _ h => canonical_setOn h ..)) ..) ..) ..
      · exact canonical_setFb (canonical_setF (canonical_when h _ _ (fun _ h => canonical_setOn h ..)) ..) ..
    · refine canonical_noteEnds ?_ ..
      refine canonical_ite ?_ ?_
      · exact canonical_setOn (canonical_setFb (canonical_setF (canonical_when h _ _ (fun _ h => canonical_setOn h ..)) ..) ..) ..
      · exact canonical_setFb (canonical_setF (canonical_when h _ _ (fun _ h => canonical_setOn h ..)) ..) ..
  · refine canonical_noteEnds ?_ ..
    refine canonical_close ?_ ..
    refine canonical_ite ?_ ?_
    · refine canonical_ite ?_ ?_
      · exact canonical_setOn (canonical_setFb (canonical_setF (canonical_when h _ _ (fun _ h => canonical_setOn h ..)) ..) ..) ..
      · exact canonical_setFb (canonical_setF (canonical_when h _ _ (fun _ h => canonical_setOn h ..)) ..) ..
    · refine canonical_noteEnds ?_ ..
      refine canonical_ite ?_ ?_
      · exact canonical_setOn (canonical_setFb (canonical_setF (canonical_when h _ _ (fun _ h => canonical_setOn h ..)) ..) ..) ..
      · exact canonical_setFb (canonical_setF (canonical_when h _ _ (fun _ h => canonical_setOn h ..)) ..) ..

theorem canonical_takeOver {s : State} (h : s.canonical = true) :
    s.takeOver.canonical = true :=
  canonical_addF (canonical_setOn h ..) ..

theorem canonical_qualNow {s : State} (h : s.canonical = true) :
    s.qualNow.canonical = true := by
  unfold State.qualNow
  refine canonical_ite ?_ ?_
  · exact canonical_noteAt (canonical_clearCause (canonical_ppTo (canonical_addF (canonical_setFb (canonical_close h ..) ..) ..) ..) ..) ..
  · exact canonical_addF (canonical_setFb (canonical_close h ..) ..) ..

theorem canonical_qualLate {s : State} (h : s.canonical = true) :
    s.qualLate.canonical = true :=
  canonical_ite (canonical_qualNow h) h

theorem canonical_requalify {s : State} (h : s.canonical = true) :
    s.requalify.canonical = true :=
  canonical_setOn (canonical_close (canonical_setFb (canonical_qualLate h) ..) ..) ..

theorem canonical_startFeeding {s : State} (h : s.canonical = true) :
    s.startFeeding.canonical = true :=
  canonical_noteEnds (canonical_setV (canonical_setFb (canonical_setV (canonical_setOn (canonical_setV (canonical_setV
    (canonical_ppTo h ..) ..) ..) ..) ..) ..) ..) ..

theorem canonical_ppStep {s : State} (h : s.canonical = true) (run : Bool) :
    (s.ppStep run).canonical = true := by
  unfold State.ppStep
  refine canonical_chgSync ?_
  refine canonical_timed ?_ ..
  refine canonical_ite ?_ ?_
  · exact canonical_ite (canonical_chgSnap (canonical_takeOver (canonical_ppTo h ..)) ..) (canonical_ppTo h ..)
  · refine canonical_ite (canonical_setV (canonical_ppTo h ..) ..) ?_
    refine canonical_ite ?_ ?_
    · refine canonical_ite ?_ ?_
      · exact canonical_chgSnap (canonical_takeOver (canonical_setV (canonical_noteLastingAt (canonical_requalify
          (canonical_ppTo h ..)) ..) ..)) ..
      · exact canonical_noteLastingAt (canonical_setV h ..) ..
    · exact canonical_ite (canonical_ite (canonical_startFeeding h) (canonical_chgSnap (canonical_raise h ..) ..)) h

theorem canonical_pfcEnd {s : State} (h : s.canonical = true) (r : Run) : (s.pfcEnd r).canonical = true := by
  unfold State.pfcEnd
  extract_lets u target s1 s2 s3 sag s4 s5 high s6 s7 s8
  have h4 : s4.canonical = true := canonical_setV (canonical_setF (canonical_setF (canonical_setV (canonical_setV (canonical_setV
    (canonical_setV (canonical_setV h ..) ..) ..) ..) ..) ..) ..) ..
  have h5 : s5.canonical = true := canonical_ite h4 (canonical_noteEnds h4 ..)
  have h6 : s6.canonical = true := canonical_absence (canonical_setV h5 ..) ..
  have h7 : s7.canonical = true := canonical_ite (canonical_chgFault h6 ..) h6
  exact canonical_ppStep (canonical_ite (canonical_setV h7 ..) h7) ..

theorem canonical_dabEnd {s : State} (h : s.canonical = true) (r : Run) : (s.dabEnd r).canonical = true := by
  unfold State.dabEnd
  extract_lets m s1 s2 s3 c s4 st s5 s6a s6 ov s7 s8 oc s9 s10 s11 s12
  have h4 : s4.canonical = true := canonical_setV (canonical_setFb (canonical_setF (canonical_setF (canonical_setV (canonical_setV
    (canonical_setV (canonical_setV (canonical_setV h ..) ..) ..) ..) ..) ..) ..) ..) ..
  have h5 : s5.canonical = true := canonical_ite (canonical_chgFinish h4 ..) h4
  have h6 : s6.canonical = true := canonical_ite (canonical_ite (canonical_setV (canonical_setOn h5 ..) ..) (canonical_setOn h5 ..)) h5
  have h7 : s7.canonical = true := canonical_absence (canonical_setV h6 ..) ..
  have h8 : s8.canonical = true := canonical_ite (canonical_chgFault h7 ..) h7
  have h9 : s9.canonical = true := canonical_absence h8 ..
  have h10 : s10.canonical = true := canonical_ite h9 (canonical_timed h9 ..)
  have h12 : s12.canonical = true := canonical_ite (canonical_chgFault (canonical_setV h10 ..) ..) (canonical_setV h10 ..)
  exact canonical_ite h12 (canonical_chgSync (canonical_clearCause h12 ..))

theorem canonical_actSupply {s : State} (h : s.canonical = true) (a : Nat) (cond : Bool) (x : Var) (k code reaction : Nat) (bit : Fld)
    (vact : Int) :
    (s.actSupply a cond x k code reaction bit vact).canonical = true := by
  unfold State.actSupply
  refine canonical_ite ?_ ?_
  · exact canonical_raise (canonical_setFb (canonical_absence (canonical_setV h ..) ..) ..) ..
  · exact canonical_absence (canonical_setV h ..) ..

theorem canonical_actMove {s : State} (h : s.canonical = true) (a n : Nat) :
    (s.actMove a n).canonical = true :=
  canonical_close (canonical_openSlow (canonical_setV (canonical_addF (canonical_setFb (canonical_setF (canonical_setF (canonical_ite
    (canonical_each h _ _ (fun _ h _ _ => canonical_setV h ..)) h) ..) ..) ..) ..) ..) ..) ..

theorem canonical_actBlock {s : State} (h : s.canonical = true) (a : Nat) (pos : Int) (clamped : Bool) :
    (s.actBlock a pos clamped).canonical = true := by
  unfold State.actBlock
  refine canonical_ite (canonical_close h ..) ?_
  refine canonical_ite (canonical_lapse h ..) ?_
  refine canonical_ite h ?_
  refine canonical_ite (canonical_setV (canonical_setV h ..) ..) ?_
  exact canonical_openSlow (canonical_setV (canonical_setV h ..) ..) ..

theorem canonical_actEnd {s : State} (h : s.canonical = true) (r : Run) : (s.actEnd r).canonical = true := by
  unfold State.actEnd
  split
  · exact h
  · extract_lets n m pos sp vact s1 s2 low high s3 s4 chop s5 s6 s7 new s8 t st far s9b s9 moving s10 s11 above
    have h2 : s2.canonical = true := canonical_setF (canonical_setF (canonical_setF (canonical_setF h ..) ..) ..) ..
    have h4 : s4.canonical = true := canonical_actSupply (canonical_actSupply h2 ..) ..
    have h6 : s6.canonical = true := canonical_setFb (canonical_each h4 _ _ fun _ h _ _ => canonical_setV h ..) ..
    have h8 : s8.canonical = true :=
      canonical_setOn (canonical_ite (canonical_setV (canonical_setV (canonical_setOn h6 ..) ..) ..) h6) ..
    have h9b : s9b.canonical = true := canonical_ite h8 (canonical_raise (canonical_addF h8 ..) ..)
    have h9 : s9.canonical = true := by
      refine canonical_ite (canonical_ite h8 (canonical_actStop h8 ..)) ?_
      refine canonical_ite (canonical_ite (canonical_actMove h8 ..) h8) ?_
      refine canonical_ite (canonical_openSlow (canonical_setV (canonical_setFb h8 ..) ..) ..) ?_
      refine canonical_ite (canonical_actMove h8 ..) ?_
      exact canonical_ite (canonical_ite (canonical_actMove h9b ..) h9b) h8
    have h10 : s10.canonical = true :=
      canonical_ite (canonical_close h9 ..) (canonical_ite (canonical_lapse h9 ..) (canonical_ite h9 (canonical_openSlow h9 ..)))
    exact canonical_timed (canonical_actBlock h10 ..) ..

theorem canonical_slotHook {s : State} (h : s.canonical = true) (r : Run) :
    (s.slotHook r).canonical = true := by
  unfold State.slotHook
  split
  · exact canonical_slotCo h ..
  · exact canonical_pfcEnd h ..
  · exact canonical_dabEnd h ..
  · exact canonical_actEnd h ..
  · exact h

theorem canonical_slotVsat100 {s : State} (h : s.canonical = true) (r : Run) :
    (s.slotVsat100 r).canonical = true := by
  unfold State.slotVsat100
  refine canonical_ite (canonical_clearCause (canonical_setV h ..) ..) ?_
  exact canonical_ite (canonical_raise (canonical_setV h ..) ..) (canonical_setV h ..)

theorem canonical_slotError {s : State} (h : s.canonical = true) (r : Run) :
    (s.slotError r).canonical = true := by
  unfold State.slotError
  refine canonical_ite ?_ ?_
  · exact canonical_lapse (canonical_ite (canonical_setFb h ..) (canonical_clearCause (canonical_setFb h ..) ..)) ..
  · refine canonical_ite ?_ ?_
    · refine canonical_ite ?_ ?_
      · exact canonical_ite (canonical_setFb h ..) (canonical_clearCause (canonical_setFb h ..) ..)
      · exact canonical_openLoop (canonical_ite (canonical_setFb h ..) (canonical_clearCause (canonical_setFb h ..) ..)) ..
    · exact canonical_close (canonical_ite (canonical_setFb h ..) (canonical_clearCause (canonical_setFb h ..) ..)) ..

theorem canonical_publish {s : State} (h : s.canonical = true) (r : Run) :
    (s.publish r).canonical = true := by
  unfold State.publish
  refine canonical_slotHook ?_ ..
  refine canonical_slotVsat100 ?_ ..
  refine canonical_slotError ?_ ..
  refine canonical_slotCommit ?_ ..
  refine canonical_slotMirror ?_ ..
  refine canonical_slotFlags ?_ ..
  refine canonical_when ?_ _ _ fun _ h => canonical_setOn h ..
  refine canonical_ite ?_ ?_
  · exact canonical_each (canonical_each h _ _ (fun _ h _ _ => canonical_setV (canonical_setV h ..) ..)) _ _ fun _ h _ _ => canonical_setV
      (canonical_setV (canonical_setV h ..) ..) ..
  · exact canonical_setV (canonical_each (canonical_each h _ _ (fun _ h _ _ => canonical_setV (canonical_setV h ..) ..)) _ _
      (fun _ h _ _ => canonical_setV (canonical_setV (canonical_setV h ..) ..) ..)) ..

theorem canonical_slotCount {s : State} (h : s.canonical = true) (r : Run) :
    (s.slotCount r).canonical = true :=
  canonical_setF (canonical_setF (canonical_addF h ..) ..) ..

theorem canonical_execSlotRunEnd {s : State} (h : s.canonical = true) {lane : Fin 4} {u : State}
    (hu : execSlotRunEnd lane s = .next u) : u.canonical = true := by
  unfold execSlotRunEnd at hu
  refine canonical_done ?_ hu
  refine canonical_expire h _ _ _ ?_
  intro _ h
  split
  · exact h
  · refine canonical_ite (canonical_parts h) ?_
    exact canonical_each (canonical_publish (canonical_slotCount (canonical_setOn
      (canonical_parts h) ..) ..) ..) _ _ fun _ h _ _ => canonical_ite (canonical_setDue h ..) h

theorem canonical_execFollowingError {s : State} (h : s.canonical = true) {slot : Fin 48} {u : State}
    (hu : execFollowingError slot s = .next u) : u.canonical = true :=
  canonical_done (canonical_expire h _ _ _ (fun _ h => canonical_ite h (canonical_raise (canonical_addF h ..) ..))) hu

theorem canonical_execSpLost {s : State} (h : s.canonical = true) {slot : Fin 48} {u : State}
    (hu : execSpLost slot s = .next u) : u.canonical = true := by
  unfold execSpLost at hu
  refine canonical_done ?_ hu
  refine canonical_ite (canonical_expire h _ _ _ (fun _ h => canonical_spLost h ..)) ?_
  exact canonical_ite (canonical_spLost h ..) h

theorem canonical_execSetpointWrite {s : State}
    (h : s.canonical = true) {r : Req} {slot : Fin 48} {sub : Fin 2} {value : Word} {t : Nat} {u : State}
    (hu : execSetpointWrite r slot sub value t s = .next u) : u.canonical = true :=
  canonical_writeField h hu

theorem canonical_execOpenLoop {s : State} (h : s.canonical = true) {r : Req} {slot t : Nat} {u : State}
    (hu : execOpenLoop r slot t s = .next u) : u.canonical = true :=
  canonical_serveAt h hu

theorem canonical_execCloseLoop {s : State} (h : s.canonical = true) {r : Req} {slot t : Nat} {u : State}
    (hu : execCloseLoop r slot t s = .next u) : u.canonical = true :=
  canonical_serveAt h hu

theorem canonical_commitLeg {s : State} (h : s.canonical = true) (n : Nat) :
    (s.commitLeg n).canonical = true := by
  unfold State.commitLeg
  refine canonical_setFb ?_ ..
  refine canonical_setOn ?_ ..
  refine canonical_setV ?_ ..
  refine canonical_setOn ?_ ..
  refine canonical_each (canonical_when (canonical_recordTouched h) _ _ (fun _ h => canonical_addF h ..)) _ _ ?_
  intro _ h _ _
  split
  · exact canonical_setV h ..
  · exact h

theorem canonical_execCommitComplete {s : State} (h : s.canonical = true) {leg : Fin 32} {u : State}
    (hu : execCommitComplete leg s = .next u) : u.canonical = true :=
  canonical_done (canonical_expire h _ _ _ (fun _ h => canonical_commitLeg h ..)) hu

theorem canonical_execHostCommit {s : State} (h : s.canonical = true) {r : Req} {leg : Fin 32} {value : Word} {t : Nat} {u : State}
    (hu : execHostCommit r leg value t s = .next u) : u.canonical = true :=
  canonical_writeField h hu

theorem canonical_takePending {s : State} (h : s.canonical = true) (t : Stage) (n r : Nat) :
    (s.takePending t n r).1.canonical = true := by
  unfold State.takePending
  refine canonical_ite_fst ?_ ?_
  · exact canonical_setFb (canonical_setOn (canonical_setF (canonical_when (canonical_setOn (canonical_when (canonical_when h _ _
      (fun _ h => canonical_addF h ..)) _ _ (fun _ h => canonical_noteAt (canonical_addF h ..) ..)) ..) _ _
    (fun _ h => canonical_addF h ..)) ..) ..) ..
  · refine canonical_ite_fst ?_ ?_
    · exact canonical_setOn (canonical_when (canonical_addF (canonical_setFb (canonical_setOn (canonical_when (canonical_each
        (canonical_when h _ _ (fun _ h => canonical_setOn h ..)) _ _ (fun _ h _ _ => canonical_setF h ..)) _ _
      (fun _ h => canonical_setF h ..)) ..) ..) ..) _ _ (fun _ h => canonical_noteAt (canonical_addF h ..) ..)) ..
    · exact canonical_when (canonical_when h _ _ (fun _ h => canonical_setOn h ..)) _ _ fun _ h => canonical_setOn h ..

theorem canonical_discardCarry {s : State} (h : s.canonical = true) (n : Nat) (x : Int) :
    (s.discardCarry n x).canonical = true :=
  canonical_ite h (canonical_setF (canonical_setV h ..) ..)

theorem canonical_scheduleSegs {s : State} (h : s.canonical = true) (n : Nat) (first : Bool) (e lv : Nat) (segs : List Seg) :
    (s.scheduleSegs n first e lv segs).canonical = true := by
  induction segs generalizing s first e lv with
  | nil => exact canonical_setV h ..
  | cons a rest ih => exact ih (canonical_levelChange h ..) ..

theorem canonical_runInterval {s : State} (h : s.canonical = true) (t : Stage) (n r : Nat) (d : Int) :
    (s.runInterval t n r d).canonical = true := by
  unfold State.runInterval
  refine canonical_ite ?_ ?_
  · exact canonical_setV (canonical_levelChange (canonical_when (canonical_setV h ..) _ _ (fun _ h => canonical_setF
      (canonical_discardCarry h ..) ..)) ..) ..
  · refine canonical_ite (canonical_setV (canonical_levelChange (canonical_setV h ..) ..) ..) ?_
    refine canonical_ite ?_ ?_
    · refine canonical_setV ?_ ..
      refine canonical_levelChange ?_ ..
      refine canonical_ite ?_ ?_
      · exact canonical_setV (canonical_setF (canonical_discardCarry (canonical_setV h ..) ..) ..) ..
      · exact canonical_setF (canonical_discardCarry (canonical_setV h ..) ..) ..
    · exact canonical_scheduleSegs (canonical_setV (canonical_setV (canonical_addF (canonical_setF (canonical_discardCarry
        (canonical_setV h ..) ..) ..) ..) ..) ..) ..

theorem canonical_middleOf {s : State} (h : s.canonical = true) (t : Stage) (n : Nat) :
    (s.middleOf t n).canonical = true :=
  canonical_setDue h ..

theorem canonical_startOf {s : State} (h : s.canonical = true) (t : Stage) (nx : Nat) :
    (s.startOf t nx).canonical = true :=
  canonical_ite (canonical_setV h ..) (canonical_setDue (canonical_setV h ..) ..)

theorem canonical_nextReload {s : State} (h : s.canonical = true) (t : Stage) (n r : Nat) (d : Int) :
    (s.nextReload t n r d).canonical = true := by
  unfold State.nextReload
  dsimp only
  split
  · exact h
  · exact canonical_setDue (canonical_setV h ..) ..
  · refine canonical_ite ?_ ?_
    · exact canonical_middleOf (canonical_startOf (canonical_setDue (canonical_setV h ..) ..) ..) ..
    · exact canonical_setDue (canonical_setV h ..) ..

theorem canonical_finishStop {s : State} (h : s.canonical = true) (t : Stage) :
    (s.finishStop t).canonical = true :=
  canonical_ite (canonical_settle (canonical_toStopped h ..)) h

theorem canonical_legReload {s : State} (h : s.canonical = true) (n : Nat) : (s.legReload n).canonical = true := by
  refine canonical_expire h _ _ _ fun s h => ?_
  dsimp only
  refine canonical_ite (canonical_finishStop ?_ ..) ?_
  all_goals
    refine canonical_nextReload (canonical_runInterval (canonical_when ?_ _ _ fun _ h => canonical_setOn h ..) ..) ..
    refine canonical_takePending (canonical_ite ?_ (canonical_noteEnds ?_ ..)) ..
    all_goals
      refine canonical_setOn (canonical_setFb (canonical_when ?_ _ _ fun _ h => canonical_setOn h ..) ..) ..
      exact canonical_setOn (canonical_setV (canonical_setV (canonical_recordTouched h) ..) ..) ..

theorem canonical_execLegReload {s : State} (h : s.canonical = true) {leg : Fin 32} {u : State}
    (hu : execLegReload leg s = .next u) : u.canonical = true :=
  canonical_done (canonical_legReload h ..) hu

theorem canonical_execPeriodWrite {s : State} (h : s.canonical = true) {r : Req} {stage : Stage} {value : Word} {t : Nat} {u : State}
    (hu : execPeriodWrite r stage value t s = .next u) : u.canonical = true :=
  canonical_writeField h hu

theorem canonical_wholeCycles {s : State} (h : s.canonical = true) :
    s.wholeCycles.canonical = true :=
  canonical_parts (canonical_each h _ _ (fun _ h _ _ => canonical_setOn h ..))

theorem canonical_execDllUnlock {s : State} (h : s.canonical = true) {span : Nat} {u : State}
    (hu : execDllUnlock span s = .next u) : u.canonical = true :=
  canonical_done (canonical_raise (canonical_setF (canonical_setFb (canonical_setFb (canonical_recordTouched
    (canonical_wholeCycles h)) ..) ..) ..) ..) hu

theorem canonical_execDllRelocked {s : State} (h : s.canonical = true) {span : Nat} {u : State}
    (hu : execDllRelocked span s = .next u) : u.canonical = true :=
  canonical_done (canonical_note (canonical_clearCause (canonical_setF (canonical_setFb (canonical_setFb
    (canonical_recordTouched h) ..) ..) ..) ..) ..) hu

theorem canonical_syncLose {s : State} (h : s.canonical = true) (t : Stage) :
    (s.syncLose t).canonical = true := by
  unfold State.syncLose
  refine canonical_ite ?_ ?_
  · exact canonical_linkSnap (canonical_snapFrom (canonical_openSlow (canonical_setFb (canonical_raise (canonical_addF (canonical_close
      (canonical_setFb (canonical_setFb h ..) ..) ..) ..) ..) ..) ..)) ..
  · exact canonical_raise (canonical_addF (canonical_close (canonical_setFb (canonical_setFb h ..) ..) ..) ..) ..

theorem canonical_syncLock {s : State} (h : s.canonical = true) (t : Stage) (per : Nat) :
    (s.syncLock t per).canonical = true := by
  unfold State.syncLock
  refine canonical_ite ?_ ?_
  · exact canonical_linkSnap (canonical_snapFrom (canonical_setFb (canonical_setFb (canonical_setOn (canonical_setOn (canonical_close
      (canonical_noteAt (canonical_clearCause (canonical_setV (canonical_setFb
    (canonical_setFb h ..) ..) ..) ..) ..) ..) ..) ..) ..) ..)) ..
  · exact canonical_noteAt (canonical_clearCause (canonical_setV (canonical_setFb (canonical_setFb h ..) ..) ..) ..) ..

theorem canonical_execSyncInEdge {s : State} (h : s.canonical = true) {stamp : Nat} {u : State}
    (hu : execSyncInEdge stamp s = .next u) : u.canonical = true := by
  unfold execSyncInEdge at hu
  dsimp only at hu
  split at hu
  · exact canonical_done (canonical_setV (canonical_recordTouched (canonical_parts h)) ..) hu
  · refine canonical_done ?_ hu
    refine canonical_each (canonical_setF (canonical_setV (canonical_setV (canonical_setV (canonical_recordTouched
      (canonical_parts h)) ..) ..) ..) ..) _ _ ?_
    intro _ h _ _
    refine canonical_ite ?_ ?_
    · refine canonical_setDue ?_ ..
      refine canonical_ite (canonical_ite (canonical_setV h ..) (canonical_syncLose h ..)) ?_
      exact canonical_ite (canonical_syncLock h ..) h
    · refine canonical_ite (canonical_ite (canonical_setV h ..) (canonical_syncLose h ..)) ?_
      exact canonical_ite (canonical_syncLock h ..) h

theorem canonical_execSyncInTimeout {s : State} (h : s.canonical = true) {t : Stage} {u : State}
    (hu : execSyncInTimeout t s = .next u) : u.canonical = true :=
  canonical_done (canonical_expire h _ _ _ (fun _ h => canonical_ite (canonical_syncLose h ..) h)) hu

theorem canonical_compared {s : State} (h : s.canonical = true) (t : Stage) (conv : List Int) :
    (s.compared t conv).canonical = true :=
  canonical_cmpTake (canonical_coreTo h ..) ..

theorem canonical_tripPeriod {s : State} (h : s.canonical = true) (t : Stage) :
    (s.tripPeriod t).canonical = true := by
  unfold State.tripPeriod
  split
  · exact canonical_ite (canonical_setOn (canonical_newTripPeriod h ..) ..) h
  · exact h

theorem canonical_periodTag {s : State} (h : s.canonical = true) (t : Stage) :
    (s.periodTag t).2.canonical = true :=
  canonical_ite_snd h (canonical_setV (canonical_nextTag h) ..)

theorem canonical_registerTrip {s : State} (h : s.canonical = true) (n : Nat) : (s.registerTrip n).canonical = true := by
  unfold State.registerTrip
  dsimp only
  exact canonical_ite (canonical_tripPeriod h ..)
    (canonical_parts (canonical_setV (canonical_setV (canonical_periodTag (canonical_tripPeriod h ..) ..) ..) ..))

theorem canonical_multiLeg {s : State} (h : s.canonical = true) (n : Nat) : (s.multiLeg n).canonical = true := by
  have hm := canonical_setF (canonical_registerTrip h n) Reg.GD_STAGE_STATUS_NOW (Stage.ofLeg n).idx
  unfold State.multiLeg
  dsimp only
  have ht := fun v w x y => canonical_periodTag (canonical_addF (canonical_setFb (hm v w) Reg.GD_STAGE_STATUS_CAUSE x true 0)
    Reg.GD_STAGE_COUNTERS x 1 0) y
  refine canonical_ite (canonical_ite (canonical_carryOut ?_ ..) ?_) (hm ..)
  all_goals exact canonical_setV (canonical_raise (ht ..) ..) ..

theorem canonical_tripMiddle {s : State} (h : s.canonical = true) (n at' : Nat) :
    (s.tripMiddle n at').canonical = true :=
  canonical_ite (canonical_middleOf (canonical_setV h ..) ..) h

theorem canonical_setCommand {s : State} (h : s.canonical = true) (c : Nat) (b : Bool) :
    (s.setCommand c b).canonical = true :=
  canonical_setFb (canonical_setOn h ..) ..

theorem canonical_tripOutput {s : State} (h : s.canonical = true) (n : Nat) :
    (s.tripOutput n).canonical = true := by
  unfold State.tripOutput
  refine canonical_ite ?_ ?_
  · refine canonical_setV ?_ ..
    refine canonical_ite ?_ ?_
    · refine canonical_ite ?_ ?_
      · exact canonical_setOn (canonical_setV (canonical_setOn (canonical_setV (canonical_setOn (canonical_setCommand (canonical_parts
          (canonical_setOn (canonical_setOn (canonical_tripMiddle h ..) ..) ..)) ..) ..) ..) ..) ..) ..
      · exact canonical_setCommand (canonical_parts (canonical_setOn (canonical_setOn (canonical_tripMiddle h ..) ..) ..)) ..
    · refine canonical_addOn ?_ ..
      refine canonical_ite ?_ ?_
      · exact canonical_setOn (canonical_setV (canonical_setOn (canonical_setV (canonical_setOn (canonical_setCommand (canonical_parts
          (canonical_setOn (canonical_setOn (canonical_tripMiddle h ..) ..) ..)) ..) ..) ..) ..) ..) ..
      · exact canonical_setCommand (canonical_parts (canonical_setOn (canonical_setOn (canonical_tripMiddle h ..) ..) ..)) ..
  · refine canonical_setV ?_ ..
    refine canonical_ite ?_ ?_
    · refine canonical_setOn ?_ ..
      refine canonical_setV ?_ ..
      refine canonical_setOn ?_ ..
      refine canonical_setV ?_ ..
      refine canonical_setOn ?_ ..
      refine canonical_setCommand ?_ ..
      refine canonical_ite ?_ ?_
      · exact canonical_setOn (canonical_setV (canonical_setOn (canonical_setV (canonical_setOn (canonical_setCommand (canonical_parts
          (canonical_setOn (canonical_setOn (canonical_tripMiddle h ..) ..) ..)) ..) ..) ..) ..) ..) ..
      · exact canonical_setCommand (canonical_parts (canonical_setOn (canonical_setOn (canonical_tripMiddle h ..) ..) ..)) ..
    · refine canonical_setCommand ?_ ..
      refine canonical_ite ?_ ?_
      · exact canonical_setOn (canonical_setV (canonical_setOn (canonical_setV (canonical_setOn (canonical_setCommand (canonical_parts
          (canonical_setOn (canonical_setOn (canonical_tripMiddle h ..) ..) ..)) ..) ..) ..) ..) ..) ..
      · exact canonical_setCommand (canonical_parts (canonical_setOn (canonical_setOn (canonical_tripMiddle h ..) ..) ..)) ..

theorem canonical_countTrip {s : State} (h : s.canonical = true) (n : Nat) (soft counted : Bool) :
    (s.countTrip n soft counted).canonical = true := by
  unfold State.countTrip
  refine canonical_ite h ?_
  refine canonical_ite (canonical_addF (canonical_addF (canonical_setOn h ..) ..) ..) ?_
  refine canonical_ite ?_ ?_
  · refine canonical_raise ?_ ..
    refine canonical_setV ?_ ..
    refine canonical_parts ?_
    refine canonical_legOff ?_ ..
    refine canonical_endCommands ?_ ..
    refine canonical_addF ?_ ..
    refine canonical_setFb ?_ ..
    refine canonical_ite ?_ ?_
    · exact canonical_openSlow (canonical_setF (canonical_addF (canonical_setOn h ..) ..) ..) ..
    · exact canonical_addF (canonical_addF (canonical_setOn h ..) ..) ..
  · refine canonical_ite ?_ ?_
    · exact canonical_openSlow (canonical_setF (canonical_addF (canonical_setOn h ..) ..) ..) ..
    · exact canonical_addF (canonical_addF (canonical_setOn h ..) ..) ..

theorem canonical_cbcTrip {s : State} (h : s.canonical = true) (n : Nat) (src : TripSrc) :
    (s.cbcTrip n src).canonical = true := by
  unfold State.cbcTrip
  refine canonical_ite ?_ h
  refine canonical_countTrip ?_ ..
  refine canonical_ite ?_ ?_
  · exact canonical_setOn (canonical_setCause (canonical_noteAt (canonical_tripOutput (canonical_recordTouched (canonical_setV
      (canonical_setFb h ..) ..)) ..) ..) ..) ..
  · exact canonical_setCause (canonical_noteAt (canonical_tripOutput (canonical_recordTouched (canonical_setV
      (canonical_setFb h ..) ..)) ..) ..) ..

theorem canonical_execCbcTrip {s : State} (h : s.canonical = true) {leg : Fin 32} {src : TripSrc} {conv : List Int} {t : Nat} {u : State}
    (hu : execCbcTrip leg src conv t s = .next u) : u.canonical = true := by
  unfold execCbcTrip at hu
  dsimp only at hu
  split at hu
  · exact canonical_done (canonical_multiLeg (canonical_cbcTrip (canonical_ite (canonical_parts h) (canonical_compared
      (canonical_parts h) ..)) ..) ..) hu
  · refine canonical_done ?_ hu
    refine canonical_ite ?_ ?_
    · exact canonical_cbcTrip (canonical_ite (canonical_parts h) (canonical_compared (canonical_parts h) ..)) ..
    · exact canonical_ite (canonical_parts h) (canonical_compared (canonical_parts h) ..)
  · refine canonical_done ?_ hu
    refine canonical_ite ?_ ?_
    · exact canonical_cbcTrip (canonical_ite (canonical_parts h) (canonical_compared (canonical_parts h) ..)) ..
    · exact canonical_ite (canonical_parts h) (canonical_compared (canonical_parts h) ..)

theorem canonical_execTripWindowEnd {s : State} (h : s.canonical = true) {leg : Fin 32} {u : State}
    (hu : execTripWindowEnd leg s = .next u) : u.canonical = true :=
  canonical_done (canonical_expire h _ _ _ (fun _ h => canonical_setF h ..)) hu

theorem canonical_upset {s : State} (h : s.canonical = true) (e : Nat) :
    (s.upset e).canonical = true :=
  canonical_setV h ..

theorem canonical_holdSafe {s : State} (h : s.canonical = true) (code reaction : Nat) (row mask : Nat) :
    (s.holdSafe code reaction row mask).canonical = true := by
  unfold State.holdSafe
  refine canonical_ite ?_ ?_
  · exact canonical_moduleSafe (canonical_setOn (canonical_latchStages (canonical_updCause (canonical_reportAll h ..) ..) ..) ..) ..
  · exact canonical_each (canonical_setOn (canonical_latchStages (canonical_updCause
      (canonical_reportAll h ..) ..) ..) ..) _ _ fun _ h _ _ => canonical_toSafe h ..

theorem canonical_decide {s : State} (h : s.canonical = true) (row eng mask : Nat) :
    (s.decide row eng mask).canonical = true :=
  canonical_setV (canonical_setV (canonical_close (canonical_setFb (canonical_setV (canonical_setF (canonical_setF (canonical_setF
    (canonical_setF h ..) ..) ..) ..) ..) ..) ..) ..) ..

theorem canonical_exhausted {s : State} (h : s.canonical = true) (mask : Nat) :
    (s.exhausted mask).canonical = true :=
  canonical_holdSafe (canonical_decide h ..) ..

theorem canonical_toTest {s : State} (h : s.canonical = true) (e : Nat) (counted : Bool) :
    (s.toTest e counted).canonical = true := by
  unfold State.toTest
  refine canonical_ite ?_ ?_
  · exact canonical_setEng (canonical_close (canonical_close (canonical_close (canonical_setFb (canonical_when h _ _
      (fun _ h => canonical_addV (canonical_addF h ..) ..)) ..) ..) ..) ..) ..
  · exact canonical_openBy (canonical_setEng (canonical_close (canonical_close (canonical_close (canonical_setFb (canonical_when h _ _
      (fun _ h => canonical_addV (canonical_addF h ..) ..)) ..) ..) ..) ..) ..) ..

theorem canonical_openGap {s : State} (h : s.canonical = true) :
    s.openGap.canonical = true := by
  unfold State.openGap
  refine canonical_ite (canonical_setDue (canonical_setV (canonical_setV h ..) ..) ..) ?_
  exact canonical_parts (canonical_setV (canonical_setDue (canonical_setV (canonical_setV h ..) ..) ..) ..)

theorem canonical_passOwner {s : State} (h : s.canonical = true) :
    s.passOwner.canonical = true :=
  canonical_openGap (canonical_setEng (canonical_setV (canonical_setF h ..) ..) ..)

theorem canonical_handover {s : State} (h : s.canonical = true) (row mask : Nat) :
    (s.handover row mask).canonical = true :=
  canonical_raise (canonical_addF (canonical_toTest (canonical_passOwner (canonical_decide h ..)) ..) ..) ..

theorem canonical_condemnSpare {s : State} (h : s.canonical = true) (mask : Nat) :
    (s.condemnSpare mask).canonical = true :=
  canonical_raise (canonical_addF (canonical_toTest (canonical_decide h ..) ..) ..) ..

theorem canonical_decideFail {s : State} (h : s.canonical = true) :
    s.decideFail.canonical = true := by
  unfold State.decideFail
  dsimp only
  split
  · exact canonical_ite (canonical_setOn h ..) (canonical_exhausted h ..)
  · exact canonical_handover h ..
  · exact canonical_condemnSpare h ..
  · exact h

theorem canonical_syncFailed {s : State} (h : s.canonical = true) (e : Nat) :
    (s.syncFailed e).canonical = true :=
  canonical_noteLasting (canonical_addF (canonical_toTest h ..) ..) ..

theorem canonical_selfCheckFail {s : State} (h : s.canonical = true) (e : Nat) :
    (s.selfCheckFail e).canonical = true := by
  unfold State.selfCheckFail
  refine canonical_ite (canonical_setOn (canonical_upset h ..) ..) ?_
  refine canonical_ite (canonical_decideFail (canonical_setOn (canonical_upset h ..) ..)) ?_
  refine canonical_ite (canonical_syncFailed (canonical_setOn (canonical_upset h ..) ..) ..) ?_
  exact canonical_setOn (canonical_upset h ..) ..

theorem canonical_execSelfCheckFail {s : State} (h : s.canonical = true) {engine : Fin 2} {t : Nat} {u : State}
    (hu : execSelfCheckFail engine t s = .next u) : u.canonical = true :=
  canonical_done (canonical_selfCheckFail (canonical_parts h) ..) hu

theorem canonical_undecided {s : State} (h : s.canonical = true) (row mask carriers : Nat) :
    (s.undecided row mask carriers).canonical = true :=
  canonical_raise (canonical_addF (canonical_toTest (canonical_decide h ..) ..) ..) ..

theorem canonical_wordMismatch {s : State} (h : s.canonical = true) (mask carriers : Nat) (agree : Bool) :
    (s.wordMismatch mask carriers agree).canonical = true := by
  unfold State.wordMismatch
  refine canonical_ite (canonical_syncFailed h ..) ?_
  refine canonical_ite h ?_
  refine canonical_ite (canonical_setV (canonical_setV h ..) ..) ?_
  refine canonical_ite (canonical_undecided h ..) ?_
  refine canonical_ite (canonical_undecided h ..) ?_
  refine canonical_ite (canonical_setV (canonical_setV h ..) ..) ?_
  exact canonical_openBy (canonical_addF (canonical_setFb (canonical_setV (canonical_setV h ..) ..) ..) ..) ..

theorem canonical_execWordMismatch {s : State} (h : s.canonical = true) {channels carriers : Nat} {agree : Bool} {t : Nat} {u : State}
    (hu : execWordMismatch channels carriers agree t s = .next u) : u.canonical = true :=
  canonical_done (canonical_wordMismatch (canonical_parts h) ..) hu

theorem canonical_contradiction {s : State} (h : s.canonical = true) (c : Nat) :
    (s.contradiction c).canonical = true := by
  unfold State.contradiction
  refine canonical_ite h ?_
  refine canonical_ite (canonical_handover h ..) ?_
  exact canonical_ite h (canonical_raise (canonical_addF (canonical_decide h ..) ..) ..)

theorem canonical_execReadbackContradiction {s : State} (h : s.canonical = true) {channel : Fin 64} {t : Nat} {u : State}
    (hu : execReadbackContradiction channel t s = .next u) : u.canonical = true :=
  canonical_done (canonical_contradiction (canonical_parts h) ..) hu

theorem canonical_execDecisionTimeout {s : State} (h : s.canonical = true) {u : State}
    (hu : execDecisionTimeout s = .next u) : u.canonical = true :=
  canonical_done (canonical_expire h _ _ _ (fun _ h => canonical_ite h (canonical_undecided h ..))) hu

theorem canonical_execHandoverGapEnd {s : State} (h : s.canonical = true) {u : State}
    (hu : execHandoverGapEnd s = .next u) : u.canonical = true :=
  canonical_done (canonical_expire h _ _ _ (fun _ h => canonical_ite (canonical_exhausted (canonical_setOn h ..) ..) h)) hu

theorem canonical_execInterlockFault {s : State} (h : s.canonical = true) {u : State}
    (hu : execInterlockFault s = .next u) : u.canonical = true :=
  canonical_done (canonical_ite (canonical_setV h ..) (canonical_holdSafe (canonical_setFb (canonical_setV h ..) ..) ..)) hu

theorem canonical_recordsGood {s : State} (h : s.canonical = true) (e : Nat) :
    (s.recordsGood e).canonical = true :=
  canonical_each h _ _ fun _ h _ _ => canonical_setV h ..

theorem canonical_noteUntilStart {s : State} (h : s.canonical = true) (code inst : Nat) (d0 d1 d2 : Nat) :
    (s.noteUntilStart code inst d0 d1 d2).canonical = true :=
  canonical_updCause (canonical_note h ..) ..

theorem canonical_startEngines {s : State} (h : s.canonical = true) :
    s.startEngines.canonical = true := by
  unfold State.startEngines
  refine canonical_ite ?_ ?_
  · exact canonical_startSync (canonical_setEng (canonical_setV (canonical_setF h ..) ..) ..) ..
  · refine canonical_ite ?_ ?_
    · exact canonical_noteUntilStart (canonical_setEng (canonical_setEng (canonical_setV (canonical_setF h ..) ..) ..) ..) ..
    · exact canonical_latchStages (canonical_updCause (canonical_report (canonical_setOn (canonical_setEng
        (canonical_setEng h ..) ..) ..) ..) ..) ..

theorem canonical_selfTestDone {s : State} (h : s.canonical = true) (e : Nat) (pass : Bool) :
    (s.selfTestDone e pass).canonical = true := by
  unfold State.selfTestDone
  refine canonical_expire h _ _ _ ?_
  intro _ h
  refine canonical_ite ?_ ?_
  · refine canonical_ite ?_ ?_
    · refine canonical_startEngines ?_
      refine canonical_setEng ?_ ..
      refine canonical_setV ?_ ..
      refine canonical_ite ?_ ?_
      · exact canonical_note (canonical_addF (canonical_setOn (canonical_recordsGood h ..) ..) ..) ..
      · exact canonical_noteUntilStart (canonical_addF h ..) ..
    · refine canonical_setEng ?_ ..
      refine canonical_setV ?_ ..
      refine canonical_ite ?_ ?_
      · exact canonical_note (canonical_addF (canonical_setOn (canonical_recordsGood h ..) ..) ..) ..
      · exact canonical_noteUntilStart (canonical_addF h ..) ..
  · refine canonical_setEng ?_ ..
    refine canonical_ite ?_ ?_
    · exact canonical_note (canonical_addF (canonical_setOn (canonical_recordsGood h ..) ..) ..) ..
    · exact canonical_noteUntilStart (canonical_addF h ..) ..

theorem canonical_execSelfTestDone {s : State} (h : s.canonical = true) {engine : Fin 2} {pass : Bool} {u : State}
    (hu : execSelfTestDone engine pass s = .next u) : u.canonical = true :=
  canonical_done (canonical_selfTestDone h ..) hu

theorem canonical_execSwitchBack {s : State} (h : s.canonical = true) {r : Req} {t : Nat} {u : State}
    (hu : execSwitchBack r t s = .next u) : u.canonical = true :=
  canonical_serveAt h hu

theorem canonical_execSyncCopyDone {s : State} (h : s.canonical = true) {u : State}
    (hu : execSyncCopyDone s = .next u) : u.canonical = true := by
  unfold execSyncCopyDone at hu
  refine canonical_done ?_ hu
  refine canonical_expire h _ _ _ ?_
  intro _ h
  refine canonical_ite (canonical_syncFailed (canonical_recordsGood h ..) ..) ?_
  exact canonical_openBy (canonical_recordsGood h ..) ..

theorem canonical_switchDone {s : State} (h : s.canonical = true) :
    s.switchDone.canonical = true :=
  canonical_note (canonical_noteEnds (canonical_clearCause (canonical_clearCause (canonical_addF (canonical_setFb
    (canonical_setFb h ..) ..) ..) ..) ..) ..) ..

theorem canonical_qualifyEnd {s : State} (h : s.canonical = true) :
    s.qualifyEnd.canonical = true := by
  unfold State.qualifyEnd
  refine canonical_expire h _ _ _ ?_
  intro _ h
  refine canonical_ite (canonical_setFb (canonical_setEng h ..) ..) ?_
  refine canonical_ite (canonical_openBy (canonical_setV (canonical_setEng h ..) ..) ..) ?_
  exact canonical_switchDone (canonical_setEng h ..)

theorem canonical_execQualifyEnd {s : State} (h : s.canonical = true) {u : State}
    (hu : execQualifyEnd s = .next u) : u.canonical = true :=
  canonical_done (canonical_qualifyEnd h) hu

theorem canonical_execSwitchBackHandover {s : State} (h : s.canonical = true) {t : Nat} {u : State}
    (hu : execSwitchBackHandover t s = .next u) : u.canonical = true := by
  unfold execSwitchBackHandover at hu
  refine canonical_done ?_ hu
  refine canonical_ite h ?_
  refine canonical_ite (canonical_parts h) ?_
  exact canonical_switchDone (canonical_setEng (canonical_passOwner (canonical_parts (canonical_close h ..))) ..)

theorem canonical_detectorOff {s : State} (h : s.canonical = true) (c : Nat) :
    (s.detectorOff c).canonical = true :=
  canonical_turnOff (canonical_ite (canonical_setOn h ..) h) ..

theorem canonical_detectorTrip {s : State} (h : s.canonical = true) (c : Nat) (short : Bool) :
    (s.detectorTrip c short).canonical = true := by
  unfold State.detectorTrip
  dsimp only
  refine canonical_raise (canonical_setV (canonical_setV (canonical_periodTag (canonical_addF ?_ ..) ..) ..) ..) ..
  exact canonical_setFb (canonical_setFb (canonical_setFb (canonical_tripPeriod (canonical_detectorOff h ..) ..) ..) ..) ..

theorem canonical_execDesatTrip {s : State} (h : s.canonical = true) {channel : Fin 64} {t : Nat} {u : State}
    (hu : execDesatTrip channel t s = .next u) : u.canonical = true :=
  canonical_done (canonical_ite (canonical_detectorTrip (canonical_parts h) ..) (canonical_parts h)) hu

theorem canonical_execShortTrip {s : State} (h : s.canonical = true) {channel : Fin 64} {t : Nat} {vks : List Int} {u : State}
    (hu : execShortTrip channel t vks s = .next u) : u.canonical = true := by
  unfold execShortTrip at hu
  refine canonical_done ?_ hu
  refine canonical_ite (canonical_detectorTrip (canonical_parts h) ..) ?_
  exact canonical_ite (canonical_setV (canonical_parts h) ..) (canonical_parts h)

theorem canonical_gateUvlo {s : State} (h : s.canonical = true) (c : Nat) (negative : Bool) :
    (s.gateUvlo c negative).canonical = true := by
  unfold State.gateUvlo
  refine canonical_ite h ?_
  exact canonical_raise (canonical_when (canonical_setOn (canonical_setFb (canonical_addF (canonical_detectorOff h ..) ..) ..) ..) _ _
    (fun _ h => canonical_setFb h ..)) ..

theorem canonical_execGateUvlo {s : State} (h : s.canonical = true) {channel : Fin 64} {negative : Bool} {u : State}
    (hu : execGateUvlo channel negative s = .next u) : u.canonical = true :=
  canonical_done (canonical_gateUvlo h ..) hu

theorem canonical_execUvloRelease {s : State} (h : s.canonical = true) {channel : Fin 64} {negative : Bool} {u : State}
    (hu : execUvloRelease channel negative s = .next u) : u.canonical = true := by
  unfold execUvloRelease at hu
  refine canonical_done ?_ hu
  refine canonical_ite (canonical_when (canonical_setFb h ..) _ _ (fun _ h => canonical_setFb h ..)) ?_
  exact canonical_clearCause (canonical_setOn (canonical_when (canonical_setFb h ..) _ _ (fun _ h => canonical_setFb h ..)) ..) ..

theorem canonical_linkClear {s : State} (h : s.canonical = true) (c : Nat) :
    (s.linkClear c).canonical = true :=
  canonical_clearCause (canonical_setFb (canonical_close h ..) ..) ..

theorem canonical_frameBad {s : State} (h : s.canonical = true) (c : Nat) :
    (s.frameBad c).canonical = true :=
  canonical_close (canonical_addV (canonical_addF (canonical_ite (canonical_linkClear h ..) h) ..) ..) ..

theorem canonical_cmdPath {s : State} (h : s.canonical = true) (c : Nat) (ok : Bool) :
    (s.cmdPath c ok).canonical = true := by
  unfold State.cmdPath
  refine canonical_ite h ?_
  exact canonical_ite (canonical_setV (canonical_close h ..) ..) (canonical_ite h (canonical_openBy h ..))

theorem canonical_shownOff {s : State} (h : s.canonical = true) (c : Nat) :
    (s.shownOff c).canonical = true :=
  canonical_when (canonical_when (canonical_setOn (canonical_when h _ _ (fun _ h => canonical_setV h ..)) ..) _ _
    (fun _ h => canonical_addOn (canonical_setOn h ..) ..)) _ _ fun _ h => canonical_ascTurnOn h ..

theorem canonical_gateReadback {s : State} (h : s.canonical = true) (c : Nat) (gate : GateSeen) :
    (s.gateReadback c gate).canonical = true := by
  unfold State.gateReadback
  split
  · exact canonical_setOn (canonical_setFb h ..) ..
  · exact canonical_when (canonical_ite (canonical_setFb h ..) (canonical_shownOff
      (canonical_setFb h ..) ..)) _ _ fun _ h => canonical_setFb h ..

theorem canonical_takeFrame {s : State} (h : s.canonical = true) (c : Nat) (f : ChFrame) :
    (s.takeFrame c f).canonical = true := by
  unfold State.takeFrame
  refine canonical_when ?_ _ _ fun _ h => canonical_detectorTrip h ..
  refine canonical_when ?_ _ _ fun _ h => canonical_gateUvlo h ..
  refine canonical_when ?_ _ _ fun _ h => canonical_gateUvlo h ..
  refine canonical_ite ?_ ?_
  · refine canonical_cmdPath ?_ ..
    split
    · refine canonical_ite ?_ ?_
      · exact canonical_setF (canonical_when (canonical_setF (canonical_setF (canonical_setV h ..) ..) ..) _ _
          (fun _ h => canonical_setF h ..)) ..
      · exact canonical_when (canonical_setF (canonical_setF (canonical_setV h ..) ..) ..) _ _ fun _ h => canonical_setF h ..
    · exact canonical_when (canonical_setF (canonical_setF (canonical_setV h ..) ..) ..) _ _ fun _ h => canonical_setF h ..
  · refine canonical_gateReadback ?_ ..
    refine canonical_cmdPath ?_ ..
    split
    · refine canonical_ite ?_ ?_
      · exact canonical_setF (canonical_when (canonical_setF (canonical_setF (canonical_setV h ..) ..) ..) _ _
          (fun _ h => canonical_setF h ..)) ..
      · exact canonical_when (canonical_setF (canonical_setF (canonical_setV h ..) ..) ..) _ _ fun _ h => canonical_setF h ..
    · exact canonical_when (canonical_setF (canonical_setF (canonical_setV h ..) ..) ..) _ _ fun _ h => canonical_setF h ..

theorem canonical_execStatusFrame {s : State} (h : s.canonical = true) {channel : Fin 64} {frame : FrameSeen} {t : Nat} {u : State}
    (hu : execStatusFrame channel frame t s = .next u) : u.canonical = true := by
  unfold execStatusFrame at hu
  dsimp only at hu
  split at hu
  · exact canonical_done (canonical_parts h) hu
  · split at hu
    · exact canonical_done (canonical_frameBad (canonical_parts h) ..) hu
    · exact canonical_done (canonical_frameBad (canonical_parts h) ..) hu
    · split at hu
      · split at hu
        · exact canonical_done (canonical_openBy (canonical_takeFrame (canonical_parts h) ..) ..) hu
        · refine canonical_done ?_ hu
          refine canonical_ite (canonical_linkClear (canonical_takeFrame (canonical_parts h) ..) ..) ?_
          exact canonical_takeFrame (canonical_parts h) ..
      · exact canonical_done (canonical_takeFrame (canonical_parts h) ..) hu

theorem canonical_execLinkFault {s : State} (h : s.canonical = true) {channel : Fin 64} {u : State}
    (hu : execLinkFault channel s = .next u) : u.canonical = true := by
  unfold execLinkFault at hu
  dsimp only at hu
  split at hu
  · exact canonical_done h hu
  · exact canonical_done (canonical_raise (canonical_addF (canonical_setFb h ..) ..) ..) hu

theorem canonical_execCommandPathLost {s : State} (h : s.canonical = true) {path : PathLost} {u : State}
    (hu : execCommandPathLost path s = .next u) : u.canonical = true :=
  canonical_done (canonical_setV (canonical_close (canonical_setOn (canonical_turnOff h ..) ..) ..) ..) hu

theorem canonical_execSkewMeasure {s : State} (h : s.canonical = true) {channel : Fin 64} {ps : Nat} {u : State}
    (hu : execSkewMeasure channel ps s = .next u) : u.canonical = true := by
  unfold execSkewMeasure at hu
  dsimp only at hu
  split at hu
  · exact canonical_done h hu
  · refine canonical_done ?_ hu
    refine canonical_ite ?_ ?_
    · exact canonical_raise (canonical_setFb (canonical_setF (canonical_setF h ..) ..) ..) ..
    · refine canonical_ite ?_ ?_
      · exact canonical_clearCause (canonical_setFb (canonical_setF (canonical_setF h ..) ..) ..) ..
      · exact canonical_setFb (canonical_setF (canonical_setF h ..) ..) ..

theorem canonical_execThermistorMeasure {s : State} (h : s.canonical = true) {leg : Fin 26} {ohms : Nat} {u : State}
    (hu : execThermistorMeasure leg ohms s = .next u) : u.canonical = true := by
  unfold execThermistorMeasure at hu
  dsimp only at hu
  split at hu
  · exact canonical_done h hu
  · split at hu
    · exact canonical_done (canonical_setF (canonical_takeFree (canonical_setF (canonical_setFb (canonical_setFb h ..) ..) ..)) ..) hu
    · exact canonical_done (canonical_setF (canonical_setF (canonical_setFb (canonical_setFb h ..) ..) ..) ..) hu

theorem canonical_execEnableRemoved {s : State} (h : s.canonical = true) {group : Fin 4} {u : State}
    (hu : execEnableRemoved group s = .next u) : u.canonical = true :=
  canonical_done (canonical_removeEnable h ..) hu

theorem canonical_execStaggerSlot {s : State} (h : s.canonical = true) {t : Stage} {u : State}
    (hu : execStaggerSlot t s = .next u) : u.canonical = true := by
  unfold execStaggerSlot at hu
  refine canonical_done ?_ hu
  refine canonical_expire h _ _ _ ?_
  intro _ h
  dsimp only
  split
  · exact h
  · exact canonical_ite (canonical_legOff h ..) (canonical_openBy (canonical_legOff h ..) ..)

theorem canonical_snapsDue {s : State} (h : s.canonical = true) :
    s.snapsDue.canonical = true :=
  canonical_each h _ _ fun _ h _ _ => canonical_ite (canonical_setV (canonical_linkSnapOf h ..) ..) h

theorem canonical_linkFault {s : State} (h : s.canonical = true) (code inst : Nat) (reaction d0 : Nat) (lasting : Bool) :
    (s.linkFault code inst reaction d0 lasting).canonical = true := by
  unfold State.linkFault
  refine canonical_ite (canonical_raise (canonical_snapFrom h) ..) ?_
  exact canonical_linkSnap (canonical_raise (canonical_snapFrom h) ..) ..

theorem canonical_linkFaults {s : State} (h : s.canonical = true) (sp u' : Int) :
    (s.linkFaults sp u').canonical = true := by
  unfold State.linkFaults
  refine canonical_ite ?_ ?_
  · refine canonical_linkFault ?_ ..
    refine canonical_setFb ?_ ..
    refine canonical_setFb ?_ ..
    refine canonical_each ?_ _ _ ?_
    · refine canonical_ite (canonical_ite (canonical_setV h ..) (canonical_timedAt (canonical_setV h ..) ..)) ?_
      exact canonical_clearCause (canonical_setFb (canonical_ite (canonical_setV h ..) (canonical_timedAt (canonical_setV h ..) ..)) ..) ..
    · intro _ h _ _
      refine canonical_ite h ?_
      exact canonical_ite (canonical_timedAt h ..) (canonical_clearCause (canonical_timedAt h ..) ..)
  · refine canonical_ite ?_ ?_
    · refine canonical_setFb ?_ ..
      refine canonical_each ?_ _ _ ?_
      · refine canonical_ite (canonical_ite (canonical_setV h ..) (canonical_timedAt (canonical_setV h ..) ..)) ?_
        exact canonical_clearCause (canonical_setFb (canonical_ite (canonical_setV h ..) (canonical_timedAt
          (canonical_setV h ..) ..)) ..) ..
      · intro _ h _ _
        refine canonical_ite h ?_
        exact canonical_ite (canonical_timedAt h ..) (canonical_clearCause (canonical_timedAt h ..) ..)
    · refine canonical_clearCause ?_ ..
      refine canonical_setFb ?_ ..
      refine canonical_setFb ?_ ..
      refine canonical_each ?_ _ _ ?_
      · refine canonical_ite (canonical_ite (canonical_setV h ..) (canonical_timedAt (canonical_setV h ..) ..)) ?_
        exact canonical_clearCause (canonical_setFb (canonical_ite (canonical_setV h ..) (canonical_timedAt
          (canonical_setV h ..) ..)) ..) ..
      · intro _ h _ _
        refine canonical_ite h ?_
        exact canonical_ite (canonical_timedAt h ..) (canonical_clearCause (canonical_timedAt h ..) ..)

theorem canonical_regMeas {s : State} (h : s.canonical = true) (sp u' ub : Int) :
    (s.regMeas sp u' ub).canonical = true :=
  canonical_setFb (canonical_setOn (canonical_setOn (canonical_setFb (canonical_setFb (canonical_setF (canonical_setF (canonical_setF
    (canonical_setF (canonical_setF h ..) ..) ..) ..) ..) ..) ..) ..) ..) ..

theorem canonical_regLeg {s : State} (h : s.canonical = true) (j duty : Nat) (phase force : Nat) (timeA timeB : Nat) :
    (s.regLeg j duty phase force timeA timeB).canonical = true :=
  canonical_setDue (canonical_setFb (canonical_setF (canonical_setF (canonical_setF (canonical_setF (canonical_setF
    (canonical_setF h ..) ..) ..) ..) ..) ..) ..) ..

theorem canonical_regPhases {s : State} (h : s.canonical = true) (n : Nat) :
    (s.regPhases n).canonical = true :=
  canonical_each h _ _ fun _ h _ _ => canonical_ite (canonical_regLeg h ..) (canonical_regLeg h ..)

theorem canonical_regOff {s : State} (h : s.canonical = true) :
    s.regOff.canonical = true :=
  canonical_regPhases h ..

theorem canonical_regState {s : State} (h : s.canonical = true) (st n : Nat) :
    (s.regState st n).canonical = true := by
  unfold State.regState
  refine canonical_setF ?_ ..
  refine canonical_setF ?_ ..
  refine canonical_setF ?_ ..
  refine canonical_when ?_ _ _ fun _ h => canonical_setF h ..
  refine canonical_ite (canonical_when h _ _ (fun _ h => canonical_burstLeft h)) ?_
  exact canonical_setV (canonical_when h _ _ (fun _ h => canonical_burstLeft h)) ..

theorem canonical_regStopped {s : State} (h : s.canonical = true) :
    s.regStopped.canonical = true :=
  canonical_close (canonical_setV (canonical_regOff (canonical_regState h ..)) ..) ..

theorem canonical_regMode {s : State} (h : s.canonical = true) (mode : Nat) :
    (s.regMode mode).canonical = true :=
  canonical_ite h (canonical_setFb (canonical_setV h ..) ..)

theorem canonical_softStart {s : State} (h : s.canonical = true) :
    s.softStart.canonical = true :=
  canonical_regMode (canonical_openSlow (canonical_setFb (canonical_setOn (canonical_setV (canonical_setV (canonical_each (canonical_setV
    (canonical_regHistory (canonical_regState h ..) ..) ..) _ _ (fun _ h _ _ => canonical_setV
    (canonical_setV h ..) ..)) ..) ..) ..) ..) ..) ..

theorem canonical_linkNote {s : State} (h : s.canonical = true) (code d0 : Nat) :
    (s.linkNote code d0).canonical = true :=
  canonical_noteAt h ..

theorem canonical_softEnd {s : State} (h : s.canonical = true) :
    s.softEnd.canonical = true :=
  canonical_close (canonical_setV (canonical_setFb h ..) ..) ..

theorem canonical_softDone {s : State} (h : s.canonical = true) (code : Nat) :
    (s.softDone code).canonical = true :=
  canonical_linkNote (canonical_regState (canonical_softEnd h) ..) ..

theorem canonical_softJudged {s : State} (h : s.canonical = true) :
    s.softJudged.canonical = true := by
  unfold State.softJudged
  refine canonical_ite (canonical_linkSnap (canonical_softDone h ..) ..) ?_
  refine canonical_ite ?_ ?_
  · exact canonical_linkSnap (canonical_openSlow (canonical_linkNote (canonical_addF (canonical_setOn (canonical_regMode
      (canonical_regState (canonical_softEnd h) ..) ..) ..) ..) ..) ..) ..
  · exact canonical_linkFault (canonical_addF (canonical_softEnd h) ..) ..

theorem canonical_regEnter {s : State} (h : s.canonical = true) (st : Nat) :
    (s.regEnter st).canonical = true :=
  canonical_linkNote (canonical_setV (canonical_setOn (canonical_regMode (canonical_regState h ..) ..) ..) ..) ..

theorem canonical_regBurstTo {s : State} (h : s.canonical = true) (on : Bool) :
    (s.regBurstTo on).canonical = true :=
  canonical_setF (canonical_setF (canonical_setOn h ..) ..) ..

theorem canonical_burstStep {s : State} (h : s.canonical = true) (sp u' : Int) :
    (s.burstStep sp u').canonical = true := by
  unfold State.burstStep
  refine canonical_ite (canonical_ite (canonical_setV (canonical_regBurstTo h ..) ..) h) ?_
  refine canonical_ite ?_ (canonical_ite (canonical_linkSnap (canonical_regEnter h ..) ..) h)
  refine canonical_ite (canonical_linkSnap (canonical_regEnter (canonical_addF h ..) ..) ..) ?_
  exact canonical_regBurstTo (canonical_addF h ..) ..

theorem canonical_regShed {s : State} (h : s.canonical = true) (n : Nat) :
    (s.regShed n).canonical = true :=
  canonical_linkNote (canonical_addF (canonical_regState h ..) ..) ..

theorem canonical_regTransition {s : State} (h : s.canonical = true) (sp u' e0 : Int) :
    (s.regTransition sp u' e0).1.canonical = true := by
  unfold State.regTransition
  refine canonical_ite_fst ?_ ?_
  · refine canonical_ite_fst h ?_
    exact canonical_ite_fst (canonical_regMode (canonical_regState h ..) ..) (canonical_softStart h)
  · refine canonical_ite_fst h ?_
    refine canonical_ite_fst (canonical_softJudged h) ?_
    refine canonical_ite_fst ?_ ?_
    · exact canonical_regLeft (canonical_linkSnap (canonical_linkNote (canonical_regMode (canonical_setOn (canonical_regState
        (canonical_close (canonical_softEnd h) ..) ..) ..) ..) ..) ..) ..
    · refine canonical_ite_fst ?_ ?_
      · exact canonical_linkSnap (canonical_linkNote (canonical_addF (canonical_setOn (canonical_regHistory
          (canonical_regState h ..) ..) ..) ..) ..) ..
      · refine canonical_ite_fst ?_ ?_
        · refine canonical_ite ?_ ?_
          · exact canonical_linkNote (canonical_regLeft (canonical_linkSnap (canonical_linkNote (canonical_setFb (canonical_openSlow
              (canonical_addF (canonical_regMode (canonical_regState h ..) ..) ..) ..) ..) ..) ..) ..) ..
          · exact canonical_regLeft (canonical_linkSnap (canonical_linkNote (canonical_setFb (canonical_openSlow (canonical_addF
              (canonical_regMode (canonical_regState h ..) ..) ..) ..) ..) ..) ..) ..
        · refine canonical_ite_fst (canonical_ite (canonical_softStart (canonical_addF h ..)) h) ?_
          refine canonical_ite_fst (canonical_ite (canonical_linkSnap (canonical_softDone h ..) ..) h) ?_
          refine canonical_ite_fst (canonical_regEnter h ..) ?_
          refine canonical_ite_fst (canonical_burstStep h ..) ?_
          refine canonical_ite_fst (canonical_regEnter h ..) ?_
          refine canonical_ite_fst (canonical_linkSnap (canonical_regEnter h ..) ..) ?_
          exact canonical_ite_fst (canonical_regShed h ..) (canonical_ite_fst (canonical_regShed h ..) h)

theorem canonical_regLight {s : State} (h : s.canonical = true) (ipk ub : Int) (on : Bool) :
    (s.regLight ipk ub on).canonical = true :=
  canonical_each (canonical_setV h ..) _ _ fun _ h _ _ => canonical_ite (canonical_regLeg h ..) (canonical_regLeg h ..)

theorem canonical_compensate {s : State} (h : s.canonical = true) (e0 u' : Int) :
    (s.compensate e0 u').canonical = true :=
  canonical_setFb (canonical_setV (canonical_setV (canonical_setV (canonical_setV (canonical_setV (canonical_setV
    (canonical_setV h ..) ..) ..) ..) ..) ..) ..) ..

theorem canonical_phaseLoop {s : State} (h : s.canonical = true) (j : Nat) (r base : Int) (tu : Nat) :
    (s.phaseLoop j r base tu).canonical = true :=
  canonical_setV (canonical_setV (canonical_setV h ..) ..) ..

theorem canonical_preBias {s : State} (h : s.canonical = true) (j : Nat) (duty30 base e : Int) :
    (s.preBias j duty30 base e).canonical = true :=
  canonical_setV (canonical_setV (canonical_setV h ..) ..) ..

theorem canonical_regLoops {s : State} (h : s.canonical = true) (step : RegStep) (was : Nat) (u' ub : Int) (tu : Nat) :
    (s.regLoops step was u' ub tu).canonical = true := by
  unfold State.regLoops
  dsimp only
  split
  · exact canonical_each h _ _ fun _ h _ _ => canonical_phaseLoop h ..
  · exact canonical_each h _ _ fun _ h _ _ => canonical_preBias h ..
  · exact canonical_each (canonical_each h _ _ (fun _ h _ _ => canonical_phaseLoop h ..)) _ _ fun _ h _ _ => canonical_preBias h ..

theorem canonical_regAct {s : State} (h : s.canonical = true) (step : RegStep) (was : Nat) (sp u' ub : Int) (tu : Nat) :
    (s.regAct step was sp u' ub tu).canonical = true := by
  unfold State.regAct
  refine canonical_ite (canonical_setV h ..) ?_
  refine canonical_ite (canonical_regOff (canonical_setV h ..)) ?_
  refine canonical_ite (canonical_regLight (canonical_setV (canonical_setV h ..) ..) ..) ?_
  refine canonical_ite (canonical_regLight (canonical_compensate (canonical_setV h ..) ..) ..) ?_
  exact canonical_regPhases (canonical_regLoops (canonical_compensate (canonical_setV h ..) ..) ..) ..

theorem canonical_pTaken {s : State} (h : s.canonical = true) :
    s.pTaken.canonical = true :=
  canonical_ite (canonical_pRamp (canonical_close h ..)) h

theorem canonical_shedCond {s : State} (h : s.canonical = true) (i : Nat) (cond : Bool) :
    (s.shedCond i cond).canonical = true :=
  canonical_ite h (canonical_timedAt (canonical_setOn h ..) ..)

theorem canonical_shedConds {s : State} (h : s.canonical = true) (u' ub : Int) :
    (s.shedConds u' ub).canonical = true :=
  canonical_shedCond (canonical_shedCond (canonical_shedCond h ..) ..) ..

theorem canonical_regSteps {s : State} (h : s.canonical = true) : s.regSteps.canonical = true := by
  unfold State.regSteps
  extract_lets tu u ub sp s1 s2 st ended near s3 s4 n was
  have h2 : s2.canonical = true := canonical_linkFaults (canonical_setV (canonical_setV (canonical_setV h ..) ..) ..) ..
  have h4 : s4.canonical = true := canonical_ite (canonical_setV h2 ..) (canonical_setOn (canonical_setV h2 ..) ..)
  refine canonical_ite h2 (canonical_ite (canonical_regMeas (canonical_regStopped h2) ..) ?_)
  have ht := canonical_regTransition h4 sp u (sp - u)
  split
  next s5 step hx =>
  rw [hx] at ht
  exact canonical_ite ht (canonical_regMeas (canonical_shedConds (canonical_ite
    (canonical_pTaken (canonical_regAct ht ..)) (canonical_regAct ht ..)) ..) ..)

theorem canonical_regUpdate {s : State} (h : s.canonical = true) :
    s.regUpdate.canonical = true := by
  unfold State.regUpdate
  refine canonical_ite (canonical_addF h ..) ?_
  exact canonical_snapsDue (canonical_setOn (canonical_regSteps (canonical_setOn (canonical_snapFrom (canonical_addV
    (canonical_addF h ..) ..)) ..)) ..)

theorem canonical_execRegulatorUpdate {s : State} (h : s.canonical = true) {u : State}
    (hu : execRegulatorUpdate s = .next u) : u.canonical = true :=
  canonical_done (canonical_expire h _ _ _ (fun _ h => canonical_regUpdate h)) hu

theorem canonical_execSoftStartWindowEnd {s : State} (h : s.canonical = true) {u : State}
    (hu : execSoftStartWindowEnd s = .next u) : u.canonical = true :=
  canonical_done (canonical_expire h _ _ _ (fun _ h => canonical_ite (canonical_setFb h ..) (canonical_setV (canonical_setFb h ..) ..))) hu

theorem canonical_execHiccupWaitEnd {s : State} (h : s.canonical = true) {u : State}
    (hu : execHiccupWaitEnd s = .next u) : u.canonical = true :=
  canonical_done (canonical_expire h _ _ _ (fun _ h => canonical_ite h (canonical_setOn h ..))) hu

theorem canonical_execShedTimer {s : State} (h : s.canonical = true) {cond : Fin 3} {u : State}
    (hu : execShedTimer cond s = .next u) : u.canonical = true :=
  canonical_done (canonical_expire h _ _ _ (fun _ h => canonical_setOn h ..)) hu

theorem canonical_execShedBlockEnd {s : State} (h : s.canonical = true) {u : State}
    (hu : execShedBlockEnd s = .next u) : u.canonical = true :=
  canonical_done (canonical_expire h _ _ _ (fun _ h => canonical_setFb h ..)) hu

theorem canonical_execLinkUv {s : State} (h : s.canonical = true) {u : State}
    (hu : execLinkUv s = .next u) : u.canonical = true :=
  canonical_done (canonical_expire h _ _ _ (fun _ h => canonical_linkFault (canonical_setFb h ..) ..)) hu

theorem canonical_execPhaseImbalance {s : State} (h : s.canonical = true) {phase : Fin 6} {u : State}
    (hu : execPhaseImbalance phase s = .next u) : u.canonical = true :=
  canonical_done (canonical_expire h _ _ _ (fun _ h => canonical_linkFault (canonical_setFb h ..) ..)) hu

theorem canonical_execSyncFree {s : State} (h : s.canonical = true) {t : Nat} {u : State}
    (hu : execSyncFree t s = .next u) : u.canonical = true := by
  unfold execSyncFree at hu
  refine canonical_done ?_ hu
  refine canonical_ite ?_ ?_
  · exact canonical_linkNote (canonical_setFb (canonical_syncFreed (canonical_parts h)) ..) ..
  · exact canonical_syncFreed (canonical_parts h)

theorem canonical_ppSample {s : State} (h : s.canonical = true) (k : Nat) :
    (s.ppSample k).canonical = true := by
  unfold State.ppSample
  refine canonical_addV ?_ ..
  refine canonical_addV ?_ ..
  refine canonical_ite ?_ ?_
  · exact canonical_openSlow (canonical_setOn (canonical_setV (canonical_setV (canonical_setV (canonical_setV (canonical_setV
      (canonical_setV (canonical_setOn (canonical_setV h ..) ..) ..) ..) ..) ..) ..) ..) ..) ..
  · exact canonical_setV h ..

theorem canonical_execPowerPathEval {s : State} (h : s.canonical = true) {u : State}
    (hu : execPowerPathEval s = .next u) : u.canonical = true :=
  canonical_done (canonical_expire h _ _ _ (fun _ h => canonical_ppStep (canonical_each (canonical_openSlow h ..) _ _
    (fun _ h _ _ => canonical_ppSample h ..)) ..)) hu

theorem canonical_vregUpdate {s : State} (h : s.canonical = true) :
    s.vregUpdate.canonical = true := by
  unfold State.vregUpdate
  refine canonical_ite ?_ (canonical_noteEnds (canonical_setFb (canonical_setV h ..) ..) ..)
  refine canonical_ite (canonical_setFb (canonical_setV h ..) ..) ?_
  exact canonical_noteLastingAt (canonical_setFb (canonical_setV h ..) ..) ..

theorem canonical_ppLoss {s : State} (h : s.canonical = true) (input rule : Nat) :
    (s.ppLoss input rule).canonical = true := by
  unfold State.ppLoss
  refine canonical_ite h ?_
  refine canonical_chgSync ?_
  refine canonical_ite ?_ ?_
  · refine canonical_takeOver ?_
    refine canonical_ite ?_ ?_
    · exact canonical_chgSnap (canonical_raise (canonical_addF (canonical_setOn (canonical_each (canonical_setOn (canonical_close
        (canonical_setFb (canonical_ppTo (canonical_qualLate h) ..) ..) ..) ..) _ _ (fun _ h _ _ => canonical_setOn h ..)) ..) ..) ..) ..
    · exact canonical_chgSnap (canonical_chgSnap (canonical_raise (canonical_addF (canonical_setOn (canonical_each (canonical_setOn
        (canonical_close (canonical_setFb (canonical_ppTo (canonical_qualLate h) ..) ..) ..) ..) _ _
      (fun _ h _ _ => canonical_setOn h ..)) ..) ..) ..) ..) ..
  · refine canonical_ite ?_ ?_
    · exact canonical_chgSnap (canonical_raise (canonical_addF (canonical_setOn (canonical_each (canonical_setOn (canonical_close
        (canonical_setFb (canonical_ppTo (canonical_qualLate h) ..) ..) ..) ..) _ _ (fun _ h _ _ => canonical_setOn h ..)) ..) ..) ..) ..
    · exact canonical_chgSnap (canonical_chgSnap (canonical_raise (canonical_addF (canonical_setOn (canonical_each (canonical_setOn
        (canonical_close (canonical_setFb (canonical_ppTo (canonical_qualLate h) ..) ..) ..) ..) _ _
      (fun _ h _ _ => canonical_setOn h ..)) ..) ..) ..) ..) ..

theorem canonical_halfEnd {s : State} (h : s.canonical = true) (k : Nat) : (s.halfEnd k).canonical = true := by
  unfold State.halfEnd
  refine canonical_ite h ?_
  extract_lets n sc rms len s1 s2 s3 odd s4 s5 st good s6 s7 s8 s9 s10 s11 s12
  have h2 : s2.canonical = true := canonical_setF (canonical_setV (canonical_setV (canonical_setOn h ..) ..) ..) ..
  have h5 : s5.canonical = true := canonical_vregUpdate (canonical_setV (canonical_ite (canonical_setF h2 ..) h2) ..)
  have h7 : s7.canonical = true := canonical_qualLate (canonical_each h5 _ _ fun _ h _ _ => canonical_setOn h ..)
  have h8 : s8.canonical = true := canonical_ite (canonical_ppTo h7 ..) h7
  have h9 : s9.canonical = true := canonical_setOn h5 ..
  have h10 : s10.canonical = true := canonical_setOn (canonical_ppTo h9 ..) ..
  have h11 : s11.canonical = true := by
    refine canonical_ite (canonical_ppLoss h5 ..) (canonical_ite (canonical_ppLoss h5 ..) ?_)
    refine canonical_ite (canonical_ite h8 (canonical_requalify h8)) (canonical_ite ?_ h9)
    split
    · exact canonical_ppLoss h10 ..
    · exact h10
  exact canonical_ppStep (canonical_ite (canonical_openSlow (canonical_setOn h11 ..) ..) h11) ..

theorem canonical_execHalfCycleEnd {s : State} (h : s.canonical = true) {input : Fin 3} {u : State}
    (hu : execHalfCycleEnd input s = .next u) : u.canonical = true :=
  canonical_done (canonical_halfEnd h ..) hu

theorem canonical_execNoZeroCrossing {s : State} (h : s.canonical = true) {input : Fin 3} {u : State}
    (hu : execNoZeroCrossing input s = .next u) : u.canonical = true :=
  canonical_done (canonical_expire h _ _ _ (fun _ h => canonical_ite (canonical_ppStep (canonical_ppLoss
    (canonical_setOn h ..) ..) ..) h)) hu

theorem canonical_execSourceQualified {s : State} (h : s.canonical = true) {u : State}
    (hu : execSourceQualified s = .next u) : u.canonical = true :=
  canonical_done (canonical_expire h _ _ _ (fun _ h => canonical_ppStep (canonical_qualNow h) ..)) hu

theorem canonical_execHandbackDone {s : State} (h : s.canonical = true) {u : State}
    (hu : execHandbackDone s = .next u) : u.canonical = true := by
  unfold execHandbackDone at hu
  refine canonical_done ?_ hu
  refine canonical_expire h _ _ _ ?_
  intro _ h
  refine canonical_ite ?_ ?_
  · exact canonical_ppStep (canonical_chgSnap (canonical_noteAt (canonical_setV (canonical_addF (canonical_setOn
      (canonical_ppTo h ..) ..) ..) ..) ..) ..) ..
  · exact canonical_ppStep h ..

theorem canonical_execStopTakeoverTimeout {s : State} (h : s.canonical = true) {u : State}
    (hu : execStopTakeoverTimeout s = .next u) : u.canonical = true :=
  canonical_done (canonical_expire h _ _ _ (fun _ h => canonical_ite (canonical_pRamp h) h)) hu

theorem canonical_execChargeEval {s : State} (h : s.canonical = true) {u : State}
    (hu : execChargeEval s = .next u) : u.canonical = true := by
  unfold execChargeEval at hu
  refine canonical_done ?_ hu
  refine canonical_expire h _ _ _ ?_
  intro _ h
  refine canonical_chargeStep ?_ ..
  refine canonical_ite ?_ ?_
  · exact canonical_chgTimer (canonical_setFb (canonical_addV (canonical_chgSync (canonical_openSlow h ..)) ..) ..)
  · exact canonical_chgSync (canonical_openSlow h ..)

theorem canonical_execChargeStart {s : State} (h : s.canonical = true) {r : Req} {t : Nat} {u : State}
    (hu : execChargeStart r t s = .next u) : u.canonical = true :=
  canonical_serveAt h hu

theorem canonical_execChargeStop {s : State} (h : s.canonical = true) {r : Req} {t : Nat} {u : State}
    (hu : execChargeStop r t s = .next u) : u.canonical = true :=
  canonical_serveAt h hu

theorem canonical_execBattOc {s : State} (h : s.canonical = true) {u : State}
    (hu : execBattOc s = .next u) : u.canonical = true :=
  canonical_done (canonical_expire h _ _ _ (fun _ h => canonical_chgFault h ..)) hu

theorem canonical_execArrived {s : State} (h : s.canonical = true) {actuator : Fin 2} {u : State}
    (hu : execArrived actuator s = .next u) : u.canonical = true := by
  unfold execArrived at hu
  refine canonical_done ?_ hu
  refine canonical_expire h _ _ _ ?_
  intro _ h
  refine canonical_ite h ?_
  refine canonical_ite (canonical_setDue h ..) ?_
  exact canonical_noteAt (canonical_clearCause (canonical_clearCause (canonical_clearCause (canonical_setFb (canonical_addF
    (canonical_close (canonical_close (canonical_setV (canonical_setF (canonical_setF h ..) ..) ..) ..) ..) ..) ..) ..) ..) ..) ..

theorem canonical_execActTimeout {s : State} (h : s.canonical = true) {actuator : Fin 2} {u : State}
    (hu : execActTimeout actuator s = .next u) : u.canonical = true :=
  canonical_done (canonical_expire h _ _ _ (fun _ h => canonical_ite h (canonical_raise (canonical_addF (canonical_setFb h ..) ..) ..))) hu

theorem canonical_execActBlocked {s : State} (h : s.canonical = true) {actuator : Fin 2} {u : State}
    (hu : execActBlocked actuator s = .next u) : u.canonical = true :=
  canonical_done (canonical_expire h _ _ _ (fun _ h => canonical_raise (canonical_addF (canonical_setFb h ..) ..) ..)) hu

theorem canonical_execHoldOvercurrent {s : State} (h : s.canonical = true) {actuator : Fin 2} {u : State}
    (hu : execHoldOvercurrent actuator s = .next u) : u.canonical = true :=
  canonical_done (canonical_expire h _ _ _ (fun _ h => canonical_raise (canonical_setF h ..) ..)) hu

theorem canonical_execCompareWrite {s : State}
    (h : s.canonical = true) {r : Req} {actuator : Fin 2} {compare : Fin 4} {value : Word} {t : Nat} {u : State}
    (hu : execCompareWrite r actuator compare value t s = .next u) : u.canonical = true :=
  canonical_writeField h hu

theorem canonical_execCompareCfgWrite {s : State}
    (h : s.canonical = true) {r : Req} {actuator : Fin 2} {compare : Fin 4} {value : Word} {t : Nat} {u : State}
    (hu : execCompareCfgWrite r actuator compare value t s = .next u) : u.canonical = true :=
  canonical_writeField h hu

theorem canonical_execStoHwRequest {s : State} (h : s.canonical = true) {group : Fin 4} {cycles t : Nat} {u : State}
    (hu : execStoHwRequest group cycles t s = .next u) : u.canonical = true :=
  canonical_done (canonical_setEnable (canonical_when (canonical_setOn (canonical_parts h) ..) _ _ (fun _ h => canonical_setOn h ..)) ..) hu

theorem canonical_execStoHwRelease {s : State} (h : s.canonical = true) {group : Fin 4} {t : Nat} {u : State}
    (hu : execStoHwRelease group t s = .next u) : u.canonical = true := by
  unfold execStoHwRelease at hu
  refine canonical_done ?_ hu
  refine canonical_ite (canonical_setOn (canonical_parts h) ..) ?_
  exact canonical_setEnable (canonical_setOn (canonical_parts h) ..) ..

theorem canonical_execSbcHwOpen {s : State} (h : s.canonical = true) {sbc : Bool} {group : Fin 4} {t : Nat} {u : State}
    (hu : execSbcHwOpen sbc group t s = .next u) : u.canonical = true :=
  canonical_done (canonical_each (canonical_parts h) _ _ (fun _ h _ _ => canonical_ite (canonical_brakeApply h ..) h)) hu

theorem canonical_pairWindows {s : State} (h : s.canonical = true) (i : Nat) (a b : Bool) :
    (s.pairWindows i a b).canonical = true :=
  canonical_timed (canonical_timed h ..) ..

theorem canonical_stoTested {s : State} (h : s.canonical = true) (g : Nat) :
    (s.stoTested g).canonical = true :=
  canonical_openSlow (canonical_setV (canonical_clearCause (canonical_safeBit h ..) ..) ..) ..

theorem canonical_stoFail {s : State} (h : s.canonical = true) (g d1 : Nat) :
    (s.stoFail g d1).canonical = true :=
  canonical_raise (canonical_safeBit h ..) ..

theorem canonical_stoRequest {s : State} (h : s.canonical = true) (g : Nat) :
    (s.stoRequest g).canonical = true := by
  unfold State.stoRequest
  refine canonical_setOn ?_ ..
  refine canonical_ite ?_ ?_
  · refine canonical_stoFail ?_ ..
    refine canonical_ite ?_ ?_
    · exact canonical_stoSafe (canonical_addF (canonical_setOn (canonical_stoTested (canonical_writeEnSw (canonical_safeBit
        (canonical_setOn h ..) ..) ..) ..) ..) ..) ..
    · exact canonical_setOn (canonical_stoTested (canonical_writeEnSw (canonical_safeBit (canonical_setOn h ..) ..) ..) ..) ..
  · refine canonical_ite ?_ ?_
    · exact canonical_stoSafe (canonical_addF (canonical_setOn (canonical_stoTested (canonical_writeEnSw (canonical_safeBit
        (canonical_setOn h ..) ..) ..) ..) ..) ..) ..
    · exact canonical_setOn (canonical_stoTested (canonical_writeEnSw (canonical_safeBit (canonical_setOn h ..) ..) ..) ..) ..

theorem canonical_stoRelease {s : State} (h : s.canonical = true) (g : Nat) :
    (s.stoRelease g).canonical = true := by
  unfold State.stoRelease
  refine canonical_clearCause ?_ ..
  refine canonical_ite (canonical_note (canonical_safeBit (canonical_setOn h ..) ..) ..) ?_
  exact canonical_safeBit (canonical_setOn h ..) ..

theorem canonical_sbcRelease {s : State} (h : s.canonical = true) :
    s.sbcRelease.canonical = true :=
  canonical_clearCause (canonical_ite (canonical_note (canonical_setOn h ..) ..) (canonical_setOn h ..)) ..

theorem canonical_samplePair {s : State} (h : s.canonical = true) (i : Nat) (a b : Bool) :
    (s.samplePair i a b).canonical = true := by
  unfold State.samplePair
  refine canonical_ite ?_ ?_
  · refine canonical_ite ?_ ?_
    · exact canonical_setOn (canonical_pairWindows (canonical_setOn (canonical_ite (canonical_setV h ..) h) ..) ..) ..
    · refine canonical_ite ?_ ?_
      · exact canonical_stoRequest (canonical_pairWindows (canonical_setOn (canonical_ite (canonical_setV h ..) h) ..) ..) ..
      · exact canonical_sbcRequest (canonical_setOn (canonical_pairWindows (canonical_setOn (canonical_ite
          (canonical_setV h ..) h) ..) ..) ..)
  · refine canonical_ite ?_ ?_
    · refine canonical_ite ?_ ?_
      · exact canonical_setOn (canonical_pairWindows (canonical_setOn (canonical_ite (canonical_setV h ..) h) ..) ..) ..
      · refine canonical_ite ?_ ?_
        · exact canonical_stoRelease (canonical_pairWindows (canonical_setOn (canonical_ite (canonical_setV h ..) h) ..) ..) ..
        · exact canonical_sbcRelease (canonical_pairWindows (canonical_setOn (canonical_ite (canonical_setV h ..) h) ..) ..)
    · exact canonical_pairWindows (canonical_setOn (canonical_ite (canonical_setV h ..) h) ..) ..

theorem canonical_samplePairs {s : State} (h : s.canonical = true) (levels : BitVec 10) :
    (s.samplePairs levels).canonical = true :=
  canonical_setFb (canonical_setOn (canonical_each (canonical_setF (canonical_setF h ..) ..) _ _
    (fun _ h _ _ => canonical_samplePair h ..)) ..) ..

theorem canonical_stoRestore {s : State} (h : s.canonical = true) (g : Nat) :
    (s.stoRestore g).canonical = true :=
  canonical_ite (canonical_writeEnSw (canonical_setOn h ..) ..) h

theorem canonical_pathCheck {s : State} (h : s.canonical = true) (g : Nat) (hw sw drv : Bool) :
    (s.pathCheck g hw sw drv).canonical = true :=
  canonical_timed h ..

theorem canonical_swCheck {s : State} (h : s.canonical = true) (g : Nat) (present : Bool) :
    (s.swCheck g present).canonical = true :=
  canonical_ite (canonical_ite (canonical_stoFail (canonical_setOn h ..) ..) (canonical_setOn h ..)) h

theorem canonical_execSafetySample {s : State} (h : s.canonical = true) {levels : BitVec 10} {hw sw drv : BitVec 4} {u : State}
    (hu : execSafetySample levels hw sw drv s = .next u) : u.canonical = true := by
  unfold execSafetySample at hu
  refine canonical_done ?_ hu
  refine canonical_expire h _ _ _ ?_
  intro _ h
  refine canonical_ite (canonical_openSlow h ..) ?_
  exact canonical_brakeSync (canonical_each (canonical_samplePairs (canonical_openSlow h ..) ..) _ _ (fun _ h _ _ => canonical_stoRestore
    (canonical_pathCheck (canonical_swCheck h ..) ..) ..))

theorem canonical_execStoDiscrepancy {s : State} (h : s.canonical = true) {pair : Fin 5} {u : State}
    (hu : execStoDiscrepancy pair s = .next u) : u.canonical = true := by
  unfold execStoDiscrepancy at hu
  refine canonical_done ?_ hu
  refine canonical_expire h _ _ _ ?_
  intro _ h
  refine canonical_ite ?_ ?_
  · refine canonical_ite ?_ ?_
    · exact canonical_safeBit (canonical_raise (canonical_safeBit (canonical_addF h ..) ..) ..) ..
    · exact canonical_stoRequest (canonical_raise (canonical_safeBit (canonical_addF h ..) ..) ..) ..
  · refine canonical_brakeSync ?_
    refine canonical_raise ?_ ..
    refine canonical_ite (canonical_setFb (canonical_setFb (canonical_addF h ..) ..) ..) ?_
    exact canonical_sbcRequest (canonical_setOn (canonical_setFb (canonical_setFb (canonical_addF h ..) ..) ..) ..)

theorem canonical_execDiscrepancyCleared {s : State} (h : s.canonical = true) {pair : Fin 5} {u : State}
    (hu : execDiscrepancyCleared pair s = .next u) : u.canonical = true := by
  unfold execDiscrepancyCleared at hu
  refine canonical_done ?_ hu
  refine canonical_expire h _ _ _ ?_
  intro _ h
  refine canonical_ite ?_ ?_
  · refine canonical_ite (canonical_clearCause (canonical_safeBit h ..) ..) ?_
    exact canonical_stoRelease (canonical_clearCause (canonical_safeBit h ..) ..) ..
  · refine canonical_ite (canonical_clearCause (canonical_setFb (canonical_setFb h ..) ..) ..) ?_
    exact canonical_sbcRelease (canonical_clearCause (canonical_setFb (canonical_setFb h ..) ..) ..)

theorem canonical_execPathDisagree {s : State} (h : s.canonical = true) {group : Fin 4} {u : State}
    (hu : execPathDisagree group s = .next u) : u.canonical = true :=
  canonical_done (canonical_expire h _ _ _ (fun _ h => canonical_raise (canonical_setFb (canonical_setOn h ..) ..) ..)) hu

theorem canonical_execStoAutoTest {s : State} (h : s.canonical = true) {group : Fin 4} {t : Nat} {u : State}
    (hu : execStoAutoTest group t s = .next u) : u.canonical = true :=
  canonical_done (canonical_ite (canonical_stoTestStart (canonical_parts h) ..) (canonical_parts h)) hu

theorem canonical_execStoGroupTestEnd {s : State} (h : s.canonical = true) {group : Fin 4} {drv : BitVec 3} {t : Nat} {u : State}
    (hu : execStoGroupTestEnd group drv t s = .next u) : u.canonical = true := by
  unfold execStoGroupTestEnd at hu
  refine canonical_done ?_ hu
  refine canonical_ite (canonical_parts h) ?_
  refine canonical_ite ?_ ?_
  · refine canonical_each ?_ _ _ fun _ h _ _ => canonical_ite (canonical_armStage h ..) h
    refine canonical_stoTested ?_ ..
    refine canonical_ite ?_ ?_
    · exact canonical_writeEnSw (canonical_each (canonical_setEnable (canonical_setOn (canonical_parts h) ..) ..) _ _
        (fun _ h _ _ => canonical_setOn h ..)) ..
    · exact canonical_each (canonical_setEnable (canonical_setOn (canonical_parts h) ..) ..) _ _ fun _ h _ _ => canonical_setOn h ..
  · exact canonical_stoFail (canonical_each (canonical_setEnable (canonical_setOn (canonical_parts h) ..) ..) _ _
      (fun _ h _ _ => canonical_setOn h ..)) ..

theorem canonical_execStoTestDue {s : State} (h : s.canonical = true) {group : Fin 4} {u : State}
    (hu : execStoTestDue group s = .next u) : u.canonical = true :=
  canonical_done (canonical_expire h _ _ _ (fun _ h => canonical_raise (canonical_safeBit h ..) ..)) hu

theorem canonical_execBrakeCommandWrite {s : State} (h : s.canonical = true) {r : Req} {value : Word} {t : Nat} {u : State}
    (hu : execBrakeCommandWrite r value t s = .next u) : u.canonical = true :=
  canonical_writeField h hu

theorem canonical_brakeClear {s : State} (h : s.canonical = true) (k : Nat) :
    (s.brakeClear k).canonical = true :=
  canonical_clearCause (canonical_setFb (canonical_close h ..) ..) ..

theorem canonical_brakeFault {s : State} (h : s.canonical = true) (k cond : Nat) :
    (s.brakeFault k cond).canonical = true := by
  unfold State.brakeFault
  refine canonical_ite (canonical_close (canonical_ite (canonical_brakeClear h ..) h) ..) ?_
  exact canonical_brakeSync (canonical_raise (canonical_setFb (canonical_ite (canonical_brakeClear h ..) h) ..) ..)

theorem canonical_execBrakeSwitchCheck {s : State} (h : s.canonical = true) {brake : Fin 2} {obs : BrakeObs} {t : Nat} {u : State}
    (hu : execBrakeSwitchCheck brake obs t s = .next u) : u.canonical = true := by
  unfold execBrakeSwitchCheck at hu
  refine canonical_done ?_ hu
  refine canonical_ite (canonical_parts h) ?_
  refine canonical_ite ?_ ?_
  · exact canonical_brakeFault (canonical_timed (canonical_timed (canonical_parts h) ..) ..) ..
  · refine canonical_ite ?_ ?_
    · exact canonical_brakeFault (canonical_close (canonical_timed (canonical_timed (canonical_parts h) ..) ..) ..) ..
    · refine canonical_ite ?_ ?_
      · exact canonical_brakeFault (canonical_close (canonical_timed (canonical_timed (canonical_parts h) ..) ..) ..) ..
      · exact canonical_timed (canonical_timed (canonical_parts h) ..) ..

theorem canonical_execBrakeAppliedCheck {s : State} (h : s.canonical = true) {brake : Fin 2} {obs : BrakeRest} {t : Nat} {u : State}
    (hu : execBrakeAppliedCheck brake obs t s = .next u) : u.canonical = true := by
  unfold execBrakeAppliedCheck at hu
  refine canonical_done ?_ hu
  refine canonical_ite (canonical_parts h) ?_
  refine canonical_ite (canonical_brakeFault (canonical_parts h) ..) ?_
  refine canonical_ite (canonical_parts h) ?_
  split
  · exact canonical_openSlow (canonical_parts h) ..
  · exact canonical_ite (canonical_parts h) (canonical_brakeClear (canonical_parts h) ..)

theorem canonical_execBrakeTest {s : State} (h : s.canonical = true) {r : Req} {brake t : Nat} {u : State}
    (hu : execBrakeTest r brake t s = .next u) : u.canonical = true :=
  canonical_serveAt h hu

theorem canonical_brakePassed {s : State} (h : s.canonical = true) (k : Nat) :
    (s.brakePassed k).canonical = true :=
  canonical_brakeSync (canonical_report (canonical_addF (canonical_clearCause (canonical_clearCause (canonical_brakeDueWindow
    (canonical_setV (canonical_setF (canonical_setFb (canonical_setFb (canonical_setV (canonical_setFb
    (canonical_setF h ..) ..) ..) ..) ..) ..) ..) ..) ..) ..) ..) ..)

theorem canonical_execBrakeTestPhaseEnd {s : State} (h : s.canonical = true) {brake : Fin 2} {u : State}
    (hu : execBrakeTestPhaseEnd brake s = .next u) : u.canonical = true := by
  unfold execBrakeTestPhaseEnd at hu
  refine canonical_done ?_ hu
  refine canonical_expire h _ _ _ ?_
  intro _ h
  refine canonical_ite h ?_
  dsimp only
  split
  · exact canonical_openSlow (canonical_setV (canonical_setV h ..) ..) ..
  · exact canonical_openSlow (canonical_setV (canonical_setV h ..) ..) ..
  · refine canonical_ite ?_ ?_
    · exact canonical_openSlow (canonical_setV (canonical_setV (canonical_setOn h ..) ..) ..) ..
    · exact canonical_brakePassed h ..

theorem canonical_execBrakeTestDue {s : State} (h : s.canonical = true) {brake : Fin 2} {u : State}
    (hu : execBrakeTestDue brake s = .next u) : u.canonical = true :=
  canonical_done (canonical_expire h _ _ _ (fun _ h => canonical_raise (canonical_setF (canonical_setFb h ..) ..) ..)) hu

theorem canonical_execContactorCommandWrite {s : State} (h : s.canonical = true) {r : Req} {value : Word} {t : Nat} {u : State}
    (hu : execContactorCommandWrite r value t s = .next u) : u.canonical = true :=
  canonical_writeField h hu

theorem canonical_openOnFault {s : State} (h : s.canonical = true) :
    s.openOnFault.canonical = true :=
  canonical_ite (canonical_openSlow h ..) h

theorem canonical_mismatch {s : State} (h : s.canonical = true) (n d : Nat) :
    (s.mismatch n d).canonical = true :=
  canonical_ite h (canonical_openOnFault (canonical_raise (canonical_addF h ..) ..))

theorem canonical_welded {s : State} (h : s.canonical = true) (d cfb : Nat) :
    (s.welded d cfb).canonical = true :=
  canonical_ite h (canonical_openOnFault (canonical_raise (canonical_addF (canonical_safeBit h ..) ..) ..))

theorem canonical_cfbCheck {s : State} (h : s.canonical = true) (n : Nat) (level : Bool) : (s.cfbCheck n level).canonical = true := by
  unfold State.cfbCheck
  extract_lets d on good s1 s2 s3 s4 s5 s6 s7
  have h1 : s1.canonical = true := canonical_safeBit h ..
  have h3 : s3.canonical = true :=
    canonical_ite (canonical_ite (canonical_mismatch (canonical_close h1 ..) ..) (canonical_welded (canonical_close h1 ..) ..)) h1
  have h5 : s5.canonical = true :=
    canonical_ite (canonical_setV (canonical_close h3 ..) ..) (canonical_setV (canonical_setV (canonical_close h3 ..) ..) ..)
  have h7 : s7.canonical = true := canonical_setV (canonical_ite (canonical_clearCause h3 ..) h3) ..
  exact canonical_ite h (canonical_ite (canonical_ite (canonical_clearCause h5 ..) h5) (canonical_ite h7 (canonical_setV h7 ..)))

theorem canonical_execContactorCheck {s : State} (h : s.canonical = true) {levels : BitVec 8} {u : State}
    (hu : execContactorCheck levels s = .next u) : u.canonical = true := by
  unfold execContactorCheck at hu
  refine canonical_done ?_ hu
  refine canonical_expire h _ _ _ ?_
  intro _ h
  refine canonical_ite (canonical_openSlow h ..) ?_
  exact canonical_each (canonical_setF (canonical_openSlow h ..) ..) _ _ fun _ h _ _ => canonical_cfbCheck h ..

theorem canonical_execPrechargeWeldCheck {s : State} (h : s.canonical = true) {u : State}
    (hu : execPrechargeWeldCheck s = .next u) : u.canonical = true :=
  canonical_done (canonical_expire h _ _ _ (fun _ h => canonical_ite (canonical_welded h ..) h)) hu

theorem canonical_preLast {s : State} (h : s.canonical = true) :
    s.preLast.canonical = true := by
  unfold State.preLast
  split
  · exact canonical_preEval (canonical_parts h)
  · exact h

theorem canonical_execPrechargeTimeout {s : State} (h : s.canonical = true) {u : State}
    (hu : execPrechargeTimeout s = .next u) : u.canonical = true :=
  canonical_done (canonical_expire (canonical_preLast h) _ _ _ (fun _ h => canonical_openOnFault (canonical_raise
    (canonical_setFb h ..) ..))) hu

theorem canonical_execContactorOpenDelay {s : State} (h : s.canonical = true) {u : State}
    (hu : execContactorOpenDelay s = .next u) : u.canonical = true :=
  canonical_done (canonical_expire h _ _ _ (fun _ h => canonical_drivers h ..)) hu

theorem canonical_undoStage {s : State} (h : s.canonical = true) (t : Stage) (old : Nat) :
    (s.undoStage t old).canonical = true := by
  unfold State.undoStage
  refine canonical_ite h ?_
  split
  · exact canonical_enter (canonical_leaveActive h ..) ..
  · exact canonical_brakeSync (canonical_enter (canonical_each h _ _ (fun _ h _ _ => canonical_setOn (canonical_endCommands h ..) ..)) ..)
  · exact canonical_brakeSync (canonical_enter (canonical_each h _ _ (fun _ h _ _ => canonical_setOn (canonical_endCommands h ..) ..)) ..)
  · exact canonical_armStage h ..
  · exact canonical_enter h ..
  · refine canonical_ite ?_ h
    dsimp only
    split
    · exact canonical_setF (canonical_setV (canonical_close (canonical_setStg h ..) ..) ..) ..
    · exact canonical_close (canonical_setOn (canonical_setV (canonical_setV (canonical_close (canonical_setStg h ..) ..) ..) ..) ..) ..
    · exact canonical_setV (canonical_close (canonical_setStg h ..) ..) ..
  · refine canonical_ite ?_ h
    dsimp only
    split
    · exact canonical_setF (canonical_setV (canonical_close (canonical_setStg h ..) ..) ..) ..
    · exact canonical_close (canonical_setOn (canonical_setV (canonical_setV (canonical_close (canonical_setStg h ..) ..) ..) ..) ..) ..
    · exact canonical_setV (canonical_close (canonical_setStg h ..) ..) ..
  · refine canonical_ite ?_ h
    dsimp only
    split
    · exact canonical_setF (canonical_setV (canonical_close (canonical_setStg h ..) ..) ..) ..
    · exact canonical_close (canonical_setOn (canonical_setV (canonical_setV (canonical_close (canonical_setStg h ..) ..) ..) ..) ..) ..
    · exact canonical_setV (canonical_close (canonical_setStg h ..) ..) ..
  · exact h

theorem canonical_undo {s : State} (h : s.canonical = true) (p : Protected) :
    (s.undo p).canonical = true := by
  unfold State.undo
  split
  · refine canonical_ite (canonical_setEnable h ..) ?_
    exact canonical_safeBit (canonical_setOn (canonical_setEnable h ..) ..) ..
  · exact canonical_ite (canonical_brakeApply h ..) (canonical_setF (canonical_setFb (canonical_setOn h ..) ..) ..)
  · exact canonical_drivers h ..
  · exact canonical_undoStage h ..
  · exact h

theorem canonical_discardWrites {s : State} (h : s.canonical = true) :
    s.discardWrites.canonical = true :=
  canonical_parts (canonical_each h _ _ (fun _ h _ _ => canonical_undo h ..))

theorem canonical_captureS {s : State} (h : s.canonical = true) (m : Mismatch) :
    (s.captureS m).canonical = true :=
  canonical_setF (canonical_setF (canonical_setF (canonical_setF (canonical_setF h ..) ..) ..) ..) ..

theorem canonical_restartS {s : State} (h : s.canonical = true) (code counter : Nat) (d1 d2 : Nat) (m : Mismatch) :
    (s.restartS code counter d1 d2 m).canonical = true := by
  unfold State.restartS
  refine canonical_ite h ?_
  refine canonical_setFb ?_ ..
  refine canonical_each ?_ _ _ fun _ h _ _ => canonical_holdBy h ..
  refine canonical_ite ?_ ?_
  · exact canonical_raiseAll (canonical_setV (canonical_setFb (canonical_openSlow (canonical_setV (canonical_setFb
      (canonical_discardWrites (canonical_setF (canonical_captureS (canonical_addF h ..) ..) ..)) ..) ..) ..) ..) ..) ..
  · exact canonical_raise (canonical_setFb (canonical_openSlow (canonical_setV (canonical_setFb (canonical_discardWrites (canonical_setF
      (canonical_captureS (canonical_addF h ..) ..) ..)) ..) ..) ..) ..) ..

theorem canonical_execSMismatch {s : State} (h : s.canonical = true) {m : Mismatch} {t : Nat} {u : State}
    (hu : execSMismatch m t s = .next u) : u.canonical = true :=
  canonical_done (canonical_restartS (canonical_parts h) ..) hu

theorem canonical_execSWatchdog {s : State} (h : s.canonical = true) {m : Mismatch} {t : Nat} {u : State}
    (hu : execSWatchdog m t s = .next u) : u.canonical = true :=
  canonical_done (canonical_ite h (canonical_restartS (canonical_parts h) ..)) hu

theorem canonical_execRepeatWindowEnd {s : State} (h : s.canonical = true) {u : State}
    (hu : execRepeatWindowEnd s = .next u) : u.canonical = true :=
  canonical_done (canonical_expire h _ _ _ (fun _ h => canonical_setFb h ..)) hu

theorem canonical_carryDeferred {s : State} (h : s.canonical = true) :
    s.carryDeferred.canonical = true :=
  canonical_carryAll (canonical_parts h) ..

theorem canonical_releaseHold {s : State} (h : s.canonical = true) (h' : HoldCause) :
    (s.releaseHold h').canonical = true :=
  canonical_settle (canonical_each h _ _ (fun _ h _ _ => canonical_ite (canonical_tryRestore (canonical_setStg h ..) ..) h))

theorem canonical_deliverHeld {s : State} (h : s.canonical = true) :
    s.deliverHeld.canonical = true :=
  canonical_each (canonical_parts h) _ _ fun _ h _ _ => canonical_carryReq h ..

theorem canonical_warmDone {s : State} (h : s.canonical = true) (lost : Bool) (levels : BitVec 10) :
    (s.warmDone lost levels).canonical = true := by
  unfold State.warmDone
  refine canonical_ite h ?_
  refine canonical_note ?_ ..
  refine canonical_deliverHeld ?_
  refine canonical_setFb ?_ ..
  refine canonical_releaseHold ?_ ..
  refine canonical_clearCause ?_ ..
  refine canonical_clearCause ?_ ..
  refine canonical_ite ?_ ?_
  · refine canonical_raise ?_ ..
    refine canonical_ite ?_ ?_
    · exact canonical_moduleSafe (canonical_setV (canonical_carryDeferred (canonical_brakeSync (canonical_samplePairs (canonical_setOn
        (canonical_setFb (canonical_setF (canonical_addF (canonical_setF h ..) ..) ..) ..) ..) ..))) ..) ..
    · exact canonical_carryDeferred (canonical_brakeSync (canonical_samplePairs (canonical_setOn (canonical_setFb (canonical_setF
        (canonical_addF (canonical_setF h ..) ..) ..) ..) ..) ..))
  · refine canonical_ite ?_ ?_
    · exact canonical_moduleSafe (canonical_setV (canonical_carryDeferred (canonical_brakeSync (canonical_samplePairs (canonical_setOn
        (canonical_setFb (canonical_setF (canonical_addF (canonical_setF h ..) ..) ..) ..) ..) ..))) ..) ..
    · exact canonical_carryDeferred (canonical_brakeSync (canonical_samplePairs (canonical_setOn (canonical_setFb (canonical_setF
        (canonical_addF (canonical_setF h ..) ..) ..) ..) ..) ..))

theorem canonical_execWarmRestartDone {s : State} (h : s.canonical = true) {lost : Bool} {levels : BitVec 10} {t : Nat} {u : State}
    (hu : execWarmRestartDone lost levels t s = .next u) : u.canonical = true :=
  canonical_done (canonical_warmDone (canonical_parts h) ..) hu

theorem canonical_execHoldExpired {s : State} (h : s.canonical = true) {t : Stage} {u : State}
    (hu : execHoldExpired t s = .next u) : u.canonical = true :=
  canonical_done (canonical_expire h _ _ _ (fun _ h => canonical_ite (canonical_raise (canonical_when h _ _
    (fun _ h => canonical_setV h ..)) ..) h)) hu

theorem canonical_handFails {s : State} (h : s.canonical = true) :
    s.handFails.canonical = true := by
  unfold State.handFails
  split
  · exact h
  · dsimp only
    split
    · exact canonical_answerCmd (canonical_each (canonical_setF (canonical_parts h) ..) _ _ (fun _ h _ _ => canonical_when h _ _
        (fun _ h => canonical_setF h ..))) ..
    · exact canonical_each (canonical_setF (canonical_parts h) ..) _ _ fun _ h _ _ => canonical_when h _ _ (fun _ h => canonical_setF h ..)

theorem canonical_restartV {s : State} (h : s.canonical = true) (core code : Nat) (d1 d2 : Nat) :
    (s.restartV core code d1 d2).canonical = true := by
  unfold State.restartV
  refine canonical_ite h ?_
  exact canonical_handFails (canonical_raise (canonical_setFb (canonical_setF (canonical_setV (canonical_addF
    (canonical_addF h ..) ..) ..) ..) ..) ..)

theorem canonical_execVMismatch {s : State} (h : s.canonical = true) {m : Mismatch} {t : Nat} {u : State}
    (hu : execVMismatch m t s = .next u) : u.canonical = true := by
  unfold execVMismatch at hu
  refine canonical_done ?_ hu
  refine canonical_ite ?_ ?_
  · exact canonical_restartV (canonical_setF (canonical_setF (canonical_setF (canonical_setF (canonical_parts h) ..) ..) ..) ..) ..
  · exact canonical_parts h

theorem canonical_execVWatchdog {s : State} (h : s.canonical = true) {core : Fin 2} {t : Nat} {u : State}
    (hu : execVWatchdog core t s = .next u) : u.canonical = true :=
  canonical_done (canonical_ite (canonical_parts h) (canonical_restartV (canonical_parts h) ..)) hu

theorem canonical_serveQueue {s : State} (h : s.canonical = true) :
    s.serveQueue.canonical = true :=
  canonical_ite h (canonical_each (canonical_parts h) _ _ (fun _ h _ _ => canonical_serveReady h ..))

theorem canonical_drained {s : State} (h : s.canonical = true) :
    s.drained.canonical = true :=
  canonical_ite (canonical_note (canonical_setV h ..) ..) h

theorem canonical_execVRestartDone {s : State} (h : s.canonical = true) {core : Fin 2} {t : Nat} {u : State}
    (hu : execVRestartDone core t s = .next u) : u.canonical = true := by
  unfold execVRestartDone at hu
  refine canonical_done ?_ hu
  refine canonical_ite ?_ ?_
  · exact canonical_serveQueue (canonical_drained (canonical_note (canonical_clearCause (canonical_clearCause (canonical_setF
      (canonical_parts h) ..) ..) ..) ..))
  · exact h

theorem canonical_execSplitV {s : State} (h : s.canonical = true) {r : Req} {t : Nat} {u : State}
    (hu : execSplitV r t s = .next u) : u.canonical = true :=
  canonical_serveAt h hu

theorem canonical_handEnd {s : State} (h : s.canonical = true) (r : Req) (c : Svc) (x : Res) :
    (s.handEnd r c x).canonical = true := by
  unfold State.handEnd
  refine canonical_serveQueue ?_
  split
  · exact canonical_answerCmd (canonical_setF (canonical_setF (canonical_parts h) ..) ..) ..
  · exact canonical_setF (canonical_setF (canonical_parts h) ..) ..

theorem canonical_splitDone {s : State} (h : s.canonical = true) (completed : Bool) :
    (s.splitDone completed).canonical = true := by
  unfold State.splitDone
  split
  · refine canonical_ite (canonical_handEnd h ..) ?_
    exact canonical_handEnd (canonical_noteLasting (canonical_addF (canonical_setF h ..) ..) ..) ..
  · exact h

theorem canonical_execSplitVDone {s : State} (h : s.canonical = true) {completed : Bool} {t : Nat} {u : State}
    (hu : execSplitVDone completed t s = .next u) : u.canonical = true :=
  canonical_done (canonical_splitDone (canonical_parts h) ..) hu

theorem canonical_execJoinV {s : State} (h : s.canonical = true) {r : Req} {t : Nat} {u : State}
    (hu : execJoinV r t s = .next u) : u.canonical = true :=
  canonical_serveAt h hu

theorem canonical_joinDone {s : State} (h : s.canonical = true) (completed pass : Bool) :
    (s.joinDone completed pass).canonical = true := by
  unfold State.joinDone
  split
  · refine canonical_ite (canonical_handEnd h ..) ?_
    refine canonical_ite ?_ ?_
    · exact canonical_handEnd (canonical_note (canonical_noteEnds (canonical_setFb (canonical_addF (canonical_setF h ..) ..) ..) ..) ..) ..
    · exact canonical_handEnd (canonical_noteUntilStart (canonical_setFb (canonical_addF (canonical_setOn h ..) ..) ..) ..) ..
  · exact h

theorem canonical_execJoinVDone {s : State} (h : s.canonical = true) {completed pass : Bool} {t : Nat} {u : State}
    (hu : execJoinVDone completed pass t s = .next u) : u.canonical = true :=
  canonical_done (canonical_joinDone (canonical_parts h) ..) hu

theorem canonical_recordWrite {s : State} (h : s.canonical = true) :
    s.recordWrite.canonical = true := by
  unfold State.recordWrite
  split
  · exact h
  · refine canonical_ite h ?_
    exact canonical_setV (canonical_drained (canonical_fillCheck (canonical_append (canonical_parts h) ..))) ..

theorem canonical_execRecordWrite {s : State} (h : s.canonical = true) {u : State}
    (hu : execRecordWrite s = .next u) : u.canonical = true :=
  canonical_done (canonical_recordWrite h) hu

theorem canonical_execTokenRefill {s : State} (h : s.canonical = true) {code : Nat} {u : State}
    (hu : execTokenRefill code s = .next u) : u.canonical = true :=
  canonical_done (canonical_expire h _ _ _ (fun _ h => canonical_setDue (canonical_when h _ _ (fun _ h => canonical_setV h ..)) ..)) hu

theorem canonical_execLogRead {s : State} (h : s.canonical = true) {r : Req} {start count t : Nat} {u : State}
    (hu : execLogRead r start count t s = .next u) : u.canonical = true :=
  canonical_serveAt h hu

theorem canonical_execClearLog {s : State} (h : s.canonical = true) {r : Req} {t : Nat} {u : State}
    (hu : execClearLog r t s = .next u) : u.canonical = true :=
  canonical_serveAt h hu

theorem canonical_execClearDone {s : State} (h : s.canonical = true) {u : State}
    (hu : execClearDone s = .next u) : u.canonical = true :=
  canonical_done (canonical_ite (canonical_setOn (canonical_clearEnd (canonical_clearStage h) ..) ..) h) hu

theorem canonical_execCursorWrite {s : State} (h : s.canonical = true) {r : Req} {value : Word} {t : Nat} {u : State}
    (hu : execCursorWrite r value t s = .next u) : u.canonical = true :=
  canonical_writeField h hu

theorem canonical_execWindowRead {s : State} (h : s.canonical = true) {r : Req} {t : Nat} {u : State}
    (hu : execWindowRead r t s = .next u) : u.canonical = true :=
  canonical_serveAt h hu

theorem canonical_execPhyLinkUp {s : State} (h : s.canonical = true) {port : Fin 4} {master : Bool} {t : Nat} {u : State}
    (hu : execPhyLinkUp port master t s = .next u) : u.canonical = true := by
  unfold execPhyLinkUp at hu
  refine canonical_done ?_ hu
  refine canonical_ite ?_ ?_
  · exact canonical_openSlow (canonical_openSlow (canonical_openSlow (canonical_setV (canonical_setV (canonical_setFb (canonical_setFb
      (canonical_setPort (canonical_parts h) ..) ..) ..) ..) ..) ..) ..) ..
  · exact h

theorem canonical_cutPort {s : State} (h : s.canonical = true) (p : Nat) :
    (s.cutPort p).canonical = true :=
  canonical_setV (canonical_parts (canonical_addF (canonical_ite (canonical_parts (canonical_servePort h ..))
    (canonical_servePort h ..)) ..)) ..

theorem canonical_derive {s : State} (h : s.canonical = true) (depth path : Nat) :
    (s.derive depth path).canonical = true := by
  unfold State.derive
  refine canonical_ite h ?_
  split
  · exact h
  · refine canonical_ite ?_ ?_
    · exact canonical_setDue (canonical_note (canonical_setF (canonical_setF h ..) ..) ..) ..
    · exact canonical_note (canonical_setF (canonical_setF h ..) ..) ..

theorem canonical_startRound {s : State} (h : s.canonical = true) :
    s.startRound.canonical = true :=
  canonical_setOn (canonical_parts (canonical_openSlow (canonical_openSlow (canonical_each (canonical_setF (canonical_derive h ..) ..) _ _
    (fun _ h _ _ => canonical_sendOn h ..)) ..) ..)) ..

theorem canonical_rootEarly {s : State} (h : s.canonical = true) :
    s.rootEarly.canonical = true :=
  canonical_ite (canonical_setOn h ..) (canonical_startRound h)

theorem canonical_topology {s : State} (h : s.canonical = true) (p change : Nat) (wasUp : Bool) :
    (s.topology p change wasUp).canonical = true :=
  canonical_ite (canonical_rootEarly h) (canonical_ite h (canonical_sendUp h ..))

theorem canonical_portDown {s : State} (h : s.canonical = true) (p cause : Nat) :
    (s.portDown p cause).canonical = true := by
  unfold State.portDown
  refine canonical_ite h ?_
  refine canonical_topology ?_ ..
  refine canonical_ite ?_ ?_
  · refine canonical_noteLasting ?_ ..
    refine canonical_openSlow ?_ ..
    refine canonical_setPort ?_ ..
    refine canonical_raise ?_ ..
    refine canonical_ite ?_ ?_
    · exact canonical_addF (canonical_addF (canonical_setPort (canonical_portClear (canonical_cutPort h ..) ..) ..) ..) ..
    · exact canonical_setF (canonical_openSlow (canonical_addF (canonical_setPort (canonical_portClear
        (canonical_cutPort h ..) ..) ..) ..) ..) ..
  · refine canonical_raise ?_ ..
    refine canonical_ite ?_ ?_
    · exact canonical_addF (canonical_addF (canonical_setPort (canonical_portClear (canonical_cutPort h ..) ..) ..) ..) ..
    · exact canonical_setF (canonical_openSlow (canonical_addF (canonical_setPort (canonical_portClear
        (canonical_cutPort h ..) ..) ..) ..) ..) ..

theorem canonical_execPhyLinkLoss {s : State} (h : s.canonical = true) {port : Fin 4} {t : Nat} {u : State}
    (hu : execPhyLinkLoss port t s = .next u) : u.canonical = true := by
  unfold execPhyLinkLoss at hu
  refine canonical_done ?_ hu
  refine canonical_ite ?_ ?_
  · exact canonical_setPort (canonical_portClear (canonical_unloop (canonical_parts h) ..) ..) ..
  · exact canonical_portDown (canonical_parts h) ..

theorem canonical_execLinkCheckSend {s : State} (h : s.canonical = true) {port : Fin 4} {u : State}
    (hu : execLinkCheckSend port s = .next u) : u.canonical = true := by
  unfold execLinkCheckSend at hu
  refine canonical_done ?_ hu
  split
  · exact h
  · exact canonical_expire h _ _ _ fun _ h => canonical_sendOn (canonical_setDue h ..) ..

theorem canonical_portError {s : State} (h : s.canonical = true) (p j : Nat) :
    (s.portError p j).canonical = true :=
  canonical_addV (canonical_addF h ..) ..

theorem canonical_portCheck {s : State} (h : s.canonical = true) (p : Nat) (f : Frame) :
    (s.portCheck p f).2.canonical = true := by
  unfold State.portCheck
  refine canonical_ite_snd h ?_
  refine canonical_ite_snd (canonical_addF (canonical_addF h ..) ..) ?_
  refine canonical_ite_snd (canonical_portError (canonical_addF h ..) ..) ?_
  refine canonical_ite_snd (canonical_addF (canonical_addF h ..) ..) ?_
  refine canonical_ite ?_ ?_
  · exact canonical_ite (canonical_addF h ..) (canonical_openSlow (canonical_addF h ..) ..)
  · exact canonical_portError (canonical_ite (canonical_addF h ..) (canonical_openSlow (canonical_addF h ..) ..)) ..

theorem canonical_setPath {s : State} (h : s.canonical = true) (depth path : Nat) :
    (s.setPath depth path).canonical = true :=
  canonical_setF (canonical_setF (canonical_setF h ..) ..) ..

theorem canonical_sendWaggleReply {s : State} (h : s.canonical = true) :
    s.sendWaggleReply.canonical = true :=
  canonical_sendUp h ..

theorem canonical_settleRound {s : State} (h : s.canonical = true) :
    s.settleRound.canonical = true :=
  canonical_expire h _ _ _ fun _ h => canonical_sendWaggleReply (canonical_derive (canonical_setPath (canonical_setOn h ..) ..) ..)

theorem canonical_learn {s : State} (h : s.canonical = true) (src port : Nat) :
    (s.learn src port).canonical = true :=
  canonical_ite h (canonical_parts h)

theorem canonical_stopRoot {s : State} (h : s.canonical = true) :
    s.stopRoot.canonical = true :=
  canonical_noteEnds (canonical_close (canonical_close (canonical_parts (canonical_setOn (canonical_setFb h ..) ..)) ..) ..) ..

theorem canonical_setRoot {s : State} (h : s.canonical = true) (uid prio : Nat) :
    (s.setRoot uid prio).canonical = true :=
  canonical_setV (canonical_setF (canonical_setF h ..) ..) ..

theorem canonical_rootHeard {s : State} (h : s.canonical = true) :
    s.rootHeard.canonical = true :=
  canonical_ite h (canonical_openSlow h ..)

theorem canonical_setUpstream {s : State} (h : s.canonical = true) (p : Nat) :
    (s.setUpstream p).canonical = true :=
  canonical_setF (canonical_each h _ _ (fun _ h _ _ => canonical_setFb h ..)) ..

theorem canonical_forwardWaggle {s : State} (h : s.canonical = true) (p : Nat) (f : Frame) :
    (s.forwardWaggle p f).canonical = true :=
  canonical_each h _ _ fun _ h _ _ => canonical_sendOn h ..

theorem canonical_colonySize {s : State} (h : s.canonical = true) (nodes depth : Nat) :
    (s.colonySize nodes depth).canonical = true := by
  unfold State.colonySize
  refine canonical_ite h ?_
  refine canonical_ite (canonical_latencyCheck (canonical_setF (canonical_setF h ..) ..)) ?_
  exact canonical_setF (canonical_setF h ..) ..

theorem canonical_acceptRound {s : State} (h : s.canonical = true) (p : Nat) (f : Frame) :
    (s.acceptRound p f).canonical = true := by
  unfold State.acceptRound
  refine canonical_forwardWaggle ?_ ..
  refine canonical_colonySize ?_ ..
  refine canonical_setUpstream ?_ ..
  refine canonical_setDue ?_ ..
  refine canonical_setOn ?_ ..
  refine canonical_setV ?_ ..
  refine canonical_setV ?_ ..
  refine canonical_setF ?_ ..
  refine canonical_rootHeard ?_
  refine canonical_ite ?_ ?_
  · refine canonical_close ?_ ..
    refine canonical_clearCause ?_ ..
    refine canonical_setFb ?_ ..
    refine canonical_ite ?_ ?_
    · exact canonical_note (canonical_addF (canonical_addF (canonical_setRoot (canonical_learn (canonical_ite
        (canonical_stopRoot h) h) ..) ..) ..) ..) ..
    · exact canonical_addF (canonical_setRoot (canonical_learn (canonical_ite (canonical_stopRoot h) h) ..) ..) ..
  · refine canonical_clearCause ?_ ..
    refine canonical_setFb ?_ ..
    refine canonical_ite ?_ ?_
    · exact canonical_note (canonical_addF (canonical_addF (canonical_setRoot (canonical_learn (canonical_ite
        (canonical_stopRoot h) h) ..) ..) ..) ..) ..
    · exact canonical_addF (canonical_setRoot (canonical_learn (canonical_ite (canonical_stopRoot h) h) ..) ..) ..

theorem canonical_laterCopy {s : State} (h : s.canonical = true) (p : Nat) (f : Frame) :
    (s.laterCopy p f).canonical = true := by
  unfold State.laterCopy
  refine canonical_ite h ?_
  refine canonical_ite ?_ ?_
  · exact canonical_sendWaggleReply (canonical_setPath (canonical_forwardWaggle (canonical_setUpstream (canonical_setV
      (canonical_setV h ..) ..) ..) ..) ..)
  · exact canonical_forwardWaggle (canonical_setUpstream (canonical_setV (canonical_setV h ..) ..) ..) ..

theorem canonical_waggle {s : State} (h : s.canonical = true) (p : Nat) (f : Frame) :
    (s.waggle p f).canonical = true := by
  unfold State.waggle
  refine canonical_ite (canonical_ite (canonical_settleRound h) h) ?_
  refine canonical_ite (canonical_acceptRound (canonical_ite (canonical_settleRound h) h) ..) ?_
  refine canonical_ite ?_ (canonical_ite (canonical_settleRound h) h)
  refine canonical_rootHeard ?_
  refine canonical_ite (canonical_laterCopy (canonical_ite (canonical_settleRound h) h) ..) ?_
  exact canonical_ite (canonical_settleRound h) h

theorem canonical_waggles {s : State} (h : s.canonical = true) (l : List (Nat × Frame)) :
    (s.waggles l).canonical = true :=
  canonical_each h _ _ fun _ h _ _ => canonical_waggle h ..

theorem canonical_receiveWaggles {s : State} (h : s.canonical = true) (l : List (Nat × Frame)) :
    (s.receiveWaggles l).canonical = true := by
  unfold State.receiveWaggles
  extract_lets r
  have hr : r.2.canonical = true := canonical_foldl_snd h _ _ fun _ h _ _ => canonical_portCheck h ..
  exact canonical_waggles hr ..

theorem canonical_classify {s : State} (h : s.canonical = true) (src kind : Nat) (seq port : Nat) :
    (s.classify src kind seq port).2.canonical = true := by
  unfold State.classify
  dsimp only
  split
  · exact canonical_parts h
  · exact canonical_parts h

/-- Whether a frame's SEQ is taken or only looked at, the duplicate state is written, and nothing else. -/
theorem canonical_classified {s : State} (h : s.canonical = true) (b : Bool) (src kind seq port k : Nat) :
    (if b then s.classify src kind seq port else (k, s)).2.canonical = true :=
  canonical_ite_snd (canonical_classify h ..) h

theorem canonical_learnFirst {s : State} (h : s.canonical = true) (f : Frame) (p : Nat) :
    (s.learnFirst f p).canonical = true :=
  canonical_ite h (canonical_classify h ..)

theorem canonical_linkCheck {s : State} (h : s.canonical = true) (p : Nat) (b : List Byte) :
    (s.linkCheck p b).canonical = true := by
  unfold State.linkCheck
  refine canonical_ite ?_ ?_
  · exact canonical_noteLasting (canonical_setFb (canonical_setPort (canonical_portClear (canonical_setF
      (canonical_setF h ..) ..) ..) ..) ..) ..
  · refine canonical_ite ?_ ?_
    · exact canonical_topology (canonical_note (canonical_clearCause (canonical_setPort (canonical_setV (canonical_setV (canonical_setFb
        (canonical_setF (canonical_setF h ..) ..) ..) ..) ..) ..) ..) ..) ..
    · exact canonical_setV (canonical_setV (canonical_setFb (canonical_setF (canonical_setF h ..) ..) ..) ..) ..

theorem canonical_pdelayReq {s : State} (h : s.canonical = true) (p : Nat) (f : Frame) (st : Stamps) :
    (s.pdelayReq p f st).canonical = true :=
  canonical_ite h (canonical_sendOn h ..)

theorem canonical_pdelayResp {s : State} (h : s.canonical = true) (p : Nat) (f : Frame) (st : Stamps) :
    (s.pdelayResp p f st).canonical = true := by
  unfold State.pdelayResp
  refine canonical_ite h ?_
  refine canonical_ite (canonical_setV (canonical_setV (canonical_setV (canonical_setOn h ..) ..) ..) ..) ?_
  exact canonical_setFb (canonical_setF (canonical_setV (canonical_setV (canonical_setV (canonical_setOn h ..) ..) ..) ..) ..) ..

theorem canonical_deliverRequest {s : State} (h : s.canonical = true) (f : Frame) :
    (s.deliverRequest f).canonical = true := by
  unfold State.deliverRequest
  refine canonical_ite h ?_
  exact canonical_ite (canonical_answer h ..) (canonical_ite (canonical_serve h ..) (canonical_serve h ..))

theorem canonical_deliverService {s : State} (h : s.canonical = true) (f : Frame) :
    (s.deliverService f).canonical = true :=
  canonical_ite (canonical_deliverRequest h ..) h

theorem canonical_markSent {s : State} (h : s.canonical = true) (src kind : Nat) (seq port : Nat) :
    (s.markSent src kind seq port).canonical = true :=
  canonical_parts h

theorem canonical_forward {s : State} (h : s.canonical = true) (p : Nat) (f : Frame) (ports : List Nat) (k : Nat → List Byte) :
    (s.forward p f ports k).canonical = true :=
  canonical_each h _ _ fun _ h _ _ => canonical_markSent (canonical_sendOn h ..) ..

theorem canonical_service {s : State} (h : s.canonical = true) (p : Nat) (f : Frame) : (s.service p f).canonical = true := by
  unfold State.service
  extract_lets up lost
  have hup : ∀ g, (up s g).canonical = true := fun g => by
    unfold up
    split
    · exact canonical_ite h (canonical_sendOn h ..)
    · exact h
  have hlost : (lost s).canonical = true := canonical_ite (canonical_addF h ..) (hup f)
  clear_value up lost
  refine canonical_ite h (canonical_ite (canonical_ite ?_ (hup _)) (canonical_ite (canonical_ite ?_ ?_) ?_))
  · exact canonical_deliverService (canonical_each h _ _ fun _ h _ _ => canonical_sendOn h ..) ..
  · exact canonical_deliverService h ..
  · split
    · exact canonical_ite (canonical_sendOn h ..) hlost
    · exact hlost
  · have hc := canonical_classified h f.fcs f.src f.kind f.seq p (s.classOf f.src f.kind f.seq)
    split
    next c s hx =>
    rw [hx] at hc
    refine canonical_ite (canonical_addF hc ..) (canonical_ite (canonical_ite (canonical_deliverService hc ..) hc) ?_)
    split
    · exact canonical_ite (canonical_forward hc ..) (canonical_forward hc ..)
    · exact canonical_forward hc ..

theorem canonical_waggleReply {s : State} (h : s.canonical = true) (b : List Byte) :
    (s.waggleReply b).canonical = true :=
  canonical_ite h (canonical_parts h)

theorem canonical_refuseSelf {s : State} (h : s.canonical = true) (addr reason : Nat) :
    (s.refuseSelf addr reason).canonical = true := by
  unfold State.refuseSelf
  refine canonical_noteUntilStart ?_ ..
  refine canonical_ite ?_ ?_
  · exact canonical_setF (canonical_setF (canonical_setF (canonical_close (canonical_addF (canonical_setFb (canonical_setF
      (canonical_setF h ..) ..) ..) ..) ..) ..) ..) ..
  · exact canonical_close (canonical_addF (canonical_setFb (canonical_setF (canonical_setF h ..) ..) ..) ..) ..

theorem canonical_deliver {s : State} (h : s.canonical = true) (f : Frame) :
    (s.deliver f).canonical = true := by
  unfold State.deliver
  refine canonical_ite h ?_
  split
  · exact canonical_ite (canonical_waggleReply h ..) h
  · exact canonical_ite (canonical_rootEarly h) h
  · exact canonical_ite (canonical_refuseSelf h ..) h
  · exact canonical_deliverRequest h ..
  · exact h

theorem canonical_goUp {s : State} (h : s.canonical = true) (p : Nat) (f : Frame) :
    (s.goUp p f).canonical = true := by
  unfold State.goUp
  refine canonical_ite (canonical_ite (canonical_service h ..) (canonical_deliver h ..)) ?_
  split
  · exact canonical_ite h (canonical_sendOn h ..)
  · exact canonical_addF h ..

theorem canonical_goTree {s : State} (h : s.canonical = true) (p : Nat) (f : Frame) :
    (s.goTree p f).canonical = true :=
  canonical_deliver (canonical_each h _ _ (fun _ h _ _ => canonical_sendOn h ..)) ..

theorem canonical_transit {s : State} (h : s.canonical = true) (p : Nat) (f : Frame) :
    (s.transit p f).canonical = true :=
  canonical_each (canonical_ite (canonical_deliver h ..) h) _ _ fun _ h _ _ => canonical_sendOn h ..

theorem canonical_ringCopy {s : State} (h : s.canonical = true) (p no : Nat) :
    (s.ringCopy p no).canonical = true :=
  canonical_ite h (canonical_setV (canonical_setV h ..) ..)

theorem canonical_writeSignal {s : State} (h : s.canonical = true) (w : Waiting) : (s.writeSignal w).canonical = true := by
  have hw := canonical_hostWrite1 h { who := none, leaving := [], closing := [] } w.index w.sub w.value
  unfold State.writeSignal
  dsimp only
  exact canonical_ite (canonical_setV (canonical_setV hw ..) ..) (canonical_note (canonical_addF (canonical_countResult hw ..) ..) ..)

theorem canonical_cycleActions {s : State} (h : s.canonical = true) (start : Nat) :
    (s.cycleActions start).canonical = true :=
  canonical_cycleAlign (canonical_each (canonical_each (canonical_parts (canonical_setDue (canonical_setV h ..) ..)) _ _
    (fun _ h _ _ => canonical_writeSignal h ..)) _ _ (fun _ h _ _ => canonical_setDue h ..))

theorem canonical_cycleStep {s : State} (h : s.canonical = true) (est : Int) (no : Nat) (size : Int) :
    (s.cycleStep est no size).canonical = true :=
  canonical_cycleActions (canonical_setOn (canonical_setF (canonical_note (canonical_addF h ..) ..) ..) ..) ..

theorem canonical_loopUpdate {s : State} (h : s.canonical = true) :
    s.loopUpdate.canonical = true :=
  canonical_setV (canonical_setV (canonical_setV (canonical_setCorrection (canonical_parts h) ..) ..) ..) ..

theorem canonical_disciplineFrame {s : State} (h : s.canonical = true) (err : Int) (masterChanged : Bool) :
    (s.disciplineFrame err masterChanged).canonical = true := by
  unfold State.disciplineFrame
  refine canonical_ite (canonical_disciplineFree h) ?_
  refine canonical_ite ?_ ?_
  · exact canonical_noteEnds (canonical_loopUpdate (canonical_setDisc (canonical_setF (canonical_setV (canonical_ite
      (canonical_holdoverEnd h) h) ..) ..) ..)) ..
  · refine canonical_ite ?_ ?_
    · refine canonical_ite ?_ ?_
      · exact canonical_raise (canonical_loopUpdate (canonical_setDisc (canonical_setF (canonical_setV (canonical_ite
          (canonical_holdoverEnd h) h) ..) ..) ..)) ..
      · exact canonical_loopUpdate (canonical_setDisc (canonical_setF (canonical_setV (canonical_ite
          (canonical_holdoverEnd h) h) ..) ..) ..)
    · refine canonical_ite ?_ ?_
      · refine canonical_ite ?_ ?_
        · exact canonical_setDisc (canonical_setV (canonical_loopUpdate (canonical_setF (canonical_setV (canonical_ite
            (canonical_holdoverEnd h) h) ..) ..)) ..) ..
        · exact canonical_setV (canonical_loopUpdate (canonical_setF (canonical_setV (canonical_ite (canonical_holdoverEnd h) h) ..) ..)) ..
      · refine canonical_ite ?_ ?_
        · exact canonical_raise (canonical_setDisc (canonical_setV (canonical_loopUpdate (canonical_setF (canonical_setV (canonical_ite
            (canonical_holdoverEnd h) h) ..) ..)) ..) ..) ..
        · exact canonical_setV (canonical_loopUpdate (canonical_setF (canonical_setV (canonical_ite (canonical_holdoverEnd h) h) ..) ..)) ..

theorem canonical_followSync {s : State} (h : s.canonical = true) (p : Nat) (f : Frame) (st : Stamps) (changed : Bool) :
    (s.followSync p f st changed).canonical = true := by
  unfold State.followSync
  refine canonical_ite ?_ ?_
  · refine canonical_note ?_ ..
    refine canonical_setV ?_ ..
    refine canonical_disciplineFrame ?_ ..
    refine canonical_setF ?_ ..
    refine canonical_ite ?_ ?_
    · refine canonical_cycleStep ?_ ..
      refine canonical_ite ?_ ?_
      · exact canonical_setOn (canonical_setOn (canonical_setCycleLen (canonical_ite (canonical_missedCycle h) h) ..) ..) ..
      · exact canonical_setOn (canonical_close (canonical_setOn (canonical_setCycleLen (canonical_ite
          (canonical_missedCycle h) h) ..) ..) ..) ..
    · refine canonical_ite ?_ ?_
      · exact canonical_setOn (canonical_setOn (canonical_setCycleLen (canonical_ite (canonical_missedCycle h) h) ..) ..) ..
      · exact canonical_setOn (canonical_close (canonical_setOn (canonical_setCycleLen (canonical_ite
          (canonical_missedCycle h) h) ..) ..) ..) ..
  · refine canonical_setV ?_ ..
    refine canonical_disciplineFrame ?_ ..
    refine canonical_setF ?_ ..
    refine canonical_ite ?_ ?_
    · refine canonical_cycleStep ?_ ..
      refine canonical_ite ?_ ?_
      · exact canonical_setOn (canonical_setOn (canonical_setCycleLen (canonical_ite (canonical_missedCycle h) h) ..) ..) ..
      · exact canonical_setOn (canonical_close (canonical_setOn (canonical_setCycleLen (canonical_ite
          (canonical_missedCycle h) h) ..) ..) ..) ..
    · refine canonical_ite ?_ ?_
      · exact canonical_setOn (canonical_setOn (canonical_setCycleLen (canonical_ite (canonical_missedCycle h) h) ..) ..) ..
      · exact canonical_setOn (canonical_close (canonical_setOn (canonical_setCycleLen (canonical_ite
          (canonical_missedCycle h) h) ..) ..) ..) ..

theorem canonical_sync {s : State} (h : s.canonical = true) (p : Nat) (f : Frame) (st : Stamps) : (s.sync p f st).canonical = true := by
  unfold State.sync
  refine canonical_ite (canonical_ite (canonical_ringCopy h ..) h) ?_
  have hc := canonical_classified h f.fcs f.src 5 f.seq p (s.classOf f.src 5 f.seq)
  split
  next c s hx =>
  rw [hx] at hc
  extract_lets delay s1 own role mine s2 lapsed take s3 s4 s5 changed
  have h1 : s1.canonical = true := canonical_forward hc ..
  have h2 : s2.canonical = true := canonical_ite (canonical_setDue h1 ..) h1
  have h3 : s3.canonical = true := canonical_ite (canonical_ringCopy h2 ..) h2
  have h5 : s5.canonical = true := canonical_ite (canonical_setDue (canonical_note (canonical_addF h3 ..) ..) ..) (canonical_addF h3 ..)
  refine canonical_ite (canonical_addF hc ..) (canonical_ite h1 (canonical_ite h2 (canonical_ite h3 ?_)))
  exact canonical_followSync (canonical_ringCopy (canonical_setF (canonical_setV (canonical_setV (canonical_setV (canonical_setV
    (canonical_setMaster h5 ..) ..) ..) ..) ..) ..) ..) ..

theorem canonical_deliverSignal {s : State} (h : s.canonical = true) (id : Nat) (v : Word) :
    (s.deliverSignal id v).canonical = true := by
  unfold State.deliverSignal
  refine canonical_ite h ?_
  refine canonical_ite (canonical_writeSignal (canonical_addF h ..) ..) ?_
  exact canonical_parts (canonical_ite (canonical_addF (canonical_addF h ..) ..) (canonical_addF h ..))

theorem canonical_signal {s : State} (h : s.canonical = true) (p : Nat) (f : Frame) : (s.signal p f).canonical = true := by
  unfold State.signal
  refine canonical_ite h ?_
  have hc := canonical_classified h f.fcs f.src 6 f.seq p (s.classOf f.src 6 f.seq)
  split
  next c s hx =>
  rw [hx] at hc
  refine canonical_ite (canonical_addF hc ..) (canonical_ite (canonical_each ?_ _ _ fun _ h _ _ => canonical_deliverSignal h ..) ?_)
  all_goals exact canonical_forward (canonical_ite (canonical_addF hc ..) hc) ..

theorem canonical_handleFrame {s : State} (h : s.canonical = true) (p : Nat) (f : Frame) (st : Stamps) :
    (s.handleFrame p f st).canonical = true := by
  unfold State.handleFrame
  refine canonical_ite ?_ ?_
  · refine canonical_ite ?_ ?_
    · exact canonical_linkCheck (canonical_ite h (canonical_ite (canonical_learnFirst h ..) (canonical_learn h ..))) ..
    · exact canonical_ite h (canonical_ite (canonical_learnFirst h ..) (canonical_learn h ..))
  · refine canonical_ite ?_ ?_
    · refine canonical_ite ?_ ?_
      · exact canonical_ite h (canonical_ite (canonical_learnFirst h ..) (canonical_learn h ..))
      · refine canonical_ite ?_ ?_
        · exact canonical_pdelayReq (canonical_ite h (canonical_ite (canonical_learnFirst h ..) (canonical_learn h ..))) ..
        · exact canonical_pdelayResp (canonical_ite h (canonical_ite (canonical_learnFirst h ..) (canonical_learn h ..))) ..
    · refine canonical_ite ?_ ?_
      · exact canonical_goUp (canonical_ite h (canonical_ite (canonical_learnFirst h ..) (canonical_learn h ..))) ..
      · refine canonical_ite ?_ ?_
        · exact canonical_goTree (canonical_ite h (canonical_ite (canonical_learnFirst h ..) (canonical_learn h ..))) ..
        · refine canonical_ite ?_ ?_
          · exact canonical_transit (canonical_ite h (canonical_ite (canonical_learnFirst h ..) (canonical_learn h ..))) ..
          · refine canonical_ite ?_ ?_
            · exact canonical_ite h (canonical_ite (canonical_learnFirst h ..) (canonical_learn h ..))
            · refine canonical_ite ?_ ?_
              · exact canonical_sync (canonical_ite h (canonical_ite (canonical_learnFirst h ..) (canonical_learn h ..))) ..
              · refine canonical_ite ?_ ?_
                · exact canonical_signal (canonical_ite h (canonical_ite (canonical_learnFirst h ..) (canonical_learn h ..))) ..
                · exact canonical_service (canonical_ite h (canonical_ite (canonical_learnFirst h ..) (canonical_learn h ..))) ..

theorem canonical_receive {s : State} (h : s.canonical = true) (p : Nat) (f : Frame) (st : Stamps) :
    (s.receive p f st).canonical = true := by
  unfold State.receive
  dsimp only
  refine canonical_ite (canonical_receiveWaggles h ..) (canonical_ite (canonical_handleFrame ?_ ..) ?_)
  all_goals exact canonical_portCheck h ..

theorem canonical_receiveKind {s : State}
    (h : s.canonical = true) {is : Bool} {port : Fin 4} {f : Frame} {st : Stamps} {t : Nat} {u : State}
    (hu : s.receiveKind is port f st t = .next u) : u.canonical = true :=
  canonical_done (canonical_ite (canonical_receive (canonical_parts h) ..) h) hu

theorem canonical_execLinkCheck {s : State} (h : s.canonical = true) {port : Fin 4} {frame : Frame} {t : Nat} {u : State}
    (hu : execLinkCheck port frame t s = .next u) : u.canonical = true :=
  canonical_receiveKind h hu

theorem canonical_execLinkTimeout {s : State} (h : s.canonical = true) {port : Fin 4} {u : State}
    (hu : execLinkTimeout port s = .next u) : u.canonical = true :=
  canonical_done (canonical_expire h _ _ _ (fun _ h => canonical_portDown h ..)) hu

theorem canonical_execErrorWindowEnd {s : State} (h : s.canonical = true) {port : Fin 4} {u : State}
    (hu : execErrorWindowEnd port s = .next u) : u.canonical = true := by
  unfold execErrorWindowEnd at hu
  refine canonical_done ?_ hu
  split
  · exact h
  · exact canonical_expire h _ _ _ fun _ h => canonical_ite (canonical_portDown h ..) (canonical_setDue (canonical_setV h ..) ..)

theorem canonical_execHoldOffEnd {s : State} (h : s.canonical = true) {port : Fin 4} {u : State}
    (hu : execHoldOffEnd port s = .next u) : u.canonical = true :=
  canonical_done (canonical_expire h _ _ _ (fun _ h => canonical_noteEnds (canonical_close (canonical_setF
    (canonical_setPort h ..) ..) ..) ..)) hu

theorem canonical_execFrameReceived {s : State}
    (h : s.canonical = true) {port : Fin 4} {frame : Frame} {stamps : Stamps} {t : Nat} {u : State}
    (hu : execFrameReceived port frame stamps t s = .next u) : u.canonical = true :=
  canonical_done (canonical_receive (canonical_parts h) ..) hu

theorem canonical_execTopology {s : State} (h : s.canonical = true) {port : Fin 4} {frame : Frame} {t : Nat} {u : State}
    (hu : execTopology port frame t s = .next u) : u.canonical = true :=
  canonical_receiveKind h hu

theorem canonical_execWagglePeriodEnd {s : State} (h : s.canonical = true) {u : State}
    (hu : execWagglePeriodEnd s = .next u) : u.canonical = true :=
  canonical_done (canonical_expire h _ _ _ (fun _ h => canonical_ite (canonical_startRound h) h)) hu

theorem canonical_execWaggle {s : State} (h : s.canonical = true) {copies : List (Fin 4 × Frame)} {t : Nat} {u : State}
    (hu : execWaggle copies t s = .next u) : u.canonical = true :=
  canonical_done (canonical_receiveWaggles (canonical_parts h) ..) hu

theorem canonical_execWaggleSettle {s : State} (h : s.canonical = true) {u : State}
    (hu : execWaggleSettle s = .next u) : u.canonical = true :=
  canonical_done (canonical_settleRound h) hu

theorem canonical_execWaggleReply {s : State} (h : s.canonical = true) {port : Fin 4} {frame : Frame} {t : Nat} {u : State}
    (hu : execWaggleReply port frame t s = .next u) : u.canonical = true :=
  canonical_receiveKind h hu

theorem canonical_sendRefused {s : State} (h : s.canonical = true) (uid addr reason : Nat) :
    (s.sendRefused uid addr reason).canonical = true :=
  canonical_sendTree h ..

theorem canonical_tally {s : State} (h : s.canonical = true) : s.tally.canonical = true := by
  unfold State.tally
  extract_lets known old new room joined s1 s2 limit kept left s3 s4 table here live s5 s6 table' s7 nodes depth s8
  have h2 : s2.canonical = true := canonical_each (canonical_ite (canonical_noteEnds h ..) h) _ _ fun _ h _ _ =>
    canonical_noteLasting (canonical_sendRefused h ..) ..
  have h4 : s4.canonical = true := canonical_each (canonical_each h2 _ _ fun _ h _ _ => canonical_note (canonical_addF h ..) ..) _ _
    fun _ h _ _ => canonical_note (canonical_addF h ..) ..
  have h5 : s5.canonical = true := by
    unfold s5
    split
    · exact canonical_setOn (canonical_refuseSelf h4 ..) ..
    · exact canonical_setOn h4 ..
  have h6 : s6.canonical = true := canonical_each h5 _ _ fun _ h _ _ => by
    split
    · exact canonical_sendRefused h ..
    · exact h
  have h8 : s8.canonical = true := canonical_colonySize (canonical_setV (canonical_setV (canonical_parts h6) ..) ..) ..
  exact canonical_ite (canonical_startRound h8) h8

theorem canonical_execReplyWindowEnd {s : State} (h : s.canonical = true) {u : State}
    (hu : execReplyWindowEnd s = .next u) : u.canonical = true :=
  canonical_done (canonical_expire h _ _ _ (fun _ h => canonical_ite (canonical_tally h) h)) hu

theorem canonical_execAddressRefused {s : State} (h : s.canonical = true) {port : Fin 4} {frame : Frame} {t : Nat} {u : State}
    (hu : execAddressRefused port frame t s = .next u) : u.canonical = true :=
  canonical_receiveKind h hu

theorem canonical_becomeRoot {s : State} (h : s.canonical = true) :
    s.becomeRoot.canonical = true :=
  canonical_startRound (canonical_close (canonical_parts (canonical_setOn (canonical_setV (canonical_setV (canonical_setF (canonical_setF
    (canonical_setF (canonical_setF (canonical_setF (canonical_each (canonical_setRoot (canonical_setFb h ..) ..) _ _
    (fun _ h _ _ => canonical_setFb h ..)) ..) ..) ..) ..) ..) ..) ..) ..)) ..)

theorem canonical_execRootLost {s : State} (h : s.canonical = true) {u : State}
    (hu : execRootLost s = .next u) : u.canonical = true := by
  unfold execRootLost at hu
  refine canonical_done ?_ hu
  refine canonical_expire h _ _ _ ?_
  intro _ h
  refine canonical_ite ?_ ?_
  · exact canonical_becomeRoot (canonical_ite h (canonical_raise (canonical_setRoot (canonical_addF (canonical_setFb h ..) ..) ..) ..))
  · exact canonical_ite h (canonical_raise (canonical_setRoot (canonical_addF (canonical_setFb h ..) ..) ..) ..)

theorem canonical_execSyncReceived {s : State}
    (h : s.canonical = true) {port : Fin 4} {frame : Frame} {stamps : Stamps} {t : Nat} {u : State}
    (hu : execSyncReceived port frame stamps t s = .next u) : u.canonical = true :=
  canonical_receiveKind h hu

theorem canonical_execPdelaySend {s : State} (h : s.canonical = true) {leave : List Nat} {u : State}
    (hu : execPdelaySend leave s = .next u) : u.canonical = true := by
  unfold execPdelaySend at hu
  refine canonical_done ?_ hu
  split
  · exact h
  · refine canonical_expire h _ _ _ ?_
    intro _ h
    refine canonical_ite (canonical_setDue h ..) ?_
    exact canonical_each (canonical_setDue h ..) _ _ fun _ h _ _ => canonical_sendOn (canonical_setOn (canonical_setV
      (canonical_setV h ..) ..) ..) ..

theorem canonical_execPdelayReq {s : State} (h : s.canonical = true) {port : Fin 4} {frame : Frame} {stamps : Stamps} {t : Nat} {u : State}
    (hu : execPdelayReq port frame stamps t s = .next u) : u.canonical = true :=
  canonical_receiveKind h hu

theorem canonical_execPdelayResp {s : State} (h : s.canonical = true) {port : Fin 4} {frame : Frame} {stamps : Stamps} {t : Nat} {u : State}
    (hu : execPdelayResp port frame stamps t s = .next u) : u.canonical = true :=
  canonical_receiveKind h hu

theorem canonical_execMasterAssumed {s : State} (h : s.canonical = true) {u : State}
    (hu : execMasterAssumed s = .next u) : u.canonical = true := by
  unfold execMasterAssumed at hu
  refine canonical_done ?_ hu
  refine canonical_expire h _ _ _ ?_
  intro _ h
  refine canonical_ite h ?_
  exact canonical_note (canonical_disciplineFree (canonical_setCycleLen (canonical_setF (canonical_setV (canonical_setDue (canonical_close
    (canonical_setOn (canonical_setF (canonical_setV (canonical_setMaster h ..) ..) ..) ..) ..) ..) ..) ..) ..)) ..

theorem canonical_ringSync {s : State} (h : s.canonical = true) :
    s.ringSync.canonical = true :=
  canonical_setFb h ..

theorem canonical_ringPort {s : State} (h : s.canonical = true) (p : Nat) (missed : Bool) :
    (s.ringPort p missed).canonical = true := by
  unfold State.ringPort
  refine canonical_ite ?_ ?_
  · refine canonical_ite ?_ ?_
    · exact canonical_raise (canonical_ringSync (canonical_setOn (canonical_setV (canonical_addV h ..) ..) ..)) ..
    · exact canonical_setV (canonical_addV h ..) ..
  · refine canonical_ite (canonical_setV h ..) ?_
    refine canonical_ite ?_ ?_
    · exact canonical_note (canonical_clearCause (canonical_ringSync (canonical_setV (canonical_setOn (canonical_addV
        (canonical_setV h ..) ..) ..) ..)) ..) ..
    · exact canonical_addV (canonical_setV h ..) ..

theorem canonical_ringCheck {s : State} (h : s.canonical = true) :
    s.ringCheck.canonical = true := by
  unfold State.ringCheck
  refine canonical_ite h ?_
  refine canonical_ite (canonical_setF h ..) ?_
  exact canonical_each (canonical_setF h ..) _ _ fun _ h _ _ => canonical_ringPort h ..

theorem canonical_sendSync {s : State} (h : s.canonical = true) (leave : List Nat) :
    (s.sendSync leave).canonical = true :=
  canonical_each (canonical_addF h ..) _ _ fun _ h _ _ => canonical_sendOn h ..

theorem canonical_cycleStart {s : State} (h : s.canonical = true) (start : Nat) (leave : List Nat) :
    (s.cycleStart start leave).canonical = true := by
  unfold State.cycleStart
  refine canonical_ite ?_ ?_
  · exact canonical_sendSync (canonical_cycleActions (canonical_setF (canonical_setOn (canonical_ringCheck h) ..) ..) ..) ..
  · refine canonical_ite ?_ ?_
    · refine canonical_ite ?_ ?_
      · exact canonical_setOn (canonical_cycleActions (canonical_setF (canonical_setOn (canonical_ringCheck h) ..) ..) ..) ..
      · exact canonical_setDue (canonical_cycleActions (canonical_setF (canonical_setOn (canonical_ringCheck h) ..) ..) ..) ..
    · exact canonical_cycleActions (canonical_setF (canonical_setOn (canonical_ringCheck h) ..) ..) ..

theorem canonical_execCycleStart {s : State} (h : s.canonical = true) {leave : List Nat} {u : State}
    (hu : execCycleStart leave s = .next u) : u.canonical = true := by
  unfold execCycleStart at hu
  refine canonical_done ?_ hu
  split
  · exact h
  · exact canonical_expire h _ _ _ fun _ h => canonical_ite (canonical_cycleStart h ..) h

theorem canonical_publishFrame {s : State} (h : s.canonical = true) (n : Nat) :
    (s.publishFrame n).canonical = true := by
  unfold State.publishFrame
  refine canonical_ite h ?_
  refine canonical_ite ?_ ?_
  · exact canonical_each (canonical_setV (canonical_addF (canonical_each (canonical_setV h ..) _ _
      (fun _ h _ _ => canonical_sendOn h ..)) ..) ..) _ _ fun _ h _ _ => canonical_deliverSignal h ..
  · exact canonical_setV (canonical_addF (canonical_each (canonical_setV h ..) _ _ (fun _ h _ _ => canonical_sendOn h ..)) ..) ..

theorem canonical_execPublish {s : State} (h : s.canonical = true) {frame : Fin 4} {u : State}
    (hu : execPublish frame s = .next u) : u.canonical = true :=
  canonical_done (canonical_expire h _ _ _ (fun _ h => canonical_publishFrame h ..)) hu

theorem canonical_execSignal {s : State} (h : s.canonical = true) {port : Fin 4} {frame : Frame} {t : Nat} {u : State}
    (hu : execSignal port frame t s = .next u) : u.canonical = true :=
  canonical_receiveKind h hu

theorem canonical_forget {s : State} (h : s.canonical = true) (src : Nat) :
    (s.forget src).canonical = true := by
  unfold State.forget
  split
  · exact h
  · exact canonical_parts h

theorem canonical_execDuplicateStateExpiry {s : State} (h : s.canonical = true) {src : Nat} {u : State}
    (hu : execDuplicateStateExpiry src s = .next u) : u.canonical = true :=
  canonical_done (canonical_forget h ..) hu

theorem canonical_execServiceReq {s : State} (h : s.canonical = true) {port : Fin 4} {frame : Frame} {t : Nat} {u : State}
    (hu : execServiceReq port frame t s = .next u) : u.canonical = true :=
  canonical_receiveKind h hu

theorem canonical_claimDone {s : State} (h : s.canonical = true) (ch : Nat) :
    (s.claimDone ch).canonical = true :=
  canonical_note (canonical_noteEnds (canonical_setF (canonical_setFb h ..) ..) ..) ..

theorem canonical_cannotClaim {s : State} (h : s.canonical = true) (ch : Nat) :
    (s.cannotClaim ch).canonical = true :=
  canonical_raise (canonical_sendClaim (canonical_setFb (canonical_setV h ..) ..) ..) ..

theorem canonical_loseAddress {s : State} (h : s.canonical = true) (ch : Nat) :
    (s.loseAddress ch).canonical = true := by
  unfold State.loseAddress
  refine canonical_ite ?_ ?_
  · split
    · exact canonical_claimGo (canonical_canSync (canonical_parts (canonical_addF (canonical_noteLasting (canonical_close (canonical_setF
        (canonical_setFb h ..) ..) ..) ..) ..)) ..) ..
    · exact canonical_cannotClaim (canonical_canSync (canonical_parts (canonical_addF (canonical_noteLasting (canonical_close
        (canonical_setF (canonical_setFb h ..) ..) ..) ..) ..)) ..) ..
  · exact canonical_cannotClaim (canonical_canSync (canonical_parts (canonical_addF (canonical_noteLasting (canonical_close
      (canonical_setF (canonical_setFb h ..) ..) ..) ..) ..)) ..) ..

theorem canonical_claimFrame {s : State} (h : s.canonical = true) (ch : Nat) (f : CanFrame) :
    (s.claimFrame ch f).canonical = true := by
  unfold State.claimFrame
  refine canonical_ite ?_ (canonical_ite (canonical_sendClaim h ..) h)
  refine canonical_ite ?_ (canonical_parts h)
  refine canonical_ite ?_ ?_
  · exact canonical_loseAddress (canonical_ite (canonical_claimDone (canonical_close (canonical_parts h) ..) ..) (canonical_parts h)) ..
  · exact canonical_sendClaim (canonical_close (canonical_ite (canonical_claimDone (canonical_close (canonical_parts h) ..) ..)
      (canonical_parts h)) ..) ..

theorem canonical_canErrors {s : State} (h : s.canonical = true) (ch : Nat) :
    (s.canErrors ch).canonical = true := by
  unfold State.canErrors
  refine canonical_ite (canonical_noteLasting (canonical_setF (canonical_setFb h ..) ..) ..) ?_
  exact canonical_ite (canonical_noteEnds (canonical_setF (canonical_setFb h ..) ..) ..) (canonical_setFb h ..)

theorem canonical_canGood {s : State} (h : s.canonical = true) (ch : Nat) :
    (s.canGood ch).canonical = true := by
  unfold State.canGood
  refine canonical_ite h ?_
  refine canonical_ite (canonical_canErrors (canonical_setF h ..) ..) ?_
  exact canonical_canErrors (canonical_setF (canonical_parts h) ..) ..

theorem canonical_canQueue {s : State} (h : s.canonical = true) (ch : Nat) (f : CanFrame) (p : CanFilter) :
    (s.canQueue ch f p).canonical = true := by
  unfold State.canQueue
  dsimp only
  split
  · refine canonical_ite (canonical_note (canonical_addF (canonical_note (canonical_addF h ..) ..) ..) ..) ?_
    exact canonical_note (canonical_addF h ..) ..
  · exact canonical_canSync (canonical_parts (canonical_setV h ..)) ..

theorem canonical_canReceive {s : State} (h : s.canonical = true) (ch : Nat) (f : CanFrame) :
    (s.canReceive ch f).canonical = true := by
  unfold State.canReceive
  refine canonical_ite h ?_
  dsimp only
  split
  · exact canonical_canQueue (canonical_claimFrame (canonical_addF (canonical_canGood h ..) ..) ..) ..
  · refine canonical_ite ?_ ?_
    · exact canonical_addF (canonical_claimFrame (canonical_addF (canonical_canGood h ..) ..) ..) ..
    · exact canonical_note (canonical_addF (canonical_addF (canonical_claimFrame (canonical_addF (canonical_canGood h ..) ..) ..) ..) ..) ..

theorem canonical_execCanFrameReceived {s : State} (h : s.canonical = true) {channel : Fin 4} {frame : CanFrame} {t : Nat} {u : State}
    (hu : execCanFrameReceived channel frame t s = .next u) : u.canonical = true :=
  canonical_done (canonical_canReceive (canonical_parts h) ..) hu

theorem canonical_execCanQueueTake {s : State} (h : s.canonical = true) {r : Req} {words : Fin 20} {t : Nat} {u : State}
    (hu : execCanQueueTake r words t s = .next u) : u.canonical = true :=
  canonical_serveAt h hu

theorem canonical_execCanAck {s : State} (h : s.canonical = true) {r : Req} {channel : Fin 4} {value : Word} {t : Nat} {u : State}
    (hu : execCanAck r channel value t s = .next u) : u.canonical = true :=
  canonical_writeField h hu

theorem canonical_ackLapse {s : State} (h : s.canonical = true) (ch queue slot : Nat) :
    (s.ackLapse ch queue slot).canonical = true := by
  unfold State.ackLapse
  split
  · exact h
  · dsimp only
    split
    · exact canonical_note (canonical_addF (canonical_updEntry (canonical_parts h) ..) ..) ..
    · exact canonical_note (canonical_addF (canonical_updEntry (canonical_parts h) ..) ..) ..
    · exact canonical_note (canonical_addF (canonical_updEntry (canonical_parts h) ..) ..) ..
    · exact canonical_note (canonical_addF (canonical_updEntry (canonical_parts h) ..) ..) ..
    · exact canonical_note (canonical_addF (canonical_updEntry (canonical_parts h) ..) ..) ..

theorem canonical_execAckLapsed {s : State} (h : s.canonical = true) {channel : Fin 4} {queue : Fin 2} {slot : Fin 64} {u : State}
    (hu : execAckLapsed channel queue slot s = .next u) : u.canonical = true :=
  canonical_done (canonical_ackLapse h ..) hu

theorem canonical_mapService {s : State} (h : s.canonical = true) (ch : Nat) (f : CanFrame) :
    (s.mapService ch f).canonical = true := by
  unfold State.mapService
  refine canonical_ite (canonical_countDropped h) ?_
  refine canonical_ite (canonical_answer h ..) ?_
  split
  · exact canonical_serve h ..

theorem canonical_mapEntry {s : State} (h : s.canonical = true) :
    s.mapEntry.canonical = true := by
  unfold State.mapEntry
  refine canonical_ite h ?_
  split
  · exact h
  · refine canonical_ite (canonical_ite h (canonical_updEntry h ..)) ?_
    dsimp only
    split
    · exact canonical_addF (canonical_canSync (canonical_parts h) ..) ..
    · refine canonical_ite ?_ ?_
      · exact canonical_mapParam (canonical_idleRestart (canonical_canSync (canonical_parts h) ..)) ..
      · exact canonical_mapService (canonical_canSync (canonical_parts h) ..) ..

theorem canonical_execMapEntry {s : State} (h : s.canonical = true) {t : Nat} {u : State}
    (hu : execMapEntry t s = .next u) : u.canonical = true :=
  canonical_done (canonical_mapEntry (canonical_parts h)) hu

theorem canonical_txForm {s : State} (h : s.canonical = true) (i : Nat) (vals : List Nat) :
    (s.txForm i vals).canonical = true := by
  unfold State.txForm
  refine canonical_ite ?_ ?_
  · exact canonical_parts (canonical_when (canonical_parts h) _ _ (fun _ h => canonical_addF h ..))
  · exact canonical_canOffer (canonical_parts h) ..

theorem canonical_execTxPeriod {s : State} (h : s.canonical = true) {entry : Fin 64} {u : State}
    (hu : execTxPeriod entry s = .next u) : u.canonical = true := by
  unfold execTxPeriod at hu
  refine canonical_done ?_ hu
  split
  · exact h
  · exact canonical_expire h _ _ _ fun _ h => canonical_ite (canonical_txForm (canonical_setDue h ..) ..) (canonical_setDue h ..)

theorem canonical_execTxChangeCheck {s : State} (h : s.canonical = true) {entry : Fin 64} {u : State}
    (hu : execTxChangeCheck entry s = .next u) : u.canonical = true := by
  unfold execTxChangeCheck at hu
  refine canonical_done ?_ hu
  split
  · exact h
  · exact canonical_expire h _ _ _ fun _ h => canonical_ite (canonical_txForm (canonical_setDue h ..) ..) (canonical_setDue h ..)

theorem canonical_canSent {s : State} (h : s.canonical = true) (ch : Nat) :
    (s.canSent ch).canonical = true := by
  unfold State.canSent
  dsimp only
  split
  · exact h
  · refine canonical_ite h ?_
    split
    · refine canonical_ite ?_ ?_
      · exact canonical_openSlow (canonical_emit (canonical_canErrors (canonical_setF (canonical_addF (canonical_canSync
          (canonical_parts h) ..) ..) ..) ..) ..) ..
      · exact canonical_emit (canonical_canErrors (canonical_setF (canonical_addF (canonical_canSync (canonical_parts h) ..) ..) ..) ..) ..
    · refine canonical_canOffer ?_ ..
      refine canonical_parts ?_
      refine canonical_ite ?_ ?_
      · exact canonical_openSlow (canonical_emit (canonical_canErrors (canonical_setF (canonical_addF (canonical_canSync
          (canonical_parts h) ..) ..) ..) ..) ..) ..
      · exact canonical_emit (canonical_canErrors (canonical_setF (canonical_addF (canonical_canSync (canonical_parts h) ..) ..) ..) ..) ..

theorem canonical_execCanFrameSent {s : State} (h : s.canonical = true) {channel : Fin 4} {t : Nat} {u : State}
    (hu : execCanFrameSent channel t s = .next u) : u.canonical = true :=
  canonical_done (canonical_canSent (canonical_parts h) ..) hu

theorem canonical_busOff {s : State} (h : s.canonical = true) (ch : Nat) :
    (s.busOff ch).canonical = true := by
  unfold State.busOff
  refine canonical_ite ?_ ?_
  · exact canonical_raise (canonical_addF (canonical_noteEnds (canonical_setF (canonical_setF h ..) ..) ..) ..) ..
  · refine canonical_ite ?_ ?_
    · refine canonical_noteLasting ?_ ..
      refine canonical_setFb ?_ ..
      refine canonical_ite ?_ ?_
      · exact canonical_addV (canonical_raise (canonical_addF (canonical_noteEnds (canonical_setF (canonical_setF h ..) ..) ..) ..) ..) ..
      · exact canonical_setV (canonical_openSlow (canonical_raise (canonical_addF (canonical_noteEnds (canonical_setF
          (canonical_setF h ..) ..) ..) ..) ..) ..) ..
    · refine canonical_setF ?_ ..
      refine canonical_ite ?_ ?_
      · exact canonical_addV (canonical_raise (canonical_addF (canonical_noteEnds (canonical_setF (canonical_setF h ..) ..) ..) ..) ..) ..
      · exact canonical_setV (canonical_openSlow (canonical_raise (canonical_addF (canonical_noteEnds (canonical_setF
          (canonical_setF h ..) ..) ..) ..) ..) ..) ..

theorem canonical_canError {s : State} (h : s.canonical = true) (ch kind : Nat) :
    (s.canError ch kind).canonical = true := by
  unfold State.canError
  refine canonical_ite h ?_
  refine canonical_ite ?_ ?_
  · exact canonical_ite (canonical_busOff (canonical_setFb h ..) ..) (canonical_canErrors (canonical_setF h ..) ..)
  · exact canonical_canErrors (canonical_addF h ..) ..

theorem canonical_execCanError {s : State} (h : s.canonical = true) {channel : Fin 4} {kind : Fin 3} {t : Nat} {u : State}
    (hu : execCanError channel kind t s = .next u) : u.canonical = true :=
  canonical_done (canonical_canError (canonical_parts h) ..) hu

theorem canonical_execBusRecover {s : State} (h : s.canonical = true) {r : Req} {channel t : Nat} {u : State}
    (hu : execBusRecover r channel t s = .next u) : u.canonical = true :=
  canonical_serveAt h hu

theorem canonical_execBusRecovered {s : State} (h : s.canonical = true) {channel : Fin 4} {t : Nat} {u : State}
    (hu : execBusRecovered channel t s = .next u) : u.canonical = true := by
  unfold execBusRecovered at hu
  refine canonical_done ?_ hu
  refine canonical_ite ?_ ?_
  · exact canonical_note (canonical_clearCause (canonical_setF (canonical_setFb (canonical_setF (canonical_setF
      (canonical_parts h) ..) ..) ..) ..) ..) ..
  · exact h

theorem canonical_execClaimReceived {s : State} (h : s.canonical = true) {channel : Fin 4} {frame : CanFrame} {t : Nat} {u : State}
    (hu : execClaimReceived channel frame t s = .next u) : u.canonical = true :=
  canonical_done (canonical_ite (canonical_canReceive (canonical_parts h) ..) h) hu

theorem canonical_execAddressClaimed {s : State} (h : s.canonical = true) {channel : Fin 4} {u : State}
    (hu : execAddressClaimed channel s = .next u) : u.canonical = true :=
  canonical_done (canonical_expire h _ _ _ (fun _ h => canonical_claimDone h ..)) hu

theorem canonical_execRead {s : State} (h : s.canonical = true) {r : Req} {entries : List (Nat × Nat)} {t : Nat} {u : State}
    (hu : execRead r entries t s = .next u) : u.canonical = true :=
  canonical_serveAt h hu

theorem canonical_execWrite {s : State}
    (h : s.canonical = true) {r : Req} {entries : List WEntry} {leaving : List Stage} {closing : List Nat} {t : Nat} {u : State}
    (hu : execWrite r entries leaving closing t s = .next u) : u.canonical = true :=
  canonical_serveAt h hu

theorem canonical_execChallenge {s : State} (h : s.canonical = true) {r : Req} {t : Nat} {u : State}
    (hu : execChallenge r t s = .next u) : u.canonical = true :=
  canonical_serveAt h hu

theorem canonical_challengeExpiry {s : State} (h : s.canonical = true) (who : Requester) :
    (s.challengeExpiry who).canonical = true := by
  unfold State.challengeExpiry
  split
  · exact h
  · exact canonical_parts (canonical_setChallenges h ..)

theorem canonical_execChallengeExpiry {s : State} (h : s.canonical = true) {who : Requester} {u : State}
    (hu : execChallengeExpiry who s = .next u) : u.canonical = true :=
  canonical_done (canonical_challengeExpiry h ..) hu

theorem canonical_execLockoutEnd {s : State} (h : s.canonical = true) {u : State}
    (hu : execLockoutEnd s = .next u) : u.canonical = true :=
  canonical_done (canonical_expire h _ _ _ (fun _ h => canonical_setFb h ..)) hu

theorem canonical_execSummary {s : State} (h : s.canonical = true) {r : Req} {t : Nat} {u : State}
    (hu : execSummary r t s = .next u) : u.canonical = true :=
  canonical_serveAt h hu

theorem canonical_execArm {s : State} (h : s.canonical = true) {r : Req} {mask : Nat} {higher : List Stage} {t : Nat} {u : State}
    (hu : execArm r mask higher t s = .next u) : u.canonical = true :=
  canonical_serveAt h hu

theorem canonical_execRun {s : State} (h : s.canonical = true) {r : Req} {mask : Nat} {higher : List Stage} {t : Nat} {u : State}
    (hu : execRun r mask higher t s = .next u) : u.canonical = true :=
  canonical_serveAt h hu

theorem canonical_execStop {s : State} (h : s.canonical = true) {r : Req} {mask : Nat} {higher : List Stage} {t : Nat} {u : State}
    (hu : execStop r mask higher t s = .next u) : u.canonical = true :=
  canonical_serveAt h hu

theorem canonical_execWindowControlWrite {s : State}
    (h : s.canonical = true) {r : Req} {window : Fin 5} {value : Word} {t : Nat} {u : State}
    (hu : execWindowControlWrite r window value t s = .next u) : u.canonical = true :=
  canonical_writeOne h hu

theorem canonical_execStagingWrite {s : State} (h : s.canonical = true) {r : Req} {word : Fin 64} {value : Word} {t : Nat} {u : State}
    (hu : execStagingWrite r word value t s = .next u) : u.canonical = true :=
  canonical_writeOne h hu

theorem canonical_execAttnRelease {s : State} (h : s.canonical = true) {u : State}
    (hu : execAttnRelease s = .next u) : u.canonical = true :=
  canonical_done (canonical_expire h _ _ _ (fun _ h => h)) hu

theorem canonical_guardCorrection {s : State} (h : s.canonical = true) (c limit : Nat) :
    (s.guardCorrection c limit).canonical = true :=
  canonical_noteAt (canonical_addF h ..) ..

theorem canonical_moveEdge {s : State} (h : s.canonical = true) (e : Edge) (t : Nat) (gap : Bool) :
    (s.moveEdge e t gap).canonical = true :=
  canonical_parts h

theorem canonical_driveOn {s : State} (h : s.canonical = true) (c t : Nat) :
    (s.driveOn c t).canonical = true := by
  unfold State.driveOn
  refine canonical_ite ?_ ?_
  · exact canonical_clearCause (canonical_clearCause (canonical_setFb (canonical_close (canonical_setOn (canonical_setOn (canonical_setV
      (canonical_setFb (canonical_setV (canonical_setOn h ..) ..) ..) ..) ..) ..) ..) ..) ..) ..
  · exact canonical_close (canonical_setOn (canonical_setOn (canonical_setV (canonical_setFb (canonical_setV
      (canonical_setOn h ..) ..) ..) ..) ..) ..) ..

theorem canonical_onEdge {s : State} (h : s.canonical = true) (e : Edge) :
    (s.onEdge e).canonical = true := by
  unfold State.onEdge
  refine canonical_ite (canonical_addF (canonical_setCommand (canonical_parts h) ..) ..) ?_
  refine canonical_ite (canonical_setCommand (canonical_parts h) ..) ?_
  refine canonical_ite (canonical_setOn (canonical_setCommand (canonical_parts h) ..) ..) ?_
  refine canonical_ite (canonical_guardCorrection (canonical_moveEdge h ..) ..) ?_
  refine canonical_ite ?_ ?_
  · refine canonical_ite (canonical_moveEdge h ..) ?_
    exact canonical_ite (canonical_moveEdge h ..) (canonical_guardCorrection (canonical_moveEdge h ..) ..)
  · exact canonical_driveOn (canonical_setOn (canonical_setOn (canonical_setCommand (canonical_parts h) ..) ..) ..) ..

theorem canonical_offEdge {s : State} (h : s.canonical = true) (e : Edge) :
    (s.offEdge e).canonical = true := by
  unfold State.offEdge
  refine canonical_ite ?_ ?_
  · refine canonical_ite (canonical_addF (canonical_parts (canonical_moveEdge h ..)) ..) ?_
    refine canonical_ite (canonical_parts (canonical_moveEdge h ..)) ?_
    exact canonical_guardCorrection (canonical_parts (canonical_moveEdge h ..)) ..
  · refine canonical_ite ?_ ?_
    · exact canonical_setOn (canonical_setV (canonical_setOn (canonical_setV (canonical_setOn (canonical_setOn (canonical_setOn
        (canonical_setCommand (canonical_parts h) ..) ..) ..) ..) ..) ..) ..) ..
    · exact canonical_setOn (canonical_setOn (canonical_setCommand (canonical_parts h) ..) ..) ..

theorem canonical_commandEdge {s : State} (h : s.canonical = true) (c : Nat) :
    (s.commandEdge c).canonical = true := by
  unfold State.commandEdge
  split
  · exact h
  · refine canonical_ite (canonical_onEdge (canonical_parts h) ..) ?_
    refine canonical_ite (canonical_parts (canonical_parts h)) ?_
    refine canonical_ite (canonical_moveEdge (canonical_parts h) ..) ?_
    exact canonical_ite (canonical_onEdge (canonical_parts h) ..) (canonical_offEdge (canonical_parts h) ..)

theorem canonical_execCommandEdge {s : State} (h : s.canonical = true) {channel : Fin 64} {u : State}
    (hu : execCommandEdge channel s = .next u) : u.canonical = true :=
  canonical_done (canonical_commandEdge h ..) hu

theorem canonical_execGateReadback {s : State} (h : s.canonical = true) {channel : Fin 64} {gate : GateSeen} {t : Nat} {u : State}
    (hu : execGateReadback channel gate t s = .next u) : u.canonical = true :=
  canonical_done (canonical_gateReadback (canonical_parts h) ..) hu

theorem canonical_execSoftTurnOffDone {s : State} (h : s.canonical = true) {channel : Fin 64} {u : State}
    (hu : execSoftTurnOffDone channel s = .next u) : u.canonical = true := by
  unfold execSoftTurnOffDone at hu
  refine canonical_done ?_ hu
  refine canonical_ite ?_ ?_
  · exact canonical_when (canonical_setFb (canonical_setFb h ..) ..) _ _ fun _ h => canonical_ascTurnOn h ..
  · exact h

theorem canonical_terminateEdges {s : State} (h : s.canonical = true) (n m : Nat) (r on : Nat) (e nx : Nat) :
    (s.terminateEdges n m r on e nx).canonical = true := by
  unfold State.terminateEdges
  refine canonical_ite ?_ ?_
  · exact canonical_setV (canonical_levelChange (canonical_levelChange (canonical_when (canonical_parts h) _ _
      (fun _ h => canonical_setV h ..)) ..) ..) ..
  · exact canonical_ite (canonical_setV (canonical_levelChange (canonical_parts h) ..) ..) h

theorem canonical_terminate {s : State} (h : s.canonical = true) (n : Nat) :
    (s.terminate n).canonical = true := by
  unfold State.terminate
  refine canonical_ite h ?_
  refine canonical_ite h ?_
  refine canonical_ite ?_ ?_
  · exact canonical_when (canonical_terminateEdges (canonical_when (canonical_setV (canonical_setOn (canonical_setDue
      (canonical_setV h ..) ..) ..) ..) _ _ (fun _ h => canonical_ite (canonical_startOf h ..) (canonical_setDue
    (canonical_setV h ..) ..))) ..) _ _ fun _ h => canonical_middleOf h ..
  · exact canonical_when (canonical_setV (canonical_setOn (canonical_setDue (canonical_setV h ..) ..) ..) ..) _ _ fun _ h => canonical_ite
      (canonical_startOf h ..) (canonical_setDue (canonical_setV h ..) ..)

theorem canonical_execTerminateCondition {s : State} (h : s.canonical = true) {leg : Fin 32} {conv : List Int} {t : Nat} {u : State}
    (hu : execTerminateCondition leg conv t s = .next u) : u.canonical = true := by
  unfold execTerminateCondition at hu
  refine canonical_done ?_ hu
  refine canonical_ite (canonical_terminate (canonical_compared (canonical_parts h) ..) ..) ?_
  exact canonical_compared (canonical_parts h) ..

theorem canonical_execExcitationPeak {s : State} (h : s.canonical = true) {resolver : Fin 2} {conv : List Conv} {u : State}
    (hu : execExcitationPeak resolver conv s = .next u) : u.canonical = true :=
  canonical_done (canonical_expire h _ _ _ (fun _ h => canonical_coreEvent (canonical_setDue (canonical_setOn h ..) ..) ..)) hu

theorem canonical_execHoldRestoration {s : State} (h : s.canonical = true) {u : State}
    (hu : execHoldRestoration s = .next u) : u.canonical = true :=
  canonical_done (canonical_each (canonical_parts h) _ _ (fun _ h _ _ => canonical_clearCause h ..)) hu

theorem canonical_execSupplyHeld {s : State} (h : s.canonical = true) {channel : Fin 8} {u : State}
    (hu : execSupplyHeld channel s = .next u) : u.canonical = true :=
  canonical_fbDone (canonical_expire h _ _ _ (fun _ h => canonical_fbClear (canonical_setFb h ..) ..)) hu

theorem canonical_execHallCodeValid {s : State} (h : s.canonical = true) {channel : Fin 8} {pins : List PinChange} {u : State}
    (hu : execHallCodeValid channel pins s = .next u) : u.canonical = true :=
  canonical_fbDone (canonical_fbExpire (canonical_fbPins h ..) _ _ _ _ (fun _ h => canonical_fbClear h ..)) hu

theorem canonical_execFlapWindowEnd {s : State} (h : s.canonical = true) {port : Fin 4} {u : State}
    (hu : execFlapWindowEnd port s = .next u) : u.canonical = true :=
  canonical_done (canonical_expire h _ _ _ (fun _ h => canonical_setF h ..)) hu

theorem canonical_execAuthFailWindowEnd {s : State} (h : s.canonical = true) {u : State}
    (hu : execAuthFailWindowEnd s = .next u) : u.canonical = true :=
  canonical_done (canonical_expire h _ _ _ (fun _ h => canonical_setF h ..)) hu

theorem canonical_execCauseAbsent1ms {s : State} (h : s.canonical = true) {cond : Fin 7} {u : State}
    (hu : execCauseAbsent1ms cond s = .next u) : u.canonical = true := by
  unfold execCauseAbsent1ms at hu
  refine canonical_done ?_ hu
  refine canonical_expire h _ _ _ ?_
  intro _ h
  refine canonical_ite (canonical_setFb (canonical_clearCause h ..) ..) ?_
  refine canonical_ite (canonical_setFb (canonical_clearCause h ..) ..) ?_
  exact canonical_chgSync (canonical_clearCause h ..)

theorem canonical_exec {s : State} (h : s.canonical = true) {i : Instr} {u : State}
    (hu : exec i s = .next u) : u.canonical = true := by
  unfold exec at hu
  split at hu
  · exact canonical_execVauxValid h hu
  · exact canonical_execVauxInvalid h hu
  · exact canonical_execHoldupEnd h hu
  · exact canonical_execWake h hu
  · exact canonical_execCanWakePattern h hu
  · exact canonical_execFabricWakeSignal h hu
  · exact canonical_execShipRequest h hu
  · exact canonical_execSleepRequest h hu
  · exact canonical_execSleepIdleExpired h hu
  · exact canonical_execSleepEntered h hu
  · exact canonical_execShipEntered h hu
  · exact canonical_execInjectionTestDone h hu
  · exact canonical_execMemoryTestDone h hu
  · exact canonical_execLogRebuild h hu
  · exact canonical_execKeyReadDone h hu
  · exact canonical_execImageVerified h hu
  · exact canonical_execImageApplied h hu
  · exact canonical_execGateSupplyGroup h hu
  · exact canonical_execReadyReached h hu
  · exact canonical_execKeyCheckPeriod h hu
  · exact canonical_execKeyWrite h hu
  · exact canonical_execKeyWriteStepEnd h hu
  · exact canonical_execRestart h hu
  · exact canonical_execRestartBegin h hu
  · exact canonical_execServiceEnter h hu
  · exact canonical_execServiceExit h hu
  · exact canonical_execDebugAction h hu
  · exact canonical_execMissingCycle h hu
  · exact canonical_execHoldoverExpired h hu
  · exact canonical_execXtalFail h hu
  · exact canonical_execPllUnlock h hu
  · exact canonical_execClockCount h hu
  · exact canonical_execPllBackupLock h hu
  · exact canonical_execCorrectionLimit h hu
  · exact canonical_execInterconnectGrant h hu
  · exact canonical_execScrubBlock h hu
  · exact canonical_execSliceSwap h hu
  · exact canonical_execSliceCalDone h hu
  · exact canonical_execCalStale h hu
  · exact canonical_execCarrierStart h hu
  · exact canonical_execPeriodStart h hu
  · exact canonical_execPeriodMiddle h hu
  · exact canonical_execSubstituteEvent h hu
  · exact canonical_execInputOverrange h hu
  · exact canonical_execDmaBurstWritten h hu
  · exact canonical_execDmaOverflow h hu
  · exact canonical_execBufferFreezeWrite h hu
  · exact canonical_execBufferFrozen h hu
  · exact canonical_execHkRound h hu
  · exact canonical_execThermalRound h hu
  · exact canonical_execThermalRelease h hu
  · exact canonical_execEncoderEdge h hu
  · exact canonical_execIndexQualified h hu
  · exact canonical_execHallSectorChange h hu
  · exact canonical_execHallInvalid h hu
  · exact canonical_execWireFault h hu
  · exact canonical_execWireFaultCleared h hu
  · exact canonical_execSupplyFault h hu
  · exact canonical_execSupplyRetry h hu
  · exact canonical_execResWindowEnd h hu
  · exact canonical_execExcPeriod h hu
  · exact canonical_execSsiWindow h hu
  · exact canonical_execSsiFrameDone h hu
  · exact canonical_execSpeedWindowEnd h hu
  · exact canonical_execSpeedZeroTime h hu
  · exact canonical_execSlotTrigger h hu
  · exact canonical_execSlotRunStart h hu
  · exact canonical_execSlotRunEnd h hu
  · exact canonical_execFollowingError h hu
  · exact canonical_execSpLost h hu
  · exact canonical_execSetpointWrite h hu
  · exact canonical_execOpenLoop h hu
  · exact canonical_execCloseLoop h hu
  · exact canonical_execCommitComplete h hu
  · exact canonical_execHostCommit h hu
  · exact canonical_execLegReload h hu
  · exact canonical_execPeriodWrite h hu
  · exact canonical_execDllUnlock h hu
  · exact canonical_execDllRelocked h hu
  · exact canonical_execSyncInEdge h hu
  · exact canonical_execSyncInTimeout h hu
  · exact canonical_execCbcTrip h hu
  · exact canonical_execTripWindowEnd h hu
  · exact canonical_execSelfCheckFail h hu
  · exact canonical_execWordMismatch h hu
  · exact canonical_execReadbackContradiction h hu
  · exact canonical_execDecisionTimeout h hu
  · exact canonical_execHandoverGapEnd h hu
  · exact canonical_execInterlockFault h hu
  · exact canonical_execSelfTestDone h hu
  · exact canonical_execSwitchBack h hu
  · exact canonical_execSyncCopyDone h hu
  · exact canonical_execQualifyEnd h hu
  · exact canonical_execSwitchBackHandover h hu
  · exact canonical_execDesatTrip h hu
  · exact canonical_execShortTrip h hu
  · exact canonical_execGateUvlo h hu
  · exact canonical_execUvloRelease h hu
  · exact canonical_execStatusFrame h hu
  · exact canonical_execLinkFault h hu
  · exact canonical_execCommandPathLost h hu
  · exact canonical_execSkewMeasure h hu
  · exact canonical_execThermistorMeasure h hu
  · exact canonical_execEnableRemoved h hu
  · exact canonical_execStaggerSlot h hu
  · exact canonical_execRegulatorUpdate h hu
  · exact canonical_execSoftStartWindowEnd h hu
  · exact canonical_execHiccupWaitEnd h hu
  · exact canonical_execShedTimer h hu
  · exact canonical_execShedBlockEnd h hu
  · exact canonical_execLinkUv h hu
  · exact canonical_execPhaseImbalance h hu
  · exact canonical_execSyncFree h hu
  · exact canonical_execPowerPathEval h hu
  · exact canonical_execHalfCycleEnd h hu
  · exact canonical_execNoZeroCrossing h hu
  · exact canonical_execSourceQualified h hu
  · exact canonical_execHandbackDone h hu
  · exact canonical_execStopTakeoverTimeout h hu
  · exact canonical_execChargeEval h hu
  · exact canonical_execChargeStart h hu
  · exact canonical_execChargeStop h hu
  · exact canonical_execBattOc h hu
  · exact canonical_execArrived h hu
  · exact canonical_execActTimeout h hu
  · exact canonical_execActBlocked h hu
  · exact canonical_execHoldOvercurrent h hu
  · exact canonical_execCompareWrite h hu
  · exact canonical_execCompareCfgWrite h hu
  · exact canonical_execStoHwRequest h hu
  · exact canonical_execStoHwRelease h hu
  · exact canonical_execSbcHwOpen h hu
  · exact canonical_execSafetySample h hu
  · exact canonical_execStoDiscrepancy h hu
  · exact canonical_execDiscrepancyCleared h hu
  · exact canonical_execPathDisagree h hu
  · exact canonical_execStoAutoTest h hu
  · exact canonical_execStoGroupTestEnd h hu
  · exact canonical_execStoTestDue h hu
  · exact canonical_execBrakeCommandWrite h hu
  · exact canonical_execBrakeSwitchCheck h hu
  · exact canonical_execBrakeAppliedCheck h hu
  · exact canonical_execBrakeTest h hu
  · exact canonical_execBrakeTestPhaseEnd h hu
  · exact canonical_execBrakeTestDue h hu
  · exact canonical_execContactorCommandWrite h hu
  · exact canonical_execContactorCheck h hu
  · exact canonical_execPrechargeWeldCheck h hu
  · exact canonical_execPrechargeTimeout h hu
  · exact canonical_execContactorOpenDelay h hu
  · exact canonical_execSMismatch h hu
  · exact canonical_execSWatchdog h hu
  · exact canonical_execRepeatWindowEnd h hu
  · exact canonical_execWarmRestartDone h hu
  · exact canonical_execHoldExpired h hu
  · exact canonical_execVMismatch h hu
  · exact canonical_execVWatchdog h hu
  · exact canonical_execVRestartDone h hu
  · exact canonical_execSplitV h hu
  · exact canonical_execSplitVDone h hu
  · exact canonical_execJoinV h hu
  · exact canonical_execJoinVDone h hu
  · exact canonical_execRecordWrite h hu
  · exact canonical_execTokenRefill h hu
  · exact canonical_execLogRead h hu
  · exact canonical_execClearLog h hu
  · exact canonical_execClearDone h hu
  · exact canonical_execCursorWrite h hu
  · exact canonical_execWindowRead h hu
  · exact canonical_execPhyLinkUp h hu
  · exact canonical_execPhyLinkLoss h hu
  · exact canonical_execLinkCheckSend h hu
  · exact canonical_execLinkCheck h hu
  · exact canonical_execLinkTimeout h hu
  · exact canonical_execErrorWindowEnd h hu
  · exact canonical_execHoldOffEnd h hu
  · exact canonical_execFrameReceived h hu
  · exact canonical_execTopology h hu
  · exact canonical_execWagglePeriodEnd h hu
  · exact canonical_execWaggle h hu
  · exact canonical_execWaggleSettle h hu
  · exact canonical_execWaggleReply h hu
  · exact canonical_execReplyWindowEnd h hu
  · exact canonical_execAddressRefused h hu
  · exact canonical_execRootLost h hu
  · exact canonical_execSyncReceived h hu
  · exact canonical_execPdelaySend h hu
  · exact canonical_execPdelayReq h hu
  · exact canonical_execPdelayResp h hu
  · exact canonical_execMasterAssumed h hu
  · exact canonical_execCycleStart h hu
  · exact canonical_execPublish h hu
  · exact canonical_execSignal h hu
  · exact canonical_execDuplicateStateExpiry h hu
  · exact canonical_execServiceReq h hu
  · exact canonical_execCanFrameReceived h hu
  · exact canonical_execCanQueueTake h hu
  · exact canonical_execCanAck h hu
  · exact canonical_execAckLapsed h hu
  · exact canonical_execMapEntry h hu
  · exact canonical_execTxPeriod h hu
  · exact canonical_execTxChangeCheck h hu
  · exact canonical_execCanFrameSent h hu
  · exact canonical_execCanError h hu
  · exact canonical_execBusRecover h hu
  · exact canonical_execBusRecovered h hu
  · exact canonical_execClaimReceived h hu
  · exact canonical_execAddressClaimed h hu
  · exact canonical_execRead h hu
  · exact canonical_execWrite h hu
  · exact canonical_execChallenge h hu
  · exact canonical_execChallengeExpiry h hu
  · exact canonical_execLockoutEnd h hu
  · exact canonical_execSummary h hu
  · exact canonical_execArm h hu
  · exact canonical_execRun h hu
  · exact canonical_execStop h hu
  · exact canonical_execWindowControlWrite h hu
  · exact canonical_execStagingWrite h hu
  · exact canonical_execAttnRelease h hu
  · exact canonical_execCommandEdge h hu
  · exact canonical_execGateReadback h hu
  · exact canonical_execSoftTurnOffDone h hu
  · exact canonical_execTerminateCondition h hu
  · exact canonical_execExcitationPeak h hu
  · exact canonical_execHoldRestoration h hu
  · exact canonical_execSupplyHeld h hu
  · exact canonical_execHallCodeValid h hu
  · exact canonical_execFlapWindowEnd h hu
  · exact canonical_execAuthFailWindowEnd h hu
  · exact canonical_execCauseAbsent1ms h hu

theorem canonical_step {s : State} (h : s.canonical = true) {u : State} (hu : step s = .next u) : u.canonical = true := by
  unfold step at hu
  split at hu
  · injection hu with hu
    exact hu ▸ canonical_idle h
  · exact canonical_exec (canonical_parts h) hu

end Sys2Proof.Machine.State
end

section
open Sys2Proof Sys2Proof.Machine

/-- Settles O43: an idle step and each instruction keep the canonical form. -/
theorem canonicalStores : Obligations.CanonicalStores :=
  fun _ _ h hu => State.canonical_step h hu

end

-- ==== A host write that a signal write overrules (O37) ====
section
/-!
The counterexample to O37. A signal write and a host write of the same LOOP cycle meet at one set point: the signal write is applied
second and stands (R630), so the word does not hold the host's value, although nothing turns the host's write away.
-/

namespace Sys2Proof.Machine.State
open Sys2Proof Sys2Proof.Machine

/-- The machine READY in the LOOP cycle in which a signal has written 9 to SETPOINT.0 of slot 0. -/
def signalledSetpoint : State :=
  ({ State.reset with module := .ready } : State).writeSignal
    { signal := 0, index := Reg.SLOT_SETPOINT.key 0 0 / 256, sub := 0, value := 9, loop := 1 }

/-- A request of the host on J1. -/
def hostReq : Req := { who := .j1, trans := 1, auth := none }

/-- The host's write of 7 meets every hypothesis of O37's first clause. -/
theorem signalledSetpoint_admits :
    signalledSetpoint.admits 0 hostReq Reg.SLOT_SETPOINT 0 0 7 = true ∧ signalledSetpoint.f Reg.SLOT_TYPE_TYPE 0 ≠ 8
    ∧ signalledSetpoint.parkRefused 0 7 = none := by
  decide +kernel

/-- The word at a key after a command, where it completes. -/
def wordAfter (o : Host.Outcome State Fault Refusal) (key : Nat) : Option Word := match o with
  | .next u => some (u.word key)
  | _ => none

theorem next_of_wordAfter {o : Host.Outcome State Fault Refusal} {key : Nat} {w : Word} (h : wordAfter o key = some w) :
    ∃ u, o = .next u ∧ u.word key = w := by
  unfold wordAfter at h
  split at h
  · exact ⟨_, rfl, Option.some.inj h⟩
  · cases h

theorem wordAfter_setpointWrite_signalled :
    wordAfter (exec (.setpointWrite hostReq 0 0 7 0) signalledSetpoint) (Reg.SLOT_SETPOINT.key 0 0) = some 9 := by
  decide +kernel

end Sys2Proof.Machine.State
end

section
open Sys2Proof Sys2Proof.Machine Sys2Proof.Machine.State

/-- Refutes O37: a signal write of the same LOOP cycle stands over the host's SETPOINT (R630), which the first clause does not except. -/
theorem not_hostWrites : ¬ Obligations.HostWrites := by
  rintro ⟨hsetpoint, -⟩
  obtain ⟨hadm, htype, hpark⟩ := signalledSetpoint_admits
  obtain ⟨u, hu, hword, -⟩ := hsetpoint signalledSetpoint hostReq 0 0 7 0 hadm htype (.inr hpark)
  obtain ⟨u', hu', hword'⟩ := next_of_wordAfter wordAfter_setpointWrite_signalled
  obtain rfl : u' = u := Host.Outcome.next.inj (hu'.symm.trans hu)
  exact absurd (hword.symm.trans hword') (by decide)

end

-- ==== A reply to a stray port (O39) ====
section
/-!
The counterexample to O39. A reply to a node leaves on the port on which the node was learned (R649), and the learned port is any number
of the state: on port 4, which no module has and `State.bounded` excludes, the frame is counted in a word outside the named fields.
-/

namespace Sys2Proof.Machine.State
open Sys2Proof Sys2Proof.Machine

/-- The machine READY that has learned node 1 on port 4, with the state word of that port reading VERIFIED. -/
def strayPeer : State :=
  ({ State.reset with module := .ready, peers := [{ src := 1, port := 4, ends := 1, dups := [] }] } : State).setF
    Reg.FAB_PORT_STATUS_STATE 4 3

/-- A request of node 1. -/
def nodeReq : Req := { who := .fab 1, trans := 1, auth := none }

/-- The frames sent on port 4 are counted in no field that a request may write. -/
theorem strayCounter_not_requestFlds : ∀ p ∈ requestFlds, ¬ p.has (Reg.FAB_PORT_COUNTERS.key 4 1) 0 := by
  unfold Place.has
  decide +kernel

theorem wordAfter_challenge_strayPeer :
    strayPeer.word (Reg.FAB_PORT_COUNTERS.key 4 1) = 0
    ∧ wordAfter (exec (.challenge nodeReq 0) strayPeer) (Reg.FAB_PORT_COUNTERS.key 4 1) = some 1 := by
  decide +kernel

end Sys2Proof.Machine.State
end

section
open Sys2Proof Sys2Proof.Machine Sys2Proof.Machine.State

/-- Refutes O39: the answer to a CHALLENGE of a node that was learned on port 4 is counted outside the fields of every request. The
statement has no hypothesis that bounds the ports of the learned nodes. -/
theorem not_serviceFrames : ¬ Obligations.ServiceFrames := by
  rintro ⟨-, -, -, hchallenge, -⟩
  obtain ⟨hbefore, hafter⟩ := wordAfter_challenge_strayPeer
  obtain ⟨u, hu, hword⟩ := next_of_wordAfter hafter
  obtain ⟨-, hbits⟩ := hchallenge strayPeer nodeReq 0 u hu
  have hbit := hbits _ 0 (by decide) strayCounter_not_requestFlds
  rw [hbefore, hword] at hbit
  exact absurd hbit (by decide)

end

-- ==== A passed test that ends a HOLD and lets an ARM through (O50) ====
section
/-!
The counterexample to O50. A stage in HOLD for an overdue test of its STO group, with a STOP stored and an ARM waiting for the test: the
test that passes clears the cause, so the HOLD ends and the stored STOP stops the stage (R49), and then lets the waiting ARM arm it, all in
one command. No row of Table 1-7 leads from HOLD to ARMED.
-/

namespace Sys2Proof.Machine.State
open Sys2Proof Sys2Proof.Machine

/-- The module's state and the states of the seven stages after a command, where it completes. -/
def modesAfter (o : Host.Outcome State Fault Refusal) : Option (ModState × List StageState) := match o with
  | .next u => some (u.module, Stage.all.map u.st)
  | _ => none

theorem next_of_modesAfter {o : Host.Outcome State Fault Refusal} {m : ModState} {l : List StageState} (h : modesAfter o = some (m, l)) :
    ∃ u, o = .next u ∧ u.module = m ∧ Stage.all.map u.st = l := by
  unfold modesAfter at h
  split at h
  · cases h
    exact ⟨_, rfl, rfl, rfl⟩
  · cases h

/-- Stage L in HOLD by STO_TEST_DUE of its group, with a stored STOP and an ARM that waits for the group's test, which is in progress. -/
def overdueTest : State :=
  let due : Cause := { code := Ev.STO_TEST_DUE, inst := 2, present := true, transient := false, stages := [], nextStart := false }
  let l : StageCtl := { StageCtl.reset with state := .hold, storedStop := true, holds := [.fault Ev.STO_TEST_DUE 2] }
  ((({ State.reset with module := .run, causes := [due] } : State).setStg .L l).setOn .armWait 2 true).setV .stoTest 2 1

theorem overdueTest_hold : overdueTest.st .L = .hold := by decide +kernel

theorem modesAfter_stoGroupTestEnd_overdueTest :
    modesAfter (exec (.stoGroupTestEnd 2 4 0) overdueTest)
      = some (.run, [.stopped, .stopped, .armed, .stopped, .stopped, .stopped, .stopped]) := by
  decide +kernel

end Sys2Proof.Machine.State
end

section
open Sys2Proof Sys2Proof.Machine Sys2Proof.Machine.State

/-- Refutes O50: a passed test of an STO group takes a stage from HOLD to ARMED, by way of its stored STOP and its waiting ARM. -/
theorem not_stageTransitions : ¬ Obligations.StageTransitions := by
  intro hmoves
  obtain ⟨u, hu, -, hstages⟩ := next_of_modesAfter modesAfter_stoGroupTestEnd_overdueTest
  have harmed : u.st .L = .armed := by
    have h := congrArg (fun l => l[2]?) hstages
    exact Option.some.inj h
  have hrow := hmoves overdueTest u (.stoGroupTestEnd 2 4 0) .L (fun h => absurd h (by decide)) (fun h => absurd h (by decide)) hu
  rw [overdueTest_hold, harmed] at hrow
  exact absurd hrow (by decide)

end

-- ==== A discarded write of a stray brake (O23) ====
section
/-!
The counterexample to O23. A mismatch of pair S discards the writes left in its release buffer (R537), and a discarded release of a
brake marks that brake. Nothing bounds the brakes of the buffer, in the statement's hypotheses or in `State.bounded`: the mark of brake
0xFC00, which no module has, is a bit of the captured word that the first clause names.
-/

namespace Sys2Proof.Machine.State
open Sys2Proof Sys2Proof.Machine

/-- The machine READY with a release of brake 0xFC00 left in the release buffer. -/
def strayBrake : State := { State.reset with module := .ready, release := [{ due := 1, out := .brake 0xFC00, old := 1 }] }

/-- A mismatch in which every captured value is 0. -/
def zeroMismatch : Mismatch := { main := 0, checker := 0, window := 0, lanes := 0, pc := 0 }

/-- A field is read off its word. -/
theorem f_eq_of_word {u : State} {f : Fld} {n j : Nat} {w : Word} (h : u.word (f.key n j) = w) :
    u.f f n j = bits w.toNat f.hi f.lo := by
  rw [State.f, h]

theorem strayBrake_serves :
    strayBrake.powered = true ∧ strayBrake.f Reg.CORE_STATUS_S_STATE ≠ 3 ∧ strayBrake.isOpen .repeatS = false := by
  decide +kernel

theorem wordAfter_sMismatch_strayBrake :
    wordAfter (exec (.sMismatch zeroMismatch 0) strayBrake) (Reg.CORE_LAST_S.key 0 0) = some 32 := by
  decide +kernel

end Sys2Proof.Machine.State
end

section
open Sys2Proof Sys2Proof.Machine Sys2Proof.Machine.State

/-- Refutes O23: the mismatch does not show what was captured where the release buffer holds a write of a brake that does not exist. -/
theorem not_coreEvents : ¬ Obligations.CoreEvents := by
  rintro ⟨hmismatch, -⟩
  obtain ⟨hpowered, hserves, hclosed⟩ := strayBrake_serves
  obtain ⟨u, hu, -, -, -, hmain, -⟩ := hmismatch strayBrake zeroMismatch 0 hpowered hserves hclosed
  obtain ⟨u', hu', hword⟩ := next_of_wordAfter wordAfter_sMismatch_strayBrake
  obtain rfl : u' = u := Host.Outcome.next.inj (hu'.symm.trans hu)
  have h32 : u'.f Reg.CORE_LAST_S 0 = 32 := f_eq_of_word hword
  exact absurd (h32.symm.trans hmain) (by decide)

end

-- ==== A signal write over a host write of the cursor (O35) ====
section
/-!
The counterexample to O35. As with the set point of O37: a signal write of the LOOP cycle stands over the host's write of the same
word (R630), and the log's cursor is such a word.
-/

namespace Sys2Proof.Machine.State
open Sys2Proof Sys2Proof.Machine

/-- The machine READY in the LOOP cycle in which a signal has written 9 to the log's cursor. -/
def signalledCursor : State :=
  ({ State.reset with module := .ready } : State).writeSignal
    { signal := 0, index := Reg.LOG_CURSOR_OFFSET.key 0 0 / 256, sub := 0, value := 9, loop := 1 }

theorem signalledCursor_admits : signalledCursor.admits 0 hostReq Reg.LOG_CURSOR_OFFSET 0 0 7 = true := by decide +kernel

theorem wordAfter_cursorWrite_signalled :
    wordAfter (exec (.cursorWrite hostReq 7 0) signalledCursor) (Reg.LOG_CURSOR_OFFSET.key 0 0) = some 16393 := by
  decide +kernel

end Sys2Proof.Machine.State
end

section
open Sys2Proof Sys2Proof.Machine Sys2Proof.Machine.State

/-- Refutes O35: a write of the log's cursor is answered and does not place it where a signal of the same LOOP cycle has (R630). -/
theorem not_modeCommands : ¬ Obligations.ModeCommands := by
  rintro ⟨-, -, -, -, -, -, -, -, -, hcursor, -⟩
  obtain ⟨u, hu, hplaced, -⟩ := hcursor signalledCursor hostReq 7 0 signalledCursor_admits
  obtain ⟨u', hu', hword⟩ := next_of_wordAfter wordAfter_cursorWrite_signalled
  obtain rfl : u' = u := Host.Outcome.next.inj (hu'.symm.trans hu)
  have h9 : u'.f Reg.LOG_CURSOR_OFFSET = 9 := f_eq_of_word hword
  exact absurd (h9.symm.trans hplaced) (by decide)

end

-- ==== An ARM whose set point has lost its source (O36) ====
section
/-!
The counterexample to O36. Arming a stage starts the supervision of the set points of its slots. A slot whose set point comes from
another slot, on a stage that is not active, has lost its source at once (SP_LOST), and with reaction STOP it stops the stage that was
just armed. `armBar` does not ask for this.
-/

namespace Sys2Proof.Machine.State
open Sys2Proof Sys2Proof.Machine

/-- The machine READY with stage X1 used and slot 0 on it, which takes its set point from slot 1 and stops the stage where that is lost. -/
def lostSource : State :=
  ((((({ State.reset with module := .ready } : State).setFb Reg.LEG_CFG_ENABLE 26 true).setF Reg.SLOT_TYPE_TYPE 0 9).setF
    Reg.SLOT_TYPE_STAGE 0 5).setF Reg.SLOT_SP_CFG_SP_SRC 0 1).setF Reg.SLOT_SP_CFG_SP_SLOT 0 1 |>.setF Reg.SLOT_SP_CFG_SP_LOSS_REACTION 0 3

/-- ARM of X1 meets every hypothesis of O36's first clause. -/
theorem lostSource_admits :
    lostSource.serving 0 hostReq (.command (.arm 32 [])) = true ∧ lostSource.operable = true ∧ lostSource.stageUsed .X1 = true
    ∧ lostSource.on .restarting = false ∧ 7 ≤ (lostSource.arrive 0).rankNow .X1 ∧ lostSource.st .X1 = .stopped
    ∧ lostSource.armBar .X1 = none ∧ (lostSource.arrive 0).testOld Stage.X1.group = false := by
  decide +kernel

theorem modesAfter_arm_lostSource : modesAfter (exec (.arm hostReq 32 [] 0) lostSource) = some (.ready, List.replicate 7 .stopped) := by
  decide +kernel

end Sys2Proof.Machine.State
end

section
open Sys2Proof Sys2Proof.Machine Sys2Proof.Machine.State

/-- Refutes O36: ARM of a stage whose conditions hold leaves it STOPPED where a slot of the stage loses the source of its set point by it. -/
theorem not_stageCommands : ¬ Obligations.StageCommands := by
  rintro ⟨harm, -⟩
  obtain ⟨hserving, hoperable, hused, hrestart, hrank, hstopped, hbar, hrecent⟩ := lostSource_admits
  obtain ⟨u, hu, hstate, -⟩ := harm lostSource hostReq 32 [] 0 .X1 (by decide) hserving hoperable hused rfl hrestart hrank hstopped hbar
  obtain ⟨harmed, -⟩ : u.st .X1 = .armed ∧ _ := by simpa [hrecent] using hstate
  obtain ⟨u', hu', -, hstages⟩ := next_of_modesAfter modesAfter_arm_lostSource
  obtain rfl : u' = u := Host.Outcome.next.inj (hu'.symm.trans hu)
  have hstill : u'.st .X1 = .stopped := Option.some.inj (congrArg (fun l => l[5]?) hstages)
  exact absurd (harmed.symm.trans hstill) (by decide)

end

-- ==== The state after reset (O42) ====
section
open Sys2Proof Sys2Proof.Machine Sys2Proof.Machine.State

/-- Settles O42: the state after reset is given outright, so every part of it is read off, and its invariants are evaluated. -/
theorem resetState : Obligations.ResetState := by
  refine ⟨rfl, fun t => ?_, rfl, rfl, rfl, rfl, rfl, rfl, fun key => rfl, ?_, ?_, ?_⟩
  · cases t <;> rfl
  all_goals decide +kernel

end

-- ==== What leaves the module's state and the stages alone ====
section
/-!
One rule per operation of the model that touches neither the module's state nor the state of a stage, in the order of the model.
`State.modes` is what they leave; it says nothing of the other parts of a stage.
-/

namespace Sys2Proof.Machine.State
open Sys2Proof Sys2Proof.Machine

/-- The module's state with the states of the stages. -/
def modes (s : State) : ModState × (Stage → StageState) := (s.module, s.st)

theorem modes_congr {s u : State} (hm : u.module = s.module) (hs : u.stages = s.stages) : u.modes = s.modes := by
  have hst : u.st = s.st := funext fun t => by rw [State.st, State.st, State.stg, State.stg, hs]
  rw [modes, modes, hm, hst]

/-- An update of the parts beside the module's state and the stages. -/
@[simp] theorem modes_parts {s : State} {now : Nat} {regs : List (Nat × Word)} {vars : List (Nat × Int)} {timers : List (Nat × Option Nat)}
    {causes : List Cause} {cycleFaults : List CycleFault} {deferred : List FaultEvt} {release : List Protected} {queue : List Rec}
    {log : Log} {kept : List Kept} {challenges : List Challenge} {windows : List WinCtl} {edges : List Edge} {dmaFifo : List DmaEntry}
    {pipe : List Sample} {accepts : List Accept} {sram : List Host.Cell} {runs : List Run} {denials : List Denial}
    {held handQueue : List (Req × Svc)} {handCmd : Option (Req × Svc)}
    {staging keyMem : List Host.Cell}
    {keyObs : KeyObs} {header early : List Byte} {image : List (Nat × List Byte)} {canRx : List CanEntry} {canTx canHold : List TxFrame}
    {canLast : List (Nat × List Nat)} {canClaims : List Claim} {peers : List Peer} {waiting : List Waiting} {colony replies : List Node}
    {egress : List Egress} {out : List Out} {free : Nat} {pending : List Instr} :
    State.modes
      { now, regs, vars, timers, module := s.module, stages := s.stages, causes, cycleFaults, deferred,
        release, queue, log, kept, challenges, windows, edges, dmaFifo, pipe,
        accepts, sram, runs, denials, held, handQueue, handCmd, staging, keyMem,
        keyObs, header, early, image, canRx, canTx, canHold, canLast, canClaims,
        peers, waiting, colony, replies, egress, out, free, pending } = s.modes :=
  modes_congr rfl rfl

@[simp] theorem modes_ite {c : Prop} [Decidable c] (a b : State) : (if c then a else b).modes = if c then a.modes else b.modes :=
  apply_ite modes c a b

@[simp] theorem modes_foldl {α : Type} (k : State → α → State) (hk : ∀ s x, (k s x).modes = s.modes) (l : List α) (s : State) :
    (l.foldl k s).modes = s.modes :=
  List.foldlRecOn (motive := fun u => u.modes = s.modes) l k rfl fun _ h x _ => (hk _ x).trans h

@[simp] theorem modes_each {α : Type} (s : State) (l : List α) (k : State → α → State) (hk : ∀ s x, (k s x).modes = s.modes) :
    (s.each l k).modes = s.modes :=
  modes_foldl k hk l s

@[simp] theorem modes_when (s : State) (b : Bool) (k : State → State) (hk : ∀ s, (k s).modes = s.modes) :
    (s.when b k).modes = s.modes := by
  cases b
  · rfl
  · exact hk s

theorem modes_foldl_snd {α β : Type} (k : β × State → α → β × State) (hk : ∀ p x, (k p x).2.modes = p.2.modes) (l : List α)
    (p : β × State) : (l.foldl k p).2.modes = p.2.modes :=
  List.foldlRecOn (motive := fun u => u.2.modes = p.2.modes) l k rfl fun _ h x _ => (hk _ x).trans h

theorem modes_foldl_fst {α β : Type} (k : State × β → α → State × β) (hk : ∀ p x, (k p x).1.modes = p.1.modes) (l : List α)
    (p : State × β) : (l.foldl k p).1.modes = p.1.modes :=
  List.foldlRecOn (motive := fun u => u.1.modes = p.1.modes) l k rfl fun _ h x _ => (hk _ x).trans h

@[simp] theorem modes_expire (s : State) (t : Timer) (i : Nat) (k : State → State) (hk : ∀ s, (k s).modes = s.modes) :
    (s.expire t i k).modes = s.modes := by
  unfold State.expire
  split
  · rfl
  · exact (hk _).trans (modes_congr rfl rfl)

@[simp] theorem modes_setWord (s : State) (k : Nat) (w : Word) : (s.setWord k w).modes = s.modes := by
  unfold State.setWord
  simp

@[simp] theorem modes_setF (s : State) (f : Fld) (n : Nat) (v : Int) (j : Nat) : (s.setF f n v j).modes = s.modes := by
  unfold State.setF
  simp

@[simp] theorem modes_setFb (s : State) (f : Fld) (n : Nat) (b : Bool) (j : Nat) : (s.setFb f n b j).modes = s.modes := by
  unfold State.setFb
  simp

@[simp] theorem modes_addF (s : State) (f : Fld) (n d j : Nat) : (s.addF f n d j).modes = s.modes := by
  unfold State.addF
  simp

@[simp] theorem modes_wrapF (s : State) (f : Fld) (n d j : Nat) : (s.wrapF f n d j).modes = s.modes := by
  unfold State.wrapF
  simp

@[simp] theorem modes_setV (s : State) (x : Var) (i : Nat) (v : Int) : (s.setV x i v).modes = s.modes := by
  unfold State.setV
  simp

@[simp] theorem modes_setOn (s : State) (x : Var) (i : Nat) (b : Bool) : (s.setOn x i b).modes = s.modes := by
  unfold State.setOn
  simp

@[simp] theorem modes_addV (s : State) (x : Var) (i : Nat) (d : Int) : (s.addV x i d).modes = s.modes := by
  unfold State.addV
  simp

@[simp] theorem modes_setDue (s : State) (t : Timer) (i : Nat) (e : Option Nat) : (s.setDue t i e).modes = s.modes := by
  unfold State.setDue
  simp

@[simp] theorem modes_close (s : State) (t : Timer) (i : Nat) : (s.close t i).modes = s.modes := by
  unfold State.close
  simp

@[simp] theorem modes_openBy (s : State) (c : Nat) (t : Timer) (i len : Nat) : (s.openBy c t i len).modes = s.modes := by
  unfold State.openBy
  simp

@[simp] theorem modes_openSlow (s : State) (t : Timer) (i len : Nat) : (s.openSlow t i len).modes = s.modes := by
  unfold State.openSlow
  simp

@[simp] theorem modes_openLoop (s : State) (t : Timer) (i len : Nat) : (s.openLoop t i len).modes = s.modes := by
  unfold State.openLoop
  simp

@[simp] theorem modes_setW1c (s : State) (f : Fld) (n v j : Nat) : (s.setW1c f n v j).modes = s.modes := by
  unfold State.setW1c
  simp

theorem st_setStg_of_state {s : State} {t : Stage} {c : StageCtl} (hc : c.state = s.st t) : (s.setStg t c).st = s.st := by
  funext u
  by_cases htu : t = u
  · subst htu
    exact (st_setStg_same s t c).trans hc
  · simp [State.st, stg_setStg_ne s c htu]

theorem state_stg (s : State) (t : Stage) : (s.stg t).state = s.modes.2 t := rfl

@[simp] theorem modes_setStg (s : State) (t : Stage) (c : StageCtl) (hc : c.state = s.modes.2 t) : (s.setStg t c).modes = s.modes :=
  congrArg (s.module, ·) (st_setStg_of_state hc)

@[simp] theorem modes_emit (s : State) (o : Out) : (s.emit o).modes = s.modes := by
  unfold State.emit
  simp

@[simp] theorem modes_idleSync (s : State) : s.idleSync.modes = s.modes := by
  unfold State.idleSync
  simp

@[simp] theorem modes_attnSync (s : State) : s.attnSync.modes = s.modes := by
  unfold State.attnSync
  (repeat' split) <;> simp

@[simp] theorem modes_admitRec (s : State) (a : RepArg) (r : Rec) : (s.admitRec a r).modes = s.modes := by
  unfold State.admitRec
  simp

@[simp] theorem modes_refilled (s : State) (code : Nat) : (s.refilled code).modes = s.modes := by
  rcases s.refilled_cases code with e | ⟨x, y, e⟩ <;> simp [e]

@[simp] theorem modes_enqueue (s : State) (a : RepArg) : (s.enqueue a).modes = s.modes := by
  simp [State.enqueue]

@[simp] theorem modes_idle (s : State) : s.idle.modes = s.modes := by
  unfold State.idle
  simp

@[simp] theorem modes_countPowered (s : State) : s.countPowered.modes = s.modes := by
  unfold State.countPowered
  simp

@[simp] theorem modes_append (s : State) (r : Rec) : (s.append r).modes = s.modes := by
  unfold State.append
  simp

@[simp] theorem modes_markSeen (s : State) (code : Nat) : (s.markSeen code).modes = s.modes := by
  unfold State.markSeen
  simp

@[simp] theorem modes_report (s : State) (a : RepArg) : (s.report a).modes = s.modes := by
  rw [State.report, modes_enqueue, modes_markSeen]

@[simp] theorem modes_appendOwn (s : State) (a : RepArg) : (s.appendOwn a).modes = s.modes := by
  unfold State.appendOwn
  simp

@[simp] theorem modes_fullCheck (s : State) : s.fullCheck.modes = s.modes := by
  unfold State.fullCheck
  simp

@[simp] theorem modes_fillCheck (s : State) : s.fillCheck.modes = s.modes := by
  unfold State.fillCheck
  simp

@[simp] theorem modes_writeQueue (s : State) : s.writeQueue.modes = s.modes := by
  unfold State.writeQueue
  simp

@[simp] theorem modes_skipUnpowered (s : State) : s.skipUnpowered.modes = s.modes := by
  unfold State.skipUnpowered
  simp

@[simp] theorem modes_safetyBegin (s : State) : s.safetyBegin.modes = s.modes := by
  unfold State.safetyBegin
  simp only [modes_each, modes_openSlow, modes_setF, modes_setFb, modes_setOn, modes_setV, implies_true]

@[simp] theorem modes_updCause (s : State) (code inst : Nat) (k : Cause → Cause) : (s.updCause code inst k).modes = s.modes := by
  unfold State.updCause
  simp

@[simp] theorem modes_setCause (s : State) (code inst : Nat) (transient : Bool) : (s.setCause code inst transient).modes = s.modes := by
  unfold State.setCause
  simp

@[simp] theorem modes_restoreLatches (s : State) : s.restoreLatches.modes = s.modes := by
  unfold State.restoreLatches
  simp

@[simp] theorem modes_note (s : State) (code d0 : Nat) (d1 d2 : Nat) : (s.note code d0 d1 d2).modes = s.modes := by
  unfold State.note
  simp

@[simp] theorem modes_pendingSync (s : State) : s.pendingSync.modes = s.modes := by
  unfold State.pendingSync
  simp only [modes_setF]

@[simp] theorem modes_keyErase (s : State) (a n : Nat) : (s.keyErase a n).modes = s.modes := by
  unfold State.keyErase
  simp

@[simp] theorem modes_keyFail (s : State) (code : Nat) : (s.keyFail code).modes = s.modes := by
  unfold State.keyFail
  simp

@[simp] theorem modes_idleRestart (s : State) : s.idleRestart.modes = s.modes := by
  unfold State.idleRestart
  simp

@[simp] theorem modes_countDropped (s : State) : s.countDropped.modes = s.modes := by
  unfold State.countDropped
  simp

@[simp] theorem modes_limited (s : State) (r : Req) (summary : Bool) (k : State → State) (hk : ∀ s, (k s).modes = s.modes) :
    (s.limited r summary k).modes = s.modes := by
  simp only [State.limited]
  split
  · split <;> simp
  · exact (hk _).trans (modes_congr rfl rfl)

@[simp] theorem modes_nextSeq (s : State) (kind : Nat) : (s.nextSeq kind).2.modes = s.modes := by
  unfold State.nextSeq
  simp

@[simp] theorem modes_depart (s : State) (p : Nat) (f : Frame) (bad : Bool) (t : Nat) : (s.depart p f bad t).modes = s.modes := by
  unfold State.depart
  simp

@[simp] theorem modes_drainPort (s : State) (p n : Nat) : (State.drainPort p n s).modes = s.modes := by
  induction n generalizing s with
  | zero => rfl
  | succ n ih =>
    unfold State.drainPort
    split
    · rfl
    · simp [ih]

@[simp] theorem modes_servePort (s : State) (p : Nat) : (s.servePort p).modes = s.modes := by
  unfold State.servePort
  simp

@[simp] theorem modes_sendOn (s : State) (p : Nat) (f : Frame) (bad : Bool) : (s.sendOn p f bad).modes = s.modes := by
  unfold State.sendOn
  simp

@[simp] theorem modes_sendTree (s : State) (f : Frame) : (s.sendTree f).modes = s.modes := by
  unfold State.sendTree
  simp

@[simp] theorem modes_sendUp (s : State) (f : Frame) : (s.sendUp f).modes = s.modes := by
  unfold State.sendUp
  split <;> simp

@[simp] theorem modes_flood (s : State) (f : Frame) (but : Nat) : (s.flood f but).modes = s.modes := by
  unfold State.flood
  simp

@[simp] theorem modes_sendService (s : State) (dst : Nat) (body : List Byte) : (s.sendService dst body).modes = s.modes := by
  unfold State.sendService
  dsimp only
  (repeat' split) <;> simp

@[simp] theorem modes_fabricReply (s : State) (dst trans : Nat) (r : Reply) : (s.fabricReply dst trans r).modes = s.modes := by
  unfold State.fabricReply
  simp

@[simp] theorem modes_canSync (s : State) (ch : Nat) : (s.canSync ch).modes = s.modes := by
  unfold State.canSync
  simp

@[simp] theorem modes_canPush (s : State) (t : TxFrame) : (s.canPush t).modes = s.modes := by
  unfold State.canPush
  simp

@[simp] theorem modes_canRefuse (s : State) (ch : Nat) : (s.canRefuse ch).modes = s.modes := by
  unfold State.canRefuse
  simp

@[simp] theorem modes_canOffer (s : State) (t : TxFrame) (urgent : Bool) : (s.canOffer t urgent).2.modes = s.modes := by
  unfold State.canOffer
  dsimp only
  (repeat' split) <;> simp

@[simp] theorem modes_canReply (s : State) (ch trans : Nat) (brs : Bool) (r : Reply) : (s.canReply ch trans brs r).modes = s.modes :=
  modes_foldl_snd _ (fun p x => by cases p.1 <;> simp) _ _

@[simp] theorem modes_sendReply (s : State) (r : Req) (rep : Reply) : (s.sendReply r rep).modes = s.modes := by
  unfold State.sendReply
  split <;> simp

@[simp] theorem modes_keep (s : State) (r : Req) (rep : Reply) : (s.keep r rep).modes = s.modes := by
  unfold State.keep
  simp

@[simp] theorem modes_answer (s : State) (r : Req) (service status : Nat) (payload : List Byte) :
    (s.answer r service status payload).modes = s.modes := by
  unfold State.answer
  simp

@[simp] theorem modes_countResult (s : State) (r : Res) : (s.countResult r).modes = s.modes := by
  unfold State.countResult
  simp

@[simp] theorem modes_answerCmd (s : State) (r : Req) (c : Cmd) (x : Res) (data : List Byte) :
    (s.answerCmd r c x data).modes = s.modes := by
  unfold State.answerCmd
  simp

@[simp] theorem modes_refuseAll (s : State) (r : Req) (c : Svc) (code : Nat) : (s.refuseAll r c code).modes = s.modes := by
  unfold State.refuseAll
  split <;> simp

@[simp] theorem modes_setChallenges (s : State) (l : List Challenge) : (s.setChallenges l).modes = s.modes := by
  unfold State.setChallenges
  simp

@[simp] theorem modes_noteAuth (s : State) (code : Nat) (r : Req) (c : Svc) : (s.noteAuth code r c).modes = s.modes := by
  unfold State.noteAuth
  simp

@[simp] theorem modes_authFailure (s : State) (r : Req) (c : Svc) : (s.authFailure r c).modes = s.modes := by
  unfold State.authFailure
  simp

@[simp] theorem modes_verify (s : State) (r : Req) (c : Svc) : (s.verify r c).2.2.modes = s.modes := by
  unfold State.verify
  dsimp only
  (repeat' split) <;> simp

@[simp] theorem modes_updEntry (s : State) (e : CanEntry) (k : CanEntry → CanEntry) : (s.updEntry e k).modes = s.modes := by
  unfold State.updEntry
  simp

@[simp] theorem modes_hostTake (s : State) (who : Requester) (ch : Nat) : (s.hostTake who ch).2.modes = s.modes := by
  unfold State.hostTake
  (repeat' split) <;> simp

@[simp] theorem modes_wholeSets (s v : State) (l : List (Nat × Nat)) : (s.wholeSets v l).modes = v.modes := by
  simp [State.wholeSets]

@[simp] theorem modes_replaySync (s : State) : s.replaySync.modes = s.modes := by
  unfold State.replaySync
  simp

@[simp] theorem modes_chgSync (s : State) : s.chgSync.modes = s.modes := by
  unfold State.chgSync
  simp

@[simp] theorem modes_fbMove (s : State) (n c : Nat) (d : Int) : (s.fbMove n c d).modes = s.modes := by
  unfold State.fbMove
  simp

@[simp] theorem modes_dropDerates (s : State) : s.dropDerates.modes = s.modes :=
  modes_each _ _ _ fun s t => modes_setStg s t _ rfl

@[simp] theorem modes_noteAt (s : State) (code : Nat) (t : Stage) (d0 d1 d2 : Nat) : (s.noteAt code t d0 d1 d2).modes = s.modes := by
  unfold State.noteAt
  simp

@[simp] theorem modes_spBack (s : State) (n : Nat) : (s.spBack n).modes = s.modes := by
  unfold State.spBack
  simp

@[simp] theorem modes_spSourceBack (s : State) (t : Stage) : (s.spSourceBack t).modes = s.modes := by
  unfold State.spSourceBack
  simp

@[simp] theorem modes_protect (s : State) (out : ProtOut) (old : Nat) : (s.protect out old).modes = s.modes := by
  unfold State.protect
  simp

@[simp] theorem modes_regHistory (s : State) (c : Int) : (s.regHistory c).modes = s.modes := by
  unfold State.regHistory
  simp

@[simp] theorem modes_burstLeft (s : State) : s.burstLeft.modes = s.modes := by
  unfold State.burstLeft
  simp

@[simp] theorem modes_snapFrom (s : State) : s.snapFrom.modes = s.modes := by
  unfold State.snapFrom
  simp

@[simp] theorem modes_snapWrite (s : State) (f : Fld) (k i : Nat) (l : List Byte) : (s.snapWrite f k i l).modes = s.modes := by
  unfold State.snapWrite
  simp

@[simp] theorem modes_linkSnapOf (s : State) (k detail seq : Nat) : (s.linkSnapOf k detail seq).modes = s.modes := by
  unfold State.linkSnapOf
  simp

@[simp] theorem modes_linkSnap (s : State) (k detail : Nat) : (s.linkSnap k detail).modes = s.modes := by
  unfold State.linkSnap
  simp

@[simp] theorem modes_regLeft (s : State) (st code : Nat) : (s.regLeft st code).modes = s.modes := by
  unfold State.regLeft
  simp

@[simp] theorem modes_regLeaves (s : State) (code : Nat) : (s.regLeaves code).modes = s.modes := by
  unfold State.regLeaves
  simp

@[simp] theorem modes_unlatchLegs (s : State) (t : Stage) : (s.unlatchLegs t).modes = s.modes := by
  unfold State.unlatchLegs
  simp

@[simp] theorem modes_endCommands (s : State) (n : Nat) : (s.endCommands n).modes = s.modes := by
  unfold State.endCommands
  simp

@[simp] theorem modes_releaseLatches (s : State) (t : Stage) : (s.releaseLatches t).modes = s.modes := by
  unfold State.releaseLatches
  simp

@[simp] theorem modes_slotsIdle (s : State) (t : Stage) : (s.slotsIdle t).modes = s.modes := by
  unfold State.slotsIdle
  simp

@[simp] theorem modes_brakeZero (s : State) (k : Nat) : (s.brakeZero k).modes = s.modes := by
  unfold State.brakeZero
  simp

@[simp] theorem modes_abortTest (s : State) (k : Nat) : (s.abortTest k).modes = s.modes := by
  unfold State.abortTest
  simp only [modes_ite, modes_report, modes_addF, modes_brakeZero, modes_setV, modes_close, modes_setFb, modes_setF, ite_self]

@[simp] theorem modes_abortBrakeTest (s : State) (t : Stage) : (s.abortBrakeTest t).modes = s.modes := by
  unfold State.abortBrakeTest
  simp

@[simp] theorem modes_recordTouched (s : State) : s.recordTouched.modes = s.modes := by
  unfold State.recordTouched
  split <;> simp

@[simp] theorem modes_carrierStop (s : State) (t : Stage) : (s.carrierStop t).modes = s.modes := by
  unfold State.carrierStop
  simp

@[simp] theorem modes_brakeApply (s : State) (k : Nat) : (s.brakeApply k).modes = s.modes := by
  unfold State.brakeApply
  simp only [modes_ite, modes_close, modes_setV, modes_setOn, modes_setF, modes_setFb, modes_protect, ite_self]

@[simp] theorem modes_brakeSync (s : State) : s.brakeSync.modes = s.modes := by
  simp [State.brakeSync]
  (repeat' split) <;> simp

@[simp] theorem modes_actStop (s : State) (a : Nat) : (s.actStop a).modes = s.modes := by
  unfold State.actStop
  simp

@[simp] theorem modes_stageIdle (s : State) (t : Stage) : (s.stageIdle t).modes = s.modes := by
  unfold State.stageIdle
  split <;> simp

@[simp] theorem modes_stageEnds (s : State) (t : Stage) : (s.stageEnds t).modes = s.modes := by
  unfold State.stageEnds
  simp

@[simp] theorem modes_turnOff (s : State) (c : Nat) : (s.turnOff c).modes = s.modes := by
  unfold State.turnOff
  simp

@[simp] theorem modes_legOff (s : State) (n : Nat) : (s.legOff n).modes = s.modes := by
  unfold State.legOff
  simp

@[simp] theorem modes_outputAllOff (s : State) (t : Stage) : (s.outputAllOff t).modes = s.modes := by
  unfold State.outputAllOff
  simp

@[simp] theorem modes_chgSnap (s : State) (k before detail : Nat) : (s.chgSnap k before detail).modes = s.modes := by
  unfold State.chgSnap
  simp

@[simp] theorem modes_pRamp (s : State) : s.pRamp.modes = s.modes := by
  unfold State.pRamp
  simp

@[simp] theorem modes_pStopNext (s : State) : s.pStopNext.modes = s.modes := by
  unfold State.pStopNext
  simp

@[simp] theorem modes_protectStage (s : State) (t : Stage) : (s.protectStage t).modes = s.modes := by
  unfold State.protectStage
  simp

@[simp] theorem modes_rampThenOff (s : State) (t : Stage) (len : Nat) : (s.rampThenOff t len).modes = s.modes := by
  unfold State.rampThenOff
  simp

@[simp] theorem modes_cmpFire (s : State) (a c : Nat) (pos : Int) (at' : Nat) : (s.cmpFire a c pos at').modes = s.modes := by
  unfold State.cmpFire
  simp

@[simp] theorem modes_cmpTest (s : State) (a c n : Nat) : (s.cmpTest a c n).modes = s.modes := by
  unfold State.cmpTest
  simp

@[simp] theorem modes_cmpRetest (s : State) (n : Nat) : (s.cmpRetest n).modes = s.modes := by
  unfold State.cmpRetest
  simp

@[simp] theorem modes_cmpCross (s : State) (a c : Nat) (p p' : Int) (at' : Nat) : (s.cmpCross a c p p' at').modes = s.modes := by
  unfold State.cmpCross
  simp

@[simp] theorem modes_unabort (s : State) (k : Nat) : (s.unabort k).modes = s.modes := by
  unfold State.unabort
  simp

@[simp] theorem modes_nextTag (s : State) : (s.nextTag).2.modes = s.modes := by
  unfold State.nextTag
  simp

@[simp] theorem modes_retag (s : State) (l : List CycleFault) (tag : Nat) (ex : Bool) : (s.retag l tag ex).modes = s.modes := by
  unfold State.retag
  simp

@[simp] theorem modes_keepFaults (s : State) (fs : List FaultEvt) (tag : Nat) : (s.keepFaults fs tag).modes = s.modes := by
  unfold State.keepFaults
  simp

@[simp] theorem modes_reportAll (s : State) (fs : List FaultEvt) : (s.reportAll fs).modes = s.modes := by
  unfold State.reportAll
  dsimp only
  (repeat' split) <;> simp

@[simp] theorem modes_trigBuffers (s : State) (t : Stage) : (s.trigBuffers t).modes = s.modes := by
  unfold State.trigBuffers
  simp

@[simp] theorem modes_latchStages (s : State) (code inst : Nat) (l : List Stage) : (s.latchStages code inst l).modes = s.modes := by
  unfold State.latchStages
  simp

@[simp] theorem modes_derate (s : State) (t : Stage) (code : Nat) (momentary : Bool) : (s.derate t code momentary).modes = s.modes := by
  unfold State.derate
  dsimp only
  rw [modes_ite, modes_setStg, ite_self]
  rfl

@[simp] theorem modes_openHold (s : State) (t : Stage) : (s.openHold t).modes = s.modes := by
  unfold State.openHold
  simp

@[simp] theorem modes_setRank (s : State) (t : Stage) (rank reaction : Nat) : (s.setRank t rank reaction).modes = s.modes := by
  unfold State.setRank
  simp

@[simp] theorem modes_driveLow (s : State) (n : Nat) : (s.driveLow n).modes = s.modes := by
  unfold State.driveLow
  simp

@[simp] theorem modes_addOn (s : State) (c t : Nat) : (s.addOn c t).modes = s.modes := by
  unfold State.addOn
  simp

@[simp] theorem modes_ascTurnOn (s : State) (n : Nat) : (s.ascTurnOn n).modes = s.modes := by
  unfold State.ascTurnOn
  simp

@[simp] theorem modes_outputAsc (s : State) (t : Stage) : (s.outputAsc t).modes = s.modes := by
  unfold State.outputAsc
  simp

@[simp] theorem modes_outputOff (s : State) (t : Stage) : (s.outputOff t).modes = s.modes := by
  unfold State.outputOff
  dsimp only
  (repeat' split) <;> simp

@[simp] theorem modes_setAuto (s : State) (n : Nat) (b : Bool) : (s.setAuto n b).modes = s.modes := by
  unfold State.setAuto
  simp

@[simp] theorem modes_slotsManual (s : State) (t : Stage) : (s.slotsManual t).modes = s.modes := by
  unfold State.slotsManual
  simp

@[simp] theorem modes_fbPush (s : State) (n c : Nat) : (s.fbPush n c).modes = s.modes := by
  unfold State.fbPush
  simp

@[simp] theorem modes_fbDir (s : State) (n c : Nat) (edge : Bool) : (s.fbDir n c edge).modes = s.modes := by
  unfold State.fbDir
  simp

@[simp] theorem modes_winFirst (s : State) (n c : Nat) : (s.winFirst n c).modes = s.modes := by
  unfold State.winFirst
  simp

@[simp] theorem modes_fbLost (s : State) (n : Nat) : (s.fbLost n).modes = s.modes := by
  unfold State.fbLost
  simp

@[simp] theorem modes_filterFrom (s : State) (tm : Timer) (i n c : Nat) : (s.filterFrom tm i n c).modes = s.modes := by
  unfold State.filterFrom
  simp

@[simp] theorem modes_lapseAt (s : State) (clk at' : Nat) (t : Timer) (i : Nat) : (s.lapseAt clk at' t i).modes = s.modes := by
  unfold State.lapseAt
  split <;> simp

@[simp] theorem modes_accAdd (s : State) (a : Nat) (x : Int) : (s.accAdd a x).modes = s.modes := by
  unfold State.accAdd
  simp

@[simp] theorem modes_accTake (s : State) (c v : Nat) : (s.accTake c v).modes = s.modes := by
  unfold State.accTake
  simp

@[simp] theorem modes_legCompare (s : State) (c channel : Nat) (x : Int) : (s.legCompare c channel x).modes = s.modes := by
  unfold State.legCompare
  simp

@[simp] theorem modes_cmpTake (s : State) (c m : Nat) : (s.cmpTake c m).modes = s.modes := by
  unfold State.cmpTake
  simp

@[simp] theorem modes_putWord (s : State) (key v : Nat) : (s.putWord key v).modes = s.modes := by
  unfold State.putWord
  simp

@[simp] theorem modes_cursorAdvance (s : State) : s.cursorAdvance.modes = s.modes := by
  unfold State.cursorAdvance
  simp

@[simp] theorem modes_writeWindow (s : State) (who : Requester) (w sub : Nat) (v : Word) :
    (s.writeWindow who w sub v).2.modes = s.modes := by
  unfold State.writeWindow
  dsimp only
  (repeat' split) <;> simp

@[simp] theorem modes_spWindow (s : State) (n : Nat) : (s.spWindow n).modes = s.modes := by
  unfold State.spWindow
  simp

@[simp] theorem modes_writeLeg (s : State) (w : WordDef) (n key : Nat) (v : Word) : (s.writeLeg w n key v).2.modes = s.modes := by
  unfold State.writeLeg
  dsimp only
  (repeat' split) <;> simp

@[simp] theorem modes_budgetShow (s : State) : s.budgetShow.modes = s.modes := by
  unfold State.budgetShow
  simp

theorem modes_writePeriod {s u : State} {t : Stage} {v : Nat} (hu : s.writePeriod t v = some u) : u.modes = s.modes := by
  obtain ⟨-, hu⟩ := Option.ite_none_right_eq_some.1 hu
  simp [← Option.some.inj hu]

@[simp] theorem modes_cmpArm (s : State) (a c : Nat) : (s.cmpArm a c).modes = s.modes := by
  unfold State.cmpArm
  split <;> simp

@[simp] theorem modes_cmpDisarm (s : State) (a c : Nat) : (s.cmpDisarm a c).modes = s.modes := by
  unfold State.cmpDisarm
  simp

@[simp] theorem modes_brakeCmd (s : State) (v : Nat) : (s.brakeCmd v).modes = s.modes := by
  unfold State.brakeCmd
  simp

@[simp] theorem modes_closeRefused (s : State) : s.closeRefused.modes = s.modes := by
  unfold State.closeRefused
  simp

@[simp] theorem modes_drivers (s : State) (v : Nat) : (s.drivers v).modes = s.modes := by
  unfold State.drivers
  simp

@[simp] theorem modes_writeAck (s : State) (who : Option Requester) (ch v : Nat) : (s.writeAck who ch v).2.modes = s.modes := by
  unfold State.writeAck
  dsimp only
  (repeat' split) <;> simp

@[simp] theorem modes_writeRequest (s : State) (v : Nat) : (s.writeRequest v).2.modes = s.modes := by
  unfold State.writeRequest
  (repeat' split) <;> simp

@[simp] theorem modes_legArm (s : State) (n : Nat) : (s.legArm n).modes = s.modes := by
  unfold State.legArm
  simp only [modes_close, modes_setF, modes_setOn, modes_setV, modes_setFb, modes_each, modes_recordTouched, implies_true, modes_parts]

@[simp] theorem modes_carrierArm (s : State) (t : Stage) : (s.carrierArm t).modes = s.modes := by
  unfold State.carrierArm
  simp

@[simp] theorem modes_openLoopSlot (s : State) (n : Nat) : (s.openLoopSlot n).modes = s.modes := by
  unfold State.openLoopSlot
  simp

@[simp] theorem modes_openLoopCmd (s : State) (n : Nat) : (s.openLoopCmd n).2.modes = s.modes := by
  unfold State.openLoopCmd
  (repeat' split) <;> simp

@[simp] theorem modes_closeLoopSlot (s : State) (n : Nat) : (s.closeLoopSlot n).modes = s.modes := by
  unfold State.closeLoopSlot
  simp

@[simp] theorem modes_closeLoopCmd (s : State) (n : Nat) : (s.closeLoopCmd n).2.modes = s.modes := by
  unfold State.closeLoopCmd
  (repeat' split) <;> simp

@[simp] theorem modes_setEng (s : State) (e v : Nat) : (s.setEng e v).modes = s.modes := by
  unfold State.setEng
  simp

@[simp] theorem modes_startSync (s : State) (e : Nat) : (s.startSync e).modes = s.modes := by
  unfold State.startSync
  simp

@[simp] theorem modes_switchBackCmd (s : State) : (s.switchBackCmd).2.modes = s.modes := by
  unfold State.switchBackCmd
  dsimp only
  (repeat' split) <;> simp

@[simp] theorem modes_clearStart (s : State) : s.clearStart.modes = s.modes := by
  unfold State.clearStart
  simp

@[simp] theorem modes_clearLogCmd (s : State) : (s.clearLogCmd).2.2.modes = s.modes := by
  unfold State.clearLogCmd
  (repeat' split) <;> simp

@[simp] theorem modes_noteEnds (s : State) (code inst : Nat) : (s.noteEnds code inst).modes = s.modes := by
  unfold State.noteEnds
  simp

@[simp] theorem modes_busRecoverCmd (s : State) (ch : Nat) : (s.busRecoverCmd ch).2.modes = s.modes := by
  unfold State.busRecoverCmd
  (repeat' split) <;> simp

@[simp] theorem modes_chgTimer (s : State) : s.chgTimer.modes = s.modes := by
  unfold State.chgTimer
  simp

@[simp] theorem modes_chargeStart (s : State) : s.chargeStart.modes = s.modes := by
  unfold State.chargeStart
  dsimp only
  split <;> simp

@[simp] theorem modes_chgFinish (s : State) (cause : Nat) : (s.chgFinish cause).modes = s.modes := by
  unfold State.chgFinish
  split <;> simp

@[simp] theorem modes_noteLastingAt (s : State) (code : Nat) (t : Stage) : (s.noteLastingAt code t).modes = s.modes := by
  unfold State.noteLastingAt
  simp

@[simp] theorem modes_timedAt (s : State) (at' : Nat) (t : Timer) (i : Nat) (cond : Bool) (len : Nat) :
    (s.timedAt at' t i cond len).modes = s.modes := by
  unfold State.timedAt
  simp

@[simp] theorem modes_timed (s : State) (t : Timer) (i : Nat) (cond : Bool) (len : Nat) : (s.timed t i cond len).modes = s.modes := by
  unfold State.timed
  simp

@[simp] theorem modes_chargeStep (s : State) (stop : Bool) : (s.chargeStep stop).modes = s.modes := by
  unfold State.chargeStep
  dsimp only
  (repeat' split) <;> simp

@[simp] theorem modes_brakeTestStart (s : State) (k : Nat) : (s.brakeTestStart k).modes = s.modes := by
  unfold State.brakeTestStart
  simp only [modes_openSlow, modes_setOn, modes_setV, modes_setF, modes_setFb]

@[simp] theorem modes_brakeTestCmd (s : State) (k : Nat) : (s.brakeTestCmd k).2.modes = s.modes := by
  unfold State.brakeTestCmd
  (repeat' split) <;> simp

@[simp] theorem modes_restartCmd (s : State) : (s.restartCmd).2.modes = s.modes := by
  unfold State.restartCmd
  dsimp only
  (repeat' split) <;> simp

@[simp] theorem modes_noteLasting (s : State) (code inst : Nat) (d0 d1 d2 : Nat) : (s.noteLasting code inst d0 d1 d2).modes = s.modes := by
  unfold State.noteLasting
  simp

@[simp] theorem modes_keyWriteCmd (s : State) (generation crc : Nat) : (s.keyWriteCmd generation crc).2.modes = s.modes := by
  unfold State.keyWriteCmd
  dsimp only
  (repeat' split) <;> simp

@[simp] theorem modes_handBegin (s : State) (r : Req) (c : Cmd) : (s.handBegin r c).modes = s.modes := by
  unfold State.handBegin
  simp

@[simp] theorem modes_serveChallenge (s : State) (r : Req) : (s.serveChallenge r).modes = s.modes := by
  unfold State.serveChallenge
  simp

@[simp] theorem modes_canOff (s : State) : s.canOff.modes = s.modes := by
  unfold State.canOff
  simp

@[simp] theorem modes_setPort (s : State) (p st : Nat) : (s.setPort p st).modes = s.modes := by
  unfold State.setPort
  simp

@[simp] theorem modes_fabTrain (s : State) : s.fabTrain.modes = s.modes := by
  unfold State.fabTrain
  simp

@[simp] theorem modes_pllLocked (s : State) : s.pllLocked.modes = s.modes := by
  unfold State.pllLocked
  simp

@[simp] theorem modes_clearStage (s : State) : s.clearStage.modes = s.modes := by
  unfold State.clearStage
  simp

@[simp] theorem modes_clearEnd (s : State) (incomplete : Bool) : (s.clearEnd incomplete).modes = s.modes := by
  unfold State.clearEnd
  split <;> simp

@[simp] theorem modes_rebuild (s : State) (damage : List (Nat × List Byte)) (copyA copyB : MgmtCopy) :
    (s.rebuild damage copyA copyB).modes = s.modes := by
  unfold State.rebuild
  simp

@[simp] theorem modes_keyPut (s : State) (a : Nat) (l : List Byte) : (s.keyPut a l).modes = s.modes := by
  unfold State.keyPut
  simp

@[simp] theorem modes_earlyRead (s : State) (slot : Nat) : (s.earlyRead slot).modes = s.modes := by
  unfold State.earlyRead
  split <;> simp

@[simp] theorem modes_keyRead (s : State) (o : KeyObs) : (s.keyRead o).modes = s.modes := by
  unfold State.keyRead
  dsimp only
  (repeat' split) <;> simp only [modes_each, modes_keyPut, modes_setV, modes_setFb, modes_setF, modes_earlyRead, implies_true, modes_parts]

@[simp] theorem modes_supplyOn (s : State) (g : Nat) : (s.supplyOn g).modes = s.modes := by
  unfold State.supplyOn
  split <;> simp

@[simp] theorem modes_restoreEnable (s : State) (g : Nat) : (s.restoreEnable g).modes = s.modes := by
  unfold State.restoreEnable
  simp

@[simp] theorem modes_removeEnable (s : State) (g : Nat) : (s.removeEnable g).modes = s.modes := by
  unfold State.removeEnable
  simp

@[simp] theorem modes_enableSync (s : State) (g : Nat) : (s.enableSync g).modes = s.modes := by
  unfold State.enableSync
  simp

@[simp] theorem modes_safeBit (s : State) (f : Fld) (g : Nat) (b : Bool) : (s.safeBit f g b).modes = s.modes := by
  unfold State.safeBit
  simp

@[simp] theorem modes_setEnable (s : State) (f : Fld) (g : Nat) (b : Bool) : (s.setEnable f g b).modes = s.modes := by
  unfold State.setEnable
  simp

@[simp] theorem modes_writeEnSw (s : State) (g : Nat) (b : Bool) : (s.writeEnSw g b).modes = s.modes := by
  unfold State.writeEnSw
  simp

@[simp] theorem modes_stoTestStart (s : State) (g : Nat) : (s.stoTestStart g).modes = s.modes := by
  unfold State.stoTestStart
  simp

@[simp] theorem modes_testsBegin (s : State) : s.testsBegin.modes = s.modes := by
  unfold State.testsBegin
  simp

@[simp] theorem modes_chgBegin (s : State) : s.chgBegin.modes = s.modes := by
  unfold State.chgBegin
  simp

@[simp] theorem modes_excStart (s : State) (n : Nat) : (s.excStart n).modes = s.modes := by
  unfold State.excStart
  simp

@[simp] theorem modes_fbValid (s : State) (n : Nat) : (s.fbValid n).modes = s.modes := by
  unfold State.fbValid
  simp

@[simp] theorem modes_slotTimers (s : State) : s.slotTimers.modes = s.modes := by
  unfold State.slotTimers
  simp

@[simp] theorem modes_unloop (s : State) (p : Nat) : (s.unloop p).modes = s.modes := by
  unfold State.unloop
  simp

@[simp] theorem modes_portClear (s : State) (p : Nat) : (s.portClear p).modes = s.modes := by
  unfold State.portClear
  simp only [modes_setV, modes_setOn, modes_setF, modes_setFb, modes_close, modes_parts]

@[simp] theorem modes_portOff (s : State) (p : Nat) : (s.portOff p).modes = s.modes := by
  unfold State.portOff
  simp

@[simp] theorem modes_canBound (s : State) (ch : Nat) : (s.canBound ch).modes = s.modes := by
  unfold State.canBound
  simp

@[simp] theorem modes_canStale (s : State) (ch n : Nat) : (s.canStale ch n).modes = s.modes := by
  unfold State.canStale
  simp

@[simp] theorem modes_canApply (s : State) (ch : Nat) : (s.canApply ch).modes = s.modes := by
  unfold State.canApply
  simp

@[simp] theorem modes_brakeDueWindow (s : State) (k : Nat) : (s.brakeDueWindow k).modes = s.modes := by
  unfold State.brakeDueWindow
  simp

@[simp] theorem modes_rotationBegin (s : State) (c : Nat) : (s.rotationBegin c).modes = s.modes := by
  unfold State.rotationBegin
  simp

@[simp] theorem modes_seqReady (s : State) (c e a : Nat) : (s.seqReady c e a).modes = s.modes := by
  unfold State.seqReady
  simp

@[simp] theorem modes_seqStart (s : State) (c e a : Nat) : (s.seqStart c e a).modes = s.modes := by
  unfold State.seqStart
  simp

@[simp] theorem modes_loadTables (s : State) : s.loadTables.modes = s.modes := by
  unfold State.loadTables
  simp

@[simp] theorem modes_extendFf (s : State) : s.extendFf.modes = s.modes := by
  unfold State.extendFf
  simp

@[simp] theorem modes_dependentDefaults (s : State) (given : List Nat) : (s.dependentDefaults given).modes = s.modes := by
  unfold State.dependentDefaults
  simp

@[simp] theorem modes_setParam (s : State) (e : Nat × Nat × Nat) : (s.setParam e).modes = s.modes := by
  unfold State.setParam
  split <;> simp

@[simp] theorem modes_setOwners (s : State) : s.setOwners.modes = s.modes := by
  unfold State.setOwners
  simp

@[simp] theorem modes_attnDefaults (s : State) (given : List Nat) : (s.attnDefaults given).modes = s.modes := by
  unfold State.attnDefaults
  simp

@[simp] theorem modes_configure (s : State) (sections : List (Nat × List Byte)) : (s.configure sections).modes = s.modes := by
  unfold State.configure
  simp

@[simp] theorem modes_applyImage (s : State) : s.applyImage.modes = s.modes := by
  unfold State.applyImage
  simp

@[simp] theorem modes_takeFree (s : State) : (s.takeFree).2.modes = s.modes := by
  unfold State.takeFree
  simp

@[simp] theorem modes_dllReady (s : State) : s.dllReady.modes = s.modes := by
  unfold State.dllReady
  simp

@[simp] theorem modes_sendClaim (s : State) (ch addr : Nat) : (s.sendClaim ch addr).modes = s.modes := by
  unfold State.sendClaim
  simp

@[simp] theorem modes_claimGo (s : State) (ch addr : Nat) : (s.claimGo ch addr).modes = s.modes := by
  unfold State.claimGo
  simp

@[simp] theorem modes_keyStep (s : State) (outcome : Nat) : (s.keyStep outcome).modes = s.modes := by
  unfold State.keyStep
  dsimp only
  (repeat' split) <;> simp only [modes_setF, modes_keyFail, modes_setV, modes_pendingSync, modes_keyErase, modes_keyPut, modes_note]

@[simp] theorem modes_lapse (s : State) (clk : Nat) (t : Timer) (i : Nat) : (s.lapse clk t i).modes = s.modes := by
  unfold State.lapse
  simp

@[simp] theorem modes_setMaster (s : State) (uid : Nat) : (s.setMaster uid).modes = s.modes := by
  unfold State.setMaster
  simp

@[simp] theorem modes_fabDrop (s : State) : s.fabDrop.modes = s.modes := by
  unfold State.fabDrop
  simp

@[simp] theorem modes_awaitBus (s : State) : s.awaitBus.modes = s.modes := by
  unfold State.awaitBus
  simp

@[simp] theorem modes_holdBus (s : State) (beats : Nat) : (s.holdBus beats).modes = s.modes := by
  unfold State.holdBus
  simp

@[simp] theorem modes_scrubGranted (s : State) (r : BusReq) : (s.scrubGranted r).modes = s.modes := by
  unfold State.scrubGranted
  simp only [modes_ite, modes_setV, modes_each, modes_addV, ite_self, implies_true]

@[simp] theorem modes_drainPosted (s : State) (n : Nat) : (s.drainPosted n).modes = s.modes := by
  unfold State.drainPosted
  simp

@[simp] theorem modes_scrubDue (s : State) (e : Ecc) : (s.scrubDue e).modes = s.modes := by
  unfold State.scrubDue
  simp

@[simp] theorem modes_swapSlice (s : State) (c at' : Nat) : (s.swapSlice c at').modes = s.modes := by
  unfold State.swapSlice
  simp

@[simp] theorem modes_carrierBegin (s : State) (t : Stage) : (s.carrierBegin t).modes = s.modes := by
  unfold State.carrierBegin
  simp

@[simp] theorem modes_slotEvent (s : State) (t : Stage) (middle : Bool) (v : Nat) : (s.slotEvent t middle v).modes = s.modes := by
  unfold State.slotEvent
  simp

@[simp] theorem modes_snapTake (s : State) (n v : Nat) : (s.snapTake n v).modes = s.modes := by
  unfold State.snapTake
  simp

@[simp] theorem modes_ssiStart (s : State) (n : Nat) : (s.ssiStart n).modes = s.modes := by
  unfold State.ssiStart
  simp

@[simp] theorem modes_seqOn (s : State) (c a : Nat) : (s.seqOn c a).modes = s.modes := by
  unfold State.seqOn
  simp

@[simp] theorem modes_correct (s : State) (c slice : Nat) (raw : Int) : (s.correct c slice raw).2.modes = s.modes := by
  unfold State.correct
  simp

@[simp] theorem modes_dmaPut (s : State) (c b n : Nat) (x : Int) (ovr : Bool) (channel tag : Nat) :
    (s.dmaPut c b n x ovr channel tag).modes = s.modes := by
  unfold State.dmaPut
  simp

@[simp] theorem modes_resResult (s : State) (c n : Nat) (isCos : Bool) (x : Int) : (s.resResult c n isCos x).modes = s.modes := by
  unfold State.resResult
  split <;> simp

@[simp] theorem modes_seqConverted (s : State) (c a : Nat) : (s.seqConverted c a).modes = s.modes := by
  unfold State.seqConverted
  simp

@[simp] theorem modes_regEvent (s : State) (middle : Bool) (at' : Nat) : (s.regEvent middle at').modes = s.modes := by
  unfold State.regEvent
  simp

@[simp] theorem modes_syncFreed (s : State) : s.syncFreed.modes = s.modes := by
  unfold State.syncFreed
  split <;> simp

@[simp] theorem modes_newTripPeriod (s : State) (t : Stage) : (s.newTripPeriod t).modes = s.modes := by
  unfold State.newTripPeriod
  simp

@[simp] theorem modes_changeMode (s : State) (t : Stage) : (s.changeMode t).modes = s.modes := by
  unfold State.changeMode
  simp

@[simp] theorem modes_addOff (s : State) (c e : Nat) (moved : Bool) : (s.addOff c e moved).modes = s.modes := by
  unfold State.addOff
  simp

@[simp] theorem modes_levelChange (s : State) (n fromLv : Nat) (toLv e : Nat) (moved mute : Bool) :
    (s.levelChange n fromLv toLv e moved mute).modes = s.modes := by
  unfold State.levelChange
  simp

@[simp] theorem modes_changeLegs (s : State) (t : Stage) (x per : Nat) : (s.changeLegs t x per).modes = s.modes := by
  unfold State.changeLegs
  simp

@[simp] theorem modes_rephase (s : State) (n x : Nat) (perOld per : Nat) : (s.rephase n x perOld per).modes = s.modes := by
  unfold State.rephase
  simp

@[simp] theorem modes_carrierPeriod (s : State) (t : Stage) : (s.carrierPeriod t).modes = s.modes := by
  refine modes_expire _ _ _ _ fun s => ?_
  dsimp only
  split <;> simp

@[simp] theorem modes_carrierMiddle (s : State) (t : Stage) : (s.carrierMiddle t).modes = s.modes := by
  unfold State.carrierMiddle
  simp

@[simp] theorem modes_bufWrite (s : State) (e : DmaEntry) : (s.bufWrite e).modes = s.modes := by
  unfold State.bufWrite
  simp

@[simp] theorem modes_eachSource (s : State) (k : State → Nat → State × List FaultEvt) (hk : ∀ s n, (k s n).1.modes = s.modes) :
    (s.eachSource k).1.modes = s.modes :=
  modes_foldl_fst (fun a n => ((k a.1 n).1, a.2 ++ (k a.1 n).2)) (fun p n => hk p.1 n) _ _

@[simp] theorem modes_snapRenew (s : State) (n : Nat) : (s.snapRenew n).modes = s.modes := by
  unfold State.snapRenew
  simp

@[simp] theorem modes_countV (s : State) (x : Var) (i : Nat) : (s.countV x i).modes = s.modes := by
  unfold State.countV
  simp

@[simp] theorem modes_resAdvance (s : State) (n c : Nat) : (s.resAdvance n c).modes = s.modes := by
  unfold State.resAdvance
  simp

@[simp] theorem modes_resCorrect (s : State) (n : Nat) (e : Int) : (s.resCorrect n e).modes = s.modes := by
  unfold State.resCorrect
  simp

@[simp] theorem modes_slotCommit (s : State) (r : Run) : (s.slotCommit r).modes = s.modes := by
  simp only [State.slotCommit]
  split
  · rfl
  · refine modes_each _ _ _ fun s l => ?_
    rcases l with ⟨leg, dutyA, dutyB, phase, force, _ | ⟨a, b⟩⟩ <;> simp

@[simp] theorem modes_slotMirror (s : State) (r : Run) (outs : List Int) : (s.slotMirror r outs).modes = s.modes := by
  unfold State.slotMirror
  simp

@[simp] theorem modes_slotFlags (s : State) (r : Run) : (s.slotFlags r).modes = s.modes := by
  unfold State.slotFlags
  simp

@[simp] theorem modes_absence (s : State) (k code inst : Nat) (cond : Bool) : (s.absence k code inst cond).modes = s.modes := by
  unfold State.absence
  simp

@[simp] theorem modes_ppTo (s : State) (st : Nat) : (s.ppTo st).modes = s.modes := by
  unfold State.ppTo
  simp

@[simp] theorem modes_takeOver (s : State) : s.takeOver.modes = s.modes := by
  unfold State.takeOver
  simp

@[simp] theorem modes_startFeeding (s : State) : s.startFeeding.modes = s.modes := by
  unfold State.startFeeding
  simp

@[simp] theorem modes_actMove (s : State) (a n : Nat) : (s.actMove a n).modes = s.modes := by
  unfold State.actMove
  simp

@[simp] theorem modes_actBlock (s : State) (a : Nat) (pos : Int) (clamped : Bool) : (s.actBlock a pos clamped).modes = s.modes := by
  unfold State.actBlock
  simp

@[simp] theorem modes_slotCount (s : State) (r : Run) : (s.slotCount r).modes = s.modes := by
  unfold State.slotCount
  simp

@[simp] theorem modes_commitLeg (s : State) (n : Nat) : (s.commitLeg n).modes = s.modes := by
  unfold State.commitLeg
  dsimp only
  rw [modes_setFb, modes_setOn, modes_setV, modes_setOn]
  refine (modes_each _ _ _ fun s k => ?_).trans (by simp)
  split <;> simp

@[simp] theorem modes_takePending (s : State) (t : Stage) (n r : Nat) : (s.takePending t n r).1.modes = s.modes := by
  unfold State.takePending
  dsimp only
  (repeat' split) <;> simp

@[simp] theorem modes_discardCarry (s : State) (n : Nat) (x : Int) : (s.discardCarry n x).modes = s.modes := by
  unfold State.discardCarry
  simp

@[simp] theorem modes_scheduleSegs (s : State) (n : Nat) (first : Bool) (e lv : Nat) (segs : List Seg) :
    (s.scheduleSegs n first e lv segs).modes = s.modes := by
  induction segs generalizing s first e lv with
  | nil => exact modes_setV ..
  | cons a rest ih => exact (ih ..).trans (modes_levelChange ..)

@[simp] theorem modes_runInterval (s : State) (t : Stage) (n r : Nat) (d : Int) : (s.runInterval t n r d).modes = s.modes := by
  unfold State.runInterval
  simp

@[simp] theorem modes_middleOf (s : State) (t : Stage) (n : Nat) : (s.middleOf t n).modes = s.modes := by
  unfold State.middleOf
  simp

@[simp] theorem modes_startOf (s : State) (t : Stage) (nx : Nat) : (s.startOf t nx).modes = s.modes := by
  unfold State.startOf
  simp

@[simp] theorem modes_nextReload (s : State) (t : Stage) (n r : Nat) (d : Int) : (s.nextReload t n r d).modes = s.modes := by
  unfold State.nextReload
  split <;> simp

@[simp] theorem modes_wholeCycles (s : State) : s.wholeCycles.modes = s.modes := by
  unfold State.wholeCycles
  simp

@[simp] theorem modes_tripPeriod (s : State) (t : Stage) : (s.tripPeriod t).modes = s.modes := by
  unfold State.tripPeriod
  split <;> simp

@[simp] theorem modes_periodTag (s : State) (t : Stage) : (s.periodTag t).2.modes = s.modes := by
  unfold State.periodTag
  split <;> simp

@[simp] theorem modes_registerTrip (s : State) (n : Nat) : (s.registerTrip n).modes = s.modes := by
  unfold State.registerTrip
  simp

@[simp] theorem modes_tripMiddle (s : State) (n at' : Nat) : (s.tripMiddle n at').modes = s.modes := by
  unfold State.tripMiddle
  simp

@[simp] theorem modes_setCommand (s : State) (c : Nat) (b : Bool) : (s.setCommand c b).modes = s.modes := by
  unfold State.setCommand
  simp

@[simp] theorem modes_tripOutput (s : State) (n : Nat) : (s.tripOutput n).modes = s.modes := by
  unfold State.tripOutput
  simp

@[simp] theorem modes_upset (s : State) (e : Nat) : (s.upset e).modes = s.modes := by
  unfold State.upset
  simp

@[simp] theorem modes_decide (s : State) (row eng mask : Nat) : (s.decide row eng mask).modes = s.modes := by
  unfold State.decide
  simp

@[simp] theorem modes_toTest (s : State) (e : Nat) (counted : Bool) : (s.toTest e counted).modes = s.modes := by
  unfold State.toTest
  simp

@[simp] theorem modes_openGap (s : State) : s.openGap.modes = s.modes := by
  unfold State.openGap
  simp

@[simp] theorem modes_passOwner (s : State) : s.passOwner.modes = s.modes := by
  unfold State.passOwner
  simp

@[simp] theorem modes_syncFailed (s : State) (e : Nat) : (s.syncFailed e).modes = s.modes := by
  unfold State.syncFailed
  simp

@[simp] theorem modes_recordsGood (s : State) (e : Nat) : (s.recordsGood e).modes = s.modes := by
  unfold State.recordsGood
  simp

@[simp] theorem modes_noteUntilStart (s : State) (code inst : Nat) (d0 d1 d2 : Nat) :
    (s.noteUntilStart code inst d0 d1 d2).modes = s.modes := by
  unfold State.noteUntilStart
  simp

@[simp] theorem modes_startEngines (s : State) : s.startEngines.modes = s.modes := by
  unfold State.startEngines
  simp

@[simp] theorem modes_selfTestDone (s : State) (e : Nat) (pass : Bool) : (s.selfTestDone e pass).modes = s.modes := by
  unfold State.selfTestDone
  simp

@[simp] theorem modes_detectorOff (s : State) (c : Nat) : (s.detectorOff c).modes = s.modes := by
  unfold State.detectorOff
  simp

@[simp] theorem modes_cmdPath (s : State) (c : Nat) (ok : Bool) : (s.cmdPath c ok).modes = s.modes := by
  unfold State.cmdPath
  simp

@[simp] theorem modes_shownOff (s : State) (c : Nat) : (s.shownOff c).modes = s.modes := by
  unfold State.shownOff
  simp

@[simp] theorem modes_gateReadback (s : State) (c : Nat) (gate : GateSeen) : (s.gateReadback c gate).modes = s.modes := by
  unfold State.gateReadback
  split <;> simp

@[simp] theorem modes_snapsDue (s : State) : s.snapsDue.modes = s.modes := by
  unfold State.snapsDue
  simp

@[simp] theorem modes_regMeas (s : State) (sp u' ub : Int) : (s.regMeas sp u' ub).modes = s.modes := by
  unfold State.regMeas
  simp

@[simp] theorem modes_regLeg (s : State) (j duty : Nat) (phase force : Nat) (timeA timeB : Nat) :
    (s.regLeg j duty phase force timeA timeB).modes = s.modes := by
  unfold State.regLeg
  simp

@[simp] theorem modes_regPhases (s : State) (n : Nat) : (s.regPhases n).modes = s.modes := by
  unfold State.regPhases
  simp

@[simp] theorem modes_regOff (s : State) : s.regOff.modes = s.modes := by
  unfold State.regOff
  simp

@[simp] theorem modes_regState (s : State) (st n : Nat) : (s.regState st n).modes = s.modes := by
  unfold State.regState
  simp

@[simp] theorem modes_regStopped (s : State) : s.regStopped.modes = s.modes := by
  unfold State.regStopped
  simp

@[simp] theorem modes_regMode (s : State) (mode : Nat) : (s.regMode mode).modes = s.modes := by
  unfold State.regMode
  simp

@[simp] theorem modes_softStart (s : State) : s.softStart.modes = s.modes := by
  unfold State.softStart
  simp

@[simp] theorem modes_linkNote (s : State) (code d0 : Nat) : (s.linkNote code d0).modes = s.modes := by
  unfold State.linkNote
  simp

@[simp] theorem modes_softEnd (s : State) : s.softEnd.modes = s.modes := by
  unfold State.softEnd
  simp

@[simp] theorem modes_softDone (s : State) (code : Nat) : (s.softDone code).modes = s.modes := by
  unfold State.softDone
  simp

@[simp] theorem modes_regEnter (s : State) (st : Nat) : (s.regEnter st).modes = s.modes := by
  unfold State.regEnter
  simp

@[simp] theorem modes_regBurstTo (s : State) (on : Bool) : (s.regBurstTo on).modes = s.modes := by
  unfold State.regBurstTo
  simp

@[simp] theorem modes_burstStep (s : State) (sp u' : Int) : (s.burstStep sp u').modes = s.modes := by
  unfold State.burstStep
  simp

@[simp] theorem modes_regShed (s : State) (n : Nat) : (s.regShed n).modes = s.modes := by
  unfold State.regShed
  simp

@[simp] theorem modes_regLight (s : State) (ipk ub : Int) (on : Bool) : (s.regLight ipk ub on).modes = s.modes := by
  unfold State.regLight
  simp

@[simp] theorem modes_compensate (s : State) (e0 u' : Int) : (s.compensate e0 u').modes = s.modes := by
  unfold State.compensate
  simp

@[simp] theorem modes_phaseLoop (s : State) (j : Nat) (r base : Int) (tu : Nat) : (s.phaseLoop j r base tu).modes = s.modes := by
  unfold State.phaseLoop
  simp

@[simp] theorem modes_preBias (s : State) (j : Nat) (duty30 base e : Int) : (s.preBias j duty30 base e).modes = s.modes := by
  unfold State.preBias
  simp

@[simp] theorem modes_regLoops (s : State) (step : RegStep) (was : Nat) (u' ub : Int) (tu : Nat) :
    (s.regLoops step was u' ub tu).modes = s.modes := by
  unfold State.regLoops
  split <;> simp

@[simp] theorem modes_regAct (s : State) (step : RegStep) (was : Nat) (sp u' ub : Int) (tu : Nat) :
    (s.regAct step was sp u' ub tu).modes = s.modes := by
  unfold State.regAct
  simp

@[simp] theorem modes_pTaken (s : State) : s.pTaken.modes = s.modes := by
  unfold State.pTaken
  simp

@[simp] theorem modes_shedCond (s : State) (i : Nat) (cond : Bool) : (s.shedCond i cond).modes = s.modes := by
  unfold State.shedCond
  simp

@[simp] theorem modes_shedConds (s : State) (u' ub : Int) : (s.shedConds u' ub).modes = s.modes := by
  unfold State.shedConds
  simp

@[simp] theorem modes_ppSample (s : State) (k : Nat) : (s.ppSample k).modes = s.modes := by
  unfold State.ppSample
  simp

@[simp] theorem modes_vregUpdate (s : State) : s.vregUpdate.modes = s.modes := by
  unfold State.vregUpdate
  simp

@[simp] theorem modes_pairWindows (s : State) (i : Nat) (a b : Bool) : (s.pairWindows i a b).modes = s.modes := by
  unfold State.pairWindows
  simp

@[simp] theorem modes_stoRestore (s : State) (g : Nat) : (s.stoRestore g).modes = s.modes := by
  unfold State.stoRestore
  simp

@[simp] theorem modes_pathCheck (s : State) (g : Nat) (hw sw drv : Bool) : (s.pathCheck g hw sw drv).modes = s.modes := by
  unfold State.pathCheck
  simp

@[simp] theorem modes_openOnFault (s : State) : s.openOnFault.modes = s.modes := by
  unfold State.openOnFault
  simp

@[simp] theorem modes_captureS (s : State) (m : Mismatch) : (s.captureS m).modes = s.modes := by
  unfold State.captureS
  simp

@[simp] theorem modes_handFails (s : State) : s.handFails.modes = s.modes := by
  unfold State.handFails
  (repeat' split) <;> simp

@[simp] theorem modes_drained (s : State) : s.drained.modes = s.modes := by
  unfold State.drained
  simp

@[simp] theorem modes_recordWrite (s : State) : s.recordWrite.modes = s.modes := by
  unfold State.recordWrite
  split <;> simp

@[simp] theorem modes_cutPort (s : State) (p : Nat) : (s.cutPort p).modes = s.modes := by
  unfold State.cutPort
  simp

@[simp] theorem modes_derive (s : State) (depth path : Nat) : (s.derive depth path).modes = s.modes := by
  unfold State.derive
  (repeat' split) <;> simp

@[simp] theorem modes_startRound (s : State) : s.startRound.modes = s.modes := by
  unfold State.startRound
  simp

@[simp] theorem modes_rootEarly (s : State) : s.rootEarly.modes = s.modes := by
  unfold State.rootEarly
  simp

@[simp] theorem modes_topology (s : State) (p change : Nat) (wasUp : Bool) : (s.topology p change wasUp).modes = s.modes := by
  unfold State.topology
  simp

@[simp] theorem modes_portError (s : State) (p j : Nat) : (s.portError p j).modes = s.modes := by
  unfold State.portError
  simp

@[simp] theorem modes_portCheck (s : State) (p : Nat) (f : Frame) : (s.portCheck p f).2.modes = s.modes := by
  unfold State.portCheck
  dsimp only
  (repeat' split) <;> simp

@[simp] theorem modes_setPath (s : State) (depth path : Nat) : (s.setPath depth path).modes = s.modes := by
  unfold State.setPath
  simp

@[simp] theorem modes_sendWaggleReply (s : State) : s.sendWaggleReply.modes = s.modes := by
  unfold State.sendWaggleReply
  simp

@[simp] theorem modes_settleRound (s : State) : s.settleRound.modes = s.modes := by
  unfold State.settleRound
  simp

@[simp] theorem modes_learn (s : State) (src port : Nat) : (s.learn src port).modes = s.modes := by
  unfold State.learn
  simp

@[simp] theorem modes_stopRoot (s : State) : s.stopRoot.modes = s.modes := by
  unfold State.stopRoot
  simp

@[simp] theorem modes_setRoot (s : State) (uid prio : Nat) : (s.setRoot uid prio).modes = s.modes := by
  unfold State.setRoot
  simp

@[simp] theorem modes_rootHeard (s : State) : s.rootHeard.modes = s.modes := by
  unfold State.rootHeard
  simp

@[simp] theorem modes_setUpstream (s : State) (p : Nat) : (s.setUpstream p).modes = s.modes := by
  unfold State.setUpstream
  simp

@[simp] theorem modes_forwardWaggle (s : State) (p : Nat) (f : Frame) : (s.forwardWaggle p f).modes = s.modes := by
  unfold State.forwardWaggle
  simp

@[simp] theorem modes_laterCopy (s : State) (p : Nat) (f : Frame) : (s.laterCopy p f).modes = s.modes := by
  unfold State.laterCopy
  simp

@[simp] theorem modes_classify (s : State) (src kind : Nat) (seq port : Nat) : (s.classify src kind seq port).2.modes = s.modes := by
  unfold State.classify
  split <;> simp

@[simp] theorem modes_classified (s : State) (b : Bool) (src kind seq port k : Nat) :
    (if b then s.classify src kind seq port else (k, s)).2.modes = s.modes := by
  cases b
  · rfl
  · exact modes_classify ..

@[simp] theorem modes_learnFirst (s : State) (f : Frame) (p : Nat) : (s.learnFirst f p).modes = s.modes := by
  unfold State.learnFirst
  simp

@[simp] theorem modes_pdelayReq (s : State) (p : Nat) (f : Frame) (st : Stamps) : (s.pdelayReq p f st).modes = s.modes := by
  unfold State.pdelayReq
  simp

@[simp] theorem modes_pdelayResp (s : State) (p : Nat) (f : Frame) (st : Stamps) : (s.pdelayResp p f st).modes = s.modes := by
  unfold State.pdelayResp
  simp

@[simp] theorem modes_markSent (s : State) (src kind : Nat) (seq port : Nat) : (s.markSent src kind seq port).modes = s.modes := by
  unfold State.markSent
  simp

@[simp] theorem modes_forward (s : State) (p : Nat) (f : Frame) (ports : List Nat) (k : Nat → List Byte) :
    (s.forward p f ports k).modes = s.modes := by
  unfold State.forward
  simp

@[simp] theorem modes_waggleReply (s : State) (b : List Byte) : (s.waggleReply b).modes = s.modes := by
  unfold State.waggleReply
  simp

@[simp] theorem modes_refuseSelf (s : State) (addr reason : Nat) : (s.refuseSelf addr reason).modes = s.modes := by
  unfold State.refuseSelf
  simp

@[simp] theorem modes_ringCopy (s : State) (p no : Nat) : (s.ringCopy p no).modes = s.modes := by
  unfold State.ringCopy
  simp

@[simp] theorem modes_sendRefused (s : State) (uid addr reason : Nat) : (s.sendRefused uid addr reason).modes = s.modes := by
  unfold State.sendRefused
  simp

@[simp] theorem modes_becomeRoot (s : State) : s.becomeRoot.modes = s.modes := by
  unfold State.becomeRoot
  simp only [modes_startRound, modes_close, modes_setOn, modes_setV, modes_setF, modes_each, modes_setRoot, modes_setFb, implies_true, modes_parts]

@[simp] theorem modes_ringSync (s : State) : s.ringSync.modes = s.modes := by
  unfold State.ringSync
  simp

@[simp] theorem modes_sendSync (s : State) (leave : List Nat) : (s.sendSync leave).modes = s.modes := by
  unfold State.sendSync
  simp

@[simp] theorem modes_forget (s : State) (src : Nat) : (s.forget src).modes = s.modes := by
  unfold State.forget
  split <;> simp

@[simp] theorem modes_claimDone (s : State) (ch : Nat) : (s.claimDone ch).modes = s.modes := by
  unfold State.claimDone
  simp

@[simp] theorem modes_canErrors (s : State) (ch : Nat) : (s.canErrors ch).modes = s.modes := by
  unfold State.canErrors
  simp

@[simp] theorem modes_canGood (s : State) (ch : Nat) : (s.canGood ch).modes = s.modes := by
  unfold State.canGood
  simp

@[simp] theorem modes_canQueue (s : State) (ch : Nat) (f : CanFrame) (p : CanFilter) : (s.canQueue ch f p).modes = s.modes := by
  unfold State.canQueue
  dsimp only
  split <;> simp

@[simp] theorem modes_ackLapse (s : State) (ch queue slot : Nat) : (s.ackLapse ch queue slot).modes = s.modes := by
  unfold State.ackLapse
  split <;> simp

@[simp] theorem modes_txForm (s : State) (i : Nat) (vals : List Nat) : (s.txForm i vals).modes = s.modes := by
  unfold State.txForm
  simp

@[simp] theorem modes_canSent (s : State) (ch : Nat) : (s.canSent ch).modes = s.modes := by
  unfold State.canSent
  dsimp only
  (repeat' split) <;> simp only [modes_openSlow, modes_emit, modes_canErrors, modes_setF, modes_addF, modes_canSync, modes_canOffer, modes_parts]

@[simp] theorem modes_challengeExpiry (s : State) (who : Requester) : (s.challengeExpiry who).modes = s.modes := by
  unfold State.challengeExpiry
  split <;> simp

@[simp] theorem modes_guardCorrection (s : State) (c limit : Nat) : (s.guardCorrection c limit).modes = s.modes := by
  unfold State.guardCorrection
  simp

@[simp] theorem modes_moveEdge (s : State) (e : Edge) (t : Nat) (gap : Bool) : (s.moveEdge e t gap).modes = s.modes := by
  unfold State.moveEdge
  simp

@[simp] theorem modes_offEdge (s : State) (e : Edge) : (s.offEdge e).modes = s.modes := by
  unfold State.offEdge
  simp

@[simp] theorem modes_terminateEdges (s : State) (n m : Nat) (r on : Nat) (e nx : Nat) :
    (s.terminateEdges n m r on e nx).modes = s.modes := by
  unfold State.terminateEdges
  simp

@[simp] theorem modes_terminate (s : State) (n : Nat) : (s.terminate n).modes = s.modes := by
  unfold State.terminate
  simp

end Sys2Proof.Machine.State

end

-- ==== What every ordinary operation keeps ====
section
/-!
`Orderly s₀ s` says what an operation from `s₀` to `s` may do to the module's state and the stages. It is kept along every operation but
those that start the module or take its power: stages come into use only while the module serves (READY, RUN, SERVICE), and the module
leaves these states for SAFE only, with every stage. Here the operations that enter a stage state, and the reactions.
-/

namespace Sys2Proof.Machine.State
open Sys2Proof Sys2Proof.Machine

/-- READY, RUN or SERVICE: the states in which stages may be used, and from which the module enters SAFE (Table 1-5). -/
def serves (s : State) : Prop := s.module = .ready ∨ s.module = .run ∨ s.module = .service

/-- What every operation keeps but those that start the module or take its power: outside READY, RUN and SERVICE the module's state
stands and no stage comes into use, and from these the module goes only to one another or to SAFE, with every stage in SAFE then. -/
structure Orderly (s₀ s : State) : Prop where
  rests : ¬ s₀.serves → s.module = s₀.module ∧ ∀ x, (s₀.st x).isActive = false → (s.st x).isActive = false
  stays : s₀.serves → s.serves ∨ s.module = .safe ∧ ∀ x, s.st x = .safe

theorem module_of_modes {s u : State} (h : u.modes = s.modes) : u.module = s.module := congrArg Prod.fst h

theorem st_of_modes {s u : State} (h : u.modes = s.modes) : u.st = s.st := congrArg Prod.snd h

theorem serves_of_modes {s u : State} (h : u.modes = s.modes) : u.serves ↔ s.serves := by
  rw [serves, serves, module_of_modes h]

theorem Orderly.refl (s : State) : Orderly s s := ⟨fun _ => ⟨rfl, fun _ h => h⟩, .inl⟩

theorem Orderly.of_modes {s₀ s u : State} (h : Orderly s₀ s) (hu : u.modes = s.modes) : Orderly s₀ u := by
  obtain ⟨hrests, hstays⟩ := h
  have hm := module_of_modes hu
  have hst := st_of_modes hu
  exact ⟨by rwa [hm, hst], by rwa [serves_of_modes hu, hm, hst]⟩

/-- An update of the parts beside the module's state and the stages. -/
theorem orderly_parts {s₀ s : State} (h : Orderly s₀ s) {now : Nat} {regs : List (Nat × Word)} {vars : List (Nat × Int)}
    {timers : List (Nat × Option Nat)}
    {causes : List Cause} {cycleFaults : List CycleFault} {deferred : List FaultEvt} {release : List Protected} {queue : List Rec}
    {log : Log} {kept : List Kept} {challenges : List Challenge} {windows : List WinCtl} {edges : List Edge} {dmaFifo : List DmaEntry}
    {pipe : List Sample} {accepts : List Accept} {sram : List Host.Cell} {runs : List Run} {denials : List Denial}
    {held handQueue : List (Req × Svc)} {handCmd : Option (Req × Svc)}
    {staging keyMem : List Host.Cell}
    {keyObs : KeyObs} {header early : List Byte} {image : List (Nat × List Byte)} {canRx : List CanEntry} {canTx canHold : List TxFrame}
    {canLast : List (Nat × List Nat)} {canClaims : List Claim} {peers : List Peer} {waiting : List Waiting} {colony replies : List Node}
    {egress : List Egress} {out : List Out} {free : Nat} {pending : List Instr} :
    Orderly s₀
      { now, regs, vars, timers, module := s.module, stages := s.stages, causes, cycleFaults, deferred,
        release, queue, log, kept, challenges, windows, edges, dmaFifo, pipe,
        accepts, sram, runs, denials, held, handQueue, handCmd, staging, keyMem,
        keyObs, header, early, image, canRx, canTx, canHold, canLast, canClaims,
        peers, waiting, colony, replies, egress, out, free, pending } :=
  h.of_modes (modes_congr rfl rfl)

theorem orderly_dite {s₀ : State} {c : Prop} [Decidable c] {s u : State} (hs : c → Orderly s₀ s) (hu : ¬ c → Orderly s₀ u) :
    Orderly s₀ (if c then s else u) := by
  split
  · exact hs ‹_›
  · exact hu ‹_›

theorem orderly_ite {s₀ : State} {c : Prop} [Decidable c] {s u : State} (hs : Orderly s₀ s) (hu : Orderly s₀ u) :
    Orderly s₀ (if c then s else u) :=
  orderly_dite (fun _ => hs) fun _ => hu

theorem orderly_ite_fst {α : Type} {s₀ : State} {c : Prop} [Decidable c] {s u : State × α} (hs : Orderly s₀ s.1) (hu : Orderly s₀ u.1) :
    Orderly s₀ (if c then s else u).1 := by
  split <;> assumption

theorem orderly_ite_snd {α : Type} {s₀ : State} {c : Prop} [Decidable c] {s u : α × State} (hs : Orderly s₀ s.2) (hu : Orderly s₀ u.2) :
    Orderly s₀ (if c then s else u).2 := by
  split <;> assumption

theorem orderly_ite_snd_snd {α β : Type} {s₀ : State} {c : Prop} [Decidable c] {s u : α × β × State} (hs : Orderly s₀ s.2.2)
    (hu : Orderly s₀ u.2.2) : Orderly s₀ (if c then s else u).2.2 := by
  split <;> assumption

theorem orderly_foldl {α : Type} {s₀ s : State} (h : Orderly s₀ s) (k : State → α → State) (l : List α)
    (hk : ∀ s : State, Orderly s₀ s → ∀ x ∈ l, Orderly s₀ (k s x)) : Orderly s₀ (l.foldl k s) :=
  List.foldlRecOn (motive := fun s => Orderly s₀ s) l k h hk

theorem orderly_foldl_snd {α β : Type} {s₀ : State} {p : β × State} (h : Orderly s₀ p.2) (k : β × State → α → β × State) (l : List α)
    (hk : ∀ p : β × State, Orderly s₀ p.2 → ∀ x ∈ l, Orderly s₀ (k p x).2) : Orderly s₀ (l.foldl k p).2 :=
  List.foldlRecOn (motive := fun p => Orderly s₀ p.2) l k h hk

theorem orderly_foldl_fst {α β : Type} {s₀ : State} {p : State × β} (h : Orderly s₀ p.1) (k : State × β → α → State × β) (l : List α)
    (hk : ∀ p : State × β, Orderly s₀ p.1 → ∀ x ∈ l, Orderly s₀ (k p x).1) : Orderly s₀ (l.foldl k p).1 :=
  List.foldlRecOn (motive := fun p => Orderly s₀ p.1) l k h hk

theorem orderly_each {α : Type} {s₀ s : State} (h : Orderly s₀ s) (l : List α) (k : State → α → State)
    (hk : ∀ s : State, Orderly s₀ s → ∀ x ∈ l, Orderly s₀ (k s x)) : Orderly s₀ (s.each l k) :=
  orderly_foldl h k l hk

theorem orderly_when {s₀ s : State} (h : Orderly s₀ s) (b : Bool) (k : State → State) (hk : ∀ s : State, Orderly s₀ s → Orderly s₀ (k s)) :
    Orderly s₀ (s.when b k) :=
  orderly_ite (hk s h) h

theorem orderly_expire {s₀ s : State} (h : Orderly s₀ s) (t : Timer) (i : Nat) (k : State → State)
    (hk : ∀ s : State, Orderly s₀ s → Orderly s₀ (k s)) : Orderly s₀ (s.expire t i k) := by
  unfold State.expire
  split
  · exact h
  · exact hk _ (h.of_modes (modes_congr rfl rfl))

/-! ### Entering a stage state -/

theorem ne_safe_of_isActive {st : StageState} (h : st.isActive = true) : st ≠ .safe := by
  rintro rfl
  cases h

/-- A stage may enter a state: SAFE always, any from use and while the module serves, STOPPED where the module is not in SAFE. -/
def MayEnter (s₀ s : State) (t : Stage) (st : StageState) : Prop :=
  st = .safe ∨ (s.st t).isActive = true ∨ s.serves ∨ st = .stopped ∧ (s.module = .safe → s₀.module = .safe)

theorem MayEnter.of_modes {s₀ s u : State} {t : Stage} {st : StageState} (h : MayEnter s₀ s t st) (hu : u.modes = s.modes) :
    MayEnter s₀ u t st := by
  rwa [MayEnter, st_of_modes hu, serves_of_modes hu, module_of_modes hu]

theorem orderly_setStg {s₀ s : State} (h : Orderly s₀ s) {t : Stage} {c : StageCtl} (hc : MayEnter s₀ s t c.state) :
    Orderly s₀ (s.setStg t c) := by
  refine ⟨fun hna => ?_, fun ha => ?_⟩
  · obtain ⟨hmod, hrests⟩ := h.rests hna
    have hns : ¬ s.serves := by rwa [serves, hmod]
    refine ⟨hmod, fun x hx => ?_⟩
    by_cases htx : t = x
    · subst htx
      have hinactive := hrests t hx
      rw [st_setStg_same]
      obtain hsafe | hactive | hserves | ⟨hstopped, -⟩ := hc
      · rw [hsafe]; rfl
      · rw [hinactive] at hactive; cases hactive
      · exact absurd hserves hns
      · rw [hstopped]; rfl
    · rw [State.st, stg_setStg_ne s c htx]
      exact hrests x hx
  · refine (h.stays ha).imp id fun ⟨hsafe, hall⟩ => ⟨hsafe, fun x => ?_⟩
    by_cases htx : t = x
    · subst htx
      rw [st_setStg_same]
      obtain hst | hactive | hserves | ⟨-, hmod⟩ := hc
      · exact hst
      · exact absurd (hall t) (ne_safe_of_isActive hactive)
      · simp [serves, hsafe] at hserves
      · simp [serves, hmod hsafe] at ha
    · rw [State.st, stg_setStg_ne s c htx]
      exact hall x

theorem serves_of_orderly {s₀ s : State} (h : Orderly s₀ s) (hs : s.serves) : s₀.serves := by
  by_contra hna
  rw [serves, (h.rests hna).1] at hs
  exact hna hs

theorem not_safe_of_serves {s : State} (hs : s.serves) : s.module ≠ .safe := by
  obtain hm | hm | hm := hs <;> simp [hm]

/-- The module may go from one of READY, RUN and SERVICE to another. -/
theorem orderly_module {s₀ s u : State} (h : Orderly s₀ s) (hs : s.serves) (hu : u.serves) : Orderly s₀ u :=
  ⟨fun hna => absurd (serves_of_orderly h hs) hna, fun _ => .inl hu⟩

/-- The module follows its stages between READY and RUN only. -/
theorem orderly_syncModule {s₀ s : State} (h : Orderly s₀ s) (code : Nat) : Orderly s₀ (s.syncModule code) := by
  refine orderly_dite (fun hc => ?_) fun _ => orderly_dite (fun hc => ?_) fun _ => h
  · simp only [Bool.and_eq_true, beq_iff_eq] at hc
    exact orderly_module h (.inl hc.1) (.inr (.inl rfl))
  · simp only [Bool.and_eq_true, beq_iff_eq] at hc
    exact orderly_module h (.inr (.inl hc.1)) (.inl rfl)

theorem serves_syncModule {s : State} (hs : s.serves) (code : Nat) : (s.syncModule code).serves := by
  unfold State.syncModule
  split
  · exact .inr (.inl rfl)
  · split
    · exact .inl rfl
    · exact hs

theorem st_syncModule (s : State) (code : Nat) : (s.syncModule code).st = s.st := by
  unfold State.syncModule
  split
  · rfl
  · split <;> rfl

/-- What `enter` does to the stages. -/
theorem st_enter (s : State) (t : Stage) (st : StageState) (code reaction : Nat) :
    (s.enter t st code reaction).st t = st ∧ ∀ x, t ≠ x → (s.enter t st code reaction).st x = s.st x := by
  have hset {u : State} {c : StageCtl} (hu : u.modes = s.modes) (hc : c.state = st) :
      (((u.setStg t c).close .hold t.idx).syncModule code).st t = st
      ∧ ∀ x, t ≠ x → (((u.setStg t c).close .hold t.idx).syncModule code).st x = s.st x := by
    rw [st_syncModule, st_of_modes (modes_close ..)]
    refine ⟨(st_setStg_same ..).trans hc, fun x hx => ?_⟩
    rw [State.st, stg_setStg_ne _ _ hx, ← State.st, st_of_modes hu]
  unfold State.enter
  dsimp only
  split
  · rw [st_of_modes (modes_regLeaves ..)]
    exact hset (by simp) rfl
  · exact hset (by simp) rfl

theorem serves_enter {s : State} (hs : s.serves) (t : Stage) (st : StageState) (code reaction : Nat) :
    (s.enter t st code reaction).serves := by
  have hsync {u : State} {c : StageCtl} (hu : u.modes = s.modes) : (((u.setStg t c).close .hold t.idx).syncModule code).serves :=
    serves_syncModule (by rwa [serves, close_module, setStg_module, module_of_modes hu]) code
  unfold State.enter
  dsimp only
  split
  · rw [serves_of_modes (modes_regLeaves ..)]
    exact hsync (by simp)
  · exact hsync (by simp)

theorem orderly_enter {s₀ s : State} (h : Orderly s₀ s) {t : Stage} {st : StageState} (hst : MayEnter s₀ s t st) (code reaction : Nat) :
    Orderly s₀ (s.enter t st code reaction) := by
  have hset {u : State} {c : StageCtl} (hu : u.modes = s.modes) (hc : c.state = st) :
      Orderly s₀ (((u.setStg t c).close .hold t.idx).syncModule code) := by
    refine orderly_syncModule (Orderly.of_modes (orderly_setStg (h.of_modes hu) ?_) (modes_close ..)) code
    exact hc ▸ hst.of_modes hu
  exact orderly_ite ((hset (by simp) rfl).of_modes (modes_regLeaves ..)) (hset (by simp) rfl)

/-- P's end takes a D in use to STOPPED. -/
theorem orderly_dropD {s₀ s : State} (h : Orderly s₀ s) : Orderly s₀ s.dropD := by
  refine orderly_dite (fun hD => ?_) fun _ => h
  have hoff : ((s.outputAllOff .D).unlatchLegs .D).modes = s.modes := by simp
  have hstopped := orderly_enter (h.of_modes hoff) (st := .stopped) (.inr (.inl (by rwa [st_of_modes hoff]))) 0 0
  exact (hstopped.of_modes (modes_releaseLatches ..)).of_modes (modes_stageEnds ..)

theorem serves_leaveActive {s : State} (hs : s.serves) (t : Stage) : (s.leaveActive t).serves := by
  have hends := (serves_of_modes (modes_stageEnds s t)).2 hs
  unfold State.leaveActive
  split
  · unfold State.dropD
    split
    · rw [serves_of_modes (modes_stageEnds ..), serves_of_modes (modes_releaseLatches ..)]
      exact serves_enter ((serves_of_modes (by simp)).2 hends) ..
    · exact hends
  · exact hends

theorem orderly_leaveActive {s₀ s : State} (h : Orderly s₀ s) (t : Stage) : Orderly s₀ (s.leaveActive t) :=
  orderly_ite (orderly_dropD (h.of_modes (by simp))) (h.of_modes (by simp))

theorem orderly_toStopped {s₀ s : State} (h : Orderly s₀ s) {t : Stage} (ht : MayEnter s₀ s t .stopped) (code reaction : Nat) :
    Orderly s₀ (s.toStopped t code reaction) := by
  have hstop {u : State} (hu : u.modes = s.modes) : Orderly s₀ (((u.enter t .stopped code reaction).releaseLatches t).leaveActive t) :=
    orderly_leaveActive ((orderly_enter (h.of_modes hu) (ht.of_modes hu) code reaction).of_modes (modes_releaseLatches ..)) t
  exact orderly_ite ((hstop (by simp)).of_modes (modes_pStopNext ..)) (hstop (by simp))

theorem orderly_stopStart {s₀ s : State} (h : Orderly s₀ s) {t : Stage} (ht : (s.st t).isActive = true) : Orderly s₀ (s.stopStart t) := by
  cases t
  case L => exact orderly_ite (orderly_toStopped h (.inr (.inl ht)) ..) (h.of_modes (by simp))
  all_goals exact h.of_modes (by simp [State.stopStart])

theorem orderly_beginStop1 {s₀ s : State} (h : Orderly s₀ s) (t : Stage) (code reaction : Nat) :
    Orderly s₀ (s.beginStop1 t code reaction) := by
  have hsequence (hactive : (s.st t).isActive = true) {u : State} (hu : u.modes = s.modes) : Orderly s₀ (u.stopStart t) :=
    orderly_stopStart (h.of_modes hu) (by rwa [st_of_modes hu])
  unfold State.beginStop1
  dsimp only
  split
  next harmed =>
    exact orderly_toStopped (h.of_modes (modes_protectStage ..)) (MayEnter.of_modes (.inr (.inl (by rw [State.st, harmed]; rfl))) (by simp)) ..
  next hrunning => exact orderly_ite h (hsequence (by rw [State.st, hrunning]; rfl) (by simp [state_stg]))
  next hhold => exact orderly_ite h (hsequence (by rw [State.st, hhold]; rfl) (by simp [state_stg]))
  next => exact h

theorem orderly_beginStop {s₀ s : State} (h : Orderly s₀ s) (t : Stage) (code reaction : Nat) :
    Orderly s₀ (s.beginStop t code reaction) := by
  have hfirst := orderly_beginStop1 h t code reaction
  have hD : Orderly s₀ (if ((s.beginStop1 t code reaction).st .D).isRunning then (s.beginStop1 t code reaction).beginStop1 .D 0 0
      else s.beginStop1 t code reaction) := orderly_ite (orderly_beginStop1 hfirst ..) hfirst
  exact orderly_ite (hD.of_modes (by simp)) hfirst

theorem orderly_tryRestore {s₀ s : State} (h : Orderly s₀ s) (t : Stage) : Orderly s₀ (s.tryRestore t) := by
  refine orderly_dite (fun hhold => ?_) fun _ => h
  simp only [Bool.and_eq_true, beq_iff_eq] at hhold
  have hrun : Orderly s₀ ((s.enter t .running 0 0).spSourceBack t) :=
    (orderly_enter h (.inr (.inl (by rw [State.st, hhold.1.1]; rfl))) 0 0).of_modes (modes_spSourceBack ..)
  exact orderly_ite (orderly_beginStop hrun ..) hrun

theorem orderly_restoreStage {s₀ s : State} (h : Orderly s₀ s) (t : Stage) (c : StageCtl) (hc : c.state = s.st t) :
    Orderly s₀ ((s.setStg t c).tryRestore t) :=
  orderly_tryRestore (h.of_modes (modes_setStg s t c hc)) t

theorem orderly_dropDerates {s₀ s : State} (h : Orderly s₀ s) : Orderly s₀ s.dropDerates := h.of_modes (modes_dropDerates s)

theorem orderly_settle1 {s₀ s : State} (h : Orderly s₀ s) : Orderly s₀ s.settle1 :=
  orderly_dropDerates (orderly_each h _ _ fun _ h _ _ => orderly_ite (orderly_restoreStage h _ _ rfl) h)

theorem orderly_settleN {s₀ s : State} (h : Orderly s₀ s) (n : Nat) : Orderly s₀ (State.settleN n s) := by
  induction n generalizing s with
  | zero => exact h
  | succ n ih =>
    unfold State.settleN
    exact orderly_ite (orderly_settle1 h) (ih (orderly_settle1 h))

theorem orderly_settle {s₀ s : State} (h : Orderly s₀ s) : Orderly s₀ s.settle := orderly_settleN h 7

theorem orderly_clearCause {s₀ s : State} (h : Orderly s₀ s) (code inst : Nat) : Orderly s₀ (s.clearCause code inst) :=
  orderly_ite (orderly_settle (h.of_modes (modes_updCause ..))) h

theorem orderly_releaseHold {s₀ s : State} (h : Orderly s₀ s) (c : HoldCause) : Orderly s₀ (s.releaseHold c) :=
  orderly_settle (orderly_each h _ _ fun _ h _ _ => orderly_ite (orderly_restoreStage h _ _ rfl) h)

theorem orderly_holdBy {s₀ s : State} (h : Orderly s₀ s) (t : Stage) (c : HoldCause) (code : Nat) : Orderly s₀ (s.holdBy t c code) := by
  unfold State.holdBy
  dsimp only
  split
  next hrunning =>
    have hhold {u : State} (hu : u.modes = s.modes) : Orderly s₀ ((u.enter t .hold code 2).openHold t) :=
      (orderly_enter (h.of_modes hu) (MayEnter.of_modes (.inr (.inl (by rw [State.st, hrunning]; rfl))) hu) ..).of_modes (modes_openHold ..)
    refine orderly_ite h ((hhold ?_).of_modes (modes_each _ _ _ fun _ _ => modes_close ..))
    simp [state_stg]
  next => exact h.of_modes (modes_setStg _ _ _ rfl)
  next => exact h.of_modes (modes_setStg _ _ _ rfl)
  next => exact h

/-! ### SAFE -/

theorem orderly_toSafe {s₀ s : State} (h : Orderly s₀ s) (t : Stage) (asc : Bool) (code reaction : Nat) :
    Orderly s₀ (s.toSafe t asc code reaction) := by
  unfold State.toSafe
  refine orderly_ite (h.of_modes (by simp)) (orderly_leaveActive ?_ t)
  exact (orderly_enter (h.of_modes (by simp)) (.inl rfl) code reaction).of_modes (modes_slotsManual ..)

theorem module_of_orderly_safe {s u : State} (h : Orderly s u) (hs : s.module = .safe) : u.module = .safe :=
  (h.rests (by simp [serves, hs])).1.trans hs

theorem st_dropD_of_safe {s : State} {x : Stage} (hx : s.st x = .safe) : s.dropD.st x = .safe := by
  unfold State.dropD
  split
  next hD =>
    have hne : Stage.D ≠ x := by
      rintro rfl
      exact ne_safe_of_isActive hD hx
    have hoff : ((s.outputAllOff .D).unlatchLegs .D).modes = s.modes := by simp
    rw [st_of_modes (modes_stageEnds ..), st_of_modes (modes_releaseLatches ..), (st_enter ..).2 x hne, st_of_modes hoff, hx]
  next => exact hx

theorem st_leaveActive_of_safe {s : State} {x : Stage} (hx : s.st x = .safe) (t : Stage) : (s.leaveActive t).st x = .safe := by
  have hends : (s.stageEnds t).st x = .safe := by rwa [st_of_modes (modes_stageEnds ..)]
  unfold State.leaveActive
  split
  · exact st_dropD_of_safe hends
  · exact hends

/-- `toSafe` sets the safe output, and enters SAFE unless the stage is there. -/
theorem toSafe_eq (s : State) (t : Stage) (asc : Bool) (code reaction : Nat) : ∃ u, u.modes = s.modes ∧
    s.toSafe t asc code reaction = if u.st t == .safe then u else ((u.enter t .safe code reaction).slotsManual t).leaveActive t := by
  refine ⟨_, ?_, rfl⟩
  simp

/-- `toSafe` leaves its stage in SAFE, and every stage that was there. -/
theorem st_toSafe (s : State) {t x : Stage} (hx : t = x ∨ s.st x = .safe) (asc : Bool) (code reaction : Nat) :
    (s.toSafe t asc code reaction).st x = .safe := by
  obtain ⟨u, hu, htoSafe⟩ := toSafe_eq s t asc code reaction
  rw [← st_of_modes hu] at hx
  rw [htoSafe]
  split
  next hsafe =>
    obtain rfl | hx := hx
    · exact beq_iff_eq.1 hsafe
    · exact hx
  next =>
    refine st_leaveActive_of_safe ?_ t
    rw [st_of_modes (modes_slotsManual ..)]
    by_cases htx : t = x
    · subst htx
      exact (st_enter ..).1
    · rw [(st_enter ..).2 x htx]
      exact hx.resolve_left htx

/-- `toSafe` on every stage that is not in SAFE. -/
theorem st_each_toSafe {k : State → Stage → State} (hk : ∀ s t, ∃ asc code reaction, k s t = s.toSafe t asc code reaction) (l : List Stage)
    {s : State} {x : Stage} (hx : x ∈ l ∨ s.st x = .safe) : (s.each l k).st x = .safe := by
  have hstep {s : State} {t : Stage} (hx : t = x ∨ s.st x = .safe) : (k s t).st x = .safe := by
    obtain ⟨asc, code, reaction, h⟩ := hk s t
    exact h ▸ st_toSafe s hx asc code reaction
  induction l generalizing s with
  | nil => exact hx.resolve_left List.not_mem_nil
  | cons t l ih =>
    rw [each_cons]
    obtain hmem | hsafe := hx
    · obtain rfl | hmem := List.mem_cons.1 hmem
      · exact ih (.inr (hstep (.inl rfl)))
      · exact ih (.inl hmem)
    · exact ih (.inr (hstep (.inr hsafe)))

theorem moduleToSafe_of_serves {s : State} (hs : s.serves) (code : Nat) : (s.moduleToSafe code).module = .safe := by
  unfold State.moduleToSafe
  obtain hm | hm | hm := hs <;> simp only [hm]

theorem moduleToSafe_of_not_serves {s : State} (hs : ¬ s.serves) (code : Nat) : s.moduleToSafe code = s := by
  unfold State.moduleToSafe
  split <;> simp_all [serves]

/-- The module's entry to SAFE is orderly with an entry of every stage. -/
theorem orderly_allToSafe {s₀ s u : State} (h : Orderly s₀ s) {code : Nat} (hu : u.modes = (s.moduleToSafe code).modes) {l : List Stage}
    (hl : ∀ x, x ∈ l ∨ u.st x = .safe) {k : State → Stage → State} (hk : ∀ s t, ∃ asc code reaction, k s t = s.toSafe t asc code reaction) :
    Orderly s₀ (u.each l k) := by
  have heach {s₀ : State} (hu : Orderly s₀ u) : Orderly s₀ (u.each l k) := orderly_each hu _ _ fun s h t _ => by
    obtain ⟨asc, code, reaction, hk⟩ := hk s t
    exact hk ▸ orderly_toSafe h t asc code reaction
  by_cases hs : s.serves
  · have hsafe : u.module = .safe := (module_of_modes hu).trans (moduleToSafe_of_serves hs code)
    exact ⟨fun hna => absurd (serves_of_orderly h hs) hna, fun _ =>
      .inr ⟨module_of_orderly_safe (heach (.refl u)) hsafe, fun x => st_each_toSafe hk l (hl x)⟩⟩
  · exact heach (h.of_modes (hu.trans (congrArg modes (moduleToSafe_of_not_serves hs code))))

/-- MODULE_SAFE takes a module that serves to SAFE with every stage, and moves no other. -/
theorem orderly_moduleSafe {s₀ s : State} (h : Orderly s₀ s) (code reaction : Nat) : Orderly s₀ (s.moduleSafe code reaction) := by
  unfold State.moduleSafe
  refine orderly_dite (fun _ => ?_) fun hne => ?_
  · exact orderly_allToSafe h rfl (fun x => .inl (by cases x <;> decide)) fun s t => ⟨_, _, _, rfl⟩
  · have hs : ¬ s.serves := fun hs => hne (by simp [moduleToSafe_of_serves hs])
    rwa [moduleToSafe_of_not_serves hs]

theorem orderly_latchStages {s₀ s : State} (h : Orderly s₀ s) (code inst : Nat) (l : List Stage) : Orderly s₀ (s.latchStages code inst l) :=
  h.of_modes (modes_latchStages ..)

/-! ### Reactions -/

theorem orderly_react {s₀ s : State} (h : Orderly s₀ s) (t : Stage) (reaction code inst : Nat) (momentary : Bool) :
    Orderly s₀ (s.react t reaction code inst momentary) := by
  unfold State.react
  refine orderly_ite (h.of_modes (by simp)) ?_
  refine orderly_ite (orderly_holdBy h ..) ?_
  refine orderly_ite (orderly_beginStop h ..) ?_
  refine orderly_ite (orderly_latchStages (orderly_toSafe h ..) ..) ?_
  refine orderly_ite (orderly_latchStages (orderly_toSafe h ..) ..) ?_
  refine orderly_ite (orderly_latchStages (orderly_each h _ _ fun _ h _ _ => orderly_toSafe h ..) ..) ?_
  refine orderly_ite ?_ h
  exact orderly_ite (orderly_latchStages (orderly_moduleSafe h ..) ..) (orderly_moduleSafe h ..)

theorem orderly_overtake {s₀ s : State} (h : Orderly s₀ s) (t : Stage) (rank code reaction : Nat) :
    Orderly s₀ (s.overtake t rank code reaction) := by
  unfold State.overtake
  dsimp only
  have hderates : (s.when (1 < reaction) fun s' =>
      s'.setStg t { s.stg t with derates := (s.stg t).derates.filter fun d => d.since != s'.loopNo }).modes = s.modes := by
    simp [State.when, state_stg]
  generalize s.when _ _ = u at hderates ⊢
  have hu := h.of_modes hderates
  refine orderly_dite (fun hhold => ?_) fun _ => orderly_ite (hu.of_modes (modes_setStg _ _ _ rfl)) ?_
  · simp only [Bool.and_eq_true, beq_iff_eq] at hhold
    have hactive : (s.st t).isActive = true := by
      rw [State.st, hhold.2]
      rfl
    have hclear : (u.setStg t { u.stg t with holds := [] }).modes = s.modes := by
      simp [state_stg, hderates]
    exact orderly_enter (h.of_modes hclear) (MayEnter.of_modes (.inr (.inl hactive)) hclear) ..
  · exact orderly_ite (hu.of_modes (by simp)) hu

theorem orderly_carryOut {s₀ s : State} (h : Orderly s₀ s) (t : Stage) (reaction code inst : Nat) (momentary : Bool) :
    Orderly s₀ (s.carryOut t reaction code inst momentary) :=
  orderly_ite h (orderly_react ((orderly_overtake h ..).of_modes (modes_setRank ..)) ..)

end Sys2Proof.Machine.State

end

-- ==== The operations of the units are orderly ====
section
/-!
One rule per operation that can change the state of a stage through a reaction, a condition that clears or a command.
-/

namespace Sys2Proof.Machine.State
open Sys2Proof Sys2Proof.Machine

theorem orderly_done {s₀ w u : State} (h : Orderly s₀ w) (hd : Machine.done w = .next u) : Orderly s₀ u :=
  Host.Outcome.next.inj hd ▸ h.of_modes (by simp)

theorem orderly_setF {s₀ s : State} (h : Orderly s₀ s) (f : Fld) (n : Nat) (v : Int) (j : Nat) : Orderly s₀ (s.setF f n v j) :=
  h.of_modes (modes_setF ..)

theorem orderly_setFb {s₀ s : State} (h : Orderly s₀ s) (f : Fld) (n : Nat) (b : Bool) (j : Nat) : Orderly s₀ (s.setFb f n b j) :=
  h.of_modes (modes_setFb ..)

theorem orderly_addF {s₀ s : State} (h : Orderly s₀ s) (f : Fld) (n d j : Nat) : Orderly s₀ (s.addF f n d j) :=
  h.of_modes (modes_addF ..)

theorem orderly_wrapF {s₀ s : State} (h : Orderly s₀ s) (f : Fld) (n d j : Nat) : Orderly s₀ (s.wrapF f n d j) :=
  h.of_modes (modes_wrapF ..)

theorem orderly_setV {s₀ s : State} (h : Orderly s₀ s) (x : Var) (i : Nat) (v : Int) : Orderly s₀ (s.setV x i v) :=
  h.of_modes (modes_setV ..)

theorem orderly_setOn {s₀ s : State} (h : Orderly s₀ s) (x : Var) (i : Nat) (b : Bool) : Orderly s₀ (s.setOn x i b) :=
  h.of_modes (modes_setOn ..)

theorem orderly_addV {s₀ s : State} (h : Orderly s₀ s) (x : Var) (i : Nat) (d : Int) : Orderly s₀ (s.addV x i d) :=
  h.of_modes (modes_addV ..)

theorem orderly_setDue {s₀ s : State} (h : Orderly s₀ s) (t : Timer) (i : Nat) (e : Option Nat) : Orderly s₀ (s.setDue t i e) :=
  h.of_modes (modes_setDue ..)

theorem orderly_close {s₀ s : State} (h : Orderly s₀ s) (t : Timer) (i : Nat) : Orderly s₀ (s.close t i) :=
  h.of_modes (modes_close ..)

theorem orderly_openSlow {s₀ s : State} (h : Orderly s₀ s) (t : Timer) (i len : Nat) : Orderly s₀ (s.openSlow t i len) :=
  h.of_modes (modes_openSlow ..)

theorem orderly_openLoop {s₀ s : State} (h : Orderly s₀ s) (t : Timer) (i len : Nat) : Orderly s₀ (s.openLoop t i len) :=
  h.of_modes (modes_openLoop ..)

theorem orderly_report {s₀ s : State} (h : Orderly s₀ s) (a : RepArg) : Orderly s₀ (s.report a) :=
  h.of_modes (modes_report ..)

theorem orderly_fillCheck {s₀ s : State} (h : Orderly s₀ s) : Orderly s₀ s.fillCheck :=
  h.of_modes (modes_fillCheck ..)

theorem orderly_updCause {s₀ s : State} (h : Orderly s₀ s) (code inst : Nat) (k : Cause → Cause) : Orderly s₀ (s.updCause code inst k) :=
  h.of_modes (modes_updCause ..)

theorem orderly_note {s₀ s : State} (h : Orderly s₀ s) (code d0 : Nat) (d1 d2 : Nat) : Orderly s₀ (s.note code d0 d1 d2) :=
  h.of_modes (modes_note ..)

theorem orderly_limited {s₀ s : State} (h : Orderly s₀ s) (r : Req) (summary : Bool) (k : State → State)
    (hk : ∀ s : State, Orderly s₀ s → Orderly s₀ (k s)) : Orderly s₀ (s.limited r summary k) := by
  simp only [State.limited]
  split
  · split
    · exact h.of_modes (by simp)
    · exact h.of_modes (by simp)
    · exact h
  · exact hk _ (h.of_modes (modes_congr rfl rfl))

theorem orderly_sendOn {s₀ s : State} (h : Orderly s₀ s) (p : Nat) (f : Frame) (bad : Bool) : Orderly s₀ (s.sendOn p f bad) :=
  h.of_modes (modes_sendOn ..)

theorem orderly_sendReply {s₀ s : State} (h : Orderly s₀ s) (r : Req) (rep : Reply) : Orderly s₀ (s.sendReply r rep) :=
  h.of_modes (modes_sendReply ..)

theorem orderly_answer {s₀ s : State} (h : Orderly s₀ s) (r : Req) (service status : Nat) (payload : List Byte) :
    Orderly s₀ (s.answer r service status payload) :=
  h.of_modes (modes_answer ..)

theorem orderly_countResult {s₀ s : State} (h : Orderly s₀ s) (r : Res) : Orderly s₀ (s.countResult r) :=
  h.of_modes (modes_countResult ..)

theorem orderly_answerCmd {s₀ s : State} (h : Orderly s₀ s) (r : Req) (c : Cmd) (x : Res) (data : List Byte) :
    Orderly s₀ (s.answerCmd r c x data) :=
  h.of_modes (modes_answerCmd ..)

theorem orderly_refuseAll {s₀ s : State} (h : Orderly s₀ s) (r : Req) (c : Svc) (code : Nat) : Orderly s₀ (s.refuseAll r c code) :=
  h.of_modes (modes_refuseAll ..)

theorem orderly_verify {s₀ s : State} (h : Orderly s₀ s) (r : Req) (c : Svc) : Orderly s₀ (s.verify r c).2.2 :=
  h.of_modes (modes_verify ..)

theorem orderly_hostTake {s₀ s : State} (h : Orderly s₀ s) (who : Requester) (ch : Nat) : Orderly s₀ (s.hostTake who ch).2 :=
  h.of_modes (modes_hostTake ..)

theorem orderly_chgSync {s₀ s : State} (h : Orderly s₀ s) : Orderly s₀ s.chgSync :=
  h.of_modes (modes_chgSync ..)

theorem orderly_fbMove {s₀ s : State} (h : Orderly s₀ s) (n c : Nat) (d : Int) : Orderly s₀ (s.fbMove n c d) :=
  h.of_modes (modes_fbMove ..)

theorem orderly_noteAt {s₀ s : State} (h : Orderly s₀ s) (code : Nat) (t : Stage) (d0 d1 d2 : Nat) :
    Orderly s₀ (s.noteAt code t d0 d1 d2) :=
  h.of_modes (modes_noteAt ..)

theorem orderly_regHistory {s₀ s : State} (h : Orderly s₀ s) (c : Int) : Orderly s₀ (s.regHistory c) :=
  h.of_modes (modes_regHistory ..)

theorem orderly_snapFrom {s₀ s : State} (h : Orderly s₀ s) : Orderly s₀ s.snapFrom :=
  h.of_modes (modes_snapFrom ..)

theorem orderly_linkSnap {s₀ s : State} (h : Orderly s₀ s) (k detail : Nat) : Orderly s₀ (s.linkSnap k detail) :=
  h.of_modes (modes_linkSnap ..)

theorem orderly_regLeft {s₀ s : State} (h : Orderly s₀ s) (st code : Nat) : Orderly s₀ (s.regLeft st code) :=
  h.of_modes (modes_regLeft ..)

theorem orderly_endCommands {s₀ s : State} (h : Orderly s₀ s) (n : Nat) : Orderly s₀ (s.endCommands n) :=
  h.of_modes (modes_endCommands ..)

theorem orderly_brakeSync {s₀ s : State} (h : Orderly s₀ s) : Orderly s₀ s.brakeSync :=
  h.of_modes (modes_brakeSync ..)

theorem orderly_actStop {s₀ s : State} (h : Orderly s₀ s) (a : Nat) : Orderly s₀ (s.actStop a) :=
  h.of_modes (modes_actStop ..)

theorem orderly_legOff {s₀ s : State} (h : Orderly s₀ s) (n : Nat) : Orderly s₀ (s.legOff n) :=
  h.of_modes (modes_legOff ..)

theorem orderly_chgSnap {s₀ s : State} (h : Orderly s₀ s) (k before detail : Nat) : Orderly s₀ (s.chgSnap k before detail) :=
  h.of_modes (modes_chgSnap ..)

theorem orderly_reportAll {s₀ s : State} (h : Orderly s₀ s) (fs : List FaultEvt) : Orderly s₀ (s.reportAll fs) :=
  h.of_modes (modes_reportAll ..)

theorem orderly_openHold {s₀ s : State} (h : Orderly s₀ s) (t : Stage) : Orderly s₀ (s.openHold t) :=
  h.of_modes (modes_openHold ..)

theorem orderly_setRank {s₀ s : State} (h : Orderly s₀ s) (t : Stage) (rank reaction : Nat) : Orderly s₀ (s.setRank t rank reaction) :=
  h.of_modes (modes_setRank ..)

theorem orderly_fbDir {s₀ s : State} (h : Orderly s₀ s) (n c : Nat) (edge : Bool) : Orderly s₀ (s.fbDir n c edge) :=
  h.of_modes (modes_fbDir ..)

theorem orderly_winFirst {s₀ s : State} (h : Orderly s₀ s) (n c : Nat) : Orderly s₀ (s.winFirst n c) :=
  h.of_modes (modes_winFirst ..)

theorem orderly_filterFrom {s₀ s : State} (h : Orderly s₀ s) (tm : Timer) (i n c : Nat) : Orderly s₀ (s.filterFrom tm i n c) :=
  h.of_modes (modes_filterFrom ..)

theorem orderly_lapseAt {s₀ s : State} (h : Orderly s₀ s) (clk at' : Nat) (t : Timer) (i : Nat) : Orderly s₀ (s.lapseAt clk at' t i) :=
  h.of_modes (modes_lapseAt ..)

theorem orderly_accTake {s₀ s : State} (h : Orderly s₀ s) (c v : Nat) : Orderly s₀ (s.accTake c v) :=
  h.of_modes (modes_accTake ..)

theorem orderly_cmpTake {s₀ s : State} (h : Orderly s₀ s) (c m : Nat) : Orderly s₀ (s.cmpTake c m) :=
  h.of_modes (modes_cmpTake ..)

theorem orderly_putWord {s₀ s : State} (h : Orderly s₀ s) (key v : Nat) : Orderly s₀ (s.putWord key v) :=
  h.of_modes (modes_putWord ..)

theorem orderly_cursorAdvance {s₀ s : State} (h : Orderly s₀ s) : Orderly s₀ s.cursorAdvance :=
  h.of_modes (modes_cursorAdvance ..)

theorem orderly_spWindow {s₀ s : State} (h : Orderly s₀ s) (n : Nat) : Orderly s₀ (s.spWindow n) :=
  h.of_modes (modes_spWindow ..)

theorem orderly_writeLeg {s₀ s : State} (h : Orderly s₀ s) (w : WordDef) (n key : Nat) (v : Word) : Orderly s₀ (s.writeLeg w n key v).2 :=
  h.of_modes (modes_writeLeg ..)

theorem orderly_budgetShow {s₀ s : State} (h : Orderly s₀ s) : Orderly s₀ s.budgetShow :=
  h.of_modes (modes_budgetShow ..)

theorem orderly_writePeriod {s₀ s u : State} (h : Orderly s₀ s) {t : Stage} {v : Nat} (hu : s.writePeriod t v = some u) : Orderly s₀ u :=
  h.of_modes (modes_writePeriod hu)

theorem orderly_cmpArm {s₀ s : State} (h : Orderly s₀ s) (a c : Nat) : Orderly s₀ (s.cmpArm a c) :=
  h.of_modes (modes_cmpArm ..)

theorem orderly_cmpDisarm {s₀ s : State} (h : Orderly s₀ s) (a c : Nat) : Orderly s₀ (s.cmpDisarm a c) :=
  h.of_modes (modes_cmpDisarm ..)

theorem orderly_brakeCmd {s₀ s : State} (h : Orderly s₀ s) (v : Nat) : Orderly s₀ (s.brakeCmd v) :=
  h.of_modes (modes_brakeCmd ..)

theorem orderly_closeRefused {s₀ s : State} (h : Orderly s₀ s) : Orderly s₀ s.closeRefused :=
  h.of_modes (modes_closeRefused ..)

theorem orderly_writeAck {s₀ s : State} (h : Orderly s₀ s) (who : Option Requester) (ch v : Nat) : Orderly s₀ (s.writeAck who ch v).2 :=
  h.of_modes (modes_writeAck ..)

theorem orderly_writeRequest {s₀ s : State} (h : Orderly s₀ s) (v : Nat) : Orderly s₀ (s.writeRequest v).2 :=
  h.of_modes (modes_writeRequest ..)

theorem orderly_closeLoopCmd {s₀ s : State} (h : Orderly s₀ s) (n : Nat) : Orderly s₀ (s.closeLoopCmd n).2 :=
  h.of_modes (modes_closeLoopCmd ..)

theorem orderly_switchBackCmd {s₀ s : State} (h : Orderly s₀ s) : Orderly s₀ (s.switchBackCmd).2 :=
  h.of_modes (modes_switchBackCmd ..)

theorem orderly_clearLogCmd {s₀ s : State} (h : Orderly s₀ s) : Orderly s₀ (s.clearLogCmd).2.2 :=
  h.of_modes (modes_clearLogCmd ..)

theorem orderly_noteEnds {s₀ s : State} (h : Orderly s₀ s) (code inst : Nat) : Orderly s₀ (s.noteEnds code inst) :=
  h.of_modes (modes_noteEnds ..)

theorem orderly_busRecoverCmd {s₀ s : State} (h : Orderly s₀ s) (ch : Nat) : Orderly s₀ (s.busRecoverCmd ch).2 :=
  h.of_modes (modes_busRecoverCmd ..)

theorem orderly_chgFinish {s₀ s : State} (h : Orderly s₀ s) (cause : Nat) : Orderly s₀ (s.chgFinish cause) :=
  h.of_modes (modes_chgFinish ..)

theorem orderly_noteLastingAt {s₀ s : State} (h : Orderly s₀ s) (code : Nat) (t : Stage) : Orderly s₀ (s.noteLastingAt code t) :=
  h.of_modes (modes_noteLastingAt ..)

theorem orderly_timed {s₀ s : State} (h : Orderly s₀ s) (t : Timer) (i : Nat) (cond : Bool) (len : Nat) :
    Orderly s₀ (s.timed t i cond len) :=
  h.of_modes (modes_timed ..)

theorem orderly_chargeStep {s₀ s : State} (h : Orderly s₀ s) (stop : Bool) : Orderly s₀ (s.chargeStep stop) :=
  h.of_modes (modes_chargeStep ..)

theorem orderly_brakeTestCmd {s₀ s : State} (h : Orderly s₀ s) (k : Nat) : Orderly s₀ (s.brakeTestCmd k).2 :=
  h.of_modes (modes_brakeTestCmd ..)

theorem orderly_restartCmd {s₀ s : State} (h : Orderly s₀ s) : Orderly s₀ (s.restartCmd).2 :=
  h.of_modes (modes_restartCmd ..)

theorem orderly_noteLasting {s₀ s : State} (h : Orderly s₀ s) (code inst : Nat) (d0 d1 d2 : Nat) :
    Orderly s₀ (s.noteLasting code inst d0 d1 d2) :=
  h.of_modes (modes_noteLasting ..)

theorem orderly_keyWriteCmd {s₀ s : State} (h : Orderly s₀ s) (generation crc : Nat) : Orderly s₀ (s.keyWriteCmd generation crc).2 :=
  h.of_modes (modes_keyWriteCmd ..)

theorem orderly_setPort {s₀ s : State} (h : Orderly s₀ s) (p st : Nat) : Orderly s₀ (s.setPort p st) :=
  h.of_modes (modes_setPort ..)

theorem orderly_supplyOn {s₀ s : State} (h : Orderly s₀ s) (g : Nat) : Orderly s₀ (s.supplyOn g) :=
  h.of_modes (modes_supplyOn ..)

theorem orderly_safeBit {s₀ s : State} (h : Orderly s₀ s) (f : Fld) (g : Nat) (b : Bool) : Orderly s₀ (s.safeBit f g b) :=
  h.of_modes (modes_safeBit ..)

theorem orderly_chgBegin {s₀ s : State} (h : Orderly s₀ s) : Orderly s₀ s.chgBegin :=
  h.of_modes (modes_chgBegin ..)

theorem orderly_fbValid {s₀ s : State} (h : Orderly s₀ s) (n : Nat) : Orderly s₀ (s.fbValid n) :=
  h.of_modes (modes_fbValid ..)

theorem orderly_seqReady {s₀ s : State} (h : Orderly s₀ s) (c e a : Nat) : Orderly s₀ (s.seqReady c e a) :=
  h.of_modes (modes_seqReady ..)

theorem orderly_lapse {s₀ s : State} (h : Orderly s₀ s) (clk : Nat) (t : Timer) (i : Nat) : Orderly s₀ (s.lapse clk t i) :=
  h.of_modes (modes_lapse ..)

theorem orderly_setMaster {s₀ s : State} (h : Orderly s₀ s) (uid : Nat) : Orderly s₀ (s.setMaster uid) :=
  h.of_modes (modes_setMaster ..)

theorem orderly_awaitBus {s₀ s : State} (h : Orderly s₀ s) : Orderly s₀ s.awaitBus :=
  h.of_modes (modes_awaitBus ..)

theorem orderly_holdBus {s₀ s : State} (h : Orderly s₀ s) (beats : Nat) : Orderly s₀ (s.holdBus beats) :=
  h.of_modes (modes_holdBus ..)

theorem orderly_scrubGranted {s₀ s : State} (h : Orderly s₀ s) (r : BusReq) : Orderly s₀ (s.scrubGranted r) :=
  h.of_modes (modes_scrubGranted ..)

theorem orderly_slotEvent {s₀ s : State} (h : Orderly s₀ s) (t : Stage) (middle : Bool) (v : Nat) : Orderly s₀ (s.slotEvent t middle v) :=
  h.of_modes (modes_slotEvent ..)

theorem orderly_snapTake {s₀ s : State} (h : Orderly s₀ s) (n v : Nat) : Orderly s₀ (s.snapTake n v) :=
  h.of_modes (modes_snapTake ..)

theorem orderly_ssiStart {s₀ s : State} (h : Orderly s₀ s) (n : Nat) : Orderly s₀ (s.ssiStart n) :=
  h.of_modes (modes_ssiStart ..)

theorem orderly_seqConverted {s₀ s : State} (h : Orderly s₀ s) (c a : Nat) : Orderly s₀ (s.seqConverted c a) :=
  h.of_modes (modes_seqConverted ..)

theorem orderly_regEvent {s₀ s : State} (h : Orderly s₀ s) (middle : Bool) (at' : Nat) : Orderly s₀ (s.regEvent middle at') :=
  h.of_modes (modes_regEvent ..)

theorem orderly_eachSource {s₀ s : State} (h : Orderly s₀ s) (k : State → Nat → State × List FaultEvt)
    (hk : ∀ s : State, Orderly s₀ s → ∀ n, Orderly s₀ (k s n).1) : Orderly s₀ (s.eachSource k).1 :=
  orderly_foldl_fst (p := (s, [])) h (fun a n => ((k a.1 n).1, a.2 ++ (k a.1 n).2)) _ fun p h n _ => hk p.1 h n

theorem orderly_snapRenew {s₀ s : State} (h : Orderly s₀ s) (n : Nat) : Orderly s₀ (s.snapRenew n) :=
  h.of_modes (modes_snapRenew ..)

theorem orderly_slotCommit {s₀ s : State} (h : Orderly s₀ s) (r : Run) : Orderly s₀ (s.slotCommit r) :=
  h.of_modes (modes_slotCommit ..)

theorem orderly_slotMirror {s₀ s : State} (h : Orderly s₀ s) (r : Run) (outs : List Int) : Orderly s₀ (s.slotMirror r outs) :=
  h.of_modes (modes_slotMirror ..)

theorem orderly_slotFlags {s₀ s : State} (h : Orderly s₀ s) (r : Run) : Orderly s₀ (s.slotFlags r) :=
  h.of_modes (modes_slotFlags ..)

theorem orderly_absence {s₀ s : State} (h : Orderly s₀ s) (k code inst : Nat) (cond : Bool) : Orderly s₀ (s.absence k code inst cond) :=
  h.of_modes (modes_absence ..)

theorem orderly_ppTo {s₀ s : State} (h : Orderly s₀ s) (st : Nat) : Orderly s₀ (s.ppTo st) :=
  h.of_modes (modes_ppTo ..)

theorem orderly_takeOver {s₀ s : State} (h : Orderly s₀ s) : Orderly s₀ s.takeOver :=
  h.of_modes (modes_takeOver ..)

theorem orderly_actMove {s₀ s : State} (h : Orderly s₀ s) (a n : Nat) : Orderly s₀ (s.actMove a n) :=
  h.of_modes (modes_actMove ..)

theorem orderly_actBlock {s₀ s : State} (h : Orderly s₀ s) (a : Nat) (pos : Int) (clamped : Bool) : Orderly s₀ (s.actBlock a pos clamped) :=
  h.of_modes (modes_actBlock ..)

theorem orderly_periodTag {s₀ s : State} (h : Orderly s₀ s) (t : Stage) : Orderly s₀ (s.periodTag t).2 :=
  h.of_modes (modes_periodTag ..)

theorem orderly_registerTrip {s₀ s : State} (h : Orderly s₀ s) (n : Nat) : Orderly s₀ (s.registerTrip n) :=
  h.of_modes (modes_registerTrip ..)

theorem orderly_cmdPath {s₀ s : State} (h : Orderly s₀ s) (c : Nat) (ok : Bool) : Orderly s₀ (s.cmdPath c ok) :=
  h.of_modes (modes_cmdPath ..)

theorem orderly_gateReadback {s₀ s : State} (h : Orderly s₀ s) (c : Nat) (gate : GateSeen) : Orderly s₀ (s.gateReadback c gate) :=
  h.of_modes (modes_gateReadback ..)

theorem orderly_snapsDue {s₀ s : State} (h : Orderly s₀ s) : Orderly s₀ s.snapsDue :=
  h.of_modes (modes_snapsDue ..)

theorem orderly_regMeas {s₀ s : State} (h : Orderly s₀ s) (sp u' ub : Int) : Orderly s₀ (s.regMeas sp u' ub) :=
  h.of_modes (modes_regMeas ..)

theorem orderly_regState {s₀ s : State} (h : Orderly s₀ s) (st n : Nat) : Orderly s₀ (s.regState st n) :=
  h.of_modes (modes_regState ..)

theorem orderly_regStopped {s₀ s : State} (h : Orderly s₀ s) : Orderly s₀ s.regStopped :=
  h.of_modes (modes_regStopped ..)

theorem orderly_regMode {s₀ s : State} (h : Orderly s₀ s) (mode : Nat) : Orderly s₀ (s.regMode mode) :=
  h.of_modes (modes_regMode ..)

theorem orderly_softStart {s₀ s : State} (h : Orderly s₀ s) : Orderly s₀ s.softStart :=
  h.of_modes (modes_softStart ..)

theorem orderly_linkNote {s₀ s : State} (h : Orderly s₀ s) (code d0 : Nat) : Orderly s₀ (s.linkNote code d0) :=
  h.of_modes (modes_linkNote ..)

theorem orderly_softEnd {s₀ s : State} (h : Orderly s₀ s) : Orderly s₀ s.softEnd :=
  h.of_modes (modes_softEnd ..)

theorem orderly_softDone {s₀ s : State} (h : Orderly s₀ s) (code : Nat) : Orderly s₀ (s.softDone code) :=
  h.of_modes (modes_softDone ..)

theorem orderly_regEnter {s₀ s : State} (h : Orderly s₀ s) (st : Nat) : Orderly s₀ (s.regEnter st) :=
  h.of_modes (modes_regEnter ..)

theorem orderly_burstStep {s₀ s : State} (h : Orderly s₀ s) (sp u' : Int) : Orderly s₀ (s.burstStep sp u') :=
  h.of_modes (modes_burstStep ..)

theorem orderly_regShed {s₀ s : State} (h : Orderly s₀ s) (n : Nat) : Orderly s₀ (s.regShed n) :=
  h.of_modes (modes_regShed ..)

theorem orderly_regAct {s₀ s : State} (h : Orderly s₀ s) (step : RegStep) (was : Nat) (sp u' ub : Int) (tu : Nat) :
    Orderly s₀ (s.regAct step was sp u' ub tu) :=
  h.of_modes (modes_regAct ..)

theorem orderly_pTaken {s₀ s : State} (h : Orderly s₀ s) : Orderly s₀ s.pTaken :=
  h.of_modes (modes_pTaken ..)

theorem orderly_shedConds {s₀ s : State} (h : Orderly s₀ s) (u' ub : Int) : Orderly s₀ (s.shedConds u' ub) :=
  h.of_modes (modes_shedConds ..)

theorem orderly_vregUpdate {s₀ s : State} (h : Orderly s₀ s) : Orderly s₀ s.vregUpdate :=
  h.of_modes (modes_vregUpdate ..)

theorem orderly_openOnFault {s₀ s : State} (h : Orderly s₀ s) : Orderly s₀ s.openOnFault :=
  h.of_modes (modes_openOnFault ..)

theorem orderly_handFails {s₀ s : State} (h : Orderly s₀ s) : Orderly s₀ s.handFails :=
  h.of_modes (modes_handFails ..)

theorem orderly_startRound {s₀ s : State} (h : Orderly s₀ s) : Orderly s₀ s.startRound :=
  h.of_modes (modes_startRound ..)

theorem orderly_topology {s₀ s : State} (h : Orderly s₀ s) (p change : Nat) (wasUp : Bool) : Orderly s₀ (s.topology p change wasUp) :=
  h.of_modes (modes_topology ..)

theorem orderly_portCheck {s₀ s : State} (h : Orderly s₀ s) (p : Nat) (f : Frame) : Orderly s₀ (s.portCheck p f).2 :=
  h.of_modes (modes_portCheck ..)

theorem orderly_rootHeard {s₀ s : State} (h : Orderly s₀ s) : Orderly s₀ s.rootHeard :=
  h.of_modes (modes_rootHeard ..)

theorem orderly_setUpstream {s₀ s : State} (h : Orderly s₀ s) (p : Nat) : Orderly s₀ (s.setUpstream p) :=
  h.of_modes (modes_setUpstream ..)

theorem orderly_forwardWaggle {s₀ s : State} (h : Orderly s₀ s) (p : Nat) (f : Frame) : Orderly s₀ (s.forwardWaggle p f) :=
  h.of_modes (modes_forwardWaggle ..)

theorem orderly_classified {s₀ s : State} (h : Orderly s₀ s) (b : Bool) (src kind seq port k : Nat) :
    Orderly s₀ (if b then s.classify src kind seq port else (k, s)).2 :=
  h.of_modes (modes_classified ..)

theorem orderly_forward {s₀ s : State} (h : Orderly s₀ s) (p : Nat) (f : Frame) (ports : List Nat) (k : Nat → List Byte) :
    Orderly s₀ (s.forward p f ports k) :=
  h.of_modes (modes_forward ..)

theorem orderly_refuseSelf {s₀ s : State} (h : Orderly s₀ s) (addr reason : Nat) : Orderly s₀ (s.refuseSelf addr reason) :=
  h.of_modes (modes_refuseSelf ..)

theorem orderly_ringCopy {s₀ s : State} (h : Orderly s₀ s) (p no : Nat) : Orderly s₀ (s.ringCopy p no) :=
  h.of_modes (modes_ringCopy ..)

theorem orderly_sendRefused {s₀ s : State} (h : Orderly s₀ s) (uid addr reason : Nat) : Orderly s₀ (s.sendRefused uid addr reason) :=
  h.of_modes (modes_sendRefused ..)

theorem orderly_sendSync {s₀ s : State} (h : Orderly s₀ s) (leave : List Nat) : Orderly s₀ (s.sendSync leave) :=
  h.of_modes (modes_sendSync ..)

theorem orderly_canQueue {s₀ s : State} (h : Orderly s₀ s) (ch : Nat) (f : CanFrame) (p : CanFilter) : Orderly s₀ (s.canQueue ch f p) :=
  h.of_modes (modes_canQueue ..)

theorem orderly_refRises {s₀ s : State} (h : Orderly s₀ s) (n : Nat) :
    Orderly s₀ (s.refRises n) :=
  orderly_clearCause (orderly_each (h.of_modes (by simp)) _ _ fun _ h _ _ => orderly_clearCause h ..) ..

theorem orderly_indexStep {s₀ s : State} (h : Orderly s₀ s) (n : Nat) :
    Orderly s₀ (s.indexStep n).1 := by
  unfold State.indexStep
  refine orderly_ite_fst (h.of_modes (by simp)) ?_
  refine orderly_ite_fst h ?_
  refine orderly_ite_fst ?_ ?_
  · exact orderly_setV (orderly_refRises (h.of_modes (by simp)) ..) ..
  · refine orderly_ite_fst ?_ ?_
    · exact h.of_modes (by simp)
    · exact h.of_modes (by simp)

theorem orderly_unblock {s₀ s : State} (h : Orderly s₀ s) (a : Nat) (pos : Int) :
    Orderly s₀ (s.unblock a pos) :=
  orderly_ite (orderly_clearCause (h.of_modes (by simp)) ..) h

theorem orderly_carryAll {s₀ s : State} (h : Orderly s₀ s) (fs : List FaultEvt) :
    Orderly s₀ (s.carryAll fs) := by
  unfold State.carryAll
  refine orderly_settle ?_
  refine orderly_each ?_ _ _ fun _ h _ _ => orderly_carryOut h ..
  refine orderly_each h _ _ ?_
  intro _ h _ _
  split
  · exact orderly_carryOut h ..
  · exact h

theorem orderly_raiseAll {s₀ s : State} (h : Orderly s₀ s) (fs : List FaultEvt) :
    Orderly s₀ (s.raiseAll fs) := by
  unfold State.raiseAll
  refine orderly_ite ?_ ?_
  · exact orderly_carryAll (h.of_modes (by simp)) ..
  · exact orderly_carryAll (h.of_modes (by simp)) ..

theorem orderly_raise {s₀ s : State} (h : Orderly s₀ s) (f : FaultEvt) :
    Orderly s₀ (s.raise f) :=
  orderly_raiseAll h ..

theorem orderly_brakeMoved {s₀ s : State} (h : Orderly s₀ s) (n : Nat) (pos : Int) :
    Orderly s₀ (s.brakeMoved n pos) := by
  unfold State.brakeMoved
  refine orderly_each h _ _ ?_
  intro _ h _ _
  refine orderly_ite ?_ (h.of_modes (by simp))
  refine orderly_ite (h.of_modes (by simp)) ?_
  exact orderly_raise (h.of_modes (by simp)) ..

theorem orderly_moved {s₀ s : State} (h : Orderly s₀ s) (n : Nat) (p p' : Int) (at' : Nat) :
    Orderly s₀ (s.moved n p p' at') := by
  unfold State.moved
  refine orderly_ite h ?_
  exact orderly_brakeMoved (orderly_each h _ _ fun _ h _ _ => orderly_unblock (h.of_modes (by simp)) ..) ..

theorem orderly_refFalls {s₀ s : State} (h : Orderly s₀ s) (n : Nat) :
    Orderly s₀ (s.refFalls n) := by
  unfold State.refFalls
  refine orderly_ite ?_ h
  refine orderly_each (h.of_modes (by simp)) _ _ ?_
  intro _ h _ _
  split
  · exact orderly_ite (orderly_raise h ..) h
  · exact h

theorem orderly_fbFault {s₀ s : State} (h : Orderly s₀ s) (code n : Nat) (inst reaction : Nat) (d1 d2 : Nat) (lasting : Bool) :
    Orderly s₀ (s.fbFault code n inst reaction d1 d2 lasting) :=
  orderly_raise h ..

theorem orderly_fbPosition {s₀ s : State} (h : Orderly s₀ s) (code n d1 : Nat) (lasting : Bool) :
    Orderly s₀ (s.fbPosition code n d1 lasting) :=
  orderly_fbFault h ..

theorem orderly_countError {s₀ s : State} (h : Orderly s₀ s) (n : Nat) :
    Orderly s₀ (s.countError n) :=
  orderly_fbPosition (orderly_ite (orderly_refFalls (h.of_modes (by simp)) ..) (h.of_modes (by simp))) ..

theorem orderly_indexCheck {s₀ s : State} (h : Orderly s₀ s) (n : Nat) :
    Orderly s₀ (s.indexCheck n) :=
  orderly_ite (orderly_fbPosition (h.of_modes (by simp)) ..) h

theorem orderly_encoderCycle {s₀ s : State} (h : Orderly s₀ s) (n c old : Nat) :
    Orderly s₀ (s.encoderCycle n c old) := by
  unfold State.encoderCycle
  dsimp only
  refine orderly_indexCheck ?_ ..
  split
  · refine orderly_raise (orderly_ite (orderly_countError ?_ ..) ?_) ..
    all_goals exact orderly_moved (orderly_fbDir (orderly_winFirst (orderly_indexStep (orderly_ite (orderly_fbMove h ..) h) ..) ..) ..) ..
  · refine orderly_ite (orderly_countError ?_ ..) ?_
    all_goals exact orderly_moved (orderly_fbDir (orderly_winFirst (orderly_indexStep (orderly_ite (orderly_fbMove h ..) h) ..) ..) ..) ..

theorem orderly_hallChange {s₀ s : State} (h : Orderly s₀ s) (n c code : Nat) :
    Orderly s₀ (s.hallChange n c code) := by
  unfold State.hallChange
  refine orderly_ite (h.of_modes (by simp)) ?_
  refine orderly_ite ?_ ?_
  · exact orderly_setV (orderly_refRises (h.of_modes (by simp)) ..) ..
  · refine orderly_ite ?_ ?_
    · refine orderly_fbPosition ?_ ..
      refine orderly_addF ?_ ..
      refine orderly_ite ?_ ?_
      · exact orderly_setOn (orderly_setV (orderly_refRises (h.of_modes (by simp)) ..) ..) ..
      · exact orderly_moved (orderly_fbDir (orderly_winFirst (orderly_fbMove (orderly_setOn (orderly_setV (orderly_refRises (h.of_modes
            (by simp)) ..) ..) ..) ..) ..) ..) ..
    · refine orderly_ite ?_ ?_
      · exact orderly_setOn (orderly_setV (orderly_refRises (h.of_modes (by simp)) ..) ..) ..
      · exact orderly_moved (orderly_fbDir (orderly_winFirst (orderly_fbMove (orderly_setOn (orderly_setV (orderly_refRises (h.of_modes
            (by simp)) ..) ..) ..) ..) ..) ..) ..

theorem orderly_hallCycle {s₀ s : State} (h : Orderly s₀ s) (n c : Nat) :
    Orderly s₀ (s.hallCycle n c) := by
  unfold State.hallCycle
  refine orderly_ite ?_ ?_
  · exact orderly_filterFrom (orderly_lapseAt (orderly_ite h (orderly_hallChange h ..)) ..) ..
  · refine orderly_ite ?_ ?_
    · exact orderly_filterFrom (orderly_lapseAt (orderly_ite h (orderly_hallChange h ..)) ..) ..
    · exact orderly_lapseAt (orderly_ite h (orderly_hallChange h ..)) ..

theorem orderly_fbCycle {s₀ s : State} (h : Orderly s₀ s) (n c : Nat) :
    Orderly s₀ (s.fbCycle n c) := by
  unfold State.fbCycle
  dsimp only
  split
  · exact orderly_encoderCycle (h.of_modes (by simp)) ..
  · exact orderly_hallCycle (h.of_modes (by simp)) ..
  · exact h.of_modes (by simp)

theorem orderly_fbCycles {s₀ s : State} (h : Orderly s₀ s) (n v k : Nat) :
    Orderly s₀ (State.fbCycles n v k s) := by
  induction k generalizing s with
  | zero => exact h
  | succ k ih =>
    unfold State.fbCycles
    split
    · exact ih (orderly_fbCycle h ..)
    · exact h

theorem orderly_fbRun {s₀ s : State} (h : Orderly s₀ s) (n v : Nat) :
    Orderly s₀ (s.fbRun n v) :=
  orderly_fbCycles h ..

theorem orderly_fbLive {s₀ s : State} (h : Orderly s₀ s) (n : Nat) : Orderly s₀ (s.fbLive n) :=
  h.of_modes (by unfold State.fbLive; simp)

theorem orderly_live {s₀ s : State} (h : Orderly s₀ s) :
    Orderly s₀ s.live := by
  unfold State.live
  refine orderly_ite ?_ ?_
  · exact orderly_setF (orderly_setF (orderly_setF (orderly_setF (orderly_setFb (orderly_each (orderly_putWord (orderly_each
        (orderly_putWord (orderly_putWord (orderly_putWord (orderly_putWord (orderly_putWord (orderly_putWord (orderly_putWord
        (orderly_putWord (orderly_putWord (orderly_putWord (orderly_putWord (orderly_putWord (orderly_each (orderly_each (orderly_each
        (orderly_each (orderly_each (orderly_each (orderly_each (h.of_modes (by simp)) _ _ fun _ h _ _ => orderly_fbLive h ..) _ _ fun _
        h _ _ => h.of_modes (by simp)) _ _ fun _ h _ _ => h.of_modes (by simp)) _ _ fun _ h _ _ => h.of_modes (by simp)) _ _ fun _ h _ _
        => h.of_modes (by simp)) _ _ fun _ h _ _ => h.of_modes (by simp)) _ _ fun _ h _ _ => h.of_modes (by simp)) ..) ..) ..) ..) ..)
        ..) ..) ..) ..) ..) ..) ..) _ _ fun _ h _ _ => h.of_modes (by simp)) ..) _ _ fun _ h _ _ => h.of_modes (by simp)) ..) ..) ..) ..)
        ..
  · exact orderly_setF (orderly_setF (orderly_setF (orderly_setFb (orderly_each (orderly_putWord (orderly_each (orderly_putWord
        (orderly_putWord (orderly_putWord (orderly_putWord (orderly_putWord (orderly_putWord (orderly_putWord (orderly_putWord
        (orderly_putWord (orderly_putWord (orderly_putWord (orderly_putWord (orderly_each (orderly_each (orderly_each (orderly_each
        (orderly_each (orderly_each (orderly_each (h.of_modes (by simp)) _ _ fun _ h _ _ => orderly_fbLive h ..) _ _ fun _ h _ _ =>
        h.of_modes (by simp)) _ _ fun _ h _ _ => h.of_modes (by simp)) _ _ fun _ h _ _ => h.of_modes (by simp)) _ _ fun _ h _ _ =>
        h.of_modes (by simp)) _ _ fun _ h _ _ => h.of_modes (by simp)) _ _ fun _ h _ _ => h.of_modes (by simp)) ..) ..) ..) ..) ..) ..)
        ..) ..) ..) ..) ..) ..) _ _ fun _ h _ _ => h.of_modes (by simp)) ..) _ _ fun _ h _ _ => h.of_modes (by simp)) ..) ..) ..) ..

theorem orderly_serveRead {s₀ s : State} (h : Orderly s₀ s) (r : Req) (l : List (Nat × Nat)) :
    Orderly s₀ (s.serveRead r l) := by
  unfold State.serveRead
  dsimp only
  split
  · exact orderly_answer (orderly_each (orderly_cursorAdvance (orderly_ite_snd (orderly_hostTake h ..) h)) _ _ fun _ h _ _ =>
        orderly_countResult h ..) ..
  · exact orderly_answer (orderly_each (orderly_ite_snd (orderly_hostTake h ..) h) _ _ fun _ h _ _ => orderly_countResult h ..) ..

theorem orderly_spRestore {s₀ s : State} (h : Orderly s₀ s) (n : Nat) :
    Orderly s₀ (s.spRestore n) :=
  orderly_settle (h.of_modes (by simp))

theorem orderly_spApplied {s₀ s : State} (h : Orderly s₀ s) (n : Nat) :
    Orderly s₀ (s.spApplied n) := by
  unfold State.spApplied
  refine orderly_ite ?_ ?_
  · refine orderly_spRestore ?_ ..
    refine orderly_ite ?_ ?_
    · split
      · exact h.of_modes (by simp)
      · exact h
    · refine orderly_spWindow ?_ ..
      split
      · exact h.of_modes (by simp)
      · exact h
  · refine orderly_ite ?_ ?_
    · split
      · exact h.of_modes (by simp)
      · exact h
    · refine orderly_spWindow ?_ ..
      split
      · exact h.of_modes (by simp)
      · exact h

theorem orderly_writeSetpoint {s₀ s : State} (h : Orderly s₀ s) (n j : Nat) (v : Word) :
    Orderly s₀ (s.writeSetpoint n j v).2 := by
  unfold State.writeSetpoint
  refine orderly_ite_snd h ?_
  refine orderly_ite_snd (h.of_modes (by simp)) ?_
  split
  · exact h.of_modes (by simp)
  · exact orderly_spApplied (h.of_modes (by simp)) ..

theorem orderly_bufControl {s₀ s : State} (h : Orderly s₀ s) (k v : Nat) :
    Orderly s₀ (s.bufControl k v) := by
  unfold State.bufControl
  refine orderly_ite (h.of_modes (by simp)) ?_
  exact orderly_clearCause (h.of_modes (by simp)) ..

theorem orderly_preEval {s₀ s : State} (h : Orderly s₀ s) :
    Orderly s₀ s.preEval := by
  unfold State.preEval
  refine orderly_ite ?_ (h.of_modes (by simp))
  refine orderly_ite h ?_
  exact orderly_clearCause (h.of_modes (by simp)) ..

theorem orderly_preStart {s₀ s : State} (h : Orderly s₀ s) :
    Orderly s₀ s.preStart := by
  unfold State.preStart
  refine orderly_preEval ?_
  refine orderly_ite ?_ ?_
  · exact orderly_note (orderly_clearCause (h.of_modes (by simp only [modes_openSlow, modes_setV, modes_setFb])) ..) ..
  · exact orderly_openSlow (orderly_clearCause (h.of_modes (by simp only [modes_openSlow, modes_setV, modes_setFb])) ..) ..

theorem orderly_cdrCmd {s₀ s : State} (h : Orderly s₀ s) (v : Nat) :
    Orderly s₀ (s.cdrCmd v) := by
  unfold State.cdrCmd
  refine orderly_ite (orderly_preStart (h.of_modes (by simp))) ?_
  exact h.of_modes (by simp)

theorem orderly_applyWord {s₀ s : State} (h : Orderly s₀ s) (c : WriteCtx) (w : WordDef) (n j key : Nat) (v : Word) :
    Orderly s₀ (s.applyWord c w n j key v).2 := by
  unfold State.applyWord
  refine orderly_ite_snd (orderly_writeSetpoint h ..) ?_
  refine orderly_ite_snd (orderly_ite_snd h (orderly_putWord h ..)) ?_
  refine orderly_ite_snd (orderly_ite_snd h (orderly_putWord h ..)) ?_
  refine orderly_ite_snd (orderly_ite_snd (orderly_putWord h ..) h) ?_
  refine orderly_ite_snd (orderly_writeLeg h ..) ?_
  refine orderly_ite_snd ?_ ?_
  · split
    next hw => exact orderly_writePeriod h hw
    · exact h
  refine orderly_ite_snd (orderly_cmpArm (orderly_putWord h ..) ..) ?_
  refine orderly_ite_snd (orderly_cmpDisarm (orderly_putWord h ..) ..) ?_
  refine orderly_ite_snd (orderly_bufControl h ..) ?_
  refine orderly_ite_snd (orderly_ite_snd h (orderly_brakeCmd h ..)) ?_
  refine orderly_ite_snd (orderly_ite_snd (orderly_closeRefused (orderly_preEval h)) (orderly_cdrCmd (orderly_preEval h) ..)) ?_
  refine orderly_ite_snd (orderly_setV (orderly_putWord h ..) ..) ?_
  exact orderly_ite_snd (orderly_writeAck h ..) (orderly_ite_snd (orderly_writeRequest h ..) (orderly_putWord h ..))

theorem orderly_hostWrite1 {s₀ s : State} (h : Orderly s₀ s) (c : WriteCtx) (index sub : Nat) (v : Word) :
    Orderly s₀ (s.hostWrite1 c index sub v).2 := by
  unfold State.hostWrite1
  split
  · split
    · exact h.of_modes (by simp)
    · exact h
  · refine orderly_ite_snd h ?_
    split
    · exact h
    · split
      · exact h
      · refine orderly_ite_snd h ?_
        split
        · exact h
        · exact orderly_applyWord h ..

theorem orderly_hostWrite {s₀ s : State} (h : Orderly s₀ s) (c : WriteCtx) (index sub : Nat) (v : Word) :
    Orderly s₀ (s.hostWrite c index sub v).2 := by
  unfold State.hostWrite
  dsimp only
  have h1 := orderly_hostWrite1 h c index sub v
  exact orderly_ite_snd (orderly_hostWrite1 h1 ..) h1

theorem orderly_writeAll {s₀ s : State} (h : Orderly s₀ s) (c : WriteCtx) (l : List WEntry) :
    Orderly s₀ (s.writeAll c l).2 := by
  induction l generalizing s with
  | nil => exact h
  | cons e l ih => exact ih (orderly_hostWrite h ..)

theorem orderly_serveWrite {s₀ s : State} (h : Orderly s₀ s) (r : Req) (l : List WEntry) (leaving : List Stage) (closing : List Nat) :
    Orderly s₀ (s.serveWrite r l leaving closing) :=
  orderly_answer (orderly_each (orderly_writeAll h ..) _ _ fun _ h _ _ => h.of_modes (by simp)) ..

theorem orderly_maskCmd {s₀ s : State} (h : Orderly s₀ s) (rank mask : Nat) (higher : List Stage) (k : State → Stage → Res × State)
    (hk : ∀ s : State, Orderly s₀ s → ∀ t, Orderly s₀ (k s t).2) :
    Orderly s₀ (s.maskCmd rank mask higher k).2.2 := by
  unfold State.maskCmd
  refine orderly_ite_snd_snd h (orderly_foldl_snd h _ _ fun a h t _ => ?_)
  refine orderly_ite_snd h (orderly_ite_snd h ?_)
  have hd := hk _ (orderly_ite (c := (rank == 4) = true) (orderly_overtake h t 4 0 0) h) t
  exact orderly_ite (orderly_setRank hd ..) hd

theorem orderly_spLost {s₀ s : State} (h : Orderly s₀ s) (n : Nat) :
    Orderly s₀ (s.spLost n) :=
  orderly_ite (orderly_raise (h.of_modes (by simp)) ..) h

theorem orderly_slotsArm {s₀ s : State} (h : Orderly s₀ s) (t : Stage) :
    Orderly s₀ (s.slotsArm t) := by
  unfold State.slotsArm
  refine orderly_each h _ _ ?_
  intro _ h _ _
  refine orderly_ite ?_ ?_
  · exact orderly_spLost (h.of_modes (by simp)) ..
  · exact h.of_modes (by simp)

theorem orderly_armStage {s₀ s : State} (h : Orderly s₀ s) {t : Stage} (hs : s.serves) : Orderly s₀ (s.armStage t) :=
  orderly_setOn (orderly_slotsArm (orderly_enter (h.of_modes (by simp)) (MayEnter.of_modes (.inr (.inr (.inl hs))) (by simp)) ..) ..) ..

theorem serves_of_operable {s : State} (hs : s.operable = true) : s.serves := by
  simp only [State.operable, Bool.and_eq_true, Bool.or_eq_true, beq_iff_eq, or_assoc] at hs
  exact hs.1

theorem orderly_armOne {s₀ s : State} (h : Orderly s₀ s) (t : Stage) : Orderly s₀ (s.armOne t).2 := by
  unfold State.armOne
  split
  · exact h
  next hc =>
    simp only [Bool.or_eq_true, Bool.not_eq_true', not_or, Bool.not_eq_false] at hc
    split
    · exact h
    · exact orderly_ite_snd (orderly_setOn h ..) (orderly_armStage h (serves_of_operable hc.1.2))

theorem orderly_spSourceRuns {s₀ s : State} (h : Orderly s₀ s) (t : Stage) :
    Orderly s₀ (s.spSourceRuns t) :=
  orderly_settle (h.of_modes (by simp))

theorem orderly_runStage {s₀ s : State} (h : Orderly s₀ s) {t : Stage} (hs : s.serves) : Orderly s₀ (s.runStage t) := by
  have hrun : Orderly s₀ ((s.protectStage t).enter t .running 0 0) :=
    orderly_enter (h.of_modes (by simp)) (MayEnter.of_modes (.inr (.inr (.inl hs))) (by simp)) ..
  have hrunning : (((s.protectStage t).enter t .running 0 0).st t).isActive = true := by
    rw [(st_enter ..).1]
    rfl
  have hhold := orderly_ite (c := (((s.protectStage t).enter t .running 0 0).stg t).holds.isEmpty = true) hrun
    (orderly_openHold (orderly_enter hrun (st := .hold) (.inr (.inl hrunning)) 0 0) t)
  exact orderly_brakeSync (orderly_ite (orderly_spSourceRuns hhold t) hhold)

theorem orderly_runOne {s₀ s : State} (h : Orderly s₀ s) (t : Stage) : Orderly s₀ (s.runOne t).2 := by
  unfold State.runOne
  split
  · exact h
  next hc =>
    simp only [Bool.or_eq_true, Bool.not_eq_true', not_or, Bool.not_eq_false] at hc
    split
    · exact h
    · dsimp only
      exact orderly_runStage h (serves_of_operable hc.2)

theorem orderly_stopStage {s₀ s : State} (h : Orderly s₀ s) {t : Stage} (ht : s.st t = .safe → s.module ≠ .safe) :
    Orderly s₀ (s.stopStage t) := by
  have hstop (hmay : MayEnter s₀ s t .stopped) : Orderly s₀ ((s.protectStage t).toStopped t 0 0).settle :=
    orderly_settle (orderly_toStopped (h.of_modes (by simp)) (hmay.of_modes (by simp)) ..)
  unfold State.stopStage
  split
  next harmed => exact hstop (.inr (.inl (by rw [harmed]; rfl)))
  next => exact orderly_beginStop h ..
  next => exact h.of_modes (by simp [state_stg])
  next hsafe => exact hstop (.inr (.inr (.inr ⟨rfl, fun hm => absurd hm (ht hsafe)⟩)))
  next => exact h.of_modes (by simp)

theorem orderly_stopOne {s₀ s : State} (h : Orderly s₀ s) (t : Stage) : Orderly s₀ (s.stopOne t).2 := by
  unfold State.stopOne
  split
  · exact h
  · split
    · split
      · exact h
      next hm =>
        split
        · exact h
        · exact orderly_stopStage h fun _ hsafe => hm (by simp [hsafe])
    next hne => exact orderly_stopStage h fun hsafe => absurd hsafe (by simpa using hne)

theorem orderly_thermalRelease {s₀ s : State} (h : Orderly s₀ s) :
    Orderly s₀ s.thermalRelease := by
  unfold State.thermalRelease
  refine orderly_each h _ _ ?_
  intro _ h _ _
  refine orderly_ite ?_ ?_
  · exact orderly_note (orderly_clearCause (h.of_modes (by simp)) ..) ..
  · exact h

theorem orderly_serviceEnterCmd {s₀ s : State} (h : Orderly s₀ s) (debug : Bool) : Orderly s₀ (s.serviceEnterCmd debug).2 := by
  unfold State.serviceEnterCmd
  split
  · exact h
  next hc =>
    have hready : s.module = .ready := by
      simp only [Bool.or_eq_true, bne_iff_ne, ne_eq, not_or, not_not] at hc
      exact hc.1.1
    have hservice : Orderly s₀ { s with module := .service } := orderly_module h (.inl hready) (.inr (.inr rfl))
    exact orderly_ite (orderly_noteLasting (orderly_setFb hservice ..) ..) hservice

theorem orderly_serviceExitCmd {s₀ s : State} (h : Orderly s₀ s) : Orderly s₀ (s.serviceExitCmd).2 := by
  unfold State.serviceExitCmd
  split
  · exact h
  next hc =>
    have hservice : s.module = .service := by
      simp only [Bool.or_eq_true, bne_iff_ne, ne_eq, not_or, not_not] at hc
      exact hc.1
    exact orderly_ite_snd h (orderly_noteEnds (orderly_setFb (orderly_module h (.inr (.inr hservice)) (.inl rfl)) ..) ..)

theorem orderly_decideCmd {s₀ s : State} (h : Orderly s₀ s) (c : Cmd) :
    Orderly s₀ (s.decideCmd c).2.2 := by
  cases c with
  | summary | logRead | splitV | joinV => exact h
  | arm => exact orderly_maskCmd h _ _ _ _ fun _ h _ => orderly_armOne h ..
  | run => exact orderly_maskCmd h _ _ _ _ fun _ h _ => orderly_runOne h ..
  | stop =>
    unfold State.decideCmd
    exact orderly_maskCmd h _ _ _ _ fun _ h _ => orderly_stopOne h ..
  | openLoop =>
    unfold State.decideCmd
    exact h.of_modes (by simp)
  | closeLoop => exact orderly_closeLoopCmd h ..
  | switchBack => exact orderly_switchBackCmd h
  | clearLog => exact orderly_clearLogCmd h
  | busRecover => exact orderly_busRecoverCmd h ..
  | chargeStart =>
    unfold State.decideCmd
    dsimp only
    split
    · exact h
    · exact h.of_modes (by simp)
  | chargeStop => exact orderly_chargeStep h ..
  | thermalRelease => exact orderly_thermalRelease h
  | brakeTest => exact orderly_brakeTestCmd h ..
  | restart => exact orderly_restartCmd h
  | serviceEnter => exact orderly_serviceEnterCmd h ..
  | serviceExit => exact orderly_serviceExitCmd h
  | keyWrite => exact orderly_keyWriteCmd h ..

theorem orderly_carryCmd {s₀ s : State} (h : Orderly s₀ s) (r : Req) (c : Cmd) :
    Orderly s₀ (s.carryCmd r c) := by
  unfold State.carryCmd
  dsimp only
  split
  · exact orderly_answerCmd (orderly_decideCmd h ..) ..
  · refine orderly_ite (h.of_modes (by simp)) ?_
    split
    · exact h.of_modes (by simp)
    · exact h.of_modes (by simp)

theorem orderly_carryReq {s₀ s : State} (h : Orderly s₀ s) (r : Req) (c : Svc) :
    Orderly s₀ (s.carryReq r c) := by
  unfold State.carryReq
  split
  · exact orderly_serveRead h ..
  · exact orderly_serveWrite h ..
  · exact orderly_carryCmd h ..
  · exact h.of_modes (by simp)
  · exact h.of_modes (by simp)
  · exact h.of_modes (by simp)

theorem orderly_serveDecided {s₀ s : State} (h : Orderly s₀ s) (r : Req) (c : Svc) (authed : Bool) :
    Orderly s₀ (s.serveDecided r c authed) := by
  unfold State.serveDecided
  refine orderly_ite (h.of_modes (by simp)) ?_
  refine orderly_ite (h.of_modes (by simp)) ?_
  exact orderly_ite (h.of_modes (by simp)) (orderly_carryReq h ..)

theorem orderly_serveAuth {s₀ s : State} (h : Orderly s₀ s) (r : Req) (c : Svc) :
    Orderly s₀ (s.serveAuth r c) := by
  unfold State.serveAuth
  refine orderly_ite (h.of_modes (by simp)) ?_
  have hv := orderly_verify h r c
  exact orderly_ite (orderly_refuseAll hv ..) (orderly_ite (orderly_answer hv ..) (orderly_serveDecided hv ..))

theorem orderly_serveAnew {s₀ s : State} (h : Orderly s₀ s) (r : Req) (c : Svc) :
    Orderly s₀ (s.serveAnew r c) := by
  unfold State.serveAnew
  split
  · refine orderly_sendReply ?_ ..
    split
    · exact h.of_modes (by simp)
    · exact h.of_modes (by simp)
    · exact h
  · exact orderly_serveAuth h ..

theorem orderly_serveEarly {s₀ s : State} (h : Orderly s₀ s) (r : Req) (c : Svc) :
    Orderly s₀ (s.serveEarly r c) := by
  unfold State.serveEarly
  refine orderly_ite ?_ ?_
  · refine orderly_ite (orderly_limited h _ _ _ fun _ h => orderly_serveAnew h ..) ?_
    exact h.of_modes (by simp)
  · exact orderly_ite (orderly_serveAnew h ..) (h.of_modes (by simp))

theorem orderly_serveReady {s₀ s : State} (h : Orderly s₀ s) (r : Req) (c : Svc) :
    Orderly s₀ (s.serveReady r c) := by
  unfold State.serveReady
  refine orderly_ite (h.of_modes (by simp)) ?_
  split
  · exact orderly_ite (h.of_modes (by simp)) (orderly_serveAnew h ..)
  · exact orderly_serveAnew h ..

theorem orderly_serve {s₀ s : State} (h : Orderly s₀ s) (r : Req) (c : Svc) :
    Orderly s₀ (s.serve r c) := by
  unfold State.serve
  refine orderly_ite (h.of_modes (by simp)) ?_
  refine orderly_ite (h.of_modes (by simp)) ?_
  refine orderly_ite ?_ ?_
  · exact h.of_modes (by simp)
  · refine orderly_ite ?_ ?_
    · exact orderly_serveEarly (h.of_modes (by simp)) ..
    · exact orderly_serveReady (h.of_modes (by simp)) ..

theorem orderly_serveAt {s₀ s : State} (h : Orderly s₀ s) {t : Nat} {r : Req} {c : Svc} {u : State} (hu : s.serveAt t r c = .next u) :
    Orderly s₀ u :=
  orderly_done (orderly_serve (orderly_parts h) ..) hu

theorem orderly_writeOne {s₀ s : State} (h : Orderly s₀ s) {t : Nat} {r : Req} {index sub : Nat} {v : Word} {u : State}
    (hu : s.writeOne t r index sub v = .next u) :
    Orderly s₀ u :=
  orderly_serveAt h hu

theorem orderly_writeField {s₀ s : State} (h : Orderly s₀ s) {t : Nat} {r : Req} {f : Fld} {n j : Nat} {v : Word} {u : State}
    (hu : s.writeField t r f n j v = .next u) :
    Orderly s₀ u :=
  orderly_writeOne h hu

theorem orderly_restartFails {s₀ s : State} (h : Orderly s₀ s) : Orderly s₀ s.restartFails := by
  refine orderly_ite (orderly_reportAll (orderly_setFb (orderly_updCause ?_ ..) ..) ..) h
  have hclose : Orderly s₀ ((s.setF Reg.CORE_STATUS_S_STATE 0 3).setFb Reg.CORE_STATUS_INJECT_OK 0 false) := h.of_modes (by simp)
  refine orderly_allToSafe hclose (code := Ev.INJECTION_TEST_FAIL) (by simp) (fun x => ?_) fun s t => ⟨_, _, _, rfl⟩
  rw [or_iff_not_imp_right]
  exact fun hx => List.mem_filter.2 ⟨by cases x <;> decide, by simpa using hx⟩

theorem orderly_fbStart {s₀ s : State} (h : Orderly s₀ s) :
    Orderly s₀ s.fbStart := by
  unfold State.fbStart
  refine orderly_each h _ _ ?_
  intro _ h _ _
  refine orderly_ite h ?_
  exact orderly_fbValid (orderly_when (orderly_when (orderly_when (h.of_modes (by simp)) _ _ fun _ h => orderly_hallCycle h ..) _ _ fun _
      h => h.of_modes (by simp)) _ _ fun _ h => h.of_modes (by simp)) ..

theorem orderly_latencyCheck {s₀ s : State} (h : Orderly s₀ s) :
    Orderly s₀ s.latencyCheck := by
  unfold State.latencyCheck
  refine orderly_ite ?_ ?_
  · refine orderly_ite ?_ ?_
    · exact orderly_note (orderly_clearCause (h.of_modes (by simp)) ..) ..
    · exact h.of_modes (by simp)
  · exact orderly_raise (h.of_modes (by simp)) ..

theorem orderly_fabApply {s₀ s : State} (h : Orderly s₀ s) :
    Orderly s₀ s.fabApply := by
  unfold State.fabApply
  refine orderly_latencyCheck ?_
  refine orderly_ite ?_ ?_
  all_goals
    exact h.of_modes (by
      simp only [modes_openSlow, modes_setDue, modes_setOn, modes_setF, modes_each, modes_portOff, modes_setFb, implies_true])

theorem orderly_unitsBegin {s₀ s : State} (h : Orderly s₀ s) :
    Orderly s₀ s.unitsBegin :=
  orderly_openSlow (orderly_each (orderly_each (orderly_fabApply (orderly_fillCheck (orderly_each (orderly_each (orderly_budgetShow
      (orderly_chgBegin (orderly_fbStart (h.of_modes (by simp))))) _ _ fun _ h _ _ => h.of_modes (by simp)) _ _ fun _ h _ _ => h.of_modes
      (by simp)))) _ _ fun _ h _ _ => h.of_modes (by simp)) _ _ fun _ h _ _ => h.of_modes (by simp)) ..

theorem orderly_supplyFail {s₀ s : State} (h : Orderly s₀ s) (c : Nat) :
    Orderly s₀ (s.supplyFail c) :=
  orderly_raise (h.of_modes (by simp)) ..

theorem orderly_supplyChecked {s₀ s : State} (h : Orderly s₀ s) (tests : List ChTest) :
    Orderly s₀ (s.supplyChecked tests) := by
  unfold State.supplyChecked
  dsimp only
  split
  · exact orderly_setOn (orderly_each h _ _ fun _ h _ _ => orderly_supplyFail h ..) ..
  · refine orderly_ite ?_ ?_
    · refine orderly_supplyOn ?_ ..
      refine orderly_ite ?_ ?_
      · exact orderly_setFb (orderly_each (orderly_each h _ _ fun _ h _ _ => orderly_supplyFail h ..) _ _ fun _ h _ _ => h.of_modes (by
            simp)) ..
      · exact orderly_each (orderly_each h _ _ fun _ h _ _ => orderly_supplyFail h ..) _ _ fun _ h _ _ => h.of_modes (by simp)
    · refine orderly_openSlow ?_ ..
      refine orderly_setV ?_ ..
      refine orderly_ite ?_ ?_
      · exact orderly_setFb (orderly_each (orderly_each h _ _ fun _ h _ _ => orderly_supplyFail h ..) _ _ fun _ h _ _ => h.of_modes (by
            simp)) ..
      · exact orderly_each (orderly_each h _ _ fun _ h _ _ => orderly_supplyFail h ..) _ _ fun _ h _ _ => h.of_modes (by simp)

theorem orderly_mapParam {s₀ s : State} (h : Orderly s₀ s) (ch i : Nat) (f : CanFrame) :
    Orderly s₀ (s.mapParam ch i f) := by
  unfold State.mapParam
  dsimp only
  split
  · exact h.of_modes (by simp)
  · refine orderly_each h _ _ fun s h w _ => ?_
    have hw := orderly_hostWrite h { who := none, leaving := [], closing := [] } w.1 w.2.1 w.2.2
    exact orderly_ite (orderly_addF hw ..) (orderly_note (orderly_addF (orderly_countResult hw ..) ..) ..)

theorem orderly_canReady {s₀ s : State} (h : Orderly s₀ s) :
    Orderly s₀ s.canReady := by
  unfold State.canReady
  refine orderly_each ?_ _ _ fun _ h _ _ => h.of_modes (by simp)
  refine orderly_each ?_ _ _ fun _ h _ _ => h.of_modes (by simp)
  refine orderly_each ?_ _ _ fun _ h _ _ => h.of_modes (by simp)
  refine orderly_each ?_ _ _ fun _ h _ _ => h.of_modes (by simp)
  refine orderly_each (h.of_modes (by simp)) _ _ ?_
  intro _ h _ _
  split
  · exact orderly_mapParam h ..
  · exact h

theorem orderly_sbcRequest {s₀ s : State} (h : Orderly s₀ s) :
    Orderly s₀ s.sbcRequest :=
  orderly_ite (orderly_raise (h.of_modes (by simp)) ..) h

theorem orderly_stoSafe {s₀ s : State} (h : Orderly s₀ s) (g : Nat) :
    Orderly s₀ (s.stoSafe g) :=
  orderly_each (h.of_modes (by simp)) _ _ fun _ h _ _ => orderly_close (orderly_toSafe (orderly_setRank (orderly_overtake h ..) ..) ..) ..

theorem orderly_safetyReady {s₀ s : State} (h : Orderly s₀ s) :
    Orderly s₀ s.safetyReady := by
  unfold State.safetyReady
  refine orderly_each (orderly_when h _ _ fun _ h => orderly_sbcRequest h) _ _ ?_
  intro _ h _ _
  refine orderly_ite ?_ ?_
  · exact orderly_each (orderly_ite (orderly_stoSafe (h.of_modes (by simp)) ..) h) _ _ fun _ h _ _ => orderly_carryOut h ..
  · exact orderly_ite (orderly_stoSafe (h.of_modes (by simp)) ..) h

theorem orderly_keyChanged {s₀ s : State} (h : Orderly s₀ s) :
    Orderly s₀ s.keyChanged :=
  orderly_ite h (orderly_raise (h.of_modes (by simp)) ..)

theorem orderly_setCorrection {s₀ s : State} (h : Orderly s₀ s) (x : Int) :
    Orderly s₀ (s.setCorrection x) := by
  unfold State.setCorrection
  refine orderly_ite ?_ ?_
  · refine orderly_ite (h.of_modes (by simp)) ?_
    exact h.of_modes (by simp)
  · exact orderly_clearCause (h.of_modes (by simp)) ..

theorem orderly_setDisc {s₀ s : State} (h : Orderly s₀ s) (d : Nat) :
    Orderly s₀ (s.setDisc d) := by
  unfold State.setDisc
  refine orderly_ite ?_ ?_
  · exact orderly_clearCause (orderly_clearCause (h.of_modes (by simp)) ..) ..
  · exact h.of_modes (by simp)

theorem orderly_disciplineMissing {s₀ s : State} (h : Orderly s₀ s) :
    Orderly s₀ s.disciplineMissing := by
  unfold State.disciplineMissing
  refine orderly_ite ?_ h
  refine orderly_ite ?_ ?_
  · exact orderly_raise (orderly_openSlow (orderly_setV (orderly_setDisc (orderly_setCorrection (h.of_modes (by simp)) ..) ..) ..) ..) ..
  · exact h.of_modes (by simp)

theorem orderly_cycleAlign {s₀ s : State} (h : Orderly s₀ s) :
    Orderly s₀ s.cycleAlign := by
  unfold State.cycleAlign
  refine orderly_each h _ _ ?_
  intro _ h _ _
  refine orderly_ite ?_ ?_
  · exact orderly_clearCause (h.of_modes (by simp)) ..
  · refine orderly_ite (h.of_modes (by simp)) ?_
    exact orderly_raise (h.of_modes (by simp)) ..

theorem orderly_setCycleLen {s₀ s : State} (h : Orderly s₀ s) (len : Nat) :
    Orderly s₀ (s.setCycleLen len) :=
  orderly_ite h (orderly_latencyCheck (h.of_modes (by simp)))

theorem orderly_masterLapse {s₀ s : State} (h : Orderly s₀ s) :
    Orderly s₀ s.masterLapse :=
  orderly_ite (orderly_setCycleLen (h.of_modes (by simp)) ..) h

theorem orderly_missedCycle {s₀ s : State} (h : Orderly s₀ s) :
    Orderly s₀ s.missedCycle := by
  unfold State.missedCycle
  refine orderly_expire h _ _ _ ?_
  intro _ h
  refine orderly_ite h ?_
  exact orderly_cycleAlign (orderly_masterLapse (orderly_setF (orderly_ite (orderly_addV (orderly_disciplineMissing h) ..)
      (orderly_disciplineMissing h)) ..))

theorem orderly_holdoverEnd {s₀ s : State} (h : Orderly s₀ s) :
    Orderly s₀ s.holdoverEnd :=
  orderly_expire h _ _ _ fun _ h => orderly_ite (orderly_noteLasting (orderly_setDisc h ..) ..) h

theorem orderly_disciplineFree {s₀ s : State} (h : Orderly s₀ s) :
    Orderly s₀ s.disciplineFree :=
  orderly_setCorrection (orderly_setDisc h ..) ..

theorem orderly_hardClockFault {s₀ s : State} (h : Orderly s₀ s) (code d0 : Nat) :
    Orderly s₀ (s.hardClockFault code d0) :=
  orderly_raise (orderly_each (orderly_disciplineFree (h.of_modes (by simp))) _ _ fun _ h _ _ => h.of_modes (by simp)) ..

theorem orderly_eccRead {s₀ s : State} (h : Orderly s₀ s) (e : Ecc) :
    Orderly s₀ (s.eccRead e) := by
  unfold State.eccRead
  split
  · exact h
  · exact h.of_modes (by simp)
  · exact orderly_raise (h.of_modes (by simp)) ..

theorem orderly_busRead {s₀ s : State} (h : Orderly s₀ s) (c who : Nat) (e : Ecc) :
    Orderly s₀ (s.busRead c who e) :=
  orderly_eccRead (h.of_modes (by simp)) ..

theorem orderly_grant {s₀ s : State} (h : Orderly s₀ s) (waiting : List BusReq) :
    Orderly s₀ (s.grant waiting) := by
  unfold State.grant
  extract_lets s1 l late s2
  have h2 : Orderly s₀ s2 := orderly_each (orderly_awaitBus h) _ _ fun _ h _ _ => orderly_setOn (orderly_addF h ..) ..
  split
  · exact h2
  next r _ =>
  extract_lets c s3 s4 s5 s6 s7 s8 s9
  have h3 : Orderly s₀ s3 := orderly_setOn (orderly_holdBus h2 ..) ..
  have h4 : Orderly s₀ s4 := orderly_ite (orderly_addV h3 ..) h3
  have h7 : Orderly s₀ s7 := orderly_setV (orderly_setV (orderly_setV (orderly_setF h4 ..) ..) ..) ..
  have h8 : Orderly s₀ s8 := orderly_ite (orderly_setV h7 ..) h7
  have h9 : Orderly s₀ s9 := orderly_ite h8 (orderly_busRead h8 ..)
  exact orderly_ite (orderly_scrubGranted h9 ..) h9

theorem orderly_scrubGrants {s₀ s : State} (h : Orderly s₀ s) (n : Nat) (l : List BusReq) :
    Orderly s₀ (State.scrubGrants n l s) := by
  induction n generalizing s l with
  | zero => exact h
  | succ n ih =>
    unfold State.scrubGrants
    refine orderly_ite h ?_
    dsimp only
    split
    · exact h.of_modes (by simp)
    · exact ih (orderly_grant (h.of_modes (by simp)) ..) _

theorem orderly_fbSnapshot {s₀ s : State} (h : Orderly s₀ s) (n v : Nat) (subst : Bool) :
    Orderly s₀ (s.fbSnapshot n v subst) :=
  orderly_ssiStart (orderly_setFb (orderly_wrapF (orderly_snapTake (orderly_setV (orderly_each (orderly_fbRun h ..) _ _ fun _ h _ _ =>
      h.of_modes (by simp)) ..) ..) ..) ..) ..

theorem orderly_fbEvent {s₀ s : State} (h : Orderly s₀ s) (t : Stage) (middle subst : Bool) (v : Nat) :
    Orderly s₀ (s.fbEvent t middle subst v) :=
  orderly_each h _ _ fun _ h _ _ => orderly_ite (orderly_fbSnapshot h ..) h

theorem orderly_dmaEnter {s₀ s : State} (h : Orderly s₀ s) (e : DmaEntry) :
    Orderly s₀ (s.dmaEnter e) := by
  unfold State.dmaEnter
  refine orderly_ite (orderly_parts h) ?_
  exact orderly_ite (orderly_raise (h.of_modes (by simp)) ..) (orderly_parts h)

theorem orderly_dmaArrive {s₀ s : State} (h : Orderly s₀ s) (c : Nat) :
    Orderly s₀ (s.dmaArrive c) :=
  orderly_each h _ _ fun _ h _ _ => orderly_dmaEnter h ..

theorem orderly_ovrCheck {s₀ s : State} (h : Orderly s₀ s) (n : Nat) (ovr : Bool) :
    Orderly s₀ (s.ovrCheck n ovr) := by
  unfold State.ovrCheck
  refine orderly_ite ?_ ?_
  · exact h.of_modes (by simp)
  · exact orderly_ite (orderly_clearCause (h.of_modes (by simp)) ..) h

theorem orderly_convert {s₀ s : State} (h : Orderly s₀ s) (c n : Nat) (raw : Int) :
    Orderly s₀ (s.convert c n raw) :=
  orderly_seqConverted (orderly_when (orderly_when (orderly_parts (orderly_cmpTake (orderly_when (h.of_modes (by simp)) _ _ fun _ h =>
      orderly_ovrCheck h ..) ..)) _ _ fun _ h => h.of_modes (by simp)) _ _ fun _ h => h.of_modes (by simp)) ..

theorem orderly_seqGo {s₀ s : State} (h : Orderly s₀ s) (c v n : Nat) (l : List Int) :
    Orderly s₀ (State.seqGo c v n l s) := by
  induction n generalizing s l with
  | zero => exact h
  | succ n ih =>
    unfold State.seqGo
    exact orderly_ite h (orderly_ite (orderly_ite (ih (h.of_modes (by simp)) _) h) (orderly_ite (ih (orderly_convert h ..) _) h))

theorem orderly_coreTo {s₀ s : State} (h : Orderly s₀ s) (c v : Nat) (l : List Int) :
    Orderly s₀ (s.coreTo c v l) :=
  orderly_ite h (orderly_dmaArrive (orderly_seqGo h ..) ..)

theorem orderly_accLatch {s₀ s : State} (h : Orderly s₀ s) (a v : Nat) :
    Orderly s₀ (s.accLatch a v) := by
  unfold State.accLatch
  refine orderly_ite ?_ ?_
  · dsimp only
    split
    · exact h.of_modes (by simp)
    · refine orderly_ite ?_ ?_
      · exact orderly_raise (h.of_modes (by simp)) ..
      · exact h.of_modes (by simp)
  · exact orderly_clearCause (h.of_modes (by simp)) ..

theorem orderly_waitMet {s₀ s : State} (h : Orderly s₀ s) (c : Nat) :
    Orderly s₀ (s.waitMet c) :=
  orderly_clearCause (h.of_modes (by simp)) ..

theorem orderly_seqMeet {s₀ s : State} (h : Orderly s₀ s) (c src : Nat) (middle : Bool) (v n : Nat) :
    Orderly s₀ (State.seqMeet c src middle v n s) := by
  induction n generalizing s with
  | zero => exact h
  | succ n ih =>
    unfold State.seqMeet
    exact orderly_ite (ih (orderly_coreTo (orderly_seqReady (orderly_waitMet h ..) ..) ..)) h

theorem orderly_seqEvent {s₀ s : State} (h : Orderly s₀ s) (c src : Nat) (middle subst : Bool) (v : Nat) :
    Orderly s₀ (s.seqEvent c src middle subst v) := by
  unfold State.seqEvent
  refine orderly_ite h ?_
  exact orderly_ite (orderly_seqMeet h ..) (orderly_ite (orderly_raise (h.of_modes (by simp)) ..) h)

theorem orderly_coreEvent {s₀ s : State} (h : Orderly s₀ s) (c src : Nat) (middle subst : Bool) (v : Nat) (l : List Int) :
    Orderly s₀ (s.coreEvent c src middle subst v l) := by
  unfold State.coreEvent
  refine orderly_ite (orderly_setV (orderly_coreTo h ..) ..) ?_
  exact orderly_seqEvent (orderly_each (orderly_accTake (orderly_setV (orderly_coreTo h ..) ..) ..) _ _ fun _ h _ _ => orderly_ite
      (orderly_accLatch h ..) h) ..

theorem orderly_carrierEvent {s₀ s : State} (h : Orderly s₀ s) (t : Stage) (middle : Bool) (v : Nat) (l : List Conv) :
    Orderly s₀ (s.carrierEvent t middle v l) :=
  orderly_each h _ _ fun _ h _ _ => orderly_coreEvent (h.of_modes (by simp)) ..

theorem orderly_stageEvent {s₀ s : State} (h : Orderly s₀ s) (t : Stage) (middle : Bool) (at' : Nat) (conv : List Conv) :
    Orderly s₀ (s.stageEvent t middle at' conv) := by
  unfold State.stageEvent
  refine orderly_preEval ?_
  refine orderly_ite ?_ ?_
  · exact orderly_regEvent (orderly_slotEvent (orderly_fbEvent (orderly_carrierEvent h ..) ..) ..) ..
  · exact orderly_slotEvent (orderly_fbEvent (orderly_carrierEvent h ..) ..) ..

theorem orderly_coreUntil {s₀ s : State} (h : Orderly s₀ s) (c t : Nat) (conv : List Int) :
    Orderly s₀ (s.coreUntil c t conv) :=
  orderly_dmaArrive (orderly_coreTo (orderly_parts h) ..) ..

theorem orderly_hkClear {s₀ s : State} (h : Orderly s₀ s) (p : Nat) :
    Orderly s₀ (s.hkClear p) := by
  unfold State.hkClear
  refine orderly_ite (orderly_clearCause h ..) ?_
  refine orderly_ite ?_ ?_
  · exact orderly_each h _ _ fun _ h _ _ => orderly_clearCause (h.of_modes (by simp)) ..
  · exact orderly_ite (orderly_clearCause h ..) h

theorem orderly_hkRaise {s₀ s : State} (h : Orderly s₀ s) (p : Nat) (code : Int) :
    Orderly s₀ (s.hkRaise p code) := by
  unfold State.hkRaise
  refine orderly_ite (orderly_raise h ..) ?_
  refine orderly_ite ?_ ?_
  · exact orderly_raiseAll (h.of_modes (by simp)) ..
  · exact orderly_ite (orderly_raise h ..) (orderly_raise h ..)

theorem orderly_hkPosition {s₀ s : State} (h : Orderly s₀ s) (p : Nat) (code : Int) :
    Orderly s₀ (s.hkPosition p code) := by
  unfold State.hkPosition
  refine orderly_ite h ?_
  refine orderly_ite ?_ ?_
  · refine orderly_ite ?_ ?_
    · exact orderly_hkClear (h.of_modes (by simp)) ..
    · exact h.of_modes (by simp)
  · refine orderly_ite ?_ ?_
    · exact orderly_hkRaise (h.of_modes (by simp)) ..
    · exact h.of_modes (by simp)

theorem orderly_thCheck {s₀ s : State} (h : Orderly s₀ s) (n : Nat) :
    Orderly s₀ (s.thCheck n) := by
  unfold State.thCheck
  dsimp only
  split
  · exact h.of_modes (by simp)
  · refine orderly_ite ?_ ?_
    · refine orderly_ite ?_ ?_
      · exact orderly_setV (orderly_raise (h.of_modes (by simp)) ..) ..
      · exact h.of_modes (by simp)
    · refine orderly_ite ?_ ?_
      · exact orderly_note (orderly_clearCause (h.of_modes (by simp)) ..) ..
      · exact h.of_modes (by simp)

theorem orderly_thEffective {s₀ s : State} (h : Orderly s₀ s) (n : Nat) :
    Orderly s₀ (s.thEffective n).1 := by
  unfold State.thEffective
  refine orderly_ite_fst ?_ (orderly_clearCause (h.of_modes (by simp)) ..)
  split
  · exact orderly_clearCause (h.of_modes (by simp)) ..
  · refine orderly_ite_fst (h.of_modes (by simp)) ?_
    refine orderly_ite_fst (h.of_modes (by simp)) ?_
    exact h.of_modes (by simp)

theorem orderly_thCond {s₀ s : State} (h : Orderly s₀ s) (n k : Nat) (flag : Fld) (set clr : Bool) (code : Nat) :
    Orderly s₀ (s.thCond n k flag set clr code).1 := by
  unfold State.thCond
  refine orderly_ite_fst ?_ (h.of_modes (by simp))
  refine orderly_ite_fst (orderly_clearCause (h.of_modes (by simp)) ..) ?_
  exact h.of_modes (by simp)

theorem orderly_thThresholds {s₀ s : State} (h : Orderly s₀ s) (n : Nat) :
    Orderly s₀ (s.thThresholds n).1 := by
  unfold State.thThresholds
  dsimp only
  exact orderly_when (orderly_setV (orderly_thCond (orderly_thCond (orderly_thCond (orderly_thCond h ..) ..) ..) ..) ..) _ _ fun _ h =>
      h.of_modes (by simp)

theorem orderly_thermalRound {s₀ s : State} (h : Orderly s₀ s) (board : List BoardRead) :
    Orderly s₀ (s.thermalRound board) := by
  unfold State.thermalRound
  refine orderly_ite h ?_
  dsimp only
  refine orderly_raiseAll (orderly_addF (orderly_each ?_ _ _ fun _ h _ _ => h.of_modes (by simp)) ..) ..
  refine orderly_eachSource (orderly_eachSource ?_ _ fun _ h _ => orderly_thEffective h ..) _ fun _ h _ => orderly_thThresholds h ..
  refine orderly_each (orderly_each h _ _ fun _ h _ _ => ?_) _ _ fun _ h _ _ => orderly_thCheck h ..
  exact h.of_modes (by simp)

theorem orderly_fbDone {s₀ s : State} (h : Orderly s₀ s) {n : Nat} {u : State} (hu : fbDone n s = .next u) :
    Orderly s₀ u :=
  orderly_done (orderly_snapRenew (orderly_fbRun h ..) ..) hu

theorem orderly_pinChange {s₀ s : State} (h : Orderly s₀ s) (n : Nat) (x : PinChange) :
    Orderly s₀ (s.pinChange n x) := by
  unfold State.pinChange
  refine orderly_ite (orderly_parts (orderly_fbRun h ..)) ?_
  refine orderly_ite ?_ ?_
  · exact orderly_filterFrom (orderly_lapseAt (orderly_when (orderly_when (orderly_setV (orderly_parts (orderly_fbRun h ..)) ..) _ _ fun
        _ h => orderly_parts h) _ _ fun _ h => h.of_modes (by simp)) ..) ..
  · refine orderly_ite ?_ ?_
    · refine orderly_ite ?_ ?_
      · exact orderly_filterFrom (orderly_lapseAt (orderly_when (orderly_when (orderly_setV (orderly_parts (orderly_fbRun h ..)) ..) _ _
            fun _ h => orderly_parts h) _ _ fun _ h => h.of_modes (by simp)) ..) ..
      · exact orderly_lapseAt (orderly_when (orderly_when (orderly_setV (orderly_parts (orderly_fbRun h ..)) ..) _ _ fun _ h =>
            orderly_parts h) _ _ fun _ h => h.of_modes (by simp)) ..
    · exact orderly_when (orderly_when (orderly_setV (orderly_parts (orderly_fbRun h ..)) ..) _ _ fun _ h => orderly_parts h) _ _ fun _ h
          => h.of_modes (by simp)

theorem orderly_fbPins {s₀ s : State} (h : Orderly s₀ s) (n : Nat) (pins : List PinChange) :
    Orderly s₀ (s.fbPins n pins) :=
  orderly_each h _ _ fun _ h _ _ => orderly_pinChange h ..

theorem orderly_fbInputs {s₀ s : State} (h : Orderly s₀ s) (n : Nat) (pins : List PinChange) (t : Nat) :
    Orderly s₀ (s.fbInputs n pins t) :=
  orderly_parts (orderly_fbPins h ..)

theorem orderly_fbExpire {s₀ s : State} (h : Orderly s₀ s) (n : Nat) (tm : Timer) (i : Nat) (k : State → State)
    (hk : ∀ a : State, Orderly s₀ a → Orderly s₀ (k a)) :
    Orderly s₀ (s.fbExpire n tm i k) := by
  unfold State.fbExpire
  split
  · exact h
  · exact orderly_ite (orderly_expire (orderly_fbRun h ..) _ _ _ fun _ h => hk _ h) (orderly_fbRun h ..)

theorem orderly_fbSignal {s₀ s : State} (h : Orderly s₀ s) (code n : Nat) (inst d1 : Nat) :
    Orderly s₀ (s.fbSignal code n inst d1) :=
  orderly_ite h (orderly_fbValid (orderly_fbFault (h.of_modes (by simp)) ..) ..)

theorem orderly_fbClear {s₀ s : State} (h : Orderly s₀ s) (code n inst : Nat) :
    Orderly s₀ (s.fbClear code n inst) :=
  orderly_fbValid (orderly_clearCause h ..) ..

theorem orderly_resAmp {s₀ s : State} (h : Orderly s₀ s) (n : Nat) (stale inside : Bool) :
    Orderly s₀ (s.resAmp n stale inside) := by
  unfold State.resAmp
  refine orderly_ite ?_ ?_
  · exact orderly_fbSignal (h.of_modes (by simp)) ..
  · refine orderly_ite ?_ ?_
    · exact orderly_fbClear (h.of_modes (by simp)) ..
    · exact h.of_modes (by simp)

theorem orderly_resTrack {s₀ s : State} (h : Orderly s₀ s) (n : Nat) (e : Int) :
    Orderly s₀ (s.resTrack n e) := by
  unfold State.resTrack
  refine orderly_ite ?_ ?_
  · exact orderly_fbPosition (orderly_refFalls (h.of_modes (by simp)) ..) ..
  · refine orderly_ite ?_ ?_
    · exact orderly_refRises (h.of_modes (by simp)) ..
    · exact h.of_modes (by simp)

theorem orderly_ssiRead {s₀ s : State} (h : Orderly s₀ s) (n : Nat) (at' : List Nat) (pins : List PinChange) (l : List Bool) :
    Orderly s₀ (State.ssiRead n at' pins l s).2 := by
  induction at' generalizing s pins l with
  | nil => exact orderly_fbPins h ..
  | cons a rest ih => exact ih (orderly_fbRun (orderly_fbPins h ..) ..) ..

theorem orderly_ssiGood {s₀ s : State} (h : Orderly s₀ s) (n pos : Nat) :
    Orderly s₀ (s.ssiGood n pos) := by
  unfold State.ssiGood
  refine orderly_ite ?_ ?_
  · refine orderly_fbPosition ?_ ..
    refine orderly_ite ?_ ?_
    · exact orderly_setOn (orderly_refFalls (h.of_modes (by simp)) ..) ..
    · exact h.of_modes (by simp)
  · refine orderly_ite ?_ ?_
    · exact orderly_refRises (orderly_setOn (orderly_moved (h.of_modes (by simp)) ..) ..) ..
    · exact orderly_moved (h.of_modes (by simp)) ..

theorem orderly_slotTrigger {s₀ s : State} (h : Orderly s₀ s) (n at' : Nat) :
    Orderly s₀ (s.slotTrigger n at') := by
  unfold State.slotTrigger
  refine orderly_ite h ?_
  refine orderly_ite (orderly_raise (h.of_modes (by simp)) ..) ?_
  exact h.of_modes (by simp)

theorem orderly_coCause {s₀ s : State} (h : Orderly s₀ s) (inst : Nat) (b : Bool) (slot : Nat) (x : Int) :
    Orderly s₀ (s.coCause inst b slot x) :=
  orderly_ite (orderly_clearCause h ..) (orderly_ite h (orderly_raise h ..))

theorem orderly_slotCo {s₀ s : State} (h : Orderly s₀ s) (r : Run) :
    Orderly s₀ (s.slotCo r) :=
  orderly_coCause (orderly_coCause h ..) ..

theorem orderly_chgFault {s₀ s : State} (h : Orderly s₀ s) (code reaction : Nat) (t : Stage) (d0 : Nat) :
    Orderly s₀ (s.chgFault code reaction t d0) :=
  orderly_chgSync (orderly_ite (orderly_raise h ..) (orderly_chgSnap (orderly_raise h ..) ..))

theorem orderly_qualNow {s₀ s : State} (h : Orderly s₀ s) :
    Orderly s₀ s.qualNow := by
  unfold State.qualNow
  refine orderly_ite ?_ ?_
  · exact orderly_noteAt (orderly_clearCause (h.of_modes (by simp)) ..) ..
  · exact h.of_modes (by simp)

theorem orderly_qualLate {s₀ s : State} (h : Orderly s₀ s) :
    Orderly s₀ s.qualLate :=
  orderly_ite (orderly_qualNow h) h

theorem orderly_requalify {s₀ s : State} (h : Orderly s₀ s) :
    Orderly s₀ s.requalify :=
  orderly_setOn (orderly_close (orderly_setFb (orderly_qualLate h) ..) ..) ..

theorem orderly_ppStep {s₀ s : State} (h : Orderly s₀ s) (run : Bool) :
    Orderly s₀ (s.ppStep run) := by
  unfold State.ppStep
  refine orderly_chgSync ?_
  refine orderly_timed ?_ ..
  refine orderly_ite ?_ ?_
  · exact h.of_modes (by simp)
  · refine orderly_ite (h.of_modes (by simp)) ?_
    refine orderly_ite ?_ ?_
    · refine orderly_ite ?_ ?_
      · exact orderly_chgSnap (orderly_takeOver (orderly_setV (orderly_noteLastingAt (orderly_requalify (h.of_modes (by simp))) ..) ..))
            ..
      · exact h.of_modes (by simp)
    · exact orderly_ite (orderly_ite (h.of_modes (by simp)) (orderly_chgSnap (orderly_raise h ..) ..)) h

theorem orderly_pfcEnd {s₀ s : State} (h : Orderly s₀ s) (r : Run) :
    Orderly s₀ (s.pfcEnd r) := by
  unfold State.pfcEnd
  extract_lets u target s1 s2 s3 sag s4 s5 high s6 s7 s8
  have h4 : Orderly s₀ s4 := orderly_setV (orderly_setF (orderly_setF (orderly_setV (orderly_setV (orderly_setV (orderly_setV
      (orderly_setV h ..) ..) ..) ..) ..) ..) ..) ..
  have h5 : Orderly s₀ s5 := orderly_ite h4 (orderly_noteEnds h4 ..)
  have h6 : Orderly s₀ s6 := orderly_absence (orderly_setV h5 ..) ..
  have h7 : Orderly s₀ s7 := orderly_ite (orderly_chgFault h6 ..) h6
  exact orderly_ppStep (orderly_ite (orderly_setV h7 ..) h7) ..

theorem orderly_dabEnd {s₀ s : State} (h : Orderly s₀ s) (r : Run) :
    Orderly s₀ (s.dabEnd r) := by
  unfold State.dabEnd
  extract_lets m s1 s2 s3 c s4 st s5 s6a s6 ov s7 s8 oc s9 s10 s11 s12
  have h4 : Orderly s₀ s4 := orderly_setV (orderly_setFb (orderly_setF (orderly_setF (orderly_setV (orderly_setV (orderly_setV
      (orderly_setV (orderly_setV h ..) ..) ..) ..) ..) ..) ..) ..) ..
  have h5 : Orderly s₀ s5 := orderly_ite (orderly_chgFinish h4 ..) h4
  have h6 : Orderly s₀ s6 := orderly_ite (orderly_ite (orderly_setV (orderly_setOn h5 ..) ..) (orderly_setOn h5 ..)) h5
  have h7 : Orderly s₀ s7 := orderly_absence (orderly_setV h6 ..) ..
  have h8 : Orderly s₀ s8 := orderly_ite (orderly_chgFault h7 ..) h7
  have h9 : Orderly s₀ s9 := orderly_absence h8 ..
  have h10 : Orderly s₀ s10 := orderly_ite h9 (orderly_timed h9 ..)
  have h12 : Orderly s₀ s12 := orderly_ite (orderly_chgFault (orderly_setV h10 ..) ..) (orderly_setV h10 ..)
  exact orderly_ite h12 (orderly_chgSync (orderly_clearCause h12 ..))

theorem orderly_actSupply {s₀ s : State} (h : Orderly s₀ s) (a : Nat) (cond : Bool) (x : Var) (k code reaction : Nat) (bit : Fld)
    (vact : Int) :
    Orderly s₀ (s.actSupply a cond x k code reaction bit vact) := by
  unfold State.actSupply
  refine orderly_ite ?_ ?_
  · exact orderly_raise (h.of_modes (by simp)) ..
  · exact h.of_modes (by simp)

theorem orderly_actEnd {s₀ s : State} (h : Orderly s₀ s) (r : Run) :
    Orderly s₀ (s.actEnd r) := by
  unfold State.actEnd
  split
  · exact h
  · extract_lets n m pos sp vact s1 s2 low high s3 s4 chop s5 s6 s7 new s8 t st far s9b s9 moving s10 s11 above
    have h2 : Orderly s₀ s2 := orderly_setF (orderly_setF (orderly_setF (orderly_setF h ..) ..) ..) ..
    have h4 : Orderly s₀ s4 := orderly_actSupply (orderly_actSupply h2 ..) ..
    have h6 : Orderly s₀ s6 := orderly_setFb (orderly_each h4 _ _ fun _ h _ _ => orderly_setV h ..) ..
    have h8 : Orderly s₀ s8 := orderly_setOn (orderly_ite (orderly_setV (orderly_setV (orderly_setOn h6 ..) ..) ..) h6) ..
    have h9b : Orderly s₀ s9b := orderly_ite h8 (orderly_raise (orderly_addF h8 ..) ..)
    have h9 : Orderly s₀ s9 := by
      refine orderly_ite (orderly_ite h8 (orderly_actStop h8 ..)) ?_
      refine orderly_ite (orderly_ite (orderly_actMove h8 ..) h8) ?_
      refine orderly_ite (orderly_openSlow (orderly_setV (orderly_setFb h8 ..) ..) ..) ?_
      refine orderly_ite (orderly_actMove h8 ..) ?_
      exact orderly_ite (orderly_ite (orderly_actMove h9b ..) h9b) h8
    have h10 : Orderly s₀ s10 := orderly_ite (orderly_close h9 ..) (orderly_ite (orderly_lapse h9 ..) (orderly_ite h9 (orderly_openSlow
        h9 ..)))
    exact orderly_timed (orderly_actBlock h10 ..) ..

theorem orderly_slotHook {s₀ s : State} (h : Orderly s₀ s) (r : Run) :
    Orderly s₀ (s.slotHook r) := by
  unfold State.slotHook
  split
  · exact orderly_slotCo h ..
  · exact orderly_pfcEnd h ..
  · exact orderly_dabEnd h ..
  · exact orderly_actEnd h ..
  · exact h

theorem orderly_slotVsat100 {s₀ s : State} (h : Orderly s₀ s) (r : Run) :
    Orderly s₀ (s.slotVsat100 r) := by
  unfold State.slotVsat100
  refine orderly_ite (orderly_clearCause (h.of_modes (by simp)) ..) ?_
  exact orderly_ite (orderly_raise (h.of_modes (by simp)) ..) (h.of_modes (by simp))

theorem orderly_slotError {s₀ s : State} (h : Orderly s₀ s) (r : Run) :
    Orderly s₀ (s.slotError r) := by
  unfold State.slotError
  refine orderly_ite ?_ ?_
  · exact orderly_lapse (orderly_ite (h.of_modes (by simp)) (orderly_clearCause (h.of_modes (by simp)) ..)) ..
  · refine orderly_ite ?_ ?_
    · refine orderly_ite ?_ ?_
      · exact orderly_ite (h.of_modes (by simp)) (orderly_clearCause (h.of_modes (by simp)) ..)
      · exact orderly_openLoop (orderly_ite (h.of_modes (by simp)) (orderly_clearCause (h.of_modes (by simp)) ..)) ..
    · exact orderly_close (orderly_ite (h.of_modes (by simp)) (orderly_clearCause (h.of_modes (by simp)) ..)) ..

theorem orderly_publish {s₀ s : State} (h : Orderly s₀ s) (r : Run) :
    Orderly s₀ (s.publish r) := by
  unfold State.publish
  refine orderly_slotHook ?_ ..
  refine orderly_slotVsat100 ?_ ..
  refine orderly_slotError ?_ ..
  refine orderly_slotCommit ?_ ..
  refine orderly_slotMirror ?_ ..
  refine orderly_slotFlags ?_ ..
  refine orderly_when ?_ _ _ fun _ h => h.of_modes (by simp)
  refine orderly_ite ?_ ?_
  · exact h.of_modes (by simp)
  · exact h.of_modes (by simp)

theorem orderly_finishStop {s₀ s : State} (h : Orderly s₀ s) (hm : s.module = .safe → s₀.module = .safe) (t : Stage) :
    Orderly s₀ (s.finishStop t) :=
  orderly_ite (orderly_settle (orderly_toStopped h (.inr (.inr (.inr ⟨rfl, hm⟩))) ..)) h

theorem orderly_legReload (s : State) (n : Nat) : Orderly s (s.legReload n) := by
  have hstop {u : State} (hu : u.modes = s.modes) (t : Stage) : Orderly s (u.finishStop t) :=
    orderly_finishStop ((Orderly.refl s).of_modes hu) (fun hm => (module_of_modes hu).symm.trans hm) t
  unfold State.legReload State.expire
  split
  · exact .refl s
  · dsimp only
    exact orderly_ite (hstop (by simp) _) ((Orderly.refl s).of_modes (by simp))

theorem orderly_syncLose {s₀ s : State} (h : Orderly s₀ s) (t : Stage) :
    Orderly s₀ (s.syncLose t) := by
  unfold State.syncLose
  refine orderly_ite ?_ ?_
  · exact orderly_linkSnap (orderly_snapFrom (orderly_openSlow (orderly_setFb (orderly_raise (h.of_modes (by simp)) ..) ..) ..)) ..
  · exact orderly_raise (h.of_modes (by simp)) ..

theorem orderly_syncLock {s₀ s : State} (h : Orderly s₀ s) (t : Stage) (per : Nat) :
    Orderly s₀ (s.syncLock t per) := by
  unfold State.syncLock
  refine orderly_ite ?_ ?_
  · exact orderly_linkSnap (orderly_snapFrom (orderly_setFb (orderly_setFb (orderly_setOn (orderly_setOn (orderly_close (orderly_noteAt
        (orderly_clearCause (h.of_modes (by simp)) ..) ..) ..) ..) ..) ..) ..)) ..
  · exact orderly_noteAt (orderly_clearCause (h.of_modes (by simp)) ..) ..

theorem orderly_compared {s₀ s : State} (h : Orderly s₀ s) (t : Stage) (conv : List Int) :
    Orderly s₀ (s.compared t conv) :=
  orderly_cmpTake (orderly_coreTo h ..) ..

theorem orderly_multiLeg {s₀ s : State} (h : Orderly s₀ s) (n : Nat) :
    Orderly s₀ (s.multiLeg n) := by
  have hm := orderly_setF (orderly_registerTrip h n) Reg.GD_STAGE_STATUS_NOW (Stage.ofLeg n).idx
  unfold State.multiLeg
  dsimp only
  have ht := fun v w x y => orderly_periodTag (orderly_addF (orderly_setFb (hm v w) Reg.GD_STAGE_STATUS_CAUSE x true 0) Reg.GD_STAGE_COUNTERS x 1 0) y
  refine orderly_ite (orderly_ite (orderly_carryOut ?_ ..) ?_) (hm ..)
  all_goals exact orderly_setV (orderly_raise (ht ..) ..) ..

theorem orderly_countTrip {s₀ s : State} (h : Orderly s₀ s) (n : Nat) (soft counted : Bool) :
    Orderly s₀ (s.countTrip n soft counted) := by
  unfold State.countTrip
  refine orderly_ite h ?_
  refine orderly_ite (h.of_modes (by simp)) ?_
  refine orderly_ite ?_ ?_
  · refine orderly_raise ?_ ..
    refine orderly_setV ?_ ..
    refine orderly_parts ?_
    refine orderly_legOff ?_ ..
    refine orderly_endCommands ?_ ..
    refine orderly_addF ?_ ..
    refine orderly_setFb ?_ ..
    refine orderly_ite ?_ ?_
    · exact h.of_modes (by simp)
    · exact h.of_modes (by simp)
  · refine orderly_ite ?_ ?_
    · exact h.of_modes (by simp)
    · exact h.of_modes (by simp)

theorem orderly_cbcTrip {s₀ s : State} (h : Orderly s₀ s) (n : Nat) (src : TripSrc) :
    Orderly s₀ (s.cbcTrip n src) := by
  unfold State.cbcTrip
  refine orderly_ite ?_ h
  refine orderly_countTrip ?_ ..
  refine orderly_ite ?_ ?_
  · exact h.of_modes (by simp)
  · exact h.of_modes (by simp)

theorem orderly_holdSafe {s₀ s : State} (h : Orderly s₀ s) (code reaction : Nat) (row mask : Nat) :
    Orderly s₀ (s.holdSafe code reaction row mask) := by
  unfold State.holdSafe
  refine orderly_ite ?_ ?_
  · exact orderly_moduleSafe (h.of_modes (by simp)) ..
  · exact orderly_each (h.of_modes (by simp)) _ _ fun _ h _ _ => orderly_toSafe h ..

theorem orderly_exhausted {s₀ s : State} (h : Orderly s₀ s) (mask : Nat) :
    Orderly s₀ (s.exhausted mask) :=
  orderly_holdSafe (h.of_modes (by simp)) ..

theorem orderly_handover {s₀ s : State} (h : Orderly s₀ s) (row mask : Nat) :
    Orderly s₀ (s.handover row mask) :=
  orderly_raise (h.of_modes (by simp)) ..

theorem orderly_condemnSpare {s₀ s : State} (h : Orderly s₀ s) (mask : Nat) :
    Orderly s₀ (s.condemnSpare mask) :=
  orderly_raise (h.of_modes (by simp)) ..

theorem orderly_decideFail {s₀ s : State} (h : Orderly s₀ s) :
    Orderly s₀ s.decideFail := by
  unfold State.decideFail
  dsimp only
  split
  · exact orderly_ite (h.of_modes (by simp)) (orderly_exhausted h ..)
  · exact orderly_handover h ..
  · exact orderly_condemnSpare h ..
  · exact h

theorem orderly_selfCheckFail {s₀ s : State} (h : Orderly s₀ s) (e : Nat) :
    Orderly s₀ (s.selfCheckFail e) := by
  unfold State.selfCheckFail
  refine orderly_ite (h.of_modes (by simp)) ?_
  refine orderly_ite (orderly_decideFail (h.of_modes (by simp))) ?_
  refine orderly_ite (h.of_modes (by simp)) ?_
  exact h.of_modes (by simp)

theorem orderly_undecided {s₀ s : State} (h : Orderly s₀ s) (row mask carriers : Nat) :
    Orderly s₀ (s.undecided row mask carriers) :=
  orderly_raise (h.of_modes (by simp)) ..

theorem orderly_wordMismatch {s₀ s : State} (h : Orderly s₀ s) (mask carriers : Nat) (agree : Bool) :
    Orderly s₀ (s.wordMismatch mask carriers agree) := by
  unfold State.wordMismatch
  refine orderly_ite (h.of_modes (by simp)) ?_
  refine orderly_ite h ?_
  refine orderly_ite (h.of_modes (by simp)) ?_
  refine orderly_ite (orderly_undecided h ..) ?_
  refine orderly_ite (orderly_undecided h ..) ?_
  refine orderly_ite (h.of_modes (by simp)) ?_
  exact h.of_modes (by simp)

theorem orderly_contradiction {s₀ s : State} (h : Orderly s₀ s) (c : Nat) :
    Orderly s₀ (s.contradiction c) := by
  unfold State.contradiction
  refine orderly_ite h ?_
  refine orderly_ite (orderly_handover h ..) ?_
  exact orderly_ite h (orderly_raise (h.of_modes (by simp)) ..)

theorem orderly_switchDone {s₀ s : State} (h : Orderly s₀ s) :
    Orderly s₀ s.switchDone :=
  orderly_note (orderly_noteEnds (orderly_clearCause (orderly_clearCause (h.of_modes (by simp)) ..) ..) ..) ..

theorem orderly_qualifyEnd {s₀ s : State} (h : Orderly s₀ s) :
    Orderly s₀ s.qualifyEnd := by
  unfold State.qualifyEnd
  refine orderly_expire h _ _ _ ?_
  intro _ h
  refine orderly_ite (h.of_modes (by simp)) ?_
  refine orderly_ite (h.of_modes (by simp)) ?_
  exact orderly_switchDone (h.of_modes (by simp))

theorem orderly_detectorTrip {s₀ s : State} (h : Orderly s₀ s) (c : Nat) (short : Bool) :
    Orderly s₀ (s.detectorTrip c short) := by
  unfold State.detectorTrip
  dsimp only
  refine orderly_raise (orderly_setV (orderly_setV (orderly_periodTag (orderly_addF ?_ ..) ..) ..) ..) ..
  exact h.of_modes (by simp)

theorem orderly_gateUvlo {s₀ s : State} (h : Orderly s₀ s) (c : Nat) (negative : Bool) :
    Orderly s₀ (s.gateUvlo c negative) := by
  unfold State.gateUvlo
  refine orderly_ite h ?_
  exact orderly_raise (h.of_modes (by simp)) ..

theorem orderly_linkClear {s₀ s : State} (h : Orderly s₀ s) (c : Nat) :
    Orderly s₀ (s.linkClear c) :=
  orderly_clearCause (h.of_modes (by simp)) ..

theorem orderly_frameBad {s₀ s : State} (h : Orderly s₀ s) (c : Nat) :
    Orderly s₀ (s.frameBad c) :=
  orderly_close (orderly_addV (orderly_addF (orderly_ite (orderly_linkClear h ..) h) ..) ..) ..

theorem orderly_takeFrame {s₀ s : State} (h : Orderly s₀ s) (c : Nat) (f : ChFrame) :
    Orderly s₀ (s.takeFrame c f) := by
  unfold State.takeFrame
  refine orderly_when ?_ _ _ fun _ h => orderly_detectorTrip h ..
  refine orderly_when ?_ _ _ fun _ h => orderly_gateUvlo h ..
  refine orderly_when ?_ _ _ fun _ h => orderly_gateUvlo h ..
  refine orderly_ite ?_ ?_
  · refine orderly_cmdPath ?_ ..
    split
    · refine orderly_ite ?_ ?_
      · exact h.of_modes (by simp)
      · exact h.of_modes (by simp)
    · exact h.of_modes (by simp)
  · refine orderly_gateReadback ?_ ..
    refine orderly_cmdPath ?_ ..
    split
    · refine orderly_ite ?_ ?_
      · exact h.of_modes (by simp)
      · exact h.of_modes (by simp)
    · exact h.of_modes (by simp)

theorem orderly_linkFault {s₀ s : State} (h : Orderly s₀ s) (code inst : Nat) (reaction d0 : Nat) (lasting : Bool) :
    Orderly s₀ (s.linkFault code inst reaction d0 lasting) := by
  unfold State.linkFault
  refine orderly_ite (orderly_raise (h.of_modes (by simp)) ..) ?_
  exact orderly_linkSnap (orderly_raise (h.of_modes (by simp)) ..) ..

theorem orderly_linkFaults {s₀ s : State} (h : Orderly s₀ s) (sp u' : Int) :
    Orderly s₀ (s.linkFaults sp u') := by
  unfold State.linkFaults
  refine orderly_ite ?_ ?_
  · refine orderly_linkFault ?_ ..
    refine orderly_setFb ?_ ..
    refine orderly_setFb ?_ ..
    refine orderly_each ?_ _ _ ?_
    · refine orderly_ite (h.of_modes (by simp)) ?_
      exact orderly_clearCause (h.of_modes (by simp)) ..
    · intro _ h _ _
      refine orderly_ite h ?_
      exact orderly_ite (h.of_modes (by simp)) (orderly_clearCause (h.of_modes (by simp)) ..)
  · refine orderly_ite ?_ ?_
    · refine orderly_setFb ?_ ..
      refine orderly_each ?_ _ _ ?_
      · refine orderly_ite (h.of_modes (by simp)) ?_
        exact orderly_clearCause (h.of_modes (by simp)) ..
      · intro _ h _ _
        refine orderly_ite h ?_
        exact orderly_ite (h.of_modes (by simp)) (orderly_clearCause (h.of_modes (by simp)) ..)
    · refine orderly_clearCause ?_ ..
      refine orderly_setFb ?_ ..
      refine orderly_setFb ?_ ..
      refine orderly_each ?_ _ _ ?_
      · refine orderly_ite (h.of_modes (by simp)) ?_
        exact orderly_clearCause (h.of_modes (by simp)) ..
      · intro _ h _ _
        refine orderly_ite h ?_
        exact orderly_ite (h.of_modes (by simp)) (orderly_clearCause (h.of_modes (by simp)) ..)

theorem orderly_softJudged {s₀ s : State} (h : Orderly s₀ s) :
    Orderly s₀ s.softJudged := by
  unfold State.softJudged
  refine orderly_ite (h.of_modes (by simp)) ?_
  refine orderly_ite ?_ ?_
  · exact h.of_modes (by simp)
  · exact orderly_linkFault (h.of_modes (by simp)) ..

theorem orderly_regTransition {s₀ s : State} (h : Orderly s₀ s) (sp u' e0 : Int) :
    Orderly s₀ (s.regTransition sp u' e0).1 := by
  unfold State.regTransition
  refine orderly_ite_fst ?_ ?_
  · refine orderly_ite_fst h ?_
    exact orderly_ite_fst (orderly_regMode (orderly_regState h ..) ..) (orderly_softStart h)
  · refine orderly_ite_fst h ?_
    refine orderly_ite_fst (orderly_softJudged h) ?_
    refine orderly_ite_fst ?_ ?_
    · exact orderly_regLeft (orderly_linkSnap (orderly_linkNote (orderly_regMode (orderly_setOn (orderly_regState (orderly_close
          (orderly_softEnd h) ..) ..) ..) ..) ..) ..) ..
    · refine orderly_ite_fst ?_ ?_
      · exact orderly_linkSnap (orderly_linkNote (orderly_addF (orderly_setOn (orderly_regHistory (orderly_regState h ..) ..) ..) ..) ..)
            ..
      · refine orderly_ite_fst ?_ ?_
        · refine orderly_ite ?_ ?_
          · exact orderly_linkNote (orderly_regLeft (orderly_linkSnap (orderly_linkNote (orderly_setFb (orderly_openSlow (orderly_addF
                (orderly_regMode (orderly_regState h ..) ..) ..) ..) ..) ..) ..) ..) ..
          · exact orderly_regLeft (orderly_linkSnap (orderly_linkNote (orderly_setFb (orderly_openSlow (orderly_addF (orderly_regMode
                (orderly_regState h ..) ..) ..) ..) ..) ..) ..) ..
        · refine orderly_ite_fst (orderly_ite (orderly_softStart (orderly_addF h ..)) h) ?_
          refine orderly_ite_fst (orderly_ite (orderly_linkSnap (orderly_softDone h ..) ..) h) ?_
          refine orderly_ite_fst (orderly_regEnter h ..) ?_
          refine orderly_ite_fst (orderly_burstStep h ..) ?_
          refine orderly_ite_fst (orderly_regEnter h ..) ?_
          refine orderly_ite_fst (orderly_linkSnap (orderly_regEnter h ..) ..) ?_
          exact orderly_ite_fst (orderly_regShed h ..) (orderly_ite_fst (orderly_regShed h ..) h)

theorem orderly_regSteps {s₀ s : State} (h : Orderly s₀ s) :
    Orderly s₀ s.regSteps := by
  unfold State.regSteps
  extract_lets tu u ub sp s1 s2 st ended near s3 s4 n was
  have h2 : Orderly s₀ s2 := orderly_linkFaults (orderly_setV (orderly_setV (orderly_setV h ..) ..) ..) ..
  have h4 : Orderly s₀ s4 := orderly_ite (orderly_setV h2 ..) (orderly_setOn (orderly_setV h2 ..) ..)
  refine orderly_ite h2 (orderly_ite (orderly_regMeas (orderly_regStopped h2) ..) ?_)
  have ht := orderly_regTransition h4 sp u (sp - u)
  split
  next s5 step hx =>
  rw [hx] at ht
  exact orderly_ite ht (orderly_regMeas (orderly_shedConds (orderly_ite (orderly_pTaken (orderly_regAct ht ..)) (orderly_regAct ht ..))
      ..) ..)

theorem orderly_regUpdate {s₀ s : State} (h : Orderly s₀ s) :
    Orderly s₀ s.regUpdate := by
  unfold State.regUpdate
  refine orderly_ite (h.of_modes (by simp)) ?_
  exact orderly_snapsDue (orderly_setOn (orderly_regSteps (h.of_modes (by simp))) ..)

theorem orderly_ppLoss {s₀ s : State} (h : Orderly s₀ s) (input rule : Nat) :
    Orderly s₀ (s.ppLoss input rule) := by
  unfold State.ppLoss
  refine orderly_ite h ?_
  refine orderly_chgSync ?_
  refine orderly_ite ?_ ?_
  · refine orderly_takeOver ?_
    refine orderly_ite ?_ ?_
    · exact orderly_chgSnap (orderly_raise (orderly_addF (orderly_setOn (orderly_each (orderly_setOn (orderly_close (orderly_setFb
          (orderly_ppTo (orderly_qualLate h) ..) ..) ..) ..) _ _ fun _ h _ _ => h.of_modes (by simp)) ..) ..) ..) ..
    · exact orderly_chgSnap (orderly_chgSnap (orderly_raise (orderly_addF (orderly_setOn (orderly_each (orderly_setOn (orderly_close
          (orderly_setFb (orderly_ppTo (orderly_qualLate h) ..) ..) ..) ..) _ _ fun _ h _ _ => h.of_modes (by simp)) ..) ..) ..) ..) ..
  · refine orderly_ite ?_ ?_
    · exact orderly_chgSnap (orderly_raise (orderly_addF (orderly_setOn (orderly_each (orderly_setOn (orderly_close (orderly_setFb
          (orderly_ppTo (orderly_qualLate h) ..) ..) ..) ..) _ _ fun _ h _ _ => h.of_modes (by simp)) ..) ..) ..) ..
    · exact orderly_chgSnap (orderly_chgSnap (orderly_raise (orderly_addF (orderly_setOn (orderly_each (orderly_setOn (orderly_close
          (orderly_setFb (orderly_ppTo (orderly_qualLate h) ..) ..) ..) ..) _ _ fun _ h _ _ => h.of_modes (by simp)) ..) ..) ..) ..) ..

theorem orderly_halfEnd {s₀ s : State} (h : Orderly s₀ s) (k : Nat) :
    Orderly s₀ (s.halfEnd k) := by
  unfold State.halfEnd
  refine orderly_ite h ?_
  extract_lets n sc rms len s1 s2 s3 odd s4 s5 st good s6 s7 s8 s9 s10 s11 s12
  have h2 : Orderly s₀ s2 := orderly_setF (orderly_setV (orderly_setV (orderly_setOn h ..) ..) ..) ..
  have h5 : Orderly s₀ s5 := orderly_vregUpdate (orderly_setV (orderly_ite (orderly_setF h2 ..) h2) ..)
  have h7 : Orderly s₀ s7 := orderly_qualLate (orderly_each h5 _ _ fun _ h _ _ => orderly_setOn h ..)
  have h8 : Orderly s₀ s8 := orderly_ite (orderly_ppTo h7 ..) h7
  have h9 : Orderly s₀ s9 := orderly_setOn h5 ..
  have h10 : Orderly s₀ s10 := orderly_setOn (orderly_ppTo h9 ..) ..
  have h11 : Orderly s₀ s11 := by
    refine orderly_ite (orderly_ppLoss h5 ..) (orderly_ite (orderly_ppLoss h5 ..) ?_)
    refine orderly_ite (orderly_ite h8 (orderly_requalify h8)) (orderly_ite ?_ h9)
    split
    · exact orderly_ppLoss h10 ..
    · exact h10
  exact orderly_ppStep (orderly_ite (orderly_openSlow (orderly_setOn h11 ..) ..) h11) ..

theorem orderly_stoTested {s₀ s : State} (h : Orderly s₀ s) (g : Nat) :
    Orderly s₀ (s.stoTested g) :=
  orderly_openSlow (orderly_setV (orderly_clearCause (h.of_modes (by simp)) ..) ..) ..

theorem orderly_stoFail {s₀ s : State} (h : Orderly s₀ s) (g d1 : Nat) :
    Orderly s₀ (s.stoFail g d1) :=
  orderly_raise (h.of_modes (by simp)) ..

theorem orderly_stoRequest {s₀ s : State} (h : Orderly s₀ s) (g : Nat) :
    Orderly s₀ (s.stoRequest g) := by
  unfold State.stoRequest
  refine orderly_setOn ?_ ..
  refine orderly_ite ?_ ?_
  · refine orderly_stoFail ?_ ..
    refine orderly_ite ?_ ?_
    · exact orderly_stoSafe (orderly_addF (orderly_setOn (orderly_stoTested (h.of_modes (by simp)) ..) ..) ..) ..
    · exact orderly_setOn (orderly_stoTested (h.of_modes (by simp)) ..) ..
  · refine orderly_ite ?_ ?_
    · exact orderly_stoSafe (orderly_addF (orderly_setOn (orderly_stoTested (h.of_modes (by simp)) ..) ..) ..) ..
    · exact orderly_setOn (orderly_stoTested (h.of_modes (by simp)) ..) ..

theorem orderly_stoRelease {s₀ s : State} (h : Orderly s₀ s) (g : Nat) :
    Orderly s₀ (s.stoRelease g) := by
  unfold State.stoRelease
  refine orderly_clearCause ?_ ..
  refine orderly_ite (h.of_modes (by simp)) ?_
  exact h.of_modes (by simp)

theorem orderly_sbcRelease {s₀ s : State} (h : Orderly s₀ s) :
    Orderly s₀ s.sbcRelease :=
  orderly_clearCause (h.of_modes (by simp)) ..

theorem orderly_samplePair {s₀ s : State} (h : Orderly s₀ s) (i : Nat) (a b : Bool) :
    Orderly s₀ (s.samplePair i a b) := by
  unfold State.samplePair
  refine orderly_ite ?_ ?_
  · refine orderly_ite ?_ ?_
    · exact h.of_modes (by simp)
    · refine orderly_ite ?_ ?_
      · exact orderly_stoRequest (h.of_modes (by simp)) ..
      · exact orderly_sbcRequest (h.of_modes (by simp))
  · refine orderly_ite ?_ ?_
    · refine orderly_ite ?_ ?_
      · exact h.of_modes (by simp)
      · refine orderly_ite ?_ ?_
        · exact orderly_stoRelease (h.of_modes (by simp)) ..
        · exact orderly_sbcRelease (h.of_modes (by simp))
    · exact h.of_modes (by simp)

theorem orderly_samplePairs {s₀ s : State} (h : Orderly s₀ s) (levels : BitVec 10) :
    Orderly s₀ (s.samplePairs levels) :=
  orderly_setFb (orderly_setOn (orderly_each (h.of_modes (by simp)) _ _ fun _ h _ _ => orderly_samplePair h ..) ..) ..

theorem orderly_swCheck {s₀ s : State} (h : Orderly s₀ s) (g : Nat) (present : Bool) :
    Orderly s₀ (s.swCheck g present) :=
  orderly_ite (orderly_ite (orderly_stoFail (h.of_modes (by simp)) ..) (h.of_modes (by simp))) h

theorem orderly_brakeClear {s₀ s : State} (h : Orderly s₀ s) (k : Nat) :
    Orderly s₀ (s.brakeClear k) :=
  orderly_clearCause (h.of_modes (by simp)) ..

theorem orderly_brakeFault {s₀ s : State} (h : Orderly s₀ s) (k cond : Nat) :
    Orderly s₀ (s.brakeFault k cond) := by
  unfold State.brakeFault
  refine orderly_ite (orderly_close (orderly_ite (orderly_brakeClear h ..) h) ..) ?_
  exact orderly_brakeSync (orderly_raise (orderly_setFb (orderly_ite (orderly_brakeClear h ..) h) ..) ..)

theorem orderly_brakePassed {s₀ s : State} (h : Orderly s₀ s) (k : Nat) :
    Orderly s₀ (s.brakePassed k) :=
  orderly_brakeSync (orderly_report (orderly_addF (orderly_clearCause (orderly_clearCause (h.of_modes (by
    simp only [modes_brakeDueWindow, modes_setV, modes_setF, modes_setFb])) ..) ..) ..) ..)

theorem orderly_mismatch {s₀ s : State} (h : Orderly s₀ s) (n d : Nat) :
    Orderly s₀ (s.mismatch n d) :=
  orderly_ite h (orderly_openOnFault (orderly_raise (h.of_modes (by simp)) ..))

theorem orderly_welded {s₀ s : State} (h : Orderly s₀ s) (d cfb : Nat) :
    Orderly s₀ (s.welded d cfb) :=
  orderly_ite h (orderly_openOnFault (orderly_raise (h.of_modes (by simp)) ..))

theorem orderly_cfbCheck {s₀ s : State} (h : Orderly s₀ s) (n : Nat) (level : Bool) :
    Orderly s₀ (s.cfbCheck n level) := by
  unfold State.cfbCheck
  extract_lets d on good s1 s2 s3 s4 s5 s6 s7
  have h1 : Orderly s₀ s1 := orderly_safeBit h ..
  have h3 : Orderly s₀ s3 := orderly_ite (orderly_ite (orderly_mismatch (orderly_close h1 ..) ..) (orderly_welded (orderly_close h1 ..)
      ..)) h1
  have h5 : Orderly s₀ s5 := orderly_ite (orderly_setV (orderly_close h3 ..) ..) (orderly_setV (orderly_setV (orderly_close h3 ..) ..) ..)
  have h7 : Orderly s₀ s7 := orderly_setV (orderly_ite (orderly_clearCause h3 ..) h3) ..
  exact orderly_ite h (orderly_ite (orderly_ite (orderly_clearCause h5 ..) h5) (orderly_ite h7 (orderly_setV h7 ..)))

theorem orderly_preLast {s₀ s : State} (h : Orderly s₀ s) :
    Orderly s₀ s.preLast := by
  unfold State.preLast
  split
  · exact orderly_preEval (orderly_parts h)
  · exact h

theorem orderly_undoStage {s₀ s : State} (h : Orderly s₀ s) (t : Stage) (old : Nat) : Orderly s₀ (s.undoStage t old) := by
  unfold State.undoStage
  refine orderly_dite (fun _ => h) fun hc => ?_
  have hs : s.serves := serves_of_operable (by simpa using hc)
  have hsequence (s' : State) (hs' : Orderly s₀ s') : Orderly s₀ (match t with
      | .L => s'.setF Reg.LINK_STATUS_STATE 0 (s'.vn .regStopFrom : Nat)
      | .P => ((s'.setV .pStop 0 0).setOn .takeoverReq 0 false).close .stopTakeover
      | _ => s') := by
    split <;> exact hs'.of_modes (by simp)
  split
  · exact orderly_enter (orderly_leaveActive h t) (.inr (.inr (.inl (serves_leaveActive hs t)))) ..
  · exact orderly_brakeSync (orderly_enter (h.of_modes (by simp)) (MayEnter.of_modes (.inr (.inr (.inl hs))) (by simp)) ..)
  · exact orderly_brakeSync (orderly_enter (h.of_modes (by simp)) (MayEnter.of_modes (.inr (.inr (.inl hs))) (by simp)) ..)
  · exact orderly_armStage h hs
  · exact orderly_enter h (.inl rfl) ..
  · exact orderly_ite (hsequence _ (h.of_modes (by simp [state_stg]))) h
  · exact orderly_ite (hsequence _ (h.of_modes (by simp [state_stg]))) h
  · exact orderly_ite (hsequence _ (h.of_modes (by simp [state_stg]))) h
  · exact h

theorem orderly_undo {s₀ s : State} (h : Orderly s₀ s) (p : Protected) :
    Orderly s₀ (s.undo p) := by
  unfold State.undo
  split
  · refine orderly_ite (h.of_modes (by simp)) ?_
    exact h.of_modes (by simp)
  · exact h.of_modes (by simp)
  · exact h.of_modes (by simp)
  · exact orderly_undoStage h ..
  · exact h

theorem orderly_discardWrites {s₀ s : State} (h : Orderly s₀ s) :
    Orderly s₀ s.discardWrites :=
  orderly_parts (orderly_each h _ _ fun _ h _ _ => orderly_undo h ..)

theorem orderly_restartS {s₀ s : State} (h : Orderly s₀ s) (code counter : Nat) (d1 d2 : Nat) (m : Mismatch) :
    Orderly s₀ (s.restartS code counter d1 d2 m) := by
  unfold State.restartS
  refine orderly_ite h ?_
  refine orderly_setFb ?_ ..
  refine orderly_each ?_ _ _ fun _ h _ _ => orderly_holdBy h ..
  refine orderly_ite ?_ ?_
  · exact orderly_raiseAll (orderly_setV (orderly_setFb (orderly_openSlow (orderly_setV (orderly_setFb (orderly_discardWrites (h.of_modes
        (by simp))) ..) ..) ..) ..) ..) ..
  · exact orderly_raise (orderly_setFb (orderly_openSlow (orderly_setV (orderly_setFb (orderly_discardWrites (h.of_modes (by simp))) ..)
        ..) ..) ..) ..

theorem orderly_carryDeferred {s₀ s : State} (h : Orderly s₀ s) :
    Orderly s₀ s.carryDeferred :=
  orderly_carryAll (orderly_parts h) ..

theorem orderly_deliverHeld {s₀ s : State} (h : Orderly s₀ s) :
    Orderly s₀ s.deliverHeld :=
  orderly_each (orderly_parts h) _ _ fun _ h _ _ => orderly_carryReq h ..

theorem orderly_warmDone {s₀ s : State} (h : Orderly s₀ s) (lost : Bool) (levels : BitVec 10) :
    Orderly s₀ (s.warmDone lost levels) := by
  unfold State.warmDone
  refine orderly_ite h ?_
  refine orderly_note ?_ ..
  refine orderly_deliverHeld ?_
  refine orderly_setFb ?_ ..
  refine orderly_releaseHold ?_ ..
  refine orderly_clearCause ?_ ..
  refine orderly_clearCause ?_ ..
  refine orderly_ite ?_ ?_
  · refine orderly_raise ?_ ..
    refine orderly_ite ?_ ?_
    · exact orderly_moduleSafe (orderly_setV (orderly_carryDeferred (orderly_brakeSync (orderly_samplePairs (h.of_modes (by simp)) ..)))
          ..) ..
    · exact orderly_carryDeferred (orderly_brakeSync (orderly_samplePairs (h.of_modes (by simp)) ..))
  · refine orderly_ite ?_ ?_
    · exact orderly_moduleSafe (orderly_setV (orderly_carryDeferred (orderly_brakeSync (orderly_samplePairs (h.of_modes (by simp)) ..)))
          ..) ..
    · exact orderly_carryDeferred (orderly_brakeSync (orderly_samplePairs (h.of_modes (by simp)) ..))

theorem orderly_restartV {s₀ s : State} (h : Orderly s₀ s) (core code : Nat) (d1 d2 : Nat) :
    Orderly s₀ (s.restartV core code d1 d2) := by
  unfold State.restartV
  refine orderly_ite h ?_
  exact orderly_handFails (orderly_raise (h.of_modes (by simp)) ..)

theorem orderly_serveQueue {s₀ s : State} (h : Orderly s₀ s) :
    Orderly s₀ s.serveQueue :=
  orderly_ite h (orderly_each (orderly_parts h) _ _ fun _ h _ _ => orderly_serveReady h ..)

theorem orderly_handEnd {s₀ s : State} (h : Orderly s₀ s) (r : Req) (c : Svc) (x : Res) :
    Orderly s₀ (s.handEnd r c x) := by
  unfold State.handEnd
  refine orderly_serveQueue ?_
  split
  · exact h.of_modes (by simp)
  · exact h.of_modes (by simp)

theorem orderly_splitDone {s₀ s : State} (h : Orderly s₀ s) (completed : Bool) :
    Orderly s₀ (s.splitDone completed) := by
  unfold State.splitDone
  split
  · refine orderly_ite (orderly_handEnd h ..) ?_
    exact orderly_handEnd (h.of_modes (by simp)) ..
  · exact h

theorem orderly_joinDone {s₀ s : State} (h : Orderly s₀ s) (completed pass : Bool) :
    Orderly s₀ (s.joinDone completed pass) := by
  unfold State.joinDone
  split
  · refine orderly_ite (orderly_handEnd h ..) ?_
    refine orderly_ite ?_ ?_
    · exact orderly_handEnd (h.of_modes (by simp)) ..
    · exact orderly_handEnd (h.of_modes (by simp)) ..
  · exact h

theorem orderly_portDown {s₀ s : State} (h : Orderly s₀ s) (p cause : Nat) :
    Orderly s₀ (s.portDown p cause) := by
  unfold State.portDown
  refine orderly_ite h ?_
  refine orderly_topology ?_ ..
  refine orderly_ite ?_ ?_
  · refine orderly_noteLasting ?_ ..
    refine orderly_openSlow ?_ ..
    refine orderly_setPort ?_ ..
    refine orderly_raise ?_ ..
    refine orderly_ite ?_ ?_
    · exact h.of_modes (by simp)
    · exact h.of_modes (by simp)
  · refine orderly_raise ?_ ..
    refine orderly_ite ?_ ?_
    · exact h.of_modes (by simp)
    · exact h.of_modes (by simp)

theorem orderly_colonySize {s₀ s : State} (h : Orderly s₀ s) (nodes depth : Nat) :
    Orderly s₀ (s.colonySize nodes depth) := by
  unfold State.colonySize
  refine orderly_ite h ?_
  refine orderly_ite (orderly_latencyCheck (h.of_modes (by simp))) ?_
  exact h.of_modes (by simp)

theorem orderly_acceptRound {s₀ s : State} (h : Orderly s₀ s) (p : Nat) (f : Frame) :
    Orderly s₀ (s.acceptRound p f) := by
  unfold State.acceptRound
  refine orderly_forwardWaggle ?_ ..
  refine orderly_colonySize ?_ ..
  refine orderly_setUpstream ?_ ..
  refine orderly_setDue ?_ ..
  refine orderly_setOn ?_ ..
  refine orderly_setV ?_ ..
  refine orderly_setV ?_ ..
  refine orderly_setF ?_ ..
  refine orderly_rootHeard ?_
  refine orderly_ite ?_ ?_
  · refine orderly_close ?_ ..
    refine orderly_clearCause ?_ ..
    refine orderly_setFb ?_ ..
    refine orderly_ite ?_ ?_
    · exact h.of_modes (by simp)
    · exact h.of_modes (by simp)
  · refine orderly_clearCause ?_ ..
    refine orderly_setFb ?_ ..
    refine orderly_ite ?_ ?_
    · exact h.of_modes (by simp)
    · exact h.of_modes (by simp)

theorem orderly_waggle {s₀ s : State} (h : Orderly s₀ s) (p : Nat) (f : Frame) :
    Orderly s₀ (s.waggle p f) := by
  unfold State.waggle
  refine orderly_ite (h.of_modes (by simp)) ?_
  refine orderly_ite (orderly_acceptRound (h.of_modes (by simp)) ..) ?_
  refine orderly_ite ?_ (h.of_modes (by simp))
  refine orderly_rootHeard ?_
  refine orderly_ite (h.of_modes (by simp)) ?_
  exact h.of_modes (by simp)

theorem orderly_waggles {s₀ s : State} (h : Orderly s₀ s) (l : List (Nat × Frame)) :
    Orderly s₀ (s.waggles l) :=
  orderly_each h _ _ fun _ h _ _ => orderly_waggle h ..

theorem orderly_receiveWaggles {s₀ s : State} (h : Orderly s₀ s) (l : List (Nat × Frame)) :
    Orderly s₀ (s.receiveWaggles l) := by
  unfold State.receiveWaggles
  extract_lets r
  have hr : Orderly s₀ r.2 := orderly_foldl_snd h _ _ fun _ h _ _ => orderly_portCheck h ..
  exact orderly_waggles hr ..

theorem orderly_linkCheck {s₀ s : State} (h : Orderly s₀ s) (p : Nat) (b : List Byte) :
    Orderly s₀ (s.linkCheck p b) := by
  unfold State.linkCheck
  refine orderly_ite ?_ ?_
  · exact h.of_modes (by simp)
  · refine orderly_ite ?_ ?_
    · exact orderly_topology (orderly_note (orderly_clearCause (h.of_modes (by simp)) ..) ..) ..
    · exact h.of_modes (by simp)

theorem orderly_deliverRequest {s₀ s : State} (h : Orderly s₀ s) (f : Frame) :
    Orderly s₀ (s.deliverRequest f) := by
  unfold State.deliverRequest
  refine orderly_ite h ?_
  exact orderly_ite (h.of_modes (by simp)) (orderly_ite (orderly_serve h ..) (orderly_serve h ..))

theorem orderly_deliverService {s₀ s : State} (h : Orderly s₀ s) (f : Frame) :
    Orderly s₀ (s.deliverService f) :=
  orderly_ite (orderly_deliverRequest h ..) h

theorem orderly_service {s₀ s : State} (h : Orderly s₀ s) (p : Nat) (f : Frame) : Orderly s₀ (s.service p f) := by
  unfold State.service
  extract_lets up lost
  have hup (g) : Orderly s₀ (up s g) := by
    unfold up
    split
    · exact orderly_ite h (orderly_sendOn h ..)
    · exact h
  have hlost : Orderly s₀ (lost s) := orderly_ite (orderly_addF h ..) (hup f)
  clear_value up lost
  refine orderly_ite h (orderly_ite (orderly_ite ?_ (hup _)) (orderly_ite (orderly_ite ?_ ?_) ?_))
  · exact orderly_deliverService (orderly_each h _ _ fun _ h _ _ => orderly_sendOn h ..) ..
  · exact orderly_deliverService h ..
  · split
    · exact orderly_ite (h.of_modes (by simp)) hlost
    · exact hlost
  · have hc := orderly_classified h f.fcs f.src f.kind f.seq p (s.classOf f.src f.kind f.seq)
    split
    next c s hx =>
    rw [hx] at hc
    refine orderly_ite (orderly_addF hc ..) (orderly_ite (orderly_ite (orderly_deliverService hc ..) hc) ?_)
    split
    · exact orderly_ite (orderly_forward hc ..) (orderly_forward hc ..)
    · exact orderly_forward hc ..

theorem orderly_deliver {s₀ s : State} (h : Orderly s₀ s) (f : Frame) :
    Orderly s₀ (s.deliver f) := by
  unfold State.deliver
  refine orderly_ite h ?_
  split
  · exact h.of_modes (by simp)
  · exact h.of_modes (by simp)
  · exact h.of_modes (by simp)
  · exact orderly_deliverRequest h ..
  · exact h

theorem orderly_goUp {s₀ s : State} (h : Orderly s₀ s) (p : Nat) (f : Frame) :
    Orderly s₀ (s.goUp p f) := by
  unfold State.goUp
  refine orderly_ite (orderly_ite (orderly_service h ..) (orderly_deliver h ..)) ?_
  split
  · exact h.of_modes (by simp)
  · exact h.of_modes (by simp)

theorem orderly_goTree {s₀ s : State} (h : Orderly s₀ s) (p : Nat) (f : Frame) :
    Orderly s₀ (s.goTree p f) :=
  orderly_deliver (h.of_modes (by simp)) ..

theorem orderly_transit {s₀ s : State} (h : Orderly s₀ s) (p : Nat) (f : Frame) :
    Orderly s₀ (s.transit p f) :=
  orderly_each (orderly_ite (orderly_deliver h ..) h) _ _ fun _ h _ _ => h.of_modes (by simp)

theorem orderly_writeSignal {s₀ s : State} (h : Orderly s₀ s) (w : Waiting) :
    Orderly s₀ (s.writeSignal w) := by
  have hw := orderly_hostWrite1 h { who := none, leaving := [], closing := [] } w.index w.sub w.value
  unfold State.writeSignal
  dsimp only
  exact orderly_ite (orderly_setV (orderly_setV hw ..) ..) (orderly_note (orderly_addF (orderly_countResult hw ..) ..) ..)

theorem orderly_cycleActions {s₀ s : State} (h : Orderly s₀ s) (start : Nat) :
    Orderly s₀ (s.cycleActions start) :=
  orderly_cycleAlign (orderly_each (orderly_each (h.of_modes (by simp)) _ _ fun _ h _ _ => orderly_writeSignal h ..) _ _ fun _ h _ _ =>
      h.of_modes (by simp))

theorem orderly_cycleStep {s₀ s : State} (h : Orderly s₀ s) (est : Int) (no : Nat) (size : Int) :
    Orderly s₀ (s.cycleStep est no size) :=
  orderly_cycleActions (h.of_modes (by simp)) ..

theorem orderly_loopUpdate {s₀ s : State} (h : Orderly s₀ s) :
    Orderly s₀ s.loopUpdate :=
  orderly_setV (orderly_setV (orderly_setV (orderly_setCorrection (orderly_parts h) ..) ..) ..) ..

theorem orderly_disciplineFrame {s₀ s : State} (h : Orderly s₀ s) (err : Int) (masterChanged : Bool) :
    Orderly s₀ (s.disciplineFrame err masterChanged) := by
  unfold State.disciplineFrame
  refine orderly_ite (orderly_disciplineFree h) ?_
  refine orderly_ite ?_ ?_
  · exact orderly_noteEnds (orderly_loopUpdate (orderly_setDisc (orderly_setF (orderly_setV (orderly_ite (orderly_holdoverEnd h) h) ..)
        ..) ..)) ..
  · refine orderly_ite ?_ ?_
    · refine orderly_ite ?_ ?_
      · exact orderly_raise (orderly_loopUpdate (orderly_setDisc (orderly_setF (orderly_setV (orderly_ite (orderly_holdoverEnd h) h) ..)
            ..) ..)) ..
      · exact orderly_loopUpdate (orderly_setDisc (orderly_setF (orderly_setV (orderly_ite (orderly_holdoverEnd h) h) ..) ..) ..)
    · refine orderly_ite ?_ ?_
      · refine orderly_ite ?_ ?_
        · exact orderly_setDisc (orderly_setV (orderly_loopUpdate (orderly_setF (orderly_setV (orderly_ite (orderly_holdoverEnd h) h) ..)
              ..)) ..) ..
        · exact orderly_setV (orderly_loopUpdate (orderly_setF (orderly_setV (orderly_ite (orderly_holdoverEnd h) h) ..) ..)) ..
      · refine orderly_ite ?_ ?_
        · exact orderly_raise (orderly_setDisc (orderly_setV (orderly_loopUpdate (orderly_setF (orderly_setV (orderly_ite
              (orderly_holdoverEnd h) h) ..) ..)) ..) ..) ..
        · exact orderly_setV (orderly_loopUpdate (orderly_setF (orderly_setV (orderly_ite (orderly_holdoverEnd h) h) ..) ..)) ..

theorem orderly_followSync {s₀ s : State} (h : Orderly s₀ s) (p : Nat) (f : Frame) (st : Stamps) (changed : Bool) :
    Orderly s₀ (s.followSync p f st changed) := by
  unfold State.followSync
  refine orderly_ite ?_ ?_
  · refine orderly_note ?_ ..
    refine orderly_setV ?_ ..
    refine orderly_disciplineFrame ?_ ..
    refine orderly_setF ?_ ..
    refine orderly_ite ?_ ?_
    · refine orderly_cycleStep ?_ ..
      refine orderly_ite ?_ ?_
      · exact orderly_setOn (orderly_setOn (orderly_setCycleLen (orderly_ite (orderly_missedCycle h) h) ..) ..) ..
      · exact orderly_setOn (orderly_close (orderly_setOn (orderly_setCycleLen (orderly_ite (orderly_missedCycle h) h) ..) ..) ..) ..
    · refine orderly_ite ?_ ?_
      · exact orderly_setOn (orderly_setOn (orderly_setCycleLen (orderly_ite (orderly_missedCycle h) h) ..) ..) ..
      · exact orderly_setOn (orderly_close (orderly_setOn (orderly_setCycleLen (orderly_ite (orderly_missedCycle h) h) ..) ..) ..) ..
  · refine orderly_setV ?_ ..
    refine orderly_disciplineFrame ?_ ..
    refine orderly_setF ?_ ..
    refine orderly_ite ?_ ?_
    · refine orderly_cycleStep ?_ ..
      refine orderly_ite ?_ ?_
      · exact orderly_setOn (orderly_setOn (orderly_setCycleLen (orderly_ite (orderly_missedCycle h) h) ..) ..) ..
      · exact orderly_setOn (orderly_close (orderly_setOn (orderly_setCycleLen (orderly_ite (orderly_missedCycle h) h) ..) ..) ..) ..
    · refine orderly_ite ?_ ?_
      · exact orderly_setOn (orderly_setOn (orderly_setCycleLen (orderly_ite (orderly_missedCycle h) h) ..) ..) ..
      · exact orderly_setOn (orderly_close (orderly_setOn (orderly_setCycleLen (orderly_ite (orderly_missedCycle h) h) ..) ..) ..) ..

theorem orderly_sync {s₀ s : State} (h : Orderly s₀ s) (p : Nat) (f : Frame) (st : Stamps) :
    Orderly s₀ (s.sync p f st) := by
  unfold State.sync
  refine orderly_ite (h.of_modes (by simp)) ?_
  have hc := orderly_classified h f.fcs f.src 5 f.seq p (s.classOf f.src 5 f.seq)
  split
  next c s hx =>
  rw [hx] at hc
  extract_lets delay s1 own role mine s2 lapsed take s3 s4 s5 changed
  have h1 : Orderly s₀ s1 := orderly_forward hc ..
  have h2 : Orderly s₀ s2 := orderly_ite (orderly_setDue h1 ..) h1
  have h3 : Orderly s₀ s3 := orderly_ite (orderly_ringCopy h2 ..) h2
  have h5 : Orderly s₀ s5 := orderly_ite (orderly_setDue (orderly_note (orderly_addF h3 ..) ..) ..) (orderly_addF h3 ..)
  refine orderly_ite (orderly_addF hc ..) (orderly_ite h1 (orderly_ite h2 (orderly_ite h3 ?_)))
  exact orderly_followSync (orderly_ringCopy (orderly_setF (orderly_setV (orderly_setV (orderly_setV (orderly_setV (orderly_setMaster h5
      ..) ..) ..) ..) ..) ..) ..) ..

theorem orderly_deliverSignal {s₀ s : State} (h : Orderly s₀ s) (id : Nat) (v : Word) :
    Orderly s₀ (s.deliverSignal id v) := by
  unfold State.deliverSignal
  refine orderly_ite h ?_
  refine orderly_ite (orderly_writeSignal (h.of_modes (by simp)) ..) ?_
  exact h.of_modes (by simp)

theorem orderly_signal {s₀ s : State} (h : Orderly s₀ s) (p : Nat) (f : Frame) :
    Orderly s₀ (s.signal p f) := by
  unfold State.signal
  refine orderly_ite h ?_
  have hc := orderly_classified h f.fcs f.src 6 f.seq p (s.classOf f.src 6 f.seq)
  split
  next c s hx =>
  rw [hx] at hc
  refine orderly_ite (orderly_addF hc ..) (orderly_ite (orderly_each ?_ _ _ fun _ h _ _ => orderly_deliverSignal h ..) ?_)
  all_goals exact orderly_forward (orderly_ite (orderly_addF hc ..) hc) ..

theorem orderly_handleFrame {s₀ s : State} (h : Orderly s₀ s) (p : Nat) (f : Frame) (st : Stamps) :
    Orderly s₀ (s.handleFrame p f st) := by
  unfold State.handleFrame
  refine orderly_ite ?_ ?_
  · refine orderly_ite ?_ ?_
    · exact orderly_linkCheck (h.of_modes (by simp)) ..
    · exact h.of_modes (by simp)
  · refine orderly_ite ?_ ?_
    · refine orderly_ite ?_ ?_
      · exact h.of_modes (by simp)
      · refine orderly_ite ?_ ?_
        · exact h.of_modes (by simp)
        · exact h.of_modes (by simp)
    · refine orderly_ite ?_ ?_
      · exact orderly_goUp (h.of_modes (by simp)) ..
      · refine orderly_ite ?_ ?_
        · exact orderly_goTree (h.of_modes (by simp)) ..
        · refine orderly_ite ?_ ?_
          · exact orderly_transit (h.of_modes (by simp)) ..
          · refine orderly_ite ?_ ?_
            · exact h.of_modes (by simp)
            · refine orderly_ite ?_ ?_
              · exact orderly_sync (h.of_modes (by simp)) ..
              · refine orderly_ite ?_ ?_
                · exact orderly_signal (h.of_modes (by simp)) ..
                · exact orderly_service (h.of_modes (by simp)) ..

theorem orderly_receive {s₀ s : State} (h : Orderly s₀ s) (p : Nat) (f : Frame) (st : Stamps) :
    Orderly s₀ (s.receive p f st) := by
  unfold State.receive
  dsimp only
  refine orderly_ite (orderly_receiveWaggles h ..) (orderly_ite (orderly_handleFrame ?_ ..) ?_)
  all_goals exact orderly_portCheck h ..

theorem orderly_receiveKind {s₀ s : State} (h : Orderly s₀ s) {is : Bool} {port : Fin 4} {f : Frame} {st : Stamps} {t : Nat} {u : State}
    (hu : s.receiveKind is port f st t = .next u) :
    Orderly s₀ u :=
  orderly_done (orderly_ite (orderly_receive (orderly_parts h) ..) h) hu

theorem orderly_tally {s₀ s : State} (h : Orderly s₀ s) :
    Orderly s₀ s.tally := by
  unfold State.tally
  extract_lets known old new room joined s1 s2 limit kept left s3 s4 table here live s5 s6 table' s7 nodes depth s8
  have h2 : Orderly s₀ s2 := orderly_each (orderly_ite (orderly_noteEnds h ..) h) _ _ fun _ h _ _ => orderly_noteLasting
      (orderly_sendRefused h ..) ..
  have h4 : Orderly s₀ s4 := orderly_each (orderly_each h2 _ _ fun _ h _ _ => orderly_note (orderly_addF h ..) ..) _ _ fun _ h _ _ =>
      orderly_note (orderly_addF h ..) ..
  have h5 : Orderly s₀ s5 := by
    unfold s5
    split
    · exact orderly_setOn (orderly_refuseSelf h4 ..) ..
    · exact orderly_setOn h4 ..
  have h6 : Orderly s₀ s6 := orderly_each h5 _ _ fun _ h _ _ => by
    split
    · exact h.of_modes (by simp)
    · exact h
  have h8 : Orderly s₀ s8 := orderly_colonySize (orderly_setV (orderly_setV (orderly_parts h6) ..) ..) ..
  exact orderly_ite (orderly_startRound h8) h8

theorem orderly_ringPort {s₀ s : State} (h : Orderly s₀ s) (p : Nat) (missed : Bool) :
    Orderly s₀ (s.ringPort p missed) := by
  unfold State.ringPort
  refine orderly_ite ?_ ?_
  · refine orderly_ite ?_ ?_
    · exact orderly_raise (h.of_modes (by simp)) ..
    · exact h.of_modes (by simp)
  · refine orderly_ite (h.of_modes (by simp)) ?_
    refine orderly_ite ?_ ?_
    · exact orderly_note (orderly_clearCause (h.of_modes (by simp)) ..) ..
    · exact h.of_modes (by simp)

theorem orderly_ringCheck {s₀ s : State} (h : Orderly s₀ s) :
    Orderly s₀ s.ringCheck := by
  unfold State.ringCheck
  refine orderly_ite h ?_
  refine orderly_ite (h.of_modes (by simp)) ?_
  exact orderly_each (h.of_modes (by simp)) _ _ fun _ h _ _ => orderly_ringPort h ..

theorem orderly_cycleStart {s₀ s : State} (h : Orderly s₀ s) (start : Nat) (leave : List Nat) :
    Orderly s₀ (s.cycleStart start leave) := by
  unfold State.cycleStart
  refine orderly_ite ?_ ?_
  · exact orderly_sendSync (orderly_cycleActions (orderly_setF (orderly_setOn (orderly_ringCheck h) ..) ..) ..) ..
  · refine orderly_ite ?_ ?_
    · refine orderly_ite ?_ ?_
      · exact orderly_setOn (orderly_cycleActions (orderly_setF (orderly_setOn (orderly_ringCheck h) ..) ..) ..) ..
      · exact orderly_setDue (orderly_cycleActions (orderly_setF (orderly_setOn (orderly_ringCheck h) ..) ..) ..) ..
    · exact orderly_cycleActions (orderly_setF (orderly_setOn (orderly_ringCheck h) ..) ..) ..

theorem orderly_publishFrame {s₀ s : State} (h : Orderly s₀ s) (n : Nat) :
    Orderly s₀ (s.publishFrame n) := by
  unfold State.publishFrame
  refine orderly_ite h ?_
  refine orderly_ite ?_ ?_
  · exact orderly_each (h.of_modes (by simp)) _ _ fun _ h _ _ => orderly_deliverSignal h ..
  · exact h.of_modes (by simp)

theorem orderly_cannotClaim {s₀ s : State} (h : Orderly s₀ s) (ch : Nat) :
    Orderly s₀ (s.cannotClaim ch) :=
  orderly_raise (h.of_modes (by simp)) ..

theorem orderly_loseAddress {s₀ s : State} (h : Orderly s₀ s) (ch : Nat) :
    Orderly s₀ (s.loseAddress ch) := by
  unfold State.loseAddress
  refine orderly_ite ?_ ?_
  · split
    · exact h.of_modes (by simp)
    · exact orderly_cannotClaim (h.of_modes (by simp)) ..
  · exact orderly_cannotClaim (h.of_modes (by simp)) ..

theorem orderly_claimFrame {s₀ s : State} (h : Orderly s₀ s) (ch : Nat) (f : CanFrame) :
    Orderly s₀ (s.claimFrame ch f) := by
  unfold State.claimFrame
  refine orderly_ite ?_ (h.of_modes (by simp))
  refine orderly_ite ?_ (orderly_parts h)
  refine orderly_ite ?_ ?_
  · exact orderly_loseAddress (h.of_modes (by simp)) ..
  · exact h.of_modes (by simp)

theorem orderly_canReceive {s₀ s : State} (h : Orderly s₀ s) (ch : Nat) (f : CanFrame) :
    Orderly s₀ (s.canReceive ch f) := by
  unfold State.canReceive
  refine orderly_ite h ?_
  dsimp only
  split
  · exact orderly_canQueue (orderly_claimFrame (h.of_modes (by simp)) ..) ..
  · refine orderly_ite ?_ ?_
    · exact orderly_addF (orderly_claimFrame (h.of_modes (by simp)) ..) ..
    · exact orderly_note (orderly_addF (orderly_addF (orderly_claimFrame (h.of_modes (by simp)) ..) ..) ..) ..

theorem orderly_mapService {s₀ s : State} (h : Orderly s₀ s) (ch : Nat) (f : CanFrame) :
    Orderly s₀ (s.mapService ch f) := by
  unfold State.mapService
  refine orderly_ite (h.of_modes (by simp)) ?_
  refine orderly_ite (h.of_modes (by simp)) ?_
  split
  · exact orderly_serve h ..

theorem orderly_mapEntry {s₀ s : State} (h : Orderly s₀ s) :
    Orderly s₀ s.mapEntry := by
  unfold State.mapEntry
  refine orderly_ite h ?_
  split
  · exact h
  · refine orderly_ite (h.of_modes (by simp)) ?_
    dsimp only
    split
    · exact h.of_modes (by simp)
    · refine orderly_ite ?_ ?_
      · exact orderly_mapParam (h.of_modes (by simp)) ..
      · exact orderly_mapService (h.of_modes (by simp)) ..

theorem orderly_busOff {s₀ s : State} (h : Orderly s₀ s) (ch : Nat) :
    Orderly s₀ (s.busOff ch) := by
  unfold State.busOff
  refine orderly_ite ?_ ?_
  · exact orderly_raise (h.of_modes (by simp)) ..
  · refine orderly_ite ?_ ?_
    · refine orderly_noteLasting ?_ ..
      refine orderly_setFb ?_ ..
      refine orderly_ite ?_ ?_
      · exact orderly_addV (orderly_raise (h.of_modes (by simp)) ..) ..
      · exact orderly_setV (orderly_openSlow (orderly_raise (h.of_modes (by simp)) ..) ..) ..
    · refine orderly_setF ?_ ..
      refine orderly_ite ?_ ?_
      · exact orderly_addV (orderly_raise (h.of_modes (by simp)) ..) ..
      · exact orderly_setV (orderly_openSlow (orderly_raise (h.of_modes (by simp)) ..) ..) ..

theorem orderly_canError {s₀ s : State} (h : Orderly s₀ s) (ch kind : Nat) :
    Orderly s₀ (s.canError ch kind) := by
  unfold State.canError
  refine orderly_ite h ?_
  refine orderly_ite ?_ ?_
  · exact orderly_ite (orderly_busOff (h.of_modes (by simp)) ..) (h.of_modes (by simp))
  · exact h.of_modes (by simp)

theorem orderly_driveOn {s₀ s : State} (h : Orderly s₀ s) (c t : Nat) :
    Orderly s₀ (s.driveOn c t) := by
  unfold State.driveOn
  refine orderly_ite ?_ ?_
  · exact orderly_clearCause (orderly_clearCause (h.of_modes (by simp)) ..) ..
  · exact h.of_modes (by simp)

theorem orderly_onEdge {s₀ s : State} (h : Orderly s₀ s) (e : Edge) :
    Orderly s₀ (s.onEdge e) := by
  unfold State.onEdge
  refine orderly_ite (h.of_modes (by simp)) ?_
  refine orderly_ite (h.of_modes (by simp)) ?_
  refine orderly_ite (h.of_modes (by simp)) ?_
  refine orderly_ite (h.of_modes (by simp)) ?_
  refine orderly_ite ?_ ?_
  · refine orderly_ite (h.of_modes (by simp)) ?_
    exact h.of_modes (by simp)
  · exact orderly_driveOn (h.of_modes (by simp)) ..

theorem orderly_commandEdge {s₀ s : State} (h : Orderly s₀ s) (c : Nat) :
    Orderly s₀ (s.commandEdge c) := by
  unfold State.commandEdge
  split
  · exact h
  · refine orderly_ite (orderly_onEdge (orderly_parts h) ..) ?_
    refine orderly_ite (h.of_modes (by simp)) ?_
    refine orderly_ite (h.of_modes (by simp)) ?_
    exact orderly_ite (orderly_onEdge (orderly_parts h) ..) (h.of_modes (by simp))

end Sys2Proof.Machine.State

end

-- ==== The commands are orderly ====
section
/-!
Every command but those of `startsOrEnds`.
-/

namespace Sys2Proof.Machine.State
open Sys2Proof Sys2Proof.Machine

theorem orderly_openBy {s₀ s : State} (h : Orderly s₀ s) (c : Nat) (t : Timer) (i len : Nat) : Orderly s₀ (s.openBy c t i len) :=
  h.of_modes (modes_openBy ..)

theorem orderly_testsBegin {s₀ s : State} (h : Orderly s₀ s) : Orderly s₀ s.testsBegin :=
  h.of_modes (modes_testsBegin ..)

theorem orderly_countV {s₀ s : State} (h : Orderly s₀ s) (x : Var) (i : Nat) : Orderly s₀ (s.countV x i) :=
  h.of_modes (modes_countV ..)

theorem orderly_resAdvance {s₀ s : State} (h : Orderly s₀ s) (n c : Nat) : Orderly s₀ (s.resAdvance n c) :=
  h.of_modes (modes_resAdvance ..)

theorem orderly_resCorrect {s₀ s : State} (h : Orderly s₀ s) (n : Nat) (e : Int) : Orderly s₀ (s.resCorrect n e) :=
  h.of_modes (modes_resCorrect ..)

theorem orderly_stoRestore {s₀ s : State} (h : Orderly s₀ s) (g : Nat) : Orderly s₀ (s.stoRestore g) :=
  h.of_modes (modes_stoRestore ..)

theorem orderly_pathCheck {s₀ s : State} (h : Orderly s₀ s) (g : Nat) (hw sw drv : Bool) : Orderly s₀ (s.pathCheck g hw sw drv) :=
  h.of_modes (modes_pathCheck ..)

theorem orderly_drained {s₀ s : State} (h : Orderly s₀ s) : Orderly s₀ s.drained :=
  h.of_modes (modes_drained ..)

theorem orderly_becomeRoot {s₀ s : State} (h : Orderly s₀ s) : Orderly s₀ s.becomeRoot :=
  h.of_modes (modes_becomeRoot ..)

theorem orderly_txForm {s₀ s : State} (h : Orderly s₀ s) (i : Nat) (vals : List Nat) : Orderly s₀ (s.txForm i vals) :=
  h.of_modes (modes_txForm ..)

theorem orderly_terminate {s₀ s : State} (h : Orderly s₀ s) (n : Nat) : Orderly s₀ (s.terminate n) :=
  h.of_modes (modes_terminate ..)

theorem orderly_execImageApplied {s : State} {t : Nat} {u : State} (hu : execImageApplied t s = .next u) :
    Orderly s u := by
  have h := Orderly.refl s
  unfold execImageApplied at hu
  refine orderly_done ?_ hu
  refine orderly_ite ?_ ?_
  · exact orderly_testsBegin (orderly_unitsBegin (h.of_modes (by simp)))
  · exact orderly_parts h

theorem orderly_execDebugAction {s : State} {core : Fin 3} {kind : DebugKind} {u : State} (hu : execDebugAction core kind s = .next u) :
    Orderly s u := by
  have h := Orderly.refl s
  unfold execDebugAction at hu
  refine orderly_done ?_ hu
  refine orderly_ite ?_ h
  dsimp only
  split
  · refine orderly_ite ?_ ?_
    · exact h.of_modes (by simp)
    · exact h.of_modes (by simp)
  · refine orderly_ite ?_ ?_
    · exact h.of_modes (by simp)
    · exact h.of_modes (by simp)
  · exact h.of_modes (by simp)

theorem orderly_execPllBackupLock {s : State} {t : Nat} {u : State} (hu : execPllBackupLock t s = .next u) :
    Orderly s u := by
  have h := Orderly.refl s
  unfold execPllBackupLock at hu
  refine orderly_done ?_ hu
  refine orderly_ite ?_ ?_
  · exact h.of_modes (by simp)
  · exact orderly_parts h

theorem orderly_execSliceSwap {s : State} {core : Fin 4} {u : State} (hu : execSliceSwap core s = .next u) :
    Orderly s u := by
  have h := Orderly.refl s
  unfold execSliceSwap at hu
  refine orderly_done ?_ hu
  refine orderly_expire h _ _ _ ?_
  intro _ h
  refine orderly_ite (h.of_modes (by simp)) ?_
  refine orderly_ite ?_ ?_
  · exact orderly_note (orderly_clearCause (orderly_clearCause (h.of_modes (by simp)) ..) ..) ..
  · exact h.of_modes (by simp)

theorem orderly_execSliceCalDone {s : State} {core : Fin 4} {offset gain skew : Int} {u : State}
    (hu : execSliceCalDone core offset gain skew s = .next u) :
    Orderly s u := by
  have h := Orderly.refl s
  unfold execSliceCalDone at hu
  refine orderly_done ?_ hu
  refine orderly_expire h _ _ _ ?_
  intro _ h
  refine orderly_ite (h.of_modes (by simp)) ?_
  refine orderly_ite (h.of_modes (by simp)) ?_
  exact orderly_raise (h.of_modes (by simp)) ..

theorem orderly_execSubstituteEvent {s : State} {core : Fin 4} {t : Stage} {middle : Bool} {conv : List Conv} {u : State}
    (hu : execSubstituteEvent core t middle conv s = .next u) :
    Orderly s u := by
  have h := Orderly.refl s
  unfold execSubstituteEvent at hu
  refine orderly_done ?_ hu
  refine orderly_ite h ?_
  refine orderly_preEval ?_
  refine orderly_ite ?_ ?_
  · refine orderly_slotEvent ?_ ..
    refine orderly_fbEvent ?_ ..
    refine orderly_coreEvent ?_ ..
    refine orderly_setFb ?_ ..
    refine orderly_ite (h.of_modes (by simp)) ?_
    exact h.of_modes (by simp)
  · refine orderly_coreEvent ?_ ..
    refine orderly_setFb ?_ ..
    refine orderly_ite (h.of_modes (by simp)) ?_
    exact h.of_modes (by simp)

theorem orderly_execDmaBurstWritten {s : State} {b : DmaBurst} {u : State} (hu : execDmaBurstWritten b s = .next u) :
    Orderly s u := by
  have h := Orderly.refl s
  unfold execDmaBurstWritten at hu
  dsimp only at hu
  split at hu
  · exact orderly_done (orderly_coreUntil h ..) hu
  · exact orderly_done (orderly_parts (orderly_each (orderly_coreUntil h ..) _ _ fun _ h _ _ => h.of_modes (by simp))) hu

theorem orderly_execHallInvalid {s : State} {channel : Fin 8} {pins : List PinChange} {u : State}
    (hu : execHallInvalid channel pins s = .next u) :
    Orderly s u := by
  have h := Orderly.refl s
  unfold execHallInvalid at hu
  refine orderly_fbDone ?_ hu
  refine orderly_fbExpire (orderly_fbPins h ..) _ _ _ _ ?_
  intro _ h
  refine orderly_ite (orderly_fbSignal (orderly_refFalls h ..) ..) ?_
  exact orderly_filterFrom (orderly_fbSignal (orderly_refFalls h ..) ..) ..

theorem orderly_execWireFault {s : State} {channel : Fin 8} {pair : Fin 4} {pins : List PinChange} {u : State}
    (hu : execWireFault channel pair pins s = .next u) :
    Orderly s u := by
  have h := Orderly.refl s
  unfold execWireFault at hu
  refine orderly_fbDone ?_ hu
  refine orderly_fbExpire (orderly_fbPins h ..) _ _ _ _ ?_
  intro _ h
  refine orderly_ite (orderly_fbSignal (h.of_modes (by simp)) ..) ?_
  exact orderly_filterFrom (orderly_fbSignal (h.of_modes (by simp)) ..) ..

theorem orderly_execSupplyFault {s : State} {channel : Fin 8} {u : State} (hu : execSupplyFault channel s = .next u) :
    Orderly s u := by
  have h := Orderly.refl s
  unfold execSupplyFault at hu
  refine orderly_fbDone ?_ hu
  refine orderly_ite ?_ ?_
  · exact orderly_fbSignal (h.of_modes (by simp)) ..
  · exact h

theorem orderly_execResWindowEnd {s : State} {channel : Fin 2} {conv : List Int} {u : State}
    (hu : execResWindowEnd channel conv s = .next u) :
    Orderly s u := by
  have h := Orderly.refl s
  unfold execResWindowEnd at hu
  refine orderly_fbDone ?_ hu
  refine orderly_expire h _ _ _ ?_
  intro _ h
  refine orderly_moved ?_ ..
  refine orderly_ite ?_ ?_
  · exact orderly_resAmp (orderly_resAdvance (orderly_setDue (orderly_setV (orderly_setV (orderly_each (orderly_coreTo (h.of_modes
        (by simp)) ..) _ _ fun _ h _ _ => h.of_modes (by simp)) ..) ..) ..) ..) ..
  · exact orderly_resTrack (orderly_resCorrect (orderly_resAmp (orderly_resAdvance (orderly_setDue (orderly_setV (orderly_setV
        (orderly_each (orderly_coreTo (h.of_modes (by simp)) ..) _ _ fun _ h _ _ => h.of_modes (by simp)) ..) ..) ..) ..) ..) ..) ..

theorem orderly_execExcPeriod {s : State} {channel : Fin 2} {amp : Nat} {limit : Bool} {u : State}
    (hu : execExcPeriod channel amp limit s = .next u) :
    Orderly s u := by
  have h := Orderly.refl s
  unfold execExcPeriod at hu
  dsimp only at hu
  split at hu
  · exact orderly_done h hu
  · split at hu
    · split at hu
      · split at hu
        · exact orderly_fbDone (orderly_fbSignal (h.of_modes (by simp)) ..) hu
        · split at hu
          · exact orderly_fbDone (orderly_fbClear (h.of_modes (by simp)) ..) hu
          · exact orderly_done (h.of_modes (by simp)) hu
      · split at hu
        · exact orderly_fbDone (orderly_fbSignal (h.of_modes (by simp)) ..) hu
        · split at hu
          · exact orderly_fbDone (orderly_fbClear (h.of_modes (by simp)) ..) hu
          · exact orderly_done (h.of_modes (by simp)) hu
    · split at hu
      · split at hu
        · exact orderly_fbDone (orderly_fbSignal (h.of_modes (by simp)) ..) hu
        · split at hu
          · exact orderly_fbDone (orderly_fbClear (h.of_modes (by simp)) ..) hu
          · exact orderly_done (h.of_modes (by simp)) hu
      · split at hu
        · exact orderly_fbDone (orderly_fbSignal (h.of_modes (by simp)) ..) hu
        · split at hu
          · exact orderly_fbDone (orderly_fbClear (h.of_modes (by simp)) ..) hu
          · exact orderly_done (h.of_modes (by simp)) hu

theorem orderly_execSsiFrameDone {s : State} {channel : Fin 8} {pins : List PinChange} {u : State}
    (hu : execSsiFrameDone channel pins s = .next u) :
    Orderly s u := by
  have h := Orderly.refl s
  unfold execSsiFrameDone at hu
  refine orderly_fbDone ?_ hu
  refine orderly_expire h _ _ _ ?_
  intro _ h
  dsimp only
  split
  · refine orderly_ite ?_ ?_
    · exact orderly_fbSignal (orderly_setFb (orderly_countV (orderly_setV (orderly_ssiRead h ..) ..) ..) ..) ..
    · exact orderly_countV (orderly_setV (orderly_ssiRead h ..) ..) ..
  · exact orderly_ssiGood (orderly_fbClear (orderly_setFb (orderly_setV (orderly_ssiRead h ..) ..) ..) ..) ..

theorem orderly_execSpeedWindowEnd {s : State} {channel : Fin 8} {u : State} (hu : execSpeedWindowEnd channel s = .next u) :
    Orderly s u := by
  have h := Orderly.refl s
  unfold execSpeedWindowEnd at hu
  refine orderly_fbDone ?_ hu
  refine orderly_fbExpire h _ _ _ _ ?_
  intro _ h
  refine orderly_setF ?_ ..
  refine orderly_ite ?_ ?_
  · exact orderly_addF (orderly_setFb (orderly_fbRun (h.of_modes (by simp)) ..) ..) ..
  · refine orderly_ite ?_ ?_
    · exact orderly_addF (orderly_setFb (orderly_fbRun (h.of_modes (by simp)) ..) ..) ..
    · exact orderly_fbRun (h.of_modes (by simp)) ..

theorem orderly_execSlotTrigger {s : State} {slot : Fin 48} {u : State} (hu : execSlotTrigger slot s = .next u) :
    Orderly s u := by
  have h := Orderly.refl s
  unfold execSlotTrigger at hu
  refine orderly_done ?_ hu
  refine orderly_ite ?_ ?_
  · exact orderly_expire h _ _ _ fun _ h => orderly_slotTrigger (h.of_modes (by simp)) ..
  · exact orderly_expire h _ _ _ fun _ h => orderly_slotTrigger h ..

theorem orderly_execSlotRunStart {s : State} {lane : Fin 4} {t : Nat} {u : State} (hu : execSlotRunStart lane t s = .next u) :
    Orderly s u := by
  have h := Orderly.refl s
  unfold execSlotRunStart at hu
  refine orderly_done ?_ hu
  split
  · exact orderly_parts h
  · refine orderly_ite (orderly_parts h) ?_
    exact h.of_modes (by simp)

theorem orderly_execSlotRunEnd {s : State} {lane : Fin 4} {u : State} (hu : execSlotRunEnd lane s = .next u) :
    Orderly s u := by
  have h := Orderly.refl s
  unfold execSlotRunEnd at hu
  refine orderly_done ?_ hu
  refine orderly_expire h _ _ _ ?_
  intro _ h
  split
  · exact h
  · refine orderly_ite (orderly_parts h) ?_
    exact orderly_each (orderly_publish (h.of_modes (by simp)) ..) _ _ fun _ h _ _ => h.of_modes (by simp)

theorem orderly_execSpLost {s : State} {slot : Fin 48} {u : State} (hu : execSpLost slot s = .next u) :
    Orderly s u := by
  have h := Orderly.refl s
  unfold execSpLost at hu
  refine orderly_done ?_ hu
  refine orderly_ite (orderly_expire h _ _ _ fun _ h => orderly_spLost h ..) ?_
  exact orderly_ite (orderly_spLost h ..) h

theorem orderly_execLegReload {s : State} {leg : Fin 32} {u : State} (hu : execLegReload leg s = .next u) : Orderly s u :=
  orderly_done (orderly_legReload s leg.val) hu

theorem orderly_execSyncInEdge {s : State} {stamp : Nat} {u : State} (hu : execSyncInEdge stamp s = .next u) :
    Orderly s u := by
  have h := Orderly.refl s
  unfold execSyncInEdge at hu
  dsimp only at hu
  split at hu
  · exact orderly_done (h.of_modes (by simp)) hu
  · refine orderly_done ?_ hu
    refine orderly_each (h.of_modes (by simp)) _ _ ?_
    intro _ h _ _
    refine orderly_ite ?_ ?_
    · refine orderly_setDue ?_ ..
      refine orderly_ite (orderly_ite (h.of_modes (by simp)) (orderly_syncLose h ..)) ?_
      exact orderly_ite (orderly_syncLock h ..) h
    · refine orderly_ite (orderly_ite (h.of_modes (by simp)) (orderly_syncLose h ..)) ?_
      exact orderly_ite (orderly_syncLock h ..) h

theorem orderly_execCbcTrip {s : State} {leg : Fin 32} {src : TripSrc} {conv : List Int} {t : Nat} {u : State}
    (hu : execCbcTrip leg src conv t s = .next u) :
    Orderly s u := by
  have h := Orderly.refl s
  unfold execCbcTrip at hu
  dsimp only at hu
  split at hu
  · exact orderly_done (orderly_multiLeg (orderly_cbcTrip (orderly_ite (orderly_parts h) (orderly_compared (orderly_parts h) ..)) ..) ..)
        hu
  · refine orderly_done ?_ hu
    refine orderly_ite ?_ ?_
    · exact orderly_cbcTrip (orderly_ite (orderly_parts h) (orderly_compared (orderly_parts h) ..)) ..
    · exact orderly_ite (orderly_parts h) (orderly_compared (orderly_parts h) ..)
  · refine orderly_done ?_ hu
    refine orderly_ite ?_ ?_
    · exact orderly_cbcTrip (orderly_ite (orderly_parts h) (orderly_compared (orderly_parts h) ..)) ..
    · exact orderly_ite (orderly_parts h) (orderly_compared (orderly_parts h) ..)

theorem orderly_execSyncCopyDone {s : State} {u : State} (hu : execSyncCopyDone s = .next u) :
    Orderly s u := by
  have h := Orderly.refl s
  unfold execSyncCopyDone at hu
  refine orderly_done ?_ hu
  refine orderly_expire h _ _ _ ?_
  intro _ h
  refine orderly_ite (h.of_modes (by simp)) ?_
  exact h.of_modes (by simp)

theorem orderly_execSwitchBackHandover {s : State} {t : Nat} {u : State} (hu : execSwitchBackHandover t s = .next u) :
    Orderly s u := by
  have h := Orderly.refl s
  unfold execSwitchBackHandover at hu
  refine orderly_done ?_ hu
  refine orderly_ite h ?_
  refine orderly_ite (orderly_parts h) ?_
  exact orderly_switchDone (h.of_modes (by simp))

theorem orderly_execShortTrip {s : State} {channel : Fin 64} {t : Nat} {vks : List Int} {u : State}
    (hu : execShortTrip channel t vks s = .next u) :
    Orderly s u := by
  have h := Orderly.refl s
  unfold execShortTrip at hu
  refine orderly_done ?_ hu
  refine orderly_ite (orderly_detectorTrip (orderly_parts h) ..) ?_
  exact h.of_modes (by simp)

theorem orderly_execUvloRelease {s : State} {channel : Fin 64} {negative : Bool} {u : State}
    (hu : execUvloRelease channel negative s = .next u) :
    Orderly s u := by
  have h := Orderly.refl s
  unfold execUvloRelease at hu
  refine orderly_done ?_ hu
  refine orderly_ite (h.of_modes (by simp)) ?_
  exact orderly_clearCause (h.of_modes (by simp)) ..

theorem orderly_execStatusFrame {s : State} {channel : Fin 64} {frame : FrameSeen} {t : Nat} {u : State}
    (hu : execStatusFrame channel frame t s = .next u) :
    Orderly s u := by
  have h := Orderly.refl s
  unfold execStatusFrame at hu
  dsimp only at hu
  split at hu
  · exact orderly_done (orderly_parts h) hu
  · split at hu
    · exact orderly_done (orderly_frameBad (orderly_parts h) ..) hu
    · exact orderly_done (orderly_frameBad (orderly_parts h) ..) hu
    · split at hu
      · split at hu
        · exact orderly_done (orderly_openBy (orderly_takeFrame (orderly_parts h) ..) ..) hu
        · refine orderly_done ?_ hu
          refine orderly_ite (orderly_linkClear (orderly_takeFrame (orderly_parts h) ..) ..) ?_
          exact orderly_takeFrame (orderly_parts h) ..
      · exact orderly_done (orderly_takeFrame (orderly_parts h) ..) hu

theorem orderly_execLinkFault {s : State} {channel : Fin 64} {u : State} (hu : execLinkFault channel s = .next u) :
    Orderly s u := by
  have h := Orderly.refl s
  unfold execLinkFault at hu
  dsimp only at hu
  split at hu
  · exact orderly_done h hu
  · exact orderly_done (orderly_raise (h.of_modes (by simp)) ..) hu

theorem orderly_execSkewMeasure {s : State} {channel : Fin 64} {ps : Nat} {u : State} (hu : execSkewMeasure channel ps s = .next u) :
    Orderly s u := by
  have h := Orderly.refl s
  unfold execSkewMeasure at hu
  dsimp only at hu
  split at hu
  · exact orderly_done h hu
  · refine orderly_done ?_ hu
    refine orderly_ite ?_ ?_
    · exact orderly_raise (h.of_modes (by simp)) ..
    · refine orderly_ite ?_ ?_
      · exact orderly_clearCause (h.of_modes (by simp)) ..
      · exact h.of_modes (by simp)

theorem orderly_execThermistorMeasure {s : State} {leg : Fin 26} {ohms : Nat} {u : State}
    (hu : execThermistorMeasure leg ohms s = .next u) :
    Orderly s u := by
  have h := Orderly.refl s
  unfold execThermistorMeasure at hu
  dsimp only at hu
  split at hu
  · exact orderly_done h hu
  · split at hu
    · exact orderly_done (h.of_modes (by simp)) hu
    · exact orderly_done (h.of_modes (by simp)) hu

theorem orderly_execStaggerSlot {s : State} {t : Stage} {u : State} (hu : execStaggerSlot t s = .next u) :
    Orderly s u := by
  have h := Orderly.refl s
  unfold execStaggerSlot at hu
  refine orderly_done ?_ hu
  refine orderly_expire h _ _ _ ?_
  intro _ h
  dsimp only
  split
  · exact h
  · exact h.of_modes (by simp)

theorem orderly_execSyncFree {s : State} {t : Nat} {u : State} (hu : execSyncFree t s = .next u) :
    Orderly s u := by
  have h := Orderly.refl s
  unfold execSyncFree at hu
  refine orderly_done ?_ hu
  refine orderly_ite ?_ ?_
  · exact h.of_modes (by simp)
  · exact h.of_modes (by simp)

theorem orderly_execHandbackDone {s : State} {u : State} (hu : execHandbackDone s = .next u) :
    Orderly s u := by
  have h := Orderly.refl s
  unfold execHandbackDone at hu
  refine orderly_done ?_ hu
  refine orderly_expire h _ _ _ ?_
  intro _ h
  refine orderly_ite ?_ ?_
  · exact orderly_ppStep (h.of_modes (by simp)) ..
  · exact orderly_ppStep h ..

theorem orderly_execChargeEval {s : State} {u : State} (hu : execChargeEval s = .next u) :
    Orderly s u := by
  have h := Orderly.refl s
  unfold execChargeEval at hu
  refine orderly_done ?_ hu
  refine orderly_expire h _ _ _ ?_
  intro _ h
  refine orderly_chargeStep ?_ ..
  refine orderly_ite ?_ ?_
  · exact h.of_modes (by simp)
  · exact h.of_modes (by simp)

theorem orderly_execArrived {s : State} {actuator : Fin 2} {u : State} (hu : execArrived actuator s = .next u) :
    Orderly s u := by
  have h := Orderly.refl s
  unfold execArrived at hu
  refine orderly_done ?_ hu
  refine orderly_expire h _ _ _ ?_
  intro _ h
  refine orderly_ite h ?_
  refine orderly_ite (h.of_modes (by simp)) ?_
  exact orderly_noteAt (orderly_clearCause (orderly_clearCause (orderly_clearCause (h.of_modes (by simp)) ..) ..) ..) ..

theorem orderly_execStoHwRelease {s : State} {group : Fin 4} {t : Nat} {u : State} (hu : execStoHwRelease group t s = .next u) :
    Orderly s u := by
  have h := Orderly.refl s
  unfold execStoHwRelease at hu
  refine orderly_done ?_ hu
  refine orderly_ite (h.of_modes (by simp)) ?_
  exact h.of_modes (by simp)

theorem orderly_execSafetySample {s : State} {levels : BitVec 10} {hw sw drv : BitVec 4} {u : State}
    (hu : execSafetySample levels hw sw drv s = .next u) :
    Orderly s u := by
  have h := Orderly.refl s
  unfold execSafetySample at hu
  refine orderly_done ?_ hu
  refine orderly_expire h _ _ _ ?_
  intro _ h
  refine orderly_ite (h.of_modes (by simp)) ?_
  exact orderly_brakeSync (orderly_each (orderly_samplePairs (h.of_modes (by simp)) ..) _ _ fun _ h _ _ => orderly_stoRestore
      (orderly_pathCheck (orderly_swCheck h ..) ..) ..)

theorem orderly_execStoDiscrepancy {s : State} {pair : Fin 5} {u : State} (hu : execStoDiscrepancy pair s = .next u) :
    Orderly s u := by
  have h := Orderly.refl s
  unfold execStoDiscrepancy at hu
  refine orderly_done ?_ hu
  refine orderly_expire h _ _ _ ?_
  intro _ h
  refine orderly_ite ?_ ?_
  · refine orderly_ite ?_ ?_
    · exact orderly_safeBit (orderly_raise (h.of_modes (by simp)) ..) ..
    · exact orderly_stoRequest (orderly_raise (h.of_modes (by simp)) ..) ..
  · refine orderly_brakeSync ?_
    refine orderly_raise ?_ ..
    refine orderly_ite (h.of_modes (by simp)) ?_
    exact orderly_sbcRequest (h.of_modes (by simp))

theorem orderly_execDiscrepancyCleared {s : State} {pair : Fin 5} {u : State} (hu : execDiscrepancyCleared pair s = .next u) :
    Orderly s u := by
  have h := Orderly.refl s
  unfold execDiscrepancyCleared at hu
  refine orderly_done ?_ hu
  refine orderly_expire h _ _ _ ?_
  intro _ h
  refine orderly_ite ?_ ?_
  · refine orderly_ite (orderly_clearCause (h.of_modes (by simp)) ..) ?_
    exact orderly_stoRelease (orderly_clearCause (h.of_modes (by simp)) ..) ..
  · refine orderly_ite (orderly_clearCause (h.of_modes (by simp)) ..) ?_
    exact orderly_sbcRelease (orderly_clearCause (h.of_modes (by simp)) ..)

theorem orderly_execStoGroupTestEnd {s : State} {group : Fin 4} {drv : BitVec 3} {t : Nat} {u : State}
    (hu : execStoGroupTestEnd group drv t s = .next u) : Orderly s u := by
  have h := Orderly.refl s
  unfold execStoGroupTestEnd at hu
  refine orderly_done ?_ hu
  refine orderly_ite (h.of_modes (by simp)) (orderly_ite ?_ (orderly_stoFail (h.of_modes (by simp)) ..))
  refine orderly_each (orderly_stoTested (h.of_modes (by simp)) ..) _ _ fun _ h _ _ => orderly_dite (fun hc => ?_) fun _ => h
  simp only [Bool.and_eq_true] at hc
  exact orderly_armStage h (serves_of_operable hc.1.1)

theorem orderly_execBrakeSwitchCheck {s : State} {brake : Fin 2} {obs : BrakeObs} {t : Nat} {u : State}
    (hu : execBrakeSwitchCheck brake obs t s = .next u) :
    Orderly s u := by
  have h := Orderly.refl s
  unfold execBrakeSwitchCheck at hu
  refine orderly_done ?_ hu
  refine orderly_ite (orderly_parts h) ?_
  refine orderly_ite ?_ ?_
  · exact orderly_brakeFault (h.of_modes (by simp)) ..
  · refine orderly_ite ?_ ?_
    · exact orderly_brakeFault (h.of_modes (by simp)) ..
    · refine orderly_ite ?_ ?_
      · exact orderly_brakeFault (h.of_modes (by simp)) ..
      · exact h.of_modes (by simp)

theorem orderly_execBrakeAppliedCheck {s : State} {brake : Fin 2} {obs : BrakeRest} {t : Nat} {u : State}
    (hu : execBrakeAppliedCheck brake obs t s = .next u) :
    Orderly s u := by
  have h := Orderly.refl s
  unfold execBrakeAppliedCheck at hu
  refine orderly_done ?_ hu
  refine orderly_ite (orderly_parts h) ?_
  refine orderly_ite (orderly_brakeFault (orderly_parts h) ..) ?_
  refine orderly_ite (orderly_parts h) ?_
  split
  · exact h.of_modes (by simp)
  · exact orderly_ite (orderly_parts h) (orderly_brakeClear (orderly_parts h) ..)

theorem orderly_execBrakeTestPhaseEnd {s : State} {brake : Fin 2} {u : State} (hu : execBrakeTestPhaseEnd brake s = .next u) :
    Orderly s u := by
  have h := Orderly.refl s
  unfold execBrakeTestPhaseEnd at hu
  refine orderly_done ?_ hu
  refine orderly_expire h _ _ _ ?_
  intro _ h
  refine orderly_ite h ?_
  dsimp only
  split
  · exact h.of_modes (by simp)
  · exact h.of_modes (by simp)
  · refine orderly_ite ?_ ?_
    · exact h.of_modes (by simp)
    · exact orderly_brakePassed h ..

theorem orderly_execContactorCheck {s : State} {levels : BitVec 8} {u : State} (hu : execContactorCheck levels s = .next u) :
    Orderly s u := by
  have h := Orderly.refl s
  unfold execContactorCheck at hu
  refine orderly_done ?_ hu
  refine orderly_expire h _ _ _ ?_
  intro _ h
  refine orderly_ite (h.of_modes (by simp)) ?_
  exact orderly_each (h.of_modes (by simp)) _ _ fun _ h _ _ => orderly_cfbCheck h ..

theorem orderly_execVMismatch {s : State} {m : Mismatch} {t : Nat} {u : State} (hu : execVMismatch m t s = .next u) :
    Orderly s u := by
  have h := Orderly.refl s
  unfold execVMismatch at hu
  refine orderly_done ?_ hu
  refine orderly_ite ?_ ?_
  · exact orderly_restartV (h.of_modes (by simp)) ..
  · exact orderly_parts h

theorem orderly_execVRestartDone {s : State} {core : Fin 2} {t : Nat} {u : State} (hu : execVRestartDone core t s = .next u) :
    Orderly s u := by
  have h := Orderly.refl s
  unfold execVRestartDone at hu
  refine orderly_done ?_ hu
  refine orderly_ite ?_ ?_
  · exact orderly_serveQueue (orderly_drained (orderly_note (orderly_clearCause (orderly_clearCause (h.of_modes (by simp)) ..) ..) ..))
  · exact h

theorem orderly_execPhyLinkUp {s : State} {port : Fin 4} {master : Bool} {t : Nat} {u : State}
    (hu : execPhyLinkUp port master t s = .next u) :
    Orderly s u := by
  have h := Orderly.refl s
  unfold execPhyLinkUp at hu
  refine orderly_done ?_ hu
  refine orderly_ite ?_ ?_
  · exact h.of_modes (by simp only [modes_openSlow, modes_setV, modes_setFb, modes_setPort, modes_parts])
  · exact h

theorem orderly_execPhyLinkLoss {s : State} {port : Fin 4} {t : Nat} {u : State} (hu : execPhyLinkLoss port t s = .next u) :
    Orderly s u := by
  have h := Orderly.refl s
  unfold execPhyLinkLoss at hu
  refine orderly_done ?_ hu
  refine orderly_ite ?_ ?_
  · exact h.of_modes (by simp)
  · exact orderly_portDown (orderly_parts h) ..

theorem orderly_execLinkCheckSend {s : State} {port : Fin 4} {u : State} (hu : execLinkCheckSend port s = .next u) :
    Orderly s u := by
  have h := Orderly.refl s
  unfold execLinkCheckSend at hu
  refine orderly_done ?_ hu
  split
  · exact h
  · exact h.of_modes (by simp)

theorem orderly_execErrorWindowEnd {s : State} {port : Fin 4} {u : State} (hu : execErrorWindowEnd port s = .next u) :
    Orderly s u := by
  have h := Orderly.refl s
  unfold execErrorWindowEnd at hu
  refine orderly_done ?_ hu
  split
  · exact h
  · exact orderly_expire h _ _ _ fun _ h => orderly_ite (orderly_portDown h ..) (h.of_modes (by simp))

theorem orderly_execRootLost {s : State} {u : State} (hu : execRootLost s = .next u) :
    Orderly s u := by
  have h := Orderly.refl s
  unfold execRootLost at hu
  refine orderly_done ?_ hu
  refine orderly_expire h _ _ _ ?_
  intro _ h
  refine orderly_ite ?_ ?_
  · exact orderly_becomeRoot (orderly_ite h (orderly_raise (h.of_modes (by simp)) ..))
  · exact orderly_ite h (orderly_raise (h.of_modes (by simp)) ..)

theorem orderly_execPdelaySend {s : State} {leave : List Nat} {u : State} (hu : execPdelaySend leave s = .next u) :
    Orderly s u := by
  have h := Orderly.refl s
  unfold execPdelaySend at hu
  refine orderly_done ?_ hu
  split
  · exact h
  · refine orderly_expire h _ _ _ ?_
    intro _ h
    refine orderly_ite (h.of_modes (by simp)) ?_
    exact h.of_modes (by simp)

theorem orderly_execMasterAssumed {s : State} {u : State} (hu : execMasterAssumed s = .next u) :
    Orderly s u := by
  have h := Orderly.refl s
  unfold execMasterAssumed at hu
  refine orderly_done ?_ hu
  refine orderly_expire h _ _ _ ?_
  intro _ h
  refine orderly_ite h ?_
  exact orderly_note (orderly_disciplineFree (orderly_setCycleLen (h.of_modes (by simp)) ..)) ..

theorem orderly_execCycleStart {s : State} {leave : List Nat} {u : State} (hu : execCycleStart leave s = .next u) :
    Orderly s u := by
  have h := Orderly.refl s
  unfold execCycleStart at hu
  refine orderly_done ?_ hu
  split
  · exact h
  · exact orderly_expire h _ _ _ fun _ h => orderly_ite (orderly_cycleStart h ..) h

theorem orderly_execTxPeriod {s : State} {entry : Fin 64} {u : State} (hu : execTxPeriod entry s = .next u) : Orderly s u := by
  have h := Orderly.refl s
  unfold execTxPeriod at hu
  refine orderly_done ?_ hu
  split
  · exact h
  · exact orderly_expire h _ _ _ fun _ h => h.of_modes (by simp)

theorem orderly_execTxChangeCheck {s : State} {entry : Fin 64} {u : State} (hu : execTxChangeCheck entry s = .next u) : Orderly s u := by
  have h := Orderly.refl s
  unfold execTxChangeCheck at hu
  refine orderly_done ?_ hu
  split
  · exact h
  · exact orderly_expire h _ _ _ fun _ h => orderly_ite (orderly_txForm (orderly_setDue h ..) ..) (orderly_setDue h ..)

theorem orderly_execBusRecovered {s : State} {channel : Fin 4} {t : Nat} {u : State} (hu : execBusRecovered channel t s = .next u) :
    Orderly s u := by
  have h := Orderly.refl s
  unfold execBusRecovered at hu
  refine orderly_done ?_ hu
  refine orderly_ite ?_ ?_
  · exact orderly_note (orderly_clearCause (h.of_modes (by simp)) ..) ..
  · exact h

theorem orderly_execSoftTurnOffDone {s : State} {channel : Fin 64} {u : State} (hu : execSoftTurnOffDone channel s = .next u) :
    Orderly s u := by
  have h := Orderly.refl s
  unfold execSoftTurnOffDone at hu
  refine orderly_done ?_ hu
  refine orderly_ite ?_ ?_
  · exact h.of_modes (by simp)
  · exact h

theorem orderly_execTerminateCondition {s : State} {leg : Fin 32} {conv : List Int} {t : Nat} {u : State}
    (hu : execTerminateCondition leg conv t s = .next u) :
    Orderly s u := by
  have h := Orderly.refl s
  unfold execTerminateCondition at hu
  refine orderly_done ?_ hu
  refine orderly_ite (orderly_terminate (orderly_compared (orderly_parts h) ..) ..) ?_
  exact orderly_compared (orderly_parts h) ..

theorem orderly_execCauseAbsent1ms {s : State} {cond : Fin 7} {u : State} (hu : execCauseAbsent1ms cond s = .next u) :
    Orderly s u := by
  have h := Orderly.refl s
  unfold execCauseAbsent1ms at hu
  refine orderly_done ?_ hu
  refine orderly_expire h _ _ _ ?_
  intro _ h
  refine orderly_ite (orderly_setFb (orderly_clearCause h ..) ..) ?_
  refine orderly_ite (orderly_setFb (orderly_clearCause h ..) ..) ?_
  exact orderly_chgSync (orderly_clearCause h ..)

/-- The commands that start the module or take its power: every other one is orderly. -/
def startsOrEnds : Instr → Bool
  | .vauxValid .. | .vauxInvalid .. | .holdupEnd .. | .wake .. | .canWakePattern ..
  | .fabricWakeSignal .. | .sleepEntered .. | .shipEntered ..
  | .injectionTestDone .. | .memoryTestDone .. | .logRebuild .. | .keyReadDone .. | .imageVerified .. | .readyReached .. | .restartBegin .. => true
  | _ => false

theorem orderly_exec {s u : State} {c : Instr} (hc : startsOrEnds c = false) (hu : exec c s = .next u) : Orderly s u := by
  have h := Orderly.refl s
  cases c with
  | vauxValid => cases hc
  | vauxInvalid => cases hc
  | holdupEnd => cases hc
  | wake => cases hc
  | canWakePattern => cases hc
  | fabricWakeSignal => cases hc
  | shipRequest => exact orderly_writeField (h.of_modes (by simp)) hu
  | sleepRequest => exact orderly_writeField h hu
  | sleepIdleExpired => exact orderly_done (h.of_modes (by simp)) hu
  | sleepEntered => cases hc
  | shipEntered => cases hc
  | injectionTestDone => cases hc
  | memoryTestDone => cases hc
  | logRebuild => cases hc
  | keyReadDone => cases hc
  | imageVerified => cases hc
  | imageApplied => exact orderly_execImageApplied hu
  | gateSupplyGroup => exact orderly_done (orderly_expire h _ _ _ fun _ h => orderly_supplyChecked h ..) hu
  | readyReached => cases hc
  | keyCheckPeriod =>
    exact orderly_done (orderly_expire h _ _ _ fun _ h => orderly_ite (orderly_keyChanged (h.of_modes (by simp))) (h.of_modes (by simp)))
        hu
  | keyWrite => exact orderly_serveAt h hu
  | keyWriteStepEnd => exact orderly_done (h.of_modes (by simp)) hu
  | restart => exact orderly_serveAt h hu
  | restartBegin => cases hc
  | serviceEnter => exact orderly_serveAt h hu
  | serviceExit => exact orderly_serveAt h hu
  | debugAction => exact orderly_execDebugAction hu
  | missingCycle => exact orderly_done (orderly_missedCycle h) hu
  | holdoverExpired => exact orderly_done (orderly_holdoverEnd h) hu
  | xtalFail => exact orderly_done (orderly_ite h (orderly_hardClockFault (h.of_modes (by simp)) ..)) hu
  | pllUnlock => exact orderly_done (orderly_ite h (orderly_hardClockFault (h.of_modes (by simp)) ..)) hu
  | clockCount => exact orderly_done (orderly_ite h (orderly_hardClockFault (h.of_modes (by simp)) ..)) hu
  | pllBackupLock => exact orderly_execPllBackupLock hu
  | correctionLimit => exact orderly_done (orderly_expire h _ _ _ fun _ h => orderly_raise h ..) hu
  | interconnectGrant => exact orderly_done (orderly_grant (h.of_modes (by simp)) ..) hu
  | scrubBlock => exact orderly_done (orderly_expire h _ _ _ fun _ h => orderly_scrubGrants (h.of_modes (by simp)) ..) hu
  | sliceSwap => exact orderly_execSliceSwap hu
  | sliceCalDone => exact orderly_execSliceCalDone hu
  | calStale => exact orderly_done (orderly_expire h _ _ _ fun _ h => orderly_raise (h.of_modes (by simp)) ..) hu
  | carrierStart => exact orderly_done (h.of_modes (by simp)) hu
  | periodStart => exact orderly_done (orderly_ite (orderly_stageEvent (h.of_modes (by simp)) ..) h) hu
  | periodMiddle => exact orderly_done (orderly_ite (orderly_stageEvent (h.of_modes (by simp)) ..) h) hu
  | substituteEvent => exact orderly_execSubstituteEvent hu
  | inputOverrange => exact orderly_done (orderly_ite (orderly_raise h ..) h) hu
  | dmaBurstWritten => exact orderly_execDmaBurstWritten hu
  | dmaOverflow => exact orderly_done (orderly_coreUntil h ..) hu
  | bufferFreezeWrite => exact orderly_writeField h hu
  | bufferFrozen => exact orderly_done (orderly_ite (orderly_raise (h.of_modes (by simp)) ..) h) hu
  | hkRound =>
    exact orderly_done (orderly_expire h _ _ _ fun _ h => orderly_addF (orderly_each (h.of_modes (by simp)) _ _ fun _ h _ _ =>
        orderly_hkPosition h ..) ..) hu
  | thermalRound => exact orderly_done (orderly_thermalRound h ..) hu
  | thermalRelease => exact orderly_serveAt h hu
  | encoderEdge => exact orderly_fbDone (orderly_fbInputs h ..) hu
  | indexQualified => exact orderly_fbDone (orderly_fbInputs h ..) hu
  | hallSectorChange => exact orderly_fbDone (orderly_fbInputs h ..) hu
  | hallInvalid => exact orderly_execHallInvalid hu
  | wireFault => exact orderly_execWireFault hu
  | wireFaultCleared =>
    exact orderly_fbDone (orderly_fbExpire (orderly_fbPins h ..) _ _ _ _ fun _ h => orderly_fbClear (h.of_modes (by simp)) ..) hu
  | supplyFault => exact orderly_execSupplyFault hu
  | supplyRetry => exact orderly_done (h.of_modes (by simp)) hu
  | resWindowEnd => exact orderly_execResWindowEnd hu
  | excPeriod => exact orderly_execExcPeriod hu
  | ssiWindow => exact orderly_fbDone (h.of_modes (by simp)) hu
  | ssiFrameDone => exact orderly_execSsiFrameDone hu
  | speedWindowEnd => exact orderly_execSpeedWindowEnd hu
  | speedZeroTime => exact orderly_fbDone (orderly_fbExpire h _ _ _ _ fun _ h => h.of_modes (by simp)) hu
  | slotTrigger => exact orderly_execSlotTrigger hu
  | slotRunStart => exact orderly_execSlotRunStart hu
  | slotRunEnd => exact orderly_execSlotRunEnd hu
  | followingError => exact orderly_done (orderly_expire h _ _ _ fun _ h => orderly_ite h (orderly_raise (h.of_modes (by simp)) ..)) hu
  | spLost => exact orderly_execSpLost hu
  | setpointWrite => exact orderly_writeField h hu
  | openLoop => exact orderly_serveAt h hu
  | closeLoop => exact orderly_serveAt h hu
  | commitComplete => exact orderly_done (h.of_modes (by simp)) hu
  | hostCommit => exact orderly_writeField h hu
  | legReload => exact orderly_execLegReload hu
  | periodWrite => exact orderly_writeField h hu
  | dllUnlock => exact orderly_done (orderly_raise (h.of_modes (by simp)) ..) hu
  | dllRelocked => exact orderly_done (orderly_note (orderly_clearCause (h.of_modes (by simp)) ..) ..) hu
  | syncInEdge => exact orderly_execSyncInEdge hu
  | syncInTimeout => exact orderly_done (orderly_expire h _ _ _ fun _ h => orderly_ite (orderly_syncLose h ..) h) hu
  | cbcTrip => exact orderly_execCbcTrip hu
  | tripWindowEnd => exact orderly_done (h.of_modes (by simp)) hu
  | selfCheckFail => exact orderly_done (orderly_selfCheckFail (orderly_parts h) ..) hu
  | wordMismatch => exact orderly_done (orderly_wordMismatch (orderly_parts h) ..) hu
  | readbackContradiction => exact orderly_done (orderly_contradiction (orderly_parts h) ..) hu
  | decisionTimeout => exact orderly_done (orderly_expire h _ _ _ fun _ h => orderly_ite h (orderly_undecided h ..)) hu
  | handoverGapEnd =>
    exact orderly_done (orderly_expire h _ _ _ fun _ h => orderly_ite (orderly_exhausted (h.of_modes (by simp)) ..) h) hu
  | interlockFault => exact orderly_done (orderly_ite (h.of_modes (by simp)) (orderly_holdSafe (h.of_modes (by simp)) ..)) hu
  | selfTestDone => exact orderly_done (h.of_modes (by simp)) hu
  | switchBack => exact orderly_serveAt h hu
  | syncCopyDone => exact orderly_execSyncCopyDone hu
  | qualifyEnd => exact orderly_done (orderly_qualifyEnd h) hu
  | switchBackHandover => exact orderly_execSwitchBackHandover hu
  | desatTrip => exact orderly_done (orderly_ite (orderly_detectorTrip (orderly_parts h) ..) (orderly_parts h)) hu
  | shortTrip => exact orderly_execShortTrip hu
  | gateUvlo => exact orderly_done (orderly_gateUvlo h ..) hu
  | uvloRelease => exact orderly_execUvloRelease hu
  | statusFrame => exact orderly_execStatusFrame hu
  | linkFault => exact orderly_execLinkFault hu
  | commandPathLost => exact orderly_done (h.of_modes (by simp)) hu
  | skewMeasure => exact orderly_execSkewMeasure hu
  | thermistorMeasure => exact orderly_execThermistorMeasure hu
  | enableRemoved => exact orderly_done (h.of_modes (by simp)) hu
  | staggerSlot => exact orderly_execStaggerSlot hu
  | regulatorUpdate => exact orderly_done (orderly_expire h _ _ _ fun _ h => orderly_regUpdate h) hu
  | softStartWindowEnd => exact orderly_done (h.of_modes (by simp)) hu
  | hiccupWaitEnd => exact orderly_done (h.of_modes (by simp)) hu
  | shedTimer => exact orderly_done (h.of_modes (by simp)) hu
  | shedBlockEnd => exact orderly_done (h.of_modes (by simp)) hu
  | linkUv => exact orderly_done (orderly_expire h _ _ _ fun _ h => orderly_linkFault (h.of_modes (by simp)) ..) hu
  | phaseImbalance => exact orderly_done (orderly_expire h _ _ _ fun _ h => orderly_linkFault (h.of_modes (by simp)) ..) hu
  | syncFree => exact orderly_execSyncFree hu
  | powerPathEval => exact orderly_done (orderly_expire h _ _ _ fun _ h => orderly_ppStep (h.of_modes (by simp)) ..) hu
  | halfCycleEnd => exact orderly_done (orderly_halfEnd h ..) hu
  | noZeroCrossing =>
    exact orderly_done (orderly_expire h _ _ _ fun _ h => orderly_ite (orderly_ppStep (orderly_ppLoss (h.of_modes (by simp)) ..) ..) h) hu
  | sourceQualified => exact orderly_done (orderly_expire h _ _ _ fun _ h => orderly_ppStep (orderly_qualNow h) ..) hu
  | handbackDone => exact orderly_execHandbackDone hu
  | stopTakeoverTimeout => exact orderly_done (h.of_modes (by simp)) hu
  | chargeEval => exact orderly_execChargeEval hu
  | chargeStart => exact orderly_serveAt h hu
  | chargeStop => exact orderly_serveAt h hu
  | battOc => exact orderly_done (orderly_expire h _ _ _ fun _ h => orderly_chgFault h ..) hu
  | arrived => exact orderly_execArrived hu
  | actTimeout => exact orderly_done (orderly_expire h _ _ _ fun _ h => orderly_ite h (orderly_raise (h.of_modes (by simp)) ..)) hu
  | actBlocked => exact orderly_done (orderly_expire h _ _ _ fun _ h => orderly_raise (h.of_modes (by simp)) ..) hu
  | holdOvercurrent => exact orderly_done (orderly_expire h _ _ _ fun _ h => orderly_raise (h.of_modes (by simp)) ..) hu
  | compareWrite => exact orderly_writeField h hu
  | compareCfgWrite => exact orderly_writeField h hu
  | stoHwRequest => exact orderly_done (h.of_modes (by simp)) hu
  | stoHwRelease => exact orderly_execStoHwRelease hu
  | sbcHwOpen => exact orderly_done (h.of_modes (by simp)) hu
  | safetySample => exact orderly_execSafetySample hu
  | stoDiscrepancy => exact orderly_execStoDiscrepancy hu
  | discrepancyCleared => exact orderly_execDiscrepancyCleared hu
  | pathDisagree => exact orderly_done (orderly_expire h _ _ _ fun _ h => orderly_raise (h.of_modes (by simp)) ..) hu
  | stoAutoTest => exact orderly_done (h.of_modes (by simp)) hu
  | stoGroupTestEnd => exact orderly_execStoGroupTestEnd hu
  | stoTestDue => exact orderly_done (orderly_expire h _ _ _ fun _ h => orderly_raise (h.of_modes (by simp)) ..) hu
  | brakeCommandWrite => exact orderly_writeField h hu
  | brakeSwitchCheck => exact orderly_execBrakeSwitchCheck hu
  | brakeAppliedCheck => exact orderly_execBrakeAppliedCheck hu
  | brakeTest => exact orderly_serveAt h hu
  | brakeTestPhaseEnd => exact orderly_execBrakeTestPhaseEnd hu
  | brakeTestDue => exact orderly_done (orderly_expire h _ _ _ fun _ h => orderly_raise (h.of_modes (by simp)) ..) hu
  | contactorCommandWrite => exact orderly_writeField h hu
  | contactorCheck => exact orderly_execContactorCheck hu
  | prechargeWeldCheck => exact orderly_done (orderly_expire h _ _ _ fun _ h => orderly_ite (orderly_welded h ..) h) hu
  | prechargeTimeout =>
    exact orderly_done (orderly_expire (orderly_preLast h) _ _ _ fun _ h => orderly_openOnFault (orderly_raise (h.of_modes (by simp))
        ..)) hu
  | contactorOpenDelay => exact orderly_done (h.of_modes (by simp)) hu
  | sMismatch => exact orderly_done (orderly_restartS (orderly_parts h) ..) hu
  | sWatchdog => exact orderly_done (orderly_ite h (orderly_restartS (orderly_parts h) ..)) hu
  | repeatWindowEnd => exact orderly_done (h.of_modes (by simp)) hu
  | warmRestartDone => exact orderly_done (orderly_warmDone (orderly_parts h) ..) hu
  | holdExpired => exact orderly_done (orderly_expire h _ _ _ fun _ h => orderly_ite (orderly_raise (h.of_modes (by simp)) ..) h) hu
  | vMismatch => exact orderly_execVMismatch hu
  | vWatchdog => exact orderly_done (orderly_ite (orderly_parts h) (orderly_restartV (orderly_parts h) ..)) hu
  | vRestartDone => exact orderly_execVRestartDone hu
  | splitV => exact orderly_serveAt h hu
  | splitVDone => exact orderly_done (orderly_splitDone (orderly_parts h) ..) hu
  | joinV => exact orderly_serveAt h hu
  | joinVDone => exact orderly_done (orderly_joinDone (orderly_parts h) ..) hu
  | recordWrite => exact orderly_done (h.of_modes (by simp)) hu
  | tokenRefill => exact orderly_done (h.of_modes (by simp)) hu
  | logRead => exact orderly_serveAt h hu
  | clearLog => exact orderly_serveAt h hu
  | clearDone => exact orderly_done (h.of_modes (by simp)) hu
  | cursorWrite => exact orderly_writeField h hu
  | windowRead => exact orderly_serveAt h hu
  | phyLinkUp => exact orderly_execPhyLinkUp hu
  | phyLinkLoss => exact orderly_execPhyLinkLoss hu
  | linkCheckSend => exact orderly_execLinkCheckSend hu
  | linkCheck => exact orderly_receiveKind h hu
  | linkTimeout => exact orderly_done (orderly_expire h _ _ _ fun _ h => orderly_portDown h ..) hu
  | errorWindowEnd => exact orderly_execErrorWindowEnd hu
  | holdOffEnd => exact orderly_done (h.of_modes (by simp)) hu
  | frameReceived => exact orderly_done (orderly_receive (orderly_parts h) ..) hu
  | topology => exact orderly_receiveKind h hu
  | wagglePeriodEnd => exact orderly_done (h.of_modes (by simp)) hu
  | waggle => exact orderly_done (orderly_receiveWaggles (orderly_parts h) ..) hu
  | waggleSettle => exact orderly_done (h.of_modes (by simp)) hu
  | waggleReply => exact orderly_receiveKind h hu
  | replyWindowEnd => exact orderly_done (orderly_expire h _ _ _ fun _ h => orderly_ite (orderly_tally h) h) hu
  | addressRefused => exact orderly_receiveKind h hu
  | rootLost => exact orderly_execRootLost hu
  | syncReceived => exact orderly_receiveKind h hu
  | pdelaySend => exact orderly_execPdelaySend hu
  | pdelayReq => exact orderly_receiveKind h hu
  | pdelayResp => exact orderly_receiveKind h hu
  | masterAssumed => exact orderly_execMasterAssumed hu
  | cycleStart => exact orderly_execCycleStart hu
  | publish => exact orderly_done (orderly_expire h _ _ _ fun _ h => orderly_publishFrame h ..) hu
  | signal => exact orderly_receiveKind h hu
  | duplicateStateExpiry => exact orderly_done (h.of_modes (by simp)) hu
  | serviceReq => exact orderly_receiveKind h hu
  | canFrameReceived => exact orderly_done (orderly_canReceive (orderly_parts h) ..) hu
  | canQueueTake => exact orderly_serveAt h hu
  | canAck => exact orderly_writeField h hu
  | ackLapsed => exact orderly_done (h.of_modes (by simp)) hu
  | mapEntry => exact orderly_done (orderly_mapEntry (orderly_parts h)) hu
  | txPeriod => exact orderly_execTxPeriod hu
  | txChangeCheck => exact orderly_execTxChangeCheck hu
  | canFrameSent => exact orderly_done (h.of_modes (by simp)) hu
  | canError => exact orderly_done (orderly_canError (orderly_parts h) ..) hu
  | busRecover => exact orderly_serveAt h hu
  | busRecovered => exact orderly_execBusRecovered hu
  | claimReceived => exact orderly_done (orderly_ite (orderly_canReceive (orderly_parts h) ..) h) hu
  | addressClaimed => exact orderly_done (h.of_modes (by simp)) hu
  | read => exact orderly_serveAt h hu
  | write => exact orderly_serveAt h hu
  | challenge => exact orderly_serveAt h hu
  | challengeExpiry => exact orderly_done (h.of_modes (by simp)) hu
  | lockoutEnd => exact orderly_done (h.of_modes (by simp)) hu
  | summary => exact orderly_serveAt h hu
  | arm => exact orderly_serveAt h hu
  | run => exact orderly_serveAt h hu
  | stop => exact orderly_serveAt h hu
  | windowControlWrite => exact orderly_writeOne h hu
  | stagingWrite => exact orderly_writeOne h hu
  | attnRelease => exact orderly_done (h.of_modes (by simp)) hu
  | commandEdge => exact orderly_done (orderly_commandEdge h ..) hu
  | gateReadback => exact orderly_done (h.of_modes (by simp)) hu
  | softTurnOffDone => exact orderly_execSoftTurnOffDone hu
  | terminateCondition => exact orderly_execTerminateCondition hu
  | excitationPeak => exact orderly_done (orderly_expire h _ _ _ fun _ h => orderly_coreEvent (h.of_modes (by simp)) ..) hu
  | holdRestoration => exact orderly_done (orderly_each (orderly_parts h) _ _ fun _ h _ _ => orderly_clearCause h ..) hu
  | supplyHeld => exact orderly_fbDone (orderly_expire h _ _ _ fun _ h => orderly_fbClear (h.of_modes (by simp)) ..) hu
  | hallCodeValid => exact orderly_fbDone (orderly_fbExpire (orderly_fbPins h ..) _ _ _ _ fun _ h => orderly_fbClear h ..) hu
  | flapWindowEnd => exact orderly_done (h.of_modes (by simp)) hu
  | authFailWindowEnd => exact orderly_done (h.of_modes (by simp)) hu
  | causeAbsent1ms => exact orderly_execCauseAbsent1ms hu

end Sys2Proof.Machine.State

end

-- ==== The transitions of the module (O49, O51, O52) ====
section
/-!
`Turns` adds the commands that start the module or take its power. The three statements are read off it.
-/

namespace Sys2Proof.Machine.State
open Sys2Proof Sys2Proof.Machine

/-! ### The commands that start the module or take its power -/

theorem modes_fresh (s : State) (m : ModState) : (s.fresh m).modes = (m, fun _ => .stopped) := by
  unfold State.fresh
  rw [modes_each _ _ _ fun _ _ => modes_setFb .., modes_setOn]
  exact congrArg (m, ·) (funext fun x => by cases x <;> rfl)

theorem modes_begin (s : State) (source unit : Nat) : (s.begin source unit).modes = (.starting, fun _ => .stopped) := by
  unfold State.begin
  simp [modes_fresh]

theorem modes_powerEnd (s : State) (m : ModState) : (s.powerEnd m).modes = (m, fun _ => .stopped) := by
  rw [State.powerEnd, modes_setV, modes_fresh]

theorem modes_startFail (s : State) (cause detail : Nat) : (s.startFail cause detail).modes = (.unconfigured, s.st) := by
  have hfail {u : State} (hu : u.modes = s.modes) : ((({ u with module := .unconfigured } : State).setV .startStep 0 0).canOff).modes
      = (.unconfigured, s.st) := by
    rw [modes_canOff, modes_setV]
    exact congrArg (ModState.unconfigured, ·) (congrArg Prod.snd hu)
  unfold State.startFail
  dsimp only
  split
  · exact hfail (by simp)
  · rw [modes_fabTrain]
    exact hfail (by simp)

/-- A start that has come to its decision goes on or fails. -/
theorem modes_startDecide (s : State) :
    s.startDecide.modes = s.modes ∨ s.module = .starting ∧ s.startDecide.modes = (.unconfigured, s.st) := by
  unfold State.startDecide
  split
  · exact .inl rfl
  next hc =>
    have hs : s.module = .starting := by
      simp only [Bool.or_eq_true, bne_iff_ne, ne_eq, not_or, not_not] at hc
      exact hc.1.1.1
    split
    · exact .inr ⟨hs, modes_startFail ..⟩
    · split
      · exact .inr ⟨hs, modes_startFail ..⟩
      · split
        · exact .inl rfl
        · split
          · exact .inr ⟨hs, modes_startFail ..⟩
          · exact .inl (by simp)

theorem modes_imageVerified (s : State) (bad1 bad2 : List Nat) :
    (s.imageVerified bad1 bad2).modes = s.modes ∨ (s.imageVerified bad1 bad2).modes = (.unconfigured, s.st) := by
  have hfail {u : State} (hu : u.modes = s.modes) (cause detail : Nat) : (u.startFail cause detail).modes = (.unconfigured, s.st) := by
    rw [modes_startFail, st_of_modes hu]
  unfold State.imageVerified
  dsimp only
  split
  · exact .inr (hfail (by simp) ..)
  · exact .inl (by simp)

/-- The module's state and the stages when READY is reached: a reaction that waited for it may take the module to SAFE at once. -/
theorem orderly_ready (s : State) : s.ready.serves ∨ s.ready.module = .safe ∧ ∀ x, s.ready.st x = .safe := by
  have h : Orderly { s with module := .ready } s.ready := by
    have hready := Orderly.refl { s with module := .ready }
    have hsafety : ∀ u : State, u.modes = ({ s with module := .ready } : State).modes →
        Orderly { s with module := .ready } u.safetyReady.canReady :=
      fun u hu => orderly_canReady (orderly_safetyReady (hready.of_modes hu))
    unfold State.ready
    exact orderly_ite (hsafety _ (by simp; rfl)) (orderly_openSlow (hsafety _ (by simp; rfl)) ..)
  exact h.stays (.inl rfl)

/-- What a command can do to the module's state and the stages (Table 1-5). -/
inductive Turns (c : Instr) (s u : State) : Prop
  | orderly (h : Orderly s u)
  | fresh (m : ModState) (hm : m ∈ [.off, .ship, .sleep, .starting]) (hu : u.modes = (m, fun _ => .stopped))
      (hs : s.module = .safe → m = .starting ∧ (∃ t, c = .restartBegin t) ∨ m = .off ∧ ∃ t, c = .holdupEnd t)
  | fails (hs : s.module = .starting) (hu : u.modes = (.unconfigured, s.st))
  | ready (hs : s.module = .starting) (hu : u.serves ∨ u.module = .safe ∧ ∀ x, u.st x = .safe)

theorem Turns.of_modes {c : Instr} {s w u : State} (h : Turns c s w) (hu : u.modes = w.modes) : Turns c s u := by
  have hm := module_of_modes hu
  have hst := st_of_modes hu
  cases h with
  | orderly h => exact .orderly (h.of_modes hu)
  | fresh m hmem hw hs => exact .fresh m hmem (hu.trans hw) hs
  | fails hs hw => exact .fails hs (hu.trans hw)
  | ready hs hw => exact .ready hs (by rwa [serves_of_modes hu, hm, hst])

theorem turns_done {c : Instr} {s w u : State} (h : Turns c s w) (hd : Machine.done w = .next u) : Turns c s u :=
  Host.Outcome.next.inj hd ▸ h.of_modes (by simp)

theorem turns_ite {c : Instr} {s : State} {p : Prop} [Decidable p] {w u : State} (hw : p → Turns c s w) (hu : ¬ p → Turns c s u) :
    Turns c s (if p then w else u) := by
  split
  · exact hw ‹_›
  · exact hu ‹_›

theorem turns_modes {c : Instr} {s u : State} (hu : u.modes = s.modes) : Turns c s u := .orderly ((Orderly.refl s).of_modes hu)

/-- A start begins elsewhere than in SAFE, or by a restart. -/
theorem turns_begin {c : Instr} {s w : State} (hs : s.module ≠ .safe ∨ ∃ t, c = .restartBegin t) (source unit : Nat) :
    Turns c s (w.begin source unit) :=
  .fresh .starting (by decide) (modes_begin ..) fun hsafe => .inl ⟨rfl, hs.resolve_left (absurd hsafe)⟩

theorem turns_wakeUp {c : Instr} {s w : State} (hw : w.modes = s.modes) (source unit : Nat) : Turns c s (w.wakeUp source unit) := by
  refine turns_ite (fun hc => turns_begin (.inl fun hsafe => ?_) ..) fun _ => turns_modes (by simp [hw])
  rw [← module_of_modes hw] at hsafe
  simp [hsafe] at hc

theorem turns_startDecide {c : Instr} {s w : State} (hw : w.modes = s.modes) : Turns c s w.startDecide := by
  obtain h | ⟨hs, h⟩ := modes_startDecide w
  · exact turns_modes (h.trans hw)
  · exact .fails ((module_of_modes hw).symm.trans hs) (by rw [h, st_of_modes hw])

theorem turns_lowPower {c : Instr} {s w : State} (hw : w.modes = s.modes) {kind : Nat} {m : ModState} {code : Nat}
    (hm : m = .sleep ∨ m = .ship) : Turns c s (w.lowPower kind m code) := by
  refine turns_ite (fun _ => turns_modes hw) fun hc => ?_
  have hs : s.module ≠ .safe := by
    rw [← module_of_modes hw]
    intro hsafe
    simp [hsafe] at hc
  exact turns_ite (fun _ => .fresh m (by obtain rfl | rfl := hm <;> decide) (modes_powerEnd ..) fun hsafe => absurd hsafe hs)
    fun _ => turns_begin (.inl hs) ..

theorem turns_vauxLost {c : Instr} {s w : State} (hw : w.modes = s.modes) : Turns c s w.vauxLost := by
  refine turns_ite (fun _ => turns_modes hw) fun _ => turns_ite (fun hc => .fresh .off (by decide) (modes_fresh ..) fun hsafe => ?_) fun _ => ?_
  · rw [← module_of_modes hw] at hsafe
    simp [hsafe] at hc
  · exact turns_modes (by simp [hw])

/-- What a command does to the module's state and the stages. -/
theorem turns_exec {s u : State} {c : Instr} (hu : exec c s = .next u) : Turns c s u := by
  have hnow (t : Nat) : ({ s with now := t } : State).modes = s.modes := modes_congr rfl rfl
  by_cases hc : startsOrEnds c = false
  · exact .orderly (orderly_exec hc hu)
  cases c with
  | vauxValid => exact turns_done (turns_ite (fun hoff => turns_begin (.inl (by simp_all)) ..) fun _ => turns_modes (hnow _)) hu
  | vauxInvalid => exact turns_done (turns_vauxLost (hnow _)) hu
  | holdupEnd t =>
    exact turns_done (turns_ite (fun _ => .fresh .off (by decide) (modes_powerEnd ..) fun _ => .inr ⟨rfl, t, rfl⟩) fun _ => turns_modes
      (hnow _)) hu
  | wake => exact turns_done (turns_wakeUp (by simp) ..) hu
  | canWakePattern => exact turns_done (turns_ite (fun _ => turns_wakeUp (hnow _) ..) fun _ => turns_modes (hnow _)) hu
  | fabricWakeSignal => exact turns_done (turns_ite (fun _ => turns_wakeUp (hnow _) ..) fun _ => turns_modes (hnow _)) hu
  | sleepEntered => exact turns_done (turns_lowPower (hnow _) (.inl rfl)) hu
  | shipEntered => exact turns_done (turns_lowPower (hnow _) (.inr rfl)) hu
  | injectionTestDone =>
    refine turns_done (turns_ite (fun _ => turns_startDecide (by simp)) fun _ => turns_ite (fun _ => turns_modes (by simp)) fun _ => ?_) hu
    exact .orderly (orderly_restartFails ((Orderly.refl s).of_modes (hnow _)))
  | memoryTestDone => exact turns_done (turns_ite (fun _ => turns_startDecide (by simp)) fun _ => turns_modes (hnow _)) hu
  | logRebuild => exact turns_done (turns_ite (fun _ => turns_startDecide (by simp)) fun _ => turns_modes (hnow _)) hu
  | keyReadDone => exact turns_done (turns_ite (fun _ => turns_startDecide (by simp)) fun _ => turns_modes (hnow _)) hu
  | imageVerified =>
    refine turns_done (turns_ite (fun hc => ?_) fun _ => turns_modes (hnow _)) hu
    simp only [Bool.and_eq_true, beq_iff_eq] at hc
    obtain h | h := modes_imageVerified { s with now := _ } _ _
    · exact turns_modes (h.trans (hnow _))
    · exact .fails hc.1 h
  | readyReached =>
    refine turns_done (turns_ite (fun hc => .ready ?_ (orderly_ready _)) fun _ => turns_modes (hnow _)) hu
    simp only [State.step8Ended, Bool.and_eq_true, beq_iff_eq] at hc
    exact hc.1.1.1.1.1.1.1.1.1.1
  | restartBegin t => exact turns_done (turns_ite (fun _ => turns_begin (.inr ⟨t, rfl⟩) ..) fun _ => turns_modes rfl) hu
  | _ => exact absurd rfl hc

/-- `quiet` in words. -/
theorem quiet_iff {s : State} : s.quiet = true ↔ s.serves ∨ s.module = .safe ∨ ∀ x, (s.st x).isActive = false := by
  have hall : (Stage.all.all fun x => !(s.st x).isActive) = true ↔ ∀ x, (s.st x).isActive = false := by
    rw [List.all_eq_true]
    exact ⟨fun h x => by simpa using h x (by cases x <;> decide), fun h x _ => by simp [h x]⟩
  unfold State.quiet serves
  cases hm : s.module <;> simp [hall]

theorem quiet_of_modes {s u : State} (h : u.modes = s.modes) : u.quiet = true ↔ s.quiet = true := by
  rw [quiet_iff, quiet_iff, serves_of_modes h, module_of_modes h, st_of_modes h]

theorem quiet_of_turns {c : Instr} {s u : State} (hs : s.quiet = true) (h : Turns c s u) : u.quiet = true := by
  rw [quiet_iff] at hs ⊢
  cases h with
  | orderly h =>
    by_cases hserves : s.serves
    · exact (h.stays hserves).imp id fun hsafe => .inl hsafe.1
    · obtain ⟨hm, hrests⟩ := h.rests hserves
      exact .inr ((hs.resolve_left hserves).imp hm.trans fun hidle x => hrests x (hidle x))
  | fresh m _ hu => exact .inr (.inr fun x => by rw [show u.st x = .stopped from congrArg (fun p => p.2 x) hu]; rfl)
  | fails hm hu =>
    have hidle := (hs.resolve_left (by simp [serves, hm])).resolve_left (by simp [hm])
    exact .inr (.inr fun x => by rw [show u.st = s.st from congrArg Prod.snd hu]; exact hidle x)
  | ready _ h => exact h.imp id fun hsafe => .inl hsafe.1

end Sys2Proof.Machine.State
end

section
open Sys2Proof Sys2Proof.Machine Sys2Proof.Machine.State

/-- Settles O49: no command arms or runs a stage outside READY, RUN and SERVICE, and those that lead there stop every stage. -/
theorem stagesRest : Obligations.StagesRest := by
  refine ⟨by decide +kernel, fun s u hs hu => ?_⟩
  unfold step at hu
  split at hu
  · cases hu
    exact (quiet_of_modes (modes_congr rfl rfl)).2 hs
  next c rest _ => exact quiet_of_turns (s := { s with pending := rest }) ((quiet_of_modes (modes_congr rfl rfl)).2 hs) (turns_exec hu)

/-- Settles O51: the module enters SAFE from READY, RUN and SERVICE with every stage, or when READY is reached. -/
theorem safeTakesStages : Obligations.SafeTakesStages := by
  intro s u c hu hs hsafe
  have hne : ¬ u.serves := fun hserves => not_safe_of_serves hserves hsafe
  cases turns_exec hu with
  | orderly h =>
    by_cases hserves : s.serves
    · exact ((h.stays hserves).resolve_left hne).2
    · exact absurd ((h.rests hserves).1.symm.trans hsafe) hs
  | fresh m hm h =>
    obtain rfl : m = .safe := (congrArg Prod.fst h).symm.trans hsafe
    exact absurd hm (by decide)
  | fails _ h => cases hsafe.symm.trans (congrArg Prod.fst h)
  | ready _ h => exact (h.resolve_left hne).2

/-- Settles O52: in SAFE every command but the begin of a restart and the end of the hold-up leaves the module's state. -/
theorem safeIsLeft : Obligations.SafeIsLeft := by
  intro s u c hs hu
  cases turns_exec hu with
  | orderly h => exact .inl (module_of_orderly_safe h hs)
  | fresh m _ h hleft =>
    have hm : u.module = m := congrArg Prod.fst h
    exact .inr ((hleft hs).imp (fun ⟨hstart, hc⟩ => ⟨hm.trans hstart, hc⟩) fun ⟨hoff, hc⟩ => ⟨hm.trans hoff, hc⟩)
  | fails hstart => cases hs.symm.trans hstart
  | ready hstart => cases hs.symm.trans hstart

end

-- ==== A failed test of start step 8 with reaction MODULE_SAFE (O48) ====
section
/-!
The counterexample to O48. An STO test of start step 8 that failed with TEST_REACTION = 7 (MODULE_SAFE, admissible by R530) is carried
out once READY is reached (R501), in the same command: the module goes from STARTING to SAFE, which Table 1-5 does not list. The state
at READY holds values that the spec leaves open (`Config.readbackDelay`), so the command's end is not evaluated but followed.
-/

namespace Sys2Proof.Machine.State
open Sys2Proof Sys2Proof.Machine

/-- The machine at the end of start step 8 with the test of STO group 0 failed and MODULE_SAFE as the reaction to that. -/
def failedTest : State :=
  ((((({ State.reset with module := .starting } : State).setV .startStep 0 8).setOn .supplyDone 0 true).setV .testRes 0 1).setV .testRes 1 1
    |>.setF Reg.SAFE_STATUS_TEST_FAIL 0 1).setF Reg.SAFE_STO_CFG_TEST_REACTION 0 7

/-- Start step 8 with every other activity ended. -/
def step8Done : StepEight := { rotation := true, delayLines := true, wireChecks := true }

/-- READY with READY_REACHED noted and the gate drive started, before the delay lines are calibrated. -/
def readyNoted (s : State) : State :=
  let s : State := { (s.setV .startStep 0 0).setV .moduleEvent 0 Ev.READY_REACHED with module := .ready, denials := [] }
  ((s.setF Reg.START_TIMES_READY_AT 0 s.sinceStart).note Ev.READY_REACHED).setFb Reg.GD_STATUS_STARTED 0 true

theorem word_takeFree (s : State) (k : Nat) : s.takeFree.2.word k = s.word k := rfl

theorem vars_takeFree (s : State) : s.takeFree.2.vars = s.vars ∧ s.takeFree.2.now = s.now := ⟨rfl, rfl⟩

/-- The calibration of the delay lines writes the read-back delays and the word of the delay-line status. -/
theorem word_dllReady (s : State) {k : Nat} (hdelay : ∀ c ∈ List.range 64, k ≠ Reg.FO_RB_DELAY.key c 0)
    (hdll : k ≠ Reg.PULSE_DLL_SPAN.key 0 0) :
    s.dllReady.word k = s.word k := by
  have heach : (s.each (List.range 64) fun s c => s.setF Reg.FO_RB_DELAY c (Config.readbackDelay c)).word k = s.word k :=
    List.foldlRecOn (motive := fun u => State.word u k = s.word k) (List.range 64) _ rfl fun u hu c hc => by
      rw [← hu, State.setF, word_setWord_ne _ _ (hdelay c hc)]
  unfold State.dllReady
  dsimp only
  split
  · exact heach
  · have hlocked : k ≠ Reg.PULSE_DLL_LOCKED.key 0 0 := hdll
    rw [State.setF, word_setWord_ne _ _ hdll, State.setFb, State.setF, word_setWord_ne _ _ hlocked, word_takeFree]
    exact heach

theorem vars_dllReady (s : State) : s.dllReady.vars = s.vars ∧ s.dllReady.now = s.now := by
  have heach : (s.each (List.range 64) fun s c => s.setF Reg.FO_RB_DELAY c (Config.readbackDelay c)).vars = s.vars
      ∧ (s.each (List.range 64) fun s c => s.setF Reg.FO_RB_DELAY c (Config.readbackDelay c)).now = s.now :=
    List.foldlRecOn (motive := fun u : State => u.vars = s.vars ∧ u.now = s.now) (List.range 64) _ ⟨rfl, rfl⟩ fun u hu c _ => hu
  unfold State.dllReady
  dsimp only
  split
  · exact heach
  · rw [setF_vars, setF_now, State.setFb, setF_vars, setF_now, (vars_takeFree _).1, (vars_takeFree _).2]
    exact heach

/-- A gate-enable line that is neither wanted nor there stands. -/
theorem enableSync_of_off {s : State} {g : Nat} (hen : s.f Reg.SAFE_STATUS_EN_HW = 0) (hline : s.f Reg.GD_STATUS_ENABLE_SG = 0) :
    s.enableSync g = s := by
  simp [State.enableSync, hen, hline]

theorem module_moduleSafe {s : State} (hs : s.serves ∨ s.module = .safe) (code reaction : Nat) :
    (s.moduleSafe code reaction).module = .safe := by
  obtain hserves | hsafe := hs
  · unfold State.moduleSafe
    have hsafe := moduleToSafe_of_serves hserves code
    simp only [hsafe, beq_self_eq_true, if_true]
    exact module_of_orderly_safe (orderly_each (.refl _) _ _ fun _ h _ _ => orderly_toSafe h ..) hsafe
  · exact module_of_orderly_safe (orderly_moduleSafe (.refl s) code reaction) hsafe

/-- MODULE_SAFE that is not discarded takes a module that serves to SAFE. -/
theorem module_carryOut_moduleSafe {s : State} (hs : s.serves) {t : Stage} (hd : s.discards t 7 = false) (code inst : Nat)
    (momentary : Bool) :
    (s.carryOut t 7 code inst momentary).module = .safe := by
  have hreact (u : State) (hu : u.serves ∨ u.module = .safe) : (u.react t 7 code inst momentary).module = .safe := by
    have hsafe := module_moduleSafe hu code 7
    change (if (u.moduleSafe code).module == .safe then (u.moduleSafe code).latchStages code inst Stage.all else u.moduleSafe code).module = .safe
    split
    · rwa [module_of_modes (modes_latchStages ..)]
    · exact hsafe
  unfold State.carryOut
  rw [if_neg (by simp [hd])]
  refine hreact _ ((Orderly.stays (s₀ := s) ?_ hs).imp id And.left)
  exact orderly_setRank (orderly_overtake (.refl s) ..) ..

/-- The state before the delay lines are calibrated: READY, no request, and the failed test of group 0 with its reaction. -/
structure TestPending (s : State) : Prop where
  serves : s.serves
  sbc : s.on .stoState 4 = false
  request : s.f Reg.SAFE_STATUS_STO_REQ = 0
  failed : s.f Reg.SAFE_STATUS_TEST_FAIL = 1
  reaction : s.f Reg.SAFE_STO_CFG_TEST_REACTION 0 = 7
  taken : s.discards .T1 7 = false
  enable : s.f Reg.SAFE_STATUS_EN_HW = 0
  line : s.f Reg.GD_STATUS_ENABLE_SG = 0

/-- A failed test of group 0 with reaction MODULE_SAFE is carried out at READY. -/
theorem module_safetyReady {s : State} (h : TestPending s) : s.safetyReady.module = .safe := by
  have hgroup : (s.each (Stage.ofGroup 0) fun s t =>
      s.carryOut t (s.f Reg.SAFE_STO_CFG_TEST_REACTION 0) Ev.STO_TEST_FAIL 0 false).module = .safe := by
    rw [show Stage.ofGroup 0 = [.T1] from rfl, each_cons, each_nil, h.reaction]
    exact module_carryOut_moduleSafe h.serves h.taken ..
  unfold State.safetyReady
  rw [h.sbc, show List.range 4 = 0 :: [1, 2, 3] from rfl, each_cons]
  refine module_of_orderly_safe (orderly_each (.refl _) _ _ fun s h g _ => ?_) ?_
  · exact orderly_ite (orderly_each (orderly_ite (orderly_stoSafe (orderly_addF h ..) ..) h) _ _ fun _ h _ _ => orderly_carryOut h ..)
      (orderly_ite (orderly_stoSafe (orderly_addF h ..) ..) h)
  · simpa [State.when, h.request, h.failed] using hgroup

/-- The calibration of the delay lines leaves all of it. -/
theorem testPending_dllReady {s : State} (h : TestPending s) : TestPending s.dllReady := by
  obtain ⟨hvars, hnow⟩ := vars_dllReady s
  have hv (x : Var) (i : Nat) : s.dllReady.v x i = s.v x i := by rw [State.v, State.v, hvars]
  have hvn (x : Var) (i : Nat) : s.dllReady.vn x i = s.vn x i := by rw [State.vn, State.vn, hv]
  have hword (f : Fld) (hdelay : ∀ c ∈ List.range 64, f.key 0 0 ≠ Reg.FO_RB_DELAY.key c 0) (hdll : f.key 0 0 ≠ Reg.PULSE_DLL_SPAN.key 0 0) :
      s.dllReady.f f = s.f f := by
    rw [State.f, State.f, word_dllReady s hdelay hdll]
  have hloop : s.dllReady.loopNo = s.loopNo := by rw [State.loopNo, State.loopNo, hnow]
  refine ⟨(serves_of_modes (modes_dllReady s)).2 h.serves, ?_, ?_, ?_, ?_, ?_, ?_, ?_⟩
  · rw [State.on, hv]
    exact h.sbc
  · rw [hword _ (by decide +kernel) (by decide +kernel), h.request]
  · rw [hword _ (by decide +kernel) (by decide +kernel), h.failed]
  · rw [hword _ (by decide +kernel) (by decide +kernel), h.reaction]
  · rw [← h.taken]
    unfold State.discards State.topNow State.rankNow
    rw [hvn, hvn, hvn, hloop]
  · rw [hword _ (by decide +kernel) (by decide +kernel), h.enable]
  · rw [hword _ (by decide +kernel) (by decide +kernel), h.line]

/-- `ready` from there. -/
theorem ready_eq (s : State) : s.ready =
    if ((s.readyNoted.dllReady.each (List.range 4) State.enableSync).safetyReady.canReady).f Reg.START_KEY_CHECK_PERIOD == 0 then
      (s.readyNoted.dllReady.each (List.range 4) State.enableSync).safetyReady.canReady
    else (s.readyNoted.dllReady.each (List.range 4) State.enableSync).safetyReady.canReady.openSlow .keyCheck 0
      (sec (((s.readyNoted.dllReady.each (List.range 4) State.enableSync).safetyReady.canReady).f Reg.START_KEY_CHECK_PERIOD)) :=
  rfl

theorem module_ready {s : State} (h : TestPending s.readyNoted) : s.ready.module = .safe := by
  have hdll := testPending_dllReady h
  have hsync : s.readyNoted.dllReady.each (List.range 4) State.enableSync = s.readyNoted.dllReady :=
    List.foldlRecOn (motive := fun u => u = s.readyNoted.dllReady) (List.range 4) _ rfl fun u hu g _ => by
      rw [hu, enableSync_of_off hdll.enable hdll.line]
  have hsafe : (s.readyNoted.dllReady.each (List.range 4) State.enableSync).safetyReady.canReady.module = .safe := by
    rw [hsync]
    exact module_of_orderly_safe (orderly_canReady (.refl _)) (module_safetyReady hdll)
  rw [ready_eq]
  split
  · exact hsafe
  · rwa [module_of_modes (modes_openSlow ..)]

/-- The failed test as the command finds it. -/
def testedAt0 : State := { failedTest with now := max failedTest.now 0 }

theorem testPending_testedAt0 : TestPending testedAt0.readyNoted := by
  refine ⟨.inl ?_, ?_, ?_, ?_, ?_, ?_, ?_, ?_⟩ <;> decide +kernel

/-- The command that reaches READY. -/
theorem exec_readyReached_failedTest : ∃ u, exec (.readyReached step8Done 0) failedTest = .next u ∧ u.module = .safe := by
  have hexec : exec (.readyReached step8Done 0) failedTest
      = done (if testedAt0.step8Ended step8Done then testedAt0.ready else testedAt0) := rfl
  have hended : testedAt0.step8Ended step8Done = true := by decide +kernel
  rw [hexec, if_pos hended]
  refine ⟨_, rfl, ?_⟩
  rw [module_of_modes (modes_attnSync _), module_of_modes (modes_idleSync _)]
  exact module_ready testPending_testedAt0

theorem failedTest_quiet : failedTest.quiet = true ∧ failedTest.module = .starting := by decide +kernel

end Sys2Proof.Machine.State
end

section
open Sys2Proof Sys2Proof.Machine Sys2Proof.Machine.State

/-- Refutes O48: an STO test of start step 8 that failed with reaction MODULE_SAFE takes the module from STARTING to SAFE in the command
that reaches READY, and no row of Table 1-5 leads there. -/
theorem not_moduleTransitions : ¬ Obligations.ModuleTransitions := by
  intro hmoves
  obtain ⟨hquiet, hstarting⟩ := failedTest_quiet
  obtain ⟨u, hu, hsafe⟩ := exec_readyReached_failedTest
  have hrow := hmoves failedTest u (.readyReached step8Done 0) hquiet (fun h => absurd h (by decide)) hu
  rw [hstarting, hsafe] at hrow
  exact absurd hrow (by decide)

end

-- ==== A refill whose token a report has taken already (O25) ====
section
/-!
The counterexample to O25. A report at the end instant of a refill window finds the token of that instant before TOKEN_REFILL has come
(R573), so the command that follows returns none: the bucket that was one token short before it still is.
-/

namespace Sys2Proof.Machine.State
open Sys2Proof Sys2Proof.Machine

/-- The bucket of WAKE, one token short, at the end of a refill window whose token a report of that instant has taken. -/
def takenToken : State := ((State.reset.setDue .refill Ev.WAKE (some (us 1))).setV .refillTaken Ev.WAKE (us 1)).setV .tokensUsed Ev.WAKE 1

theorem takenToken_open : Ev.WAKE < 2 ^ 16 ∧ takenToken.isOpen .refill Ev.WAKE = true ∧ takenToken.v .tokensUsed Ev.WAKE = 1 := by
  decide +kernel

theorem tokensUsed_refill_takenToken : ∃ u, exec (.tokenRefill Ev.WAKE) takenToken = .next u ∧ u.v .tokensUsed Ev.WAKE = 1 :=
  ⟨_, rfl, by decide +kernel⟩

end Sys2Proof.Machine.State
end

section
open Sys2Proof Sys2Proof.Machine Sys2Proof.Machine.State

/-- Refutes O25: the end of a refill window returns no token where a report of the same instant has taken it already (R573), which the
third clause does not except. -/
theorem not_recorderEvents : ¬ Obligations.RecorderEvents := by
  rintro ⟨-, -, hrefill, -⟩
  obtain ⟨hcode, hopen, hused⟩ := takenToken_open
  obtain ⟨u, hu, htokens, -⟩ := hrefill takenToken Ev.WAKE hcode hopen
  obtain ⟨u', hu', hstill⟩ := tokensUsed_refill_takenToken
  obtain rfl : u' = u := Host.Outcome.next.inj (hu'.symm.trans hu)
  rw [hstill, hused] at htokens
  exact absurd htokens (by decide)

end

-- ==== A key check that stops stage P (O3) ====
section
/-!
The counterexample to O3. A key check that finds the key changed carries out KEY_CHECK_REACTION (R98). As STOP on stage P, with the power
path in SOURCE and L in STANDBY, it asks L to take the link over and captures the charger's snapshot (R452, R457); within 1 ms of the last
one of its kind the capture is only counted, in CHG.COUNTERS.7, which is no field of a reaction.
-/

namespace Sys2Proof.Machine.State
open Sys2Proof Sys2Proof.Machine

/-- The machine in RUN with stage P alone running, the power path in SOURCE, L in STANDBY, a snapshot of the kind less than 1 ms old, and
STOP as the reaction to a changed key. -/
def feedingSource : State :=
  let s : State := ({ State.reset with module := .run } : State).setStg .P { StageCtl.reset with state := .running }
  let s := (s.setF Reg.CHG_STATUS_PP_STATE 0 4).setF Reg.LINK_STATUS_STATE 0 5
  ((s.setF Reg.START_KEY_CHECK_REACTION 0 3).setDue .snapWin 8 (some (ms 1))).setDue .keyCheck 0 (some 0)

/-- The captures that are not made are counted in no field that a key check may write. -/
theorem skippedSnapshots_not_keyCheckFlds :
    ∀ p ∈ reactionFlds ++ ([one Reg.START_KEY_STATUS_KEY_CHANGED] : List Place), ¬ p.has (Reg.CHG_COUNTERS.key 7 0) 0 := by
  unfold Place.has
  decide +kernel

theorem wordAfter_keyCheckPeriod_feedingSource :
    feedingSource.word (Reg.CHG_COUNTERS.key 7 0) = 0
    ∧ wordAfter (exec (.keyCheckPeriod none) feedingSource) (Reg.CHG_COUNTERS.key 7 0) = some 1 := by
  decide +kernel

end Sys2Proof.Machine.State
end

section
open Sys2Proof Sys2Proof.Machine Sys2Proof.Machine.State

/-- Refutes O3: a key check that stops stage P counts a charger snapshot that it may not capture, outside what a reaction changes. -/
theorem not_startFrames : ¬ Obligations.StartFrames := by
  rintro ⟨-, -, -, -, -, -, -, -, -, -, -, -, -, -, -, -, -, -, hkey, -⟩
  obtain ⟨hbefore, hafter⟩ := wordAfter_keyCheckPeriod_feedingSource
  obtain ⟨u, hu, hword⟩ := next_of_wordAfter hafter
  obtain ⟨-, hbits⟩ := hkey feedingSource none u hu
  have hbit := hbits _ 0 (by decide) skippedSnapshots_not_keyCheckFlds
  rw [hbefore, hword] at hbit
  exact absurd hbit (by decide)

end

-- ==== Reading beside writes ====
section
/-!
What the plain updates leave of the fields, quantities and windows that they do not write, what a report leaves, and what the end of
every command leaves.
-/

namespace Sys2Proof.Machine.State
open Sys2Proof Sys2Proof.Machine

/-! ### Fields -/

/-- A field lies outside a place: its bits are others, or its word is none of the place's words. -/
def clearOf (g : Fld) (n j : Nat) (p : Place) : Bool :=
  g.hi < p.fld.lo || p.fld.hi < g.lo || (List.range p.k).all fun a => (List.range p.m).all fun b => g.key n j != p.fld.key (p.n + a) (p.j + b)

theorem not_has_of_clearOf {g : Fld} {n j i : Nat} {p : Place} (h : clearOf g n j p = true) (hlo : g.lo ≤ i) (hhi : i ≤ g.hi) :
    ¬ p.has (g.key n j) i := by
  rintro ⟨hl, hh, a, ha, b, hb, hkey⟩
  simp only [clearOf, Bool.or_eq_true, decide_eq_true_eq, List.all_eq_true, List.mem_range, bne_iff_ne] at h
  obtain (h | h) | h := h
  · omega
  · omega
  · exact h a ha b hb hkey

theorem f_of_bits {s u : State} {g : Fld} {n j : Nat} (hg : g.lo ≤ g.hi)
    (h : ∀ i, i < 32 → g.lo ≤ i → i ≤ g.hi → (u.word (g.key n j)).getLsbD i = (s.word (g.key n j)).getLsbD i) : u.f g n j = s.f g n j := by
  unfold State.f bits
  refine Nat.eq_of_testBit_eq fun i => ?_
  rw [Nat.testBit_mod_two_pow, Nat.testBit_mod_two_pow, Nat.testBit_div_two_pow, Nat.testBit_div_two_pow]
  by_cases hi : i < g.hi - g.lo + 1
  · by_cases h32 : i + g.lo < 32
    · have hbit := h (i + g.lo) h32 (by omega) (by omega)
      simp only [BitVec.getLsbD] at hbit
      rw [hbit]
    · simp only [← BitVec.getLsbD.eq_1]
      rw [BitVec.getLsbD_of_ge _ _ (by omega), BitVec.getLsbD_of_ge _ _ (by omega)]
  · simp [hi]

/-- A field outside every place of a frame reads the same. -/
theorem f_of_keeps {cs : List Comp} {ps : List Place} {s u : State} {g : Fld} {n j : Nat} (h : Keeps cs ps s u) (hg : g.lo ≤ g.hi)
    (hp : ps.all (clearOf g n j) = true) : u.f g n j = s.f g n j :=
  f_of_bits hg fun i hi hlo hhi => h.2 _ i hi fun p hm => not_has_of_clearOf (List.all_eq_true.1 hp p hm) hlo hhi

/-- Another field, of another word or of other bits of the same word, reads the same after a write. -/
theorem f_setF_of_clear (s : State) {f g : Fld} {n m j k : Nat} (v : Int) (hf : f.lo ≤ f.hi) (hg : g.lo ≤ g.hi)
    (h : clearOf g m k (one f n j) = true) : (s.setF f n v j).f g m k = s.f g m k :=
  f_of_keeps (keeps_setF s f n v j hf []) hg (by simpa using h)

/-- A field whose value fits reads as the value written to it. -/
theorem f_setF_of_lt (s : State) {f : Fld} {n j : Nat} {v : Nat} (hl : f.lo ≤ f.hi) (hh : f.hi < 32) (hv : v < 2 ^ f.width) :
    (s.setF f n v j).f f n j = v := by
  rw [f_setF_same s f n v j hl hh, wrap, ← Int.natCast_mod, Int.toNat_natCast, Nat.mod_eq_of_lt hv]

theorem fb_eq (s : State) (f : Fld) (n j : Nat) : s.fb f n j = (s.f f n j != 0) := rfl

/-- A flag reads as it was set. -/
theorem fb_setFb_same (s : State) {f : Fld} {n j : Nat} (b : Bool) (hl : f.lo ≤ f.hi) (hh : f.hi < 32) : (s.setFb f n b j).fb f n j = b := by
  have hfit : 1 < 2 ^ f.width := Nat.one_lt_two_pow (by simp [Fld.width])
  cases b
  · exact bne_eq_false_iff_eq.2 (f_setF_of_lt s (v := 0) hl hh (by omega))
  · exact bne_iff_ne.2 (ne_of_eq_of_ne (f_setF_of_lt s (v := 1) hl hh hfit) Nat.one_ne_zero)

/-! ### Quantities and windows -/

theorem vn_eq (s : State) (x : Var) (i : Nat) : s.vn x i = (s.v x i).toNat := rfl

theorem on_eq (s : State) (x : Var) (i : Nat) : s.on x i = (s.v x i != 0) := rfl

theorem isOpen_eq (s : State) (t : Timer) (i : Nat) : s.isOpen t i = (s.due t i).isSome := rfl

theorem v_congr {s u : State} (h : u.vars = s.vars) (x : Var) (i : Nat) : u.v x i = s.v x i := by rw [State.v, State.v, h]

theorem f_congr {s u : State} (h : u.regs = s.regs) (f : Fld) (n j : Nat) : u.f f n j = s.f f n j := by
  rw [State.f, State.f, State.word, State.word, h]

theorem due_congr {s u : State} (h : u.timers = s.timers) (t : Timer) (i : Nat) : u.due t i = s.due t i := by rw [State.due, State.due, h]

/-- Another quantity reads the same after a write. -/
theorem v_setV_of_ctor (s : State) {x y : Var} {i k : Nat} (v : Int) (h : y.ctorIdx ≠ x.ctorIdx) (hi : i < 65536) (hk : k < 65536) :
    (s.setV x i v).v y k = s.v y k :=
  v_setV_ne s v (Var.key_ne_of_ctor hk hi h)

end Sys2Proof.Machine.State
end

-- ==== What the end of a command and a report leave ====
section
/-!
The end of every command (the sleep idle window and ATTN follow their conditions), and what a report leaves of quantities and fields.
-/

namespace Sys2Proof.Machine.State
open Sys2Proof Sys2Proof.Machine

/-! ### The end of a command -/

/-- What a command leaves of the state that it makes. -/
def synced (s : State) : State := s.idleSync.attnSync

theorem completes_of_done {c : Instr} {s w : State} {P : State → Prop} (hexec : exec c s = Machine.done w) (h : P w.synced) :
    Completes c s P :=
  ⟨w.synced, hexec, h⟩

theorem idleSync_parts (s : State) : ∃ timers, s.idleSync = { s with timers := timers } := by
  unfold State.idleSync
  dsimp only
  split
  · exact ⟨_, rfl⟩
  · split
    · split
      · exact ⟨_, rfl⟩
      · exact ⟨_, rfl⟩
    · exact ⟨_, rfl⟩

theorem attnSync_parts (s : State) : ∃ timers, s.attnSync = { s with timers := timers }
    ∨ ∃ b, s.attnSync = { s.setOn .attn 0 b with timers := timers } := by
  unfold State.attnSync
  dsimp only
  split
  · exact ⟨_, .inr ⟨false, rfl⟩⟩
  · split
    · split
      · exact ⟨_, .inl rfl⟩
      · split
        · exact ⟨_, .inr ⟨true, rfl⟩⟩
        · exact ⟨_, .inr ⟨true, rfl⟩⟩
    · split
      · split
        · exact ⟨_, .inl rfl⟩
        · exact ⟨_, .inr ⟨false, rfl⟩⟩
      · exact ⟨_, .inr ⟨false, rfl⟩⟩

theorem synced_parts (s : State) : ∃ timers, s.synced = { s with timers := timers }
    ∨ ∃ b, s.synced = { s.setOn .attn 0 b with timers := timers } := by
  obtain ⟨_, hidle⟩ := s.idleSync_parts
  obtain ⟨timers, hattn⟩ := s.idleSync.attnSync_parts
  rw [synced]
  rw [hidle] at hattn ⊢
  exact ⟨timers, hattn⟩

/-- A part other than quantities and windows is what it was. -/
theorem synced_of_parts {α : Type} (p : State → α) (hp : ∀ (s : State) vars timers, p { s with vars := vars, timers := timers } = p s)
    (s : State) : p s.synced = p s := by
  obtain ⟨timers, h | ⟨b, h⟩⟩ := s.synced_parts
  · rw [h]
    exact hp s s.vars timers
  · rw [h]
    exact hp s _ timers

@[simp] theorem now_synced (s : State) : s.synced.now = s.now := synced_of_parts State.now (fun _ _ _ => rfl) s
@[simp] theorem regs_synced (s : State) : s.synced.regs = s.regs := synced_of_parts State.regs (fun _ _ _ => rfl) s
@[simp] theorem module_synced (s : State) : s.synced.module = s.module := synced_of_parts State.module (fun _ _ _ => rfl) s
@[simp] theorem allStopped_synced (s : State) : s.synced.allStopped = s.allStopped := synced_of_parts State.allStopped (fun _ _ _ => rfl) s
@[simp] theorem causes_synced (s : State) : s.synced.causes = s.causes := synced_of_parts State.causes (fun _ _ _ => rfl) s
@[simp] theorem queue_synced (s : State) : s.synced.queue = s.queue := synced_of_parts State.queue (fun _ _ _ => rfl) s
@[simp] theorem log_synced (s : State) : s.synced.log = s.log := synced_of_parts State.log (fun _ _ _ => rfl) s
@[simp] theorem keyMem_synced (s : State) : s.synced.keyMem = s.keyMem := synced_of_parts State.keyMem (fun _ _ _ => rfl) s
@[simp] theorem header_synced (s : State) : s.synced.header = s.header := synced_of_parts State.header (fun _ _ _ => rfl) s
@[simp] theorem image_synced (s : State) : s.synced.image = s.image := synced_of_parts State.image (fun _ _ _ => rfl) s
@[simp] theorem denials_synced (s : State) : s.synced.denials = s.denials := synced_of_parts State.denials (fun _ _ _ => rfl) s

@[simp] theorem f_synced (s : State) (f : Fld) (n j : Nat) : s.synced.f f n j = s.f f n j := f_congr s.regs_synced f n j
@[simp] theorem fb_synced (s : State) (f : Fld) (n j : Nat) : s.synced.fb f n j = s.fb f n j := by rw [State.fb, State.fb, f_synced]
@[simp] theorem present_synced (s : State) (code inst : Nat) : s.synced.present code inst = s.present code inst := by
  rw [State.present, State.present, causes_synced]

/-- Every quantity but ATTN's reads the same. -/
theorem v_synced (s : State) {x : Var} {i : Nat} (hx : x.ctorIdx ≠ Var.attn.ctorIdx) (hi : i < 65536) : s.synced.v x i = s.v x i := by
  obtain ⟨timers, h | ⟨b, h⟩⟩ := s.synced_parts
  · rw [h]
    rfl
  · rw [h]
    exact v_setV_of_ctor s _ hx (by decide) hi

theorem vn_synced (s : State) {x : Var} {i : Nat} (hx : x.ctorIdx ≠ Var.attn.ctorIdx) (hi : i < 65536) : s.synced.vn x i = s.vn x i := by
  rw [vn_eq, v_synced s hx hi, vn_eq]

theorem on_synced (s : State) {x : Var} {i : Nat} (hx : x.ctorIdx ≠ Var.attn.ctorIdx) (hi : i < 65536) : s.synced.on x i = s.on x i := by
  rw [on_eq, v_synced s hx hi, on_eq]

/-- A window of another name reads the same after one is opened or closed. -/
theorem due_setDue_of_ctor (s : State) {t u : Timer} {i k : Nat} (e : Option Nat) (h : u.ctorIdx ≠ t.ctorIdx) (hi : i < 65536) (hk : k < 65536) :
    (s.setDue t i e).due u k = s.due u k :=
  due_setDue_ne s e (Timer.key_ne_of_ctor hk hi h)

theorem due_idleSync (s : State) {t : Timer} {i : Nat} (ht : t.ctorIdx ≠ Timer.sleepIdle.ctorIdx) (hi : i < 65536) :
    s.idleSync.due t i = s.due t i := by
  have hset (e : Option Nat) : (s.setDue .sleepIdle 0 e).due t i = s.due t i := due_setDue_of_ctor s e ht (by decide) hi
  unfold State.idleSync
  dsimp only
  split
  · rfl
  · split
    · split
      · rfl
      · exact hset _
    · exact hset _

theorem due_attnSync (s : State) {t : Timer} {i : Nat} (ht : t.ctorIdx ≠ Timer.attnHold.ctorIdx) (hi : i < 65536) :
    s.attnSync.due t i = s.due t i := by
  have hset (u : State) (hu : u.timers = s.timers) (e : Option Nat) : (u.setDue .attnHold 0 e).due t i = s.due t i :=
    (due_setDue_of_ctor u e ht (by decide) hi).trans (due_congr hu t i)
  unfold State.attnSync
  dsimp only
  split
  · exact hset _ rfl _
  · split
    · split
      · rfl
      · split
        · rfl
        · exact hset _ rfl _
    · split
      · split
        · rfl
        · exact hset _ rfl _
      · rfl

/-- Every window but the sleep idle window and that of ATTN is open as it was. -/
theorem due_synced (s : State) {t : Timer} {i : Nat} (ht : t.ctorIdx ≠ Timer.sleepIdle.ctorIdx ∧ t.ctorIdx ≠ Timer.attnHold.ctorIdx)
    (hi : i < 65536) : s.synced.due t i = s.due t i :=
  (due_attnSync _ ht.2 hi).trans (due_idleSync s ht.1 hi)

theorem isOpen_synced (s : State) {t : Timer} {i : Nat} (ht : t.ctorIdx ≠ Timer.sleepIdle.ctorIdx ∧ t.ctorIdx ≠ Timer.attnHold.ctorIdx)
    (hi : i < 65536) : s.synced.isOpen t i = s.isOpen t i := by
  rw [isOpen_eq, due_synced s ht hi, isOpen_eq]

theorem endOf_synced (s : State) {t : Timer} {i : Nat} (ht : t.ctorIdx ≠ Timer.sleepIdle.ctorIdx ∧ t.ctorIdx ≠ Timer.attnHold.ctorIdx)
    (hi : i < 65536) : s.synced.endOf t i = s.endOf t i := by
  rw [State.endOf, due_synced s ht hi, State.endOf]

/-! ### Reports -/

/-- The quantities that a report writes. -/
def reportVars : List Var := [.w1cAt, .w1cBits, .tokensUsed, .refillTaken, .suppressed, .reportsLost]

theorem v_setW1c (s : State) (f : Fld) (n v j : Nat) {x : Var} {i : Nat} (hx : x.ctorIdx ≠ Var.w1cAt.ctorIdx ∧ x.ctorIdx ≠ Var.w1cBits.ctorIdx)
    (hi : i < 65536) : (s.setW1c f n v j).v x i = s.v x i := by
  have hmod : f.key n j % 65536 < 65536 := Nat.mod_lt _ (by decide)
  unfold State.setW1c
  dsimp only
  rw [v_setV_of_ctor _ _ hx.2 hmod hi, v_setV_of_ctor _ _ hx.1 hmod hi, v_setF]

theorem v_addV_of_ctor (s : State) {x y : Var} {i k : Nat} (d : Int) (h : y.ctorIdx ≠ x.ctorIdx) (hi : i < 65536) (hk : k < 65536) :
    (s.addV x i d).v y k = s.v y k :=
  v_setV_of_ctor s _ h hi hk

theorem v_admitRec (s : State) (a : RepArg) (r : Rec) {x : Var} {i : Nat} (hx : ∀ y ∈ reportVars, x.ctorIdx ≠ y.ctorIdx) (hi : i < 65536)
    (ha : a.code < 65536) : (s.admitRec a r).v x i = s.v x i := by
  have htokens : x.ctorIdx ≠ Var.tokensUsed.ctorIdx := hx _ (by simp [reportVars])
  have hsuppressed : x.ctorIdx ≠ Var.suppressed.ctorIdx := hx _ (by simp [reportVars])
  have hlost : x.ctorIdx ≠ Var.reportsLost.ctorIdx := hx _ (by simp [reportVars])
  have hqueue : ((({ s with queue := s.queue ++ [r] } : State).setV .suppressed a.code 0).when (!a.isExempt) fun s => s.addV .tokensUsed a.code 1).v x i
      = s.v x i := by
    cases a.isExempt
    · exact (v_addV_of_ctor _ _ htokens ha hi).trans (v_setV_of_ctor _ _ hsuppressed ha hi)
    · exact v_setV_of_ctor _ _ hsuppressed ha hi
  unfold State.admitRec
  dsimp only
  split
  · exact v_addV_of_ctor _ _ hsuppressed ha hi
  · split
    · exact v_addV_of_ctor _ _ hlost (by decide) hi
    · exact hqueue

theorem v_refilled (s : State) (code : Nat) {x : Var} {i : Nat} (hx : ∀ y ∈ reportVars, x.ctorIdx ≠ y.ctorIdx) (hi : i < 65536)
    (hcode : code < 65536) : (s.refilled code).v x i = s.v x i := by
  rcases s.refilled_cases code with h | ⟨_, _, h⟩ <;> rw [h]
  rw [v_setV_of_ctor _ _ (hx _ (by simp [reportVars])) hcode hi, v_setV_of_ctor _ _ (hx _ (by simp [reportVars])) hcode hi]

theorem v_enqueue (s : State) (a : RepArg) {x : Var} {i : Nat} (hx : ∀ y ∈ reportVars, x.ctorIdx ≠ y.ctorIdx) (hi : i < 65536)
    (ha : a.code < 65536) : (s.enqueue a).v x i = s.v x i := by
  unfold State.enqueue
  split
  · rfl
  · split
    · rfl
    · split
      · exact v_admitRec s a _ hx hi ha
      · exact (v_admitRec _ a _ hx hi ha).trans (v_refilled s a.code hx hi ha)

theorem v_markSeen (s : State) (code : Nat) {x : Var} {i : Nat} (hx : ∀ y ∈ reportVars, x.ctorIdx ≠ y.ctorIdx) (hi : i < 65536) :
    (s.markSeen code).v x i = s.v x i :=
  v_setW1c s _ _ _ _ ⟨hx _ (by simp [reportVars]), hx _ (by simp [reportVars])⟩ hi

/-- A report leaves every quantity but its own. -/
theorem v_report (s : State) (a : RepArg) {x : Var} {i : Nat} (hx : ∀ y ∈ reportVars, x.ctorIdx ≠ y.ctorIdx) (hi : i < 65536)
    (ha : a.code < 65536) : (s.report a).v x i = s.v x i :=
  (v_enqueue _ a hx hi ha).trans (v_markSeen s a.code hx hi)

theorem v_note (s : State) (code d0 d1 d2 : Nat) {x : Var} {i : Nat} (hx : ∀ y ∈ reportVars, x.ctorIdx ≠ y.ctorIdx) (hi : i < 65536)
    (hcode : code < 65536) : (s.note code d0 d1 d2).v x i = s.v x i :=
  v_report s _ hx hi hcode

/-- A report leaves every field but those of its frame. -/
theorem f_note (s : State) (code d0 d1 d2 : Nat) {f : Fld} {n j : Nat} (hf : f.lo ≤ f.hi) (hclear : reportFlds.all (clearOf f n j) = true) :
    (s.note code d0 d1 d2).f f n j = s.f f n j :=
  f_of_keeps (keeps_note s code d0 d1 d2) hf hclear

/-- A report leaves every part but the queue and the log. -/
theorem same_note (s : State) (code d0 d1 d2 : Nat) {c : Comp} (hc : c ∉ reportComps) : c.same s (s.note code d0 d1 d2) :=
  (keeps_note s code d0 d1 d2).1 c hc

/-- A record is counted in three words. -/
theorem word_admitRec (s : State) (a : RepArg) (r : Rec) {k : Nat} (hk : k ∉ [Reg.LOG_COUNTERS.key 1 0, Reg.LOG_COUNTERS.key 4 0,
    Reg.CORE_COUNTERS.key 8 0]) : (s.admitRec a r).word k = s.word k := by
  simp only [List.mem_cons, List.not_mem_nil, or_false, not_or] at hk
  obtain ⟨hsuppressed, hdeepest, hlost⟩ := hk
  unfold State.admitRec
  dsimp only
  split
  · exact word_setWord_ne _ _ hsuppressed
  · split
    · exact word_setWord_ne _ _ hlost
    · refine (word_setWord_ne _ _ hdeepest).trans ?_
      cases a.isExempt <;> rfl

theorem word_enqueue (s : State) (a : RepArg) {k : Nat} (hk : k ∉ [Reg.LOG_COUNTERS.key 1 0, Reg.LOG_COUNTERS.key 4 0,
    Reg.CORE_COUNTERS.key 8 0]) : (s.enqueue a).word k = s.word k := by
  unfold State.enqueue
  split
  · rfl
  · split
    · rfl
    · split
      · exact word_admitRec s a _ hk
      · refine (word_admitRec _ a _ hk).trans ?_
        obtain h | ⟨_, _, h⟩ := s.refilled_cases a.code
        · rw [h]
        · rw [h]
          rfl

/-- A report shows in STATE.SEEN (R714). -/
theorem seen_report (s : State) (a : RepArg) (hb : Ev.b a.code < 32) :
    ((s.report a).f Reg.STATE_SEEN_EVENTS (Ev.w a.code)).testBit (Ev.b a.code) = true := by
  have hw := Ev.w_le a.code
  have hword : Reg.STATE_SEEN_EVENTS.key (Ev.w a.code) 0 ∉ [Reg.LOG_COUNTERS.key 1 0, Reg.LOG_COUNTERS.key 4 0, Reg.CORE_COUNTERS.key 8 0] := by
    simp only [Fld.key, Reg.STATE_SEEN_EVENTS, Reg.LOG_COUNTERS, Reg.CORE_COUNTERS, List.mem_cons, List.not_mem_nil, or_false, not_or]
    omega
  have hfield : (s.report a).f Reg.STATE_SEEN_EVENTS (Ev.w a.code)
      = wrap 32 ((s.f Reg.STATE_SEEN_EVENTS (Ev.w a.code) ||| 2 ^ Ev.b a.code : Nat) : Int) := by
    rw [State.report, State.f, word_enqueue _ a hword]
    exact f_setF_same s Reg.STATE_SEEN_EVENTS (Ev.w a.code) _ 0 (by decide) (by decide)
  rw [hfield, wrap, ← Int.natCast_mod, Int.toNat_natCast, Nat.testBit_mod_two_pow, Nat.testBit_or, Nat.testBit_two_pow_self]
  simp [hb]

end Sys2Proof.Machine.State
end

-- ==== The steps of a key write ====
section
/-!
KEY_WRITE's steps: what each does with the state once the failure shown is cleared, the checks of the staged image beside that field, and
what a step leaves.
-/

namespace Sys2Proof.Machine.State
open Sys2Proof Sys2Proof.Machine

/-! ### Sparse stores under a filter -/

/-- An entry that a filter drops may be removed before it. -/
theorem filter_erase {α : Type} {p : Nat × α → Bool} {k : Nat} (hp : ∀ v, p (k, v) = false) (l : List (Nat × α)) :
    (Store.erase l k).filter p = l.filter p := by
  rw [Store.erase, List.filter_filter]
  refine List.filter_congr fun ⟨a, v⟩ _ => ?_
  by_cases h : a = k
  · subst h
    simp [hp v]
  · simp [h]

/-- An entry that a filter drops may be added before it. -/
theorem filter_insert {α : Type} {p : Nat × α → Bool} {k : Nat} (hp : ∀ v, p (k, v) = false) (v : α) (l : List (Nat × α)) :
    (Store.insert l k v).filter p = l.filter p := by
  induction l with
  | nil => simp [Store.insert, hp]
  | cons e l ih =>
    obtain ⟨a, b⟩ := e
    rw [Store.insert]
    split
    · simp [List.filter_cons, hp]
    · simp [List.filter_cons, ih]

/-- What is written to an entry that a filter drops is not seen after it. -/
theorem filter_set {α : Type} [DecidableEq α] {p : Nat × α → Bool} {k : Nat} (hp : ∀ v, p (k, v) = false) (d : Nat → α) (l : List (Nat × α))
    (v : α) : (Store.set d l k v).filter p = l.filter p := by
  unfold Store.set
  split
  · exact filter_erase hp l
  · rw [filter_insert hp, filter_erase hp]

/-! ### The failure shown -/

/-- A step of a write that runs first clears the failure shown. -/
def cleared (s : State) : State := s.setF Reg.START_KEY_WRITE_STATUS_FAIL 0 0

theorem f_cleared (s : State) {g : Fld} {n j : Nat} (hg : g.lo ≤ g.hi) (h : clearOf g n j (one Reg.START_KEY_WRITE_STATUS_FAIL) = true) :
    s.cleared.f g n j = s.f g n j :=
  f_setF_of_clear s 0 (by decide) hg h

@[simp] theorem keyBusy_cleared (s : State) : s.cleared.keyBusy = s.keyBusy := by
  rw [State.keyBusy, State.keyBusy, f_cleared s (by decide) (by decide)]

@[simp] theorem vn_cleared (s : State) (x : Var) (i : Nat) : s.cleared.vn x i = s.vn x i := rfl

theorem defaults_cleared (s : State) : s.cleared.defaults = s.defaults := by
  have hregs : (s.cleared.regs.filter fun e => e.1 < 0x000900) = s.regs.filter fun e => e.1 < 0x000900 :=
    filter_set (fun v => by simp [Fld.key, Reg.START_KEY_WRITE_STATUS_FAIL]) _ _ _
  rw [State.defaults, hregs]
  rfl

@[simp] theorem otherSlot_cleared (s : State) : s.cleared.otherSlot = s.otherSlot := by
  rw [State.otherSlot, State.otherSlot, f_cleared s (by decide) (by decide)]

@[simp] theorem now_cleared (s : State) : s.cleared.now = s.now := rfl
@[simp] theorem staging_cleared (s : State) : s.cleared.staging = s.staging := rfl
@[simp] theorem keyMem_cleared (s : State) : s.cleared.keyMem = s.keyMem := rfl

/-- The checks of R100 do not read the failure shown. -/
theorem stagedBad_cleared (s : State) : s.cleared.stagedBad = s.stagedBad := by
  have hstaged (n : Nat) : s.cleared.stagedBytes n = s.stagedBytes n := by rw [State.stagedBytes, State.stagedBytes, staging_cleared]
  have hbytes (a n : Nat) : s.cleared.keyBytes a n = s.keyBytes a n := by rw [State.keyBytes, State.keyBytes, keyMem_cleared]
  have hgen : s.cleared.f Reg.START_IMAGE_GEN = s.f Reg.START_IMAGE_GEN := f_cleared s (by decide) (by decide)
  have hprotected : s.cleared.fb Reg.START_KEY_STATUS_PROTECTED = s.fb Reg.START_KEY_STATUS_PROTECTED := by
    rw [fb_eq, fb_eq, f_cleared s (by decide) (by decide)]
  unfold State.stagedBad
  dsimp only
  rw [defaults_cleared, otherSlot_cleared, hgen, hprotected, hbytes, hstaged, hstaged]

/-- The code of a failing check fits FAIL. -/
theorem stagedBad_lt {s : State} {n : Nat} (h : s.stagedBad = some n) : n < 16 := by
  unfold State.stagedBad at h
  dsimp only at h
  have some_lt {a : Nat} (ha : a < 16) (h : some a = some n) : n < 16 := Option.some.inj h ▸ ha
  split at h
  · exact some_lt (by decide) h
  · split at h
    · exact some_lt (by decide) h
    · split at h
      · exact some_lt (by decide) h
      · split at h
        · exact some_lt (by decide) h
        · split at h
          · exact some_lt (by decide) h
          · split at h
            · exact some_lt (by decide) h
            · split at h
              · exact some_lt (by decide) h
              · exact absurd h (by simp)

/-! ### A failing write -/

/-- The key once a failing write has left it: the target slot without a header when the erasure has begun (R102). -/
def unheaded (s : State) : State := if s.vn .onKeyStage == 0 then s else (s.keyErase (slotBase s.otherSlot) 512).pendingSync

/-- The words of a failed write, before its report. -/
def failShown (s : State) (code : Nat) : State :=
  ((s.unheaded.setF Reg.START_KEY_WRITE_STATUS_STATE 0 7).setF Reg.START_KEY_WRITE_STATUS_FAIL 0 code).setV .onKeyStage 0 0

theorem keyFail_eq (s : State) (code : Nat) : s.keyFail code = (s.failShown code).note Ev.KEY_WRITE_FAILED code := by
  rw [State.keyFail, failShown, unheaded]

@[simp] theorem now_pendingSync (s : State) : s.pendingSync.now = s.now := by rw [State.pendingSync, State.setF_now]

@[simp] theorem now_unheaded (s : State) : s.unheaded.now = s.now := by
  unfold unheaded
  split
  · rfl
  · rw [now_pendingSync, State.keyErase]

theorem now_keyFail (s : State) (code : Nat) : (s.keyFail code).now = s.now := by
  rw [keyFail_eq, State.note, State.report_now]
  exact s.now_unheaded

/-- A failed write shows FAILED. -/
theorem f_state_keyFail (s : State) (code : Nat) : (s.keyFail code).f Reg.START_KEY_WRITE_STATUS_STATE = 7 := by
  rw [keyFail_eq, f_note _ _ _ _ _ (by decide) (by decide), failShown, State.f_setV, f_setF_of_clear _ _ (by decide) (by decide) (by decide)]
  exact f_setF_of_lt _ (v := 7) (by decide) (by decide) (by decide)

/-- A failed write shows the code of what failed. -/
theorem f_fail_keyFail (s : State) {code : Nat} (h : code < 16) : (s.keyFail code).f Reg.START_KEY_WRITE_STATUS_FAIL = code := by
  rw [keyFail_eq, f_note _ _ _ _ _ (by decide) (by decide), failShown, State.f_setV]
  exact f_setF_of_lt _ (by decide) (by decide) h

theorem onKeyStage_keyFail (s : State) (code : Nat) : (s.keyFail code).v .onKeyStage = 0 := by
  have hrest : ∀ y ∈ reportVars, Var.onKeyStage.ctorIdx ≠ y.ctorIdx := by decide
  rw [keyFail_eq, v_note _ _ _ _ _ hrest (by decide) (by decide), failShown, State.v_setV_same]

/-- A failed write is reported. -/
theorem seen_keyFail (s : State) (code : Nat) :
    ((s.keyFail code).f Reg.STATE_SEEN_EVENTS (Ev.w Ev.KEY_WRITE_FAILED)).testBit (Ev.b Ev.KEY_WRITE_FAILED) = true := by
  have hb : Ev.b Ev.KEY_WRITE_FAILED < 32 := by decide
  exact seen_report (s.failShown code) { code := Ev.KEY_WRITE_FAILED, d0 := code } hb

/-- A write that fails before the erasure leaves the key's bytes. -/
theorem keyMem_keyFail {s : State} (h : s.vn .onKeyStage = 0) (code : Nat) : (s.keyFail code).keyMem = s.keyMem := by
  have hsame : (s.failShown code).keyMem = s.keyMem := by
    rw [failShown, unheaded, h]
    rfl
  have hnote : Comp.keyMem.same (s.failShown code) ((s.failShown code).note Ev.KEY_WRITE_FAILED code) := same_note _ _ _ _ _ (by decide)
  rw [keyFail_eq]
  exact Eq.trans hnote hsame

/-! ### The steps -/

theorem keyStep_of_not_busy {s : State} (h : s.keyBusy = false) (o : Nat) : s.keyStep o = s := by
  simp [State.keyStep, h]

theorem setF_fail_eq_cleared (s : State) : s.setF Reg.START_KEY_WRITE_STATUS_FAIL 0 0 = s.cleared := rfl

section
variable {s : State} (hb : s.keyBusy = true)
include hb

theorem keyStep_check_bad (h : s.vn .onKeyStage = 0) {n : Nat} (hn : s.stagedBad = some n) (o : Nat) : s.keyStep o = s.cleared.keyFail n := by
  simp [State.keyStep, hb, setF_fail_eq_cleared, h, stagedBad_cleared, hn]

theorem keyStep_check_ok (h : s.vn .onKeyStage = 0) (hn : s.stagedBad = none) (o : Nat) :
    s.keyStep o = (s.cleared.setF Reg.START_KEY_WRITE_STATUS_STATE 0 2).setV .onKeyStage 0 1 := by
  simp [State.keyStep, hb, setF_fail_eq_cleared, h, stagedBad_cleared, hn]

theorem keyStep_differs (h : s.vn .onKeyStage ≠ 0) : s.keyStep 1 = s.cleared.keyFail 0xB := by
  simp [State.keyStep, hb, setF_fail_eq_cleared, h]

theorem keyStep_silent (h : s.vn .onKeyStage ≠ 0) : s.keyStep 2 = s.cleared.keyFail 0xC := by
  simp [State.keyStep, hb, setF_fail_eq_cleared, h]

theorem keyStep_erased (h : s.vn .onKeyStage = 1) :
    s.keyStep 0 = (((s.cleared.keyErase (slotBase s.otherSlot) 0x100000).pendingSync).setF Reg.START_KEY_WRITE_STATUS_STATE 0 3).setV .onKeyStage 0 2 := by
  simp [State.keyStep, hb, setF_fail_eq_cleared, h]

theorem keyStep_programmed (h : s.vn .onKeyStage = 2) : ∃ a l p, s.keyStep 0
    = (((s.cleared.keyPut a l).setF Reg.START_KEY_WRITE_STATUS_PROGRESS 0 p).setF Reg.START_KEY_WRITE_STATUS_STATE 0 4).setV .onKeyStage 0 3 := by
  simp only [State.keyStep, hb, setF_fail_eq_cleared, keyBusy_cleared, h, reduceIte, Nat.reduceBEq, Nat.reduceBNe, Bool.not_true,
    Bool.false_eq_true]
  exact ⟨_, _, _, rfl⟩

theorem keyStep_verified (h : s.vn .onKeyStage = 3) :
    s.keyStep 0 = (s.cleared.setF Reg.START_KEY_WRITE_STATUS_STATE 0 5).setV .onKeyStage 0 4 := by
  simp [State.keyStep, hb, setF_fail_eq_cleared, h]

theorem keyStep_headed (h : s.vn .onKeyStage = 4) : ∃ a l,
    s.keyStep 0 = ((s.cleared.keyPut a l).setF Reg.START_KEY_WRITE_STATUS_PROGRESS 0 100).setV .onKeyStage 0 5 := by
  simp only [State.keyStep, hb, setF_fail_eq_cleared, keyBusy_cleared, h, reduceIte, Nat.reduceBEq, Nat.reduceBNe, Bool.not_true,
    Bool.false_eq_true]
  exact ⟨_, _, rfl⟩

theorem keyStep_done (h : 5 ≤ s.vn .onKeyStage) : ∃ d, s.keyStep 0
    = (((s.cleared.setF Reg.START_KEY_WRITE_STATUS_STATE 0 6).setV .onKeyStage 0 0).pendingSync).note Ev.KEY_WRITE_DONE d := by
  have hst : ∀ n < 5, (s.vn .onKeyStage == n) = false := fun n hn => beq_eq_false_iff_ne.2 (by omega)
  simp only [State.keyStep, hb, setF_fail_eq_cleared, keyBusy_cleared, hst 0 (by decide), hst 1 (by decide), hst 2 (by decide), hst 3 (by decide),
    hst 4 (by decide), reduceIte, Nat.reduceBEq, Nat.reduceBNe, Bool.not_true, Bool.false_eq_true]
  exact ⟨_, rfl⟩

end

end Sys2Proof.Machine.State
end

-- ==== What a key write changes ====
section
/-!
The frame of every step of a key write, and O26.
-/

namespace Sys2Proof.Machine.State
open Sys2Proof Sys2Proof.Machine

/-- The parts that a step of a key write changes. -/
def keyWriteComps : List Comp := reportComps ++ [.keyMem]

/-- The words that a step of a key write changes. -/
def keyWriteFlds : List Place := reportFlds ++ [one Reg.START_KEY_WRITE_STATUS_FAIL, one Reg.START_KEY_WRITE_STATUS_PROGRESS,
  one Reg.START_KEY_WRITE_STATUS_STATE, one Reg.START_PENDING_GEN]

/-- A step of a key write goes from the one state to the other within its frame. -/
def WritesKey (s u : State) : Prop := Keeps keyWriteComps keyWriteFlds s u

theorem writesKey_fail (s : State) (v : Int) : WritesKey s (s.setF Reg.START_KEY_WRITE_STATUS_FAIL 0 v) :=
  keeps_setF_in s _ 0 v 0 _ _ (one Reg.START_KEY_WRITE_STATUS_FAIL) (by simp [keyWriteFlds]) rfl (by decide) (by decide) (by decide)

theorem writesKey_progress (s : State) (v : Int) : WritesKey s (s.setF Reg.START_KEY_WRITE_STATUS_PROGRESS 0 v) :=
  keeps_setF_in s _ 0 v 0 _ _ (one Reg.START_KEY_WRITE_STATUS_PROGRESS) (by simp [keyWriteFlds]) rfl (by decide) (by decide) (by decide)

theorem writesKey_state (s : State) (v : Int) : WritesKey s (s.setF Reg.START_KEY_WRITE_STATUS_STATE 0 v) :=
  keeps_setF_in s _ 0 v 0 _ _ (one Reg.START_KEY_WRITE_STATUS_STATE) (by simp [keyWriteFlds]) rfl (by decide) (by decide) (by decide)

theorem writesKey_pendingSync (s : State) : WritesKey s s.pendingSync :=
  keeps_setF_in s _ 0 _ 0 _ _ (one Reg.START_PENDING_GEN) (by simp [keyWriteFlds]) rfl (by decide) (by decide) (by decide)

theorem writesKey_keyMem (s : State) (m : List (Nat × Byte)) : WritesKey s { s with keyMem := m } :=
  keeps_of_parts _ (fun c hc => by cases c <;> first | rfl | exact absurd (by decide) hc) rfl

theorem writesKey_stage (s : State) (v : Int) : WritesKey s (s.setV .onKeyStage 0 v) := keeps_setV ..

theorem writesKey_note (s : State) (code d : Nat) : WritesKey s (s.note code d) :=
  (keeps_note s code d 0 0).mono (List.subset_append_left ..) (List.subset_append_left ..)

theorem WritesKey.trans {s u w : State} (h : WritesKey s u) (h' : WritesKey u w) : WritesKey s w := Keeps.trans h h'

theorem writesKey_unheaded (s : State) : WritesKey s s.unheaded := by
  unfold unheaded
  split
  · exact Keeps.refl ..
  · exact (writesKey_keyMem s _).trans (writesKey_pendingSync _)

theorem writesKey_keyFail (s : State) (code : Nat) : WritesKey s (s.keyFail code) := by
  rw [keyFail_eq]
  exact ((((writesKey_unheaded s).trans (writesKey_state _ _)).trans (writesKey_fail _ _)).trans (writesKey_stage _ _)).trans
    (writesKey_note _ _ _)

theorem writesKey_cleared (s : State) : WritesKey s s.cleared := writesKey_fail s 0

/-- A step that ends well, of each stage of the write (R101). -/
theorem writesKey_keyStep_zero {s : State} (hb : s.keyBusy = true) (h : s.vn .onKeyStage ≠ 0) : WritesKey s (s.keyStep 0) := by
  have hclear := writesKey_cleared s
  by_cases h1 : s.vn .onKeyStage = 1
  · rw [keyStep_erased hb h1]
    exact (((hclear.trans (writesKey_keyMem _ _)).trans (writesKey_pendingSync _)).trans (writesKey_state _ _)).trans (writesKey_stage _ _)
  by_cases h2 : s.vn .onKeyStage = 2
  · obtain ⟨_, _, _, e⟩ := keyStep_programmed hb h2
    rw [e]
    exact (((hclear.trans (writesKey_keyMem _ _)).trans (writesKey_progress _ _)).trans (writesKey_state _ _)).trans (writesKey_stage _ _)
  by_cases h3 : s.vn .onKeyStage = 3
  · rw [keyStep_verified hb h3]
    exact (hclear.trans (writesKey_state _ _)).trans (writesKey_stage _ _)
  by_cases h4 : s.vn .onKeyStage = 4
  · obtain ⟨_, _, e⟩ := keyStep_headed hb h4
    rw [e]
    exact ((hclear.trans (writesKey_keyMem _ _)).trans (writesKey_progress _ _)).trans (writesKey_stage _ _)
  · obtain ⟨_, e⟩ := keyStep_done hb (by omega)
    rw [e]
    exact (((hclear.trans (writesKey_state _ _)).trans (writesKey_stage _ _)).trans (writesKey_pendingSync _)).trans (writesKey_note _ _ _)

theorem writesKey_keyStep (s : State) (o : Fin 3) : WritesKey s (s.keyStep o.val) := by
  cases hb : s.keyBusy with
  | false =>
    rw [keyStep_of_not_busy hb]
    exact Keeps.refl ..
  | true =>
    by_cases h : s.vn .onKeyStage = 0
    · cases hn : s.stagedBad with
      | some n =>
        rw [keyStep_check_bad hb h hn]
        exact (writesKey_cleared s).trans (writesKey_keyFail _ _)
      | none =>
        rw [keyStep_check_ok hb h hn]
        exact ((writesKey_cleared s).trans (writesKey_state _ _)).trans (writesKey_stage _ _)
    · match o with
      | 0 => exact writesKey_keyStep_zero hb h
      | 1 =>
        change WritesKey s (s.keyStep 1)
        rw [keyStep_differs hb h]
        exact (writesKey_cleared s).trans (writesKey_keyFail _ _)
      | 2 =>
        change WritesKey s (s.keyStep 2)
        rw [keyStep_silent hb h]
        exact (writesKey_cleared s).trans (writesKey_keyFail _ _)

theorem exec_keyWriteStepEnd (o : Fin 3) (t : Nat) (s : State) :
    exec (.keyWriteStepEnd o t) s = Machine.done ((s.arrive t).keyStep o.val) := rfl

theorem framed_keyWriteStepEnd (s : State) (o : Fin 3) (t : Nat) : Framed (.keyWriteStepEnd o t) s (Keeps keyWriteComps keyWriteFlds) :=
  fun _ hu => ((keeps_arrive s t _ _).trans (writesKey_keyStep _ o)).done ((exec_keyWriteStepEnd o t s).symm.trans hu)

/-! ### What each step shows -/

/-- The progress shown. -/
theorem f_progress (s : State) (x : Int) : ((s.setF Reg.START_KEY_WRITE_STATUS_PROGRESS 0 100).setV .onKeyStage 0 x).f
    Reg.START_KEY_WRITE_STATUS_PROGRESS = 100 := by
  rw [State.f_setV]
  exact f_setF_of_lt s (v := 100) (by decide) (by decide) (by decide)

/-- The state of the write shown. -/
theorem f_writeState (s : State) {v : Nat} (hv : v < 16) (x : Int) : ((s.setF Reg.START_KEY_WRITE_STATUS_STATE 0 v).setV .onKeyStage 0 x).f
    Reg.START_KEY_WRITE_STATUS_STATE = v := by
  rw [State.f_setV]
  exact f_setF_of_lt s (by decide) (by decide) hv

theorem vn_onKeyStage (s : State) (n : Nat) : (s.setV .onKeyStage 0 n).vn .onKeyStage = n := by
  rw [vn_eq, State.v_setV_same, Int.toNat_natCast]

@[simp] theorem vn_onKeyStage_synced (s : State) : s.synced.vn .onKeyStage = s.vn .onKeyStage := vn_synced s (by decide) (by decide)
@[simp] theorem v_onKeyStage_synced (s : State) : s.synced.v .onKeyStage = s.v .onKeyStage := v_synced s (by decide) (by decide)

/-- What the last step shows, keeps and leaves for the next write. -/
theorem keyStep_done_shows {s : State} (hb : s.keyBusy = true) (h : s.vn .onKeyStage = 5) :
    (s.keyStep 0).f Reg.START_KEY_WRITE_STATUS_STATE = 6 ∧ (s.keyStep 0).vn .onKeyStage = 0 ∧ (s.keyStep 0).keyMem = s.keyMem := by
  obtain ⟨d, e⟩ := keyStep_done hb (h.ge)
  have hrest : ∀ y ∈ reportVars, Var.onKeyStage.ctorIdx ≠ y.ctorIdx := by decide
  have hstate := f_writeState s.cleared (v := 6) (by decide) 0
  have hkey (u : State) : (u.note Ev.KEY_WRITE_DONE d).keyMem = u.keyMem := same_note u _ _ _ _ (c := .keyMem) (by decide)
  rw [e]
  refine ⟨?_, ?_, ?_⟩
  · rw [f_note _ _ _ _ _ (by decide) (by decide), State.pendingSync, f_setF_of_clear _ _ (by decide) (by decide) (by decide)]
    exact hstate
  · rw [vn_eq, v_note _ _ _ _ _ hrest (by decide) (by decide), State.pendingSync, State.v_setF, State.v_setV_same]
    rfl
  · rw [hkey, State.pendingSync, State.setF_keyMem, State.setV_keyMem, State.setF_keyMem, keyMem_cleared]

/-- What the check of the staged image shows and keeps when a check fails (R100). -/
theorem keyStep_check_bad_shows {s : State} (hb : s.keyBusy = true) (h : s.vn .onKeyStage = 0) {n : Nat} (hn : s.stagedBad = some n) (o : Nat) :
    (s.keyStep o).keyMem = s.keyMem ∧ (s.keyStep o).now = s.now ∧ (s.keyStep o).f Reg.START_KEY_WRITE_STATUS_STATE = 7
      ∧ (s.keyStep o).f Reg.START_KEY_WRITE_STATUS_FAIL = n ∧ (s.keyStep o).v .onKeyStage = 0
      ∧ ((s.keyStep o).f Reg.STATE_SEEN_EVENTS (Ev.w Ev.KEY_WRITE_FAILED)).testBit (Ev.b Ev.KEY_WRITE_FAILED) = true := by
  rw [keyStep_check_bad hb h hn]
  refine ⟨?_, now_keyFail _ n, f_state_keyFail _ n, f_fail_keyFail _ (stagedBad_lt hn), onKeyStage_keyFail _ n, seen_keyFail _ n⟩
  rw [keyMem_keyFail ((vn_cleared s _ _).trans h), keyMem_cleared]

/-- What it shows and keeps when none fails. -/
theorem keyStep_check_ok_shows {s : State} (hb : s.keyBusy = true) (h : s.vn .onKeyStage = 0) (hn : s.stagedBad = none) (o : Nat) :
    (s.keyStep o).keyMem = s.keyMem ∧ (s.keyStep o).now = s.now ∧ (s.keyStep o).f Reg.START_KEY_WRITE_STATUS_STATE = 2
      ∧ (s.keyStep o).f Reg.START_KEY_WRITE_STATUS_FAIL = 0 ∧ (s.keyStep o).vn .onKeyStage = 1 := by
  rw [keyStep_check_ok hb h hn]
  refine ⟨?_, ?_, f_writeState _ (v := 2) (by decide) 1, ?_, vn_onKeyStage _ 1⟩
  · rw [State.setV_keyMem, State.setF_keyMem, keyMem_cleared]
  · rw [State.setV_now, State.setF_now, now_cleared]
  · rw [State.f_setV, f_setF_of_clear _ _ (by decide) (by decide) (by decide)]
    exact f_setF_of_lt _ (v := 0) (by decide) (by decide) (by decide)

/-- A later step that fails with a code. -/
theorem completes_failing {s : State} (t : Nat) (o : Fin 3) {code : Nat} (hcode : code < 16) (hstep : (s.arrive t).keyStep o.val = (s.arrive t).cleared.keyFail code) :
    Completes (.keyWriteStepEnd o t) s fun u => u.f Reg.START_KEY_WRITE_STATUS_STATE = 7 ∧ u.f Reg.START_KEY_WRITE_STATUS_FAIL = code
      ∧ u.v .onKeyStage = 0 := by
  refine completes_of_done (exec_keyWriteStepEnd o t s) ?_
  rw [hstep]
  simp only [f_synced, v_onKeyStage_synced]
  exact ⟨f_state_keyFail _ _, f_fail_keyFail _ hcode, onKeyStage_keyFail _ _⟩

end Sys2Proof.Machine.State
end

-- ==== O26 ====
section
open Sys2Proof Sys2Proof.Machine Sys2Proof.Machine.State

/-- Settles O26: each step by its effect on the state in which the failure shown is cleared, and its frame from the frames of the writes it is
made of. -/
theorem keyWriteSteps : Obligations.KeyWriteSteps := by
  unfold Obligations.KeyWriteSteps
  refine ⟨?_, ?_, ?_, ?_, ?_, ?_, ?_, ?_, ?_, ?_⟩
  · intro s o t hb
    refine completes_of_done (exec_keyWriteStepEnd o t s) ?_
    rw [keyStep_of_not_busy (s := s.arrive t) hb]
    simp only [regs_synced, keyMem_synced, queue_synced, now_synced]
    exact ⟨rfl, rfl, rfl, rfl⟩
  · intro s o t hb h
    refine completes_of_done (exec_keyWriteStepEnd o t s) ?_
    rw [keyMem_synced, now_synced, f_synced, f_synced, f_synced, v_onKeyStage_synced, vn_onKeyStage_synced]
    cases hn : (s.arrive t).stagedBad with
    | some n => exact keyStep_check_bad_shows (s := s.arrive t) hb h hn o
    | none => exact keyStep_check_ok_shows (s := s.arrive t) hb h hn o
  · exact fun s t hb h => completes_failing t 1 (by decide) (keyStep_differs (s := s.arrive t) hb h)
  · exact fun s t hb h => completes_failing t 2 (by decide) (keyStep_silent (s := s.arrive t) hb h)
  · intro s t hb h
    refine completes_of_done ((exec_keyWriteStepEnd 0 t s).trans (congrArg _ (keyStep_erased (s := s.arrive t) hb h))) ?_
    simp only [f_synced, vn_onKeyStage_synced]
    exact ⟨f_writeState _ (v := 3) (by decide) 2, vn_onKeyStage _ 2⟩
  · intro s t hb h
    obtain ⟨_, _, _, e⟩ := keyStep_programmed (s := s.arrive t) hb h
    refine completes_of_done ((exec_keyWriteStepEnd 0 t s).trans (congrArg _ e)) ?_
    simp only [f_synced, vn_onKeyStage_synced]
    exact ⟨f_writeState _ (v := 4) (by decide) 3, vn_onKeyStage _ 3⟩
  · intro s t hb h
    refine completes_of_done ((exec_keyWriteStepEnd 0 t s).trans (congrArg _ (keyStep_verified (s := s.arrive t) hb h))) ?_
    simp only [f_synced, vn_onKeyStage_synced, keyMem_synced, State.setV_keyMem, State.setF_keyMem, keyMem_cleared]
    exact ⟨f_writeState _ (v := 5) (by decide) 4, vn_onKeyStage _ 4, rfl⟩
  · intro s t hb h
    obtain ⟨_, _, e⟩ := keyStep_headed (s := s.arrive t) hb h
    refine completes_of_done ((exec_keyWriteStepEnd 0 t s).trans (congrArg _ e)) ?_
    simp only [f_synced, vn_onKeyStage_synced]
    exact ⟨f_progress _ 5, vn_onKeyStage _ 5⟩
  · intro s t hb h
    obtain ⟨hstate, hstage, hkey⟩ := keyStep_done_shows (s := s.arrive t) hb h
    refine completes_of_done (exec_keyWriteStepEnd 0 t s) ?_
    simp only [f_synced, vn_onKeyStage_synced, keyMem_synced]
    exact ⟨hstate, hstage, hkey⟩
  · exact framed_keyWriteStepEnd
end

-- ==== The begin of a start and the end of power ====
section
/-!
What survives the loss of power, and what the begin of a start shows.
-/

namespace Sys2Proof.Machine.State
open Sys2Proof Sys2Proof.Machine

/-! ### Sparse stores under a filter that keeps an entry -/

theorem get_filter {α : Type} {p : Nat × α → Bool} {k : Nat} (hp : ∀ v, p (k, v) = true) (d : Nat → α) (l : List (Nat × α)) :
    Store.get d (l.filter p) k = Store.get d l k := by
  induction l with
  | nil => rfl
  | cons e l ih =>
    obtain ⟨a, v⟩ := e
    by_cases hk : a = k
    · subst hk
      simp [hp, Store.get]
    · by_cases hv : p (a, v) = true
      · simp [hv, Store.get, hk, ih]
      · simp [hv, Store.get, hk, ih]

/-! ### What a start leaves of its own words -/

/-- Time, the step of the start and the words of ID, of START and of the clocks stand. -/
def KeepsStart (s u : State) : Prop := u.now = s.now ∧ u.v .startStep = s.v .startStep ∧ ∀ k < 0x030000, u.word k = s.word k

theorem KeepsStart.refl (s : State) : KeepsStart s s := ⟨rfl, rfl, fun _ _ => rfl⟩

theorem KeepsStart.trans {s u w : State} (h : KeepsStart s u) (h' : KeepsStart u w) : KeepsStart s w :=
  ⟨h'.1.trans h.1, h'.2.1.trans h.2.1, fun k hk => (h'.2.2 k hk).trans (h.2.2 k hk)⟩

theorem KeepsStart.f {s u : State} (h : KeepsStart s u) (f : Fld) (hf : f.key 0 < 0x030000) : u.f f 0 = s.f f 0 := by
  rw [State.f, State.f, h.2.2 _ hf]

theorem keepsStart_setF (s : State) (f : Fld) (n : Nat) (v : Int) (j : Nat) (hf : 0x030000 ≤ f.base) : KeepsStart s (s.setF f n v j) :=
  ⟨rfl, rfl, fun k hk => State.word_setWord_ne s _ (by rw [Fld.key]; omega)⟩

theorem keepsStart_setFb (s : State) (f : Fld) (n : Nat) (b : Bool) (j : Nat) (hf : 0x030000 ≤ f.base) : KeepsStart s (s.setFb f n b j) :=
  keepsStart_setF s f n _ j hf

theorem keepsStart_setV (s : State) (x : Var) (i : Nat) (v : Int) (hx : Var.startStep.ctorIdx ≠ x.ctorIdx) (hi : i < 65536) :
    KeepsStart s (s.setV x i v) :=
  ⟨rfl, v_setV_of_ctor s v hx hi (by decide), fun _ _ => rfl⟩

theorem keepsStart_setCause (s : State) (code inst : Nat) (b : Bool) : KeepsStart s (s.setCause code inst b) := ⟨rfl, rfl, fun _ _ => rfl⟩

theorem keepsStart_openSlow (s : State) (t : Timer) (i len : Nat) : KeepsStart s (s.openSlow t i len) := ⟨rfl, rfl, fun _ _ => rfl⟩

theorem keepsStart_each {α : Type} (s : State) (l : List α) (k : State → α → State) (hk : ∀ s, ∀ x ∈ l, KeepsStart s (k s x)) :
    KeepsStart s (s.each l k) :=
  State.each_rel KeepsStart KeepsStart.refl (fun _ _ _ h h' => h.trans h') l k hk s

theorem keepsStart_restoreLatches (s : State) : KeepsStart s s.restoreLatches := by
  unfold State.restoreLatches
  refine (keepsStart_each _ _ _ fun u n _ => ?_).trans (keepsStart_each _ _ _ fun u k _ => keepsStart_setCause ..)
  exact (keepsStart_setFb u _ n true 0 (by decide)).trans (keepsStart_setCause ..)

theorem keepsStart_safetyBegin (s : State) : KeepsStart s s.safetyBegin := by
  have hpairs : KeepsStart s (s.each (List.range 5) fun s i => (s.setOn .stoState i true).setOn .stoSample i true) :=
    keepsStart_each _ _ _ fun u i hi => by
      have hlt : i < 65536 := (List.mem_range.1 hi).trans (by decide)
      exact (keepsStart_setV u .stoState i _ (by decide) hlt).trans (keepsStart_setV _ .stoSample i _ (by decide) hlt)
  have hrequest (u : State) (v : Int) : KeepsStart u ((u.setF Reg.SAFE_STATUS_STO_REQ 0 v).setFb Reg.SAFE_STATUS_SBC_REQ 0 true) :=
    (keepsStart_setF u _ 0 v 0 (by decide)).trans (keepsStart_setFb _ _ 0 true 0 (by decide))
  have hpaths (u : State) (v : Int) : KeepsStart u ((u.setF Reg.SAFE_STATUS_EN_HW 0 v).openSlow .safety 0 (us 100)) :=
    (keepsStart_setF u _ 0 v 0 (by decide)).trans (keepsStart_openSlow ..)
  unfold State.safetyBegin
  refine hpairs.trans ((hrequest _ _).trans ((hpaths _ _).trans ((keepsStart_openSlow ..).trans (keepsStart_each _ _ _ fun u g hg => ?_))))
  exact (keepsStart_setV u .stoLast g _ (by decide) ((List.mem_range.1 hg).trans (by decide))).trans (keepsStart_openSlow ..)

/-! ### What survives -/

@[simp] theorem now_append (s : State) (r : Rec) : (s.append r).now = s.now := by rw [State.append, State.addF_now]

@[simp] theorem now_appendOwn (s : State) (a : RepArg) : (s.appendOwn a).now = s.now := by
  rw [State.appendOwn, now_append, State.markSeen_now]

@[simp] theorem now_fullCheck (s : State) : s.fullCheck.now = s.now := by
  unfold State.fullCheck
  split
  · rw [State.setOn_now, now_appendOwn]
  · rfl

@[simp] theorem now_fillCheck (s : State) : s.fillCheck.now = s.now := by
  unfold State.fillCheck
  dsimp only
  rw [now_fullCheck]
  split
  · rw [now_appendOwn, State.setOn_now]
  · rw [State.setOn_now]

theorem now_each {α : Type} (s : State) (l : List α) (k : State → α → State) (hk : ∀ s x, (k s x).now = s.now) : (s.each l k).now = s.now :=
  State.each_rel (fun s u => u.now = s.now) (fun _ => rfl) (fun _ _ _ h h' => h'.trans h) l k (fun s x _ => hk s x) s

@[simp] theorem now_writeQueue (s : State) : s.writeQueue.now = s.now := by
  unfold State.writeQueue
  refine now_each _ _ _ fun u r => ?_
  split
  · rfl
  · rw [now_fillCheck, now_append]

@[simp] theorem now_skipUnpowered (s : State) : s.skipUnpowered.now = s.now := by
  unfold State.skipUnpowered
  exact now_each s [0, 1] _ fun _ _ => rfl

@[simp] theorem regs_skipUnpowered (s : State) : s.skipUnpowered.regs = s.regs := rfl

@[simp] theorem now_fresh (s : State) (m : ModState) : (s.fresh m).now = s.now := rfl
@[simp] theorem queue_fresh (s : State) (m : ModState) : (s.fresh m).queue = [] := rfl

/-- The number of starts survives (R710). -/
theorem f_starts_fresh (s : State) (m : ModState) : (s.fresh m).f Reg.ID_STARTS = s.f Reg.ID_STARTS := by
  have hword : Store.get Map.reset (s.regs.filter fun e => keptWord (m == .sleep) e.1) (Reg.ID_STARTS.key 0) = s.word (Reg.ID_STARTS.key 0) :=
    get_filter (fun _ => by simp [keptWord]) _ _
  unfold State.fresh
  dsimp only
  rw [State.each_cons, State.each_cons, State.each_nil, State.setFb, State.setFb, f_setF_of_clear _ _ (by decide) (by decide) (by decide),
    f_setF_of_clear _ _ (by decide) (by decide) (by decide), State.f, State.f, ← hword]
  rfl

@[simp] theorem now_powerEnd (s : State) (m : ModState) : (s.powerEnd m).now = s.now := s.now_writeQueue
@[simp] theorem queue_powerEnd (s : State) (m : ModState) : (s.powerEnd m).queue = [] := rfl

/-! ### What the begin of a start shows -/

/-- What the begin of a start finds: the report queue of a powered module is written, time without power does not count. -/
def beforeStart (s : State) : State := if s.powered then s.writeQueue.countPowered else s.skipUnpowered

/-- A start's own words at its begin. -/
def startWords (s : State) (source unit : Nat) : State :=
  let s := (s.fresh .starting).addF Reg.ID_STARTS 0
  let s := ((s.setV .startAt 0 (s.now : Nat)).setV .startStep 0 1).setV .offAt 0 0
  let s := (s.setF Reg.START_WAKE_CAUSE_SOURCE 0 source).setF Reg.START_WAKE_CAUSE_UNIT 0 unit
  let s := (s.setF Reg.START_KEY_STATUS_SLOT 0 3).setF Reg.START_KEY_STATUS_READ_MODE 0 3
  (s.setF Reg.START_TIMES_VERIFIED_AT 0 0xFFFF).setF Reg.START_TIMES_READY_AT 0 0xFFFF

/-- After its own words a start writes latches, safety functions and gate supplies, and reports a wake. -/
theorem begin_parts (s : State) (source unit : Nat) :
    ∃ u, KeepsStart (s.beforeStart.startWords source unit) u ∧ (s.begin source unit = u ∨ s.begin source unit = u.note Ev.WAKE source unit) := by
  unfold State.begin
  dsimp only
  refine ⟨_, ((keepsStart_restoreLatches _).trans (keepsStart_safetyBegin _)).trans
    (keepsStart_each _ ((List.range 64).filter fun c => s.powered && s.fb Reg.CH_STATUS_SUPPLY_ON c) _
      fun u c _ => keepsStart_setFb u Reg.CH_STATUS_SUPPLY_ON c true 0 (by decide)), ?_⟩
  split
  · exact .inr rfl
  · exact .inl rfl

theorem now_beforeStart (s : State) : s.beforeStart.now = s.now := by
  unfold beforeStart
  split
  · exact s.now_writeQueue
  · exact s.now_skipUnpowered

theorem startStep_startWords (s : State) (source unit : Nat) : (s.startWords source unit).v .startStep = 1 := by
  unfold startWords
  dsimp only
  iterate 6 rw [State.v_setF]
  rw [v_setV_of_ctor _ _ (by decide) (by decide) (by decide), State.v_setV_same]

theorem now_startWords (s : State) (source unit : Nat) : (s.startWords source unit).now = s.now := by
  unfold startWords
  dsimp only
  iterate 6 rw [State.setF_now]
  rw [State.setV_now, State.setV_now, State.setV_now, State.addF_now, now_fresh]

theorem source_startWords (s : State) {source : Nat} (unit : Nat) (h : source < 16) :
    (s.startWords source unit).f Reg.START_WAKE_CAUSE_SOURCE = source := by
  unfold startWords
  dsimp only
  iterate 5 rw [f_setF_of_clear _ _ (by decide) (by decide) (by decide)]
  exact f_setF_of_lt _ (by decide) (by decide) h

theorem unit_startWords (s : State) (source : Nat) {unit : Nat} (h : unit < 16) :
    (s.startWords source unit).f Reg.START_WAKE_CAUSE_UNIT = unit := by
  unfold startWords
  dsimp only
  iterate 4 rw [f_setF_of_clear _ _ (by decide) (by decide) (by decide)]
  exact f_setF_of_lt _ (by decide) (by decide) h

theorem starts_startWords (s : State) (source unit : Nat) : (s.startWords source unit).f Reg.ID_STARTS = s.plus Reg.ID_STARTS := by
  unfold startWords
  dsimp only
  iterate 6 rw [f_setF_of_clear _ _ (by decide) (by decide) (by decide)]
  rw [State.f_setV, State.f_setV, State.f_setV, State.addF, f_starts_fresh]
  exact f_setF_of_lt _ (by decide) (by decide) (Nat.lt_of_le_of_lt (Nat.min_le_right ..) (Nat.sub_lt (Nat.two_pow_pos _) Nat.one_pos))

/-- A start begins without taking time. -/
@[simp] theorem now_begin (s : State) (source unit : Nat) : (s.begin source unit).now = s.now := by
  obtain ⟨u, ⟨hnow, -, -⟩, h | h⟩ := begin_parts s source unit
  · rw [h, hnow, now_startWords, now_beforeStart]
  · rw [h, State.note, State.report_now, hnow, now_startWords, now_beforeStart]

/-- A start begins at step 1. -/
theorem startStep_begin (s : State) (source unit : Nat) : (s.begin source unit).v .startStep = 1 := by
  obtain ⟨u, ⟨-, hstep, -⟩, h | h⟩ := begin_parts s source unit
  · rw [h, hstep, startStep_startWords]
  · rw [h, v_note _ _ _ _ _ (by decide) (by decide) (by decide), hstep, startStep_startWords]

/-- A word of ID, of START or of the clocks at the begin of a start is what the start's own words say. -/
theorem f_begin (s : State) (source unit : Nat) {f : Fld} (hf : f.lo ≤ f.hi) (hkey : f.key 0 < 0x030000)
    (hclear : reportFlds.all (clearOf f 0 0) = true) : (s.begin source unit).f f = (s.beforeStart.startWords source unit).f f := by
  obtain ⟨u, hu, h | h⟩ := begin_parts s source unit
  · rw [h, hu.f f hkey]
  · rw [h, f_note _ _ _ _ _ hf hclear, hu.f f hkey]

theorem source_begin (s : State) {source : Nat} (unit : Nat) (h : source < 16) :
    (s.begin source unit).f Reg.START_WAKE_CAUSE_SOURCE = source := by
  rw [f_begin s source unit (by decide) (by decide) (by decide), source_startWords _ unit h]

theorem unit_begin (s : State) (source : Nat) {unit : Nat} (h : unit < 16) : (s.begin source unit).f Reg.START_WAKE_CAUSE_UNIT = unit := by
  rw [f_begin s source unit (by decide) (by decide) (by decide), unit_startWords _ source h]

/-- A start from OFF counts (R710). -/
theorem starts_begin {s : State} (h : s.powered = false) (source unit : Nat) : (s.begin source unit).f Reg.ID_STARTS = s.plus Reg.ID_STARTS := by
  have hword : s.beforeStart.f Reg.ID_STARTS = s.f Reg.ID_STARTS := by
    rw [beforeStart, h]
    exact f_congr s.regs_skipUnpowered ..
  rw [f_begin s source unit (by decide) (by decide) (by decide), starts_startWords, State.plus, hword, State.plus]

theorem module_begin (s : State) (source unit : Nat) : (s.begin source unit).module = .starting := congrArg Prod.fst (modes_begin s source unit)

theorem module_powerEnd (s : State) (m : ModState) : (s.powerEnd m).module = m := congrArg Prod.fst (modes_powerEnd s m)

/-- Every stage is STOPPED where no stage has another state. -/
theorem allStopped_of_modes {s : State} {m : ModState} (h : s.modes = (m, fun _ => .stopped)) : s.allStopped = true := by
  have hst : s.st = fun _ => .stopped := congrArg Prod.snd h
  rw [State.allStopped, hst]
  rfl

end Sys2Proof.Machine.State
end

-- ==== The power, wake, sleep, ship and restart events ====
section
/-!
The events that start the module, take its power or begin an entry sequence, and O1.
-/

namespace Sys2Proof.Machine.State
open Sys2Proof Sys2Proof.Machine

/-! ### Starts -/

/-- Every start ends in STARTING at step 1. -/
theorem begin_starts (s : State) (source unit : Nat) :
    (s.begin source unit).synced.module = .starting ∧ (s.begin source unit).synced.vn .startStep = 1 := by
  rw [module_synced, vn_synced _ (by decide) (by decide), vn_eq, startStep_begin]
  exact ⟨module_begin .., rfl⟩

/-- It shows its source and unit. -/
theorem begin_shows (s : State) {source unit : Nat} (hsource : source < 16) (hunit : unit < 16) :
    (s.begin source unit).synced.module = .starting ∧ (s.begin source unit).synced.vn .startStep = 1
      ∧ (s.begin source unit).synced.f Reg.START_WAKE_CAUSE_SOURCE = source ∧ (s.begin source unit).synced.f Reg.START_WAKE_CAUSE_UNIT = unit := by
  rw [f_synced, f_synced]
  exact ⟨(begin_starts ..).1, (begin_starts ..).2, source_begin s unit hsource, unit_begin s source hunit⟩

theorem exec_vauxValid {s : State} (h : s.module = .off) (t : Nat) : exec (.vauxValid t) s = Machine.done ((s.arrive t).begin 0 0) := by
  change Machine.done (if (s.module == .off) = true then _ else _) = _
  rw [if_pos (by rw [h]; rfl)]
  rfl

/-- A wake event wakes from SLEEP and SHIP. -/
theorem wakeUp_of_asleep {s : State} (h : s.module = .sleep ∨ s.module = .ship) (source unit : Nat) : s.wakeUp source unit = s.begin source unit := by
  rw [State.wakeUp, if_pos (by obtain h | h := h <;> simp [h])]

/-- A wake event is latched during an entry sequence. -/
theorem wakeUp_of_entering {s : State} (h : s.module = .ready) (he : s.on .entering = true) (hl : s.on .wakeLatched = false) (source unit : Nat) :
    s.wakeUp source unit = s.setV .wakeLatched 0 (source + 1 + 16 * unit : Nat) := by
  rw [State.wakeUp, if_neg (by simp [h]), if_pos (by simp [he, hl])]

/-- The state that a rising edge of WAKE meets: its level and the time of its edge are noted. -/
def wakeSeen (s : State) (t : Nat) : State := ((s.arrive t).setOn .wakeHigh 0 true).setV .wakeAt 0 (max s.now t + 1 : Nat)

theorem exec_wake (s : State) (t : Nat) : exec (.wake t) s = Machine.done ((s.wakeSeen t).wakeUp 1 0) := rfl

theorem on_wakeSeen (s : State) (t : Nat) {x : Var} (hx : x.ctorIdx ≠ Var.wakeHigh.ctorIdx ∧ x.ctorIdx ≠ Var.wakeAt.ctorIdx) :
    (s.wakeSeen t).on x = s.on x := by
  rw [on_eq, wakeSeen, v_setV_of_ctor _ _ hx.2 (by decide) (by decide), State.setOn, v_setV_of_ctor _ _ hx.1 (by decide) (by decide)]
  rfl

theorem exec_canWakePattern {s : State} (h : s.module = .sleep) (channel : Fin 4) (t : Nat)
    (hon : (s.f Reg.START_WAKE_SOURCES_CAN_WAKE).testBit channel.val = true) (hship : s.vn .entering ≠ 2) :
    exec (.canWakePattern channel t) s = Machine.done ((s.arrive t).begin 2 channel.val) := by
  change Machine.done (if ((s.f Reg.START_WAKE_SOURCES_CAN_WAKE).testBit channel.val && s.module != .ship && s.vn .entering != 2) = true
    then (s.arrive t).wakeUp 2 channel.val else _) = _
  rw [if_pos (by simp [h, hon, hship]), wakeUp_of_asleep (s := s.arrive t) (.inl h)]

theorem exec_fabricWakeSignal {s : State} (h : s.module = .sleep) (port : Fin 4) (t : Nat)
    (hon : (s.f Reg.START_WAKE_SOURCES_FABRIC_WAKE).testBit port.val = true) (hport : s.fb Reg.FAB_PORT_CFG_ENABLE port.val = true)
    (hship : s.vn .entering ≠ 2) : exec (.fabricWakeSignal port t) s = Machine.done ((s.arrive t).begin 3 port.val) := by
  change Machine.done (if ((s.f Reg.START_WAKE_SOURCES_FABRIC_WAKE).testBit port.val && s.fb Reg.FAB_PORT_CFG_ENABLE port.val
    && s.module != .ship && s.vn .entering != 2) = true then (s.arrive t).wakeUp 3 port.val else _) = _
  rw [if_pos (by simp [h, hon, hport, hship]), wakeUp_of_asleep (s := s.arrive t) (.inl h)]

/-- The instant at which an accepted RESTART begins. -/
def restartTime (s : State) (t : Nat) : Nat := match s.due .restartBy with
  | some e => min t e
  | none => t

theorem exec_restartBegin {s : State} (h : s.on .restarting = true)
    (hm : s.module = .unconfigured ∨ s.module = .ready ∨ s.module = .service ∨ s.module = .safe) (t : Nat) :
    exec (.restartBegin t) s = Machine.done ((s.arrive (s.restartTime t)).begin 4 0) := by
  change Machine.done (if (s.on .restarting && (s.module == .unconfigured || s.module == .safe || s.module == .ready || s.module == .service)) = true
    then (s.arrive (s.restartTime t)).begin 4 0 else s) = _
  rw [if_pos]
  obtain hm | hm | hm | hm := hm
  all_goals simp [h, hm]

/-! ### Loss of VAUX -/

/-- A loss of VAUX ends a key write first. -/
def keyStopped (s : State) : State := if s.keyBusy then s.keyFail 0xC else s

theorem vauxLost_of_powered {s : State} (hp : s.powered = true) (hd : s.on .dying = false) :
    ∃ r : Rec, r.code = Ev.VAUX_LOST ∧ s.vauxLost = ((({ s.keyStopped with queue := s.keyStopped.queue ++ [r] } : State).markSeen Ev.VAUX_LOST).setOn
      .dying 0 true).setV .dyingAt 0 (s.keyStopped.now : Nat) := by
  have hm : (s.module == .sleep || s.module == .ship) = false := by
    unfold State.powered at hp
    cases hmod : s.module <;> simp_all [ModState.code]
  refine ⟨s.keyStopped.mkRec { code := Ev.VAUX_LOST }, rfl, ?_⟩
  unfold State.vauxLost
  rw [hd, hm, hp]
  rfl

theorem module_keyStopped (s : State) : s.keyStopped.module = s.module := by
  unfold keyStopped
  split
  · exact module_of_modes (modes_keyFail ..)
  · rfl

/-- VAUX_LOST takes the tail of the queue (R572). -/
theorem vauxLost_shows {s : State} (hp : s.powered = true) (hd : s.on .dying = false) :
    s.vauxLost.on .dying = true ∧ s.vauxLost.queue.getLast?.map Rec.code = some Ev.VAUX_LOST ∧ s.vauxLost.module = s.module := by
  obtain ⟨r, hcode, e⟩ := vauxLost_of_powered hp hd
  rw [e]
  refine ⟨?_, ?_, ?_⟩
  · rw [on_eq, v_setV_of_ctor _ _ (by decide) (by decide) (by decide), State.setOn, State.v_setV_same]
    rfl
  · change ((s.keyStopped.queue ++ [r]).getLast?).map Rec.code = _
    rw [List.getLast?_concat, Option.map_some, hcode]
  · exact s.module_keyStopped

/-- The end of the hold-up (R731). -/
theorem exec_holdupEnd {s : State} (h : s.on .dying = true) (t : Nat) :
    exec (.holdupEnd t) s = Machine.done (({ s with now := max (max s.now t) (s.vn .dyingAt + us 2900) } : State).powerEnd .off) := by
  change Machine.done (if s.on .dying = true then ({ s with now := max (max s.now t) (if s.on .dying = true then _ else 0) } : State).powerEnd .off
    else _) = _
  rw [if_pos h, if_pos h]

/-! ### Entry sequences -/

/-- The sleep idle window starts the sleep entry (R91). -/
theorem exec_sleepIdleExpired {s : State} (ho : s.isOpen .sleepIdle = true) (hm : s.module = .ready) (hs : s.allStopped = true)
    (hb : s.keyBusy = false) (he : s.on .entering = false) : exec .sleepIdleExpired s
      = Machine.done (({ s.close .sleepIdle 0 with now := max s.now (s.endOf .sleepIdle) } : State).setV .entering 0 1) := by
  obtain ⟨e, hdue⟩ := Option.isSome_iff_exists.1 ho
  have hend : s.endOf .sleepIdle = e := by rw [State.endOf, hdue, Option.getD_some]
  change Machine.done (s.expire .sleepIdle 0 _) = _
  rw [State.expire, hdue, hend]
  change Machine.done (if (s.module == .ready && s.allStopped && !s.keyBusy && !s.on .entering) = true then _ else _) = _
  rw [if_pos (by simp [hm, hs, hb, he])]

/-- The state in which an entry sequence that completes leaves the module. -/
def entered (s : State) (m : ModState) (code : Nat) : State := (s.note code).powerEnd m

theorem lowPower_eq {s : State} (hm : s.module = .ready) {kind : Nat} (hk : s.vn .entering = kind) (m : ModState) (code : Nat) :
    s.lowPower kind m code = if s.vn .wakeLatched = 0 then s.entered m code
      else (s.entered m code).begin (s.vn .wakeLatched % 16 - 1) (s.vn .wakeLatched / 16) := by
  simp [State.lowPower, hm, hk, entered]

@[simp] theorem now_entered (s : State) (m : ModState) (code : Nat) : (s.entered m code).now = s.now := by
  rw [entered, now_powerEnd, State.note, State.report_now]

/-- An entry sequence without a latched wake. -/
theorem lowPower_shows {s : State} (hm : s.module = .ready) {kind : Nat} (hk : s.vn .entering = kind) (hw : s.vn .wakeLatched = 0) (m : ModState)
    (code : Nat) : (s.lowPower kind m code).synced.module = m ∧ (s.lowPower kind m code).synced.queue = []
      ∧ (s.lowPower kind m code).synced.now = s.now := by
  rw [lowPower_eq hm hk, if_pos hw, module_synced, queue_synced, now_synced, now_entered]
  exact ⟨module_powerEnd .., queue_powerEnd .., rfl⟩

end Sys2Proof.Machine.State
end

-- ==== O1 ====
section
open Sys2Proof Sys2Proof.Machine Sys2Proof.Machine.State

/-- Settles O1: each event by the state it makes, a start by its own words beside the latches and the safety functions. -/
theorem startEvents : Obligations.StartEvents := by
  unfold Obligations.StartEvents
  refine ⟨?_, ?_, ?_, ?_, ?_, ?_, ?_, ?_, ?_, ?_, ?_, ?_⟩
  · intro s t h
    obtain ⟨hmodule, hstep, hsource, -⟩ := begin_shows (s.arrive t) (source := 0) (unit := 0) (by decide) (by decide)
    have hoff : (s.arrive t).powered = false := by
      change decide (3 ≤ s.module.code) = false
      rw [h]
      rfl
    refine completes_of_done (exec_vauxValid h t) ⟨hmodule, hstep, ?_, hsource, ?_, ?_⟩
    · rw [now_synced, now_begin]
      rfl
    · rw [f_synced, starts_begin hoff]
      rfl
    · rw [allStopped_synced]
      exact allStopped_of_modes (modes_begin ..)
  · intro s t hp hd
    obtain ⟨hdying, hqueue, hmodule⟩ := vauxLost_shows (s := s.arrive t) hp hd
    refine completes_of_done (w := (s.arrive t).vauxLost) rfl ?_
    rw [on_synced _ (by decide) (by decide), queue_synced, module_synced]
    exact ⟨hdying, hqueue, hmodule⟩
  · intro s t hd
    refine completes_of_done (exec_holdupEnd hd t) ?_
    rw [module_synced, queue_synced, now_synced, now_powerEnd, allStopped_synced]
    exact ⟨module_powerEnd .., queue_powerEnd .., rfl, allStopped_of_modes (modes_powerEnd ..)⟩
  · intro s t h
    refine completes_of_done ((exec_wake s t).trans (congrArg _ (wakeUp_of_asleep (s := s.wakeSeen t) h 1 0))) ?_
    exact begin_shows _ (by decide) (by decide)
  · intro s t h he hl
    have hwake := wakeUp_of_entering (s := s.wakeSeen t) h ((on_wakeSeen s t (by decide)).trans he) ((on_wakeSeen s t (by decide)).trans hl) 1 0
    refine completes_of_done ((exec_wake s t).trans (congrArg _ hwake)) ?_
    rw [module_synced, on_synced _ (by decide) (by decide), on_eq, State.v_setV_same]
    exact ⟨h, rfl⟩
  · intro s channel t h hon hship
    exact completes_of_done (exec_canWakePattern h channel t hon hship) (begin_shows _ (by decide) (by omega))
  · intro s port t h hon hport hship
    exact completes_of_done (exec_fabricWakeSignal h port t hon hport hship) (begin_shows _ (by decide) (by omega))
  · intro s ho hm hs hb he
    refine completes_of_done (exec_sleepIdleExpired ho hm hs hb he) ?_
    rw [vn_synced _ (by decide) (by decide), vn_eq, State.v_setV_same, now_synced, module_synced]
    exact ⟨rfl, rfl, hm⟩
  · intro s t hm he hw
    exact completes_of_done (w := (s.arrive t).lowPower 1 .sleep Ev.SLEEP_ENTERED) rfl (lowPower_shows (s := s.arrive t) hm he hw ..)
  · intro s t hm he hw
    have hlow := (lowPower_eq (s := s.arrive t) hm he .sleep Ev.SLEEP_ENTERED).trans (if_neg hw)
    refine completes_of_done ((show exec (.sleepEntered t) s = Machine.done ((s.arrive t).lowPower 1 .sleep Ev.SLEEP_ENTERED) from rfl).trans
      (congrArg _ hlow)) ?_
    rw [now_synced, now_begin, now_entered]
    exact ⟨(begin_starts ..).1, (begin_starts ..).2, rfl⟩
  · intro s t hm he hw
    exact completes_of_done (w := (s.arrive t).lowPower 2 .ship Ev.SHIP_ENTERED) rfl (lowPower_shows (s := s.arrive t) hm he hw ..)
  · intro s t h hm
    obtain ⟨hmodule, hstep, hsource, -⟩ := begin_shows (s.arrive (s.restartTime t)) (source := 4) (unit := 0) (by decide) (by decide)
    exact completes_of_done (exec_restartBegin h hm t) ⟨hmodule, hstep, hsource⟩
end

-- ==== The checks of a start ====
section
/-!
Steps 1 to 6 of a start: what decides them, what a failed start shows, and what each check finds.
-/

namespace Sys2Proof.Machine.State
open Sys2Proof Sys2Proof.Machine

/-! ### The units that a decision sets up -/

theorem keepsStart_of_modes {s u : State} (hnow : u.now = s.now) (hvars : u.vars = s.vars) (hregs : u.regs = s.regs) : KeepsStart s u :=
  ⟨hnow, v_congr hvars .., fun k _ => by rw [State.word, State.word, hregs]⟩

theorem keepsStart_canSync (s : State) (ch : Nat) : KeepsStart s (s.canSync ch) :=
  ((keepsStart_setF s _ ch _ 0 (by decide)).trans (keepsStart_setF _ _ ch _ 0 (by decide))).trans (keepsStart_setF _ _ ch _ 0 (by decide))

theorem keepsStart_canOff (s : State) : KeepsStart s s.canOff := by
  unfold State.canOff
  refine KeepsStart.trans (u := { s with canRx := [], canTx := [], canHold := [] }) (keepsStart_of_modes rfl rfl rfl)
    (keepsStart_each _ _ _ fun u ch _ => ?_)
  exact (keepsStart_setF u Reg.CAN_STATUS_STATE ch 0 0 (by decide)).trans (keepsStart_canSync ..)

theorem keepsStart_setPort (s : State) (p st : Nat) : KeepsStart s (s.setPort p st) :=
  ((keepsStart_setF s Reg.FAB_PORT_STATUS_STATE p _ 0 (by decide)).trans (keepsStart_setF _ Reg.FAB_STATUS_VERIFIED 0 _ 0 (by decide))).trans
    (keepsStart_setF _ Reg.FAB_STATUS_BLOCKED 0 _ 0 (by decide))

theorem keepsStart_fabTrain (s : State) : KeepsStart s s.fabTrain := by
  unfold State.fabTrain
  refine (keepsStart_setFb s Reg.FAB_STATUS_TRANSIT 0 true 0 (by decide)).trans ?_
  dsimp only
  split
  · exact KeepsStart.refl _
  · exact keepsStart_each _ _ _ fun u p _ => keepsStart_setPort u p 1

/-! ### A start that fails -/

/-- The value that a field takes. -/
theorem f_setF_nat (s : State) {f : Fld} {n j : Nat} (v : Nat) (hl : f.lo ≤ f.hi) (hh : f.hi < 32) :
    (s.setF f n v j).f f n j = v % 2 ^ f.width := by
  rw [f_setF_same s f n v j hl hh, wrap, ← Int.natCast_mod, Int.toNat_natCast]

/-- The words of a failed start before its units are set up. -/
def failedStart (s : State) (cause detail : Nat) : State :=
  let s := (s.note (startEvent cause) detail).setF Reg.START_KEY_STATUS_CAUSE 0 cause
  let s : State := { s.setV .moduleEvent 0 (startEvent cause) with module := .unconfigured }
  s.setV .startStep 0 0

theorem regs_failedStart (s : State) (cause detail : Nat) :
    (s.failedStart cause detail).regs = ((s.note (startEvent cause) detail).setF Reg.START_KEY_STATUS_CAUSE 0 cause).regs := rfl

theorem startFail_eq (s : State) (cause detail : Nat) : s.startFail cause detail
    = if s.vn .startStep != 1 then (s.failedStart cause detail).canOff else (s.failedStart cause detail).canOff.fabTrain := rfl

theorem keepsStart_startFail (s : State) (cause detail : Nat) : KeepsStart (s.failedStart cause detail) (s.startFail cause detail) := by
  rw [startFail_eq]
  split
  · exact keepsStart_canOff _
  · exact (keepsStart_canOff _).trans (keepsStart_fabTrain _)

/-- A failed start ends in UNCONFIGURED and shows its cause (R90). -/
theorem startFail_shows (s : State) (cause detail : Nat) : (s.startFail cause detail).module = .unconfigured
    ∧ (s.startFail cause detail).f Reg.START_KEY_STATUS_CAUSE = cause % 16 ∧ (s.startFail cause detail).vn .startStep = 0 := by
  have hkeep := keepsStart_startFail s cause detail
  refine ⟨congrArg Prod.fst (modes_startFail s cause detail), ?_, ?_⟩
  · rw [hkeep.f _ (by decide), f_congr (regs_failedStart s cause detail)]
    exact f_setF_nat _ cause (by decide) (by decide)
  · rw [vn_eq, hkeep.2.1, failedStart, State.v_setV_same]
    rfl

theorem synced_startFail_shows (s : State) (cause detail : Nat) : (s.startFail cause detail).synced.module = .unconfigured
    ∧ (s.startFail cause detail).synced.f Reg.START_KEY_STATUS_CAUSE = cause % 16 ∧ (s.startFail cause detail).synced.vn .startStep = 0 := by
  rw [module_synced, f_synced, vn_synced _ (by decide) (by decide)]
  exact startFail_shows ..

/-! ### The decision of step 1 -/

/-- The decision waits for both tests. -/
theorem startDecide_waits {s : State} (h : s.vn .injectOk = 0 ∨ s.vn .memoryOk = 0) : s.startDecide = s := by
  rw [State.startDecide, if_pos]
  obtain h | h := h
  · simp [h]
  · simp [h]

section
variable {s : State} (hm : s.module = .starting) (hs : s.vn .startStep = 1)
include hm hs

theorem startDecide_inject (hi : s.vn .injectOk = 2) (hmem : s.vn .memoryOk ≠ 0) : s.startDecide = s.startFail 8 0 := by
  simp [State.startDecide, hm, hs, hi, hmem]

theorem startDecide_memory (hi : s.vn .injectOk = 1) (hmem : s.vn .memoryOk = 2) : s.startDecide = s.startFail 9 0 := by
  simp [State.startDecide, hm, hs, hi, hmem]

theorem startDecide_key (hi : s.vn .injectOk = 1) (hmem : s.vn .memoryOk = 1) (hlog : s.on .logBuilt = true) {k : Nat}
    (hkey : s.vn .keyFound = k + 2) : s.startDecide = s.startFail k 0 := by
  simp [State.startDecide, hm, hs, hi, hmem, hlog, hkey]

/-- The PLL locks unless a fault of its clocks stands. -/
theorem startDecide_passed (hi : s.vn .injectOk = 1) (hmem : s.vn .memoryOk = 1) (hlog : s.on .logBuilt = true) (hkey : s.vn .keyFound = 1) :
    s.startDecide = ((if s.fb Reg.CLK_STATUS_XTAL_FAIL || s.fb Reg.CLK_STATUS_PLL_FAIL then s else s.pllLocked).setV .startStep 0 6).fabTrain := by
  simp [State.startDecide, hm, hs, hi, hmem, hlog, hkey]

end

end Sys2Proof.Machine.State
end

-- ==== The ends of the checks of a start ====
section
/-!
The two tests of step 1, the rebuild of the log, the key's findings and the verification of the image: the first eight clauses of O2.
-/

namespace Sys2Proof.Machine.State
open Sys2Proof Sys2Proof.Machine

/-! ### The two tests of step 1 -/

/-- The injection test has ended with a result. -/
def injected (s : State) (pass : Bool) : State := (s.setV .injectOk 0 (if pass then 1 else 2)).setFb Reg.CORE_STATUS_INJECT_OK 0 pass

/-- The memory test has ended with a result. -/
def memoryTested (s : State) (pass : Bool) : State := (s.setV .memoryOk 0 (if pass then 1 else 2)).openSlow .scrub 0 (us 1)

theorem exec_injectionTestDone {s : State} (hm : s.module = .starting) (hs : s.vn .startStep = 1) (hi : s.vn .injectOk = 0) (pass : Bool) (t : Nat) :
    exec (.injectionTestDone pass t) s = Machine.done (((s.arrive t).injected pass).startDecide) := by
  change Machine.done (if (s.module == .starting && s.vn .startStep == 1 && s.vn .injectOk == 0) = true
    then ((s.arrive t).injected pass).startDecide else _) = _
  rw [if_pos (by simp [hm, hs, hi])]

theorem exec_memoryTestDone {s : State} (hm : s.module = .starting) (hs : s.vn .startStep = 1) (hmem : s.vn .memoryOk = 0) (pass : Bool) (t : Nat) :
    exec (.memoryTestDone pass t) s = Machine.done (((s.arrive t).memoryTested pass).startDecide) := by
  change Machine.done (if (s.module == .starting && s.vn .startStep == 1 && s.vn .memoryOk == 0) = true
    then ((s.arrive t).memoryTested pass).startDecide else _) = _
  rw [if_pos (by simp [hm, hs, hmem])]

theorem injectOk_injected (s : State) (pass : Bool) : (s.injected pass).vn .injectOk = if pass then 1 else 2 := by
  rw [vn_eq, injected, State.setFb, State.v_setF, State.v_setV_same]
  cases pass
  · rfl
  · rfl

theorem vn_injected (s : State) (pass : Bool) {x : Var} (hx : x.ctorIdx ≠ Var.injectOk.ctorIdx) : (s.injected pass).vn x = s.vn x := by
  rw [vn_eq, injected, State.setFb, State.v_setF, v_setV_of_ctor _ _ hx (by decide) (by decide), vn_eq]

theorem memoryOk_memoryTested (s : State) (pass : Bool) : (s.memoryTested pass).vn .memoryOk = if pass then 1 else 2 := by
  rw [vn_eq, memoryTested, State.openSlow, State.openBy, State.v_setDue, State.v_setV_same]
  cases pass
  · rfl
  · rfl

theorem vn_memoryTested (s : State) (pass : Bool) {x : Var} (hx : x.ctorIdx ≠ Var.memoryOk.ctorIdx) : (s.memoryTested pass).vn x = s.vn x := by
  rw [vn_eq, memoryTested, State.openSlow, State.openBy, State.v_setDue, v_setV_of_ctor _ _ hx (by decide) (by decide), vn_eq]

/-- The first end of the injection test, before that of the memory test. -/
theorem completes_firstInjection {s : State} (hm : s.module = .starting) (hs : s.vn .startStep = 1) (hi : s.vn .injectOk = 0)
    (hmem : s.vn .memoryOk = 0) (pass : Bool) (t : Nat) : Completes (.injectionTestDone pass t) s fun u =>
      u.vn .injectOk = (if pass then 1 else 2) ∧ u.fb Reg.CORE_STATUS_INJECT_OK = pass ∧ u.module = .starting := by
  refine completes_of_done (exec_injectionTestDone hm hs hi pass t) ?_
  rw [startDecide_waits (.inr ((vn_injected (s.arrive t) pass (by decide)).trans hmem)), vn_synced _ (by decide) (by decide), fb_synced, module_synced,
    injectOk_injected]
  exact ⟨rfl, fb_setFb_same _ pass (by decide) (by decide), hm⟩

/-- A failed injection test, after the memory test. -/
theorem completes_failedInjection {s : State} (hm : s.module = .starting) (hs : s.vn .startStep = 1) (hi : s.vn .injectOk = 0)
    (hmem : s.vn .memoryOk ≠ 0) (t : Nat) : Completes (.injectionTestDone false t) s fun u =>
      u.module = .unconfigured ∧ u.f Reg.START_KEY_STATUS_CAUSE = 8 ∧ u.vn .startStep = 0 := by
  refine completes_of_done (exec_injectionTestDone hm hs hi false t) ?_
  rw [startDecide_inject (s := (s.arrive t).injected false) hm ((vn_injected (s.arrive t) _ (by decide)).trans hs) (injectOk_injected ..)
    (ne_of_eq_of_ne (vn_injected (s.arrive t) _ (by decide)) hmem)]
  exact synced_startFail_shows _ 8 0

/-- The first end of the memory test, before that of the injection test. -/
theorem completes_firstMemory {s : State} (hm : s.module = .starting) (hs : s.vn .startStep = 1) (hi : s.vn .injectOk = 0)
    (hmem : s.vn .memoryOk = 0) (pass : Bool) (t : Nat) : Completes (.memoryTestDone pass t) s fun u =>
      u.vn .memoryOk = (if pass then 1 else 2) ∧ u.module = .starting := by
  refine completes_of_done (exec_memoryTestDone hm hs hmem pass t) ?_
  rw [startDecide_waits (.inl ((vn_memoryTested (s.arrive t) pass (by decide)).trans hi)), vn_synced _ (by decide) (by decide), module_synced,
    memoryOk_memoryTested]
  exact ⟨rfl, hm⟩

/-- A failed memory test, after a passed injection test. -/
theorem completes_failedMemory {s : State} (hm : s.module = .starting) (hs : s.vn .startStep = 1) (hi : s.vn .injectOk = 1)
    (hmem : s.vn .memoryOk = 0) (t : Nat) : Completes (.memoryTestDone false t) s fun u =>
      u.module = .unconfigured ∧ u.f Reg.START_KEY_STATUS_CAUSE = 9 ∧ u.vn .startStep = 0 := by
  refine completes_of_done (exec_memoryTestDone hm hs hmem false t) ?_
  rw [startDecide_memory (s := (s.arrive t).memoryTested false) hm ((vn_memoryTested (s.arrive t) _ (by decide)).trans hs)
    ((vn_memoryTested (s.arrive t) _ (by decide)).trans hi) (memoryOk_memoryTested ..)]
  exact synced_startFail_shows _ 9 0

/-! ### The rebuild of the log -/

/-- The module, BASE and the result of the injection test stand. -/
def KeepsBase (s u : State) : Prop := u.module = s.module ∧ u.log.base = s.log.base ∧ u.v .injectOk = s.v .injectOk

theorem KeepsBase.refl (s : State) : KeepsBase s s := ⟨rfl, rfl, rfl⟩

theorem KeepsBase.trans {s u w : State} (h : KeepsBase s u) (h' : KeepsBase u w) : KeepsBase s w :=
  ⟨h'.1.trans h.1, h'.2.1.trans h.2.1, h'.2.2.trans h.2.2⟩

theorem keepsBase_setOn (s : State) (x : Var) (b : Bool) (hx : Var.injectOk.ctorIdx ≠ x.ctorIdx) : KeepsBase s (s.setOn x 0 b) :=
  ⟨rfl, rfl, v_setV_of_ctor s _ hx (by decide) (by decide)⟩

theorem keepsBase_setF (s : State) (f : Fld) (n : Nat) (v : Int) (j : Nat) : KeepsBase s (s.setF f n v j) := ⟨rfl, rfl, rfl⟩

theorem keepsBase_log (s : State) {l : Log} (h : l.base = s.log.base) : KeepsBase s { s with log := l } := ⟨rfl, h, rfl⟩

theorem keepsBase_staged (s : State) (x : Option (Nat × Nat × Nat)) : KeepsBase s { s with log := { s.log with staged := x } } := ⟨rfl, rfl, rfl⟩

theorem keepsBase_setDue (s : State) (t : Timer) (i : Nat) (e : Option Nat) : KeepsBase s (s.setDue t i e) := ⟨rfl, rfl, rfl⟩

theorem keepsBase_each {α : Type} (s : State) (l : List α) (k : State → α → State) (hk : ∀ s x, KeepsBase s (k s x)) : KeepsBase s (s.each l k) :=
  State.each_rel KeepsBase KeepsBase.refl (fun _ _ _ h h' => h.trans h') l k (fun s x _ => hk s x) s

theorem keepsBase_append (s : State) (r : Rec) : KeepsBase s (s.append r) := ⟨rfl, rfl, rfl⟩

theorem keepsBase_appendOwn (s : State) (a : RepArg) : KeepsBase s (s.appendOwn a) := by
  refine KeepsBase.trans (u := s.markSeen a.code) ⟨rfl, rfl, v_markSeen s a.code (by decide) (by decide)⟩ ?_
  exact keepsBase_append ..

theorem keepsBase_fullCheck (s : State) : KeepsBase s s.fullCheck := by
  unfold State.fullCheck
  split
  · exact (keepsBase_appendOwn ..).trans (keepsBase_setOn _ .logFull true (by decide))
  · exact KeepsBase.refl _

theorem keepsBase_clearEnd (s : State) (b : Bool) : KeepsBase s (s.clearEnd b) := by
  unfold State.clearEnd
  split
  · exact KeepsBase.refl _
  · dsimp only
    refine KeepsBase.trans ?_ (keepsBase_setF ..)
    refine KeepsBase.trans ?_ (keepsBase_setOn _ .logFull false (by decide))
    refine KeepsBase.trans ?_ (keepsBase_setOn _ .fillWarn false (by decide))
    exact (keepsBase_appendOwn s _).trans (keepsBase_staged _ none)

/-- A rebuild without records from two good copies keeps BASE (R582). -/
theorem keepsBase_rebuild {s : State} (h : s.log.recs = []) : KeepsBase s (s.rebuild [] ⟨true, false⟩ ⟨true, false⟩) := by
  have hfirst : KeepsBase s ((({ s.setOn .clearCut 0 false with log := { s.log with recs := [] } } : State).setOn .logFull 0 false).setOn
      .clearing 0 false) :=
    (((keepsBase_setOn s .clearCut false (by decide)).trans (keepsBase_log _ rfl)).trans (keepsBase_setOn _ .logFull false (by decide))).trans
      (keepsBase_setOn _ .clearing false (by decide))
  unfold State.rebuild
  simp only [Bool.not_true, Bool.and_self, Bool.and_false, Bool.or_self, Bool.false_eq_true, if_false, State.when_false]
  rw [show (s.setOn .clearCut 0 false).log.recs = [] from h]
  refine KeepsBase.trans ?_ (keepsBase_each _ _ _ fun _ _ => keepsBase_setDue ..)
  exact ((hfirst.trans (keepsBase_clearEnd _ true)).trans (keepsBase_setOn _ .fillWarn _ (by decide))).trans (keepsBase_fullCheck _)

theorem exec_logRebuild {s : State} (hm : s.module = .starting) (hs : s.vn .startStep = 1) (hmem : s.vn .memoryOk = 1) (hb : s.on .logBuilt = false)
    (damage : List (Nat × List Byte)) (a b : MgmtCopy) (t : Nat) : exec (.logRebuild damage a b t) s
      = Machine.done ((((s.arrive t).rebuild damage a b).setOn .logBuilt 0 true).startDecide) := by
  change Machine.done (if ((s.module == .unconfigured || (s.module == .starting && s.vn .startStep == 1)) && s.vn .memoryOk != 0
    && !s.on .logBuilt) = true then (((s.arrive t).rebuild damage a b).setOn .logBuilt 0 true).startDecide else _) = _
  rw [if_pos (by simp [hm, hs, hmem, hb])]

theorem completes_logRebuild {s : State} (hm : s.module = .starting) (hs : s.vn .startStep = 1) (hmem : s.vn .memoryOk = 1)
    (hb : s.on .logBuilt = false) (hi : s.vn .injectOk = 0) (hr : s.log.recs = []) (t : Nat) :
    Completes (.logRebuild [] ⟨true, false⟩ ⟨true, false⟩ t) s fun u => u.on .logBuilt = true ∧ u.module = .starting ∧ u.log.base = s.log.base := by
  obtain ⟨hmodule, hbase, hinject⟩ := (keepsBase_rebuild (s := s.arrive t) hr).trans (keepsBase_setOn _ .logBuilt true (by decide))
  refine completes_of_done (exec_logRebuild hm hs hmem hb [] _ _ t) ?_
  have hwait := startDecide_waits (.inl ((congrArg Int.toNat hinject).trans hi))
  rw [hwait, on_synced _ (by decide) (by decide), module_synced, log_synced, on_eq, State.setOn, State.v_setV_same]
  exact ⟨rfl, hmodule.trans hm, hbase⟩

end Sys2Proof.Machine.State
end

-- ==== The key and the image of a start ====
section
/-!
What the key's findings and the verification of the image show.
-/

namespace Sys2Proof.Machine.State
open Sys2Proof Sys2Proof.Machine

/-! ### The key's findings -/

/-- No key answers (R64). -/
theorem keyRead_absent (s : State) {o : KeyObs} (h : o.jedec = 0) :
    ∃ w : State, s.keyRead o = w.setV .keyFound 0 3 ∧ w.vars = s.vars ∧ w.module = s.module := by
  cases hc : o.contents with
  | none => exact ⟨{ s with keyObs := { o with contents := none } }, by simp [State.keyRead, h, hc], rfl, rfl⟩
  | some l =>
    have hput : (({ s with keyMem := [] } : State).each l fun s x => s.keyPut x.1 x.2).vars = s.vars
        ∧ (({ s with keyMem := [] } : State).each l fun s x => s.keyPut x.1 x.2).module = s.module :=
      State.each_rel (fun s u => u.vars = s.vars ∧ u.module = s.module) (fun _ => ⟨rfl, rfl⟩)
        (fun _ _ _ h h' => ⟨h'.1.trans h.1, h'.2.trans h.2⟩) l (fun s x => s.keyPut x.1 x.2) (fun _ _ _ => ⟨rfl, rfl⟩) { s with keyMem := [] }
    exact ⟨{ (({ s with keyMem := [] } : State).each l fun s x => s.keyPut x.1 x.2) with keyObs := { o with contents := none } },
      by simp [State.keyRead, h, hc], hput⟩

theorem keyBytes_congr {s u : State} (h : u.keyMem = s.keyMem) (a n : Nat) : u.keyBytes a n = s.keyBytes a n := by
  rw [State.keyBytes, State.keyBytes, h]

theorem chosenSlot_congr {s u : State} (h : u.keyMem = s.keyMem) : u.chosenSlot = s.chosenSlot := by
  unfold State.chosenSlot
  rw [keyBytes_congr h, keyBytes_congr h]

theorem chosenSlot_setF (s : State) (f : Fld) (n : Nat) (v : Int) (j : Nat) : (s.setF f n v j).chosenSlot = s.chosenSlot :=
  chosenSlot_congr (State.setF_keyMem ..)

theorem chosenSlot_setFb (s : State) (f : Fld) (n : Nat) (b : Bool) (j : Nat) : (s.setFb f n b j).chosenSlot = s.chosenSlot :=
  chosenSlot_congr (State.setFb_keyMem ..)

/-- What the key says of itself and of its headers is shown (R62 to R65). -/
def keyShown (s : State) (o : KeyObs) : State :=
  let s : State := { s with keyObs := { o with contents := none } }
  let s := (s.setF Reg.START_KEY_STATUS_CAPACITY 0 (min o.capacity 255 : Nat)).setFb Reg.START_KEY_STATUS_PROTECTED 0 o.blocked
  let s := s.setF Reg.START_KEY_STATUS_READ_MODE 0 (readMode { o with contents := none })
  let s := s.setFb Reg.START_KEY_STATUS_SLOT_A_HDR 0 (headerOk (s.keyBytes (slotBase 0) 512))
  s.setFb Reg.START_KEY_STATUS_SLOT_B_HDR 0 (headerOk (s.keyBytes (slotBase 1) 512))

/-- The chosen slot is shown and its header taken (R66). -/
def slotTaken (s : State) (slot : Nat) : State :=
  { s with header := s.keyBytes (slotBase slot) 512 }.setF Reg.START_KEY_STATUS_SLOT 0 slot

theorem chosenSlot_keyShown (s : State) (o : KeyObs) : (s.keyShown o).chosenSlot = s.chosenSlot := by
  simp only [keyShown, chosenSlot_setFb, chosenSlot_setF]
  exact chosenSlot_congr rfl

/-- A supported key with a valid header. -/
theorem keyRead_supported {s : State} {o : KeyObs} (hid : o.jedec = 0x123456) (hsfdp : o.sfdp = 0x50444653) (hcap : o.capacity = 16)
    (hcontents : o.contents = none) {slot : Nat} (hslot : s.chosenSlot = some slot) :
    s.keyRead o = (((s.keyShown o).slotTaken slot).earlyRead slot).setV .keyFound 0 1 := by
  have hchosen := (s.chosenSlot_keyShown o).trans hslot
  obtain ⟨jedec, sfdp, capacity, fast114, fast112, quad, blocked, contents⟩ := o
  obtain rfl : jedec = _ := hid
  obtain rfl : sfdp = _ := hsfdp
  obtain rfl : capacity = _ := hcap
  obtain rfl : contents = none := hcontents
  simp only [keyShown] at hchosen
  simp only [State.keyRead, hchosen]
  rfl

/-- The module, the header taken, the slot shown and the quantities that a report leaves stand. -/
def KeepsSlot (s u : State) : Prop := u.module = s.module ∧ u.header = s.header
  ∧ u.f Reg.START_KEY_STATUS_SLOT = s.f Reg.START_KEY_STATUS_SLOT ∧ ∀ x, (∀ y ∈ reportVars, x.ctorIdx ≠ y.ctorIdx) → u.v x = s.v x

theorem KeepsSlot.refl (s : State) : KeepsSlot s s := ⟨rfl, rfl, rfl, fun _ _ => rfl⟩

theorem KeepsSlot.trans {s u w : State} (h : KeepsSlot s u) (h' : KeepsSlot u w) : KeepsSlot s w := by
  obtain ⟨hm, hh, hf, hv⟩ := h
  obtain ⟨hm', hh', hf', hv'⟩ := h'
  exact ⟨hm'.trans hm, hh'.trans hh, hf'.trans hf, fun x hx => (hv' x hx).trans (hv x hx)⟩

theorem keepsSlot_setF (s : State) (f : Fld) (n : Nat) (v : Int) (j : Nat) (hf : f.lo ≤ f.hi)
    (h : clearOf Reg.START_KEY_STATUS_SLOT 0 0 (one f n j) = true) : KeepsSlot s (s.setF f n v j) :=
  ⟨rfl, rfl, f_setF_of_clear s v hf (by decide) h, fun _ _ => rfl⟩

theorem keepsSlot_setFb (s : State) (f : Fld) (n : Nat) (b : Bool) (j : Nat) (hf : f.lo ≤ f.hi)
    (h : clearOf Reg.START_KEY_STATUS_SLOT 0 0 (one f n j) = true) : KeepsSlot s (s.setFb f n b j) :=
  keepsSlot_setF s f n _ j hf h

theorem keepsSlot_note (s : State) (code d0 d1 d2 : Nat) (hcode : code < 65536) : KeepsSlot s (s.note code d0 d1 d2) :=
  ⟨same_note s code d0 d1 d2 (c := .module) (by decide), same_note s code d0 d1 d2 (c := .header) (by decide),
    f_note s code d0 d1 d2 (by decide) (by decide), fun _ hx => v_note s code d0 d1 d2 hx (by decide) hcode⟩

theorem keepsSlot_noteLasting (s : State) (code inst d0 d1 d2 : Nat) (hcode : code < 65536) : KeepsSlot s (s.noteLasting code inst d0 d1 d2) :=
  (keepsSlot_note s code d0 d1 d2 hcode).trans ⟨rfl, rfl, rfl, fun _ _ => rfl⟩

theorem keepsSlot_earlyRead (s : State) (slot : Nat) : KeepsSlot s (s.earlyRead slot) := by
  unfold State.earlyRead
  split
  · exact KeepsSlot.refl _
  · next e _ =>
    dsimp only
    split
    · refine KeepsSlot.trans (KeepsSlot.trans (u := { s with early := s.keyBytes (slotBase slot + e.offset) e.size }) ⟨rfl, rfl, rfl, fun _ _ => rfl⟩
        (keepsSlot_setFb _ Reg.START_KEY_STATUS_EARLY_CAN 0 true 0 (by decide) (by decide))) ?_
      refine State.each_rel KeepsSlot KeepsSlot.refl (fun _ _ _ h h' => h.trans h') _ _ (fun u ch hch => ?_) _
      have hlt : ch ∈ [0, 1, 2, 3] := List.mem_of_mem_filter hch
      refine keepsSlot_setF u _ ch _ 0 (by decide) ?_
      simp only [clearOf, one, Fld.key, Reg.START_KEY_STATUS_SLOT, Reg.CAN_STATUS_STATE]
      simp
      omega
    · exact keepsSlot_noteLasting _ _ _ _ _ _ (by decide)

theorem header_slotTaken (s : State) (slot : Nat) : (s.slotTaken slot).header = s.keyBytes (slotBase slot) 512 := by
  rw [slotTaken, State.setF_header]

theorem keyMem_keyShown (s : State) (o : KeyObs) : (s.keyShown o).keyMem = s.keyMem := by
  unfold keyShown
  dsimp only
  rw [State.setFb_keyMem, State.setFb_keyMem, State.setF_keyMem, State.setFb_keyMem, State.setF_keyMem]

/-- The findings leave the module and the quantities; the slot shown and the header are those chosen. -/
theorem slotTaken_shows (s : State) (o : KeyObs) {slot : Nat} (h : slot < 4) : ((s.keyShown o).slotTaken slot).module = s.module
    ∧ ((s.keyShown o).slotTaken slot).vars = s.vars ∧ ((s.keyShown o).slotTaken slot).f Reg.START_KEY_STATUS_SLOT = slot
    ∧ ((s.keyShown o).slotTaken slot).header = s.keyBytes (slotBase slot) 512 := by
  refine ⟨?_, ?_, f_setF_of_lt _ (by decide) (by decide) h, ?_⟩
  · simp only [slotTaken, keyShown, State.setF_module, State.setFb_module]
  · simp only [slotTaken, keyShown, State.setF_vars, State.setFb_vars]
  · rw [header_slotTaken, keyBytes_congr (s.keyMem_keyShown o)]

theorem keepsSlot_pllLocked (s : State) : s.pllLocked.module = s.module ∧ s.pllLocked.header = s.header
    ∧ s.pllLocked.f Reg.START_KEY_STATUS_SLOT = s.f Reg.START_KEY_STATUS_SLOT := by
  unfold State.pllLocked
  dsimp only
  refine ⟨?_, ?_, ?_⟩
  · rw [State.setV_module, State.setV_module, State.setFb_module]
  · rw [State.setV_header, State.setV_header, State.setFb_header]
  · rw [State.f_setV, State.f_setV]
    exact f_setF_of_clear s _ (by decide) (by decide) (by decide)

theorem header_setPort (s : State) (p st : Nat) : (s.setPort p st).header = s.header :=
  (State.setF_header ..).trans ((State.setF_header ..).trans (State.setF_header ..))

theorem header_each {α : Type} (s : State) (l : List α) (k : State → α → State) (hk : ∀ s x, (k s x).header = s.header) :
    (s.each l k).header = s.header :=
  State.each_rel (fun s u => u.header = s.header) (fun _ => rfl) (fun _ _ _ h h' => h'.trans h) l k (fun s x _ => hk s x) s

/-- The ports train, unless the module runs on its backup oscillator. -/
theorem fabTrain_cases (s : State) : s.fabTrain = s.setFb Reg.FAB_STATUS_TRANSIT 0 true
    ∨ s.fabTrain = (s.setFb Reg.FAB_STATUS_TRANSIT 0 true).each (List.range 4) fun s p => s.setPort p 1 := by
  unfold State.fabTrain
  dsimp only
  split
  · exact .inl rfl
  · exact .inr rfl

theorem header_fabTrain (s : State) : s.fabTrain.header = s.header := by
  obtain h | h := s.fabTrain_cases
  · rw [h, State.setFb_header]
  · rw [h, header_each _ _ _ fun s p => header_setPort s p 1, State.setFb_header]

/-- Once step 1 has passed, step 6 begins with what the key's findings show (R77). -/
theorem startDecide_passed_shows {s : State} (hm : s.module = .starting) (hs : s.vn .startStep = 1) (hi : s.vn .injectOk = 1)
    (hmem : s.vn .memoryOk = 1) (hlog : s.on .logBuilt = true) (hkey : s.vn .keyFound = 1) : s.startDecide.module = .starting
    ∧ s.startDecide.vn .startStep = 6 ∧ s.startDecide.f Reg.START_KEY_STATUS_SLOT = s.f Reg.START_KEY_STATUS_SLOT
    ∧ s.startDecide.header = s.header := by
  have hshown (u : State) (hu : u.module = s.module ∧ u.header = s.header ∧ u.f Reg.START_KEY_STATUS_SLOT = s.f Reg.START_KEY_STATUS_SLOT) :
      (u.setV .startStep 0 6).fabTrain.module = .starting ∧ (u.setV .startStep 0 6).fabTrain.vn .startStep = 6
      ∧ (u.setV .startStep 0 6).fabTrain.f Reg.START_KEY_STATUS_SLOT = s.f Reg.START_KEY_STATUS_SLOT
      ∧ (u.setV .startStep 0 6).fabTrain.header = s.header := by
    obtain ⟨hmodule, hheader, hslot⟩ := hu
    have hkeep := keepsStart_fabTrain (u.setV .startStep 0 6)
    refine ⟨(module_of_modes (modes_fabTrain _)).trans (hmodule.trans hm), ?_, ?_, (header_fabTrain _).trans hheader⟩
    · rw [vn_eq, hkeep.2.1, State.v_setV_same]
      rfl
    · rw [hkeep.f _ (by decide)]
      exact hslot
  rw [startDecide_passed hm hs hi hmem hlog hkey]
  split
  · exact hshown s ⟨rfl, rfl, rfl⟩
  · exact hshown _ (keepsSlot_pllLocked s)

theorem chosenSlot_lt {s : State} {slot : Nat} (h : s.chosenSlot = some slot) : slot < 2 := by
  unfold State.chosenSlot at h
  dsimp only at h
  split at h
  · rw [← Option.some.inj h]
    split
    · decide
    · decide
  · split at h
    · exact Option.some.inj h ▸ (by decide)
    · split at h
      · exact Option.some.inj h ▸ (by decide)
      · exact absurd h (by simp)

section
variable {s : State} (hm : s.module = .starting) (hs : s.vn .startStep = 1) (hi : s.vn .injectOk = 1) (hmem : s.vn .memoryOk = 1)
  (hlog : s.on .logBuilt = true) (hkey : s.vn .keyFound = 0)
include hm hs hkey

theorem exec_keyReadDone (o : KeyObs) (t : Nat) : exec (.keyReadDone o t) s = Machine.done (((s.arrive t).keyRead o).startDecide) := by
  change Machine.done (if (s.module == .starting && s.vn .startStep == 1 && s.vn .keyFound == 0) = true
    then ((s.arrive t).keyRead o).startDecide else _) = _
  rw [if_pos (by simp [hm, hs, hkey])]

include hi hmem hlog

theorem completes_keyAbsent {o : KeyObs} (h : o.jedec = 0) (t : Nat) :
    Completes (.keyReadDone o t) s fun u => u.module = .unconfigured ∧ u.f Reg.START_KEY_STATUS_CAUSE = 1 := by
  refine completes_of_done (exec_keyReadDone hm hs hkey o t) ?_
  obtain ⟨w, hread, hvars, hmodule⟩ := keyRead_absent (s.arrive t) h
  have hv {x : Var} (hx : x.ctorIdx ≠ Var.keyFound.ctorIdx) : (w.setV .keyFound 0 3).v x = s.v x :=
    (v_setV_of_ctor w 3 hx (by decide) (by decide)).trans (v_congr hvars x 0)
  have hvn {x : Var} (hx : x.ctorIdx ≠ Var.keyFound.ctorIdx) : (w.setV .keyFound 0 3).vn x = s.vn x := congrArg Int.toNat (hv hx)
  have hon : (w.setV .keyFound 0 3).on .logBuilt = true := by
    rw [on_eq, hv (by decide)]
    exact hlog
  have hfound : (w.setV .keyFound 0 3).vn .keyFound = 1 + 2 := by
    rw [vn_eq, State.v_setV_same]
    rfl
  rw [hread, startDecide_key (s := w.setV .keyFound 0 3) (hmodule.trans hm) ((hvn (by decide)).trans hs) ((hvn (by decide)).trans hi) ((hvn (by decide)).trans hmem) hon hfound]
  exact ⟨(synced_startFail_shows _ 1 0).1, (synced_startFail_shows _ 1 0).2.1⟩

theorem completes_keySupported {o : KeyObs} (hid : o.jedec = 0x123456) (hsfdp : o.sfdp = 0x50444653) (hcap : o.capacity = 16)
    (hcontents : o.contents = none) (hsome : s.chosenSlot.isSome = true) (t : Nat) : Completes (.keyReadDone o t) s fun u =>
      u.module = .starting ∧ u.vn .startStep = 6 ∧ u.f Reg.START_KEY_STATUS_SLOT = s.chosenSlot.getD 0
      ∧ u.header = s.keyBytes (slotBase (s.chosenSlot.getD 0)) 512 := by
  obtain ⟨slot, hslot⟩ := Option.isSome_iff_exists.1 hsome
  have hread := keyRead_supported (s := s.arrive t) hid hsfdp hcap hcontents hslot
  obtain ⟨hmodule, hvars, hshown, hheader⟩ := slotTaken_shows (s.arrive t) o (slot := slot) ((chosenSlot_lt hslot).trans (by decide))
  obtain ⟨hmodule', hheader', hshown', hv'⟩ := keepsSlot_earlyRead (((s.arrive t).keyShown o).slotTaken slot) slot
  generalize (((s.arrive t).keyShown o).slotTaken slot).earlyRead slot = w at hread hmodule' hheader' hshown' hv'
  have hv {x : Var} (hx : x.ctorIdx ≠ Var.keyFound.ctorIdx) (hrep : ∀ y ∈ reportVars, x.ctorIdx ≠ y.ctorIdx) :
      (w.setV .keyFound 0 1).v x = s.v x :=
    ((v_setV_of_ctor w 1 hx (by decide) (by decide)).trans (hv' x hrep)).trans (v_congr hvars x 0)
  have hvn {x : Var} (hx : x.ctorIdx ≠ Var.keyFound.ctorIdx) (hrep : ∀ y ∈ reportVars, x.ctorIdx ≠ y.ctorIdx) :
      (w.setV .keyFound 0 1).vn x = s.vn x := congrArg Int.toNat (hv hx hrep)
  have hon : (w.setV .keyFound 0 1).on .logBuilt = true := by
    rw [on_eq, hv (by decide) (by decide)]
    exact hlog
  have hfound : (w.setV .keyFound 0 1).vn .keyFound = 1 := by
    rw [vn_eq, State.v_setV_same]
    rfl
  obtain ⟨hm6, hs6, hslot6, hheader6⟩ := startDecide_passed_shows (s := w.setV .keyFound 0 1) (hmodule'.trans (hmodule.trans hm)) ((hvn (by decide) (by decide)).trans hs)
    ((hvn (by decide) (by decide)).trans hi) ((hvn (by decide) (by decide)).trans hmem) hon hfound
  refine completes_of_done (exec_keyReadDone hm hs hkey o t) ?_
  rw [module_synced, vn_synced _ (by decide) (by decide), f_synced, header_synced, hread, hslot, Option.getD_some]
  exact ⟨hm6, hs6, hslot6.trans (hshown'.trans hshown), hheader6.trans (hheader'.trans hheader)⟩

end

/-! ### The verification of the image -/

/-- A second read of sections is shown and reported (R78). -/
def reread (s : State) (v : Verdict) : State :=
  let s := if v.reread || v.cause == 5 then s.setFb Reg.START_KEY_STATUS_REREAD 0 true else s
  if v.reread then s.note Ev.SECTION_REREAD else s

theorem module_reread (s : State) (v : Verdict) : (s.reread v).module = s.module := by
  have hnote (u : State) : (u.note Ev.SECTION_REREAD).module = u.module := same_note u _ _ _ _ (c := .module) (by decide)
  unfold reread
  dsimp only
  have hfirst : (if v.reread || v.cause == 5 then s.setFb Reg.START_KEY_STATUS_REREAD 0 true else s).module = s.module := by
    split
    · rw [State.setFb_module]
    · rfl
  split
  · rw [hnote, hfirst]
  · exact hfirst

/-- The image that a start reads. -/
def imageRead (s : State) : List Byte := s.keyBytes (slotBase (s.f Reg.START_KEY_STATUS_SLOT)) (hdrLength s.header)

theorem imageVerified_bad {s : State} {bad1 bad2 : List Nat} {v : Verdict} (hv : s.verdict s.imageRead bad1 bad2 = v) (h : v.cause ≠ 0) :
    s.imageVerified bad1 bad2 = (s.reread v).startFail v.cause v.detail := by
  unfold State.imageVerified
  rw [← imageRead]
  dsimp only
  rw [hv]
  exact if_pos (bne_iff_ne.2 h)

theorem imageVerified_good {s : State} {bad1 bad2 : List Nat} {v : Verdict} (hv : s.verdict s.imageRead bad1 bad2 = v) (h : v.cause = 0) :
    s.imageVerified bad1 bad2 = ({ (s.reread v).setF Reg.START_TIMES_VERIFIED_AT 0 (s.reread v).sinceStart with
      image := sectionsOf s.imageRead } : State).setV .startStep 0 7 := by
  unfold State.imageVerified
  rw [← imageRead]
  dsimp only
  rw [hv]
  exact if_neg (by simp [h])

theorem exec_imageVerified {s : State} (hm : s.module = .starting) (hs : s.vn .startStep = 6) (bad1 bad2 : List Nat) (t : Nat) :
    exec (.imageVerified bad1 bad2 t) s = Machine.done ((s.arrive t).imageVerified bad1 bad2) := by
  change Machine.done (if (s.module == .starting && s.vn .startStep == 6) = true then (s.arrive t).imageVerified bad1 bad2 else _) = _
  rw [if_pos (by simp [hm, hs])]

/-- What the verification of the image shows: its sections, or the cause of the verdict (R78, R81). -/
theorem imageVerified_shows {s : State} (hm : s.module = .starting) (bad1 bad2 : List Nat) :
    if (s.verdict s.imageRead bad1 bad2).cause = 0 then (s.imageVerified bad1 bad2).synced.module = .starting
      ∧ (s.imageVerified bad1 bad2).synced.vn .startStep = 7 ∧ (s.imageVerified bad1 bad2).synced.image = sectionsOf s.imageRead
    else (s.imageVerified bad1 bad2).synced.module = .unconfigured
      ∧ (s.imageVerified bad1 bad2).synced.f Reg.START_KEY_STATUS_CAUSE = (s.verdict s.imageRead bad1 bad2).cause % 16 := by
  obtain ⟨v, hv⟩ : ∃ v, s.verdict s.imageRead bad1 bad2 = v := ⟨_, rfl⟩
  rw [hv]
  split
  · next h =>
    rw [imageVerified_good hv h, module_synced, vn_synced _ (by decide) (by decide), image_synced, vn_eq, State.v_setV_same, State.setV_module,
      State.setV_image]
    exact ⟨(module_reread s v).trans hm, rfl, rfl⟩
  · next h =>
    rw [imageVerified_bad hv h]
    exact ⟨(synced_startFail_shows _ _ _).1, (synced_startFail_shows _ _ _).2.1⟩

end Sys2Proof.Machine.State
end

-- ==== Gate supplies, the key check and the backup oscillator ====
section
/-!
The checks of a gate-supply group, a key check that finds no difference, and the lock of the PLL to the backup oscillator.
-/

namespace Sys2Proof.Machine.State
open Sys2Proof Sys2Proof.Machine

/-! ### The end of a window -/

/-- The state that the end of an open window meets. -/
def expired (s : State) (t : Timer) : State := { s.close t 0 with now := max s.now (s.endOf t) }

theorem expire_of_isOpen {s : State} {t : Timer} (h : s.isOpen t = true) (k : State → State) : s.expire t 0 k = k (s.expired t) := by
  obtain ⟨e, hdue⟩ := Option.isSome_iff_exists.1 h
  have hend : s.endOf t = e := by rw [State.endOf, hdue, Option.getD_some]
  rw [State.expire, hdue, expired, hend]

theorem isOpen_openSlow (s : State) (t : Timer) (len : Nat) : (s.openSlow t 0 len).isOpen t = true := by
  rw [isOpen_eq, State.openSlow, State.openBy, State.due_setDue_same]
  rfl

/-! ### A gate-supply group without failures -/

/-- The links reported good stand, and so does the number of the group. -/
def KeepsLinks (s u : State) : Prop := u.v .supplyGroup = s.v .supplyGroup
  ∧ ∀ c, s.fb Reg.CH_STATUS_LINK_OK c = true → u.fb Reg.CH_STATUS_LINK_OK c = true

theorem KeepsLinks.refl (s : State) : KeepsLinks s s := ⟨rfl, fun _ h => h⟩

theorem KeepsLinks.trans {s u w : State} (h : KeepsLinks s u) (h' : KeepsLinks u w) : KeepsLinks s w :=
  ⟨h'.1.trans h.1, fun c hc => h'.2 c (h.2 c hc)⟩

theorem keepsLinks_each {α : Type} (s : State) (l : List α) (k : State → α → State) (hk : ∀ s x, KeepsLinks s (k s x)) :
    KeepsLinks s (s.each l k) :=
  State.each_rel KeepsLinks KeepsLinks.refl (fun _ _ _ h h' => h.trans h') l k (fun s x _ => hk s x) s

theorem keepsLinks_linkOk (s : State) (c : Nat) : KeepsLinks s (s.setFb Reg.CH_STATUS_LINK_OK c true) := by
  refine ⟨rfl, fun d hd => ?_⟩
  by_cases h : d = c
  · subst h
    exact fb_setFb_same s true (by decide) (by decide)
  · rw [fb_eq, State.setFb, f_setF_ne _ _ _ _ _ _ _ _ (by simp only [Fld.key, Reg.CH_STATUS_LINK_OK]; omega)]
    exact hd

/-- A write of bits beside those of the links. -/
theorem keepsLinks_setFb (s : State) {f : Fld} (n : Nat) (b : Bool) (hf : f.lo ≤ f.hi)
    (h : f.hi < Reg.CH_STATUS_LINK_OK.lo ∨ Reg.CH_STATUS_LINK_OK.hi < f.lo) : KeepsLinks s (s.setFb f n b) := by
  refine ⟨rfl, fun c hc => ?_⟩
  have hclear : clearOf Reg.CH_STATUS_LINK_OK c 0 (one f n) = true := by
    simp only [clearOf, one, Bool.or_eq_true]
    exact .inl (h.symm.imp decide_eq_true decide_eq_true)
  rw [fb_eq, State.setFb, f_setF_of_clear s _ hf (by decide) hclear]
  exact hc

/-- The links of every channel of a list are reported good. -/
theorem linkOk_each (s : State) {l : List Nat} {c : Nat} (hc : c ∈ l) :
    (s.each l fun s c => s.setFb Reg.CH_STATUS_LINK_OK c true).fb Reg.CH_STATUS_LINK_OK c = true := by
  induction l generalizing s with
  | nil => exact absurd hc List.not_mem_nil
  | cons d l ih =>
    rw [State.each_cons]
    obtain rfl | hl := List.mem_cons.1 hc
    · exact (keepsLinks_each _ l _ keepsLinks_linkOk).2 c (fb_setFb_same s true (by decide) (by decide))
    · exact ih _ hl

/-- The next group is switched on, and its window opens (R358). -/
theorem supplyOn_shows {s : State} {g : Nat} (h : g < s.supplyGroups.length) : (s.supplyOn g).isOpen .supplyStep = true
    ∧ (s.supplyOn g).vn .supplyGroup = g ∧ ∀ c, s.fb Reg.CH_STATUS_LINK_OK c = true → (s.supplyOn g).fb Reg.CH_STATUS_LINK_OK c = true := by
  rw [State.supplyOn, List.getElem?_eq_getElem h]
  dsimp only
  refine ⟨isOpen_openSlow .., ?_, fun c hc => ?_⟩
  · rw [vn_eq, State.openSlow, State.openBy, State.v_setDue, State.v_setV_same, Int.toNat_natCast]
  · exact (keepsLinks_each s _ _ fun s c => keepsLinks_setFb s c true (by decide) (by decide)).2 c hc

/-- The links of a group are reported good, and the rail of the low-voltage legs with the first group that has some (R359). -/
def linksShown (s : State) (l : List Nat) : State :=
  let chans := l.flatMap fun n => [2 * n, 2 * n + 1]
  let s := s.each chans fun s c => s.setFb Reg.CH_STATUS_LINK_OK c true
  if (chans.filter fun c => !isolated c).any fun _ => true then s.setFb Reg.GD_STATUS_LV_RAIL_OK 0 true else s

theorem supplyChecked_nil {s : State} {l : List Nat} (h : s.supplyGroups[s.vn .supplyGroup]? = some l) :
    s.supplyChecked [] = if s.vn .supplyGroup + 1 < (s.linksShown l).supplyGroups.length then (s.linksShown l).supplyOn (s.vn .supplyGroup + 1)
      else ((s.linksShown l).setV .supplyGroup 0 (s.vn .supplyGroup + 1 : Nat)).openSlow .supplyStep 0 (ms 8) := by
  have hbad (k : List Nat) : (k.filter fun c => (([] : List ChTest).any fun x => x.ch.val == c && !s.testPasses x)
      && !s.fb Reg.CH_STATUS_START_FAIL c) = [] := by simp
  have hgood (k : List Nat) : (k.filter fun c => !([] : List Nat).contains c) = k := by simp
  unfold State.supplyChecked
  dsimp only
  rw [hbad, State.each_nil, h]
  dsimp only
  rw [hgood]
  simp only [List.contains_nil, Bool.not_false]
  rfl

theorem linkOk_linksShown (s : State) {l : List Nat} {n : Nat} (h : n ∈ l) :
    (s.linksShown l).fb Reg.CH_STATUS_LINK_OK (2 * n) = true ∧ (s.linksShown l).fb Reg.CH_STATUS_LINK_OK (2 * n + 1) = true := by
  have hshown {c : Nat} (hc : c ∈ l.flatMap fun n => [2 * n, 2 * n + 1]) : (s.linksShown l).fb Reg.CH_STATUS_LINK_OK c = true := by
    unfold linksShown
    dsimp only
    split
    · exact (keepsLinks_setFb _ 0 true (by decide) (by decide)).2 c (linkOk_each s hc)
    · exact linkOk_each s hc
  exact ⟨hshown (List.mem_flatMap.2 ⟨n, h, by simp⟩), hshown (List.mem_flatMap.2 ⟨n, h, by simp⟩)⟩

/-- A group without failed channels (R82, R359). -/
theorem completes_gateSupplyGroup {s : State} (ho : s.isOpen .supplyStep = true) (hg : (s.supplyGroups[s.vn .supplyGroup]?).isSome = true) :
    Completes (.gateSupplyGroup []) s fun u => (∀ n ∈ (s.supplyGroups[s.vn .supplyGroup]?).getD [],
        u.fb Reg.CH_STATUS_LINK_OK (2 * n) = true ∧ u.fb Reg.CH_STATUS_LINK_OK (2 * n + 1) = true)
      ∧ u.isOpen .supplyStep = true ∧ u.vn .supplyGroup = s.vn .supplyGroup + 1 := by
  obtain ⟨l, hl⟩ := Option.isSome_iff_exists.1 hg
  have hexec : exec (.gateSupplyGroup []) s = Machine.done ((s.expired .supplyStep).supplyChecked []) :=
    congrArg Machine.done (expire_of_isOpen ho fun s => s.supplyChecked [])
  refine completes_of_done hexec ?_
  have hlinks {n : Nat} (hn : n ∈ l) := linkOk_linksShown (s.expired .supplyStep) hn
  simp only [fb_synced, isOpen_synced _ (t := .supplyStep) (by decide) (show 0 < 65536 by decide),
    vn_synced _ (x := .supplyGroup) (by decide) (show 0 < 65536 by decide)]
  rw [hl, Option.getD_some, supplyChecked_nil (s := s.expired .supplyStep) (l := l) hl]
  split
  · next hmore =>
    obtain ⟨hopen, hgroup, hkeep⟩ := supplyOn_shows hmore
    exact ⟨fun n hn => ⟨hkeep _ (hlinks hn).1, hkeep _ (hlinks hn).2⟩, hopen, hgroup⟩
  · refine ⟨fun n hn => hlinks hn, isOpen_openSlow .., ?_⟩
    rw [vn_eq, State.openSlow, State.openBy, State.v_setDue, State.v_setV_same, Int.toNat_natCast]
    rfl

/-! ### A key check that finds no difference -/

theorem completes_keyCheckSame {s : State} {found : Option (Nat × List Byte)} (ho : s.isOpen .keyCheck = true) (hd : s.keyDiffers found = false) :
    Completes (.keyCheckPeriod found) s fun u =>
      u.endOf .keyCheck = max s.now (s.endOf .keyCheck) / 3000 * 3000 + sec (s.f Reg.START_KEY_CHECK_PERIOD) ∧ u.causes = s.causes := by
  have hexec : exec (.keyCheckPeriod found) s
      = Machine.done ((s.expired .keyCheck).openSlow .keyCheck 0 (sec (s.f Reg.START_KEY_CHECK_PERIOD))) := by
    have hsame : ((s.expired .keyCheck).openSlow .keyCheck 0 (sec (s.f Reg.START_KEY_CHECK_PERIOD))).keyDiffers found = false := hd
    refine (congrArg Machine.done (expire_of_isOpen ho _)).trans (congrArg Machine.done ?_)
    refine if_neg ?_
    rw [show (s.expired .keyCheck).f Reg.START_KEY_CHECK_PERIOD = s.f Reg.START_KEY_CHECK_PERIOD from rfl, hsame, Bool.and_false]
    decide
  refine completes_of_done hexec ?_
  rw [endOf_synced _ (by decide) (by decide), causes_synced, State.endOf, State.openSlow, State.openBy, State.due_setDue_same]
  exact ⟨rfl, rfl⟩

/-! ### The lock to the backup oscillator -/

theorem keepsStart_noteEnds (s : State) (code inst : Nat) : KeepsStart s (s.noteEnds code inst) := ⟨rfl, rfl, fun _ _ => rfl⟩

theorem keepsStart_close (s : State) (t : Timer) (i : Nat) : KeepsStart s (s.close t i) := ⟨rfl, rfl, fun _ _ => rfl⟩

theorem keepsStart_egress (s : State) (l : List Egress) : KeepsStart s { s with egress := l } := ⟨rfl, rfl, fun _ _ => rfl⟩

theorem keepsStart_portClear {s : State} {p : Nat} (hp : p < 65536) : KeepsStart s (s.portClear p) := by
  unfold State.portClear
  dsimp only
  refine KeepsStart.trans ?_ (keepsStart_setV _ .portEnd p 0 (by decide) hp)
  refine KeepsStart.trans ?_ (keepsStart_egress ..)
  refine KeepsStart.trans ?_ (keepsStart_setV _ .pdOpen p _ (by decide) hp)
  refine KeepsStart.trans ?_ (keepsStart_setV _ .pdCount p 0 (by decide) hp)
  refine KeepsStart.trans ?_ (keepsStart_setF _ Reg.FAB_PORT_DELAY_DELAY p 0 0 (by decide))
  refine KeepsStart.trans ?_ (keepsStart_setFb _ Reg.FAB_PORT_DELAY_MEASURED p false 0 (by decide))
  refine KeepsStart.trans ?_ (keepsStart_setFb _ Reg.FAB_PORT_STATUS_MASTER p false 0 (by decide))
  refine KeepsStart.trans ?_ (keepsStart_setF _ Reg.FAB_PORT_PEER p 0 1 (by decide))
  refine KeepsStart.trans ?_ (keepsStart_setF _ Reg.FAB_PORT_PEER p 0 0 (by decide))
  refine KeepsStart.trans ?_ (keepsStart_setFb _ Reg.FAB_PORT_STATUS_DOWNSTREAM p false 0 (by decide))
  refine KeepsStart.trans ?_ (keepsStart_setFb _ Reg.FAB_PORT_STATUS_UPSTREAM p false 0 (by decide))
  refine KeepsStart.trans ?_ (keepsStart_setFb _ Reg.FAB_PORT_STATUS_PHY_LINK p false 0 (by decide))
  refine KeepsStart.trans ?_ (keepsStart_setV _ .errDrops p 0 (by decide) hp)
  refine KeepsStart.trans ?_ (keepsStart_setV _ .lcRun p 0 (by decide) hp)
  exact ((keepsStart_close s ..).trans (keepsStart_close ..)).trans (keepsStart_close ..)

theorem keepsStart_portOff {s : State} {p : Nat} (hp : p < 65536) : KeepsStart s (s.portOff p) :=
  (((((keepsStart_portClear hp).trans (keepsStart_setFb _ Reg.FAB_PORT_STATUS_LOOPBACK p false 0 (by decide))).trans
    (keepsStart_noteEnds ..)).trans (keepsStart_setPort ..)).trans (keepsStart_close ..)).trans (keepsStart_noteEnds ..)

/-- The state with the PLL locked to the backup oscillator, before CAN and the fabric follow (R120). -/
def onBackup (s : State) : State := (s.setFb Reg.CLK_STATUS_ON_BACKUP 0 true).pllLocked

/-- CAN goes to restricted operation and the fabric ports drop (R120, R121). -/
def backupUnits (s : State) : State :=
  (s.each ([0, 1, 2, 3].filter fun ch => 2 ≤ s.f Reg.CAN_STATUS_STATE ch && s.f Reg.CAN_STATUS_STATE ch ≤ 5) fun s ch =>
    s.setF Reg.CAN_STATUS_STATE ch 1).fabDrop

theorem keepsStart_backupUnits (s : State) : KeepsStart s s.backupUnits :=
  (keepsStart_each _ _ _ fun u ch _ => keepsStart_setF u Reg.CAN_STATUS_STATE ch 1 0 (by decide)).trans
    (keepsStart_each _ _ _ fun _ _ hp => keepsStart_portOff ((List.mem_range.1 hp).trans (by decide)))

theorem onBackup_shows (s : State) : s.onBackup.now = s.now ∧ s.onBackup.fb Reg.CLK_STATUS_ON_BACKUP = true
    ∧ s.onBackup.fb Reg.CLK_STATUS_PLL_LOCK = true := by
  have hregs : s.onBackup.regs = ((s.setFb Reg.CLK_STATUS_ON_BACKUP 0 true).setFb Reg.CLK_STATUS_PLL_LOCK 0 true).regs := rfl
  refine ⟨rfl, ?_, ?_⟩
  · rw [fb_eq, f_congr hregs, State.setFb, f_setF_of_clear _ _ (by decide) (by decide) (by decide)]
    exact fb_setFb_same s true (by decide) (by decide)
  · rw [fb_eq, f_congr hregs]
    exact fb_setFb_same _ true (by decide) (by decide)

theorem exec_pllBackupLock {s : State} (hfail : s.fb Reg.CLK_STATUS_XTAL_FAIL = true) (hon : s.fb Reg.CLK_STATUS_ON_BACKUP = false) (t : Nat) :
    exec (.pllBackupLock t) s = Machine.done (s.arrive t).onBackup.backupUnits := by
  change Machine.done (if (s.fb Reg.CLK_STATUS_XTAL_FAIL && !s.fb Reg.CLK_STATUS_ON_BACKUP) = true then (s.arrive t).onBackup.backupUnits else _) = _
  rw [if_pos (by simp [hfail, hon])]

theorem completes_pllBackupLock {s : State} (hfail : s.fb Reg.CLK_STATUS_XTAL_FAIL = true) (hon : s.fb Reg.CLK_STATUS_ON_BACKUP = false) (t : Nat) :
    Completes (.pllBackupLock t) s fun u => u.fb Reg.CLK_STATUS_ON_BACKUP = true ∧ u.fb Reg.CLK_STATUS_PLL_LOCK = true ∧ u.now = max s.now t := by
  obtain ⟨hnow, hbackup, hlock⟩ := onBackup_shows (s.arrive t)
  have hkeep := keepsStart_backupUnits (s.arrive t).onBackup
  refine completes_of_done (exec_pllBackupLock hfail hon t) ?_
  rw [fb_synced, fb_synced, now_synced, fb_eq, fb_eq, hkeep.f _ (by decide), hkeep.f _ (by decide), hkeep.1]
  exact ⟨hbackup, hlock, hnow⟩

end Sys2Proof.Machine.State
end

-- ==== What the operations of the units leave of a start ====
section
/-!
One rule per operation below the commands that touches none of what a start shows: the words of START that name the key's state and the
image, GD.STATUS.STARTED, the step of the start, the mark of an applied image, and the refused requests. `State.shown` is these
together with the causes.
-/

namespace Sys2Proof.Machine.State
open Sys2Proof Sys2Proof.Machine

/-! ### What is shown -/

/-- What a start shows of itself. -/
def shows (s : State) : (Word × Word × Word × Bool) × (Int × Int) × List Denial :=
  ((s.word 0x010000, s.word 0x010100, s.word 0x010300, s.fb Reg.GD_STATUS_STARTED), (s.v .startStep, s.v .imageApplied), s.denials)

/-- What a start shows of itself, with the causes. -/
def shown (s : State) : ((Word × Word × Word × Bool) × (Int × Int) × List Denial) × List Cause := (s.shows, s.causes)

section
variable {s u : State} (h : u.shows = s.shows)
include h

theorem keyChanged_of_shows : u.fb Reg.START_KEY_STATUS_KEY_CHANGED = s.fb Reg.START_KEY_STATUS_KEY_CHANGED := by
  have hw : u.word 0x010000 = s.word 0x010000 := congrArg (fun x => x.1.1) h
  exact congrArg (fun w : Word => bits w.toNat 12 12 != 0) hw

theorem imageGen_of_shows : u.f Reg.START_IMAGE_GEN = s.f Reg.START_IMAGE_GEN := by
  have hw : u.word 0x010100 = s.word 0x010100 := congrArg (fun x => x.1.2.1) h
  exact congrArg (fun w : Word => bits w.toNat 31 0) hw

theorem imageCrc_of_shows : u.f Reg.START_IMAGE_CRC = s.f Reg.START_IMAGE_CRC := by
  have hw : u.word 0x010300 = s.word 0x010300 := congrArg (fun x => x.1.2.2.1) h
  exact congrArg (fun w : Word => bits w.toNat 31 0) hw

theorem started_of_shows : u.fb Reg.GD_STATUS_STARTED = s.fb Reg.GD_STATUS_STARTED := congrArg (fun x => x.1.2.2.2) h

theorem startStep_of_shows : u.v .startStep = s.v .startStep := congrArg (fun x => x.2.1.1) h

theorem imageApplied_of_shows : u.v .imageApplied = s.v .imageApplied := congrArg (fun x => x.2.1.2) h

theorem denials_of_shows : u.denials = s.denials := congrArg (fun x => x.2.2) h

end

theorem shown_congr {s u : State} (hr : u.regs = s.regs) (hv : u.vars = s.vars) (hd : u.denials = s.denials) (hc : u.causes = s.causes) :
    u.shown = s.shown := by
  have hw (k : Nat) : u.word k = s.word k := by rw [State.word, State.word, hr]
  rw [shown, shown, shows, shows, hw, hw, hw, v_congr hv, v_congr hv, fb_eq, fb_eq, f_congr hr, hd, hc]

@[simp] theorem shown_parts {s : State} {now : Nat} {timers : List (Nat × Option Nat)} {module : ModState} {stages : Vector StageCtl 7}
    {cycleFaults : List CycleFault} {deferred : List FaultEvt} {release : List Protected} {queue : List Rec}
    {log : Log} {kept : List Kept} {challenges : List Challenge} {windows : List WinCtl} {edges : List Edge} {dmaFifo : List DmaEntry}
    {pipe : List Sample} {accepts : List Accept} {sram : List Host.Cell} {runs : List Run}
    {held handQueue : List (Req × Svc)} {handCmd : Option (Req × Svc)}
    {staging keyMem : List Host.Cell}
    {keyObs : KeyObs} {header early : List Byte} {image : List (Nat × List Byte)} {canRx : List CanEntry} {canTx canHold : List TxFrame}
    {canLast : List (Nat × List Nat)} {canClaims : List Claim} {peers : List Peer} {waiting : List Waiting} {colony replies : List Node}
    {egress : List Egress} {out : List Out} {free : Nat} {pending : List Instr} :
    State.shown
      { now, regs := s.regs, vars := s.vars, timers, module, stages, causes := s.causes, cycleFaults, deferred,
        release, queue, log, kept, challenges, windows, edges, dmaFifo, pipe,
        accepts, sram, runs, denials := s.denials, held, handQueue, handCmd, staging, keyMem,
        keyObs, header, early, image, canRx, canTx, canHold, canLast, canClaims,
        peers, waiting, colony, replies, egress, out, free, pending } = s.shown :=
  shown_congr rfl rfl rfl rfl

/-! ### The plain updates -/

/-- A field whose words are none of those that `shows` reads, or whose bits are others. -/
def fldBesideShown (f : Fld) (j : Nat) : Bool :=
  0x010300 < f.base && (f.hi < 5 || 5 < f.lo || 0x110D00 < f.base || (f.base + f.kj * j) % f.kn != 0x110D00 % f.kn)

/-- A family above GD.STATUS. -/
theorem beside_of_above {f : Fld} (h : 0x110D00 < f.base) (j : Nat) : fldBesideShown f j = true := by
  simp only [fldBesideShown, Bool.and_eq_true, Bool.or_eq_true, decide_eq_true_eq]
  omega

/-- A quantity that is none of those that `shows` reads. -/
def varBesideShown (x : Var) : Bool := x.ctorIdx != Var.startStep.ctorIdx && x.ctorIdx != Var.imageApplied.ctorIdx

@[simp] theorem shown_ite {c : Prop} [Decidable c] (a b : State) : (if c then a else b).shown = if c then a.shown else b.shown :=
  apply_ite shown c a b

theorem shown_ite_of {c : Prop} [Decidable c] {a b s : State} (ha : a.shown = s.shown) (hb : b.shown = s.shown) :
    (if c then a else b).shown = s.shown := by
  split <;> assumption

theorem shown_each {α : Type} (s : State) (l : List α) (k : State → α → State) (hk : ∀ u, ∀ x ∈ l, (k u x).shown = u.shown) :
    (s.each l k).shown = s.shown :=
  State.each_rel (fun s u => u.shown = s.shown) (fun _ => rfl) (fun _ _ _ h h' => h'.trans h) l k hk s

theorem shown_when (s : State) (b : Bool) (k : State → State) (hk : ∀ u, (k u).shown = u.shown) : (s.when b k).shown = s.shown := by
  cases b
  · rfl
  · exact hk s

theorem shown_setWord (s : State) {k : Nat} (w : Word) (h1 : k ≠ 0x010000) (h2 : k ≠ 0x010100) (h3 : k ≠ 0x010300) (h4 : k ≠ 0x110D00) :
    (s.setWord k w).shown = s.shown := by
  have hw {n : Nat} (hn : k ≠ n) : (s.setWord k w).word n = s.word n := State.word_setWord_ne s w hn.symm
  have hstarted : (s.setWord k w).f Reg.GD_STATUS_STARTED = s.f Reg.GD_STATUS_STARTED := by
    rw [State.f, State.f, show Reg.GD_STATUS_STARTED.key 0 = 0x110D00 from rfl, hw h4]
  rw [shown, shown, shows, shows, hw h1, hw h2, hw h3, fb_eq, fb_eq, hstarted]
  rfl

@[simp] theorem shown_setF (s : State) (f : Fld) (n : Nat) (v : Int) (j : Nat) (hl : f.lo ≤ f.hi) (hf : fldBesideShown f j = true) :
    (s.setF f n v j).shown = s.shown := by
  simp only [fldBesideShown, Bool.and_eq_true, Bool.or_eq_true, decide_eq_true_eq, bne_iff_ne] at hf
  obtain ⟨hlow, hbits⟩ := hf
  have hkey : 0x010300 < f.key n j := by rw [Fld.key]; omega
  have hw {k : Nat} (hk : k ≤ 0x010300) : (s.setF f n v j).word k = s.word k := State.word_setWord_ne s _ (by omega)
  have hstarted : (s.setF f n v j).f Reg.GD_STATUS_STARTED = s.f Reg.GD_STATUS_STARTED := by
    refine f_setF_of_clear s v hl (by decide) ?_
    have hother : 0x110D00 < f.base ∨ (f.base + f.kj * j) % f.kn ≠ 0x110D00 % f.kn → f.key n j ≠ 0x110D00 := by
      rintro (h | h) heq
      · rw [Fld.key] at heq; omega
      · refine h (heq ▸ ?_)
        rw [Fld.key, show f.base + f.kn * n + f.kj * j = f.base + f.kj * j + f.kn * n by omega, Nat.add_mul_mod_self_left]
    simp only [clearOf, one, Bool.or_eq_true]
    obtain ((h | h) | h) | h := hbits
    · exact .inl (.inr (decide_eq_true h))
    · exact .inl (.inl (decide_eq_true h))
    · exact .inr (by simpa [Fld.key, Reg.GD_STATUS_STARTED] using (hother (.inl h)).symm)
    · exact .inr (by simpa [Fld.key, Reg.GD_STATUS_STARTED] using (hother (.inr h)).symm)
  rw [shown, shown, shows, shows, hw (by decide), hw (by decide), hw (by decide), fb_eq, fb_eq, hstarted]
  rfl

/-- A word between those of START and GD.STATUS. -/
theorem shown_setF_between (s : State) {f : Fld} {n j : Nat} (v : Int) (hf : 0x010300 < f.base) (hkey : f.key n j < 0x110D00) :
    (s.setF f n v j).shown = s.shown := by
  have hlow : f.base ≤ f.key n j := by rw [Fld.key]; omega
  exact shown_setWord s _ (by omega) (by omega) (by omega) (by omega)

@[simp] theorem shown_setV (s : State) (x : Var) (i : Nat) (v : Int) (hx : varBesideShown x = true) (hi : i < 65536) : (s.setV x i v).shown = s.shown := by
  simp only [varBesideShown, Bool.and_eq_true, bne_iff_ne] at hx
  rw [shown, shown, shows, shows, v_setV_of_ctor s v hx.1.symm hi (by decide), v_setV_of_ctor s v hx.2.symm hi (by decide)]
  rfl

theorem shown_setV_idx (s : State) (x : Var) (t : Stage) (v : Int) (hx : varBesideShown x = true) : (s.setV x t.idx v).shown = s.shown :=
  shown_setV s x t.idx v hx ((Stage.idx_lt t).trans (by decide))

@[simp] theorem shown_setFb (s : State) (f : Fld) (n : Nat) (b : Bool) (j : Nat) (hl : f.lo ≤ f.hi) (hf : fldBesideShown f j = true) :
    (s.setFb f n b j).shown = s.shown := shown_setF s f n _ j hl hf

@[simp] theorem shown_addF (s : State) (f : Fld) (n d j : Nat) (hl : f.lo ≤ f.hi) (hf : fldBesideShown f j = true) :
    (s.addF f n d j).shown = s.shown := shown_setF s f n _ j hl hf

@[simp] theorem shown_setOn (s : State) (x : Var) (i : Nat) (b : Bool) (hx : varBesideShown x = true) (hi : i < 65536) :
    (s.setOn x i b).shown = s.shown := shown_setV s x i _ hx hi

@[simp] theorem shown_addV (s : State) (x : Var) (i : Nat) (d : Int) (hx : varBesideShown x = true) (hi : i < 65536) :
    (s.addV x i d).shown = s.shown := shown_setV s x i _ hx hi

@[simp] theorem shown_setDue (s : State) (t : Timer) (i : Nat) (e : Option Nat) : (s.setDue t i e).shown = s.shown :=
  shown_congr rfl rfl rfl rfl

@[simp] theorem shown_close (s : State) (t : Timer) (i : Nat) : (s.close t i).shown = s.shown :=
  shown_congr rfl rfl rfl rfl

@[simp] theorem shown_openBy (s : State) (clk : Nat) (t : Timer) (i len : Nat) : (s.openBy clk t i len).shown = s.shown :=
  shown_congr rfl rfl rfl rfl

@[simp] theorem shown_openSlow (s : State) (t : Timer) (i len : Nat) : (s.openSlow t i len).shown = s.shown :=
  shown_congr rfl rfl rfl rfl

@[simp] theorem shown_openLoop (s : State) (t : Timer) (i len : Nat) : (s.openLoop t i len).shown = s.shown :=
  shown_congr rfl rfl rfl rfl

@[simp] theorem shown_setStg (s : State) (t : Stage) (c : StageCtl) : (s.setStg t c).shown = s.shown :=
  shown_congr rfl rfl rfl rfl

@[simp] theorem shown_setW1c (s : State) (f : Fld) (n v j : Nat) (hl : f.lo ≤ f.hi) (hf : fldBesideShown f j = true) :
    (s.setW1c f n v j).shown = s.shown := by
  unfold State.setW1c
  simp (disch := first | decide | omega | assumption)

/-! ### Reports -/

/-- A field's value fits its width. -/
theorem f_lt_width (s : State) (f : Fld) (n j : Nat) : s.f f n j < 2 ^ (f.hi - f.lo + 1) := Nat.mod_lt _ (Nat.two_pow_pos _)

/-- The word of a code in SEEN is one of those of its family. -/
theorem w_le (code : Nat) : Ev.w code ≤ 18 := List.idxOf_le_length

theorem key_seen_lt (code : Nat) : Reg.STATE_SEEN_EVENTS.key (Ev.w code) < 0x010000 := by
  have hle := w_le code
  simp only [Fld.key, Reg.STATE_SEEN_EVENTS]
  omega

/-- The words of SEEN lie below those of START. -/
theorem shown_setF_seen (s : State) (code : Nat) (v : Int) : (s.setF Reg.STATE_SEEN_EVENTS (Ev.w code) v).shown = s.shown := by
  have hlt := key_seen_lt code
  exact shown_setWord s _ (by omega) (by omega) (by omega) (by omega)

@[simp] theorem shown_markSeen (s : State) (code : Nat) : (s.markSeen code).shown = s.shown := by
  have hkey (k : Nat) : k % 65536 < 65536 := Nat.mod_lt _ (by decide)
  exact (shown_setV _ .w1cBits _ _ (by decide) (hkey _)).trans ((shown_setV _ .w1cAt _ _ (by decide) (hkey _)).trans (shown_setF_seen ..))

@[simp] theorem shown_admitRec (s : State) {a : RepArg} (r : Rec) (ha : a.code < 65536) : (s.admitRec a r).shown = s.shown := by
  unfold State.admitRec
  simp (disch := first | decide | omega) [State.when]

@[simp] theorem shown_refilled (s : State) {code : Nat} (hc : code < 65536) : (s.refilled code).shown = s.shown := by
  unfold State.refilled
  split
  · simp (disch := first | decide | omega)
  · rfl

@[simp] theorem shown_enqueue (s : State) {a : RepArg} (ha : a.code < 65536) : (s.enqueue a).shown = s.shown := by
  unfold State.enqueue
  simp (disch := first | decide | omega)

@[simp] theorem shown_report (s : State) {a : RepArg} (ha : a.code < 65536) : (s.report a).shown = s.shown :=
  (shown_enqueue _ ha).trans (shown_markSeen ..)

@[simp] theorem shown_note (s : State) {code : Nat} (d0 d1 d2 : Nat) (hc : code < 65536) : (s.note code d0 d1 d2).shown = s.shown :=
  shown_report s hc

@[simp] theorem shown_noteAt (s : State) {code : Nat} (t : Stage) (d0 d1 d2 : Nat) (hc : code < 65536) :
    (s.noteAt code t d0 d1 d2).shown = s.shown := shown_report s hc

@[simp] theorem shown_nextTag (s : State) : s.nextTag.2.shown = s.shown := shown_setV s .groupTag 0 _ (by decide) (by decide)

@[simp] theorem shown_retag (s : State) (l : List CycleFault) (tag : Nat) (ex : Bool) : (s.retag l tag ex).shown = s.shown := by
  unfold State.retag
  refine (shown_each _ _ _ fun u t _ => ?_).trans shown_parts
  simp (disch := first | decide | omega) [shown_setV_idx]

@[simp] theorem shown_keepFaults (s : State) (fs : List FaultEvt) (tag : Nat) : (s.keepFaults fs tag).shown = s.shown :=
  shown_congr rfl rfl rfl rfl

theorem shown_reportAll (s : State) {fs : List FaultEvt} (hfs : ∀ f ∈ fs, f.code < 65536) : (s.reportAll fs).shown = s.shown := by
  unfold State.reportAll
  dsimp only
  refine (shown_each _ _ _ fun u f hf => shown_report u (hfs f hf)).trans ?_
  split
  · simp
  · split <;> simp

/-! ### Protective outputs, windows and stages -/

@[simp] theorem shown_protect (s : State) (out : ProtOut) (old : Nat) : (s.protect out old).shown = s.shown := by
  unfold State.protect
  simp (disch := first | decide | omega)

@[simp] theorem shown_trigBuffers (s : State) (t : Stage) : (s.trigBuffers t).shown = s.shown := by
  refine shown_each _ _ _ fun u k hk => ?_
  have hlt : k < 65536 := by
    have := List.mem_range'_1.1 hk
    cases t <;> simp only [Stage.core] at this <;> omega
  simp (disch := first | decide | omega)

@[simp] theorem shown_derate (s : State) (t : Stage) (code : Nat) (momentary : Bool) : (s.derate t code momentary).shown = s.shown := by
  unfold State.derate
  simp

@[simp] theorem shown_brakeZero (s : State) {k : Nat} (hk : k < 65536) : (s.brakeZero k).shown = s.shown := by
  have hslot : s.f Reg.SAFE_BRK_CFG_BT_SLOT k < 2 ^ 6 := f_lt_width s _ k 0
  unfold State.brakeZero
  simp (disch := first | decide | omega)

@[simp] theorem shown_abortTest (s : State) {k : Nat} (hk : k < 65536) : (s.abortTest k).shown = s.shown := by
  refine shown_ite_of ?_ rfl
  refine (shown_report _ (show Ev.BRAKE_TEST_ABORTED < 65536 by decide)).trans ((shown_addF _ _ _ _ _ (by decide) (by decide)).trans ?_)
  refine (shown_brakeZero _ hk).trans ?_
  simp (disch := first | decide | omega) only [shown_setV, shown_setF, shown_setFb, shown_close]

@[simp] theorem shown_openHold (s : State) (t : Stage) : (s.openHold t).shown = s.shown :=
  shown_congr rfl rfl rfl rfl

@[simp] theorem shown_syncModule (s : State) (code : Nat) : (s.syncModule code).shown = s.shown := by
  have hev : (s.setV .moduleEvent 0 code).shown = s.shown := shown_setV s _ 0 _ (by decide) (by decide)
  exact shown_ite_of hev (shown_ite_of hev rfl)

@[simp] theorem shown_regHistory (s : State) (c : Int) : (s.regHistory c).shown = s.shown := by
  unfold State.regHistory
  simp (disch := first | decide | omega)

@[simp] theorem shown_burstLeft (s : State) : s.burstLeft.shown = s.shown := by
  unfold State.burstLeft
  simp [State.when]

@[simp] theorem shown_snapFrom (s : State) : s.snapFrom.shown = s.shown := by
  unfold State.snapFrom
  simp (disch := first | decide | omega)

@[simp] theorem shown_snapWrite (s : State) {f : Fld} (k : Nat) {i : Nat} (l : List Byte) (hl : f.lo ≤ f.hi) (hf : 0x110D00 < f.base)
    (hi : i < 1024) : (s.snapWrite f k i l).shown = s.shown := by
  unfold State.snapWrite
  refine (shown_each _ _ _ fun u x _ => ?_).trans (shown_each _ _ _ fun u j hj => ?_)
  · exact shown_setF u f k x.1 x.2 hl (beside_of_above hf x.2)
  · have := List.mem_range.1 hj
    simp (disch := first | decide | omega)

@[simp] theorem shown_linkSnapOf (s : State) {k : Nat} (detail seq : Nat) (hk : k < 1024) : (s.linkSnapOf k detail seq).shown = s.shown := by
  refine shown_ite_of ?_ (shown_addF _ _ _ _ _ (by decide) (by decide))
  exact (shown_openSlow ..).trans ((shown_setF _ _ _ _ _ (by decide) (by decide)).trans (shown_snapWrite _ k _ (by decide) (by decide) hk))

@[simp] theorem shown_linkSnap (s : State) {k : Nat} (detail : Nat) (hk : k < 1024) : (s.linkSnap k detail).shown = s.shown := by
  unfold State.linkSnap
  simp (disch := first | decide | omega)

@[simp] theorem shown_regLeft (s : State) (st code : Nat) : (s.regLeft st code).shown = s.shown := by
  unfold State.regLeft
  simp (disch := first | decide | omega)

@[simp] theorem shown_regLeaves (s : State) (code : Nat) : (s.regLeaves code).shown = s.shown := by
  unfold State.regLeaves
  simp (disch := first | decide | omega) [State.when]

@[simp] theorem shown_enter (s : State) (t : Stage) (st : StageState) (code reaction : Nat) :
    (s.enter t st code reaction).shown = s.shown := by
  unfold State.enter
  simp (disch := first | decide | omega) [State.when, shown_setV_idx]

@[simp] theorem shown_abortBrakeTest (s : State) (t : Stage) : (s.abortBrakeTest t).shown = s.shown := by
  unfold State.abortBrakeTest
  simp (disch := first | decide | omega)

@[simp] theorem shown_setRank (s : State) (t : Stage) (rank reaction : Nat) : (s.setRank t rank reaction).shown = s.shown := by
  unfold State.setRank
  simp (disch := first | decide | omega) [shown_setV_idx]

@[simp] theorem shown_holdBy (s : State) (t : Stage) (c : HoldCause) (code : Nat) : (s.holdBy t c code).shown = s.shown := by
  unfold State.holdBy
  dsimp only
  split
  · refine shown_ite_of rfl ((shown_each _ _ _ fun u n _ => shown_close u _ n).trans ?_)
    simp
  · rfl
  · rfl
  · rfl

@[simp] theorem shown_unlatchLegs (s : State) (t : Stage) : (s.unlatchLegs t).shown = s.shown :=
  shown_each _ _ _ fun u n _ => shown_setFb u _ n false 0 (by decide) (by decide)

/-! ### Numbers of legs, channels and slots -/

theorem lt_of_mem_legs {t : Stage} {n : Nat} (h : n ∈ t.legs) : n < 32 := by
  have := List.mem_range'_1.1 h
  cases t <;> simp only [Stage.legBase, Stage.legCount] at this <;> omega

theorem lt_of_mem_chans {t : Stage} {c : Nat} (h : c ∈ t.chans) : c < 64 := by
  have := List.mem_range'_1.1 h
  cases t <;> simp only [Stage.legBase, Stage.legCount] at this <;> omega

theorem lt_of_mem_slotsOf {s : State} {t : Stage} {n : Nat} (h : n ∈ s.slotsOf t) : n < 48 :=
  List.mem_range.1 (List.mem_of_mem_filter h)

/-! ### Legs and carriers -/

@[simp] theorem shown_endCommands (s : State) {n : Nat} (hn : n < 32) : (s.endCommands n).shown = s.shown := by
  unfold State.endCommands
  dsimp only
  refine shown_parts.trans ?_
  simp (disch := first | decide | omega)

@[simp] theorem shown_dropDerates (s : State) : s.dropDerates.shown = s.shown := shown_each _ _ _ fun u t _ => shown_setStg u t _

@[simp] theorem shown_recordTouched (s : State) : s.recordTouched.shown = s.shown := by
  unfold State.recordTouched
  split
  · exact shown_setDue ..
  · rfl

@[simp] theorem shown_carrierStop (s : State) (t : Stage) : (s.carrierStop t).shown = s.shown := by
  have hidx := Stage.idx_lt t
  unfold State.carrierStop
  dsimp only
  refine shown_parts.trans ((shown_each _ _ _ fun u n hn => ?_).trans ?_)
  · have hlt := lt_of_mem_legs hn
    simp (disch := first | decide | omega)
  · simp (disch := first | decide | omega)

@[simp] theorem shown_brakeApply (s : State) {k : Nat} (hk : k < 65536) : (s.brakeApply k).shown = s.shown := by
  refine shown_ite_of ?_ rfl
  simp (disch := first | decide | omega) only [shown_setV, shown_setOn, shown_setF, shown_setFb, shown_close, shown_protect]

@[simp] theorem shown_brakeSync (s : State) : s.brakeSync.shown = s.shown := by
  refine shown_each _ _ _ fun u k hk => ?_
  have hlt : k < 65536 := by fin_cases hk <;> decide
  split
  · exact shown_brakeApply u hlt
  · simp (disch := first | decide | omega)

@[simp] theorem shown_turnOff (s : State) {c : Nat} (hc : c < 64) : (s.turnOff c).shown = s.shown := by
  unfold State.turnOff
  simp (disch := first | decide | omega)

@[simp] theorem shown_legOff (s : State) {n : Nat} (hn : n < 32) : (s.legOff n).shown = s.shown := by
  unfold State.legOff
  simp (disch := first | decide | omega)

@[simp] theorem shown_outputAllOff (s : State) (t : Stage) : (s.outputAllOff t).shown = s.shown := by
  refine (shown_setOn _ _ _ _ (by decide) ((Stage.idx_lt t).trans (by decide))).trans ?_
  refine (shown_each _ _ _ fun u n hn => shown_legOff u (lt_of_mem_legs hn)).trans ?_
  exact shown_each _ _ _ fun u n hn => shown_endCommands u (lt_of_mem_legs hn)

@[simp] theorem shown_addOn (s : State) (c t : Nat) : (s.addOn c t).shown = s.shown :=
  shown_congr rfl rfl rfl rfl

@[simp] theorem shown_driveLow (s : State) {n : Nat} (hn : n < 32) : (s.driveLow n).shown = s.shown := by
  unfold State.driveLow
  simp (disch := first | decide | omega)

@[simp] theorem shown_ascTurnOn (s : State) {n : Nat} (hn : n < 32) : (s.ascTurnOn n).shown = s.shown := by
  unfold State.ascTurnOn
  simp (disch := first | decide | omega)

@[simp] theorem shown_outputAsc (s : State) (t : Stage) : (s.outputAsc t).shown = s.shown := by
  refine (shown_setOn _ _ _ _ (by decide) ((Stage.idx_lt t).trans (by decide))).trans (shown_each _ _ _ fun u n hn => ?_)
  have hlt := lt_of_mem_legs hn
  have hoff (b : Bool) : ((((u.endCommands n).setOn .chCmd (2 * n + 1) b).setOn .staggerLeg n false).turnOff (2 * n)).shown = u.shown := by
    simp (disch := first | decide | omega)
  have hlow (b : Bool) := (shown_setFb _ Reg.LEG_STATUS_LOW_ON n true 0 (by decide) (by decide)).trans (hoff b)
  refine shown_ite_of (hlow _) (shown_ite_of (hoff _) (shown_ite_of ?_ ?_))
  · exact (shown_setOn _ _ _ _ (by decide) (hlt.trans (by decide))).trans (hlow _)
  · exact (shown_ascTurnOn _ hlt).trans (hlow _)

@[simp] theorem shown_outputOff (s : State) (t : Stage) : (s.outputOff t).shown = s.shown := by
  have hidx := Stage.idx_lt t
  have hlegs {u : State} {n : Nat} (hn : n ∈ u.legsOn t) : n < 32 := lt_of_mem_legs (List.mem_of_mem_filter hn)
  have hends : ((s.each t.legs State.endCommands).setOn .ascOut t.idx false).shown = s.shown :=
    (shown_setOn _ _ _ _ (by decide) (hidx.trans (by decide))).trans
      (shown_each _ _ _ fun u n hn => shown_endCommands u (lt_of_mem_legs hn))
  unfold State.outputOff
  refine shown_ite_of ((shown_each _ _ _ fun u n hn => shown_legOff u (hlegs hn)).trans hends) ?_
  have hwait := (shown_each _ (((s.each t.legs State.endCommands).setOn .ascOut t.idx false).legsOn t) _ fun u n hn =>
    shown_setOn u .staggerLeg n true (by decide) ((hlegs hn).trans (by decide))).trans hends
  split
  · exact (shown_close ..).trans hwait
  · next n more heq =>
    have hoff := (shown_legOff _ (hlegs (heq ▸ List.mem_cons_self : n ∈ _))).trans hwait
    exact shown_ite_of ((shown_close ..).trans hoff) ((shown_openBy ..).trans hoff)

/-! ### The stages' sequences -/

@[simp] theorem shown_chgSnap (s : State) {k : Nat} (before detail : Nat) (hk : k < 8) : (s.chgSnap k before detail).shown = s.shown := by
  refine shown_ite_of ?_ (shown_addF _ _ _ _ _ (by decide) (by decide))
  exact (shown_openSlow ..).trans ((shown_setF _ _ _ _ _ (by decide) (by decide)).trans
    (shown_snapWrite _ k _ (by decide) (by decide) (by omega)))

@[simp] theorem shown_pRamp (s : State) : s.pRamp.shown = s.shown := by
  unfold State.pRamp
  simp (disch := first | decide | omega)

@[simp] theorem shown_pStopNext (s : State) : s.pStopNext.shown = s.shown := by
  refine shown_ite_of (shown_ite_of ((shown_chgSnap _ 4 _ (by decide)).trans ?_) (shown_pRamp s)) rfl
  simp (disch := first | decide | omega)

@[simp] theorem shown_protectStage (s : State) (t : Stage) : (s.protectStage t).shown = s.shown := shown_protect ..

@[simp] theorem shown_rampThenOff (s : State) (t : Stage) (len : Nat) : (s.rampThenOff t len).shown = s.shown :=
  (shown_setV_idx _ _ t _ (by decide)).trans (shown_openLoop ..)

@[simp] theorem shown_setAuto (s : State) (n : Nat) (b : Bool) : (s.setAuto n b).shown = s.shown := by
  unfold State.setAuto
  simp (disch := first | decide | omega)

@[simp] theorem shown_slotsManual (s : State) (t : Stage) : (s.slotsManual t).shown = s.shown := by
  refine shown_each _ _ _ fun u n hn => ?_
  have hlt := lt_of_mem_slotsOf hn
  refine (shown_when _ _ _ fun w => shown_noteAt w t n 0 0 (by decide)).trans ((shown_each _ _ _ fun w k hk => ?_).trans (shown_setAuto ..))
  have hk4 := List.mem_range.1 hk
  refine (shown_setV _ _ _ _ (by decide) (by omega)).trans (shown_setF _ _ _ _ _ (by decide) ?_)
  interval_cases k <;> decide

@[simp] theorem shown_moduleToSafe (s : State) (code : Nat) : (s.moduleToSafe code).shown = s.shown := by
  have hsafe : ((((s.setV .entering 0 0).setV .wakeLatched 0 0).protect .area 0).setV .moduleEvent 0 code).shown = s.shown := by
    simp (disch := first | decide | omega)
  unfold State.moduleToSafe
  split
  · exact hsafe
  · exact hsafe
  · exact hsafe
  · rfl

@[simp] theorem shown_overtake (s : State) (t : Stage) (rank code reaction : Nat) : (s.overtake t rank code reaction).shown = s.shown := by
  have hdrop (c : StageCtl) (b : Bool) : (s.when b fun s => s.setStg t c).shown = s.shown := shown_when s b _ fun u => shown_setStg u t c
  refine shown_ite_of ((shown_enter ..).trans (hdrop _ _)) (shown_ite_of (hdrop _ _) (shown_ite_of ?_ (hdrop _ _)))
  exact (shown_setV_idx _ _ t _ (by decide)).trans ((shown_setV_idx _ _ t _ (by decide)).trans (hdrop _ _))

/-! ### Feedback -/

@[simp] theorem shown_filterFrom (s : State) (tm : Timer) (i n c : Nat) : (s.filterFrom tm i n c).shown = s.shown :=
  shown_ite_of rfl (shown_setDue ..)

@[simp] theorem shown_cmpFire (s : State) {a : Nat} (c : Nat) (pos : Int) (at' : Nat) (ha : a < 65536) :
    (s.cmpFire a c pos at').shown = s.shown := by
  refine (shown_when _ _ _ fun u => shown_noteAt u _ _ _ _ (by decide)).trans ?_
  have hfired (v : Int) : ((((((s.setFb Reg.ACT_CMP_ARMED a false c).setFb Reg.ACT_CMP_EITHER a false c).setW1c Reg.ACT_CMP_FIRED a 1 c).setF
      Reg.ACT_CMP_FIRE_POS a pos c).setF Reg.ACT_CMP_FIRE_CYCLE a v c).addF Reg.ACT_COUNTERS a 1 6).shown = s.shown := by
    have hact {f : Fld} (hf : 0x110D00 < f.base) : fldBesideShown f c = true := beside_of_above hf c
    simp (disch := first | decide | exact hact (by decide)) only [shown_setF, shown_setFb, shown_setW1c, shown_addF]
  exact shown_ite_of (hfired _) ((shown_setV _ _ _ _ (by decide) ha).trans (hfired _))

@[simp] theorem shown_cmpCross (s : State) {a : Nat} (c : Nat) (p p' : Int) (at' : Nat) (ha : a < 65536) :
    (s.cmpCross a c p p' at').shown = s.shown :=
  shown_ite_of (shown_cmpFire s _ _ _ ha) rfl

@[simp] theorem shown_unabort (s : State) {k : Nat} (hk : k < 65536) : (s.unabort k).shown = s.shown := by
  refine shown_ite_of ?_ rfl
  refine (shown_setOn _ _ _ _ (by decide) hk).trans ((shown_setV _ _ _ _ (by decide) hk).trans ?_)
  exact (shown_setF _ _ _ _ _ (by decide) (by decide)).trans ((shown_setF _ _ _ _ _ (by decide) (by decide)).trans shown_parts)

@[simp] theorem shown_fbPush (s : State) {n : Nat} (c : Nat) (hn : n < 8) : (s.fbPush n c).shown = s.shown := by
  refine (shown_setDue ..).trans ((shown_setV _ _ _ _ (by decide) (by omega)).trans ((shown_setV _ _ _ _ (by decide) (by omega)).trans ?_))
  refine shown_each _ _ _ fun u k hk => ?_
  have hlt := List.mem_range.1 (List.mem_reverse.1 hk)
  exact shown_setV _ _ _ _ (by decide) (by omega)

@[simp] theorem shown_fbDir (s : State) {n : Nat} (c : Nat) (edge : Bool) (hn : n < 8) : (s.fbDir n c edge).shown = s.shown := by
  have hpush (u : State) : (u.when edge fun s => s.fbPush n c).shown = u.shown := shown_when u _ _ fun w => shown_fbPush w c hn
  refine shown_ite_of ((hpush _).trans ?_) (shown_ite_of ((hpush _).trans ?_) rfl)
  · simp (disch := first | decide | omega)
  · simp (disch := first | decide | omega)

@[simp] theorem shown_winFirst (s : State) {n : Nat} (c : Nat) (hn : n < 8) : (s.winFirst n c).shown = s.shown := by
  unfold State.winFirst
  simp (disch := first | decide | omega)

@[simp] theorem shown_fbMove (s : State) {n : Nat} (c : Nat) (d : Int) (hn : n < 8) : (s.fbMove n c d).shown = s.shown := by
  refine (shown_setV _ _ _ _ (by decide) (by omega)).trans (shown_setF_between s _ (by decide) ?_)
  simp only [Fld.key, Reg.FB_POS]
  omega

@[simp] theorem shown_lapseAt (s : State) (clk at' : Nat) (t : Timer) (i : Nat) : (s.lapseAt clk at' t i).shown = s.shown := by
  unfold State.lapseAt
  split
  · exact shown_ite_of rfl (shown_close ..)
  · rfl

@[simp] theorem shown_excStart (s : State) {n : Nat} (hn : n < 8) : (s.excStart n).shown = s.shown := by
  unfold State.excStart
  simp (disch := first | decide | omega)

@[simp] theorem shown_fbLost (s : State) (n : Nat) : (s.fbLost n).shown = s.shown := by
  unfold State.fbLost
  simp (disch := first | decide | omega)

@[simp] theorem shown_fbValid (s : State) (n : Nat) : (s.fbValid n).shown = s.shown := by
  have hvalid (b : Bool) : (s.setFb Reg.FB_STATUS_VALID n b).shown = s.shown := shown_setFb s _ n b 0 (by decide) (by decide)
  exact shown_ite_of ((shown_fbLost ..).trans (hvalid _)) (hvalid _)

/-! ### What begins with the units -/

@[simp] theorem shown_slotTimers (s : State) : s.slotTimers.shown = s.shown :=
  shown_each _ _ _ fun _ _ _ => shown_ite_of (shown_setDue ..) rfl

@[simp] theorem shown_chgBegin (s : State) : s.chgBegin.shown = s.shown :=
  shown_ite_of ((shown_setV _ .chgPvreg 0 _ (by decide) (by decide)).trans ((shown_setDue ..).trans (shown_setDue ..))) rfl

@[simp] theorem shown_budgetShow (s : State) : s.budgetShow.shown = s.shown := by
  have hdemand (u : State) (n : Nat) (v : Int) (hn : n < 2) : (u.setF Reg.ARB_DEMAND n v).shown = u.shown :=
    shown_setF_between u v (by decide) (by simp only [Fld.key, Reg.ARB_DEMAND]; omega)
  refine (hdemand _ 1 _ (by decide)).trans ((hdemand _ 0 _ (by decide)).trans (shown_each _ _ _ fun u l hl => ?_))
  have hlt := List.mem_range.1 hl
  exact shown_setF_between u _ (by decide) (by simp only [Fld.key, Reg.ENG_LANE_LOAD_UTIL]; omega)

@[simp] theorem shown_setPort (s : State) (p st : Nat) : (s.setPort p st).shown = s.shown := by
  unfold State.setPort
  simp (disch := first | decide | omega)

@[simp] theorem shown_portClear (s : State) {p : Nat} (hp : p < 65536) : (s.portClear p).shown = s.shown := by
  refine (shown_setV _ .portEnd p 0 (by decide) hp).trans (shown_parts.trans ?_)
  simp (disch := first | decide | omega) only [shown_setV, shown_setOn, shown_setF, shown_setFb, shown_close]

@[simp] theorem shown_append (s : State) (r : Rec) : (s.append r).shown = s.shown :=
  (shown_addF _ _ _ _ _ (by decide) (by decide)).trans shown_parts

@[simp] theorem shown_appendOwn (s : State) (a : RepArg) : (s.appendOwn a).shown = s.shown := (shown_append ..).trans (shown_markSeen ..)

@[simp] theorem shown_fullCheck (s : State) : s.fullCheck.shown = s.shown :=
  shown_ite_of ((shown_setOn _ .logFull 0 true (by decide) (by decide)).trans (shown_appendOwn ..)) rfl

@[simp] theorem shown_fillCheck (s : State) : s.fillCheck.shown = s.shown := by
  have hwarn (b : Bool) := shown_setOn s .fillWarn 0 b (by decide) (by decide)
  exact (shown_fullCheck _).trans (shown_ite_of (shown_parts.trans ((shown_appendOwn ..).trans (hwarn _))) (hwarn _))

@[simp] theorem shown_canSync (s : State) (ch : Nat) : (s.canSync ch).shown = s.shown := by
  unfold State.canSync
  simp (disch := first | decide | omega)

@[simp] theorem shown_canBound (s : State) (ch : Nat) : (s.canBound ch).shown = s.shown := by
  refine shown_ite_of rfl ?_
  simp (disch := first | decide | omega)

@[simp] theorem shown_canStale (s : State) {ch : Nat} (n : Nat) (hch : ch < 4) : (s.canStale ch n).shown = s.shown := by
  refine shown_ite_of rfl ((shown_note _ _ _ _ (by decide)).trans ?_)
  exact shown_setF_between s _ (by decide) (by simp only [Fld.key, Reg.START_CAN_STALE]; omega)

@[simp] theorem shown_canApply (s : State) {ch : Nat} (hch : ch < 4) : (s.canApply ch).shown = s.shown := by
  refine shown_ite_of ((shown_canSync ..).trans ((shown_canStale _ _ hch).trans ?_)) (shown_canBound ..)
  exact (shown_setF _ _ _ _ _ (by decide) (by decide)).trans (shown_parts.trans (shown_canBound ..))

@[simp] theorem shown_brakeDueWindow (s : State) (k : Nat) : (s.brakeDueWindow k).shown = s.shown := shown_setDue ..

@[simp] theorem shown_rotationBegin (s : State) {c : Nat} (hc : c < 4) : (s.rotationBegin c).shown = s.shown := by
  refine (shown_openSlow ..).trans ((shown_openSlow ..).trans ((shown_setF _ _ _ _ _ (by decide) (by decide)).trans ?_))
  refine (shown_setV _ .calSlice c 8 (by decide) (by omega)).trans (shown_each _ _ _ fun u k hk => ?_)
  have hlt := List.mem_range.1 hk
  exact shown_setV _ _ _ _ (by decide) (by omega)

@[simp] theorem shown_seqReady (s : State) {c : Nat} (e a : Nat) (hc : c < 65536) : (s.seqReady c e a).shown = s.shown :=
  (shown_setV _ .seqAt c _ (by decide) hc).trans (shown_setOn _ .seqWait c false (by decide) hc)

@[simp] theorem shown_seqStart (s : State) {c : Nat} (e a : Nat) (hc : c < 65536) : (s.seqStart c e a).shown = s.shown := by
  unfold State.seqStart
  simp (disch := first | decide | omega)

/-! ### What ends the start -/

@[simp] theorem shown_dllReady (s : State) : s.dllReady.shown = s.shown := by
  have hdelay : (s.each (List.range 64) fun s c => s.setF Reg.FO_RB_DELAY c (Config.readbackDelay c)).shown = s.shown := by
    refine shown_each _ _ _ fun u c hc => ?_
    have hlt := List.mem_range.1 hc
    exact shown_setF_between u _ (by decide) (by simp only [Fld.key, Reg.FO_RB_DELAY]; omega)
  refine shown_ite_of hdelay ?_
  exact (shown_setF _ _ _ _ _ (by decide) (by decide)).trans ((shown_setFb _ _ _ _ _ (by decide) (by decide)).trans (shown_parts.trans hdelay))

@[simp] theorem shown_restoreEnable (s : State) (g : Nat) : (s.restoreEnable g).shown = s.shown := by
  refine (shown_each _ _ _ fun u t _ => shown_each _ _ _ fun w c _ => ?_).trans (shown_setF _ _ _ _ _ (by decide) (by decide))
  exact shown_setFb _ _ _ _ _ (by decide) (by decide)

@[simp] theorem shown_removeEnable (s : State) (g : Nat) : (s.removeEnable g).shown = s.shown := by
  refine (shown_each _ _ _ fun u t _ => shown_each _ _ _ fun w c hc => ?_).trans (shown_setF _ _ _ _ _ (by decide) (by decide))
  exact (shown_setFb _ _ _ _ _ (by decide) (by decide)).trans (shown_turnOff w (lt_of_mem_chans hc))

@[simp] theorem shown_enableSync (s : State) (g : Nat) : (s.enableSync g).shown = s.shown :=
  shown_ite_of (shown_restoreEnable ..) (shown_ite_of (shown_removeEnable ..) rfl)

@[simp] theorem shown_countResult (s : State) (r : Res) : (s.countResult r).shown = s.shown :=
  shown_ite_of rfl (shown_addF _ _ _ _ _ (by decide) (by decide))

@[simp] theorem shown_canPush (s : State) (t : TxFrame) : (s.canPush t).shown = s.shown := (shown_canSync ..).trans shown_parts

@[simp] theorem shown_canRefuse (s : State) (ch : Nat) : (s.canRefuse ch).shown = s.shown :=
  (shown_note _ _ _ _ (by decide)).trans (shown_addF _ _ _ _ _ (by decide) (by decide))

@[simp] theorem shown_canOffer (s : State) (t : TxFrame) (urgent : Bool) : (s.canOffer t urgent).2.shown = s.shown := by
  have hoffer {b : Bool} : (if b = true then (true, s.canPush t) else (false, s.canRefuse t.ch)).2.shown = s.shown := by
    cases b
    · exact shown_canRefuse ..
    · exact shown_canPush ..
  exact hoffer

@[simp] theorem shown_claimGo (s : State) {ch : Nat} (addr : Nat) (hch : ch < 65536) : (s.claimGo ch addr).shown = s.shown :=
  (shown_canOffer ..).trans ((shown_close ..).trans (shown_setV _ .canAddr ch _ (by decide) hch))

end Sys2Proof.Machine.State
end

-- ==== What a reaction leaves of a start ====
section
/-!
`StillShown a s` says that `s` shows of a start what `a` shows, and that the cause of KEY_CHANGED is present if it is in `a`. It is kept
by every operation that ends a stage, by every reaction, and by every end of another cause.
-/

namespace Sys2Proof.Machine.State
open Sys2Proof Sys2Proof.Machine

/-! ### The cause of KEY_CHANGED -/

/-- The entry of KEY_CHANGED among the causes. -/
def isKeyEntry (c : Cause) : Bool := c.code == Ev.KEY_CHANGED && c.inst == 0

/-- The first entry of KEY_CHANGED is that of a present cause. -/
def keyMarked (s : State) : Prop := ∃ c, s.causes.find? isKeyEntry = some c ∧ c.present = true

theorem keyMarked_congr {s u : State} (h : u.causes = s.causes) : u.keyMarked ↔ s.keyMarked := by rw [keyMarked, keyMarked, h]

theorem present_of_keyMarked {s : State} (h : s.keyMarked) : s.present Ev.KEY_CHANGED = true := by
  obtain ⟨c, hc, hp⟩ := h
  have hentry := List.find?_some hc
  exact List.any_eq_true.2 ⟨c, List.mem_of_find?_eq_some hc, by rw [hp, Bool.and_true]; exact hentry⟩

/-- A change of a cause's entry that keeps what it is of, and keeps KEY_CHANGED present. -/
def KeepsEntry (k : Cause → Cause) (c : Cause) : Prop :=
  (k c).code = c.code ∧ (k c).inst = c.inst ∧ (c.code = Ev.KEY_CHANGED → c.present = true → (k c).present = true)

theorem isKeyEntry_of_keeps {k : Cause → Cause} {c : Cause} (h : KeepsEntry k c) : isKeyEntry (k c) = isKeyEntry c := by
  rw [isKeyEntry, isKeyEntry, h.1, h.2.1]

theorem present_of_keeps {k : Cause → Cause} {c : Cause} (h : KeepsEntry k c) (hc : isKeyEntry c = true) (hp : c.present = true) :
    (k c).present = true := by
  simp only [isKeyEntry, Bool.and_eq_true, beq_iff_eq] at hc
  exact h.2.2 hc.1 hp

theorem find?_filter_of_some {α : Type} {p q : α → Bool} {l : List α} {x : α} (h : l.find? p = some x) (hq : q x = true) :
    (l.filter q).find? p = some x := by
  induction l with
  | nil => cases h
  | cons y l ih =>
    by_cases hp : p y = true
    · rw [List.find?_cons_of_pos hp] at h
      obtain rfl := Option.some.inj h
      rw [List.filter_cons_of_pos hq, List.find?_cons_of_pos hp]
    · rw [List.find?_cons_of_neg hp] at h
      by_cases hy : q y = true
      · rw [List.filter_cons_of_pos hy, List.find?_cons_of_neg hp]
        exact ih h
      · rw [List.filter_cons_of_neg hy]
        exact ih h

/-- An entry that takes the place of those of KEY_CHANGED is found. -/
theorem find?_entered {l : List Cause} {c : Cause} (hc : isKeyEntry c = true) :
    ((l.filter fun c => !isKeyEntry c) ++ [c]).find? isKeyEntry = some c := by
  have hnone : (l.filter fun c => !isKeyEntry c).find? isKeyEntry = none := by
    refine List.find?_eq_none.2 fun d hd => ?_
    have hother := (List.mem_filter.1 hd).2
    simpa using hother
  rw [List.find?_append, hnone, Option.none_or, List.find?_singleton, if_pos hc]

theorem keyMarked_map {s u : State} {k : Cause → Cause} (hk : ∀ c, KeepsEntry k c) (hu : u.causes = (s.causes.map k).filter Cause.alive)
    (h : s.keyMarked) : u.keyMarked := by
  obtain ⟨c, hc, hp⟩ := h
  have hkp := present_of_keeps (hk c) (List.find?_some hc) hp
  have hfind : (s.causes.map k).find? isKeyEntry = some (k c) := by
    rw [List.find?_map, show isKeyEntry ∘ k = isKeyEntry from funext fun c => isKeyEntry_of_keeps (hk c), hc, Option.map_some]
  exact ⟨k c, hu ▸ find?_filter_of_some hfind (by simp [Cause.alive, hkp]), hkp⟩

theorem keyMarked_updCause {s : State} {code inst : Nat} {k : Cause → Cause} (hk : ∀ c, c.code = code → KeepsEntry k c) (h : s.keyMarked) :
    (s.updCause code inst k).keyMarked := by
  obtain ⟨c, hc, hp⟩ := h
  have hentry := List.find?_some hc
  by_cases hown : (c.code == code && c.inst == inst) = true
  · have hsame : (fun c : Cause => c.code == code && c.inst == inst) = isKeyEntry := by
      simp only [Bool.and_eq_true, beq_iff_eq, isKeyEntry] at hown hentry
      funext d
      rw [isKeyEntry, ← hown.1, ← hown.2, hentry.1, hentry.2]
    have hcode : c.code = code := by simp only [Bool.and_eq_true, beq_iff_eq] at hown; exact hown.1
    have hkp := present_of_keeps (hk c hcode) hentry hp
    refine ⟨k c, ?_, hkp⟩
    unfold State.updCause
    dsimp only
    have hfilter : (s.causes.filter fun c => !(c.code == code && c.inst == inst)) = s.causes.filter fun c => !isKeyEntry c :=
      List.filter_congr fun d _ => by rw [← hsame]
    rw [hsame, hfilter, hc, Option.getD_some, if_pos (by simp [Cause.alive, hkp])]
    exact find?_entered ((isKeyEntry_of_keeps (hk c hcode)).trans hentry)
  · have hrest := find?_filter_of_some (q := fun c => !(c.code == code && c.inst == inst)) hc (by rw [Bool.eq_false_of_not_eq_true hown, Bool.not_false])
    refine ⟨c, ?_, hp⟩
    unfold State.updCause
    dsimp only
    split
    · rw [List.find?_append, hrest, Option.some_or]
    · exact hrest

theorem shows_of_shown {s u : State} (h : u.shown = s.shown) : u.shows = s.shows := congrArg Prod.fst h

theorem causes_of_shown {s u : State} (h : u.shown = s.shown) : u.causes = s.causes := congrArg Prod.snd h

/-! ### What still shows -/

/-- What a start shows of itself stands, and so does a present KEY_CHANGED. -/
structure StillShown (a s : State) : Prop where
  shows : s.shows = a.shows
  marked : a.keyMarked → s.keyMarked

theorem StillShown.refl (s : State) : StillShown s s := ⟨rfl, id⟩

/-- An operation that leaves what is shown and the causes. -/
theorem StillShown.of_shown {a s u : State} (h : StillShown a s) (hu : u.shown = s.shown) : StillShown a u :=
  ⟨(shows_of_shown hu).trans h.shows, fun ha => (keyMarked_congr (causes_of_shown hu)).2 (h.marked ha)⟩

/-- An operation that changes, of all that is shown, the entries of the causes. -/
theorem StillShown.of_causes {a s u : State} (h : StillShown a s) (hu : u.shows = s.shows) (hm : s.keyMarked → u.keyMarked) : StillShown a u :=
  ⟨hu.trans h.shows, fun ha => hm (h.marked ha)⟩

theorem still_ite {c : Prop} [Decidable c] {a s u : State} (hs : StillShown a s) (hu : StillShown a u) : StillShown a (if c then s else u) := by
  split <;> assumption

theorem still_each {α : Type} {a s : State} (h : StillShown a s) (l : List α) (k : State → α → State)
    (hk : ∀ u, StillShown a u → ∀ x ∈ l, StillShown a (k u x)) : StillShown a (s.each l k) :=
  List.foldlRecOn (motive := fun s => StillShown a s) l k h hk

theorem still_when {a s : State} (h : StillShown a s) (b : Bool) (k : State → State) (hk : ∀ u, StillShown a u → StillShown a (k u)) :
    StillShown a (s.when b k) :=
  still_ite (hk s h) h

theorem still_updCause {a s : State} (h : StillShown a s) {code : Nat} (inst : Nat) {k : Cause → Cause}
    (hk : ∀ c, c.code = code → KeepsEntry k c) : StillShown a (s.updCause code inst k) :=
  h.of_causes rfl (keyMarked_updCause hk)

theorem still_setCause {a s : State} (h : StillShown a s) (code inst : Nat) (transient : Bool) :
    StillShown a (s.setCause code inst transient) :=
  still_updCause h inst fun _ _ => ⟨rfl, rfl, fun _ _ => rfl⟩

theorem still_latchStages {a s : State} (h : StillShown a s) (code inst : Nat) (l : List Stage) : StillShown a (s.latchStages code inst l) :=
  still_updCause h inst fun _ _ => ⟨rfl, rfl, fun _ hp => hp⟩

/-- The end of a cause other than KEY_CHANGED. -/
theorem still_noteEnds {a s : State} (h : StillShown a s) {code : Nat} (inst : Nat) (hc : code ≠ Ev.KEY_CHANGED) :
    StillShown a (s.noteEnds code inst) :=
  still_updCause h inst fun _ he => ⟨rfl, rfl, fun hkey _ => absurd (he.symm.trans hkey) hc⟩

theorem still_releaseLatches {a s : State} (h : StillShown a s) (t : Stage) : StillShown a (s.releaseLatches t) :=
  h.of_causes rfl (keyMarked_map (k := fun c => { c with stages := c.stages.filter (· != t) }) (fun _ => ⟨rfl, rfl, fun _ hp => hp⟩) rfl)

/-- Entries of other codes are no longer present. -/
theorem still_endAll {a s : State} (h : StillShown a s) {p : Cause → Bool} (hp : ∀ c, c.code = Ev.KEY_CHANGED → p c = false) :
    StillShown a { s with causes := (s.causes.map fun (c : Cause) => if p c then { c with present := false } else c).filter Cause.alive } := by
  refine h.of_causes rfl (keyMarked_map (fun c => ?_) rfl)
  unfold KeepsEntry
  dsimp only
  split
  · next hc => exact ⟨rfl, rfl, fun hkey _ => absurd hc (by rw [hp c hkey]; exact Bool.false_ne_true)⟩
  · exact ⟨rfl, rfl, fun _ hpres => hpres⟩

/-! ### The ends of a stage -/

theorem still_slotsIdle {a s : State} (h : StillShown a s) (t : Stage) : StillShown a (s.slotsIdle t) := by
  refine StillShown.of_shown (still_endAll (h.of_shown (shown_each _ (s.slotsOf t) _ fun u n hn => ?_)) fun c hc => ?_) (shown_dropDerates _)
  · have hlt := lt_of_mem_slotsOf hn
    simp (disch := first | decide | omega) only [shown_setOn, shown_setFb, shown_close]
  · rw [hc]
    rfl

theorem still_actStop {a s : State} (h : StillShown a s) {n : Nat} (hn : n < 2) : StillShown a (s.actStop n) := by
  refine still_endAll (h.of_shown ?_) fun c hc => ?_
  · simp (disch := first | decide | omega) only [shown_setV, shown_setF, shown_setFb, shown_close]
  · rw [hc]
    simp [Ev.KEY_CHANGED, Ev.ACT_BLOCKED, Ev.ACT_DRIFT, Ev.HOLD_OVERCURRENT]

theorem still_stageIdle {a s : State} (h : StillShown a s) (t : Stage) : StillShown a (s.stageIdle t) := by
  have hforce : StillShown a (s.setV .stopForceAt t.idx 0) := h.of_shown (shown_setV_idx s _ t 0 (by decide))
  cases t
  case T1 | T2 | D => exact hforce
  case L =>
    refine hforce.of_shown ((shown_each _ _ _ fun u j hj => ?_).trans ?_)
    · have hlt := List.mem_range.1 hj
      simp (disch := first | decide | omega) only [shown_setOn, shown_close]
    · simp (disch := first | decide | omega) only [shown_setV, shown_setOn, shown_setF, shown_setFb, shown_close]
  case P =>
    exact hforce.of_shown ((shown_close ..).trans ((shown_setOn _ _ _ _ (by decide) (by decide)).trans
      (shown_setV _ _ _ _ (by decide) (by decide))))
  case X1 => exact still_actStop hforce (by decide)
  case X2 => exact still_actStop hforce (by decide)

theorem still_stageEnds {a s : State} (h : StillShown a s) (t : Stage) : StillShown a (s.stageEnds t) := by
  refine (still_stageIdle (still_slotsIdle (h.of_shown ?_) t) t).of_shown (shown_brakeSync _)
  simp only [shown_abortBrakeTest, shown_close, shown_carrierStop]

theorem still_dropD {a s : State} (h : StillShown a s) : StillShown a s.dropD := by
  refine still_ite (still_stageEnds (still_releaseLatches (h.of_shown ?_) .D) .D) h
  simp only [shown_enter, shown_unlatchLegs, shown_outputAllOff]

theorem still_leaveActive {a s : State} (h : StillShown a s) (t : Stage) : StillShown a (s.leaveActive t) :=
  still_ite (still_dropD (still_stageEnds h t)) (still_stageEnds h t)

theorem still_toStopped {a s : State} (h : StillShown a s) (t : Stage) (code reaction : Nat) : StillShown a (s.toStopped t code reaction) := by
  have hoff : StillShown a (((((s.each t.legs State.endCommands).unlatchLegs t).each t.chans fun s c => s.setOn .chDrive c false).setOn
      .ascOut t.idx false).enter t .stopped code reaction) := by
    refine h.of_shown ((shown_enter ..).trans ((shown_setOn _ _ _ _ (by decide) ((Stage.idx_lt t).trans (by decide))).trans ?_))
    refine (shown_each _ _ _ fun u c hc => shown_setOn u _ c _ (by decide) ((lt_of_mem_chans hc).trans (by decide))).trans ?_
    exact (shown_unlatchLegs ..).trans (shown_each _ _ _ fun u n hn => shown_endCommands u (lt_of_mem_legs hn))
  have hleft := still_leaveActive (still_releaseLatches hoff t) t
  exact still_ite (hleft.of_shown (shown_pStopNext _)) hleft

/-! ### The begin of a stop, and SAFE -/

theorem still_stopStart {a s : State} (h : StillShown a s) (t : Stage) : StillShown a (s.stopStart t) := by
  cases t
  case T1 | T2 | X1 | X2 => exact h.of_shown (shown_rampThenOff ..)
  case L =>
    refine still_ite (still_toStopped h ..) (h.of_shown ((shown_regLeft ..).trans ?_))
    simp (disch := first | decide | omega) only [shown_setV, shown_setF, shown_openLoop, shown_burstLeft, shown_snapFrom]
  case P => exact h.of_shown (shown_setV _ _ _ _ (by decide) (by decide))
  case D =>
    have hwait := h.of_shown (shown_openLoop s .stopSeq Stage.D.idx (ms 10))
    exact still_ite hwait (hwait.of_shown (shown_setV_idx _ _ .D _ (by decide)))

theorem still_beginStop1 {a s : State} (h : StillShown a s) (t : Stage) (code reaction : Nat) :
    StillShown a (s.beginStop1 t code reaction) := by
  have hsequence (c : StageCtl) : StillShown a ((((((s.protectStage t).setStg t c).setV .stopCode t.idx code).setV
      .stopReaction t.idx reaction).abortBrakeTest t).stopStart t) := by
    refine still_stopStart (h.of_shown ((shown_abortBrakeTest ..).trans ?_)) t
    simp (disch := decide) only [shown_setV_idx, shown_setStg, shown_protectStage]
  unfold State.beginStop1
  dsimp only
  split
  · exact still_toStopped (h.of_shown (shown_protectStage ..)) ..
  · exact still_ite h (hsequence _)
  · exact still_ite h (hsequence _)
  · exact h

theorem still_beginStop {a s : State} (h : StillShown a s) (t : Stage) (code reaction : Nat) : StillShown a (s.beginStop t code reaction) := by
  have hfirst := still_beginStop1 h t code reaction
  have hD : StillShown a (if ((s.beginStop1 t code reaction).st .D).isRunning then (s.beginStop1 t code reaction).beginStop1 .D 0 0
      else s.beginStop1 t code reaction) := still_ite (still_beginStop1 hfirst ..) hfirst
  have hnext := hD.of_shown (shown_pStopNext _)
  exact still_ite (still_ite (hnext.of_shown (shown_setV _ .stopForceAt 3 _ (by decide) (by decide))) hnext) hfirst

theorem still_toSafe {a s : State} (h : StillShown a s) (t : Stage) (asc : Bool) (code reaction : Nat) :
    StillShown a (s.toSafe t asc code reaction) := by
  have hout (k : Nat) : StillShown a (s.setRank t k) := h.of_shown (shown_setRank ..)
  have hsafe {u : State} (hu : StillShown a u) : StillShown a (((u.enter t .safe code reaction).slotsManual t).leaveActive t) :=
    still_leaveActive (hu.of_shown ((shown_slotsManual ..).trans (shown_enter ..))) t
  unfold State.toSafe
  refine still_ite (still_ite (hout _) (still_ite ((hout _).of_shown (shown_outputAsc ..)) ((hout _).of_shown (shown_outputOff ..)))) (hsafe ?_)
  exact still_ite (hout _) (still_ite ((hout _).of_shown (shown_outputAsc ..)) ((hout _).of_shown (shown_outputOff ..)))

theorem still_moduleSafe {a s : State} (h : StillShown a s) (code reaction : Nat) : StillShown a (s.moduleSafe code reaction) := by
  have hmodule := h.of_shown (shown_moduleToSafe s code)
  exact still_ite (still_each hmodule _ _ fun _ hu t _ => still_toSafe hu ..) hmodule

/-! ### Reactions -/

theorem still_react {a s : State} (h : StillShown a s) (t : Stage) (reaction code inst : Nat) (momentary : Bool) :
    StillShown a (s.react t reaction code inst momentary) := by
  refine still_ite ?_ (still_ite ?_ (still_ite (still_beginStop h ..) (still_ite ?_ (still_ite ?_ (still_ite ?_ (still_ite ?_ h))))))
  · refine still_each (h.of_shown (shown_derate ..)) _ _ fun u hu k hk => still_ite (hu.of_shown (shown_abortTest u ?_)) hu
    fin_cases hk <;> decide
  · exact h.of_shown (shown_holdBy ..)
  · exact still_latchStages (still_toSafe h ..) ..
  · exact still_latchStages (still_toSafe h ..) ..
  · exact still_latchStages (still_each h _ _ fun _ hu t _ => still_toSafe hu ..) ..
  · have hsafe := still_moduleSafe h code 7
    exact still_ite (still_latchStages hsafe ..) hsafe

theorem still_carryOut {a s : State} (h : StillShown a s) (t : Stage) (reaction code inst : Nat) (momentary : Bool) :
    StillShown a (s.carryOut t reaction code inst momentary) :=
  still_ite h (still_react (h.of_shown ((shown_setRank ..).trans (shown_overtake ..))) ..)

theorem still_spBack {a s : State} (h : StillShown a s) (n : Nat) : StillShown a (s.spBack n) := by
  refine still_ite (still_noteEnds (h.of_shown ((shown_noteAt _ _ _ _ _ (by decide)).trans ?_)) n (by decide)) h
  exact shown_setFb _ _ _ _ _ (by decide) (by decide)

theorem still_spSourceBack {a s : State} (h : StillShown a s) (t : Stage) : StillShown a (s.spSourceBack t) :=
  still_each h _ _ fun _ hu n _ => still_ite (still_spBack hu n) hu

theorem still_tryRestore {a s : State} (h : StillShown a s) (t : Stage) : StillShown a (s.tryRestore t) := by
  have hrun := still_spSourceBack (h.of_shown (shown_enter s t .running 0 0)) t
  exact still_ite (still_ite (still_beginStop hrun ..) hrun) h

theorem still_settle1 {a s : State} (h : StillShown a s) : StillShown a s.settle1 :=
  StillShown.of_shown (still_each h _ _ fun _ hu t _ => still_ite (still_tryRestore (hu.of_shown (shown_setStg ..)) t) hu) (shown_dropDerates _)

theorem still_settleN {a s : State} (h : StillShown a s) (n : Nat) : StillShown a (State.settleN n s) := by
  induction n generalizing s with
  | zero => exact h
  | succ n ih =>
    unfold State.settleN
    exact still_ite (still_settle1 h) (ih (still_settle1 h))

theorem still_settle {a s : State} (h : StillShown a s) : StillShown a s.settle := still_settleN h 7

theorem still_clearCause {a s : State} (h : StillShown a s) {code : Nat} (inst : Nat) (hc : code ≠ Ev.KEY_CHANGED) :
    StillShown a (s.clearCause code inst) :=
  still_ite (still_settle (still_noteEnds h inst hc)) h

theorem still_carryAll {a s : State} (h : StillShown a s) (fs : List FaultEvt) : StillShown a (s.carryAll fs) := by
  refine still_settle (still_each (still_each h _ _ fun u hu t _ => ?_) _ _ fun _ hu _ _ => still_carryOut hu ..)
  split
  · exact still_carryOut hu ..
  · exact hu

/-- The state with a fault's reports made and its outputs compared, before its entry among the causes. -/
def faultReported (s : State) (f : FaultEvt) : State :=
  ((s.reportAll [f]).each [f] fun s _ => s.protect .area 0).each [f] fun s f => s.each (match Stage.ofNat? f.src with
    | some t => [t]
    | none => f.stages) State.trigBuffers

theorem shown_faultReported (s : State) {f : FaultEvt} (hf : f.code < 65536) : (s.faultReported f).shown = s.shown :=
  (shown_each _ _ _ fun _ _ _ => shown_each _ _ _ fun u t _ => shown_trigBuffers u t).trans
    ((shown_each _ _ _ fun u _ _ => shown_protect u ..).trans (shown_reportAll s fun _ hg => List.mem_singleton.1 hg ▸ hf))

/-- What a fault adds to its entry beside its presence: the latches and the next start. -/
def faultLatched (s : State) (f : FaultEvt) : State :=
  (s.when f.latched fun s => s.latchStages f.code f.inst f.stages).when f.nextStart fun s =>
    s.updCause f.code f.inst fun c => { c with nextStart := true }

theorem still_faultLatched {a s : State} (h : StillShown a s) (f : FaultEvt) : StillShown a (s.faultLatched f) :=
  still_when (still_when h _ _ fun _ hu => still_latchStages hu ..) _ _ fun _ hu =>
    still_updCause hu f.inst fun _ _ => ⟨rfl, rfl, fun _ hp => hp⟩

/-- A fault, from the state that has the presence of its cause noted. -/
theorem still_raise_of_present {a s : State} {f : FaultEvt} (h : StillShown a ((s.faultReported f).when
    (f.lasting || f.transient || f.reaction == 2) fun s => s.setCause f.code f.inst (!f.lasting))) : StillShown a (s.raise f) := by
  have hlatched := still_faultLatched h f
  exact still_ite (still_carryAll (hlatched.of_shown shown_parts) _) (still_carryAll hlatched _)

theorem still_raise {a s : State} (h : StillShown a s) {f : FaultEvt} (hf : f.code < 65536) : StillShown a (s.raise f) :=
  still_raise_of_present (still_when (h.of_shown (shown_faultReported s hf)) _ _ fun _ hu => still_setCause hu ..)

/-! ### A key check that finds a difference -/

theorem keyMarked_setCause (s : State) (b : Bool) : (s.setCause Ev.KEY_CHANGED 0 b).keyMarked := by
  have hentry : isKeyEntry ((s.causes.find? isKeyEntry).getD
      { code := Ev.KEY_CHANGED, inst := 0, present := false, transient := false, stages := [], nextStart := false }) = true := by
    cases hc : s.causes.find? isKeyEntry with
    | none => rfl
    | some c => exact List.find?_some hc
  exact ⟨_, find?_entered (c := { (s.causes.find? isKeyEntry).getD
      { code := Ev.KEY_CHANGED, inst := 0, present := false, transient := false, stages := [], nextStart := false } with
        present := true, transient := b }) hentry, rfl⟩

/-- The fault of a key that differs from that of the start (R98). -/
def keyFault (s : State) : FaultEvt :=
  { code := Ev.KEY_CHANGED, reaction := s.f Reg.START_KEY_CHECK_REACTION, stages := Stage.all, lasting := true, nextStart := true }

theorem raise_keyFault (s u : State) : (s.raise u.keyFault).shows = s.shows ∧ (s.raise u.keyFault).keyMarked := by
  have hreported := shown_faultReported s (f := u.keyFault) (show Ev.KEY_CHANGED < 65536 by decide)
  have hraised : StillShown ((s.faultReported u.keyFault).setCause Ev.KEY_CHANGED 0 false) (s.raise u.keyFault) :=
    still_raise_of_present (f := u.keyFault) (StillShown.refl _)
  have hentered : ((s.faultReported u.keyFault).setCause Ev.KEY_CHANGED 0 false).shows = (s.faultReported u.keyFault).shows := rfl
  exact ⟨hraised.shows.trans (hentered.trans (shows_of_shown hreported)), hraised.marked (keyMarked_setCause ..)⟩

/-- The state in which a check of the key is evaluated, with the next window open. -/
def keyCheckDue (s : State) : State := (s.expired .keyCheck).openSlow .keyCheck 0 (sec ((s.expired .keyCheck).f Reg.START_KEY_CHECK_PERIOD))

theorem exec_keyCheckPeriod {s : State} {found : Option (Nat × List Byte)} (ho : s.isOpen .keyCheck = true) :
    exec (.keyCheckPeriod found) s = Machine.done (if (5 ≤ s.keyCheckDue.module.code) && !s.keyCheckDue.keyBusy && s.keyCheckDue.keyDiffers found
      then s.keyCheckDue.keyChanged else s.keyCheckDue) :=
  congrArg Machine.done (expire_of_isOpen ho _)

/-- A first difference is shown and raised (R98). -/
theorem completes_keyCheckDiffers {s : State} {found : Option (Nat × List Byte)} (hd : s.keyDiffers found = true) (ho : s.isOpen .keyCheck = true)
    (hm : 5 ≤ s.module.code) (hb : s.keyBusy = false) (hfirst : s.fb Reg.START_KEY_STATUS_KEY_CHANGED = false) :
    Completes (.keyCheckPeriod found) s fun u => u.fb Reg.START_KEY_STATUS_KEY_CHANGED = true ∧ u.present Ev.KEY_CHANGED = true := by
  refine completes_of_done (exec_keyCheckPeriod ho) ?_
  have hmodule : s.keyCheckDue.module = s.module := rfl
  have hbusy : s.keyCheckDue.keyBusy = false := hb
  have hdiffers : s.keyCheckDue.keyDiffers found = true := hd
  have hshown : ¬ s.keyCheckDue.fb Reg.START_KEY_STATUS_KEY_CHANGED = true := by
    rw [show s.keyCheckDue.fb Reg.START_KEY_STATUS_KEY_CHANGED = s.fb Reg.START_KEY_STATUS_KEY_CHANGED from rfl, hfirst]
    exact Bool.false_ne_true
  have hraise := raise_keyFault (s.keyCheckDue.setFb Reg.START_KEY_STATUS_KEY_CHANGED 0 true) s.keyCheckDue
  rw [if_pos (by rw [hmodule, hbusy, hdiffers]; simpa using hm), State.keyChanged, if_neg hshown, fb_synced, present_synced]
  exact ⟨(keyChanged_of_shows hraise.1).trans (fb_setFb_same _ true (by decide) (by decide)), present_of_keyMarked hraise.2⟩

end Sys2Proof.Machine.State
end

-- ==== The application of the image ====
section
/-!
The units that begin with the image's parameters leave what a start shows (`still_unitsBegin`), and the tests of step 8 leave it but for
the step; so the step that applies an image ends with the image shown.
-/

namespace Sys2Proof.Machine.State
open Sys2Proof Sys2Proof.Machine

/-! ### The feedback of a start -/

theorem still_refRises {a s : State} (h : StillShown a s) (n : Nat) : StillShown a (s.refRises n) :=
  still_clearCause (still_each (h.of_shown (shown_setFb _ _ _ _ _ (by decide) (by decide))) _ _ fun _ hu k _ =>
    still_clearCause hu k (by decide)) n (by decide)

theorem still_unblock {a s : State} (h : StillShown a s) (n : Nat) (pos : Int) : StillShown a (s.unblock n pos) :=
  still_ite (still_clearCause (h.of_shown (shown_setFb _ _ _ _ _ (by decide) (by decide))) n (by decide)) h

theorem still_brakeMoved {a s : State} (h : StillShown a s) (n : Nat) (pos : Int) : StillShown a (s.brakeMoved n pos) := by
  refine still_each h _ _ fun u hu k hk => ?_
  have hlt : k < 65536 := by fin_cases hk <;> decide
  have hback (b : Bool) : StillShown a (u.when b fun s => s.unabort k) := still_when hu _ _ fun w hw => hw.of_shown (shown_unabort w hlt)
  have hresult (b : Bool) (v : Int) := (hback b).of_shown (shown_setF _ Reg.SAFE_BRK_RESULT k v 0 (by decide) (by decide))
  refine still_ite (still_ite (hresult ..) (still_raise ?_ (show Ev.BRAKE_TEST_FAILED < 65536 by decide))) (hback _)
  exact (hresult _ _).of_shown ((shown_addF _ _ _ _ _ (by decide) (by decide)).trans ((shown_setFb _ _ _ _ _ (by decide) (by decide)).trans
    ((shown_brakeZero _ hlt).trans ((shown_close ..).trans ((shown_setFb _ _ _ _ _ (by decide) (by decide)).trans
      (shown_setF _ _ _ _ _ (by decide) (by decide)))))))

theorem still_moved {a s : State} (h : StillShown a s) (n : Nat) (p p' : Int) (at' : Nat) : StillShown a (s.moved n p p' at') := by
  refine still_ite h (still_brakeMoved (still_each h _ _ fun u hu k hk => still_unblock (hu.of_shown ?_) k p') n p')
  have hlt : k < 65536 := by
    have hmem := List.mem_of_mem_filter hk
    fin_cases hmem <;> decide
  exact shown_each _ _ _ fun w c _ => shown_cmpCross w c p p' at' hlt

theorem still_fbPosition {a s : State} (h : StillShown a s) {code : Nat} (n d1 : Nat) (lasting : Bool) (hc : code < 65536) :
    StillShown a (s.fbPosition code n d1 lasting) :=
  still_raise h hc

theorem still_hallChange {a s : State} (h : StillShown a s) {n : Nat} (c code : Nat) (hn : n < 8) : StillShown a (s.hallChange n c code) := by
  have hread : StillShown a ((s.setF Reg.FB_STATUS_HALL_CODE n code).setF Reg.FB_STATUS_SECTOR n (s.hallSector n code)) :=
    h.of_shown ((shown_setF _ _ _ _ _ (by decide) (by decide)).trans (shown_setF _ _ _ _ _ (by decide) (by decide)))
  have hhall (v : Int) := (still_refRises hread n).of_shown (shown_setV _ .fbHall n v (by decide) (by omega))
  have hup (v : Int) (b : Bool) := (hhall v).of_shown (shown_setOn _ .fbHallUp n b (by decide) (by omega))
  have hmoved (v : Int) (b : Bool) (d p p' : Int) (at' : Nat) := still_moved
    (((hup v b).of_shown (shown_fbMove _ c d hn)).of_shown ((shown_fbDir _ c true hn).trans (shown_winFirst _ c hn))) n p p' at'
  refine still_ite hread (still_ite (hhall _) (still_ite (still_fbPosition ?_ _ _ _ (by decide)) ?_))
  · exact StillShown.of_shown (still_ite (hup _ _) (hmoved ..)) (shown_addF _ _ _ _ _ (by decide) (by decide))
  · exact still_ite (hup _ _) (hmoved ..)

theorem still_hallCycle {a s : State} (h : StillShown a s) {n : Nat} (c : Nat) (hn : n < 8) : StillShown a (s.hallCycle n c) := by
  have hchange := still_ite (c := s.vn .fbLevels n % 8 = s.f Reg.FB_STATUS_HALL_CODE n
    && s.f Reg.FB_STATUS_SECTOR n = s.hallSector n (s.vn .fbLevels n % 8)) h (still_hallChange h c (s.vn .fbLevels n % 8) hn)
  refine still_ite (hchange.of_shown ((shown_filterFrom ..).trans (shown_lapseAt ..))) (still_ite ?_ ?_)
  · exact hchange.of_shown ((shown_filterFrom ..).trans (shown_lapseAt ..))
  · exact hchange.of_shown (shown_lapseAt ..)

theorem still_fbStart {a s : State} (h : StillShown a s) : StillShown a s.fbStart := by
  refine still_each h _ _ fun u hu n hmem => still_ite hu ?_
  have hn := List.mem_range.1 hmem
  refine StillShown.of_shown ?_ (shown_fbValid ..)
  refine still_when (still_when (still_when (still_when ?_ _ _ fun w hw => ?_) _ _ fun w hw => still_hallCycle hw _ hn) _ _ fun w hw =>
    hw.of_shown (shown_excStart w hn)) _ _ fun w hw => hw.of_shown (shown_openSlow ..)
  · refine hu.of_shown ((shown_setF _ _ _ _ _ (by decide) (by decide)).trans ((shown_setFb _ _ _ _ _ (by decide) (by decide)).trans ?_))
    refine (shown_setV _ _ _ _ (by decide) (by omega)).trans ((shown_setOn _ _ _ _ (by decide) (by omega)).trans ?_)
    refine (shown_each _ _ _ fun _ _ _ => shown_ite_of (shown_filterFrom ..) rfl).trans ?_
    exact (shown_setOn _ _ _ _ (by decide) (by omega)).trans ((shown_setV _ _ _ _ (by decide) (by omega)).trans shown_parts)
  · exact hw.of_shown ((shown_setDue ..).trans (shown_setV _ _ _ _ (by decide) (by omega)))

/-! ### The fabric of a start -/

theorem still_portOff {a s : State} (h : StillShown a s) {p : Nat} (hp : p < 65536) : StillShown a (s.portOff p) := by
  have hloop := still_noteEnds (code := Ev.LOOPBACK) (h.of_shown ((shown_setFb _ Reg.FAB_PORT_STATUS_LOOPBACK p false 0 (by decide)
    (by decide)).trans (shown_portClear s hp))) p (by decide)
  exact still_noteEnds (code := Ev.PORT_BLOCKED) (hloop.of_shown ((shown_close ..).trans (shown_setPort ..))) p (by decide)

theorem still_latencyCheck {a s : State} (h : StillShown a s) : StillShown a s.latencyCheck := by
  have hshow (x y z : Int) : StillShown a (((s.setF Reg.FAB_LATENCY 0 x).setF Reg.FAB_LATENCY 1 y).setF Reg.FAB_LATENCY 2 z) := by
    refine h.of_shown ?_
    simp (disch := decide) only [shown_setF]
  have hok (x y z : Int) (b : Bool) := (hshow x y z).of_shown (shown_setFb _ Reg.FAB_CYCLE_STATUS_LAT_OK 0 b 0 (by decide) (by decide))
  refine still_ite (still_ite ?_ (hok ..)) (still_raise (hok ..) (show Ev.LATENCY_UNMET < 65536 by decide))
  exact (still_clearCause (hok ..) 0 (by decide)).of_shown (shown_note _ _ _ _ (by decide))

theorem still_fabApply {a s : State} (h : StillShown a s) : StillShown a s.fabApply := by
  have hports : StillShown a ((s.setFb Reg.FAB_STATUS_TRANSIT 0 false).each ((List.range 4).filter fun p =>
      !(s.setFb Reg.FAB_STATUS_TRANSIT 0 false).fb Reg.FAB_PORT_CFG_ENABLE p) State.portOff) :=
    still_each (h.of_shown (shown_setFb _ _ _ _ _ (by decide) (by decide))) _ _ fun _ hu p hp =>
      still_portOff hu ((List.mem_range.1 (List.mem_of_mem_filter hp)).trans (by decide))
  have hcycle (len : Int) (e : Option Nat) (k : Nat) := hports.of_shown ((shown_openSlow _ .pdelay 0 k).trans ((shown_setDue _ .cycle 0 e).trans
    ((shown_setOn _ .cycleZero 0 true (by decide) (by decide)).trans (shown_setF _ Reg.FAB_CYCLE_LEN_NOW 0 len 0 (by decide) (by decide)))))
  exact still_latencyCheck (still_ite (hcycle ..) ((hcycle ..).of_shown (shown_openSlow ..)))

/-! ### The units -/

theorem still_unitsBegin (s : State) : StillShown s s.unitsBegin := by
  have hfeedback : StillShown s s.slotTimers.fbStart.chgBegin.budgetShow :=
    (still_fbStart ((StillShown.refl s).of_shown (shown_slotTimers s))).of_shown ((shown_budgetShow _).trans (shown_chgBegin _))
  have hcan : StillShown s (s.slotTimers.fbStart.chgBegin.budgetShow.each [0, 1, 2, 3] State.canApply) := by
    refine hfeedback.of_shown (shown_each _ _ _ fun u ch hch => shown_canApply u ?_)
    fin_cases hch <;> decide
  have hfabric := still_fabApply (StillShown.of_shown hcan ((shown_fillCheck _).trans
    (shown_each _ [0, 1] State.brakeDueWindow fun u k _ => shown_brakeDueWindow u k)))
  refine hfabric.of_shown ((shown_openSlow ..).trans ((shown_each _ _ _ fun u c hc => ?_).trans (shown_each _ _ _ fun u i hi => ?_)))
  · have hlt : c < 4 := by fin_cases hc <;> decide
    exact (shown_when _ _ _ fun w => shown_seqStart w 0 _ (by omega)).trans (shown_rotationBegin u hlt)
  · exact shown_setV _ _ _ _ (by decide) ((List.mem_range.1 hi).trans (by decide))

/-! ### What START shows of the image -/

theorem ofLe_lt (l : List Byte) : Machine.ofLe l < 256 ^ l.length := by
  induction l with
  | nil => decide
  | cons b l ih =>
    have hb : b.toNat < 256 := b.isLt
    have hcons : Machine.ofLe (b :: l) = b.toNat + 256 * Machine.ofLe l := rfl
    rw [hcons, List.length_cons, pow_succ]
    omega

theorem numAt_lt (l : List Byte) (o k : Nat) : numAt l o k < 256 ^ k :=
  (ofLe_lt _).trans_le (Nat.pow_le_pow_right (by decide) (List.length_take_le ..))

theorem applyImage_shows (s : State) : s.applyImage.on .imageApplied = true ∧ s.applyImage.f Reg.START_IMAGE_GEN = hdrGeneration s.header
    ∧ s.applyImage.f Reg.START_IMAGE_CRC = hdrCrc s.header := by
  have hgen : hdrGeneration s.header < 2 ^ 32 := numAt_lt s.header 8 4
  have hcrc : hdrCrc s.header < 2 ^ 32 := numAt_lt s.header 0x1FC 4
  have hlast (u : State) (v w x : Int) (f : Fld) (hf : f.lo ≤ f.hi) (h1 : clearOf f 0 0 (one Reg.START_MACHINE_TYPE) = true)
      (h2 : clearOf f 0 0 (one Reg.CORE_STATUS_V_MODE) = true) (h3 : clearOf f 0 0 (one Reg.START_PENDING_GEN) = true) :
      ((((u.setF Reg.START_MACHINE_TYPE 0 v).setF Reg.CORE_STATUS_V_MODE 0 w).setOn .imageApplied 0 true).setF Reg.START_PENDING_GEN 0 x).f f 0
        = u.f f 0 := by
    rw [f_setF_of_clear _ x (by decide) hf h3, State.setOn, State.f_setV, f_setF_of_clear _ w (by decide) hf h2,
      f_setF_of_clear _ v (by decide) hf h1]
  unfold State.applyImage State.pendingSync
  refine ⟨?_, ?_, ?_⟩
  · rw [on_eq, State.v_setF, State.setOn, State.v_setV_same]
    rfl
  · refine (hlast _ _ _ _ _ (by decide) (by decide) (by decide) (by decide)).trans ?_
    rw [f_setF_of_clear _ _ (by decide) (by decide) (by decide), f_setF_of_clear _ _ (by decide) (by decide) (by decide)]
    exact f_setF_of_lt _ (by decide) (by decide) hgen
  · exact (hlast _ _ _ _ _ (by decide) (by decide) (by decide) (by decide)).trans (f_setF_of_lt _ (by decide) (by decide) hcrc)

/-! ### The tests of step 8 -/

/-- The words up to that of FO.STATUS stand. -/
def KeepsLow (s u : State) : Prop := ∀ k ≤ 0x100000, u.word k = s.word k

theorem KeepsLow.trans {s u w : State} (h : KeepsLow s u) (h' : KeepsLow u w) : KeepsLow s w := fun k hk => (h' k hk).trans (h k hk)

theorem keepsLow_setF (s : State) {f : Fld} (n : Nat) (v : Int) (j : Nat) (hf : 0x100000 < f.base) : KeepsLow s (s.setF f n v j) :=
  fun k hk => State.word_setWord_ne s _ (by rw [Fld.key]; omega)

theorem keepsLow_each {α : Type} (s : State) (l : List α) (k : State → α → State) (hk : ∀ s x, KeepsLow s (k s x)) : KeepsLow s (s.each l k) :=
  State.each_rel KeepsLow (fun _ _ _ => rfl) (fun _ _ _ h h' => h.trans h') l k (fun s x _ => hk s x) s

theorem keepsLow_ite {c : Prop} [Decidable c] {s u w : State} (hu : KeepsLow s u) (hw : KeepsLow s w) : KeepsLow s (if c then u else w) := by
  split <;> assumption

theorem keepsLow_turnOff (s : State) (c : Nat) : KeepsLow s (s.turnOff c) := by
  have hoff (u : State) (d : Nat) (hu : KeepsLow s u) : KeepsLow s ((u.setFb Reg.CH_STATUS_SOFT_OFF c true).addF Reg.CH_COUNTERS c d 5) :=
    hu.trans ((keepsLow_setF u c _ 0 (by decide)).trans (keepsLow_setF _ c _ 5 (by decide)))
  exact keepsLow_ite (keepsLow_ite (hoff _ 1 fun _ _ => rfl) fun _ _ => rfl) fun _ _ => rfl

theorem keepsLow_enableSync (s : State) (g : Nat) : KeepsLow s (s.enableSync g) := by
  refine keepsLow_ite ?_ (keepsLow_ite ?_ fun _ _ => rfl)
  · exact (keepsLow_setF s 0 _ 0 (by decide)).trans (keepsLow_each _ _ _ fun u t => keepsLow_each _ _ _ fun w c =>
      keepsLow_setF w c _ 0 (by decide))
  · exact (keepsLow_setF s 0 _ 0 (by decide)).trans (keepsLow_each _ _ _ fun u t => keepsLow_each _ _ _ fun w c =>
      (keepsLow_turnOff w c).trans (keepsLow_setF _ c _ 0 (by decide)))

theorem keepsLow_protect (s : State) (out : ProtOut) (old : Nat) : KeepsLow s (s.protect out old) := by
  unfold State.protect
  refine keepsLow_ite (fun _ _ => rfl) ?_
  exact fun k hk => keepsLow_setF _ 0 _ 0 (by decide) k hk

theorem keepsLow_stoTestStart (s : State) (g : Nat) : KeepsLow s (s.stoTestStart g) := by
  have hcount (v : Int) : KeepsLow s ((s.setV .stoTest g v).addF Reg.SAFE_COUNTERS 2) := fun k hk => keepsLow_setF _ 2 _ 0 (by decide) k hk
  have hsafe (u : State) : KeepsLow u (u.writeEnSw g false) :=
    KeepsLow.trans (keepsLow_protect u _ _) ((keepsLow_setF (f := Reg.SAFE_STATUS_EN_SW) _ 0 _ 0 (by decide)).trans (keepsLow_enableSync _ g))
  exact (hcount _).trans (hsafe _)

theorem keepsLow_supplyOn (s : State) (g : Nat) : KeepsLow s (s.supplyOn g) := by
  unfold State.supplyOn
  split
  · exact fun _ _ => rfl
  · exact fun k hk => keepsLow_each s _ _ (fun u c => keepsLow_setF u c _ 0 (by decide)) k hk

theorem shown_stoTestStart (s : State) {g : Nat} (hg : g < 65536) : (s.stoTestStart g).shown = s.shown := by
  refine (shown_enableSync ..).trans ((shown_setF _ _ _ _ _ (by decide) (by decide)).trans ((shown_protect ..).trans ?_))
  exact (shown_addF _ _ _ _ _ (by decide) (by decide)).trans (shown_setV _ _ _ _ (by decide) hg)

theorem shown_setEng (s : State) (e v : Nat) : (s.setEng e v).shown = s.shown := by
  have hset : (if e = 0 then s.setF Reg.FO_STATUS_STATE_A 0 v else s.setF Reg.FO_STATUS_STATE_B 0 v).shown = s.shown :=
    shown_ite_of (shown_setF _ _ _ _ _ (by decide) (by decide)) (shown_setF _ _ _ _ _ (by decide) (by decide))
  exact shown_ite_of hset ((shown_setFb _ _ _ _ _ (by decide) (by decide)).trans hset)

theorem v_supplyOn (s : State) (g : Nat) {x : Var} (hx : x.ctorIdx ≠ Var.supplyDone.ctorIdx) (hx' : x.ctorIdx ≠ Var.supplyGroup.ctorIdx) :
    (s.supplyOn g).v x = s.v x := by
  unfold State.supplyOn
  split
  · exact v_setV_of_ctor s _ hx (by decide) (by decide)
  · exact (v_setV_of_ctor _ _ hx' (by decide) (by decide)).trans (each_rel (fun s u => u.v x = s.v x) (fun _ => rfl)
      (fun _ _ _ h h' => h'.trans h) _ _ (fun u c _ => State.v_setF u _ c _ 0 x 0) s)

/-- Both engines are in their self-test. -/
def engTested (s : State) : State :=
  s.each [0, 1] fun s e => ((s.setEng e 2).setV .testRes e 0).openBy Clk.pulse .selfTest e (ms 20)

theorem shown_engTested (s : State) : s.engTested.shown = s.shown := by
  refine shown_each _ _ _ fun u e he => ?_
  have hlt : e < 65536 := by fin_cases he <;> decide
  exact (shown_openBy ..).trans ((shown_setV _ _ _ _ (by decide) hlt).trans (shown_setEng ..))

theorem f_engTested (s : State) : s.engTested.f Reg.FO_STATUS_STATE_A = 2 ∧ s.engTested.f Reg.FO_STATUS_STATE_B = 2 := by
  have hregs : s.engTested.regs = ((((s.setF Reg.FO_STATUS_STATE_A 0 2).setFb Reg.FO_STATUS_DEGRADED 0 true).setF Reg.FO_STATUS_STATE_B 0 2).setFb
      Reg.FO_STATUS_DEGRADED 0 true).regs := rfl
  rw [f_congr hregs, f_congr hregs, State.setFb, State.setFb]
  constructor
  · rw [f_setF_of_clear _ _ (by decide) (by decide) (by decide), f_setF_of_clear _ _ (by decide) (by decide) (by decide),
      f_setF_of_clear _ _ (by decide) (by decide) (by decide)]
    exact f_setF_of_lt s (v := 2) (by decide) (by decide) (by decide)
  · rw [f_setF_of_clear _ _ (by decide) (by decide) (by decide)]
    exact f_setF_of_lt _ (v := 2) (by decide) (by decide) (by decide)

/-- The state in which the tests of step 8 run, before the first supplies. -/
def testsRun (s : State) : State := (s.engTested.each (List.range 4) State.stoTestStart).setV .startStep 0 8

theorem testsBegin_shows (s : State) : s.testsBegin.v .startStep = 8 ∧ s.testsBegin.v .imageApplied = s.v .imageApplied
    ∧ s.testsBegin.f Reg.START_IMAGE_GEN = s.f Reg.START_IMAGE_GEN ∧ s.testsBegin.f Reg.START_IMAGE_CRC = s.f Reg.START_IMAGE_CRC
    ∧ s.testsBegin.f Reg.FO_STATUS_STATE_A = 2 ∧ s.testsBegin.f Reg.FO_STATUS_STATE_B = 2 := by
  have hbegin : s.testsBegin = s.testsRun.supplyOn 0 := rfl
  have hshown : (s.engTested.each (List.range 4) State.stoTestStart).shows = s.shows := shows_of_shown
    ((shown_each _ _ _ fun u g hg => shown_stoTestStart u ((List.mem_range.1 hg).trans (by decide))).trans (shown_engTested s))
  have hlow : KeepsLow s.engTested s.testsBegin := by
    rw [hbegin]
    exact KeepsLow.trans (fun k hk => keepsLow_each _ (List.range 4) _ (fun u g => keepsLow_stoTestStart u g) k hk) (keepsLow_supplyOn s.testsRun 0)
  have hf (f : Fld) (hkey : f.key 0 ≤ 0x100000) : s.testsBegin.f f = s.engTested.f f := by rw [State.f, State.f, hlow _ hkey]
  have himage : s.testsRun.v .imageApplied = s.v .imageApplied :=
    (v_setV_of_ctor _ _ (by decide) (by decide) (by decide)).trans (imageApplied_of_shows hshown)
  have hengs := shows_of_shown (shown_engTested s)
  refine ⟨?_, ?_, ?_, ?_, (hf _ (by decide)).trans (f_engTested s).1, (hf _ (by decide)).trans (f_engTested s).2⟩
  · rw [hbegin, v_supplyOn _ _ (by decide) (by decide), testsRun, State.v_setV_same]
  · rw [hbegin, v_supplyOn _ _ (by decide) (by decide), himage]
  · exact (hf _ (by decide)).trans (imageGen_of_shows hengs)
  · exact (hf _ (by decide)).trans (imageCrc_of_shows hengs)

theorem exec_imageApplied {s : State} (hm : s.module = .starting) (hs : s.vn .startStep = 7) (t : Nat) :
    exec (.imageApplied t) s = Machine.done (s.arrive t).applyImage.unitsBegin.testsBegin := by
  change Machine.done (if (s.module == .starting && s.vn .startStep == 7) = true then (s.arrive t).applyImage.unitsBegin.testsBegin else _) = _
  rw [if_pos (by rw [hm, hs]; rfl)]

theorem module_imageApplied {s : State} (hm : s.module = .starting) (t : Nat) :
    (s.arrive t).applyImage.unitsBegin.testsBegin.module = .starting := by
  have horderly : Orderly (s.arrive t) (s.arrive t).applyImage.unitsBegin.testsBegin :=
    orderly_testsBegin (orderly_unitsBegin ((Orderly.refl _).of_modes (modes_applyImage _)))
  exact (horderly.rests (by simp [serves, State.arrive, hm])).1.trans hm

/-- The image is applied, and step 8 begins (R82). -/
theorem completes_imageApplied {s : State} (hm : s.module = .starting) (hs : s.vn .startStep = 7) (t : Nat) :
    Completes (.imageApplied t) s fun u => u.module = .starting ∧ u.vn .startStep = 8 ∧ u.on .imageApplied = true
      ∧ u.f Reg.START_IMAGE_GEN = hdrGeneration s.header ∧ u.f Reg.START_IMAGE_CRC = hdrCrc s.header
      ∧ u.f Reg.FO_STATUS_STATE_A = 2 ∧ u.f Reg.FO_STATUS_STATE_B = 2 := by
  refine completes_of_done (exec_imageApplied hm hs t) ?_
  obtain ⟨hstep, himage, hgen, hcrc, hA, hB⟩ := testsBegin_shows (s.arrive t).applyImage.unitsBegin
  obtain ⟨himage', hgen', hcrc'⟩ := applyImage_shows (s.arrive t)
  have hunits := (still_unitsBegin (s.arrive t).applyImage).shows
  rw [module_synced, vn_synced _ (by decide) (by decide), on_synced _ (by decide) (by decide), f_synced, f_synced, f_synced, f_synced]
  refine ⟨module_imageApplied hm t, ?_, ?_, hgen.trans ((imageGen_of_shows hunits).trans hgen'),
    hcrc.trans ((imageCrc_of_shows hunits).trans hcrc'), hA, hB⟩
  · rw [vn_eq, hstep]
    rfl
  · rw [on_eq, himage, imageApplied_of_shows hunits]
    exact himage'

end Sys2Proof.Machine.State
end

-- ==== A host write and what a start shows ====
section
/-!
A host write leaves what a start shows (`still_hostWrite`): the words that show it have no field that a write may change.
-/

namespace Sys2Proof.Machine.State
open Sys2Proof Sys2Proof.Machine

/-! ### The words that a write may name -/

theorem inst_fst_lt {k n d : Nat} {x : Nat × Nat} (h : Map.inst k n d = some x) : x.1 < max n 1 := by
  unfold Map.inst at h
  split at h
  · rw [← Option.some.inj h]
    exact Nat.lt_of_lt_of_le Nat.zero_lt_one (Nat.le_max_right ..)
  · split at h
    · next hd =>
      rw [← Option.some.inj h]
      exact Nat.lt_of_lt_of_le hd (Nat.le_max_left ..)
    · cases h

theorem find_lt {w : WordDef} {key n j : Nat} (h : w.find key = some (n, j)) : n < max w.n 1 ∧ j < max w.j 1 := by
  unfold WordDef.find at h
  split at h
  · cases h
  · split at h
    · cases h
    · next hn =>
      split at h
      · next hj =>
        obtain ⟨rfl, rfl⟩ := Prod.mk.inj (Option.some.inj h)
        exact ⟨inst_fst_lt hn, inst_fst_lt hj⟩
      · cases h

/-- The numbers of a word family's instances, and of a setpoint's words. -/
def countsFit (w : WordDef) : Bool := Nat.ble w.n 65535 && (w.base != Reg.SLOT_SETPOINT.base || Nat.ble w.j 2)

theorem countsFit_of_mem_block {hi : Nat} {w : WordDef} (h : w ∈ Map.block hi) : countsFit w = true := by
  have hsmall : ∀ k < 32, (Map.block k).all countsFit = true := by decide +kernel
  by_cases hhi : hi < 32
  · exact List.all_eq_true.1 (hsmall hi hhi) w h
  · have hnil : Map.block hi = [] := by simp (disch := omega) only [Map.block, if_neg]
    rw [hnil] at h
    cases h

theorem lt_of_word {key n j : Nat} {w : WordDef} (hw : Map.word key = some w) (hfind : w.find key = some (n, j)) :
    n < 65536 ∧ (w.base = Reg.SLOT_SETPOINT.base → j < 2) := by
  have hfit := countsFit_of_mem_block (List.mem_of_find?_eq_some hw)
  simp only [countsFit, Bool.and_eq_true, Bool.or_eq_true, bne_iff_ne, Nat.ble_eq] at hfit
  obtain ⟨hn, hj⟩ := find_lt hfind
  exact ⟨by omega, fun hbase => by have := hfit.2.resolve_left (not_not.2 hbase); omega⟩

/-- A word family with a field that a host may write. -/
def isFree (w : WordDef) : Bool := w.flds.any fun f => f.acc != .ro && f.acc != .cfg

theorem isFree_of_wordBar {s : State} {c : WriteCtx} {w : WordDef} {n old v : Nat} (h : s.wordBar c w n old v = none) : isFree w = true := by
  by_contra hfree
  unfold State.wordBar at h
  rw [if_pos] at h
  · cases h
  · have hnot : isFree w = false := Bool.eq_false_of_not_eq_true hfree
    exact Bool.or_eq_true_iff.2 (.inl (by rw [Bool.not_eq_true']; exact hnot))

/-- No word that shows a start has a field to write. -/
theorem not_free_of_shows : ∀ key ∈ [0x010000, 0x010100, 0x010300, 0x110D00], (Map.word key).all (fun w => !isFree w) = true := by
  decide +kernel

theorem ne_of_free {key : Nat} {w : WordDef} (hw : Map.word key = some w) (hfree : isFree w = true) :
    key ≠ 0x010000 ∧ key ≠ 0x010100 ∧ key ≠ 0x010300 ∧ key ≠ 0x110D00 := by
  have hne (k : Nat) (hk : k ∈ [0x010000, 0x010100, 0x010300, 0x110D00]) : key ≠ k := by
    rintro rfl
    have hall := not_free_of_shows key hk
    rw [hw, Option.all_some, hfree] at hall
    cases hall
  exact ⟨hne _ (by simp), hne _ (by simp), hne _ (by simp), hne _ (by simp)⟩

/-! ### The operations of a write -/

@[simp] theorem shown_writeWindow (s : State) (who : Requester) (w sub : Nat) (v : Word) : (s.writeWindow who w sub v).2.shown = s.shown := by
  unfold State.writeWindow
  dsimp only
  (repeat' split) <;> simp only [shown_parts]

@[simp] theorem shown_spWindow (s : State) (n : Nat) : (s.spWindow n).shown = s.shown := shown_ite_of (shown_openSlow ..) rfl

@[simp] theorem shown_cmpTest (s : State) {a : Nat} (c n : Nat) (ha : a < 65536) : (s.cmpTest a c n).shown = s.shown := by
  have hcount : (s.addF Reg.ACT_COUNTERS a 1 7).shown = s.shown := shown_addF _ _ _ _ _ (by decide) (by decide)
  refine shown_ite_of (shown_ite_of ((shown_cmpFire _ _ _ _ ha).trans hcount) ?_) rfl
  refine (shown_when _ _ _ fun u => shown_noteAt u _ _ _ _ (by decide)).trans ?_
  exact (shown_setW1c _ _ _ _ _ (by decide) (beside_of_above (by decide) c)).trans
    ((shown_setFb _ _ _ _ _ (by decide) (beside_of_above (by decide) c)).trans hcount)

@[simp] theorem shown_cmpArm (s : State) {a : Nat} (c : Nat) (ha : a < 65536) : (s.cmpArm a c).shown = s.shown := by
  unfold State.cmpArm
  split
  · rfl
  · exact (shown_cmpTest _ c _ ha).trans ((shown_setFb _ _ _ _ _ (by decide) (beside_of_above (by decide) c)).trans
      (shown_setFb _ _ _ _ _ (by decide) (beside_of_above (by decide) c)))

@[simp] theorem shown_cmpDisarm (s : State) (a c : Nat) : (s.cmpDisarm a c).shown = s.shown :=
  (shown_setFb _ _ _ _ _ (by decide) (beside_of_above (by decide) c)).trans (shown_setFb _ _ _ _ _ (by decide) (beside_of_above (by decide) c))

theorem shown_writePeriod {s u : State} {t : Stage} {v : Nat} (hu : s.writePeriod t v = some u) : u.shown = s.shown := by
  obtain ⟨-, hu⟩ := Option.ite_none_right_eq_some.1 hu
  rw [← Option.some.inj hu, shown_budgetShow]
  exact shown_setF _ _ _ _ _ (by decide) (by decide)

@[simp] theorem shown_brakeCmd (s : State) (v : Nat) : (s.brakeCmd v).shown = s.shown := by
  refine (shown_brakeSync _).trans ((shown_each _ _ _ fun u k hk => ?_).trans (shown_setF _ _ _ _ _ (by decide) (by decide)))
  have hlt : k < 65536 := by fin_cases hk <;> decide
  exact shown_ite_of (shown_setOn _ _ _ _ (by decide) hlt) ((shown_setOn _ _ _ _ (by decide) hlt).trans (shown_brakeApply u hlt))

@[simp] theorem shown_closeRefused (s : State) : s.closeRefused.shown = s.shown :=
  (shown_note _ _ _ _ (by decide)).trans (shown_addF _ _ _ _ _ (by decide) (by decide))

@[simp] theorem shown_drivers (s : State) (v : Nat) : (s.drivers v).shown = s.shown := by
  have hon : ((s.protect .drivers (s.f Reg.SAFE_CON_STATUS_ON)).setF Reg.SAFE_CON_STATUS_ON 0 v).shown = s.shown :=
    (shown_setF _ _ _ _ _ (by decide) (by decide)).trans (shown_protect ..)
  have heach (k : State → Nat → State) (hk : ∀ u, ∀ n ∈ List.range 8, (k u n).shown = u.shown) := (shown_each _ _ k hk).trans hon
  have hfollow (u : State) (n : Nat) (hn : n ∈ List.range 8) (b : Prop) [Decidable b] (len : Nat) :
      (if b then ((u.openSlow .cfb n len).setV .cfbAt n 0).setV .cfbOk n 0 else u).shown = u.shown := by
    have hlt := List.mem_range.1 hn
    exact shown_ite_of ((shown_setV _ _ _ _ (by decide) (by omega)).trans ((shown_setV _ _ _ _ (by decide) (by omega)).trans
      (shown_openSlow ..))) rfl
  refine shown_ite_of (heach _ fun u n hn => hfollow u n hn _ _) ?_
  refine (shown_close ..).trans ((shown_close ..).trans ((shown_setFb _ _ _ _ _ (by decide) (by decide)).trans ?_))
  exact (shown_setFb _ _ _ _ _ (by decide) (by decide)).trans (heach _ fun u n hn => hfollow u n hn _ _)

@[simp] theorem shown_writeAck (s : State) (who : Option Requester) (ch v : Nat) : (s.writeAck who ch v).2.shown = s.shown := by
  unfold State.writeAck
  dsimp only
  (repeat' split) <;> simp only [shown_canSync, shown_parts]

@[simp] theorem shown_writeRequest (s : State) (v : Nat) : (s.writeRequest v).2.shown = s.shown := by
  unfold State.writeRequest
  (repeat' split) <;> simp (disch := decide) only [shown_setV]

theorem shown_writeLeg (s : State) (w : WordDef) (n : Nat) {key : Nat} (v : Word) (hkey : ∀ u : State, (u.setWord key v).shown = u.shown) :
    (s.writeLeg w n key v).2.shown = s.shown := by
  unfold State.writeLeg
  dsimp only
  (repeat' split) <;> simp (disch := decide) only [hkey, shown_recordTouched, shown_setDue, shown_setF, shown_setFb]

theorem still_preEval {a s : State} (h : StillShown a s) : StillShown a s.preEval := by
  refine still_ite (still_ite h (still_clearCause (h.of_shown ?_) 0 (by decide))) (still_ite (h.of_shown ?_) h)
  · simp (disch := decide) only [shown_setFb, shown_close]
  · exact shown_setFb _ _ _ _ _ (by decide) (by decide)

theorem still_preStart {a s : State} (h : StillShown a s) : StillShown a s.preStart := by
  have hclear := fun v len => still_clearCause (code := Ev.PRECHARGE_TIMEOUT) (h.of_shown ((shown_openSlow _ .pre 0 len).trans
    ((shown_setV _ .preAt 0 v (by decide) (by decide)).trans ((shown_setFb _ Reg.SAFE_CON_STATUS_PRE_OK 0 false 0 (by decide) (by decide)).trans
      (shown_setFb s Reg.SAFE_CON_STATUS_PRE_RUN 0 true 0 (by decide) (by decide)))))) 0 (by decide)
  exact still_preEval (still_ite ((hclear ..).of_shown (shown_note _ _ _ _ (by decide))) ((hclear ..).of_shown (shown_openSlow ..)))

theorem still_cdrCmd {a s : State} (h : StillShown a s) (v : Nat) : StillShown a (s.cdrCmd v) := by
  have hdrive := h.of_shown ((shown_drivers _ v).trans (shown_setF s Reg.SAFE_CDR_CMD 0 v 0 (by decide) (by decide)))
  exact still_ite (still_preStart hdrive) hdrive

theorem still_bufControl {a s : State} (h : StillShown a s) {k : Nat} (v : Nat) (hk : k < 65536) : StillShown a (s.bufControl k v) := by
  have hset (b : Bool) (x : Int) := h.of_shown ((shown_setFb _ Reg.SMP_BUF_CONTROL_FROZEN k b 0 (by decide) (by decide)).trans
    ((shown_setFb _ Reg.SMP_BUF_CONTROL_FREEZE k b 0 (by decide) (by decide)).trans
      (shown_setF s Reg.SMP_BUF_CONTROL_POST k x 0 (by decide) (by decide))))
  exact still_ite (hset ..) (still_clearCause ((hset _ _).of_shown ((shown_setV _ _ _ _ (by decide) hk).trans
    (shown_setOn _ _ _ _ (by decide) hk))) k (by decide))

theorem still_spApplied {a s : State} (h : StillShown a s) (n : Nat) : StillShown a (s.spApplied n) := by
  have hnew : StillShown a (match s.actOf n with
      | some a => s.setOn .actNew a true
      | none => s) := by
    split
    · next k hk =>
      have hmem := List.mem_of_find?_eq_some hk
      exact h.of_shown (shown_setOn _ _ _ _ (by decide) (by fin_cases hmem <;> decide))
    · exact h
  have hwindow := fun b : Bool => still_ite (c := b = true) hnew (hnew.of_shown (shown_spWindow _ n))
  exact still_ite (still_settle (still_spBack (hwindow _) n)) (hwindow _)

theorem still_ite_snd {α : Type} {c : Prop} [Decidable c] {a : State} {x y : α × State} (hx : StillShown a x.2) (hy : StillShown a y.2) :
    StillShown a (if c then x else y).2 := by
  split <;> assumption

theorem still_dite_snd {α : Type} {c : Prop} [Decidable c] {a : State} {x y : α × State} (hx : c → StillShown a x.2)
    (hy : ¬ c → StillShown a y.2) : StillShown a (if c then x else y).2 := by
  split
  · exact hx ‹_›
  · exact hy ‹_›

theorem still_writeSetpoint {a s : State} (h : StillShown a s) (n : Nat) {j : Nat} (v : Word) (hj : j < 2) :
    StillShown a (s.writeSetpoint n j v).2 := by
  have hset (k : Nat) (hk : k < 2) : StillShown a (s.setF Reg.SLOT_SETPOINT n v.toNat k) := by
    refine h.of_shown (shown_setF _ _ _ _ _ (by decide) ?_)
    interval_cases k <;> decide
  unfold State.writeSetpoint
  refine still_ite_snd h (still_ite_snd (hset j hj) ?_)
  split
  · exact h.of_shown ((shown_noteAt _ _ _ _ _ (by decide)).trans (shown_addF _ _ _ _ _ (by decide) (by decide)))
  · exact still_spApplied (hset 0 (by decide)) n

/-- A write that no bar stops. -/
theorem still_applyWord {a s : State} (h : StillShown a s) (c : WriteCtx) {w : WordDef} {n j key : Nat} (v : Word)
    (hn : n < 65536) (hj : w.base = Reg.SLOT_SETPOINT.base → j < 2) (hkey : ∀ (u : State) (x : Word), (u.setWord key x).shown = u.shown) :
    StillShown a (s.applyWord c w n j key v).2 := by
  have hput (x : Nat) : StillShown a (s.putWord key x) := h.of_shown (hkey s _)
  unfold State.applyWord
  refine still_dite_snd (fun hbase => still_writeSetpoint h n v (hj hbase)) fun _ => ?_
  refine still_ite_snd (still_ite_snd h (hput _)) ?_
  refine still_ite_snd (still_ite_snd h (hput _)) ?_
  refine still_ite_snd (still_ite_snd (hput _) h) ?_
  refine still_ite_snd (h.of_shown (shown_writeLeg s w n v fun u => hkey u v)) ?_
  refine still_ite_snd ?_ ?_
  · split
    next hw => exact h.of_shown (shown_writePeriod hw)
    · exact h
  refine still_ite_snd ((hput _).of_shown (shown_cmpArm _ _ hn)) ?_
  refine still_ite_snd ((hput _).of_shown (shown_cmpDisarm ..)) ?_
  refine still_ite_snd (still_bufControl h _ hn) ?_
  refine still_ite_snd (still_ite_snd h (h.of_shown (shown_brakeCmd ..))) ?_
  refine still_ite_snd (still_ite_snd ((still_preEval h).of_shown (shown_closeRefused _)) (still_cdrCmd (still_preEval h) _)) ?_
  refine still_ite_snd ((hput _).of_shown (shown_setV _ .bmsAt 0 _ (by decide) (by decide))) ?_
  exact still_ite_snd (h.of_shown (shown_writeAck ..)) (still_ite_snd (h.of_shown (shown_writeRequest ..)) (hput _))

theorem still_hostWrite1 {a s : State} (h : StillShown a s) (c : WriteCtx) (index sub : Nat) (v : Word) :
    StillShown a (s.hostWrite1 c index sub v).2 := by
  unfold State.hostWrite1
  split
  · split
    · exact h.of_shown (shown_writeWindow ..)
    · exact h
  · refine still_ite_snd h ?_
    split
    · exact h
    · next w hw =>
      split
      · exact h
      · next n j hn =>
        refine still_ite_snd h ?_
        split
        · exact h
        · next hbar =>
          obtain ⟨h1, h2, h3, h4⟩ := ne_of_free hw (isFree_of_wordBar hbar)
          exact still_applyWord h c v (lt_of_word hw hn).1 (lt_of_word hw hn).2 fun u x => shown_setWord u x h1 h2 h3 h4

theorem still_hostWrite {a s : State} (h : StillShown a s) (c : WriteCtx) (index sub : Nat) (v : Word) :
    StillShown a (s.hostWrite c index sub v).2 := by
  unfold State.hostWrite
  dsimp only
  exact still_ite_snd (still_hostWrite1 (still_hostWrite1 h ..) ..) (still_hostWrite1 h ..)

/-! ### READY -/

theorem still_mapParam {a s : State} (h : StillShown a s) (ch i : Nat) (f : CanFrame) : StillShown a (s.mapParam ch i f) := by
  have hcount {u : State} (hu : StillShown a u) (d j : Nat) : StillShown a (u.addF Reg.CAN_COUNTERS ch d j) :=
    hu.of_shown (shown_addF _ _ _ _ _ (by decide) (beside_of_above (by decide) j))
  unfold State.mapParam
  dsimp only
  split
  · exact (hcount h 1 6).of_shown (shown_note _ _ _ _ (by decide))
  · refine still_each h _ _ fun u hu w _ => still_ite (hcount (still_hostWrite hu ..) 1 5) ?_
    exact (hcount ((still_hostWrite hu ..).of_shown (shown_countResult ..)) 1 6).of_shown (shown_note _ _ _ _ (by decide))

theorem lt_of_mem_channels {ch : Nat} {p : Nat → Bool} (h : ch ∈ [0, 1, 2, 3].filter p) : ch < 4 := by
  have hmem := List.mem_of_mem_filter h
  fin_cases hmem <;> decide

theorem still_canReady {a s : State} (h : StillShown a s) : StillShown a s.canReady := by
  unfold State.canReady
  refine still_each ?_ _ _ fun _ hu _ _ => hu.of_shown (shown_canSync ..)
  refine still_each ?_ _ _ fun _ hu ch hch => hu.of_shown (shown_claimGo _ _ ((lt_of_mem_channels hch).trans (by decide)))
  refine still_each ?_ _ _ fun _ hu _ _ => hu.of_shown (shown_ite_of (shown_setDue ..) (shown_setDue ..))
  refine still_each ?_ _ _ fun _ hu ch _ => hu.of_shown (shown_setF _ _ _ _ _ (by decide) (by decide))
  refine still_each (StillShown.of_shown ?_ shown_parts) _ _ fun u hu e _ => ?_
  · refine still_each (still_noteEnds h 0 (by decide)) _ _ fun u hu ch hch => hu.of_shown (shown_canStale u _ ?_)
    fin_cases hch <;> decide
  · split
    · exact still_mapParam hu ..
    · exact hu

theorem still_sbcRequest {a s : State} (h : StillShown a s) : StillShown a s.sbcRequest :=
  still_ite (still_raise (h.of_shown (shown_addF _ _ _ _ _ (by decide) (by decide))) (show Ev.SBC_REQUEST < 65536 by decide)) h

theorem still_stoSafe {a s : State} (h : StillShown a s) (g : Nat) : StillShown a (s.stoSafe g) := by
  refine still_each (still_latchStages (still_setCause (h.of_shown (shown_reportAll s fun f hf => ?_)) ..) ..) _ _ fun u hu t _ => ?_
  · rw [List.mem_singleton.1 hf]
    exact (show Ev.STO_REQUEST < 65536 by decide)
  · exact (still_toSafe (hu.of_shown ((shown_setRank ..).trans (shown_overtake ..))) ..).of_shown (shown_close ..)

theorem still_safetyReady {a s : State} (h : StillShown a s) : StillShown a s.safetyReady := by
  refine still_each (still_when h _ _ fun _ hu => still_sbcRequest hu) _ _ fun u hu g _ => ?_
  have hsto := fun b : Bool => still_ite (c := b = true) (still_stoSafe (hu.of_shown (shown_addF u Reg.SAFE_COUNTERS 0 1 0 (by decide) (by decide))) g) hu
  exact still_ite (still_each (hsto _) _ _ fun _ hw t _ => still_carryOut hw ..) (hsto _)

/-- READY as it begins: the start has ended, and no refused request is held. -/
def readyBegun (s : State) : State :=
  { (s.setV .startStep 0 0).setV .moduleEvent 0 Ev.READY_REACHED with module := .ready, denials := [] }

theorem readyNoted_eq (s : State) : s.readyNoted =
    ((s.readyBegun.setF Reg.START_TIMES_READY_AT 0 s.readyBegun.sinceStart).note Ev.READY_REACHED).setFb Reg.GD_STATUS_STARTED 0 true := rfl

/-- READY is noted, and the gate drive started. -/
theorem readyNoted_shows (s : State) : s.readyNoted.v .startStep = 0 ∧ s.readyNoted.fb Reg.GD_STATUS_STARTED = true ∧ s.readyNoted.denials = [] := by
  have hnoted (v : Int) : ((s.readyBegun.setF Reg.START_TIMES_READY_AT 0 v).note Ev.READY_REACHED).shows = s.readyBegun.shows :=
    shows_of_shown ((shown_note _ _ _ _ (by decide)).trans (shown_setWord _ _ (by decide) (by decide) (by decide) (by decide)))
  have hvars : s.readyBegun.vars = ((s.setV .startStep 0 0).setV .moduleEvent 0 Ev.READY_REACHED).vars := rfl
  have hstep : s.readyBegun.v .startStep = 0 := by
    rw [v_congr hvars, v_setV_of_ctor _ _ (by decide) (by decide) (by decide), State.v_setV_same]
  rw [readyNoted_eq, State.setFb, State.v_setF, startStep_of_shows (hnoted _)]
  exact ⟨hstep, fb_setFb_same _ true (by decide) (by decide), denials_of_shows (hnoted _)⟩

/-- What READY shows of the start, whatever its units do (R84, R86). -/
theorem ready_shows (s : State) : s.ready.v .startStep = 0 ∧ s.ready.fb Reg.GD_STATUS_STARTED = true ∧ s.ready.denials = [] := by
  have hunits : StillShown s.readyNoted (s.readyNoted.dllReady.each (List.range 4) State.enableSync).safetyReady.canReady :=
    still_canReady (still_safetyReady ((StillShown.refl _).of_shown ((shown_each _ _ _ fun u g _ => shown_enableSync u g).trans
      (shown_dllReady _))))
  have hready : s.ready.shows = s.readyNoted.shows := by
    rw [ready_eq]
    split
    · exact hunits.shows
    · exact (shows_of_shown (shown_openSlow ..)).trans hunits.shows
  obtain ⟨hstep, hstarted, hdenials⟩ := readyNoted_shows s
  exact ⟨(startStep_of_shows hready).trans hstep, (started_of_shows hready).trans hstarted, (denials_of_shows hready).trans hdenials⟩

/-- The module has left STARTING. -/
theorem module_ready_ne (s : State) : s.ready.module ≠ .starting := by
  obtain (hm | hm | hm) | ⟨hm, -⟩ := orderly_ready s <;> rw [hm] <;> exact ModState.noConfusion

/-- Every activity of step 8 has ended: READY (R84). -/
theorem completes_readyReached {s : State} {others : StepEight} (h : s.step8Ended others = true) (t : Nat) :
    Completes (.readyReached others t) s fun u =>
      u.module ≠ .starting ∧ u.vn .startStep = 0 ∧ u.fb Reg.GD_STATUS_STARTED = true ∧ u.denials = [] := by
  have hexec : exec (.readyReached others t) s = Machine.done (s.arrive t).ready := by
    change Machine.done (if (s.arrive t).step8Ended others = true then (s.arrive t).ready else _) = _
    rw [if_pos]
    exact h
  obtain ⟨hstep, hstarted, hdenials⟩ := ready_shows (s.arrive t)
  refine completes_of_done hexec ?_
  rw [module_synced, vn_synced _ (by decide) (by decide), fb_synced, denials_synced, vn_eq, hstep]
  exact ⟨module_ready_ne _, rfl, hstarted, hdenials⟩

end Sys2Proof.Machine.State
end

-- ==== The steps of a start ====
section
open Sys2Proof Sys2Proof.Machine Sys2Proof.Machine.State

/-- Settles O2: each step is evaluated up to what its units do, and these leave what it shows (`still_unitsBegin`, `still_canReady`,
`still_raise`). -/
theorem startSteps : Obligations.StartSteps := by
  refine ⟨?_, ?_, ?_, ?_, ?_, ?_, ?_, ?_, ?_, ?_, ?_, ?_, ?_, ?_⟩
  · exact fun s pass t hm hs hi hmem => completes_firstInjection hm hs hi hmem pass t
  · exact fun s t hm hs hi hmem => completes_failedInjection hm hs hi hmem t
  · exact fun s pass t hm hs hi hmem => completes_firstMemory hm hs hi hmem pass t
  · exact fun s t hm hs hi hmem => completes_failedMemory hm hs hi hmem t
  · exact fun s t hm hs hmem hb _ hi hr => completes_logRebuild hm hs hmem hb hi hr t
  · exact fun s key t hm hs hi hmem hlog hkey hj => completes_keyAbsent hm hs hi hmem hlog hkey hj t
  · exact fun s key t hm hs hi hmem hlog hkey hid hsfdp hcap hcontents hsome =>
      completes_keySupported hm hs hi hmem hlog hkey hid hsfdp hcap hcontents hsome t
  · intro s bad1 bad2 t hm hs
    exact completes_of_done (exec_imageVerified hm hs bad1 bad2 t) (imageVerified_shows (s := s.arrive t) hm bad1 bad2)
  · exact fun s t hm hs => completes_imageApplied hm hs t
  · exact fun s ho hg => completes_gateSupplyGroup ho hg
  · exact fun s others t h => completes_readyReached h t
  · exact fun s found ho hd => completes_keyCheckSame ho hd
  · exact fun s found hd ho hm hb hfirst => completes_keyCheckDiffers hd ho hm hb hfirst
  · exact fun s t hfail hon => completes_pllBackupLock hfail hon t
end

-- ==== A read-back that contradicts the owner while SYNC_OUT is high (O47) ====
section
/-!
The counterexample to O47. A SYNC_OUT pulse enters the output with both its edges when its carrier period begins (R321), and a hand-over
holds a falling edge that its gap covers back until the gap ends (R344): an output of before is changed. The statement excepts the FCS of
a cut frame only (R599).
-/

namespace Sys2Proof.Machine.State
open Sys2Proof Sys2Proof.Machine

/-- A part of the state after a command, where it completes. -/
def partAfter {α : Type} (part : State → α) (o : Host.Outcome State Fault Refusal) : Option α := match o with
  | .next u => some (part u)
  | _ => none

theorem next_of_partAfter {α : Type} {part : State → α} {o : Host.Outcome State Fault Refusal} {x : α} (h : partAfter part o = some x) :
    ∃ u, o = .next u ∧ part u = x := by
  unfold partAfter at h
  split at h
  · exact ⟨_, rfl, Option.some.inj h⟩
  · cases h

/-- The machine in RUN with PE-A owner and PE-B in service, the gates of group 0 enabled, and a SYNC_OUT pulse under way: its carrier period
began in VCO cycle 0, its falling edge has command instant 300, and each edge leaves 12 PULSE cycles after its command (R288, R321). -/
def syncOutHigh : State :=
  let s : State := { State.reset with module := .run, out := [.syncOut 120 420] }
  ((s.setV .syncFall 0 300).setF Reg.FO_STATUS_STATE_B 0 1).setF Reg.GD_STATUS_ENABLE_SG 0 1

/-- The gap of a hand-over at instant 295 is VCO cycles 300 to 340. -/
theorem outAfter_readbackContradiction_syncOutHigh :
    partAfter State.out (exec (.readbackContradiction 0 295) syncOutHigh) = some [.syncOut 120 460] := by
  decide +kernel

end Sys2Proof.Machine.State
end

section
open Sys2Proof Sys2Proof.Machine Sys2Proof.Machine.State

/-- Refutes O47: a hand-over delays the falling edge of a SYNC_OUT pulse that was in the output before it. -/
theorem not_timeAndOutput : ¬ Obligations.TimeAndOutput := by
  intro hkeeps
  obtain ⟨u, hu, hout⟩ := next_of_partAfter outAfter_readbackContradiction_syncOutHigh
  obtain ⟨-, hprefix, -⟩ := hkeeps syncOutHigh u _ hu
  rw [hout] at hprefix
  exact absurd hprefix (by decide)

end

-- ==== A count of waiting scrubber transactions below zero (O4) ====
section
/-!
The counterexample to O4. The last clause, of a scrubber's block that waits because the posted write buffer is full, asks nothing of the
number of the scrubber's waiting transactions. It is kept as an integer and read as a natural number: two more than -1, which reads as 0,
are 1. The model lowers the count only where it is not zero (`scrubReq`), so this is a state the statement admits and no run's.
-/

namespace Sys2Proof.Machine.State
open Sys2Proof Sys2Proof.Machine

/-- The end of a scrubber's us is due, the posted write buffer is full, and the count of the scrubber's waiting transactions is -1. -/
def negativeScrub : State := ((State.reset.setV .scrubWait 0 (-1)).setV .posted 0 4).setDue .scrub 0 (some 0)

theorem negativeScrub_waits : negativeScrub.isOpen .scrub = true ∧ 4 ≤ negativeScrub.vn .posted ∧ negativeScrub.vn .scrubWait = 0 := by
  decide +kernel

theorem scrubWaitAfter_scrubBlock_negativeScrub :
    partAfter (·.vn .scrubWait) (exec (.scrubBlock { ecc := .ok }) negativeScrub) = some 1 := by
  decide +kernel

end Sys2Proof.Machine.State
end

section
open Sys2Proof Sys2Proof.Machine Sys2Proof.Machine.State

/-- Refutes O4: a scrubber's block that waits adds one, and not two, to a count of waiting transactions that stands at -1 and reads as 0. -/
theorem not_clockEvents : ¬ Obligations.ClockEvents := by
  rintro ⟨-, -, -, -, -, -, -, -, -, hwaits⟩
  obtain ⟨hopen, hfull, hbefore⟩ := negativeScrub_waits
  obtain ⟨u, hu, -, hcount, -⟩ := hwaits negativeScrub { ecc := .ok } hopen hfull rfl
  obtain ⟨u', hu', hafter⟩ := next_of_partAfter scrubWaitAfter_scrubBlock_negativeScrub
  obtain rfl : u' = u := Host.Outcome.next.inj (hu'.symm.trans hu)
  rw [hbefore] at hcount
  exact absurd (hafter.symm.trans hcount) (by decide)

end

-- ==== A double error that stops stage P (O5) ====
section
/-!
The counterexample to O5. A double error that the scrubber finds carries out ECC_REACTION (R132). As STOP, with stage P feeding from the
source and L in STANDBY, it counts a charger snapshot that it may not capture in CHG.COUNTERS.7, by the same way as the key check of O3
(`feedingSource`); that counter is no field of a reaction, and none of the scrubber's.
-/

namespace Sys2Proof.Machine.State
open Sys2Proof Sys2Proof.Machine

/-- Stage P feeds from the source as in `feedingSource`, ECC_REACTION is STOP, and the end of a scrubber's us is due. -/
def feedingScrub : State := (feedingSource.setF Reg.CLK_FAULT_ECC_REACTION 0 3).setDue .scrub 0 (some 0)

/-- The captures that are not made are counted in no field that a scrub may write. -/
theorem skippedSnapshots_not_scrubFlds :
    ∀ p ∈ reactionFlds ++ ([one Reg.ARB_ECC_CORRECTED, one Reg.ARB_ECC_UNCORRECTABLE, all Reg.ARB_MAX_WAIT 7, all Reg.ARB_SHAPED 7] : List Place),
      ¬ p.has (Reg.CHG_COUNTERS.key 7 0) 0 := by
  have hscrub : ∀ p ∈ ([one Reg.ARB_ECC_CORRECTED, one Reg.ARB_ECC_UNCORRECTABLE, all Reg.ARB_MAX_WAIT 7, all Reg.ARB_SHAPED 7] : List Place),
      ¬ p.has (Reg.CHG_COUNTERS.key 7 0) 0 := by
    unfold Place.has
    decide +kernel
  intro p hp
  obtain hreaction | hp := List.mem_append.1 hp
  · exact skippedSnapshots_not_keyCheckFlds p (List.mem_append_left _ hreaction)
  · exact hscrub p hp

theorem wordAfter_scrubBlock_feedingScrub :
    feedingScrub.word (Reg.CHG_COUNTERS.key 7 0) = 0
    ∧ wordAfter (exec (.scrubBlock { ecc := .double 0 }) feedingScrub) (Reg.CHG_COUNTERS.key 7 0) = some 1 := by
  decide +kernel

end Sys2Proof.Machine.State
end

section
open Sys2Proof Sys2Proof.Machine Sys2Proof.Machine.State

/-- Refutes O5: a double error that stops stage P counts a charger snapshot that it may not capture, outside what a reaction and a scrub
change. -/
theorem not_clockFrames : ¬ Obligations.ClockFrames := by
  rintro ⟨-, -, -, -, -, -, hscrub⟩
  obtain ⟨hbefore, hafter⟩ := wordAfter_scrubBlock_feedingScrub
  obtain ⟨u, hu, hword⟩ := next_of_wordAfter hafter
  obtain ⟨-, hbits⟩ := hscrub feedingScrub { ecc := .double 0 } u hu
  have hbit := hbits _ 0 (by decide) skippedSnapshots_not_scrubFlds
  rw [hbefore, hword] at hbit
  exact absurd hbit (by decide)

end

-- ==== A calibration too old that stops stage P (O9) ====
section
/-!
The counterexample to O9. CAL_STALE carries out STALE_REACTION on the stages of its core (R146), P among those of core 2. As STOP, with
stage P feeding from the source and L in STANDBY, it counts a charger snapshot that it may not capture in CHG.COUNTERS.7, by the same way
as the key check of O3 (`feedingSource`); that counter is no field of a reaction, and none of the rotation's.
-/

namespace Sys2Proof.Machine.State
open Sys2Proof Sys2Proof.Machine

/-- Stage P feeds from the source as in `feedingSource`, STALE_REACTION of core 2 is STOP, and the window of its calibration is over. -/
def feedingStale : State := (feedingSource.setF Reg.SMP_FAULT_STALE_REACTION 2 3).setDue .calStale 2 (some 0)

/-- The captures that are not made are counted in no field that CAL_STALE may write. -/
theorem skippedSnapshots_not_calStaleFlds :
    ∀ p ∈ reactionFlds ++ ([one Reg.SMP_CORE_STATUS_STALE 2] : List Place), ¬ p.has (Reg.CHG_COUNTERS.key 7 0) 0 := by
  intro p hp
  obtain hreaction | hp := List.mem_append.1 hp
  · exact skippedSnapshots_not_keyCheckFlds p (List.mem_append_left _ hreaction)
  · obtain rfl := List.mem_singleton.1 hp
    unfold Place.has
    decide +kernel

theorem wordAfter_calStale_feedingStale :
    feedingStale.word (Reg.CHG_COUNTERS.key 7 0) = 0
    ∧ wordAfter (exec (.calStale 2) feedingStale) (Reg.CHG_COUNTERS.key 7 0) = some 1 := by
  decide +kernel

end Sys2Proof.Machine.State
end

section
open Sys2Proof Sys2Proof.Machine Sys2Proof.Machine.State

/-- Refutes O9: a stale calibration that stops stage P counts a charger snapshot that it may not capture, outside what a reaction and the
rotation change. -/
theorem not_acquisitionFrames : ¬ Obligations.AcquisitionFrames := by
  rintro ⟨-, -, hstale, -⟩
  obtain ⟨hbefore, hafter⟩ := wordAfter_calStale_feedingStale
  obtain ⟨u, hu, hword⟩ := next_of_wordAfter hafter
  obtain ⟨-, hbits⟩ := hstale feedingStale 2 u hu
  have hbit := hbits _ 0 (by decide) skippedSnapshots_not_calStaleFlds
  rw [hbefore, hword] at hbit
  exact absurd hbit (by decide)

end

-- ==== A result on its way to an accumulator that does not exist (O6) ====
section
/-!
The counterexample to O6. A carrier event lets the accumulators of its core take the results that are on their way (R137, R159). The state
keeps the number of a result's accumulator as any number, and the statement bounds it nowhere: a result for an accumulator far beyond the
128 of the module is added to another quantity, here the base from which the substitute events of stage L count in core 0. The model gives
results to accumulators 0 to 127 only (`State.convert`), so this is a state the statement admits and no run's.
-/

namespace Sys2Proof.Machine.State
open Sys2Proof Sys2Proof.Machine

/-- The number of the sum whose place the base of stage L in core 0 has. -/
def strayAccumulator : Nat := Var.substBase.key Stage.L.idx - Var.accSum.key 0

/-- The machine READY with one result of core 0, of value 1, on its way to that accumulator. -/
def strayResult : State :=
  { State.reset with module := .ready, pipe := [{ core := 0, n := 0, ch := 0, acc := strayAccumulator + 1, x := 1 }] }

theorem strayResult_substitutes :
    strayResult.fb Reg.PULSE_STATUS_RUN Stage.L.idx = false ∧ strayResult.powered = true
    ∧ (∀ c ∈ List.range 4, strayResult.vn .seqEntry c < 512)
    ∧ strayResult.vn .substBase Stage.L.idx + us (strayResult.f Reg.SMP_CORE_CFG_IDLE_PERIOD 0) = 150000 := by
  decide +kernel

theorem substBaseAfter_substituteEvent_strayResult :
    partAfter (·.vn .substBase Stage.L.idx) (exec (.substituteEvent 0 .L false []) strayResult) = some 150001 := by
  decide +kernel

end Sys2Proof.Machine.State
end

section
open Sys2Proof Sys2Proof.Machine Sys2Proof.Machine.State

/-- Refutes O6: the base of a substitute event is not its instant where a result for no accumulator of the module is added to it. -/
theorem not_samplingEvents : ¬ Obligations.SamplingEvents := by
  rintro ⟨-, -, -, -, -, -, -, -, -, -, -, hsubst, -⟩
  obtain ⟨hstill, hpowered, hentries, hinstant⟩ := strayResult_substitutes
  obtain ⟨u, hu, -, hbase, -⟩ := hsubst strayResult 0 .L [] hstill hpowered hentries
  obtain ⟨u', hu', hafter⟩ := next_of_partAfter substBaseAfter_substituteEvent_strayResult
  obtain rfl : u' = u := Host.Outcome.next.inj (hu'.symm.trans hu)
  exact absurd (hafter.symm.trans (hbase.trans hinstant)) (by decide)

end

-- ==== The accumulators' words through the end of a cause (O54, O55) ====
section
/-!
The end of a cause may settle stages (R50): they leave HOLD, stop, turn legs off, end commands and tests. None of that writes a word of
the accumulators. One lemma per function of that chain, over the states that kept those words.
-/

namespace Sys2Proof.Machine.State
open Sys2Proof Sys2Proof.Machine

/-- The words of the accumulators: settings and read sets. -/
def accWords (s : State) (k : Fin 0x10000) : Word := s.word (0x060000 + k)

/-- Between two states no word of the accumulators has changed. -/
def AccKept (s₀ s : State) : Prop := s.accWords = s₀.accWords

theorem AccKept.refl (s : State) : AccKept s s := Eq.refl s.accWords

/-- A field of an accumulator reads as before. -/
theorem AccKept.f {s₀ s : State} (h : AccKept s₀ s) (f : Fld) (n j : Nat) (hlo : 0x060000 ≤ f.key n j) (hhi : f.key n j < 0x070000) :
    s.f f n j = s₀.f f n j := by
  have hword := congrFun h ⟨f.key n j - 0x060000, by omega⟩
  simp only [accWords, Nat.add_sub_cancel' hlo] at hword
  rw [State.f, State.f, hword]

theorem AccKept.of_regs {s₀ s u : State} (h : AccKept s₀ s) (hregs : u.regs = s.regs) : AccKept s₀ u := by
  have hword (k : Nat) : u.word k = s.word k := by rw [State.word, State.word, hregs]
  exact Eq.trans (funext fun k => hword _) h

/-- An update of the parts beside the words keeps them. -/
theorem AccKept.parts {s₀ s : State} (h : AccKept s₀ s) {now : Nat} {vars : List (Nat × Int)} {timers : List (Nat × Option Nat)}
    {module : ModState} {stages : Vector StageCtl 7} {causes : List Cause} {cycleFaults : List CycleFault} {deferred : List FaultEvt}
    {release : List Protected} {queue : List Rec} {log : Log} {kept : List Kept} {challenges : List Challenge} {windows : List WinCtl}
    {edges : List Edge} {dmaFifo : List DmaEntry} {pipe : List Sample} {accepts : List Accept} {sram : List (Nat × Byte)} {runs : List Run}
    {denials : List Denial} {held handQueue : List (Req × Svc)} {handCmd : Option (Req × Svc)} {staging keyMem : List (Nat × Byte)}
    {keyObs : KeyObs} {header early : List Byte} {image : List (Nat × List Byte)} {canRx : List CanEntry} {canTx canHold : List TxFrame}
    {canLast : List (Nat × List Nat)} {canClaims : List Claim} {peers : List Peer} {waiting : List Waiting} {colony replies : List Node}
    {egress : List Egress} {out : List Out} {free : Nat} {pending : List Instr} :
    AccKept s₀
      { now, regs := s.regs, vars, timers, module, stages, causes, cycleFaults, deferred, release, queue, log, kept, challenges, windows,
        edges, dmaFifo, pipe, accepts, sram, runs, denials, held, handQueue, handCmd, staging, keyMem, keyObs, header, early, image,
        canRx, canTx, canHold, canLast, canClaims, peers, waiting, colony, replies, egress, out, free, pending } :=
  .of_regs h rfl

theorem AccKept.ite {s₀ : State} {c : Prop} [Decidable c] {a b : State} (ha : AccKept s₀ a) (hb : AccKept s₀ b) :
    AccKept s₀ (if c then a else b) := by
  split <;> assumption

theorem AccKept.each {s₀ s : State} {α : Type} (h : AccKept s₀ s) (l : List α) (k : State → α → State)
    (hk : ∀ u : State, AccKept s₀ u → ∀ x ∈ l, AccKept s₀ (k u x)) : AccKept s₀ (s.each l k) :=
  List.foldlRecOn (motive := AccKept s₀) l k h hk

theorem AccKept.when {s₀ s : State} (h : AccKept s₀ s) (b : Bool) (k : State → State)
    (hk : ∀ u : State, AccKept s₀ u → AccKept s₀ (k u)) : AccKept s₀ (s.when b k) :=
  .ite (hk _ h) h

theorem AccKept.setV {s₀ s : State} (h : AccKept s₀ s) (x : Var) (i : Nat) (v : Int) : AccKept s₀ (s.setV x i v) := h

theorem AccKept.setOn {s₀ s : State} (h : AccKept s₀ s) (x : Var) (i : Nat) (b : Bool) : AccKept s₀ (s.setOn x i b) := h

theorem AccKept.setDue {s₀ s : State} (h : AccKept s₀ s) (t : Timer) (i : Nat) (e : Option Nat) : AccKept s₀ (s.setDue t i e) := h

theorem AccKept.close {s₀ s : State} (h : AccKept s₀ s) (t : Timer) (i : Nat) : AccKept s₀ (s.close t i) := h

theorem AccKept.openSlow {s₀ s : State} (h : AccKept s₀ s) (t : Timer) (i len : Nat) : AccKept s₀ (s.openSlow t i len) := h

theorem AccKept.openLoop {s₀ s : State} (h : AccKept s₀ s) (t : Timer) (i len : Nat) : AccKept s₀ (s.openLoop t i len) := h

theorem AccKept.setStg {s₀ s : State} (h : AccKept s₀ s) (t : Stage) (c : StageCtl) : AccKept s₀ (s.setStg t c) := h

/-- A field whose family begins past the words of the accumulators may be written. -/
theorem AccKept.setF {s₀ s : State} {f : Fld} (hbase : Nat.ble 0x070000 f.base = true) (h : AccKept s₀ s) (n : Nat) (v : Int) (j : Nat) :
    AccKept s₀ (s.setF f n v j) := by
  have := Nat.le_of_ble_eq_true hbase
  refine Eq.trans (funext fun k => word_setWord_ne s _ ?_) h
  rw [Fld.key]
  omega

theorem AccKept.setFb {s₀ s : State} {f : Fld} (hbase : Nat.ble 0x070000 f.base = true) (h : AccKept s₀ s) (n : Nat) (b : Bool) (j : Nat) :
    AccKept s₀ (s.setFb f n b j) :=
  .setF hbase h ..

theorem AccKept.addF {s₀ s : State} {f : Fld} (hbase : Nat.ble 0x070000 f.base = true) (h : AccKept s₀ s) (n d j : Nat) :
    AccKept s₀ (s.addF f n d j) :=
  .setF hbase h ..

theorem AccKept.enqueue {s₀ s : State} (h : AccKept s₀ s) (a : RepArg) : AccKept s₀ (s.enqueue a) := by
  refine Eq.trans (funext fun k => word_enqueue s a ?_) h
  simp only [Fld.key, Reg.LOG_COUNTERS, Reg.CORE_COUNTERS, List.mem_cons, List.not_mem_nil, or_false, not_or]
  omega

theorem AccKept.markSeen {s₀ s : State} (h : AccKept s₀ s) (code : Nat) : AccKept s₀ (s.markSeen code) := by
  have hw := Ev.w_le code
  refine Eq.trans (funext fun k => word_setWord_ne s _ ?_) h
  simp only [Fld.key, Reg.STATE_SEEN_EVENTS]
  omega

theorem AccKept.report {s₀ s : State} (h : AccKept s₀ s) (a : RepArg) : AccKept s₀ (s.report a) :=
  .enqueue (.markSeen h ..) ..

theorem AccKept.updCause {s₀ s : State} (h : AccKept s₀ s) (code inst : Nat) (k : Cause → Cause) :
    AccKept s₀ (s.updCause code inst k) :=
  .parts h

theorem AccKept.dropDerates {s₀ s : State} (h : AccKept s₀ s) : AccKept s₀ s.dropDerates :=
  .each h _ _ fun _ h _ _ => .setStg h ..

theorem AccKept.noteAt {s₀ s : State} (h : AccKept s₀ s) (code : Nat) (t : Stage) (d0 d1 d2 : Nat) :
    AccKept s₀ (s.noteAt code t d0 d1 d2) :=
  .report h ..

theorem AccKept.spBack {s₀ s : State} (h : AccKept s₀ s) (n : Nat) : AccKept s₀ (s.spBack n) :=
  .ite (.updCause (.noteAt (.setFb (by decide) h ..) ..) ..) h

theorem AccKept.spSourceBack {s₀ s : State} (h : AccKept s₀ s) (t : Stage) : AccKept s₀ (s.spSourceBack t) :=
  .each h _ _ fun _ h _ _ => .ite (.spBack h ..) h

theorem AccKept.protect {s₀ s : State} (h : AccKept s₀ s) (out : ProtOut) (old : Nat) : AccKept s₀ (s.protect out old) := by
  unfold State.protect
  refine .ite h ?_
  dsimp only
  split
  · exact .setF (by decide) (.parts h) ..
  · exact .setF (by decide) (.parts h) ..

theorem AccKept.syncModule {s₀ s : State} (h : AccKept s₀ s) (code : Nat) : AccKept s₀ (s.syncModule code) := by
  unfold State.syncModule
  refine .ite (.parts (.setV h ..)) ?_
  exact .ite (.parts (.setV h ..)) h

theorem AccKept.regHistory {s₀ s : State} (h : AccKept s₀ s) (c : Int) : AccKept s₀ (s.regHistory c) :=
  .each h _ _ fun _ h _ _ => .setV (.setV h ..) ..

theorem AccKept.burstLeft {s₀ s : State} (h : AccKept s₀ s) : AccKept s₀ s.burstLeft :=
  .when h _ _ fun _ h => .regHistory h ..

theorem AccKept.snapFrom {s₀ s : State} (h : AccKept s₀ s) : AccKept s₀ s.snapFrom :=
  .setV (.setV h ..) ..

theorem AccKept.snapWrite {s₀ s : State} {f : Fld} (hbase : Nat.ble 0x070000 f.base = true) (h : AccKept s₀ s) (k i : Nat) (l : List Byte) :
    AccKept s₀ (s.snapWrite f k i l) :=
  .each (.each h _ _ (fun _ h _ _ => .setV h ..)) _ _ fun _ h _ _ => .setF hbase h ..

theorem AccKept.linkSnapOf {s₀ s : State} (h : AccKept s₀ s) (k detail seq : Nat) : AccKept s₀ (s.linkSnapOf k detail seq) := by
  unfold State.linkSnapOf
  refine .ite (.openSlow (.setF (by decide) (.snapWrite (by decide) h ..) ..) ..) ?_
  exact .addF (by decide) h ..

theorem AccKept.linkSnap {s₀ s : State} (h : AccKept s₀ s) (k detail : Nat) : AccKept s₀ (s.linkSnap k detail) :=
  .ite (.setV (.setV h ..) ..) (.linkSnapOf h ..)

theorem AccKept.regLeft {s₀ s : State} (h : AccKept s₀ s) (st code : Nat) : AccKept s₀ (s.regLeft st code) :=
  .ite (.linkSnap h ..) (.ite (.linkSnap h ..) h)

theorem AccKept.regLeaves {s₀ s : State} (h : AccKept s₀ s) (code : Nat) : AccKept s₀ (s.regLeaves code) :=
  .regLeft (.when (.setF (by decide) (.setF (by decide) (.burstLeft (.snapFrom h)) ..) ..) _ _ (fun _ h => .linkSnap h ..)) ..

theorem AccKept.enter {s₀ s : State} (h : AccKept s₀ s) (t : Stage) (st : StageState) (code reaction : Nat) :
    AccKept s₀ (s.enter t st code reaction) := by
  unfold State.enter
  refine .ite ?_ ?_
  · exact .regLeaves (.syncModule (.close (.setStg (.when (.protect h ..) _ _ (fun _ h => .setV h ..)) ..) ..) ..) ..
  · exact .syncModule (.close (.setStg (.when (.protect h ..) _ _ (fun _ h => .setV h ..)) ..) ..) ..

theorem AccKept.unlatchLegs {s₀ s : State} (h : AccKept s₀ s) (t : Stage) : AccKept s₀ (s.unlatchLegs t) :=
  .each h _ _ fun _ h _ _ => .setFb (by decide) h ..

theorem AccKept.endCommands {s₀ s : State} (h : AccKept s₀ s) (n : Nat) : AccKept s₀ (s.endCommands n) :=
  .parts (.setV (.setOn (.setOn (.setOn (.setOn (.setOn (.setFb (by decide) (.setFb (by decide) h ..) ..) ..) ..) ..) ..) ..) ..)

theorem AccKept.releaseLatches {s₀ s : State} (h : AccKept s₀ s) (t : Stage) : AccKept s₀ (s.releaseLatches t) :=
  .parts h

theorem AccKept.slotsIdle {s₀ s : State} (h : AccKept s₀ s) (t : Stage) : AccKept s₀ (s.slotsIdle t) :=
  .dropDerates (.parts (.each h _ _ (fun _ h _ _ => .setFb (by decide) (.setFb (by decide) (.setFb (by decide) (.setFb (by decide)
    (.close (.close (.close (.setOn (.setOn h ..) ..) ..) ..) ..) ..) ..) ..) ..)))

theorem AccKept.brakeZero {s₀ s : State} (h : AccKept s₀ s) (k : Nat) : AccKept s₀ (s.brakeZero k) :=
  .setV (.setV (.setF (by decide) (.setV h ..) ..) ..) ..

theorem AccKept.abortTest {s₀ s : State} (h : AccKept s₀ s) (k : Nat) : AccKept s₀ (s.abortTest k) := by
  unfold State.abortTest
  refine .ite ?_ ?_
  · exact .report (.addF (by decide) (.brakeZero (.setV (.setV (.close (.setFb (by decide)
      (.setF (by decide) h ..) ..) ..) ..) ..) ..) ..) ..
  · exact h

theorem AccKept.abortBrakeTest {s₀ s : State} (h : AccKept s₀ s) (t : Stage) : AccKept s₀ (s.abortBrakeTest t) :=
  .each h _ _ fun _ h _ _ => .ite (.abortTest h ..) h

theorem AccKept.recordTouched {s₀ s : State} (h : AccKept s₀ s) : AccKept s₀ s.recordTouched := by
  unfold State.recordTouched
  split
  · exact .setDue h ..
  · exact h

theorem AccKept.carrierStop {s₀ s : State} (h : AccKept s₀ s) (t : Stage) : AccKept s₀ (s.carrierStop t) :=
  .parts (.each (.setOn (.close (.close (.close (.setFb (by decide) (.setFb (by decide)
    (.recordTouched h) ..) ..) ..) ..) ..) ..) _ _ (fun _ h _ _ => .setOn (.setOn (.setV (.close h ..) ..) ..) ..))

theorem AccKept.brakeApply {s₀ s : State} (h : AccKept s₀ s) (k : Nat) : AccKept s₀ (s.brakeApply k) := by
  unfold State.brakeApply
  refine .ite ?_ ?_
  · exact .close (.close (.close (.setV (.setOn (.setF (by decide) (.setFb (by decide) (.protect h ..) ..) ..) ..) ..) ..) ..) ..
  · exact h

theorem AccKept.brakeSync {s₀ s : State} (h : AccKept s₀ s) : AccKept s₀ s.brakeSync := by
  unfold State.brakeSync
  refine .each h _ _ ?_
  intro _ h _ _
  split
  · exact .brakeApply h ..
  · exact .ite h (.setF (by decide) (.setFb (by decide) (.protect h ..) ..) ..)

theorem AccKept.actStop {s₀ s : State} (h : AccKept s₀ s) (a : Nat) : AccKept s₀ (s.actStop a) :=
  .parts (.setFb (by decide) (.setV (.close (.close (.close (.close (.setFb (by decide) (.setF (by decide)
    (.setF (by decide) h ..) ..) ..) ..) ..) ..) ..) ..) ..)

theorem AccKept.stageIdle {s₀ s : State} (h : AccKept s₀ s) (t : Stage) : AccKept s₀ (s.stageIdle t) := by
  unfold State.stageIdle
  dsimp only
  split
  · exact .each (.close (.close (.close (.close (.setOn (.setV (.setV (.setV (.close (.setOn (.setOn (.setFb (by decide)
      (.setFb (by decide) (.setFb (by decide) (.setFb (by decide) (.setFb (by decide) (.setFb (by decide) (.setF (by decide)
      (.setF (by decide) (.setF (by decide) (.setV h ..) ..) ..) ..) ..) ..) ..) ..) ..) ..) ..) ..) ..) ..) ..) ..) ..) ..) ..) ..) ..)
      _ _ fun _ h _ _ => .setOn (.close (.close h ..) ..) ..
  · exact .close (.setOn (.setV (.setV h ..) ..) ..) ..
  · exact .actStop (.setV h ..) ..
  · exact .actStop (.setV h ..) ..
  · exact .setV h ..

theorem AccKept.stageEnds {s₀ s : State} (h : AccKept s₀ s) (t : Stage) : AccKept s₀ (s.stageEnds t) :=
  .brakeSync (.stageIdle (.slotsIdle (.abortBrakeTest (.close (.carrierStop h ..) ..) ..) ..) ..)

theorem AccKept.turnOff {s₀ s : State} (h : AccKept s₀ s) (c : Nat) : AccKept s₀ (s.turnOff c) := by
  unfold State.turnOff
  refine .ite ?_ h
  refine .ite ?_ ?_
  · exact .addF (by decide) (.setFb (by decide) (.setOn (.setV (.setV (.setOn (.setOn h ..) ..) ..) ..) ..) ..) ..
  · exact .setOn (.setV (.setV (.setOn (.setOn h ..) ..) ..) ..) ..

theorem AccKept.legOff {s₀ s : State} (h : AccKept s₀ s) (n : Nat) : AccKept s₀ (s.legOff n) :=
  .turnOff (.turnOff (.setOn h ..) ..) ..

theorem AccKept.outputAllOff {s₀ s : State} (h : AccKept s₀ s) (t : Stage) : AccKept s₀ (s.outputAllOff t) :=
  .setOn (.each (.each h _ _ (fun _ h _ _ => .endCommands h ..)) _ _ (fun _ h _ _ => .legOff h ..)) ..

theorem AccKept.dropD {s₀ s : State} (h : AccKept s₀ s) : AccKept s₀ s.dropD := by
  unfold State.dropD
  refine .ite ?_ ?_
  · exact .stageEnds (.releaseLatches (.enter (.unlatchLegs (.outputAllOff h ..) ..) ..) ..) ..
  · exact h

theorem AccKept.leaveActive {s₀ s : State} (h : AccKept s₀ s) (t : Stage) : AccKept s₀ (s.leaveActive t) :=
  .ite (.dropD (.stageEnds h ..)) (.stageEnds h ..)

theorem AccKept.chgSnap {s₀ s : State} (h : AccKept s₀ s) (k before detail : Nat) : AccKept s₀ (s.chgSnap k before detail) := by
  unfold State.chgSnap
  refine .ite (.openSlow (.setF (by decide) (.snapWrite (by decide) h ..) ..) ..) ?_
  exact .addF (by decide) h ..

theorem AccKept.pRamp {s₀ s : State} (h : AccKept s₀ s) : AccKept s₀ s.pRamp :=
  .setV (.setV (.setV h ..) ..) ..

theorem AccKept.pStopNext {s₀ s : State} (h : AccKept s₀ s) : AccKept s₀ s.pStopNext := by
  unfold State.pStopNext
  refine .ite ?_ h
  refine .ite ?_ ?_
  · exact .chgSnap (.openSlow (.addF (by decide) (.setOn (.setV h ..) ..) ..) ..) ..
  · exact .pRamp h

theorem AccKept.toStopped {s₀ s : State} (h : AccKept s₀ s) (t : Stage) (code reaction : Nat) :
    AccKept s₀ (s.toStopped t code reaction) := by
  unfold State.toStopped
  have hended : AccKept s₀ (s.each t.legs State.endCommands) := .each h _ _ fun _ h _ _ => .endCommands h ..
  refine .ite (.pStopNext ?_) ?_
  all_goals
    exact .leaveActive (.releaseLatches (.enter (.setOn (.each (.unlatchLegs hended ..) _ _ fun _ h _ _ => .setOn h ..) ..) ..) ..) ..

theorem AccKept.protectStage {s₀ s : State} (h : AccKept s₀ s) (t : Stage) : AccKept s₀ (s.protectStage t) :=
  .protect h ..

theorem AccKept.rampThenOff {s₀ s : State} (h : AccKept s₀ s) (t : Stage) (len : Nat) : AccKept s₀ (s.rampThenOff t len) :=
  .setV (.openLoop h ..) ..

theorem AccKept.stopStart {s₀ s : State} (h : AccKept s₀ s) (t : Stage) : AccKept s₀ (s.stopStart t) := by
  unfold State.stopStart
  split
  · exact .rampThenOff h ..
  · exact .rampThenOff h ..
  · refine .ite (.toStopped h ..) ?_
    exact .regLeft (.setV (.openLoop (.setV (.setF (by decide) (.burstLeft (.snapFrom h)) ..) ..) ..) ..) ..
  · exact .setV h ..
  · exact .ite (.openLoop h ..) (.setV (.openLoop h ..) ..)
  · exact .rampThenOff h ..
  · exact .rampThenOff h ..

theorem AccKept.beginStop1 {s₀ s : State} (h : AccKept s₀ s) (t : Stage) (code reaction : Nat) :
    AccKept s₀ (s.beginStop1 t code reaction) := by
  unfold State.beginStop1
  dsimp only
  split
  · exact .toStopped (.protectStage h ..) ..
  · refine .ite h ?_
    exact .stopStart (.abortBrakeTest (.setV (.setV (.setStg (.protectStage h ..) ..) ..) ..) ..) ..
  · refine .ite h ?_
    exact .stopStart (.abortBrakeTest (.setV (.setV (.setStg (.protectStage h ..) ..) ..) ..) ..) ..
  · exact h

theorem AccKept.beginStop {s₀ s : State} (h : AccKept s₀ s) (t : Stage) (code reaction : Nat) :
    AccKept s₀ (s.beginStop t code reaction) := by
  unfold State.beginStop
  refine .ite ?_ (.beginStop1 h ..)
  refine .ite ?_ ?_
  · exact .setV (.pStopNext (.ite (.beginStop1 (.beginStop1 h ..) ..) (.beginStop1 h ..))) ..
  · exact .pStopNext (.ite (.beginStop1 (.beginStop1 h ..) ..) (.beginStop1 h ..))

theorem AccKept.tryRestore {s₀ s : State} (h : AccKept s₀ s) (t : Stage) : AccKept s₀ (s.tryRestore t) := by
  unfold State.tryRestore
  refine .ite ?_ h
  refine .ite (.beginStop (.spSourceBack (.enter h ..) ..) ..) ?_
  exact .spSourceBack (.enter h ..) ..

theorem AccKept.settle1 {s₀ s : State} (h : AccKept s₀ s) : AccKept s₀ s.settle1 :=
  .dropDerates (.each h _ _ (fun _ h _ _ => .ite (.tryRestore (.setStg h ..) ..) h))

theorem AccKept.settleN {s₀ s : State} (h : AccKept s₀ s) (n : Nat) : AccKept s₀ (State.settleN n s) := by
  induction n generalizing s with
  | zero => exact h
  | succ n ih =>
    unfold State.settleN
    exact .ite (.settle1 h) (ih (.settle1 h))

theorem AccKept.settle {s₀ s : State} (h : AccKept s₀ s) : AccKept s₀ s.settle :=
  .settleN h ..

theorem AccKept.clearCause {s₀ s : State} (h : AccKept s₀ s) (code inst : Nat) : AccKept s₀ (s.clearCause code inst) :=
  .ite (.settle (.updCause h ..)) h
end Sys2Proof.Machine.State
end

-- ==== An accumulator latches, and takes no more at 1,048,575 (O54, O55) ====
section
/-!
A latch writes the read set of its own accumulator and ends the cause ACC_EMPTY; AVG is the rounded quotient of the sum and the count it
found.
-/

namespace Sys2Proof.Machine
open Sys2Proof

/-! ### The rounded quotient -/

/-- Of a sum that is not negative the quotient is the nearest step, the upper one of two. -/
theorem avgRound_of_nonneg {sum : Int} {n : Nat} (hn : 0 < n) (hs : 0 ≤ sum) :
    -n < 2 * (avgRound sum n * n - sum) ∧ 2 * (avgRound sum n * n - sum) ≤ n := by
  have hdiv := Int.emod_add_mul_ediv (2 * sum + n) (2 * n)
  have hlo := Int.emod_nonneg (2 * sum + n) (b := 2 * n) (by omega)
  have hhi := Int.emod_lt_of_pos (2 * sum + n) (b := 2 * n) (by omega)
  rw [avgRound, if_neg (by omega), if_pos hs]
  constructor <;> linarith

theorem avgRound_neg {sum : Int} {n : Nat} (hn : 0 < n) (hs : 0 < sum) : avgRound (-sum) n = -avgRound sum n := by
  rw [avgRound, avgRound, if_neg hn.ne', if_neg (by omega), if_neg hn.ne', if_pos hs.le, neg_neg]

/-- The quotient is within half a step of the mean, and at half a step it is further from zero (R160). -/
theorem avgRound_nearest (sum : Int) {n : Nat} (hn : 0 < n) :
    2 * |avgRound sum n * n - sum| ≤ n ∧ (2 * |avgRound sum n * n - sum| = n → |sum| < |avgRound sum n * n|) := by
  have hnonneg {sum : Int} (hs : 0 ≤ sum) :
      2 * |avgRound sum n * n - sum| ≤ n ∧ (2 * |avgRound sum n * n - sum| = n → |sum| < |avgRound sum n * n|) := by
    obtain ⟨hlo, hhi⟩ := avgRound_of_nonneg hn hs
    constructor
    · rw [← abs_two, ← abs_mul, abs_le]
      omega
    · intro htie
      rw [abs_of_nonneg hs]
      refine lt_of_lt_of_le ?_ (le_abs_self _)
      obtain ⟨habs, -⟩ | ⟨habs, -⟩ := abs_cases (avgRound sum n * n - sum) <;> omega
  obtain hs | hs := le_or_gt 0 sum
  · exact hnonneg hs
  · obtain ⟨hnear, htie⟩ := hnonneg (neg_nonneg.2 hs.le)
    have havg : avgRound sum n = -avgRound (-sum) n := by rw [← avgRound_neg hn (neg_pos.2 hs), neg_neg]
    have hdist : avgRound sum n * n - sum = -(avgRound (-sum) n * n - -sum) := by rw [havg]; ring
    rw [hdist, abs_neg, havg, neg_mul, abs_neg, ← abs_neg sum]
    exact ⟨hnear, htie⟩

/-- A mean of results of Q1.15 is one. -/
theorem abs_avgRound_le {sum : Int} {n : Nat} (hn : 0 < n) (hs : |sum| ≤ 32768 * n) : |avgRound sum n| ≤ 32768 := by
  obtain ⟨hnear, -⟩ := avgRound_nearest sum hn
  have hprod : |avgRound sum n| * n < 32769 * n := by
    calc |avgRound sum n| * n = |avgRound sum n * n| := by rw [abs_mul, Nat.abs_cast]
      _ = |(avgRound sum n * n - sum) + sum| := by rw [sub_add_cancel]
      _ ≤ |avgRound sum n * n - sum| + |sum| := abs_add_le ..
      _ < 32769 * n := by omega
  have := lt_of_mul_lt_mul_right hprod (Int.natCast_nonneg n)
  omega

/-- A value that fits 32 bits reads back with its sign. -/
theorem toSigned_wrap {v : Int} (hv : |v| ≤ 32768) : toSigned 32 (wrap 32 v) = v := by
  obtain ⟨hlo, hhi⟩ := abs_le.1 hv
  unfold toSigned wrap
  split <;> omega

namespace State

/-! ### The latch -/

/-- A field of another word reads the same after a write. -/
theorem f_setF_of_key (s : State) {f g : Fld} {n m j k : Nat} (v : Int) (h : g.key m k ≠ f.key n j) :
    (s.setF f n v j).f g m k = s.f g m k :=
  congrArg (fun w : Word => bits w.toNat g.hi g.lo) (word_setWord_ne s _ h)

/-- The read set of a window, but for AVG and STALE. -/
def accShown (s : State) (a : Nat) (sum : Int) (n : Nat) (full : Bool) : State :=
  let u := (s.setF Reg.SMP_ACC_SUM_LO a sum).setF Reg.SMP_ACC_SUM_HI a (clampI (-128) 127 (Int.fdiv sum (2 ^ 32)))
  ((u.setF Reg.SMP_ACC_STATUS_COUNT a n).setFb Reg.SMP_ACC_STATUS_FULL a full).addF Reg.SMP_ACC_LATCH_NO a

theorem minCount_accShown (s : State) (a : Nat) (sum : Int) (n : Nat) (full : Bool) :
    (s.accShown a sum n full).f Reg.SMP_ACC_CFG_MIN_COUNT a = s.f Reg.SMP_ACC_CFG_MIN_COUNT a := by
  have hword (u : State) (f : Fld) (v : Int) (hf : f.base ≠ Reg.SMP_ACC_CFG_MIN_COUNT.base) (hk : f.kn = 0x100) :
      (u.setF f a v).f Reg.SMP_ACC_CFG_MIN_COUNT a = u.f Reg.SMP_ACC_CFG_MIN_COUNT a := by
    refine f_setF_of_key _ _ ?_
    simp only [Fld.key, hk, Reg.SMP_ACC_CFG_MIN_COUNT] at hf ⊢
    omega
  rw [accShown, addF, hword _ _ _ (by decide) rfl, setFb, hword _ _ _ (by decide) rfl, hword _ _ _ (by decide) rfl,
    hword _ _ _ (by decide) rfl, hword _ _ _ (by decide) rfl]

theorem count_accShown (s : State) (a : Nat) (sum : Int) {n : Nat} (hn : n < 2 ^ 20) (full : Bool) :
    (s.accShown a sum n full).f Reg.SMP_ACC_STATUS_COUNT a = n := by
  rw [accShown, addF, f_setF_of_key _ _ (by simp [Fld.key, Reg.SMP_ACC_STATUS_COUNT, Reg.SMP_ACC_LATCH_NO]), setFb,
    f_setF_of_clear _ _ (by decide) (by decide) (by simp [clearOf, one, Reg.SMP_ACC_STATUS_COUNT, Reg.SMP_ACC_STATUS_FULL]),
    f_setF_of_lt _ (by decide) (by decide) hn]

theorem full_accShown (s : State) (a : Nat) (sum : Int) (n : Nat) (full : Bool) :
    (s.accShown a sum n full).fb Reg.SMP_ACC_STATUS_FULL a = full := by
  rw [accShown, fb_eq, addF, f_setF_of_key _ _ (by simp [Fld.key, Reg.SMP_ACC_STATUS_FULL, Reg.SMP_ACC_LATCH_NO]), ← fb_eq,
    fb_setFb_same _ _ (by decide) (by decide)]

/-- An accumulator that has restarted, its last read sets moved on. -/
def accRestarted (s : State) (a v : Nat) : State :=
  let u := s.each (List.range' 1 5) fun s j =>
    (s.setV .accOlder (a * 8 + j) (s.v .accOld (a * 8 + j))).setV .accOld (a * 8 + j) ((s.word (Reg.SMP_ACC_AVG.key a (j - 1))).toNat : Nat)
  let u := (u.setV .accAtOld a (u.v .accAt a)).setV .accAt a (v : Nat)
  ((u.setV .accSum a 0).setV .accCount a 0).setOn .accFull a false

theorem regs_each {α : Type} (s : State) (l : List α) (k : State → α → State) (hk : ∀ u x, (k u x).regs = u.regs) :
    (s.each l k).regs = s.regs :=
  List.foldlRecOn (motive := fun u : State => u.regs = s.regs) l k rfl fun _ h _ _ => (hk ..).trans h

theorem regs_setV (s : State) (x : Var) (i : Nat) (v : Int) : (s.setV x i v).regs = s.regs := rfl

theorem regs_accRestarted (s : State) (a v : Nat) : (s.accRestarted a v).regs = s.regs := by
  simp only [accRestarted, setOn, regs_setV]
  exact regs_each s _ _ fun _ _ => rfl

/-- A latch of a window that is not STALE shows the sum, the count and FULL that the accumulator held, and their quotient; it ends the
cause. -/
theorem accLatch_eq (s : State) {a v : Nat} (hmin : s.f Reg.SMP_ACC_CFG_MIN_COUNT a ≤ s.vn .accCount a) :
    ∃ t : State, s.accLatch a v = (((t.accShown a (s.v .accSum a) (s.vn .accCount a) (s.on .accFull a)).setFb Reg.SMP_ACC_STATUS_STALE a
      false).setF Reg.SMP_ACC_AVG a (avgRound (s.v .accSum a) (s.vn .accCount a))).clearCause Ev.ACC_EMPTY a := by
  refine ⟨s.accRestarted a v, ?_⟩
  unfold State.accLatch
  dsimp only
  exact if_neg (not_lt.2 (le_of_eq_of_le ((minCount_accShown ..).trans (f_congr (regs_accRestarted s a v) ..)) hmin))

/-- AVG of a window that is not STALE is the quotient. -/
theorem avg_accLatch (s : State) {a v : Nat} (ha : a < 128) (hmin : s.f Reg.SMP_ACC_CFG_MIN_COUNT a ≤ s.vn .accCount a)
    (hn : 0 < s.vn .accCount a) (hsum : |s.v .accSum a| ≤ 32768 * s.vn .accCount a) :
    (s.accLatch a v).fi Reg.SMP_ACC_AVG a = avgRound (s.v .accSum a) (s.vn .accCount a) := by
  obtain ⟨t, hlatch⟩ := accLatch_eq s (v := v) hmin
  rw [hlatch, fi, (AccKept.clearCause (.refl _) ..).f _ _ _ (by simp [Fld.key, Reg.SMP_ACC_AVG]; omega)
    (by simp [Fld.key, Reg.SMP_ACC_AVG]; omega), f_setF_same _ _ _ _ _ (by decide) (by decide)]
  exact toSigned_wrap (abs_avgRound_le hn hsum)

/-- STATUS of a window that is not STALE shows the count and whether the accumulator was full. -/
theorem status_accLatch (s : State) {a v : Nat} (ha : a < 128) (hmin : s.f Reg.SMP_ACC_CFG_MIN_COUNT a ≤ s.vn .accCount a)
    (hfit : s.vn .accCount a < 2 ^ 20) :
    (s.accLatch a v).f Reg.SMP_ACC_STATUS_COUNT a = s.vn .accCount a
    ∧ (s.accLatch a v).fb Reg.SMP_ACC_STATUS_FULL a = s.on .accFull a := by
  obtain ⟨t, hlatch⟩ := accLatch_eq s (v := v) hmin
  have hshown (f : Fld) (hkey : f.key a 0 = 0x060002 + 0x100 * a) (hf : f.lo ≤ f.hi)
      (hclear : clearOf f a 0 (one Reg.SMP_ACC_STATUS_STALE a) = true) :
      (s.accLatch a v).f f a = (t.accShown a (s.v .accSum a) (s.vn .accCount a) (s.on .accFull a)).f f a := by
    rw [hlatch, (AccKept.clearCause (.refl _) ..).f _ _ _ (by omega) (by omega),
      f_setF_of_key _ _ (by rw [hkey]; simp only [Fld.key, Reg.SMP_ACC_AVG]; omega), setFb, f_setF_of_clear _ _ (by decide) hf hclear]
  constructor
  · rw [hshown _ rfl (by decide) (by simp [clearOf, one, Reg.SMP_ACC_STATUS_COUNT, Reg.SMP_ACC_STATUS_STALE]), count_accShown _ _ _ hfit]
  · rw [fb_eq, hshown _ rfl (by decide) (by simp [clearOf, one, Reg.SMP_ACC_STATUS_FULL, Reg.SMP_ACC_STATUS_STALE]), ← fb_eq,
      full_accShown]

/-! ### A further result -/

theorem accAdd_of_lt {s : State} {a : Nat} (x : Int) (hlt : s.vn .accCount a < 1048575) :
    s.accAdd a x = (s.addV .accSum a x).addV .accCount a 1 := if_neg (by omega)

theorem accAdd_of_full {s : State} {a : Nat} (x : Int) (hfull : s.vn .accCount a = 1048575) : s.accAdd a x = s.setOn .accFull a true :=
  if_pos hfull.ge

end State
end Sys2Proof.Machine
end

section
open Sys2Proof Sys2Proof.Machine Sys2Proof.Machine.State

/-- Settles O54: AVG of a window that is not STALE is the rounded quotient, which fits its 32 bits, and the end of the cause ACC_EMPTY
leaves it. -/
theorem accumulatorMean : Obligations.AccumulatorMean := by
  unfold Obligations.AccumulatorMean
  intro s a v ha hn hmin hsum
  rw [avg_accLatch s ha hmin hn hsum]
  exact avgRound_nearest _ hn

/-- Settles O55: no MIN_COUNT lies above the largest count, so a full window is not STALE. -/
theorem accumulatorFull : Obligations.AccumulatorFull := by
  unfold Obligations.AccumulatorFull
  refine ⟨fun s a x ha hcount hlt => ?_, fun s a v x ha hfull => ?_⟩
  · rw [accAdd_of_lt x hlt]
    constructor
    · rw [addV, v_setV_of_ctor _ _ (by decide) (by omega) (by omega), addV, v_setV_same]
    · rw [addV, vn_eq, v_setV_same, addV, v_setV_of_ctor _ _ (by decide) (by omega) (by omega), vn_eq]
      omega
  · have hother (y : Var) (hy : y.ctorIdx ≠ Var.accFull.ctorIdx) : (s.setOn .accFull a true).v y a = s.v y a :=
      v_setV_of_ctor _ _ hy (by omega) (by omega)
    have hcount : (s.setOn .accFull a true).vn .accCount a = 1048575 := by rw [vn_eq, hother _ (by decide), ← vn_eq, hfull]
    have hmin : (s.setOn .accFull a true).f Reg.SMP_ACC_CFG_MIN_COUNT a ≤ (s.setOn .accFull a true).vn .accCount a := by
      have := f_lt_width (s.setOn .accFull a true) Reg.SMP_ACC_CFG_MIN_COUNT a 0
      simp only [Reg.SMP_ACC_CFG_MIN_COUNT] at this ⊢
      omega
    obtain ⟨hshown, hflag⟩ := status_accLatch (v := v) _ ha hmin (by omega)
    rw [accAdd_of_full x hfull]
    exact ⟨hother _ (by decide), hcount, hflag.trans (by rw [on_eq, setOn, v_setV_same]; rfl), hshown.trans hcount⟩
end

-- ==== The entries of the queues stay within their units (O46) ====
section
/-!
Every function of the model keeps the entries of the eight queues within their units: one lemma per function, in the order of the calls,
each assembled from the lemmas of the functions it calls. Where a function queues an entry, its lemma says why the entry names a unit:
the unit's number is an operand of that range, comes from a list of that range, or is read from a field of that width. A lemma of a
function with several results speaks of the state it returns.
-/

namespace Sys2Proof.Machine.State
open Sys2Proof Sys2Proof.Machine

/-- The queues of `State.bounded`, one by one. -/
structure Bounded (s : State) : Prop where
  dmaFifo : ∀ e ∈ s.dmaFifo, e.buf < 16 ∧ e.core < 4
  runs : ∀ r ∈ s.runs, r.slot < 48 ∧ r.lane < 4
  edges : ∀ e ∈ s.edges, e.ch < 64
  canRx : ∀ e ∈ s.canRx, e.ch < 4 ∧ e.queue < 2 ∧ e.slot < 64
  canHold : ∀ x ∈ s.canHold, x.ch < 256
  egress : ∀ e ∈ s.egress, e.port < 4
  peers : ∀ p ∈ s.peers, p.port < 4
  accepts : ∀ a ∈ s.accepts, a.ch < 8

variable {s : State}

theorem bounded_iff : s.bounded = true ↔ Bounded s := by
  simp only [State.bounded, Bool.and_eq_true, List.all_eq_true, decide_eq_true_eq, and_assoc]
  exact ⟨fun ⟨h1, h2, h3, h4, h5, h6, h7, h8⟩ => ⟨h1, h2, h3, h4, h5, h6, h7, h8⟩,
    fun ⟨h1, h2, h3, h4, h5, h6, h7, h8⟩ => ⟨h1, h2, h3, h4, h5, h6, h7, h8⟩⟩

/-! ### Branches, lists and updates -/

theorem Bounded.ite {c : Prop} [Decidable c] {a b : State} (ha : Bounded a) (hb : Bounded b) : Bounded (if c then a else b) := by
  split <;> assumption

theorem Bounded.ite_fst {α : Type} {c : Prop} [Decidable c] {a b : State × α} (ha : Bounded a.1) (hb : Bounded b.1) :
    Bounded (if c then a else b).1 := by
  split <;> assumption

theorem Bounded.ite_snd {α : Type} {c : Prop} [Decidable c] {a b : α × State} (ha : Bounded a.2) (hb : Bounded b.2) :
    Bounded (if c then a else b).2 := by
  split <;> assumption

theorem Bounded.ite_snd_snd {α β : Type} {c : Prop} [Decidable c] {a b : α × β × State} (ha : Bounded a.2.2) (hb : Bounded b.2.2) :
    Bounded (if c then a else b).2.2 := by
  split <;> assumption

theorem Bounded.foldl {α : Type} (h : Bounded s) (k : State → α → State) (l : List α)
    (hk : ∀ s : State, Bounded s → ∀ x ∈ l, Bounded (k s x)) : Bounded (l.foldl k s) :=
  List.foldlRecOn (motive := Bounded) l k h hk

theorem Bounded.each {α : Type} (h : Bounded s) (l : List α) (k : State → α → State)
    (hk : ∀ s : State, Bounded s → ∀ x ∈ l, Bounded (k s x)) : Bounded (s.each l k) :=
  .foldl h k l hk

theorem Bounded.foldl_snd {α β : Type} {p : β × State} (h : Bounded p.2) (k : β × State → α → β × State) (l : List α)
    (hk : ∀ p : β × State, Bounded p.2 → ∀ x ∈ l, Bounded (k p x).2) : Bounded (l.foldl k p).2 :=
  List.foldlRecOn (motive := fun p => Bounded p.2) l k h hk

theorem Bounded.foldl_fst {α β : Type} {p : State × β} (h : Bounded p.1) (k : State × β → α → State × β) (l : List α)
    (hk : ∀ p : State × β, Bounded p.1 → ∀ x ∈ l, Bounded (k p x).1) : Bounded (l.foldl k p).1 :=
  List.foldlRecOn (motive := fun p => Bounded p.1) l k h hk

/-- An update of the parts beside the queues. -/
theorem Bounded.parts (h : Bounded s) {now : Nat} {regs : List (Nat × Word)} {vars : List (Nat × Int)}
    {timers : List (Nat × Option Nat)} {module : ModState} {stages : Vector StageCtl 7} {causes : List Cause}
    {cycleFaults : List CycleFault} {deferred : List FaultEvt} {release : List Protected} {queue : List Rec} {log : Log} {kept : List Kept}
    {challenges : List Challenge} {windows : List WinCtl} {pipe : List Sample} {sram : List Host.Cell} {denials : List Denial}
    {held handQueue : List (Req × Svc)} {handCmd : Option (Req × Svc)} {staging keyMem : List Host.Cell} {keyObs : KeyObs}
    {header early : List Byte} {image : List (Nat × List Byte)} {canTx : List TxFrame} {canLast : List (Nat × List Nat)}
    {canClaims : List Claim} {waiting : List Waiting} {colony replies : List Node} {out : List Out} {free : Nat} {pending : List Instr} :
    Bounded
      { now, regs, vars, timers, module, stages, causes, cycleFaults, deferred, release, queue, log, kept, challenges, windows,
        edges := s.edges, dmaFifo := s.dmaFifo, pipe, accepts := s.accepts, sram, runs := s.runs, denials, held, handQueue, handCmd,
        staging, keyMem, keyObs, header, early, image, canRx := s.canRx, canTx, canHold := s.canHold, canLast, canClaims,
        peers := s.peers, waiting, colony, replies, egress := s.egress, out, free, pending } :=
  { h with }

theorem Bounded.when (h : Bounded s) (b : Bool) (k : State → State) (hk : ∀ s : State, Bounded s → Bounded (k s)) : Bounded (s.when b k) :=
  .ite (hk _ h) h

theorem Bounded.expire (h : Bounded s) (t : Timer) (i : Nat) (k : State → State) (hk : ∀ s : State, Bounded s → Bounded (k s)) :
    Bounded (s.expire t i k) := by
  unfold State.expire
  split
  · exact h
  · exact hk _ { h with }

theorem Bounded.setWord (h : Bounded s) (k : Nat) (w : Word) : Bounded (s.setWord k w) := .parts h

theorem Bounded.setF (h : Bounded s) (f : Fld) (n : Nat) (v : Int) (j : Nat) : Bounded (s.setF f n v j) := .parts h

theorem Bounded.setFb (h : Bounded s) (f : Fld) (n : Nat) (b : Bool) (j : Nat) : Bounded (s.setFb f n b j) := .parts h

theorem Bounded.addF (h : Bounded s) (f : Fld) (n d j : Nat) : Bounded (s.addF f n d j) := .parts h

theorem Bounded.wrapF (h : Bounded s) (f : Fld) (n d j : Nat) : Bounded (s.wrapF f n d j) := .parts h

theorem Bounded.setV (h : Bounded s) (x : Var) (i : Nat) (v : Int) : Bounded (s.setV x i v) := .parts h

theorem Bounded.setOn (h : Bounded s) (x : Var) (i : Nat) (b : Bool) : Bounded (s.setOn x i b) := .parts h

theorem Bounded.addV (h : Bounded s) (x : Var) (i : Nat) (d : Int) : Bounded (s.addV x i d) := .parts h

theorem Bounded.setDue (h : Bounded s) (t : Timer) (i : Nat) (e : Option Nat) : Bounded (s.setDue t i e) := .parts h

theorem Bounded.close (h : Bounded s) (t : Timer) (i : Nat) : Bounded (s.close t i) := .parts h

theorem Bounded.openBy (h : Bounded s) (c : Nat) (t : Timer) (i len : Nat) : Bounded (s.openBy c t i len) := .parts h

theorem Bounded.openSlow (h : Bounded s) (t : Timer) (i len : Nat) : Bounded (s.openSlow t i len) := .parts h

theorem Bounded.openLoop (h : Bounded s) (t : Timer) (i len : Nat) : Bounded (s.openLoop t i len) := .parts h

theorem Bounded.setW1c (h : Bounded s) (f : Fld) (n v j : Nat) : Bounded (s.setW1c f n v j) := .parts h

theorem Bounded.setStg (h : Bounded s) (t : Stage) (c : StageCtl) : Bounded (s.setStg t c) := .parts h

theorem Bounded.emit (h : Bounded s) (o : Out) : Bounded (s.emit o) := .parts h

theorem Bounded.synced (h : Bounded s) : Bounded s.synced := by
  obtain ⟨timers, hs | ⟨b, hs⟩⟩ := s.synced_parts <;> rw [hs]
  · exact .parts h
  · exact .parts h

theorem Bounded.done {w u : State} (h : Bounded w) (hd : Machine.done w = .next u) : Bounded u :=
  Host.Outcome.next.inj hd ▸ .synced h

/-! ### Updates of one queue -/

theorem Bounded.of_dmaFifo (h : Bounded s) {l : List DmaEntry} (hl : ∀ e ∈ l, e.buf < 16 ∧ e.core < 4) : Bounded { s with dmaFifo := l } :=
  { h with dmaFifo := hl }

theorem Bounded.of_runs (h : Bounded s) {l : List Run} (hl : ∀ r ∈ l, r.slot < 48 ∧ r.lane < 4) : Bounded { s with runs := l } :=
  { h with runs := hl }

theorem Bounded.of_edges (h : Bounded s) {l : List Edge} (hl : ∀ e ∈ l, e.ch < 64) : Bounded { s with edges := l } :=
  { h with edges := hl }

theorem Bounded.of_canRx (h : Bounded s) {l : List CanEntry} (hl : ∀ e ∈ l, e.ch < 4 ∧ e.queue < 2 ∧ e.slot < 64) :
    Bounded { s with canRx := l } :=
  { h with canRx := hl }

theorem Bounded.of_canHold (h : Bounded s) {l : List TxFrame} (hl : ∀ x ∈ l, x.ch < 256) : Bounded { s with canHold := l } :=
  { h with canHold := hl }

theorem Bounded.of_egress (h : Bounded s) {l : List Egress} (hl : ∀ e ∈ l, e.port < 4) : Bounded { s with egress := l } :=
  { h with egress := hl }

theorem Bounded.of_peers (h : Bounded s) {l : List Peer} (hl : ∀ p ∈ l, p.port < 4) : Bounded { s with peers := l } :=
  { h with peers := hl }

theorem Bounded.of_accepts (h : Bounded s) {l : List Accept} (hl : ∀ a ∈ l, a.ch < 8) : Bounded { s with accepts := l } :=
  { h with accepts := hl }

/-- A queue that takes one more entry. -/
theorem forall_mem_concat {α : Type} {p : α → Prop} {l : List α} {x : α} (hl : ∀ e ∈ l, p e) (hx : p x) : ∀ e ∈ l ++ [x], p e :=
  List.forall_mem_append.2 ⟨hl, List.forall_mem_singleton.2 hx⟩

/-- A queue that loses entries. -/
theorem forall_mem_filter {α : Type} {p : α → Prop} {l : List α} (hl : ∀ e ∈ l, p e) (q : α → Bool) : ∀ e ∈ l.filter q, p e :=
  fun e he => hl e (List.mem_of_mem_filter he)

theorem forall_mem_erase {α : Type} [BEq α] {p : α → Prop} {l : List α} (hl : ∀ e ∈ l, p e) (x : α) : ∀ e ∈ l.erase x, p e :=
  fun e he => hl e (List.mem_of_mem_erase he)

theorem forall_mem_replace {α : Type} [BEq α] [LawfulBEq α] {p : α → Prop} {l : List α} (hl : ∀ e ∈ l, p e) {x y : α} (hy : p y) :
    ∀ e ∈ l.replace x y, p e := by
  induction l with
  | nil => exact hl
  | cons z l ih =>
    obtain ⟨hz, hrest⟩ := List.forall_mem_cons.1 hl
    rw [List.replace_cons]
    split
    · exact List.forall_mem_cons.2 ⟨hy, hrest⟩
    · exact List.forall_mem_cons.2 ⟨hz, ih hrest⟩

/-- A queue whose entries are updated. -/
theorem forall_mem_map {α : Type} {p : α → Prop} {l : List α} (hl : ∀ e ∈ l, p e) {k : α → α} (hk : ∀ e, p e → p (k e)) :
    ∀ e ∈ l.map k, p e :=
  List.forall_mem_map.2 fun e he => hk e (hl e he)

theorem lt_of_mem_range_filter {n x : Nat} {p : Nat → Bool} (hx : x ∈ (List.range n).filter p) : x < n :=
  List.mem_range.1 (List.mem_of_mem_filter hx)

/-- Every queue is empty after reset. -/
theorem bounded_reset : Bounded State.reset := bounded_iff.1 rfl

/-! ### Reports -/

theorem Bounded.admitRec (h : Bounded s) (a : RepArg) (r : Rec) : Bounded (s.admitRec a r) := by
  unfold State.admitRec
  dsimp only
  refine .ite (.addF (.addV h ..) ..) (.ite (.addF (.addV h ..) ..) (.setF ?_ ..))
  exact .when (.setV (.parts h) ..) _ _ fun _ h => .addV h ..

theorem Bounded.refilled (h : Bounded s) (code : Nat) : Bounded (s.refilled code) := by
  unfold State.refilled
  split
  · exact .ite (.setV (.setV h ..) ..) h
  · exact h

theorem Bounded.enqueue (h : Bounded s) (a : RepArg) : Bounded (s.enqueue a) :=
  .ite h (.ite (.parts h) (.admitRec (.ite h (.refilled h ..)) ..))

theorem Bounded.report (h : Bounded s) (a : RepArg) : Bounded (s.report a) := .enqueue (.setW1c h ..) ..

/-! ### Time, words and reports -/

theorem Bounded.idle (h : Bounded s) : Bounded s.idle := .parts h

theorem Bounded.append (h : Bounded s) (r : Rec) : Bounded (s.append r) := .addF (.parts h) ..

theorem Bounded.markSeen (h : Bounded s) (code : Nat) : Bounded (s.markSeen code) := .setW1c h ..

theorem Bounded.appendOwn (h : Bounded s) (a : RepArg) : Bounded (s.appendOwn a) := .append (.markSeen h ..) ..

theorem Bounded.fullCheck (h : Bounded s) : Bounded s.fullCheck := .ite (.setOn (.appendOwn h ..) ..) h

theorem Bounded.fillCheck (h : Bounded s) : Bounded s.fillCheck := .fullCheck (.ite (.parts (.appendOwn (.setOn h ..) ..)) (.setOn h ..))

theorem Bounded.fresh (s : State) (m : ModState) : Bounded (s.fresh m) :=
  .each (.setOn (.parts bounded_reset) ..) _ _ fun _ h _ _ => .setFb h ..

theorem Bounded.safetyBegin (h : Bounded s) : Bounded s.safetyBegin :=
  .each (.openSlow (.openSlow (.setF (.setFb (.setF (.each h _ _ fun _ h _ _ => .setOn (.setOn h ..) ..) ..) ..) ..) ..) ..)
    _ _ fun _ h _ _ => .openSlow (.setV h ..) ..

theorem Bounded.updCause (h : Bounded s) (code inst : Nat) (k : Cause → Cause) : Bounded (s.updCause code inst k) := .parts h

theorem Bounded.setCause (h : Bounded s) (code inst : Nat) (transient : Bool) : Bounded (s.setCause code inst transient) := .updCause h ..

theorem Bounded.restoreLatches (h : Bounded s) : Bounded s.restoreLatches :=
  .each (.each h _ _ fun _ h _ _ => .setCause (.setFb h ..) ..) _ _ fun _ h _ _ => .setCause h ..

theorem Bounded.note (h : Bounded s) (code d0 : Nat) (d1 d2 : Nat) : Bounded (s.note code d0 d1 d2) := .report h ..

theorem Bounded.begin (s : State) (source unit : Nat) : Bounded (s.begin source unit) := by
  have hfresh (u : State) : Bounded (u.fresh .starting) := .fresh ..
  unfold State.begin
  refine .ite (.note ?_ ..) ?_
  all_goals
    exact .each (.safetyBegin (.restoreLatches (.setF (.setF (.setF (.setF (.setF (.setF (.setV (.setV (.setV (.addF
      (hfresh _) ..) ..) ..) ..) ..) ..) ..) ..) ..) ..))) _ _ fun _ h _ _ => .setFb h ..

theorem Bounded.execVauxValid (h : Bounded s) {t : Nat} {u : State} (hu : execVauxValid t s = .next u) : Bounded u :=
  .done (.ite (.begin ..) (.parts h)) hu

theorem Bounded.pendingSync (h : Bounded s) : Bounded s.pendingSync := .setF h ..

theorem Bounded.keyErase (h : Bounded s) (a n : Nat) : Bounded (s.keyErase a n) := .parts h

theorem Bounded.keyFail (h : Bounded s) (code : Nat) : Bounded (s.keyFail code) :=
  .note (.setV (.setF (.setF (.ite h (.pendingSync (.keyErase h ..))) ..) ..) ..) ..

theorem Bounded.vauxLost (h : Bounded s) : Bounded s.vauxLost := by
  unfold State.vauxLost
  exact .ite h (.ite (.fresh ..) (.ite h (.setV (.setOn (.markSeen (.parts (.ite (.keyFail h ..) h)) ..) ..) ..)))

theorem Bounded.execVauxInvalid (h : Bounded s) {t : Nat} {u : State} (hu : execVauxInvalid t s = .next u) : Bounded u :=
  .done (.vauxLost (.parts h)) hu

theorem Bounded.powerEnd (s : State) (m : ModState) : Bounded (s.powerEnd m) := .setV (.fresh ..) ..

theorem Bounded.execHoldupEnd (h : Bounded s) {t : Nat} {u : State} (hu : execHoldupEnd t s = .next u) : Bounded u :=
  .done (.ite (.powerEnd ..) (.parts h)) hu

theorem Bounded.wakeUp (h : Bounded s) (source unit : Nat) : Bounded (s.wakeUp source unit) := .ite (.begin ..) (.ite (.setV h ..) h)

theorem Bounded.execWake (h : Bounded s) {t : Nat} {u : State} (hu : execWake t s = .next u) : Bounded u :=
  .done (.wakeUp (.setV (.setOn (.parts h) ..) ..) ..) hu

theorem Bounded.execCanWakePattern (h : Bounded s) {channel : Fin 4} {t : Nat} {u : State} (hu : execCanWakePattern channel t s = .next u) :
    Bounded u :=
  .done (.ite (.wakeUp (.parts h) ..) (.parts h)) hu

theorem Bounded.execFabricWakeSignal (h : Bounded s) {port : Fin 4} {t : Nat} {u : State} (hu : execFabricWakeSignal port t s = .next u) :
    Bounded u :=
  .done (.ite (.wakeUp (.parts h) ..) (.parts h)) hu

theorem Bounded.idleRestart (h : Bounded s) : Bounded s.idleRestart := .ite (.openSlow h ..) h

theorem Bounded.countDropped (h : Bounded s) : Bounded s.countDropped := .addF h ..

theorem Bounded.limited (h : Bounded s) (r : Req) (summary : Bool) (k : State → State) (hk : ∀ a : State, Bounded a → Bounded (k a)) :
    Bounded (s.limited r summary k) := by
  unfold State.limited
  refine .ite ?_ (hk _ (.parts h))
  split
  · exact .note (.addF h ..) ..
  · exact .note (.addF h ..) ..
  · exact h

theorem Bounded.nextSeq (h : Bounded s) (kind : Nat) : Bounded (s.nextSeq kind).2 := .setV h ..

theorem Bounded.depart (h : Bounded s) (p : Nat) (f : Frame) (bad : Bool) (t : Nat) : Bounded (s.depart p f bad t) :=
  .emit (.setV (.addF h ..) ..) ..

theorem Bounded.drainPort (h : Bounded s) (p n : Nat) : Bounded (State.drainPort p n s) := by
  induction n generalizing s with
  | zero => exact h
  | succ n ih =>
    unfold State.drainPort
    split
    · exact h
    · exact .ite h (ih (.depart (.of_egress h (forall_mem_erase h.egress _)) ..))

theorem Bounded.servePort (h : Bounded s) (p : Nat) : Bounded (s.servePort p) := .drainPort h ..

theorem Bounded.sendOn (h : Bounded s) {p : Nat} (hp : p < 4) (f : Frame) (bad : Bool) : Bounded (s.sendOn p f bad) := by
  have hserved : Bounded (s.servePort p) := .servePort h ..
  unfold State.sendOn
  exact .ite (.depart hserved ..) (.of_egress hserved (forall_mem_concat hserved.egress hp))

theorem Bounded.sendTree (h : Bounded s) (f : Frame) : Bounded (s.sendTree f) :=
  .each h _ _ fun _ h _ hp => .sendOn h (lt_of_mem_range_filter hp) ..

theorem upPort_lt {p : Nat} (hp : s.upPort = some p) : p < 4 := List.mem_range.1 (List.mem_of_find?_eq_some hp)

theorem Bounded.sendUp (h : Bounded s) (f : Frame) : Bounded (s.sendUp f) := by
  unfold State.sendUp
  split
  next hp => exact .sendOn h (upPort_lt hp) ..
  · exact h

theorem Bounded.flood (h : Bounded s) (f : Frame) (but : Nat) : Bounded (s.flood f but) :=
  .each h _ _ fun _ h _ hp => .sendOn h (lt_of_mem_range_filter hp) ..

theorem Bounded.learned_lt (h : Bounded s) {src p : Nat} (hp : s.learned src = some p) : p < 4 := by
  unfold State.learned at hp
  split at hp
  next hfound =>
    obtain rfl := Option.some.inj hp
    exact h.peers _ (List.mem_of_find?_eq_some hfound)
  · cases hp

theorem Bounded.sendService (h : Bounded s) (dst : Nat) (body : List Byte) : Bounded (s.sendService dst body) := by
  have hnext : Bounded (s.nextSeq 8).2 := .nextSeq h ..
  unfold State.sendService
  refine .ite (.ite (.sendTree hnext ..) (.sendUp hnext ..)) ?_
  dsimp only
  split
  next hp => exact .ite (.sendOn hnext (hnext.learned_lt hp) ..) (.ite (.sendUp hnext ..) (.flood hnext ..))
  · exact .ite (.sendUp hnext ..) (.flood hnext ..)

theorem Bounded.fabricReply (h : Bounded s) (dst trans : Nat) (r : Reply) : Bounded (s.fabricReply dst trans r) :=
  .each h _ _ fun _ h _ _ => .sendService h ..

theorem Bounded.canSync (h : Bounded s) (ch : Nat) : Bounded (s.canSync ch) := .setF (.setF (.setF h ..) ..) ..

theorem Bounded.canPush (h : Bounded s) (t : TxFrame) : Bounded (s.canPush t) := .canSync (.parts h) ..

theorem Bounded.canRefuse (h : Bounded s) (ch : Nat) : Bounded (s.canRefuse ch) := .note (.addF h ..) ..

theorem Bounded.canOffer (h : Bounded s) (t : TxFrame) (urgent : Bool) : Bounded (s.canOffer t urgent).2 :=
  .ite_snd (.canPush h ..) (.canRefuse h ..)

theorem Bounded.canReply (h : Bounded s) (ch trans : Nat) (brs : Bool) (r : Reply) : Bounded (s.canReply ch trans brs r) :=
  .foldl_snd h _ _ fun _ h _ _ => .ite_snd (.canOffer h ..) h

theorem Bounded.sendReply (h : Bounded s) (r : Req) (rep : Reply) : Bounded (s.sendReply r rep) := by
  unfold State.sendReply
  dsimp only
  split
  · exact .fabricReply (.emit h ..) ..
  · exact .fabricReply (.emit h ..) ..
  · exact .canReply (.emit h ..) ..
  · exact .emit h ..

theorem Bounded.keep (h : Bounded s) (r : Req) (rep : Reply) : Bounded (s.keep r rep) := .ite (.parts h) (.parts h)

theorem Bounded.answer (h : Bounded s) (r : Req) (service status : Nat) (payload : List Byte) :
    Bounded (s.answer r service status payload) := by
  unfold State.answer
  exact .sendReply (.ite (.ite (.addF h ..) (.ite (.countDropped h) h)) (.keep (.ite (.addF h ..) (.ite (.countDropped h) h)) ..)) ..

theorem Bounded.countResult (h : Bounded s) (r : Res) : Bounded (s.countResult r) := .ite h (.addF h ..)

theorem Bounded.answerCmd (h : Bounded s) (r : Req) (c : Cmd) (x : Res) (data : List Byte) : Bounded (s.answerCmd r c x data) :=
  .answer (.countResult h ..) ..

theorem Bounded.refuseAll (h : Bounded s) (r : Req) (c : Svc) (code : Nat) : Bounded (s.refuseAll r c code) := by
  unfold State.refuseAll
  split
  · exact .answer (.each h _ _ fun _ h _ _ => .countResult h ..) ..
  · exact .answer (.each h _ _ fun _ h _ _ => .countResult h ..) ..
  · exact .answerCmd h ..
  · exact .answer h ..

theorem Bounded.setChallenges (h : Bounded s) (l : List Challenge) : Bounded (s.setChallenges l) := .setF (.parts h) ..

theorem Bounded.noteAuth (h : Bounded s) (code : Nat) (r : Req) (c : Svc) : Bounded (s.noteAuth code r c) := .note h ..

theorem Bounded.authFailure (h : Bounded s) (r : Req) (c : Svc) : Bounded (s.authFailure r c) := by
  unfold State.authFailure
  refine .ite (.noteAuth (.openSlow (.setFb ?_ ..) ..) ..) ?_
  all_goals exact .ite (.addF (.noteAuth h ..) ..) (.setF (.openSlow (.noteAuth h ..) ..) ..)

theorem Bounded.verify (h : Bounded s) (r : Req) (c : Svc) : Bounded (s.verify r c).2.2 := by
  unfold State.verify
  split
  · exact h
  · exact .ite_snd_snd h (.ite_snd_snd (.noteAuth (.setChallenges h ..) ..) (.authFailure (.setChallenges h ..) ..))

theorem Bounded.updEntry (h : Bounded s) (e : CanEntry) (k : CanEntry → CanEntry)
    (hk : ∀ x : CanEntry, (k x).ch = x.ch ∧ (k x).queue = x.queue ∧ (k x).slot = x.slot) : Bounded (s.updEntry e k) := by
  refine .of_canRx h (forall_mem_map h.canRx fun x hx => ?_)
  obtain ⟨hch, hqueue, hslot⟩ := hk x
  split
  · rwa [hch, hqueue, hslot]
  · exact hx

theorem Bounded.hostTake (h : Bounded s) (who : Requester) (ch : Nat) : Bounded (s.hostTake who ch).2 := by
  unfold State.hostTake
  split
  · exact h
  · refine .ite_snd h ?_
    refine .updEntry (.of_canRx h (forall_mem_map h.canRx fun x hx => ?_)) _ _ fun _ => ⟨rfl, rfl, rfl⟩
    split <;> exact hx

theorem Bounded.replaySync (h : Bounded s) : Bounded s.replaySync := .ite h (.setF h ..)

theorem Bounded.chgSync (h : Bounded s) : Bounded s.chgSync := .setFb (.setFb (.setFb (.setFb (.setFb h ..) ..) ..) ..) ..

theorem Bounded.fbMove (h : Bounded s) (n c : Nat) (d : Int) : Bounded (s.fbMove n c d) := .setV (.setF h ..) ..

theorem Bounded.dropDerates (h : Bounded s) : Bounded s.dropDerates := .each h _ _ fun _ h _ _ => .setStg h ..

theorem Bounded.noteAt (h : Bounded s) (code : Nat) (t : Stage) (d0 d1 d2 : Nat) : Bounded (s.noteAt code t d0 d1 d2) := .report h ..

theorem Bounded.spBack (h : Bounded s) (n : Nat) : Bounded (s.spBack n) := .ite (.updCause (.noteAt (.setFb h ..) ..) ..) h

theorem Bounded.spSourceBack (h : Bounded s) (t : Stage) : Bounded (s.spSourceBack t) := .each h _ _ fun _ h _ _ => .ite (.spBack h ..) h

theorem Bounded.protect (h : Bounded s) (out : ProtOut) (old : Nat) : Bounded (s.protect out old) := by
  unfold State.protect
  refine .ite h ?_
  dsimp only
  split
  · exact .setF (.parts h) ..
  · exact .setF (.parts h) ..

theorem Bounded.syncModule (h : Bounded s) (code : Nat) : Bounded (s.syncModule code) := by
  unfold State.syncModule
  exact .ite (.parts (.setV h ..)) (.ite (.parts (.setV h ..)) h)

theorem Bounded.regHistory (h : Bounded s) (c : Int) : Bounded (s.regHistory c) := .each h _ _ fun _ h _ _ => .setV (.setV h ..) ..

theorem Bounded.burstLeft (h : Bounded s) : Bounded s.burstLeft := .when h _ _ fun _ h => .regHistory h ..

theorem Bounded.snapFrom (h : Bounded s) : Bounded s.snapFrom := .setV (.setV h ..) ..

theorem Bounded.snapWrite (h : Bounded s) (f : Fld) (k i : Nat) (l : List Byte) : Bounded (s.snapWrite f k i l) :=
  .each (.each h _ _ fun _ h _ _ => .setV h ..) _ _ fun _ h _ _ => .setF h ..

theorem Bounded.linkSnapOf (h : Bounded s) (k detail seq : Nat) : Bounded (s.linkSnapOf k detail seq) := by
  unfold State.linkSnapOf
  exact .ite (.openSlow (.setF (.snapWrite h ..) ..) ..) (.addF h ..)

theorem Bounded.linkSnap (h : Bounded s) (k detail : Nat) : Bounded (s.linkSnap k detail) :=
  .ite (.setV (.setV h ..) ..) (.linkSnapOf h ..)

theorem Bounded.regLeft (h : Bounded s) (st code : Nat) : Bounded (s.regLeft st code) := .ite (.linkSnap h ..) (.ite (.linkSnap h ..) h)

theorem Bounded.regLeaves (h : Bounded s) (code : Nat) : Bounded (s.regLeaves code) :=
  .regLeft (.when (.setF (.setF (.burstLeft (.snapFrom h)) ..) ..) _ _ fun _ h => .linkSnap h ..) ..

theorem Bounded.enter (h : Bounded s) (t : Stage) (st : StageState) (code reaction : Nat) : Bounded (s.enter t st code reaction) := by
  unfold State.enter
  refine .ite (.regLeaves ?_ ..) ?_
  all_goals exact .syncModule (.close (.setStg (.when (.protect h ..) _ _ fun _ h => .setV h ..) ..) ..) ..

theorem Bounded.unlatchLegs (h : Bounded s) (t : Stage) : Bounded (s.unlatchLegs t) := .each h _ _ fun _ h _ _ => .setFb h ..

theorem Bounded.edges_filter (h : Bounded s) (q : Edge → Bool) : Bounded { s with edges := s.edges.filter q } :=
  .of_edges h (forall_mem_filter h.edges q)

theorem Bounded.endCommands (h : Bounded s) (n : Nat) : Bounded (s.endCommands n) :=
  .edges_filter (.setV (.setOn (.setOn (.setOn (.setOn (.setOn (.setFb (.setFb h ..) ..) ..) ..) ..) ..) ..) ..) _

theorem Bounded.releaseLatches (h : Bounded s) (t : Stage) : Bounded (s.releaseLatches t) := .parts h

theorem Bounded.slotsIdle (h : Bounded s) (t : Stage) : Bounded (s.slotsIdle t) :=
  .dropDerates (.parts (.each h _ _ fun _ h _ _ => .setFb (.setFb (.setFb (.setFb (.close (.close (.close (.setOn
    (.setOn h ..) ..) ..) ..) ..) ..) ..) ..) ..))

theorem Bounded.brakeZero (h : Bounded s) (k : Nat) : Bounded (s.brakeZero k) := .setV (.setV (.setF (.setV h ..) ..) ..) ..

theorem Bounded.abortTest (h : Bounded s) (k : Nat) : Bounded (s.abortTest k) := by
  unfold State.abortTest
  exact .ite (.report (.addF (.brakeZero (.setV (.setV (.close (.setFb (.setF h ..) ..) ..) ..) ..) ..) ..) ..) h

theorem Bounded.abortBrakeTest (h : Bounded s) (t : Stage) : Bounded (s.abortBrakeTest t) :=
  .each h _ _ fun _ h _ _ => .ite (.abortTest h ..) h

theorem Bounded.recordTouched (h : Bounded s) : Bounded s.recordTouched := by
  unfold State.recordTouched
  split
  · exact .setDue h ..
  · exact h

theorem Bounded.carrierStop (h : Bounded s) (t : Stage) : Bounded (s.carrierStop t) :=
  .edges_filter (.each (.setOn (.close (.close (.close (.setFb (.setFb (.recordTouched h) ..) ..) ..) ..) ..) ..)
    _ _ fun _ h _ _ => .setOn (.setOn (.setV (.close h ..) ..) ..) ..) _

theorem Bounded.brakeApply (h : Bounded s) (k : Nat) : Bounded (s.brakeApply k) := by
  unfold State.brakeApply
  exact .ite (.close (.close (.close (.setV (.setOn (.setF (.setFb (.protect h ..) ..) ..) ..) ..) ..) ..) ..) h

theorem Bounded.brakeSync (h : Bounded s) : Bounded s.brakeSync := by
  unfold State.brakeSync
  refine .each h _ _ ?_
  intro _ h _ _
  split
  · exact .brakeApply h ..
  · exact .ite h (.setF (.setFb (.protect h ..) ..) ..)

theorem Bounded.actStop (h : Bounded s) (a : Nat) : Bounded (s.actStop a) :=
  .parts (.setFb (.setV (.close (.close (.close (.close (.setFb (.setF (.setF h ..) ..) ..) ..) ..) ..) ..) ..) ..)

theorem Bounded.stageIdle (h : Bounded s) (t : Stage) : Bounded (s.stageIdle t) := by
  unfold State.stageIdle
  dsimp only
  split
  · exact .each (.close (.close (.close (.close (.setOn (.setV
      (.setV (.setV (.close (.setOn (.setOn (.setFb (.setFb
    (.setFb (.setFb (.setFb (.setFb (.setF (.setF (.setF
    (.setV h ..) ..) ..) ..) ..) ..) ..) ..) ..) ..) ..) ..) ..) ..) ..) ..) ..) ..) ..) ..) ..) _ _ fun _ h _ _ =>
    .setOn (.close (.close h ..) ..) ..
  · exact .close (.setOn (.setV (.setV h ..) ..) ..) ..
  · exact .actStop (.setV h ..) ..
  · exact .actStop (.setV h ..) ..
  · exact .setV h ..

theorem Bounded.stageEnds (h : Bounded s) (t : Stage) : Bounded (s.stageEnds t) :=
  .brakeSync (.stageIdle (.slotsIdle (.abortBrakeTest (.close (.carrierStop h ..) ..) ..) ..) ..)

theorem Bounded.turnOff (h : Bounded s) (c : Nat) : Bounded (s.turnOff c) := by
  unfold State.turnOff
  refine .ite (.ite (.addF (.setFb ?_ ..) ..) ?_) h
  all_goals exact .setOn (.setV (.setV (.setOn (.setOn h ..) ..) ..) ..) ..

theorem Bounded.legOff (h : Bounded s) (n : Nat) : Bounded (s.legOff n) := .turnOff (.turnOff (.setOn h ..) ..) ..

theorem Bounded.outputAllOff (h : Bounded s) (t : Stage) : Bounded (s.outputAllOff t) :=
  .setOn (.each (.each h _ _ fun _ h _ _ => .endCommands h ..) _ _ fun _ h _ _ => .legOff h ..) ..

theorem Bounded.dropD (h : Bounded s) : Bounded s.dropD := by
  unfold State.dropD
  exact .ite (.stageEnds (.releaseLatches (.enter (.unlatchLegs (.outputAllOff h ..) ..) ..) ..) ..) h

theorem Bounded.leaveActive (h : Bounded s) (t : Stage) : Bounded (s.leaveActive t) := .ite (.dropD (.stageEnds h ..)) (.stageEnds h ..)

theorem Bounded.chgSnap (h : Bounded s) (k before detail : Nat) : Bounded (s.chgSnap k before detail) := by
  unfold State.chgSnap
  exact .ite (.openSlow (.setF (.snapWrite h ..) ..) ..) (.addF h ..)

theorem Bounded.pRamp (h : Bounded s) : Bounded s.pRamp := .setV (.setV (.setV h ..) ..) ..

theorem Bounded.pStopNext (h : Bounded s) : Bounded s.pStopNext := by
  unfold State.pStopNext
  exact .ite (.ite (.chgSnap (.openSlow (.addF (.setOn (.setV h ..) ..) ..) ..) ..) (.pRamp h)) h

theorem Bounded.toStopped (h : Bounded s) (t : Stage) (code reaction : Nat) : Bounded (s.toStopped t code reaction) := by
  unfold State.toStopped
  refine .ite ?_ (.leaveActive (.releaseLatches (.enter (.setOn (.each (.unlatchLegs (.each h _ _ fun _ h _ _ => .endCommands h ..) ..)
    _ _ fun _ h _ _ => .setOn h ..) ..) ..) ..) ..)
  exact .pStopNext (.leaveActive (.releaseLatches (.enter (.setOn (.each
    (.unlatchLegs (.each h _ _ (fun _ h _ _ => .endCommands h ..)) ..) _ _
  (fun _ h _ _ => .setOn h ..)) ..) ..) ..) ..)

theorem Bounded.protectStage (h : Bounded s) (t : Stage) : Bounded (s.protectStage t) := .protect h ..

theorem Bounded.rampThenOff (h : Bounded s) (t : Stage) (len : Nat) : Bounded (s.rampThenOff t len) := .setV (.openLoop h ..) ..

theorem Bounded.stopStart (h : Bounded s) (t : Stage) : Bounded (s.stopStart t) := by
  unfold State.stopStart
  split
  · exact .rampThenOff h ..
  · exact .rampThenOff h ..
  · exact .ite (.toStopped h ..) (.regLeft (.setV (.openLoop (.setV (.setF (.burstLeft (.snapFrom h)) ..) ..) ..) ..) ..)
  · exact .setV h ..
  · exact .ite (.openLoop h ..) (.setV (.openLoop h ..) ..)
  · exact .rampThenOff h ..
  · exact .rampThenOff h ..

theorem Bounded.beginStop1 (h : Bounded s) (t : Stage) (code reaction : Nat) : Bounded (s.beginStop1 t code reaction) := by
  unfold State.beginStop1
  dsimp only
  split
  · exact .toStopped (.protectStage h ..) ..
  · exact .ite h (.stopStart (.abortBrakeTest (.setV (.setV (.setStg (.protectStage h ..) ..) ..) ..) ..) ..)
  · exact .ite h (.stopStart (.abortBrakeTest (.setV (.setV (.setStg (.protectStage h ..) ..) ..) ..) ..) ..)
  · exact h

theorem Bounded.beginStop (h : Bounded s) (t : Stage) (code reaction : Nat) : Bounded (s.beginStop t code reaction) := by
  unfold State.beginStop
  refine .ite (.ite (.setV ?_ ..) ?_) (.beginStop1 h ..)
  all_goals exact .pStopNext (.ite (.beginStop1 (.beginStop1 h ..) ..) (.beginStop1 h ..))

theorem Bounded.tryRestore (h : Bounded s) (t : Stage) : Bounded (s.tryRestore t) := by
  unfold State.tryRestore
  exact .ite (.ite (.beginStop (.spSourceBack (.enter h ..) ..) ..) (.spSourceBack (.enter h ..) ..)) h

theorem Bounded.settle1 (h : Bounded s) : Bounded s.settle1 :=
  .dropDerates (.each h _ _ fun _ h _ _ => .ite (.tryRestore (.setStg h ..) ..) h)

theorem Bounded.settleN (h : Bounded s) (n : Nat) : Bounded (State.settleN n s) := by
  induction n generalizing s with
  | zero => exact h
  | succ n ih =>
    unfold State.settleN
    exact .ite (.settle1 h) (ih (.settle1 h))

theorem Bounded.settle (h : Bounded s) : Bounded s.settle := .settleN h ..

theorem Bounded.clearCause (h : Bounded s) (code inst : Nat) : Bounded (s.clearCause code inst) := .ite (.settle (.updCause h ..)) h

theorem Bounded.refRises (h : Bounded s) (n : Nat) : Bounded (s.refRises n) :=
  .clearCause (.each (.setFb h ..) _ _ fun _ h _ _ => .clearCause h ..) ..

theorem Bounded.cmpFire (h : Bounded s) (a c : Nat) (pos : Int) (at' : Nat) : Bounded (s.cmpFire a c pos at') := by
  unfold State.cmpFire
  refine .when (.ite ?_ (.setV ?_ ..)) _ _ fun _ h => .noteAt h ..
  all_goals exact .addF (.setF (.setF (.setW1c (.setFb (.setFb h ..) ..) ..) ..) ..) ..

theorem Bounded.cmpTest (h : Bounded s) (a c n : Nat) : Bounded (s.cmpTest a c n) := by
  unfold State.cmpTest
  exact .ite (.ite (.cmpFire (.addF h ..) ..) (.when (.setW1c (.setFb (.addF h ..) ..) ..) _ _ fun _ h => .noteAt h ..)) h

theorem Bounded.cmpRetest (h : Bounded s) (n : Nat) : Bounded (s.cmpRetest n) :=
  .each h _ _ fun _ h _ _ => .each h _ _ fun _ h _ _ => .ite (.cmpTest h ..) h

theorem Bounded.indexStep (h : Bounded s) (n : Nat) : Bounded (s.indexStep n).1 := by
  unfold State.indexStep
  exact .ite_fst (.setOn h ..) (.ite_fst h (.ite_fst (.setV (.refRises (.cmpRetest (.setF (.setOn h ..) ..) ..) ..) ..) (.ite_fst (.setV
    (.when (.setF (.addF (.setOn h ..) ..) ..) _ _ fun _ h => .cmpRetest (.addV (.setF h ..) ..) ..) ..) (.setV (.setOn h ..) ..))))

theorem Bounded.unblock (h : Bounded s) (a : Nat) (pos : Int) : Bounded (s.unblock a pos) := .ite (.clearCause (.setFb h ..) ..) h

theorem Bounded.cmpCross (h : Bounded s) (a c : Nat) (p p' : Int) (at' : Nat) : Bounded (s.cmpCross a c p p' at') :=
  .ite (.cmpFire h ..) h

theorem Bounded.unabort (h : Bounded s) (k : Nat) : Bounded (s.unabort k) := by
  unfold State.unabort
  exact .ite (.setOn (.setV (.setF (.setF (.parts h) ..) ..) ..) ..) h

theorem Bounded.nextTag (h : Bounded s) : Bounded (s.nextTag).2 := .setV h ..

theorem Bounded.retag (h : Bounded s) (l : List CycleFault) (tag : Nat) (ex : Bool) : Bounded (s.retag l tag ex) :=
  .each (.parts h) _ _ fun _ h _ _ => .ite (.setV h ..) h

theorem Bounded.keepFaults (h : Bounded s) (fs : List FaultEvt) (tag : Nat) : Bounded (s.keepFaults fs tag) := .parts h

theorem Bounded.reportAll (h : Bounded s) (fs : List FaultEvt) : Bounded (s.reportAll fs) := by
  unfold State.reportAll
  dsimp only
  split
  · exact .each (.keepFaults (.retag h ..) ..) _ _ fun _ h _ _ => .report h ..
  · exact .each (.keepFaults (.retag (.ite_snd (.nextTag h) h) ..) ..) _ _ fun _ h _ _ => .report h ..

theorem Bounded.trigBuffers (h : Bounded s) (t : Stage) : Bounded (s.trigBuffers t) :=
  .each h _ _ fun _ h _ _ => .ite (.setV (.setOn h ..) ..) h

/-! ### Reactions to a fault (Table 1-8) -/

theorem Bounded.latchStages (h : Bounded s) (code inst : Nat) (l : List Stage) : Bounded (s.latchStages code inst l) := .updCause h ..

theorem Bounded.derate (h : Bounded s) (t : Stage) (code : Nat) (momentary : Bool) : Bounded (s.derate t code momentary) :=
  .ite h (.setStg h ..)

theorem Bounded.openHold (h : Bounded s) (t : Stage) : Bounded (s.openHold t) := .openSlow h ..

theorem Bounded.setRank (h : Bounded s) (t : Stage) (rank reaction : Nat) : Bounded (s.setRank t rank reaction) :=
  .setV (.setV (.setV h ..) ..) ..

theorem Bounded.holdBy (h : Bounded s) (t : Stage) (h' : HoldCause) (code : Nat) : Bounded (s.holdBy t h' code) := by
  unfold State.holdBy
  dsimp only
  split
  · exact .ite h (.each (.openHold (.enter (.abortBrakeTest (.setStg (.setRank h ..) ..) ..) ..) ..) _ _ fun _ h _ _ => .close h ..)
  · exact .setStg h ..
  · exact .setStg h ..
  · exact h

theorem Bounded.driveLow (h : Bounded s) (n : Nat) : Bounded (s.driveLow n) :=
  .setV (.setFb (.setV (.setOn (.setOn (.setOn h ..) ..) ..) ..) ..) ..

theorem Bounded.addOn (h : Bounded s) {c : Nat} (hc : c < 64) (t : Nat) : Bounded (s.addOn c t) :=
  .of_edges h (forall_mem_concat h.edges hc)

theorem Bounded.ascTurnOn (h : Bounded s) {n : Nat} (hn : n < 32) : Bounded (s.ascTurnOn n) := by
  unfold State.ascTurnOn
  refine .ite (.setOn h ..) (.ite (.setOn h ..) ?_)
  exact .ite (.driveLow (.setOn h ..) ..) (.addOn (.setOn h ..) (by omega) ..)

theorem Bounded.outputAsc (h : Bounded s) (t : Stage) : Bounded (s.outputAsc t) := by
  refine .setOn (.each h _ _ fun s h n hn => ?_) ..
  have hoff {b : Bool} : Bounded ((((s.endCommands n).setOn .chCmd (2 * n + 1) b).setOn .staggerLeg n false).turnOff (2 * n)) :=
    .turnOff (.setOn (.setOn (.endCommands h ..) ..) ..) ..
  exact .ite (.setFb hoff ..) (.ite hoff (.ite (.setOn (.setFb hoff ..) ..) (.ascTurnOn (.setFb hoff ..) (lt_of_mem_legs hn))))

theorem Bounded.outputOff (h : Bounded s) (t : Stage) : Bounded (s.outputOff t) := by
  unfold State.outputOff
  refine .ite (.each (.setOn (.each h _ _ fun _ h _ _ => .endCommands h ..) ..) _ _ fun _ h _ _ => .legOff h ..) ?_
  dsimp only
  split
  · exact .close (.each (.setOn (.each h _ _ fun _ h _ _ => .endCommands h ..) ..) _ _ fun _ h _ _ => .setOn h ..) ..
  · refine .ite (.close ?_ ..) (.openBy ?_ ..)
    all_goals exact .legOff (.each (.setOn (.each h _ _ fun _ h _ _ => .endCommands h ..) ..) _ _ fun _ h _ _ => .setOn h ..) ..

theorem Bounded.setAuto (h : Bounded s) (n : Nat) (b : Bool) : Bounded (s.setAuto n b) := .setFb (.setFb h ..) ..

theorem Bounded.slotsManual (h : Bounded s) (t : Stage) : Bounded (s.slotsManual t) :=
  .each h _ _ fun _ h _ _ => .when (.each (.setAuto h ..) _ _ fun _ h _ _ => .setV (.setF h ..) ..) _ _ fun _ h => .noteAt h ..

theorem Bounded.toSafe (h : Bounded s) (t : Stage) (asc : Bool) (code reaction : Nat) : Bounded (s.toSafe t asc code reaction) := by
  unfold State.toSafe
  refine .ite ?_ (.leaveActive (.slotsManual (.enter ?_ ..) ..) ..)
  all_goals exact .ite (.setRank h ..) (.ite (.outputAsc (.setRank h ..) ..) (.outputOff (.setRank h ..) ..))

theorem Bounded.moduleToSafe (h : Bounded s) (code : Nat) : Bounded (s.moduleToSafe code) := by
  unfold State.moduleToSafe
  split
  · exact .parts (.setV (.protect (.setV (.setV h ..) ..) ..) ..)
  · exact .parts (.setV (.protect (.setV (.setV h ..) ..) ..) ..)
  · exact .parts (.setV (.protect (.setV (.setV h ..) ..) ..) ..)
  · exact h

theorem Bounded.moduleSafe (h : Bounded s) (code reaction : Nat) : Bounded (s.moduleSafe code reaction) := by
  unfold State.moduleSafe
  exact .ite (.each (.moduleToSafe h ..) _ _ fun _ h _ _ => .toSafe h ..) (.moduleToSafe h ..)

theorem Bounded.react (h : Bounded s) (t : Stage) (reaction code inst : Nat) (momentary : Bool) :
    Bounded (s.react t reaction code inst momentary) := by
  unfold State.react
  exact .ite (.each (.derate h ..) _ _ fun _ h _ _ => .ite (.abortTest h ..) h) (.ite (.holdBy h ..) (.ite (.beginStop h ..) (.ite
    (.latchStages (.toSafe h ..) ..) (.ite (.latchStages (.toSafe h ..) ..) (.ite (.latchStages (.each h
    _ _ fun _ h _ _ => .toSafe h ..) ..) (.ite (.ite (.latchStages (.moduleSafe h ..) ..) (.moduleSafe h ..)) h))))))

theorem Bounded.overtake (h : Bounded s) (t : Stage) (rank code reaction : Nat) : Bounded (s.overtake t rank code reaction) := by
  unfold State.overtake
  refine .ite (.enter ?_ ..) (.ite ?_ (.ite (.setV (.setV (.when h _ _ fun _ h => .setStg h ..) ..) ..) (.when h
    _ _ fun _ h => .setStg h ..)))
  all_goals exact .setStg (.when h _ _ fun _ h => .setStg h ..) ..

theorem Bounded.carryOut (h : Bounded s) (t : Stage) (reaction code inst : Nat) (momentary : Bool) :
    Bounded (s.carryOut t reaction code inst momentary) :=
  .ite h (.react (.setRank (.overtake h ..) ..) ..)

theorem Bounded.carryAll (h : Bounded s) (fs : List FaultEvt) : Bounded (s.carryAll fs) := by
  unfold State.carryAll
  refine .settle (.each (.each h _ _ ?_) _ _ fun _ h _ _ => .carryOut h ..)
  intro _ h _ _
  split
  · exact .carryOut h ..
  · exact h

theorem Bounded.raiseAll (h : Bounded s) (fs : List FaultEvt) : Bounded (s.raiseAll fs) := by
  unfold State.raiseAll
  extract_lets s1 s2 s3 s4 s5
  have h3 : Bounded s3 := .each (.each (.reportAll h ..) _ _ fun _ h _ _ => .protect h ..) _ _ fun _ h _ _ =>
    .each h _ _ fun _ h _ _ => .trigBuffers h ..
  have h4 : Bounded s4 := .each h3 _ _ fun _ h _ _ => .when (.when (.when h _ _ fun _ h => .setCause h ..) _ _ fun _ h =>
    .latchStages h ..) _ _ fun _ h => .updCause h ..
  exact .ite (.carryAll (.parts h4) ..) (.carryAll h4 ..)

theorem Bounded.raise (h : Bounded s) (f : FaultEvt) : Bounded (s.raise f) := .raiseAll h ..

theorem Bounded.brakeMoved (h : Bounded s) (n : Nat) (pos : Int) : Bounded (s.brakeMoved n pos) := by
  unfold State.brakeMoved
  exact .each h _ _ fun _ h _ _ => .ite (.ite (.setF (.when h _ _ fun _ h => .unabort h ..) ..) (.raise (.addF (.setFb (.brakeZero (.close
    (.setFb (.setF (.setF (.when h _ _ fun _ h => .unabort h ..) ..) ..) ..) ..) ..) ..) ..) ..)) (.when h _ _ fun _ h => .unabort h ..)

theorem Bounded.moved (h : Bounded s) (n : Nat) (p p' : Int) (at' : Nat) : Bounded (s.moved n p p' at') := by
  unfold State.moved
  exact .ite h (.brakeMoved (.each h _ _ fun _ h _ _ => .unblock (.each h _ _ fun _ h _ _ => .cmpCross h ..) ..) ..)

theorem Bounded.fbPush (h : Bounded s) (n c : Nat) : Bounded (s.fbPush n c) :=
  .setDue (.setV (.setV (.each h _ _ fun _ h _ _ => .setV h ..) ..) ..) ..

theorem Bounded.fbDir (h : Bounded s) (n c : Nat) (edge : Bool) : Bounded (s.fbDir n c edge) := by
  unfold State.fbDir
  exact .ite (.when (.setV (.setV (.setFb h ..) ..) ..) _ _ fun _ h => .fbPush h ..) (.ite (.when (.setV h ..)
    _ _ fun _ h => .fbPush h ..) h)

theorem Bounded.winFirst (h : Bounded s) (n c : Nat) : Bounded (s.winFirst n c) := .ite (.setV (.setV h ..) ..) h

theorem Bounded.fbLost (h : Bounded s) (n : Nat) : Bounded (s.fbLost n) := .each h _ _ fun _ h _ _ => .ite (.abortTest h ..) h

theorem Bounded.refFalls (h : Bounded s) (n : Nat) : Bounded (s.refFalls n) := by
  unfold State.refFalls
  refine .ite (.each (.fbLost (.setFb h ..) ..) _ _ ?_) h
  intro _ h _ _
  split
  · exact .ite (.raise h ..) h
  · exact h

theorem Bounded.fbFault (h : Bounded s) (code n : Nat) (inst reaction : Nat) (d1 d2 : Nat) (lasting : Bool) :
    Bounded (s.fbFault code n inst reaction d1 d2 lasting) :=
  .raise h ..

theorem Bounded.fbPosition (h : Bounded s) (code n d1 : Nat) (lasting : Bool) : Bounded (s.fbPosition code n d1 lasting) := .fbFault h ..

theorem Bounded.countError (h : Bounded s) (n : Nat) : Bounded (s.countError n) :=
  .fbPosition (.ite (.refFalls (.addF h ..) ..) (.addF h ..)) ..

theorem Bounded.indexCheck (h : Bounded s) (n : Nat) : Bounded (s.indexCheck n) := .ite (.fbPosition (.setV h ..) ..) h

theorem Bounded.encoderCycle (h : Bounded s) (n c old : Nat) : Bounded (s.encoderCycle n c old) := by
  unfold State.encoderCycle
  dsimp only
  refine .indexCheck ?_ ..
  split
  · refine .raise (.ite (.countError ?_ ..) ?_) ..
    all_goals exact .moved (.fbDir (.winFirst
      (.indexStep (.ite (.fbMove h ..) h) ..) ..) ..) ..
  · refine .ite (.countError ?_ ..) ?_
    all_goals exact .moved (.fbDir (.winFirst
      (.indexStep (.ite (.fbMove h ..) h) ..) ..) ..) ..

theorem Bounded.hallChange (h : Bounded s) (n c code : Nat) : Bounded (s.hallChange n c code) := by
  unfold State.hallChange
  refine .ite (.setF (.setF h ..) ..) (.ite ?_ (.ite (.fbPosition (.addF (.ite (.setOn ?_ ..) (.moved (.fbDir (.winFirst (.fbMove
    (.setOn ?_ ..) ..) ..) ..) ..)) ..) ..) (.ite (.setOn ?_ ..) (.moved (.fbDir (.winFirst (.fbMove (.setOn ?_ ..) ..) ..) ..) ..))))
  all_goals exact .setV (.refRises (.setF (.setF h ..) ..) ..) ..

theorem Bounded.filterFrom (h : Bounded s) (tm : Timer) (i n c : Nat) : Bounded (s.filterFrom tm i n c) := .ite h (.setDue h ..)

theorem Bounded.lapseAt (h : Bounded s) (clk at' : Nat) (t : Timer) (i : Nat) : Bounded (s.lapseAt clk at' t i) := by
  unfold State.lapseAt
  split
  · exact .ite h (.close h ..)
  · exact h

theorem Bounded.hallCycle (h : Bounded s) (n c : Nat) : Bounded (s.hallCycle n c) := by
  unfold State.hallCycle
  refine .ite ?_ (.ite ?_ (.lapseAt (.ite h (.hallChange h ..)) ..))
  all_goals exact .filterFrom (.lapseAt (.ite h (.hallChange h ..)) ..) ..

theorem Bounded.fbCycle (h : Bounded s) (n c : Nat) : Bounded (s.fbCycle n c) := by
  unfold State.fbCycle
  rw [List.partition_eq_filter_filter]
  have hrest : Bounded { s with accepts := s.accepts.filter (not ∘ fun a => a.ch == n && a.due == c) } :=
    .of_accepts h (forall_mem_filter h.accepts _)
  dsimp only
  split
  · exact .encoderCycle (.setV hrest ..) ..
  · exact .hallCycle (.setV hrest ..) ..
  · exact .setV hrest ..

theorem Bounded.fbCycles (h : Bounded s) (n v k : Nat) : Bounded (State.fbCycles n v k s) := by
  induction k generalizing s with
  | zero => exact h
  | succ k ih =>
    unfold State.fbCycles
    split
    · exact ih (.fbCycle h ..)
    · exact h

theorem Bounded.fbRun (h : Bounded s) (n v : Nat) : Bounded (s.fbRun n v) := .fbCycles h ..

theorem Bounded.accAdd (h : Bounded s) (a : Nat) (x : Int) : Bounded (s.accAdd a x) := .ite (.setOn h ..) (.addV (.addV h ..) ..)

theorem Bounded.accTake (h : Bounded s) (c v : Nat) : Bounded (s.accTake c v) := .each (.parts h) _ _ fun _ h _ _ => .accAdd h ..

theorem Bounded.legCompare (h : Bounded s) (c channel : Nat) (x : Int) : Bounded (s.legCompare c channel x) :=
  .each h _ _ fun _ h _ _ => .ite (.setFb h ..) h

theorem Bounded.cmpTake (h : Bounded s) (c m : Nat) : Bounded (s.cmpTake c m) :=
  .each (.parts (.accTake h ..)) _ _ fun _ h _ _ => .setV (.legCompare h ..) ..

theorem Bounded.putWord (h : Bounded s) (key v : Nat) : Bounded (s.putWord key v) := .setWord h ..

theorem Bounded.cursorAdvance (h : Bounded s) : Bounded s.cursorAdvance := .setF h ..

theorem Bounded.serveRead (h : Bounded s) (r : Req) (l : List (Nat × Nat)) : Bounded (s.serveRead r l) := by
  unfold State.serveRead
  dsimp only
  split
  · exact .answer (.each (.cursorAdvance (.ite_snd (.hostTake h ..) h)) _ _ fun _ h _ _ => .countResult h ..) ..
  · exact .answer (.each (.ite_snd (.hostTake h ..) h) _ _ fun _ h _ _ => .countResult h ..) ..

theorem Bounded.writeWindow (h : Bounded s) (who : Requester) (w sub : Nat) (v : Word) : Bounded (s.writeWindow who w sub v).2 :=
  .ite_snd (.ite_snd h (.ite_snd h (.parts h))) (.ite_snd h (.ite_snd h (.ite_snd h (.ite_snd h (.ite_snd h (.ite_snd h (.parts h)))))))

theorem Bounded.spWindow (h : Bounded s) (n : Nat) : Bounded (s.spWindow n) := .ite (.openSlow h ..) h

theorem Bounded.spRestore (h : Bounded s) (n : Nat) : Bounded (s.spRestore n) := .settle (.spBack h ..)

theorem Bounded.spApplied (h : Bounded s) (n : Nat) : Bounded (s.spApplied n) := by
  unfold State.spApplied
  refine .ite (.spRestore (.ite ?_ (.spWindow ?_ ..)) ..) (.ite ?_ (.spWindow ?_ ..))
  all_goals
    split
    · exact .setOn h ..
    · exact h

theorem Bounded.writeSetpoint (h : Bounded s) (n j : Nat) (v : Word) : Bounded (s.writeSetpoint n j v).2 := by
  unfold State.writeSetpoint
  refine .ite_snd h (.ite_snd (.setF h ..) ?_)
  split
  · exact .noteAt (.addF h ..) ..
  · exact .spApplied (.setF h ..) ..

theorem Bounded.writeLeg (h : Bounded s) (w : WordDef) (n key : Nat) (v : Word) : Bounded (s.writeLeg w n key v).2 := by
  unfold State.writeLeg
  exact .ite_snd h (.ite_snd h (.ite_snd (.ite_snd (.setDue (.setFb (.setF (.recordTouched h) ..) ..) ..) (.setF (.recordTouched h) ..))
    (.setWord (.recordTouched h) ..)))

theorem Bounded.budgetShow (h : Bounded s) : Bounded s.budgetShow := .setF (.setF (.each h _ _ fun _ h _ _ => .setF h ..) ..) ..

theorem Bounded.writePeriod {s u : State} (h : Bounded s) {t : Stage} {v : Nat} (hu : s.writePeriod t v = some u) : Bounded u := by
  obtain ⟨-, hu⟩ := Option.ite_none_right_eq_some.1 hu
  exact Option.some.inj hu ▸ .budgetShow (.setF h ..)

theorem Bounded.cmpArm (h : Bounded s) (a c : Nat) : Bounded (s.cmpArm a c) := by
  unfold State.cmpArm
  split
  · exact h
  · exact .cmpTest (.setFb (.setFb h ..) ..) ..

theorem Bounded.cmpDisarm (h : Bounded s) (a c : Nat) : Bounded (s.cmpDisarm a c) := .setFb (.setFb h ..) ..

theorem Bounded.bufControl (h : Bounded s) (k v : Nat) : Bounded (s.bufControl k v) := by
  unfold State.bufControl
  exact .ite (.setFb (.setFb (.setF h ..) ..) ..) (.clearCause (.setV (.setOn (.setFb (.setFb (.setF h ..) ..) ..) ..) ..) ..)

theorem Bounded.brakeCmd (h : Bounded s) (v : Nat) : Bounded (s.brakeCmd v) :=
  .brakeSync (.each (.setF h ..) _ _ fun _ h _ _ => .ite (.setOn h ..) (.setOn (.brakeApply h ..) ..))

theorem Bounded.preEval (h : Bounded s) : Bounded s.preEval := by
  unfold State.preEval
  exact .ite (.ite h (.clearCause (.close (.setFb (.setFb h ..) ..) ..) ..)) (.ite (.setFb h ..) h)

theorem Bounded.closeRefused (h : Bounded s) : Bounded s.closeRefused := .note (.addF h ..) ..

theorem Bounded.drivers (h : Bounded s) (v : Nat) : Bounded (s.drivers v) := by
  unfold State.drivers
  refine .ite (.each (.setF (.protect h ..) ..) _ _ fun _ h _ _ => .ite (.setV (.setV (.openSlow h ..) ..) ..) h) ?_
  exact .close (.close (.setFb (.setFb (.each (.setF
    (.protect h ..) ..) _ _ (fun _ h _ _ => .ite (.setV (.setV
  (.openSlow h ..) ..) ..) h)) ..) ..) ..) ..

theorem Bounded.preStart (h : Bounded s) : Bounded s.preStart := by
  unfold State.preStart
  refine .preEval (.ite (.note ?_ ..) (.openSlow ?_ ..))
  all_goals exact .clearCause (.openSlow (.setV (.setFb (.setFb h ..) ..) ..) ..) ..

theorem Bounded.cdrCmd (h : Bounded s) (v : Nat) : Bounded (s.cdrCmd v) := by
  unfold State.cdrCmd
  exact .ite (.preStart (.drivers (.setF h ..) ..)) (.drivers (.setF h ..) ..)

theorem Bounded.writeAck (h : Bounded s) (who : Option Requester) (ch v : Nat) : Bounded (s.writeAck who ch v).2 := by
  unfold State.writeAck
  dsimp only
  split
  · exact h
  · exact .ite_snd h (.ite_snd h (.canSync (.of_canRx h (forall_mem_filter h.canRx _)) ..))

theorem Bounded.writeRequest (h : Bounded s) (v : Nat) : Bounded (s.writeRequest v).2 := by
  unfold State.writeRequest
  exact .ite_snd h (.ite_snd h (.ite_snd h (.ite_snd h (.ite_snd h (.setV h ..)))))

theorem Bounded.applyWord (h : Bounded s) (c : WriteCtx) (w : WordDef) (n j key : Nat) (v : Word) :
    Bounded (s.applyWord c w n j key v).2 := by
  unfold State.applyWord
  refine .ite_snd (.writeSetpoint h ..) (.ite_snd (.ite_snd h (.putWord h ..)) (.ite_snd (.ite_snd h (.putWord h ..)) (.ite_snd (.ite_snd
    (.putWord h ..) h) (.ite_snd (.writeLeg h ..) ?_))))
  refine .ite_snd ?_ ?_
  · split
    next hw => exact .writePeriod h hw
    · exact h
  exact .ite_snd (.cmpArm (.putWord h ..) ..) (.ite_snd (.cmpDisarm (.putWord h ..) ..) (.ite_snd (.bufControl h ..) (.ite_snd (.ite_snd h
    (.brakeCmd h ..)) (.ite_snd (.ite_snd (.closeRefused (.preEval h)) (.cdrCmd (.preEval h) ..)) (.ite_snd (.setV (.putWord h ..) ..)
    (.ite_snd (.writeAck h ..) (.ite_snd (.writeRequest h ..) (.putWord h ..))))))))

theorem Bounded.hostWrite1 (h : Bounded s) (c : WriteCtx) (index sub : Nat) (v : Word) : Bounded (s.hostWrite1 c index sub v).2 := by
  unfold State.hostWrite1
  split
  · split
    · exact .writeWindow h ..
    · exact h
  · refine .ite_snd h ?_
    split
    · exact h
    · split
      · exact h
      · refine .ite_snd h ?_
        split
        · exact h
        · exact .applyWord h ..

theorem Bounded.hostWrite (h : Bounded s) (c : WriteCtx) (index sub : Nat) (v : Word) : Bounded (s.hostWrite c index sub v).2 := by
  unfold State.hostWrite
  dsimp only
  have h1 := Bounded.hostWrite1 h c index sub v
  exact .ite_snd (.hostWrite1 h1 ..) h1

theorem Bounded.writeAll (h : Bounded s) (c : WriteCtx) (l : List WEntry) : Bounded (s.writeAll c l).2 := by
  induction l generalizing s with
  | nil => exact h
  | cons e l ih => exact ih (.hostWrite h ..)

theorem Bounded.serveWrite (h : Bounded s) (r : Req) (l : List WEntry) (leaving : List Stage) (closing : List Nat) :
    Bounded (s.serveWrite r l leaving closing) :=
  .answer (.each (.writeAll h ..) _ _ fun _ h _ _ => .countResult h ..) ..

theorem Bounded.maskCmd (h : Bounded s) (rank mask : Nat) (higher : List Stage) (k : State → Stage → Res × State)
    (hk : ∀ s : State, Bounded s → ∀ t, Bounded (k s t).2) : Bounded (s.maskCmd rank mask higher k).2.2 := by
  unfold State.maskCmd
  refine .ite_snd_snd h (.foldl_snd h _ _ fun a h t _ => .ite_snd h (.ite_snd h ?_))
  have hd := hk _ (.ite (c := (rank == 4) = true) (.overtake h t 4 0 0) h) t
  exact .ite (.setRank hd ..) hd

theorem Bounded.spLost (h : Bounded s) (n : Nat) : Bounded (s.spLost n) := .ite (.raise (.setFb h ..) ..) h

theorem Bounded.slotsArm (h : Bounded s) (t : Stage) : Bounded (s.slotsArm t) := by
  unfold State.slotsArm
  exact .each h _ _ fun _ h _ _ => .ite (.spLost (.spWindow (.setFb (.setV (.setV (.setV (.setV (.each h _ _ fun _ h _ _ => .setV
    (.setV h ..) ..) ..) ..) ..) ..) ..) ..) ..) (.spWindow (.setFb (.setV (.setV (.setV (.setV (.each h _ _ fun _ h _ _ => .setV
    (.setV h ..) ..) ..) ..) ..) ..) ..) ..)

theorem Bounded.legArm (h : Bounded s) (n : Nat) : Bounded (s.legArm n) :=
  .edges_filter (.close (.setF (.close (.setOn (.setV (.setOn (.setV (.setF (.setFb (.setOn (.each (.recordTouched h)
    _ _ fun _ h _ _ => .setF (.setV h ..) ..) ..) ..) ..) ..) ..) ..) ..) ..) ..) ..) _

theorem Bounded.carrierArm (h : Bounded s) (t : Stage) : Bounded (s.carrierArm t) :=
  .setDue (.setV (.setF (.setF (.each h _ _ fun _ h _ _ => .legArm h ..) ..) ..) ..) ..

theorem Bounded.armStage (h : Bounded s) (t : Stage) : Bounded (s.armStage t) :=
  .setOn (.slotsArm (.enter (.carrierArm (.protectStage h ..) ..) ..) ..) ..

theorem Bounded.armOne (h : Bounded s) (t : Stage) : Bounded (s.armOne t).2 := by
  unfold State.armOne
  refine .ite_snd h ?_
  split
  · exact h
  · exact .ite_snd (.setOn h ..) (.armStage h ..)

theorem Bounded.spSourceRuns (h : Bounded s) (t : Stage) : Bounded (s.spSourceRuns t) := .settle (.spSourceBack h ..)

theorem Bounded.runStage (h : Bounded s) (t : Stage) : Bounded (s.runStage t) := by
  unfold State.runStage
  refine .brakeSync (.ite (.spSourceRuns ?_ ..) ?_)
  all_goals exact .ite (.enter (.protectStage h ..) ..) (.openHold (.enter (.enter (.protectStage h ..) ..) ..) ..)

theorem Bounded.runOne (h : Bounded s) (t : Stage) : Bounded (s.runOne t).2 := by
  unfold State.runOne
  refine .ite_snd h ?_
  split
  · exact h
  · dsimp only
    exact .runStage h ..

theorem Bounded.stopStage (h : Bounded s) (t : Stage) : Bounded (s.stopStage t) := by
  unfold State.stopStage
  split
  · exact .settle (.toStopped (.protectStage h ..) ..)
  · exact .beginStop h ..
  · exact .setStg h ..
  · exact .settle (.toStopped (.protectStage h ..) ..)
  · exact .setOn h ..

theorem Bounded.stopOne (h : Bounded s) (t : Stage) : Bounded (s.stopOne t).2 := by
  unfold State.stopOne
  refine .ite_snd h (.ite_snd (.ite_snd h ?_) (.stopStage h ..))
  split
  · exact h
  · exact .stopStage h ..

theorem Bounded.openLoopSlot (h : Bounded s) (n : Nat) : Bounded (s.openLoopSlot n) :=
  .when (.setOn (.close (.setAuto (.each h _ _ fun _ h _ _ => .setF h ..) ..) ..) ..) _ _ fun _ h => .noteAt h ..

theorem Bounded.openLoopCmd (h : Bounded s) (n : Nat) : Bounded (s.openLoopCmd n).2 := .ite_snd h (.ite_snd h (.openLoopSlot h ..))

theorem Bounded.closeLoopSlot (h : Bounded s) (n : Nat) : Bounded (s.closeLoopSlot n) := by
  unfold State.closeLoopSlot
  exact .ite (.setAuto h ..) (.noteAt (.setOn (.setAuto h ..) ..) ..)

theorem Bounded.closeLoopCmd (h : Bounded s) (n : Nat) : Bounded (s.closeLoopCmd n).2 := by
  unfold State.closeLoopCmd
  refine .ite_snd h ?_
  split
  · exact h
  · exact h
  · exact .closeLoopSlot h ..

theorem Bounded.setEng (h : Bounded s) (e v : Nat) : Bounded (s.setEng e v) := by
  unfold State.setEng
  exact .ite (.ite (.setF h ..) (.setF h ..)) (.setFb (.ite (.setF h ..) (.setF h ..)) ..)

theorem Bounded.startSync (h : Bounded s) (e : Nat) : Bounded (s.startSync e) := .openBy (.setEng h ..) ..

theorem Bounded.switchBackCmd (h : Bounded s) : Bounded (s.switchBackCmd).2 := by
  unfold State.switchBackCmd
  exact .ite_snd h (.ite_snd h (.ite_snd h (.ite_snd h (.startSync (.setFb h ..) ..))))

theorem Bounded.clearStart (h : Bounded s) : Bounded s.clearStart := .setOn h ..

theorem Bounded.clearLogCmd (h : Bounded s) : Bounded (s.clearLogCmd).2.2 := .ite_snd_snd h (.ite_snd_snd h (.clearStart h))

theorem Bounded.noteEnds (h : Bounded s) (code inst : Nat) : Bounded (s.noteEnds code inst) := .updCause h ..

theorem Bounded.busRecoverCmd (h : Bounded s) (ch : Nat) : Bounded (s.busRecoverCmd ch).2 := by
  unfold State.busRecoverCmd
  exact .ite_snd h (.ite_snd h (.setV (.close (.noteEnds (.setFb (.setF h ..) ..) ..) ..) ..))

theorem Bounded.chgTimer (h : Bounded s) : Bounded s.chgTimer := .setF (.setF h ..) ..

theorem Bounded.chargeStart (h : Bounded s) : Bounded s.chargeStart := by
  unfold State.chargeStart
  refine .chgSync (.noteAt (.chgTimer ?_) ..)
  split
  · exact .setF (.addF (.setOn (.setV (.noteEnds (.noteEnds (.noteEnds (.setOn (.setF (.setV h ..) ..) ..) ..) ..) ..) ..) ..) ..) ..
  · exact .addF (.setOn (.setV (.noteEnds (.noteEnds (.noteEnds (.setOn (.setF (.setV h ..) ..) ..) ..) ..) ..) ..) ..) ..

theorem Bounded.chgFinish (h : Bounded s) (cause : Nat) : Bounded (s.chgFinish cause) := by
  unfold State.chgFinish
  extract_lets s1 s2 s3 code s4 s5
  have h1 : Bounded s1 := by
    unfold s1
    split
    · exact .setF h ..
    · exact h
  have h3 : Bounded s3 := .close (.close (.setFb (.setOn (.setF (.setF
    (.setV (.setOn h1 ..) ..) ..) ..) ..) ..) ..) ..
  have h4 : Bounded s4 := .ite (.addF h3 ..) (.ite (.addF h3 ..) h3)
  exact .chgSync (.chgSnap (.chgSnap (.noteAt (.setCause (.noteEnds h4 ..) ..) ..) ..) ..)

theorem Bounded.noteLastingAt (h : Bounded s) (code : Nat) (t : Stage) : Bounded (s.noteLastingAt code t) := .setCause (.noteAt h ..) ..

theorem Bounded.timedAt (h : Bounded s) (at' : Nat) (t : Timer) (i : Nat) (cond : Bool) (len : Nat) :
    Bounded (s.timedAt at' t i cond len) :=
  .ite (.ite h (.setDue h ..)) (.lapseAt h ..)

theorem Bounded.timed (h : Bounded s) (t : Timer) (i : Nat) (cond : Bool) (len : Nat) : Bounded (s.timed t i cond len) := .timedAt h ..

theorem Bounded.chargeStep (h : Bounded s) (stop : Bool) : Bounded (s.chargeStep stop) := by
  unfold State.chargeStep
  refine .ite (.chgSync h) ?_
  split
  · exact .chgFinish h ..
  · refine .chgSync ?_
    split
    · refine .ite ?_ (.setF ?_ ..)
      all_goals
        exact .timed (.ite (.noteLastingAt (.setFb (.close (.openSlow (.setF h ..) ..) ..) ..) ..) (.ite (.noteEnds (.setV (.close
          (.setF h ..) ..) ..) ..) (.ite (.setF h ..) (.ite (.setF h ..) h)))) ..
    · exact .timed (.ite (.noteLastingAt (.setFb (.close (.openSlow (.setF h ..) ..) ..) ..) ..) (.ite (.noteEnds (.setV (.close
        (.setF h ..) ..) ..) ..) (.ite (.setF h ..) (.ite (.setF h ..) h)))) ..

theorem Bounded.thermalRelease (h : Bounded s) : Bounded s.thermalRelease := by
  unfold State.thermalRelease
  exact .each h _ _ fun _ h _ _ => .ite (.note (.clearCause (.setV (.setOn (.setFb h ..) ..) ..) ..) ..) h

theorem Bounded.brakeTestStart (h : Bounded s) (k : Nat) : Bounded (s.brakeTestStart k) :=
  .openSlow (.setOn (.setV (.setV (.setF (.setFb (.setF (.setV h ..) ..) ..) ..) ..) ..) ..) ..

theorem Bounded.brakeTestCmd (h : Bounded s) (k : Nat) : Bounded (s.brakeTestCmd k).2 := by
  unfold State.brakeTestCmd
  refine .ite_snd h ?_
  split
  · exact h
  · exact .brakeTestStart h ..

theorem Bounded.restartCmd (h : Bounded s) : Bounded (s.restartCmd).2 := by
  unfold State.restartCmd
  exact .ite_snd h (.ite_snd h (.openSlow (.each (.setOn h ..) _ _ fun _ h _ _ => .setOn h ..) ..))

theorem Bounded.noteLasting (h : Bounded s) (code inst : Nat) (d0 d1 d2 : Nat) : Bounded (s.noteLasting code inst d0 d1 d2) :=
  .setCause (.note h ..) ..

theorem Bounded.serviceEnterCmd (h : Bounded s) (debug : Bool) : Bounded (s.serviceEnterCmd debug).2 := by
  unfold State.serviceEnterCmd
  exact .ite_snd h (.ite (.noteLasting (.setFb (.parts h) ..) ..) (.parts h))

theorem Bounded.serviceExitCmd (h : Bounded s) : Bounded (s.serviceExitCmd).2 := by
  unfold State.serviceExitCmd
  exact .ite_snd h (.ite_snd h (.noteEnds (.setFb (.parts h) ..) ..))

theorem Bounded.keyWriteCmd (h : Bounded s) (generation crc : Nat) : Bounded (s.keyWriteCmd generation crc).2 := by
  unfold State.keyWriteCmd
  exact .ite_snd (.setF h ..) (.ite_snd (.setF (.setF h ..) ..) (.ite_snd h (.setF (.setF (.setF (.setF h ..) ..) ..) ..)))

theorem Bounded.decideCmd (h : Bounded s) (c : Cmd) : Bounded (s.decideCmd c).2.2 := by
  cases c with
  | summary | logRead | splitV | joinV => exact h
  | arm => exact .maskCmd h _ _ _ _ fun _ h _ => .armOne h ..
  | run => exact .maskCmd h _ _ _ _ fun _ h _ => .runOne h ..
  | stop =>
    unfold State.decideCmd
    exact .maskCmd h _ _ _ _ fun _ h _ => .stopOne h ..
  | openLoop =>
    unfold State.decideCmd
    exact .openLoopCmd h ..
  | closeLoop => exact .closeLoopCmd h ..
  | switchBack => exact .switchBackCmd h
  | clearLog => exact .clearLogCmd h
  | busRecover => exact .busRecoverCmd h ..
  | chargeStart =>
    unfold State.decideCmd
    dsimp only
    split
    · exact h
    · exact .chargeStart h
  | chargeStop => exact .chargeStep h ..
  | thermalRelease => exact .thermalRelease h
  | brakeTest => exact .brakeTestCmd h ..
  | restart => exact .restartCmd h
  | serviceEnter => exact .serviceEnterCmd h ..
  | serviceExit => exact .serviceExitCmd h
  | keyWrite => exact .keyWriteCmd h ..

theorem Bounded.handBegin (h : Bounded s) (r : Req) (c : Cmd) : Bounded (s.handBegin r c) := by
  unfold State.handBegin
  exact .ite (.setF (.setF (.parts h) ..) ..) (.setF (.parts h) ..)

theorem Bounded.carryCmd (h : Bounded s) (r : Req) (c : Cmd) : Bounded (s.carryCmd r c) := by
  unfold State.carryCmd
  dsimp only
  split
  · exact .answerCmd (.decideCmd h ..) ..
  · refine .ite (.answerCmd h ..) ?_
    split
    · exact .answerCmd h ..
    · exact .handBegin h ..

theorem Bounded.serveChallenge (h : Bounded s) (r : Req) : Bounded (s.serveChallenge r) := by
  unfold State.serveChallenge
  exact .ite (.answer h ..) (.answer (.setChallenges (.addV h ..) ..) ..)

theorem Bounded.carryReq (h : Bounded s) (r : Req) (c : Svc) : Bounded (s.carryReq r c) := by
  unfold State.carryReq
  split
  · exact .serveRead h ..
  · exact .serveWrite h ..
  · exact .carryCmd h ..
  · exact .serveChallenge h ..
  · exact .answer h ..
  · exact .answer h ..

theorem Bounded.serveDecided (h : Bounded s) (r : Req) (c : Svc) (authed : Bool) : Bounded (s.serveDecided r c authed) := by
  unfold State.serveDecided
  exact .ite (.refuseAll h ..) (.ite (.refuseAll h ..) (.ite (.ite (.answer h ..) (.parts h)) (.carryReq h ..)))

theorem Bounded.serveAuth (h : Bounded s) (r : Req) (c : Svc) : Bounded (s.serveAuth r c) := by
  unfold State.serveAuth
  refine .ite (.refuseAll h ..) ?_
  have hv := Bounded.verify h r c
  exact .ite (.refuseAll hv ..) (.ite (.answer hv ..) (.serveDecided hv ..))

theorem Bounded.serveAnew (h : Bounded s) (r : Req) (c : Svc) : Bounded (s.serveAnew r c) := by
  unfold State.serveAnew
  split
  · refine .sendReply ?_ ..
    split
    · exact .addF h ..
    · exact .addF h ..
    · exact h
  · exact .serveAuth h ..

theorem Bounded.serveEarly (h : Bounded s) (r : Req) (c : Svc) : Bounded (s.serveEarly r c) := by
  unfold State.serveEarly
  refine .ite (.ite (.limited h _ _ _ fun _ h => .serveAnew h ..) ?_) (.ite (.serveAnew h ..) ?_)
  all_goals exact .limited h _ _ _ fun _ h => .answer h ..

theorem Bounded.serveReady (h : Bounded s) (r : Req) (c : Svc) : Bounded (s.serveReady r c) := by
  unfold State.serveReady
  refine .ite (.ite (.answer h ..) (.parts h)) ?_
  split
  · exact .ite (.answer h ..) (.serveAnew h ..)
  · exact .serveAnew h ..

theorem Bounded.serve (h : Bounded s) (r : Req) (c : Svc) : Bounded (s.serve r c) := by
  unfold State.serve
  exact .ite (.when h _ _ fun _ h => .idleRestart h) (.ite (.when h _ _ fun _ h => .idleRestart h) (.ite (.countDropped (.when h
    _ _ fun _ h => .idleRestart h)) (.ite (.serveEarly (.when h _ _ fun _ h => .idleRestart h) ..) (.serveReady (.when h
    _ _ fun _ h => .idleRestart h) ..))))

theorem Bounded.serveAt (h : Bounded s) {t : Nat} {r : Req} {c : Svc} {u : State} (hu : s.serveAt t r c = .next u) : Bounded u :=
  .done (.serve (.parts h) ..) hu

/-! ### Writes of hosts and the start -/

theorem Bounded.writeOne (h : Bounded s) {t : Nat} {r : Req} {index sub : Nat} {v : Word} {u : State}
    (hu : s.writeOne t r index sub v = .next u) : Bounded u :=
  .serveAt h hu

theorem Bounded.writeField (h : Bounded s) {t : Nat} {r : Req} {f : Fld} {n j : Nat} {v : Word} {u : State}
    (hu : s.writeField t r f n j v = .next u) : Bounded u :=
  .writeOne h hu

theorem Bounded.execShipRequest (h : Bounded s) {r : Req} {wake : Bool} {t : Nat} {u : State} (hu : execShipRequest r wake t s = .next u) :
    Bounded u :=
  .writeField (.setV (.setOn h ..) ..) hu

theorem Bounded.execSleepRequest (h : Bounded s) {r : Req} {t : Nat} {u : State} (hu : execSleepRequest r t s = .next u) : Bounded u :=
  .writeField h hu

theorem Bounded.execSleepIdleExpired (h : Bounded s) {u : State} (hu : execSleepIdleExpired s = .next u) : Bounded u :=
  .done (.expire h _ _ _ fun _ h => .ite (.setV h ..) h) hu

theorem Bounded.lowPower (h : Bounded s) (kind : Nat) (m : ModState) (code : Nat) : Bounded (s.lowPower kind m code) := by
  unfold State.lowPower
  exact .ite h (.ite (.powerEnd ..) (.begin ..))

theorem Bounded.execSleepEntered (h : Bounded s) {t : Nat} {u : State} (hu : execSleepEntered t s = .next u) : Bounded u :=
  .done (.lowPower (.parts h) ..) hu

theorem Bounded.execShipEntered (h : Bounded s) {t : Nat} {u : State} (hu : execShipEntered t s = .next u) : Bounded u :=
  .done (.lowPower (.parts h) ..) hu

theorem Bounded.canOff (h : Bounded s) : Bounded s.canOff := by
  have hempty : Bounded { s with canRx := [], canTx := [], canHold := [] } :=
    { h with canRx := List.forall_mem_nil _, canHold := List.forall_mem_nil _ }
  exact .each hempty _ _ fun _ h _ _ => .canSync (.setF h ..) ..

theorem Bounded.setPort (h : Bounded s) (p st : Nat) : Bounded (s.setPort p st) := .setF (.setF (.setF h ..) ..) ..

theorem Bounded.fabTrain (h : Bounded s) : Bounded s.fabTrain := by
  unfold State.fabTrain
  exact .ite (.setFb h ..) (.each (.setFb h ..) _ _ fun _ h _ _ => .setPort h ..)

theorem Bounded.startFail (h : Bounded s) (cause detail : Nat) : Bounded (s.startFail cause detail) := by
  unfold State.startFail
  refine .ite ?_ (.fabTrain ?_)
  all_goals exact .canOff (.setV (.parts (.setV (.setF (.note h ..) ..) ..)) ..)

theorem Bounded.pllLocked (h : Bounded s) : Bounded s.pllLocked := .setV (.setV (.setFb h ..) ..) ..

theorem Bounded.startDecide (h : Bounded s) : Bounded s.startDecide := by
  unfold State.startDecide
  exact .ite h (.ite (.startFail h ..) (.ite (.startFail h ..) (.ite h (.ite (.startFail h ..) (.fabTrain (.setV (.ite h
    (.pllLocked h)) ..))))))

theorem Bounded.restartFails (h : Bounded s) : Bounded s.restartFails := by
  unfold State.restartFails
  exact .ite (.reportAll (.setFb (.updCause (.each (.setFb (.close (.moduleToSafe (.setFb (.setF h ..) ..) ..) ..) ..)
    _ _ fun _ h _ _ => .toSafe h ..) ..) ..) ..) h

theorem Bounded.execInjectionTestDone (h : Bounded s) {pass : Bool} {t : Nat} {u : State} (hu : execInjectionTestDone pass t s = .next u) :
    Bounded u := by
  unfold Machine.execInjectionTestDone at hu
  exact .done (.ite (.startDecide (.setFb (.setV (.parts h) ..) ..)) (.ite (.ite (.setFb (.parts h) ..) (.parts h)) (.restartFails
    (.parts h)))) hu

theorem Bounded.execMemoryTestDone (h : Bounded s) {pass : Bool} {t : Nat} {u : State} (hu : execMemoryTestDone pass t s = .next u) :
    Bounded u := by
  unfold Machine.execMemoryTestDone at hu
  exact .done (.ite (.startDecide (.openSlow (.setV (.parts h) ..) ..)) (.parts h)) hu

theorem Bounded.clearStage (h : Bounded s) : Bounded s.clearStage := .parts h

theorem Bounded.clearEnd (h : Bounded s) (incomplete : Bool) : Bounded (s.clearEnd incomplete) := by
  unfold State.clearEnd
  split
  · exact h
  · exact .setF (.setOn (.setOn (.parts (.appendOwn h ..)) ..) ..) ..

theorem Bounded.rebuild (h : Bounded s) (damage : List (Nat × List Byte)) (copyA copyB : MgmtCopy) :
    Bounded (s.rebuild damage copyA copyB) := by
  unfold State.rebuild
  refine .ite (.setV h ..) (.each (.fullCheck (.setOn (.clearEnd (.ite (.note ?_ ..) (.ite (.note ?_ ..) ?_)) ..) ..))
    _ _ fun _ h _ _ => .setDue h ..)
  all_goals
    exact .each (.setOn (.setOn (.parts (.setOn (.when h _ _ fun _ h => .clearStage h) ..)) ..) ..) _ _
      fun _ h _ _ => .note (.addF h ..) ..

theorem Bounded.execLogRebuild (h : Bounded s) {damage : List (Nat × List Byte)} {copyA copyB : MgmtCopy} {t : Nat} {u : State}
    (hu : execLogRebuild damage copyA copyB t s = .next u) : Bounded u := by
  unfold Machine.execLogRebuild at hu
  exact .done (.ite (.startDecide (.setOn (.rebuild (.parts h) ..) ..)) (.parts h)) hu

theorem Bounded.keyPut (h : Bounded s) (a : Nat) (l : List Byte) : Bounded (s.keyPut a l) := .parts h

theorem Bounded.earlyRead (h : Bounded s) (slot : Nat) : Bounded (s.earlyRead slot) := by
  unfold State.earlyRead
  split
  · exact h
  · exact .ite (.each (.setFb (.parts h) ..) _ _ fun _ h _ _ => .setF h ..) (.noteLasting h ..)

/-- What a start finds in the key's memory is written byte by byte into an erased one. -/
theorem Bounded.keyRead (h : Bounded s) (o : KeyObs) : Bounded (s.keyRead o) := by
  unfold State.keyRead
  extract_lets s1
  have h1 : Bounded s1 := by
    unfold s1
    split
    · exact h
    · exact .each (.parts h) _ _ fun _ h _ _ => .keyPut h ..
  clear_value s1
  refine .ite (.setV (.parts h1) ..) (.ite (.setV (.setFb (.setF (.parts h1) ..) ..) ..) ?_)
  split
  · exact .setV (.setFb (.setFb (.setF (.setFb (.setF (.parts h1) ..) ..) ..) ..) ..) ..
  · exact .setV (.earlyRead (.setF (.parts (.setFb (.setFb (.setF (.setFb (.setF (.parts h1) ..) ..) ..) ..) ..)) ..) ..) ..

theorem Bounded.execKeyReadDone (h : Bounded s) {key : KeyObs} {t : Nat} {u : State} (hu : execKeyReadDone key t s = .next u) :
    Bounded u :=
  .done (.ite (.startDecide (.keyRead (.parts h) ..)) (.parts h)) hu

theorem Bounded.imageVerified (h : Bounded s) (bad1 bad2 : List Nat) : Bounded (s.imageVerified bad1 bad2) := by
  unfold State.imageVerified
  refine .ite (.startFail ?_ ..) (.setV (.parts (.setF ?_ ..)) ..)
  all_goals exact .ite (.note (.ite (.setFb h ..) h) ..) (.ite (.setFb h ..) h)

theorem Bounded.execImageVerified (h : Bounded s) {bad1 bad2 : List Nat} {t : Nat} {u : State}
    (hu : execImageVerified bad1 bad2 t s = .next u) : Bounded u :=
  .done (.ite (.imageVerified (.parts h) ..) (.parts h)) hu

theorem Bounded.supplyOn (h : Bounded s) (g : Nat) : Bounded (s.supplyOn g) := by
  unfold State.supplyOn
  split
  · exact .setOn h ..
  · exact .openSlow (.setV (.each h _ _ fun _ h _ _ => .setFb h ..) ..) ..

theorem Bounded.restoreEnable (h : Bounded s) (g : Nat) : Bounded (s.restoreEnable g) :=
  .each (.setF h ..) _ _ fun _ h _ _ => .each h _ _ fun _ h _ _ => .setFb h ..

theorem Bounded.removeEnable (h : Bounded s) (g : Nat) : Bounded (s.removeEnable g) :=
  .each (.setF h ..) _ _ fun _ h _ _ => .each h _ _ fun _ h _ _ => .setFb (.turnOff h ..) ..

theorem Bounded.enableSync (h : Bounded s) (g : Nat) : Bounded (s.enableSync g) :=
  .ite (.restoreEnable h ..) (.ite (.removeEnable h ..) h)

theorem Bounded.safeBit (h : Bounded s) (f : Fld) (g : Nat) (b : Bool) : Bounded (s.safeBit f g b) := .setF h ..

theorem Bounded.setEnable (h : Bounded s) (f : Fld) (g : Nat) (b : Bool) : Bounded (s.setEnable f g b) := .enableSync (.safeBit h ..) ..

theorem Bounded.writeEnSw (h : Bounded s) (g : Nat) (b : Bool) : Bounded (s.writeEnSw g b) := .setEnable (.protect h ..) ..

theorem Bounded.stoTestStart (h : Bounded s) (g : Nat) : Bounded (s.stoTestStart g) := .writeEnSw (.addF (.setV h ..) ..) ..

theorem Bounded.testsBegin (h : Bounded s) : Bounded s.testsBegin :=
  .supplyOn (.setV (.each (.each h _ _ fun _ h _ _ => .openBy (.setV (.setEng h ..) ..) ..) _ _ fun _ h _ _ => .stoTestStart h ..) ..) ..

theorem Bounded.chgBegin (h : Bounded s) : Bounded s.chgBegin := .ite (.setV (.setDue (.setDue h ..) ..) ..) h

theorem Bounded.excStart (h : Bounded s) (n : Nat) : Bounded (s.excStart n) :=
  .setDue (.setV (.setV (.setV (.setDue (.setOn (.setV h ..) ..) ..) ..) ..) ..) ..

theorem Bounded.fbValid (h : Bounded s) (n : Nat) : Bounded (s.fbValid n) := .ite (.fbLost (.setFb h ..) ..) (.setFb h ..)

theorem Bounded.fbStart (h : Bounded s) : Bounded s.fbStart := by
  refine .each h _ _ fun s h n _ => ?_
  have hrest : Bounded { s with accepts := s.accepts.filter fun a => a.ch != n } := .of_accepts h (forall_mem_filter h.accepts _)
  exact .ite h (.fbValid (.when (.when (.when (.when (.setF (.setFb (.setV (.setOn (.each (.setOn (.setV hrest ..) ..)
    _ _ fun _ h _ _ => .ite (.filterFrom h ..) h) ..) ..) ..) ..) _ _ fun _ h => .setDue (.setV h ..) ..)
    _ _ fun _ h => .hallCycle h ..) _ _ fun _ h => .excStart h ..) _ _ fun _ h => .openSlow h ..) ..)

theorem Bounded.slotTimers (h : Bounded s) : Bounded s.slotTimers := .each h _ _ fun _ h _ _ => .ite (.setDue h ..) h

theorem Bounded.unloop (h : Bounded s) (p : Nat) : Bounded (s.unloop p) := .noteEnds (.setFb h ..) ..

theorem Bounded.egress_filter (h : Bounded s) (q : Egress → Bool) : Bounded { s with egress := s.egress.filter q } :=
  .of_egress h (forall_mem_filter h.egress q)

theorem Bounded.portClear (h : Bounded s) (p : Nat) : Bounded (s.portClear p) :=
  .setV (.egress_filter (.setOn (.setV (.setF (.setFb (.setFb (.setF (.setF (.setFb (.setFb (.setFb (.setV (.setV (.close (.close
    (.close h ..) ..) ..) ..) ..) ..) ..) ..) ..) ..) ..) ..) ..) ..) ..) _) ..

theorem Bounded.portOff (h : Bounded s) (p : Nat) : Bounded (s.portOff p) :=
  .noteEnds (.close (.setPort (.unloop (.portClear h ..) ..) ..) ..) ..

theorem Bounded.latencyCheck (h : Bounded s) : Bounded s.latencyCheck := by
  unfold State.latencyCheck
  refine .ite (.ite (.note (.clearCause ?_ ..) ..) ?_) (.raise ?_ ..)
  all_goals exact .setFb (.setF (.setF (.setF h ..) ..) ..) ..

theorem Bounded.fabApply (h : Bounded s) : Bounded s.fabApply := by
  unfold State.fabApply
  refine .latencyCheck (.ite ?_ (.openSlow ?_ ..))
  all_goals exact .openSlow (.setDue (.setOn (.setF (.each (.setFb h ..) _ _ fun _ h _ _ => .portOff h ..) ..) ..) ..) ..

theorem Bounded.canBound (h : Bounded s) (ch : Nat) : Bounded (s.canBound ch) := .ite h (.setF (.setF (.setF h ..) ..) ..)

theorem Bounded.canStale (h : Bounded s) (ch n : Nat) : Bounded (s.canStale ch n) := .ite h (.note (.addF h ..) ..)

theorem Bounded.canRx_filter (h : Bounded s) (q : CanEntry → Bool) : Bounded { s with canRx := s.canRx.filter q } :=
  .of_canRx h (forall_mem_filter h.canRx q)

theorem Bounded.canApply (h : Bounded s) (ch : Nat) : Bounded (s.canApply ch) :=
  .ite (.canSync (.canStale (.setF (.canRx_filter (.canBound h ..) _) ..) ..) ..) (.canBound h ..)

theorem Bounded.brakeDueWindow (h : Bounded s) (k : Nat) : Bounded (s.brakeDueWindow k) := .setDue h ..

theorem Bounded.rotationBegin (h : Bounded s) (c : Nat) : Bounded (s.rotationBegin c) :=
  .openSlow (.openSlow (.setF (.setV (.each h _ _ fun _ h _ _ => .setV h ..) ..) ..) ..) ..

theorem Bounded.seqReady (h : Bounded s) (c e a : Nat) : Bounded (s.seqReady c e a) := .setV (.setOn h ..) ..

theorem Bounded.seqStart (h : Bounded s) (c e a : Nat) : Bounded (s.seqStart c e a) := by
  unfold State.seqStart
  exact .ite (.setV (.setOn (.setV (.setF (.setV h ..) ..) ..) ..) ..) (.seqReady (.setV (.setF (.setV h ..) ..) ..) ..)

theorem Bounded.unitsBegin (h : Bounded s) : Bounded s.unitsBegin :=
  .openSlow (.each (.each (.fabApply (.fillCheck (.each (.each (.budgetShow (.chgBegin (.fbStart (.slotTimers h))))
    _ _ fun _ h _ _ => .canApply h ..) _ _ fun _ h _ _ => .brakeDueWindow h ..))) _ _ fun _ h _ _ => .setV h ..) _ _ fun _ h _ _ => .when
    (.rotationBegin h ..) _ _ fun _ h => .seqStart h ..) ..

theorem Bounded.loadTables (h : Bounded s) : Bounded s.loadTables :=
  .each (.each (.setOn (.each (.each h _ _ fun _ h _ _ => .setV h ..) _ _ fun _ h _ _ => .foldl (.setV (.setV (.setOn h ..) ..) ..)
    _ _ fun _ h _ _ => .setV h ..) ..) _ _ fun _ h _ _ => .foldl (.setV (.setV h ..) ..) _ _ fun _ h _ _ => .setV h ..)
    _ _ fun _ h _ _ => .setV h ..

theorem Bounded.extendFf (h : Bounded s) : Bounded s.extendFf :=
  .each h _ _ fun _ h _ _ => .each h _ _ fun _ h _ _ => .ite (.putWord h ..) h

theorem Bounded.dependentDefaults (h : Bounded s) (given : List Nat) : Bounded (s.dependentDefaults given) :=
  .each (.each h _ _ fun _ h _ _ => .foldl h _ _ fun _ h _ _ => .ite (.putWord h ..) h) _ _ fun _ h _ _ => .ite (.setF (.setF h ..) ..) h

theorem Bounded.setParam (h : Bounded s) (e : Nat × Nat × Nat) : Bounded (s.setParam e) := by
  unfold State.setParam
  split
  · exact h
  · exact .putWord h ..

theorem Bounded.setOwners (h : Bounded s) : Bounded s.setOwners := .each h _ _ fun _ h _ _ => .setF h ..

theorem Bounded.attnDefaults (h : Bounded s) (given : List Nat) : Bounded (s.attnDefaults given) :=
  .each h _ _ fun _ h _ _ => .putWord h ..

theorem Bounded.configure (h : Bounded s) (sections : List (Nat × List Byte)) : Bounded (s.configure sections) :=
  .each (.setOwners (.attnDefaults (.each (.each (.loadTables (.extendFf (.dependentDefaults (.each (.parts h)
    _ _ fun _ h _ _ => .setParam h ..) ..))) _ _ fun _ h _ _ => .setAuto h ..) _ _ fun _ h _ _ => .setF h ..) ..))
    _ _ fun _ h _ _ => .setF h ..

theorem Bounded.applyImage (h : Bounded s) : Bounded s.applyImage :=
  .pendingSync (.setOn (.setF (.setF (.setF (.setF (.setF (.each (.configure h ..) _ _ fun _ h _ _ => .setFb h ..) ..) ..) ..) ..) ..) ..)

theorem Bounded.execImageApplied (h : Bounded s) {t : Nat} {u : State} (hu : execImageApplied t s = .next u) : Bounded u := by
  unfold Machine.execImageApplied at hu
  exact .done (.ite (.testsBegin (.unitsBegin (.applyImage (.parts h)))) (.parts h)) hu

theorem Bounded.supplyFail (h : Bounded s) (c : Nat) : Bounded (s.supplyFail c) := .raise (.setF (.setFb h ..) ..) ..

theorem Bounded.supplyChecked (h : Bounded s) (tests : List ChTest) : Bounded (s.supplyChecked tests) := by
  unfold State.supplyChecked
  dsimp only
  split
  · exact .setOn (.each h _ _ fun _ h _ _ => .supplyFail h ..) ..
  · refine .ite (.supplyOn (.ite (.setFb ?_ ..) ?_) ..) (.openSlow (.setV (.ite (.setFb ?_ ..) ?_) ..) ..)
    all_goals exact .each (.each h _ _ fun _ h _ _ => .supplyFail h ..) _ _ fun _ h _ _ => .setFb h ..

theorem Bounded.execGateSupplyGroup (h : Bounded s) {tests : List ChTest} {u : State} (hu : execGateSupplyGroup tests s = .next u) :
    Bounded u :=
  .done (.expire h _ _ _ fun _ h => .supplyChecked h ..) hu

theorem Bounded.takeFree (h : Bounded s) : Bounded (s.takeFree).2 := .parts h

theorem Bounded.dllReady (h : Bounded s) : Bounded s.dllReady := by
  unfold State.dllReady
  exact .ite (.each h _ _ fun _ h _ _ => .setF h ..) (.setF (.setFb (.parts (.each h _ _ fun _ h _ _ => .setF h ..)) ..) ..)

theorem Bounded.mapParam (h : Bounded s) (ch i : Nat) (f : CanFrame) : Bounded (s.mapParam ch i f) := by
  unfold State.mapParam
  dsimp only
  split
  · exact .note (.addF h ..) ..
  · refine .each h _ _ fun s h w _ => ?_
    have hw := Bounded.hostWrite h { who := none, leaving := [], closing := [] } w.1 w.2.1 w.2.2
    exact .ite (.addF hw ..) (.note (.addF (.countResult hw ..) ..) ..)

theorem Bounded.sendClaim (h : Bounded s) (ch addr : Nat) : Bounded (s.sendClaim ch addr) := .canOffer h ..

theorem Bounded.claimGo (h : Bounded s) (ch addr : Nat) : Bounded (s.claimGo ch addr) := .sendClaim (.close (.setV h ..) ..) ..

theorem Bounded.canReady (h : Bounded s) : Bounded s.canReady := by
  unfold State.canReady
  refine .each (.each (.each (.each (.each (.of_canRx (.each (.noteEnds h ..) _ _ fun _ h _ _ => .canStale h ..)
    (List.forall_mem_nil _)) _ _ ?_) _ _ fun _ h _ _ => .setF h ..) _ _ fun _ h _ _ => .ite (.setDue h ..) (.setDue h ..))
    _ _ fun _ h _ _ => .claimGo h ..) _ _ fun _ h _ _ => .canSync h ..
  intro _ h _ _
  split
  · exact .mapParam h ..
  · exact h

theorem Bounded.sbcRequest (h : Bounded s) : Bounded s.sbcRequest := .ite (.raise (.addF h ..) ..) h

theorem Bounded.stoSafe (h : Bounded s) (g : Nat) : Bounded (s.stoSafe g) :=
  .each (.latchStages (.setCause (.reportAll h ..) ..) ..) _ _ fun _ h _ _ => .close (.toSafe (.setRank (.overtake h ..) ..) ..) ..

theorem Bounded.safetyReady (h : Bounded s) : Bounded s.safetyReady := by
  unfold State.safetyReady
  exact .each (.when h _ _ fun _ h => .sbcRequest h) _ _ fun _ h _ _ => .ite (.each (.ite (.stoSafe (.addF h ..) ..) h)
    _ _ fun _ h _ _ => .carryOut h ..) (.ite (.stoSafe (.addF h ..) ..) h)

theorem Bounded.ready (h : Bounded s) : Bounded s.ready := by
  unfold State.ready
  refine .ite (.canReady (.safetyReady (.each (.dllReady (.setFb (.note (.setF (.parts (.setV (.setV h ..) ..)) ..) ..) ..))
    _ _ fun _ h _ _ => .enableSync h ..))) ?_
  exact .openSlow (.canReady (.safetyReady (.each (.dllReady (.setFb
    (.note (.setF (.parts (.setV (.setV h ..) ..)) ..) ..) ..)) _ _
  (fun _ h _ _ => .enableSync h ..)))) ..

theorem Bounded.execReadyReached (h : Bounded s) {others : StepEight} {t : Nat} {u : State} (hu : execReadyReached others t s = .next u) :
    Bounded u :=
  .done (.ite (.ready (.parts h)) (.parts h)) hu

theorem Bounded.keyChanged (h : Bounded s) : Bounded s.keyChanged := .ite h (.raise (.setFb h ..) ..)

theorem Bounded.execKeyCheckPeriod (h : Bounded s) {found : Option (Nat × List Byte)} {u : State}
    (hu : execKeyCheckPeriod found s = .next u) : Bounded u :=
  .done (.expire h _ _ _ fun _ h => .ite (.keyChanged (.openSlow h ..)) (.openSlow h ..)) hu

theorem Bounded.execKeyWrite (h : Bounded s) {r : Req} {generation crc t : Nat} {u : State}
    (hu : execKeyWrite r generation crc t s = .next u) : Bounded u :=
  .serveAt h hu

theorem Bounded.keyStep (h : Bounded s) (outcome : Nat) : Bounded (s.keyStep outcome) := by
  unfold State.keyStep
  refine .ite (.ite (.setF h ..) h) (.ite ?_ (.ite (.keyFail (.ite (.setF h ..) h) ..) (.ite (.keyFail (.ite (.setF h ..) h) ..) (.ite
    (.setV (.setF (.pendingSync (.keyErase (.ite (.setF h ..) h) ..)) ..) ..) (.ite (.setV (.setF (.setF (.keyPut (.ite
    (.setF h ..) h) ..) ..) ..) ..) (.ite (.setV (.setF (.ite (.setF h ..) h) ..) ..) (.ite (.setV (.setF (.keyPut (.ite
    (.setF h ..) h) ..) ..) ..) (.note (.pendingSync (.setV (.setF (.ite (.setF h ..) h) ..) ..)) ..))))))))
  split
  · exact .keyFail (.ite (.setF h ..) h) ..
  · exact .setV (.setF (.ite (.setF h ..) h) ..) ..

theorem Bounded.execKeyWriteStepEnd (h : Bounded s) {outcome : Fin 3} {t : Nat} {u : State}
    (hu : execKeyWriteStepEnd outcome t s = .next u) : Bounded u :=
  .done (.keyStep (.parts h) ..) hu

theorem Bounded.execRestart (h : Bounded s) {r : Req} {t : Nat} {u : State} (hu : execRestart r t s = .next u) : Bounded u :=
  .serveAt h hu

theorem Bounded.execRestartBegin (h : Bounded s) {t : Nat} {u : State} (hu : execRestartBegin t s = .next u) : Bounded u :=
  .done (.ite (.begin ..) h) hu

theorem Bounded.execServiceEnter (h : Bounded s) {r : Req} {debug : Bool} {t : Nat} {u : State}
    (hu : execServiceEnter r debug t s = .next u) : Bounded u :=
  .serveAt h hu

theorem Bounded.execServiceExit (h : Bounded s) {r : Req} {t : Nat} {u : State} (hu : execServiceExit r t s = .next u) : Bounded u :=
  .serveAt h hu

theorem Bounded.execDebugAction (h : Bounded s) {core : Fin 3} {kind : DebugKind} {u : State} (hu : execDebugAction core kind s = .next u) :
    Bounded u := by
  unfold Machine.execDebugAction at hu
  refine .done (.ite ?_ h) hu
  dsimp only
  split
  · refine .ite (.setFb (.setF ?_ ..) ..) ?_
    all_goals exact .setV (.addF (.wrapF (.ite (.replaySync h) (.replaySync (.parts (.replaySync h)))) ..) ..) ..
  · refine .ite (.setFb (.setF ?_ ..) ..) ?_
    all_goals exact .setV (.addF (.wrapF (.ite (.replaySync h) (.replaySync (.parts (.replaySync h)))) ..) ..) ..
  · exact .setV (.addF (.wrapF (.ite (.replaySync h) (.replaySync (.parts (.replaySync h)))) ..) ..) ..

theorem Bounded.lapse (h : Bounded s) (clk : Nat) (t : Timer) (i : Nat) : Bounded (s.lapse clk t i) := .lapseAt h ..

theorem Bounded.setCorrection (h : Bounded s) (x : Int) : Bounded (s.setCorrection x) := by
  unfold State.setCorrection
  exact .ite (.ite (.setFb (.setF h ..) ..) (.openSlow (.setFb (.setF h ..) ..) ..)) (.clearCause (.lapse (.setFb (.setF h ..) ..) ..) ..)

theorem Bounded.setDisc (h : Bounded s) (d : Nat) : Bounded (s.setDisc d) := by
  unfold State.setDisc
  refine .ite (.clearCause (.clearCause (.note ?_ ..) ..) ..) ?_
  all_goals exact .setV (.setF (.when (.when h _ _ fun _ h => .addF h ..) _ _ fun _ h => .setF (.close h ..) ..) ..) ..

theorem Bounded.disciplineMissing (h : Bounded s) : Bounded s.disciplineMissing := by
  unfold State.disciplineMissing
  exact .ite (.ite (.raise (.openSlow (.setV (.setDisc (.setCorrection (.setV (.addV h ..) ..) ..) ..) ..) ..) ..) (.setV
    (.addV h ..) ..)) h

theorem Bounded.cycleAlign (h : Bounded s) : Bounded s.cycleAlign := by
  unfold State.cycleAlign
  exact .each h _ _ fun _ h _ _ => .ite (.clearCause (.setFb (.setFb (.setFb (.recordTouched h) ..) ..) ..) ..) (.ite (.recordTouched h)
    (.raise (.addF (.setFb (.setFb (.setFb (.recordTouched h) ..) ..) ..) ..) ..))

theorem Bounded.setMaster (h : Bounded s) (uid : Nat) : Bounded (s.setMaster uid) := .setF (.setF h ..) ..

theorem Bounded.setCycleLen (h : Bounded s) (len : Nat) : Bounded (s.setCycleLen len) := .ite h (.latencyCheck (.setF h ..))

theorem Bounded.masterLapse (h : Bounded s) : Bounded s.masterLapse := .ite (.setCycleLen (.setMaster (.setF h ..) ..) ..) h

theorem Bounded.missedCycle (h : Bounded s) : Bounded s.missedCycle := by
  unfold State.missedCycle
  exact .expire h _ _ _ fun _ h => .ite h (.cycleAlign (.masterLapse (.setF (.ite (.addV (.disciplineMissing h) ..)
    (.disciplineMissing h)) ..)))

theorem Bounded.execMissingCycle (h : Bounded s) {u : State} (hu : execMissingCycle s = .next u) : Bounded u := .done (.missedCycle h) hu

theorem Bounded.holdoverEnd (h : Bounded s) : Bounded s.holdoverEnd := .expire h _ _ _ fun _ h => .ite (.noteLasting (.setDisc h ..) ..) h

theorem Bounded.execHoldoverExpired (h : Bounded s) {u : State} (hu : execHoldoverExpired s = .next u) : Bounded u :=
  .done (.holdoverEnd h) hu

theorem Bounded.disciplineFree (h : Bounded s) : Bounded s.disciplineFree := .setCorrection (.setDisc h ..) ..

theorem Bounded.hardClockFault (h : Bounded s) (code d0 : Nat) : Bounded (s.hardClockFault code d0) :=
  .raise (.each (.disciplineFree (.setOn h ..)) _ _ fun _ h _ _ => .removeEnable h ..) ..

theorem Bounded.execXtalFail (h : Bounded s) {u : State} (hu : execXtalFail s = .next u) : Bounded u :=
  .done (.ite h (.hardClockFault (.setFb (.setFb h ..) ..) ..)) hu

theorem Bounded.execPllUnlock (h : Bounded s) {u : State} (hu : execPllUnlock s = .next u) : Bounded u :=
  .done (.ite h (.hardClockFault (.setFb (.setFb h ..) ..) ..)) hu

theorem Bounded.execClockCount (h : Bounded s) {clock : Fin 7} {count : Nat} {u : State} (hu : execClockCount clock count s = .next u) :
    Bounded u :=
  .done (.ite h (.hardClockFault (.setF (.setFb h ..) ..) ..)) hu

theorem Bounded.fabDrop (h : Bounded s) : Bounded s.fabDrop := .each h _ _ fun _ h _ _ => .portOff h ..

theorem Bounded.execPllBackupLock (h : Bounded s) {t : Nat} {u : State} (hu : execPllBackupLock t s = .next u) : Bounded u := by
  unfold Machine.execPllBackupLock at hu
  exact .done (.ite (.fabDrop (.each (.pllLocked (.setFb (.parts h) ..)) _ _ fun _ h _ _ => .setF h ..)) (.parts h)) hu

theorem Bounded.execCorrectionLimit (h : Bounded s) {u : State} (hu : execCorrectionLimit s = .next u) : Bounded u :=
  .done (.expire h _ _ _ fun _ h => .raise h ..) hu

theorem Bounded.awaitBus (h : Bounded s) : Bounded s.awaitBus := .parts h

theorem Bounded.holdBus (h : Bounded s) (beats : Nat) : Bounded (s.holdBus beats) := .setV h ..

theorem Bounded.eccRead (h : Bounded s) (e : Ecc) : Bounded (s.eccRead e) := by
  unfold State.eccRead
  split
  · exact h
  · exact .note (.addF h ..) ..
  · exact .raise (.addF h ..) ..

theorem Bounded.busRead (h : Bounded s) (c who : Nat) (e : Ecc) : Bounded (s.busRead c who e) := .eccRead (.setOn h ..) ..

theorem Bounded.scrubGranted (h : Bounded s) (r : BusReq) : Bounded (s.scrubGranted r) := by
  unfold State.scrubGranted
  exact .ite (.setV (.each (.setV (.addV h ..) ..) _ _ fun _ h _ _ => .setV h ..) ..) (.setV (.addV h ..) ..)

theorem Bounded.grant (h : Bounded s) (waiting : List BusReq) : Bounded (s.grant waiting) := by
  unfold State.grant
  extract_lets s1 l late s2
  have h2 : Bounded s2 :=
    .each (.awaitBus h) _ _ fun _ h _ _ => .setOn (.addF h ..) ..
  split
  · exact h2
  next r _ =>
  extract_lets c s3 s4 s5 s6 s7 s8 s9
  have h3 : Bounded s3 := .setOn (.holdBus h2 ..) ..
  have h4 : Bounded s4 := .ite (.addV h3 ..) h3
  have h7 : Bounded s7 := .setV (.setV (.setV (.setF h4 ..) ..) ..) ..
  have h8 : Bounded s8 := .ite (.setV h7 ..) h7
  have h9 : Bounded s9 := .ite h8 (.busRead h8 ..)
  exact .ite (.scrubGranted h9 ..) h9

theorem Bounded.drainPosted (h : Bounded s) (n : Nat) : Bounded (s.drainPosted n) := .setV h ..

theorem Bounded.execInterconnectGrant (h : Bounded s) {waiting : List BusReq} {drained t : Nat} {u : State}
    (hu : execInterconnectGrant waiting drained t s = .next u) : Bounded u :=
  .done (.grant (.drainPosted (.parts h) ..) ..) hu

theorem Bounded.scrubGrants (h : Bounded s) (n : Nat) (l : List BusReq) : Bounded (State.scrubGrants n l s) := by
  induction n generalizing s l with
  | zero => exact h
  | succ n ih =>
    unfold State.scrubGrants
    refine .ite h ?_
    dsimp only
    split
    · exact .awaitBus h
    · exact ih (.grant (.awaitBus h) ..) _

theorem Bounded.scrubDue (h : Bounded s) (e : Ecc) : Bounded (s.scrubDue e) := .addV (.setV (.when h _ _ fun _ h => .setV h ..) ..) ..

theorem Bounded.execScrubBlock (h : Bounded s) {b : ScrubBlock} {u : State} (hu : execScrubBlock b s = .next u) : Bounded u :=
  .done (.expire h _ _ _ fun _ h => .scrubGrants (.scrubDue (.openSlow h ..) ..) ..) hu

theorem Bounded.swapSlice (h : Bounded s) (c at' : Nat) : Bounded (s.swapSlice c at') :=
  .openSlow (.setF (.setOn (.setV (.setV (.setV (.setV (.setV (.each h _ _ fun _ h _ _ => .ite
    (.setV h ..) h) ..) ..) ..) ..) ..) ..) ..) ..

theorem Bounded.execSliceSwap (h : Bounded s) {core : Fin 4} {u : State} (hu : execSliceSwap core s = .next u) : Bounded u := by
  unfold Machine.execSliceSwap at hu
  exact .done (.expire h _ _ _ fun _ h => .ite (.openSlow h ..) (.ite (.note (.clearCause (.clearCause (.setFb (.lapse (.setFb (.setF
    (.swapSlice (.openSlow h ..) ..) ..) ..) ..) ..) ..) ..) ..) (.swapSlice (.openSlow h ..) ..))) hu

theorem Bounded.execSliceCalDone (h : Bounded s) {core : Fin 4} {offset gain skew : Int} {u : State}
    (hu : execSliceCalDone core offset gain skew s = .next u) : Bounded u := by
  unfold Machine.execSliceCalDone at hu
  exact .done (.expire h _ _ _ fun _ h => .ite (.setOn (.setV (.setV (.setV h ..) ..) ..) ..) (.ite (.openSlow (.setOn (.addF h ..) ..) ..)
    (.raise (.openSlow (.setFb (.setF (.setF (.openSlow (.setOn (.addF h ..) ..) ..) ..) ..) ..) ..) ..))) hu

theorem Bounded.execCalStale (h : Bounded s) {core : Fin 4} {u : State} (hu : execCalStale core s = .next u) : Bounded u :=
  .done (.expire h _ _ _ fun _ h => .raise (.setFb h ..) ..) hu

theorem Bounded.carrierBegin (h : Bounded s) (t : Stage) : Bounded (s.carrierBegin t) :=
  .expire h _ _ _ fun _ h => .setOn (.setDue (.setV (.setV (.setFb h ..) ..) ..) ..) ..

/-! ### Carriers, acquisition, feedback and motion -/

theorem Bounded.execCarrierStart (h : Bounded s) {t : Stage} {u : State} (hu : execCarrierStart t s = .next u) : Bounded u :=
  .done (.carrierBegin h ..) hu

theorem Bounded.slotEvent (h : Bounded s) (t : Stage) (middle : Bool) (v : Nat) : Bounded (s.slotEvent t middle v) := by
  unfold State.slotEvent
  exact .each h _ _ fun _ h _ _ => .ite (.ite (.setDue (.setV (.setV h ..) ..) ..) (.setV h ..)) h

theorem Bounded.snapTake (h : Bounded s) (n v : Nat) : Bounded (s.snapTake n v) :=
  .setV (.setV (.setV (.setV (.setV (.setV h ..) ..) ..) ..) ..) ..

theorem Bounded.ssiStart (h : Bounded s) (n : Nat) : Bounded (s.ssiStart n) := by
  unfold State.ssiStart
  exact .ite h (.ite (.addF h ..) (.setDue (.setV (.setV h ..) ..) ..))

theorem Bounded.fbSnapshot (h : Bounded s) (n v : Nat) (subst : Bool) : Bounded (s.fbSnapshot n v subst) :=
  .ssiStart (.setFb (.wrapF (.snapTake (.setV (.each (.fbRun h ..) _ _ fun _ h _ _ => .setV h ..) ..) ..) ..) ..) ..

theorem Bounded.fbEvent (h : Bounded s) (t : Stage) (middle subst : Bool) (v : Nat) : Bounded (s.fbEvent t middle subst v) :=
  .each h _ _ fun _ h _ _ => .ite (.fbSnapshot h ..) h

theorem Bounded.dmaEnter (h : Bounded s) {e : DmaEntry} (he : e.buf < 16 ∧ e.core < 4) : Bounded (s.dmaEnter e) := by
  have hdropped : Bounded { s with dmaFifo := s.dmaFifo.erase e } := .of_dmaFifo h (forall_mem_erase h.dmaFifo e)
  exact .ite hdropped (.ite (.raise (.addF hdropped ..) ..) (.of_dmaFifo h (forall_mem_replace h.dmaFifo he)))

theorem Bounded.dmaArrive (h : Bounded s) (c : Nat) : Bounded (s.dmaArrive c) :=
  .each h _ _ fun _ hu e he => .dmaEnter hu (h.dmaFifo e (List.mem_of_mem_filter he))

theorem Bounded.seqOn (h : Bounded s) (c a : Nat) : Bounded (s.seqOn c a) := by
  unfold State.seqOn
  exact .ite (.ite (.seqStart (.setV h ..) ..) (.seqStart (.setV h ..) ..)) (.seqStart h ..)

theorem Bounded.ovrCheck (h : Bounded s) (n : Nat) (ovr : Bool) : Bounded (s.ovrCheck n ovr) := by
  unfold State.ovrCheck
  exact .ite (.setV (.ite (.setW1c h ..) (.setW1c h ..)) ..) (.ite (.clearCause (.setV h ..) ..) h)

theorem Bounded.dmaPut (h : Bounded s) {c b : Nat} (hc : c < 4) (hb : b < 16) (n : Nat) (x : Int) (ovr : Bool) (channel tag : Nat) :
    Bounded (s.dmaPut c b n x ovr channel tag) :=
  .of_dmaFifo (.setOn h .seqMark c false) (forall_mem_concat h.dmaFifo ⟨hb, hc⟩)

theorem Bounded.resResult (h : Bounded s) (c n : Nat) (isCos : Bool) (x : Int) : Bounded (s.resResult c n isCos x) := by
  unfold State.resResult
  split
  · exact h
  · exact .ite h (.ite (.addV (.addV h ..) ..) (.addV (.addV h ..) ..))

theorem Bounded.seqConverted (h : Bounded s) (c a : Nat) : Bounded (s.seqConverted c a) := .ite (.setV (.setV h ..) ..) (.seqOn h ..)

/-- An entry of a table names one of 16 buffers. -/
theorem seqF_buffer_lt (s : State) (c e w : Nat) : s.seqF c e w 9 6 < 16 := Nat.mod_lt _ (by decide)

theorem Bounded.convert (h : Bounded s) {c : Nat} (hc : c < 4) (n : Nat) (raw : Int) : Bounded (s.convert c n raw) :=
  .seqConverted (.when (.when (.parts (.cmpTake (.when (.setV h ..) _ _ fun _ h => .ovrCheck h ..) ..)) _ _ fun _ h => .dmaPut h hc
    (seqF_buffer_lt ..) ..) _ _ fun _ h => .resResult h ..) ..

theorem Bounded.seqGo (h : Bounded s) {c : Nat} (hc : c < 4) (v n : Nat) (l : List Int) : Bounded (State.seqGo c v n l s) := by
  induction n generalizing s l with
  | zero => exact h
  | succ n ih =>
    unfold State.seqGo
    exact .ite h (.ite (.ite (ih (.seqOn h ..) _) h) (.ite (ih (.convert h hc ..) _) h))

theorem Bounded.coreTo (h : Bounded s) {c : Nat} (hc : c < 4) (v : Nat) (l : List Int) : Bounded (s.coreTo c v l) :=
  .ite h (.dmaArrive (.seqGo h hc ..) ..)

theorem Bounded.accLatch (h : Bounded s) (a v : Nat) : Bounded (s.accLatch a v) := by
  unfold State.accLatch
  extract_lets sum n full s1 s2 s3 s4 s5 s6 s7 s8
  have h3 : Bounded s3 := .setOn (.setV (.setV (.setV (.setV (.each h _ _ fun _ h _ _ => .setV (.setV h ..) ..) ..) ..) ..) ..) ..
  have h6 : Bounded s6 := .addF (.setFb (.setF (.setF (.setF h3 ..) ..) ..) ..) ..
  refine .ite ?_ (.clearCause (.setF (.setFb h6 ..) ..) ..)
  split
  · exact .setFb h6 ..
  · exact .ite (.raise (.setFb h6 ..) ..) (.setFb h6 ..)

theorem Bounded.waitMet (h : Bounded s) (c : Nat) : Bounded (s.waitMet c) := by
  unfold State.waitMet
  dsimp only
  refine .clearCause (.setOn (.of_dmaFifo h ?_) ..) ..
  split
  next hlast =>
    have hunits := h.dmaFifo _ (List.mem_of_mem_filter (List.mem_of_getLast? hlast))
    exact forall_mem_replace h.dmaFifo hunits
  · exact h.dmaFifo

theorem Bounded.seqMeet (h : Bounded s) {c : Nat} (hc : c < 4) (src : Nat) (middle : Bool) (v n : Nat) :
    Bounded (State.seqMeet c src middle v n s) := by
  induction n generalizing s with
  | zero => exact h
  | succ n ih =>
    unfold State.seqMeet
    exact .ite (ih (.coreTo (.seqReady (.waitMet h ..) ..) hc ..)) h

theorem Bounded.seqEvent (h : Bounded s) {c : Nat} (hc : c < 4) (src : Nat) (middle subst : Bool) (v : Nat) :
    Bounded (s.seqEvent c src middle subst v) :=
  .ite h (.ite (.seqMeet h hc ..) (.ite (.raise (.addF h ..) ..) h))

theorem Bounded.coreEvent (h : Bounded s) {c : Nat} (hc : c < 4) (src : Nat) (middle subst : Bool) (v : Nat) (l : List Int) :
    Bounded (s.coreEvent c src middle subst v l) := by
  unfold State.coreEvent
  exact .ite (.setV (.coreTo h hc ..) ..) (.seqEvent (.each (.accTake (.setV (.coreTo h hc ..) ..) ..) _ _ fun _ h _ _ => .ite
    (.accLatch h ..) h) hc ..)

theorem Bounded.carrierEvent (h : Bounded s) (t : Stage) (middle : Bool) (v : Nat) (l : List Conv) :
    Bounded (s.carrierEvent t middle v l) :=
  .each h _ _ fun _ h _ hc => .coreEvent (.setFb (.setOn (.setV h ..) ..) ..) (List.mem_range.1 hc) ..

theorem Bounded.regEvent (h : Bounded s) (middle : Bool) (at' : Nat) : Bounded (s.regEvent middle at') :=
  .ite (.setDue (.setV (.setV h ..) ..) ..) h

theorem Bounded.stageEvent (h : Bounded s) (t : Stage) (middle : Bool) (at' : Nat) (conv : List Conv) :
    Bounded (s.stageEvent t middle at' conv) := by
  unfold State.stageEvent
  exact .preEval (.ite (.regEvent (.slotEvent (.fbEvent (.carrierEvent h ..) ..) ..) ..) (.slotEvent (.fbEvent (.carrierEvent h ..) ..) ..))

theorem Bounded.syncFreed (h : Bounded s) : Bounded s.syncFreed := by
  unfold State.syncFreed
  split
  · exact .ite (.close (.setOn h ..) ..) h
  · exact h

theorem Bounded.newTripPeriod (h : Bounded s) (t : Stage) : Bounded (s.newTripPeriod t) :=
  .setFb (.setF (.setF (.setV (.setV h ..) ..) ..) ..) ..

theorem Bounded.changeMode (h : Bounded s) (t : Stage) : Bounded (s.changeMode t) := by
  unfold State.changeMode
  exact .ite h (.noteAt (.setFb (.setF (.when h _ _ fun _ h => .setOn h ..) ..) ..) ..)

theorem Bounded.addOff (h : Bounded s) {c : Nat} (hc : c < 64) (e : Nat) (moved : Bool) : Bounded (s.addOff c e moved) :=
  .ite (.edges_filter h _) (.of_edges h (forall_mem_concat h.edges hc))

theorem Bounded.levelChange (h : Bounded s) {n : Nat} (hn : n < 32) (fromLv : Nat) (toLv e : Nat) (moved mute : Bool) :
    Bounded (s.levelChange n fromLv toLv e moved mute) := by
  have hoff : Bounded (if fromLv == 1 then s.addOff (2 * n) e moved else if fromLv == 2 then s.addOff (2 * n + 1) e moved else s) :=
    .ite (.addOff h (by omega) ..) (.ite (.addOff h (by omega) ..) h)
  unfold State.levelChange
  refine .ite h (.ite hoff (.addOn hoff ?_ ..))
  split <;> omega

theorem Bounded.changeLegs (h : Bounded s) (t : Stage) (x per : Nat) : Bounded (s.changeLegs t x per) := by
  unfold State.changeLegs
  refine .each h _ _ fun s h n hn => ?_
  have hlevel {fromLv toLv e : Nat} {moved mute : Bool} : Bounded (s.levelChange n fromLv toLv e moved mute) :=
    .levelChange h (lt_of_mem_legs hn) ..
  refine .ite (.setDue (.setV ?_ ..) ..) ?_
  all_goals exact .setDue (.setV (.ite (.setV (.setV hlevel ..) ..) h) ..) ..

theorem Bounded.rephase (h : Bounded s) (n x : Nat) (perOld per : Nat) : Bounded (s.rephase n x perOld per) :=
  .ite h (.setDue (.setV h ..) ..)

theorem Bounded.carrierPeriod (h : Bounded s) (t : Stage) : Bounded (s.carrierPeriod t) := by
  refine .expire h _ _ _ fun s h => ?_
  extract_lets x s1 s2 s3 change s4 base perOld
  have h2 : Bounded s2 := .addF (.setV (.recordTouched (.ite (.syncFreed h) h)) ..) ..
  have h4 : Bounded s4 := .changeMode (.setOn (.ite h2 (.newTripPeriod h2 ..)) ..) ..
  split
  next d clamped _ =>
  extract_lets per s5 s6 s7 s8
  have h7 : Bounded s7 := .when (.setF (.when h4 _ _ fun _ h => .addF h ..) ..) _ _
    fun _ h => .changeLegs h ..
  have h8 : Bounded s8 := .when h7 _ _ fun _ h => .emit (.setV h ..) ..
  split
  · exact .setDue (.setDue (.setV (.each h8 _ _ fun _ h _ _ => .setDue (.setV h ..) ..) ..) ..) ..
  · exact .setDue (.setDue (.setV (.each h8 _ _ fun _ h _ _ => .ite (.ite h (.rephase h ..)) (.setDue (.setV h ..) ..)) ..) ..) ..
  · exact .each (.setV (.ite (.setDue (.setV h8 ..) ..) h8) ..) _ _ fun _ h _ _ => .ite h (.setDue (.setV h ..) ..)

theorem Bounded.execPeriodStart (h : Bounded s) {t : Stage} {conv : List Conv} {u : State} (hu : execPeriodStart t conv s = .next u) :
    Bounded u :=
  .done (.ite (.stageEvent (.carrierPeriod h ..) ..) h) hu

theorem Bounded.carrierMiddle (h : Bounded s) (t : Stage) : Bounded (s.carrierMiddle t) :=
  .expire h _ _ _ fun _ h => .ite (.each h _ _ fun _ h _ _ => .setDue (.setV h ..) ..) h

theorem Bounded.execPeriodMiddle (h : Bounded s) {t : Stage} {conv : List Conv} {u : State} (hu : execPeriodMiddle t conv s = .next u) :
    Bounded u :=
  .done (.ite (.stageEvent (.carrierMiddle h ..) ..) h) hu

theorem Bounded.execSubstituteEvent (h : Bounded s) {core : Fin 4} {t : Stage} {middle : Bool} {conv : List Conv} {u : State}
    (hu : execSubstituteEvent core t middle conv s = .next u) : Bounded u := by
  unfold Machine.execSubstituteEvent at hu
  refine .done (.ite h (.preEval (.ite (.slotEvent (.fbEvent ?_ ..) ..) ?_))) hu
  all_goals exact .coreEvent (.setFb (.ite (.setOn (.parts h) ..) (.setOn (.setV (.parts h) ..) ..)) ..) core.isLt ..

theorem Bounded.execInputOverrange (h : Bounded s) {input : Fin 80} {u : State} (hu : execInputOverrange input s = .next u) : Bounded u :=
  .done (.ite (.raise h ..) h) hu

theorem Bounded.coreUntil (h : Bounded s) {c : Nat} (hc : c < 4) (t : Nat) (conv : List Int) : Bounded (s.coreUntil c t conv) :=
  .dmaArrive (.coreTo (.parts h) hc ..) ..

theorem Bounded.bufWrite (h : Bounded s) (e : DmaEntry) : Bounded (s.bufWrite e) :=
  .ite h (.when (.when (.setF (.each h _ _ fun _ h _ _ => .parts h) ..) _ _ fun _ h => .wrapF h ..) _ _ fun _ h => .addV h ..)

theorem Bounded.execDmaBurstWritten (h : Bounded s) {b : DmaBurst} {u : State} (hu : execDmaBurstWritten b s = .next u) : Bounded u := by
  have huntil : Bounded (s.coreUntil b.core.val b.t b.conv) := .coreUntil h b.core.isLt ..
  unfold Machine.execDmaBurstWritten at hu
  dsimp only at hu
  split at hu
  · exact .done huntil hu
  next burst _ =>
    have hwritten : Bounded ((s.coreUntil b.core.val b.t b.conv).each burst State.bufWrite) :=
      .each huntil _ _ fun _ h _ _ => .bufWrite h ..
    refine .done (.of_dmaFifo hwritten (List.forall_mem_append.2 ⟨forall_mem_filter hwritten.dmaFifo _, fun e he => ?_⟩)) hu
    exact hwritten.dmaFifo e (List.mem_of_mem_filter (List.mem_of_mem_drop he))

theorem Bounded.execDmaOverflow (h : Bounded s) {core : Fin 4} {conv : List Int} {t : Nat} {u : State}
    (hu : execDmaOverflow core conv t s = .next u) : Bounded u :=
  .done (.coreUntil h core.isLt ..) hu

theorem Bounded.execBufferFreezeWrite (h : Bounded s) {r : Req} {buffer : Fin 64} {value : Word} {t : Nat} {u : State}
    (hu : execBufferFreezeWrite r buffer value t s = .next u) : Bounded u :=
  .writeField h hu

theorem Bounded.execBufferFrozen (h : Bounded s) {buffer : Fin 64} {u : State} (hu : execBufferFrozen buffer s = .next u) : Bounded u :=
  .done (.ite (.raise (.setFb (.setFb h ..) ..) ..) h) hu

theorem Bounded.hkClear (h : Bounded s) (p : Nat) : Bounded (s.hkClear p) := by
  unfold State.hkClear
  exact .ite (.clearCause h ..) (.ite (.each h _ _ fun _ h _ _ => .clearCause (.setFb h ..) ..) (.ite (.clearCause h ..) h))

theorem Bounded.hkRaise (h : Bounded s) (p : Nat) (code : Int) : Bounded (s.hkRaise p code) := by
  unfold State.hkRaise
  exact .ite (.raise h ..) (.ite (.raiseAll (.each h _ _ fun _ h _ _ => .setFb h ..) ..) (.ite (.raise h ..) (.raise h ..)))

theorem Bounded.hkPosition (h : Bounded s) (p : Nat) (code : Int) : Bounded (s.hkPosition p code) := by
  unfold State.hkPosition
  refine .ite h (.ite (.ite (.hkClear (.setFb ?_ ..) ..) ?_) (.ite (.hkRaise (.setFb ?_ ..) ..) ?_))
  all_goals exact .setV (.setV (.setF (.setFb (.setFb (.setF h ..) ..) ..) ..) ..) ..

theorem Bounded.execHkRound (h : Bounded s) {codes : List Int} {u : State} (hu : execHkRound codes s = .next u) : Bounded u :=
  .done (.expire h _ _ _ fun _ h => .addF (.each (.openSlow h ..) _ _ fun _ h _ _ => .hkPosition h ..) ..) hu

theorem Bounded.thCheck (h : Bounded s) (n : Nat) : Bounded (s.thCheck n) := by
  unfold State.thCheck
  dsimp only
  split
  · exact .setV (.setV h ..) ..
  · exact .ite (.ite (.setV (.raise (.setFb (.setV h ..) ..) ..) ..) (.setV h ..)) (.ite (.note (.clearCause (.setV (.setFb
      (.setV h ..) ..) ..) ..) ..) (.setV h ..))

theorem Bounded.eachSource (h : Bounded s) (k : State → Nat → State × List FaultEvt)
    (hk : ∀ s : State, Bounded s → ∀ n, Bounded (k s n).1) : Bounded (s.eachSource k).1 := by
  unfold State.eachSource
  exact .foldl_fst h _ _ fun a h n _ => hk a.1 h n

theorem Bounded.thEffective (h : Bounded s) (n : Nat) : Bounded (s.thEffective n).1 := by
  unfold State.thEffective
  refine .ite_fst ?_ (.clearCause (.setFb (.setF h ..) ..) ..)
  split
  · exact .clearCause (.setFb (.setF h ..) ..) ..
  · exact .ite_fst (.ite h (.setF h ..)) (.ite_fst (.ite h (.setF h ..)) (.setFb (.ite h (.setF h ..)) ..))

theorem Bounded.thCond (h : Bounded s) (n k : Nat) (flag : Fld) (set clr : Bool) (code : Nat) :
    Bounded (s.thCond n k flag set clr code).1 := by
  unfold State.thCond
  exact .ite_fst (.ite_fst (.clearCause (.setFb (.setV h ..) ..) ..) (.setFb (.setV h ..) ..)) (.setV h ..)

theorem Bounded.thThresholds (h : Bounded s) (n : Nat) : Bounded (s.thThresholds n).1 := by
  unfold State.thThresholds
  dsimp only
  exact .when (.setV (.thCond (.thCond (.thCond (.thCond h ..) ..) ..) ..) ..) _ _ fun _ h => .addF (.setV (.setOn (.setFb h ..) ..) ..) ..

theorem Bounded.thermalRound (h : Bounded s) (board : List BoardRead) : Bounded (s.thermalRound board) := by
  unfold State.thermalRound
  refine .ite h ?_
  dsimp only
  exact .raiseAll (.addF (.each (.eachSource (.eachSource (.each (.each h _ _ fun _ h _ _ => .setFb (.setF (.when h
    _ _ fun _ h => .setV h ..) ..) ..) _ _ fun _ h _ _ => .thCheck h ..) _ fun _ h _ => .thEffective h ..)
    _ fun _ h _ => .thThresholds h ..) _ _ fun _ h _ _ => .ite (.abortBrakeTest (.setF h ..) ..) (.setF h ..)) ..) ..

theorem Bounded.execThermalRound (h : Bounded s) {board : List BoardRead} {u : State} (hu : execThermalRound board s = .next u) :
    Bounded u :=
  .done (.thermalRound h ..) hu

theorem Bounded.execThermalRelease (h : Bounded s) {r : Req} {t : Nat} {u : State} (hu : execThermalRelease r t s = .next u) :
    Bounded u :=
  .serveAt h hu

theorem Bounded.snapRenew (h : Bounded s) (n : Nat) : Bounded (s.snapRenew n) := .ite (.snapTake h ..) h

theorem Bounded.fbDone (h : Bounded s) {n : Nat} {u : State} (hu : fbDone n s = .next u) : Bounded u :=
  .done (.snapRenew (.fbRun h ..) ..) hu

theorem Bounded.accepts_filter (h : Bounded s) (q : Accept → Bool) : Bounded { s with accepts := s.accepts.filter q } :=
  .of_accepts h (forall_mem_filter h.accepts q)

theorem Bounded.pinChange (h : Bounded s) {n : Nat} (hn : n < 8) (x : PinChange) : Bounded (s.pinChange n x) := by
  unfold State.pinChange
  refine .ite (.parts (.fbRun h ..)) ?_
  dsimp only
  generalize hs : State.when _ _ _ = u
  have hu : Bounded u := by
    rw [← hs]
    refine .when (.when (.setV (.parts (.fbRun h ..)) ..) _ _ fun _ h => .accepts_filter h _) _ _ fun s h => ?_
    exact .of_accepts (.setV h ..) (forall_mem_concat h.accepts hn)
  exact .ite (.filterFrom (.lapseAt hu ..) ..) (.ite (.ite (.filterFrom (.lapseAt hu ..) ..) (.lapseAt hu ..)) hu)

theorem Bounded.fbPins (h : Bounded s) {n : Nat} (hn : n < 8) (pins : List PinChange) : Bounded (s.fbPins n pins) :=
  .each h _ _ fun _ h _ _ => .pinChange h hn ..

theorem Bounded.fbInputs (h : Bounded s) {n : Nat} (hn : n < 8) (pins : List PinChange) (t : Nat) : Bounded (s.fbInputs n pins t) :=
  .parts (.fbPins h hn ..)

theorem Bounded.execEncoderEdge (h : Bounded s) {channel : Fin 8} {pins : List PinChange} {t : Nat} {u : State}
    (hu : execEncoderEdge channel pins t s = .next u) : Bounded u :=
  .fbDone (.fbInputs h channel.isLt ..) hu

theorem Bounded.execIndexQualified (h : Bounded s) {channel : Fin 8} {pins : List PinChange} {t : Nat} {u : State}
    (hu : execIndexQualified channel pins t s = .next u) : Bounded u :=
  .fbDone (.fbInputs h channel.isLt ..) hu

theorem Bounded.execHallSectorChange (h : Bounded s) {channel : Fin 8} {pins : List PinChange} {t : Nat} {u : State}
    (hu : execHallSectorChange channel pins t s = .next u) : Bounded u :=
  .fbDone (.fbInputs h channel.isLt ..) hu

theorem Bounded.fbExpire (h : Bounded s) (n : Nat) (tm : Timer) (i : Nat) (k : State → State)
    (hk : ∀ a : State, Bounded a → Bounded (k a)) : Bounded (s.fbExpire n tm i k) := by
  unfold State.fbExpire
  split
  · exact h
  · exact .ite (.expire (.fbRun h ..) _ _ _ fun _ h => hk _ h) (.fbRun h ..)

theorem Bounded.fbSignal (h : Bounded s) (code n : Nat) (inst d1 : Nat) : Bounded (s.fbSignal code n inst d1) :=
  .ite h (.fbValid (.fbFault (.addF h ..) ..) ..)

theorem Bounded.execHallInvalid (h : Bounded s) {channel : Fin 8} {pins : List PinChange} {u : State}
    (hu : execHallInvalid channel pins s = .next u) : Bounded u := by
  unfold Machine.execHallInvalid at hu
  exact .fbDone (.fbExpire (.fbPins h channel.isLt ..) _ _ _ _ fun _ h => .ite (.fbSignal (.refFalls h ..) ..) (.filterFrom (.fbSignal
    (.refFalls h ..) ..) ..)) hu

theorem Bounded.execWireFault (h : Bounded s) {channel : Fin 8} {pair : Fin 4} {pins : List PinChange} {u : State}
    (hu : execWireFault channel pair pins s = .next u) : Bounded u := by
  unfold Machine.execWireFault at hu
  exact .fbDone (.fbExpire (.fbPins h channel.isLt ..) _ _ _ _ fun _ h => .ite (.fbSignal (.setFb h ..) ..) (.filterFrom (.fbSignal
    (.setFb h ..) ..) ..)) hu

theorem Bounded.fbClear (h : Bounded s) (code n inst : Nat) : Bounded (s.fbClear code n inst) := .fbValid (.clearCause h ..) ..

theorem Bounded.execWireFaultCleared (h : Bounded s) {channel : Fin 8} {pair : Fin 4} {pins : List PinChange} {u : State}
    (hu : execWireFaultCleared channel pair pins s = .next u) : Bounded u :=
  .fbDone (.fbExpire (.fbPins h channel.isLt ..) _ _ _ _ fun _ h => .fbClear (.setFb h ..) ..) hu

theorem Bounded.execSupplyFault (h : Bounded s) {channel : Fin 8} {u : State} (hu : execSupplyFault channel s = .next u) : Bounded u := by
  unfold Machine.execSupplyFault at hu
  exact .fbDone (.ite (.fbSignal (.setFb (.openSlow (.close (.setOn h ..) ..) ..) ..) ..) h) hu

theorem Bounded.countV (h : Bounded s) (x : Var) (i : Nat) : Bounded (s.countV x i) := .setV h ..

theorem Bounded.execSupplyRetry (h : Bounded s) {channel : Fin 8} {u : State} (hu : execSupplyRetry channel s = .next u) : Bounded u :=
  .done (.expire h _ _ _ fun _ h => .openSlow (.countV (.setOn h ..) ..) ..) hu

theorem Bounded.resAdvance (h : Bounded s) (n c : Nat) : Bounded (s.resAdvance n c) := .setV (.setV h ..) ..

theorem Bounded.resAmp (h : Bounded s) (n : Nat) (stale inside : Bool) : Bounded (s.resAmp n stale inside) := by
  unfold State.resAmp
  refine .ite (.fbSignal ?_ ..) (.ite (.fbClear ?_ ..) (.setV (.setV (.setV h ..) ..) ..))
  all_goals exact .setFb (.setV (.setV (.setV h ..) ..) ..) ..

theorem Bounded.resTrack (h : Bounded s) (n : Nat) (e : Int) : Bounded (s.resTrack n e) := by
  unfold State.resTrack
  exact .ite (.fbPosition (.refFalls (.setFb (.setV (.setV h ..) ..) ..) ..) ..) (.ite (.refRises (.setFb (.setV (.setV h ..) ..) ..) ..)
    (.setFb (.setV (.setV h ..) ..) ..))

theorem Bounded.resCorrect (h : Bounded s) (n : Nat) (e : Int) : Bounded (s.resCorrect n e) := .addV (.addV h ..) ..

theorem Bounded.execResWindowEnd (h : Bounded s) {channel : Fin 2} {conv : List Int} {u : State}
    (hu : execResWindowEnd channel conv s = .next u) : Bounded u := by
  have hn : channel.val < 4 := by omega
  unfold Machine.execResWindowEnd at hu
  exact .fbDone (.expire h _ _ _ fun _ h => .moved (.ite (.resAmp (.resAdvance (.setDue (.setV (.setV (.each (.coreTo
    (.setDue h ..) hn ..) _ _ fun _ h _ _ => .setV (.setV h ..) ..) ..) ..) ..) ..) ..) (.resTrack (.resCorrect (.resAmp (.resAdvance
    (.setDue (.setV (.setV (.each (.coreTo (.setDue h ..) hn ..) _ _ fun _ h _ _ => .setV (.setV h ..) ..) ..) ..) ..) ..) ..) ..) ..)) ..)
    hu

theorem Bounded.execExcPeriod (h : Bounded s) {channel : Fin 2} {amp : Nat} {limit : Bool} {u : State}
    (hu : execExcPeriod channel amp limit s = .next u) : Bounded u := by
  unfold Machine.execExcPeriod at hu
  extract_lets n set dev far near s1 at hu
  have h1 : Bounded s1 := .setV (.setV h ..) ..
  split at hu
  · exact .done h hu
  · split at hu
    · exact .fbDone (.fbSignal (.setFb h1 ..) ..) hu
    · split at hu
      · exact .fbDone (.fbClear (.setFb h1 ..) ..) hu
      · exact .done h1 hu

theorem Bounded.execSsiWindow (h : Bounded s) {channel : Fin 8} {u : State} (hu : execSsiWindow channel s = .next u) : Bounded u :=
  .fbDone (.expire h _ _ _ fun _ h => .ssiStart (.openSlow h ..) ..) hu

theorem Bounded.ssiRead (h : Bounded s) {n : Nat} (hn : n < 8) (at' : List Nat) (pins : List PinChange) (l : List Bool) :
    Bounded (State.ssiRead n at' pins l s).2 := by
  induction at' generalizing s pins l with
  | nil => exact .fbPins h hn ..
  | cons a rest ih => exact ih (.fbRun (.fbPins h hn ..) ..) ..

theorem Bounded.ssiGood (h : Bounded s) (n pos : Nat) : Bounded (s.ssiGood n pos) := by
  unfold State.ssiGood
  refine .ite (.fbPosition (.ite (.setOn (.refFalls (.setV (.addF h ..) ..) ..) ..) (.setV (.addF h ..) ..)) ..) (.ite (.refRises
    (.setOn ?_ ..) ..) ?_)
  all_goals exact .moved (.fbDir (.setV (.setF (.setV (.setOn (.setV (.ite (.setV h ..) h) ..) ..) ..) ..) ..) ..) ..

theorem Bounded.execSsiFrameDone (h : Bounded s) {channel : Fin 8} {pins : List PinChange} {u : State}
    (hu : execSsiFrameDone channel pins s = .next u) : Bounded u := by
  unfold Machine.execSsiFrameDone at hu
  refine .fbDone (.expire h _ _ _ ?_) hu
  intro _ h
  dsimp only
  split
  · exact .ite (.fbSignal (.setFb (.countV (.setV (.ssiRead h channel.isLt ..) ..) ..) ..) ..) (.countV (.setV
      (.ssiRead h channel.isLt ..) ..) ..)
  · exact .ssiGood (.fbClear (.setFb (.setV (.ssiRead h channel.isLt ..) ..) ..) ..) ..

theorem Bounded.execSpeedWindowEnd (h : Bounded s) {channel : Fin 8} {u : State} (hu : execSpeedWindowEnd channel s = .next u) :
    Bounded u := by
  unfold Machine.execSpeedWindowEnd at hu
  exact .fbDone (.fbExpire h _ _ _ _ fun _ h => .setF (.ite (.addF (.setFb (.fbRun (.setV (.setV (.setV
    (.openSlow h ..) ..) ..) ..) ..) ..) ..) (.ite (.addF (.setFb (.fbRun (.setV (.setV (.setV (.openSlow h ..) ..) ..) ..) ..) ..) ..)
    (.fbRun (.setV (.setV (.setV (.openSlow h ..) ..) ..) ..) ..))) ..) hu

theorem Bounded.execSpeedZeroTime (h : Bounded s) {channel : Fin 8} {u : State} (hu : execSpeedZeroTime channel s = .next u) :
    Bounded u :=
  .fbDone (.fbExpire h _ _ _ _ fun _ h => .setF h ..) hu

theorem Bounded.slotTrigger (h : Bounded s) (n at' : Nat) : Bounded (s.slotTrigger n at') := by
  unfold State.slotTrigger
  exact .ite h (.ite (.raise (.addF h ..) ..) (.setV (.setOn (.setV (.setV h ..) ..) ..) ..))

theorem Bounded.execSlotTrigger (h : Bounded s) {slot : Fin 48} {u : State} (hu : execSlotTrigger slot s = .next u) : Bounded u := by
  unfold Machine.execSlotTrigger at hu
  exact .done (.ite (.expire h _ _ _ fun _ h => .slotTrigger (.setDue h ..) ..) (.expire h _ _ _ fun _ h => .slotTrigger h ..)) hu

theorem nextSlot_lt {lane n : Nat} (hn : s.nextSlot lane = some n) : n < 48 := List.mem_range.1 (List.mem_of_find?_eq_some hn)

theorem slot_runOf (s : State) (n : Nat) : (s.runOf n).slot = n := by
  unfold State.runOf
  split <;> rfl

theorem Bounded.execSlotRunStart (h : Bounded s) {lane : Fin 4} {t : Nat} {u : State} (hu : execSlotRunStart lane t s = .next u) :
    Bounded u := by
  unfold Machine.execSlotRunStart at hu
  refine .done ?_ hu
  split
  · exact .parts h
  next n hn =>
    refine .ite (.parts h) (.openLoop (.of_runs (.setV (.setOn (.setOn (.parts h) ..) ..) ..)
      (forall_mem_concat h.runs ⟨?_, lane.isLt⟩)) ..)
    exact (slot_runOf _ n).trans_lt (nextSlot_lt hn)

theorem Bounded.slotCommit (h : Bounded s) (r : Run) : Bounded (s.slotCommit r) := by
  unfold State.slotCommit
  refine .ite h (.each h _ _ ?_)
  intro _ h _ _
  refine .setDue (.setF ?_ ..) ..
  split
  · exact .setF (.setF (.setF (.setF (.setF h ..) ..) ..) ..) ..
  · exact .setF (.setF (.setF h ..) ..) ..

theorem Bounded.slotMirror (h : Bounded s) (r : Run) (outs : List Int) : Bounded (s.slotMirror r outs) := by
  unfold State.slotMirror
  exact .ite (.addF h ..) (.each (.setF (.setF (.each (.each (.addV h ..) _ _ fun _ h _ _ => .setV h ..)
    _ _ fun _ h _ _ => .setF h ..) ..) ..) _ _ fun _ h _ _ => .setF h ..)

theorem Bounded.slotFlags (h : Bounded s) (r : Run) : Bounded (s.slotFlags r) :=
  .setFb (.setFb (.setFb (.setFb (.setFb (.setFb (.setFb h ..) ..) ..) ..) ..) ..) ..

theorem Bounded.coCause (h : Bounded s) (inst : Nat) (b : Bool) (slot : Nat) (x : Int) : Bounded (s.coCause inst b slot x) :=
  .ite (.clearCause h ..) (.ite h (.raise h ..))

theorem Bounded.slotCo (h : Bounded s) (r : Run) : Bounded (s.slotCo r) := .coCause (.coCause h ..) ..

theorem Bounded.absence (h : Bounded s) (k code inst : Nat) (cond : Bool) : Bounded (s.absence k code inst cond) :=
  .ite (.lapse h ..) (.ite h (.openSlow h ..))

theorem Bounded.chgFault (h : Bounded s) (code reaction : Nat) (t : Stage) (d0 : Nat) : Bounded (s.chgFault code reaction t d0) :=
  .chgSync (.ite (.raise h ..) (.chgSnap (.raise h ..) ..))

theorem Bounded.ppTo (h : Bounded s) (st : Nat) : Bounded (s.ppTo st) := by
  unfold State.ppTo
  refine .ite (.ite (.ite (.setOn ?_ ..) ?_) (.noteEnds (.ite (.setOn ?_ ..) ?_) ..)) (.noteEnds (.close (.ite (.ite (.setOn ?_ ..) ?_)
    (.noteEnds (.ite (.setOn ?_ ..) ?_) ..)) ..) ..)
  all_goals exact .setFb (.setF (.when h _ _ fun _ h => .setOn h ..) ..) ..

theorem Bounded.takeOver (h : Bounded s) : Bounded s.takeOver := .addF (.setOn h ..) ..

theorem Bounded.qualNow (h : Bounded s) : Bounded s.qualNow := by
  unfold State.qualNow
  exact .ite (.noteAt (.clearCause (.ppTo (.addF (.setFb (.close h ..) ..) ..) ..) ..) ..) (.addF (.setFb (.close h ..) ..) ..)

theorem Bounded.qualLate (h : Bounded s) : Bounded s.qualLate := .ite (.qualNow h) h

theorem Bounded.requalify (h : Bounded s) : Bounded s.requalify := .setOn (.close (.setFb (.qualLate h) ..) ..) ..

theorem Bounded.startFeeding (h : Bounded s) : Bounded s.startFeeding :=
  .noteEnds (.setV (.setFb (.setV (.setOn (.setV (.setV (.ppTo h ..) ..) ..) ..) ..) ..) ..) ..

theorem Bounded.ppStep (h : Bounded s) (run : Bool) : Bounded (s.ppStep run) := by
  unfold State.ppStep
  exact .chgSync (.timed (.ite (.ite (.chgSnap (.takeOver (.ppTo h ..)) ..) (.ppTo h ..)) (.ite (.setV (.ppTo h ..) ..) (.ite (.ite
    (.chgSnap (.takeOver (.setV (.noteLastingAt (.requalify (.ppTo h ..)) ..) ..)) ..) (.noteLastingAt (.setV h ..) ..)) (.ite (.ite
    (.startFeeding h) (.chgSnap (.raise h ..) ..)) h)))) ..)

theorem Bounded.pfcEnd (h : Bounded s) (r : Run) : Bounded (s.pfcEnd r) := by
  unfold State.pfcEnd
  extract_lets u target s1 s2 s3 sag s4 s5 high s6 s7 s8
  have h4 : Bounded s4 := .setV (.setF (.setF (.setV (.setV (.setV
    (.setV (.setV h ..) ..) ..) ..) ..) ..) ..) ..
  have h5 : Bounded s5 := .ite h4 (.noteEnds h4 ..)
  have h6 : Bounded s6 := .absence (.setV h5 ..) ..
  have h7 : Bounded s7 := .ite (.chgFault h6 ..) h6
  exact .ppStep (.ite (.setV h7 ..) h7) ..

theorem Bounded.dabEnd (h : Bounded s) (r : Run) : Bounded (s.dabEnd r) := by
  unfold State.dabEnd
  extract_lets m s1 s2 s3 c s4 st s5 s6a s6 ov s7 s8 oc s9 s10 s11 s12
  have h4 : Bounded s4 := .setV (.setFb (.setF (.setF (.setV (.setV
    (.setV (.setV (.setV h ..) ..) ..) ..) ..) ..) ..) ..) ..
  have h5 : Bounded s5 := .ite (.chgFinish h4 ..) h4
  have h6 : Bounded s6 := .ite (.ite (.setV (.setOn h5 ..) ..) (.setOn h5 ..)) h5
  have h7 : Bounded s7 := .absence (.setV h6 ..) ..
  have h8 : Bounded s8 := .ite (.chgFault h7 ..) h7
  have h9 : Bounded s9 := .absence h8 ..
  have h10 : Bounded s10 := .ite h9 (.timed h9 ..)
  have h12 : Bounded s12 := .ite (.chgFault (.setV h10 ..) ..) (.setV h10 ..)
  exact .ite h12 (.chgSync (.clearCause h12 ..))

theorem Bounded.actSupply (h : Bounded s) (a : Nat) (cond : Bool) (x : Var) (k code reaction : Nat) (bit : Fld) (vact : Int) :
    Bounded (s.actSupply a cond x k code reaction bit vact) := by
  unfold State.actSupply
  exact .ite (.raise (.setFb (.absence (.setV h ..) ..) ..) ..) (.absence (.setV h ..) ..)

theorem Bounded.actMove (h : Bounded s) (a n : Nat) : Bounded (s.actMove a n) :=
  .close (.openSlow (.setV (.addF (.setFb (.setF (.setF (.ite (.each h _ _ fun _ h _ _ => .setV h ..) h) ..) ..) ..) ..) ..) ..) ..

theorem Bounded.actBlock (h : Bounded s) (a : Nat) (pos : Int) (clamped : Bool) : Bounded (s.actBlock a pos clamped) := by
  unfold State.actBlock
  exact .ite (.close h ..) (.ite (.lapse h ..) (.ite h (.ite (.setV (.setV h ..) ..) (.openSlow (.setV (.setV h ..) ..) ..))))

theorem Bounded.actEnd (h : Bounded s) (r : Run) : Bounded (s.actEnd r) := by
  unfold State.actEnd
  split
  · exact h
  · extract_lets n m pos sp vact s1 s2 low high s3 s4 chop s5 s6 s7 new s8 t st far s9b s9 moving s10 s11 above
    have h2 : Bounded s2 := .setF (.setF (.setF (.setF h ..) ..) ..) ..
    have h4 : Bounded s4 := .actSupply (.actSupply h2 ..) ..
    have h6 : Bounded s6 := .setFb (.each h4 _ _ fun _ h _ _ => .setV h ..) ..
    have h8 : Bounded s8 :=
      .setOn (.ite (.setV (.setV (.setOn h6 ..) ..) ..) h6) ..
    have h9b : Bounded s9b := .ite h8 (.raise (.addF h8 ..) ..)
    have h9 : Bounded s9 := by
      refine .ite (.ite h8 (.actStop h8 ..)) ?_
      refine .ite (.ite (.actMove h8 ..) h8) ?_
      refine .ite (.openSlow (.setV (.setFb h8 ..) ..) ..) ?_
      refine .ite (.actMove h8 ..) ?_
      exact .ite (.ite (.actMove h9b ..) h9b) h8
    have h10 : Bounded s10 :=
      .ite (.close h9 ..) (.ite (.lapse h9 ..) (.ite h9 (.openSlow h9 ..)))
    exact .timed (.actBlock h10 ..) ..

theorem Bounded.slotHook (h : Bounded s) (r : Run) : Bounded (s.slotHook r) := by
  unfold State.slotHook
  split
  · exact .slotCo h ..
  · exact .pfcEnd h ..
  · exact .dabEnd h ..
  · exact .actEnd h ..
  · exact h

theorem Bounded.slotVsat100 (h : Bounded s) (r : Run) : Bounded (s.slotVsat100 r) := by
  unfold State.slotVsat100
  exact .ite (.clearCause (.setV h ..) ..) (.ite (.raise (.setV h ..) ..) (.setV h ..))

theorem Bounded.slotError (h : Bounded s) (r : Run) : Bounded (s.slotError r) := by
  unfold State.slotError
  refine .ite (.lapse ?_ ..) (.ite (.ite ?_ (.openLoop ?_ ..)) (.close ?_ ..))
  all_goals exact .ite (.setFb h ..) (.clearCause (.setFb h ..) ..)

theorem Bounded.publish (h : Bounded s) (r : Run) : Bounded (s.publish r) := by
  unfold State.publish
  refine .slotHook (.slotVsat100 (.slotError (.slotCommit (.slotMirror (.slotFlags (.when (.ite ?_ (.setV ?_ ..))
    _ _ fun _ h => .setOn h ..) ..) ..) ..) ..) ..) ..
  all_goals exact .each (.each h _ _ fun _ h _ _ => .setV (.setV h ..) ..) _ _ fun _ h _ _ => .setV (.setV (.setV h ..) ..) ..

theorem Bounded.slotCount (h : Bounded s) (r : Run) : Bounded (s.slotCount r) := .setF (.setF (.addF h ..) ..) ..

theorem Bounded.execSlotRunEnd (h : Bounded s) {lane : Fin 4} {u : State} (hu : execSlotRunEnd lane s = .next u) : Bounded u := by
  unfold Machine.execSlotRunEnd at hu
  refine .done (.expire h _ _ _ fun s h => ?_) hu
  split
  · exact h
  · have hrest : Bounded { s with runs := s.runs.filter fun r => r.lane != lane.val } := .of_runs h (forall_mem_filter h.runs _)
    exact .ite hrest (.each (.publish (.slotCount (.setOn hrest ..) ..) ..) _ _ fun _ h _ _ => .ite (.setDue h ..) h)

theorem Bounded.execFollowingError (h : Bounded s) {slot : Fin 48} {u : State} (hu : execFollowingError slot s = .next u) : Bounded u :=
  .done (.expire h _ _ _ fun _ h => .ite h (.raise (.addF h ..) ..)) hu

theorem Bounded.execSpLost (h : Bounded s) {slot : Fin 48} {u : State} (hu : execSpLost slot s = .next u) : Bounded u := by
  unfold Machine.execSpLost at hu
  exact .done (.ite (.expire h _ _ _ fun _ h => .spLost h ..) (.ite (.spLost h ..) h)) hu

theorem Bounded.execSetpointWrite (h : Bounded s) {r : Req} {slot : Fin 48} {sub : Fin 2} {value : Word} {t : Nat} {u : State}
    (hu : execSetpointWrite r slot sub value t s = .next u) : Bounded u :=
  .writeField h hu

theorem Bounded.execOpenLoop (h : Bounded s) {r : Req} {slot t : Nat} {u : State} (hu : execOpenLoop r slot t s = .next u) : Bounded u :=
  .serveAt h hu

theorem Bounded.execCloseLoop (h : Bounded s) {r : Req} {slot t : Nat} {u : State} (hu : execCloseLoop r slot t s = .next u) :
    Bounded u :=
  .serveAt h hu

theorem Bounded.commitLeg (h : Bounded s) (n : Nat) : Bounded (s.commitLeg n) := by
  unfold State.commitLeg
  refine .setFb (.setOn (.setV (.setOn (.each (.when (.recordTouched h) _ _ fun _ h => .addF h ..) _ _ ?_) ..) ..) ..) ..
  intro _ h _ _
  split
  · exact .setV h ..
  · exact h

theorem Bounded.execCommitComplete (h : Bounded s) {leg : Fin 32} {u : State} (hu : execCommitComplete leg s = .next u) : Bounded u :=
  .done (.expire h _ _ _ fun _ h => .commitLeg h ..) hu

theorem Bounded.execHostCommit (h : Bounded s) {r : Req} {leg : Fin 32} {value : Word} {t : Nat} {u : State}
    (hu : execHostCommit r leg value t s = .next u) : Bounded u :=
  .writeField h hu

theorem Bounded.takePending (h : Bounded s) (t : Stage) (n r : Nat) : Bounded (s.takePending t n r).1 := by
  unfold State.takePending
  refine .ite_fst ?_ (.ite_fst ?_ (.when (.when h _ _ fun _ h => .setOn h ..) _ _ fun _ h => .setOn h ..))
  · refine .setFb (.setOn (.setF (.when (.setOn (.when (.when h _ _ ?_) _ _ ?_) ..) _ _ ?_) ..) ..) ..
    · exact fun _ h => .addF h ..
    · exact fun _ h => .noteAt (.addF h ..) ..
    · exact fun _ h => .addF h ..
  · refine .setOn (.when (.addF (.setFb (.setOn (.when (.each ?_ _ _ ?_) _ _ ?_) ..) ..) ..) _ _ ?_) ..
    · exact .when h _ _ fun _ h => .setOn h ..
    · exact fun _ h _ _ => .setF h ..
    · exact fun _ h => .setF h ..
    · exact fun _ h => .noteAt (.addF h ..) ..

/-! ### Legs, gate drive and the link regulator -/

theorem Bounded.discardCarry (h : Bounded s) (n : Nat) (x : Int) : Bounded (s.discardCarry n x) := .ite h (.setF (.setV h ..) ..)

theorem Bounded.scheduleSegs (h : Bounded s) {n : Nat} (hn : n < 32) (first : Bool) (e lv : Nat) (segs : List Seg) :
    Bounded (s.scheduleSegs n first e lv segs) := by
  induction segs generalizing s first e lv with
  | nil => exact .setV h ..
  | cons a rest ih => exact ih (.levelChange h hn ..) ..

theorem Bounded.runInterval (h : Bounded s) (t : Stage) {n : Nat} (hn : n < 32) (r : Nat) (d : Int) :
    Bounded (s.runInterval t n r d) := by
  unfold State.runInterval
  exact .ite (.setV (.levelChange (.when (.setV h ..) _ _ fun _ h => .setF (.discardCarry h ..) ..) hn ..) ..) (.ite (.setV (.levelChange
    (.setV h ..) hn ..) ..) (.ite (.setV (.levelChange (.ite (.setV (.setF (.discardCarry (.setV h ..) ..) ..) ..) (.setF (.discardCarry
    (.setV h ..) ..) ..)) hn ..) ..) (.scheduleSegs (.setV (.setV (.addF (.setF (.discardCarry (.setV h ..) ..) ..) ..) ..) ..) hn ..)))

theorem Bounded.middleOf (h : Bounded s) (t : Stage) (n : Nat) : Bounded (s.middleOf t n) := .setDue h ..

theorem Bounded.startOf (h : Bounded s) (t : Stage) (nx : Nat) : Bounded (s.startOf t nx) := .ite (.setV h ..) (.setDue (.setV h ..) ..)

theorem Bounded.nextReload (h : Bounded s) (t : Stage) (n r : Nat) (d : Int) : Bounded (s.nextReload t n r d) := by
  unfold State.nextReload
  dsimp only
  split
  · exact h
  · exact .setDue (.setV h ..) ..
  · exact .ite (.middleOf (.startOf (.setDue (.setV h ..) ..) ..) ..) (.setDue (.setV h ..) ..)

theorem Bounded.finishStop (h : Bounded s) (t : Stage) : Bounded (s.finishStop t) := .ite (.settle (.toStopped h ..)) h

theorem Bounded.legReload (h : Bounded s) {n : Nat} (hn : n < 32) : Bounded (s.legReload n) := by
  refine .expire h _ _ _ fun s h => ?_
  dsimp only
  refine .ite (.finishStop ?_ ..) ?_
  all_goals
    refine .nextReload (.runInterval (.when ?_ _ _ fun _ h => .setOn h ..) _ hn ..) ..
    refine .takePending (.ite ?_ (.noteEnds ?_ ..)) ..
    all_goals
      refine .setOn (.setFb (.when ?_ _ _ fun _ h => .setOn h ..) ..) ..
      exact .setOn (.setV (.setV (.recordTouched h) ..) ..) ..

theorem Bounded.execLegReload (h : Bounded s) {leg : Fin 32} {u : State} (hu : execLegReload leg s = .next u) : Bounded u :=
  .done (.legReload h leg.isLt) hu

theorem Bounded.execPeriodWrite (h : Bounded s) {r : Req} {stage : Stage} {value : Word} {t : Nat} {u : State}
    (hu : execPeriodWrite r stage value t s = .next u) : Bounded u :=
  .writeField h hu

theorem Bounded.wholeCycles (h : Bounded s) : Bounded s.wholeCycles := by
  have hwhole : Bounded (s.each (List.range 32) fun s n => s.setOn .legWhole n true) := .each h _ _ fun _ h _ _ => .setOn h ..
  exact .of_edges hwhole (forall_mem_map hwhole.edges fun _ he => he)

theorem Bounded.execDllUnlock (h : Bounded s) {span : Nat} {u : State} (hu : execDllUnlock span s = .next u) : Bounded u :=
  .done (.raise (.setF (.setFb (.setFb (.recordTouched (.wholeCycles h)) ..) ..) ..) ..) hu

theorem Bounded.execDllRelocked (h : Bounded s) {span : Nat} {u : State} (hu : execDllRelocked span s = .next u) : Bounded u :=
  .done (.note (.clearCause (.setF (.setFb (.setFb (.recordTouched h) ..) ..) ..) ..) ..) hu

theorem Bounded.syncLose (h : Bounded s) (t : Stage) : Bounded (s.syncLose t) := by
  unfold State.syncLose
  refine .ite (.linkSnap (.snapFrom (.openSlow (.setFb ?_ ..) ..)) ..) ?_
  all_goals exact .raise (.addF (.close (.setFb (.setFb h ..) ..) ..) ..) ..

theorem Bounded.syncLock (h : Bounded s) (t : Stage) (per : Nat) : Bounded (s.syncLock t per) := by
  unfold State.syncLock
  refine .ite ?_ (.noteAt (.clearCause (.setV (.setFb (.setFb h ..) ..) ..) ..) ..)
  exact .linkSnap (.snapFrom (.setFb (.setFb (.setOn (.setOn (.close
    (.noteAt (.clearCause (.setV (.setFb
  (.setFb h ..) ..) ..) ..) ..) ..) ..) ..) ..) ..)) ..

theorem Bounded.execSyncInEdge (h : Bounded s) {stamp : Nat} {u : State} (hu : execSyncInEdge stamp s = .next u) : Bounded u := by
  unfold Machine.execSyncInEdge at hu
  dsimp only at hu
  split at hu
  · exact .done (.setV (.recordTouched (.parts h)) ..) hu
  · exact .done (.each (.setF (.setV (.setV (.setV (.recordTouched (.parts h)) ..) ..) ..) ..) _ _ fun _ h _ _ => .ite (.setDue (.ite (.ite
      (.setV h ..) (.syncLose h ..)) (.ite (.syncLock h ..) h)) ..) (.ite (.ite (.setV h ..) (.syncLose h ..)) (.ite (.syncLock h ..) h))) hu

theorem Bounded.execSyncInTimeout (h : Bounded s) {t : Stage} {u : State} (hu : execSyncInTimeout t s = .next u) : Bounded u :=
  .done (.expire h _ _ _ fun _ h => .ite (.syncLose h ..) h) hu

theorem core_lt (t : Stage) : t.core < 4 := by cases t <;> decide

theorem Bounded.compared (h : Bounded s) (t : Stage) (conv : List Int) : Bounded (s.compared t conv) :=
  .cmpTake (.coreTo h (core_lt t) ..) ..

theorem Bounded.tripPeriod (h : Bounded s) (t : Stage) : Bounded (s.tripPeriod t) := by
  unfold State.tripPeriod
  split
  · exact .ite (.setOn (.newTripPeriod h ..) ..) h
  · exact h

theorem Bounded.periodTag (h : Bounded s) (t : Stage) : Bounded (s.periodTag t).2 := .ite_snd h (.setV (.nextTag h) ..)

theorem Bounded.registerTrip (h : Bounded s) (n : Nat) : Bounded (s.registerTrip n) := by
  unfold State.registerTrip
  dsimp only
  exact .ite (.tripPeriod h ..) (.parts (.setV (.setV (.periodTag (.tripPeriod h ..) ..) ..) ..))

theorem Bounded.multiLeg (h : Bounded s) (n : Nat) : Bounded (s.multiLeg n) := by
  have hm := Bounded.setF (.registerTrip h n) Reg.GD_STAGE_STATUS_NOW (Stage.ofLeg n).idx
  unfold State.multiLeg
  dsimp only
  have ht := fun v w x y => Bounded.periodTag (.addF (.setFb (hm v w) Reg.GD_STAGE_STATUS_CAUSE x true 0)
    Reg.GD_STAGE_COUNTERS x 1 0) y
  refine .ite (.ite (.carryOut ?_ ..) ?_) (hm ..)
  all_goals exact .setV (.raise (ht ..) ..) ..

theorem Bounded.tripMiddle (h : Bounded s) (n at' : Nat) : Bounded (s.tripMiddle n at') := .ite (.middleOf (.setV h ..) ..) h

theorem Bounded.setCommand (h : Bounded s) (c : Nat) (b : Bool) : Bounded (s.setCommand c b) := .setFb (.setOn h ..) ..

theorem Bounded.tripOutput (h : Bounded s) {n : Nat} (hn : n < 32) : Bounded (s.tripOutput n) := by
  have hoff {u : State} (hu : Bounded u) (c : Nat) {v : Int} : Bounded (if (u.setCommand c false).on .chDrive c then
      (((((u.setCommand c false).setOn .chDrive c false).setV .chOffAt c v).setOn .chOffSpecial c true).setV .phi c 0).setOn .chOffShown
        c false
      else u.setCommand c false) :=
    .ite (.setOn (.setV (.setOn (.setV (.setOn (.setCommand hu ..) ..) ..) ..) ..) ..) (.setCommand hu ..)
  have hhigh := hoff (.edges_filter (.setOn (.setOn (.tripMiddle h n (s.now / Clk.pulse * 64)) .chWait (2 * n) false) .chWait (2 * n + 1)
    false) fun e => e.ch / 2 != n) (2 * n) (v := (s.now / Clk.pulse * 64 : Nat))
  unfold State.tripOutput
  exact .ite (.setV (.ite hhigh (.addOn hhigh (by omega) ..)) ..) (.setV (hoff hhigh ..) ..)

theorem Bounded.countTrip (h : Bounded s) (n : Nat) (soft counted : Bool) : Bounded (s.countTrip n soft counted) := by
  unfold State.countTrip
  refine .ite h (.ite (.addF (.addF (.setOn h ..) ..) ..) ?_)
  refine .ite (.raise (.setV (.edges_filter (.legOff (.endCommands (.addF (.setFb ?_ ..) ..) ..) ..) _) ..) ..) ?_
  all_goals exact .ite (.openSlow (.setF (.addF (.setOn h ..) ..) ..) ..) (.addF (.addF (.setOn h ..) ..) ..)

theorem Bounded.cbcTrip (h : Bounded s) {n : Nat} (hn : n < 32) (src : TripSrc) : Bounded (s.cbcTrip n src) := by
  have hout : Bounded ((((s.setFb Reg.LEG_STATUS_TRIPPED n true).setV .legTripAt n (s.now / Clk.pulse * Clk.pulse : Nat)).recordTouched).tripOutput
      n) :=
    .tripOutput (.recordTouched (.setV (.setFb h ..) ..)) hn
  exact .ite (.countTrip (.ite (.setOn (.setCause (.noteAt hout ..) ..) ..) (.setCause (.noteAt hout ..) ..)) ..) h

theorem Bounded.execCbcTrip (h : Bounded s) {leg : Fin 32} {src : TripSrc} {conv : List Int} {t : Nat} {u : State}
    (hu : execCbcTrip leg src conv t s = .next u) : Bounded u := by
  have hn := leg.isLt
  unfold Machine.execCbcTrip at hu
  dsimp only at hu
  split at hu
  · exact .done (.multiLeg (.cbcTrip (.ite (.parts h) (.compared (.parts h) ..)) hn ..) ..) hu
  · refine .done (.ite (.cbcTrip ?_ hn ..) ?_) hu
    all_goals exact .ite (.parts h) (.compared (.parts h) ..)
  · refine .done (.ite (.cbcTrip ?_ hn ..) ?_) hu
    all_goals exact .ite (.parts h) (.compared (.parts h) ..)

theorem Bounded.execTripWindowEnd (h : Bounded s) {leg : Fin 32} {u : State} (hu : execTripWindowEnd leg s = .next u) : Bounded u :=
  .done (.expire h _ _ _ fun _ h => .setF h ..) hu

theorem Bounded.upset (h : Bounded s) (e : Nat) : Bounded (s.upset e) := .setV h ..

theorem Bounded.holdSafe (h : Bounded s) (code reaction : Nat) (row mask : Nat) : Bounded (s.holdSafe code reaction row mask) := by
  unfold State.holdSafe
  refine .ite (.moduleSafe ?_ ..) (.each ?_ _ _ fun _ h _ _ => .toSafe h ..)
  all_goals exact .setOn (.latchStages (.updCause (.reportAll h ..) ..) ..) ..

theorem Bounded.decide (h : Bounded s) (row eng mask : Nat) : Bounded (s.decide row eng mask) :=
  .setV (.setV (.close (.setFb (.setV (.setF (.setF (.setF (.setF h ..) ..) ..) ..) ..) ..) ..) ..) ..

theorem Bounded.exhausted (h : Bounded s) (mask : Nat) : Bounded (s.exhausted mask) := .holdSafe (.decide h ..) ..

theorem Bounded.toTest (h : Bounded s) (e : Nat) (counted : Bool) : Bounded (s.toTest e counted) := by
  unfold State.toTest
  refine .ite ?_ (.openBy ?_ ..)
  all_goals exact .setEng (.close (.close (.close (.setFb (.when h _ _ fun _ h => .addV (.addF h ..) ..) ..) ..) ..) ..) ..

theorem Bounded.openGap (h : Bounded s) : Bounded s.openGap := by
  unfold State.openGap
  exact .ite (.setDue (.setV (.setV h ..) ..) ..) (.parts (.setV (.setDue (.setV (.setV h ..) ..) ..) ..))

theorem Bounded.passOwner (h : Bounded s) : Bounded s.passOwner := .openGap (.setEng (.setV (.setF h ..) ..) ..)

theorem Bounded.handover (h : Bounded s) (row mask : Nat) : Bounded (s.handover row mask) :=
  .raise (.addF (.toTest (.passOwner (.decide h ..)) ..) ..) ..

theorem Bounded.condemnSpare (h : Bounded s) (mask : Nat) : Bounded (s.condemnSpare mask) :=
  .raise (.addF (.toTest (.decide h ..) ..) ..) ..

theorem Bounded.decideFail (h : Bounded s) : Bounded s.decideFail := by
  unfold State.decideFail
  dsimp only
  split
  · exact .ite (.setOn h ..) (.exhausted h ..)
  · exact .handover h ..
  · exact .condemnSpare h ..
  · exact h

theorem Bounded.syncFailed (h : Bounded s) (e : Nat) : Bounded (s.syncFailed e) := .noteLasting (.addF (.toTest h ..) ..) ..

theorem Bounded.selfCheckFail (h : Bounded s) (e : Nat) : Bounded (s.selfCheckFail e) := by
  unfold State.selfCheckFail
  exact .ite (.setOn (.upset h ..) ..) (.ite (.decideFail (.setOn (.upset h ..) ..)) (.ite (.syncFailed (.setOn (.upset h ..) ..) ..)
    (.setOn (.upset h ..) ..)))

theorem Bounded.execSelfCheckFail (h : Bounded s) {engine : Fin 2} {t : Nat} {u : State} (hu : execSelfCheckFail engine t s = .next u) :
    Bounded u :=
  .done (.selfCheckFail (.parts h) ..) hu

theorem Bounded.undecided (h : Bounded s) (row mask carriers : Nat) : Bounded (s.undecided row mask carriers) :=
  .raise (.addF (.toTest (.decide h ..) ..) ..) ..

theorem Bounded.wordMismatch (h : Bounded s) (mask carriers : Nat) (agree : Bool) : Bounded (s.wordMismatch mask carriers agree) := by
  unfold State.wordMismatch
  exact .ite (.syncFailed h ..) (.ite h (.ite (.setV (.setV h ..) ..) (.ite (.undecided h ..) (.ite (.undecided h ..) (.ite (.setV
    (.setV h ..) ..) (.openBy (.addF (.setFb (.setV (.setV h ..) ..) ..) ..) ..))))))

theorem Bounded.execWordMismatch (h : Bounded s) {channels carriers : Nat} {agree : Bool} {t : Nat} {u : State}
    (hu : execWordMismatch channels carriers agree t s = .next u) : Bounded u :=
  .done (.wordMismatch (.parts h) ..) hu

theorem Bounded.contradiction (h : Bounded s) (c : Nat) : Bounded (s.contradiction c) := by
  unfold State.contradiction
  exact .ite h (.ite (.handover h ..) (.ite h (.raise (.addF (.decide h ..) ..) ..)))

theorem Bounded.execReadbackContradiction (h : Bounded s) {channel : Fin 64} {t : Nat} {u : State}
    (hu : execReadbackContradiction channel t s = .next u) : Bounded u :=
  .done (.contradiction (.parts h) ..) hu

theorem Bounded.execDecisionTimeout (h : Bounded s) {u : State} (hu : execDecisionTimeout s = .next u) : Bounded u :=
  .done (.expire h _ _ _ fun _ h => .ite h (.undecided h ..)) hu

theorem Bounded.execHandoverGapEnd (h : Bounded s) {u : State} (hu : execHandoverGapEnd s = .next u) : Bounded u :=
  .done (.expire h _ _ _ fun _ h => .ite (.exhausted (.setOn h ..) ..) h) hu

theorem Bounded.execInterlockFault (h : Bounded s) {u : State} (hu : execInterlockFault s = .next u) : Bounded u :=
  .done (.ite (.setV h ..) (.holdSafe (.setFb (.setV h ..) ..) ..)) hu

theorem Bounded.recordsGood (h : Bounded s) (e : Nat) : Bounded (s.recordsGood e) := .each h _ _ fun _ h _ _ => .setV h ..

theorem Bounded.noteUntilStart (h : Bounded s) (code inst : Nat) (d0 d1 d2 : Nat) : Bounded (s.noteUntilStart code inst d0 d1 d2) :=
  .updCause (.note h ..) ..

theorem Bounded.startEngines (h : Bounded s) : Bounded s.startEngines := by
  unfold State.startEngines
  exact .ite (.startSync (.setEng (.setV (.setF h ..) ..) ..) ..) (.ite (.noteUntilStart (.setEng (.setEng (.setV
    (.setF h ..) ..) ..) ..) ..) (.latchStages (.updCause (.report (.setOn (.setEng (.setEng h ..) ..) ..) ..) ..) ..))

theorem Bounded.selfTestDone (h : Bounded s) (e : Nat) (pass : Bool) : Bounded (s.selfTestDone e pass) := by
  unfold State.selfTestDone
  exact .expire h _ _ _ fun _ h => .ite (.ite (.startEngines (.setEng (.setV (.ite (.note (.addF (.setOn (.recordsGood h ..) ..) ..) ..)
    (.noteUntilStart (.addF h ..) ..)) ..) ..)) (.setEng (.setV (.ite (.note (.addF (.setOn (.recordsGood h ..) ..) ..) ..) (.noteUntilStart
    (.addF h ..) ..)) ..) ..)) (.setEng (.ite (.note (.addF (.setOn (.recordsGood h ..) ..) ..) ..) (.noteUntilStart (.addF h ..) ..)) ..)

theorem Bounded.execSelfTestDone (h : Bounded s) {engine : Fin 2} {pass : Bool} {u : State}
    (hu : execSelfTestDone engine pass s = .next u) : Bounded u :=
  .done (.selfTestDone h ..) hu

theorem Bounded.execSwitchBack (h : Bounded s) {r : Req} {t : Nat} {u : State} (hu : execSwitchBack r t s = .next u) : Bounded u :=
  .serveAt h hu

theorem Bounded.execSyncCopyDone (h : Bounded s) {u : State} (hu : execSyncCopyDone s = .next u) : Bounded u := by
  unfold Machine.execSyncCopyDone at hu
  exact .done (.expire h _ _ _ fun _ h => .ite (.syncFailed (.recordsGood h ..) ..) (.openBy (.recordsGood h ..) ..)) hu

theorem Bounded.switchDone (h : Bounded s) : Bounded s.switchDone :=
  .note (.noteEnds (.clearCause (.clearCause (.addF (.setFb (.setFb h ..) ..) ..) ..) ..) ..) ..

theorem Bounded.qualifyEnd (h : Bounded s) : Bounded s.qualifyEnd := by
  unfold State.qualifyEnd
  exact .expire h _ _ _ fun _ h => .ite (.setFb (.setEng h ..) ..) (.ite (.openBy (.setV (.setEng h ..) ..) ..) (.switchDone
    (.setEng h ..)))

theorem Bounded.execQualifyEnd (h : Bounded s) {u : State} (hu : execQualifyEnd s = .next u) : Bounded u := .done (.qualifyEnd h) hu

theorem Bounded.execSwitchBackHandover (h : Bounded s) {t : Nat} {u : State} (hu : execSwitchBackHandover t s = .next u) : Bounded u := by
  unfold Machine.execSwitchBackHandover at hu
  exact .done (.ite h (.ite (.parts h) (.switchDone (.setEng (.passOwner (.parts (.close h ..))) ..)))) hu

theorem Bounded.detectorOff (h : Bounded s) (c : Nat) : Bounded (s.detectorOff c) := .turnOff (.ite (.setOn h ..) h) ..

theorem Bounded.detectorTrip (h : Bounded s) (c : Nat) (short : Bool) : Bounded (s.detectorTrip c short) := by
  unfold State.detectorTrip
  dsimp only
  exact .raise (.setV (.setV (.periodTag (.addF (.setFb (.setFb (.setFb (.tripPeriod (.detectorOff h ..) ..) ..) ..) ..) ..) ..) ..) ..) ..

theorem Bounded.execDesatTrip (h : Bounded s) {channel : Fin 64} {t : Nat} {u : State} (hu : execDesatTrip channel t s = .next u) :
    Bounded u :=
  .done (.ite (.detectorTrip (.parts h) ..) (.parts h)) hu

theorem Bounded.execShortTrip (h : Bounded s) {channel : Fin 64} {t : Nat} {vks : List Int} {u : State}
    (hu : execShortTrip channel t vks s = .next u) : Bounded u := by
  unfold Machine.execShortTrip at hu
  exact .done (.ite (.detectorTrip (.parts h) ..) (.ite (.setV (.parts h) ..) (.parts h))) hu

theorem Bounded.gateUvlo (h : Bounded s) (c : Nat) (negative : Bool) : Bounded (s.gateUvlo c negative) := by
  unfold State.gateUvlo
  exact .ite h (.raise (.when (.setOn (.setFb (.addF (.detectorOff h ..) ..) ..) ..) _ _ fun _ h => .setFb h ..) ..)

theorem Bounded.execGateUvlo (h : Bounded s) {channel : Fin 64} {negative : Bool} {u : State}
    (hu : execGateUvlo channel negative s = .next u) : Bounded u :=
  .done (.gateUvlo h ..) hu

theorem Bounded.execUvloRelease (h : Bounded s) {channel : Fin 64} {negative : Bool} {u : State}
    (hu : execUvloRelease channel negative s = .next u) : Bounded u := by
  unfold Machine.execUvloRelease at hu
  refine .done (.ite ?_ (.clearCause (.setOn ?_ ..) ..)) hu
  all_goals exact .when (.setFb h ..) _ _ fun _ h => .setFb h ..

theorem Bounded.linkClear (h : Bounded s) (c : Nat) : Bounded (s.linkClear c) := .clearCause (.setFb (.close h ..) ..) ..

theorem Bounded.frameBad (h : Bounded s) (c : Nat) : Bounded (s.frameBad c) := .close (.addV (.addF (.ite (.linkClear h ..) h) ..) ..) ..

theorem Bounded.cmdPath (h : Bounded s) (c : Nat) (ok : Bool) : Bounded (s.cmdPath c ok) := by
  unfold State.cmdPath
  exact .ite h (.ite (.setV (.close h ..) ..) (.ite h (.openBy h ..)))

theorem partner_lt {c : Nat} (hc : c < 64) : partner c < 64 := by
  unfold partner
  split <;> omega

theorem Bounded.shownOff (h : Bounded s) {c : Nat} (hc : c < 64) : Bounded (s.shownOff c) :=
  .when (.when (.setOn (.when h _ _ fun _ h => .setV h ..) ..) _ _ fun _ h => .addOn (.setOn h ..) (partner_lt hc) ..) _ _
    fun _ h => .ascTurnOn h (by omega)

theorem Bounded.gateReadback (h : Bounded s) {c : Nat} (hc : c < 64) (gate : GateSeen) : Bounded (s.gateReadback c gate) := by
  unfold State.gateReadback
  split
  · exact .setOn (.setFb h ..) ..
  · exact .when (.ite (.setFb h ..) (.shownOff (.setFb h ..) hc)) _ _ fun _ h => .setFb h ..

theorem Bounded.takeFrame (h : Bounded s) {c : Nat} (hc : c < 64) (f : ChFrame) : Bounded (s.takeFrame c f) := by
  unfold State.takeFrame
  refine .when (.when (.when (.ite (.cmdPath ?_ ..) (.gateReadback (.cmdPath ?_ ..) hc ..)) _ _ fun _ h => .gateUvlo h ..)
    _ _ fun _ h => .gateUvlo h ..) _ _ fun _ h => .detectorTrip h ..
  all_goals
    split
    · refine .ite (.setF ?_ ..) ?_
      all_goals exact .when (.setF (.setF (.setV h ..) ..) ..) _ _ fun _ h => .setF h ..
    · exact .when (.setF (.setF (.setV h ..) ..) ..) _ _ fun _ h => .setF h ..

theorem Bounded.execStatusFrame (h : Bounded s) {channel : Fin 64} {frame : FrameSeen} {t : Nat} {u : State}
    (hu : execStatusFrame channel frame t s = .next u) : Bounded u := by
  unfold Machine.execStatusFrame at hu
  dsimp only at hu
  split at hu
  · exact .done (.parts h) hu
  · split at hu
    · exact .done (.frameBad (.parts h) ..) hu
    · exact .done (.frameBad (.parts h) ..) hu
    · split at hu
      · split at hu
        · exact .done (.openBy (.takeFrame (.parts h) channel.isLt ..) ..) hu
        · exact .done (.ite (.linkClear (.takeFrame (.parts h) channel.isLt ..) ..) (.takeFrame (.parts h) channel.isLt ..)) hu
      · exact .done (.takeFrame (.parts h) channel.isLt ..) hu

theorem Bounded.execLinkFault (h : Bounded s) {channel : Fin 64} {u : State} (hu : execLinkFault channel s = .next u) : Bounded u := by
  unfold Machine.execLinkFault at hu
  dsimp only at hu
  split at hu
  · exact .done h hu
  · exact .done (.raise (.addF (.setFb h ..) ..) ..) hu

theorem Bounded.execCommandPathLost (h : Bounded s) {path : PathLost} {u : State} (hu : execCommandPathLost path s = .next u) :
    Bounded u :=
  .done (.setV (.close (.setOn (.turnOff h ..) ..) ..) ..) hu

theorem Bounded.execSkewMeasure (h : Bounded s) {channel : Fin 64} {ps : Nat} {u : State} (hu : execSkewMeasure channel ps s = .next u) :
    Bounded u := by
  unfold Machine.execSkewMeasure at hu
  dsimp only at hu
  split at hu
  · exact .done h hu
  · exact .done (.ite (.raise (.setFb (.setF (.setF h ..) ..) ..) ..) (.ite (.clearCause (.setFb (.setF (.setF h ..) ..) ..) ..) (.setFb
      (.setF (.setF h ..) ..) ..))) hu

theorem Bounded.execThermistorMeasure (h : Bounded s) {leg : Fin 26} {ohms : Nat} {u : State}
    (hu : execThermistorMeasure leg ohms s = .next u) : Bounded u := by
  unfold Machine.execThermistorMeasure at hu
  dsimp only at hu
  split at hu
  · exact .done h hu
  · split at hu
    · exact .done (.setF (.takeFree (.setF (.setFb (.setFb h ..) ..) ..)) ..) hu
    · exact .done (.setF (.setF (.setFb (.setFb h ..) ..) ..) ..) hu

theorem Bounded.execEnableRemoved (h : Bounded s) {group : Fin 4} {u : State} (hu : execEnableRemoved group s = .next u) : Bounded u :=
  .done (.removeEnable h ..) hu

theorem Bounded.execStaggerSlot (h : Bounded s) {t : Stage} {u : State} (hu : execStaggerSlot t s = .next u) : Bounded u := by
  unfold Machine.execStaggerSlot at hu
  refine .done (.expire h _ _ _ ?_) hu
  intro _ h
  dsimp only
  split
  · exact h
  · exact .ite (.legOff h ..) (.openBy (.legOff h ..) ..)

theorem Bounded.snapsDue (h : Bounded s) : Bounded s.snapsDue := .each h _ _ fun _ h _ _ => .ite (.setV (.linkSnapOf h ..) ..) h

theorem Bounded.linkFault (h : Bounded s) (code inst : Nat) (reaction d0 : Nat) (lasting : Bool) :
    Bounded (s.linkFault code inst reaction d0 lasting) := by
  unfold State.linkFault
  exact .ite (.raise (.snapFrom h) ..) (.linkSnap (.raise (.snapFrom h) ..) ..)

theorem Bounded.linkFaults (h : Bounded s) (sp u' : Int) : Bounded (s.linkFaults sp u') := by
  unfold State.linkFaults
  refine .ite (.linkFault (.setFb ?_ ..) ..) (.ite ?_ (.clearCause (.setFb ?_ ..) ..))
  all_goals
    refine .setFb (.each (.ite ?_ (.clearCause (.setFb ?_ ..) ..)) _ _ fun _ h _ _ => .ite h (.ite (.timedAt h ..) (.clearCause
      (.timedAt h ..) ..))) ..
    all_goals exact .ite (.setV h ..) (.timedAt (.setV h ..) ..)

theorem Bounded.regMeas (h : Bounded s) (sp u' ub : Int) : Bounded (s.regMeas sp u' ub) :=
  .setFb (.setOn (.setOn (.setFb (.setFb (.setF (.setF (.setF (.setF (.setF h ..) ..) ..) ..) ..) ..) ..) ..) ..) ..

theorem Bounded.regLeg (h : Bounded s) (j duty : Nat) (phase force : Nat) (timeA timeB : Nat) :
    Bounded (s.regLeg j duty phase force timeA timeB) :=
  .setDue (.setFb (.setF (.setF (.setF (.setF (.setF (.setF h ..) ..) ..) ..) ..) ..) ..) ..

theorem Bounded.regPhases (h : Bounded s) (n : Nat) : Bounded (s.regPhases n) :=
  .each h _ _ fun _ h _ _ => .ite (.regLeg h ..) (.regLeg h ..)

theorem Bounded.regOff (h : Bounded s) : Bounded s.regOff := .regPhases h ..

theorem Bounded.regState (h : Bounded s) (st n : Nat) : Bounded (s.regState st n) := by
  unfold State.regState
  exact .setF (.setF (.setF (.when (.ite (.when h _ _ fun _ h => .burstLeft h) (.setV (.when h _ _ fun _ h => .burstLeft h) ..))
    _ _ fun _ h => .setF h ..) ..) ..) ..

theorem Bounded.regStopped (h : Bounded s) : Bounded s.regStopped := .close (.setV (.regOff (.regState h ..)) ..) ..

theorem Bounded.regMode (h : Bounded s) (mode : Nat) : Bounded (s.regMode mode) := .ite h (.setFb (.setV h ..) ..)

theorem Bounded.softStart (h : Bounded s) : Bounded s.softStart :=
  .regMode (.openSlow (.setFb (.setOn (.setV (.setV (.each (.setV (.regHistory (.regState h ..) ..) ..) _ _ fun _ h _ _ => .setV
    (.setV h ..) ..) ..) ..) ..) ..) ..) ..

theorem Bounded.linkNote (h : Bounded s) (code d0 : Nat) : Bounded (s.linkNote code d0) := .noteAt h ..

theorem Bounded.softEnd (h : Bounded s) : Bounded s.softEnd := .close (.setV (.setFb h ..) ..) ..

theorem Bounded.softDone (h : Bounded s) (code : Nat) : Bounded (s.softDone code) := .linkNote (.regState (.softEnd h) ..) ..

theorem Bounded.softJudged (h : Bounded s) : Bounded s.softJudged := by
  unfold State.softJudged
  exact .ite (.linkSnap (.softDone h ..) ..) (.ite (.linkSnap (.openSlow (.linkNote (.addF (.setOn (.regMode (.regState
    (.softEnd h) ..) ..) ..) ..) ..) ..) ..) (.linkFault (.addF (.softEnd h) ..) ..))

theorem Bounded.regEnter (h : Bounded s) (st : Nat) : Bounded (s.regEnter st) :=
  .linkNote (.setV (.setOn (.regMode (.regState h ..) ..) ..) ..) ..

theorem Bounded.regBurstTo (h : Bounded s) (on : Bool) : Bounded (s.regBurstTo on) := .setF (.setF (.setOn h ..) ..) ..

theorem Bounded.burstStep (h : Bounded s) (sp u' : Int) : Bounded (s.burstStep sp u') := by
  unfold State.burstStep
  exact .ite (.ite (.setV (.regBurstTo h ..) ..) h) (.ite (.ite (.linkSnap (.regEnter (.addF h ..) ..) ..) (.regBurstTo (.addF h ..) ..))
    (.ite (.linkSnap (.regEnter h ..) ..) h))

theorem Bounded.regShed (h : Bounded s) (n : Nat) : Bounded (s.regShed n) := .linkNote (.addF (.regState h ..) ..) ..

theorem Bounded.regTransition (h : Bounded s) (sp u' e0 : Int) : Bounded (s.regTransition sp u' e0).1 := by
  unfold State.regTransition
  refine .ite_fst (.ite_fst h (.ite_fst (.regMode (.regState h ..) ..) (.softStart h))) (.ite_fst h (.ite_fst (.softJudged h) (.ite_fst
    (.regLeft (.linkSnap (.linkNote (.regMode (.setOn (.regState (.close (.softEnd h) ..) ..) ..) ..) ..) ..) ..) (.ite_fst (.linkSnap
    (.linkNote (.addF (.setOn (.regHistory (.regState h ..) ..) ..) ..) ..) ..) (.ite_fst (.ite (.linkNote ?_ ..) ?_) (.ite_fst (.ite
    (.softStart (.addF h ..)) h) (.ite_fst (.ite (.linkSnap (.softDone h ..) ..) h) (.ite_fst (.regEnter h ..) (.ite_fst (.burstStep h ..)
    (.ite_fst (.regEnter h ..) (.ite_fst (.linkSnap (.regEnter h ..) ..) (.ite_fst (.regShed h ..) (.ite_fst (.regShed h ..) h)))))))))))))
  all_goals exact .regLeft (.linkSnap (.linkNote (.setFb (.openSlow (.addF (.regMode (.regState h ..) ..) ..) ..) ..) ..) ..) ..

theorem Bounded.regLight (h : Bounded s) (ipk ub : Int) (on : Bool) : Bounded (s.regLight ipk ub on) :=
  .each (.setV h ..) _ _ fun _ h _ _ => .ite (.regLeg h ..) (.regLeg h ..)

theorem Bounded.compensate (h : Bounded s) (e0 u' : Int) : Bounded (s.compensate e0 u') :=
  .setFb (.setV (.setV (.setV (.setV (.setV (.setV (.setV h ..) ..) ..) ..) ..) ..) ..) ..

theorem Bounded.phaseLoop (h : Bounded s) (j : Nat) (r base : Int) (tu : Nat) : Bounded (s.phaseLoop j r base tu) :=
  .setV (.setV (.setV h ..) ..) ..

theorem Bounded.preBias (h : Bounded s) (j : Nat) (duty30 base e : Int) : Bounded (s.preBias j duty30 base e) :=
  .setV (.setV (.setV h ..) ..) ..

theorem Bounded.regLoops (h : Bounded s) (step : RegStep) (was : Nat) (u' ub : Int) (tu : Nat) :
    Bounded (s.regLoops step was u' ub tu) := by
  unfold State.regLoops
  dsimp only
  split
  · exact .each h _ _ fun _ h _ _ => .phaseLoop h ..
  · exact .each h _ _ fun _ h _ _ => .preBias h ..
  · exact .each (.each h _ _ fun _ h _ _ => .phaseLoop h ..) _ _ fun _ h _ _ => .preBias h ..

theorem Bounded.regAct (h : Bounded s) (step : RegStep) (was : Nat) (sp u' ub : Int) (tu : Nat) :
    Bounded (s.regAct step was sp u' ub tu) := by
  unfold State.regAct
  exact .ite (.setV h ..) (.ite (.regOff (.setV h ..)) (.ite (.regLight (.setV (.setV h ..) ..) ..) (.ite (.regLight (.compensate
    (.setV h ..) ..) ..) (.regPhases (.regLoops (.compensate (.setV h ..) ..) ..) ..))))

theorem Bounded.pTaken (h : Bounded s) : Bounded s.pTaken := .ite (.pRamp (.close h ..)) h

theorem Bounded.shedCond (h : Bounded s) (i : Nat) (cond : Bool) : Bounded (s.shedCond i cond) := .ite h (.timedAt (.setOn h ..) ..)

theorem Bounded.shedConds (h : Bounded s) (u' ub : Int) : Bounded (s.shedConds u' ub) := .shedCond (.shedCond (.shedCond h ..) ..) ..

theorem Bounded.regSteps (h : Bounded s) : Bounded s.regSteps := by
  unfold State.regSteps
  extract_lets tu u ub sp s1 s2 st ended near s3 s4 n was
  have h2 : Bounded s2 := .linkFaults (.setV (.setV (.setV h ..) ..) ..) ..
  have h4 : Bounded s4 := .ite (.setV h2 ..) (.setOn (.setV h2 ..) ..)
  refine .ite h2 (.ite (.regMeas (.regStopped h2) ..) ?_)
  have ht := Bounded.regTransition h4 sp u (sp - u)
  split
  next s5 step hx =>
  rw [hx] at ht
  exact .ite ht (.regMeas (.shedConds (.ite (.pTaken (.regAct ht ..)) (.regAct ht ..)) ..) ..)

theorem Bounded.regUpdate (h : Bounded s) : Bounded s.regUpdate := by
  unfold State.regUpdate
  exact .ite (.addF h ..) (.snapsDue (.setOn (.regSteps (.setOn (.snapFrom (.addV (.addF h ..) ..)) ..)) ..))

theorem Bounded.execRegulatorUpdate (h : Bounded s) {u : State} (hu : execRegulatorUpdate s = .next u) : Bounded u :=
  .done (.expire h _ _ _ fun _ h => .regUpdate h) hu

theorem Bounded.execSoftStartWindowEnd (h : Bounded s) {u : State} (hu : execSoftStartWindowEnd s = .next u) : Bounded u :=
  .done (.expire h _ _ _ fun _ h => .ite (.setFb h ..) (.setV (.setFb h ..) ..)) hu

theorem Bounded.execHiccupWaitEnd (h : Bounded s) {u : State} (hu : execHiccupWaitEnd s = .next u) : Bounded u :=
  .done (.expire h _ _ _ fun _ h => .ite h (.setOn h ..)) hu

theorem Bounded.execShedTimer (h : Bounded s) {cond : Fin 3} {u : State} (hu : execShedTimer cond s = .next u) : Bounded u :=
  .done (.expire h _ _ _ fun _ h => .setOn h ..) hu

theorem Bounded.execShedBlockEnd (h : Bounded s) {u : State} (hu : execShedBlockEnd s = .next u) : Bounded u :=
  .done (.expire h _ _ _ fun _ h => .setFb h ..) hu

theorem Bounded.execLinkUv (h : Bounded s) {u : State} (hu : execLinkUv s = .next u) : Bounded u :=
  .done (.expire h _ _ _ fun _ h => .linkFault (.setFb h ..) ..) hu

theorem Bounded.execPhaseImbalance (h : Bounded s) {phase : Fin 6} {u : State} (hu : execPhaseImbalance phase s = .next u) : Bounded u :=
  .done (.expire h _ _ _ fun _ h => .linkFault (.setFb h ..) ..) hu

theorem Bounded.execSyncFree (h : Bounded s) {t : Nat} {u : State} (hu : execSyncFree t s = .next u) : Bounded u := by
  unfold Machine.execSyncFree at hu
  exact .done (.ite (.linkNote (.setFb (.syncFreed (.parts h)) ..) ..) (.syncFreed (.parts h))) hu

theorem Bounded.ppSample (h : Bounded s) (k : Nat) : Bounded (s.ppSample k) := by
  unfold State.ppSample
  exact .addV (.addV (.ite (.openSlow (.setOn (.setV (.setV (.setV (.setV (.setV (.setV (.setOn
    (.setV h ..) ..) ..) ..) ..) ..) ..) ..) ..) ..) (.setV h ..)) ..) ..

theorem Bounded.execPowerPathEval (h : Bounded s) {u : State} (hu : execPowerPathEval s = .next u) : Bounded u :=
  .done (.expire h _ _ _ fun _ h => .ppStep (.each (.openSlow h ..) _ _ fun _ h _ _ => .ppSample h ..) ..) hu

theorem Bounded.vregUpdate (h : Bounded s) : Bounded s.vregUpdate := by
  unfold State.vregUpdate
  exact .ite (.ite (.setFb (.setV h ..) ..) (.noteLastingAt (.setFb (.setV h ..) ..) ..)) (.noteEnds (.setFb (.setV h ..) ..) ..)

/-! ### Power path, actuators, safety, restarts and the log -/

theorem Bounded.ppLoss (h : Bounded s) (input rule : Nat) : Bounded (s.ppLoss input rule) := by
  unfold State.ppLoss
  extract_lets st s1 s2 s3 s4 s5 s6 s7
  have h6 : Bounded s6 := .chgSnap (.raise (.addF (.setOn (.each (.setOn (.close (.setFb (.ppTo (.qualLate h) ..) ..) ..) ..) _ _
    fun _ h _ _ => .setOn h ..) ..) ..) ..) ..
  have h7 : Bounded s7 := .ite h6 (.chgSnap h6 ..)
  exact .ite h (.chgSync (.ite (.takeOver h7) h7))

theorem Bounded.halfEnd (h : Bounded s) (k : Nat) : Bounded (s.halfEnd k) := by
  unfold State.halfEnd
  refine .ite h ?_
  extract_lets n sc rms len s1 s2 s3 odd s4 s5 st good s6 s7 s8 s9 s10 s11 s12
  have h2 : Bounded s2 := .setF (.setV (.setV (.setOn h ..) ..) ..) ..
  have h5 : Bounded s5 := .vregUpdate (.setV (.ite (.setF h2 ..) h2) ..)
  have h7 : Bounded s7 := .qualLate (.each h5 _ _ fun _ h _ _ => .setOn h ..)
  have h8 : Bounded s8 := .ite (.ppTo h7 ..) h7
  have h9 : Bounded s9 := .setOn h5 ..
  have h10 : Bounded s10 := .setOn (.ppTo h9 ..) ..
  have h11 : Bounded s11 := by
    refine .ite (.ppLoss h5 ..) (.ite (.ppLoss h5 ..) ?_)
    refine .ite (.ite h8 (.requalify h8)) (.ite ?_ h9)
    split
    · exact .ppLoss h10 ..
    · exact h10
  exact .ppStep (.ite (.openSlow (.setOn h11 ..) ..) h11) ..

theorem Bounded.execHalfCycleEnd (h : Bounded s) {input : Fin 3} {u : State} (hu : execHalfCycleEnd input s = .next u) : Bounded u :=
  .done (.halfEnd h ..) hu

theorem Bounded.execNoZeroCrossing (h : Bounded s) {input : Fin 3} {u : State} (hu : execNoZeroCrossing input s = .next u) : Bounded u :=
  .done (.expire h _ _ _ fun _ h => .ite (.ppStep (.ppLoss (.setOn h ..) ..) ..) h) hu

theorem Bounded.execSourceQualified (h : Bounded s) {u : State} (hu : execSourceQualified s = .next u) : Bounded u :=
  .done (.expire h _ _ _ fun _ h => .ppStep (.qualNow h) ..) hu

theorem Bounded.execHandbackDone (h : Bounded s) {u : State} (hu : execHandbackDone s = .next u) : Bounded u := by
  unfold Machine.execHandbackDone at hu
  exact .done (.expire h _ _ _ fun _ h => .ite (.ppStep (.chgSnap (.noteAt (.setV (.addF (.setOn (.ppTo h ..) ..) ..) ..) ..) ..) ..)
    (.ppStep h ..)) hu

theorem Bounded.execStopTakeoverTimeout (h : Bounded s) {u : State} (hu : execStopTakeoverTimeout s = .next u) : Bounded u :=
  .done (.expire h _ _ _ fun _ h => .ite (.pRamp h) h) hu

theorem Bounded.execChargeEval (h : Bounded s) {u : State} (hu : execChargeEval s = .next u) : Bounded u := by
  unfold Machine.execChargeEval at hu
  exact .done (.expire h _ _ _ fun _ h => .chargeStep (.ite (.chgTimer (.setFb (.addV (.chgSync (.openSlow h ..)) ..) ..)) (.chgSync
    (.openSlow h ..))) ..) hu

theorem Bounded.execChargeStart (h : Bounded s) {r : Req} {t : Nat} {u : State} (hu : execChargeStart r t s = .next u) : Bounded u :=
  .serveAt h hu

theorem Bounded.execChargeStop (h : Bounded s) {r : Req} {t : Nat} {u : State} (hu : execChargeStop r t s = .next u) : Bounded u :=
  .serveAt h hu

theorem Bounded.execBattOc (h : Bounded s) {u : State} (hu : execBattOc s = .next u) : Bounded u :=
  .done (.expire h _ _ _ fun _ h => .chgFault h ..) hu

theorem Bounded.execArrived (h : Bounded s) {actuator : Fin 2} {u : State} (hu : execArrived actuator s = .next u) : Bounded u := by
  unfold Machine.execArrived at hu
  exact .done (.expire h _ _ _ fun _ h => .ite h (.ite (.setDue h ..) (.noteAt (.clearCause (.clearCause (.clearCause (.setFb (.addF (.close
    (.close (.setV (.setF (.setF h ..) ..) ..) ..) ..) ..) ..) ..) ..) ..) ..))) hu

theorem Bounded.execActTimeout (h : Bounded s) {actuator : Fin 2} {u : State} (hu : execActTimeout actuator s = .next u) : Bounded u :=
  .done (.expire h _ _ _ fun _ h => .ite h (.raise (.addF (.setFb h ..) ..) ..)) hu

theorem Bounded.execActBlocked (h : Bounded s) {actuator : Fin 2} {u : State} (hu : execActBlocked actuator s = .next u) : Bounded u :=
  .done (.expire h _ _ _ fun _ h => .raise (.addF (.setFb h ..) ..) ..) hu

theorem Bounded.execHoldOvercurrent (h : Bounded s) {actuator : Fin 2} {u : State} (hu : execHoldOvercurrent actuator s = .next u) :
    Bounded u :=
  .done (.expire h _ _ _ fun _ h => .raise (.setF h ..) ..) hu

theorem Bounded.execCompareWrite (h : Bounded s) {r : Req} {actuator : Fin 2} {compare : Fin 4} {value : Word} {t : Nat} {u : State}
    (hu : execCompareWrite r actuator compare value t s = .next u) : Bounded u :=
  .writeField h hu

theorem Bounded.execCompareCfgWrite (h : Bounded s) {r : Req} {actuator : Fin 2} {compare : Fin 4} {value : Word} {t : Nat} {u : State}
    (hu : execCompareCfgWrite r actuator compare value t s = .next u) : Bounded u :=
  .writeField h hu

theorem Bounded.execStoHwRequest (h : Bounded s) {group : Fin 4} {cycles t : Nat} {u : State}
    (hu : execStoHwRequest group cycles t s = .next u) : Bounded u :=
  .done (.setEnable (.when (.setOn (.parts h) ..) _ _ fun _ h => .setOn h ..) ..) hu

theorem Bounded.execStoHwRelease (h : Bounded s) {group : Fin 4} {t : Nat} {u : State} (hu : execStoHwRelease group t s = .next u) :
    Bounded u := by
  unfold Machine.execStoHwRelease at hu
  exact .done (.ite (.setOn (.parts h) ..) (.setEnable (.setOn (.parts h) ..) ..)) hu

theorem Bounded.execSbcHwOpen (h : Bounded s) {sbc : Bool} {group : Fin 4} {t : Nat} {u : State}
    (hu : execSbcHwOpen sbc group t s = .next u) : Bounded u :=
  .done (.each (.parts h) _ _ fun _ h _ _ => .ite (.brakeApply h ..) h) hu

theorem Bounded.pairWindows (h : Bounded s) (i : Nat) (a b : Bool) : Bounded (s.pairWindows i a b) := .timed (.timed h ..) ..

theorem Bounded.stoTested (h : Bounded s) (g : Nat) : Bounded (s.stoTested g) := .openSlow (.setV (.clearCause (.safeBit h ..) ..) ..) ..

theorem Bounded.stoFail (h : Bounded s) (g d1 : Nat) : Bounded (s.stoFail g d1) := .raise (.safeBit h ..) ..

theorem Bounded.stoRequest (h : Bounded s) (g : Nat) : Bounded (s.stoRequest g) := by
  unfold State.stoRequest
  refine .setOn (.ite (.stoFail (.ite (.stoSafe (.addF ?_ ..) ..) ?_) ..) (.ite (.stoSafe (.addF ?_ ..) ..) ?_)) ..
  all_goals exact .setOn (.stoTested (.writeEnSw (.safeBit (.setOn h ..) ..) ..) ..) ..

theorem Bounded.stoRelease (h : Bounded s) (g : Nat) : Bounded (s.stoRelease g) := by
  unfold State.stoRelease
  exact .clearCause (.ite (.note (.safeBit (.setOn h ..) ..) ..) (.safeBit (.setOn h ..) ..)) ..

theorem Bounded.sbcRelease (h : Bounded s) : Bounded s.sbcRelease := .clearCause (.ite (.note (.setOn h ..) ..) (.setOn h ..)) ..

theorem Bounded.samplePair (h : Bounded s) (i : Nat) (a b : Bool) : Bounded (s.samplePair i a b) := by
  unfold State.samplePair
  refine .ite (.ite (.setOn ?_ ..) (.ite (.stoRequest ?_ ..) (.sbcRequest (.setOn ?_ ..)))) (.ite (.ite (.setOn ?_ ..) (.ite
    (.stoRelease ?_ ..) (.sbcRelease ?_))) ?_)
  all_goals exact .pairWindows (.setOn (.ite (.setV h ..) h) ..) ..

theorem Bounded.samplePairs (h : Bounded s) (levels : BitVec 10) : Bounded (s.samplePairs levels) :=
  .setFb (.setOn (.each (.setF (.setF h ..) ..) _ _ fun _ h _ _ => .samplePair h ..) ..) ..

theorem Bounded.stoRestore (h : Bounded s) (g : Nat) : Bounded (s.stoRestore g) := .ite (.writeEnSw (.setOn h ..) ..) h

theorem Bounded.pathCheck (h : Bounded s) (g : Nat) (hw sw drv : Bool) : Bounded (s.pathCheck g hw sw drv) := .timed h ..

theorem Bounded.swCheck (h : Bounded s) (g : Nat) (present : Bool) : Bounded (s.swCheck g present) :=
  .ite (.ite (.stoFail (.setOn h ..) ..) (.setOn h ..)) h

theorem Bounded.execSafetySample (h : Bounded s) {levels : BitVec 10} {hw sw drv : BitVec 4} {u : State}
    (hu : execSafetySample levels hw sw drv s = .next u) : Bounded u := by
  unfold Machine.execSafetySample at hu
  exact .done (.expire h _ _ _ fun _ h => .ite (.openSlow h ..) (.brakeSync (.each (.samplePairs (.openSlow h ..) ..)
    _ _ fun _ h _ _ => .stoRestore (.pathCheck (.swCheck h ..) ..) ..))) hu

theorem Bounded.execStoDiscrepancy (h : Bounded s) {pair : Fin 5} {u : State} (hu : execStoDiscrepancy pair s = .next u) : Bounded u := by
  unfold Machine.execStoDiscrepancy at hu
  exact .done (.expire h _ _ _ fun _ h => .ite (.ite (.safeBit (.raise (.safeBit (.addF h ..) ..) ..) ..) (.stoRequest (.raise (.safeBit
    (.addF h ..) ..) ..) ..)) (.brakeSync (.raise (.ite (.setFb (.setFb (.addF h ..) ..) ..) (.sbcRequest (.setOn (.setFb (.setFb
    (.addF h ..) ..) ..) ..))) ..))) hu

theorem Bounded.execDiscrepancyCleared (h : Bounded s) {pair : Fin 5} {u : State} (hu : execDiscrepancyCleared pair s = .next u) :
    Bounded u := by
  unfold Machine.execDiscrepancyCleared at hu
  exact .done (.expire h _ _ _ fun _ h => .ite (.ite (.clearCause (.safeBit h ..) ..) (.stoRelease (.clearCause (.safeBit h ..) ..) ..))
    (.ite (.clearCause (.setFb (.setFb h ..) ..) ..) (.sbcRelease (.clearCause (.setFb (.setFb h ..) ..) ..)))) hu

theorem Bounded.execPathDisagree (h : Bounded s) {group : Fin 4} {u : State} (hu : execPathDisagree group s = .next u) : Bounded u :=
  .done (.expire h _ _ _ fun _ h => .raise (.setFb (.setOn h ..) ..) ..) hu

theorem Bounded.execStoAutoTest (h : Bounded s) {group : Fin 4} {t : Nat} {u : State} (hu : execStoAutoTest group t s = .next u) :
    Bounded u :=
  .done (.ite (.stoTestStart (.parts h) ..) (.parts h)) hu

theorem Bounded.execStoGroupTestEnd (h : Bounded s) {group : Fin 4} {drv : BitVec 3} {t : Nat} {u : State}
    (hu : execStoGroupTestEnd group drv t s = .next u) : Bounded u := by
  unfold Machine.execStoGroupTestEnd at hu
  refine .done (.ite (.parts h) (.ite (.each (.stoTested (.ite (.writeEnSw ?_ ..) ?_) ..) _ _ fun _ h _ _ => .ite (.armStage h ..) h)
    (.stoFail ?_ ..))) hu
  all_goals exact .each (.setEnable (.setOn (.parts h) ..) ..) _ _ fun _ h _ _ => .setOn h ..

theorem Bounded.execStoTestDue (h : Bounded s) {group : Fin 4} {u : State} (hu : execStoTestDue group s = .next u) : Bounded u :=
  .done (.expire h _ _ _ fun _ h => .raise (.safeBit h ..) ..) hu

theorem Bounded.execBrakeCommandWrite (h : Bounded s) {r : Req} {value : Word} {t : Nat} {u : State}
    (hu : execBrakeCommandWrite r value t s = .next u) : Bounded u :=
  .writeField h hu

theorem Bounded.brakeClear (h : Bounded s) (k : Nat) : Bounded (s.brakeClear k) := .clearCause (.setFb (.close h ..) ..) ..

theorem Bounded.brakeFault (h : Bounded s) (k cond : Nat) : Bounded (s.brakeFault k cond) := by
  unfold State.brakeFault
  exact .ite (.close (.ite (.brakeClear h ..) h) ..) (.brakeSync (.raise (.setFb (.ite (.brakeClear h ..) h) ..) ..))

theorem Bounded.execBrakeSwitchCheck (h : Bounded s) {brake : Fin 2} {obs : BrakeObs} {t : Nat} {u : State}
    (hu : execBrakeSwitchCheck brake obs t s = .next u) : Bounded u := by
  unfold Machine.execBrakeSwitchCheck at hu
  refine .done (.ite (.parts h) (.ite (.brakeFault (.timed (.timed (.parts h) ..) ..) ..) (.ite ?_ (.ite ?_ (.timed (.timed
    (.parts h) ..) ..))))) hu
  all_goals exact .brakeFault (.close (.timed (.timed (.parts h) ..) ..) ..) ..

theorem Bounded.execBrakeAppliedCheck (h : Bounded s) {brake : Fin 2} {obs : BrakeRest} {t : Nat} {u : State}
    (hu : execBrakeAppliedCheck brake obs t s = .next u) : Bounded u := by
  unfold Machine.execBrakeAppliedCheck at hu
  refine .done (.ite (.parts h) (.ite (.brakeFault (.parts h) ..) (.ite (.parts h) ?_))) hu
  split
  · exact .openSlow (.parts h) ..
  · exact .ite (.parts h) (.brakeClear (.parts h) ..)

theorem Bounded.execBrakeTest (h : Bounded s) {r : Req} {brake t : Nat} {u : State} (hu : execBrakeTest r brake t s = .next u) :
    Bounded u :=
  .serveAt h hu

theorem Bounded.brakePassed (h : Bounded s) (k : Nat) : Bounded (s.brakePassed k) :=
  .brakeSync (.report (.addF (.clearCause (.clearCause (.brakeDueWindow (.setV (.setF (.setFb (.setFb (.setV (.setFb
    (.setF h ..) ..) ..) ..) ..) ..) ..) ..) ..) ..) ..) ..)

theorem Bounded.execBrakeTestPhaseEnd (h : Bounded s) {brake : Fin 2} {u : State} (hu : execBrakeTestPhaseEnd brake s = .next u) :
    Bounded u := by
  unfold Machine.execBrakeTestPhaseEnd at hu
  refine .done (.expire h _ _ _ ?_) hu
  intro _ h
  refine .ite h ?_
  dsimp only
  split
  · exact .openSlow (.setV (.setV h ..) ..) ..
  · exact .openSlow (.setV (.setV h ..) ..) ..
  · exact .ite (.openSlow (.setV (.setV (.setOn h ..) ..) ..) ..) (.brakePassed h ..)

theorem Bounded.execBrakeTestDue (h : Bounded s) {brake : Fin 2} {u : State} (hu : execBrakeTestDue brake s = .next u) : Bounded u :=
  .done (.expire h _ _ _ fun _ h => .raise (.setF (.setFb h ..) ..) ..) hu

theorem Bounded.execContactorCommandWrite (h : Bounded s) {r : Req} {value : Word} {t : Nat} {u : State}
    (hu : execContactorCommandWrite r value t s = .next u) : Bounded u :=
  .writeField h hu

theorem Bounded.openOnFault (h : Bounded s) : Bounded s.openOnFault := .ite (.openSlow h ..) h

theorem Bounded.mismatch (h : Bounded s) (n d : Nat) : Bounded (s.mismatch n d) := .ite h (.openOnFault (.raise (.addF h ..) ..))

theorem Bounded.welded (h : Bounded s) (d cfb : Nat) : Bounded (s.welded d cfb) :=
  .ite h (.openOnFault (.raise (.addF (.safeBit h ..) ..) ..))

theorem Bounded.cfbCheck (h : Bounded s) (n : Nat) (level : Bool) : Bounded (s.cfbCheck n level) := by
  unfold State.cfbCheck
  extract_lets d on good s1 s2 s3 s4 s5 s6 s7
  have h1 : Bounded s1 := .safeBit h ..
  have h3 : Bounded s3 :=
    .ite (.ite (.mismatch (.close h1 ..) ..) (.welded (.close h1 ..) ..)) h1
  have h5 : Bounded s5 :=
    .ite (.setV (.close h3 ..) ..) (.setV (.setV (.close h3 ..) ..) ..)
  have h7 : Bounded s7 := .setV (.ite (.clearCause h3 ..) h3) ..
  exact .ite h (.ite (.ite (.clearCause h5 ..) h5) (.ite h7 (.setV h7 ..)))

theorem Bounded.execContactorCheck (h : Bounded s) {levels : BitVec 8} {u : State} (hu : execContactorCheck levels s = .next u) :
    Bounded u := by
  unfold Machine.execContactorCheck at hu
  exact .done (.expire h _ _ _ fun _ h => .ite (.openSlow h ..) (.each (.setF (.openSlow h ..) ..) _ _ fun _ h _ _ => .cfbCheck h ..)) hu

theorem Bounded.execPrechargeWeldCheck (h : Bounded s) {u : State} (hu : execPrechargeWeldCheck s = .next u) : Bounded u :=
  .done (.expire h _ _ _ fun _ h => .ite (.welded h ..) h) hu

theorem Bounded.preLast (h : Bounded s) : Bounded s.preLast := by
  unfold State.preLast
  split
  · exact .preEval (.parts h)
  · exact h

theorem Bounded.execPrechargeTimeout (h : Bounded s) {u : State} (hu : execPrechargeTimeout s = .next u) : Bounded u :=
  .done (.expire (.preLast h) _ _ _ fun _ h => .openOnFault (.raise (.setFb h ..) ..)) hu

theorem Bounded.execContactorOpenDelay (h : Bounded s) {u : State} (hu : execContactorOpenDelay s = .next u) : Bounded u :=
  .done (.expire h _ _ _ fun _ h => .drivers h ..) hu

theorem Bounded.undoStage (h : Bounded s) (t : Stage) (old : Nat) : Bounded (s.undoStage t old) := by
  unfold State.undoStage
  refine .ite h ?_
  have hended (l : List Nat) : Bounded ((s.each l fun s n => (s.endCommands n).setOn .legLive n false).enter t .armed 0 0).brakeSync :=
    .brakeSync (.enter (.each h _ _ fun _ h _ _ => .setOn (.endCommands h ..) ..) ..)
  split
  · exact .enter (.leaveActive h ..) ..
  · exact hended _
  · exact hended _
  · exact .armStage h ..
  · exact .enter h ..
  iterate 3
    refine .ite ?_ h
    have hstop : Bounded ((((s.setStg t { s.stg t with stopping := false }).close .stopSeq t.idx).setV .stopForceAt t.idx 0)) :=
      .setV (.close (.setStg h ..) ..) ..
    dsimp only
    split
    · exact .setF hstop ..
    · exact .close (.setOn (.setV hstop ..) ..) ..
    · exact hstop
  · exact h

theorem Bounded.undo (h : Bounded s) (p : Protected) : Bounded (s.undo p) := by
  unfold State.undo
  split
  · exact .ite (.setEnable h ..) (.safeBit (.setOn (.setEnable h ..) ..) ..)
  · exact .ite (.brakeApply h ..) (.setF (.setFb (.setOn h ..) ..) ..)
  · exact .drivers h ..
  · exact .undoStage h ..
  · exact h

theorem Bounded.discardWrites (h : Bounded s) : Bounded s.discardWrites := .parts (.each h _ _ fun _ h _ _ => .undo h ..)

theorem Bounded.captureS (h : Bounded s) (m : Mismatch) : Bounded (s.captureS m) := .setF (.setF (.setF (.setF (.setF h ..) ..) ..) ..) ..

theorem Bounded.restartS (h : Bounded s) (code counter : Nat) (d1 d2 : Nat) (m : Mismatch) :
    Bounded (s.restartS code counter d1 d2 m) := by
  unfold State.restartS
  refine .ite h (.setFb (.each (.ite (.raiseAll (.setV ?_ ..) ..) (.raise ?_ ..)) _ _ fun _ h _ _ => .holdBy h ..) ..)
  all_goals exact .setFb (.openSlow (.setV (.setFb (.discardWrites (.setF (.captureS (.addF h ..) ..) ..)) ..) ..) ..) ..

theorem Bounded.execSMismatch (h : Bounded s) {m : Mismatch} {t : Nat} {u : State} (hu : execSMismatch m t s = .next u) : Bounded u :=
  .done (.restartS (.parts h) ..) hu

theorem Bounded.execSWatchdog (h : Bounded s) {m : Mismatch} {t : Nat} {u : State} (hu : execSWatchdog m t s = .next u) : Bounded u :=
  .done (.ite h (.restartS (.parts h) ..)) hu

theorem Bounded.execRepeatWindowEnd (h : Bounded s) {u : State} (hu : execRepeatWindowEnd s = .next u) : Bounded u :=
  .done (.expire h _ _ _ fun _ h => .setFb h ..) hu

theorem Bounded.carryDeferred (h : Bounded s) : Bounded s.carryDeferred := .carryAll (.parts h) ..

theorem Bounded.releaseHold (h : Bounded s) (h' : HoldCause) : Bounded (s.releaseHold h') :=
  .settle (.each h _ _ fun _ h _ _ => .ite (.tryRestore (.setStg h ..) ..) h)

theorem Bounded.deliverHeld (h : Bounded s) : Bounded s.deliverHeld := .each (.parts h) _ _ fun _ h _ _ => .carryReq h ..

theorem Bounded.warmDone (h : Bounded s) (lost : Bool) (levels : BitVec 10) : Bounded (s.warmDone lost levels) := by
  unfold State.warmDone
  refine .ite h (.note (.deliverHeld (.setFb (.releaseHold (.clearCause (.clearCause (.ite (.raise (.ite (.moduleSafe
    (.setV ?_ ..) ..) ?_) ..) (.ite (.moduleSafe (.setV ?_ ..) ..) ?_)) ..) ..) ..) ..)) ..)
  all_goals exact .carryDeferred (.brakeSync (.samplePairs (.setOn (.setFb (.setF (.addF (.setF h ..) ..) ..) ..) ..) ..))

theorem Bounded.execWarmRestartDone (h : Bounded s) {lost : Bool} {levels : BitVec 10} {t : Nat} {u : State}
    (hu : execWarmRestartDone lost levels t s = .next u) : Bounded u :=
  .done (.warmDone (.parts h) ..) hu

theorem Bounded.execHoldExpired (h : Bounded s) {t : Stage} {u : State} (hu : execHoldExpired t s = .next u) : Bounded u :=
  .done (.expire h _ _ _ fun _ h => .ite (.raise (.when h _ _ fun _ h => .setV h ..) ..) h) hu

theorem Bounded.handFails (h : Bounded s) : Bounded s.handFails := by
  unfold State.handFails
  split
  · exact h
  · dsimp only
    split
    · exact .answerCmd (.each (.setF (.parts h) ..) _ _ fun _ h _ _ => .when h _ _ fun _ h => .setF h ..) ..
    · exact .each (.setF (.parts h) ..) _ _ fun _ h _ _ => .when h _ _ fun _ h => .setF h ..

theorem Bounded.restartV (h : Bounded s) (core code : Nat) (d1 d2 : Nat) : Bounded (s.restartV core code d1 d2) := by
  unfold State.restartV
  exact .ite h (.handFails (.raise (.setFb (.setF (.setV (.addF (.addF h ..) ..) ..) ..) ..) ..))

theorem Bounded.execVMismatch (h : Bounded s) {m : Mismatch} {t : Nat} {u : State} (hu : execVMismatch m t s = .next u) : Bounded u := by
  unfold Machine.execVMismatch at hu
  exact .done (.ite (.restartV (.setF (.setF (.setF (.setF (.parts h) ..) ..) ..) ..) ..) (.parts h)) hu

theorem Bounded.execVWatchdog (h : Bounded s) {core : Fin 2} {t : Nat} {u : State} (hu : execVWatchdog core t s = .next u) : Bounded u :=
  .done (.ite (.parts h) (.restartV (.parts h) ..)) hu

theorem Bounded.serveQueue (h : Bounded s) : Bounded s.serveQueue := .ite h (.each (.parts h) _ _ fun _ h _ _ => .serveReady h ..)

theorem Bounded.drained (h : Bounded s) : Bounded s.drained := .ite (.note (.setV h ..) ..) h

theorem Bounded.execVRestartDone (h : Bounded s) {core : Fin 2} {t : Nat} {u : State} (hu : execVRestartDone core t s = .next u) :
    Bounded u := by
  unfold Machine.execVRestartDone at hu
  exact .done (.ite (.serveQueue (.drained (.note (.clearCause (.clearCause (.setF (.parts h) ..) ..) ..) ..))) h) hu

theorem Bounded.execSplitV (h : Bounded s) {r : Req} {t : Nat} {u : State} (hu : execSplitV r t s = .next u) : Bounded u := .serveAt h hu

theorem Bounded.handEnd (h : Bounded s) (r : Req) (c : Svc) (x : Res) : Bounded (s.handEnd r c x) := by
  unfold State.handEnd
  refine .serveQueue ?_
  split
  · exact .answerCmd (.setF (.setF (.parts h) ..) ..) ..
  · exact .setF (.setF (.parts h) ..) ..

theorem Bounded.splitDone (h : Bounded s) (completed : Bool) : Bounded (s.splitDone completed) := by
  unfold State.splitDone
  split
  · exact .ite (.handEnd h ..) (.handEnd (.noteLasting (.addF (.setF h ..) ..) ..) ..)
  · exact h

theorem Bounded.execSplitVDone (h : Bounded s) {completed : Bool} {t : Nat} {u : State} (hu : execSplitVDone completed t s = .next u) :
    Bounded u :=
  .done (.splitDone (.parts h) ..) hu

theorem Bounded.execJoinV (h : Bounded s) {r : Req} {t : Nat} {u : State} (hu : execJoinV r t s = .next u) : Bounded u := .serveAt h hu

theorem Bounded.joinDone (h : Bounded s) (completed pass : Bool) : Bounded (s.joinDone completed pass) := by
  unfold State.joinDone
  split
  · exact .ite (.handEnd h ..) (.ite (.handEnd (.note (.noteEnds (.setFb (.addF (.setF h ..) ..) ..) ..) ..) ..) (.handEnd (.noteUntilStart
      (.setFb (.addF (.setOn h ..) ..) ..) ..) ..))
  · exact h

theorem Bounded.execJoinVDone (h : Bounded s) {completed pass : Bool} {t : Nat} {u : State}
    (hu : execJoinVDone completed pass t s = .next u) : Bounded u :=
  .done (.joinDone (.parts h) ..) hu

theorem Bounded.recordWrite (h : Bounded s) : Bounded s.recordWrite := by
  unfold State.recordWrite
  split
  · exact h
  · exact .ite h (.setV (.drained (.fillCheck (.append (.parts h) ..))) ..)

theorem Bounded.execRecordWrite (h : Bounded s) {u : State} (hu : execRecordWrite s = .next u) : Bounded u := .done (.recordWrite h) hu

theorem Bounded.execTokenRefill (h : Bounded s) {code : Nat} {u : State} (hu : execTokenRefill code s = .next u) : Bounded u :=
  .done (.expire h _ _ _ fun _ h => .setDue (.when h _ _ fun _ h => .setV h ..) ..) hu

theorem Bounded.execLogRead (h : Bounded s) {r : Req} {start count t : Nat} {u : State} (hu : execLogRead r start count t s = .next u) :
    Bounded u :=
  .serveAt h hu

theorem Bounded.execClearLog (h : Bounded s) {r : Req} {t : Nat} {u : State} (hu : execClearLog r t s = .next u) : Bounded u :=
  .serveAt h hu

theorem Bounded.execClearDone (h : Bounded s) {u : State} (hu : execClearDone s = .next u) : Bounded u :=
  .done (.ite (.setOn (.clearEnd (.clearStage h) ..) ..) h) hu

theorem Bounded.execCursorWrite (h : Bounded s) {r : Req} {value : Word} {t : Nat} {u : State}
    (hu : execCursorWrite r value t s = .next u) : Bounded u :=
  .writeField h hu

theorem Bounded.execWindowRead (h : Bounded s) {r : Req} {t : Nat} {u : State} (hu : execWindowRead r t s = .next u) : Bounded u :=
  .serveAt h hu

theorem Bounded.execPhyLinkUp (h : Bounded s) {port : Fin 4} {master : Bool} {t : Nat} {u : State}
    (hu : execPhyLinkUp port master t s = .next u) : Bounded u := by
  unfold Machine.execPhyLinkUp at hu
  exact .done (.ite (.openSlow (.openSlow (.openSlow (.setV (.setV (.setFb (.setFb (.setPort
    (.parts h) ..) ..) ..) ..) ..) ..) ..) ..) h) hu

theorem Bounded.cutPort (h : Bounded s) (p : Nat) : Bounded (s.cutPort p) :=
  .setV (.egress_filter (.addF (.ite (.parts (.servePort h ..)) (.servePort h ..)) ..) _) ..

theorem Bounded.derive (h : Bounded s) (depth path : Nat) : Bounded (s.derive depth path) := by
  unfold State.derive
  refine .ite h ?_
  split
  · exact h
  · exact .ite (.setDue (.note (.setF (.setF h ..) ..) ..) ..) (.note (.setF (.setF h ..) ..) ..)

theorem Bounded.startRound (h : Bounded s) : Bounded s.startRound :=
  .setOn (.parts (.openSlow (.openSlow (.each (.setF (.derive h ..) ..) _ _ fun _ h _ hp => .sendOn h
    (lt_of_mem_range_filter hp) ..) ..) ..)) ..

theorem Bounded.rootEarly (h : Bounded s) : Bounded s.rootEarly := .ite (.setOn h ..) (.startRound h)

theorem Bounded.topology (h : Bounded s) (p change : Nat) (wasUp : Bool) : Bounded (s.topology p change wasUp) :=
  .ite (.rootEarly h) (.ite h (.sendUp h ..))

theorem Bounded.portDown (h : Bounded s) (p cause : Nat) : Bounded (s.portDown p cause) := by
  unfold State.portDown
  refine .ite h (.topology (.ite (.noteLasting (.openSlow (.setPort ?_ ..) ..) ..) ?_) ..)
  all_goals
    refine .raise (.ite (.addF ?_ ..) (.setF (.openSlow ?_ ..) ..)) ..
    all_goals exact .addF (.setPort (.portClear (.cutPort h ..) ..) ..) ..

theorem Bounded.execPhyLinkLoss (h : Bounded s) {port : Fin 4} {t : Nat} {u : State} (hu : execPhyLinkLoss port t s = .next u) :
    Bounded u := by
  unfold Machine.execPhyLinkLoss at hu
  exact .done (.ite (.setPort (.portClear (.unloop (.parts h) ..) ..) ..) (.portDown (.parts h) ..)) hu

theorem Bounded.execLinkCheckSend (h : Bounded s) {port : Fin 4} {u : State} (hu : execLinkCheckSend port s = .next u) : Bounded u := by
  unfold Machine.execLinkCheckSend at hu
  refine .done ?_ hu
  split
  · exact h
  · exact .expire h _ _ _ fun _ h => .sendOn (.setDue h ..) port.isLt ..

theorem Bounded.portError (h : Bounded s) (p j : Nat) : Bounded (s.portError p j) := .addV (.addF h ..) ..

theorem Bounded.portCheck (h : Bounded s) (p : Nat) (f : Frame) : Bounded (s.portCheck p f).2 := by
  unfold State.portCheck
  refine .ite_snd h (.ite_snd (.addF (.addF h ..) ..) (.ite_snd (.portError (.addF h ..) ..) (.ite_snd (.addF (.addF h ..) ..) (.ite ?_
    (.portError ?_ ..)))))
  all_goals exact .ite (.addF h ..) (.openSlow (.addF h ..) ..)

theorem Bounded.setPath (h : Bounded s) (depth path : Nat) : Bounded (s.setPath depth path) := .setF (.setF (.setF h ..) ..) ..

theorem Bounded.sendWaggleReply (h : Bounded s) : Bounded s.sendWaggleReply := .sendUp h ..

theorem Bounded.settleRound (h : Bounded s) : Bounded s.settleRound :=
  .expire h _ _ _ fun _ h => .sendWaggleReply (.derive (.setPath (.setOn h ..) ..) ..)

/-- The duplicate state of a source is replaced. -/
theorem Bounded.peer (h : Bounded s) {p : Peer} (hp : p.port < 4) (q : Peer → Bool) :
    Bounded { s with peers := s.peers.filter q ++ [p] } :=
  .of_peers h (forall_mem_concat (forall_mem_filter h.peers q) hp)

theorem Bounded.learn (h : Bounded s) (src : Nat) {port : Nat} (hp : port < 4) : Bounded (s.learn src port) := .ite h (.peer h hp _)

theorem Bounded.stopRoot (h : Bounded s) : Bounded s.stopRoot := .noteEnds (.close (.close (.parts (.setOn (.setFb h ..) ..)) ..) ..) ..

theorem Bounded.setRoot (h : Bounded s) (uid prio : Nat) : Bounded (s.setRoot uid prio) := .setV (.setF (.setF h ..) ..) ..

theorem Bounded.rootHeard (h : Bounded s) : Bounded s.rootHeard := .ite h (.openSlow h ..)

theorem Bounded.setUpstream (h : Bounded s) (p : Nat) : Bounded (s.setUpstream p) := .setF (.each h _ _ fun _ h _ _ => .setFb h ..) ..

theorem Bounded.forwardWaggle (h : Bounded s) (p : Nat) (f : Frame) : Bounded (s.forwardWaggle p f) :=
  .each h _ _ fun _ h _ hq => .sendOn h (lt_of_mem_range_filter hq) ..

theorem Bounded.colonySize (h : Bounded s) (nodes depth : Nat) : Bounded (s.colonySize nodes depth) := by
  unfold State.colonySize
  exact .ite h (.ite (.latencyCheck (.setF (.setF h ..) ..)) (.setF (.setF h ..) ..))

theorem Bounded.acceptRound (h : Bounded s) {p : Nat} (hp : p < 4) (f : Frame) : Bounded (s.acceptRound p f) := by
  have hlearned : Bounded ((if s.isRoot then s.stopRoot else s).learn f.src p) := .learn (.ite (.stopRoot h) h) _ hp
  unfold State.acceptRound
  refine .forwardWaggle (.colonySize (.setUpstream (.setDue (.setOn (.setV (.setV (.setF (.rootHeard (.ite
    (.close ?_ ..) ?_)) ..) ..) ..) ..) ..) ..) ..) ..
  all_goals
    exact .clearCause (.setFb (.ite (.note (.addF (.addF (.setRoot hlearned ..) ..) ..) ..) (.addF (.setRoot hlearned ..) ..)) ..) ..

theorem Bounded.laterCopy (h : Bounded s) (p : Nat) (f : Frame) : Bounded (s.laterCopy p f) := by
  unfold State.laterCopy
  refine .ite h (.ite (.sendWaggleReply (.setPath ?_ ..)) ?_)
  all_goals exact .forwardWaggle (.setUpstream (.setV (.setV h ..) ..) ..) ..

theorem Bounded.waggle (h : Bounded s) {p : Nat} (hp : p < 4) (f : Frame) : Bounded (s.waggle p f) := by
  have hsettled {c : Prop} [Decidable c] := Bounded.ite (c := c) (.settleRound h) h
  unfold State.waggle
  exact .ite hsettled (.ite (.acceptRound hsettled hp ..) (.ite (.rootHeard (.ite (.laterCopy hsettled ..) hsettled)) hsettled))

theorem Bounded.waggles (h : Bounded s) {l : List (Nat × Frame)} (hl : ∀ x ∈ l, x.1 < 4) : Bounded (s.waggles l) :=
  .each h _ _ fun _ h x hx => .waggle h (hl x (List.mem_of_mem_filter hx)) _

theorem Bounded.receiveWaggles (h : Bounded s) {l : List (Nat × Frame)} (hl : ∀ x ∈ l, x.1 < 4) : Bounded (s.receiveWaggles l) := by
  unfold State.receiveWaggles
  extract_lets r
  have hr : Bounded r.2 := .foldl_snd h _ _ fun _ h _ _ => .portCheck h ..
  have hports : ∀ x ∈ r.1, x.1 < 4 := by
    refine List.foldlRecOn (motive := fun a : List (Nat × Frame) × State => ∀ x ∈ a.1, x.1 < 4) l _ (List.forall_mem_nil _) ?_
    intro a ha x hx
    dsimp only
    split
    · exact forall_mem_concat ha (hl x hx)
    · exact ha
  exact .waggles hr hports

theorem Bounded.classify (h : Bounded s) (src kind : Nat) (seq : Nat) {port : Nat} (hp : port < 4) :
    Bounded (s.classify src kind seq port).2 := by
  unfold State.classify
  dsimp only
  split
  · exact .peer h hp _
  next p hfound =>
    have hport (first : Bool) : (if first then port else p.port) < 4 := by
      split
      · exact hp
      · exact h.peers _ (List.mem_of_find?_eq_some hfound)
    exact .peer h (hport _) _

/-- Whether a frame's SEQ is taken or only looked at, the duplicate state is written, and nothing else. -/
theorem Bounded.classified (h : Bounded s) (b : Bool) (src kind seq : Nat) {port : Nat} (hp : port < 4) (k : Nat) :
    Bounded (if b then s.classify src kind seq port else (k, s)).2 :=
  .ite_snd (.classify h _ _ _ hp) h

theorem Bounded.learnFirst (h : Bounded s) (f : Frame) {p : Nat} (hp : p < 4) : Bounded (s.learnFirst f p) :=
  .ite h (.classify h _ _ _ hp)

theorem Bounded.linkCheck (h : Bounded s) (p : Nat) (b : List Byte) : Bounded (s.linkCheck p b) := by
  unfold State.linkCheck
  refine .ite (.noteLasting (.setFb (.setPort (.portClear (.setF (.setF h ..) ..) ..) ..) ..) ..) (.ite (.topology (.note (.clearCause
    (.setPort ?_ ..) ..) ..) ..) ?_)
  all_goals exact .setV (.setV (.setFb (.setF (.setF h ..) ..) ..) ..) ..

/-! ### Fabric, CAN, services and the step -/

theorem Bounded.pdelayReq (h : Bounded s) {p : Nat} (hp : p < 4) (f : Frame) (st : Stamps) : Bounded (s.pdelayReq p f st) :=
  .ite h (.sendOn h hp ..)

theorem Bounded.pdelayResp (h : Bounded s) (p : Nat) (f : Frame) (st : Stamps) : Bounded (s.pdelayResp p f st) := by
  unfold State.pdelayResp
  exact .ite h (.ite (.setV (.setV (.setV (.setOn h ..) ..) ..) ..) (.setFb (.setF (.setV (.setV (.setV (.setOn h ..) ..) ..) ..) ..) ..))

theorem Bounded.deliverRequest (h : Bounded s) (f : Frame) : Bounded (s.deliverRequest f) := by
  unfold State.deliverRequest
  exact .ite h (.ite (.answer h ..) (.ite (.serve h ..) (.serve h ..)))

theorem Bounded.deliverService (h : Bounded s) (f : Frame) : Bounded (s.deliverService f) := .ite (.deliverRequest h ..) h

theorem Bounded.markSent (h : Bounded s) (src kind : Nat) (seq port : Nat) : Bounded (s.markSent src kind seq port) := by
  refine .of_peers h (forall_mem_map h.peers fun p hp => ?_)
  split <;> exact hp

theorem Bounded.forward (h : Bounded s) (p : Nat) (f : Frame) {ports : List Nat} (hports : ∀ q ∈ ports, q < 4) (k : Nat → List Byte) :
    Bounded (s.forward p f ports k) :=
  .each h _ _ fun _ h q hq => .markSent (.sendOn h (hports q (List.mem_of_mem_filter hq)) ..) ..

theorem forall_mem_range_lt {n : Nat} : ∀ q ∈ List.range n, q < n := fun _ => List.mem_range.1

theorem Bounded.service (h : Bounded s) {p : Nat} (hp : p < 4) (f : Frame) : Bounded (s.service p f) := by
  unfold State.service
  extract_lets up lost
  have hup : ∀ g, Bounded (up s g) := fun g => by
    unfold up
    split
    next hq => exact .ite h (.sendOn h (upPort_lt hq) ..)
    · exact h
  have hlost : Bounded (lost s) := .ite (.addF h ..) (hup f)
  clear_value up lost
  refine .ite h (.ite (.ite (.deliverService (.each h _ _ fun _ h _ hq => .sendOn h (lt_of_mem_range_filter hq) ..) ..) (hup _)) (.ite (.ite
    (.deliverService h ..) ?_) ?_))
  · split
    next hq => exact .ite (.sendOn h (h.learned_lt hq) ..) hlost
    · exact hlost
  · have hc := Bounded.classified h f.fcs f.src f.kind f.seq hp (s.classOf f.src f.kind f.seq)
    split
    next c s hx =>
    rw [hx] at hc
    refine .ite (.addF hc ..) (.ite (.ite (.deliverService hc ..) hc) ?_)
    split
    next hq =>
      exact .ite (.forward hc _ _ (List.forall_mem_singleton.2 (hc.learned_lt hq)) _) (.forward hc _ _ forall_mem_range_lt _)
    · exact .forward hc _ _ forall_mem_range_lt _

theorem Bounded.waggleReply (h : Bounded s) (b : List Byte) : Bounded (s.waggleReply b) := .ite h (.parts h)

theorem Bounded.refuseSelf (h : Bounded s) (addr reason : Nat) : Bounded (s.refuseSelf addr reason) := by
  unfold State.refuseSelf
  refine .noteUntilStart (.ite (.setF (.setF (.setF ?_ ..) ..) ..) ?_) ..
  all_goals exact .close (.addF (.setFb (.setF (.setF h ..) ..) ..) ..) ..

theorem Bounded.deliver (h : Bounded s) (f : Frame) : Bounded (s.deliver f) := by
  unfold State.deliver
  refine .ite h ?_
  split
  · exact .ite (.waggleReply h ..) h
  · exact .ite (.rootEarly h) h
  · exact .ite (.refuseSelf h ..) h
  · exact .deliverRequest h ..
  · exact h

theorem Bounded.goUp (h : Bounded s) {p : Nat} (hp : p < 4) (f : Frame) : Bounded (s.goUp p f) := by
  unfold State.goUp
  refine .ite (.ite (.service h hp ..) (.deliver h ..)) ?_
  split
  next hq => exact .ite h (.sendOn h (upPort_lt hq) ..)
  · exact .addF h ..

theorem Bounded.goTree (h : Bounded s) (p : Nat) (f : Frame) : Bounded (s.goTree p f) :=
  .deliver (.each h _ _ fun _ h _ hq => .sendOn h (lt_of_mem_range_filter (List.mem_of_mem_filter hq)) ..) ..

/-- The ports on which a node without an image passes a frame on. -/
theorem transitPort_lt {p q : Nat} (hq : q ∈ if s.upPort == some p then s.downPorts else s.upPort.toList) : q < 4 := by
  split at hq
  · exact lt_of_mem_range_filter hq
  · exact upPort_lt (Option.mem_toList.1 hq)

theorem Bounded.transit (h : Bounded s) (p : Nat) (f : Frame) : Bounded (s.transit p f) :=
  .each (.ite (.deliver h ..) h) _ _ fun _ h _ hq => .sendOn h (transitPort_lt (List.mem_of_mem_filter hq)) ..

theorem Bounded.ringCopy (h : Bounded s) (p no : Nat) : Bounded (s.ringCopy p no) := .ite h (.setV (.setV h ..) ..)

theorem Bounded.writeSignal (h : Bounded s) (w : Waiting) : Bounded (s.writeSignal w) := by
  have hw := Bounded.hostWrite1 h { who := none, leaving := [], closing := [] } w.index w.sub w.value
  unfold State.writeSignal
  dsimp only
  exact .ite (.setV (.setV hw ..) ..) (.note (.addF (.countResult hw ..) ..) ..)

theorem Bounded.cycleActions (h : Bounded s) (start : Nat) : Bounded (s.cycleActions start) :=
  .cycleAlign (.each (.each (.parts (.setDue (.setV h ..) ..)) _ _ fun _ h _ _ => .writeSignal h ..) _ _ fun _ h _ _ => .setDue h ..)

theorem Bounded.cycleStep (h : Bounded s) (est : Int) (no : Nat) (size : Int) : Bounded (s.cycleStep est no size) :=
  .cycleActions (.setOn (.setF (.note (.addF h ..) ..) ..) ..) ..

theorem Bounded.loopUpdate (h : Bounded s) : Bounded s.loopUpdate := .setV (.setV (.setV (.setCorrection (.parts h) ..) ..) ..) ..

theorem Bounded.disciplineFrame (h : Bounded s) (err : Int) (masterChanged : Bool) : Bounded (s.disciplineFrame err masterChanged) := by
  unfold State.disciplineFrame
  refine .ite (.disciplineFree h) (.ite (.noteEnds (.loopUpdate (.setDisc (.setF (.setV (.ite (.holdoverEnd h) h) ..) ..) ..)) ..) (.ite
    (.ite (.raise (.loopUpdate (.setDisc (.setF (.setV (.ite (.holdoverEnd h) h) ..) ..) ..)) ..) (.loopUpdate (.setDisc (.setF (.setV (.ite
    (.holdoverEnd h) h) ..) ..) ..))) (.ite (.ite (.setDisc ?_ ..) ?_) (.ite (.raise (.setDisc ?_ ..) ..) ?_))))
  all_goals exact .setV (.loopUpdate (.setF (.setV (.ite (.holdoverEnd h) h) ..) ..)) ..

theorem Bounded.followSync (h : Bounded s) (p : Nat) (f : Frame) (st : Stamps) (changed : Bool) :
    Bounded (s.followSync p f st changed) := by
  unfold State.followSync
  refine .ite (.note (.setV (.disciplineFrame (.setF (.ite (.cycleStep ?_ ..) ?_) ..) ..) ..) ..) (.setV (.disciplineFrame (.setF (.ite
    (.cycleStep ?_ ..) ?_) ..) ..) ..)
  all_goals
    exact .ite (.setOn (.setOn (.setCycleLen (.ite (.missedCycle h) h) ..) ..) ..) (.setOn (.close (.setOn (.setCycleLen (.ite
      (.missedCycle h) h) ..) ..) ..) ..)

theorem Bounded.sync (h : Bounded s) {p : Nat} (hp : p < 4) (f : Frame) (st : Stamps) : Bounded (s.sync p f st) := by
  unfold State.sync
  refine .ite (.ite (.ringCopy h ..) h) ?_
  have hc := Bounded.classified h f.fcs f.src 5 f.seq hp (s.classOf f.src 5 f.seq)
  split
  next c s hx =>
  rw [hx] at hc
  extract_lets delay s1 own role mine s2 lapsed take s3 s4 s5 changed
  have h1 : Bounded s1 := .forward hc _ _ forall_mem_range_lt _
  have h2 : Bounded s2 := .ite (.setDue h1 ..) h1
  have h3 : Bounded s3 := .ite (.ringCopy h2 ..) h2
  have h5 : Bounded s5 := .ite (.setDue (.note (.addF h3 ..) ..) ..) (.addF h3 ..)
  exact .ite (.addF hc ..) (.ite h1 (.ite h2 (.ite h3 (.followSync (.ringCopy (.setF (.setV (.setV (.setV (.setV
    (.setMaster h5 ..) ..) ..) ..) ..) ..) ..) ..))))

theorem Bounded.deliverSignal (h : Bounded s) (id : Nat) (v : Word) : Bounded (s.deliverSignal id v) := by
  unfold State.deliverSignal
  exact .ite h (.ite (.writeSignal (.addF h ..) ..) (.parts (.ite (.addF (.addF h ..) ..) (.addF h ..))))

theorem Bounded.signal (h : Bounded s) {p : Nat} (hp : p < 4) (f : Frame) : Bounded (s.signal p f) := by
  unfold State.signal
  refine .ite h ?_
  have hc := Bounded.classified h f.fcs f.src 6 f.seq hp (s.classOf f.src 6 f.seq)
  split
  next c s hx =>
  rw [hx] at hc
  refine .ite (.addF hc ..) (.ite (.each ?_ _ _ fun _ h _ _ => .deliverSignal h ..) ?_)
  all_goals exact .forward (.ite (.addF hc ..) hc) _ _ (fun _ => lt_of_mem_range_filter) _

theorem Bounded.handleFrame (h : Bounded s) {p : Nat} (hp : p < 4) (f : Frame) (st : Stamps) : Bounded (s.handleFrame p f st) := by
  have hlearned {c d : Prop} [Decidable c] [Decidable d] : Bounded (if c then s else if d then s.learnFirst f p else s.learn f.src p) :=
    .ite h (.ite (.learnFirst h _ hp) (.learn h _ hp))
  unfold State.handleFrame
  exact .ite (.ite (.linkCheck hlearned ..) hlearned) (.ite (.ite hlearned (.ite (.pdelayReq hlearned hp ..) (.pdelayResp hlearned ..)))
    (.ite (.goUp hlearned hp ..) (.ite (.goTree hlearned ..) (.ite (.transit hlearned ..) (.ite hlearned (.ite (.sync hlearned hp ..) (.ite
    (.signal hlearned hp ..) (.service hlearned hp ..))))))))

theorem Bounded.receive (h : Bounded s) {p : Nat} (hp : p < 4) (f : Frame) (st : Stamps) : Bounded (s.receive p f st) := by
  have hchecked : Bounded (s.portCheck p f).2 := .portCheck h ..
  exact .ite (.receiveWaggles h (List.forall_mem_singleton.2 hp)) (.ite (.handleFrame hchecked hp ..) hchecked)

theorem Bounded.receiveKind (h : Bounded s) {is : Bool} {port : Fin 4} {f : Frame} {st : Stamps} {t : Nat} {u : State}
    (hu : s.receiveKind is port f st t = .next u) : Bounded u :=
  .done (.ite (.receive (.parts h) port.isLt ..) h) hu

theorem Bounded.execLinkCheck (h : Bounded s) {port : Fin 4} {frame : Frame} {t : Nat} {u : State}
    (hu : execLinkCheck port frame t s = .next u) : Bounded u :=
  .receiveKind h hu

theorem Bounded.execLinkTimeout (h : Bounded s) {port : Fin 4} {u : State} (hu : execLinkTimeout port s = .next u) : Bounded u :=
  .done (.expire h _ _ _ fun _ h => .portDown h ..) hu

theorem Bounded.execErrorWindowEnd (h : Bounded s) {port : Fin 4} {u : State} (hu : execErrorWindowEnd port s = .next u) : Bounded u := by
  unfold Machine.execErrorWindowEnd at hu
  refine .done ?_ hu
  split
  · exact h
  · exact .expire h _ _ _ fun _ h => .ite (.portDown h ..) (.setDue (.setV h ..) ..)

theorem Bounded.execHoldOffEnd (h : Bounded s) {port : Fin 4} {u : State} (hu : execHoldOffEnd port s = .next u) : Bounded u :=
  .done (.expire h _ _ _ fun _ h => .noteEnds (.close (.setF (.setPort h ..) ..) ..) ..) hu

theorem Bounded.execFrameReceived (h : Bounded s) {port : Fin 4} {frame : Frame} {stamps : Stamps} {t : Nat} {u : State}
    (hu : execFrameReceived port frame stamps t s = .next u) : Bounded u :=
  .done (.receive (.parts h) port.isLt ..) hu

theorem Bounded.execTopology (h : Bounded s) {port : Fin 4} {frame : Frame} {t : Nat} {u : State}
    (hu : execTopology port frame t s = .next u) : Bounded u :=
  .receiveKind h hu

theorem Bounded.execWagglePeriodEnd (h : Bounded s) {u : State} (hu : execWagglePeriodEnd s = .next u) : Bounded u :=
  .done (.expire h _ _ _ fun _ h => .ite (.startRound h) h) hu

theorem Bounded.execWaggle (h : Bounded s) {copies : List (Fin 4 × Frame)} {t : Nat} {u : State} (hu : execWaggle copies t s = .next u) :
    Bounded u :=
  .done (.receiveWaggles (.parts h) (List.forall_mem_map.2 fun x _ => x.1.isLt)) hu

theorem Bounded.execWaggleSettle (h : Bounded s) {u : State} (hu : execWaggleSettle s = .next u) : Bounded u := .done (.settleRound h) hu

theorem Bounded.execWaggleReply (h : Bounded s) {port : Fin 4} {frame : Frame} {t : Nat} {u : State}
    (hu : execWaggleReply port frame t s = .next u) : Bounded u :=
  .receiveKind h hu

theorem Bounded.sendRefused (h : Bounded s) (uid addr reason : Nat) : Bounded (s.sendRefused uid addr reason) := .sendTree h ..

theorem Bounded.tally (h : Bounded s) : Bounded s.tally := by
  unfold State.tally
  extract_lets known old new room joined s1 s2 limit kept left s3 s4 table here live s5 s6 table' s7 nodes depth s8
  have h2 : Bounded s2 := .each (.ite (.noteEnds h ..) h) _ _ fun _ h _ _ =>
    .noteLasting (.sendRefused h ..) ..
  have h4 : Bounded s4 := .each (.each h2 _ _ fun _ h _ _ => .note (.addF h ..) ..) _ _
    fun _ h _ _ => .note (.addF h ..) ..
  have h5 : Bounded s5 := by
    unfold s5
    split
    · exact .setOn (.refuseSelf h4 ..) ..
    · exact .setOn h4 ..
  have h6 : Bounded s6 := .each h5 _ _ fun _ h _ _ => by
    split
    · exact .sendRefused h ..
    · exact h
  have h8 : Bounded s8 := .colonySize (.setV (.setV (.parts h6) ..) ..) ..
  exact .ite (.startRound h8) h8

theorem Bounded.execReplyWindowEnd (h : Bounded s) {u : State} (hu : execReplyWindowEnd s = .next u) : Bounded u :=
  .done (.expire h _ _ _ fun _ h => .ite (.tally h) h) hu

theorem Bounded.execAddressRefused (h : Bounded s) {port : Fin 4} {frame : Frame} {t : Nat} {u : State}
    (hu : execAddressRefused port frame t s = .next u) : Bounded u :=
  .receiveKind h hu

theorem Bounded.becomeRoot (h : Bounded s) : Bounded s.becomeRoot :=
  .startRound (.close (.parts (.setOn (.setV (.setV (.setF (.setF (.setF (.setF (.setF (.each (.setRoot (.setFb h ..) ..)
    _ _ fun _ h _ _ => .setFb h ..) ..) ..) ..) ..) ..) ..) ..) ..)) ..)

theorem Bounded.execRootLost (h : Bounded s) {u : State} (hu : execRootLost s = .next u) : Bounded u := by
  unfold Machine.execRootLost at hu
  exact .done (.expire h _ _ _ fun _ h => .ite (.becomeRoot (.ite h (.raise (.setRoot (.addF (.setFb h ..) ..) ..) ..))) (.ite h (.raise
    (.setRoot (.addF (.setFb h ..) ..) ..) ..))) hu

theorem Bounded.execSyncReceived (h : Bounded s) {port : Fin 4} {frame : Frame} {stamps : Stamps} {t : Nat} {u : State}
    (hu : execSyncReceived port frame stamps t s = .next u) : Bounded u :=
  .receiveKind h hu

theorem Bounded.execPdelaySend (h : Bounded s) {leave : List Nat} {u : State} (hu : execPdelaySend leave s = .next u) : Bounded u := by
  unfold Machine.execPdelaySend at hu
  refine .done ?_ hu
  split
  · exact h
  · exact .expire h _ _ _ fun _ h => .ite (.setDue h ..) (.each (.setDue h ..) _ _ fun _ h _ hp => .sendOn (.setOn (.setV (.setV h ..) ..) ..)
      (lt_of_mem_range_filter hp) ..)

theorem Bounded.execPdelayReq (h : Bounded s) {port : Fin 4} {frame : Frame} {stamps : Stamps} {t : Nat} {u : State}
    (hu : execPdelayReq port frame stamps t s = .next u) : Bounded u :=
  .receiveKind h hu

theorem Bounded.execPdelayResp (h : Bounded s) {port : Fin 4} {frame : Frame} {stamps : Stamps} {t : Nat} {u : State}
    (hu : execPdelayResp port frame stamps t s = .next u) : Bounded u :=
  .receiveKind h hu

theorem Bounded.execMasterAssumed (h : Bounded s) {u : State} (hu : execMasterAssumed s = .next u) : Bounded u := by
  unfold Machine.execMasterAssumed at hu
  exact .done (.expire h _ _ _ fun _ h => .ite h (.note (.disciplineFree (.setCycleLen (.setF (.setV (.setDue (.close (.setOn (.setF (.setV
    (.setMaster h ..) ..) ..) ..) ..) ..) ..) ..) ..)) ..)) hu

theorem Bounded.ringSync (h : Bounded s) : Bounded s.ringSync := .setFb h ..

theorem Bounded.ringPort (h : Bounded s) (p : Nat) (missed : Bool) : Bounded (s.ringPort p missed) := by
  unfold State.ringPort
  exact .ite (.ite (.raise (.ringSync (.setOn (.setV (.addV h ..) ..) ..)) ..) (.setV (.addV h ..) ..)) (.ite (.setV h ..) (.ite (.note
    (.clearCause (.ringSync (.setV (.setOn (.addV (.setV h ..) ..) ..) ..)) ..) ..) (.addV (.setV h ..) ..)))

theorem Bounded.ringCheck (h : Bounded s) : Bounded s.ringCheck := by
  unfold State.ringCheck
  exact .ite h (.ite (.setF h ..) (.each (.setF h ..) _ _ fun _ h _ _ => .ringPort h ..))

theorem Bounded.sendSync (h : Bounded s) (leave : List Nat) : Bounded (s.sendSync leave) :=
  .each (.addF h ..) _ _ fun _ h _ hp => .sendOn h (lt_of_mem_range_filter hp) ..

theorem Bounded.cycleStart (h : Bounded s) (start : Nat) (leave : List Nat) : Bounded (s.cycleStart start leave) := by
  unfold State.cycleStart
  exact .ite (.sendSync (.cycleActions (.setF (.setOn (.ringCheck h) ..) ..) ..) ..) (.ite (.ite (.setOn (.cycleActions (.setF (.setOn
    (.ringCheck h) ..) ..) ..) ..) (.setDue (.cycleActions (.setF (.setOn (.ringCheck h) ..) ..) ..) ..)) (.cycleActions (.setF (.setOn
    (.ringCheck h) ..) ..) ..))

theorem Bounded.execCycleStart (h : Bounded s) {leave : List Nat} {u : State} (hu : execCycleStart leave s = .next u) : Bounded u := by
  unfold Machine.execCycleStart at hu
  refine .done ?_ hu
  split
  · exact h
  · exact .expire h _ _ _ fun _ h => .ite (.cycleStart h ..) h

theorem Bounded.publishFrame (h : Bounded s) (n : Nat) : Bounded (s.publishFrame n) := by
  unfold State.publishFrame
  refine .ite h (.ite (.each ?_ _ _ fun _ h _ _ => .deliverSignal h ..) ?_)
  all_goals exact .setV (.addF (.each (.setV h ..) _ _
    fun _ h _ hp => .sendOn h (lt_of_mem_range_filter (List.mem_of_mem_filter hp)) ..) ..) ..

theorem Bounded.execPublish (h : Bounded s) {frame : Fin 4} {u : State} (hu : execPublish frame s = .next u) : Bounded u :=
  .done (.expire h _ _ _ fun _ h => .publishFrame h ..) hu

theorem Bounded.execSignal (h : Bounded s) {port : Fin 4} {frame : Frame} {t : Nat} {u : State} (hu : execSignal port frame t s = .next u) :
    Bounded u :=
  .receiveKind h hu

theorem Bounded.forget (h : Bounded s) (src : Nat) : Bounded (s.forget src) := by
  unfold State.forget
  split
  · exact h
  next p _ => exact .of_peers (s := { s with now := max s.now p.ends }) (.parts h) (forall_mem_filter h.peers _)

theorem Bounded.execDuplicateStateExpiry (h : Bounded s) {src : Nat} {u : State} (hu : execDuplicateStateExpiry src s = .next u) :
    Bounded u :=
  .done (.forget h ..) hu

theorem Bounded.execServiceReq (h : Bounded s) {port : Fin 4} {frame : Frame} {t : Nat} {u : State}
    (hu : execServiceReq port frame t s = .next u) : Bounded u :=
  .receiveKind h hu

theorem Bounded.claimDone (h : Bounded s) (ch : Nat) : Bounded (s.claimDone ch) := .note (.noteEnds (.setF (.setFb h ..) ..) ..) ..

theorem Bounded.cannotClaim (h : Bounded s) (ch : Nat) : Bounded (s.cannotClaim ch) := .raise (.sendClaim (.setFb (.setV h ..) ..) ..) ..

theorem Bounded.loseAddress (h : Bounded s) (ch : Nat) : Bounded (s.loseAddress ch) := by
  have hnoted {n cur : Nat} : Bounded ((((((s.setFb Reg.CAN_STATUS_CLAIMED ch false).setF Reg.CAN_ADDRESS ch 0xFE).close .claim ch).noteLasting
      Ev.ADDRESS_LOST ch ch cur).addF Reg.CAN_COUNTERS ch n 8)) :=
    .addF (.noteLasting (.close (.setF (.setFb h ..) ..) ..) ..) ..
  unfold State.loseAddress
  dsimp only
  generalize hs : State.addF _ _ _ _ _ = u
  have hu : Bounded u := by
    rw [← hs]
    exact hnoted
  have hgone {canTx : List TxFrame} {q : TxFrame → Bool} : Bounded { u with canTx := canTx, canHold := u.canHold.filter q } :=
    .of_canHold (s := { u with canTx := canTx }) (.parts hu) (forall_mem_filter hu.canHold q)
  refine .ite ?_ (.cannotClaim (.canSync hgone ..) ..)
  split
  · exact .claimGo (.canSync hgone ..) ..
  · exact .cannotClaim (.canSync hgone ..) ..

theorem Bounded.claimFrame (h : Bounded s) (ch : Nat) (f : CanFrame) : Bounded (s.claimFrame ch f) := by
  unfold State.claimFrame
  refine .ite (.ite (.ite (.loseAddress ?_ ..) (.sendClaim (.close ?_ ..) ..)) (.parts h)) (.ite (.sendClaim h ..) h)
  all_goals exact .ite (.claimDone (.close (.parts h) ..) ..) (.parts h)

theorem Bounded.canErrors (h : Bounded s) (ch : Nat) : Bounded (s.canErrors ch) := by
  unfold State.canErrors
  exact .ite (.noteLasting (.setF (.setFb h ..) ..) ..) (.ite (.noteEnds (.setF (.setFb h ..) ..) ..) (.setFb h ..))

theorem Bounded.canGood (h : Bounded s) (ch : Nat) : Bounded (s.canGood ch) := by
  unfold State.canGood
  exact .ite h (.ite (.canErrors (.setF h ..) ..) (.canErrors (.setF (.parts h) ..) ..))

theorem Bounded.canQueue (h : Bounded s) {ch : Nat} (hch : ch < 4) (f : CanFrame) {p : CanFilter} (hp : p.queue < 2) :
    Bounded (s.canQueue ch f p) := by
  unfold State.canQueue
  dsimp only
  split
  · exact .ite (.note (.addF (.note (.addF h ..) ..) ..) ..) (.note (.addF h ..) ..)
  next k hfree =>
    have hk : k < 64 := List.mem_range.1 (List.mem_of_find?_eq_some hfree)
    exact .canSync (.of_canRx (.setV h ..) (forall_mem_concat h.canRx ⟨hch, hp, hk⟩)) ..

/-- A filter names queue 0 or 1. -/
theorem queue_lt_of_mem_filters {ch : Nat} {p : CanFilter} (hp : p ∈ s.filters ch) : p.queue < 2 := by
  unfold State.filters at hp
  split at hp
  · unfold State.imageFilters at hp
    dsimp only at hp
    split at hp
    · cases hp
    · obtain ⟨i, -, hi⟩ := List.mem_filterMap.1 hp
      split at hi
      · cases hi
      · obtain rfl := Option.some.inj hi
        dsimp only
        split <;> decide
  · obtain ⟨i, -, rfl⟩ := List.mem_map.1 hp
    exact Nat.mod_lt _ (by decide)

theorem Bounded.canReceive (h : Bounded s) {ch : Nat} (hch : ch < 4) (f : CanFrame) : Bounded (s.canReceive ch f) := by
  unfold State.canReceive
  refine .ite h ?_
  dsimp only
  split
  next hfound =>
    exact .canQueue (.claimFrame (.addF (.canGood h ..) ..) ..) hch _ (queue_lt_of_mem_filters (List.mem_of_find?_eq_some hfound))
  · refine .ite ?_ (.note (.addF ?_ ..) ..)
    all_goals exact .addF (.claimFrame (.addF (.canGood h ..) ..) ..) ..

theorem Bounded.execCanFrameReceived (h : Bounded s) {channel : Fin 4} {frame : CanFrame} {t : Nat} {u : State}
    (hu : execCanFrameReceived channel frame t s = .next u) : Bounded u :=
  .done (.canReceive (.parts h) channel.isLt ..) hu

theorem Bounded.execCanQueueTake (h : Bounded s) {r : Req} {words : Fin 20} {t : Nat} {u : State}
    (hu : execCanQueueTake r words t s = .next u) : Bounded u :=
  .serveAt h hu

theorem Bounded.execCanAck (h : Bounded s) {r : Req} {channel : Fin 4} {value : Word} {t : Nat} {u : State}
    (hu : execCanAck r channel value t s = .next u) : Bounded u :=
  .writeField h hu

theorem Bounded.ackLapse (h : Bounded s) (ch queue slot : Nat) : Bounded (s.ackLapse ch queue slot) := by
  unfold State.ackLapse
  split
  · exact h
  next e _ =>
    have hlapsed : Bounded (({ s with now := max s.now e.ends } : State).updEntry e fun x => { x with owner := .free, shown := false }) :=
      .updEntry (.parts h) _ _ fun _ => ⟨rfl, rfl, rfl⟩
    dsimp only
    split
    all_goals exact .note (.addF hlapsed ..) ..

theorem Bounded.execAckLapsed (h : Bounded s) {channel : Fin 4} {queue : Fin 2} {slot : Fin 64} {u : State}
    (hu : execAckLapsed channel queue slot s = .next u) : Bounded u :=
  .done (.ackLapse h ..) hu

theorem Bounded.mapService (h : Bounded s) (ch : Nat) (f : CanFrame) : Bounded (s.mapService ch f) := by
  unfold State.mapService
  refine .ite (.countDropped h) (.ite (.answer h ..) ?_)
  split
  · exact .serve h ..

theorem Bounded.mapEntry (h : Bounded s) : Bounded s.mapEntry := by
  unfold State.mapEntry
  refine .ite h ?_
  split
  · exact h
  · refine .ite (.ite h (.updEntry h _ _ fun _ => ⟨rfl, rfl, rfl⟩)) ?_
    dsimp only
    split
    · exact .addF (.canSync (.canRx_filter h _) ..) ..
    · exact .ite (.mapParam (.idleRestart (.canSync (.canRx_filter h _) ..)) ..) (.mapService (.canSync (.canRx_filter h _) ..) ..)

theorem Bounded.execMapEntry (h : Bounded s) {t : Nat} {u : State} (hu : execMapEntry t s = .next u) : Bounded u :=
  .done (.mapEntry (.parts h)) hu

/-- A transmit entry names its channel in one byte. -/
theorem ch_txFrame_lt (s : State) (i : Nat) (vals : List Nat) : (s.txFrame i vals).ch < 256 := numAt_lt _ _ 1

theorem Bounded.txForm (h : Bounded s) (i : Nat) (vals : List Nat) : Bounded (s.txForm i vals) := by
  unfold State.txForm
  refine .ite ?_ (.canOffer (.parts h) ..)
  dsimp only
  generalize hs : State.when _ _ _ = u
  have hu : Bounded u := by
    rw [← hs]
    exact .when (.parts h) _ _ fun _ h => .addF h ..
  exact .of_canHold hu (forall_mem_concat (forall_mem_filter hu.canHold _) (ch_txFrame_lt ..))

theorem Bounded.execTxPeriod (h : Bounded s) {entry : Fin 64} {u : State} (hu : execTxPeriod entry s = .next u) : Bounded u := by
  unfold Machine.execTxPeriod at hu
  refine .done ?_ hu
  split
  · exact h
  · exact .expire h _ _ _ fun _ h => .ite (.txForm (.setDue h ..) ..) (.setDue h ..)

theorem Bounded.execTxChangeCheck (h : Bounded s) {entry : Fin 64} {u : State} (hu : execTxChangeCheck entry s = .next u) :
    Bounded u := by
  unfold Machine.execTxChangeCheck at hu
  refine .done ?_ hu
  split
  · exact h
  · exact .expire h _ _ _ fun _ h => .ite (.txForm (.setDue h ..) ..) (.setDue h ..)

theorem Bounded.canHold_erase (h : Bounded s) (x : TxFrame) : Bounded { s with canHold := s.canHold.erase x } :=
  .of_canHold h (forall_mem_erase h.canHold x)

theorem Bounded.canSent (h : Bounded s) (ch : Nat) : Bounded (s.canSent ch) := by
  unfold State.canSent
  dsimp only
  split
  · exact h
  · refine .ite h ?_
    split
    · refine .ite (.openSlow ?_ ..) ?_
      all_goals exact .emit (.canErrors (.setF (.addF (.canSync (.parts h) ..) ..) ..) ..) ..
    · refine .canOffer (.canHold_erase (.ite (.openSlow ?_ ..) ?_) _) ..
      all_goals exact .emit (.canErrors (.setF (.addF (.canSync (.parts h) ..) ..) ..) ..) ..

theorem Bounded.execCanFrameSent (h : Bounded s) {channel : Fin 4} {t : Nat} {u : State} (hu : execCanFrameSent channel t s = .next u) :
    Bounded u :=
  .done (.canSent (.parts h) ..) hu

theorem Bounded.busOff (h : Bounded s) (ch : Nat) : Bounded (s.busOff ch) := by
  unfold State.busOff
  refine .ite ?_ (.ite (.noteLasting (.setFb (.ite (.addV ?_ ..) (.setV (.openSlow ?_ ..) ..)) ..) ..) (.setF (.ite (.addV ?_ ..) (.setV
    (.openSlow ?_ ..) ..)) ..))
  all_goals exact .raise (.addF (.noteEnds (.setF (.setF h ..) ..) ..) ..) ..

theorem Bounded.canError (h : Bounded s) (ch kind : Nat) : Bounded (s.canError ch kind) := by
  unfold State.canError
  exact .ite h (.ite (.ite (.busOff (.setFb h ..) ..) (.canErrors (.setF h ..) ..)) (.canErrors (.addF h ..) ..))

theorem Bounded.execCanError (h : Bounded s) {channel : Fin 4} {kind : Fin 3} {t : Nat} {u : State}
    (hu : execCanError channel kind t s = .next u) : Bounded u :=
  .done (.canError (.parts h) ..) hu

theorem Bounded.execBusRecover (h : Bounded s) {r : Req} {channel t : Nat} {u : State} (hu : execBusRecover r channel t s = .next u) :
    Bounded u :=
  .serveAt h hu

theorem Bounded.execBusRecovered (h : Bounded s) {channel : Fin 4} {t : Nat} {u : State} (hu : execBusRecovered channel t s = .next u) :
    Bounded u := by
  unfold Machine.execBusRecovered at hu
  exact .done (.ite (.note (.clearCause (.setF (.setFb (.setF (.setF (.parts h) ..) ..) ..) ..) ..) ..) h) hu

theorem Bounded.execClaimReceived (h : Bounded s) {channel : Fin 4} {frame : CanFrame} {t : Nat} {u : State}
    (hu : execClaimReceived channel frame t s = .next u) : Bounded u :=
  .done (.ite (.canReceive (.parts h) channel.isLt ..) h) hu

theorem Bounded.execAddressClaimed (h : Bounded s) {channel : Fin 4} {u : State} (hu : execAddressClaimed channel s = .next u) :
    Bounded u :=
  .done (.expire h _ _ _ fun _ h => .claimDone h ..) hu

theorem Bounded.execRead (h : Bounded s) {r : Req} {entries : List (Nat × Nat)} {t : Nat} {u : State}
    (hu : execRead r entries t s = .next u) : Bounded u :=
  .serveAt h hu

theorem Bounded.execWrite (h : Bounded s) {r : Req} {entries : List WEntry} {leaving : List Stage} {closing : List Nat} {t : Nat}
    {u : State} (hu : execWrite r entries leaving closing t s = .next u) : Bounded u :=
  .serveAt h hu

theorem Bounded.execChallenge (h : Bounded s) {r : Req} {t : Nat} {u : State} (hu : execChallenge r t s = .next u) : Bounded u :=
  .serveAt h hu

theorem Bounded.challengeExpiry (h : Bounded s) (who : Requester) : Bounded (s.challengeExpiry who) := by
  unfold State.challengeExpiry
  split
  · exact h
  · exact .parts (.setChallenges h ..)

theorem Bounded.execChallengeExpiry (h : Bounded s) {who : Requester} {u : State} (hu : execChallengeExpiry who s = .next u) :
    Bounded u :=
  .done (.challengeExpiry h ..) hu

theorem Bounded.execLockoutEnd (h : Bounded s) {u : State} (hu : execLockoutEnd s = .next u) : Bounded u :=
  .done (.expire h _ _ _ fun _ h => .setFb h ..) hu

theorem Bounded.execSummary (h : Bounded s) {r : Req} {t : Nat} {u : State} (hu : execSummary r t s = .next u) : Bounded u :=
  .serveAt h hu

theorem Bounded.execArm (h : Bounded s) {r : Req} {mask : Nat} {higher : List Stage} {t : Nat} {u : State}
    (hu : execArm r mask higher t s = .next u) : Bounded u :=
  .serveAt h hu

theorem Bounded.execRun (h : Bounded s) {r : Req} {mask : Nat} {higher : List Stage} {t : Nat} {u : State}
    (hu : execRun r mask higher t s = .next u) : Bounded u :=
  .serveAt h hu

theorem Bounded.execStop (h : Bounded s) {r : Req} {mask : Nat} {higher : List Stage} {t : Nat} {u : State}
    (hu : execStop r mask higher t s = .next u) : Bounded u :=
  .serveAt h hu

theorem Bounded.execWindowControlWrite (h : Bounded s) {r : Req} {window : Fin 5} {value : Word} {t : Nat} {u : State}
    (hu : execWindowControlWrite r window value t s = .next u) : Bounded u :=
  .writeOne h hu

theorem Bounded.execStagingWrite (h : Bounded s) {r : Req} {word : Fin 64} {value : Word} {t : Nat} {u : State}
    (hu : execStagingWrite r word value t s = .next u) : Bounded u :=
  .writeOne h hu

theorem Bounded.execAttnRelease (h : Bounded s) {u : State} (hu : execAttnRelease s = .next u) : Bounded u :=
  .done (.expire h _ _ _ fun _ h => h) hu

theorem Bounded.guardCorrection (h : Bounded s) (c limit : Nat) : Bounded (s.guardCorrection c limit) := .noteAt (.addF h ..) ..

theorem Bounded.moveEdge (h : Bounded s) {e : Edge} (he : e.ch < 64) (t : Nat) (gap : Bool) : Bounded (s.moveEdge e t gap) :=
  .of_edges h (forall_mem_concat (forall_mem_filter h.edges _) he)

theorem Bounded.driveOn (h : Bounded s) (c t : Nat) : Bounded (s.driveOn c t) := by
  unfold State.driveOn
  refine .ite (.clearCause (.clearCause (.setFb ?_ ..) ..) ..) ?_
  all_goals exact .close (.setOn (.setOn (.setV (.setFb (.setV (.setOn h ..) ..) ..) ..) ..) ..) ..

theorem Bounded.onEdge (h : Bounded s) {e : Edge} (he : e.ch < 64) : Bounded (s.onEdge e) := by
  have hdrop : Bounded { s with edges := s.edges.filter (· != e) } := .edges_filter h _
  unfold State.onEdge
  exact .ite (.addF (.setCommand hdrop ..) ..) (.ite (.setCommand hdrop ..) (.ite (.setOn (.setCommand hdrop ..) ..) (.ite (.guardCorrection
    (.moveEdge h he ..) ..) (.ite (.ite (.moveEdge h he ..) (.ite (.moveEdge h he ..) (.guardCorrection (.moveEdge h he ..) ..))) (.driveOn
    (.setOn (.setOn (.setCommand hdrop ..) ..) ..) ..)))))

theorem Bounded.offEdge (h : Bounded s) {e : Edge} (he : e.ch < 64) : Bounded (s.offEdge e) := by
  have hdrop : Bounded { s with edges := s.edges.filter (· != e) } := .edges_filter h _
  unfold State.offEdge
  refine .ite ?_ (.ite (.setOn (.setV (.setOn (.setV (.setOn (.setOn (.setOn (.setCommand hdrop ..) ..) ..) ..) ..) ..) ..) ..) (.setOn
    (.setOn (.setCommand hdrop ..) ..) ..))
  dsimp only
  generalize hs : State.moveEdge _ _ _ _ = u
  have hu : Bounded u := by
    rw [← hs]
    exact .moveEdge h he ..
  have hlater {k : Edge → Edge} (hk : ∀ x, (k x).ch = x.ch) : Bounded { u with edges := u.edges.map k } :=
    .of_edges hu (forall_mem_map hu.edges fun x hx => (hk x).trans_lt hx)
  refine .ite (.addF (hlater ?_) ..) (.ite (hlater ?_) (.guardCorrection (hlater ?_) ..))
  all_goals
    intro x
    split <;> rfl

/-- The first edge of a channel is one of those scheduled for it. -/
theorem firstEdge_mem {c : Nat} {e : Edge} (he : s.firstEdge c = some e) : e ∈ s.edges := by
  have hmem : ∀ x ∈ s.firstEdge c, x ∈ s.edges := by
    refine List.foldlRecOn (motive := fun a : Option Edge => ∀ x ∈ a, x ∈ s.edges) _ _ (fun _ hx => nomatch hx) ?_
    intro a ha y hy x hx
    have hy := List.mem_of_mem_filter hy
    cases a with
    | none => exact Option.some.inj hx ▸ hy
    | some first =>
      dsimp only at hx
      split at hx
      · exact Option.some.inj hx ▸ hy
      · exact ha x hx
  exact hmem e he

theorem Bounded.commandEdge (h : Bounded s) (c : Nat) : Bounded (s.commandEdge c) := by
  unfold State.commandEdge
  split
  · exact h
  next e hfirst =>
    have he : e.ch < 64 := h.edges e (firstEdge_mem hfirst)
    refine .ite (.onEdge (.parts h) he) (.ite (.edges_filter (.parts h) _) (.ite (.moveEdge (.parts h) he ..) ?_))
    exact .ite (.onEdge (.parts h) he) (.offEdge (.parts h) he)

theorem Bounded.execCommandEdge (h : Bounded s) {channel : Fin 64} {u : State} (hu : execCommandEdge channel s = .next u) : Bounded u :=
  .done (.commandEdge h ..) hu

theorem Bounded.execGateReadback (h : Bounded s) {channel : Fin 64} {gate : GateSeen} {t : Nat} {u : State}
    (hu : execGateReadback channel gate t s = .next u) : Bounded u :=
  .done (.gateReadback (.parts h) channel.isLt ..) hu

theorem Bounded.execSoftTurnOffDone (h : Bounded s) {channel : Fin 64} {u : State} (hu : execSoftTurnOffDone channel s = .next u) :
    Bounded u := by
  have hleg : channel.val / 2 < 32 := by omega
  exact .done (.ite (.when (.setFb (.setFb h ..) ..) _ _ fun _ h => .ascTurnOn h hleg) h) hu

theorem Bounded.terminateEdges (h : Bounded s) {n : Nat} (hn : n < 32) (m : Nat) (r on : Nat) (e nx : Nat) :
    Bounded (s.terminateEdges n m r on e nx) := by
  unfold State.terminateEdges
  exact .ite (.setV (.levelChange (.levelChange (.when (.edges_filter h _) _ _ fun _ h => .setV h ..) hn ..) hn ..) ..) (.ite (.setV
    (.levelChange (.edges_filter h _) hn ..) ..) h)

theorem Bounded.terminate (h : Bounded s) {n : Nat} (hn : n < 32) : Bounded (s.terminate n) := by
  unfold State.terminate
  refine .ite h (.ite h (.ite (.when (.terminateEdges ?_ hn ..) _ _ fun _ h => .middleOf h ..) ?_))
  all_goals exact .when (.setV (.setOn (.setDue (.setV h ..) ..) ..) ..) _ _ fun _ h => .ite (.startOf h ..) (.setDue (.setV h ..) ..)

theorem Bounded.execTerminateCondition (h : Bounded s) {leg : Fin 32} {conv : List Int} {t : Nat} {u : State}
    (hu : execTerminateCondition leg conv t s = .next u) : Bounded u :=
  .done (.ite (.terminate (.compared (.parts h) ..) leg.isLt) (.compared (.parts h) ..)) hu

theorem Bounded.execExcitationPeak (h : Bounded s) {resolver : Fin 2} {conv : List Conv} {u : State}
    (hu : execExcitationPeak resolver conv s = .next u) : Bounded u := by
  have hcore : resolver.val < 4 := by omega
  exact .done (.expire h _ _ _ fun _ h => .coreEvent (.setDue (.setOn h ..) ..) hcore ..) hu

theorem Bounded.execHoldRestoration (h : Bounded s) {u : State} (hu : execHoldRestoration s = .next u) : Bounded u :=
  .done (.each (.parts h) _ _ fun _ h _ _ => .clearCause h ..) hu

theorem Bounded.execSupplyHeld (h : Bounded s) {channel : Fin 8} {u : State} (hu : execSupplyHeld channel s = .next u) : Bounded u :=
  .fbDone (.expire h _ _ _ fun _ h => .fbClear (.setFb h ..) ..) hu

theorem Bounded.execHallCodeValid (h : Bounded s) {channel : Fin 8} {pins : List PinChange} {u : State}
    (hu : execHallCodeValid channel pins s = .next u) : Bounded u :=
  .fbDone (.fbExpire (.fbPins h channel.isLt ..) _ _ _ _ fun _ h => .fbClear h ..) hu

theorem Bounded.execFlapWindowEnd (h : Bounded s) {port : Fin 4} {u : State} (hu : execFlapWindowEnd port s = .next u) : Bounded u :=
  .done (.expire h _ _ _ fun _ h => .setF h ..) hu

theorem Bounded.execAuthFailWindowEnd (h : Bounded s) {u : State} (hu : execAuthFailWindowEnd s = .next u) : Bounded u :=
  .done (.expire h _ _ _ fun _ h => .setF h ..) hu

theorem Bounded.execCauseAbsent1ms (h : Bounded s) {cond : Fin 7} {u : State} (hu : execCauseAbsent1ms cond s = .next u) : Bounded u := by
  unfold Machine.execCauseAbsent1ms at hu
  exact .done (.expire h _ _ _ fun _ h => .ite (.setFb (.clearCause h ..) ..) (.ite (.setFb (.clearCause h ..) ..) (.chgSync
    (.clearCause h ..)))) hu

theorem Bounded.exec (h : Bounded s) {i : Instr} {u : State} (hu : exec i s = .next u) : Bounded u := by
  unfold Machine.exec at hu
  split at hu
  · exact .execVauxValid h hu
  · exact .execVauxInvalid h hu
  · exact .execHoldupEnd h hu
  · exact .execWake h hu
  · exact .execCanWakePattern h hu
  · exact .execFabricWakeSignal h hu
  · exact .execShipRequest h hu
  · exact .execSleepRequest h hu
  · exact .execSleepIdleExpired h hu
  · exact .execSleepEntered h hu
  · exact .execShipEntered h hu
  · exact .execInjectionTestDone h hu
  · exact .execMemoryTestDone h hu
  · exact .execLogRebuild h hu
  · exact .execKeyReadDone h hu
  · exact .execImageVerified h hu
  · exact .execImageApplied h hu
  · exact .execGateSupplyGroup h hu
  · exact .execReadyReached h hu
  · exact .execKeyCheckPeriod h hu
  · exact .execKeyWrite h hu
  · exact .execKeyWriteStepEnd h hu
  · exact .execRestart h hu
  · exact .execRestartBegin h hu
  · exact .execServiceEnter h hu
  · exact .execServiceExit h hu
  · exact .execDebugAction h hu
  · exact .execMissingCycle h hu
  · exact .execHoldoverExpired h hu
  · exact .execXtalFail h hu
  · exact .execPllUnlock h hu
  · exact .execClockCount h hu
  · exact .execPllBackupLock h hu
  · exact .execCorrectionLimit h hu
  · exact .execInterconnectGrant h hu
  · exact .execScrubBlock h hu
  · exact .execSliceSwap h hu
  · exact .execSliceCalDone h hu
  · exact .execCalStale h hu
  · exact .execCarrierStart h hu
  · exact .execPeriodStart h hu
  · exact .execPeriodMiddle h hu
  · exact .execSubstituteEvent h hu
  · exact .execInputOverrange h hu
  · exact .execDmaBurstWritten h hu
  · exact .execDmaOverflow h hu
  · exact .execBufferFreezeWrite h hu
  · exact .execBufferFrozen h hu
  · exact .execHkRound h hu
  · exact .execThermalRound h hu
  · exact .execThermalRelease h hu
  · exact .execEncoderEdge h hu
  · exact .execIndexQualified h hu
  · exact .execHallSectorChange h hu
  · exact .execHallInvalid h hu
  · exact .execWireFault h hu
  · exact .execWireFaultCleared h hu
  · exact .execSupplyFault h hu
  · exact .execSupplyRetry h hu
  · exact .execResWindowEnd h hu
  · exact .execExcPeriod h hu
  · exact .execSsiWindow h hu
  · exact .execSsiFrameDone h hu
  · exact .execSpeedWindowEnd h hu
  · exact .execSpeedZeroTime h hu
  · exact .execSlotTrigger h hu
  · exact .execSlotRunStart h hu
  · exact .execSlotRunEnd h hu
  · exact .execFollowingError h hu
  · exact .execSpLost h hu
  · exact .execSetpointWrite h hu
  · exact .execOpenLoop h hu
  · exact .execCloseLoop h hu
  · exact .execCommitComplete h hu
  · exact .execHostCommit h hu
  · exact .execLegReload h hu
  · exact .execPeriodWrite h hu
  · exact .execDllUnlock h hu
  · exact .execDllRelocked h hu
  · exact .execSyncInEdge h hu
  · exact .execSyncInTimeout h hu
  · exact .execCbcTrip h hu
  · exact .execTripWindowEnd h hu
  · exact .execSelfCheckFail h hu
  · exact .execWordMismatch h hu
  · exact .execReadbackContradiction h hu
  · exact .execDecisionTimeout h hu
  · exact .execHandoverGapEnd h hu
  · exact .execInterlockFault h hu
  · exact .execSelfTestDone h hu
  · exact .execSwitchBack h hu
  · exact .execSyncCopyDone h hu
  · exact .execQualifyEnd h hu
  · exact .execSwitchBackHandover h hu
  · exact .execDesatTrip h hu
  · exact .execShortTrip h hu
  · exact .execGateUvlo h hu
  · exact .execUvloRelease h hu
  · exact .execStatusFrame h hu
  · exact .execLinkFault h hu
  · exact .execCommandPathLost h hu
  · exact .execSkewMeasure h hu
  · exact .execThermistorMeasure h hu
  · exact .execEnableRemoved h hu
  · exact .execStaggerSlot h hu
  · exact .execRegulatorUpdate h hu
  · exact .execSoftStartWindowEnd h hu
  · exact .execHiccupWaitEnd h hu
  · exact .execShedTimer h hu
  · exact .execShedBlockEnd h hu
  · exact .execLinkUv h hu
  · exact .execPhaseImbalance h hu
  · exact .execSyncFree h hu
  · exact .execPowerPathEval h hu
  · exact .execHalfCycleEnd h hu
  · exact .execNoZeroCrossing h hu
  · exact .execSourceQualified h hu
  · exact .execHandbackDone h hu
  · exact .execStopTakeoverTimeout h hu
  · exact .execChargeEval h hu
  · exact .execChargeStart h hu
  · exact .execChargeStop h hu
  · exact .execBattOc h hu
  · exact .execArrived h hu
  · exact .execActTimeout h hu
  · exact .execActBlocked h hu
  · exact .execHoldOvercurrent h hu
  · exact .execCompareWrite h hu
  · exact .execCompareCfgWrite h hu
  · exact .execStoHwRequest h hu
  · exact .execStoHwRelease h hu
  · exact .execSbcHwOpen h hu
  · exact .execSafetySample h hu
  · exact .execStoDiscrepancy h hu
  · exact .execDiscrepancyCleared h hu
  · exact .execPathDisagree h hu
  · exact .execStoAutoTest h hu
  · exact .execStoGroupTestEnd h hu
  · exact .execStoTestDue h hu
  · exact .execBrakeCommandWrite h hu
  · exact .execBrakeSwitchCheck h hu
  · exact .execBrakeAppliedCheck h hu
  · exact .execBrakeTest h hu
  · exact .execBrakeTestPhaseEnd h hu
  · exact .execBrakeTestDue h hu
  · exact .execContactorCommandWrite h hu
  · exact .execContactorCheck h hu
  · exact .execPrechargeWeldCheck h hu
  · exact .execPrechargeTimeout h hu
  · exact .execContactorOpenDelay h hu
  · exact .execSMismatch h hu
  · exact .execSWatchdog h hu
  · exact .execRepeatWindowEnd h hu
  · exact .execWarmRestartDone h hu
  · exact .execHoldExpired h hu
  · exact .execVMismatch h hu
  · exact .execVWatchdog h hu
  · exact .execVRestartDone h hu
  · exact .execSplitV h hu
  · exact .execSplitVDone h hu
  · exact .execJoinV h hu
  · exact .execJoinVDone h hu
  · exact .execRecordWrite h hu
  · exact .execTokenRefill h hu
  · exact .execLogRead h hu
  · exact .execClearLog h hu
  · exact .execClearDone h hu
  · exact .execCursorWrite h hu
  · exact .execWindowRead h hu
  · exact .execPhyLinkUp h hu
  · exact .execPhyLinkLoss h hu
  · exact .execLinkCheckSend h hu
  · exact .execLinkCheck h hu
  · exact .execLinkTimeout h hu
  · exact .execErrorWindowEnd h hu
  · exact .execHoldOffEnd h hu
  · exact .execFrameReceived h hu
  · exact .execTopology h hu
  · exact .execWagglePeriodEnd h hu
  · exact .execWaggle h hu
  · exact .execWaggleSettle h hu
  · exact .execWaggleReply h hu
  · exact .execReplyWindowEnd h hu
  · exact .execAddressRefused h hu
  · exact .execRootLost h hu
  · exact .execSyncReceived h hu
  · exact .execPdelaySend h hu
  · exact .execPdelayReq h hu
  · exact .execPdelayResp h hu
  · exact .execMasterAssumed h hu
  · exact .execCycleStart h hu
  · exact .execPublish h hu
  · exact .execSignal h hu
  · exact .execDuplicateStateExpiry h hu
  · exact .execServiceReq h hu
  · exact .execCanFrameReceived h hu
  · exact .execCanQueueTake h hu
  · exact .execCanAck h hu
  · exact .execAckLapsed h hu
  · exact .execMapEntry h hu
  · exact .execTxPeriod h hu
  · exact .execTxChangeCheck h hu
  · exact .execCanFrameSent h hu
  · exact .execCanError h hu
  · exact .execBusRecover h hu
  · exact .execBusRecovered h hu
  · exact .execClaimReceived h hu
  · exact .execAddressClaimed h hu
  · exact .execRead h hu
  · exact .execWrite h hu
  · exact .execChallenge h hu
  · exact .execChallengeExpiry h hu
  · exact .execLockoutEnd h hu
  · exact .execSummary h hu
  · exact .execArm h hu
  · exact .execRun h hu
  · exact .execStop h hu
  · exact .execWindowControlWrite h hu
  · exact .execStagingWrite h hu
  · exact .execAttnRelease h hu
  · exact .execCommandEdge h hu
  · exact .execGateReadback h hu
  · exact .execSoftTurnOffDone h hu
  · exact .execTerminateCondition h hu
  · exact .execExcitationPeak h hu
  · exact .execHoldRestoration h hu
  · exact .execSupplyHeld h hu
  · exact .execHallCodeValid h hu
  · exact .execFlapWindowEnd h hu
  · exact .execAuthFailWindowEnd h hu
  · exact .execCauseAbsent1ms h hu

theorem Bounded.step (h : Bounded s) {u : State} (hu : step s = .next u) : Bounded u := by
  unfold Machine.step at hu
  split at hu
  · injection hu with hu
    exact hu ▸ .idle h
  · exact .exec (.parts h) hu

end Sys2Proof.Machine.State
end

section
open Sys2Proof Sys2Proof.Machine Sys2Proof.Machine.State
/-- Settles O46: every function of the model keeps the queues' entries within their units, so the command the step carries out does
(`Bounded.step`). -/
theorem queueBounds : Obligations.QueueBounds := by
  unfold Obligations.QueueBounds
  intro s u hs hu
  exact bounded_iff.2 (Bounded.step (bounded_iff.1 hs) hu)
end
